-- ==== Sys2Proof/Word.lean ====
section
/-!
DEFINITION. The plain words of the model. Register contents, measurements and counts are natural numbers that the
operations reduce to their width; a bit of a status word is a bit of that number.
-/

namespace Sys2Proof

/-- A byte of a frame, a key or a page. -/
abbrev Byte := BitVec 8

/-- A signal number: class in bits 23–18, instance in bits 17–0 (R11 of spec/00_scope.md). -/
abbrev Signal := Nat

/-- An absolute time in timebase ticks of 10 ns (R21 of spec/01_architecture.md). -/
abbrev Tick := Nat

end Sys2Proof
end

