-- ==== Sys2Proof/Syntax.lean ====
section
/-!
DEFINITION. The commands of the SW9600: one constructor per row of spec/opcode_table.json, with the row's operands.
A measured quantity that the command turns on (a voltage, a current, a temperature) is an operand.
-/

namespace Sys2Proof

/-- One frame of a segmented SDO transfer (R53): the initiate request, or a segment with its toggle bit, its bytes and
whether it is the last. An upload's segment request carries the toggle only. -/
inductive SdoFrame where
  | initiate (index : BitVec 16) (sub : BitVec 8) (size : Option (BitVec 32))
  | segment (toggle : Bool) (last : Bool) (data : List Byte)
  deriving DecidableEq, Repr

/-- One frame of a block SDO transfer (R53): the initiate request with the block size and whether a CRC is used, a
segment or an acknowledgement with its sequence number, and the end of the transfer with the CRC carried. -/
inductive SdoBlockFrame where
  | initiate (index : BitVec 16) (sub : BitVec 8) (size : Option (BitVec 32)) (blockSize : BitVec 8) (crc : Bool)
  | segment (seqno : BitVec 8) (last : Bool) (data : List Byte)
  | ack (seqno : BitVec 8) (blockSize : BitVec 8)
  | end_ (crcOk : Bool)
  deriving DecidableEq, Repr

/-- The fields every chain frame carries (R68, R69): the sender, its FRESHNESS and its MAC. -/
structure ChainHeader where
  address : Fin 17
  fresh : BitVec 48
  mac : BitVec 64
  deriving DecidableEq, Repr

/-- A presence frame received (R68). -/
structure ChainPresence where
  header : ChainHeader
  addrState : BitVec 8
  idTag : BitVec 32
  capDigest : BitVec 32
  budget : BitVec 128
  deriving DecidableEq, Repr

/-- The content of a capability response (R72). -/
structure CapabilityRecord where
  serial : BitVec 128
  stepping : BitVec 8
  grade : BitVec 8
  mast : BitVec 32
  ensign : BitVec 32
  hoist : BitVec 32
  node : BitVec 32
  epoch : BitVec 16
  schema : BitVec 16
  capIds : List (BitVec 16)
  maxShare : BitVec 16
  deriving DecidableEq, Repr

/-- A reply received in a bunting frame's window (R258): its slot, whether its RCRC holds, and its fields. -/
structure BuntingReply where
  slot : Fin 16
  ok : Bool
  node : BitVec 12
  rtype : BitVec 4
  data : BitVec 20
  deriving DecidableEq, Repr

/-- A frame as one node receives it where noise has changed it (R253): its position, and the symbols of the header and of its own
96 bits, each by the time the line is high and the time it is low after it, in sub-slots of 2.5 ns. -/
structure BuntingLine where
  position : BitVec 12
  symbols : List (Nat × Nat)
  deriving DecidableEq, Repr

/-- What is received with a bunting data frame: the replies of its window (R258), and the frame as received by the nodes that had
it changed (R253). -/
structure BuntingHeard where
  replies : List BuntingReply
  lines : List BuntingLine
  deriving DecidableEq, Repr

/-- A bunting command frame (R265): its port, and the frame as received by the nodes that had it changed (R253). -/
structure BuntingCommand where
  p : Fin 8
  lines : List BuntingLine
  deriving DecidableEq, Repr

/-- A two-step Sync with its Follow_Up (R73, R74): the host's timestamp in ns, and the logarithm of its interval in seconds. -/
structure SyncMessage where
  origin : BitVec 64
  interval : BitVec 8
  deriving DecidableEq, Repr

/-- What a VDS comparator sees beside VDS (R143): VGS and V_SUP in mV. -/
structure GateVoltages where
  vgs : Nat
  vsup : Nat
  deriving DecidableEq, Repr

/-- A gate's ramp that has not reached its end (R145): the channel and the time since its turn-on, in 10 ns. -/
structure GateRamp where
  n : Fin 24
  ton : Nat
  deriving DecidableEq, Repr

/-- Samples of a coil at 1 MS/s (R194, R195), in mV or mA, and the time of the first in µs after the window's origin. -/
structure CoilSamples where
  t0 : Nat
  samples : List Int
  deriving DecidableEq, Repr

/-- A comparator level and for how many ticks it has held (R209). -/
structure HeldLevel where
  level : Bool
  held : Nat
  deriving DecidableEq, Repr

/-- What a discovery found (R263): the four count answers, the round trip in 10 ns, and per position the capability and
the version reply; `none` where a reply is missing or bad twice. -/
structure BuntingDiscovery where
  counts : List (Option (BitVec 12))
  roundTrip : BitVec 16
  capabilities : List (Option (BitVec 20))
  versions : List (Option (BitVec 16))
  deriving DecidableEq, Repr

/-- A CAN frame (R311): its identifier and format, its bits, its DLC and the data bytes that follow from the DLC. -/
structure CanFrame where
  ext : Bool
  id : BitVec 29
  fdf : Bool
  brs : Bool
  esi : Bool
  rtr : Bool
  dlc : Fin 16
  data : List Byte
  deriving DecidableEq, Repr

/-- A word on the die link (R15): a command to the Hoist die, or a measurement or an input event to the Fly die. -/
inductive LinkWord where
  | command (sig : BitVec 24) (value : BitVec 16)
  | measurement (instance_ : Fin 256) (value : Int)
  | input (c : Fin 16) (level : Bool)
  deriving DecidableEq, Repr

/-- What a token answers in an exchange (R400, R402): its identity frame, none where the line or its CRC failed; the delay
from the final edge to the first falling edge, or to first modulation, in 0.1 ns, none where nothing came; the response;
and a coding violation in the response. -/
structure BurgeeAnswer where
  id : Option (BitVec 64)
  delay : Option (BitVec 32)
  response : BitVec 128
  violation : Bool
  deriving DecidableEq, Repr

/-- What the retained index shows at the start of the ledger's link (R429). `pages` is the usable page area. -/
inductive StoreFound where
  | none
  | blank (pages : BitVec 64)
  | own (pages : BitVec 64) (head : BitVec 64)
  | foreign (pages : BitVec 64)
  deriving DecidableEq, Repr

/-- The commands, in the order of the table. `sess` is the handle of the session a request is made in, 0 for none. -/
inductive Instr where
  /-- R15. A command, measurement or input word arrives over a die-link lane and is applied exactly once; a duplicate from the other lane is discarded. -/
  | dieLinkWord (lane : Fin 2) (seq : BitVec 32) (w : LinkWord)
  /-- R16. A die-link lane fails and all traffic and the forwarded clock move to the surviving lane within 20 µs. -/
  | laneFailover (lane : Fin 2)
  /-- R463. Once per second a failed lane is tested with 1,024 pattern words; after 16 passes it returns to service, or it is held out after three failures in an hour. -/
  | laneRetest (lane : Fin 2) (pass : Bool)
  /-- R22. The PLL reports lock after 64 reference periods within ±0.1 %, and the timebase starts. -/
  | pllLock
  /-- R22. The PLL declares loss of lock; the islands stop, the hoist safe state is applied, PLL_UNLOCK is recorded and the Fly die restarts from boot. -/
  | pllUnlock
  /-- R22. The Hoist die detects, from its RC oscillator, that the forwarded clock has stopped on both lanes and applies the hoist safe state. -/
  | forwardedClockLoss
  /-- R23. The PLL has not locked within 2 ms of Fly reset release; the Fly die stays in boot and a new attempt follows every 100 ms. -/
  | pllLockTimeout
  /-- R24. In low-frequency mode, at each 32.768 kHz period the timebase adds 3,051 or 3,052 ticks through the fractional accumulator. -/
  | lfPeriod
  /-- R49. A halyard request frame is received, checked for MAC, freshness and repeated TRANSACTION, and its 1–32 commands are queued and answered in one response. -/
  | dictRequestFrame (frame : List Byte)
  /-- R49. Opcode 0x01 reads one object after the checks of R40. -/
  | dictRead (sess : Nat) (index : BitVec 16) (sub : BitVec 8)
  /-- R49. Opcode 0x02 writes one object after the checks of R40. -/
  | dictWrite (sess : Nat) (index : BitVec 16) (sub : BitVec 8) (data : List Byte)
  /-- R56. Opcode 0x03 reads up to 1,024 bytes of a DOMAIN at the given offset. -/
  | domainRead (sess : Nat) (index : BitVec 16) (offset : BitVec 64) (length : BitVec 16)
  /-- R56. Opcode 0x04 writes up to 1,024 bytes of a DOMAIN, taking or refreshing the write hold and checking alignment. -/
  | domainWrite (sess : Nat) (index : BitVec 16) (offset : BitVec 64) (data : List Byte)
  /-- R49. Opcode 0x05 returns subindices 00 to the highest of a record, concatenated, or fails as a whole. -/
  | readRecord (sess : Nat) (index : BitVec 16)
  /-- R53. An expedited SDO download request is served for the objects R54 allows. -/
  | sdoExpeditedDownload (c : Fin 8) (index : BitVec 16) (sub : BitVec 8) (data : List Byte)
  /-- R53. An expedited SDO upload request is served for the objects R54 allows. -/
  | sdoExpeditedUpload (c : Fin 8) (index : BitVec 16) (sub : BitVec 8)
  /-- R53. A segmented SDO download segment or initiate is received and processed. -/
  | sdoSegmentedDownload (c : Fin 8) (frame : SdoFrame)
  /-- R53. A segmented SDO upload segment or initiate is received and answered. -/
  | sdoSegmentedUpload (c : Fin 8) (frame : SdoFrame)
  /-- R53. A block SDO download of 1–127 segments per block, with or without CRC, is processed. -/
  | sdoBlockDownload (c : Fin 8) (frame : SdoBlockFrame)
  /-- R53. A block SDO upload is served, 1–127 segments per block. -/
  | sdoBlockUpload (c : Fin 8) (frame : SdoBlockFrame)
  /-- R53. An SDO network indication is answered with protocol error. -/
  | sdoNetworkIndication (c : Fin 8)
  /-- R55. A running SDO transfer whose next segment or block is missing for 1 s is aborted with 0x05040000. -/
  | sdoTransferTimeout (c : Fin 8)
  /-- R42. A write to a cfg object enters or replaces its value in the session's pending set, or fails with no resource. -/
  | cfgWrite (sess : Nat) (index : BitVec 16) (sub : BitVec 8) (data : List Byte)
  /-- R40. A write to an object without a row of its own is checked in the order of R40 and applied. -/
  | registerWrite (sess : Nat) (index : BitVec 16) (sub : BitVec 8) (data : List Byte)
  /-- R44. COMMIT_CMD 0x01 is tested for conflict and, if accepted, starts validation of the session's pending set. -/
  | commit (sess : Nat)
  /-- R42. COMMIT_CMD 0x02 discards the writing session's pending set. -/
  | discardPendingSet (sess : Nat)
  /-- R43. A validated commit takes effect between two reflex sweeps, or fails invalid and applies nothing. -/
  | commitApply
  /-- R45. Copies A, B and C and their commit records hold the new generation; COMMIT_STATUS reads 3. -/
  | commitDurable (stored : Bool)
  /-- R56. A write of DOM_OFFSET sets the session's SDO position, and the value all ones releases the write hold. -/
  | domOffsetWrite (sess : Nat) (index : BitVec 16) (offset : BitVec 64)
  /-- R56. A DOMAIN write hold ends after 10 s without a write from its holder. -/
  | domainHoldTimeout (index : BitVec 16)
  /-- R61. A valid RX process-image frame is checked and all its values are applied together at one sweep boundary. -/
  | piRxFrame (m : Fin 64) (sess : Nat) (freshness : BitVec 32) (data : List Byte) (mac : BitVec 128)
  /-- R61. At a TX map's period, or on change, its values are sampled at one sweep boundary and the frame is sent. -/
  | piTxPeriod (m : Fin 64)
  /-- R61. PI_TIMEOUT passes with no valid frame and STALE is set. -/
  | piRxTimeout (m : Fin 64)
  /-- R66. Every 5 ms a unit with an address sends a burst of address + 1 pulses on ADDR_OUT. -/
  | addrBurstSend
  /-- R66. Two identical consecutive bursts, or 10 ms of high, on ADDR_IN are accepted as an address code. -/
  | addrCodeAccept (heldHigh : Bool) (pulses : Nat)
  /-- R67. ADDR_WAIT ends without a code, and the unit takes its stored address or none. -/
  | addrWaitExpiry
  /-- R71. A write of ADDR_CONFIRM confirms a pending unit, gives an address to an unaddressed one, or re-announces a confirmed one. -/
  | addrConfirm (sess : Nat) (a : BitVec 8)
  /-- R127. At each 10 ms boundary the unit builds and sends its presence frame, including its loan decisions. -/
  | presenceSend
  /-- R70. A chain frame from a partner is checked and the registry entry, loans and conflict state follow the transition table. -/
  | presenceReceive (f : ChainPresence)
  /-- R70. No valid presence from an address for PRESENCE_TIMEOUT × 10 ms marks its entry detached. -/
  | presenceTimeout (a : Fin 17)
  /-- R72. A capability request naming this unit is received and answered within 50 ms with its capability response. -/
  | capabilityRequest (f : ChainHeader) (named : Fin 17)
  /-- R72. A partner's capability response is received and stored in its registry entry. -/
  | capabilityResponse (f : ChainHeader) (r : CapabilityRecord)
  /-- R72. A missing capability response is requested again after 100 ms, and after three tries the entry is marked CAP_UNKNOWN. -/
  | capabilityRetry (a : Fin 17)
  /-- R65. PLCA status stays false beyond the invalid-beacon time; EV1458 is reported and the unit queues its frames. -/
  | plcaBeaconLoss
  /-- R77. The halyard link goes down or up and EV1466 is posted. -/
  | halyardLinkChange (up : Bool)
  /-- R74. A two-step Sync with its Follow_Up from the host updates the offset, rate ratio and SYNC_STATE. -/
  | syncReceive (rx : BitVec 64) (sync : SyncMessage)
  /-- R73. An Announce message from the host is received. -/
  | announceReceive
  /-- R73. At each PDELAY_INTERVAL the unit sends Pdelay_Req. -/
  | pdelayReqSend
  /-- R73. Pdelay_Resp and its follow-up are received and PATH_DELAY is updated. -/
  | pdelayRespReceive (received : BitVec 64) (sent : BitVec 64) (arrived : BitVec 64)
  /-- R74. No Sync for 3 intervals moves a locked unit to holdover. -/
  | syncMissed
  /-- R74. No Sync for HOLDOVER_LIMIT moves the unit from holdover to free. -/
  | holdoverExpiry
  /-- R76. A queued event notice is sent on the halyard, or dropped and counted when the queue of 512 is full. -/
  | noticeSend
  /-- R84. HOST_COMMAND op 0x01 claims a signal in class H at the end of the next segment. -/
  | hostClaim (sess : Nat) (sig : BitVec 24) (value : BitVec 16)
  /-- R84. HOST_COMMAND op 0x02 empties the H slot of one signal. -/
  | hostRelease (sess : Nat) (sig : BitVec 24)
  /-- R84. HOST_COMMAND op 0x03 empties every H slot of the unit. -/
  | hostReleaseAll (sess : Nat)
  /-- R84. HOST_COMMAND op 0x04, from a Service session, empties the A and C slots of one signal. -/
  | hostEmptyRuleSlots (sess : Nat) (sig : BitVec 24)
  /-- R85. A write of QUERY_SIGNAL selects the signal whose slots the query members report as of the last completed sweep. -/
  | ownerQuery (sess : Nat) (sig : BitVec 32)
  /-- R86. A write to HB_COUNTER is accepted and, if it differs from the last value, is a valid heartbeat that moves the supervisor. -/
  | heartbeat (sess : Nat) (value : BitVec 16)
  /-- R87. HB_TIMEOUT passes without a valid heartbeat; H slots are emptied, SAFE claims placed where required, and HB_LOSS recorded. -/
  | heartbeatLoss
  /-- R87. A write of 0xA5 to SAFE_RELEASE in state resumed empties every SAFE slot in one segment. -/
  | safeRelease (sess : Nat) (value : BitVec 8)
  /-- R92. No feed word arrives for HOIST_WDG_TIMEOUT; every output is commanded to its hoist safe state and bunting ports stop. -/
  | hoistWatchdogTrip
  /-- R94. After a Hoist-initiated reset of 1 ms the Hoist die releases the Fly die, which boots again. -/
  | flyResetRelease
  /-- R101. One segment of a sweep publishes inputs and events, evaluates its rules on both lanes, compares, applies actions, resolves ownership and writes ledger records. -/
  | reflexSegment (sweepNs : Nat)
  /-- R114. A request's t_rise passes and its slope leaves ΣS. -/
  | slopeExpiry
  /-- R113. An entry's present value steps down at a multiple of its τ. -/
  | presentValueStep
  /-- R115. A dissipation entry falls to P_set 100 ms after admission. -/
  | dissipationStep
  /-- R121. A request that has waited WAIT_WARN raises EV1216 once. -/
  | waitWarnExpiry
  /-- R123. VBAT stays below SAG_C_LEVEL for SAG_TIME; class C outputs are shed. -/
  | sagCEnter (vbat : Nat)
  /-- R123. VBAT stays below SAG_A_LEVEL for SAG_TIME; class A and C outputs are shed. -/
  | sagAEnter (vbat : Nat)
  /-- R124. VBAT stays at or above its level plus SAG_HYST for RECOVER_TIME; shed outputs are resubmitted. -/
  | sagEnd (vbat : Nat)
  /-- R130. A lender hears no presence from its borrower for PRESENCE_TIMEOUT × 10 ms and freezes the loan. -/
  | loanFreeze
  /-- R130. A write of the borrower's address to LOAN_RELEASE ends a frozen loan at once. -/
  | loanRelease (sess : Nat) (address : BitVec 8)
  /-- R144. VDS exceeds the threshold in force for 0.5 µs; soft turn-off starts and the trip is reported. -/
  | gdTrip (n : Fin 24) (vds : Nat) (at_ : GateVoltages)
  /-- R145. A turn-on does not reach VPLAT + ENV_SPAN within RAMP_MAX; the gate is turned off with a gate fault of cause 1. -/
  | gdRampTimeout (ramp : GateRamp)
  /-- R145. VGS reaches the end of the ramp within 50 ns; the gate is taken as disconnected and turned off. -/
  | gdGateOpen (n : Fin 24) (ton : Nat)
  /-- R141. The other gate of a half-bridge pair fails to fall below 1.0 V within RAMP_MAX and both gates are turned off. -/
  | gdInterlockFault (k : Fin 12)
  /-- R146. The soft-start ramp reaches the commanded value and offset 6 is posted. -/
  | gdSoftStartEnd (n : Fin 24)
  /-- R149. I_est stays below OL_CURRENT for OL_TIME in the on state, or returns above it, and OPEN_LOAD changes. -/
  | gdOpenLoad (n : Fin 24) (iEst : Nat)
  /-- R150. Every OFF_DIAG_PERIOD an off channel is biased, read and judged; three agreeing checks report. -/
  | gdOffDiagCheck (n : Fin 24) (mv : Nat) (vbat : Nat)
  /-- R151. Every millisecond the junction model is updated; overtemperature turns the channel off and cooling resubmits it. -/
  | gdThermalUpdate (n : Fin 24)
  /-- R152. VCP − VBAT stays below 7.0 V for 2 µs and every high-side and upper channel is turned off. -/
  | vcpLow (gap : Nat)
  /-- R152. VCP − VBAT stays at or above 8.0 V for 1 ms and the commanded values are resubmitted. -/
  | vcpRestored (gap : Nat)
  /-- R152. DSb reads below VBAT − 3 V on three samples and the bank's high-side channels are turned off. -/
  | drainRailAbsent (b : Fin 4) (ds : Nat) (vbat : Nat)
  /-- R152. DSb stays at or above VBAT − 2 V for 10 ms and the bank's channels are resubmitted. -/
  | drainRailRestored (b : Fin 4) (ds : Nat) (vbat : Nat)
  /-- R153. A retry delay expires and the commanded value is resubmitted, or the channel latches after RETRY_COUNT. -/
  | gdRetry (n : Fin 24)
  /-- R153. A channel runs RETRY_RESET without fault and its retry count returns to 0. -/
  | retryResetExpiry (sig : BitVec 24)
  /-- R158. The first fault-free turn-on after a clear, restart or retry posts offset 7. -/
  | gdRecovered (sig : BitVec 24) (ton : Nat)
  /-- R155. FAULT_CLEAR ends LATCHED and pending retries, clears fault flags and resubmits the commanded value. -/
  | gdFaultClear (sess : Nat) (n : Fin 24)
  /-- R159. DIAG_RUN starts one off-state check now. -/
  | gdDiagRun (sess : Nat) (n : Fin 24)
  /-- R163. A new command code of a bridge lead takes effect: stop, reversal, motor start or function code. -/
  | bridgeCommand (h : Fin 6) (ripples : Nat)
  /-- R163. BR_BRAKE_TIME ends; the bridge coasts or the pending start follows. -/
  | bridgeBrakeEnd (h : Fin 6)
  /-- R163. A movement runs RUN_MAX and ends with the stop sequence. -/
  | bridgeRunMax (h : Fin 6) (ripples : Nat)
  /-- R165. BR_CURRENT at or above STALL_I with no ripple for STALL_TIME ends the movement. -/
  | bridgeStall (h : Fin 6) (current : Nat) (ripples : Nat)
  /-- R165. BR_CURRENT below OL_BRIDGE for 100 ms of drive raises open load on the lead. -/
  | bridgeOpenLoad (h : Fin 6) (current : Nat)
  /-- R167. Every millisecond while a normalised window closes the force estimate is updated. -/
  | forceEstimate (h : Fin 6) (current : Nat) (vbat : Nat) (ripples : Nat)
  /-- R167. PINCH_CONFIRM estimates above PINCH_FORCE declare a pinch; the bridge brakes and reverses. -/
  | pinch (h : Fin 6)
  /-- R167. REVERSE_RIPPLES are counted or the open end reached; the stop sequence runs and PINCH_LATCH is set. -/
  | pinchReversalEnd (h : Fin 6) (ripples : Nat)
  /-- R169. A lock pulse ends at PULSE_TIME, a stall or the feedback level, and the feedback is judged. -/
  | lockPulseEnd (h : Fin 6)
  /-- R170. The park input returns to 1; a cycle ends, the wiper brakes and slot 7 may be posted. -/
  | wiperPark (h : Fin 6) (parked : Bool)
  /-- R170. WIPE_INTERVAL after a park starts the next intermittent wipe. -/
  | wipeIntervalExpiry (h : Fin 6)
  /-- R170. A wiper stall brakes, reverses to park, sets BLOCKED and posts slot 9. -/
  | wiperBlocked (h : Fin 6) (current : Nat)
  /-- R179. BR_CLEAR clears BLOCKED and the lock rate limit. -/
  | brClear (sess : Nat) (h : Fin 6)
  /-- R179. BR_FORGET clears the learned profile and normalisation. -/
  | brForget (sess : Nat) (h : Fin 6)
  /-- R174. Every 10 ms the fan PI loop updates the duty, and the ripple ratio is relearned each second. -/
  | fanLoopUpdate (f : Fin 4) (ripples : Nat)
  /-- R175. A spin-up stall or a speed below 300 rpm at the window end fails the start attempt. -/
  | fanStartFailed (f : Fin 4) (current : Nat)
  /-- R175. The spin-up window ends without failure and the attempt count returns to 0. -/
  | spinupWindowEnd (f : Fin 4) (ripples : Nat)
  /-- R175. A fan retry delay of 1, 4 or 16 s expires and the start is resubmitted, or the fan locks out. -/
  | fanRetry (f : Fin 4)
  /-- R176. A running fan meets the stall condition with no ripple and is handled as a failed attempt. -/
  | fanStallRunning (f : Fin 4) (current : Nat)
  /-- R177. No tach edge while ripple shows speed declares the tach open and switches to ripple speed. -/
  | tachOpen (f : Fin 4) (ripples : Nat)
  /-- R177. After 1 s of tach speed within 10 % of ripple speed TACH_OPEN clears. -/
  | tachRestored (f : Fin 4) (ripples : Nat)
  /-- R180. FAN_CLEAR ends LOCKED_OUT and restarts a non-zero command. -/
  | fanClear (sess : Nat) (f : Fin 4)
  /-- R189. A new commanded value of a solenoid acts by mode and phase: fast off, switch-on, restart or setpoint change. -/
  | svCommand (c : Fin 8) (ma : Nat)
  /-- R186. Boost ends when the current reaches SV_PEAK_CURRENT or BOOST_MAX elapses; peak hold starts. -/
  | svBoostEnd (c : Fin 8) (i : Nat)
  /-- R186. PEAK_TIME elapses and the channel enters hold, posting offset 10. -/
  | svPeakHoldEnd (c : Fin 8)
  /-- R186. The current falls below 20 mA in fast off and the channel enters off. -/
  | svFastOffEnd (c : Fin 8) (i : Nat)
  /-- R190. RETRIGGER restarts the profile from boot at the present value as a switch-on. -/
  | svRetrigger (sess : Nat) (c : Fin 8)
  /-- R187. The mean current stays outside REG_BAND for 5 ms in hold, or returns within it. -/
  | svRegFault (c : Fin 8) (i : Nat)
  /-- R192. A range change starts in hold when the setpoint and current allow it. -/
  | svRangeChangeStart (c : Fin 8) (i : Nat)
  /-- R193. The new sense path has settled and the loop hands over within 8 µs. -/
  | svRangeChangeEnd (c : Fin 8)
  /-- R196. A class K or D window ends with one MOVE_RESULT and the miss count is updated. -/
  | svMoveEvaluation (c : Fin 8) (curve : CoilSamples)
  /-- R197. A stage current exceeds the overcurrent threshold for 0.3 µs; both stages turn off and the cause is taken. -/
  | svTrip (c : Fin 8) (high : Bool) (low : Bool) (i : Nat)
  /-- R198. I_HS and I_LS differ by more than LEAK_I for 100 µs; both stages turn off and LEAK is set. -/
  | svLeak (c : Fin 8) (iHs : Nat) (iLs : Nat)
  /-- R199. Boost reaches BOOST_MAX below OPEN_I, or hold stays below OPEN_I for 10 ms at full duty. -/
  | svOpenLoad (c : Fin 8) (i : Nat)
  /-- R200. Every OFF_DIAG_PERIOD an off channel is biased and both balls are read and judged. -/
  | svOffDiagCheck (c : Fin 8) (vh : Nat) (vl : Nat) (vbat : Nat)
  /-- R201. The stage exceeds 170 °C and turns off, or falls below 150 °C and is resubmitted. -/
  | svOvertemp (c : Fin 8) (temp : Int)
  /-- R202. A solenoid retry delay expires and the profile restarts from boost, or the channel latches. -/
  | svRetry (c : Fin 8)
  /-- R202. FAULT_CLEAR clears SHORT, LEAK and OVERTEMP and resubmits the commanded value. -/
  | svFaultClear (sess : Nat) (c : Fin 8)
  /-- R206. DIAG_RUN starts one off-state check now. -/
  | svDiagRun (sess : Nat) (c : Fin 8)
  /-- R209. The comparator holds a new level for DIN_FILTER and the filtered state changes. -/
  | dinEdge (c : Fin 16) (new : HeldLevel)
  /-- R210. More than CHATTER_LIMIT changes within 1 s set DIN_FAULT 1, or a quiet window clears it. -/
  | dinChatter (c : Fin 16)
  /-- R210. An input above 36 V for 1 ms sets DIN_FAULT 2, and 1 ms below 35 V clears it. -/
  | dinOvervoltage (c : Fin 16) (mv : Nat)
  /-- R213. Current limit for 2 ms or the stage above 170 °C trips the output through the clamp. -/
  | doutTrip (d : Fin 8) (hot : Bool) (current : Nat)
  /-- R213. After a cause-2 trip the stage falls below 150 °C and the commanded value is resubmitted. -/
  | doutCooled (d : Fin 8)
  /-- R213. A DOUT retry delay expires and the commanded value is resubmitted, or the output latches. -/
  | doutRetry (d : Fin 8)
  /-- R214. The stage current stays below OL_CURRENT for OL_TIME in the on state. -/
  | doutOpenLoad (d : Fin 8) (current : Nat)
  /-- R214. Every OFF_DIAG_PERIOD an off DOUT is biased and judged. -/
  | doutOffDiagCheck (d : Fin 8) (mv : Nat) (vbat : Nat)
  /-- R213. FAULT_CLEAR clears SHORT and OVERTEMP, ends LATCHED and resubmits. -/
  | doutFaultClear (sess : Nat) (d : Fin 8)
  /-- R229. DIAG_RUN starts one off-state check of the DOUT now. -/
  | doutDiagRun (sess : Nat) (d : Fin 8)
  /-- R219. An AIN slot converts and runs its plausibility check, then delivers the result or declares a break or short. -/
  | ainSlot (c : Fin 12) (mv : Nat) (it : Nat)
  /-- R223. After 200 µs the new network is connected and conversions resume. -/
  | ainRangeChangeEnd (c : Fin 12)
  /-- R216. A sensor supply goes out of or back into regulation; ratiometric inputs follow as R222 sets out. -/
  | vsensStateChange (v : Fin 2) (state : Fin 4)
  /-- R226. An accepted rising edge is timestamped and TACH_FREQ and its thresholds are updated. -/
  | tachEdge (t : Fin 4)
  /-- R225. More than 16 rejected pulses within 1 s set TACH_STATE 2. -/
  | tachGlitching (t : Fin 4) (rejected : Nat)
  /-- R226. TACH_TIMEOUT passes with no edge; TACH_FREQ reads 0 and offset 2 is posted. -/
  | tachTimeout (t : Fin 4)
  /-- R233. A learning measurement completes and is stored, or discarded for one of the reasons of R234. -/
  | passportLearn (n : Fin 40) (q : Fin 6) (value : Nat) (temp : Int) (current : Nat) (vbat : Nat) (disturbed : Fin 4)
  /-- R235. PP_RELEARN discards the learned values of the passport. -/
  | ppRelearn (sess : Nat) (n : Fin 40)
  /-- R236. PP_REFERENCE copies the values in force as the drift reference. -/
  | ppReference (sess : Nat) (n : Fin 40)
  /-- R236. PP_CLEAR_DRIFT clears DRIFT. -/
  | ppClearDrift (sess : Nat) (n : Fin 40)
  /-- R237. At a steady interval a 200 mA pulse measures RDS(on), which is stored or rejected. -/
  | gdCalibration (n : Fin 24) (uohm : Nat) (temp : Int) (current : Nat)
  /-- R238. A stage offset sample is taken in a slow-decay or off interval. -/
  | svOffsetCalibration (c : Fin 8) (high : Bool) (offset : Int) (current : Nat)
  /-- R240. A reading falls outside its calibration envelope; EXTRAPOLATED and CAL_STATE 2 are set. -/
  | readingExtrapolated (n : Fin 32) (temp : Int) (current : Nat)
  /-- R243. A supply stays outside SUP_LO or SUP_HI for SUP_TIME and SUP_STATE changes. -/
  | supplyWindowExit (m : Fin 10) (value : Nat)
  /-- R243. A supply stays within its window less hysteresis for SUP_TIME and SUP_STATE returns to 0. -/
  | supplyWindowReturn (m : Fin 10) (value : Nat)
  /-- R250. A read of SUP_MIN or SUP_MAX returns the extreme and restarts it from the latest sample. -/
  | supMinMaxRead (sess : Nat) (m : Fin 10) (max : Bool)
  /-- R245. Every millisecond die and quadrant temperatures are sampled and their warning limits judged. -/
  | temperatureSample (hoist : Int) (q0 : Int) (q1 : Int) (q2 : Int) (q3 : Int)
  /-- R246. CABLE_RUN starts a reflection measurement over the reset gaps of 4 frames. -/
  | cableRun (sess : Nat) (p : Fin 8)
  /-- R247. A cable measurement completes, sets CABLE_LENGTH and CABLE_END and posts EV1280. -/
  | cableMeasured (p : Fin 8) (roundTrip : Option Nat) (end_ : Fin 4)
  /-- R261. A bunting data frame starts: frame memory is snapshotted, derated and sent, and replies are received in its window. -/
  | bpFrame (p : Fin 8) (turn : Option Nat) (tail : BitVec 12) (heard : BuntingHeard)
  /-- R268. Eight consecutive line mismatches release the line and stop the port with LINE_FAULT. -/
  | bpLineFault (p : Fin 8) (high : Bool)
  /-- R263. A port runs count, capability, version and setup passes, then enters running or fault. -/
  | bpDiscovery (p : Fin 8) (d : BuntingDiscovery)
  /-- R263. BP_RETRY_TIME after a line fault or foreign device starts discovery again. -/
  | bpRetryExpiry (p : Fin 8)
  /-- R265. A command frame with setup or clear operations is sent in place of a data frame. -/
  | bpCommandFrame (frame : BuntingCommand)
  /-- R271. BP_REDISCOVER starts discovery, or fails with in use while one runs. -/
  | bpRediscover (sess : Nat) (p : Fin 8)
  /-- R271. BP_NODE_CLEAR requests a clear command for JN-P8 trips at one or all positions. -/
  | bpNodeClear (sess : Nat) (p : Fin 8) (position : BitVec 16)
  /-- R269. A node receives no valid frame for its timeout and turns all its channels off. -/
  | nodeTimeout (p : Fin 8) (position : Fin 4096)
  /-- R277. A line current limit acting for 2 µs turns the whole port off and posts offset 0. -/
  | mxLineTrip (p : Fin 2) (line : Fin 8)
  /-- R277. A column above COL_VMAX in three scan frames is disabled. -/
  | mxColumnOvervoltage (p : Fin 2) (line : Fin 8) (column : Fin 8)
  /-- R277. A sink below 90 % of COL_I_FS in three frames marks the pixel open. -/
  | mxPixelOpen (p : Fin 2) (line : Fin 8) (column : Fin 8) (low : Bool)
  /-- R277. The port stages exceed 170 °C and turn off, or fall below 150 °C and are resubmitted. -/
  | mxOvertemp (p : Fin 2) (temp : Int)
  /-- R278. A matrix retry delay expires and the whole port is resubmitted, or it latches. -/
  | mxRetry (p : Fin 2)
  /-- R278. FAULT_CLEAR ends LATCHED, clears the trip, overtemperature and COL_DISABLED and resubmits. -/
  | mxFaultClear (sess : Nat) (p : Fin 2)
  /-- R291. PIXEL_CLEAR clears PIXEL_OPEN. -/
  | pixelClear (sess : Nat) (p : Fin 2)
  /-- R280. Every millisecond the Hoist-temperature target factor is computed and each output's factor falls or rises toward it. -/
  | deratingUpdate
  /-- R282. NB_RUN starts the neighbour-pin test of all 48 balls. -/
  | nbRun (sess : Nat)
  /-- R281. One ball is driven for 20 µs and its neighbours read; joins are reported and a matrix short stops its port. -/
  | nbBallTest (ball : Fin 48) (joined : List (BitVec 8))
  /-- R282. Once per NB_ONLINE_PERIOD a selected ball is tested at its next opportunity. -/
  | nbOnlineTest (ball : Fin 48) (joined : List (BitVec 8))
  /-- R289. GROUP_CMD op 0x01 starts a class H fade on a group. -/
  | groupFade (sess : Nat) (group : BitVec 8) (level : BitVec 16) (time : BitVec 16)
  /-- R289. GROUP_CMD op 0x02 starts a class H pattern on an engine. -/
  | groupPattern (sess : Nat) (group : BitVec 8) (engine : BitVec 8) (block : BitVec 8)
  /-- R289. GROUP_CMD op 0x03 releases the H slots of every member of a group. -/
  | groupRelease (sess : Nat) (group : BitVec 8)
  /-- R291. A write of GQ_GROUP selects the group and class the query members report. -/
  | groupQuery (sess : Nat) (value : BitVec 16)
  /-- R285. At each millisecond a running fade computes its level and writes its member values. -/
  | fadeStep (group : BitVec 8) (cls : Fin 5)
  /-- R287. At each millisecond an engine computes its levels and writes them; after REPEAT periods it is freed. -/
  | patternStep (e : Fin 32)
  /-- R294. A counting step reaches an armed compare value; its action is applied and its event posted. -/
  | timerCompare (t : Fin 32) (k : Fin 4)
  /-- R292. A timer wraps from 2^48 − 1 to 0, starting a new lap and applying the overflow action. -/
  | timerOverflow (t : Fin 32)
  /-- R295. A write of CMPk takes effect at the timebase island and arms the compare for this lap or the next. -/
  | cmpWrite (sess : Nat) (t : Fin 32) (k : Fin 4) (value : BitVec 48)
  /-- R298. TMR_CMD 1 starts a timer at the tick it arrives. -/
  | tmrStart (sess : Nat) (t : Fin 32)
  /-- R298. TMR_CMD 2 stops a timer at the tick it arrives. -/
  | tmrStop (sess : Nat) (t : Fin 32)
  /-- R298. TMR_CMD 3 resets a timer's count to 0 at the tick it arrives. -/
  | tmrReset (sess : Nat) (t : Fin 32)
  /-- R298. TMR_CMD 4 resets and starts a timer at the tick it arrives. -/
  | tmrResetAndStart (sess : Nat) (t : Fin 32)
  /-- R299. GS_ARM arms the global start with the mask, op, base and instant in force. -/
  | gsArm (sess : Nat)
  /-- R299. At tick n0 the armed operation is applied to every timer of GS_MASK. -/
  | globalStart
  /-- R303. An occurrence reaches the event fabric; timer operations are applied at once and it is queued for ordered release. -/
  | eventOccurrence
  /-- R304. Once the timebase passes an occurrence's timestamp by 2.5 µs it is delivered to the ledger, notice and runtime destinations. -/
  | eventRelease
  /-- R307. EVENT_POST posts one occurrence of a host-defined event 1472–1535. -/
  | eventPost (sess : Nat) (value : BitVec 64)
  /-- R304. A queued CAN notice frame is sent on its channel, or dropped when the queue is full. -/
  | canNoticeSend (c : Fin 8)
  /-- R318. A valid frame ends on a channel and is written to its message object, map, SDO server or stray queue. -/
  | canFrameReceived (c : Fin 8) (f : CanFrame) (error : Fin 7)
  /-- R311. A classical channel with PXE_ENABLE sees an FD frame and stops taking part until 11 recessive bits. -/
  | protocolException (c : Fin 8)
  /-- R320. A host write to the data of a TX object updates it and, with TX_ON_WRITE, makes it pending. -/
  | moDataWrite (sess : Nat) (offset : BitVec 32) (data : List Byte) (arbitrating : Bool)
  /-- R319. A read of MO_DATA returns a consistent snapshot and clears NEW and LOST when byte 28 is included. -/
  | moDataRead (sess : Nat) (offset : BitVec 32) (length : BitVec 16)
  /-- R320. At a TX object's period its frame becomes pending. -/
  | txPeriod (o : Fin 8192) (arbitrating : Bool)
  /-- R320. A frame is transmitted successfully; its timestamp and COUNT are recorded and PENDING cleared. -/
  | canTransmissionDone (c : Fin 8)
  /-- R327. A transmission ends in error or lost arbitration; error counters and retries follow ISO 11898-1. -/
  | canTxError (c : Fin 8) (error : Fin 7)
  /-- R320. A frame pending longer than TX_TIMEOUT is discarded and offset 10 posted. -/
  | txTimeoutExpiry (c : Fin 8)
  /-- R321. An RX object gets no update within TIME and TIMEOUT is set. -/
  | rxObjectTimeout (o : Fin 8192)
  /-- R322. STRAY_ACK removes the n oldest stray entries and clears STRAY_FULL. -/
  | strayAck (sess : Nat) (c : Fin 8) (n : BitVec 8)
  /-- R314. A channel joins the bus after 11 recessive bits and posts offset 14. -/
  | canBusJoin (c : Fin 8)
  /-- R327. After BUSOFF_DELAY, or the command, and 128 occurrences of 11 recessive bits the channel rejoins. -/
  | busOffRecovery (c : Fin 8)
  /-- R332. CAN_CMD 0x01 starts bus-off recovery under BUSOFF_MODE 1. -/
  | recoverFromBusOff (sess : Nat) (c : Fin 8)
  /-- R332. CAN_CMD 0x02 discards all pending frames of the channel. -/
  | discardPendingFrames (sess : Nat) (c : Fin 8)
  /-- R328. CAN_CMD 0x03 makes one single-shot attempt at once in the alone state. -/
  | oneAttemptNow (sess : Nat) (c : Fin 8)
  /-- R328. Once per ALONE_RETRY the highest-ranking pending frame is tried single-shot; an acknowledgement ends the alone state. -/
  | aloneRetry (c : Fin 8)
  /-- R313. TXD or the bus dominant for 3 ms, or overtemperature, releases the transmitter and sets TXCVR_FAULT. -/
  | transceiverFault (c : Fin 8) (cause : Fin 4)
  /-- R329. At channel start the runtime sends an address claim for PREF_ADDR. -/
  | j1939Claim (c : Fin 8)
  /-- R329. A claim for the same address with a lower NAME moves the channel to a free address or to Cannot Claim. -/
  | j1939ContendingClaim (c : Fin 8) (sa : BitVec 8) (name : BitVec 64)
  /-- R329. A Request for Address Claimed is answered with the stored NAME and address. -/
  | j1939RequestClaimed (c : Fin 8)
  /-- R336. A ring, alive or limp-home message is received and updates presence, consent and the successor. -/
  | nmRingMessage (sender : Fin 64) (dlc : Fin 16) (data : BitVec 64)
  /-- R336. NM_T_TYP after a message addressed to it the unit sends its own ring message to its successor. -/
  | nmRingSend
  /-- R336. No ring message for NM_T_MAX makes the unit send an alive message. -/
  | nmAliveTimeout
  /-- R336. A node sends no valid ring message within NM_T_ERROR and stops being present. -/
  | nmPresentTimeout (i : Fin 64)
  /-- R338. NM_T_WAIT_SLEEP passes without cancellation; the unit enters bus sleep and arms its wake sources. -/
  | nmSleepWaitExpiry
  /-- R339. In limp-home a limp-home message is attempted every NM_T_ERROR. -/
  | nmLimpHomeMessage
  /-- R340. An ID withholding consent for NM_KEEPER_TIME becomes a keeper and is recorded. -/
  | nmKeeper (i : Fin 64)
  /-- R342. An integrated transceiver in bus sleep matches a wake frame and wakes the unit. -/
  | selectiveWakeFrame (c : Fin 4) (f : CanFrame)
  /-- R341. A WAKE pin edge held for WAKE_FILTER wakes the unit. -/
  | wakePinEdge (n : Fin 4) (rising : Bool)
  /-- R341. A WUP, or more than 31 decoder frame errors, on CN0–CN3 wakes the unit. -/
  | busActivityWake (c : Fin 4) (frameErrors : Bool)
  /-- R337. NM_CMD 0x01 holds a host stay, withdrawing consent. -/
  | nmHoldStay (sess : Nat)
  /-- R337. NM_CMD 0x02 releases the host stay. -/
  | nmReleaseStay (sess : Nat)
  /-- R344. NM_CMD 0x03 is a local request to wake, or a host resume over the halyard. -/
  | nmResume (sess : Nat)
  /-- R352. HOST_VOTE op 0x01 places holder 0 on the domains of MASK. -/
  | placeHostVote (sess : Nat) (mask : BitVec 24)
  /-- R352. HOST_VOTE op 0x02 withdraws holder 0 from the domains of MASK. -/
  | withdrawHostVote (sess : Nat) (mask : BitVec 24)
  /-- R352. HOST_VOTE op 0x03 withdraws holder 0 from every domain. -/
  | withdrawAllHostVotes (sess : Nat)
  /-- R352. HOST_VOTE op 0x04 suspends holder 15 on the domains of MASK. -/
  | suspendStandingVotes (sess : Nat) (mask : BitVec 24)
  /-- R352. HOST_VOTE op 0x05 restores holder 15 on the domains of MASK. -/
  | restoreStandingVotes (sess : Nat) (mask : BitVec 24)
  /-- R350. A domain's votes change within a state and it is switched on or off within 1 ms. -/
  | domainSwitch (d : Fin 19)
  /-- R350. The required state has stayed below PWR_STATE for LINGER and the entry begins. -/
  | lingerExpiry
  /-- R353. The runtime cores stop with state retained and PWR_STATE reads Dipped. -/
  | enterDipped
  /-- R354. Cores stop, the engine parks, non-parking outputs go off, the PLL stops and PWR_STATE reads Half-mast. -/
  | enterHalfMast
  /-- R358. The held queue is saved and the Fly die is powered off. -/
  | enterFurled
  /-- R353. A raised required state restarts the runtime cores and PWR_STATE reads Hoisted. -/
  | exitDipped
  /-- R354. The PLL relocks, tiles leave retention, the first sweep runs and the held queue is delivered. -/
  | exitHalfMast (dins : BitVec 16)
  /-- R357. A wake cause sets LAST_WAKE_CAUSE, places the wake hold and starts an exit from Half-mast or Furled. -/
  | wakeCapture (cause : Fin 12) (detail : BitVec 16)
  /-- R357. WAKE_HOLD after a wake ends and holder 8's votes are withdrawn. -/
  | wakeHoldExpiry
  /-- R357. RTC_SECONDS reaches RTC_ALARM and wakes the unit from Half-mast. -/
  | rtcAlarm
  /-- R362. A write of RTC_SECONDS sets the clock and RTC_VALID. -/
  | rtcSecondsWrite (sess : Nat) (value : BitVec 32)
  /-- R355. A contained fault of a parking load leaves it off and, with PARK_FAULT_WAKE, wakes the unit. -/
  | parkingLoadFault (ev : BitVec 16) (value : BitVec 32)
  /-- R363. VBAT rises through 4.5 V; the Hoist die starts, DIN sinks, addressing, charger and core regulator begin. -/
  | hoistPorRelease
  /-- R363. VBAT falls below 4.0 V and the Hoist power-on reset asserts. -/
  | hoistPorAssert (copies : Fin 7)
  /-- R363. The core supply reaches regulation at every quadrant and the Fly reset is released. -/
  | flyResetReleaseAtStart
  /-- R373. The boot ROM checks ENSIGN and ENSIGN checks MAST, HOIST and NODE; a rejected image stops start-up. -/
  | imageCheck (rejected : Fin 5) (trng : Bool)
  /-- R364. In one step the hoist latches are loaded, SAFE claims placed, arbiter, timers, CAN, bunting and sensors started. -/
  | configurationApplied (vbat : Nat) (elapsed : BitVec 32)
  /-- R363. VBAT below STRIKE_LEVEL + 1 V at the apply instant holds the apply until it has been above for 1 ms. -/
  | applyHeldLowVbat (vbat : Nat)
  /-- R364. The first reflex sweep starts once the configuration is applied and the address confirmed. -/
  | firstSweepStart
  /-- R366. A core supply outside its thresholds for 1 µs applies the hoist safe state and holds the Fly die in reset. -/
  | coreSupplyFault (mv : Nat)
  /-- R366. 1 ms after the supply is back in regulation the Fly die restarts from boot. -/
  | coreSupplyRestored
  /-- R366. A low of 10 µs or more on RESET_N applies the hoist safe state and holds the Fly die in reset until it rises. -/
  | resetNLow
  /-- R367. VSTORE falls below or returns to 10.5 V and EV1291 or EV1292 is posted. -/
  | vstoreReadiness (mv : Nat)
  /-- R369. VBAT stays below STRIKE_LEVEL for 50 µs; outputs go to hoist safe state and the ledger tail and state are sealed to MRAM. -/
  | strikeTrigger (complete : Bool) (copies : Fin 7)
  /-- R369. VBAT has stayed above STRIKE_LEVEL + 1 V for 1 ms after the stop and the Hoist die starts again. -/
  | strikeRestart
  /-- R374. A TRNG health test fails; TRNG_STATE reads 2 and dependent services fail. -/
  | trngHealthFail (repetition : Bool)
  /-- R374. Every second a failed TRNG is retested and, on a pass, reseeds the DRBG. -/
  | trngRetest (pass : Bool)
  /-- R377. KC_OP 1 with KC_RUN unwraps and loads a key blob into an empty slot. -/
  | keyImport (sess : Nat)
  /-- R377. KC_OP 2 with KC_RUN generates a key from the DRBG into an empty slot. -/
  | keyGenerate (sess : Nat)
  /-- R377. KC_OP 3 with KC_RUN derives a key by the counter-mode KDF into an empty slot. -/
  | keyDerive (sess : Nat)
  /-- R378. KC_OP 4 with KC_RUN waits for running jobs, zeroes the slot and closes sessions of a changed role key. -/
  | keyZero (sess : Nat)
  /-- R379. A write of LC_REQUEST issues a lifecycle token bound to the session. -/
  | lcRequest (sess : Nat) (target : BitVec 8)
  /-- R379. LC_CONFIRM with the right token within 10 s performs the lifecycle transition and closes every session. -/
  | lcConfirm (sess : Nat) (token : BitVec 32)
  /-- R383. MSG1 is received and answered with MSG2, or with MSG4 carrying a refusal cause. -/
  | sessionSetupMsg1 (path : Fin 9) (role : BitVec 8) (hostId : BitVec 32) (nH : BitVec 128) (serial : BitVec 128)
  /-- R383. MSG3 is received, AUTH_H checked and the session opened or refused in MSG4. -/
  | sessionSetupMsg3 (path : Fin 9) (role : BitVec 8) (hostId : BitVec 32) (authH : BitVec 128)
  /-- R385. MSG3 not received within 1 s of MSG2 fails the setup with cause 8. -/
  | setupMsg3Timeout (path : Fin 9)
  /-- R385. A role's LOCKOUT_TIME ends and EV1092 is posted. -/
  | roleLockoutEnd (role : Fin 4)
  /-- R387. SESSION_CLOSE closes the writing session. -/
  | sessionClose (sess : Nat)
  /-- R387. A session with no accepted authenticated frame for SESSION_IDLE closes with cause 2. -/
  | sessionIdleTimeout (sess : Nat)
  /-- R389. CJ_RUN starts a cipher job on the session's buffer, or reports its refusal status. -/
  | cjRun (sess : Nat)
  /-- R388. A cipher job ends, writing its output in place and its status, including a tag mismatch. -/
  | cipherJobDone (sess : Nat)
  /-- R391. PK_RUN with PK_OP 1 signs a digest under a private P-256 slot. -/
  | pkSign (sess : Nat)
  /-- R391. PK_RUN with PK_OP 2 verifies a signature under a public key. -/
  | pkVerify (sess : Nat)
  /-- R391. PK_RUN with PK_OP 3 writes the public key of a P-256 slot to PK_PUBKEY. -/
  | pkExport (sess : Nat)
  /-- R392. A read of RANDOM returns 32 fresh DRBG bytes, or fails while the TRNG is not healthy. -/
  | randomRead (sess : Nat)
  /-- R393. DEBUG_REQUEST unlocks the debug port at a level for a window. -/
  | debugRequest (sess : Nat) (value : BitVec 32)
  /-- R393. DEBUG_CLOSE ends the debug session. -/
  | debugClose (sess : Nat)
  /-- R393. A debugger connects at a level the matrix makes available and a debug session starts. -/
  | debuggerConnect (level : Fin 3)
  /-- R393. The unlock window expires before connection. -/
  | debugWindowExpiry
  /-- R393. TRST_N low ends the debug session. -/
  | trstNLow
  /-- R394. A control-level halt stops the Fly die; the hoist safe state is applied and the timebase runs in LF mode. -/
  | debugHalt
  /-- R394. A halted Fly die resumes as on exit from Half-mast. -/
  | debugResume
  /-- R395. EXTEST, CLAMP or HIGHZ makes balls follow the boundary register; leaving it is a Fly start. -/
  | extest (enter : Bool)
  /-- R401. BKEY low for 20 µs detects a token and starts BKEY_SETTLE. -/
  | bkeyPresence
  /-- R401. BKEY_SETTLE elapses and the hail of an exchange starts. -/
  | bkeySettleExpiry
  /-- R400. The hail, identity, challenge and response run on BKEY and the response is timed and verified. -/
  | bkeyExchange (x : BurgeeAnswer)
  /-- R401. BKEY reads high for 100 ms and the token is marked removed, or a fault state ends. -/
  | bkeyRemoved
  /-- R401. The line stays low for 100 ms after a hail; EV1160 is posted and the port enters fault. -/
  | bkeyHeldLow
  /-- R403. Each LF_POLL_PERIOD a carrier burst senses a transponder, detecting it or a coil fault. -/
  | lfPoll (load : Fin 4)
  /-- R402. An LF exchange of hail, identity, challenge and response runs and is judged. -/
  | lfExchange (x : BurgeeAnswer)
  /-- R405. A port's LOCK_TIME of powered time ends and EV1155 is posted. -/
  | burgeeLockoutEnd (port : Fin 10)
  /-- R405. BG_CLEAR_LOCK ends a port's lock-out at once and clears its failures. -/
  | bgClearLock (sess : Nat) (port : BitVec 8)
  /-- R406. REL_OPEN from a Maker session opens a release and restarts its window. -/
  | relOpen (sess : Nat) (r : Fin 16)
  /-- R406. REL_CLOSE from a Host session closes a release and disables its gated outputs. -/
  | relClose (sess : Nat) (r : Fin 16)
  /-- R406. A release's window of REL_VALIDITY ends and the release closes. -/
  | releaseWindowExpiry (r : Fin 16)
  /-- R410. An implement entry's challenge frame is sent at bus join, each IMPL_PERIOD, or on demand. -/
  | implementChallenge (i : Fin 8)
  /-- R410. IMPL_RUN challenges implement entry i now. -/
  | implRun (sess : Nat) (i : BitVec 8)
  /-- R410. 4 ms after the challenge's transmission the response is judged, opening or closing releases. -/
  | implementDecision (i : Fin 8)
  /-- R422. A ledger page is sealed at 62 records, SEAL_TIME or another sealing cause, with checkpoints signed. -/
  | pageSeal
  /-- R427. An NVMe Write or Flush completes, or fails and is retried; pages become durable. -/
  | pageWriteDone (flush : Bool) (status : BitVec 16)
  /-- R427. FLUSH_TIME after the oldest unflushed write a Flush is issued. -/
  | flushTimeExpiry
  /-- R427. Every 10 s in store fault the link is retrained. -/
  | linkRetrain (up : Bool)
  /-- R429. At link start the retained index is read and the store formatted, continued or refused as foreign. -/
  | ledgerLinkStart (found : StoreFound)
  /-- R419. A record finds the ledger buffer full and is dropped. -/
  | recordsLost
  /-- R434. Every SMART_PERIOD the SMART log is read and a new critical warning posts EV1176. -/
  | smartRead (warning : BitVec 8)
  /-- R422. LEDGER_FLUSH seals the open page and flushes. -/
  | ledgerFlush (sess : Nat)
  /-- R424. LEDGER_ATTEST seals the open page and signs a head statement into ATTEST_OUT. -/
  | ledgerAttest (sess : Nat)
  /-- R429. LEDGER_FORMAT from a Maker session formats the store as if blank. -/
  | ledgerFormat (sess : Nat)
  /-- R438. A write into a staging block record completes and checks the block CRC and header. -/
  | stageWrite (sess : Nat) (a : Fin 3) (offset : BitVec 32) (data : List Byte)
  /-- R439. UPD_VERIFY makes the Ensign core check the staged image's signature and security version. -/
  | updVerify (sess : Nat) (a : Fin 3)
  /-- R439. UPD_DISCARD empties a staging area. -/
  | updDiscard (sess : Nat) (a : BitVec 8)
  /-- R440. UPD_ACTIVATE is accepted or refused and, once prior commits are durable, the activation begins. -/
  | updActivate (sess : Nat) (set : BitVec 8)
  /-- R442. The runtime cores stop, MAST is copied, verified and started, with migration if needed. -/
  | mastActivation (failures : Fin 3) (failing : Option (BitVec 24))
  /-- R443. The ENSIGN image is copied into Ensign MRAM and the Ensign core restarts. -/
  | ensignActivation
  /-- R444. A HOIST activation applies the hoist safe state, restarts the Fly die and loads the new HOIST. -/
  | updateRestart
  /-- R448. The NODE image is copied and distribution starts on every running port. -/
  | nodeActivation
  /-- R448. UPD_NODE_RUN starts distribution on the named ports. -/
  | updNodeRun (sess : Nat) (ports : BitVec 8)
  /-- R449. A pass of image frames and version frames ends; distribution completes, repeats or ends incomplete. -/
  | nodeDistributionPass (p : Fin 8) (updated : BitVec 16)
  /-- R450. A node holding a complete matching block set switches to the new image at the reset gap. -/
  | nodeImageSwitch (p : Fin 8) (position : Fin 4096)
  /-- R446. UPD_CONFIRM raises minimum security versions, erases the keep area and clears UNCONFIRMED. -/
  | updConfirm (sess : Nat) (value : BitVec 8)
  /-- R457. The lanes disagree on a segment; the arbiter decides, the losing tile is retired and the arbiter stands in. -/
  | laneMismatch (segment : Fin 16) (won : Fin 3)
  /-- R457. A quadrant spare has loaded the rules and lane state and joins as the lane at a segment boundary. -/
  | spareJoined (q : Fin 4)
  /-- R460. A non-lane tile fails and its function resumes on the spare or is stopped. -/
  | tileFault (q : Fin 4) (t : Fin 6)
  /-- R461. An SRAM cluster fails and its region is remapped to the spare and refilled. -/
  | sramClusterFault (cluster : Fin 16) (region : Fin 6)
  /-- R462. An MRAM cluster fails and its region is rebuilt on the spare. -/
  | mramClusterFault (cluster : Fin 32) (region : Fin 6)
  /-- R464. A faulted regulator phase is disconnected within 5 µs and the others carry the load. -/
  | regulatorPhaseFault (n : Fin 5)
  /-- R465. Once per STAGE_TEST_PERIOD an idle output stage tests itself and is disabled on failure. -/
  | stageSelfTest (sig : BitVec 24) (pass : Bool)
  /-- R466. Every ARB_CHECK_PERIOD an arbiter evaluates one segment with the lanes and is retired on disagreement. -/
  | standbyLaneCheck (q : Fin 4) (agrees : Bool)
  /-- R466. Every SPARE_TEST_PERIOD a standby spare runs LBIST and is retired on failure. -/
  | spareLbist (q : Fin 4) (pass : Bool)
  /-- R467. A Hoist sequencer fault applies the hoist safe state and restarts the Fly die to reload HOIST. -/
  | sequencerFault
  /-- R466. Every 100 ms the Hoist sequencer's microcode is checked. -/
  | microcodeCheck (pass : Bool)
  /-- R468. SRAM and MRAM are scrubbed and corrected words written back and counted. -/
  | scrub (mram : Bool) (corrected : BitVec 16) (damaged : Fin 4)
  /-- R470. SPLIT_ACK clears CONFIG_SPLIT and empties SPLIT_LIST. -/
  | splitAck (sess : Nat) (value : BitVec 8)
  /-- R458. TILE_RETEST makes the next Fly start run LBIST on every retired tile. -/
  | tileRetest (sess : Nat)
  /-- R471. Every millisecond temperature and supply differences are compared with their limits and SKEW set or cleared. -/
  | skewCheck (hoist : Int) (quadrants : List Int) (supplies : List Nat)
  /-- R139. At each timebase count where (n − PWM_PHASE) mod PWM_PERIOD = 0, a GD or DOUT PWM period starts; a new non-zero value takes effect and the soft-start ramp advances to R_k. -/
  | pwmPeriodStart (sig : BitVec 24)
  /-- R275. At the start of each matrix line slot the Hoist die takes the effective values of that line's pixels, pre-charges and then drives the active window. -/
  | mxLineSlotStart (p : Fin 2)
  /-- R169. When fewer than 10 lock pulses lie in the last 30 s, a waiting lock or unlock code that still stands runs. -/
  | lockRateWindowExpiry (h : Fin 6)
  /-- R329. 250 ms after the address claim is sent without contention, the address counts as claimed and SA_SUBST objects may transmit. -/
  | j1939ClaimWait (c : Fin 8)
  /-- R313. TXCVR_FAULT clears once the channel has seen 11 recessive bits and, for overtemperature, the transceiver is below 150 °C. -/
  | transceiverFaultCleared (c : Fin 8) (temp : Int)
  /-- R311. A classical channel that stopped at an FD frame resumes taking part after it has seen 11 recessive bits. -/
  | protocolExceptionEnd (c : Fin 8)
  /-- R65. The first PLCA beacon after a loss makes PLCA status true again, and the unit resumes sending its queued frames. -/
  | plcaBeaconResume
  /-- R349. A holder's timed vote ends or begins: holder 2 fifty ms after request queues empty, holder 5 at DIPPED_HOLD or 100 ms after durability, holder 6 ten s after the last staging command, holder 7 one s after an exchange. -/
  | holderVoteTimer (h : Fin 16)
  /-- R487. The 32.768 kHz oscillation becomes established, and a Half-mast entry or debug halt that was waiting for it proceeds. -/
  | lfOscillationEstablished
  deriving DecidableEq, Repr

end Sys2Proof
end

