-- ==== Sys2Proof/Decode.lean ====
section
/-!
DEFINITION. The block has no instruction words: no row of spec/opcode_table.json gives bits. A command reaches it as a frame, a
pin, a measured quantity or the passing of time, and stands in the queue as a term of `Instr`.
-/

namespace Sys2Proof

/-- The command a word of the table's bits spells: none, because no row of the table gives bits. -/
def decodeTableWord (_nbits _w : Nat) : Option Instr := none

end Sys2Proof
end

