-- ==== Sys2Proof/Config.lean ====
section
/-!
DEFINITION. What one part or one image fixes (`Part`, per-part values the manual only names), and the values the
manual leaves open, as constants without a body (`Config`).
-/

namespace Sys2Proof

/-! ## Per part and per image

The manual gives these objects the default "per part" or "per image" (spec/02, spec/10, spec/18, spec/21). DESIGN CHOICE
(assumption 1): one part with small plain numbers. No statement rests on them. -/

namespace Part

/-- 0x1000:04 GRADE: 1 Q1, 2 Q2. -/
def grade : Nat := 1
/-- 0x1000:05 SERIAL, 16 bytes. -/
def serial : Nat := 1
def mastVersion : Nat := 0x01000001
def ensignVersion : Nat := 0x01000001
def hoistVersion : Nat := 0x01000001
def nodeVersion : Nat := 0x01000001
def compatEpoch : Nat := 1
def schemaVersion : Nat := 1
def epochMin : Nat := 1
def epochMax : Nat := 1
def hoistMin : Nat := 0x01000000
def nodeMin : Nat := 0x01000000
def migrateFrom : Nat := 1
def secMin : Nat := 0
/-- 0x3000:01 LIFECYCLE of the part as delivered. -/
def lifecycle : Nat := 1
def devicePubkey : Nat := 0
def idCert : Nat := 0
def offsetTc : Nat := 0
/-- CAP_VERSION of every capability record (R46), major << 8 | minor. -/
def capVersion : Nat := 0x0100

end Part

/-! ## Values the manual leaves open

Uninterpreted constants: nothing can be proved about a value of theirs. The cryptographic algorithms the manual names
(AES, SHA-256, ECDSA, CMAC, the KDFs) are such constants of their inputs (assumption 2): a model of their arithmetic
is left out, what depends on them is not. A number stands for a byte string, its first byte the least significant. -/

/-- SHA-256 of a byte string, as a number. -/
opaque Config.sha256 : List Nat → Nat
/-- SHA-384 of a byte string, as a number. -/
opaque Config.sha384 : List Nat → Nat
/-- CMAC under a key of a byte string (128 bits). -/
opaque Config.cmac : Nat → List Nat → BitVec 128
/-- A key derived from a key, a label and a context. -/
opaque Config.kdf : Nat → Nat → List Nat → Nat
/-- GCM tag under a key over additional data and a plaintext. -/
opaque Config.gcmTag : Nat → List Nat → List Nat → BitVec 128
/-- ECDSA P-256 signature under a private key of a digest. -/
opaque Config.ecdsaSign : Nat → Nat → BitVec 512
/-- Whether a signature of a digest verifies under a public key. -/
opaque Config.ecdsaVerify : Nat → Nat → Nat → Bool
/-- The public key of a private key. -/
opaque Config.publicKey : Nat → BitVec 512
/-- The n-th output of the DRBG since manufacture. -/
opaque Config.drbg : Nat → BitVec 256
/-- The output of a cipher job (R388): mode, operation, key and IV or nonce; the AAD and the data. -/
opaque Config.cipher : Nat → Nat → Nat → Nat → List Nat → List Nat → List Nat
/-- The key an AES-KW blob unwraps to under a key, ATTR first (R377); `none` where the unwrap fails. -/
opaque Config.unwrap : Nat → List Nat → Option (List Nat)
/-- A reading that the manual gives an object and a model cannot measure, at its n-th reading. -/
opaque Config.unmeasured : Nat → Nat → Nat
/-- A configuration translated from one schema into another, keeping its meaning (R447). -/
opaque Config.migrate : Nat → Nat → List (Nat × Nat) → List (Nat × Nat)

/-- The comparator levels of DIN0–15 (bit c) at the first tick of the n-th start of the inputs (R209): no command carries them. -/
opaque Config.dinLevels : Nat → BitVec 16
/-- The logical offset that the fault log quotes for a failed cluster: the cluster event and the cluster (R472). -/
opaque Config.clusterOffset : Nat → Nat → Nat
/-- The MRAM cluster that holds a 4 KiB block of logical offsets (R27, R28): the order is not address-contiguous and not given. -/
opaque Config.mramCluster : Nat → Nat

end Sys2Proof
end

