-- ==== Sys2Proof/Machine/Objects.lean ====
section
/-!
DEFINITION. The object dictionary of the SW9600 as the object tables of spec/ give it: for every index and subindex
the type (R34), access and role (R38), kind (R35), default (R9), range (R32, R493) and reserved bits (R10).
Written by a script from the object tables of spec/02 to spec/22; one function per record, rows in the table's order.
-/

namespace Sys2Proof.Machine

/-- Roles, lowest to highest (R8 of spec/00_scope.md): Host, Service, Maker, Vendor. -/
inductive Role where
  | host | service | maker | vendor
  deriving DecidableEq, Repr

/-- The number a role is reported by (0x1102:01 SESSION_ROLE, 0–3). -/
def Role.rank : Role → Nat
  | .host => 0
  | .service => 1
  | .maker => 2
  | .vendor => 3

/-- The role of a number of SESSION_ROLE; numbers above 3 read as Vendor (never produced). -/
def Role.ofCode : Nat → Role
  | 0 => .host
  | 1 => .service
  | 2 => .maker
  | _ => .vendor

/-- The dictionary types of R34. The numbers are bytes. -/
inductive ObjType where
  | bool
  | u (bytes : Nat)
  | i (bytes : Nat)
  | f32
  | bits (bytes : Nat)
  | octets (n : Nat)
  | domain
  deriving DecidableEq, Repr

/-- Bytes of a value of the type (R34); a DOMAIN has no fixed length. -/
def ObjType.size : ObjType → Nat
  | .bool => 1
  | .u n => n
  | .i n => n
  | .f32 => 4
  | .bits n => n
  | .octets n => n
  | .domain => 0

/-- Access column of the object tables: RO, RW, WO. -/
inductive Access where
  | ro | rw | wo
  deriving DecidableEq, Repr

/-- The kinds of R35. -/
inductive Kind where
  | cfg | cmd | sts
  deriving DecidableEq, Repr

/-- Which signals an object may name (R32 and the object's Range/Unit). `0` after a name: the value 0 names none. -/
inductive SigRange where
  | none      -- the object names no signal
  | any0      -- any signal of R31, or 0
  | owned0    -- an owned output, or 0
  | gate0     -- a GD, SV or DOUT signal, or 0
  | vf0       -- a VF signal, or 0
  | ms64      -- an MS signal 64–127, or 0
  | adq       -- GD, SV or DOUT signal; MX or BP port with pixel, node and channel 0 (0x2220:01), or 0
  | gq        -- group << 8 | class code 0, 2, 3, 4 (0x5302:01)
  deriving DecidableEq, Repr

/-- One row of an object table. -/
structure Desc where
  ty : ObjType
  access : Access := .ro
  role : Role := .host
  readRole : Role := .host
  kind : Kind := .sts
  dflt : Nat := 0
  /-- allowed spans of the decoded value, bounds included; none listed: the whole type -/
  spans : List (Int × Int) := []
  step : Nat := 1
  /-- reserved bits (R10) -/
  rsvd : Nat := 0
  sig : SigRange := .none
  perSession : Bool := false
  mappable : Bool := false
  deriving DecidableEq, Repr

/-- The members every DOMAIN record has (R56): DOM_SIZE, DOM_OFFSET, DOM_DATA, DOM_STATUS. -/
def domainRecord (sub : Nat) (access : Access) (role readRole : Role) (kind : Kind) (perSession : Bool) : Option Desc :=
  match sub with
  | 0x00 => some { ty := .u 1, dflt := 4 }
  | 0x01 => some { ty := .u 8, readRole := readRole }  -- DOM_SIZE
  | 0x02 => some { ty := .u 8, access := .rw, role := readRole, readRole := readRole, kind := .cmd, perSession := true }  -- DOM_OFFSET
  | 0x03 => some { ty := .domain, access := access, role := role, readRole := readRole, kind := kind, perSession := perSession }  -- DOM_DATA
  | 0x04 => some { ty := .bits 2, readRole := readRole, perSession := perSession }  -- DOM_STATUS
  | _ => none

/-- Capability record c (R46, R47), at index 0x1020 + c; the manual fixes 0x1020 for the first and rising indices
for the rest. DESIGN CHOICE (assumption 12): the records follow one another in the order of R47's table. -/
def capRec (c sub : Nat) : Option Desc :=
  let id := [0x0001, 0x0002, 0x0003, 0x0004, 0x0010, 0x0011, 0x0012, 0x0020, 0x0021, 0x0022, 0x0023, 0x0030].getD c 0
  let base := [0x1000, 0x1200, 0x6000, 0x1800, 0x8000, 0x5000, 0x5200, 0x9000, 0x3400, 0x6000, 0x6200, 0x3200].getD c 0
  let len := [0x0100, 0x0100, 0x0100, 0x0100, 0x0900, 0x0200, 0x0300, 0x0100, 0x0100, 0x0100, 0x0100, 0x0100].getD c 0
  match sub with
  | 0x00 => some { ty := .u 1, dflt := 5 }
  | 0x01 => some { ty := .u 2, dflt := id }    -- CAP_ID
  | 0x02 => some { ty := .u 2, dflt := Part.capVersion }   -- CAP_VERSION
  | 0x03 => some { ty := .u 2, dflt := len }   -- CAP_LENGTH
  | 0x04 => some { ty := .u 2, dflt := base }  -- CAP_BASE
  | 0x05 => some { ty := .u 2, dflt := if c < 11 then 0x1021 + c else 0 }  -- CAP_NEXT
  | _ => none

/-- Record 0x10F0: Configuration commit record (spec/02_object_dictionary.md). -/
def comRec (sub : Nat) : Option Desc :=
  match sub with
  | 0x00 => some { ty := (.u 1), dflt := 0x5 }
  | 0x01 => some { ty := (.u 4), access := .wo, kind := .cmd, spans := [(1, 2)] }  -- COMMIT_CMD
  | 0x02 => some { ty := (.u 1), perSession := true }  -- COMMIT_STATUS
  | 0x03 => some { ty := (.u 4) }  -- COMMIT_GENERATION
  | 0x04 => some { ty := (.u 2), perSession := true }  -- PENDING_COUNT
  | 0x05 => some { ty := (.u 4), perSession := true }  -- COMMIT_FAIL_OBJECT
  | _ => none

/-- Record 0x1000: Identity record (spec/02_object_dictionary.md). -/
def idnRec (sub : Nat) : Option Desc :=
  match sub with
  | 0x00 => some { ty := (.u 1), dflt := 0xC }
  | 0x01 => some { ty := (.u 4), dflt := 0xA7C3 }  -- VENDOR_ID
  | 0x02 => some { ty := (.u 4), dflt := 0x9600 }  -- PRODUCT_CODE
  | 0x03 => some { ty := (.u 1), dflt := 0xB1 }  -- STEPPING
  | 0x04 => some { ty := (.u 1), dflt := Part.grade }  -- GRADE
  | 0x05 => some { ty := (.octets 16), dflt := Part.serial }  -- SERIAL
  | 0x06 => some { ty := (.u 4), dflt := Part.mastVersion }  -- MAST_VERSION
  | 0x07 => some { ty := (.u 4), dflt := Part.ensignVersion }  -- ENSIGN_VERSION
  | 0x08 => some { ty := (.u 4), dflt := Part.hoistVersion }  -- HOIST_VERSION
  | 0x09 => some { ty := (.u 4), dflt := Part.nodeVersion }  -- NODE_VERSION
  | 0x0A => some { ty := (.u 2), dflt := Part.compatEpoch }  -- COMPAT_EPOCH
  | 0x0B => some { ty := (.u 2), dflt := Part.schemaVersion }  -- SCHEMA_VERSION
  | 0x0C => some { ty := (.u 1) }  -- UNIT_ADDRESS
  | _ => none

/-- Record 0x1800+m: Map parameter record, index 0x1800 + m (spec/02_object_dictionary.md). -/
def mapRec (sub : Nat) : Option Desc :=
  match sub with
  | 0x00 => some { ty := (.u 1), dflt := 0xD }
  | 0x01 => some { ty := .bool, access := .rw, role := .service, kind := .cfg }  -- PI_ENABLE
  | 0x02 => some { ty := (.u 1), access := .rw, role := .service, kind := .cfg, spans := [(0, 1)] }  -- PI_DIRECTION
  | 0x03 => some { ty := (.u 1), access := .rw, role := .service, kind := .cfg, spans := [(0, 0), (16, 23)] }  -- PI_PATH
  | 0x04 => some { ty := (.u 4), access := .rw, role := .service, kind := .cfg, rsvd := 0x60000000 }  -- PI_CAN_ID
  | 0x05 => some { ty := (.u 2), access := .rw, role := .service, kind := .cfg, dflt := 100, spans := [(0, 10000)] }  -- PI_PERIOD
  | 0x06 => some { ty := (.u 2), access := .rw, role := .service, kind := .cfg, spans := [(0, 9999)] }  -- PI_PHASE
  | 0x07 => some { ty := (.u 2), access := .rw, role := .service, kind := .cfg, spans := [(0, 60000)] }  -- PI_TIMEOUT
  | 0x08 => some { ty := (.u 1), access := .rw, role := .maker, kind := .cfg, spans := [(0, 1)] }  -- PI_AUTH
  | 0x09 => some { ty := (.u 1), access := .rw, role := .service, kind := .cfg, spans := [(0, 64)] }  -- PI_ENTRY_COUNT
  | 0x0A => some { ty := (.bits 2) }  -- PI_STATUS
  | 0x0B => some { ty := (.u 4) }  -- PI_FRAME_COUNT
  | 0x0C => some { ty := (.u 4) }  -- PI_REJECT_COUNT
  | 0x0D => some { ty := (.u 2) }  -- PI_SESSION
  | _ => none

/-- Record 0x1840+m: Map entry record, index 0x1840 + m (spec/02_object_dictionary.md). -/
def mapERec (sub : Nat) : Option Desc :=
  match sub with
  | 0x00 => some { ty := (.u 1), dflt := 0x40 }
  | _ => if 0x01 ≤ sub ∧ sub ≤ 0x40 then some { ty := (.u 8), access := .rw, role := .service, kind := .cfg, rsvd := 0xFFFF0000 } else none  -- PI_ENTRY_1–PI_ENTRY_64

/-- Record 0x1200: Halyard configuration, addressing and status (spec/03_halyard_and_addressing.md). -/
def halRec (sub : Nat) : Option Desc :=
  match sub with
  | 0x00 => some { ty := (.u 1), dflt := 0x4 }
  | 0x01 => some { ty := (.u 1), access := .rw, role := .maker, kind := .cfg, dflt := 32, spans := [(32, 255)] }  -- PLCA_TO_TIMER
  | 0x02 => some { ty := (.u 1), access := .rw, role := .service, kind := .cfg, dflt := 3, spans := [(2, 20)] }  -- PRESENCE_TIMEOUT
  | 0x03 => some { ty := (.u 1), access := .rw, role := .maker, kind := .cfg, dflt := 0xFF, spans := [(0, 127), (255, 255)] }  -- CHAIN_KEY_SLOT
  | 0x04 => some { ty := (.octets 6), access := .rw, role := .service, kind := .cfg, dflt := 0xFFFFFFFFFFFF }  -- HOST_MAC
  | _ => none

/-- Record 0x1201: Halyard configuration, addressing and status (spec/03_halyard_and_addressing.md). -/
def adrRec (sub : Nat) : Option Desc :=
  match sub with
  | 0x00 => some { ty := (.u 1), dflt := 0x5 }
  | 0x01 => some { ty := (.u 1) }  -- ADDR_STATE
  | 0x02 => some { ty := (.u 1) }  -- ADDR_SOURCE
  | 0x03 => some { ty := (.u 1) }  -- STORED_ADDRESS
  | 0x04 => some { ty := (.u 1), access := .wo, role := .service, kind := .cmd, spans := [(1, 16)] }  -- ADDR_CONFIRM
  | 0x05 => some { ty := (.u 1) }  -- ADDR_IN_CODE
  | _ => none

/-- Record 0x1202: Halyard configuration, addressing and status (spec/03_halyard_and_addressing.md). -/
def lnkRec (sub : Nat) : Option Desc :=
  match sub with
  | 0x00 => some { ty := (.u 1), dflt := 0x5 }
  | 0x01 => some { ty := (.bits 2) }  -- LINK_STATUS
  | 0x02 => some { ty := (.u 4) }  -- TX_FRAMES
  | 0x03 => some { ty := (.u 4) }  -- UPLINK_LOAD
  | 0x04 => some { ty := (.u 4) }  -- CHAIN_REJECTS
  | 0x05 => some { ty := (.u 4) }  -- NOTICES_DROPPED
  | _ => none

/-- Record 0x1220: Time synchronisation (spec/03_halyard_and_addressing.md). -/
def synRec (sub : Nat) : Option Desc :=
  match sub with
  | 0x00 => some { ty := (.u 1), dflt := 0x8 }
  | 0x01 => some { ty := .bool, access := .rw, role := .service, kind := .cfg, dflt := 1 }  -- SYNC_ENABLE
  | 0x02 => some { ty := (.u 2), access := .rw, role := .service, kind := .cfg, dflt := 1000, spans := [(125, 10000)] }  -- PDELAY_INTERVAL
  | 0x03 => some { ty := (.u 2), access := .rw, role := .service, kind := .cfg, dflt := 2000, spans := [(500, 60000)] }  -- HOLDOVER_LIMIT
  | 0x04 => some { ty := (.i 4) }  -- OFFSET
  | 0x05 => some { ty := (.u 4) }  -- PATH_DELAY
  | 0x06 => some { ty := (.u 8), mappable := true }  -- HALYARD_TIME
  | 0x07 => some { ty := (.u 1), mappable := true }  -- SYNC_STATE
  | 0x08 => some { ty := (.i 4) }  -- RATE_RATIO
  | _ => none

/-- Record 0x1230+a: Registry entry, index 0x1230 + a, a = 1–16 (spec/03_halyard_and_addressing.md). -/
def regRec (sub : Nat) : Option Desc :=
  match sub with
  | 0x00 => some { ty := (.u 1), dflt := 0x6 }
  | 0x01 => some { ty := (.u 1) }  -- PT_STATE
  | 0x02 => some { ty := (.octets 16) }  -- PT_SERIAL
  | 0x03 => some { ty := (.u 4) }  -- PT_MAST_VERSION
  | 0x04 => some { ty := (.u 2) }  -- PT_COMPAT_EPOCH
  | 0x05 => some { ty := (.u 2) }  -- PT_SCHEMA
  | 0x06 => some { ty := (.u 8) }  -- PT_LAST_SEEN
  | _ => none

/-- Record 0x8804: Host command, owner query and engine status (spec/04_signals_ownership_reflexes.md). -/
def hcmRec (sub : Nat) : Option Desc :=
  match sub with
  | 0x00 => some { ty := (.u 1), dflt := 0x1 }
  | 0x01 => some { ty := (.u 8), access := .wo, kind := .cmd }  -- HOST_COMMAND
  | _ => none

/-- Record 0x8805: Host command, owner query and engine status (spec/04_signals_ownership_reflexes.md). -/
def qryRec (sub : Nat) : Option Desc :=
  match sub with
  | 0x00 => some { ty := (.u 1), dflt := 0x5, perSession := true }
  | 0x01 => some { ty := (.u 4), access := .rw, kind := .cmd, sig := .owned0, perSession := true }  -- QUERY_SIGNAL
  | 0x02 => some { ty := (.u 1), dflt := 7, perSession := true }  -- QUERY_OWNER
  | 0x03 => some { ty := (.u 2), perSession := true }  -- QUERY_VALUE
  | 0x04 => some { ty := (.u 2), dflt := 0xFFFF, perSession := true }  -- QUERY_HOLDER
  | 0x05 => some { ty := (.bits 1), perSession := true }  -- QUERY_SLOTS
  | _ => none

/-- Record 0x8806: Host command, owner query and engine status (spec/04_signals_ownership_reflexes.md). -/
def engRec (sub : Nat) : Option Desc :=
  match sub with
  | 0x00 => some { ty := (.u 1), dflt := 0x6 }
  | 0x01 => some { ty := (.u 8) }  -- SWEEP_COUNT
  | 0x02 => some { ty := (.u 4) }  -- SWEEP_TIME_MAX
  | 0x03 => some { ty := (.u 4) }  -- RULE_CONFLICTS
  | 0x04 => some { ty := (.u 2), dflt := 0xFFFF }  -- LAST_CONFLICT
  | 0x05 => some { ty := (.u 2) }  -- ENABLED_RULES
  | 0x06 => some { ty := (.u 1), mappable := true }  -- ENGINE_STATE
  | _ => none

/-- Record 0x8840+k: Safe-state entry, index 0x8840 + k (spec/04_signals_ownership_reflexes.md). -/
def sstRec (sub : Nat) : Option Desc :=
  match sub with
  | 0x00 => some { ty := (.u 1), dflt := 0x7 }
  | 0x01 => some { ty := (.u 4), access := .rw, role := .service, kind := .cfg, sig := .any0 }  -- SS_FIRST
  | 0x02 => some { ty := (.u 4), access := .rw, role := .service, kind := .cfg, sig := .any0 }  -- SS_LAST
  | 0x03 => some { ty := (.u 1), access := .rw, role := .service, kind := .cfg, spans := [(0, 3)] }  -- SS_MODE
  | 0x04 => some { ty := (.u 2), access := .rw, role := .service, kind := .cfg }  -- SS_VALUE
  | 0x05 => some { ty := (.u 1), access := .rw, role := .maker, kind := .cfg, spans := [(0, 4)] }  -- HS_MODE
  | 0x06 => some { ty := (.u 2), access := .rw, role := .maker, kind := .cfg }  -- HS_VALUE
  | 0x07 => some { ty := (.u 1), access := .rw, role := .maker, kind := .cfg, spans := [(0, 15)] }  -- HS_DIN
  | _ => none

/-- Record 0x8800: Heartbeat and safe-state control (spec/04_signals_ownership_reflexes.md). -/
def hbRec (sub : Nat) : Option Desc :=
  match sub with
  | 0x00 => some { ty := (.u 1), dflt := 0x7 }
  | 0x01 => some { ty := (.u 2), access := .rw, role := .service, kind := .cfg, dflt := 100, spans := [(10, 5000)] }  -- HB_TIMEOUT
  | 0x02 => some { ty := (.u 2), access := .wo, kind := .cmd, mappable := true }  -- HB_COUNTER
  | 0x03 => some { ty := (.u 1), mappable := true }  -- HB_STATE
  | 0x04 => some { ty := (.u 1), access := .wo, kind := .cmd, spans := [(165, 165)] }  -- SAFE_RELEASE
  | 0x05 => some { ty := .bool, dflt := 1, mappable := true }  -- SAFE_ACTIVE
  | 0x06 => some { ty := (.u 4) }  -- HB_LOSS_COUNT
  | 0x07 => some { ty := (.u 8) }  -- HB_LAST_LOSS
  | _ => none

/-- Record 0x8801: Hoist watchdog (spec/04_signals_ownership_reflexes.md). -/
def wdgRec (sub : Nat) : Option Desc :=
  match sub with
  | 0x00 => some { ty := (.u 1), dflt := 0x2 }
  | 0x01 => some { ty := (.u 1), access := .rw, role := .maker, kind := .cfg, dflt := 20, spans := [(1, 255)] }  -- HOIST_WDG_TIMEOUT
  | 0x02 => some { ty := (.u 4) }  -- HOIST_WDG_TRIPS
  | _ => none

/-- Record 0x8000+n: Rule record, index 0x8000 + n (spec/04_signals_ownership_reflexes.md). -/
def rulRec (sub : Nat) : Option Desc :=
  match sub with
  | 0x00 => some { ty := (.u 1), dflt := 0x3 }
  | 0x01 => some { ty := (.octets 32), access := .rw, role := .service, kind := .cfg }  -- RULE_ENTRY
  | 0x02 => some { ty := (.u 4) }  -- RULE_FIRES
  | 0x03 => some { ty := (.u 8) }  -- RULE_LAST_FIRE
  | _ => none

/-- Record 0x2200: Arbiter configuration, index 0x2200 (spec/05_admission_arbiter.md). -/
def admRec (sub : Nat) : Option Desc :=
  match sub with
  | 0x00 => some { ty := (.u 1), dflt := 0xF }
  | 0x01 => some { ty := (.u 4), access := .rw, role := .maker, kind := .cfg, dflt := 12000, spans := [(50, 192000)] }  -- MACHINE_I
  | 0x02 => some { ty := (.u 2), access := .rw, role := .maker, kind := .cfg, dflt := 1000, spans := [(50, 5000)] }  -- MACHINE_SLEW
  | 0x03 => some { ty := (.u 2), access := .rw, role := .maker, kind := .cfg, dflt := 12000, spans := [(0, 12000)] }  -- BASE_I
  | 0x04 => some { ty := (.u 2), access := .rw, role := .maker, kind := .cfg, dflt := 1000, spans := [(0, 5000)] }  -- SLEW_SHARE
  | 0x05 => some { ty := (.u 2), access := .rw, role := .maker, kind := .cfg, dflt := 12000, spans := [(0, 12000)] }  -- MAX_SHARE
  | 0x06 => some { ty := (.u 2), access := .rw, role := .maker, kind := .cfg, dflt := 450, spans := [(50, 450)] }  -- DISS_BUDGET
  | 0x07 => some { ty := .bool, access := .rw, role := .maker, kind := .cfg, dflt := 1 }  -- LEND_ENABLE
  | 0x08 => some { ty := (.u 2), access := .rw, role := .maker, kind := .cfg, dflt := 200, spans := [(0, 12000)] }  -- LEND_RESERVE
  | 0x09 => some { ty := .bool, access := .rw, role := .maker, kind := .cfg, dflt := 1 }  -- BORROW_ENABLE
  | 0x0A => some { ty := (.u 2), access := .rw, role := .service, kind := .cfg, dflt := 1000, spans := [(1, 60000)] }  -- WAIT_WARN
  | 0x0B => some { ty := (.u 2), access := .rw, role := .service, kind := .cfg, spans := [(0, 0), (6000, 32000)] }  -- SAG_C_LEVEL
  | 0x0C => some { ty := (.u 2), access := .rw, role := .service, kind := .cfg, spans := [(0, 0), (6000, 32000)] }  -- SAG_A_LEVEL
  | 0x0D => some { ty := (.u 2), access := .rw, role := .service, kind := .cfg, dflt := 1000, spans := [(100, 10000)] }  -- SAG_TIME
  | 0x0E => some { ty := (.u 2), access := .rw, role := .service, kind := .cfg, dflt := 500, spans := [(100, 3000)] }  -- SAG_HYST
  | 0x0F => some { ty := (.u 2), access := .rw, role := .service, kind := .cfg, dflt := 200, spans := [(10, 5000)] }  -- RECOVER_TIME
  | _ => none

/-- Record 0x2201: Arbiter configuration, index 0x2200 (spec/05_admission_arbiter.md). -/
def lrelRec (sub : Nat) : Option Desc :=
  match sub with
  | 0x00 => some { ty := (.u 1), dflt := 0x1 }
  | 0x01 => some { ty := (.u 1), access := .wo, role := .maker, kind := .cmd, spans := [(1, 16)] }  -- LOAN_RELEASE
  | _ => none

/-- Record 0x2202: Arbiter status, index 0x2202 (spec/05_admission_arbiter.md). -/
def adsRec (sub : Nat) : Option Desc :=
  match sub with
  | 0x00 => some { ty := (.u 1), dflt := 0x10 }
  | 0x01 => some { ty := (.u 2), mappable := true }  -- PRED_I
  | 0x02 => some { ty := (.u 2), dflt := 12000, mappable := true }  -- SHARE_I
  | 0x03 => some { ty := (.u 2) }  -- SLEW_SUM
  | 0x04 => some { ty := (.u 2), mappable := true }  -- DISS_SUM
  | 0x05 => some { ty := (.u 1), mappable := true }  -- QUEUE_DEPTH
  | 0x06 => some { ty := (.bits 2), mappable := true }  -- ADM_FLAGS
  | 0x07 => some { ty := (.u 2) }  -- LENT_I
  | 0x08 => some { ty := (.u 1) }  -- LENT_TO
  | 0x09 => some { ty := (.u 2) }  -- BORROWED_I
  | 0x0A => some { ty := (.bits 2) }  -- HELD_MASK
  | 0x0B => some { ty := (.u 4) }  -- ADMITTED_COUNT
  | 0x0C => some { ty := (.u 4) }  -- WAITED_COUNT
  | 0x0D => some { ty := (.u 4) }  -- REFUSED_COUNT
  | 0x0E => some { ty := (.u 4) }  -- S_OVER_COUNT
  | 0x0F => some { ty := (.u 4) }  -- WAIT_MAX
  | 0x10 => some { ty := (.u 2) }  -- SHED_COUNT
  | _ => none

/-- Record 0x2210+c: Default profile, index 0x2210 + c (spec/05_admission_arbiter.md). -/
def defRec (n sub : Nat) : Option Desc :=
  match sub with
  | 0x00 => some { ty := (.u 1), dflt := 0x7 }
  | 0x01 => some { ty := (.u 1), access := .rw, role := .maker, kind := .cfg, dflt := (if n = 1 then 1 else 0), spans := [(0, 1)] }  -- DEF_KIND
  | 0x02 => some { ty := (.u 2), access := .rw, role := .maker, kind := .cfg, dflt := [2000, 600, 50, 160].getD n 0 }  -- DEF_PEAK
  | 0x03 => some { ty := (.u 2), access := .rw, role := .maker, kind := .cfg, dflt := [1000, 200, 10, 0].getD n 0 }  -- DEF_TAU
  | 0x04 => some { ty := (.u 2), access := .rw, role := .maker, kind := .cfg, dflt := [1000, 250, 50, 160].getD n 0 }  -- DEF_SETTLED
  | 0x05 => some { ty := (.u 2), access := .rw, role := .maker, kind := .cfg, dflt := [1000, 200, 100, 250].getD n 0, spans := [(10, 65535)] }  -- DEF_RISE
  | 0x06 => some { ty := (.u 2), access := .rw, role := .maker, kind := .cfg, dflt := [5, 150, 25, 80].getD n 0 }  -- DEF_P_PEAK
  | 0x07 => some { ty := (.u 2), access := .rw, role := .maker, kind := .cfg, dflt := [5, 60, 25, 80].getD n 0 }  -- DEF_P_SETTLED
  | _ => none

/-- Record 0x2220: Channel admission query, index 0x2220 (spec/05_admission_arbiter.md). -/
def adqRec (sub : Nat) : Option Desc :=
  match sub with
  | 0x00 => some { ty := (.u 1), dflt := 0x4, perSession := true }
  | 0x01 => some { ty := (.u 4), access := .rw, kind := .cmd, sig := .adq, perSession := true }  -- ADQ_SIGNAL
  | 0x02 => some { ty := (.u 1), perSession := true }  -- ADQ_STATE
  | 0x03 => some { ty := (.u 2), perSession := true }  -- ADQ_PRESENT
  | 0x04 => some { ty := (.u 4), perSession := true }  -- ADQ_WAIT
  | _ => none

/-- Record 0x4000+X: Channel configuration, index 0x4000 + X (spec/06_gate_drivers.md). -/
def gdCRec (sub : Nat) : Option Desc :=
  match sub with
  | 0x00 => some { ty := (.u 1), dflt := 0xF }
  | 0x01 => some { ty := (.u 1), access := .rw, role := .maker, kind := .cfg, spans := [(0, 4)] }  -- GD_MODE
  | 0x02 => some { ty := (.u 2), access := .rw, role := .maker, kind := .cfg, dflt := 100, spans := [(10, 400)], step := 10 }  -- GATE_SOURCE_I
  | 0x03 => some { ty := (.u 2), access := .rw, role := .maker, kind := .cfg, dflt := 100, spans := [(10, 400)], step := 10 }  -- GATE_SINK_I
  | 0x04 => some { ty := (.u 2), access := .rw, role := .maker, kind := .cfg, dflt := 20, spans := [(10, 100)], step := 10 }  -- SOFT_OFF_I
  | 0x05 => some { ty := (.u 4), access := .rw, role := .service, kind := .cfg, spans := [(0, 0), (4000, 10000000)] }  -- PWM_PERIOD
  | 0x06 => some { ty := (.u 4), access := .rw, role := .service, kind := .cfg, spans := [(0, 9999999)] }  -- PWM_PHASE
  | 0x07 => some { ty := (.u 1), access := .rw, role := .maker, kind := .cfg, dflt := 6, spans := [(0, 15)] }  -- VDS_THR
  | 0x08 => some { ty := (.u 1), access := .rw, role := .maker, kind := .cfg, dflt := 6, spans := [(0, 15)] }  -- SS_VDS_THR
  | 0x09 => some { ty := (.u 1), access := .rw, role := .maker, kind := .cfg, dflt := 45, spans := [(20, 60)] }  -- VPLAT
  | 0x0A => some { ty := (.u 1), access := .rw, role := .maker, kind := .cfg, dflt := 10, spans := [(5, 20)] }  -- ENV_SPAN
  | 0x0B => some { ty := (.u 2), access := .rw, role := .maker, kind := .cfg, dflt := 60, spans := [(5, 500)] }  -- RAMP_MAX
  | 0x0C => some { ty := (.u 2), access := .rw, role := .service, kind := .cfg, spans := [(0, 10000)] }  -- SOFT_TIME
  | 0x0D => some { ty := (.u 2), access := .rw, role := .maker, kind := .cfg, dflt := 50, spans := [(10, 1000)] }  -- DEAD_TIME
  | 0x0E => some { ty := .bool, access := .rw, role := .maker, kind := .cfg, dflt := 1 }  -- HB_SYNC
  | 0x0F => some { ty := (.u 2), access := .rw, role := .maker, kind := .cfg, dflt := 100, spans := [(1, 2000)] }  -- MOSFET_QG
  | _ => none

/-- Record 0x4001+X: Channel diagnostics, index 0x4001 + X (spec/06_gate_drivers.md). -/
def gdDRec (sub : Nat) : Option Desc :=
  match sub with
  | 0x00 => some { ty := (.u 1), dflt := 0xC }
  | 0x01 => some { ty := .bool, access := .rw, role := .service, kind := .cfg }  -- OFF_DIAG_ENABLE
  | 0x02 => some { ty := (.u 2), access := .rw, role := .service, kind := .cfg, dflt := 100, spans := [(10, 1000)] }  -- OFF_DIAG_PERIOD
  | 0x03 => some { ty := (.u 1), access := .rw, role := .service, kind := .cfg, dflt := 10, spans := [(1, 255)] }  -- OFF_DIAG_SETTLE
  | 0x04 => some { ty := (.u 2), access := .rw, role := .service, kind := .cfg, spans := [(0, 1000)] }  -- OL_CURRENT
  | 0x05 => some { ty := (.u 2), access := .rw, role := .service, kind := .cfg, dflt := 100, spans := [(1, 10000)] }  -- OL_TIME
  | 0x06 => some { ty := (.u 1), access := .rw, role := .service, kind := .cfg, dflt := 3, spans := [(0, 15), (255, 255)] }  -- RETRY_COUNT
  | 0x07 => some { ty := (.u 2), access := .rw, role := .service, kind := .cfg, dflt := 100, spans := [(1, 10000)] }  -- RETRY_DELAY
  | 0x08 => some { ty := (.u 2), access := .rw, role := .service, kind := .cfg, dflt := 60, spans := [(1, 3600)] }  -- RETRY_RESET
  | 0x09 => some { ty := (.u 2), access := .rw, role := .maker, kind := .cfg, spans := [(0, 10000)] }  -- TH_RTH
  | 0x0A => some { ty := (.u 2), access := .rw, role := .maker, kind := .cfg, dflt := 1000, spans := [(10, 60000)] }  -- TH_TAU
  | 0x0B => some { ty := (.u 1), access := .rw, role := .maker, kind := .cfg, dflt := 175, spans := [(100, 200)] }  -- TH_TJ_MAX
  | 0x0C => some { ty := (.u 4), access := .rw, role := .maker, kind := .cfg, sig := .ms64 }  -- TH_SENSOR
  | _ => none

/-- Record 0x4002+X: Channel status, index 0x4002 + X (spec/06_gate_drivers.md). -/
def gdSRec (sub : Nat) : Option Desc :=
  match sub with
  | 0x00 => some { ty := (.u 1), dflt := 0xA }
  | 0x01 => some { ty := (.bits 2), mappable := true }  -- GD_STATUS
  | 0x02 => some { ty := (.u 2), mappable := true }  -- APPLIED_VALUE
  | 0x03 => some { ty := (.i 2), mappable := true }  -- VDS_MEAS
  | 0x04 => some { ty := (.u 2), mappable := true }  -- I_EST
  | 0x05 => some { ty := (.i 2) }  -- T_EST
  | 0x06 => some { ty := (.u 2) }  -- GATE_TON
  | 0x07 => some { ty := (.u 1) }  -- RETRIES_USED
  | 0x08 => some { ty := (.u 4) }  -- TRIP_COUNT
  | 0x09 => some { ty := (.u 1) }  -- OFF_DIAG_RESULT
  | 0x0A => some { ty := (.u 2) }  -- LAST_TRIP_VDS
  | _ => none

/-- Record 0x4003+X: Channel commands, index 0x4003 + X (spec/06_gate_drivers.md). -/
def gdXRec (sub : Nat) : Option Desc :=
  match sub with
  | 0x00 => some { ty := (.u 1), dflt := 0x2 }
  | 0x01 => some { ty := (.u 1), access := .wo, kind := .cmd, spans := [(1, 1)] }  -- FAULT_CLEAR
  | 0x02 => some { ty := (.u 1), access := .wo, role := .service, kind := .cmd, spans := [(1, 1)] }  -- DIAG_RUN
  | _ => none

/-- Record 0x4200+Y: Bridge configuration, index 0x4200 + Y (spec/07_motors_and_fans.md). -/
def brCRec (n sub : Nat) : Option Desc :=
  match sub with
  | 0x00 => some { ty := (.u 1), dflt := 0xB }
  | 0x01 => some { ty := (.u 1), access := .rw, role := .maker, kind := .cfg, spans := [(0, 5)] }  -- BR_FUNCTION
  | 0x02 => some { ty := (.u 1), access := .rw, role := .maker, kind := .cfg, dflt := 2 * n, spans := [(0, 11)] }  -- BR_PAIR_A
  | 0x03 => some { ty := (.u 1), access := .rw, role := .maker, kind := .cfg, dflt := 2 * n + 1, spans := [(0, 11)] }  -- BR_PAIR_B
  | 0x04 => some { ty := (.u 2), access := .rw, role := .service, kind := .cfg, dflt := 10000, spans := [(1, 10000)] }  -- BR_DUTY
  | 0x05 => some { ty := (.u 2), access := .rw, role := .service, kind := .cfg, dflt := 20, spans := [(0, 1000)] }  -- BR_BRAKE_TIME
  | 0x06 => some { ty := (.u 2), access := .rw, role := .maker, kind := .cfg, dflt := 1000, spans := [(10, 10000)] }  -- STALL_I
  | 0x07 => some { ty := (.u 2), access := .rw, role := .maker, kind := .cfg, dflt := 100, spans := [(10, 5000)] }  -- STALL_TIME
  | 0x08 => some { ty := (.u 2), access := .rw, role := .service, kind := .cfg, dflt := 10000, spans := [(0, 0), (100, 60000)] }  -- RUN_MAX
  | 0x09 => some { ty := (.u 1), access := .rw, role := .service, kind := .cfg, dflt := 0xFF, spans := [(0, 15), (255, 255)] }  -- FEEDBACK_DIN
  | 0x0A => some { ty := (.u 2), access := .rw, role := .service, kind := .cfg, spans := [(0, 1000)] }  -- OL_BRIDGE
  | 0x0B => some { ty := (.u 2), access := .rw, role := .maker, kind := .cfg, dflt := 20, spans := [(1, 1000)] }  -- RIPPLE_HYST
  | _ => none

/-- Record 0x4201+Y: Bridge function parameters, index 0x4201 + Y (spec/07_motors_and_fans.md). -/
def brFRec (sub : Nat) : Option Desc :=
  match sub with
  | 0x00 => some { ty := (.u 1), dflt := 0x9 }
  | 0x01 => some { ty := (.u 2), access := .rw, role := .maker, kind := .cfg, dflt := 2000, spans := [(100, 60000)] }  -- TRAVEL
  | 0x02 => some { ty := (.u 2), access := .rw, role := .maker, kind := .cfg, dflt := 100, spans := [(20, 500)] }  -- PINCH_FORCE
  | 0x03 => some { ty := (.u 2), access := .rw, role := .maker, kind := .cfg, dflt := 250, spans := [(1, 10000)] }  -- FORCE_GAIN
  | 0x04 => some { ty := (.u 1), access := .rw, role := .maker, kind := .cfg, dflt := 2, spans := [(1, 20)] }  -- PINCH_CONFIRM
  | 0x05 => some { ty := (.u 2), access := .rw, role := .maker, kind := .cfg, dflt := 40, spans := [(0, 1000)] }  -- SEAL_ZONE
  | 0x06 => some { ty := (.u 2), access := .rw, role := .maker, kind := .cfg, dflt := 300, spans := [(0, 60000)] }  -- REVERSE_RIPPLES
  | 0x07 => some { ty := (.u 2), access := .rw, role := .service, kind := .cfg, dflt := 300, spans := [(50, 2000)] }  -- PULSE_TIME
  | 0x08 => some { ty := (.u 2), access := .rw, role := .service, kind := .cfg, dflt := 50, spans := [(10, 300)] }  -- WIPE_INTERVAL
  | 0x09 => some { ty := (.u 2), access := .rw, role := .service, kind := .cfg, dflt := 6000, spans := [(1, 10000)] }  -- SLOW_DUTY
  | _ => none

/-- Record 0x4202+Y: Bridge status and commands, indices 0x4202 + Y and 0x4203 + Y (spec/07_motors_and_fans.md). -/
def brSRec (sub : Nat) : Option Desc :=
  match sub with
  | 0x00 => some { ty := (.u 1), dflt := 0x6 }
  | 0x01 => some { ty := (.u 1), mappable := true }  -- BR_STATE
  | 0x02 => some { ty := (.bits 2), mappable := true }  -- BR_FLAGS
  | 0x03 => some { ty := (.u 2), dflt := 0xFFFF, mappable := true }  -- POSITION
  | 0x04 => some { ty := (.i 4) }  -- RIPPLE_POS
  | 0x05 => some { ty := (.u 2), mappable := true }  -- BR_CURRENT
  | 0x06 => some { ty := (.u 2) }  -- FORCE_EST
  | _ => none

/-- Record 0x4203+Y: Bridge status and commands, indices 0x4202 + Y and 0x4203 + Y (spec/07_motors_and_fans.md). -/
def brXRec (sub : Nat) : Option Desc :=
  match sub with
  | 0x00 => some { ty := (.u 1), dflt := 0x2 }
  | 0x01 => some { ty := (.u 1), access := .wo, kind := .cmd, spans := [(1, 1)] }  -- BR_CLEAR
  | 0x02 => some { ty := (.u 1), access := .wo, role := .service, kind := .cmd, spans := [(1, 1)] }  -- BR_FORGET
  | _ => none

/-- Record 0x4300+Z: Fan objects (spec/07_motors_and_fans.md). -/
def fanCRec (sub : Nat) : Option Desc :=
  match sub with
  | 0x00 => some { ty := (.u 1), dflt := 0xC }
  | 0x01 => some { ty := (.u 1), access := .rw, role := .maker, kind := .cfg, dflt := 0xFF, spans := [(0, 11), (255, 255)] }  -- FAN_PAIR
  | 0x02 => some { ty := (.u 1), access := .rw, role := .service, kind := .cfg, spans := [(0, 1)] }  -- FAN_CONTROL
  | 0x03 => some { ty := (.u 1), access := .rw, role := .service, kind := .cfg, dflt := 0xFF, spans := [(0, 3), (255, 255)] }  -- FAN_TACH
  | 0x04 => some { ty := (.u 1), access := .rw, role := .service, kind := .cfg, dflt := 2, spans := [(1, 16)] }  -- TACH_PER_REV
  | 0x05 => some { ty := (.u 1), access := .rw, role := .service, kind := .cfg, spans := [(0, 64)] }  -- RIPPLES_PER_REV
  | 0x06 => some { ty := (.u 2), access := .rw, role := .service, kind := .cfg, dflt := 4000, spans := [(100, 10000)] }  -- MAX_SPEED
  | 0x07 => some { ty := (.u 2), access := .rw, role := .service, kind := .cfg, dflt := 5000, spans := [(1, 10000)] }  -- START_DUTY
  | 0x08 => some { ty := (.u 2), access := .rw, role := .service, kind := .cfg, dflt := 2000, spans := [(200, 10000)] }  -- SPINUP_TIME
  | 0x09 => some { ty := (.u 2), access := .rw, role := .maker, kind := .cfg, dflt := 1500, spans := [(10, 10000)] }  -- FAN_STALL_I
  | 0x0A => some { ty := (.u 2), access := .rw, role := .maker, kind := .cfg, dflt := 300, spans := [(50, 2000)] }  -- FAN_STALL_TIME
  | 0x0B => some { ty := (.u 2), access := .rw, role := .service, kind := .cfg, dflt := 5, spans := [(0, 1000)] }  -- FAN_KP
  | 0x0C => some { ty := (.u 2), access := .rw, role := .service, kind := .cfg, dflt := 20, spans := [(0, 1000)] }  -- FAN_KI
  | _ => none

/-- Record 0x4301+Z: Fan objects (spec/07_motors_and_fans.md). -/
def fanSRec (sub : Nat) : Option Desc :=
  match sub with
  | 0x00 => some { ty := (.u 1), dflt := 0x6 }
  | 0x01 => some { ty := (.u 1), mappable := true }  -- FAN_STATE
  | 0x02 => some { ty := (.u 2), mappable := true }  -- FAN_SPEED
  | 0x03 => some { ty := (.u 1) }  -- SPEED_SOURCE
  | 0x04 => some { ty := (.bits 1), mappable := true }  -- FAN_FLAGS
  | 0x05 => some { ty := (.u 1) }  -- ATTEMPTS
  | 0x06 => some { ty := (.u 2) }  -- RIPPLE_RATIO
  | _ => none

/-- Record 0x4302+Z: Fan objects (spec/07_motors_and_fans.md). -/
def fanXRec (sub : Nat) : Option Desc :=
  match sub with
  | 0x00 => some { ty := (.u 1), dflt := 0x1 }
  | 0x01 => some { ty := (.u 1), access := .wo, kind := .cmd, spans := [(1, 1)] }  -- FAN_CLEAR
  | _ => none

/-- Record 0x4400+X: Channel configuration, index 0x4400 + X (spec/08_solenoid_drive.md). -/
def svCRec (sub : Nat) : Option Desc :=
  match sub with
  | 0x00 => some { ty := (.u 1), dflt := 0xF }
  | 0x01 => some { ty := (.u 1), access := .rw, role := .maker, kind := .cfg, spans := [(0, 2)] }  -- SV_MODE
  | 0x02 => some { ty := .bool, access := .rw, role := .maker, kind := .cfg }  -- SV_PAIR
  | 0x03 => some { ty := (.u 2), access := .rw, role := .service, kind := .cfg, dflt := 2000, spans := [(100, 12000)] }  -- SV_PEAK_CURRENT, doubled on a pair (R206)
  | 0x04 => some { ty := (.u 2), access := .rw, role := .service, kind := .cfg, dflt := 500, spans := [(0, 5000)] }  -- SV_HOLD_NOM, doubled on a pair (R206)
  | 0x05 => some { ty := (.u 1), access := .rw, role := .maker, kind := .cfg, spans := [(0, 1)] }  -- BOOST_SOURCE
  | 0x06 => some { ty := (.u 2), access := .rw, role := .service, kind := .cfg, dflt := 2000, spans := [(10, 20000)] }  -- BOOST_MAX
  | 0x07 => some { ty := (.u 2), access := .rw, role := .service, kind := .cfg, dflt := 2000, spans := [(0, 50000)] }  -- PEAK_TIME
  | 0x08 => some { ty := (.u 1), access := .rw, role := .maker, kind := .cfg, spans := [(0, 1)] }  -- OFF_MODE
  | 0x09 => some { ty := (.u 1), access := .rw, role := .maker, kind := .cfg, spans := [(0, 2)] }  -- RANGE_MODE
  | 0x0A => some { ty := (.u 4), access := .rw, role := .service, kind := .cfg, dflt := 5000, spans := [(4000, 25000)] }  -- CHOP_PERIOD
  | 0x0B => some { ty := (.u 4), access := .rw, role := .service, kind := .cfg, spans := [(0, 24999)] }  -- CHOP_PHASE
  | 0x0C => some { ty := (.u 2), access := .rw, role := .service, kind := .cfg, spans := [(0, 500)] }  -- DITHER_AMPL
  | 0x0D => some { ty := (.u 2), access := .rw, role := .service, kind := .cfg, dflt := 100, spans := [(20, 500)] }  -- DITHER_PERIOD
  | 0x0E => some { ty := (.u 1), access := .rw, role := .service, kind := .cfg, spans := [(0, 2)] }  -- MOVE_CLASS
  | 0x0F => some { ty := (.u 1), access := .rw, role := .service, kind := .cfg, dflt := 10, spans := [(1, 50)] }  -- REG_BAND
  | _ => none

/-- Record 0x4401+X: Channel diagnostics and movement, index 0x4401 + X (spec/08_solenoid_drive.md). -/
def svDRec (sub : Nat) : Option Desc :=
  match sub with
  | 0x00 => some { ty := (.u 1), dflt := 0xC }
  | 0x01 => some { ty := .bool, access := .rw, role := .service, kind := .cfg }  -- OFF_DIAG_ENABLE
  | 0x02 => some { ty := (.u 2), access := .rw, role := .service, kind := .cfg, dflt := 100, spans := [(10, 1000)] }  -- OFF_DIAG_PERIOD
  | 0x03 => some { ty := (.u 1), access := .rw, role := .service, kind := .cfg, dflt := 10, spans := [(1, 255)] }  -- OFF_DIAG_SETTLE
  | 0x04 => some { ty := (.u 2), access := .rw, role := .service, kind := .cfg, dflt := 50, spans := [(10, 1000)] }  -- OPEN_I
  | 0x05 => some { ty := (.u 2), access := .rw, role := .maker, kind := .cfg, dflt := 100, spans := [(20, 1000)] }  -- LEAK_I
  | 0x06 => some { ty := (.u 1), access := .rw, role := .service, kind := .cfg, dflt := 3, spans := [(0, 15), (255, 255)] }  -- RETRY_COUNT
  | 0x07 => some { ty := (.u 2), access := .rw, role := .service, kind := .cfg, dflt := 100, spans := [(1, 10000)] }  -- RETRY_DELAY
  | 0x08 => some { ty := (.u 2), access := .rw, role := .service, kind := .cfg, dflt := 60, spans := [(1, 3600)] }  -- RETRY_RESET
  | 0x09 => some { ty := (.u 2), access := .rw, role := .service, kind := .cfg, spans := [(0, 50000)] }  -- MOVE_WIN_START
  | 0x0A => some { ty := (.u 2), access := .rw, role := .service, kind := .cfg, dflt := 20000, spans := [(100, 50000)] }  -- MOVE_WIN_END
  | 0x0B => some { ty := (.u 2), access := .rw, role := .service, kind := .cfg, dflt := 20, spans := [(1, 5000)] }  -- MOVE_THRESHOLD
  | 0x0C => some { ty := (.u 1), access := .rw, role := .service, kind := .cfg, dflt := 3, spans := [(1, 255)] }  -- MOVE_MISS_LIMIT
  | _ => none

/-- Record 0x4402+X: Channel status, index 0x4402 + X (spec/08_solenoid_drive.md). -/
def svSRec (sub : Nat) : Option Desc :=
  match sub with
  | 0x00 => some { ty := (.u 1), dflt := 0xC }
  | 0x01 => some { ty := (.bits 2), mappable := true }  -- SV_STATUS
  | 0x02 => some { ty := (.u 1), mappable := true }  -- SV_PHASE
  | 0x03 => some { ty := (.u 2), mappable := true }  -- I_MEAS
  | 0x04 => some { ty := (.i 2) }  -- I_DIFF
  | 0x05 => some { ty := (.u 2), mappable := true }  -- BOOST_TIME
  | 0x06 => some { ty := (.u 2), mappable := true }  -- MOVE_TIME
  | 0x07 => some { ty := (.u 1), mappable := true }  -- MOVE_RESULT
  | 0x08 => some { ty := (.u 1) }  -- OFF_DIAG_RESULT
  | 0x09 => some { ty := (.u 4) }  -- TRIP_COUNT
  | 0x0A => some { ty := (.u 1) }  -- RETRIES_USED
  | 0x0B => some { ty := (.u 1), dflt := 1, mappable := true }  -- RANGE
  | 0x0C => some { ty := (.i 2) }  -- STAGE_TEMP
  | _ => none

/-- Record 0x4403+X: Channel commands, index 0x4403 + X (spec/08_solenoid_drive.md). -/
def svXRec (sub : Nat) : Option Desc :=
  match sub with
  | 0x00 => some { ty := (.u 1), dflt := 0x3 }
  | 0x01 => some { ty := (.u 1), access := .wo, kind := .cmd, spans := [(1, 1)] }  -- FAULT_CLEAR
  | 0x02 => some { ty := (.u 1), access := .wo, role := .service, kind := .cmd, spans := [(1, 1)] }  -- DIAG_RUN
  | 0x03 => some { ty := (.u 1), access := .wo, kind := .cmd, spans := [(1, 1)] }  -- RETRIGGER
  | _ => none

/-- Record 0x4800+c: DIN objects (spec/09_field_inputs_outputs.md). -/
def dinCRec (sub : Nat) : Option Desc :=
  match sub with
  | 0x00 => some { ty := (.u 1), dflt := 0x4 }
  | 0x01 => some { ty := (.u 1), access := .rw, role := .maker, kind := .cfg, spans := [(0, 2)] }  -- DIN_SET
  | 0x02 => some { ty := (.u 1), access := .rw, role := .service, kind := .cfg, dflt := 10 }  -- DIN_FILTER
  | 0x03 => some { ty := .bool, access := .rw, role := .service, kind := .cfg }  -- DIN_INVERT
  | 0x04 => some { ty := (.u 1), access := .rw, role := .service, kind := .cfg }  -- CHATTER_LIMIT
  | _ => none

/-- Record 0x4810+c: DIN objects (spec/09_field_inputs_outputs.md). -/
def dinSRec (sub : Nat) : Option Desc :=
  match sub with
  | 0x00 => some { ty := (.u 1), dflt := 0x4 }
  | 0x01 => some { ty := .bool, mappable := true }  -- DIN_STATE
  | 0x02 => some { ty := (.u 1) }  -- DIN_FAULT
  | 0x03 => some { ty := (.u 4), mappable := true }  -- DIN_EDGES
  | 0x04 => some { ty := (.u 8) }  -- DIN_LAST_EDGE
  | _ => none

/-- Record 0x4820+d: DOUT objects (spec/09_field_inputs_outputs.md). -/
def doCRec (sub : Nat) : Option Desc :=
  match sub with
  | 0x00 => some { ty := (.u 1), dflt := 0xA }
  | 0x01 => some { ty := .bool, access := .rw, role := .maker, kind := .cfg }  -- DOUT_ENABLE
  | 0x02 => some { ty := (.u 4), access := .rw, role := .service, kind := .cfg, spans := [(0, 0), (100000, 10000000)] }  -- PWM_PERIOD
  | 0x03 => some { ty := (.u 4), access := .rw, role := .service, kind := .cfg, spans := [(0, 9999999)] }  -- PWM_PHASE
  | 0x04 => some { ty := .bool, access := .rw, role := .service, kind := .cfg }  -- OFF_DIAG_ENABLE
  | 0x05 => some { ty := (.u 2), access := .rw, role := .service, kind := .cfg, dflt := 100, spans := [(10, 1000)] }  -- OFF_DIAG_PERIOD
  | 0x06 => some { ty := (.u 2), access := .rw, role := .service, kind := .cfg, spans := [(0, 50)] }  -- OL_CURRENT
  | 0x07 => some { ty := (.u 2), access := .rw, role := .service, kind := .cfg, dflt := 100, spans := [(1, 10000)] }  -- OL_TIME
  | 0x08 => some { ty := (.u 1), access := .rw, role := .service, kind := .cfg, dflt := 3, spans := [(0, 15), (255, 255)] }  -- RETRY_COUNT
  | 0x09 => some { ty := (.u 2), access := .rw, role := .service, kind := .cfg, dflt := 100, spans := [(1, 10000)] }  -- RETRY_DELAY
  | 0x0A => some { ty := (.u 2), access := .rw, role := .service, kind := .cfg, dflt := 60, spans := [(1, 3600)] }  -- RETRY_RESET
  | _ => none

/-- Record 0x4828+d: DOUT objects (spec/09_field_inputs_outputs.md). -/
def doSRec (sub : Nat) : Option Desc :=
  match sub with
  | 0x00 => some { ty := (.u 1), dflt := 0x4 }
  | 0x01 => some { ty := (.bits 2), mappable := true }  -- DOUT_STATUS
  | 0x02 => some { ty := (.u 2), mappable := true }  -- APPLIED_VALUE
  | 0x03 => some { ty := (.u 2), mappable := true }  -- I_MEAS
  | 0x04 => some { ty := (.u 4) }  -- TRIP_COUNT
  | _ => none

/-- Record 0x4830+d: DOUT objects (spec/09_field_inputs_outputs.md). -/
def doXRec (sub : Nat) : Option Desc :=
  match sub with
  | 0x00 => some { ty := (.u 1), dflt := 0x2 }
  | 0x01 => some { ty := (.u 1), access := .wo, kind := .cmd, spans := [(1, 1)] }  -- FAULT_CLEAR
  | 0x02 => some { ty := (.u 1), access := .wo, role := .service, kind := .cmd, spans := [(1, 1)] }  -- DIAG_RUN
  | _ => none

/-- Record 0x4900+c: AIN and VSENS objects (spec/09_field_inputs_outputs.md). -/
def ainCRec (sub : Nat) : Option Desc :=
  match sub with
  | 0x00 => some { ty := (.u 1), dflt := 0xD }
  | 0x01 => some { ty := (.u 1), access := .rw, role := .maker, kind := .cfg, spans := [(0, 3)] }  -- AIN_KIND
  | 0x02 => some { ty := (.u 1), access := .rw, role := .maker, kind := .cfg, spans := [(0, 1)] }  -- AIN_REF
  | 0x03 => some { ty := (.u 1), access := .rw, role := .maker, kind := .cfg, dflt := 2, spans := [(0, 2)] }  -- AIN_PULLUP
  | 0x04 => some { ty := (.u 2), access := .rw, role := .service, kind := .cfg, dflt := 1000, spans := [(20, 10000)], step := 20 }  -- AIN_PERIOD
  | 0x05 => some { ty := (.u 1), access := .rw, role := .service, kind := .cfg, spans := [(0, 8)] }  -- AIN_AVG
  | 0x06 => some { ty := (.u 4), access := .rw, role := .service, kind := .cfg, dflt := 10000, spans := [(100, 1000000)] }  -- AIN_NTC_R25
  | 0x07 => some { ty := (.u 2), access := .rw, role := .service, kind := .cfg, spans := [(0, 0), (1000, 10000)] }  -- AIN_NTC_B
  | 0x08 => some { ty := (.i 4), access := .rw, role := .service, kind := .cfg, dflt := 0x7FFFFFFF }  -- AIN_HI
  | 0x09 => some { ty := (.i 4), access := .rw, role := .service, kind := .cfg, dflt := 0x80000000 }  -- AIN_LO
  | 0x0A => some { ty := (.u 4), access := .rw, role := .service, kind := .cfg }  -- AIN_HYST
  | 0x0B => some { ty := (.u 2), access := .rw, role := .maker, kind := .cfg, dflt := 300, spans := [(100, 2000)] }  -- BREAK_SHIFT
  | 0x0C => some { ty := (.u 1), access := .rw, role := .service, kind := .cfg, spans := [(0, 1)] }  -- BREAK_MODE
  | 0x0D => some { ty := (.i 4), access := .rw, role := .service, kind := .cfg }  -- AIN_SUBST
  | _ => none

/-- Record 0x4910+c: AIN and VSENS objects (spec/09_field_inputs_outputs.md). -/
def ainSRec (sub : Nat) : Option Desc :=
  match sub with
  | 0x00 => some { ty := (.u 1), dflt := 0x4 }
  | 0x01 => some { ty := (.i 4), mappable := true }  -- AIN_VALUE
  | 0x02 => some { ty := (.u 1), mappable := true }  -- AIN_STATE
  | 0x03 => some { ty := (.u 2) }  -- AIN_BALL_MV
  | 0x04 => some { ty := (.u 4) }  -- BREAK_COUNT
  | _ => none

/-- Record 0x4920: AIN and VSENS objects (spec/09_field_inputs_outputs.md). -/
def vsRec (sub : Nat) : Option Desc :=
  match sub with
  | 0x00 => some { ty := (.u 1), dflt := 0x4 }
  | 0x01 => some { ty := .bool, access := .rw, role := .maker, kind := .cfg, dflt := 1 }  -- VSENS0_ENABLE
  | 0x02 => some { ty := .bool, access := .rw, role := .maker, kind := .cfg, dflt := 1 }  -- VSENS1_ENABLE
  | 0x03 => some { ty := (.u 1) }  -- VSENS0_STATE
  | 0x04 => some { ty := (.u 1) }  -- VSENS1_STATE
  | _ => none

/-- Record 0x4A00+t: TACH objects (spec/09_field_inputs_outputs.md). -/
def tacCRec (sub : Nat) : Option Desc :=
  match sub with
  | 0x00 => some { ty := (.u 1), dflt := 0x9 }
  | 0x01 => some { ty := .bool, access := .rw, role := .service, kind := .cfg }  -- TACH_ENABLE
  | 0x02 => some { ty := (.u 1), access := .rw, role := .maker, kind := .cfg, spans := [(0, 1)] }  -- TACH_THRESH
  | 0x03 => some { ty := .bool, access := .rw, role := .maker, kind := .cfg }  -- TACH_PULLUP
  | 0x04 => some { ty := (.u 2), access := .rw, role := .service, kind := .cfg, dflt := 20, spans := [(1, 1000)] }  -- TACH_MIN_PULSE
  | 0x05 => some { ty := (.u 1), access := .rw, role := .service, kind := .cfg, dflt := 1, spans := [(1, 64)] }  -- TACH_AVG
  | 0x06 => some { ty := (.u 2), access := .rw, role := .service, kind := .cfg, dflt := 1000, spans := [(10, 60000)] }  -- TACH_TIMEOUT
  | 0x07 => some { ty := (.u 4), access := .rw, role := .service, kind := .cfg, dflt := 5000000 }  -- TACH_HI
  | 0x08 => some { ty := (.u 4), access := .rw, role := .service, kind := .cfg }  -- TACH_LO
  | 0x09 => some { ty := (.u 4), access := .rw, role := .service, kind := .cfg }  -- TACH_HYST
  | _ => none

/-- Record 0x4A10+t: TACH objects (spec/09_field_inputs_outputs.md). -/
def tacSRec (sub : Nat) : Option Desc :=
  match sub with
  | 0x00 => some { ty := (.u 1), dflt := 0x4 }
  | 0x01 => some { ty := (.u 4), mappable := true }  -- TACH_FREQ
  | 0x02 => some { ty := (.u 1), mappable := true }  -- TACH_STATE
  | 0x03 => some { ty := (.u 4) }  -- TACH_EDGES
  | 0x04 => some { ty := (.u 4) }  -- TACH_PERIOD
  | _ => none

/-- Record 0x4C00+X: Passport, indices 0x4C00 + X to 0x4C03 + X (spec/10_load_measurement.md). -/
def ppCRec (sub : Nat) : Option Desc :=
  match sub with
  | 0x00 => some { ty := (.u 1), dflt := 0xD }
  | 0x01 => some { ty := (.u 1), access := .rw, role := .service, kind := .cfg, spans := [(0, 5)] }  -- PP_KIND
  | 0x02 => some { ty := (.u 1), access := .rw, role := .service, kind := .cfg, dflt := 1, spans := [(0, 2)] }  -- PP_LEARN
  | 0x03 => some { ty := (.u 4), access := .rw, role := .service, kind := .cfg }  -- DECL_R_COLD
  | 0x04 => some { ty := (.u 4), access := .rw, role := .service, kind := .cfg }  -- DECL_R_HOT
  | 0x05 => some { ty := (.u 4), access := .rw, role := .service, kind := .cfg }  -- DECL_L
  | 0x06 => some { ty := (.u 2), access := .rw, role := .service, kind := .cfg }  -- DECL_I_PK
  | 0x07 => some { ty := (.u 2), access := .rw, role := .service, kind := .cfg }  -- DECL_TAU
  | 0x08 => some { ty := (.u 2), access := .rw, role := .service, kind := .cfg }  -- DECL_I_SET
  | 0x09 => some { ty := (.u 2), access := .rw, role := .service, kind := .cfg }  -- R_WIRE
  | 0x0A => some { ty := (.u 2), access := .rw, role := .service, kind := .cfg, dflt := 60, spans := [(1, 3600)] }  -- PP_COOL_TIME
  | 0x0B => some { ty := (.u 1), access := .rw, role := .service, kind := .cfg, dflt := 20, spans := [(0, 100)] }  -- DRIFT_LIMIT
  | 0x0C => some { ty := (.u 1), access := .rw, role := .service, kind := .cfg, dflt := 3, spans := [(1, 32)] }  -- DRIFT_COUNT
  | 0x0D => some { ty := (.u 2), access := .rw, role := .service, kind := .cfg, dflt := 24000, spans := [(6000, 36000)] }  -- PP_VNOM
  | _ => none

/-- Record 0x4C01+X: Passport, indices 0x4C00 + X to 0x4C03 + X (spec/10_load_measurement.md). -/
def ppSRec (sub : Nat) : Option Desc :=
  match sub with
  | 0x00 => some { ty := (.u 1), dflt := 0xD }
  | 0x01 => some { ty := (.u 1) }  -- PP_SOURCE
  | 0x02 => some { ty := (.u 4) }  -- R_COLD
  | 0x03 => some { ty := (.u 4) }  -- R_HOT
  | 0x04 => some { ty := (.u 4) }  -- L
  | 0x05 => some { ty := (.u 2) }  -- I_PK
  | 0x06 => some { ty := (.u 2) }  -- TAU
  | 0x07 => some { ty := (.u 2), mappable := true }  -- I_SET
  | 0x08 => some { ty := (.u 2) }  -- P_PK
  | 0x09 => some { ty := (.u 2) }  -- P_SET
  | 0x0A => some { ty := (.u 2) }  -- ENV_I_MAX
  | 0x0B => some { ty := (.i 2) }  -- ENV_T_MIN
  | 0x0C => some { ty := (.i 2) }  -- ENV_T_MAX
  | 0x0D => some { ty := (.u 4) }  -- LEARN_COUNT
  | _ => none

/-- Record 0x4C02+X: Passport, indices 0x4C00 + X to 0x4C03 + X (spec/10_load_measurement.md). -/
def ppRRec (sub : Nat) : Option Desc :=
  match sub with
  | 0x00 => some { ty := (.u 1), dflt := 0x5 }
  | 0x01 => some { ty := (.u 4) }  -- REF_R_COLD
  | 0x02 => some { ty := (.u 4) }  -- REF_R_HOT
  | 0x03 => some { ty := (.u 2) }  -- REF_I_SET
  | 0x04 => some { ty := (.u 4) }  -- REF_L
  | 0x05 => some { ty := (.bits 1) }  -- DRIFT
  | _ => none

/-- Record 0x4C03+X: Passport, indices 0x4C00 + X to 0x4C03 + X (spec/10_load_measurement.md). -/
def ppXRec (sub : Nat) : Option Desc :=
  match sub with
  | 0x00 => some { ty := (.u 1), dflt := 0x3 }
  | 0x01 => some { ty := (.u 1), access := .wo, role := .service, kind := .cmd, spans := [(1, 1)] }  -- PP_RELEARN
  | 0x02 => some { ty := (.u 1), access := .wo, role := .service, kind := .cmd, spans := [(1, 1)] }  -- PP_REFERENCE
  | 0x03 => some { ty := (.u 1), access := .wo, kind := .cmd, spans := [(1, 1)] }  -- PP_CLEAR_DRIFT
  | _ => none

/-- Record 0x4D00+n: Calibration, index 0x4D00 + n, n = 0–31 (spec/10_load_measurement.md). -/
def calRec (sub : Nat) : Option Desc :=
  match sub with
  | 0x00 => some { ty := (.u 1), dflt := 0xC }
  | 0x01 => some { ty := .bool, access := .rw, role := .service, kind := .cfg, dflt := 1 }  -- CAL_ENABLE
  | 0x02 => some { ty := (.u 4), access := .rw, role := .maker, kind := .cfg, spans := [(0, 0), (200, 200000)] }  -- RDS_NOM
  | 0x03 => some { ty := (.u 2), access := .rw, role := .maker, kind := .cfg, dflt := 4800, spans := [(0, 10000)] }  -- RDS_TC
  | 0x04 => some { ty := (.i 2), access := .rw, role := .vendor, kind := .cfg, dflt := Part.offsetTc }  -- OFFSET_TC
  | 0x05 => some { ty := (.u 2), access := .rw, role := .service, kind := .cfg, dflt := 10, spans := [(1, 3600)] }  -- CAL_PERIOD
  | 0x06 => some { ty := (.u 4) }  -- CAL_VALUE
  | 0x07 => some { ty := (.i 2) }  -- HS_OFFSET
  | 0x08 => some { ty := (.i 2) }  -- LS_OFFSET
  | 0x09 => some { ty := (.i 2) }  -- CAL_T
  | 0x0A => some { ty := (.i 2) }  -- CAL_T_LS
  | 0x0B => some { ty := (.u 2) }  -- CAL_I
  | 0x0C => some { ty := (.u 1), mappable := true }  -- CAL_STATE
  | _ => none

/-- Record 0x2300+m: Supply monitor, index 0x2300 + m, m = 0–9; temperature limits, index 0x2310 (spec/10_load_measurement.md). -/
def supRec (n sub : Nat) : Option Desc :=
  match sub with
  | 0x00 => some { ty := (.u 1), dflt := 0x8 }
  | 0x01 => some { ty := (.u 2), access := .rw, role := .service, kind := .cfg, dflt := [6000, 0, 15000, 7500, 4850, 4850, 0, 0, 0, 735].getD n 0 }  -- SUP_LO
  | 0x02 => some { ty := (.u 2), access := .rw, role := .service, kind := .cfg, dflt := [36000, 60000, 17000, 13000, 5150, 5150, 100, 100, 0, 865].getD n 0 }  -- SUP_HI
  | 0x03 => some { ty := (.u 2), access := .rw, role := .service, kind := .cfg, dflt := 0x10000 }  -- SUP_HYST
  | 0x04 => some { ty := (.u 2), access := .rw, role := .service, kind := .cfg, dflt := 1000, spans := [(10, 60000)] }  -- SUP_TIME
  | 0x05 => some { ty := (.u 2), mappable := true }  -- SUP_VALUE
  | 0x06 => some { ty := (.u 1), mappable := true }  -- SUP_STATE
  | 0x07 => some { ty := (.u 2), dflt := 0xFFFF }  -- SUP_MIN
  | 0x08 => some { ty := (.u 2) }  -- SUP_MAX
  | _ => none

/-- Record 0x2310: Supply monitor, index 0x2300 + m, m = 0–9; temperature limits, index 0x2310 (spec/10_load_measurement.md). -/
def tmpRec (sub : Nat) : Option Desc :=
  match sub with
  | 0x00 => some { ty := (.u 1), dflt := 0x2 }
  | 0x01 => some { ty := (.u 1), access := .rw, role := .maker, kind := .cfg, dflt := 140, spans := [(85, 150)] }  -- TEMP_WARN_HOIST
  | 0x02 => some { ty := (.u 1), access := .rw, role := .maker, kind := .cfg, dflt := 130, spans := [(85, 140)] }  -- TEMP_WARN_FLY
  | _ => none

/-- Record 0x4D80+p: Cable measurement, index 0x4D80 + p, p = 0–7 (spec/10_load_measurement.md). -/
def cabRec (sub : Nat) : Option Desc :=
  match sub with
  | 0x00 => some { ty := (.u 1), dflt := 0x5 }
  | 0x01 => some { ty := (.u 2), access := .rw, role := .service, kind := .cfg, dflt := 198, spans := [(100, 299)] }  -- CABLE_VF
  | 0x02 => some { ty := (.u 1), access := .wo, role := .service, kind := .cmd, spans := [(1, 1)] }  -- CABLE_RUN
  | 0x03 => some { ty := (.u 2), dflt := 0xFFFF }  -- CABLE_LENGTH
  | 0x04 => some { ty := (.u 1) }  -- CABLE_END
  | 0x05 => some { ty := .bool }  -- CABLE_BUSY
  | _ => none

/-- Record 0x5000+Q: Port configuration, index 0x5000 + Q (spec/11_bunting_strands.md). -/
def bpCRec (sub : Nat) : Option Desc :=
  match sub with
  | 0x00 => some { ty := (.u 1), dflt := 0xD }
  | 0x01 => some { ty := .bool, access := .rw, role := .maker, kind := .cfg }  -- BP_ENABLE
  | 0x02 => some { ty := (.u 1), access := .rw, role := .maker, kind := .cfg, spans := [(0, 2)] }  -- BP_RATE
  | 0x03 => some { ty := (.u 4), access := .rw, role := .service, kind := .cfg, spans := [(0, 0), (100, 500000)] }  -- BP_FRAME_PERIOD
  | 0x04 => some { ty := (.u 2), access := .rw, role := .service, kind := .cfg, dflt := 100, spans := [(20, 5000)] }  -- BP_NODE_TIMEOUT
  | 0x05 => some { ty := (.u 2), access := .rw, role := .service, kind := .cfg, spans := [(0, 4096)] }  -- BP_EXPECT_NODES
  | 0x06 => some { ty := .bool, access := .rw, role := .service, kind := .cfg, dflt := 1 }  -- BP_AUTO_REDISCOVER
  | 0x07 => some { ty := (.u 2), access := .rw, role := .service, kind := .cfg, dflt := 1000, spans := [(100, 60000)] }  -- BP_RETRY_TIME
  | 0x08 => some { ty := (.u 1), access := .rw, role := .service, kind := .cfg, dflt := 8, spans := [(0, 16)] }  -- THERM_SLOTS
  | 0x09 => some { ty := (.u 1), access := .rw, role := .maker, kind := .cfg, dflt := 70, spans := [(40, 125)] }  -- BG_KNEE
  | 0x0A => some { ty := (.u 1), access := .rw, role := .maker, kind := .cfg, dflt := 90, spans := [(45, 150)] }  -- BG_TMAX
  | 0x0B => some { ty := (.u 1), access := .rw, role := .maker, kind := .cfg, dflt := 30, spans := [(10, 100)] }  -- BG_FLOOR
  | 0x0C => some { ty := (.u 2), access := .rw, role := .service, kind := .cfg, dflt := 200, spans := [(100, 2000)] }  -- P8_PWM_FREQ
  | 0x0D => some { ty := (.u 1), access := .rw, role := .service, kind := .cfg, dflt := 3, spans := [(1, 255)] }  -- REPLY_MISS_LIMIT
  | _ => none

/-- Record 0x5001+Q: Port status and commands, indices 0x5001 + Q and 0x5002 + Q (spec/11_bunting_strands.md). -/
def bpSRec (sub : Nat) : Option Desc :=
  match sub with
  | 0x00 => some { ty := (.u 1), dflt := 0x9 }
  | 0x01 => some { ty := (.u 1), mappable := true }  -- BP_STATE
  | 0x02 => some { ty := (.bits 2), mappable := true }  -- BP_FLAGS
  | 0x03 => some { ty := (.u 2) }  -- NODE_COUNT
  | 0x04 => some { ty := (.u 4) }  -- FRAME_TIME
  | 0x05 => some { ty := (.u 2) }  -- ROUND_TRIP
  | 0x06 => some { ty := (.u 4) }  -- FRAME_COUNT
  | 0x07 => some { ty := (.u 4) }  -- TURN_ERRORS
  | 0x08 => some { ty := (.u 4) }  -- REPLY_ERRORS
  | 0x09 => some { ty := (.u 4) }  -- DIAG_CYCLE
  | _ => none

/-- Record 0x5002+Q: Port status and commands, indices 0x5001 + Q and 0x5002 + Q (spec/11_bunting_strands.md). -/
def bpXRec (sub : Nat) : Option Desc :=
  match sub with
  | 0x00 => some { ty := (.u 1), dflt := 0x2 }
  | 0x01 => some { ty := (.u 1), access := .wo, role := .service, kind := .cmd, spans := [(1, 1)] }  -- BP_REDISCOVER
  | 0x02 => some { ty := (.u 2), access := .wo, kind := .cmd, spans := [(0, 4095), (65535, 65535)] }  -- BP_NODE_CLEAR
  | _ => none

/-- Record 0x5003+Q: Board groups, index 0x5003 + Q (spec/11_bunting_strands.md). -/
def bpGRec (sub : Nat) : Option Desc :=
  match sub with
  | 0x00 => some { ty := (.u 1), dflt := 0x40 }
  | _ => if 0x01 ≤ sub ∧ sub ≤ 0x40 then some { ty := (.u 4), dflt := 0x80000000, mappable := true } else none  -- BG_STATE_0–BG_STATE_63

/-- Record 0x5200+P: Matrix port configuration, index 0x5200 + P (spec/12_matrices_fades_patterns.md). -/
def mxCRec (sub : Nat) : Option Desc :=
  match sub with
  | 0x00 => some { ty := (.u 1), dflt := 0xB }
  | 0x01 => some { ty := .bool, access := .rw, role := .maker, kind := .cfg }  -- MX_ENABLE
  | 0x02 => some { ty := (.u 2), access := .rw, role := .maker, kind := .cfg, dflt := 6250, spans := [(3125, 12500)] }  -- LINE_PERIOD
  | 0x03 => some { ty := (.u 4), access := .rw, role := .service, kind := .cfg, spans := [(0, 99999)] }  -- MX_PHASE
  | 0x04 => some { ty := (.u 1), access := .rw, role := .maker, kind := .cfg, dflt := 10, spans := [(5, 50)] }  -- PRE_TIME
  | 0x05 => some { ty := (.u 1), access := .rw, role := .maker, kind := .cfg, dflt := 100, spans := [(1, 200)] }  -- COL_I_FS
  | 0x06 => some { ty := (.u 2), access := .rw, role := .maker, kind := .cfg, spans := [(0, 35000)] }  -- COL_VF
  | 0x07 => some { ty := (.u 1), access := .rw, role := .maker, kind := .cfg, dflt := 100, spans := [(20, 200)] }  -- COL_VMAX
  | 0x08 => some { ty := .bool, access := .rw, role := .maker, kind := .cfg, dflt := 1 }  -- MX_KNEE
  | 0x09 => some { ty := .bool, access := .rw, role := .service, kind := .cfg, dflt := 1 }  -- OPEN_DETECT
  | 0x0A => some { ty := (.u 1), access := .rw, role := .service, kind := .cfg, dflt := 3, spans := [(0, 15), (255, 255)] }  -- RETRY_COUNT
  | 0x0B => some { ty := (.u 2), access := .rw, role := .service, kind := .cfg, dflt := 100, spans := [(1, 10000)] }  -- RETRY_DELAY
  | _ => none

/-- Record 0x5201+P: Matrix port status and commands, indices 0x5201 + P and 0x5202 + P (spec/12_matrices_fades_patterns.md). -/
def mxSRec (sub : Nat) : Option Desc :=
  match sub with
  | 0x00 => some { ty := (.u 1), dflt := 0x7 }
  | 0x01 => some { ty := (.u 1), mappable := true }  -- MX_STATE
  | 0x02 => some { ty := (.u 2), mappable := true }  -- PORT_I
  | 0x03 => some { ty := (.u 2) }  -- PORT_P
  | 0x04 => some { ty := (.u 2), dflt := 4096, mappable := true }  -- FACTOR
  | 0x05 => some { ty := (.octets 8) }  -- PIXEL_OPEN
  | 0x06 => some { ty := (.bits 1), mappable := true }  -- COL_DISABLED
  | 0x07 => some { ty := (.u 4) }  -- TRIP_COUNT
  | _ => none

/-- Record 0x5202+P: Matrix port status and commands, indices 0x5201 + P and 0x5202 + P (spec/12_matrices_fades_patterns.md). -/
def mxXRec (sub : Nat) : Option Desc :=
  match sub with
  | 0x00 => some { ty := (.u 1), dflt := 0x2 }
  | 0x01 => some { ty := (.u 1), access := .wo, kind := .cmd, spans := [(1, 1)] }  -- FAULT_CLEAR
  | 0x02 => some { ty := (.u 1), access := .wo, role := .service, kind := .cmd, spans := [(1, 1)] }  -- PIXEL_CLEAR
  | _ => none

/-- Record 0x5280: Derating and neighbour test, indices 0x5280 and 0x5290 (spec/12_matrices_fades_patterns.md). -/
def kneRec (sub : Nat) : Option Desc :=
  match sub with
  | 0x00 => some { ty := (.u 1), dflt := 0x6 }
  | 0x01 => some { ty := (.u 1), access := .rw, role := .maker, kind := .cfg, dflt := 120, spans := [(85, 140)] }  -- KNEE_T
  | 0x02 => some { ty := (.u 1), access := .rw, role := .maker, kind := .cfg, dflt := 20, spans := [(5, 50)] }  -- KNEE_SPAN
  | 0x03 => some { ty := (.u 1), access := .rw, role := .maker, kind := .cfg, dflt := 50, spans := [(10, 100)] }  -- KNEE_FLOOR
  | 0x04 => some { ty := (.bits 4), access := .rw, role := .maker, kind := .cfg, rsvd := 0xFF000000 }  -- KNEE_GD_MASK
  | 0x05 => some { ty := (.bits 1), access := .rw, role := .maker, kind := .cfg }  -- KNEE_DOUT_MASK
  | 0x06 => some { ty := (.u 2), dflt := 4096, mappable := true }  -- KNEE_TARGET
  | _ => none

/-- Record 0x5290: Derating and neighbour test, indices 0x5280 and 0x5290 (spec/12_matrices_fades_patterns.md). -/
def nbRec (sub : Nat) : Option Desc :=
  match sub with
  | 0x00 => some { ty := (.u 1), dflt := 0x15 }
  | 0x01 => some { ty := (.bits 1), access := .rw, role := .service, kind := .cfg, rsvd := 0xF0 }  -- NB_ONLINE_MASK
  | 0x02 => some { ty := (.u 2), access := .rw, role := .service, kind := .cfg, dflt := 60, spans := [(1, 3600)] }  -- NB_ONLINE_PERIOD
  | 0x03 => some { ty := (.u 1), access := .wo, role := .service, kind := .cmd, spans := [(1, 1)] }  -- NB_RUN
  | 0x04 => some { ty := (.u 1) }  -- NB_STATE
  | 0x05 => some { ty := (.u 1) }  -- NB_COUNT
  | _ => if 0x06 ≤ sub ∧ sub ≤ 0x15 then some { ty := (.u 2) } else none  -- NB_PAIR_1–NB_PAIR_16

/-- Record 0x5301: Groups and patterns (spec/12_matrices_fades_patterns.md). -/
def grpRec (sub : Nat) : Option Desc :=
  match sub with
  | 0x00 => some { ty := (.u 1), dflt := 0x1 }
  | 0x01 => some { ty := (.u 8), access := .wo, kind := .cmd }  -- GROUP_CMD
  | _ => none

/-- Record 0x5302: Groups and patterns (spec/12_matrices_fades_patterns.md). -/
def gqRec (sub : Nat) : Option Desc :=
  match sub with
  | 0x00 => some { ty := (.u 1), dflt := 0x5, perSession := true }
  | 0x01 => some { ty := (.u 2), access := .rw, kind := .cmd, sig := .gq, perSession := true }  -- GQ_GROUP
  | 0x02 => some { ty := (.u 4), perSession := true }  -- GQ_MEMBERS
  | 0x03 => some { ty := (.u 2), perSession := true }  -- GQ_LEVEL
  | 0x04 => some { ty := (.u 1), perSession := true }  -- GQ_ACTIVITY
  | 0x05 => some { ty := (.u 2), dflt := 0xFFFF, perSession := true }  -- GQ_HOLDER
  | _ => none

/-- Record 0x5410+e: Groups and patterns (spec/12_matrices_fades_patterns.md). -/
def patRec (sub : Nat) : Option Desc :=
  match sub with
  | 0x00 => some { ty := (.u 1), dflt := 0x6 }
  | 0x01 => some { ty := (.u 1), mappable := true }  -- ENG_STATE
  | 0x02 => some { ty := (.u 1) }  -- ENG_GROUP
  | 0x03 => some { ty := (.u 1), dflt := 7 }  -- ENG_CLASS
  | 0x04 => some { ty := (.u 1) }  -- ENG_BLOCK
  | 0x05 => some { ty := (.u 4) }  -- ENG_PERIODS
  | 0x06 => some { ty := (.u 4) }  -- ENG_TAKEOVERS
  | _ => none

/-- Record 0x7000+t: Timer configuration, index 0x7000 + t (spec/13_timers_and_events.md). -/
def tmrCRec (sub : Nat) : Option Desc :=
  match sub with
  | 0x00 => some { ty := (.u 1), dflt := 0xB }
  | 0x01 => some { ty := .bool, access := .rw, role := .service, kind := .cfg }  -- TMR_AUTOSTART
  | 0x02 => some { ty := .bool, access := .rw, role := .service, kind := .cfg }  -- TMR_DEBUG_FREEZE
  | 0x03 => some { ty := (.u 2), access := .rw, role := .service, kind := .cfg, rsvd := 0xFF }  -- OVF_ACTION
  | _ => if 0x04 ≤ sub ∧ sub ≤ 0x07 then some { ty := (.u 2), access := .rw, role := .service, kind := .cfg, rsvd := 0xFE } else  -- CMP0_ACTION–CMP3_ACTION
    if 0x08 ≤ sub ∧ sub ≤ 0x0B then some { ty := (.u 6), access := .rw, role := .service, kind := .cfg } else none  -- CMP0_INIT–CMP3_INIT

/-- Record 0x7020+t: Timer run, index 0x7020 + t; global start and statistics (spec/13_timers_and_events.md). -/
def tmrRRec (sub : Nat) : Option Desc :=
  match sub with
  | 0x00 => some { ty := (.u 1), dflt := 0x8 }
  | 0x05 => some { ty := (.u 1), access := .wo, kind := .cmd, spans := [(1, 4)] }  -- TMR_CMD
  | 0x06 => some { ty := (.u 6), mappable := true }  -- TMR_COUNT
  | 0x07 => some { ty := (.bits 2), mappable := true }  -- TMR_STATUS
  | 0x08 => some { ty := (.u 4) }  -- TMR_LAPS
  | _ => if 0x01 ≤ sub ∧ sub ≤ 0x04 then some { ty := (.u 6), access := .rw, kind := .cmd } else none  -- CMP0–CMP3

/-- Record 0x7040: Timer run, index 0x7020 + t; global start and statistics (spec/13_timers_and_events.md). -/
def gsRec (sub : Nat) : Option Desc :=
  match sub with
  | 0x00 => some { ty := (.u 1), dflt := 0x6 }
  | 0x01 => some { ty := (.bits 4), access := .rw, kind := .cmd }  -- GS_MASK
  | 0x02 => some { ty := (.u 1), access := .rw, kind := .cmd, dflt := 4, spans := [(1, 1), (4, 4)] }  -- GS_OP
  | 0x03 => some { ty := (.u 1), access := .rw, kind := .cmd, spans := [(0, 1)] }  -- GS_BASE
  | 0x04 => some { ty := (.u 8), access := .rw, kind := .cmd }  -- GS_AT
  | 0x05 => some { ty := (.u 1), access := .wo, kind := .cmd, spans := [(1, 1)] }  -- GS_ARM
  | 0x06 => some { ty := (.u 1) }  -- GS_STATE
  | _ => none

/-- Record 0x7041: Timer run, index 0x7020 + t; global start and statistics (spec/13_timers_and_events.md). -/
def tmxRec (sub : Nat) : Option Desc :=
  match sub with
  | 0x00 => some { ty := (.u 1), dflt := 0x1 }
  | 0x01 => some { ty := (.u 4) }  -- TMR_CONFLICTS
  | _ => none

/-- Record 0x7110: Event fabric objects (spec/13_timers_and_events.md). -/
def nciRec (sub : Nat) : Option Desc :=
  match sub with
  | 0x00 => some { ty := (.u 1), dflt := 0x8 }
  | _ => if 0x01 ≤ sub ∧ sub ≤ 0x08 then some { ty := (.u 4), access := .rw, role := .service, kind := .cfg, dflt := 0xFFFFFFFF } else none  -- NOTICE_CAN_ID_0–7

/-- Record 0x7120: Event fabric objects (spec/13_timers_and_events.md). -/
def evpRec (sub : Nat) : Option Desc :=
  match sub with
  | 0x00 => some { ty := (.u 1), dflt := 0x1 }
  | 0x01 => some { ty := (.u 8), access := .wo, kind := .cmd }  -- EVENT_POST
  | _ => none

/-- Record 0x7121: Event fabric objects (spec/13_timers_and_events.md). -/
def evsRec (sub : Nat) : Option Desc :=
  match sub with
  | 0x00 => some { ty := (.u 1), dflt := 0x4 }
  | 0x01 => some { ty := (.u 4) }  -- LOG_SEQ
  | 0x02 => some { ty := (.u 4) }  -- RUNTIME_DROPS
  | 0x03 => some { ty := (.u 4) }  -- HELD_DROPS
  | 0x04 => some { ty := (.u 4) }  -- CAN_NOTICE_DROPS
  | _ => none

/-- Record 0x6000+Y: Channel configuration, index 0x6000 + Y (spec/14_can_channels.md). -/
def canCRec (sub : Nat) : Option Desc :=
  match sub with
  | 0x00 => some { ty := (.u 1), dflt := 0xD }
  | 0x01 => some { ty := (.u 1), access := .rw, role := .maker, kind := .cfg, spans := [(0, 4)] }  -- CAN_MODE
  | 0x02 => some { ty := (.u 1), access := .rw, role := .maker, kind := .cfg, dflt := 4, spans := [(1, 32)] }  -- NBRP
  | 0x03 => some { ty := (.u 2), access := .rw, role := .maker, kind := .cfg, dflt := 69, spans := [(2, 256)] }  -- NTSEG1
  | 0x04 => some { ty := (.u 1), access := .rw, role := .maker, kind := .cfg, dflt := 10, spans := [(1, 128)] }  -- NTSEG2
  | 0x05 => some { ty := (.u 1), access := .rw, role := .maker, kind := .cfg, dflt := 3, spans := [(1, 128)] }  -- NSJW
  | 0x06 => some { ty := (.u 1), access := .rw, role := .maker, kind := .cfg, dflt := 1, spans := [(1, 32)] }  -- DBRP
  | 0x07 => some { ty := (.u 1), access := .rw, role := .maker, kind := .cfg, dflt := 29, spans := [(1, 32)] }  -- DTSEG1
  | 0x08 => some { ty := (.u 1), access := .rw, role := .maker, kind := .cfg, dflt := 10, spans := [(1, 16)] }  -- DTSEG2
  | 0x09 => some { ty := (.u 1), access := .rw, role := .maker, kind := .cfg, dflt := 3, spans := [(1, 16)] }  -- DSJW
  | 0x0A => some { ty := (.u 1), access := .rw, role := .maker, kind := .cfg, dflt := 30, spans := [(0, 127)] }  -- TDC_OFFSET
  | 0x0B => some { ty := (.u 1), access := .rw, role := .service, kind := .cfg, spans := [(0, 127)] }  -- NODE_ID
  | 0x0C => some { ty := (.u 2), access := .rw, role := .service, kind := .cfg, dflt := 1000, spans := [(0, 60000)] }  -- TX_TIMEOUT
  | 0x0D => some { ty := .bool, access := .rw, role := .service, kind := .cfg }  -- STRAY_QUEUE
  | _ => none

/-- Record 0x6001+Y: Error handling, status and commands, indices 0x6001 + Y to 0x6003 + Y (spec/14_can_channels.md). -/
def canERec (sub : Nat) : Option Desc :=
  match sub with
  | 0x00 => some { ty := (.u 1), dflt := 0x4 }
  | 0x01 => some { ty := (.u 1), access := .rw, role := .service, kind := .cfg, spans := [(0, 1)] }  -- BUSOFF_MODE
  | 0x02 => some { ty := (.u 2), access := .rw, role := .service, kind := .cfg, dflt := 1000, spans := [(0, 60000)] }  -- BUSOFF_DELAY
  | 0x03 => some { ty := (.u 2), access := .rw, role := .service, kind := .cfg, dflt := 100, spans := [(10, 10000)] }  -- ALONE_RETRY
  | 0x04 => some { ty := .bool, access := .rw, role := .maker, kind := .cfg, dflt := 1 }  -- PXE_ENABLE
  | _ => none

/-- Record 0x6002+Y: Error handling, status and commands, indices 0x6001 + Y to 0x6003 + Y (spec/14_can_channels.md). -/
def canSRec (sub : Nat) : Option Desc :=
  match sub with
  | 0x00 => some { ty := (.u 1), dflt := 0xD }
  | 0x01 => some { ty := (.u 1), mappable := true }  -- CAN_STATE
  | 0x02 => some { ty := (.u 2) }  -- TEC
  | 0x03 => some { ty := (.u 2) }  -- REC
  | 0x04 => some { ty := (.bits 2), mappable := true }  -- CAN_FLAGS
  | 0x05 => some { ty := (.u 4) }  -- RX_FRAMES
  | 0x06 => some { ty := (.u 4) }  -- TX_FRAMES
  | 0x07 => some { ty := (.u 4) }  -- STRAY_COUNT
  | 0x08 => some { ty := (.u 4) }  -- ERROR_FRAMES
  | 0x09 => some { ty := (.u 1) }  -- LAST_ERROR
  | 0x0A => some { ty := (.u 2) }  -- ACK_RUN
  | 0x0B => some { ty := (.u 2), mappable := true }  -- BUS_LOAD
  | 0x0C => some { ty := (.u 4) }  -- PXE_COUNT
  | 0x0D => some { ty := (.u 4) }  -- RTR_COUNT
  | _ => none

/-- Record 0x6003+Y: Error handling, status and commands, indices 0x6001 + Y to 0x6003 + Y (spec/14_can_channels.md). -/
def canXRec (sub : Nat) : Option Desc :=
  match sub with
  | 0x00 => some { ty := (.u 1), dflt := 0x2 }
  | 0x01 => some { ty := (.u 1), access := .wo, role := .service, kind := .cmd, spans := [(1, 3)] }  -- CAN_CMD
  | 0x02 => some { ty := (.u 1), access := .wo, kind := .cmd, spans := [(1, 64)] }  -- STRAY_ACK
  | _ => none

/-- Record 0x6004+Y: J1939 and stray queue, indices 0x6004 + Y and 0x6005 + Y (spec/14_can_channels.md). -/
def j19Rec (sub : Nat) : Option Desc :=
  match sub with
  | 0x00 => some { ty := (.u 1), dflt := 0x7 }
  | 0x01 => some { ty := .bool, access := .rw, role := .maker, kind := .cfg }  -- J1939_ENABLE
  | 0x02 => some { ty := (.u 8), access := .rw, role := .maker, kind := .cfg }  -- J1939_NAME
  | 0x03 => some { ty := (.u 1), access := .rw, role := .service, kind := .cfg, dflt := 128, spans := [(0, 253)] }  -- PREF_ADDR
  | 0x04 => some { ty := (.u 1), access := .rw, role := .service, kind := .cfg, dflt := 128, spans := [(0, 253)] }  -- ADDR_FIRST
  | 0x05 => some { ty := (.u 1), access := .rw, role := .service, kind := .cfg, dflt := 247, spans := [(0, 253)] }  -- ADDR_LAST
  | 0x06 => some { ty := (.u 1), dflt := 255, mappable := true }  -- CLAIMED_ADDR
  | 0x07 => some { ty := (.u 1) }  -- CLAIM_STATE
  | _ => none

/-- Record 0x6110: Object windows and maps (spec/14_can_channels.md). -/
def mouRec (sub : Nat) : Option Desc :=
  match sub with
  | 0x00 => some { ty := (.u 1), dflt := 0x3 }
  | 0x01 => some { ty := (.u 2) }  -- MO_USED
  | 0x02 => some { ty := (.u 2) }  -- CS_USED
  | 0x03 => some { ty := (.u 2) }  -- WATCH_USED
  | _ => none

/-- Record 0x6200: Ring configuration, status and command (spec/15_network_sleep_and_wake.md). -/
def nmCRec (sub : Nat) : Option Desc :=
  match sub with
  | 0x00 => some { ty := (.u 1), dflt := 0xC }
  | 0x01 => some { ty := .bool, access := .rw, role := .maker, kind := .cfg }  -- NM_ENABLE
  | 0x02 => some { ty := (.u 1), access := .rw, role := .maker, kind := .cfg, spans := [(0, 7)] }  -- NM_CHANNEL
  | 0x03 => some { ty := (.u 1), access := .rw, role := .service, kind := .cfg, dflt := 1, spans := [(0, 63)] }  -- NM_ID
  | 0x04 => some { ty := (.u 2), access := .rw, role := .maker, kind := .cfg, dflt := 0x500, spans := [(0, 1984)] }  -- NM_BASE_ID
  | 0x05 => some { ty := (.u 1), access := .rw, role := .maker, kind := .cfg, spans := [(0, 63)] }  -- NM_HOST_ID
  | 0x06 => some { ty := (.u 2), access := .rw, role := .maker, kind := .cfg, dflt := 100, spans := [(10, 1000)] }  -- NM_T_TYP
  | 0x07 => some { ty := (.u 2), access := .rw, role := .maker, kind := .cfg, dflt := 260, spans := [(25, 5000)] }  -- NM_T_MAX
  | 0x08 => some { ty := (.u 2), access := .rw, role := .maker, kind := .cfg, dflt := 1000, spans := [(25, 10000)] }  -- NM_T_ERROR
  | 0x09 => some { ty := (.u 2), access := .rw, role := .maker, kind := .cfg, dflt := 1500, spans := [(100, 10000)] }  -- NM_T_WAIT_SLEEP
  | 0x0A => some { ty := (.u 2), access := .rw, role := .service, kind := .cfg, dflt := 600, spans := [(1, 3600)] }  -- NM_KEEPER_TIME
  | 0x0B => some { ty := (.u 2), access := .rw, role := .service, kind := .cfg, dflt := 5, spans := [(0, 3600)] }  -- NM_MIN_AWAKE
  | 0x0C => some { ty := (.u 4), access := .rw, role := .service, kind := .cfg, sig := .vf0 }  -- NM_STAY_SIGNAL
  | _ => none

/-- Record 0x6201: Ring configuration, status and command (spec/15_network_sleep_and_wake.md). -/
def nmSRec (sub : Nat) : Option Desc :=
  match sub with
  | 0x00 => some { ty := (.u 1), dflt := 0xA }
  | 0x01 => some { ty := (.u 1), mappable := true }  -- NM_STATE
  | 0x02 => some { ty := (.u 8) }  -- PRESENT_MASK
  | 0x03 => some { ty := (.u 8) }  -- CONSENT_MASK
  | 0x04 => some { ty := (.u 8) }  -- KEEPER_MASK
  | 0x05 => some { ty := (.u 1), dflt := 0xFF, mappable := true }  -- KEEPER_ID
  | 0x06 => some { ty := (.u 1) }  -- KEEPER_REASON
  | 0x07 => some { ty := (.u 1), mappable := true }  -- OWN_REASON
  | 0x08 => some { ty := (.u 1) }  -- LAST_WAKE_SOURCE
  | 0x09 => some { ty := (.u 2) }  -- LAST_WAKE_DETAIL
  | 0x0A => some { ty := (.u 4) }  -- NM_REJECTS
  | _ => none

/-- Record 0x6202: Ring configuration, status and command (spec/15_network_sleep_and_wake.md). -/
def nmXRec (sub : Nat) : Option Desc :=
  match sub with
  | 0x00 => some { ty := (.u 1), dflt := 0x2 }
  | 0x01 => some { ty := (.u 1), access := .wo, kind := .cmd, spans := [(1, 3)] }  -- NM_CMD
  | 0x02 => some { ty := .bool, access := .rw, role := .service, kind := .cfg, dflt := 1 }  -- NM_REMOTE_WAKE
  | _ => none

/-- Record 0x6210+c: Selective wake, index 0x6210 + c; wake pins, index 0x6220 + n (spec/15_network_sleep_and_wake.md). -/
def swRec (sub : Nat) : Option Desc :=
  match sub with
  | 0x00 => some { ty := (.u 1), dflt := 0x8 }
  | 0x01 => some { ty := .bool, access := .rw, role := .maker, kind := .cfg }  -- SW_ENABLE
  | 0x02 => some { ty := (.u 4), access := .rw, role := .maker, kind := .cfg, rsvd := 0x60000000 }  -- SW_ID
  | 0x03 => some { ty := (.u 4), access := .rw, role := .maker, kind := .cfg, dflt := 0x1FFFFFFF }  -- SW_ID_MASK
  | 0x04 => some { ty := (.u 1), access := .rw, role := .maker, kind := .cfg, dflt := 0xFF, spans := [(0, 8), (255, 255)] }  -- SW_DLC
  | 0x05 => some { ty := (.octets 8), access := .rw, role := .maker, kind := .cfg }  -- SW_DATA
  | 0x06 => some { ty := (.octets 8), access := .rw, role := .maker, kind := .cfg }  -- SW_DATA_MASK
  | 0x07 => some { ty := .bool, access := .rw, role := .maker, kind := .cfg, dflt := 1 }  -- SW_FD_PASSIVE
  | 0x08 => some { ty := .bool, access := .rw, role := .maker, kind := .cfg }  -- SW_WUP
  | _ => none

/-- Record 0x6220+n: Selective wake, index 0x6210 + c; wake pins, index 0x6220 + n (spec/15_network_sleep_and_wake.md). -/
def wakRec (sub : Nat) : Option Desc :=
  match sub with
  | 0x00 => some { ty := (.u 1), dflt := 0x3 }
  | 0x01 => some { ty := (.u 1), access := .rw, role := .maker, kind := .cfg, spans := [(0, 3)] }  -- WAKE_EDGE
  | 0x02 => some { ty := (.u 2), access := .rw, role := .maker, kind := .cfg, dflt := 1000, spans := [(10, 50000)] }  -- WAKE_FILTER
  | 0x03 => some { ty := (.u 1), access := .rw, role := .maker, kind := .cfg, spans := [(0, 2)] }  -- WAKE_PULL
  | _ => none

/-- Record 0x2000: State, standing votes and host votes (spec/16_power_states.md). -/
def pwrRec (sub : Nat) : Option Desc :=
  match sub with
  | 0x00 => some { ty := (.u 1), dflt := 0xB }
  | 0x01 => some { ty := (.u 1), mappable := true }  -- PWR_STATE
  | 0x02 => some { ty := (.u 1) }  -- PWR_TARGET
  | 0x03 => some { ty := (.u 1) }  -- PWR_TRANSITION
  | 0x04 => some { ty := (.u 2), access := .rw, role := .service, kind := .cfg, dflt := 100, spans := [(0, 60000)] }  -- LINGER
  | 0x05 => some { ty := (.bits 4), access := .rw, role := .service, kind := .cfg, dflt := 0x3FFFF, rsvd := 0xFFF80000 }  -- WAKE_PROFILE
  | 0x06 => some { ty := (.u 2), access := .rw, role := .service, kind := .cfg, dflt := 5000, spans := [(0, 60000)] }  -- WAKE_HOLD
  | 0x07 => some { ty := (.u 1) }  -- LAST_WAKE_CAUSE
  | 0x08 => some { ty := (.u 2) }  -- LAST_WAKE_DETAIL
  | 0x09 => some { ty := (.u 4) }  -- TRANSITION_COUNT
  | 0x0A => some { ty := (.bits 4), access := .rw, role := .maker, kind := .cfg, dflt := 0x3FFFF, rsvd := 0xFFF80000 }  -- STANDING_MASK
  | 0x0B => some { ty := (.bits 4) }  -- STANDING_SUSPENDED
  | _ => none

/-- Record 0x2001: State, standing votes and host votes (spec/16_power_states.md). -/
def hvtRec (sub : Nat) : Option Desc :=
  match sub with
  | 0x00 => some { ty := (.u 1), dflt := 0x1 }
  | 0x01 => some { ty := (.u 4), access := .wo, kind := .cmd }  -- HOST_VOTE
  | _ => none

/-- Record 0x2010+d: Domains and profiles (spec/16_power_states.md). -/
def dmnRec (sub : Nat) : Option Desc :=
  match sub with
  | 0x00 => some { ty := (.u 1), dflt := 0x3 }
  | 0x01 => some { ty := (.bits 2), dflt := 0x8000 }  -- DOMAIN_VOTES
  | 0x02 => some { ty := .bool, dflt := 1, mappable := true }  -- DOMAIN_ON
  | 0x03 => some { ty := (.u 4) }  -- DOMAIN_SWITCHES
  | _ => none

/-- Record 0x2030+p: Domains and profiles (spec/16_power_states.md). -/
def prfRec (sub : Nat) : Option Desc :=
  match sub with
  | 0x00 => some { ty := (.u 1), dflt := 0x1 }
  | 0x01 => some { ty := (.bits 4), access := .rw, role := .service, kind := .cfg, rsvd := 0xFFF80000 }  -- PROFILE_MASK
  | _ => none

/-- Record 0x2050: Half-mast and RTC (spec/16_power_states.md). -/
def prkRec (sub : Nat) : Option Desc :=
  match sub with
  | 0x00 => some { ty := (.u 1), dflt := 0x6 }
  | 0x01 => some { ty := (.bits 4), access := .rw, role := .maker, kind := .cfg, rsvd := 0xFF000000 }  -- PARK_GD_MASK
  | 0x02 => some { ty := (.bits 1), access := .rw, role := .maker, kind := .cfg }  -- PARK_SV_MASK
  | 0x03 => some { ty := (.bits 1), access := .rw, role := .maker, kind := .cfg }  -- PARK_DOUT_MASK
  | 0x04 => some { ty := (.bits 2), access := .rw, role := .service, kind := .cfg }  -- HM_DIN_MASK
  | 0x05 => some { ty := .bool, access := .rw, role := .service, kind := .cfg }  -- HM_HALYARD_WAKE
  | 0x06 => some { ty := .bool, access := .rw, role := .service, kind := .cfg, dflt := 1 }  -- PARK_FAULT_WAKE
  | _ => none

/-- Record 0x2051: Half-mast and RTC (spec/16_power_states.md). -/
def hmwRec (sub : Nat) : Option Desc :=
  match sub with
  | 0x00 => some { ty := (.u 1), dflt := 0x20 }
  | _ => if 0x01 ≤ sub ∧ sub ≤ 0x20 then some { ty := (.u 2), access := .rw, role := .service, kind := .cfg, dflt := 0xFFFF, spans := [(0, 1535), (65535, 65535)] } else none  -- HM_WAKE_EVENT_1–32

/-- Record 0x2060: Half-mast and RTC (spec/16_power_states.md). -/
def rtcRec (sub : Nat) : Option Desc :=
  match sub with
  | 0x00 => some { ty := (.u 1), dflt := 0x3 }
  | 0x01 => some { ty := (.u 4), access := .rw, kind := .cmd }  -- RTC_SECONDS
  | 0x02 => some { ty := (.u 4), access := .rw, kind := .cmd }  -- RTC_ALARM
  | 0x03 => some { ty := .bool }  -- RTC_VALID
  | _ => none

/-- Record 0x2100: Start-up and Strike objects, index 0x2100 (spec/17_start_up_and_strike.md). -/
def stkRec (sub : Nat) : Option Desc :=
  match sub with
  | 0x00 => some { ty := (.u 1), dflt := 0x9 }
  | 0x01 => some { ty := .bool, access := .rw, role := .maker, kind := .cfg, dflt := 1 }  -- STRIKE_ENABLE
  | 0x02 => some { ty := (.u 2), access := .rw, role := .maker, kind := .cfg, dflt := 10000, spans := [(6000, 18000)], step := 500 }  -- STRIKE_LEVEL
  | 0x03 => some { ty := (.u 1), mappable := true }  -- STRIKE_STATE
  | 0x04 => some { ty := (.u 1) }  -- START_CAUSE
  | 0x05 => some { ty := (.u 4) }  -- APPLY_TIME
  | 0x06 => some { ty := (.u 4) }  -- STRIKE_COUNT
  | 0x07 => some { ty := (.u 1) }  -- LAST_STRIKE_RESULT
  | 0x08 => some { ty := (.u 8) }  -- LAST_STRIKE_TIME
  | 0x09 => some { ty := (.u 1) }  -- LAST_STRIKE_KIB
  | _ => none

/-- Record 0x1100: Sessions (spec/18_security.md). -/
def rolRec (sub : Nat) : Option Desc :=
  match sub with
  | 0x00 => some { ty := (.u 1), dflt := 0x7 }
  | 0x01 => some { ty := (.u 1), access := .rw, role := .maker, kind := .cfg, dflt := 18, spans := [(18, 127)] }  -- ROLE_SLOT_HOST
  | 0x02 => some { ty := (.u 1), access := .rw, role := .maker, kind := .cfg, dflt := 19, spans := [(18, 127)] }  -- ROLE_SLOT_SERVICE
  | 0x03 => some { ty := (.u 1), access := .rw, role := .maker, kind := .cfg, dflt := 20, spans := [(18, 127)] }  -- ROLE_SLOT_MAKER
  | 0x04 => some { ty := (.u 2), access := .rw, role := .service, kind := .cfg, dflt := 30, spans := [(5, 3600)] }  -- SESSION_IDLE
  | 0x05 => some { ty := (.u 1), access := .rw, role := .maker, kind := .cfg, dflt := 5, spans := [(3, 15)] }  -- LOCKOUT_FAILS
  | 0x06 => some { ty := (.u 2), access := .rw, role := .maker, kind := .cfg, dflt := 60, spans := [(10, 3600)] }  -- LOCKOUT_TIME
  | 0x07 => some { ty := (.bits 2), access := .rw, role := .maker, kind := .cfg, dflt := 0x1FF, rsvd := 0xFE00 }  -- SETUP_PATHS
  | _ => none

/-- Record 0x1101: Sessions (spec/18_security.md). -/
def sup2Rec (sub : Nat) : Option Desc :=
  match sub with
  | 0x00 => some { ty := (.u 1), dflt := 0x2 }
  | 0x01 => some { ty := (.octets 56), access := .wo, kind := .cmd }  -- SETUP_IN
  | 0x02 => some { ty := (.octets 56) }  -- SETUP_OUT
  | _ => none

/-- Record 0x1102: Sessions (spec/18_security.md). -/
def sesRec (sub : Nat) : Option Desc :=
  match sub with
  | 0x00 => some { ty := (.u 1), dflt := 0x3, perSession := true }
  | 0x01 => some { ty := (.u 1), perSession := true }  -- SESSION_ROLE
  | 0x02 => some { ty := (.u 4), perSession := true }  -- SESSION_AGE
  | 0x03 => some { ty := (.u 1), access := .wo, kind := .cmd, spans := [(1, 1)], perSession := true }  -- SESSION_CLOSE
  | _ => none

/-- Record 0x1110+s: Sessions (spec/18_security.md). -/
def sesTRec (sub : Nat) : Option Desc :=
  match sub with
  | 0x00 => some { ty := (.u 1), readRole := .maker, dflt := 0x5 }
  | 0x01 => some { ty := (.u 2), readRole := .maker }  -- S_HANDLE
  | 0x02 => some { ty := (.u 1), readRole := .maker }  -- S_ROLE
  | 0x03 => some { ty := (.u 4), readRole := .maker }  -- S_HOST_ID
  | 0x04 => some { ty := (.u 8), readRole := .maker }  -- S_OPENED
  | 0x05 => some { ty := (.u 8), readRole := .maker }  -- S_LAST
  | _ => none

/-- Record 0x1120: Sessions (spec/18_security.md). -/
def lckRec (sub : Nat) : Option Desc :=
  match sub with
  | 0x00 => some { ty := (.u 1), dflt := 0x4 }
  | _ => if 0x01 ≤ sub ∧ sub ≤ 0x04 then some { ty := (.u 2) } else none  -- LOCK_LEFT_0–LOCK_LEFT_3

/-- Record 0x3000: Lifecycle, debug and identity (spec/18_security.md). -/
def lcRec (sub : Nat) : Option Desc :=
  match sub with
  | 0x00 => some { ty := (.u 1), dflt := 0x5 }
  | 0x01 => some { ty := (.u 1), dflt := Part.lifecycle }  -- LIFECYCLE
  | 0x02 => some { ty := (.u 1), access := .wo, role := .maker, kind := .cmd, spans := [(0, 4)], perSession := true }  -- LC_REQUEST
  | 0x03 => some { ty := (.u 4), perSession := true }  -- LC_TOKEN
  | 0x04 => some { ty := (.u 4), access := .wo, role := .maker, kind := .cmd, perSession := true }  -- LC_CONFIRM
  | 0x05 => some { ty := (.u 1), perSession := true }  -- LC_RESULT
  | _ => none

/-- Record 0x3001: Lifecycle, debug and identity (spec/18_security.md). -/
def dbgRec (sub : Nat) : Option Desc :=
  match sub with
  | 0x00 => some { ty := (.u 1), dflt := 0x4 }
  | 0x01 => some { ty := (.u 1) }  -- DEBUG_LEVEL
  | 0x02 => some { ty := (.u 4), access := .wo, role := .maker, kind := .cmd }  -- DEBUG_REQUEST
  | 0x03 => some { ty := (.u 1), access := .wo, role := .maker, kind := .cmd, spans := [(1, 1)] }  -- DEBUG_CLOSE
  | 0x04 => some { ty := (.u 1) }  -- DEBUG_STATE
  | _ => none

/-- Record 0x3002: Lifecycle, debug and identity (spec/18_security.md). -/
def devRec (sub : Nat) : Option Desc :=
  match sub with
  | 0x00 => some { ty := (.u 1), dflt := 0x3 }
  | 0x01 => some { ty := (.octets 64), dflt := Part.devicePubkey }  -- DEVICE_PUBKEY
  | 0x02 => some { ty := (.octets 160), dflt := Part.idCert }  -- ID_CERT
  | 0x03 => some { ty := (.u 1) }  -- BOOT_RESULT
  | _ => none

/-- Record 0x3100+s: Key slot descriptor, index 0x3100 + s, s = 0–127 (spec/18_security.md). -/
def keyRec (sub : Nat) : Option Desc :=
  match sub with
  | 0x00 => some { ty := (.u 1), dflt := 0x9 }
  | 0x01 => some { ty := (.u 1) }  -- SLOT_STATE
  | 0x02 => some { ty := (.u 1) }  -- KEY_TYPE
  | 0x03 => some { ty := (.bits 2) }  -- KEY_POLICY
  | 0x04 => some { ty := (.u 1) }  -- SLOT_SCA_MIN
  | 0x05 => some { ty := (.u 4) }  -- KEY_ID
  | 0x06 => some { ty := (.octets 3) }  -- KEY_CHECK
  | 0x07 => some { ty := (.u 1), access := .rw, role := .maker, kind := .cfg, spans := [(0, 3)] }  -- USE_ROLE
  | 0x08 => some { ty := (.u 1) }  -- SLOT_FUNCTION
  | 0x09 => some { ty := (.u 4) }  -- USE_COUNT
  | _ => none

/-- Record 0x3200: Cipher, key and public-key services (spec/18_security.md). -/
def cjRec (sub : Nat) : Option Desc :=
  match sub with
  | 0x00 => some { ty := (.u 1), dflt := 0xB, perSession := true }
  | 0x01 => some { ty := (.u 1), access := .rw, kind := .cmd, dflt := 1, spans := [(1, 4)], perSession := true }  -- CJ_OP
  | 0x02 => some { ty := (.u 1), access := .rw, kind := .cmd, dflt := 7, spans := [(1, 7)], perSession := true }  -- CJ_MODE
  | 0x03 => some { ty := (.u 1), access := .rw, kind := .cmd, dflt := 0xFF, spans := [(18, 127)], perSession := true }  -- CJ_SLOT
  | 0x04 => some { ty := (.octets 16), access := .rw, kind := .cmd, perSession := true }  -- CJ_IV
  | 0x05 => some { ty := (.u 1), access := .rw, kind := .cmd, dflt := 12, spans := [(7, 16)], perSession := true }  -- CJ_IV_LEN
  | 0x06 => some { ty := (.u 2), access := .rw, kind := .cmd, perSession := true }  -- CJ_AAD_LEN
  | 0x07 => some { ty := (.u 1), access := .rw, kind := .cmd, dflt := 16, spans := [(4, 16)], perSession := true }  -- CJ_TAG_LEN
  | 0x08 => some { ty := (.octets 16), access := .rw, kind := .cmd, perSession := true }  -- CJ_TAG
  | 0x09 => some { ty := (.u 1), access := .wo, kind := .cmd, spans := [(1, 1)], perSession := true }  -- CJ_RUN
  | 0x0A => some { ty := (.u 1), perSession := true }  -- CJ_STATUS
  | 0x0B => some { ty := (.u 4), perSession := true }  -- CJ_OUT_LEN
  | _ => none

/-- Record 0x3202: Cipher, key and public-key services (spec/18_security.md). -/
def scaRec (sub : Nat) : Option Desc :=
  match sub with
  | 0x00 => some { ty := (.u 1), dflt := 0x1 }
  | 0x01 => some { ty := (.u 1), access := .rw, role := .maker, kind := .cfg, dflt := 3, spans := [(0, 3)] }  -- SCA_LEVEL
  | _ => none

/-- Record 0x3210: Cipher, key and public-key services (spec/18_security.md). -/
def kcRec (sub : Nat) : Option Desc :=
  match sub with
  | 0x00 => some { ty := (.u 1), dflt := 0x8, perSession := true }
  | 0x01 => some { ty := (.u 1), access := .rw, role := .maker, kind := .cmd, spans := [(1, 4)], perSession := true }  -- KC_OP
  | 0x02 => some { ty := (.u 1), access := .rw, role := .maker, kind := .cmd, dflt := 0xFF, spans := [(0, 127)], perSession := true }  -- KC_SLOT
  | 0x03 => some { ty := (.u 1), access := .rw, role := .maker, kind := .cmd, dflt := 17, spans := [(0, 127)], perSession := true }  -- KC_SOURCE
  | 0x04 => some { ty := (.octets 8), access := .rw, role := .maker, kind := .cmd, perSession := true }  -- KC_ATTR
  | 0x05 => some { ty := (.octets 48), access := .wo, role := .maker, kind := .cmd, perSession := true }  -- KC_BLOB
  | 0x06 => some { ty := (.u 1), access := .rw, role := .maker, kind := .cmd, spans := [(0, 48)], perSession := true }  -- KC_BLOB_LEN
  | 0x07 => some { ty := (.u 1), access := .wo, role := .maker, kind := .cmd, spans := [(1, 1)], perSession := true }  -- KC_RUN
  | 0x08 => some { ty := (.u 1), perSession := true }  -- KC_STATUS
  | _ => none

/-- Record 0x3220: Cipher, key and public-key services (spec/18_security.md). -/
def pkRec (sub : Nat) : Option Desc :=
  match sub with
  | 0x00 => some { ty := (.u 1), dflt := 0x9, perSession := true }
  | 0x01 => some { ty := (.u 1), access := .rw, kind := .cmd, dflt := 2, spans := [(1, 3)], perSession := true }  -- PK_OP
  | 0x02 => some { ty := (.u 1), access := .rw, kind := .cmd, dflt := 0xFF, spans := [(0, 127), (255, 255)], perSession := true }  -- PK_SLOT
  | 0x03 => some { ty := (.u 1), access := .rw, kind := .cmd, dflt := 1, spans := [(1, 2)], perSession := true }  -- PK_HASH
  | 0x04 => some { ty := (.u 1), access := .rw, kind := .cmd, spans := [(0, 1)], perSession := true }  -- PK_INPUT
  | 0x05 => some { ty := (.octets 48), access := .rw, kind := .cmd, perSession := true }  -- PK_DIGEST
  | 0x06 => some { ty := (.octets 64), access := .rw, kind := .cmd, perSession := true }  -- PK_PUBKEY
  | 0x07 => some { ty := (.octets 64), access := .rw, kind := .cmd, perSession := true }  -- PK_SIGNATURE
  | 0x08 => some { ty := (.u 1), access := .wo, kind := .cmd, spans := [(1, 1)], perSession := true }  -- PK_RUN
  | 0x09 => some { ty := (.u 1), perSession := true }  -- PK_STATUS
  | _ => none

/-- Record 0x3230: Cipher, key and public-key services (spec/18_security.md). -/
def rndRec (sub : Nat) : Option Desc :=
  match sub with
  | 0x00 => some { ty := (.u 1), dflt := 0x2 }
  | 0x01 => some { ty := (.octets 32) }  -- RANDOM
  | 0x02 => some { ty := (.u 1) }  -- TRNG_STATE
  | _ => none

/-- Record 0x3400: Ports, lock-out and commands (spec/19_burgee_access.md). -/
def bgRec (sub : Nat) : Option Desc :=
  match sub with
  | 0x00 => some { ty := (.u 1), dflt := 0x7 }
  | 0x01 => some { ty := .bool, access := .rw, role := .maker, kind := .cfg }  -- BKEY_ENABLE
  | 0x02 => some { ty := .bool, access := .rw, role := .maker, kind := .cfg }  -- LF_ENABLE
  | 0x03 => some { ty := (.u 2), access := .rw, role := .maker, kind := .cfg, dflt := 1000, spans := [(100, 10000)] }  -- LF_POLL_PERIOD
  | 0x04 => some { ty := (.u 1), access := .rw, role := .maker, kind := .cfg, dflt := 5, spans := [(1, 100)] }  -- BKEY_SETTLE
  | 0x05 => some { ty := (.u 1), access := .rw, role := .maker, kind := .cfg, dflt := 5, spans := [(3, 15)] }  -- FAIL_LIMIT
  | 0x06 => some { ty := (.u 1), access := .rw, role := .maker, kind := .cfg, dflt := 10, spans := [(1, 60)] }  -- FAIL_WINDOW
  | 0x07 => some { ty := (.u 1), access := .rw, role := .maker, kind := .cfg, dflt := 10, spans := [(1, 60)] }  -- LOCK_TIME
  | _ => none

/-- Record 0x3401+p: Ports, lock-out and commands (spec/19_burgee_access.md). -/
def bgPRec (sub : Nat) : Option Desc :=
  match sub with
  | 0x00 => some { ty := (.u 1), dflt := 0x8 }
  | 0x01 => some { ty := (.u 1) }  -- PORT_STATE
  | 0x02 => some { ty := (.u 1) }  -- LAST_RESULT
  | 0x03 => some { ty := (.u 1), dflt := 0xFF }  -- LAST_ENTRY
  | 0x04 => some { ty := (.u 1) }  -- FAILS_IN_WINDOW
  | 0x05 => some { ty := (.u 2) }  -- LOCK_LEFT
  | 0x06 => some { ty := (.u 4) }  -- RESPONSE_DELAY
  | 0x07 => some { ty := (.u 4) }  -- EXCHANGES
  | 0x08 => some { ty := (.u 4) }  -- FAILURES
  | _ => none

/-- Record 0x3404: Ports, lock-out and commands (spec/19_burgee_access.md). -/
def bgXRec (sub : Nat) : Option Desc :=
  match sub with
  | 0x00 => some { ty := (.u 1), dflt := 0x2 }
  | 0x01 => some { ty := (.u 1), access := .wo, role := .maker, kind := .cmd, spans := [(0, 1), (32, 39)] }  -- BG_CLEAR_LOCK
  | 0x02 => some { ty := (.u 1), access := .wo, kind := .cmd, spans := [(0, 7)] }  -- IMPL_RUN
  | _ => none

/-- Record 0x3420+r: Release objects (spec/19_burgee_access.md). -/
def relCRec (sub : Nat) : Option Desc :=
  match sub with
  | 0x00 => some { ty := (.u 1), dflt := 0x7 }
  | 0x01 => some { ty := .bool, access := .rw, role := .maker, kind := .cfg }  -- REL_ENABLE
  | 0x02 => some { ty := (.u 4), access := .rw, role := .maker, kind := .cfg, sig := .gate0 }  -- REL_GATE_FIRST
  | 0x03 => some { ty := (.u 4), access := .rw, role := .maker, kind := .cfg, sig := .gate0 }  -- REL_GATE_LAST
  | 0x04 => some { ty := (.u 2), access := .rw, role := .maker, kind := .cfg, dflt := 0xFFFF, spans := [(0, 8191), (65535, 65535)] }  -- REL_MO
  | 0x05 => some { ty := (.u 1), access := .rw, role := .maker, kind := .cfg, dflt := 0xFF, spans := [(18, 127), (255, 255)] }  -- REL_MAC_SLOT
  | 0x06 => some { ty := (.u 2), access := .rw, role := .maker, kind := .cfg, dflt := 60 }  -- REL_VALIDITY
  | 0x07 => some { ty := (.u 4), access := .rw, role := .maker, kind := .cfg, sig := .any0 }  -- REL_HOLD_SIGNAL
  | _ => none

/-- Record 0x3430+r: Release objects (spec/19_burgee_access.md). -/
def relSRec (sub : Nat) : Option Desc :=
  match sub with
  | 0x00 => some { ty := (.u 1), dflt := 0x6 }
  | 0x01 => some { ty := .bool, access := .rw, role := .maker, kind := .cfg }  -- REL_PERSIST
  | 0x02 => some { ty := (.u 1), mappable := true }  -- REL_STATE
  | 0x03 => some { ty := (.u 2) }  -- REL_LEFT
  | 0x04 => some { ty := (.u 2), dflt := 0xFFFF }  -- REL_OPENED_BY
  | 0x05 => some { ty := (.u 1), access := .wo, kind := .cmd, spans := [(1, 1)] }  -- REL_CLOSE
  | 0x06 => some { ty := (.u 1), access := .wo, role := .maker, kind := .cmd, spans := [(1, 1)] }  -- REL_OPEN
  | _ => none

/-- Record 0x3440+e: Token entry, index 0x3440 + e (spec/19_burgee_access.md). -/
def tokRec (sub : Nat) : Option Desc :=
  match sub with
  | 0x00 => some { ty := (.u 1), dflt := 0x6 }
  | 0x01 => some { ty := (.u 1), access := .rw, role := .maker, kind := .cfg, spans := [(0, 2)] }  -- TOK_KIND
  | 0x02 => some { ty := (.u 8), access := .rw, role := .maker, kind := .cfg }  -- TOKEN_ID
  | 0x03 => some { ty := (.bits 1), access := .rw, role := .maker, kind := .cfg, dflt := 0x3, rsvd := 0xFC }  -- TOK_PORTS
  | 0x04 => some { ty := (.u 1), access := .rw, role := .maker, kind := .cfg, dflt := 0xFF, spans := [(18, 127)] }  -- TOK_SLOT
  | 0x05 => some { ty := .bool, access := .rw, role := .maker, kind := .cfg, dflt := 1 }  -- TOK_DIVERSIFY
  | 0x06 => some { ty := (.bits 2), access := .rw, role := .maker, kind := .cfg }  -- TOK_RELEASES
  | _ => none

/-- Record 0x3470+i: Implement entry, index 0x3470 + i (spec/19_burgee_access.md). -/
def impRec (sub : Nat) : Option Desc :=
  match sub with
  | 0x00 => some { ty := (.u 1), dflt := 0x9 }
  | 0x01 => some { ty := .bool, access := .rw, role := .maker, kind := .cfg }  -- IMPL_ENABLE
  | 0x02 => some { ty := (.u 8), access := .rw, role := .maker, kind := .cfg }  -- IMPL_ID
  | 0x03 => some { ty := (.u 2), access := .rw, role := .maker, kind := .cfg, dflt := 0xFFFF, spans := [(0, 8191)] }  -- IMPL_TX_MO
  | 0x04 => some { ty := (.u 2), access := .rw, role := .maker, kind := .cfg, dflt := 0xFFFF, spans := [(0, 8191)] }  -- IMPL_RX_MO
  | 0x05 => some { ty := (.u 1), access := .rw, role := .maker, kind := .cfg, dflt := 0xFF, spans := [(18, 127)] }  -- IMPL_SLOT
  | 0x06 => some { ty := .bool, access := .rw, role := .maker, kind := .cfg, dflt := 1 }  -- IMPL_DIVERSIFY
  | 0x07 => some { ty := (.bits 2), access := .rw, role := .maker, kind := .cfg }  -- IMPL_RELEASES
  | 0x08 => some { ty := (.u 2), access := .rw, role := .maker, kind := .cfg, dflt := 60, spans := [(0, 3600)] }  -- IMPL_PERIOD
  | 0x09 => some { ty := (.u 1) }  -- IMPL_STATE
  | _ => none

/-- Record 0x9000: Ledger configuration, status and commands (spec/20_actuation_ledger.md). -/
def ldCRec (sub : Nat) : Option Desc :=
  match sub with
  | 0x00 => some { ty := (.u 1), dflt := 0x9 }
  | 0x01 => some { ty := .bool, access := .rw, role := .maker, kind := .cfg }  -- LEDGER_ENABLE
  | 0x02 => some { ty := (.u 1), access := .rw, role := .maker, kind := .cfg, spans := [(0, 1)] }  -- FULL_POLICY
  | 0x03 => some { ty := (.u 2), access := .rw, role := .service, kind := .cfg, dflt := 1000, spans := [(10, 10000)] }  -- SEAL_TIME
  | 0x04 => some { ty := (.u 2), access := .rw, role := .service, kind := .cfg, dflt := 100, spans := [(10, 1000)] }  -- FLUSH_TIME
  | 0x05 => some { ty := (.u 2), access := .rw, role := .service, kind := .cfg, dflt := 1000, spans := [(10, 60000)] }  -- DIPPED_HOLD
  | 0x06 => some { ty := (.u 4), access := .rw, role := .maker, kind := .cfg, dflt := 1 }  -- LEDGER_NSID_1
  | 0x07 => some { ty := (.u 4), access := .rw, role := .maker, kind := .cfg }  -- LEDGER_NSID_2
  | 0x08 => some { ty := (.u 1), access := .rw, role := .service, kind := .cfg, dflt := 90, spans := [(50, 99)] }  -- USED_WARN
  | 0x09 => some { ty := (.u 2), access := .rw, role := .service, kind := .cfg, dflt := 60, spans := [(10, 3600)] }  -- SMART_PERIOD
  | _ => none

/-- Record 0x9001: Ledger configuration, status and commands (spec/20_actuation_ledger.md). -/
def ldSRec (sub : Nat) : Option Desc :=
  match sub with
  | 0x00 => some { ty := (.u 1), dflt := 0xB }
  | 0x01 => some { ty := (.u 1), mappable := true }  -- LEDGER_STATE
  | 0x02 => some { ty := (.u 4) }  -- LEDGER_EPOCH
  | 0x03 => some { ty := (.u 8) }  -- HEAD_PAGE
  | 0x04 => some { ty := (.u 8) }  -- DURABLE_PAGE
  | 0x05 => some { ty := (.u 8) }  -- NEXT_SEQ
  | 0x06 => some { ty := (.u 8) }  -- FORMAT_PAGE
  | 0x07 => some { ty := (.u 8) }  -- CAPACITY_PAGES
  | 0x08 => some { ty := (.u 2) }  -- BUFFER_FILL
  | 0x09 => some { ty := (.u 4) }  -- RECORDS_LOST
  | 0x0A => some { ty := (.u 1) }  -- USED_PERCENT
  | 0x0B => some { ty := (.bits 1) }  -- SSD_WARNING
  | _ => none

/-- Record 0x9002: Ledger configuration, status and commands (spec/20_actuation_ledger.md). -/
def ldXRec (sub : Nat) : Option Desc :=
  match sub with
  | 0x00 => some { ty := (.u 1), dflt := 0x4 }
  | 0x01 => some { ty := (.u 1), access := .wo, kind := .cmd, spans := [(1, 1)] }  -- LEDGER_FLUSH
  | 0x02 => some { ty := (.u 1), access := .wo, kind := .cmd, spans := [(1, 1)] }  -- LEDGER_ATTEST
  | 0x03 => some { ty := (.octets 128), perSession := true }  -- ATTEST_OUT
  | 0x04 => some { ty := (.u 1), access := .wo, role := .maker, kind := .cmd, spans := [(1, 1)] }  -- LEDGER_FORMAT
  | _ => none

/-- Record 0x9020+k: Ledger range, index 0x9020 + k, k = 0–31 (spec/20_actuation_ledger.md). -/
def lrRec (sub : Nat) : Option Desc :=
  match sub with
  | 0x00 => some { ty := (.u 1), dflt := 0x2 }
  | 0x01 => some { ty := (.u 4), access := .rw, role := .maker, kind := .cfg, sig := .owned0 }  -- LR_FIRST
  | 0x02 => some { ty := (.u 4), access := .rw, role := .maker, kind := .cfg, sig := .owned0 }  -- LR_LAST
  | _ => none

/-- Record 0x1F00: Update control, declarations and migration (spec/21_update.md). -/
def updRec (sub : Nat) : Option Desc :=
  match sub with
  | 0x00 => some { ty := (.u 1), dflt := 0x8 }
  | 0x01 => some { ty := (.bits 1), access := .wo, role := .service, kind := .cmd, rsvd := 0xF0 }  -- UPD_ACTIVATE
  | 0x02 => some { ty := (.u 1), access := .wo, role := .service, kind := .cmd, spans := [(165, 165)] }  -- UPD_CONFIRM
  | 0x03 => some { ty := (.u 1), access := .wo, role := .service, kind := .cmd, spans := [(0, 2)] }  -- UPD_DISCARD
  | 0x04 => some { ty := (.u 1), mappable := true }  -- UPD_STATE
  | 0x05 => some { ty := (.u 1), perSession := true }  -- UPD_RESULT
  | 0x06 => some { ty := (.bits 1), access := .wo, role := .service, kind := .cmd }  -- UPD_NODE_RUN
  | 0x07 => some { ty := (.u 1), access := .rw, role := .service, kind := .cfg, dflt := 3, spans := [(1, 15)] }  -- UPD_NODE_PASSES
  | 0x08 => some { ty := (.bits 1) }  -- UNCONFIRMED
  | _ => none

/-- Record 0x1F01: Update control, declarations and migration (spec/21_update.md). -/
def imgRec (sub : Nat) : Option Desc :=
  match sub with
  | 0x00 => some { ty := (.u 1), dflt := 0x9 }
  | 0x01 => some { ty := (.u 2), dflt := Part.epochMin }  -- EPOCH_MIN
  | 0x02 => some { ty := (.u 2), dflt := Part.epochMax }  -- EPOCH_MAX
  | 0x03 => some { ty := (.u 4), dflt := Part.hoistMin }  -- HOIST_MIN
  | 0x04 => some { ty := (.u 4), dflt := Part.nodeMin }  -- NODE_MIN
  | 0x05 => some { ty := (.u 2), dflt := Part.migrateFrom }  -- MIGRATE_FROM
  | _ => if 0x06 ≤ sub ∧ sub ≤ 0x09 then some { ty := (.u 2), dflt := Part.secMin } else none  -- SEC_MIN_ENSIGN–SEC_MIN_NODE

/-- Record 0x1F02: Update control, declarations and migration (spec/21_update.md). -/
def migRec (sub : Nat) : Option Desc :=
  match sub with
  | 0x00 => some { ty := (.u 1), dflt := 0x4 }
  | 0x01 => some { ty := (.u 1) }  -- MIGRATE_STATE
  | 0x02 => some { ty := (.u 2), dflt := Part.schemaVersion }  -- CONFIG_SCHEMA
  | 0x03 => some { ty := (.u 2) }  -- KEEP_SCHEMA
  | 0x04 => some { ty := (.u 4) }  -- MIGRATE_FAIL_OBJECT
  | _ => none

/-- Record 0x1F10+a: Staging area, index 0x1F10 + a; staging window, 0x1F20 + a; node distribution, 0x1F30 + p (spec/21_update.md). -/
def areRec (sub : Nat) : Option Desc :=
  match sub with
  | 0x00 => some { ty := (.u 1), dflt := 0xA }
  | 0x01 => some { ty := (.u 1) }  -- AREA_STATE
  | 0x02 => some { ty := (.u 1) }  -- AREA_KIND
  | 0x03 => some { ty := (.u 2) }  -- BLOCKS_EXPECTED
  | 0x04 => some { ty := (.u 2) }  -- BLOCKS_VALID
  | 0x05 => some { ty := (.u 4) }  -- BLOCKS_BAD
  | 0x06 => some { ty := (.u 4) }  -- IMG_VERSION
  | 0x07 => some { ty := (.u 2) }  -- IMG_SEC
  | 0x08 => some { ty := (.u 1) }  -- REJECT_CAUSE
  | 0x09 => some { ty := (.u 1), access := .wo, role := .service, kind := .cmd, spans := [(1, 1)] }  -- UPD_VERIFY
  | 0x0A => some { ty := (.octets 64), access := .rw, role := .service, kind := .cmd }  -- UPD_SIGNATURE
  | _ => none

/-- Record 0x1F30+p: Staging area, index 0x1F10 + a; staging window, 0x1F20 + a; node distribution, 0x1F30 + p (spec/21_update.md). -/
def ndRec (sub : Nat) : Option Desc :=
  match sub with
  | 0x00 => some { ty := (.u 1), dflt := 0x4 }
  | 0x01 => some { ty := (.u 1) }  -- ND_STATE
  | 0x02 => some { ty := (.u 1) }  -- ND_PASS
  | 0x03 => some { ty := (.u 2) }  -- ND_UPDATED
  | 0x04 => some { ty := (.u 2) }  -- ND_LEFT
  | _ => none

/-- Record 0xA000: Fault-tolerance configuration, status and commands (spec/22_fault_tolerance.md). -/
def ftCRec (sub : Nat) : Option Desc :=
  match sub with
  | 0x00 => some { ty := (.u 1), dflt := 0x5 }
  | 0x01 => some { ty := (.u 2), access := .rw, role := .service, kind := .cfg, dflt := 60, spans := [(0, 3600)] }  -- STAGE_TEST_PERIOD
  | 0x02 => some { ty := (.u 2), access := .rw, role := .maker, kind := .cfg, dflt := 60, spans := [(10, 3600)] }  -- SPARE_TEST_PERIOD
  | 0x03 => some { ty := (.u 2), access := .rw, role := .maker, kind := .cfg, dflt := 10, spans := [(1, 1000)] }  -- ARB_CHECK_PERIOD
  | 0x04 => some { ty := .bool, access := .rw, role := .maker, kind := .cfg, dflt := 1 }  -- LANE_RETURN
  | 0x05 => some { ty := (.u 2), access := .rw, role := .maker, kind := .cfg, dflt := 24, spans := [(1, 168)] }  -- MRAM_SCRUB_PERIOD
  | _ => none

/-- Record 0xA001: Fault-tolerance configuration, status and commands (spec/22_fault_tolerance.md). -/
def ftSRec (sub : Nat) : Option Desc :=
  match sub with
  | 0x00 => some { ty := (.u 1), dflt := 0x8 }
  | 0x01 => some { ty := (.bits 2), mappable := true }  -- FT_FLAGS
  | 0x02 => some { ty := (.u 1), dflt := 1 }  -- ARBITER
  | 0x03 => some { ty := (.u 1) }  -- LANE_STATE
  | 0x04 => some { ty := (.bits 1), dflt := 0x1F }  -- PHASES
  | 0x05 => some { ty := (.u 1), dflt := 0xFF }  -- SRAM_SPARE
  | 0x06 => some { ty := (.u 1), dflt := 0xFF }  -- MRAM_SPARE
  | 0x07 => some { ty := (.u 4) }  -- SCRUB_CORRECTED
  | 0x08 => some { ty := (.u 4) }  -- MISMATCH_COUNT
  | _ => none

/-- Record 0xA002: Fault-tolerance configuration, status and commands (spec/22_fault_tolerance.md). -/
def ftXRec (sub : Nat) : Option Desc :=
  match sub with
  | 0x00 => some { ty := (.u 1), dflt := 0x2 }
  | 0x01 => some { ty := (.u 1), access := .wo, role := .maker, kind := .cmd, spans := [(1, 1)] }  -- TILE_RETEST
  | 0x02 => some { ty := (.u 1), access := .wo, role := .service, kind := .cmd, spans := [(165, 165)] }  -- SPLIT_ACK
  | _ => none

/-- Record 0xA010: Fault-tolerance configuration, status and commands (spec/22_fault_tolerance.md). -/
def tilRec (sub : Nat) : Option Desc :=
  match sub with
  | 0x00 => some { ty := (.u 1), dflt := 0x18 }
  | _ => if 0x01 ≤ sub ∧ sub ≤ 0x18 then some { ty := (.u 1), dflt := (if sub % 6 = 0 then 1 else 0) } else none  -- TILE_STATE_0–TILE_STATE_23

/-- Record 0xA020: Fault-tolerance configuration, status and commands (spec/22_fault_tolerance.md). -/
def cpyRec (sub : Nat) : Option Desc :=
  match sub with
  | 0x00 => some { ty := (.u 1), dflt := 0x8 }
  | 0x07 => some { ty := (.u 1) }  -- CFG_USED
  | 0x08 => some { ty := (.u 2) }  -- SPLIT_COUNT
  | _ => if 0x01 ≤ sub ∧ sub ≤ 0x03 then some { ty := (.u 1) } else  -- CFG_STATE_A–CFG_STATE_C
    if 0x04 ≤ sub ∧ sub ≤ 0x06 then some { ty := (.u 4) } else none  -- CFG_GEN_A–CFG_GEN_C

/-- Record 0xA101: Fault-tolerance configuration, status and commands (spec/22_fault_tolerance.md). -/
def flgRec (sub : Nat) : Option Desc :=
  match sub with
  | 0x00 => some { ty := (.u 1), dflt := 0x2 }
  | 0x01 => some { ty := (.u 4) }  -- FLOG_SEQ
  | 0x02 => some { ty := (.u 4) }  -- FLOG_OVERWRITTEN
  | _ => none

/-- Where an index lies among `count` records that start at `base` and stand `stride` apart. -/
def inst? (ix base count stride : Nat) : Option Nat :=
  if base ≤ ix ∧ (ix - base) % stride = 0 ∧ (ix - base) / stride < count then some ((ix - base) / stride) else none

/-- The objects of indices 0x1000–0x1FFF (R36, R37). -/
def objAt1 (ix sub : Nat) : Option Desc :=
  if ix = 0x1000 then idnRec sub else
  if (inst? ix 0x1020 12 1).isSome then capRec ((ix - 0x1020) / 1) sub else
  if ix = 0x10F0 then comRec sub else
  if ix = 0x1100 then rolRec sub else
  if ix = 0x1101 then sup2Rec sub else
  if ix = 0x1102 then sesRec sub else
  if (inst? ix 0x1110 8 1).isSome then sesTRec sub else
  if ix = 0x1120 then lckRec sub else
  if ix = 0x1200 then halRec sub else
  if ix = 0x1201 then adrRec sub else
  if ix = 0x1202 then lnkRec sub else
  if ix = 0x1220 then synRec sub else
  if (inst? ix 0x1231 16 1).isSome then regRec sub else
  if (inst? ix 0x1800 64 1).isSome then mapRec sub else
  if (inst? ix 0x1840 64 1).isSome then mapERec sub else
  if ix = 0x1F00 then updRec sub else
  if ix = 0x1F01 then imgRec sub else
  if ix = 0x1F02 then migRec sub else
  if ix = 0x1F03 then domainRecord sub .ro .host .maker .sts false else
  if (inst? ix 0x1F10 3 1).isSome then areRec sub else
  if (inst? ix 0x1F20 3 1).isSome then domainRecord sub .rw .service .host .cmd false else
  if (inst? ix 0x1F30 8 1).isSome then ndRec sub else
  none

/-- The objects of indices 0x2000–0x2FFF (R36, R37). -/
def objAt2 (ix sub : Nat) : Option Desc :=
  if ix = 0x2000 then pwrRec sub else
  if ix = 0x2001 then hvtRec sub else
  if (inst? ix 0x2010 19 1).isSome then dmnRec sub else
  if (inst? ix 0x2030 16 1).isSome then prfRec sub else
  if ix = 0x2050 then prkRec sub else
  if ix = 0x2051 then hmwRec sub else
  if ix = 0x2060 then rtcRec sub else
  if ix = 0x2100 then stkRec sub else
  if ix = 0x2200 then admRec sub else
  if ix = 0x2201 then lrelRec sub else
  if ix = 0x2202 then adsRec sub else
  if (inst? ix 0x2210 4 1).isSome then defRec ((ix - 0x2210) / 1) sub else
  if ix = 0x2220 then adqRec sub else
  if (inst? ix 0x2300 10 1).isSome then supRec ((ix - 0x2300) / 1) sub else
  if ix = 0x2310 then tmpRec sub else
  none

/-- The objects of indices 0x3000–0x3FFF (R36, R37). -/
def objAt3 (ix sub : Nat) : Option Desc :=
  if ix = 0x3000 then lcRec sub else
  if ix = 0x3001 then dbgRec sub else
  if ix = 0x3002 then devRec sub else
  if (inst? ix 0x3100 128 1).isSome then keyRec sub else
  if ix = 0x3200 then cjRec sub else
  if ix = 0x3201 then domainRecord sub .rw .host .host .cmd true else
  if ix = 0x3202 then scaRec sub else
  if ix = 0x3210 then kcRec sub else
  if ix = 0x3220 then pkRec sub else
  if ix = 0x3230 then rndRec sub else
  if ix = 0x3400 then bgRec sub else
  if (inst? ix 0x3401 2 1).isSome then bgPRec sub else
  if ix = 0x3404 then bgXRec sub else
  if (inst? ix 0x3420 16 1).isSome then relCRec sub else
  if (inst? ix 0x3430 16 1).isSome then relSRec sub else
  if (inst? ix 0x3440 32 1).isSome then tokRec sub else
  if (inst? ix 0x3470 8 1).isSome then impRec sub else
  none

/-- The objects of indices 0x4000–0x4FFF (R36, R37). -/
def objAt4 (ix sub : Nat) : Option Desc :=
  if (inst? ix 0x4000 24 16).isSome then gdCRec sub else
  if (inst? ix 0x4001 24 16).isSome then gdDRec sub else
  if (inst? ix 0x4002 24 16).isSome then gdSRec sub else
  if (inst? ix 0x4003 24 16).isSome then gdXRec sub else
  if (inst? ix 0x4200 6 16).isSome then brCRec ((ix - 0x4200) / 16) sub else
  if (inst? ix 0x4201 6 16).isSome then brFRec sub else
  if (inst? ix 0x4202 6 16).isSome then brSRec sub else
  if (inst? ix 0x4203 6 16).isSome then brXRec sub else
  if (inst? ix 0x4300 4 16).isSome then fanCRec sub else
  if (inst? ix 0x4301 4 16).isSome then fanSRec sub else
  if (inst? ix 0x4302 4 16).isSome then fanXRec sub else
  if (inst? ix 0x4400 8 16).isSome then svCRec sub else
  if (inst? ix 0x4401 8 16).isSome then svDRec sub else
  if (inst? ix 0x4402 8 16).isSome then svSRec sub else
  if (inst? ix 0x4403 8 16).isSome then svXRec sub else
  if (inst? ix 0x4800 16 1).isSome then dinCRec sub else
  if (inst? ix 0x4810 16 1).isSome then dinSRec sub else
  if (inst? ix 0x4820 8 1).isSome then doCRec sub else
  if (inst? ix 0x4828 8 1).isSome then doSRec sub else
  if (inst? ix 0x4830 8 1).isSome then doXRec sub else
  if (inst? ix 0x4900 12 1).isSome then ainCRec sub else
  if (inst? ix 0x4910 12 1).isSome then ainSRec sub else
  if ix = 0x4920 then vsRec sub else
  if (inst? ix 0x4A00 4 1).isSome then tacCRec sub else
  if (inst? ix 0x4A10 4 1).isSome then tacSRec sub else
  if (inst? ix 0x4C00 40 4).isSome then ppCRec sub else
  if (inst? ix 0x4C01 40 4).isSome then ppSRec sub else
  if (inst? ix 0x4C02 40 4).isSome then ppRRec sub else
  if (inst? ix 0x4C03 40 4).isSome then ppXRec sub else
  if (inst? ix 0x4D00 32 1).isSome then calRec sub else
  if (inst? ix 0x4D80 8 1).isSome then cabRec sub else
  none

/-- The objects of indices 0x5000–0x5FFF (R36, R37). -/
def objAt5 (ix sub : Nat) : Option Desc :=
  if (inst? ix 0x5000 8 32).isSome then bpCRec sub else
  if (inst? ix 0x5001 8 32).isSome then bpSRec sub else
  if (inst? ix 0x5002 8 32).isSome then bpXRec sub else
  if (inst? ix 0x5003 8 32).isSome then bpGRec sub else
  if (inst? ix 0x5100 8 1).isSome then domainRecord sub .rw .service .host .cfg false else
  if (inst? ix 0x5108 8 1).isSome then domainRecord sub .ro .host .host .sts false else
  if (inst? ix 0x5200 2 16).isSome then mxCRec sub else
  if (inst? ix 0x5201 2 16).isSome then mxSRec sub else
  if (inst? ix 0x5202 2 16).isSome then mxXRec sub else
  if ix = 0x5280 then kneRec sub else
  if ix = 0x5290 then nbRec sub else
  if ix = 0x5300 then domainRecord sub .rw .service .host .cfg false else
  if ix = 0x5301 then grpRec sub else
  if ix = 0x5302 then gqRec sub else
  if ix = 0x5400 then domainRecord sub .rw .service .host .cfg false else
  if (inst? ix 0x5410 32 1).isSome then patRec sub else
  none

/-- The objects of indices 0x6000–0x6FFF (R36, R37). -/
def objAt6 (ix sub : Nat) : Option Desc :=
  if (inst? ix 0x6000 8 32).isSome then canCRec sub else
  if (inst? ix 0x6001 8 32).isSome then canERec sub else
  if (inst? ix 0x6002 8 32).isSome then canSRec sub else
  if (inst? ix 0x6003 8 32).isSome then canXRec sub else
  if (inst? ix 0x6004 8 32).isSome then j19Rec sub else
  if (inst? ix 0x6005 8 32).isSome then domainRecord sub .ro .host .host .sts false else
  if ix = 0x6100 then domainRecord sub .rw .service .host .cfg false else
  if ix = 0x6101 then domainRecord sub .rw .host .host .cmd false else
  if ix = 0x6102 then domainRecord sub .rw .service .host .cfg false else
  if ix = 0x6103 then domainRecord sub .rw .service .host .cfg false else
  if ix = 0x6110 then mouRec sub else
  if ix = 0x6200 then nmCRec sub else
  if ix = 0x6201 then nmSRec sub else
  if ix = 0x6202 then nmXRec sub else
  if (inst? ix 0x6210 4 1).isSome then swRec sub else
  if (inst? ix 0x6220 4 1).isSome then wakRec sub else
  none

/-- The objects of indices 0x7000–0x7FFF (R36, R37). -/
def objAt7 (ix sub : Nat) : Option Desc :=
  if (inst? ix 0x7000 32 1).isSome then tmrCRec sub else
  if (inst? ix 0x7020 32 1).isSome then tmrRRec sub else
  if ix = 0x7040 then gsRec sub else
  if ix = 0x7041 then tmxRec sub else
  if ix = 0x7100 then domainRecord sub .rw .service .host .cfg false else
  if ix = 0x7101 then domainRecord sub .ro .host .host .sts false else
  if ix = 0x7102 then domainRecord sub .ro .host .host .sts false else
  if ix = 0x7110 then nciRec sub else
  if ix = 0x7120 then evpRec sub else
  if ix = 0x7121 then evsRec sub else
  none

/-- The objects of indices 0x8000–0x8FFF (R36, R37). -/
def objAt8 (ix sub : Nat) : Option Desc :=
  if (inst? ix 0x8000 2048 1).isSome then rulRec sub else
  if ix = 0x8800 then hbRec sub else
  if ix = 0x8801 then wdgRec sub else
  if ix = 0x8804 then hcmRec sub else
  if ix = 0x8805 then qryRec sub else
  if ix = 0x8806 then engRec sub else
  if (inst? ix 0x8840 128 1).isSome then sstRec sub else
  none

/-- The objects of indices 0x9000–0x9FFF (R36, R37). -/
def objAt9 (ix sub : Nat) : Option Desc :=
  if ix = 0x9000 then ldCRec sub else
  if ix = 0x9001 then ldSRec sub else
  if ix = 0x9002 then ldXRec sub else
  if ix = 0x9010 then domainRecord sub .ro .host .host .sts false else
  if ix = 0x9011 then domainRecord sub .ro .host .host .sts false else
  if (inst? ix 0x9020 32 1).isSome then lrRec sub else
  none

/-- The objects of indices 0xA000–0xAFFF (R36, R37). -/
def objAtA (ix sub : Nat) : Option Desc :=
  if ix = 0xA000 then ftCRec sub else
  if ix = 0xA001 then ftSRec sub else
  if ix = 0xA002 then ftXRec sub else
  if ix = 0xA010 then tilRec sub else
  if ix = 0xA020 then cpyRec sub else
  if ix = 0xA021 then domainRecord sub .ro .host .host .sts false else
  if ix = 0xA100 then domainRecord sub .ro .host .service .sts false else
  if ix = 0xA101 then flgRec sub else
  none

/-- The object at an index and subindex, or none where R37 answers that it does not exist. -/
def objAt (ix sub : Nat) : Option Desc :=
  match ix / 0x1000 with
  | 0x1 => objAt1 ix sub
  | 0x2 => objAt2 ix sub
  | 0x3 => objAt3 ix sub
  | 0x4 => objAt4 ix sub
  | 0x5 => objAt5 ix sub
  | 0x6 => objAt6 ix sub
  | 0x7 => objAt7 ix sub
  | 0x8 => objAt8 ix sub
  | 0x9 => objAt9 ix sub
  | 0xA => objAtA ix sub
  | _ => none

/-- An object's key: index << 8 | subindex, as COMMIT_FAIL_OBJECT writes it (0x10F0:05). -/
def key (ix sub : Nat) : Nat := ix * 256 + sub

def keyIndex (k : Nat) : Nat := k / 256

def keySub (k : Nat) : Nat := k % 256

/-- The object a key names. -/
def descOf (k : Nat) : Option Desc := objAt (keyIndex k) (keySub k)

/-- The default of R9, and the reset value of a status or command object: its Default column (0 where it has none). -/
def objDefault (k : Nat) : Nat :=
  match descOf k with
  | some d => d.dflt
  | none => 0

/-! ## The named objects -/

namespace Obj

/-- `0x10F0:01` COMMIT_CMD (02). -/
def commitCmd : Nat := key (0x10F0) (0x01)

/-- `0x10F0:02` COMMIT_STATUS (02). -/
def commitStatus : Nat := key (0x10F0) (0x02)

/-- `0x10F0:03` COMMIT_GENERATION (02). -/
def commitGeneration : Nat := key (0x10F0) (0x03)

/-- `0x10F0:04` PENDING_COUNT (02). -/
def pendingCount : Nat := key (0x10F0) (0x04)

/-- `0x10F0:05` COMMIT_FAIL_OBJECT (02). -/
def commitFailObject : Nat := key (0x10F0) (0x05)

/-- `0x1000:01` VENDOR_ID (02). -/
def vendorId : Nat := key (0x1000) (0x01)

/-- `0x1000:02` PRODUCT_CODE (02). -/
def productCode : Nat := key (0x1000) (0x02)

/-- `0x1000:03` STEPPING (02). -/
def stepping : Nat := key (0x1000) (0x03)

/-- `0x1000:04` GRADE (02). -/
def grade : Nat := key (0x1000) (0x04)

/-- `0x1000:05` SERIAL (02). -/
def serial : Nat := key (0x1000) (0x05)

/-- `0x1000:06` MAST_VERSION (02). -/
def mastVersion : Nat := key (0x1000) (0x06)

/-- `0x1000:07` ENSIGN_VERSION (02). -/
def ensignVersion : Nat := key (0x1000) (0x07)

/-- `0x1000:08` HOIST_VERSION (02). -/
def hoistVersion : Nat := key (0x1000) (0x08)

/-- `0x1000:09` NODE_VERSION (02). -/
def nodeVersion : Nat := key (0x1000) (0x09)

/-- `0x1000:0A` COMPAT_EPOCH (02). -/
def compatEpoch : Nat := key (0x1000) (0x0A)

/-- `0x1000:0B` SCHEMA_VERSION (02). -/
def schemaVersion : Nat := key (0x1000) (0x0B)

/-- `0x1000:0C` UNIT_ADDRESS (02). -/
def unitAddress : Nat := key (0x1000) (0x0C)

/-- `0x1800+m:01` PI_ENABLE (02). -/
def piEnable (n : Nat) : Nat := key (0x1800 + n) (0x01)

/-- `0x1800+m:02` PI_DIRECTION (02). -/
def piDirection (n : Nat) : Nat := key (0x1800 + n) (0x02)

/-- `0x1800+m:03` PI_PATH (02). -/
def piPath (n : Nat) : Nat := key (0x1800 + n) (0x03)

/-- `0x1800+m:04` PI_CAN_ID (02). -/
def piCanId (n : Nat) : Nat := key (0x1800 + n) (0x04)

/-- `0x1800+m:05` PI_PERIOD (02). -/
def piPeriod (n : Nat) : Nat := key (0x1800 + n) (0x05)

/-- `0x1800+m:06` PI_PHASE (02). -/
def piPhase (n : Nat) : Nat := key (0x1800 + n) (0x06)

/-- `0x1800+m:07` PI_TIMEOUT (02). -/
def piTimeout (n : Nat) : Nat := key (0x1800 + n) (0x07)

/-- `0x1800+m:08` PI_AUTH (02). -/
def piAuth (n : Nat) : Nat := key (0x1800 + n) (0x08)

/-- `0x1800+m:09` PI_ENTRY_COUNT (02). -/
def piEntryCount (n : Nat) : Nat := key (0x1800 + n) (0x09)

/-- `0x1800+m:0A` PI_STATUS (02). -/
def piStatus (n : Nat) : Nat := key (0x1800 + n) (0x0A)

/-- `0x1800+m:0B` PI_FRAME_COUNT (02). -/
def piFrameCount (n : Nat) : Nat := key (0x1800 + n) (0x0B)

/-- `0x1800+m:0C` PI_REJECT_COUNT (02). -/
def piRejectCount (n : Nat) : Nat := key (0x1800 + n) (0x0C)

/-- `0x1800+m:0D` PI_SESSION (02). -/
def piSession (n : Nat) : Nat := key (0x1800 + n) (0x0D)

/-- `0x1840+m:01` PI_ENTRY_1–PI_ENTRY_64 (02). -/
def piEntry (n k : Nat) : Nat := key (0x1840 + n) (0x01 + k)

/-- `0x1200:01` PLCA_TO_TIMER (03). -/
def plcaToTimer : Nat := key (0x1200) (0x01)

/-- `0x1200:02` PRESENCE_TIMEOUT (03). -/
def presenceTimeout : Nat := key (0x1200) (0x02)

/-- `0x1200:03` CHAIN_KEY_SLOT (03). -/
def chainKeySlot : Nat := key (0x1200) (0x03)

/-- `0x1200:04` HOST_MAC (03). -/
def hostMac : Nat := key (0x1200) (0x04)

/-- `0x1201:01` ADDR_STATE (03). -/
def addrState : Nat := key (0x1201) (0x01)

/-- `0x1201:02` ADDR_SOURCE (03). -/
def addrSource : Nat := key (0x1201) (0x02)

/-- `0x1201:03` STORED_ADDRESS (03). -/
def storedAddress : Nat := key (0x1201) (0x03)

/-- `0x1201:04` ADDR_CONFIRM (03). -/
def addrConfirm : Nat := key (0x1201) (0x04)

/-- `0x1201:05` ADDR_IN_CODE (03). -/
def addrInCode : Nat := key (0x1201) (0x05)

/-- `0x1202:01` LINK_STATUS (03). -/
def linkStatus : Nat := key (0x1202) (0x01)

/-- `0x1202:02` TX_FRAMES (03). -/
def txFrames : Nat := key (0x1202) (0x02)

/-- `0x1202:03` UPLINK_LOAD (03). -/
def uplinkLoad : Nat := key (0x1202) (0x03)

/-- `0x1202:04` CHAIN_REJECTS (03). -/
def chainRejects : Nat := key (0x1202) (0x04)

/-- `0x1202:05` NOTICES_DROPPED (03). -/
def noticesDropped : Nat := key (0x1202) (0x05)

/-- `0x1220:01` SYNC_ENABLE (03). -/
def syncEnable : Nat := key (0x1220) (0x01)

/-- `0x1220:02` PDELAY_INTERVAL (03). -/
def pdelayInterval : Nat := key (0x1220) (0x02)

/-- `0x1220:03` HOLDOVER_LIMIT (03). -/
def holdoverLimit : Nat := key (0x1220) (0x03)

/-- `0x1220:04` OFFSET (03). -/
def offset : Nat := key (0x1220) (0x04)

/-- `0x1220:05` PATH_DELAY (03). -/
def pathDelay : Nat := key (0x1220) (0x05)

/-- `0x1220:06` HALYARD_TIME (03). -/
def halyardTime : Nat := key (0x1220) (0x06)

/-- `0x1220:07` SYNC_STATE (03). -/
def syncState : Nat := key (0x1220) (0x07)

/-- `0x1220:08` RATE_RATIO (03). -/
def rateRatio : Nat := key (0x1220) (0x08)

/-- `0x1230+a:01` PT_STATE (03). -/
def ptState (n : Nat) : Nat := key (0x1230 + n) (0x01)

/-- `0x1230+a:02` PT_SERIAL (03). -/
def ptSerial (n : Nat) : Nat := key (0x1230 + n) (0x02)

/-- `0x1230+a:03` PT_MAST_VERSION (03). -/
def ptMastVersion (n : Nat) : Nat := key (0x1230 + n) (0x03)

/-- `0x1230+a:04` PT_COMPAT_EPOCH (03). -/
def ptCompatEpoch (n : Nat) : Nat := key (0x1230 + n) (0x04)

/-- `0x1230+a:05` PT_SCHEMA (03). -/
def ptSchema (n : Nat) : Nat := key (0x1230 + n) (0x05)

/-- `0x1230+a:06` PT_LAST_SEEN (03). -/
def ptLastSeen (n : Nat) : Nat := key (0x1230 + n) (0x06)

/-- `0x8804:01` HOST_COMMAND (04). -/
def hostCommand : Nat := key (0x8804) (0x01)

/-- `0x8805:01` QUERY_SIGNAL (04). -/
def querySignal : Nat := key (0x8805) (0x01)

/-- `0x8805:02` QUERY_OWNER (04). -/
def queryOwner : Nat := key (0x8805) (0x02)

/-- `0x8805:03` QUERY_VALUE (04). -/
def queryValue : Nat := key (0x8805) (0x03)

/-- `0x8805:04` QUERY_HOLDER (04). -/
def queryHolder : Nat := key (0x8805) (0x04)

/-- `0x8805:05` QUERY_SLOTS (04). -/
def querySlots : Nat := key (0x8805) (0x05)

/-- `0x8806:01` SWEEP_COUNT (04). -/
def sweepCount : Nat := key (0x8806) (0x01)

/-- `0x8806:02` SWEEP_TIME_MAX (04). -/
def sweepTimeMax : Nat := key (0x8806) (0x02)

/-- `0x8806:03` RULE_CONFLICTS (04). -/
def ruleConflicts : Nat := key (0x8806) (0x03)

/-- `0x8806:04` LAST_CONFLICT (04). -/
def lastConflict : Nat := key (0x8806) (0x04)

/-- `0x8806:05` ENABLED_RULES (04). -/
def enabledRules : Nat := key (0x8806) (0x05)

/-- `0x8806:06` ENGINE_STATE (04). -/
def engineState : Nat := key (0x8806) (0x06)

/-- `0x8840+k:01` SS_FIRST (04). -/
def ssFirst (n : Nat) : Nat := key (0x8840 + n) (0x01)

/-- `0x8840+k:02` SS_LAST (04). -/
def ssLast (n : Nat) : Nat := key (0x8840 + n) (0x02)

/-- `0x8840+k:03` SS_MODE (04). -/
def ssMode (n : Nat) : Nat := key (0x8840 + n) (0x03)

/-- `0x8840+k:04` SS_VALUE (04). -/
def ssValue (n : Nat) : Nat := key (0x8840 + n) (0x04)

/-- `0x8840+k:05` HS_MODE (04). -/
def hsMode (n : Nat) : Nat := key (0x8840 + n) (0x05)

/-- `0x8840+k:06` HS_VALUE (04). -/
def hsValue (n : Nat) : Nat := key (0x8840 + n) (0x06)

/-- `0x8840+k:07` HS_DIN (04). -/
def hsDin (n : Nat) : Nat := key (0x8840 + n) (0x07)

/-- `0x8800:01` HB_TIMEOUT (04). -/
def hbTimeout : Nat := key (0x8800) (0x01)

/-- `0x8800:02` HB_COUNTER (04). -/
def hbCounter : Nat := key (0x8800) (0x02)

/-- `0x8800:03` HB_STATE (04). -/
def hbState : Nat := key (0x8800) (0x03)

/-- `0x8800:04` SAFE_RELEASE (04). -/
def safeRelease : Nat := key (0x8800) (0x04)

/-- `0x8800:05` SAFE_ACTIVE (04). -/
def safeActive : Nat := key (0x8800) (0x05)

/-- `0x8800:06` HB_LOSS_COUNT (04). -/
def hbLossCount : Nat := key (0x8800) (0x06)

/-- `0x8800:07` HB_LAST_LOSS (04). -/
def hbLastLoss : Nat := key (0x8800) (0x07)

/-- `0x8801:01` HOIST_WDG_TIMEOUT (04). -/
def hoistWdgTimeout : Nat := key (0x8801) (0x01)

/-- `0x8801:02` HOIST_WDG_TRIPS (04). -/
def hoistWdgTrips : Nat := key (0x8801) (0x02)

/-- `0x8000+n:01` RULE_ENTRY (04). -/
def ruleEntry (n : Nat) : Nat := key (0x8000 + n) (0x01)

/-- `0x8000+n:02` RULE_FIRES (04). -/
def ruleFires (n : Nat) : Nat := key (0x8000 + n) (0x02)

/-- `0x8000+n:03` RULE_LAST_FIRE (04). -/
def ruleLastFire (n : Nat) : Nat := key (0x8000 + n) (0x03)

/-- `0x2200:01` MACHINE_I (05). -/
def machineI : Nat := key (0x2200) (0x01)

/-- `0x2200:02` MACHINE_SLEW (05). -/
def machineSlew : Nat := key (0x2200) (0x02)

/-- `0x2200:03` BASE_I (05). -/
def baseI : Nat := key (0x2200) (0x03)

/-- `0x2200:04` SLEW_SHARE (05). -/
def slewShare : Nat := key (0x2200) (0x04)

/-- `0x2200:05` MAX_SHARE (05). -/
def maxShare : Nat := key (0x2200) (0x05)

/-- `0x2200:06` DISS_BUDGET (05). -/
def dissBudget : Nat := key (0x2200) (0x06)

/-- `0x2200:07` LEND_ENABLE (05). -/
def lendEnable : Nat := key (0x2200) (0x07)

/-- `0x2200:08` LEND_RESERVE (05). -/
def lendReserve : Nat := key (0x2200) (0x08)

/-- `0x2200:09` BORROW_ENABLE (05). -/
def borrowEnable : Nat := key (0x2200) (0x09)

/-- `0x2200:0A` WAIT_WARN (05). -/
def waitWarn : Nat := key (0x2200) (0x0A)

/-- `0x2200:0B` SAG_C_LEVEL (05). -/
def sagCLevel : Nat := key (0x2200) (0x0B)

/-- `0x2200:0C` SAG_A_LEVEL (05). -/
def sagALevel : Nat := key (0x2200) (0x0C)

/-- `0x2200:0D` SAG_TIME (05). -/
def sagTime : Nat := key (0x2200) (0x0D)

/-- `0x2200:0E` SAG_HYST (05). -/
def sagHyst : Nat := key (0x2200) (0x0E)

/-- `0x2200:0F` RECOVER_TIME (05). -/
def recoverTime : Nat := key (0x2200) (0x0F)

/-- `0x2201:01` LOAN_RELEASE (05). -/
def loanRelease : Nat := key (0x2201) (0x01)

/-- `0x2202:01` PRED_I (05). -/
def predI : Nat := key (0x2202) (0x01)

/-- `0x2202:02` SHARE_I (05). -/
def shareI : Nat := key (0x2202) (0x02)

/-- `0x2202:03` SLEW_SUM (05). -/
def slewSum : Nat := key (0x2202) (0x03)

/-- `0x2202:04` DISS_SUM (05). -/
def dissSum : Nat := key (0x2202) (0x04)

/-- `0x2202:05` QUEUE_DEPTH (05). -/
def queueDepth : Nat := key (0x2202) (0x05)

/-- `0x2202:06` ADM_FLAGS (05). -/
def admFlags : Nat := key (0x2202) (0x06)

/-- `0x2202:07` LENT_I (05). -/
def lentI : Nat := key (0x2202) (0x07)

/-- `0x2202:08` LENT_TO (05). -/
def lentTo : Nat := key (0x2202) (0x08)

/-- `0x2202:09` BORROWED_I (05). -/
def borrowedI : Nat := key (0x2202) (0x09)

/-- `0x2202:0A` HELD_MASK (05). -/
def heldMask : Nat := key (0x2202) (0x0A)

/-- `0x2202:0B` ADMITTED_COUNT (05). -/
def admittedCount : Nat := key (0x2202) (0x0B)

/-- `0x2202:0C` WAITED_COUNT (05). -/
def waitedCount : Nat := key (0x2202) (0x0C)

/-- `0x2202:0D` REFUSED_COUNT (05). -/
def refusedCount : Nat := key (0x2202) (0x0D)

/-- `0x2202:0E` S_OVER_COUNT (05). -/
def sOverCount : Nat := key (0x2202) (0x0E)

/-- `0x2202:0F` WAIT_MAX (05). -/
def waitMax : Nat := key (0x2202) (0x0F)

/-- `0x2202:10` SHED_COUNT (05). -/
def shedCount : Nat := key (0x2202) (0x10)

/-- `0x2210+c:01` DEF_KIND (05). -/
def defKind (n : Nat) : Nat := key (0x2210 + n) (0x01)

/-- `0x2210+c:02` DEF_PEAK (05). -/
def defPeak (n : Nat) : Nat := key (0x2210 + n) (0x02)

/-- `0x2210+c:03` DEF_TAU (05). -/
def defTau (n : Nat) : Nat := key (0x2210 + n) (0x03)

/-- `0x2210+c:04` DEF_SETTLED (05). -/
def defSettled (n : Nat) : Nat := key (0x2210 + n) (0x04)

/-- `0x2210+c:05` DEF_RISE (05). -/
def defRise (n : Nat) : Nat := key (0x2210 + n) (0x05)

/-- `0x2210+c:06` DEF_P_PEAK (05). -/
def defPPeak (n : Nat) : Nat := key (0x2210 + n) (0x06)

/-- `0x2210+c:07` DEF_P_SETTLED (05). -/
def defPSettled (n : Nat) : Nat := key (0x2210 + n) (0x07)

/-- `0x2220:01` ADQ_SIGNAL (05). -/
def adqSignal : Nat := key (0x2220) (0x01)

/-- `0x2220:02` ADQ_STATE (05). -/
def adqState : Nat := key (0x2220) (0x02)

/-- `0x2220:03` ADQ_PRESENT (05). -/
def adqPresent : Nat := key (0x2220) (0x03)

/-- `0x2220:04` ADQ_WAIT (05). -/
def adqWait : Nat := key (0x2220) (0x04)

/-- `0x4000+X:01` GD_MODE (06). -/
def gdMode (n : Nat) : Nat := key (0x4000 + 0x10 * n) (0x01)

/-- `0x4000+X:02` GATE_SOURCE_I (06). -/
def gdGateSourceI (n : Nat) : Nat := key (0x4000 + 0x10 * n) (0x02)

/-- `0x4000+X:03` GATE_SINK_I (06). -/
def gdGateSinkI (n : Nat) : Nat := key (0x4000 + 0x10 * n) (0x03)

/-- `0x4000+X:04` SOFT_OFF_I (06). -/
def gdSoftOffI (n : Nat) : Nat := key (0x4000 + 0x10 * n) (0x04)

/-- `0x4000+X:05` PWM_PERIOD (06). -/
def gdPwmPeriod (n : Nat) : Nat := key (0x4000 + 0x10 * n) (0x05)

/-- `0x4000+X:06` PWM_PHASE (06). -/
def gdPwmPhase (n : Nat) : Nat := key (0x4000 + 0x10 * n) (0x06)

/-- `0x4000+X:07` VDS_THR (06). -/
def gdVdsThr (n : Nat) : Nat := key (0x4000 + 0x10 * n) (0x07)

/-- `0x4000+X:08` SS_VDS_THR (06). -/
def gdSsVdsThr (n : Nat) : Nat := key (0x4000 + 0x10 * n) (0x08)

/-- `0x4000+X:09` VPLAT (06). -/
def gdVplat (n : Nat) : Nat := key (0x4000 + 0x10 * n) (0x09)

/-- `0x4000+X:0A` ENV_SPAN (06). -/
def gdEnvSpan (n : Nat) : Nat := key (0x4000 + 0x10 * n) (0x0A)

/-- `0x4000+X:0B` RAMP_MAX (06). -/
def gdRampMax (n : Nat) : Nat := key (0x4000 + 0x10 * n) (0x0B)

/-- `0x4000+X:0C` SOFT_TIME (06). -/
def gdSoftTime (n : Nat) : Nat := key (0x4000 + 0x10 * n) (0x0C)

/-- `0x4000+X:0D` DEAD_TIME (06). -/
def gdDeadTime (n : Nat) : Nat := key (0x4000 + 0x10 * n) (0x0D)

/-- `0x4000+X:0E` HB_SYNC (06). -/
def gdHbSync (n : Nat) : Nat := key (0x4000 + 0x10 * n) (0x0E)

/-- `0x4000+X:0F` MOSFET_QG (06). -/
def gdMosfetQg (n : Nat) : Nat := key (0x4000 + 0x10 * n) (0x0F)

/-- `0x4001+X:01` OFF_DIAG_ENABLE (06). -/
def gdOffDiagEnable (n : Nat) : Nat := key (0x4001 + 0x10 * n) (0x01)

/-- `0x4001+X:02` OFF_DIAG_PERIOD (06). -/
def gdOffDiagPeriod (n : Nat) : Nat := key (0x4001 + 0x10 * n) (0x02)

/-- `0x4001+X:03` OFF_DIAG_SETTLE (06). -/
def gdOffDiagSettle (n : Nat) : Nat := key (0x4001 + 0x10 * n) (0x03)

/-- `0x4001+X:04` OL_CURRENT (06). -/
def gdOlCurrent (n : Nat) : Nat := key (0x4001 + 0x10 * n) (0x04)

/-- `0x4001+X:05` OL_TIME (06). -/
def gdOlTime (n : Nat) : Nat := key (0x4001 + 0x10 * n) (0x05)

/-- `0x4001+X:06` RETRY_COUNT (06). -/
def gdRetryCount (n : Nat) : Nat := key (0x4001 + 0x10 * n) (0x06)

/-- `0x4001+X:07` RETRY_DELAY (06). -/
def gdRetryDelay (n : Nat) : Nat := key (0x4001 + 0x10 * n) (0x07)

/-- `0x4001+X:08` RETRY_RESET (06). -/
def gdRetryReset (n : Nat) : Nat := key (0x4001 + 0x10 * n) (0x08)

/-- `0x4001+X:09` TH_RTH (06). -/
def gdThRth (n : Nat) : Nat := key (0x4001 + 0x10 * n) (0x09)

/-- `0x4001+X:0A` TH_TAU (06). -/
def gdThTau (n : Nat) : Nat := key (0x4001 + 0x10 * n) (0x0A)

/-- `0x4001+X:0B` TH_TJ_MAX (06). -/
def gdThTjMax (n : Nat) : Nat := key (0x4001 + 0x10 * n) (0x0B)

/-- `0x4001+X:0C` TH_SENSOR (06). -/
def gdThSensor (n : Nat) : Nat := key (0x4001 + 0x10 * n) (0x0C)

/-- `0x4002+X:01` GD_STATUS (06). -/
def gdStatus (n : Nat) : Nat := key (0x4002 + 0x10 * n) (0x01)

/-- `0x4002+X:02` APPLIED_VALUE (06). -/
def gdAppliedValue (n : Nat) : Nat := key (0x4002 + 0x10 * n) (0x02)

/-- `0x4002+X:03` VDS_MEAS (06). -/
def gdVdsMeas (n : Nat) : Nat := key (0x4002 + 0x10 * n) (0x03)

/-- `0x4002+X:04` I_EST (06). -/
def gdIEst (n : Nat) : Nat := key (0x4002 + 0x10 * n) (0x04)

/-- `0x4002+X:05` T_EST (06). -/
def gdTEst (n : Nat) : Nat := key (0x4002 + 0x10 * n) (0x05)

/-- `0x4002+X:06` GATE_TON (06). -/
def gdGateTon (n : Nat) : Nat := key (0x4002 + 0x10 * n) (0x06)

/-- `0x4002+X:07` RETRIES_USED (06). -/
def gdRetriesUsed (n : Nat) : Nat := key (0x4002 + 0x10 * n) (0x07)

/-- `0x4002+X:08` TRIP_COUNT (06). -/
def gdTripCount (n : Nat) : Nat := key (0x4002 + 0x10 * n) (0x08)

/-- `0x4002+X:09` OFF_DIAG_RESULT (06). -/
def gdOffDiagResult (n : Nat) : Nat := key (0x4002 + 0x10 * n) (0x09)

/-- `0x4002+X:0A` LAST_TRIP_VDS (06). -/
def gdLastTripVds (n : Nat) : Nat := key (0x4002 + 0x10 * n) (0x0A)

/-- `0x4003+X:01` FAULT_CLEAR (06). -/
def gdFaultClear (n : Nat) : Nat := key (0x4003 + 0x10 * n) (0x01)

/-- `0x4003+X:02` DIAG_RUN (06). -/
def gdDiagRun (n : Nat) : Nat := key (0x4003 + 0x10 * n) (0x02)

/-- `0x4200+Y:01` BR_FUNCTION (07). -/
def brFunction (n : Nat) : Nat := key (0x4200 + 0x10 * n) (0x01)

/-- `0x4200+Y:02` BR_PAIR_A (07). -/
def brPairA (n : Nat) : Nat := key (0x4200 + 0x10 * n) (0x02)

/-- `0x4200+Y:03` BR_PAIR_B (07). -/
def brPairB (n : Nat) : Nat := key (0x4200 + 0x10 * n) (0x03)

/-- `0x4200+Y:04` BR_DUTY (07). -/
def brDuty (n : Nat) : Nat := key (0x4200 + 0x10 * n) (0x04)

/-- `0x4200+Y:05` BR_BRAKE_TIME (07). -/
def brBrakeTime (n : Nat) : Nat := key (0x4200 + 0x10 * n) (0x05)

/-- `0x4200+Y:06` STALL_I (07). -/
def brStallI (n : Nat) : Nat := key (0x4200 + 0x10 * n) (0x06)

/-- `0x4200+Y:07` STALL_TIME (07). -/
def brStallTime (n : Nat) : Nat := key (0x4200 + 0x10 * n) (0x07)

/-- `0x4200+Y:08` RUN_MAX (07). -/
def brRunMax (n : Nat) : Nat := key (0x4200 + 0x10 * n) (0x08)

/-- `0x4200+Y:09` FEEDBACK_DIN (07). -/
def brFeedbackDin (n : Nat) : Nat := key (0x4200 + 0x10 * n) (0x09)

/-- `0x4200+Y:0A` OL_BRIDGE (07). -/
def brOlBridge (n : Nat) : Nat := key (0x4200 + 0x10 * n) (0x0A)

/-- `0x4200+Y:0B` RIPPLE_HYST (07). -/
def brRippleHyst (n : Nat) : Nat := key (0x4200 + 0x10 * n) (0x0B)

/-- `0x4201+Y:01` TRAVEL (07). -/
def brTravel (n : Nat) : Nat := key (0x4201 + 0x10 * n) (0x01)

/-- `0x4201+Y:02` PINCH_FORCE (07). -/
def brPinchForce (n : Nat) : Nat := key (0x4201 + 0x10 * n) (0x02)

/-- `0x4201+Y:03` FORCE_GAIN (07). -/
def brForceGain (n : Nat) : Nat := key (0x4201 + 0x10 * n) (0x03)

/-- `0x4201+Y:04` PINCH_CONFIRM (07). -/
def brPinchConfirm (n : Nat) : Nat := key (0x4201 + 0x10 * n) (0x04)

/-- `0x4201+Y:05` SEAL_ZONE (07). -/
def brSealZone (n : Nat) : Nat := key (0x4201 + 0x10 * n) (0x05)

/-- `0x4201+Y:06` REVERSE_RIPPLES (07). -/
def brReverseRipples (n : Nat) : Nat := key (0x4201 + 0x10 * n) (0x06)

/-- `0x4201+Y:07` PULSE_TIME (07). -/
def brPulseTime (n : Nat) : Nat := key (0x4201 + 0x10 * n) (0x07)

/-- `0x4201+Y:08` WIPE_INTERVAL (07). -/
def brWipeInterval (n : Nat) : Nat := key (0x4201 + 0x10 * n) (0x08)

/-- `0x4201+Y:09` SLOW_DUTY (07). -/
def brSlowDuty (n : Nat) : Nat := key (0x4201 + 0x10 * n) (0x09)

/-- `0x4202+Y:01` BR_STATE (07). -/
def brState (n : Nat) : Nat := key (0x4202 + 0x10 * n) (0x01)

/-- `0x4202+Y:02` BR_FLAGS (07). -/
def brFlags (n : Nat) : Nat := key (0x4202 + 0x10 * n) (0x02)

/-- `0x4202+Y:03` POSITION (07). -/
def brPosition (n : Nat) : Nat := key (0x4202 + 0x10 * n) (0x03)

/-- `0x4202+Y:04` RIPPLE_POS (07). -/
def brRipplePos (n : Nat) : Nat := key (0x4202 + 0x10 * n) (0x04)

/-- `0x4202+Y:05` BR_CURRENT (07). -/
def brCurrent (n : Nat) : Nat := key (0x4202 + 0x10 * n) (0x05)

/-- `0x4202+Y:06` FORCE_EST (07). -/
def brForceEst (n : Nat) : Nat := key (0x4202 + 0x10 * n) (0x06)

/-- `0x4203+Y:01` BR_CLEAR (07). -/
def brClear (n : Nat) : Nat := key (0x4203 + 0x10 * n) (0x01)

/-- `0x4203+Y:02` BR_FORGET (07). -/
def brForget (n : Nat) : Nat := key (0x4203 + 0x10 * n) (0x02)

/-- `0x4300+Z:01` FAN_PAIR (07). -/
def fanPair (n : Nat) : Nat := key (0x4300 + 0x10 * n) (0x01)

/-- `0x4300+Z:02` FAN_CONTROL (07). -/
def fanControl (n : Nat) : Nat := key (0x4300 + 0x10 * n) (0x02)

/-- `0x4300+Z:03` FAN_TACH (07). -/
def fanTach (n : Nat) : Nat := key (0x4300 + 0x10 * n) (0x03)

/-- `0x4300+Z:04` TACH_PER_REV (07). -/
def fanTachPerRev (n : Nat) : Nat := key (0x4300 + 0x10 * n) (0x04)

/-- `0x4300+Z:05` RIPPLES_PER_REV (07). -/
def fanRipplesPerRev (n : Nat) : Nat := key (0x4300 + 0x10 * n) (0x05)

/-- `0x4300+Z:06` MAX_SPEED (07). -/
def fanMaxSpeed (n : Nat) : Nat := key (0x4300 + 0x10 * n) (0x06)

/-- `0x4300+Z:07` START_DUTY (07). -/
def fanStartDuty (n : Nat) : Nat := key (0x4300 + 0x10 * n) (0x07)

/-- `0x4300+Z:08` SPINUP_TIME (07). -/
def fanSpinupTime (n : Nat) : Nat := key (0x4300 + 0x10 * n) (0x08)

/-- `0x4300+Z:09` FAN_STALL_I (07). -/
def fanStallI (n : Nat) : Nat := key (0x4300 + 0x10 * n) (0x09)

/-- `0x4300+Z:0A` FAN_STALL_TIME (07). -/
def fanStallTime (n : Nat) : Nat := key (0x4300 + 0x10 * n) (0x0A)

/-- `0x4300+Z:0B` FAN_KP (07). -/
def fanKp (n : Nat) : Nat := key (0x4300 + 0x10 * n) (0x0B)

/-- `0x4300+Z:0C` FAN_KI (07). -/
def fanKi (n : Nat) : Nat := key (0x4300 + 0x10 * n) (0x0C)

/-- `0x4301+Z:01` FAN_STATE (07). -/
def fanState (n : Nat) : Nat := key (0x4301 + 0x10 * n) (0x01)

/-- `0x4301+Z:02` FAN_SPEED (07). -/
def fanSpeed (n : Nat) : Nat := key (0x4301 + 0x10 * n) (0x02)

/-- `0x4301+Z:03` SPEED_SOURCE (07). -/
def fanSpeedSource (n : Nat) : Nat := key (0x4301 + 0x10 * n) (0x03)

/-- `0x4301+Z:04` FAN_FLAGS (07). -/
def fanFlags (n : Nat) : Nat := key (0x4301 + 0x10 * n) (0x04)

/-- `0x4301+Z:05` ATTEMPTS (07). -/
def fanAttempts (n : Nat) : Nat := key (0x4301 + 0x10 * n) (0x05)

/-- `0x4301+Z:06` RIPPLE_RATIO (07). -/
def fanRippleRatio (n : Nat) : Nat := key (0x4301 + 0x10 * n) (0x06)

/-- `0x4302+Z:01` FAN_CLEAR (07). -/
def fanClear (n : Nat) : Nat := key (0x4302 + 0x10 * n) (0x01)

/-- `0x4400+X:01` SV_MODE (08). -/
def svMode (n : Nat) : Nat := key (0x4400 + 0x10 * n) (0x01)

/-- `0x4400+X:02` SV_PAIR (08). -/
def svPair (n : Nat) : Nat := key (0x4400 + 0x10 * n) (0x02)

/-- `0x4400+X:03` SV_PEAK_CURRENT (08). -/
def svPeakCurrent (n : Nat) : Nat := key (0x4400 + 0x10 * n) (0x03)

/-- `0x4400+X:04` SV_HOLD_NOM (08). -/
def svHoldNom (n : Nat) : Nat := key (0x4400 + 0x10 * n) (0x04)

/-- `0x4400+X:05` BOOST_SOURCE (08). -/
def svBoostSource (n : Nat) : Nat := key (0x4400 + 0x10 * n) (0x05)

/-- `0x4400+X:06` BOOST_MAX (08). -/
def svBoostMax (n : Nat) : Nat := key (0x4400 + 0x10 * n) (0x06)

/-- `0x4400+X:07` PEAK_TIME (08). -/
def svPeakTime (n : Nat) : Nat := key (0x4400 + 0x10 * n) (0x07)

/-- `0x4400+X:08` OFF_MODE (08). -/
def svOffMode (n : Nat) : Nat := key (0x4400 + 0x10 * n) (0x08)

/-- `0x4400+X:09` RANGE_MODE (08). -/
def svRangeMode (n : Nat) : Nat := key (0x4400 + 0x10 * n) (0x09)

/-- `0x4400+X:0A` CHOP_PERIOD (08). -/
def svChopPeriod (n : Nat) : Nat := key (0x4400 + 0x10 * n) (0x0A)

/-- `0x4400+X:0B` CHOP_PHASE (08). -/
def svChopPhase (n : Nat) : Nat := key (0x4400 + 0x10 * n) (0x0B)

/-- `0x4400+X:0C` DITHER_AMPL (08). -/
def svDitherAmpl (n : Nat) : Nat := key (0x4400 + 0x10 * n) (0x0C)

/-- `0x4400+X:0D` DITHER_PERIOD (08). -/
def svDitherPeriod (n : Nat) : Nat := key (0x4400 + 0x10 * n) (0x0D)

/-- `0x4400+X:0E` MOVE_CLASS (08). -/
def svMoveClass (n : Nat) : Nat := key (0x4400 + 0x10 * n) (0x0E)

/-- `0x4400+X:0F` REG_BAND (08). -/
def svRegBand (n : Nat) : Nat := key (0x4400 + 0x10 * n) (0x0F)

/-- `0x4401+X:01` OFF_DIAG_ENABLE (08). -/
def svOffDiagEnable (n : Nat) : Nat := key (0x4401 + 0x10 * n) (0x01)

/-- `0x4401+X:02` OFF_DIAG_PERIOD (08). -/
def svOffDiagPeriod (n : Nat) : Nat := key (0x4401 + 0x10 * n) (0x02)

/-- `0x4401+X:03` OFF_DIAG_SETTLE (08). -/
def svOffDiagSettle (n : Nat) : Nat := key (0x4401 + 0x10 * n) (0x03)

/-- `0x4401+X:04` OPEN_I (08). -/
def svOpenI (n : Nat) : Nat := key (0x4401 + 0x10 * n) (0x04)

/-- `0x4401+X:05` LEAK_I (08). -/
def svLeakI (n : Nat) : Nat := key (0x4401 + 0x10 * n) (0x05)

/-- `0x4401+X:06` RETRY_COUNT (08). -/
def svRetryCount (n : Nat) : Nat := key (0x4401 + 0x10 * n) (0x06)

/-- `0x4401+X:07` RETRY_DELAY (08). -/
def svRetryDelay (n : Nat) : Nat := key (0x4401 + 0x10 * n) (0x07)

/-- `0x4401+X:08` RETRY_RESET (08). -/
def svRetryReset (n : Nat) : Nat := key (0x4401 + 0x10 * n) (0x08)

/-- `0x4401+X:09` MOVE_WIN_START (08). -/
def svMoveWinStart (n : Nat) : Nat := key (0x4401 + 0x10 * n) (0x09)

/-- `0x4401+X:0A` MOVE_WIN_END (08). -/
def svMoveWinEnd (n : Nat) : Nat := key (0x4401 + 0x10 * n) (0x0A)

/-- `0x4401+X:0B` MOVE_THRESHOLD (08). -/
def svMoveThreshold (n : Nat) : Nat := key (0x4401 + 0x10 * n) (0x0B)

/-- `0x4401+X:0C` MOVE_MISS_LIMIT (08). -/
def svMoveMissLimit (n : Nat) : Nat := key (0x4401 + 0x10 * n) (0x0C)

/-- `0x4402+X:01` SV_STATUS (08). -/
def svStatus (n : Nat) : Nat := key (0x4402 + 0x10 * n) (0x01)

/-- `0x4402+X:02` SV_PHASE (08). -/
def svPhase (n : Nat) : Nat := key (0x4402 + 0x10 * n) (0x02)

/-- `0x4402+X:03` I_MEAS (08). -/
def svIMeas (n : Nat) : Nat := key (0x4402 + 0x10 * n) (0x03)

/-- `0x4402+X:04` I_DIFF (08). -/
def svIDiff (n : Nat) : Nat := key (0x4402 + 0x10 * n) (0x04)

/-- `0x4402+X:05` BOOST_TIME (08). -/
def svBoostTime (n : Nat) : Nat := key (0x4402 + 0x10 * n) (0x05)

/-- `0x4402+X:06` MOVE_TIME (08). -/
def svMoveTime (n : Nat) : Nat := key (0x4402 + 0x10 * n) (0x06)

/-- `0x4402+X:07` MOVE_RESULT (08). -/
def svMoveResult (n : Nat) : Nat := key (0x4402 + 0x10 * n) (0x07)

/-- `0x4402+X:08` OFF_DIAG_RESULT (08). -/
def svOffDiagResult (n : Nat) : Nat := key (0x4402 + 0x10 * n) (0x08)

/-- `0x4402+X:09` TRIP_COUNT (08). -/
def svTripCount (n : Nat) : Nat := key (0x4402 + 0x10 * n) (0x09)

/-- `0x4402+X:0A` RETRIES_USED (08). -/
def svRetriesUsed (n : Nat) : Nat := key (0x4402 + 0x10 * n) (0x0A)

/-- `0x4402+X:0B` RANGE (08). -/
def svRange (n : Nat) : Nat := key (0x4402 + 0x10 * n) (0x0B)

/-- `0x4402+X:0C` STAGE_TEMP (08). -/
def svStageTemp (n : Nat) : Nat := key (0x4402 + 0x10 * n) (0x0C)

/-- `0x4403+X:01` FAULT_CLEAR (08). -/
def svFaultClear (n : Nat) : Nat := key (0x4403 + 0x10 * n) (0x01)

/-- `0x4403+X:02` DIAG_RUN (08). -/
def svDiagRun (n : Nat) : Nat := key (0x4403 + 0x10 * n) (0x02)

/-- `0x4403+X:03` RETRIGGER (08). -/
def svRetrigger (n : Nat) : Nat := key (0x4403 + 0x10 * n) (0x03)

/-- `0x4800+c:01` DIN_SET (09). -/
def dinSet (n : Nat) : Nat := key (0x4800 + n) (0x01)

/-- `0x4800+c:02` DIN_FILTER (09). -/
def dinFilter (n : Nat) : Nat := key (0x4800 + n) (0x02)

/-- `0x4800+c:03` DIN_INVERT (09). -/
def dinInvert (n : Nat) : Nat := key (0x4800 + n) (0x03)

/-- `0x4800+c:04` CHATTER_LIMIT (09). -/
def chatterLimit (n : Nat) : Nat := key (0x4800 + n) (0x04)

/-- `0x4810+c:01` DIN_STATE (09). -/
def dinState (n : Nat) : Nat := key (0x4810 + n) (0x01)

/-- `0x4810+c:02` DIN_FAULT (09). -/
def dinFault (n : Nat) : Nat := key (0x4810 + n) (0x02)

/-- `0x4810+c:03` DIN_EDGES (09). -/
def dinEdges (n : Nat) : Nat := key (0x4810 + n) (0x03)

/-- `0x4810+c:04` DIN_LAST_EDGE (09). -/
def dinLastEdge (n : Nat) : Nat := key (0x4810 + n) (0x04)

/-- `0x4820+d:01` DOUT_ENABLE (09). -/
def doutEnable (n : Nat) : Nat := key (0x4820 + n) (0x01)

/-- `0x4820+d:02` PWM_PERIOD (09). -/
def doutPwmPeriod (n : Nat) : Nat := key (0x4820 + n) (0x02)

/-- `0x4820+d:03` PWM_PHASE (09). -/
def doutPwmPhase (n : Nat) : Nat := key (0x4820 + n) (0x03)

/-- `0x4820+d:04` OFF_DIAG_ENABLE (09). -/
def doutOffDiagEnable (n : Nat) : Nat := key (0x4820 + n) (0x04)

/-- `0x4820+d:05` OFF_DIAG_PERIOD (09). -/
def doutOffDiagPeriod (n : Nat) : Nat := key (0x4820 + n) (0x05)

/-- `0x4820+d:06` OL_CURRENT (09). -/
def doutOlCurrent (n : Nat) : Nat := key (0x4820 + n) (0x06)

/-- `0x4820+d:07` OL_TIME (09). -/
def doutOlTime (n : Nat) : Nat := key (0x4820 + n) (0x07)

/-- `0x4820+d:08` RETRY_COUNT (09). -/
def doutRetryCount (n : Nat) : Nat := key (0x4820 + n) (0x08)

/-- `0x4820+d:09` RETRY_DELAY (09). -/
def doutRetryDelay (n : Nat) : Nat := key (0x4820 + n) (0x09)

/-- `0x4820+d:0A` RETRY_RESET (09). -/
def doutRetryReset (n : Nat) : Nat := key (0x4820 + n) (0x0A)

/-- `0x4828+d:01` DOUT_STATUS (09). -/
def doutStatus (n : Nat) : Nat := key (0x4828 + n) (0x01)

/-- `0x4828+d:02` APPLIED_VALUE (09). -/
def doutAppliedValue (n : Nat) : Nat := key (0x4828 + n) (0x02)

/-- `0x4828+d:03` I_MEAS (09). -/
def doutIMeas (n : Nat) : Nat := key (0x4828 + n) (0x03)

/-- `0x4828+d:04` TRIP_COUNT (09). -/
def doutTripCount (n : Nat) : Nat := key (0x4828 + n) (0x04)

/-- `0x4830+d:01` FAULT_CLEAR (09). -/
def doutFaultClear (n : Nat) : Nat := key (0x4830 + n) (0x01)

/-- `0x4830+d:02` DIAG_RUN (09). -/
def doutDiagRun (n : Nat) : Nat := key (0x4830 + n) (0x02)

/-- `0x4900+c:01` AIN_KIND (09). -/
def ainKind (n : Nat) : Nat := key (0x4900 + n) (0x01)

/-- `0x4900+c:02` AIN_REF (09). -/
def ainRef (n : Nat) : Nat := key (0x4900 + n) (0x02)

/-- `0x4900+c:03` AIN_PULLUP (09). -/
def ainPullup (n : Nat) : Nat := key (0x4900 + n) (0x03)

/-- `0x4900+c:04` AIN_PERIOD (09). -/
def ainPeriod (n : Nat) : Nat := key (0x4900 + n) (0x04)

/-- `0x4900+c:05` AIN_AVG (09). -/
def ainAvg (n : Nat) : Nat := key (0x4900 + n) (0x05)

/-- `0x4900+c:06` AIN_NTC_R25 (09). -/
def ainNtcR25 (n : Nat) : Nat := key (0x4900 + n) (0x06)

/-- `0x4900+c:07` AIN_NTC_B (09). -/
def ainNtcB (n : Nat) : Nat := key (0x4900 + n) (0x07)

/-- `0x4900+c:08` AIN_HI (09). -/
def ainHi (n : Nat) : Nat := key (0x4900 + n) (0x08)

/-- `0x4900+c:09` AIN_LO (09). -/
def ainLo (n : Nat) : Nat := key (0x4900 + n) (0x09)

/-- `0x4900+c:0A` AIN_HYST (09). -/
def ainHyst (n : Nat) : Nat := key (0x4900 + n) (0x0A)

/-- `0x4900+c:0B` BREAK_SHIFT (09). -/
def breakShift (n : Nat) : Nat := key (0x4900 + n) (0x0B)

/-- `0x4900+c:0C` BREAK_MODE (09). -/
def breakMode (n : Nat) : Nat := key (0x4900 + n) (0x0C)

/-- `0x4900+c:0D` AIN_SUBST (09). -/
def ainSubst (n : Nat) : Nat := key (0x4900 + n) (0x0D)

/-- `0x4910+c:01` AIN_VALUE (09). -/
def ainValue (n : Nat) : Nat := key (0x4910 + n) (0x01)

/-- `0x4910+c:02` AIN_STATE (09). -/
def ainState (n : Nat) : Nat := key (0x4910 + n) (0x02)

/-- `0x4910+c:03` AIN_BALL_MV (09). -/
def ainBallMv (n : Nat) : Nat := key (0x4910 + n) (0x03)

/-- `0x4910+c:04` BREAK_COUNT (09). -/
def breakCount (n : Nat) : Nat := key (0x4910 + n) (0x04)

/-- `0x4920:01` VSENS0_ENABLE (09). -/
def vsens0Enable : Nat := key (0x4920) (0x01)

/-- `0x4920:02` VSENS1_ENABLE (09). -/
def vsens1Enable : Nat := key (0x4920) (0x02)

/-- `0x4920:03` VSENS0_STATE (09). -/
def vsens0State : Nat := key (0x4920) (0x03)

/-- `0x4920:04` VSENS1_STATE (09). -/
def vsens1State : Nat := key (0x4920) (0x04)

/-- `0x4A00+t:01` TACH_ENABLE (09). -/
def tachEnable (n : Nat) : Nat := key (0x4A00 + n) (0x01)

/-- `0x4A00+t:02` TACH_THRESH (09). -/
def tachThresh (n : Nat) : Nat := key (0x4A00 + n) (0x02)

/-- `0x4A00+t:03` TACH_PULLUP (09). -/
def tachPullup (n : Nat) : Nat := key (0x4A00 + n) (0x03)

/-- `0x4A00+t:04` TACH_MIN_PULSE (09). -/
def tachMinPulse (n : Nat) : Nat := key (0x4A00 + n) (0x04)

/-- `0x4A00+t:05` TACH_AVG (09). -/
def tachAvg (n : Nat) : Nat := key (0x4A00 + n) (0x05)

/-- `0x4A00+t:06` TACH_TIMEOUT (09). -/
def tachTimeout (n : Nat) : Nat := key (0x4A00 + n) (0x06)

/-- `0x4A00+t:07` TACH_HI (09). -/
def tachHi (n : Nat) : Nat := key (0x4A00 + n) (0x07)

/-- `0x4A00+t:08` TACH_LO (09). -/
def tachLo (n : Nat) : Nat := key (0x4A00 + n) (0x08)

/-- `0x4A00+t:09` TACH_HYST (09). -/
def tachHyst (n : Nat) : Nat := key (0x4A00 + n) (0x09)

/-- `0x4A10+t:01` TACH_FREQ (09). -/
def tachFreq (n : Nat) : Nat := key (0x4A10 + n) (0x01)

/-- `0x4A10+t:02` TACH_STATE (09). -/
def tachState (n : Nat) : Nat := key (0x4A10 + n) (0x02)

/-- `0x4A10+t:03` TACH_EDGES (09). -/
def tachEdges (n : Nat) : Nat := key (0x4A10 + n) (0x03)

/-- `0x4A10+t:04` TACH_PERIOD (09). -/
def tachPeriod (n : Nat) : Nat := key (0x4A10 + n) (0x04)

/-- `0x4C00+X:01` PP_KIND (10). -/
def ppKind (n : Nat) : Nat := key (0x4C00 + 0x4 * n) (0x01)

/-- `0x4C00+X:02` PP_LEARN (10). -/
def ppLearn (n : Nat) : Nat := key (0x4C00 + 0x4 * n) (0x02)

/-- `0x4C00+X:03` DECL_R_COLD (10). -/
def ppDeclRCold (n : Nat) : Nat := key (0x4C00 + 0x4 * n) (0x03)

/-- `0x4C00+X:04` DECL_R_HOT (10). -/
def ppDeclRHot (n : Nat) : Nat := key (0x4C00 + 0x4 * n) (0x04)

/-- `0x4C00+X:05` DECL_L (10). -/
def ppDeclL (n : Nat) : Nat := key (0x4C00 + 0x4 * n) (0x05)

/-- `0x4C00+X:06` DECL_I_PK (10). -/
def ppDeclIPk (n : Nat) : Nat := key (0x4C00 + 0x4 * n) (0x06)

/-- `0x4C00+X:07` DECL_TAU (10). -/
def ppDeclTau (n : Nat) : Nat := key (0x4C00 + 0x4 * n) (0x07)

/-- `0x4C00+X:08` DECL_I_SET (10). -/
def ppDeclISet (n : Nat) : Nat := key (0x4C00 + 0x4 * n) (0x08)

/-- `0x4C00+X:09` R_WIRE (10). -/
def ppRWire (n : Nat) : Nat := key (0x4C00 + 0x4 * n) (0x09)

/-- `0x4C00+X:0A` PP_COOL_TIME (10). -/
def ppCoolTime (n : Nat) : Nat := key (0x4C00 + 0x4 * n) (0x0A)

/-- `0x4C00+X:0B` DRIFT_LIMIT (10). -/
def ppDriftLimit (n : Nat) : Nat := key (0x4C00 + 0x4 * n) (0x0B)

/-- `0x4C00+X:0C` DRIFT_COUNT (10). -/
def ppDriftCount (n : Nat) : Nat := key (0x4C00 + 0x4 * n) (0x0C)

/-- `0x4C00+X:0D` PP_VNOM (10). -/
def ppVnom (n : Nat) : Nat := key (0x4C00 + 0x4 * n) (0x0D)

/-- `0x4C01+X:01` PP_SOURCE (10). -/
def ppSource (n : Nat) : Nat := key (0x4C01 + 0x4 * n) (0x01)

/-- `0x4C01+X:02` R_COLD (10). -/
def ppRCold (n : Nat) : Nat := key (0x4C01 + 0x4 * n) (0x02)

/-- `0x4C01+X:03` R_HOT (10). -/
def ppRHot (n : Nat) : Nat := key (0x4C01 + 0x4 * n) (0x03)

/-- `0x4C01+X:04` L (10). -/
def ppL (n : Nat) : Nat := key (0x4C01 + 0x4 * n) (0x04)

/-- `0x4C01+X:05` I_PK (10). -/
def ppIPk (n : Nat) : Nat := key (0x4C01 + 0x4 * n) (0x05)

/-- `0x4C01+X:06` TAU (10). -/
def ppTau (n : Nat) : Nat := key (0x4C01 + 0x4 * n) (0x06)

/-- `0x4C01+X:07` I_SET (10). -/
def ppISet (n : Nat) : Nat := key (0x4C01 + 0x4 * n) (0x07)

/-- `0x4C01+X:08` P_PK (10). -/
def ppPPk (n : Nat) : Nat := key (0x4C01 + 0x4 * n) (0x08)

/-- `0x4C01+X:09` P_SET (10). -/
def ppPSet (n : Nat) : Nat := key (0x4C01 + 0x4 * n) (0x09)

/-- `0x4C01+X:0A` ENV_I_MAX (10). -/
def ppEnvIMax (n : Nat) : Nat := key (0x4C01 + 0x4 * n) (0x0A)

/-- `0x4C01+X:0B` ENV_T_MIN (10). -/
def ppEnvTMin (n : Nat) : Nat := key (0x4C01 + 0x4 * n) (0x0B)

/-- `0x4C01+X:0C` ENV_T_MAX (10). -/
def ppEnvTMax (n : Nat) : Nat := key (0x4C01 + 0x4 * n) (0x0C)

/-- `0x4C01+X:0D` LEARN_COUNT (10). -/
def ppLearnCount (n : Nat) : Nat := key (0x4C01 + 0x4 * n) (0x0D)

/-- `0x4C02+X:01` REF_R_COLD (10). -/
def ppRefRCold (n : Nat) : Nat := key (0x4C02 + 0x4 * n) (0x01)

/-- `0x4C02+X:02` REF_R_HOT (10). -/
def ppRefRHot (n : Nat) : Nat := key (0x4C02 + 0x4 * n) (0x02)

/-- `0x4C02+X:03` REF_I_SET (10). -/
def ppRefISet (n : Nat) : Nat := key (0x4C02 + 0x4 * n) (0x03)

/-- `0x4C02+X:04` REF_L (10). -/
def ppRefL (n : Nat) : Nat := key (0x4C02 + 0x4 * n) (0x04)

/-- `0x4C02+X:05` DRIFT (10). -/
def ppDrift (n : Nat) : Nat := key (0x4C02 + 0x4 * n) (0x05)

/-- `0x4C03+X:01` PP_RELEARN (10). -/
def ppRelearn (n : Nat) : Nat := key (0x4C03 + 0x4 * n) (0x01)

/-- `0x4C03+X:02` PP_REFERENCE (10). -/
def ppReference (n : Nat) : Nat := key (0x4C03 + 0x4 * n) (0x02)

/-- `0x4C03+X:03` PP_CLEAR_DRIFT (10). -/
def ppClearDrift (n : Nat) : Nat := key (0x4C03 + 0x4 * n) (0x03)

/-- `0x4D00+n:01` CAL_ENABLE (10). -/
def calEnable (n : Nat) : Nat := key (0x4D00 + n) (0x01)

/-- `0x4D00+n:02` RDS_NOM (10). -/
def calRdsNom (n : Nat) : Nat := key (0x4D00 + n) (0x02)

/-- `0x4D00+n:03` RDS_TC (10). -/
def calRdsTc (n : Nat) : Nat := key (0x4D00 + n) (0x03)

/-- `0x4D00+n:04` OFFSET_TC (10). -/
def calOffsetTc (n : Nat) : Nat := key (0x4D00 + n) (0x04)

/-- `0x4D00+n:05` CAL_PERIOD (10). -/
def calPeriod (n : Nat) : Nat := key (0x4D00 + n) (0x05)

/-- `0x4D00+n:06` CAL_VALUE (10). -/
def calValue (n : Nat) : Nat := key (0x4D00 + n) (0x06)

/-- `0x4D00+n:07` HS_OFFSET (10). -/
def calHsOffset (n : Nat) : Nat := key (0x4D00 + n) (0x07)

/-- `0x4D00+n:08` LS_OFFSET (10). -/
def calLsOffset (n : Nat) : Nat := key (0x4D00 + n) (0x08)

/-- `0x4D00+n:09` CAL_T (10). -/
def calT (n : Nat) : Nat := key (0x4D00 + n) (0x09)

/-- `0x4D00+n:0A` CAL_T_LS (10). -/
def calTLs (n : Nat) : Nat := key (0x4D00 + n) (0x0A)

/-- `0x4D00+n:0B` CAL_I (10). -/
def calI (n : Nat) : Nat := key (0x4D00 + n) (0x0B)

/-- `0x4D00+n:0C` CAL_STATE (10). -/
def calState (n : Nat) : Nat := key (0x4D00 + n) (0x0C)

/-- `0x2300+m:01` SUP_LO (10). -/
def supLo (n : Nat) : Nat := key (0x2300 + n) (0x01)

/-- `0x2300+m:02` SUP_HI (10). -/
def supHi (n : Nat) : Nat := key (0x2300 + n) (0x02)

/-- `0x2300+m:03` SUP_HYST (10). -/
def supHyst (n : Nat) : Nat := key (0x2300 + n) (0x03)

/-- `0x2300+m:04` SUP_TIME (10). -/
def supTime (n : Nat) : Nat := key (0x2300 + n) (0x04)

/-- `0x2300+m:05` SUP_VALUE (10). -/
def supValue (n : Nat) : Nat := key (0x2300 + n) (0x05)

/-- `0x2300+m:06` SUP_STATE (10). -/
def supState (n : Nat) : Nat := key (0x2300 + n) (0x06)

/-- `0x2300+m:07` SUP_MIN (10). -/
def supMin (n : Nat) : Nat := key (0x2300 + n) (0x07)

/-- `0x2300+m:08` SUP_MAX (10). -/
def supMax (n : Nat) : Nat := key (0x2300 + n) (0x08)

/-- `0x2310:01` TEMP_WARN_HOIST (10). -/
def tempWarnHoist : Nat := key (0x2310) (0x01)

/-- `0x2310:02` TEMP_WARN_FLY (10). -/
def tempWarnFly : Nat := key (0x2310) (0x02)

/-- `0x4D80+p:01` CABLE_VF (10). -/
def cableVf (n : Nat) : Nat := key (0x4D80 + n) (0x01)

/-- `0x4D80+p:02` CABLE_RUN (10). -/
def cableRun (n : Nat) : Nat := key (0x4D80 + n) (0x02)

/-- `0x4D80+p:03` CABLE_LENGTH (10). -/
def cableLength (n : Nat) : Nat := key (0x4D80 + n) (0x03)

/-- `0x4D80+p:04` CABLE_END (10). -/
def cableEnd (n : Nat) : Nat := key (0x4D80 + n) (0x04)

/-- `0x4D80+p:05` CABLE_BUSY (10). -/
def cableBusy (n : Nat) : Nat := key (0x4D80 + n) (0x05)

/-- `0x5000+Q:01` BP_ENABLE (11). -/
def bpEnable (n : Nat) : Nat := key (0x5000 + 0x20 * n) (0x01)

/-- `0x5000+Q:02` BP_RATE (11). -/
def bpRate (n : Nat) : Nat := key (0x5000 + 0x20 * n) (0x02)

/-- `0x5000+Q:03` BP_FRAME_PERIOD (11). -/
def bpFramePeriod (n : Nat) : Nat := key (0x5000 + 0x20 * n) (0x03)

/-- `0x5000+Q:04` BP_NODE_TIMEOUT (11). -/
def bpNodeTimeout (n : Nat) : Nat := key (0x5000 + 0x20 * n) (0x04)

/-- `0x5000+Q:05` BP_EXPECT_NODES (11). -/
def bpExpectNodes (n : Nat) : Nat := key (0x5000 + 0x20 * n) (0x05)

/-- `0x5000+Q:06` BP_AUTO_REDISCOVER (11). -/
def bpAutoRediscover (n : Nat) : Nat := key (0x5000 + 0x20 * n) (0x06)

/-- `0x5000+Q:07` BP_RETRY_TIME (11). -/
def bpRetryTime (n : Nat) : Nat := key (0x5000 + 0x20 * n) (0x07)

/-- `0x5000+Q:08` THERM_SLOTS (11). -/
def bpThermSlots (n : Nat) : Nat := key (0x5000 + 0x20 * n) (0x08)

/-- `0x5000+Q:09` BG_KNEE (11). -/
def bpBgKnee (n : Nat) : Nat := key (0x5000 + 0x20 * n) (0x09)

/-- `0x5000+Q:0A` BG_TMAX (11). -/
def bpBgTmax (n : Nat) : Nat := key (0x5000 + 0x20 * n) (0x0A)

/-- `0x5000+Q:0B` BG_FLOOR (11). -/
def bpBgFloor (n : Nat) : Nat := key (0x5000 + 0x20 * n) (0x0B)

/-- `0x5000+Q:0C` P8_PWM_FREQ (11). -/
def bpP8PwmFreq (n : Nat) : Nat := key (0x5000 + 0x20 * n) (0x0C)

/-- `0x5000+Q:0D` REPLY_MISS_LIMIT (11). -/
def bpReplyMissLimit (n : Nat) : Nat := key (0x5000 + 0x20 * n) (0x0D)

/-- `0x5001+Q:01` BP_STATE (11). -/
def bpState (n : Nat) : Nat := key (0x5001 + 0x20 * n) (0x01)

/-- `0x5001+Q:02` BP_FLAGS (11). -/
def bpFlags (n : Nat) : Nat := key (0x5001 + 0x20 * n) (0x02)

/-- `0x5001+Q:03` NODE_COUNT (11). -/
def bpNodeCount (n : Nat) : Nat := key (0x5001 + 0x20 * n) (0x03)

/-- `0x5001+Q:04` FRAME_TIME (11). -/
def bpFrameTime (n : Nat) : Nat := key (0x5001 + 0x20 * n) (0x04)

/-- `0x5001+Q:05` ROUND_TRIP (11). -/
def bpRoundTrip (n : Nat) : Nat := key (0x5001 + 0x20 * n) (0x05)

/-- `0x5001+Q:06` FRAME_COUNT (11). -/
def bpFrameCount (n : Nat) : Nat := key (0x5001 + 0x20 * n) (0x06)

/-- `0x5001+Q:07` TURN_ERRORS (11). -/
def bpTurnErrors (n : Nat) : Nat := key (0x5001 + 0x20 * n) (0x07)

/-- `0x5001+Q:08` REPLY_ERRORS (11). -/
def bpReplyErrors (n : Nat) : Nat := key (0x5001 + 0x20 * n) (0x08)

/-- `0x5001+Q:09` DIAG_CYCLE (11). -/
def bpDiagCycle (n : Nat) : Nat := key (0x5001 + 0x20 * n) (0x09)

/-- `0x5002+Q:01` BP_REDISCOVER (11). -/
def bpRediscover (n : Nat) : Nat := key (0x5002 + 0x20 * n) (0x01)

/-- `0x5002+Q:02` BP_NODE_CLEAR (11). -/
def bpNodeClear (n : Nat) : Nat := key (0x5002 + 0x20 * n) (0x02)

/-- `0x5003+Q:01` BG_STATE_0–BG_STATE_63 (11). -/
def bpBgState (n k : Nat) : Nat := key (0x5003 + 0x20 * n) (0x01 + k)

/-- `0x5200+P:01` MX_ENABLE (12). -/
def mxEnable (n : Nat) : Nat := key (0x5200 + 0x10 * n) (0x01)

/-- `0x5200+P:02` LINE_PERIOD (12). -/
def mxLinePeriod (n : Nat) : Nat := key (0x5200 + 0x10 * n) (0x02)

/-- `0x5200+P:03` MX_PHASE (12). -/
def mxPhase (n : Nat) : Nat := key (0x5200 + 0x10 * n) (0x03)

/-- `0x5200+P:04` PRE_TIME (12). -/
def mxPreTime (n : Nat) : Nat := key (0x5200 + 0x10 * n) (0x04)

/-- `0x5200+P:05` COL_I_FS (12). -/
def mxColIFs (n : Nat) : Nat := key (0x5200 + 0x10 * n) (0x05)

/-- `0x5200+P:06` COL_VF (12). -/
def mxColVf (n : Nat) : Nat := key (0x5200 + 0x10 * n) (0x06)

/-- `0x5200+P:07` COL_VMAX (12). -/
def mxColVmax (n : Nat) : Nat := key (0x5200 + 0x10 * n) (0x07)

/-- `0x5200+P:08` MX_KNEE (12). -/
def mxKnee (n : Nat) : Nat := key (0x5200 + 0x10 * n) (0x08)

/-- `0x5200+P:09` OPEN_DETECT (12). -/
def mxOpenDetect (n : Nat) : Nat := key (0x5200 + 0x10 * n) (0x09)

/-- `0x5200+P:0A` RETRY_COUNT (12). -/
def mxRetryCount (n : Nat) : Nat := key (0x5200 + 0x10 * n) (0x0A)

/-- `0x5200+P:0B` RETRY_DELAY (12). -/
def mxRetryDelay (n : Nat) : Nat := key (0x5200 + 0x10 * n) (0x0B)

/-- `0x5201+P:01` MX_STATE (12). -/
def mxState (n : Nat) : Nat := key (0x5201 + 0x10 * n) (0x01)

/-- `0x5201+P:02` PORT_I (12). -/
def mxPortI (n : Nat) : Nat := key (0x5201 + 0x10 * n) (0x02)

/-- `0x5201+P:03` PORT_P (12). -/
def mxPortP (n : Nat) : Nat := key (0x5201 + 0x10 * n) (0x03)

/-- `0x5201+P:04` FACTOR (12). -/
def mxFactor (n : Nat) : Nat := key (0x5201 + 0x10 * n) (0x04)

/-- `0x5201+P:05` PIXEL_OPEN (12). -/
def mxPixelOpen (n : Nat) : Nat := key (0x5201 + 0x10 * n) (0x05)

/-- `0x5201+P:06` COL_DISABLED (12). -/
def mxColDisabled (n : Nat) : Nat := key (0x5201 + 0x10 * n) (0x06)

/-- `0x5201+P:07` TRIP_COUNT (12). -/
def mxTripCount (n : Nat) : Nat := key (0x5201 + 0x10 * n) (0x07)

/-- `0x5202+P:01` FAULT_CLEAR (12). -/
def mxFaultClear (n : Nat) : Nat := key (0x5202 + 0x10 * n) (0x01)

/-- `0x5202+P:02` PIXEL_CLEAR (12). -/
def mxPixelClear (n : Nat) : Nat := key (0x5202 + 0x10 * n) (0x02)

/-- `0x5280:01` KNEE_T (12). -/
def kneeT : Nat := key (0x5280) (0x01)

/-- `0x5280:02` KNEE_SPAN (12). -/
def kneeSpan : Nat := key (0x5280) (0x02)

/-- `0x5280:03` KNEE_FLOOR (12). -/
def kneeFloor : Nat := key (0x5280) (0x03)

/-- `0x5280:04` KNEE_GD_MASK (12). -/
def kneeGdMask : Nat := key (0x5280) (0x04)

/-- `0x5280:05` KNEE_DOUT_MASK (12). -/
def kneeDoutMask : Nat := key (0x5280) (0x05)

/-- `0x5280:06` KNEE_TARGET (12). -/
def kneeTarget : Nat := key (0x5280) (0x06)

/-- `0x5290:01` NB_ONLINE_MASK (12). -/
def nbOnlineMask : Nat := key (0x5290) (0x01)

/-- `0x5290:02` NB_ONLINE_PERIOD (12). -/
def nbOnlinePeriod : Nat := key (0x5290) (0x02)

/-- `0x5290:03` NB_RUN (12). -/
def nbRun : Nat := key (0x5290) (0x03)

/-- `0x5290:04` NB_STATE (12). -/
def nbState : Nat := key (0x5290) (0x04)

/-- `0x5290:05` NB_COUNT (12). -/
def nbCount : Nat := key (0x5290) (0x05)

/-- `0x5290:06` NB_PAIR_1–NB_PAIR_16 (12). -/
def nbPair (k : Nat) : Nat := key (0x5290) (0x06 + k)

/-- `0x5301:01` GROUP_CMD (12). -/
def groupCmd : Nat := key (0x5301) (0x01)

/-- `0x5302:01` GQ_GROUP (12). -/
def gqGroup : Nat := key (0x5302) (0x01)

/-- `0x5302:02` GQ_MEMBERS (12). -/
def gqMembers : Nat := key (0x5302) (0x02)

/-- `0x5302:03` GQ_LEVEL (12). -/
def gqLevel : Nat := key (0x5302) (0x03)

/-- `0x5302:04` GQ_ACTIVITY (12). -/
def gqActivity : Nat := key (0x5302) (0x04)

/-- `0x5302:05` GQ_HOLDER (12). -/
def gqHolder : Nat := key (0x5302) (0x05)

/-- `0x5410+e:01` ENG_STATE (12). -/
def engState (n : Nat) : Nat := key (0x5410 + n) (0x01)

/-- `0x5410+e:02` ENG_GROUP (12). -/
def engGroup (n : Nat) : Nat := key (0x5410 + n) (0x02)

/-- `0x5410+e:03` ENG_CLASS (12). -/
def engClass (n : Nat) : Nat := key (0x5410 + n) (0x03)

/-- `0x5410+e:04` ENG_BLOCK (12). -/
def engBlock (n : Nat) : Nat := key (0x5410 + n) (0x04)

/-- `0x5410+e:05` ENG_PERIODS (12). -/
def engPeriods (n : Nat) : Nat := key (0x5410 + n) (0x05)

/-- `0x5410+e:06` ENG_TAKEOVERS (12). -/
def engTakeovers (n : Nat) : Nat := key (0x5410 + n) (0x06)

/-- `0x7000+t:01` TMR_AUTOSTART (13). -/
def tmrAutostart (n : Nat) : Nat := key (0x7000 + n) (0x01)

/-- `0x7000+t:02` TMR_DEBUG_FREEZE (13). -/
def tmrDebugFreeze (n : Nat) : Nat := key (0x7000 + n) (0x02)

/-- `0x7000+t:03` OVF_ACTION (13). -/
def tmrOvfAction (n : Nat) : Nat := key (0x7000 + n) (0x03)

/-- `0x7000+t:04` CMP0_ACTION–CMP3_ACTION (13). -/
def tmrCmpkAction (n k : Nat) : Nat := key (0x7000 + n) (0x04 + k)

/-- `0x7000+t:08` CMP0_INIT–CMP3_INIT (13). -/
def tmrCmpkInit (n k : Nat) : Nat := key (0x7000 + n) (0x08 + k)

/-- `0x7020+t:01` CMP0–CMP3 (13). -/
def tmrCmpk (n k : Nat) : Nat := key (0x7020 + n) (0x01 + k)

/-- `0x7020+t:05` TMR_CMD (13). -/
def tmrCmd (n : Nat) : Nat := key (0x7020 + n) (0x05)

/-- `0x7020+t:06` TMR_COUNT (13). -/
def tmrCount (n : Nat) : Nat := key (0x7020 + n) (0x06)

/-- `0x7020+t:07` TMR_STATUS (13). -/
def tmrStatus (n : Nat) : Nat := key (0x7020 + n) (0x07)

/-- `0x7020+t:08` TMR_LAPS (13). -/
def tmrLaps (n : Nat) : Nat := key (0x7020 + n) (0x08)

/-- `0x7040:01` GS_MASK (13). -/
def gsMask : Nat := key (0x7040) (0x01)

/-- `0x7040:02` GS_OP (13). -/
def gsOp : Nat := key (0x7040) (0x02)

/-- `0x7040:03` GS_BASE (13). -/
def gsBase : Nat := key (0x7040) (0x03)

/-- `0x7040:04` GS_AT (13). -/
def gsAt : Nat := key (0x7040) (0x04)

/-- `0x7040:05` GS_ARM (13). -/
def gsArm : Nat := key (0x7040) (0x05)

/-- `0x7040:06` GS_STATE (13). -/
def gsState : Nat := key (0x7040) (0x06)

/-- `0x7041:01` TMR_CONFLICTS (13). -/
def tmrConflicts : Nat := key (0x7041) (0x01)

/-- `0x7110:01` NOTICE_CAN_ID_0–7 (13). -/
def noticeCanId (k : Nat) : Nat := key (0x7110) (0x01 + k)

/-- `0x7120:01` EVENT_POST (13). -/
def eventPost : Nat := key (0x7120) (0x01)

/-- `0x7121:01` LOG_SEQ (13). -/
def logSeq : Nat := key (0x7121) (0x01)

/-- `0x7121:02` RUNTIME_DROPS (13). -/
def runtimeDrops : Nat := key (0x7121) (0x02)

/-- `0x7121:03` HELD_DROPS (13). -/
def heldDrops : Nat := key (0x7121) (0x03)

/-- `0x7121:04` CAN_NOTICE_DROPS (13). -/
def canNoticeDrops : Nat := key (0x7121) (0x04)

/-- `0x6000+Y:01` CAN_MODE (14). -/
def canMode (n : Nat) : Nat := key (0x6000 + 0x20 * n) (0x01)

/-- `0x6000+Y:02` NBRP (14). -/
def canNbrp (n : Nat) : Nat := key (0x6000 + 0x20 * n) (0x02)

/-- `0x6000+Y:03` NTSEG1 (14). -/
def canNtseg1 (n : Nat) : Nat := key (0x6000 + 0x20 * n) (0x03)

/-- `0x6000+Y:04` NTSEG2 (14). -/
def canNtseg2 (n : Nat) : Nat := key (0x6000 + 0x20 * n) (0x04)

/-- `0x6000+Y:05` NSJW (14). -/
def canNsjw (n : Nat) : Nat := key (0x6000 + 0x20 * n) (0x05)

/-- `0x6000+Y:06` DBRP (14). -/
def canDbrp (n : Nat) : Nat := key (0x6000 + 0x20 * n) (0x06)

/-- `0x6000+Y:07` DTSEG1 (14). -/
def canDtseg1 (n : Nat) : Nat := key (0x6000 + 0x20 * n) (0x07)

/-- `0x6000+Y:08` DTSEG2 (14). -/
def canDtseg2 (n : Nat) : Nat := key (0x6000 + 0x20 * n) (0x08)

/-- `0x6000+Y:09` DSJW (14). -/
def canDsjw (n : Nat) : Nat := key (0x6000 + 0x20 * n) (0x09)

/-- `0x6000+Y:0A` TDC_OFFSET (14). -/
def canTdcOffset (n : Nat) : Nat := key (0x6000 + 0x20 * n) (0x0A)

/-- `0x6000+Y:0B` NODE_ID (14). -/
def canNodeId (n : Nat) : Nat := key (0x6000 + 0x20 * n) (0x0B)

/-- `0x6000+Y:0C` TX_TIMEOUT (14). -/
def canTxTimeout (n : Nat) : Nat := key (0x6000 + 0x20 * n) (0x0C)

/-- `0x6000+Y:0D` STRAY_QUEUE (14). -/
def canStrayQueue (n : Nat) : Nat := key (0x6000 + 0x20 * n) (0x0D)

/-- `0x6001+Y:01` BUSOFF_MODE (14). -/
def canBusoffMode (n : Nat) : Nat := key (0x6001 + 0x20 * n) (0x01)

/-- `0x6001+Y:02` BUSOFF_DELAY (14). -/
def canBusoffDelay (n : Nat) : Nat := key (0x6001 + 0x20 * n) (0x02)

/-- `0x6001+Y:03` ALONE_RETRY (14). -/
def canAloneRetry (n : Nat) : Nat := key (0x6001 + 0x20 * n) (0x03)

/-- `0x6001+Y:04` PXE_ENABLE (14). -/
def canPxeEnable (n : Nat) : Nat := key (0x6001 + 0x20 * n) (0x04)

/-- `0x6002+Y:01` CAN_STATE (14). -/
def canState (n : Nat) : Nat := key (0x6002 + 0x20 * n) (0x01)

/-- `0x6002+Y:02` TEC (14). -/
def canTec (n : Nat) : Nat := key (0x6002 + 0x20 * n) (0x02)

/-- `0x6002+Y:03` REC (14). -/
def canRec (n : Nat) : Nat := key (0x6002 + 0x20 * n) (0x03)

/-- `0x6002+Y:04` CAN_FLAGS (14). -/
def canFlags (n : Nat) : Nat := key (0x6002 + 0x20 * n) (0x04)

/-- `0x6002+Y:05` RX_FRAMES (14). -/
def canRxFrames (n : Nat) : Nat := key (0x6002 + 0x20 * n) (0x05)

/-- `0x6002+Y:06` TX_FRAMES (14). -/
def canTxFrames (n : Nat) : Nat := key (0x6002 + 0x20 * n) (0x06)

/-- `0x6002+Y:07` STRAY_COUNT (14). -/
def canStrayCount (n : Nat) : Nat := key (0x6002 + 0x20 * n) (0x07)

/-- `0x6002+Y:08` ERROR_FRAMES (14). -/
def canErrorFrames (n : Nat) : Nat := key (0x6002 + 0x20 * n) (0x08)

/-- `0x6002+Y:09` LAST_ERROR (14). -/
def canLastError (n : Nat) : Nat := key (0x6002 + 0x20 * n) (0x09)

/-- `0x6002+Y:0A` ACK_RUN (14). -/
def canAckRun (n : Nat) : Nat := key (0x6002 + 0x20 * n) (0x0A)

/-- `0x6002+Y:0B` BUS_LOAD (14). -/
def canBusLoad (n : Nat) : Nat := key (0x6002 + 0x20 * n) (0x0B)

/-- `0x6002+Y:0C` PXE_COUNT (14). -/
def canPxeCount (n : Nat) : Nat := key (0x6002 + 0x20 * n) (0x0C)

/-- `0x6002+Y:0D` RTR_COUNT (14). -/
def canRtrCount (n : Nat) : Nat := key (0x6002 + 0x20 * n) (0x0D)

/-- `0x6003+Y:01` CAN_CMD (14). -/
def canCmd (n : Nat) : Nat := key (0x6003 + 0x20 * n) (0x01)

/-- `0x6003+Y:02` STRAY_ACK (14). -/
def canStrayAck (n : Nat) : Nat := key (0x6003 + 0x20 * n) (0x02)

/-- `0x6004+Y:01` J1939_ENABLE (14). -/
def j1939Enable (n : Nat) : Nat := key (0x6004 + 0x20 * n) (0x01)

/-- `0x6004+Y:02` J1939_NAME (14). -/
def j1939Name (n : Nat) : Nat := key (0x6004 + 0x20 * n) (0x02)

/-- `0x6004+Y:03` PREF_ADDR (14). -/
def j1939PrefAddr (n : Nat) : Nat := key (0x6004 + 0x20 * n) (0x03)

/-- `0x6004+Y:04` ADDR_FIRST (14). -/
def j1939AddrFirst (n : Nat) : Nat := key (0x6004 + 0x20 * n) (0x04)

/-- `0x6004+Y:05` ADDR_LAST (14). -/
def j1939AddrLast (n : Nat) : Nat := key (0x6004 + 0x20 * n) (0x05)

/-- `0x6004+Y:06` CLAIMED_ADDR (14). -/
def j1939ClaimedAddr (n : Nat) : Nat := key (0x6004 + 0x20 * n) (0x06)

/-- `0x6004+Y:07` CLAIM_STATE (14). -/
def j1939ClaimState (n : Nat) : Nat := key (0x6004 + 0x20 * n) (0x07)

/-- `0x6110:01` MO_USED (14). -/
def moUsed : Nat := key (0x6110) (0x01)

/-- `0x6110:02` CS_USED (14). -/
def csUsed : Nat := key (0x6110) (0x02)

/-- `0x6110:03` WATCH_USED (14). -/
def watchUsed : Nat := key (0x6110) (0x03)

/-- `0x6200:01` NM_ENABLE (15). -/
def nmEnable : Nat := key (0x6200) (0x01)

/-- `0x6200:02` NM_CHANNEL (15). -/
def nmChannel : Nat := key (0x6200) (0x02)

/-- `0x6200:03` NM_ID (15). -/
def nmId : Nat := key (0x6200) (0x03)

/-- `0x6200:04` NM_BASE_ID (15). -/
def nmBaseId : Nat := key (0x6200) (0x04)

/-- `0x6200:05` NM_HOST_ID (15). -/
def nmHostId : Nat := key (0x6200) (0x05)

/-- `0x6200:06` NM_T_TYP (15). -/
def nmTTyp : Nat := key (0x6200) (0x06)

/-- `0x6200:07` NM_T_MAX (15). -/
def nmTMax : Nat := key (0x6200) (0x07)

/-- `0x6200:08` NM_T_ERROR (15). -/
def nmTError : Nat := key (0x6200) (0x08)

/-- `0x6200:09` NM_T_WAIT_SLEEP (15). -/
def nmTWaitSleep : Nat := key (0x6200) (0x09)

/-- `0x6200:0A` NM_KEEPER_TIME (15). -/
def nmKeeperTime : Nat := key (0x6200) (0x0A)

/-- `0x6200:0B` NM_MIN_AWAKE (15). -/
def nmMinAwake : Nat := key (0x6200) (0x0B)

/-- `0x6200:0C` NM_STAY_SIGNAL (15). -/
def nmStaySignal : Nat := key (0x6200) (0x0C)

/-- `0x6201:01` NM_STATE (15). -/
def nmState : Nat := key (0x6201) (0x01)

/-- `0x6201:02` PRESENT_MASK (15). -/
def presentMask : Nat := key (0x6201) (0x02)

/-- `0x6201:03` CONSENT_MASK (15). -/
def consentMask : Nat := key (0x6201) (0x03)

/-- `0x6201:04` KEEPER_MASK (15). -/
def keeperMask : Nat := key (0x6201) (0x04)

/-- `0x6201:05` KEEPER_ID (15). -/
def keeperId : Nat := key (0x6201) (0x05)

/-- `0x6201:06` KEEPER_REASON (15). -/
def keeperReason : Nat := key (0x6201) (0x06)

/-- `0x6201:07` OWN_REASON (15). -/
def ownReason : Nat := key (0x6201) (0x07)

/-- `0x6201:08` LAST_WAKE_SOURCE (15). -/
def nmLastWakeSource : Nat := key (0x6201) (0x08)

/-- `0x6201:09` LAST_WAKE_DETAIL (15). -/
def nmLastWakeDetail : Nat := key (0x6201) (0x09)

/-- `0x6201:0A` NM_REJECTS (15). -/
def nmRejects : Nat := key (0x6201) (0x0A)

/-- `0x6202:01` NM_CMD (15). -/
def nmCmd : Nat := key (0x6202) (0x01)

/-- `0x6202:02` NM_REMOTE_WAKE (15). -/
def nmRemoteWake : Nat := key (0x6202) (0x02)

/-- `0x6210+c:01` SW_ENABLE (15). -/
def swEnable (n : Nat) : Nat := key (0x6210 + n) (0x01)

/-- `0x6210+c:02` SW_ID (15). -/
def swId (n : Nat) : Nat := key (0x6210 + n) (0x02)

/-- `0x6210+c:03` SW_ID_MASK (15). -/
def swIdMask (n : Nat) : Nat := key (0x6210 + n) (0x03)

/-- `0x6210+c:04` SW_DLC (15). -/
def swDlc (n : Nat) : Nat := key (0x6210 + n) (0x04)

/-- `0x6210+c:05` SW_DATA (15). -/
def swData (n : Nat) : Nat := key (0x6210 + n) (0x05)

/-- `0x6210+c:06` SW_DATA_MASK (15). -/
def swDataMask (n : Nat) : Nat := key (0x6210 + n) (0x06)

/-- `0x6210+c:07` SW_FD_PASSIVE (15). -/
def swFdPassive (n : Nat) : Nat := key (0x6210 + n) (0x07)

/-- `0x6210+c:08` SW_WUP (15). -/
def swWup (n : Nat) : Nat := key (0x6210 + n) (0x08)

/-- `0x6220+n:01` WAKE_EDGE (15). -/
def wakeEdge (n : Nat) : Nat := key (0x6220 + n) (0x01)

/-- `0x6220+n:02` WAKE_FILTER (15). -/
def wakeFilter (n : Nat) : Nat := key (0x6220 + n) (0x02)

/-- `0x6220+n:03` WAKE_PULL (15). -/
def wakePull (n : Nat) : Nat := key (0x6220 + n) (0x03)

/-- `0x2000:01` PWR_STATE (16). -/
def pwrState : Nat := key (0x2000) (0x01)

/-- `0x2000:02` PWR_TARGET (16). -/
def pwrTarget : Nat := key (0x2000) (0x02)

/-- `0x2000:03` PWR_TRANSITION (16). -/
def pwrTransition : Nat := key (0x2000) (0x03)

/-- `0x2000:04` LINGER (16). -/
def linger : Nat := key (0x2000) (0x04)

/-- `0x2000:05` WAKE_PROFILE (16). -/
def wakeProfile : Nat := key (0x2000) (0x05)

/-- `0x2000:06` WAKE_HOLD (16). -/
def wakeHold : Nat := key (0x2000) (0x06)

/-- `0x2000:07` LAST_WAKE_CAUSE (16). -/
def lastWakeCause : Nat := key (0x2000) (0x07)

/-- `0x2000:08` LAST_WAKE_DETAIL (16). -/
def lastWakeDetail : Nat := key (0x2000) (0x08)

/-- `0x2000:09` TRANSITION_COUNT (16). -/
def transitionCount : Nat := key (0x2000) (0x09)

/-- `0x2000:0A` STANDING_MASK (16). -/
def standingMask : Nat := key (0x2000) (0x0A)

/-- `0x2000:0B` STANDING_SUSPENDED (16). -/
def standingSuspended : Nat := key (0x2000) (0x0B)

/-- `0x2001:01` HOST_VOTE (16). -/
def hostVote : Nat := key (0x2001) (0x01)

/-- `0x2010+d:01` DOMAIN_VOTES (16). -/
def domainVotes (n : Nat) : Nat := key (0x2010 + n) (0x01)

/-- `0x2010+d:02` DOMAIN_ON (16). -/
def domainOn (n : Nat) : Nat := key (0x2010 + n) (0x02)

/-- `0x2010+d:03` DOMAIN_SWITCHES (16). -/
def domainSwitches (n : Nat) : Nat := key (0x2010 + n) (0x03)

/-- `0x2030+p:01` PROFILE_MASK (16). -/
def profileMask (n : Nat) : Nat := key (0x2030 + n) (0x01)

/-- `0x2050:01` PARK_GD_MASK (16). -/
def parkGdMask : Nat := key (0x2050) (0x01)

/-- `0x2050:02` PARK_SV_MASK (16). -/
def parkSvMask : Nat := key (0x2050) (0x02)

/-- `0x2050:03` PARK_DOUT_MASK (16). -/
def parkDoutMask : Nat := key (0x2050) (0x03)

/-- `0x2050:04` HM_DIN_MASK (16). -/
def hmDinMask : Nat := key (0x2050) (0x04)

/-- `0x2050:05` HM_HALYARD_WAKE (16). -/
def hmHalyardWake : Nat := key (0x2050) (0x05)

/-- `0x2050:06` PARK_FAULT_WAKE (16). -/
def parkFaultWake : Nat := key (0x2050) (0x06)

/-- `0x2051:01` HM_WAKE_EVENT_1–32 (16). -/
def hmWakeEvent (k : Nat) : Nat := key (0x2051) (0x01 + k)

/-- `0x2060:01` RTC_SECONDS (16). -/
def rtcSeconds : Nat := key (0x2060) (0x01)

/-- `0x2060:02` RTC_ALARM (16). -/
def rtcAlarm : Nat := key (0x2060) (0x02)

/-- `0x2060:03` RTC_VALID (16). -/
def rtcValid : Nat := key (0x2060) (0x03)

/-- `0x2100:01` STRIKE_ENABLE (17). -/
def strikeEnable : Nat := key (0x2100) (0x01)

/-- `0x2100:02` STRIKE_LEVEL (17). -/
def strikeLevel : Nat := key (0x2100) (0x02)

/-- `0x2100:03` STRIKE_STATE (17). -/
def strikeState : Nat := key (0x2100) (0x03)

/-- `0x2100:04` START_CAUSE (17). -/
def startCause : Nat := key (0x2100) (0x04)

/-- `0x2100:05` APPLY_TIME (17). -/
def applyTime : Nat := key (0x2100) (0x05)

/-- `0x2100:06` STRIKE_COUNT (17). -/
def strikeCount : Nat := key (0x2100) (0x06)

/-- `0x2100:07` LAST_STRIKE_RESULT (17). -/
def lastStrikeResult : Nat := key (0x2100) (0x07)

/-- `0x2100:08` LAST_STRIKE_TIME (17). -/
def lastStrikeTime : Nat := key (0x2100) (0x08)

/-- `0x2100:09` LAST_STRIKE_KIB (17). -/
def lastStrikeKib : Nat := key (0x2100) (0x09)

/-- `0x1100:01` ROLE_SLOT_HOST (18). -/
def roleSlotHost : Nat := key (0x1100) (0x01)

/-- `0x1100:02` ROLE_SLOT_SERVICE (18). -/
def roleSlotService : Nat := key (0x1100) (0x02)

/-- `0x1100:03` ROLE_SLOT_MAKER (18). -/
def roleSlotMaker : Nat := key (0x1100) (0x03)

/-- `0x1100:04` SESSION_IDLE (18). -/
def sessionIdle : Nat := key (0x1100) (0x04)

/-- `0x1100:05` LOCKOUT_FAILS (18). -/
def lockoutFails : Nat := key (0x1100) (0x05)

/-- `0x1100:06` LOCKOUT_TIME (18). -/
def lockoutTime : Nat := key (0x1100) (0x06)

/-- `0x1100:07` SETUP_PATHS (18). -/
def setupPaths : Nat := key (0x1100) (0x07)

/-- `0x1101:01` SETUP_IN (18). -/
def setupIn : Nat := key (0x1101) (0x01)

/-- `0x1101:02` SETUP_OUT (18). -/
def setupOut : Nat := key (0x1101) (0x02)

/-- `0x1102:01` SESSION_ROLE (18). -/
def sessionRole : Nat := key (0x1102) (0x01)

/-- `0x1102:02` SESSION_AGE (18). -/
def sessionAge : Nat := key (0x1102) (0x02)

/-- `0x1102:03` SESSION_CLOSE (18). -/
def sessionClose : Nat := key (0x1102) (0x03)

/-- `0x1110+s:01` S_HANDLE (18). -/
def sHandle (n : Nat) : Nat := key (0x1110 + n) (0x01)

/-- `0x1110+s:02` S_ROLE (18). -/
def sRole (n : Nat) : Nat := key (0x1110 + n) (0x02)

/-- `0x1110+s:03` S_HOST_ID (18). -/
def sHostId (n : Nat) : Nat := key (0x1110 + n) (0x03)

/-- `0x1110+s:04` S_OPENED (18). -/
def sOpened (n : Nat) : Nat := key (0x1110 + n) (0x04)

/-- `0x1110+s:05` S_LAST (18). -/
def sLast (n : Nat) : Nat := key (0x1110 + n) (0x05)

/-- `0x1120:01` LOCK_LEFT_0–LOCK_LEFT_3 (18). -/
def lockLeft (k : Nat) : Nat := key (0x1120) (0x01 + k)

/-- `0x3000:01` LIFECYCLE (18). -/
def lifecycle : Nat := key (0x3000) (0x01)

/-- `0x3000:02` LC_REQUEST (18). -/
def lcRequest : Nat := key (0x3000) (0x02)

/-- `0x3000:03` LC_TOKEN (18). -/
def lcToken : Nat := key (0x3000) (0x03)

/-- `0x3000:04` LC_CONFIRM (18). -/
def lcConfirm : Nat := key (0x3000) (0x04)

/-- `0x3000:05` LC_RESULT (18). -/
def lcResult : Nat := key (0x3000) (0x05)

/-- `0x3001:01` DEBUG_LEVEL (18). -/
def debugLevel : Nat := key (0x3001) (0x01)

/-- `0x3001:02` DEBUG_REQUEST (18). -/
def debugRequest : Nat := key (0x3001) (0x02)

/-- `0x3001:03` DEBUG_CLOSE (18). -/
def debugClose : Nat := key (0x3001) (0x03)

/-- `0x3001:04` DEBUG_STATE (18). -/
def debugState : Nat := key (0x3001) (0x04)

/-- `0x3002:01` DEVICE_PUBKEY (18). -/
def devicePubkey : Nat := key (0x3002) (0x01)

/-- `0x3002:02` ID_CERT (18). -/
def idCert : Nat := key (0x3002) (0x02)

/-- `0x3002:03` BOOT_RESULT (18). -/
def bootResult : Nat := key (0x3002) (0x03)

/-- `0x3100+s:01` SLOT_STATE (18). -/
def keySlotState (n : Nat) : Nat := key (0x3100 + n) (0x01)

/-- `0x3100+s:02` KEY_TYPE (18). -/
def keyType (n : Nat) : Nat := key (0x3100 + n) (0x02)

/-- `0x3100+s:03` KEY_POLICY (18). -/
def keyPolicy (n : Nat) : Nat := key (0x3100 + n) (0x03)

/-- `0x3100+s:04` SLOT_SCA_MIN (18). -/
def keySlotScaMin (n : Nat) : Nat := key (0x3100 + n) (0x04)

/-- `0x3100+s:05` KEY_ID (18). -/
def keyId (n : Nat) : Nat := key (0x3100 + n) (0x05)

/-- `0x3100+s:06` KEY_CHECK (18). -/
def keyCheck (n : Nat) : Nat := key (0x3100 + n) (0x06)

/-- `0x3100+s:07` USE_ROLE (18). -/
def keyUseRole (n : Nat) : Nat := key (0x3100 + n) (0x07)

/-- `0x3100+s:08` SLOT_FUNCTION (18). -/
def keySlotFunction (n : Nat) : Nat := key (0x3100 + n) (0x08)

/-- `0x3100+s:09` USE_COUNT (18). -/
def keyUseCount (n : Nat) : Nat := key (0x3100 + n) (0x09)

/-- `0x3200:01` CJ_OP (18). -/
def cjOp : Nat := key (0x3200) (0x01)

/-- `0x3200:02` CJ_MODE (18). -/
def cjMode : Nat := key (0x3200) (0x02)

/-- `0x3200:03` CJ_SLOT (18). -/
def cjSlot : Nat := key (0x3200) (0x03)

/-- `0x3200:04` CJ_IV (18). -/
def cjIv : Nat := key (0x3200) (0x04)

/-- `0x3200:05` CJ_IV_LEN (18). -/
def cjIvLen : Nat := key (0x3200) (0x05)

/-- `0x3200:06` CJ_AAD_LEN (18). -/
def cjAadLen : Nat := key (0x3200) (0x06)

/-- `0x3200:07` CJ_TAG_LEN (18). -/
def cjTagLen : Nat := key (0x3200) (0x07)

/-- `0x3200:08` CJ_TAG (18). -/
def cjTag : Nat := key (0x3200) (0x08)

/-- `0x3200:09` CJ_RUN (18). -/
def cjRun : Nat := key (0x3200) (0x09)

/-- `0x3200:0A` CJ_STATUS (18). -/
def cjStatus : Nat := key (0x3200) (0x0A)

/-- `0x3200:0B` CJ_OUT_LEN (18). -/
def cjOutLen : Nat := key (0x3200) (0x0B)

/-- `0x3202:01` SCA_LEVEL (18). -/
def scaLevel : Nat := key (0x3202) (0x01)

/-- `0x3210:01` KC_OP (18). -/
def kcOp : Nat := key (0x3210) (0x01)

/-- `0x3210:02` KC_SLOT (18). -/
def kcSlot : Nat := key (0x3210) (0x02)

/-- `0x3210:03` KC_SOURCE (18). -/
def kcSource : Nat := key (0x3210) (0x03)

/-- `0x3210:04` KC_ATTR (18). -/
def kcAttr : Nat := key (0x3210) (0x04)

/-- `0x3210:05` KC_BLOB (18). -/
def kcBlob : Nat := key (0x3210) (0x05)

/-- `0x3210:06` KC_BLOB_LEN (18). -/
def kcBlobLen : Nat := key (0x3210) (0x06)

/-- `0x3210:07` KC_RUN (18). -/
def kcRun : Nat := key (0x3210) (0x07)

/-- `0x3210:08` KC_STATUS (18). -/
def kcStatus : Nat := key (0x3210) (0x08)

/-- `0x3220:01` PK_OP (18). -/
def pkOp : Nat := key (0x3220) (0x01)

/-- `0x3220:02` PK_SLOT (18). -/
def pkSlot : Nat := key (0x3220) (0x02)

/-- `0x3220:03` PK_HASH (18). -/
def pkHash : Nat := key (0x3220) (0x03)

/-- `0x3220:04` PK_INPUT (18). -/
def pkInput : Nat := key (0x3220) (0x04)

/-- `0x3220:05` PK_DIGEST (18). -/
def pkDigest : Nat := key (0x3220) (0x05)

/-- `0x3220:06` PK_PUBKEY (18). -/
def pkPubkey : Nat := key (0x3220) (0x06)

/-- `0x3220:07` PK_SIGNATURE (18). -/
def pkSignature : Nat := key (0x3220) (0x07)

/-- `0x3220:08` PK_RUN (18). -/
def pkRun : Nat := key (0x3220) (0x08)

/-- `0x3220:09` PK_STATUS (18). -/
def pkStatus : Nat := key (0x3220) (0x09)

/-- `0x3230:01` RANDOM (18). -/
def random : Nat := key (0x3230) (0x01)

/-- `0x3230:02` TRNG_STATE (18). -/
def trngState : Nat := key (0x3230) (0x02)

/-- `0x3400:01` BKEY_ENABLE (19). -/
def bkeyEnable : Nat := key (0x3400) (0x01)

/-- `0x3400:02` LF_ENABLE (19). -/
def lfEnable : Nat := key (0x3400) (0x02)

/-- `0x3400:03` LF_POLL_PERIOD (19). -/
def lfPollPeriod : Nat := key (0x3400) (0x03)

/-- `0x3400:04` BKEY_SETTLE (19). -/
def bkeySettle : Nat := key (0x3400) (0x04)

/-- `0x3400:05` FAIL_LIMIT (19). -/
def failLimit : Nat := key (0x3400) (0x05)

/-- `0x3400:06` FAIL_WINDOW (19). -/
def failWindow : Nat := key (0x3400) (0x06)

/-- `0x3400:07` LOCK_TIME (19). -/
def lockTime : Nat := key (0x3400) (0x07)

/-- `0x3401+p:01` PORT_STATE (19). -/
def bgPortState (n : Nat) : Nat := key (0x3401 + n) (0x01)

/-- `0x3401+p:02` LAST_RESULT (19). -/
def bgLastResult (n : Nat) : Nat := key (0x3401 + n) (0x02)

/-- `0x3401+p:03` LAST_ENTRY (19). -/
def bgLastEntry (n : Nat) : Nat := key (0x3401 + n) (0x03)

/-- `0x3401+p:04` FAILS_IN_WINDOW (19). -/
def bgFailsInWindow (n : Nat) : Nat := key (0x3401 + n) (0x04)

/-- `0x3401+p:05` LOCK_LEFT (19). -/
def bgLockLeft (n : Nat) : Nat := key (0x3401 + n) (0x05)

/-- `0x3401+p:06` RESPONSE_DELAY (19). -/
def bgResponseDelay (n : Nat) : Nat := key (0x3401 + n) (0x06)

/-- `0x3401+p:07` EXCHANGES (19). -/
def bgExchanges (n : Nat) : Nat := key (0x3401 + n) (0x07)

/-- `0x3401+p:08` FAILURES (19). -/
def bgFailures (n : Nat) : Nat := key (0x3401 + n) (0x08)

/-- `0x3404:01` BG_CLEAR_LOCK (19). -/
def bgClearLock : Nat := key (0x3404) (0x01)

/-- `0x3404:02` IMPL_RUN (19). -/
def implRun : Nat := key (0x3404) (0x02)

/-- `0x3420+r:01` REL_ENABLE (19). -/
def relEnable (n : Nat) : Nat := key (0x3420 + n) (0x01)

/-- `0x3420+r:02` REL_GATE_FIRST (19). -/
def relGateFirst (n : Nat) : Nat := key (0x3420 + n) (0x02)

/-- `0x3420+r:03` REL_GATE_LAST (19). -/
def relGateLast (n : Nat) : Nat := key (0x3420 + n) (0x03)

/-- `0x3420+r:04` REL_MO (19). -/
def relMo (n : Nat) : Nat := key (0x3420 + n) (0x04)

/-- `0x3420+r:05` REL_MAC_SLOT (19). -/
def relMacSlot (n : Nat) : Nat := key (0x3420 + n) (0x05)

/-- `0x3420+r:06` REL_VALIDITY (19). -/
def relValidity (n : Nat) : Nat := key (0x3420 + n) (0x06)

/-- `0x3420+r:07` REL_HOLD_SIGNAL (19). -/
def relHoldSignal (n : Nat) : Nat := key (0x3420 + n) (0x07)

/-- `0x3430+r:01` REL_PERSIST (19). -/
def relPersist (n : Nat) : Nat := key (0x3430 + n) (0x01)

/-- `0x3430+r:02` REL_STATE (19). -/
def relState (n : Nat) : Nat := key (0x3430 + n) (0x02)

/-- `0x3430+r:03` REL_LEFT (19). -/
def relLeft (n : Nat) : Nat := key (0x3430 + n) (0x03)

/-- `0x3430+r:04` REL_OPENED_BY (19). -/
def relOpenedBy (n : Nat) : Nat := key (0x3430 + n) (0x04)

/-- `0x3430+r:05` REL_CLOSE (19). -/
def relClose (n : Nat) : Nat := key (0x3430 + n) (0x05)

/-- `0x3430+r:06` REL_OPEN (19). -/
def relOpen (n : Nat) : Nat := key (0x3430 + n) (0x06)

/-- `0x3440+e:01` TOK_KIND (19). -/
def tokKind (n : Nat) : Nat := key (0x3440 + n) (0x01)

/-- `0x3440+e:02` TOKEN_ID (19). -/
def tokenId (n : Nat) : Nat := key (0x3440 + n) (0x02)

/-- `0x3440+e:03` TOK_PORTS (19). -/
def tokPorts (n : Nat) : Nat := key (0x3440 + n) (0x03)

/-- `0x3440+e:04` TOK_SLOT (19). -/
def tokSlot (n : Nat) : Nat := key (0x3440 + n) (0x04)

/-- `0x3440+e:05` TOK_DIVERSIFY (19). -/
def tokDiversify (n : Nat) : Nat := key (0x3440 + n) (0x05)

/-- `0x3440+e:06` TOK_RELEASES (19). -/
def tokReleases (n : Nat) : Nat := key (0x3440 + n) (0x06)

/-- `0x3470+i:01` IMPL_ENABLE (19). -/
def implEnable (n : Nat) : Nat := key (0x3470 + n) (0x01)

/-- `0x3470+i:02` IMPL_ID (19). -/
def implId (n : Nat) : Nat := key (0x3470 + n) (0x02)

/-- `0x3470+i:03` IMPL_TX_MO (19). -/
def implTxMo (n : Nat) : Nat := key (0x3470 + n) (0x03)

/-- `0x3470+i:04` IMPL_RX_MO (19). -/
def implRxMo (n : Nat) : Nat := key (0x3470 + n) (0x04)

/-- `0x3470+i:05` IMPL_SLOT (19). -/
def implSlot (n : Nat) : Nat := key (0x3470 + n) (0x05)

/-- `0x3470+i:06` IMPL_DIVERSIFY (19). -/
def implDiversify (n : Nat) : Nat := key (0x3470 + n) (0x06)

/-- `0x3470+i:07` IMPL_RELEASES (19). -/
def implReleases (n : Nat) : Nat := key (0x3470 + n) (0x07)

/-- `0x3470+i:08` IMPL_PERIOD (19). -/
def implPeriod (n : Nat) : Nat := key (0x3470 + n) (0x08)

/-- `0x3470+i:09` IMPL_STATE (19). -/
def implState (n : Nat) : Nat := key (0x3470 + n) (0x09)

/-- `0x9000:01` LEDGER_ENABLE (20). -/
def ledgerEnable : Nat := key (0x9000) (0x01)

/-- `0x9000:02` FULL_POLICY (20). -/
def ledgerFullPolicy : Nat := key (0x9000) (0x02)

/-- `0x9000:03` SEAL_TIME (20). -/
def ledgerSealTime : Nat := key (0x9000) (0x03)

/-- `0x9000:04` FLUSH_TIME (20). -/
def ledgerFlushTime : Nat := key (0x9000) (0x04)

/-- `0x9000:05` DIPPED_HOLD (20). -/
def ledgerDippedHold : Nat := key (0x9000) (0x05)

/-- `0x9000:06` LEDGER_NSID_1 (20). -/
def ledgerNsid1 : Nat := key (0x9000) (0x06)

/-- `0x9000:07` LEDGER_NSID_2 (20). -/
def ledgerNsid2 : Nat := key (0x9000) (0x07)

/-- `0x9000:08` USED_WARN (20). -/
def ledgerUsedWarn : Nat := key (0x9000) (0x08)

/-- `0x9000:09` SMART_PERIOD (20). -/
def ledgerSmartPeriod : Nat := key (0x9000) (0x09)

/-- `0x9001:01` LEDGER_STATE (20). -/
def ledgerState : Nat := key (0x9001) (0x01)

/-- `0x9001:02` LEDGER_EPOCH (20). -/
def ledgerEpoch : Nat := key (0x9001) (0x02)

/-- `0x9001:03` HEAD_PAGE (20). -/
def ledgerHeadPage : Nat := key (0x9001) (0x03)

/-- `0x9001:04` DURABLE_PAGE (20). -/
def ledgerDurablePage : Nat := key (0x9001) (0x04)

/-- `0x9001:05` NEXT_SEQ (20). -/
def ledgerNextSeq : Nat := key (0x9001) (0x05)

/-- `0x9001:06` FORMAT_PAGE (20). -/
def ledgerFormatPage : Nat := key (0x9001) (0x06)

/-- `0x9001:07` CAPACITY_PAGES (20). -/
def ledgerCapacityPages : Nat := key (0x9001) (0x07)

/-- `0x9001:08` BUFFER_FILL (20). -/
def ledgerBufferFill : Nat := key (0x9001) (0x08)

/-- `0x9001:09` RECORDS_LOST (20). -/
def ledgerRecordsLost : Nat := key (0x9001) (0x09)

/-- `0x9001:0A` USED_PERCENT (20). -/
def ledgerUsedPercent : Nat := key (0x9001) (0x0A)

/-- `0x9001:0B` SSD_WARNING (20). -/
def ledgerSsdWarning : Nat := key (0x9001) (0x0B)

/-- `0x9002:01` LEDGER_FLUSH (20). -/
def ledgerFlush : Nat := key (0x9002) (0x01)

/-- `0x9002:02` LEDGER_ATTEST (20). -/
def ledgerAttest : Nat := key (0x9002) (0x02)

/-- `0x9002:03` ATTEST_OUT (20). -/
def ledgerAttestOut : Nat := key (0x9002) (0x03)

/-- `0x9002:04` LEDGER_FORMAT (20). -/
def ledgerFormat : Nat := key (0x9002) (0x04)

/-- `0x9020+k:01` LR_FIRST (20). -/
def lrFirst (n : Nat) : Nat := key (0x9020 + n) (0x01)

/-- `0x9020+k:02` LR_LAST (20). -/
def lrLast (n : Nat) : Nat := key (0x9020 + n) (0x02)

/-- `0x1F00:01` UPD_ACTIVATE (21). -/
def updActivate : Nat := key (0x1F00) (0x01)

/-- `0x1F00:02` UPD_CONFIRM (21). -/
def updConfirm : Nat := key (0x1F00) (0x02)

/-- `0x1F00:03` UPD_DISCARD (21). -/
def updDiscard : Nat := key (0x1F00) (0x03)

/-- `0x1F00:04` UPD_STATE (21). -/
def updState : Nat := key (0x1F00) (0x04)

/-- `0x1F00:05` UPD_RESULT (21). -/
def updResult : Nat := key (0x1F00) (0x05)

/-- `0x1F00:06` UPD_NODE_RUN (21). -/
def updNodeRun : Nat := key (0x1F00) (0x06)

/-- `0x1F00:07` UPD_NODE_PASSES (21). -/
def updNodePasses : Nat := key (0x1F00) (0x07)

/-- `0x1F00:08` UNCONFIRMED (21). -/
def unconfirmed : Nat := key (0x1F00) (0x08)

/-- `0x1F01:01` EPOCH_MIN (21). -/
def epochMin : Nat := key (0x1F01) (0x01)

/-- `0x1F01:02` EPOCH_MAX (21). -/
def epochMax : Nat := key (0x1F01) (0x02)

/-- `0x1F01:03` HOIST_MIN (21). -/
def hoistMin : Nat := key (0x1F01) (0x03)

/-- `0x1F01:04` NODE_MIN (21). -/
def nodeMin : Nat := key (0x1F01) (0x04)

/-- `0x1F01:05` MIGRATE_FROM (21). -/
def migrateFrom : Nat := key (0x1F01) (0x05)

/-- `0x1F01:06` SEC_MIN_ENSIGN–SEC_MIN_NODE (21). -/
def secMin (k : Nat) : Nat := key (0x1F01) (0x06 + k)

/-- `0x1F02:01` MIGRATE_STATE (21). -/
def migrateState : Nat := key (0x1F02) (0x01)

/-- `0x1F02:02` CONFIG_SCHEMA (21). -/
def configSchema : Nat := key (0x1F02) (0x02)

/-- `0x1F02:03` KEEP_SCHEMA (21). -/
def keepSchema : Nat := key (0x1F02) (0x03)

/-- `0x1F02:04` MIGRATE_FAIL_OBJECT (21). -/
def migrateFailObject : Nat := key (0x1F02) (0x04)

/-- `0x1F10+a:01` AREA_STATE (21). -/
def areaState (n : Nat) : Nat := key (0x1F10 + n) (0x01)

/-- `0x1F10+a:02` AREA_KIND (21). -/
def areaKind (n : Nat) : Nat := key (0x1F10 + n) (0x02)

/-- `0x1F10+a:03` BLOCKS_EXPECTED (21). -/
def areaBlocksExpected (n : Nat) : Nat := key (0x1F10 + n) (0x03)

/-- `0x1F10+a:04` BLOCKS_VALID (21). -/
def areaBlocksValid (n : Nat) : Nat := key (0x1F10 + n) (0x04)

/-- `0x1F10+a:05` BLOCKS_BAD (21). -/
def areaBlocksBad (n : Nat) : Nat := key (0x1F10 + n) (0x05)

/-- `0x1F10+a:06` IMG_VERSION (21). -/
def areaImgVersion (n : Nat) : Nat := key (0x1F10 + n) (0x06)

/-- `0x1F10+a:07` IMG_SEC (21). -/
def areaImgSec (n : Nat) : Nat := key (0x1F10 + n) (0x07)

/-- `0x1F10+a:08` REJECT_CAUSE (21). -/
def areaRejectCause (n : Nat) : Nat := key (0x1F10 + n) (0x08)

/-- `0x1F10+a:09` UPD_VERIFY (21). -/
def areaUpdVerify (n : Nat) : Nat := key (0x1F10 + n) (0x09)

/-- `0x1F10+a:0A` UPD_SIGNATURE (21). -/
def areaUpdSignature (n : Nat) : Nat := key (0x1F10 + n) (0x0A)

/-- `0x1F30+p:01` ND_STATE (21). -/
def ndState (n : Nat) : Nat := key (0x1F30 + n) (0x01)

/-- `0x1F30+p:02` ND_PASS (21). -/
def ndPass (n : Nat) : Nat := key (0x1F30 + n) (0x02)

/-- `0x1F30+p:03` ND_UPDATED (21). -/
def ndUpdated (n : Nat) : Nat := key (0x1F30 + n) (0x03)

/-- `0x1F30+p:04` ND_LEFT (21). -/
def ndLeft (n : Nat) : Nat := key (0x1F30 + n) (0x04)

/-- `0xA000:01` STAGE_TEST_PERIOD (22). -/
def stageTestPeriod : Nat := key (0xA000) (0x01)

/-- `0xA000:02` SPARE_TEST_PERIOD (22). -/
def spareTestPeriod : Nat := key (0xA000) (0x02)

/-- `0xA000:03` ARB_CHECK_PERIOD (22). -/
def arbCheckPeriod : Nat := key (0xA000) (0x03)

/-- `0xA000:04` LANE_RETURN (22). -/
def laneReturn : Nat := key (0xA000) (0x04)

/-- `0xA000:05` MRAM_SCRUB_PERIOD (22). -/
def mramScrubPeriod : Nat := key (0xA000) (0x05)

/-- `0xA001:01` FT_FLAGS (22). -/
def ftFlags : Nat := key (0xA001) (0x01)

/-- `0xA001:02` ARBITER (22). -/
def arbiter : Nat := key (0xA001) (0x02)

/-- `0xA001:03` LANE_STATE (22). -/
def laneState : Nat := key (0xA001) (0x03)

/-- `0xA001:04` PHASES (22). -/
def phases : Nat := key (0xA001) (0x04)

/-- `0xA001:05` SRAM_SPARE (22). -/
def sramSpare : Nat := key (0xA001) (0x05)

/-- `0xA001:06` MRAM_SPARE (22). -/
def mramSpare : Nat := key (0xA001) (0x06)

/-- `0xA001:07` SCRUB_CORRECTED (22). -/
def scrubCorrected : Nat := key (0xA001) (0x07)

/-- `0xA001:08` MISMATCH_COUNT (22). -/
def mismatchCount : Nat := key (0xA001) (0x08)

/-- `0xA002:01` TILE_RETEST (22). -/
def tileRetest : Nat := key (0xA002) (0x01)

/-- `0xA002:02` SPLIT_ACK (22). -/
def splitAck : Nat := key (0xA002) (0x02)

/-- `0xA010:01` TILE_STATE_0–TILE_STATE_23 (22). -/
def tileState (k : Nat) : Nat := key (0xA010) (0x01 + k)

/-- `0xA020:01` CFG_STATE_A–CFG_STATE_C (22). -/
def cfgState (k : Nat) : Nat := key (0xA020) (0x01 + k)

/-- `0xA020:04` CFG_GEN_A–CFG_GEN_C (22). -/
def cfgGen (k : Nat) : Nat := key (0xA020) (0x04 + k)

/-- `0xA020:07` CFG_USED (22). -/
def cfgUsed : Nat := key (0xA020) (0x07)

/-- `0xA020:08` SPLIT_COUNT (22). -/
def splitCount : Nat := key (0xA020) (0x08)

/-- `0xA101:01` FLOG_SEQ (22). -/
def flogSeq : Nat := key (0xA101) (0x01)

/-- `0xA101:02` FLOG_OVERWRITTEN (22). -/
def flogOverwritten : Nat := key (0xA101) (0x02)

end Obj

end Sys2Proof.Machine
end

