-- ==== Sys2Proof/Machine/State.lean ====
section
/-!
DEFINITION. The state of the SW9600 as plain data: its objects (configuration, status and command registers), every
buffer, queue, counter and mode its manual names beside them, and the queue of the commands that wait. INVENTORY.md
lists every piece with its rule.
-/

namespace Sys2Proof.Machine

/-- A sparse table from a number to a value: addresses strictly rising, and nothing listed that equals what an
unlisted number reads as (the default the operations are given). -/
abbrev Table (α : Type) := List (Nat × α)

/-- Object values by key (index << 8 | subindex); an unlisted object reads its default (R9). Entries of cfg DOMAIN
objects stand in the same store, one number per entry (`domKey`). -/
abbrev Regs := Table Nat

/-- Severities of R13, in rising order. -/
inductive Severity where
  | notice | degraded | contained | safeStated
  deriving DecidableEq, Repr

/-- The statuses of R41. `none`: no request has been answered yet. -/
inductive Status where
  | none | success | authFailure | noSession | roleTooLow | noObject | noSubindex | writeOfRo | readOfWo | reservedBit
  | typeError | valueRange | commitConflict | configInvalid | inUse | busy | noResource | notMappable | mapTooLong
  | storeFailure | transferTimeout | protocolError
  deriving DecidableEq, Repr

/-- What the unit answered to the last request: a status and the data returned. -/
structure Reply where
  status : Status := .none
  data : List Nat := []
  deriving DecidableEq, Repr

/-- The timebase and what drives it (R15, R21–R24). -/
structure TimeBase where
  /-- the 64-bit count of 10 ns ticks -/
  count : Nat := 0
  pllLocked : Bool := false
  /-- low-frequency mode (R24) -/
  lfMode : Bool := false
  /-- the 7-bit fractional accumulator of R24 -/
  lfAcc : Nat := 0
  /-- the 32.768 kHz oscillation is established (R487) -/
  lfEstablished : Bool := false
  /-- the PLL runs again and single ticks wait for the next LF period boundary (R24) -/
  lfLeaving : Bool := false
  deriving DecidableEq, Repr

/-- One timer TMRt (R292–R297). The count at tick n is `base` plus the ticks since `since` while it runs. -/
structure Timer where
  base : Nat := 0
  since : Tick := 0
  running : Bool := false
  /-- held in debug halt (R300) -/
  frozen : Bool := false
  /-- bit k: compare k has fired, or waits for the next lap (R294, R295) -/
  fired : Nat := 0
  /-- bit k: PASSED k (R295) -/
  passed : Nat := 0
  /-- the tick the operations in `ops` arrived at, and the run state and count before them (R296) -/
  opTick : Option Tick := none
  /-- operations of that tick: bit 0 start, 1 stop, 2 reset, 3 reset and start -/
  ops : Nat := 0
  opRunning : Bool := false
  opCount : Nat := 0
  /-- the lap began with an overflow (R294) -/
  wrapped : Bool := false
  /-- `fired` and `wrapped` of the lap that a reset of tick `opTick` ended: its compares may still fire at that tick -/
  endedFired : Nat := 0
  endedWrapped : Bool := false
  deriving DecidableEq, Repr

/-- An armed global start (R299): the mask and operation in force at arming and the tick n0. -/
structure GsArmed where
  mask : Nat
  op : Nat
  n0 : Tick
  deriving DecidableEq, Repr

/-- An occurrence of an event (R303). -/
structure Occ where
  ts : Tick
  ev : Nat
  value : Nat
  deriving DecidableEq, Repr

/-- The event fabric (R303–R307). -/
structure Fabric where
  /-- posted and on the way to the fabric, oldest first -/
  inFlight : List Occ := []
  /-- at the fabric, waiting for ordered release, in timestamp and event order -/
  pend : List Occ := []
  /-- events waiting to be published as rule triggers (R304) -/
  triggers : List Nat := []
  /-- OCCURRENCES per event -/
  occurrences : Table Nat := []
  /-- SUPPRESSED per event -/
  suppressed : Table Nat := []
  /-- timestamp + 1 of the last notice sent per event; 0 none (R305) -/
  lastNotice : Table Nat := []
  /-- the event log ring, entry s at s mod 1,024 -/
  log : Table Occ := []
  /-- log entries that await the runtime cores -/
  awaiting : Nat := 0
  /-- the Half-mast queue of 256 (R306), oldest first, and what is logged on exit (R472) -/
  held : List Occ := []
  toLog : List Occ := []
  /-- CAN notices queued per channel, oldest first, 64 each -/
  canNotices : Table (List Occ) := []
  deriving DecidableEq, Repr

/-- One entry of the fault log (R472). -/
structure FaultEntry where
  seq : Nat
  id : Nat
  severity : Severity
  level : Nat
  tbase : Tick
  htime : Nat
  event : Nat
  place : Nat
  offset : Nat
  value : Nat
  start : Nat
  deriving DecidableEq, Repr

/-- One value in a pending set (R42): the object or DOMAIN entry, the value, and the serial number of the last commit
that had been accepted when this session first wrote it (R44). -/
structure PendingValue where
  key : Nat
  value : Nat
  first : Nat
  /-- a commit conflict has named its object: the next write of the object counts as the first (R44, assumption 93) -/
  told : Bool := false
  deriving DecidableEq, Repr

/-- A halyard request that waits for the runtime cores (R62). -/
structure Request where
  transaction : Nat
  payload : List Nat
  /-- the CAN channel of an SDO transfer whose request this is (R62) -/
  sdo : Option Nat := none
  /-- copies of the request received; the response is sent once for each (R51) -/
  copies : Nat := 1
  deriving DecidableEq, Repr

/-- A response kept for repeats (R51). -/
structure Response where
  transaction : Nat
  entries : List Reply
  deriving DecidableEq, Repr

/-- A cipher job that runs (R388, R389): the slot, operation, mode, countermeasure level and parameters it started
with. -/
structure CipherJob where
  slot : Nat
  op : Nat
  mode : Nat
  level : Nat
  since : Tick
  iv : Nat
  aadLen : Nat
  tagLen : Nat
  tag : Nat
  deriving DecidableEq, Repr

/-- A lifecycle token (R379): the target state, the token and when it was issued. -/
structure LcToken where
  target : Nat
  token : Nat
  issued : Tick
  deriving DecidableEq, Repr

/-- An open session (R383–R387). -/
structure Session where
  handle : Nat
  role : Role
  hostId : Nat
  /-- the session key K_s, as an uninterpreted number -/
  key : Nat
  opened : Tick
  /-- the last accepted frame -/
  last : Tick
  /-- FRESHNESS last accepted and last sent, per path code (R50) -/
  rx : Table Nat := []
  tx : Table Nat := []
  /-- the per-session objects: queries, cipher, key and public-key contexts, DOM_OFFSETs, COMMIT_STATUS -/
  regs : Regs := []
  /-- serial number of its last commit, which COMMIT_STATUS follows; 0 none in progress (R43) -/
  lastCommit : Nat := 0
  pendingSet : List PendingValue := []
  responses : List Response := []
  queue : List Request := []
  /-- CJ_BUFFER (0x3201) -/
  buffer : List Nat := []
  job : Option CipherJob := none
  lcToken : Option LcToken := none
  /-- when EV1093 was last posted for the session (R387) -/
  macFail : Option Tick := none
  deriving DecidableEq, Repr

/-- A DOMAIN write hold (R56). -/
structure Hold where
  holder : Nat
  lastWrite : Tick
  deriving DecidableEq, Repr

/-- The last accepted commit of an object: its serial number and the session (R44). -/
structure CommitMark where
  serial : Nat
  by_ : Nat
  deriving DecidableEq, Repr

/-- A commit that has been accepted and is not yet durable (R43, R45). -/
structure CommitJob where
  serial : Nat := 0
  session : Nat
  role : Role
  hostId : Nat
  set : List PendingValue
  accepted : Tick
  /-- generation it makes durable, once it has taken effect -/
  generation : Option Nat := none
  /-- the whole configuration it makes durable, once it has taken effect -/
  regs : Regs := []
  deriving DecidableEq, Repr

/-- One process-image map (R58–R61). PI_SESSION and the counters are objects. -/
structure PiMap where
  /-- role and HOST_ID recorded at commit -/
  role : Nat := 0
  hostId : Nat := 0
  recorded : Bool := false
  rxFresh : Nat := 0
  txFresh : Nat := 0
  /-- last valid frame received, or the last frame sent -/
  last : Tick := 0
  /-- values of a valid RX frame that wait for the next sweep boundary: packed data as a number -/
  waiting : Option Nat := none
  /-- TX: packed data last sampled -/
  txLast : Nat := 0
  deriving DecidableEq, Repr

/-- SDO services with a transfer that runs over several frames (R53). -/
inductive SdoService where
  | segDownload | segUpload | blkDownload | blkUpload
  deriving DecidableEq, Repr

/-- A running SDO transfer of one channel (R53–R55). -/
structure SdoTransfer where
  service : SdoService
  key : Nat
  /-- bytes received, or bytes still to be sent -/
  data : List Nat := []
  size : Option Nat := none
  toggle : Bool := false
  /-- block transfers: segments per block and the sequence number last taken, and whether a CRC is used -/
  blockSize : Nat := 0
  seqno : Nat := 0
  crc : Bool := false
  lastFrame : Tick := 0
  deriving DecidableEq, Repr

/-- One SDO server: the running transfer, and the last answer: 0 for a confirmation or data, else the abort code. -/
structure SdoServer where
  transfer : Option SdoTransfer := none
  /-- a transfer whose request waits for the runtime cores (R62) -/
  waiting : Option SdoTransfer := none
  /-- the abort code of a transfer that a new initiate request replaced; 0 none (R55) -/
  replaced : Nat := 0
  abort : Nat := 0
  answer : List Nat := []
  deriving DecidableEq, Repr

/-- What the unit holds of one partner beside its registry entry (R68–R72, R126–R128). -/
structure Partner where
  idTag : Nat := 0
  /-- IDENTITY_TAG last seen with ADDR_STATE pending (R70) -/
  pendingTag : Option Nat := none
  addrState : Nat := 0
  capDigest : Nat := 0
  /-- FRESHNESS last accepted from the address (R69) -/
  fresh : Nat := 0
  /-- capability request outstanding: tries so far and when the last was sent (R72) -/
  capTries : Nat := 0
  capAsked : Option Tick := none
  capUnknown : Bool := false
  maxShare : Nat := 0
  /-- SERIAL of its last capability response -/
  serial : Nat := 0
  capIds : List Nat := []
  stepping : Nat := 0
  grade : Nat := 0
  ensignVersion : Nat := 0
  hoistVersion : Nat := 0
  nodeVersion : Nat := 0
  /-- the BUDGET bytes of the last valid presence frame (R127), as a number -/
  budget : Nat := 0
  /-- valid presence heard since the entry was last detached -/
  heard : Bool := false
  deriving DecidableEq, Repr

/-- A presence frame as sent (R68). -/
structure PresenceFrame where
  address : Nat
  addrState : Nat
  fresh : Nat
  idTag : Nat
  capDigest : Nat
  budget : Nat
  mac : Nat
  deriving DecidableEq, Repr

/-- What a halyard frame is for: an answer to the host, presence, a capability exchange, a process-image map, a notice, or
time synchronisation (R48, R68, R72, R73). -/
inductive HalUse where
  | answer | presence | capability | map (m : Fin 64) | notice | time
  deriving DecidableEq, Repr

/-- Where a halyard frame goes (R65, R73): to the source address of the request it answers, or to a MAC address, its first
octet lowest. The commands carry no Ethernet addresses. -/
inductive HalDest where
  | requester
  | mac (address : Nat)
  deriving DecidableEq, Repr

/-- A frame the unit puts on the halyard (R48, R65, R68, R73): addresses, EtherType and the payload's bytes. -/
structure HalFrame where
  use : HalUse
  dest : HalDest
  source : Nat
  etherType : Nat
  body : List Nat
  deriving DecidableEq, Repr

/-- A frame sent, for the ceiling of R76: when, its bit times, and whether it takes of the share that time synchronisation,
capability exchange and notices have. -/
structure HalLoad where
  at_ : Tick
  bits : Nat
  shared : Bool
  deriving DecidableEq, Repr

/-- The halyard: chaining, addressing and time (R63–R76). -/
structure Halyard where
  /-- the address has been taken or refused for this Hoist start (R67) -/
  addrTaken : Bool := false
  /-- pulses of the last burst seen on ADDR_IN; 0 none -/
  lastBurst : Nat := 0
  /-- bursts sent on ADDR_OUT and the pulses of the last (R66) -/
  burstsSent : Nat := 0
  lastPulses : Nat := 0
  partners : Table Partner := []
  /-- the unit's chain counter and the value last stored in MRAM (R69) -/
  chainCounter : Nat := 65536
  chainStored : Nat := 0
  /-- the next presence frame carries pending (R71) -/
  reannounce : Bool := false
  /-- the last presence frame formed -/
  sent : Option PresenceFrame := none
  /-- frames that wait for PLCA or for the ceiling, oldest first (R63, R76), the last one sent, and those of the last 100 ms -/
  txQueue : List HalFrame := []
  txSent : Option HalFrame := none
  txLoad : List HalLoad := []
  /-- capability responses answered (R72) -/
  capSent : Nat := 0
  /-- capability requests sent, the last one's address -/
  capRequested : List Nat := []
  /-- event notices waiting (R76), oldest first, 512 -/
  notices : List Occ := []
  dropsSince : Nat := 0
  /-- frames dropped for a MAC or freshness failure (R41) -/
  authDrops : Nat := 0
  lastEv1467 : Option Tick := none
  /-- the last notice frame sent: its notice and the session it was sent under, 0 none (R386) -/
  noticeSent : Option (Occ × Nat) := none
  /-- halyard time: time `refNs` held at tick `refTick` (R73) -/
  refTick : Tick := 0
  refNs : Nat := 0
  lastSync : Option Tick := none
  syncInterval : Nat := 0
  goodSyncs : Nat := 0
  /-- tick the last Pdelay_Req was sent -/
  pdelaySent : Option Tick := none
  announced : Bool := false
  deriving DecidableEq, Repr

/-- A claim: a value and its holder, 0–2047 a rule, 0xFFFD the safe-state engine, 0xFFFE the host (R79, 0x8805:04);
what moves it (0 nothing, 1 + g the fade of group g, 512 + e engine e, R284); and for the host the session, or
0x10000 + m for map m (R417). -/
structure Claim where
  value : Nat
  holder : Nat
  tag : Nat := 0
  session : Nat := 0
  deriving DecidableEq, Repr

/-- The claim slots of one owned output but SAFE, which `SafePlacement` holds for every output at once (R79, R88). -/
structure Slots where
  s : Option Claim := none
  h : Option Claim := none
  a : Option Claim := none
  c : Option Claim := none
  deriving DecidableEq, Repr

/-- The precedence classes of R81, highest first, with the codes of its table. -/
inductive Cls where
  | s | safe | h | a | c
  deriving DecidableEq, Repr

/-- One used entry of the safe-state table as it stood when it was read (R89). -/
structure SafeEntry where
  k : Nat
  first : Nat
  last : Nat
  mode : Nat
  value : Nat
  deriving DecidableEq, Repr

/-- The SAFE claims that stand (R88): placed on every owned output but virtual flags. The value of each follows from the
entries at placement, the highest k deciding, and for hold from the value commanded before step 1. -/
structure SafePlacement where
  entries : List SafeEntry
  held : Table Nat
  deriving DecidableEq, Repr

/-- A host change waiting for the end of the next segment (R84). -/
inductive HostOp where
  | claim (sig : Nat) (value : Nat) (session : Nat)
  | release (sig : Nat) (session : Nat)
  | releaseAll (session : Nat)
  | emptyRules (sig : Nat) (session : Nat)
  | groupFade (group level time : Nat) (session : Nat)
  | groupPattern (group engine block : Nat) (session : Nat)
  | groupRelease (group : Nat) (session : Nat)
  | safeRelease
  deriving DecidableEq, Repr

/-- What waits for the next sweep boundary at the supervisor (R88): step 1 alone, or both steps, with HB_STATE before and
after the change that asked for them. -/
inductive SafeStep where
  | hostOnly
  | both (old new : Nat)
  deriving DecidableEq, Repr

/-- Claims and commanded values (R79–R85). -/
structure Ownership where
  slots : Table Slots := []
  safe : Option SafePlacement := none
  /-- commanded value of every owned output; an output not listed is commanded to its rest value 0 (R80) -/
  commanded : Table Nat := []
  /-- class of the owner last resolved, by R81's code; 7 none -/
  ownerClass : Table Nat := []
  /-- what moved the owner's claim when it last set the commanded value (R416 reason 3); 0 nothing -/
  ownerTag : Table Nat := []
  hostOps : List HostOp := []
  /-- the last completed sweep's view for the owner query (R85) -/
  snapSlots : Table Slots := []
  snapSafe : Option SafePlacement := none
  snapCommanded : Table Nat := []
  deriving DecidableEq, Repr

/-- The heartbeat supervisor beside HB_STATE (R86–R91). -/
structure Heartbeat where
  /-- the last value accepted since the Fly start -/
  accepted : Option Nat := none
  lastValid : Tick := 0
  /-- the timeout may not expire before this tick (R91) -/
  notBefore : Tick := 0
  waiting : Option SafeStep := none
  /-- the supervisor enters waiting once the first sweep after Half-mast or a debug halt has begun (R107) -/
  enters : Bool := false
  deriving DecidableEq, Repr

/-- One hoist safe state latch range (R93): entry k, signals, HS_MODE, HS_VALUE, HS_DIN. -/
structure HoistLatch where
  k : Nat
  first : Nat
  last : Nat
  mode : Nat
  value : Nat
  din : Nat
  deriving DecidableEq, Repr

/-- The Hoist die's own supervision (R92–R94). -/
structure HoistDie where
  latches : List HoistLatch := []
  /-- the hoist safe state is applied -/
  safe : Bool := false
  armed : Bool := false
  parked : Bool := false
  lastFeed : Tick := 0
  feeds : Nat := 0
  /-- the Fly die is held in reset -/
  flyReset : Bool := true
  /-- a watchdog trip waits to be reported (R94) -/
  tripToReport : Bool := false
  /-- power-up state: the outputs are as R365 has them, before any configuration is applied -/
  powerUp : Bool := true
  deriving DecidableEq, Repr

/-- The reflex engine beside its status objects (R95–R107). -/
structure Engine where
  /-- the next segment to run, 0–15 -/
  segment : Nat := 0
  /-- rules whose TRIGGER_EVENT was published since their previous evaluation -/
  triggered : List Nat := []
  /-- term values at a rule's previous evaluation, for CHANGED -/
  previous : Table (List (Option Int)) := []
  /-- slots set in this sweep: signal × 8 + class code to the rule that set it (R102) -/
  setBy : Table Nat := []
  /-- both lanes agreed in every segment of the sweep so far (R92) -/
  lanesAgreed : Bool := true
  lastEv1300 : Option Tick := none
  sweepStart : Tick := 0
  deriving DecidableEq, Repr

/-- A profile in the units of R110: 10 mA, ticks, 10 mW. -/
structure Profile where
  step : Bool := false
  peak : Nat := 0
  tau : Nat := 0
  settled : Nat := 0
  rise : Nat := 1000
  pPeak : Nat := 0
  pSettled : Nat := 0
  deriving DecidableEq, Repr

/-- An admitted entry (R111–R115). -/
structure AdmEntry where
  prof : Profile := {}
  admitted : Tick := 0
  /-- a fade or pattern envelope holds it, and the value it was admitted for (R112) -/
  envelope : Bool := false
  level : Nat := 0
  deriving DecidableEq, Repr

/-- A slope counted in ΣS until its expiry (R114). -/
structure Slope where
  key : Nat
  amount : Nat
  expiry : Tick
  deriving DecidableEq, Repr

/-- A request presented for admission (R110, R118): the signal (a port with node, pixel and channel 0 for MX and BP), the
class code of the owner, the age, the value, the channels it raises on a port, and whether EV1216 has been raised. -/
structure AdmRequest where
  sig : Nat
  cls : Nat
  age : Tick
  value : Nat
  prof : Profile
  /-- a fade or pattern envelope (R112) -/
  envelope : Bool := false
  /-- RETRIGGER of a solenoid (R190) -/
  retrigger : Bool := false
  warned : Bool := false
  /-- raises on a bunting or matrix port: signal and value -/
  raises : List (Nat × Nat) := []
  /-- derating factors that rise with it: board group of a port, or the signal, and the factor (R267, R280) -/
  factors : List (Nat × Nat) := []
  deriving DecidableEq, Repr

/-- A shed output (R123, R124). -/
structure Shed where
  sig : Nat
  since : Tick
  deriving DecidableEq, Repr

/-- The admission arbiter beside its status objects (R110–R130). -/
structure Arbiter where
  entries : Table AdmEntry := []
  slopes : List Slope := []
  queue : List AdmRequest := []
  refused : List AdmRequest := []
  /-- raises on bunting and matrix ports since the previous frame: signal to value × 8 + class code -/
  portRaises : Table Nat := []
  /-- envelope value admitted for a matrix pixel or master under a fade or pattern (R112) -/
  portEnv : Table Nat := []
  /-- a class S admission carried a sum past its limit and EV1219 has not followed (R122) -/
  sOver : Bool := false
  /-- channels that raised EV1230 since the start (R111) -/
  defaulted : List Nat := []
  sagC : Bool := false
  sagA : Bool := false
  /-- VBAT at the last sag decision, mV -/
  sagVbat : Nat := 0
  shed : List Shed := []
  /-- outputs resubmitted after a sag whose request has not been admitted, and how many have been (R124, R133) -/
  restoring : List Nat := []
  restored : Nat := 0
  /-- ages that the next request of a channel or port class takes over, by the key of its entry (R119, R124) -/
  ages : Table Tick := []
  /-- lender: amount withheld from SHARE, the LEND_I sent, the borrower, frozen, a reduction waiting to be regained, and the 10 ms
  boundary of halyard time at which it was sent (R128) -/
  lent : Nat := 0
  lendSent : Nat := 0
  lendTo : Nat := 0
  frozen : Bool := false
  regain : Option Nat := none
  regainAt : Nat := 0
  /-- borrower: loan per lender address, and lenders ignored (R129 rule 3) -/
  borrowed : Table Nat := []
  ignored : List Nat := []
  oversub : Bool := false
  deriving DecidableEq, Repr

/-- A gate-driver channel beside its status objects (R139–R158). -/
structure GdChannel where
  /-- the value last delivered to the channel (R105); a PWM channel takes it at a period start (R139) -/
  value : Nat := 0
  /-- a protection holds the channel off until it is resubmitted (R154) -/
  off : Bool := false
  /-- period k of the soft start in progress, 0 none (R146), and when the last soft start ended (R142) -/
  softK : Nat := 0
  softEnd : Option Tick := none
  retryAt : Option Tick := none
  /-- last resubmission after VCP low or drain rail absent (R153) -/
  resubmitAt : Option Tick := none
  /-- value that offset 7 will carry (R158); 0 none -/
  recover : Nat := 0
  /-- its first turn-on after the last fault completed (R153) -/
  goodSince : Option Tick := none
  /-- open load found in the on state (R149) and by the off-state check (R150) -/
  openOn : Bool := false
  openOff : Bool := false
  /-- off-state readings in a row, newest first (R150), when the last check ran, and a check asked for (R159) -/
  readings : List Nat := []
  lastDiag : Tick := 0
  diagNow : Bool := false
  /-- R151: the filtered P × TH_RTH in µK, and the last update -/
  heat : Nat := 0
  lastThermal : Tick := 0
  deriving DecidableEq, Repr

/-- A bridge function beside its status objects (R160–R172). -/
structure Bridge where
  /-- the command code last acted on, and one that has arrived and waits for BRIDGE_COMMAND (R163) -/
  code : Nat := 0
  arrived : Option Nat := none
  /-- motor start that follows a brake or an admission: direction 1 forward, 2 reverse; 0 none -/
  next : Nat := 0
  /-- direction being driven: 0 none, 1 forward, 2 reverse, 3 brake held, and the duty -/
  dir : Nat := 0
  duty : Nat := 0
  /-- when the present state (drive or brake) began -/
  since : Tick := 0
  /-- the reason slot 0 will carry once the stop sequence of a movement ends; 0 none -/
  reason : Nat := 0
  /-- window: ripple count to stop at (go to position) -/
  target : Option Nat := none
  /-- window: PINCH_CONFIRM counter, ripples counted in a reversal, the command ignored after a pinch (R168) -/
  overs : Nat := 0
  reversal : Bool := false
  reversed : Nat := 0
  /-- window: learned profile, I_ref per bin, and VBAT of each bin (R167); the bins of the running close -/
  bins : Table Nat := []
  vbats : Table Nat := []
  closing : Table Nat := []
  closingV : Table Nat := []
  /-- window: ΣBR_CURRENT, ΣVBAT and the number of the milliseconds that end 201 ms to 250 ms after the motor start (R167) -/
  early : Nat × Nat × Nat := (0, 0, 0)
  /-- when BR_CURRENT was last measured (R164) -/
  currentAt : Option Tick := none
  /-- nonvolatile window position written at the last braked stop (R166) -/
  stored : Option Int := none
  /-- lock: when the last pulses began (R169), and a code that waits for the rate limit -/
  pulses : List Tick := []
  waiting : Option Nat := none
  /-- wiper: the park input has gone to 0 in this cycle; the cycle ends at park; next wipe of an intermittent wipe; the
  reverse run of a blockage (R170) -/
  left : Bool := false
  nextWipe : Option Tick := none
  blockage : Bool := false
  deriving DecidableEq, Repr

/-- A fan beside its status objects (R173–R177). -/
structure Fan where
  /-- the lead value last delivered -/
  value : Nat := 0
  duty : Nat := 0
  /-- start of the spin-up window -/
  since : Tick := 0
  retryAt : Option Tick := none
  /-- speed error at the last update -/
  lastErr : Int := 0
  lastUpdate : Tick := 0
  lastLearn : Tick := 0
  /-- last tach speed shown -/
  lastTach : Nat := 0
  /-- since when tach and ripple speed agree while TACH_OPEN stands -/
  agreeSince : Option Tick := none
  deriving DecidableEq, Repr

/-- A solenoid channel beside its status objects (R186–R202). -/
structure SvChannel where
  /-- a value delivered that SV_COMMAND has not acted on -/
  arrived : Option Nat := none
  /-- the value acted on last, the regulated hold setpoint, and one that waits for a range change (R192) -/
  value : Nat := 0
  setpoint : Nat := 0
  after : Option Nat := none
  /-- RETRIGGER has been admitted: the value in force restarts the profile (R190) -/
  again : Bool := false
  /-- a protection holds the channel off until it is resubmitted -/
  off : Bool := false
  /-- boost and peak hold run from VBOOST (R186) -/
  fromBoost : Bool := false
  /-- an open load found in the on state (R199) and in the off state (R200) -/
  openOn : Bool := false
  openOff : Bool := false
  /-- when boost and when the present phase began -/
  boostAt : Tick := 0
  phaseAt : Tick := 0
  /-- the last boost ended at BOOST_MAX below OPEN_I (R199) -/
  noRise : Bool := false
  /-- a class K window opened at this tick; a class D evaluation runs, and boost reached the peak before a dip -/
  windowK : Option Tick := none
  windowD : Bool := false
  peakFirst : Bool := false
  misses : Nat := 0
  retryAt : Option Tick := none
  recover : Nat := 0
  goodSince : Option Tick := none
  readings : List Nat := []
  lastDiag : Tick := 0
  diagNow : Bool := false
  /-- when the present setpoint was taken (R238) -/
  steadySince : Tick := 0
  /-- the last 16 high-side offset samples (R238) -/
  hsSamples : List Int := []
  deriving DecidableEq, Repr

/-- A digital input beside its status objects (R209, R210): the filtered comparator level and its changes in the last
second, newest first. -/
structure Din where
  level : Bool := false
  changes : List Tick := []
  /-- when a commit last changed DIN_FILTER: a count that was running began again there (R209) -/
  filterAt : Option Tick := none
  /-- the two causes of DIN_FAULT, chatter and overvoltage, each standing on its own (R210) -/
  chatter : Bool := false
  surge : Bool := false
  deriving DecidableEq, Repr

/-- A digital output beside its status objects (R211–R214). -/
structure Dout where
  value : Nat := 0
  off : Bool := false
  /-- a cause-2 trip whose stage has not fallen below 150 °C -/
  hot : Bool := false
  retries : Nat := 0
  retryAt : Option Tick := none
  recover : Nat := 0
  goodSince : Option Tick := none
  onSince : Tick := 0
  /-- the last turn-off, through the clamp (R212) -/
  clampAt : Option Tick := none
  /-- open load found in the on state and by the off-state check (R149, R150, R214) -/
  openOn : Bool := false
  openOff : Bool := false
  readings : List Nat := []
  lastDiag : Tick := 0
  diagNow : Bool := false
  deriving DecidableEq, Repr

/-- An analog input beside its status objects (R219–R224). -/
structure Ain where
  /-- the last delivered results, newest first (R219) -/
  results : List Int := []
  /-- offsets 0 and 1 are armed; no result has been delivered since a start, range change or break (R220) -/
  armHi : Bool := false
  armLo : Bool := false
  fresh : Bool := true
  /-- consecutive plausible slots since a break (R222) -/
  good : Nat := 0
  /-- value offset 3 will carry at recovery; 0 none -/
  again : Nat := 0
  /-- end of the range change in progress -/
  changeEnd : Option Tick := none
  /-- when the network in force was connected: only slots that start from there on convert in it (R223) -/
  connected : Tick := 0
  /-- auto pull-up in force: 0 1 kΩ, 1 10 kΩ, and slots to skip (R224) -/
  pull : Nat := 1
  skip : Nat := 0
  deriving DecidableEq, Repr

/-- A frequency input beside its status objects (R225, R226): the last edges, newest first. -/
structure Tach where
  edges : List Tick := []
  armHi : Bool := false
  armLo : Bool := false
  fresh : Bool := true
  deriving DecidableEq, Repr

/-- A load passport beside its objects (R230–R236). Quantities: 0 R_COLD, 1 R_HOT, 2 L, 3 I_PK, 4 TAU, 5 I_SET. -/
structure Passport where
  /-- the learned values, by quantity -/
  learned : Table Nat := []
  /-- consecutive results off the reference, by drift quantity 1–3; a reference is taken, with its envelope's temperatures -/
  driftRuns : Table Nat := []
  referenced : Bool := false
  refTMin : Int := 0
  refTMax : Int := 0
  deriving DecidableEq, Repr

/-- Calibration of a sense path beside its objects (R237–R241): when it was last taken and whether it was. -/
structure Calib where
  taken : Option Tick := none
  lsTaken : Option Tick := none
  deriving DecidableEq, Repr

/-- A cable measurement in progress (R246), and when it was asked for. -/
structure CableRun where
  since : Tick
  deriving DecidableEq, Repr

/-- What the port knows of one node (R271 NODE_STATUS). -/
structure NodeStatus where
  kind : Nat := 0
  state : Nat := 0
  version : Nat := 0
  iFs : Nat := 0
  open_ : Nat := 0
  short : Nat := 0
  temp : Nat := 0x8000
  symErrors : Nat := 0
  missed : Nat := 0
  flags : Nat := 0
  deriving DecidableEq, Repr

/-- A bunting port beside its status objects (R251–R269). -/
structure BuntingPort where
  nodes : Table NodeStatus := []
  thermPhase : Nat := 0
  diagFirst : Nat := 0
  seq : Nat := 0
  /-- consecutive frames whose turn mark came early or not at all (R268) -/
  turnRun : Nat := 0
  lastFrame : Tick := 0
  /-- a setup command waits; clear masks that wait, by position; data frames since the last command frame (R265) -/
  setup : Bool := false
  clears : Table Nat := []
  sinceCommand : Nat := 16
  retryAt : Option Tick := none
  /-- derating factor and target of each board group (R267) -/
  factors : Table Nat := []
  targets : Table Nat := []
  misses : Table Nat := []
  /-- values in the last frame, by signal, as derated, and the positions whose nodes have timed out (R269) -/
  sent : Table Nat := []
  dark : List Nat := []
  /-- values that the nodes have latched, by signal (R261), and the positions whose error flag is set (R256, R265) -/
  latched : Table Nat := []
  errs : List Nat := []
  /-- positions that the last frame did not reach, with the last frame each has had (R256, R269) -/
  unheard : Table Tick := []
  deriving DecidableEq, Repr

/-- A matrix port beside its status objects (R274–R280). -/
structure MxPort where
  off : Bool := false
  hot : Bool := false
  retries : Nat := 0
  retryAt : Option Tick := none
  recover : Nat := 0
  goodSince : Option Tick := none
  /-- complete scan frames since it was turned on again, and the line scanned last in a frame scanned from its line 0, else 8 -/
  frames : Nat := 0
  line : Nat := 8
  /-- effective values E′ by pixel (R273) -/
  eff : Table Nat := []
  /-- outputs that were on when the port went off and wait for admission to come on again (R277, R278) -/
  dark : List Nat := []
  deriving DecidableEq, Repr

/-- A fade of a group in a class (R285, R286). -/
structure Fade where
  group : Nat
  cls : Cls
  holder : Nat
  level : Nat
  time : Nat
  l0 : Nat
  start : Tick
  ended : Bool := false
  deriving DecidableEq, Repr

/-- A pattern engine beside its status objects (R287, R288): its holder, class, the block as started, its start and origin. -/
structure PatternRun where
  holder : Nat
  cls : Cls
  group : Nat
  block : Nat
  start : Tick
  origin : Tick
  deriving DecidableEq, Repr

/-- The neighbour-pin test (R281, R282): balls still to test, balls tested and a short found in the running test, the
matrix ports it covers, when each ball was last tested online (tick + 1), and matrix ports with a short. -/
structure Neighbour where
  todo : List Nat := []
  tested : Nat := 0
  found : Bool := false
  ports : List Nat := []
  lastOnline : Table Nat := []
  /-- a short involving each matrix port stands -/
  mxShort : Table Nat := []
  deriving DecidableEq, Repr

/-- Lighting groups, fades and patterns (R283–R289). -/
structure Lighting where
  fades : List Fade := []
  /-- level reached per group × 8 + class code (R285) -/
  levels : Table Nat := []
  engines : Table PatternRun := []
  deriving DecidableEq, Repr

/-- What a pending frame of a CAN channel is sent for (R323). -/
inductive CanSource where
  | object (o : Nat)
  | map (m : Fin 64)
  | sdo
  | ring
  | claim
  | notice
  deriving DecidableEq, Repr

/-- A pending frame (R320, R323). `data` is `none` while an object's data still comes from MO_DATA. -/
structure CanPending where
  src : CanSource
  ext : Bool
  id : Nat
  dlc : Nat
  fdf : Bool := false
  brs : Bool := false
  data : Option Nat
  since : Tick
  deriving DecidableEq, Repr

/-- An entry of the stray queue (R322). -/
structure Stray where
  ext : Bool
  id : Nat
  dlc : Nat
  fdf : Bool
  brs : Bool
  esi : Bool
  ts : Tick
  data : Nat
  deriving DecidableEq, Repr

/-- A CAN channel beside its status objects (R313–R331). -/
structure CanChannel where
  pend : List CanPending := []
  joinedAt : Option Tick := none
  /-- stopped at an FD frame until 11 recessive bits (R311) -/
  exception : Bool := false
  /-- cause of a standing transceiver fault, 0 none (R313) -/
  fault : Nat := 0
  /-- bus-off since; recovery (the 128 occurrences) has been started (R327) -/
  busOffAt : Option Tick := none
  recovering : Bool := false
  aloneSince : Option Tick := none
  lastTry : Tick := 0
  /-- the single-shot attempt in progress in the alone state (R328) -/
  attempt : Option CanSource := none
  strays : List Stray := []
  strayDrops : Nat := 0
  /-- when offset 8 was last posted (R331) -/
  lastLost : Option Tick := none
  /-- the address being claimed, when the claim was sent, NAMEs heard per address, and a contending claim that waits for
  the runtime cores: address and NAME (R329) -/
  claimAddr : Nat := 255
  claimSent : Option Tick := none
  names : Table Nat := []
  contending : Option (Nat × Nat) := none
  /-- the last frame sent -/
  sent : Option CanPending := none
  deriving DecidableEq, Repr

/-- One message object (R318–R321): the members of MO_DATA, and the tick of the last update. -/
structure MoData where
  ts : Tick := 0
  count : Nat := 0
  state : Nat := 0
  dlc : Nat := 0
  lost : Nat := 0
  /-- the 64 data bytes, byte 0 lowest -/
  data : Nat := 0
  /-- the last update since the channel joined, and the timebase millisecond + 1 of the last period -/
  updated : Option Tick := none
  lastMs : Nat := 0
  deriving DecidableEq, Repr

/-- What the unit knows of one NM ID (R336–R340): LAP, CONSENT and REASON of its latest ring message, when that came,
and since when it has withheld consent. -/
structure NmNode where
  last : Tick := 0
  lap : Nat := 0
  consent : Bool := false
  reason : Nat := 0
  withheldSince : Option Tick := none
  keeperSince : Option Tick := none
  deriving DecidableEq, Repr

/-- The ring (R334–R344). -/
structure Ring where
  nodes : Table NmNode := []
  lap : Nat := 0
  /-- a ring message addressed to this unit came at this tick, or the unit starts a lap alone -/
  turnAt : Option Tick := none
  /-- last ring message received or sent -/
  lastMsg : Tick := 0
  formed : Bool := false
  lastWake : Tick := 0
  prepareAt : Tick := 0
  lastLimp : Tick := 0
  /-- a stay held by the host (NM_CMD 0x01) -/
  stay : Bool := false
  /-- the local wake reason, until a message that carries it has been acknowledged (R343): source and detail -/
  wakeReason : Option (Nat × Nat) := none
  /-- a host resume received before the unit's alive message won arbitration (R344) -/
  hostResume : Bool := false
  /-- the unit's ring messages: how many have been sent since the bus was joined -/
  sent : Nat := 0
  /-- the stay flag's value at its last look (R341) -/
  flag : Bool := false
  deriving DecidableEq, Repr

/-- Power states and votes beside their objects (R347–R358). -/
structure Power where
  /-- votes of holders 0–14 per domain; holder 15 follows STANDING_MASK -/
  votes : Table Nat := []
  /-- profiles placed by REQUEST_PROFILE actions -/
  profiles : List Nat := []
  /-- the required state has stayed below PWR_STATE since -/
  lowSince : Option Tick := none
  /-- the state a transition in progress enters -/
  entering : Nat := 0
  /-- an entry waits for the LF oscillation (R487) -/
  lfWait : Bool := false
  /-- the wake or vote captured during an entry: cause, detail, tick (R354) -/
  captured : Option (Nat × Nat × Tick) := none
  /-- cause and detail of the exit in progress -/
  cause : Nat × Nat := (0, 0)
  holdUntil : Option Tick := none
  /-- when the timed vote of a holder ends, or begins (R349) -/
  timers : Table Tick := []
  /-- occurrences saved at the entry into Furled (R358), nonvolatile -/
  saved : List Occ := []
  /-- RTC_SECONDS as of a tick -/
  rtcBase : Nat := 0
  rtcAt : Tick := 0
  deriving DecidableEq, Repr

/-- Where start-up stands (R363–R366). -/
inductive BootStage where
  /-- the Hoist power-on reset is asserted: VBAT too low, or Strike has stopped the die -/
  | off
  /-- the Hoist die runs and holds the Fly die in reset -/
  | flyReset
  /-- the Fly die is out of reset and waits for PLL lock -/
  | pllWait
  /-- the timebase runs; the Ensign core checks the images -/
  | images
  /-- the images are verified; the configuration waits to be applied -/
  | config
  /-- an image was rejected: start-up has stopped (R373) -/
  | stopped
  /-- the configuration has been applied -/
  | applied
  deriving DecidableEq, Repr

/-- Start-up beside its objects (R363–R370). -/
structure Boot where
  stage : BootStage := .off
  /-- the apply instant waits for VBAT (R363) -/
  held : Bool := false
  appliedAt : Tick := 0
  /-- the first sweep has started -/
  sweeps : Bool := false
  /-- cause the next Fly start will record (R366), and the core supply in mV of the fault that led to it -/
  nextCause : Nat := 1
  coreMv : Nat := 0
  /-- VSTORE at or above 10.5 V -/
  vstoreReady : Bool := false
  /-- EV1291 has been posted and EV1292 has not followed (R367) -/
  vstoreTold : Bool := false
  /-- the power-on reset of this start (R371): the timebase of Strike's record, and its result to be reported: 0 none, 1
  complete, 2 incomplete -/
  strikeReport : Nat := 0
  strikeKib : Nat := 0
  /-- starts of the digital inputs so far: the model's own counter for their first levels -/
  dinStarts : Nat := 0
  deriving DecidableEq, Repr

/-- A session setup that waits for MSG3 (R383). -/
structure Setup where
  role : Nat
  hostId : Nat
  nH : Nat
  nD : Nat
  sent : Tick
  deriving DecidableEq, Repr

/-- The secure block (R373–R395). Slot descriptors, LIFECYCLE, TRNG_STATE and BOOT_RESULT are objects. -/
structure Secure where
  /-- key material per slot, as uninterpreted numbers; 0 none -/
  material : Table Nat := []
  /-- DRBG draws made so far: the model's own counter for free values -/
  draws : Nat := 0
  setups : Table Setup := []
  /-- SETUP_OUT: the last MSG2 or MSG4 per path, 56 bytes as a number -/
  setupOut : Table Nat := []
  /-- failure times per role and lock-out ends per role, in powered time (R385) -/
  roleFails : Table (List Nat) := []
  lockUntil : Table Nat := []
  /-- powered time before this Fly start, in ticks; powered time is this plus the timebase (R385, R405) -/
  poweredBase : Nat := 0
  /-- zeroing flag of R381 -/
  zeroing : Bool := false
  /-- ID_CERT has been written -/
  idCert : Bool := true
  /-- zeros that wait for running jobs: slot and session (R378) -/
  zeroWait : List (Nat × Nat) := []
  /-- debug: end of the unlock window, the level unlocked, and when the halt began (R393, R394) -/
  unlockUntil : Option Tick := none
  unlockLevel : Nat := 0
  haltedAt : Option Tick := none
  /-- a halt waits for the LF oscillation (R487) -/
  haltWait : Bool := false
  /-- EXTEST, CLAMP or HIGHZ is in force (R395) -/
  extest : Bool := false
  /-- EV1105 has been posted since the start (R395) -/
  testmodePosted : Bool := false
  deriving DecidableEq, Repr

/-- A burgee port (R400–R405): BKEY 0, LF 1, implement entry i at 2 + i. Times of failures are powered time (R405). -/
structure BurgeePort where
  present : Bool := false
  /-- the exchange of the present token is still to come, since -/
  presentAt : Option Tick := none
  /-- consecutive polls without a transponder, and the last poll -/
  emptyPolls : Nat := 0
  lastPoll : Tick := 0
  fails : List Nat := []
  /-- a failure recorded when the challenge was sent, before the response is judged (R404) -/
  pendingFail : Bool := false
  lockUntil : Option Nat := none
  deriving DecidableEq, Repr

/-- A release object (R406–R409). -/
structure Release where
  open_ : Bool := false
  /-- end of its window; none without a window -/
  windowEnd : Option Tick := none
  /-- port << 8 | entry -/
  openedBy : Nat := 0xFFFF
  /-- the counter of R408 and the value last stored -/
  counter : Nat := 0
  stored : Nat := 0
  deriving DecidableEq, Repr

/-- An implement entry (R410): the challenge, whether it waits for transmission, when it was transmitted, when the last
one was formed, and COUNT of the response object then. -/
structure Implement where
  challenge : Nat := 0
  waiting : Bool := false
  sentAt : Option Tick := none
  last : Tick := 0
  count : Nat := 0
  deriving DecidableEq, Repr

/-- Burgee access (R398–R411). -/
structure Burgee where
  ports : Table BurgeePort := []
  releases : Table Release := []
  implements_ : Table Implement := []
  /-- releases to restore after a restart: remaining window in ticks per release (R409) -/
  persisted : Table Nat := []
  /-- gated outputs whose gate latch is closed in the Hoist die (R409) -/
  latches : List Nat := []
  deriving DecidableEq, Repr

/-- A ledger record (R414), without the multi-byte packing. -/
structure LedgerRecord where
  kind : Nat
  htime : Nat
  tbase : Tick
  unit : Nat
  sync : Nat
  cls : Nat := 7
  signal : Nat := 0
  old : Nat := 0
  new : Nat := 0
  cmdr : Nat := 0
  cmdrId : Nat := 0
  cmdrAux : Nat := 0
  reason : Nat := 0
  rflags : Nat := 0
  /-- the 12 DETAIL bytes as a number -/
  detail : Nat := 0
  seq : Nat := 0
  deriving DecidableEq, Repr

/-- A sealed ledger page (R420, R423). -/
structure LedgerPage where
  number : Nat
  /-- PG_TYPE: 1 records, 2 checkpoint, 3 saved state -/
  kind : Nat
  flags : Nat
  epoch : Nat
  firstSeq : Nat
  prevHash : Nat
  records : List LedgerRecord := []
  /-- checkpoint: halyard time, timebase, the lost range and the signature -/
  cpHtime : Nat := 0
  cpTbase : Nat := 0
  gap : Option (Nat × Nat) := none
  sig : Nat := 0
  tag : Nat := 0
  /-- chain value H_n of R421 -/
  hash : Nat := 0
  /-- when it was written to the store; not yet if `none` -/
  written : Option Tick := none
  deriving DecidableEq, Repr

/-- An entry of the retained index (R426). -/
structure Segment where
  firstPage : Nat
  /-- 0 empty, 1 in use, 2 overwritten -/
  state : Nat
  firstSeq : Nat := 0
  lastSeq : Nat := 0
  firstHtime : Nat := 0
  lastHtime : Nat := 0
  chain : Nat := 0
  deriving DecidableEq, Repr

/-- The actuation ledger beside its status objects (R419–R432). -/
structure Ledger where
  /-- records of the open page, oldest first, and when the first was stored -/
  openPage : List LedgerRecord := []
  openFirst : Tick := 0
  /-- sealed pages in the buffer, not yet durable, oldest first -/
  pages : List LedgerPage := []
  /-- number of the next page and chain value of the last sealed one -/
  nextPage : Nat := 0
  chain : Nat := 0
  /-- pages lost for good that the next page, a gap checkpoint, must carry (R427) -/
  gap : Option (Nat × Nat) := none
  /-- durable pages on the store, by number -/
  store : Table LedgerPage := []
  index : Table Segment := []
  /-- the head copied to nonvolatile state (R427): page, chain value, next SEQ, epoch -/
  head : Nat × Nat × Nat × Nat := (0, 0, 0, 0)
  headAt : Tick := 0
  /-- records lost since the last stored one (R419), and when EV1170 was last posted with the count since -/
  lost : Nat := 0
  lastEv1170 : Option Tick := none
  lostSince : Nat := 0
  /-- failed tries of the running Write or Flush (R427) -/
  tries : Nat := 0
  faultAt : Tick := 0
  /-- pages a running Flush covers (R427) -/
  flushing : Option Nat := none
  usedWarned : Bool := false
  lastSmart : Tick := 0
  /-- all pages became durable and the buffer empty at this tick (R431) -/
  cleanSince : Tick := 0
  /-- the Strike area: the sealed pages it holds (R430) -/
  strike : List LedgerPage := []
  deriving DecidableEq, Repr

/-- A block record of a staging area (R438): its 4,100 bytes, which of them have been written since its last check, and
whether the block is valid. -/
structure BlockRecord where
  bytes : Nat := 0
  written : Nat := 0
  valid : Bool := false
  deriving DecidableEq, Repr

/-- A staging area beside its objects (R437). -/
structure StageArea where
  blocks : Table BlockRecord := []
  /-- the image has been activated since it was verified -/
  activated : Bool := false
  deriving DecidableEq, Repr

/-- Node distribution on a port (R448, R449): it runs, and the pass. -/
structure Distribution where
  running : Bool := false
  deriving DecidableEq, Repr

/-- Update (R436–R452). -/
structure Update where
  areas : Table StageArea := []
  /-- an accepted activation that waits for earlier commits: the set of kinds -/
  accepted : Option Nat := none
  /-- the activation record; 0 none -/
  record : Nat := 0
  /-- security version of the image running, by kind 1–4 -/
  running : Table Nat := []
  /-- IMG_SCHEMA and IMG_VERSION of each active image follow from their objects; the keep area holds a configuration -/
  keep : Option Regs := none
  /-- migrated values that await a commit while MIGRATE_STATE reads 3 (R447) -/
  migrated : Option Regs := none
  ports : Table Distribution := []
  deriving DecidableEq, Repr

/-- One direction of the die link (R15): the next sequence number, and words applied beyond it. -/
structure LinkDir where
  next : Nat := 0
  early : List Nat := []
  deriving DecidableEq, Repr

/-- A die-link lane (R16, R463). -/
structure LinkLane where
  failed : Bool := false
  /-- out of service until the next Fly start -/
  heldOut : Bool := false
  passes : Nat := 0
  lastTest : Tick := 0
  failures : List Tick := []
  deriving DecidableEq, Repr

/-- The die link (R15, R16). -/
structure DieLink where
  toHoist : LinkDir := {}
  toFly : LinkDir := {}
  lanes : Table LinkLane := []
  /-- the lane whose forwarded clock the Hoist die takes -/
  clockLane : Nat := 0
  /-- the last command applied by the Hoist die per output -/
  commands : Table Nat := []
  duplicates : Nat := 0
  deriving DecidableEq, Repr

/-- A configuration copy (R469). -/
structure ConfigCopy where
  generation : Nat := 0
  intact : Bool := true
  regs : Regs := []
  deriving DecidableEq, Repr

/-- Single faults, spares and online test (R455–R471). -/
structure FaultTolerance where
  copies : Table ConfigCopy := []
  /-- a lane, and the spare tile that loads as its replacement: quadrant × 8 + tile (R457) -/
  loading : List (Nat × Nat) := []
  /-- a lane, and the quadrant of the arbiter that stands in as it (R457, R458) -/
  standing : List (Nat × Nat) := []
  /-- functions without a tile to run on: quadrant × 8 + tile (R460) -/
  stopped : List Nat := []
  /-- the segment, with the sweep's number × 16, that disagreed on all three tiles once (R457) -/
  unresolved : Option Nat := none
  /-- the last choice of a configuration copy found one intact copy only (R469) -/
  soleCopy : Bool := false
  /-- output stages disabled until the next Hoist power-on reset (R465) -/
  stagesOff : List Nat := []
  /-- when each stage, arbiter and spare was last tested -/
  tested : Table Tick := []
  /-- TILE_RETEST for the next Fly start (R458) -/
  retest : Bool := false
  /-- objects of SPLIT_LIST -/
  split : List Nat := []
  /-- every difference within its limit since (R471) -/
  withinSince : Option Tick := none
  /-- corrections of the present minute and when EV1316 was last posted (R468) -/
  corrected : Nat := 0
  lastEv1316 : Option Tick := none
  /-- SRAM regions lost for good: 0 bunting frame memory, 1 message objects, 2 rules, 3 ledger buffer, 4 patterns and
  process images, 5 working memory (R461) -/
  regionsLost : List Nat := []
  deriving DecidableEq, Repr

/-- The whole machine. `cfg` and `obj` hold every object of the dictionary; the rest is what the manual says the unit
remembers beside its objects. `pending` is the queue of commands, first in, first out. -/
structure State where
  /-- Committed configuration (R9, R43), sparse over the defaults. -/
  cfg : Regs := []
  /-- Status and command objects of the unit, sparse over the Default column. -/
  obj : Regs := []
  /-- The answer to the last request. -/
  reply : Reply := {}
  tb : TimeBase := {}
  timers : Table Timer := []
  gsArmed : Option GsArmed := none
  fab : Fabric := {}
  /-- The fault log ring, entry s at s mod 8,192 (R472). -/
  flog : Table FaultEntry := []
  /-- In order of opening. -/
  sessions : List Session := []
  secure : Secure := {}
  /-- DOMAIN write holds by index (R56). -/
  holds : Table Hold := []
  /-- Last accepted commit per object (R44). -/
  marks : Table CommitMark := []
  /-- Accepted commits not yet durable, oldest first. -/
  commits : List CommitJob := []
  commitSerial : Nat := 0
  maps : Table PiMap := []
  /-- Requests without a session that wait for the runtime cores (R62). -/
  anon : List Request := []
  sdo : Table SdoServer := []
  hal : Halyard := {}
  own : Ownership := {}
  hb : Heartbeat := {}
  hoist : HoistDie := {}
  eng : Engine := {}
  arb : Arbiter := {}
  ledger : Ledger := {}
  /-- Count of Fly starts (R472). -/
  flyStarts : Nat := 0
  /-- The gate-driver channels by number. -/
  gd : Table GdChannel := []
  /-- The bridge functions by number. -/
  br : Table Bridge := []
  /-- The fans by number. -/
  fan : Table Fan := []
  /-- The solenoid channels by number. -/
  sv : Table SvChannel := []
  din : Table Din := []
  dout : Table Dout := []
  ain : Table Ain := []
  /-- When each VSENS supply last returned to regulation (R222). -/
  vsensAt : Table Tick := []
  tach : Table Tach := []
  /-- The load passports by number (R235). -/
  pp : Table Passport := []
  /-- Sense calibrations by number. -/
  cal : Table Calib := []
  /-- The latest samples of the measurement signals, by instance (R242, R245). -/
  meas : Table Int := []
  /-- Temperature signals above their warning limit (R245). -/
  warm : List Nat := []
  /-- The supplies sampled since the start (R250). -/
  sampled : List Nat := []
  /-- Cable measurements in progress. -/
  cable : Table CableRun := []
  /-- The last calibration pulse of the device (R237). -/
  pulseAt : Option Tick := none
  /-- The bunting ports by number. -/
  bp : Table BuntingPort := []
  /-- The matrix ports by number. -/
  mx : Table MxPort := []
  light : Lighting := {}
  /-- Applied derating factor of each GD and DOUT output, by signal; 4,096 unless listed (R280). -/
  factors : Table Nat := []
  lastDerate : Tick := 0
  nb : Neighbour := {}
  /-- The CAN channels by number. -/
  can : Table CanChannel := []
  /-- Message objects by number. -/
  mo : Table MoData := []
  /-- Published CS term values. -/
  cs : Table Int := []
  /-- CS values extracted and not yet published (R326). -/
  csNext : Table Int := []
  ring : Ring := {}
  pw : Power := {}
  boot : Boot := {}
  bg : Burgee := {}
  upd : Update := {}
  link : DieLink := {}
  ft : FaultTolerance := {}
  /-- The commands that wait, front first. -/
  pending : List Instr := []
  deriving DecidableEq, Repr

/-- Faults of the model. The manual gives every command of the table an effect, so no meaning raises one today. -/
inductive Fault where
  /-- raised by no meaning; it stands for an access the manual says does not exist (safe) -/
  | noSuchPlace
  deriving DecidableEq, Repr

/-- Refusals of the model. -/
inductive Refusal where
  /-- raised by an arm of `exec` whose command has no meaning yet (safe: the machine goes on, the model stops) -/
  | notModelled (mnemonic : String)
  deriving DecidableEq, Repr

/-- The objects of the delivered part that differ from their Default column (assumption 90): key slots 0, 1, 2, 16 and 17 are
loaded (R375), the ledger's first epoch has begun (R421). Listed by index << 8 | subindex. -/
def deliveredObjects : Regs :=
  [(0x310001, 2), (0x310002, 4), (0x310101, 1), (0x310102, 3), (0x310103, 4), (0x310201, 1), (0x310202, 5), (0x310203, 8),
   (0x311001, 2), (0x311002, 3), (0x311101, 1), (0x311102, 3), (0x311103, 0x14), (0x900102, 1)]

/-- Before the Hoist power-on reset is released for the first time: supplies and clocks absent, every output at rest, the
configuration at its defaults (R9), nothing queued. The part is as delivered, in Provisioned (assumption 90). -/
def State.reset : State :=
  { obj := deliveredObjects
    secure := { material := [(0, 1), (1, 2), (2, 3), (16, 4), (17, 5)] }
    ledger := { head := (0, 0, 0, 1) } }

end Sys2Proof.Machine
end

