-- ==== Sys2Proof/Machine/Operands.lean ====
section
/-!
DEFINITION. Operand forms: bit fields, signed values, rounding, signal numbers (R11, R31), times, DOMAIN entries and the
CRC-32C the manual names.
-/

namespace Sys2Proof.Machine

/-! ## Bit fields and arithmetic -/

/-- Bits `lo` to `lo + n - 1` of a value. -/
def bitsOf (x lo n : Nat) : Nat := x / 2 ^ lo % 2 ^ n

/-- Bit `i` of a value. -/
def bitAt (x i : Nat) : Bool := x / 2 ^ i % 2 = 1

/-- The value with bit `i` made `b`. -/
def setBitTo (x i : Nat) (b : Bool) : Nat :=
  if bitAt x i = b then x else if b then x + 2 ^ i else x - 2 ^ i

/-- The two's-complement reading of an `n`-byte value (R34). -/
def signedOf (n x : Nat) : Int := if x < 2 ^ (8 * n - 1) then (x : Int) else (x : Int) - (2 ^ (8 * n) : Nat)

/-- The `n`-byte two's-complement word of an integer. -/
def wordOf (n : Nat) (x : Int) : Nat := (x % ((2 ^ (8 * n) : Nat) : Int)).toNat

/-- Ceiling of a quotient; 0 for a zero divisor. -/
def ceilDiv (a b : Nat) : Nat := if b = 0 then 0 else (a + b - 1) / b

/-- `round(a / b)` of R492 (spec/00_scope.md) for a non-negative quotient: an exact half goes up. -/
def roundDiv (a b : Nat) : Nat := if b = 0 then 0 else (2 * a + b) / (2 * b)

/-- `round(a / b)` of R492 for an integer numerator: an exact half goes away from zero. -/
def roundDivInt (a : Int) (b : Nat) : Int :=
  if a < 0 then - (roundDiv a.natAbs b : Int) else (roundDiv a.natAbs b : Int)

/-- A value cut off at a largest one. -/
def saturate (x top : Nat) : Nat := if x ≤ top then x else top

/-- The number whose bytes these are, least significant byte first (R8). -/
def ofBytes : List Nat → Nat
  | [] => 0
  | b :: r => b % 256 + 256 * ofBytes r

/-- The `n` bytes of a value, least significant byte first (R8). -/
def toBytes : Nat → Nat → List Nat
  | 0, _ => []
  | n + 1, x => x % 256 :: toBytes n (x / 256)

/-- How many of the numbers 0 to n − 1 satisfy `p`. -/
def countBelow (n : Nat) (p : Nat → Bool) : Nat := ((List.range n).filter p).length

/-! ## Times, in timebase ticks of 10 ns (R21) -/

def us (n : Nat) : Nat := 100 * n
def ms (n : Nat) : Nat := 100000 * n
def sec (n : Nat) : Nat := 100000000 * n

/-! ## Signals (R11 of spec/00_scope.md, R31 of spec/01_architecture.md) -/

def mkSig (cls inst : Nat) : Nat := cls * 2 ^ 18 + inst
def sigClass (sig : Nat) : Nat := sig / 2 ^ 18
def sigInst (sig : Nat) : Nat := sig % 2 ^ 18

def clsGD : Nat := 0x01
def clsSV : Nat := 0x02
def clsDIN : Nat := 0x03
def clsDOUT : Nat := 0x04
def clsAIN : Nat := 0x05
def clsTACH : Nat := 0x06
def clsBP : Nat := 0x08
def clsMX : Nat := 0x09
def clsTMR : Nat := 0x0A
def clsVF : Nat := 0x0B
def clsCS : Nat := 0x0C
def clsMS : Nat := 0x0D

/-- A signal number of R31: its class and instance exist. -/
def sigValid (sig : Nat) : Bool :=
  let i := sigInst sig
  match sigClass sig with
  | 0x01 => i < 24
  | 0x02 => i < 8
  | 0x03 => i < 16
  | 0x04 => i < 8
  | 0x05 => i < 12
  | 0x06 => i < 4
  | 0x08 => true
  | 0x09 => i < 128 || i = 256 || i = 257
  | 0x0A => i < 32
  | 0x0B => i < 1024
  | 0x0C => i < 4096
  | 0x0D => i < 256
  | _ => false

/-- The classes of owned outputs (R31). -/
def ownedClass (c : Nat) : Bool := c = 0x01 || c = 0x02 || c = 0x04 || c = 0x08 || c = 0x09 || c = 0x0B

/-- A signal that has an owner (R31). -/
def sigOwned (sig : Nat) : Bool := sigValid sig && ownedClass (sigClass sig)

/-- The port of a bunting channel, its node and its channel (R11). -/
def bpPort (sig : Nat) : Nat := sigInst sig / 2 ^ 15
def bpNode (sig : Nat) : Nat := sigInst sig / 8 % 2 ^ 12
def bpChan (sig : Nat) : Nat := sigInst sig % 8

/-- A matrix signal is a port master (R31). -/
def mxIsMaster (sig : Nat) : Bool := 256 ≤ sigInst sig
/-- The port of a pixel or a port master. -/
def mxPort (sig : Nat) : Nat := if mxIsMaster sig then sigInst sig - 256 else sigInst sig / 64
def mxLine (sig : Nat) : Nat := sigInst sig / 8 % 8
def mxCol (sig : Nat) : Nat := sigInst sig % 8

/-- The largest value of each owned class in its chapter's width (R138, R184, R211, R260, R273, R106): a plain bound on
the class; bridge, fan and solenoid modes narrow it. -/
def classMax (c : Nat) : Nat :=
  match c with
  | 0x01 => 10000
  | 0x02 => 2500
  | 0x04 => 10000
  | 0x08 => 4095
  | 0x09 => 255
  | _ => 65535

/-! ## Entries of DOMAIN configuration -/

/-- The key of entry `e` of the cfg DOMAIN at an index. The entries lie above every object key. -/
def domKey (ix e : Nat) : Nat := 2 ^ 40 + ix * 2 ^ 20 + e

/-- Bytes per entry of the cfg DOMAINs, and how many entries each holds; 0 for any other index. -/
def domEntry (ix : Nat) : Nat × Nat :=
  if 0x5100 ≤ ix ∧ ix ≤ 0x5107 then (8, 4096)
  else match ix with
    | 0x5300 => (136, 256)
    | 0x5400 => (16, 256)
    | 0x6100 => (16, 8192)
    | 0x6102 => (16, 4096)
    | 0x6103 => (16, 256)
    | 0x7100 => (8, 1536)
    | _ => (0, 0)

/-- The reserved bits of an entry of a cfg DOMAIN (R10, R271, R291, R333); a route's are judged at commit (R308). -/
def domRsvd (ix : Nat) : Nat :=
  if 0x5100 ≤ ix ∧ ix ≤ 0x5107 then 0xFFFFFFFFFE000000
  else match ix with
    | 0x5300 => 0xFFFFFFFFFFFF0000 + (List.range 16).foldl (fun m r => m + 0xFFFF * 2 ^ (64 * (r + 1))) 0
    | 0x5400 => 0xE000
    | 0x6100 => 0xFFFFFFFF * 2 ^ 96 + 0xF0 * 2 ^ 48 + 0x60000000
    | 0x6102 => 0xFF * 2 ^ 88 + 0xFFFFF0 * 2 ^ 40
    | 0x6103 => 0xFFFFFFFF * 2 ^ 96 + 0xFF * 2 ^ 24
    | _ => 0

/-! ## CRC-32C (R68, R438) -/

/-- One bit of the reflected CRC-32C. -/
def crcBit : Nat → Nat
  | 0 => 0
  | n + 1 => if (n + 1) % 2 = 1 then Nat.xor ((n + 1) / 2) 0x82F63B78 else (n + 1) / 2

/-- One byte of the CRC-32C. -/
def crcByte (c b : Nat) : Nat :=
  crcBit (crcBit (crcBit (crcBit (crcBit (crcBit (crcBit (crcBit (Nat.xor c (b % 256)))))))))

/-- CRC-32C (Castagnoli) of a byte string. -/
def crc32c (bytes : List Nat) : Nat := Nat.xor (bytes.foldl crcByte 0xFFFFFFFF) 0xFFFFFFFF

end Sys2Proof.Machine
end

