-- ==== Sys2Proof/Machine/Flags.lean ====
section
/-!
DEFINITION. Status words: the severity of every event (R13, the event tables of spec/03 to spec/22), the named fault an
event reports (R473), and the codes of the status objects.
-/

namespace Sys2Proof.Machine

/-- The number FL_SEVERITY carries (R472). -/
def Severity.code : Severity → Nat
  | .notice => 0
  | .degraded => 1
  | .contained => 2
  | .safeStated => 3

/-- Severity of a gate-driver event, offset k (R158). -/
def gdEventSeverity (k : Nat) : Severity :=
  if k = 0 ∨ k = 1 ∨ k = 4 ∨ k = 5 then .contained else if k = 2 ∨ k = 3 then .degraded else .notice

/-- Severity of a solenoid event, offset k (R205). -/
def svEventSeverity (k : Nat) : Severity :=
  if k = 0 ∨ k = 1 ∨ k = 4 ∨ k = 8 then .contained
  else if k = 2 ∨ k = 3 ∨ k = 5 ∨ k = 7 ∨ k = 9 then .degraded else .notice

/-- Severity of a CAN event, offset k (R331). -/
def canEventSeverity (k : Nat) : Severity :=
  if k = 0 ∨ k = 13 then .contained else if k = 2 ∨ k = 5 ∨ k = 10 ∨ k = 12 then .degraded else .notice

/-- Severity of a bunting event, offset k (R270). -/
def bpEventSeverity (k : Nat) : Severity :=
  if k = 2 ∨ k = 3 then .contained else if k = 1 ∨ k = 4 ∨ k = 6 ∨ k = 7 then .degraded else .notice

/-- Severity of a matrix event, offset k (R290); offset 7 of MX0 is judged by its pair (`eventSeverity`). -/
def mxEventSeverity (k : Nat) : Severity :=
  if k = 0 ∨ k = 1 ∨ k = 4 then .contained else if k = 2 ∨ k = 3 then .degraded
  else .notice

/-- The severity of an event with its value (R13), by the allocation of R33. Events whose table names no severity are
notices (assumption 3). Bridge and fan slots that share an event with another function are `slotSeverity`'s. -/
def eventSeverity (ev value : Nat) : Severity :=
  if ev < 192 then gdEventSeverity (ev % 8)
  else if ev < 288 then svEventSeverity ((ev - 192) % 12)
  else if ev < 352 then (if (ev - 288) % 4 < 2 then .notice else .degraded)
  else if ev < 384 then
    (let k := (ev - 352) % 4; if k < 2 then .contained else if k = 2 then .degraded else .notice)
  else if ev < 432 then (if (ev - 384) % 4 = 2 then .degraded else .notice)
  else if ev < 448 then (if (ev - 432) % 4 = 3 then .degraded else .notice)
  else if ev < 512 then bpEventSeverity ((ev - 448) % 8)
  else if ev = 519 then
    (if value / 4096 % 16 = 10 ∨ value / 4096 % 16 = 11 ∨ value / 16 % 16 = 10 ∨ value / 16 % 16 = 11 then .contained
     else .degraded)
  else if ev < 528 then mxEventSeverity ((ev - 512) % 8)
  else if ev < 656 then canEventSeverity ((ev - 528) % 16)
  else if ev < 1040 then .notice
  else if ev = 1053 then .degraded
  else if ev = 1055 then .contained
  else if ev < 1088 then .notice
  else if ev = 1091 ∨ ev = 1105 then .degraded
  else if ev = 1101 then .safeStated
  else if ev = 1103 ∨ ev = 1104 ∨ ev = 1107 then .contained
  else if ev = 1154 ∨ ev = 1162 then .degraded
  else if ev = 1160 then .contained
  else if ev = 1169 ∨ ev = 1170 ∨ ev = 1171 ∨ ev = 1176 then .degraded
  else if ev = 1174 ∨ ev = 1177 then .contained
  else if ev = 1203 ∨ ev = 1207 ∨ ev = 1209 ∨ ev = 1213 then .degraded
  else if ev = 1228 ∨ ev = 1281 then .degraded
  else if ev = 1290 ∨ ev = 1291 then .degraded
  else if ev = 1293 ∨ ev = 1294 ∨ ev = 1296 ∨ ev = 1299 then .safeStated
  else if ev = 1301 ∨ ev = 1302 then .degraded
  else if ev = 1303 ∨ ev = 1312 ∨ ev = 1314 ∨ ev = 1319 ∨ ev = 1324 then .contained
  else if ev = 1305 ∨ ev = 1306 ∨ ev = 1307 ∨ ev = 1309 ∨ ev = 1311 ∨ ev = 1317 ∨ ev = 1321 ∨ ev = 1322 then .degraded
  else if ev = 1308 ∨ ev = 1325 then .safeStated
  else if ev = 1315 then (if bitAt value 31 then .degraded else .notice)
  else if ev = 1462 then .contained
  else .notice

/-- FL_ID of the named fault an event reports (R473), 0 for none. -/
def namedFault (ev : Nat) : Nat :=
  match ev with
  | 1296 => 2     -- HB_LOSS
  | 1299 => 3     -- HOIST_WDG_TRIP
  | 1301 => 4     -- SWEEP_OVERRUN
  | 1228 => 5     -- BUDGET_OVERSUBSCRIBED
  | 1227 => 6     -- LOAN_FROZEN
  | 1462 => 7     -- ADDRESS_CONFLICT
  | 1293 => 8     -- CORE_SUPPLY
  | 1302 => 16    -- LANE_MISMATCH
  | 1303 => 17    -- TILE_FAIL
  | 1308 => 18    -- REFLEX_LOST
  | 1309 => 19    -- LINK_LANE
  | 1312 => 20    -- SRAM_CLUSTER
  | 1314 => 21    -- MRAM_CLUSTER
  | 1317 => 22    -- REG_PHASE
  | 1319 => 23    -- STAGE_FAIL
  | 1321 => 24    -- CONFIG_SPLIT
  | 1320 => 25    -- CONFIG_COPY
  | 1322 => 26    -- SKEW
  | 1325 => 27    -- SEQUENCER_FAULT
  | _ => 0

/-- The halyard code of a status (R41); 0xFFFF where the frame is dropped without reply. -/
def Status.halyardCode : Status → Nat
  | .none | .success => 0x0000
  | .authFailure | .transferTimeout => 0xFFFF
  | .noSession => 0x0010
  | .roleTooLow => 0x0012
  | .noObject => 0x0020
  | .noSubindex => 0x0021
  | .writeOfRo => 0x0022
  | .readOfWo => 0x0023
  | .reservedBit => 0x0024
  | .typeError => 0x0030
  | .valueRange => 0x0031
  | .commitConflict => 0x0040
  | .configInvalid => 0x0041
  | .inUse => 0x0042
  | .busy => 0x0043
  | .noResource => 0x0044
  | .notMappable => 0x0050
  | .mapTooLong => 0x0051
  | .storeFailure => 0x0060
  | .protocolError => 0x0070

/-- The SDO abort code of a status (R41); 0 for success. -/
def Status.abortCode : Status → Nat
  | .none | .success => 0
  | .authFailure => 0x08000000
  | .noSession | .roleTooLow | .reservedBit => 0x06010000
  | .noObject => 0x06020000
  | .noSubindex => 0x06090011
  | .writeOfRo => 0x06010002
  | .readOfWo => 0x06010001
  | .typeError => 0x06070010
  | .valueRange => 0x06090030
  | .commitConflict | .configInvalid => 0x08000020
  | .inUse | .busy => 0x08000022
  | .noResource => 0x05040005
  | .notMappable => 0x06040041
  | .mapTooLong => 0x06040042
  | .storeFailure => 0x06060000
  | .transferTimeout => 0x05040000
  | .protocolError => 0x05040001

/-! ## Codes of status objects -/

/-- PWR_STATE (R347): Hoisted 0, Dipped 1, Half-mast 2, Furled 3. -/
def pwrHoisted : Nat := 0
def pwrDipped : Nat := 1
def pwrHalfMast : Nat := 2
def pwrFurled : Nat := 3

/-- HB_STATE (R87). -/
def hbWaiting : Nat := 0
def hbResumed : Nat := 1
def hbAlive : Nat := 2
def hbLost : Nat := 3

/-- The class codes of R81. -/
def Cls.code : Cls → Nat
  | .s => 0
  | .safe => 1
  | .h => 2
  | .a => 3
  | .c => 4

end Sys2Proof.Machine
end

