-- ==== Sys2Proof/Machine/Ops.lean ====
section
/-!
DEFINITION. The named operations every meaning is written over: sparse tables, objects, time, occurrences of events,
the fault log, ledger records, sessions and the answer to a request.
-/

namespace Sys2Proof.Machine

/-! ## Sparse tables -/

/-- What a table lists for a number. -/
def Table.get? {α : Type} : Table α → Nat → Option α
  | [], _ => none
  | (i, a) :: t, k => if i = k then some a else Table.get? t k

/-- What a number reads as, `d` where nothing is listed. -/
def Table.read {α : Type} (t : Table α) (d : α) (k : Nat) : α := (t.get? k).getD d

/-- The table without an entry for `k`. -/
def Table.erase {α : Type} (t : Table α) (k : Nat) : Table α := t.filter (fun e => e.1 != k)

/-- The table with `k` listed as `v`, in place. -/
def Table.put {α : Type} : Table α → Nat → α → Table α
  | [], k, v => [(k, v)]
  | (i, a) :: t, k, v =>
    if k < i then (k, v) :: (i, a) :: t else if i = k then (k, v) :: t else (i, a) :: Table.put t k v

/-- The table that reads `v` at `k`: nothing is listed where `v` is what an unlisted number reads as. -/
def Table.write {α : Type} [DecidableEq α] (t : Table α) (d : α) (k : Nat) (v : α) : Table α :=
  if v = d then t.erase k else t.put k v

/-- Numbers strictly rising from `lo` on. -/
def Table.rises {α : Type} : Nat → Table α → Bool
  | _, [] => true
  | lo, (i, _) :: t => decide (lo ≤ i) && Table.rises (i + 1) t

/-- The canonical form: numbers strictly rising, nothing listed that an unlisted number reads as. -/
def Table.wf {α : Type} [DecidableEq α] (d : Nat → α) (t : Table α) : Bool :=
  Table.rises 0 t && t.all (fun e => decide (e.2 ≠ d e.1))

/-! ## Objects -/

namespace State

/-- The committed configuration value of an object or DOMAIN entry (R9, R43). -/
def cf (s : State) (k : Nat) : Nat := s.cfg.read (objDefault k) k

/-- The value of a status or command object. -/
def ob (s : State) (k : Nat) : Nat := s.obj.read (objDefault k) k

/-- The state with a status object at a value. -/
def setOb (s : State) (k v : Nat) : State := { s with obj := s.obj.write (objDefault k) k v }

/-- One more in a wrapping 32-bit counter. -/
def bump (s : State) (k : Nat) : State := s.setOb k ((s.ob k + 1) % 2 ^ 32)

/-- `n` more in a wrapping 32-bit counter. -/
def bumpBy (s : State) (k n : Nat) : State := s.setOb k ((s.ob k + n) % 2 ^ 32)

/-- One more in a counter that stays at `top`. -/
def bumpSat (s : State) (k top : Nat) : State := s.setOb k (saturate (s.ob k + 1) top)

/-- A bit of a status object set or cleared. -/
def setBit (s : State) (k i : Nat) (b : Bool) : State := s.setOb k (setBitTo (s.ob k) i b)

/-- A bit of a status object. -/
def bit (s : State) (k i : Nat) : Bool := bitAt (s.ob k) i

/-! ## Time -/

/-- The timebase (R21). -/
def now (s : State) : Tick := s.tb.count

/-- An object of record `i` of a class of `n`; there is none beyond. -/
def setIn (s : State) (n : Nat) (f : Nat → Nat) (i v : Nat) : State := if i < n then s.setOb (f i) v else s

/-- One tick of the timebase passes (R21) while the PLL drives it (R22); in low-frequency mode the 32.768 kHz periods do
(R24). -/
def idle (s : State) : State :=
  if s.tb.pllLocked && !s.tb.lfMode then { s with tb := { s.tb with count := (s.tb.count + 1) % 2 ^ 64 } } else s

/-- Halyard time in ns at tick `t` (R73, R74): the time held at the last correction plus the timebase's progress under
the rate ratio in force. -/
def htimeAt (s : State) (t : Tick) : Nat :=
  let ns : Int := 10 * ((t : Int) - (s.hal.refTick : Int))
  let rate := signedOf 4 (s.ob Obj.rateRatio)
  ((s.hal.refNs : Int) + ns + ns * rate / 1000000000).toNat % 2 ^ 64

/-- Halyard time now. -/
def htime (s : State) : Nat := s.htimeAt s.now

/-- Powered time in ticks: the timebase's count over all Fly starts (R385, R405). -/
def poweredTime (s : State) : Nat := s.secure.poweredBase + s.now

/-- At least `d` ticks have passed since `t`. -/
def passed (s : State) (t d : Tick) : Bool := decide (t + d ≤ s.now)

/-! ## Events and faults -/

/-- An event posted with a timestamp (R303): it is on its way to the fabric. -/
def postAt (s : State) (ts : Tick) (ev value : Nat) : State :=
  { s with fab := { s.fab with inFlight := s.fab.inFlight ++ [⟨ts, ev, value % 2 ^ 32⟩] } }

/-- An event posted now. -/
def post (s : State) (ev value : Nat) : State := s.postAt s.now ev value

/-- An event posted if a condition holds. -/
def postIf (s : State) (c : Bool) (ev value : Nat) : State := if c then s.post ev value else s

/-- Entries of the fault log (R472). -/
def flogEntries : Nat := 8192

/-- A fault-log entry written (R472): the ring takes it in place of its oldest entry when it is full. -/
def logFault (s : State) (id : Nat) (sev : Severity) (level : Nat) (ts : Tick) (ev place offset value : Nat) : State :=
  let q := s.ob Obj.flogSeq
  let e : FaultEntry :=
    { seq := q, id := id, severity := sev, level := level, tbase := ts, htime := s.htimeAt ts, event := ev
      place := place, offset := offset, value := value % 2 ^ 32, start := s.flyStarts }
  let slot := q % flogEntries
  let full := (s.flog.get? slot).isSome
  let s := { s with flog := s.flog.put slot e }
  let s := s.setOb Obj.flogSeq ((q + 1) % 2 ^ 32)
  if full then s.bump Obj.flogOverwritten else s

/-! ## The ledger's records -/

/-- Records are formed: LEDGER_ENABLE is set and slot 16 holds the ledger key (R418, R432). -/
def ledgerOn (s : State) : Bool := s.cf Obj.ledgerEnable = 1 && s.ob (Obj.keySlotState 16) ≠ 0 && !s.ft.regionsLost.contains 3

/-- Space the buffer's content takes, in records of 64 bytes (R419): an open page takes one space per record, a sealed
page 64. -/
def ledgerSpace (s : State) : Nat := s.ledger.openPage.length + 64 * s.ledger.pages.length

/-- Records in the buffer (BUFFER_FILL). -/
def ledgerFill (s : State) : Nat :=
  s.ledger.openPage.length + (s.ledger.pages.map (fun p => p.records.length)).sum

/-- A record of a kind with the times, unit and SYNC_STATE of an instant (R414, R415). -/
def newRecord (s : State) (kind : Nat) (ts : Tick) : LedgerRecord :=
  let sync := s.ob Obj.syncState
  { kind := kind, htime := s.htimeAt ts, tbase := ts, unit := s.ob Obj.unitAddress, sync := sync
    rflags := if sync = 0 ∨ sync = 3 then 2 else 0 }

/-- A record put into the buffer under the next SEQ. -/
def storeRecord (s : State) (r : LedgerRecord) : State :=
  let q := s.ob Obj.ledgerNextSeq
  let l := s.ledger
  let s := { s with ledger := { l with openPage := l.openPage ++ [{ r with seq := q }]
                                       openFirst := if l.openPage.isEmpty then s.now else l.openFirst } }
  let s := s.setOb Obj.ledgerNextSeq ((q + 1) % 2 ^ 64)
  s.setOb Obj.ledgerBufferFill s.ledgerFill

/-- A record dropped (R419): counted, with EV1170 at most once per second. -/
def dropRecord (s : State) : State :=
  let l := s.ledger
  let n := l.lostSince + 1
  let due := match l.lastEv1170 with
    | none => true
    | some t => s.passed t (sec 1)
  let s := s.bump Obj.ledgerRecordsLost
  if due then
    ({ s with ledger := { l with lost := l.lost + 1, lastEv1170 := some s.now, lostSince := 0 } }).post 1170 n
  else { s with ledger := { l with lost := l.lost + 1, lostSince := n } }

/-- A record formed (R418, R419): nothing unless the ledger is on; dropped where the buffer is full; the first stored
after a loss follows a kind-9 record with the count lost and the SEQ range around the loss. -/
def record (s : State) (r : LedgerRecord) : State :=
  if !s.ledgerOn then s
  else if 4096 ≤ s.ledgerSpace + (if s.ledger.lost = 0 then 0 else 1) then s.dropRecord
  else if s.ledger.lost = 0 then s.storeRecord r
  else
    let q := s.ob Obj.ledgerNextSeq
    let k9 := { s.newRecord 9 s.now with
      new := s.ledger.lost % 2 ^ 32, reason := 1170, cmdr := 10, detail := (q - 1) + 2 ^ 48 * q }
    let s := { s with ledger := { s.ledger with lost := 0 } }
    (s.storeRecord k9).storeRecord r

/-- A signal lies in a ledger range (R418). -/
def inLedgerRange (s : State) (sig : Nat) : Bool :=
  (List.range 32).any fun k =>
    let f := s.cf (Obj.lrFirst k)
    f ≠ 0 && f ≤ sig && sig ≤ s.cf (Obj.lrLast k)

/-! ## Sessions and requests -/

/-- The open session of a handle. -/
def session? (s : State) (h : Nat) : Option Session := s.sessions.find? (fun x => x.handle == h)

/-- A session put in place of the one with its handle. -/
def setSession (s : State) (x : Session) : State :=
  { s with sessions := s.sessions.map (fun y => if y.handle = x.handle then x else y) }

/-- The HOST_ID of a session, 0 where none is open. -/
def hostIdOf (s : State) (h : Nat) : Nat := match s.session? h with
  | some x => x.hostId
  | none => 0

/-- A per-session object of a session. -/
def sob (s : State) (h k : Nat) : Nat := match s.session? h with
  | some x => x.regs.read (objDefault k) k
  | none => objDefault k

/-- A per-session object written. -/
def setSob (s : State) (h k v : Nat) : State := match s.session? h with
  | some x => s.setSession { x with regs := x.regs.write (objDefault k) k v }
  | none => s

end State

/-- The answer of a request: the next state with success, or the state with the failing status (R40). -/
abbrev Answer := Except Status State

/-- A check of a request: goes on, or fails with a status. -/
def check (c : Bool) (e : Status) (k : Answer) : Answer := if c then k else .error e

/-- A command whose conditions do not hold changes nothing. -/
def whenever (c : Bool) (s t : State) : Host.Outcome State Fault Refusal := .next (if c then t else s)

/-- A function applied for the numbers 0 to n − 1 in turn. -/
def forRange (n : Nat) (f : State → Nat → State) (s : State) : State := (List.range n).foldl f s

/-- A function applied for each member of a list in turn. -/
def forEach {α : Type} (l : List α) (f : State → α → State) (s : State) : State := l.foldl f s

end Sys2Proof.Machine
end

