-- ==== Sys2Proof/Machine/Votes.lean ====
section
/-!
DEFINITION. Vote registers, the required state and what a vote or a wake starts (spec/16), and how a request is taken in
each power state (R62, R354).
-/

namespace Sys2Proof.Machine
namespace State

/-! ## Vote registers (R348–R350) -/

/-- The floor of a domain (R348). -/
def floorOf (d : Nat) : Nat := if d = 0 ∨ d = 17 then pwrHoisted else if d = 18 then pwrHalfMast else pwrDipped

/-- Holder 15's vote on a domain (R349, R352). -/
def standing (s : State) (d : Nat) : Bool := bitAt (s.cf Obj.standingMask) d && !bitAt (s.ob Obj.standingSuspended) d

/-- DOMAIN_VOTES (R362). -/
def votesOf (s : State) (d : Nat) : Nat := s.pw.votes.read 0 d + (if s.standing d then 2 ^ 15 else 0)

/-- The required state (R350). -/
def required (s : State) : Nat :=
  (List.range 19).foldl (fun m d => if s.votesOf d = 0 then m else min m (floorOf d)) pwrFurled

/-- What LAST_WAKE_CAUSE and LAST_WAKE_DETAIL record, and the wake hold that every wake places (R357). -/
def recordWake (s : State) (cause detail : Nat) : State :=
  (s.setOb Obj.lastWakeCause cause).setOb Obj.lastWakeDetail (detail % 2 ^ 16)

/-- An exit starts (R350, R354). -/
def beginExit (s : State) (cause detail : Nat) : State :=
  ({ s with pw := { s.pw with cause := (cause, detail % 2 ^ 16), lowSince := none } }).setOb Obj.pwrTransition 2

/-- Domains of a mask, with a bit of the vote register set or cleared. -/
def putVotes (s : State) (holder mask : Nat) (b : Bool) : State :=
  forRange 19 (fun s d => if bitAt mask d then
    { s with pw := { s.pw with votes := s.pw.votes.write 0 d (setBitTo (s.pw.votes.read 0 d) holder b) } } else s) s

/-- Holder 8 votes exactly the domains of WAKE_PROFILE until WAKE_HOLD after `at_` (R357). -/
def holdVotes (s : State) (at_ : Tick) : State :=
  let s := { s with pw := { s.pw with holdUntil := some (at_ + ms (s.cf Obj.wakeHold)) } }
  (s.putVotes 8 (2 ^ 19 - 1) false).putVotes 8 (s.cf Obj.wakeProfile) true

/-- PWR_TARGET shown (R350). -/
def showTarget (s : State) : State := s.setOb Obj.pwrTarget s.required

/-- What follows a change of votes, `old` the required state before it, `holder` the holder that moved (R350, R354). A vote
counts as a wake (R357, cause 4) where it raises the required state above PWR_STATE (DEDUCED, assumption 40). -/
def votesMoved (s : State) (old holder : Nat) : State :=
  let r := s.required
  let s := s.setOb Obj.pwrTarget r
  let st := s.ob Obj.pwrState
  let tr := s.ob Obj.pwrTransition
  if tr = 1 then
    if r < old && r < s.pw.entering && s.pw.captured.isNone then
      { s with pw := { s.pw with captured := some (4, holder, s.now) } }
    else s
  else if r < st then
    if tr = 2 then s
    else if holder = 8 then s.beginExit (s.ob Obj.lastWakeCause) (s.ob Obj.lastWakeDetail)
    else (((s.recordWake 4 holder).beginExit 4 holder).holdVotes s.now).showTarget
  else if r = st then { s with pw := { s.pw with lowSince := none } }
  else if s.pw.lowSince.isNone || r < old then { s with pw := { s.pw with lowSince := some s.now } }
  else s

/-- A holder places its vote on the domains of a mask. -/
def placeVotes (s : State) (holder mask : Nat) : State := (s.putVotes holder mask true).votesMoved s.required holder

/-- A holder withdraws its vote from the domains of a mask. -/
def dropVotes (s : State) (holder mask : Nat) : State := (s.putVotes holder mask false).votesMoved s.required holder

/-- A holder's votes are exactly the domains of a mask. -/
def setVotes (s : State) (holder mask : Nat) : State :=
  ((s.putVotes holder (2 ^ 19 - 1) false).putVotes holder mask true).votesMoved s.required holder

/-- Every domain. -/
def allDomains : Nat := 2 ^ 19 - 1

/-- A domain is on (DOMAIN_ON). -/
def domainIsOn (s : State) (d : Nat) : Bool := s.ob (Obj.domainOn d) = 1

/-- What a domain should be: voted, with its floor at or below the state; REFLEX and PARK whatever their votes (R348,
R350). -/
def domainDue (s : State) (d : Nat) : Bool :=
  let st := s.ob Obj.pwrState
  decide (st ≤ floorOf d) && (d = 1 || d = 18 || s.votesOf d ≠ 0)

/-! ## Wakes (R354, R357) -/

/-- The wake hold: holder 8 votes the domains of WAKE_PROFILE until WAKE_HOLD after `at_`. -/
def placeHold (s : State) (at_ : Tick) : State :=
  ({ s with pw := { s.pw with holdUntil := some (at_ + ms (s.cf Obj.wakeHold)) } }).setVotes 8 (s.cf Obj.wakeProfile)

/-- A wake (R354, R357): captured during an entry, recorded during an exit; in Half-mast and Furled it starts an exit; in
Hoisted and Dipped it places the wake hold only. -/
def wake (s : State) (cause detail : Nat) : State :=
  let s := s.recordWake cause detail
  match s.ob Obj.pwrTransition with
  | 1 => if s.pw.captured.isSome then s else { s with pw := { s.pw with captured := some (cause, detail, s.now) } }
  | 2 => s
  | _ =>
    if s.ob Obj.pwrState ≤ pwrDipped then s.placeHold s.now
    else
      let s := if s.ob Obj.pwrState = pwrFurled then { s with boot := { s.boot with stage := .flyReset } } else s
      (s.beginExit cause detail).placeHold s.now

/-! ## What runs in a lowered state (R347, R355, R356) -/

/-- Hoisted or Dipped. -/
def awake (s : State) : Bool := decide (s.ob Obj.pwrState ≤ pwrDipped)

/-- A digital input is read: in Half-mast only those of HM_DIN_MASK (R356). -/
def dinRuns (s : State) (c : Nat) : Bool := s.awake || (s.ob Obj.pwrState = pwrHalfMast && bitAt (s.cf Obj.hmDinMask) c)

/-! ## Requests (R38–R40, R62, R354) -/

/-- The runtime cores run: Hoisted, and no entry has begun to stop them. -/
def coresRun (s : State) : Bool := s.ob Obj.pwrState = pwrHoisted && s.ob Obj.pwrTransition ≠ 1

/-- Acyclic requests are accepted: in Hoisted and Dipped, until an entry into Half-mast has begun (R354), not in a debug halt
(R394), and not once the runtime's memory is lost (R461). -/
def takesRequests (s : State) : Bool :=
  s.secure.haltedAt.isNone && !s.ft.regionsLost.contains 5 && decide (s.ob Obj.pwrState ≤ pwrDipped) && !(s.ob Obj.pwrTransition = 1 && decide (pwrHalfMast ≤ s.pw.entering))

/-- A request put into its session's queue (R62): busy where the queue is full; holder 2 votes CORES. -/
def enqueueRequest (s : State) (x : Session) (r : Request) : Except Status State :=
  if 16 ≤ x.queue.length then .error .busy
  else .ok ((s.setSession { x with queue := x.queue ++ [r] }).placeVotes 2 1)

/-- A request carried out: its status stands in `reply`, and a failed request leaves everything else (R40). A body that
leaves a status of its own in `reply` has failed with the effects its rule gives that failure (R57). -/
def finish (s : State) (r : Answer) : Host.Outcome State Fault Refusal :=
  match r with
  | .ok t => .next { t with reply := { t.reply with status := if t.reply.status = .none then .success else t.reply.status } }
  | .error e => .next { s with reply := { status := e } }

/-- A request of session `h` that needs role `role` (R38–R40): no session, then the role, then `body`. An open session's
frame counts as accepted, so its idle time starts again (R387). While the runtime cores do not run, the command `bytes` of
R49 waits in the session's queue (R62), under no TRANSACTION of a frame (65,536). -/
def request (s : State) (h : Nat) (role : Role) (bytes : List Nat) (body : Session → State → Answer) :
    Host.Outcome State Fault Refusal :=
  if !s.takesRequests then .next s
  else match s.session? h with
  | none => s.finish (.error .noSession)
  | some x =>
    let x := { x with last := s.now }
    let s := ({ s with reply := {} }).setSession x
    if !s.coresRun then
      match s.enqueueRequest x { transaction := 65536, payload := bytes } with
      | .ok t => .next t
      | .error e => s.finish (.error e)
    else if x.role.rank < role.rank then s.finish (.error .roleTooLow)
    else s.finish (body x s)

/-- A request refused with an effect: the state the rule gives, and the status. -/
def refused (s : State) (e : Status) : Answer := .ok { s with reply := { status := e } }

end State

/-- The command of R49 that writes an object: `n` bytes of a value. -/
def writeOf (k n v : Nat) : List Nat := [2, 0] ++ toBytes 2 (keyIndex k) ++ [keySub k, 0] ++ toBytes 2 n ++ toBytes n v

/-- The command of R49 that reads an object. -/
def readOf (k : Nat) : List Nat := [1, 0] ++ toBytes 2 (keyIndex k) ++ [keySub k, 0, 0, 0]

/-- The DOMAIN commands of R49. -/
def domainReadOf (ix off len : Nat) : List Nat :=
  [3, 0] ++ toBytes 2 ix ++ [3, 0] ++ toBytes 2 len ++ toBytes 8 off
def domainWriteOf (ix off : Nat) (data : List Nat) : List Nat :=
  [4, 0] ++ toBytes 2 ix ++ [3, 0] ++ toBytes 2 data.length ++ toBytes 8 off ++ data

end Sys2Proof.Machine
end

