-- ==== Sys2Proof/Machine/Profile.lean ====
section
/-!
DEFINITION. How outputs are configured and how their loads draw current: modes and functions of the channels, load
passports (R230–R233, R239), and the profiles the admission arbiter predicts with (R110–R115, R146, R191, R211, R276).
-/

namespace Sys2Proof.Machine.State

/-! ## Records of one channel, as the tables hold them -/

def gdCh (s : State) (n : Nat) : GdChannel := s.gd.read {} n
def setGd (s : State) (n : Nat) (c : GdChannel) : State := { s with gd := s.gd.write {} n c }
def svCh (s : State) (n : Nat) : SvChannel := s.sv.read {} n
def setSv (s : State) (n : Nat) (c : SvChannel) : State := { s with sv := s.sv.write {} n c }
def doutCh (s : State) (n : Nat) : Dout := s.dout.read {} n
def setDout (s : State) (n : Nat) (c : Dout) : State := { s with dout := s.dout.write {} n c }
def brCh (s : State) (n : Nat) : Bridge := s.br.read {} n
def setBr (s : State) (n : Nat) (c : Bridge) : State := { s with br := s.br.write {} n c }
def fanCh (s : State) (n : Nat) : Fan := s.fan.read {} n
def setFan (s : State) (n : Nat) (c : Fan) : State := { s with fan := s.fan.write {} n c }
def mxCh (s : State) (n : Nat) : MxPort := s.mx.read {} n
def setMx (s : State) (n : Nat) (c : MxPort) : State := { s with mx := s.mx.write {} n c }
def bpCh (s : State) (n : Nat) : BuntingPort := s.bp.read {} n
def setBp (s : State) (n : Nat) (c : BuntingPort) : State := { s with bp := s.bp.write {} n c }
def ppCh (s : State) (n : Nat) : Passport := s.pp.read {} n
def setPp (s : State) (n : Nat) (c : Passport) : State := { s with pp := s.pp.write {} n c }
def calCh (s : State) (n : Nat) : Calib := s.cal.read {} n
def setCal (s : State) (n : Nat) (c : Calib) : State := { s with cal := s.cal.write {} n c }

/-- Measurement instances that carry no quantity (R31, R132, R242, R245). -/
def msReserved (m : Nat) : Bool :=
  (15 ≤ m && m ≤ 63) || (69 ≤ m && m ≤ 95) || (108 ≤ m && m ≤ 127) || 139 ≤ m

/-- The latest sample of a measurement signal (R242, R245); a reserved one carries 0 (R31). -/
def msv (s : State) (m : Nat) : Int := if msReserved m then 0 else s.meas.read 0 m

/-- VBAT in mV, as MS0 holds it. -/
def vbat (s : State) : Nat := (s.msv 0).toNat

/-- The state with a supply's sample taken: MSm, SUP_VALUE, and the extremes since they were read (R242, R250). -/
def sampleSupply (s : State) (m v : Nat) : State :=
  let lo := s.ob (Obj.supMin m)
  let hi := s.ob (Obj.supMax m)
  let s := { s with meas := s.meas.write 0 m v
                    sampled := if s.sampled.contains m then s.sampled else s.sampled ++ [m] }
  let s := s.setOb (Obj.supValue m) v
  let s := s.setOb (Obj.supMin m) (min lo v)
  s.setOb (Obj.supMax m) (max hi v)

/-! ## Channels that belong to bridges, fans and pairs -/

/-- Bridge `h` is in use (R161). -/
def brUsed (s : State) (h : Nat) : Bool := s.cf (Obj.brFunction h) ≠ 0
/-- Upper channels of pairs A and B of a bridge (R160). -/
def brLead (s : State) (h : Nat) : Nat := 2 * s.cf (Obj.brPairA h)
def brOther (s : State) (h : Nat) : Nat := 2 * s.cf (Obj.brPairB h)
/-- The upper channel of a fan's pair (R173); a fan with no pair is not in use. -/
def fanUsed (s : State) (f : Nat) : Bool := s.cf (Obj.fanPair f) ≠ 0xFF
def fanLead (s : State) (f : Nat) : Nat := 2 * s.cf (Obj.fanPair f)

/-- The bridge whose lead a channel is. -/
def bridgeOfLead (s : State) (c : Nat) : Option Nat :=
  (List.range 6).find? (fun h => s.brUsed h && s.brLead h == c)
/-- The bridge a channel belongs to, lead or member. -/
def bridgeOf (s : State) (c : Nat) : Option Nat :=
  (List.range 6).find? (fun h => s.brUsed h && (s.brLead h == 2 * (c / 2) || s.brOther h == 2 * (c / 2)))
/-- The fan whose lead a channel is. -/
def fanOfLead (s : State) (c : Nat) : Option Nat :=
  (List.range 4).find? (fun f => s.fanUsed f && s.fanLead f == c)
/-- The fan a channel belongs to. -/
def fanOf (s : State) (c : Nat) : Option Nat :=
  (List.range 4).find? (fun f => s.fanUsed f && s.fanLead f == 2 * (c / 2))

/-- A bound gate-driver channel (R141, R160): a lower channel of a pair, or a member of a bridge that is not its lead. -/
def gdBound (s : State) (c : Nat) : Bool :=
  s.cf (Obj.gdMode c) = 4 ||
    (match s.bridgeOf c with
     | some h => s.brLead h ≠ c
     | none => false)

/-- The odd channel of a solenoid pair (R183). -/
def svBound (s : State) (c : Nat) : Bool := c % 2 = 1 && s.cf (Obj.svPair (c - 1)) = 1
/-- A solenoid channel that runs as a pair. -/
def svPaired (s : State) (c : Nat) : Bool := c % 2 = 0 && s.cf (Obj.svPair c) = 1

/-- A disabled output (R494). -/
def disabled (s : State) (sig : Nat) : Bool :=
  match sigClass sig with
  | 0x01 => s.cf (Obj.gdMode (sigInst sig)) = 0
  | 0x02 => s.cf (Obj.svMode (sigInst sig)) = 0
  | 0x04 => s.cf (Obj.doutEnable (sigInst sig)) = 0
  | 0x09 => s.cf (Obj.mxEnable (mxPort sig)) = 0
  | _ => false

/-- Full-on value of an output (R89, R138, R173, R184, R211, R260, R273). -/
def fullOn (s : State) (sig : Nat) : Nat :=
  match sigClass sig with
  | 0x01 => match s.fanOfLead (sigInst sig) with
    | some f => if s.cf (Obj.fanControl f) = 1 then s.cf (Obj.fanMaxSpeed f) else 10000
    | none => 10000
  | 0x02 => s.cf (Obj.svHoldNom (sigInst sig))
  | c => classMax c

/-! ## Load passports -/

/-- Number of the passport of a GD, SV or DOUT signal (R230). -/
def ppOf (sig : Nat) : Nat :=
  match sigClass sig with
  | 0x01 => sigInst sig
  | 0x02 => 24 + sigInst sig
  | _ => 32 + sigInst sig

/-- The declared value of a quantity: 0 R_COLD, 1 R_HOT, 2 L, 3 I_PK, 4 TAU, 5 I_SET. -/
def ppDeclared (s : State) (n q : Nat) : Nat :=
  match q with
  | 0 => s.cf (Obj.ppDeclRCold n)
  | 1 => s.cf (Obj.ppDeclRHot n)
  | 2 => s.cf (Obj.ppDeclL n)
  | 3 => s.cf (Obj.ppDeclIPk n)
  | 4 => s.cf (Obj.ppDeclTau n)
  | _ => s.cf (Obj.ppDeclISet n)

/-- The value in force: learned where one exists, else declared (R230). -/
def ppVal (s : State) (n q : Nat) : Nat :=
  match (s.ppCh n).learned.get? q with
  | some v => v
  | none => s.ppDeclared n q

/-- A valid passport (R231). -/
def ppValid (s : State) (n : Nat) : Bool := s.ppVal n 5 ≠ 0

/-- PP_SOURCE (R250): 0 none, 1 declared, 2 learned, 3 mixed. -/
def ppSourceOf (s : State) (n : Nat) : Nat :=
  let learned := (s.ppCh n).learned
  let decl := (List.range 6).any (fun q => (learned.get? q).isNone && s.ppDeclared n q ≠ 0)
  if learned.isEmpty then (if decl then 1 else 0) else if decl then 3 else 2

/-- P_PK and P_SET of a GD passport, 10 mW (R233): MOSFET_QG × 10.5 V × f + 10 mW, or 10 mW when static. -/
def gdDiss (s : State) (c : Nat) : Nat :=
  let p := s.cf (Obj.gdPwmPeriod c)
  if p = 0 then 1 else ceilDiv (s.cf (Obj.gdMosfetQg c) * 1050 + 10 * p) (10 * p)

/-- P_PK or P_SET of a DOUT passport for a current in 10 mA and a resistance in mΩ, 10 mW (R233). -/
def doutDiss (i r : Nat) : Nat := ceilDiv (i * i * r) 100000

/-- P_PK in force (R233). -/
def ppPPkOf (s : State) (n : Nat) : Nat :=
  if n < 24 then s.gdDiss n else if n < 32 then 0 else doutDiss (s.ppVal n 3) 500
/-- P_SET in force (R233); a DOUT stage counts as 0.5 Ω, which no command of the table measures. -/
def ppPSetOf (s : State) (n : Nat) : Nat :=
  if n < 24 then s.gdDiss n else if n < 32 then 0
  else doutDiss (s.ppVal n 5) 500

/-- The temperature a channel's calibration goes by, 0.1 °C (R151, R239): TH_SENSOR, or T_EST where the model runs. -/
def thSensor (s : State) (c : Nat) : Int :=
  let sig := s.cf (Obj.gdThSensor c)
  if sig = 0 then s.msv 64 else s.msv (sigInst sig)
def gdTemp (s : State) (c : Nat) : Int :=
  if s.cf (Obj.gdThRth c) ≠ 0 then signedOf 2 (s.ob (Obj.gdTEst c)) else s.thSensor c

/-- RDS(on) in µΩ (R239): CAL_VALUE at CAL_T, or RDS_NOM at 25 °C before the first calibration, under RDS_TC. -/
def rdsOn (s : State) (c : Nat) : Nat :=
  let cal := s.calCh c
  let base := if cal.taken.isSome then s.ob (Obj.calValue c) else s.cf (Obj.calRdsNom c)
  let t0 : Int := if cal.taken.isSome then signedOf 2 (s.ob (Obj.calT c)) else 250
  let d := s.gdTemp c - t0
  ((base : Int) + roundDivInt ((base : Int) * s.cf (Obj.calRdsTc c) * d) 10000000).toNat

/-- A GD current as every decision takes it: 1.25 times the estimate while the reading is extrapolated (R240). -/
def gdDecide (s : State) (c i : Nat) : Nat := if s.bit (Obj.gdStatus c) 12 then ceilDiv (5 * i) 4 else i

/-! ## Profiles -/

/-- A value scaled by `v ÷ full`, rounded up. -/
def scaleUp (x v full : Nat) : Nat := ceilDiv (x * v) full

/-- The default profile of a class, 0 GD, 1 SV, 2 DOUT, 3 MX, scaled by `v ÷ full` (R111, R131). -/
def defaultProfile (s : State) (c v full : Nat) : Profile :=
  { step := s.cf (Obj.defKind c) = 1
    peak := scaleUp (s.cf (Obj.defPeak c)) v full
    tau := 10000 * s.cf (Obj.defTau c)
    settled := scaleUp (s.cf (Obj.defSettled c)) v full
    rise := max 1000 (us (s.cf (Obj.defRise c)))
    pPeak := scaleUp (s.cf (Obj.defPPeak c)) v full
    pSettled := scaleUp (s.cf (Obj.defPSettled c)) v full }

/-- t_rise of a gate-driver channel going from `old` to `new` (R146). -/
def gdRise (s : State) (c old new : Nat) : Nat :=
  let soft := ms (s.cf (Obj.gdSoftTime c))
  let ch := s.gdCh c
  let t := if soft = 0 then 10 * s.cf (Obj.gdRampMax c)
    else if old = 0 then soft * new / 10000
    else if ch.softK ≠ 0 then
      soft * (new - ceilDiv (10000 * ch.softK * s.cf (Obj.gdPwmPeriod c)) soft) / 10000
    else 10 * s.cf (Obj.gdRampMax c)
  max 1000 t

/-- The profile of a GD channel at a duty (R110, R111); for a bridge the drive duty (R163). -/
def gdProfile (s : State) (c old v : Nat) : Profile :=
  if s.ppValid c then
    { peak := scaleUp (s.ppVal c 3) v 10000, tau := 10000 * s.ppVal c 4, settled := scaleUp (s.ppVal c 5) v 10000
      rise := s.gdRise c old v, pPeak := scaleUp (s.gdDiss c) v 10000, pSettled := scaleUp (s.gdDiss c) v 10000 }
  else s.defaultProfile 0 v 10000

/-- The profile of a DOUT at a duty (R110, R211, R233). -/
def doutProfile (s : State) (d v : Nat) : Profile :=
  let n := 32 + d
  if s.ppValid n then
    { peak := scaleUp (s.ppVal n 3) v 10000, tau := 10000 * s.ppVal n 4, settled := scaleUp (s.ppVal n 5) v 10000
      rise := us 100, pPeak := scaleUp (s.ppPPkOf n) v 10000, pSettled := scaleUp (s.ppPSetOf n) v 10000 }
  else s.defaultProfile 2 v 10000

/-- Measured voltage of a solenoid's boost source, mV (R191): VBAT where BOOST_SOURCE is 0 or VBOOST is low (R186). -/
def svSource (s : State) (c : Nat) : Nat :=
  let vb := (s.msv 1).toNat
  if s.cf (Obj.svBoostSource c) = 1 && s.vbat + 5000 ≤ vb then vb else s.vbat

/-- Power of a current in mA in the path resistance of R183, in 10 mW rounded up. -/
def svPower (s : State) (c i : Nat) : Nat := ceilDiv (i * i) (if s.svPaired c then 200000 else 100000)

/-- The profile of a solenoid (R191): `raise` a proportional raise in hold from `old`, else a start with boost. -/
def svProfile (s : State) (c old v : Nat) (raise : Bool) : Profile :=
  let n := 24 + c
  if s.ppValid n then
    let l := s.ppVal n 2
    let iPk := if raise then v else s.cf (Obj.svPeakCurrent c)
    let tb := if raise then us (ceilDiv (l * (v - old)) (max 1 s.vbat)) else us (ceilDiv (l * iPk) (max 1 (s.svSource c)))
    let iSet := v + s.cf (Obj.svDitherAmpl c)
    { step := true, peak := ceilDiv iPk 10
      tau := if raise then 0 else 10000 * ceilDiv (tb + us (s.cf (Obj.svPeakTime c))) 10000
      settled := ceilDiv iSet 10, rise := max 1000 (10000 * ceilDiv tb 10000), pPeak := s.svPower c iPk, pSettled := s.svPower c iSet }
  else s.defaultProfile 1 1 1

/-- The duty a bridge's drive runs at (R162): SLOW_DUTY for a slow wiper, half of BR_DUTY for a window that closes
while it is not normalised (R168), else BR_DUTY. -/
def brDutyFor (s : State) (h code dir : Nat) : Nat :=
  let f := s.cf (Obj.brFunction h)
  if f = 4 then (if code = 4 then s.cf (Obj.brDuty h) else s.cf (Obj.brSlowDuty h))
  else if f = 2 && dir = 2 && !s.bit (Obj.brFlags h) 6 then s.cf (Obj.brDuty h) / 2
  else s.cf (Obj.brDuty h)

/-- Full-scale current of a bunting node's channel, mA (R271): CH_I_FS, or the reported capability where it is 0. -/
def bpIFs (s : State) (sig : Nat) : Nat :=
  let e := s.cf (domKey (0x5100 + bpPort sig) (bpNode sig))
  if bitsOf e 0 16 ≠ 0 then bitsOf e 0 16 else ((s.bpCh (bpPort sig)).nodes.read {} (bpNode sig)).iFs

/-- Current of a bunting channel at a value, in µA (R110). -/
def bpCurrent (s : State) (sig v : Nat) : Nat := s.bpIFs sig * 1000 * v / 4095

/-- I_port of a matrix port in µA for a sum of effective values (R276). -/
def mxCurrent (s : State) (p sum : Nat) : Nat :=
  let tl := s.cf (Obj.mxLinePeriod p)
  let w := tl - 10 * s.cf (Obj.mxPreTime p)
  s.cf (Obj.mxColIFs p) * 1000 * w * sum / (8 * tl * 255)

/-- P_port of a matrix port in µW for a current in µA (R276). -/
def mxPower (s : State) (p ua : Nat) : Nat := ua * (s.vbat - s.cf (Obj.mxColVf p)) / 1000

/-- The derating factor of an output's signal (R280). -/
def factorOf (s : State) (sig : Nat) : Nat := s.factors.read 4096 sig

/-- A value under the output's derating factor (R280). -/
def derated (s : State) (sig v : Nat) : Nat := roundDiv (v * s.factorOf sig) 4096

/-- The profile of a GD, DOUT or SV output going from `old` to `v` (R110), as derated (R280). -/
def sigProfile (s : State) (sig old0 v0 : Nat) : Profile :=
  let i := sigInst sig
  let old := s.derated sig old0
  let v := s.derated sig v0
  match sigClass sig with
  | 0x01 => match s.fanOfLead i with
    | some f => if s.cf (Obj.fanControl f) = 1 then s.gdProfile i 0 10000 else s.gdProfile i old v
    | none => s.gdProfile i old v
  | 0x04 => s.doutProfile i v
  | 0x02 => s.svProfile i old v (s.cf (Obj.svMode i) = 2 && s.ob (Obj.svPhase i) = 4 && old ≠ 0)
  | _ => {}

/-- Whether the channel's passport is missing, so that the default profile is used (R111). -/
def usesDefault (s : State) (sig : Nat) : Bool :=
  (sigClass sig = 0x01 || sigClass sig = 0x02 || sigClass sig = 0x04) && !s.ppValid (ppOf sig)

/-- The largest predicted current of a profile; I_pk below I_set counts as I_set (R113). -/
def profTop (p : Profile) : Nat := max p.peak p.settled

/-- A change of commanded value is a switch-on (R83): it raises the predicted current. Bunting and matrix outputs are
judged by their value. A solenoid's new non-zero value is one when it restarts boost (R189) or raises the setpoint (R110). -/
def raises (s : State) (sig old v : Nat) : Bool :=
  let i := sigInst sig
  match sigClass sig with
  | 0x01 => profTop (s.sigProfile sig old v) > profTop (s.sigProfile sig old old) ||
      (old = 0 && v ≠ 0)
  | 0x04 => profTop (s.sigProfile sig old v) > profTop (s.sigProfile sig old old) || (old = 0 && v ≠ 0)
  | 0x02 =>
    if v = 0 || v = old then false
    else if old = 0 then true
    else if s.cf (Obj.svMode i) = 1 then true
    else old < v
  | _ => old < v

end Sys2Proof.Machine.State
end

