-- ==== Sys2Proof/Machine/Coils.lean ====
section
/-!
DEFINITION. A solenoid channel's profile (spec/08, R181–R196): its stages, phases and decays, and the end of a movement
evaluation.
-/

namespace Sys2Proof.Machine

/-- The supply a high-side stage connects SVHc to (R181). -/
inductive SvSupply where
  | vbat
  | vboost
  deriving DecidableEq, Repr

/-- The switches of a channel (R181): the high side's supply, the low side, the freewheel switch, and whether SVLc's decay goes to
VBOOST. -/
structure SvSwitches where
  high : Option SvSupply := none
  low : Bool := false
  free : Bool := false
  recover : Bool := false
  deriving DecidableEq, Repr

namespace State

def svSig (c : Nat) : Nat := mkSig clsSV c
def svPost (s : State) (c k v : Nat) : State := s.post (192 + 12 * c + k) v
def svPostIf (s : State) (b : Bool) (c k v : Nat) : State := if b then s.svPost c k v else s
def svBit (s : State) (c i : Nat) : Bool := s.bit (Obj.svStatus c) i
def setSvBit (s : State) (c i : Nat) (b : Bool) : State := s.setBit (Obj.svStatus c) i b
def svPh (s : State) (c : Nat) : Nat := s.ob (Obj.svPhase c)

/-- 2 for a pair, whose limits double (R183), else 1. -/
def svTwo (s : State) (c : Nat) : Nat := if s.svPaired c then 2 else 1

/-- The profile drives the coil: boost, peak hold or hold. -/
def svDriven (s : State) (c : Nat) : Bool := s.svPh c = 2 || s.svPh c = 3 || s.svPh c = 4

/-- The channel whose profile drives a channel's stages: the even one of a pair (R183). -/
def svMain (s : State) (c : Nat) : Nat := if s.svBound c then c - 1 else c

/-- OPEN_LOAD shows an open load of either state (R199, R200). -/
def svShowOpen (s : State) (c : Nat) : State := s.setSvBit c 6 ((s.svCh c).openOn || (s.svCh c).openOff)

/-! ## Stages and setpoint (R181, R185, R186) -/

/-- The paths of a channel (R181): drive from a supply, slow decay, fast decay. -/
def svDrivePath (x : SvSupply) : SvSwitches := { high := some x, low := true }
def svSlowPath : SvSwitches := { low := true, free := true }
def svFastPath (recover : Bool) : SvSwitches := { free := true, recover := recover }

/-- The paths that a channel's phase uses, in the order it takes them in a chop period (R186); a channel that its profile does not
drive has all its switches off (R204). -/
def svPaths (s : State) (c : Nat) : List SvSwitches :=
  let m := s.svMain c
  let src := if (s.svCh m).fromBoost then SvSupply.vboost else .vbat
  let fast := svFastPath (s.cf (Obj.svOffMode m) = 1 && !s.svBit m 11)
  match s.svPh m with
  | 2 => [svDrivePath src]
  | 3 => [svDrivePath src, svSlowPath]
  | 4 => [svDrivePath .vbat, svSlowPath, fast]
  | 5 => [fast]
  | _ => [{}]

/-- The dither at this instant in mA (R185): a triangle of ±DITHER_AMPL and period DITHER_PERIOD, whose origin the manual does not
give. -/
def svDither (s : State) (c : Nat) : Int :=
  let a : Int := s.cf (Obj.svDitherAmpl c)
  let p := 10000 * s.cf (Obj.svDitherPeriod c)
  let x : Int := ((s.now + Config.unmeasured (Obj.svDitherPeriod c) 0) % p : Nat)
  if s.cf (Obj.svMode c) ≠ 2 then 0
  else if 2 * x < p then 4 * a * x / p - a else 3 * a - 4 * a * x / p

/-- The current that the loop regulates to, in mA: in hold the setpoint and its dither, limited to 0 and the coarse range (R185). -/
def svRegulated (s : State) (c : Nat) : Nat :=
  let sp := (s.svCh c).setpoint
  if s.svPh c = 4 then min (6400 * s.svTwo c) ((sp : Int) + s.svDither c).toNat else sp

/-- REG_BAND in force, in % (R187, R240). -/
def svBand (s : State) (c : Nat) : Nat := (if s.svBit c 12 then 2 else 1) * s.cf (Obj.svRegBand c)

/-- A current within the band of the setpoint. -/
def svInBand (s : State) (c i : Nat) : Bool :=
  let sp := s.svRegulated c
  decide (100 * (max i sp - min i sp) ≤ sp * s.svBand c)

/-! ## Phases (R186) -/

/-- A phase entered (R186). -/
def svEnter (s : State) (c ph : Nat) : State :=
  (s.setOb (Obj.svPhase c) ph).setSv c { s.svCh c with phaseAt := s.now }

/-- A movement evaluation ends with a result (R196): the miss count and offsets 6 and 7 follow it. -/
def svMoved (s : State) (c result time : Nat) : State :=
  let ch := s.svCh c
  let s := s.setSv c { ch with windowK := none, windowD := false, peakFirst := false
                               misses := if result = 1 then 0 else if result = 3 then ch.misses else ch.misses + 1 }
  let s := s.setOb (Obj.svMoveResult c) result
  if result = 1 then
    ((s.setSvBit c 2 true).setOb (Obj.svMoveTime c) time).svPost c 6 (s.cf (Obj.svMoveClass c) * 2 ^ 16 + time)
  else if result = 3 then s
  else (s.setSvBit c 2 false).svPostIf (decide (s.cf (Obj.svMoveMissLimit c) ≤ ch.misses + 1)) c 7 result

/-- An evaluation in progress is interrupted: result 3 (R194, R196). -/
def svInterrupt (s : State) (c : Nat) : State :=
  let ch := s.svCh c
  if ch.windowK.isSome || ch.windowD then s.svMoved c 3 0 else s

/-- Recovery into VBOOST is possible (R182). -/
def svRecoverOk (s : State) : Bool :=
  let vb := s.msv 1
  decide (s.msv 0 + 5000 ≤ vb) && decide (vb ≤ 58000)

/-- A decay chooses its path (R182): the clamp where recovery is not possible, with offset 9 value 2 when that begins. -/
def svDecay (s : State) (c : Nat) : State :=
  if s.cf (Obj.svOffMode c) = 0 then s
  else
    let fall := !s.svRecoverOk
    let was := s.svBit c 11
    (s.setSvBit c 11 fall).svPostIf (fall && !was) c 9 2

/-- Hold entered (R186): offset 10 with the last boost time. -/
def svHold (s : State) (c : Nat) : State :=
  let s := (s.svEnter c 4).svPost c 10 (s.ob (Obj.svBoostTime c))
  let ch := s.svCh c
  (s.setSv c { ch with setpoint := ch.value, steadySince := s.now }).svDecay c

/-- Peak hold entered, or skipped where PEAK_TIME is 0 (R186). -/
def svPeak (s : State) (c : Nat) : State :=
  let s := s.svEnter c 3
  let s := s.setSv c { s.svCh c with setpoint := s.cf (Obj.svPeakCurrent c) }
  if s.cf (Obj.svPeakTime c) = 0 then s.svHold c else s

/-- Boost ended at the peak (R186, R195, R199): BOOST_TIME, the flags that clear, and the recovery of R158. -/
def svBoostReached (s : State) (c : Nat) : State :=
  let ch := s.svCh c
  let s := s.setOb (Obj.svBoostTime c) (saturate ((s.now - ch.boostAt) / 100) 65535)
  let why := ch.recover
  let s := s.setSv c { ch with recover := 0, noRise := false, peakFirst := ch.windowD, openOn := false
                               goodSince := if why ≠ 0 then some s.now else ch.goodSince }
  let s := ((s.setSvBit c 5 false).svShowOpen c).setSvBit c 10 false
  (s.svPostIf (why ≠ 0) c 11 why).svPeak c

/-- The profile starts or restarts from boost at a present current in mA (R189, R190): coarse range unless it is always
fine; from VBAT where VBOOST is low (R186); a class D evaluation runs where the current is below 10 % of the peak, but under the hoist
safe state (R203). -/
def svStart (s : State) (c i : Nat) : State :=
  let peak := s.cf (Obj.svPeakCurrent c)
  let want := s.cf (Obj.svBoostSource c) = 1
  let low := decide (s.msv 1 < s.msv 0 + 5000)
  let clean := decide (10 * i < peak)
  let was := s.svPh c
  let s := s.svInterrupt c
  let s := if was = 5 && !clean && s.cf (Obj.svMoveClass c) ≠ 0 then s.setOb (Obj.svMoveResult c) 3 else s
  let s := s.svEnter c 2
  let s := s.setSv c { s.svCh c with boostAt := s.now, noRise := false, after := none, again := false, fromBoost := want && !low
                                     windowD := s.cf (Obj.svMoveClass c) = 2 && clean && !s.hoist.safe }
  let s := ((s.setSvBit c 0 true).setSvBit c 3 false).setOb (Obj.svRange c) (if s.cf (Obj.svRangeMode c) = 2 then 0 else 1)
  let s := s.svPostIf (want && low) c 9 3
  if peak ≤ i then s.svBoostReached c else s

/-- Both stages off (R186, R189, R194): an evaluation in progress is interrupted, a class K window opens where peak hold or hold ends
with 50 mA flowing, but under the hoist safe state (R203). -/
def svStagesOff (s : State) (c i : Nat) : State :=
  let ph := s.svPh c
  let s := s.svInterrupt c
  let k := s.cf (Obj.svMoveClass c) = 1 && (ph = 3 || ph = 4) && decide (50 ≤ i) && !s.hoist.safe
  let s := (s.setSvBit c 0 false).setSvBit c 3 false
  let s := s.setSv c { s.svCh c with setpoint := 0, after := none, again := false, windowK := if k then some s.now else none }
  if ph = 2 || ph = 3 || ph = 4 then s.svEnter c 5 else s

/-- Fast off at once (R186, R189), by the path of R182. -/
def svFastOff (s : State) (c i : Nat) : State := (s.svDecay c).svStagesOff c i

/-- The current taken to flow where no command has measured it: the regulated one in peak hold and hold, else the last I_MEAS. -/
def svFlow (s : State) (c : Nat) : Nat := if s.svPh c = 3 || s.svPh c = 4 then s.svRegulated c else s.ob (Obj.svIMeas c)

/-- A commanded 0 cancels the pending retry (R153): the channel is free, unless it is latched or still hot. -/
def svCancel (s : State) (c : Nat) : State :=
  let s := (s.setSv c { s.svCh c with retryAt := none }).setSvBit c 14 false
  if s.svBit c 15 || s.hoist.safe then s
  else
    let s := s.setSv c { s.svCh c with off := s.svBit c 8 }
    if s.svPh c = 1 || s.svPh c = 6 then s.setOb (Obj.svPhase c) 0 else s

/-- A channel commanded off (R189): its retry is cancelled, and it goes into fast off where it drives its coil. -/
def svOff (s : State) (c i : Nat) : State :=
  let s := s.svCancel c
  if s.svDriven c then s.svFastOff c i else s

end State
end Sys2Proof.Machine
end

