-- ==== Sys2Proof/Machine/Drive.lean ====
section
/-!
DEFINITION. What an output does with an output command (R105): gate-driver and DOUT pulses, bridges and fans,
solenoids, and the hoist safe state of every output (R93, R154, R407).
-/

namespace Sys2Proof.Machine.State

/-! ## Gate drivers (R139–R147) -/

/-- t_chk in ticks (R140). -/
def gdTchk (s : State) (c : Nat) : Nat := 10 * s.cf (Obj.gdRampMax c) + 50

/-- A duty under a shortest on- and off-time `t` of a period of `p` ticks (R140, R211). -/
def pulseLimit (v p t : Nat) : Nat :=
  if p = 0 then v
  else
    let on := v * p / 10000
    if on = 0 then 0
    else if on < t then min 10000 (ceilDiv (t * 10000) p)
    else if on < p && p - on < t then 10000 else v

/-- The time of a healthy turn-on in 10 ns (R145): longer than 50 ns and at most RAMP_MAX, else a free value. -/
def gdTurnOn (s : State) (c : Nat) : Nat :=
  6 + Config.unmeasured (Obj.gdGateTon c) s.now % (10 * s.cf (Obj.gdRampMax c) - 5)

/-- APPLIED_VALUE and the on bits of a channel shown; GATE_TON where it turns on (R145), which a switching channel does in every
period; VDS_MEAS of its last on-pulse, a free value (R159). -/
def gdShow (s : State) (c v : Nat) : State :=
  let on := v ≠ 0 && (s.ob (Obj.gdAppliedValue c) = 0 || s.cf (Obj.gdPwmPeriod c) ≠ 0)
  let s := if on then s.setIn 24 Obj.gdGateTon c (s.gdTurnOn c) else s
  let s := if v ≠ 0 || s.ob (Obj.gdAppliedValue c) ≠ 0 then
      s.setIn 24 Obj.gdVdsMeas c (Config.unmeasured (Obj.gdVdsMeas c) s.now % 65536) else s
  ((s.setOb (Obj.gdAppliedValue c) v).setBit (Obj.gdStatus c) 0 (v ≠ 0)).setBit (Obj.gdStatus c) 2 (v ≠ 0)

/-- A channel driven at an applied value with a PWM period; the lower channel of a switching pair with HB_SYNC conducts in the
off-time, so it reads 10,000 less the upper channel's value, else 0 (R141). -/
def gdApplyAt (s : State) (c v period : Nat) : State :=
  let s := s.gdShow c v
  if s.cf (Obj.gdMode c) = 3 then
    let sync := s.cf (Obj.gdHbSync c) = 1 && period ≠ 0 && v ≠ 0
    s.gdShow (c + 1) (if sync then 10000 - v else 0)
  else s

/-- A channel driven at an applied value with its own PWM period. -/
def gdApply (s : State) (c v : Nat) : State := s.gdApplyAt c v (s.cf (Obj.gdPwmPeriod c))

/-- The channel whose command covers a channel: the upper one of a pair (R141), a bridge's or fan's lead (R160, R173). -/
def gdLead (s : State) (c : Nat) : Nat :=
  match s.bridgeOf c with
  | some h => s.brLead h
  | none => if s.cf (Obj.gdMode c) = 4 then c - 1 else c

/-- The channels that one command covers: a bridge's four, a pair's two, or the channel alone (R141, R160, R173). -/
def gdMembers (s : State) (c : Nat) : List Nat :=
  match s.bridgeOf c with
  | some h => [s.brLead h, s.brLead h + 1, s.brOther h, s.brOther h + 1]
  | none => if s.cf (Obj.gdMode c) = 3 then [c, c + 1] else if s.cf (Obj.gdMode c) = 4 then [c - 1, c] else [c]

/-- A channel's function waits for a retry or is latched (R154), by its lead's own settings (R172). -/
def gdWaits (s : State) (c : Nat) : Bool :=
  s.bit (Obj.gdStatus (s.gdLead c)) 14 || s.bit (Obj.gdStatus (s.gdLead c)) 15

/-- A condition that holds a channel off still stands: VCP low, drain rail absent, overtemperature. -/
def gdHeld (s : State) (c : Nat) : Bool :=
  s.bit (Obj.gdStatus c) 10 || s.bit (Obj.gdStatus c) 11 || s.bit (Obj.gdStatus c) 8

/-- A protection keeps a channel, or another channel of its function, off (R154). -/
def gdBlocked (s : State) (c : Nat) : Bool := s.gdWaits c || (s.gdMembers c).any (fun i => (s.gdCh i).off)

/-- A commanded 0 cancels the pending retry (R153): what holds a channel of the function off is over, but for a latched one and
for a condition that still stands. -/
def gdCancel (s : State) (c : Nat) : State :=
  let l := s.gdLead c
  let s := (s.setGd l { s.gdCh l with retryAt := none }).setBit (Obj.gdStatus l) 14 false
  if s.bit (Obj.gdStatus l) 15 || s.hoist.safe then s
  else forEach (s.gdMembers c) (fun s i => s.setGd i { s.gdCh i with off := s.gdHeld i }) s

/-- Every enabled release that gates an output is open (R407). -/
def gateOpen (s : State) (sig : Nat) : Bool :=
  (List.range 16).all fun r =>
    !(s.cf (Obj.relEnable r) = 1 && s.cf (Obj.relGateFirst r) ≠ 0 && s.cf (Obj.relGateFirst r) ≤ sig &&
      sig ≤ s.cf (Obj.relGateLast r)) || s.ob (Obj.relState r) = 1

/-- The stages of an output pass their self-tests (R465): every channel of its function. -/
def stageOk (s : State) (sig : Nat) : Bool :=
  let i := sigInst sig
  let chans := if sigClass sig ≠ clsGD then [i] else s.gdMembers i
  chans.all (fun c => !s.ft.stagesOff.contains (mkSig (sigClass sig) c))

/-- A gate-driver channel turned off: no duty, soft start ended (R139, R147). -/
def gdOff (s : State) (c : Nat) : State :=
  let s := s.setGd c { s.gdCh c with softK := 0 }
  (s.gdApply c 0).setBit (Obj.gdStatus c) 13 false

/-- The duty a gate-driver channel is driven at (R139): 0 at once, a static channel at once, a PWM channel at its next
period start. A channel held off by a protection or by the hoist safe state only takes note of it (R154). -/
def gdDrive (s : State) (c v : Nat) : State :=
  let s := s.setGd c { s.gdCh c with value := v }
  if s.cf (Obj.gdMode c) = 0 then s
  else if v = 0 then (s.gdOff c).gdCancel c
  else if s.gdBlocked c || s.hoist.safe then s
  else if s.cf (Obj.gdPwmPeriod c) = 0 then s.gdApply c (s.derated (mkSig clsGD c) v)
  else s

/-! ## Bridges (R160, R163) -/

/-- Drive the four channels of a bridge (R160, R162), with the lead's PWM_PERIOD: 1 forward, 2 reverse, 3 brake, else coast. -/
def brChannels (s : State) (h dir duty : Nat) : State :=
  let a := s.brLead h
  let b := s.brOther h
  let p := s.cf (Obj.gdPwmPeriod a)
  match dir with
  | 1 => ((s.gdOff b).gdShow (b + 1) 10000).gdApplyAt a duty p
  | 2 => ((s.gdOff a).gdShow (a + 1) 10000).gdApplyAt b duty p
  | 3 => (((s.gdOff a).gdOff b).gdShow (a + 1) 10000).gdShow (b + 1) 10000
  | _ => (((s.gdOff a).gdOff b).gdShow (a + 1) 0).gdShow (b + 1) 0

/-- MOVING, and BR_STATE, which reads 7 while a limited lock code waits (R169). -/
def brShow (s : State) (h st : Nat) : State :=
  let b := s.brCh h
  (s.setOb (Obj.brState h) (if b.waiting.isSome then 7 else st)).setBit (Obj.brFlags h) 0 (b.dir = 1 || b.dir = 2)

/-- A motor start admitted: the bridge drives in the direction asked for (R163). -/
def brStart (s : State) (h : Nat) : State :=
  let b := s.brCh h
  if b.next = 0 then s
  else
    let duty := s.brDutyFor h b.code b.next
    let s := s.setBr h { b with dir := b.next, duty := duty, next := 0, since := s.now, overs := 0, early := (0, 0, 0)
                                closing := [], closingV := [], left := false, reversed := 0 }
    let s := s.brShow h (if b.reversal then 5 else if b.next = 1 then 2 else 3)
    (s.setBit (Obj.brFlags h) 1 false).brChannels h b.next duty

/-! ## Fans (R173, R175) -/

/-- A fan's pair turned off: it shows no speed (assumption 114) and no duty limit (R180). -/
def fanOff (s : State) (f : Nat) : State :=
  let s := ((s.setFan f { s.fanCh f with duty := 0 }).gdOff (s.fanLead f)).gdShow (s.fanLead f + 1) 0
  ((s.setIn 4 Obj.fanSpeed f 0).setIn 4 Obj.fanSpeedSource f 0).setBit (Obj.fanFlags f) 0 false

/-- A fan driven at a duty. -/
def fanDuty (s : State) (f d : Nat) : State :=
  (s.setFan f { s.fanCh f with duty := d }).gdDrive (s.fanLead f) d

/-- A start of a fan (R174): its spin-up window begins, and RIPPLE_RATIO starts at RIPPLES_PER_REV. A fan that a protection keeps
off does not start (R154). -/
def fanStart (s : State) (f : Nat) : State :=
  if s.gdBlocked (s.fanLead f) then s
  else
    let c := s.fanCh f
    let d := if s.cf (Obj.fanControl f) = 1 then s.cf (Obj.fanStartDuty f) else c.value
    let s := s.setFan f { c with since := s.now, retryAt := none, lastErr := 0, lastUpdate := s.now, lastLearn := s.now
                                 agreeSince := none }
    let s := (s.setIn 4 Obj.fanRippleRatio f (100 * s.cf (Obj.fanRipplesPerRev f))).setBit (Obj.fanFlags f) 1 false
    (s.setOb (Obj.fanState f) 1).fanDuty f d

/-- A fan's lead value delivered (R173, R175). -/
def fanDeliver (s : State) (f v : Nat) : State :=
  let s := s.setFan f { s.fanCh f with value := v }
  let locked := s.bit (Obj.fanFlags f) 2
  let st := s.ob (Obj.fanState f)
  if v = 0 then
    let s := ((s.setFan f { s.fanCh f with retryAt := none }).fanOff f).gdCancel (s.fanLead f)
    s.setOb (Obj.fanState f) (if locked then 4 else 0)
  else if locked || st = 3 then s
  else if st = 1 || st = 2 then (if s.cf (Obj.fanControl f) = 1 then s else s.fanDuty f v)
  else s.fanStart f

/-! ## Digital outputs (R211) -/

/-- APPLIED_VALUE and APPLIED_ON of a DOUT shown; a turn-off goes through the clamp (R212). -/
def doutShow (s : State) (d v : Nat) : State :=
  let s := if v = 0 && s.ob (Obj.doutAppliedValue d) ≠ 0 then s.setDout d { s.doutCh d with clampAt := some s.now } else s
  (s.setOb (Obj.doutAppliedValue d) v).setBit (Obj.doutStatus d) 0 (v ≠ 0)

/-- CLAMPING (R212): from a turn-off until the load current has decayed, a time that the load decides, so a free value; in the
off-times of a PWM period likewise. -/
def doutClamps (s : State) (d : Nat) : Bool :=
  let v := s.ob (Obj.doutAppliedValue d)
  if v = 0 then match (s.doutCh d).clampAt with
    | some t => decide (s.now - t < Config.unmeasured (Obj.doutStatus d) t)
    | none => false
  else v ≠ 10000 && s.cf (Obj.doutPwmPeriod d) ≠ 0 && Config.unmeasured (Obj.doutStatus d) s.now % 2 = 1

/-- A commanded 0 cancels the pending retry (R153, R213): what holds the stage off is over, but for a latched one and for one
that is still hot. -/
def doutCancel (s : State) (d : Nat) : State :=
  let s := (s.setDout d { s.doutCh d with retryAt := none }).setBit (Obj.doutStatus d) 14 false
  if s.bit (Obj.doutStatus d) 15 || s.hoist.safe then s
  else s.setDout d { s.doutCh d with off := (s.doutCh d).hot }

/-- A DOUT driven (R211): 0 at once, static at once, PWM at its next period start. -/
def doutDrive (s : State) (d v : Nat) : State :=
  let s := s.setDout d { s.doutCh d with value := v }
  if s.cf (Obj.doutEnable d) = 0 then s
  else if v = 0 then (s.doutShow d 0).doutCancel d
  else if (s.doutCh d).off || s.hoist.safe then s
  else if s.cf (Obj.doutPwmPeriod d) = 0 then
    (s.setDout d { s.doutCh d with onSince := s.now }).doutShow d (s.derated (mkSig clsDOUT d) v)
  else s

/-! ## Every class -/

/-- The value an output is driven at for a commanded value: 0 while its gate is closed (R407) or a stage of it is disabled
(R465). -/
def gated (s : State) (sig v : Nat) : Nat := if s.gateOpen sig && s.stageOk sig then v else 0

/-- A commanded value reaches the output's generator (R105). Matrix and bunting values wait in frame memory, which is
the table of commanded values itself; a bridge lead's code and a solenoid's value wait for BRIDGE_COMMAND and
SV_COMMAND. -/
def drive (s : State) (sig v0 : Nat) : State :=
  let i := sigInst sig
  let v := s.gated sig v0
  if s.disabled sig then s
  else match sigClass sig with
  | 0x01 => match s.bridgeOfLead i with
    | some h => s.setBr h { s.brCh h with arrived := some v }
    | none => match s.fanOfLead i with
      | some f => s.fanDeliver f v
      | none => s.gdDrive i v
  | 0x02 => s.setSv i { s.svCh i with arrived := some v }
  | 0x04 => s.doutDrive i v
  | _ => s

/-- A commanded value set and delivered (R80, R105). -/
def command (s : State) (sig v : Nat) : State :=
  let s := { s with own := { s.own with commanded := s.own.commanded.write 0 sig v } }
  s.drive sig v

/-- The commanded value of an owned output (R80). -/
def commandedOf (s : State) (sig : Nat) : Nat := s.own.commanded.read 0 sig

/-! ## The hoist safe state (R93) -/

/-- The latch that decides an output's hoist safe state: the highest entry that covers it (R89, R93). -/
def hoistLatch (s : State) (sig : Nat) : Option HoistLatch :=
  s.hoist.latches.foldl (fun best l =>
    if l.first ≤ sig && sig ≤ l.last then
      match best with
      | some b => if b.k ≤ l.k then some l else best
      | none => some l
    else best) none

/-- An output's value under the hoist safe state, `present` the value it now applies (R93, R173). A closed gate holds
it off, follow and HS_MODE 1 included (R409). -/
def hoistValue (s : State) (sig present : Nat) : Nat :=
  if !s.gateOpen sig || !s.stageOk sig then 0
  else match s.hoistLatch sig with
  | none => 0
  | some l => match l.mode with
    | 1 => match sigClass sig with
      | 0x01 => 10000
      | _ => s.fullOn sig
    | 2 => present
    | 3 => l.value
    | 4 => if s.ob (Obj.dinState l.din) = 1 then l.value else 0
    | _ => 0

/-- The hoist safe state of a GD channel (R156, R162, R173): a bridge coasts, a channel held off by a protection stays
off (R154). A value is taken as in R139: 0 and a static channel at once, a PWM channel at its next period start, with soft start. -/
def hoistGd (s : State) (c : Nat) : State :=
  if s.cf (Obj.gdMode c) = 0 then s
  else
    let s := s.setBit (Obj.gdStatus c) 4 true
    match s.bridgeOf c with
    | some h => if s.brLead h = c then
        ((s.setBr h { s.brCh h with dir := 0, next := 0 }).brShow h 0).brChannels h 0 0 else s
    | none =>
      if s.gdBound c then s
      else
        let v := s.hoistValue (mkSig clsGD c) (s.ob (Obj.gdAppliedValue c))
        let s := s.setGd c { s.gdCh c with value := v }
        if v = 0 || s.gdBlocked c then s.gdOff c
        else if s.cf (Obj.gdPwmPeriod c) = 0 then s.gdApply c v
        else s

/-- The hoist safe state of an SV channel (R203): a value of 0 is a fast off; a switch-on starts from boost; in proportional mode a
lower value is regulated at once; movement detection gives result 3. -/
def hoistSv (s : State) (c : Nat) : State :=
  if s.cf (Obj.svMode c) = 0 || s.svBound c then s
  else
    let s := (s.setSvBit c 4 true).svInterrupt c
    let ch := s.svCh c
    let v := if ch.off then 0 else s.hoistValue (mkSig clsSV c) (if s.svDriven c then ch.value else 0)
    let s := s.setSv c { ch with value := v }
    if v = 0 then (if s.svDriven c then s.svFastOff c (s.svFlow c) else s)
    else if !s.svDriven c || (v ≠ ch.value && (s.cf (Obj.svMode c) = 1 || decide (ch.value < v))) then s.svStart c (s.svFlow c)
    else if v ≠ ch.value && s.svPh c = 4 then (s.setSv c { s.svCh c with setpoint := v, after := none, steadySince := s.now }).svDecay c
    else s

/-- The hoist safe state of a DOUT (R215), with the committed PWM period as in R211: 0 and a static output at once, a PWM value at
its next period start. One held off by a trip stays off. -/
def hoistDout (s : State) (d : Nat) : State :=
  if s.cf (Obj.doutEnable d) = 0 then s
  else
    let s := s.setBit (Obj.doutStatus d) 4 true
    let v := s.hoistValue (mkSig clsDOUT d) (s.ob (Obj.doutAppliedValue d))
    let s := s.setDout d { s.doutCh d with value := v }
    if v = 0 || (s.doutCh d).off then s.doutShow d 0
    else if s.cf (Obj.doutPwmPeriod d) = 0 then s.doutShow d v
    else s

/-- The hoist safe state of a matrix port (R279): it is scanned from the latches. -/
def hoistMx (s : State) (p : Nat) : State :=
  if s.cf (Obj.mxEnable p) = 0 then s
  else
    let master := s.hoistValue (mkSig clsMX (256 + p)) (s.commandedOf (mkSig clsMX (256 + p)))
    let f := if s.cf (Obj.mxKnee p) = 1 then s.ob (Obj.mxFactor p) else 4096
    let eff := (List.range 64).foldl (fun (t : Table Nat) i =>
      let sig := mkSig clsMX (64 * p + i)
      let e := roundDiv (s.hoistValue sig (s.commandedOf sig) * master) 255
      t.write 0 i (roundDiv (e * f) 4096)) []
    (s.setMx p { s.mxCh p with eff := if (s.mxCh p).off then [] else eff }).setOb (Obj.mxState p) 5

/-- A bunting port stopped: its line is held low (R93, R269). -/
def stopBunting (s : State) (p : Nat) : State :=
  if s.cf (Obj.bpEnable p) = 0 then s
  else (s.setOb (Obj.bpState p) 4).setBit (Obj.bpFlags p) 0 false

/-- The Hoist die applies the hoist safe state to every output and stops the bunting ports (R22, R93, R366, R394). -/
def hoistSafe (s : State) : State :=
  let s := { s with hoist := { s.hoist with safe := true } }
  let s := forRange 24 hoistGd s
  let s := forRange 8 hoistSv s
  let s := forRange 8 hoistDout s
  let s := forRange 2 hoistMx s
  forRange 8 stopBunting s

/-- Outputs in follow answer an edge of their input under the hoist safe state (R93). -/
def hoistFollow (s : State) : State :=
  if s.hoist.safe then forRange 8 hoistDout (forRange 24 hoistGd s) else s

/-- The hoist safe state ends (R94, R364). -/
def endHoistSafe (s : State) : State :=
  let s := { s with hoist := { s.hoist with safe := false } }
  let s := forRange 24 (fun s c => s.setBit (Obj.gdStatus c) 4 false) s
  let s := forRange 8 (fun s c => s.setBit (Obj.svStatus c) 4 false) s
  forRange 8 (fun s d => s.setBit (Obj.doutStatus d) 4 false) s

/-- The latches as the committed safe-state table has them (R93). -/
def latchesOf (s : State) : List HoistLatch :=
  ((List.range 128).filter (fun k => s.cf (Obj.ssFirst k) ≠ 0)).map fun k =>
    { k := k, first := s.cf (Obj.ssFirst k), last := s.cf (Obj.ssLast k), mode := s.cf (Obj.hsMode k)
      value := s.cf (Obj.hsValue k), din := s.cf (Obj.hsDin k) }

end Sys2Proof.Machine.State
end

