-- ==== Sys2Proof/Machine/Groups.lean ====
section
/-!
DEFINITION. Lighting groups (R283, R284): their ranges, members and the value a level gives each member; the highest
value a fade or pattern may reach, which is its envelope (R112).
-/

namespace Sys2Proof.Machine.State

/-- Entry of a group in GROUP_TABLE, 136 bytes as a number, and its RANGE_COUNT and GRP_CURVE. -/
def groupEntry (s : State) (g : Nat) : Nat := s.cf (domKey 0x5300 g)
def groupRangeCount (s : State) (g : Nat) : Nat := bitsOf (s.groupEntry g) 0 8
def groupCurve (s : State) (g : Nat) : Nat := bitsOf (s.groupEntry g) 8 8

/-- A defined group (R283). -/
def groupDefined (s : State) (g : Nat) : Bool := s.groupRangeCount g ≠ 0

/-- The ranges of a table entry in order: FIRST and LAST. -/
def rangesOf (e : Nat) : List (Nat × Nat) :=
  (List.range (min 16 (bitsOf e 0 8))).map fun r =>
    let w := bitsOf e (64 + 64 * r) 64
    (bitsOf w 40 24, bitsOf w 16 24)

def groupRanges (s : State) (g : Nat) : List (Nat × Nat) := rangesOf (s.groupEntry g)

/-- Members a range has: the existing signals in it, ascending. -/
def rangeMembers (r : Nat × Nat) : List Nat :=
  ((List.range (r.2 + 1 - r.1)).map (fun i => r.1 + i)).filter sigValid

/-- The members of a group in index order (R284). -/
def groupMembers (s : State) (g : Nat) : List Nat := (s.groupRanges g).flatMap rangeMembers

/-- A signal is a member (R283). -/
def groupHas (s : State) (g sig : Nat) : Bool :=
  sigValid sig && (s.groupRanges g).any (fun r => decide (r.1 ≤ sig) && decide (sig ≤ r.2))

/-- The value a level gives a member (R138, R185, R211, R260, R273). -/
def levelValue (s : State) (sig l : Nat) : Nat :=
  match sigClass sig with
  | 0x02 => roundDiv (l * s.cf (Obj.svHoldNom (sigInst sig))) 65535
  | 0x08 => roundDiv (l * 4095) 65535
  | 0x09 => roundDiv (l * 255) 65535
  | _ => roundDiv (l * 10000) 65535

/-- The entry of a pattern block: 16 bytes as a number (R287), and its fields. -/
def blockKind (b : Nat) : Nat := bitsOf b 0 8
def blockFlag (b i : Nat) : Bool := bitAt b (8 + i)
def blockPeriod (b : Nat) : Nat := bitsOf b 16 16
def blockHi (b : Nat) : Nat := bitsOf b 32 16
def blockLo (b : Nat) : Nat := bitsOf b 48 16
def blockDuty (b : Nat) : Nat := bitsOf b 64 16
def blockWidth (b : Nat) : Nat := bitsOf b 80 16
def blockSpacing (b : Nat) : Nat := bitsOf b 96 16
def blockRepeat (b : Nat) : Nat := bitsOf b 112 16

/-- The running or ended fade of a group in a class. -/
def fadeOf (s : State) (g code : Nat) : Option Fade :=
  s.light.fades.find? (fun f => f.group == g && f.cls.code == code)

/-- The envelope of a tagged claim on a signal (R112): the value of the highest level of its fade or pattern, and the
fade time in ticks. -/
def envelopeOf (s : State) (sig code tag : Nat) : Nat × Tick :=
  if 512 ≤ tag then
    match s.light.engines.get? (tag - 512) with
    | some r => (s.levelValue sig (max (blockHi (s.cf (domKey 0x5400 r.block))) (blockLo (s.cf (domKey 0x5400 r.block)))), 0)
    | none => (0, 0)
  else
    match s.fadeOf (tag - 1) code with
    | some f => (s.levelValue sig (max f.l0 f.level), ms f.time)
    | none => (0, 0)

end Sys2Proof.Machine.State
end

