-- ==== Sys2Proof/Machine/Arbiter.lean ====
section
/-!
DEFINITION. Owners and commanded values (R79–R83, R494), and the admission arbiter's model, test and queue (R110–R122).
-/

namespace Sys2Proof.Machine.State

/-! ## Owners (R79–R81, R88, R89) -/

/-- The safe-state entry that decides a signal: the highest that covers it (R89). -/
def safeEntryFor (p : SafePlacement) (sig : Nat) : Option SafeEntry :=
  p.entries.foldl (fun best e =>
    if e.first ≤ sig && sig ≤ e.last then
      match best with
      | some b => if b.k ≤ e.k then some e else best
      | none => some e
    else best) none

/-- The value of a SAFE claim (R89). -/
def safeValue (s : State) (p : SafePlacement) (sig : Nat) : Nat :=
  match safeEntryFor p sig with
  | none => 0
  | some e => match e.mode with
    | 1 => s.fullOn sig
    | 2 => p.held.read 0 sig
    | 3 => e.value
    | _ => 0

/-- The claim slots of a signal but SAFE. -/
def slotsOf (s : State) (sig : Nat) : Slots := s.own.slots.read {} sig

/-- The SAFE claim of a signal; virtual flags have no SAFE slot (R106). -/
def safeClaim (s : State) (sig : Nat) : Option Claim :=
  match s.own.safe with
  | none => none
  | some p => if sigClass sig = clsVF then none else some { value := s.safeValue p sig, holder := 0xFFFD }

/-- The owner of an output (R80): the highest class whose slot is occupied, in the order S, SAFE, H, A, C. -/
def ownerOf (s : State) (sig : Nat) : Option (Cls × Claim) :=
  let t := s.slotsOf sig
  match t.s with
  | some c => some (.s, c)
  | none => match s.safeClaim sig with
    | some c => some (.safe, c)
    | none => match t.h with
      | some c => some (.h, c)
      | none => match t.a with
        | some c => some (.a, c)
        | none => match t.c with
          | some c => some (.c, c)
          | none => none

/-- The class code of a signal's owner, 7 for none (R81). -/
def ownerCode (s : State) (sig : Nat) : Nat := match s.ownerOf sig with
  | some (x, _) => x.code
  | none => 7

/-- The value an output is to be commanded to: its owner's, or its rest value 0 (R80). -/
def ownerValue (s : State) (sig : Nat) : Nat := match s.ownerOf sig with
  | some (_, c) => c.value
  | none => 0

/-- A slot of a signal read. -/
def slotOf (s : State) (sig : Nat) (x : Cls) : Option Claim :=
  match x with
  | .s => (s.slotsOf sig).s
  | .safe => s.safeClaim sig
  | .h => (s.slotsOf sig).h
  | .a => (s.slotsOf sig).a
  | .c => (s.slotsOf sig).c

/-- A slot filled or emptied (R79); SAFE slots change only with the placement. -/
def setSlot (s : State) (sig : Nat) (x : Cls) (v : Option Claim) : State :=
  let t := s.slotsOf sig
  let t := match x with
    | .s => { t with s := v }
    | .safe => t
    | .h => { t with h := v }
    | .a => { t with a := v }
    | .c => { t with c := v }
  { s with own := { s.own with slots := s.own.slots.write {} sig t } }

/-- The commander fields of a claim (R417). -/
def commander (s : State) (sig : Nat) (c : Claim) : Nat × Nat × Nat :=
  if c.holder = 0xFFFD then
    (4, match s.own.safe with
        | some p => (match safeEntryFor p sig with
          | some e => e.k
          | none => 0)
        | none => 0, 0)
  else if c.holder = 0xFFFE then
    if 0x10000 ≤ c.session then (2, c.session - 0x10000, (s.maps.read {} (c.session - 0x10000)).hostId)
    else (1, c.session, s.hostIdOf c.session)
  else (3, c.holder, 0)

/-- A commanded value changed by its owner, with the ledger record of R416 kind 2 where a range covers the signal; the
steps of a fade or pattern form none. -/
def commandOwned (s : State) (sig v : Nat) : State :=
  let before := s.own.ownerClass.read 7 sig
  let old := s.commandedOf sig
  let code := s.ownerCode sig
  let who := match s.ownerOf sig with
    | some (_, c) => s.commander sig c
    | none => (10, 0, 0)
  let tag := match s.ownerOf sig with
    | some (_, c) => c.tag
    | none => 0
  let r := { s.newRecord 2 s.now with
    cls := code, signal := sig, old := old, new := v, cmdr := who.1, cmdrId := who.2.1, cmdrAux := who.2.2
    reason := if code ≠ before then 2 else if tag ≠ 0 then 3 else 1, detail := before }
  let news := tag = 0 || code ≠ before || s.own.ownerTag.read 0 sig ≠ tag
  let s := { s with own := { s.own with ownerClass := s.own.ownerClass.write 7 sig code
                                        ownerTag := s.own.ownerTag.write 0 sig tag } }
  let s := if old ≠ v && news && s.inLedgerRange sig then s.record r else s
  s.command sig v

/-! ## The model (R113–R116) -/

/-- A bunting or matrix signal: its requests are those of its port. -/
def isPort (sig : Nat) : Bool := sigClass sig = clsBP || sigClass sig = clsMX

/-- The port's signal with node, pixel and channel 0 (R121). -/
def portSig (sig : Nat) : Nat :=
  if sigClass sig = clsBP then mkSig clsBP (bpPort sig * 2 ^ 15) else mkSig clsMX (mxPort sig * 64)

/-- The key of an entry: one per channel, one per class per port (R111). -/
def entryKey (sig cls : Nat) : Nat := if isPort sig then 8 * portSig sig + cls else 8 * sig + 7

/-- Measured current of a direct channel, 10 mA (R113). -/
def measuredI (s : State) (sig : Nat) : Nat :=
  let i := sigInst sig
  match sigClass sig with
  | 0x01 => s.gdDecide i (s.ob (Obj.gdIEst i))
  | 0x02 => ceilDiv (s.ob (Obj.svIMeas i)) 10
  | 0x04 => ceilDiv (s.ob (Obj.doutIMeas i)) 10
  | _ => 0

/-- The predicted value of an entry (R113). -/
def entryPredicted (s : State) (e : AdmEntry) : Nat :=
  let p := e.prof
  let el := s.now - e.admitted
  if p.step then (if el < p.tau then profTop p else p.settled)
  else if p.tau = 0 then p.settled
  else
    let k := el / p.tau
    if 8 ≤ k then p.settled else p.settled + ceilDiv (profTop p - p.settled) (2 ^ k)

/-- The entry's profile has settled (R113). -/
def entrySettled (s : State) (e : AdmEntry) : Bool :=
  let el := s.now - e.admitted
  if e.prof.step then decide (e.prof.tau ≤ el) else decide (8 * e.prof.tau ≤ el)

/-- The present value of an entry (R113): once settled, no less than the measured current of a direct channel. -/
def presentOf (s : State) (key : Nat) (e : AdmEntry) : Nat :=
  if s.entrySettled e then max (s.entryPredicted e) (s.measuredI (key / 8)) else s.entryPredicted e

/-- The present value under a key, 0 with no entry. -/
def presentAt (s : State) (key : Nat) : Nat := match s.arb.entries.get? key with
  | some e => s.presentOf key e
  | none => 0

/-- The first dissipation entry of a profile (R115), rounded up to 10 mW (DESIGN CHOICE, assumption 110: the spec gives no rounding). -/
def dissFirst (p : Profile) : Nat :=
  let m := min p.tau (ms 100)
  if p.pSettled ≤ p.pPeak then p.pSettled + ceilDiv ((p.pPeak - p.pSettled) * m) (ms 100)
  else p.pSettled - (p.pSettled - p.pPeak) * m / ms 100

/-- The dissipation entry at this instant (R115). -/
def dissOf (s : State) (e : AdmEntry) : Nat :=
  if s.now - e.admitted < ms 100 then dissFirst e.prof else e.prof.pSettled

def dissAt (s : State) (key : Nat) : Nat := match s.arb.entries.get? key with
  | some e => s.dissOf e
  | none => 0

/-- ΣI, 10 mA. -/
def sumI (s : State) : Nat := (s.arb.entries.map (fun e => s.presentOf e.1 e.2)).sum
/-- ΣS, 0.1 A/ms. -/
def sumS (s : State) : Nat := ((s.arb.slopes.filter (fun l => s.now < l.expiry)).map (fun l => l.amount)).sum
/-- ΣP, 10 mW. -/
def sumP (s : State) : Nat := (s.arb.entries.map (fun e => s.dissOf e.2)).sum

/-- Loans borrowed, 10 mA. -/
def borrowedSum (s : State) : Nat := (s.arb.borrowed.map (fun b => b.2)).sum

/-- SHARE (R126), 10 mA; BASE_I alone while the address is not confirmed. -/
def share (s : State) : Nat :=
  min (s.cf Obj.maxShare) (if s.ob Obj.addrState = 2 then s.cf Obj.baseI - s.arb.lent + s.borrowedSum else s.cf Obj.baseI)

/-- ADM_FLAGS bits 2–0: the sums over their limits. -/
def overFlags (s : State) : Nat :=
  (if s.share < s.sumI then 1 else 0) + (if s.cf Obj.slewShare < s.sumS then 2 else 0) +
    (if s.cf Obj.dissBudget < s.sumP then 4 else 0)

/-- The slope of a request (R114), 0.1 A/ms rounded up. -/
def slopeOf (s : State) (r : AdmRequest) : Nat :=
  let e := s.presentAt (entryKey r.sig r.cls)
  ceilDiv ((profTop r.prof - e) * 10000) r.prof.rise

/-- A class is held back by a sag state (R123). -/
def sagHolds (s : State) (cls : Nat) : Bool :=
  (s.arb.sagC && cls = 4) || (s.arb.sagA && (cls = 3 || cls = 4))

/-- The admission test (R116, R122, R123). -/
def admissible (s : State) (r : AdmRequest) : Bool :=
  let k := entryKey r.sig r.cls
  let sl := s.slopeOf r
  !s.sagHolds r.cls && !s.arb.sOver &&
    decide (s.sumI - s.presentAt k + profTop r.prof ≤ s.share) &&
    (decide (s.sumS + sl ≤ s.cf Obj.slewShare) || (decide (s.cf Obj.slewShare < sl) && s.sumS = 0)) &&
    decide (s.sumP - s.dissAt k + dissFirst r.prof ≤ s.cf Obj.dissBudget)

/-! ## Bunting and matrix ports (R110, R111, R267, R276) -/

/-- Group factor of a bunting node (R266, R267); 4,096 for a node in no group. -/
def bpFactor (s : State) (facs : List (Nat × Nat)) (sig : Nat) : Nat :=
  let g := bitsOf (s.cf (domKey (0x5100 + bpPort sig) (bpNode sig))) 16 8
  if g = 0 then 4096
  else match facs.find? (fun f => f.1 == g - 1) with
    | some f => f.2
    | none => (s.bpCh (bpPort sig)).factors.read 4096 (g - 1)

/-- A value in a list of changes, else `d`. -/
def changed (l : List (Nat × Nat)) (d sig : Nat) : Nat := match l.find? (fun c => c.1 == sig) with
  | some c => c.2
  | none => d

/-- Current of a bunting port's outputs in µA, with some values and group factors changed. -/
def bpTotal (s : State) (p : Nat) (chg facs : List (Nat × Nat)) : Nat :=
  let mine (sig : Nat) : Bool := sigClass sig = clsBP && bpPort sig = p && decide (bpNode sig < s.ob (Obj.bpNodeCount p))
  let old := s.own.commanded.filter (fun e => mine e.1)
  let new := (chg.filter (fun c => mine c.1 && (s.own.commanded.get? c.1).isNone))
  ((old.map (fun e => (e.1, changed chg e.2 e.1)) ++ new).map
    (fun e => s.bpCurrent e.1 (roundDiv (e.2 * s.bpFactor facs e.1) 4096))).sum

/-- Applied derating factor of a matrix port (R273). -/
def mxF (s : State) (p : Nat) (facs : List (Nat × Nat)) : Nat :=
  if s.cf (Obj.mxKnee p) = 1 then changed facs (s.ob (Obj.mxFactor p)) p else 4096

/-- The effective value E′ of pixel i of a port for pixel and master values and a factor (R273). -/
def effective (pixel master f : Nat) : Nat := roundDiv (roundDiv (pixel * master) 255 * f) 4096

/-- ΣE′ of a matrix port, with some values and its factor changed; a value under an envelope counts as its envelope
(R112). -/
def mxSum (s : State) (p : Nat) (chg facs : List (Nat × Nat)) : Nat :=
  let val (sig : Nat) : Nat := changed chg
    (if (s.mxCh p).dark.contains sig then 0 else max (s.commandedOf sig) (s.arb.portEnv.read 0 sig)) sig
  let master := val (mkSig clsMX (256 + p))
  let f := s.mxF p facs
  ((List.range 64).map (fun i => if s.bit (Obj.mxColDisabled p) (i % 8) then 0
    else effective (val (mkSig clsMX (64 * p + i))) master f)).sum

/-- Predicted current (µA) and dissipation (µW) of a port, with some values and factors changed; 0 while a matrix port is off. -/
def portExact (s : State) (port : Nat) (chg facs : List (Nat × Nat)) : Nat × Nat :=
  if sigClass port = clsBP then (s.bpTotal (bpPort port) chg facs, 0)
  else
    let p := mxPort port
    if (s.mxCh p).off then (0, 0)
    else
      let i := s.mxCurrent p (s.mxSum p chg facs)
      (i, s.mxPower p i)

/-- The same in 10 mA and 10 mW, rounded up. -/
def portTotal (s : State) (port : Nat) (chg facs : List (Nat × Nat)) : Nat × Nat :=
  let x := s.portExact port chg facs
  (ceilDiv x.1 10000, ceilDiv x.2 10000)

/-- One entry of a port cut by at most `x` of current; what is left of `x`. -/
def cutEntry (t : Table AdmEntry) (k x : Nat) : Table AdmEntry × Nat :=
  match t.get? k with
  | none => (t, x)
  | some e =>
    let i := e.prof.settled - x
    (if i = 0 then t.erase k
     else t.put k { e with prof := { e.prof with peak := i, settled := i
                                                 pPeak := e.prof.pPeak * i / e.prof.settled
                                                 pSettled := e.prof.pSettled * i / e.prof.settled } }, x - e.prof.settled)

/-- A port's entries brought down to what it now draws (R113), the named class's first and then C, A, H, SAFE, those of no owner
and S (DESIGN CHOICE, assumption 109: the spec names no class). -/
def portFit (s : State) (port cls : Nat) : State :=
  let have_ := (([0, 1, 2, 3, 4, 7] : List Nat).map (fun c => s.presentAt (entryKey port c))).sum
  let now_ := (s.portTotal port [] []).1
  if have_ ≤ now_ then s
  else
    let r := ([cls, 4, 3, 2, 1, 7, 0] : List Nat).foldl (fun a c => cutEntry a.1 (entryKey port c) a.2)
      (s.arb.entries, have_ - now_)
    { s with arb := { s.arb with entries := r.1 } }

/-! ## Admission (R110–R122) -/

/-- A matrix output no longer waits to come on again. -/
def undark (s : State) (sig : Nat) : State :=
  let c := s.mxCh (mxPort sig)
  s.setMx (mxPort sig) { c with dark := c.dark.filter (fun x => x != sig) }

/-! ### What a sag shed and restores (R123, R124, R133) -/

/-- SHED_COUNT: outputs shed and not yet restored; EV1223 with the last one restored (R133). -/
def showShed (s : State) : State :=
  let a := s.arb
  let s := s.setOb Obj.shedCount (saturate (a.shed.length + a.restoring.length) 65535)
  if a.shed.isEmpty && a.restoring.isEmpty && a.restored ≠ 0 then
    ({ s with arb := { a with restored := 0 } }).post 1223 a.restored
  else s

/-- A resubmitted output's request has been admitted: it is restored, and recorded (R124, R416). -/
def restoredOne (s : State) (sig : Nat) : State :=
  if !s.arb.restoring.contains sig then s
  else
    let s := s.record { s.newRecord 5 s.now with
      cls := s.ownerCode sig, signal := sig, old := 0, new := s.commandedOf sig, cmdr := 6, reason := 3, detail := s.arb.sagVbat }
    ({ s with arb := { s.arb with restoring := s.arb.restoring.filter (fun x => x != sig)
                                  restored := s.arb.restored + 1 } }).showShed

/-- Nothing claims a shed or resubmitted output any more, or its class is admitted again: it is no longer counted. -/
def unshed (s : State) (sig : Nat) : State :=
  ({ s with arb := { s.arb with shed := s.arb.shed.filter (fun x => x.sig != sig)
                                restoring := s.arb.restoring.filter (fun x => x != sig) } }).showShed

/-- A raise of a port takes effect (R117): a pixel under a fade or pattern joins at its level of that moment and keeps
the envelope admitted (R112, R286). -/
def portTake (s : State) (x : Nat × Nat) : State :=
  let s := if sigClass x.1 = clsMX then s.undark x.1 else s
  let tagged := match s.ownerOf x.1 with
    | some (_, c) => decide (c.tag ≠ 0) && sigClass x.1 = clsMX
    | none => false
  (if tagged then
    ({ s with arb := { s.arb with portEnv := s.arb.portEnv.write 0 x.1 x.2 } }).commandOwned x.1 (s.ownerValue x.1)
  else s.commandOwned x.1 x.2).restoredOne x.1

/-- The admitted command takes its path (R117): a port's raises and factors, a bridge's motor start, else the value; a
fade or pattern joins at its level of that moment (R286). -/
def release (s : State) (r : AdmRequest) : State :=
  let s := { s with factors := if isPort r.sig then s.factors
                               else r.factors.foldl (fun t f => t.write 4096 f.1 f.2) s.factors }
  if isPort r.sig then
    let s := if sigClass r.sig = clsBP then
        let p := bpPort r.sig
        let b := s.bpCh p
        s.setBp p { b with factors := r.factors.foldl (fun t f => t.write 4096 f.1 f.2) b.factors }
      else forEach r.factors (fun s f => s.setOb (Obj.mxFactor (mxPort r.sig)) f.2) s
    (forEach r.raises portTake s).portFit r.sig r.cls
  else match (if sigClass r.sig = clsGD then s.bridgeOfLead (sigInst r.sig) else none) with
    | some h => (s.brStart h).restoredOne r.sig
    | none =>
      let s := (s.commandOwned r.sig (if r.envelope then s.ownerValue r.sig else r.value)).restoredOne r.sig
      if r.retrigger then s.setSv (sigInst r.sig) { s.svCh (sigInst r.sig) with again := true } else s

/-- WAIT_MAX with the wait of a request that leaves the queue (R121). -/
def noteWait (s : State) (r : AdmRequest) : State :=
  s.setOb Obj.waitMax (max (s.ob Obj.waitMax) (min ((s.now - r.age) / 100) (2 ^ 32 - 1)))

/-- A request admitted (R111–R116): its entry and slope counted, EV1230 and EV1229 where they apply. -/
def admitNow (s : State) (r : AdmRequest) : State :=
  let sl := s.slopeOf r
  let alone := s.cf Obj.slewShare < sl
  let dflt := s.usesDefault r.sig && !s.arb.defaulted.contains r.sig
  let s := s.postIf dflt 1230 r.sig
  let s := s.postIf (alone && r.cls ≠ 0) 1229 r.sig
  let e : AdmEntry := { prof := r.prof, admitted := s.now, envelope := r.envelope, level := r.value }
  let a := s.arb
  let s := { s with arb := { a with
    entries := a.entries.put (entryKey r.sig r.cls) e
    slopes := if sl = 0 then a.slopes else a.slopes ++ [({ key := entryKey r.sig r.cls, amount := sl, expiry := s.now + r.prof.rise } : Slope)]
    defaulted := if dflt then a.defaulted ++ [r.sig] else a.defaulted } }
  let s := s.bump Obj.admittedCount
  (s.noteWait r).release r

/-- A class S request admitted at once, with the over flags of R122. -/
def admitS (s : State) (r : AdmRequest) : State :=
  let s := s.admitNow r
  if s.overFlags = 0 then s
  else
    let s := { s with arb := { s.arb with sOver := true } }
    (s.bump Obj.sOverCount).post 1218 s.overFlags

/-- The sums are back within their limits after a class S admission (R122). -/
def checkOver (s : State) : State :=
  if s.arb.sOver && s.overFlags = 0 then ({ s with arb := { s.arb with sOver := false } }).post 1219 0 else s

/-- Requests admitted from the head of the queue until one fails (R117). -/
def runQueueN : Nat → State → State
  | 0, s => s.checkOver
  | n + 1, s =>
    let s := s.checkOver
    match s.arb.queue with
    | [] => s
    | r :: rest =>
      if s.admissible r then runQueueN n (({ s with arb := { s.arb with queue := rest } }).admitNow r) else s

/-- Class then age (R118). -/
def before (a b : AdmRequest) : Bool := a.cls < b.cls || (a.cls = b.cls && a.age ≤ b.age)

/-- A request in its place in the queue. -/
def enqueue (r : AdmRequest) : List AdmRequest → List AdmRequest
  | [] => [r]
  | q :: rest => if before q r then q :: enqueue r rest else r :: q :: rest

/-- Refused requests come back while the queue holds fewer than 48 (R120). -/
def refillN : Nat → State → State
  | 0, s => s
  | n + 1, s =>
    match s.arb.refused with
    | [] => s
    | r :: rest =>
      if s.arb.queue.length < 48 then
        let s := { s with arb := { s.arb with refused := rest, queue := enqueue r s.arb.queue } }
        refillN n (runQueueN 65 s)
      else s

/-- The test run on the queue (R117), then refused requests taken up (R120). -/
def runQueue (s : State) : State :=
  let s := runQueueN 65 s
  refillN s.arb.refused.length s

/-- A request refused (R120): EV1217, and the output keeps its previous commanded value. -/
def refuse (s : State) (r : AdmRequest) : State :=
  let s := { s with arb := { s.arb with refused := s.arb.refused ++ [r] } }
  ((s.noteWait r).bump Obj.refusedCount).post 1217 r.sig

/-- What shows that an output waits for admission: BR_STATE, FAN_STATE, SV_PHASE. -/
def showWait (s : State) (sig : Nat) : State :=
  let i := sigInst sig
  if sigClass sig = clsGD then
    match s.bridgeOfLead i with
    | some h => s.brShow h 4
    | none => match s.fanOfLead i with
      | some f => if s.ob (Obj.fanState f) = 0 || s.ob (Obj.fanState f) = 3 then s.setOb (Obj.fanState f) 5 else s
      | none => s
  else if sigClass sig = clsSV then
    (if s.ob (Obj.svPhase i) = 0 then s.setOb (Obj.svPhase i) 1 else s)
  else s

/-- The request waits, or was admitted as the queue ran. -/
def waits (s : State) (r : AdmRequest) : Bool :=
  s.arb.queue.any (fun q => entryKey q.sig q.cls == entryKey r.sig r.cls)

/-- A new request (R118, R120): class S at once; a full queue displaces its youngest request of the lowest class, if
lower than the new one, else the new one is refused. -/
def present (s : State) (r : AdmRequest) : State :=
  if r.cls = 0 then (s.admitS r).runQueue
  else
    let q := s.arb.queue
    let s := if q.length < 64 then { s with arb := { s.arb with queue := enqueue r q } }
      else match q.getLast? with
        | none => s
        | some l =>
          if r.cls < l.cls then
            ({ s with arb := { s.arb with queue := enqueue r q.dropLast } }).refuse l
          else s.refuse r
    let s := runQueue s
    if s.waits r then (s.bump Obj.waitedCount).showWait r.sig else s

/-- The waiting and refused requests that a test picks withdrawn (R119), with their waits recorded (R121). -/
def withdrawIf (s : State) (p : AdmRequest → Bool) : State :=
  let s := forEach ((s.arb.queue ++ s.arb.refused).filter p) noteWait s
  { s with arb := { s.arb with queue := s.arb.queue.filter (fun r => !p r), refused := s.arb.refused.filter (fun r => !p r) } }

/-- The waiting or refused request of a channel withdrawn. -/
def withdraw (s : State) (sig : Nat) : State := s.withdrawIf (fun r => r.sig == sig)

/-- The request behind a waiting or refused one changes (R119): it keeps its age, its warning and, refused, its place; class S is
admitted at once. -/
def revise (s : State) (old new : AdmRequest) : State :=
  let is (r : AdmRequest) : Bool := r.sig == old.sig && r.cls == old.cls
  let r := { new with age := min old.age new.age, warned := old.warned }
  if r.cls = 0 then (s.withdrawIf is).present r
  else if s.arb.refused.any is then
    ({ s with arb := { s.arb with refused := s.arb.refused.map (fun x => if is x then r else x) } }).runQueue
  else ({ s with arb := { s.arb with queue := enqueue r (s.arb.queue.filter (fun x => !is x)) } }).runQueue

/-- The age a new request takes (R119, R124): now, or an older one kept for it. -/
def ageFor (s : State) (key : Nat) : Tick := match s.arb.ages.get? key with
  | some t => min t s.now
  | none => s.now

/-- An age kept for the next request under a key, and taken. -/
def keepAge (s : State) (key : Nat) (t : Tick) : State :=
  { s with arb := { s.arb with ages := s.arb.ages.put key (min t (s.ageFor key)) } }
def takeAge (s : State) (key : Nat) : State := { s with arb := { s.arb with ages := s.arb.ages.erase key } }

/-- The waiting request of a channel. -/
def waiting? (s : State) (sig : Nat) : Option AdmRequest :=
  (s.arb.queue ++ s.arb.refused).find? (fun r => r.sig == sig)

/-- An entry removed: a switch-off or a trip (R113, R144). -/
def dropEntry (s : State) (sig : Nat) : State :=
  { s with arb := { s.arb with entries := s.arb.entries.erase (entryKey sig 7) } }

/-- A channel's entry set to the settled value of a lower level at once (R113). -/
def reduceEntry (s : State) (sig v : Nat) : State :=
  match s.arb.entries.get? (entryKey sig 7) with
  | none => s
  | some e =>
    let p := s.sigProfile sig v v
    let q : AdmEntry := { e with envelope := false, prof := { p with peak := p.settled, tau := 0, pPeak := p.pSettled } }
    { s with arb := { s.arb with entries := s.arb.entries.put (entryKey sig 7) q } }

/-- The value that a channel has been admitted for: 0 with no entry, else its commanded value. -/
def heldValue (s : State) (sig : Nat) : Nat :=
  if (s.arb.entries.get? (entryKey sig 7)).isNone then 0 else s.commandedOf sig

/-- The request a channel's new value makes (R110). -/
def requestFor (s : State) (sig cls v : Nat) (age : Tick) : AdmRequest :=
  { sig := sig, cls := cls, age := age, value := v, prof := s.sigProfile sig (s.heldValue sig) v }

/-- The owner's class and tag noted, with no new value. -/
def ownedBy (s : State) (sig : Nat) : State :=
  let tag := match s.ownerOf sig with
    | some (_, c) => c.tag
    | none => 0
  { s with own := { s.own with ownerClass := s.own.ownerClass.write 7 sig (s.ownerCode sig)
                               ownerTag := s.own.ownerTag.write 0 sig tag } }

/-- A value that raises nothing applied without admission (R83, R113, R117): a switch-off removes the entry, a reduction sets it
to the settled value of the new level. -/
def applyValue (s : State) (sig v : Nat) : State :=
  let old := s.commandedOf sig
  let s := if v = old then s.ownedBy sig else s.commandOwned sig v
  (if v = 0 then s.dropEntry sig else if v < old then s.reduceEntry sig v else s).runQueue

/-- A new value is a switch-on (R83): it raises the predicted current; a channel that waits to come on again has none. -/
def switchesOn (s : State) (sig v : Nat) : Bool :=
  s.raises sig (if (s.waiting? sig).isSome then s.heldValue sig else s.commandedOf sig) v

/-- The waiting request of a channel takes a new value and class (R119). -/
def reviseTo (s : State) (sig cls v : Nat) : State :=
  match s.waiting? sig with
  | some r => if r.value = v && r.cls = cls then s else s.revise r { r with value := v, cls := cls }
  | none => s

/-- A channel's new commanded value (R83, R119): a waiting request takes it and keeps its age; a value that raises the
predicted current is a switch-on; anything else is applied at once. -/
def submit (s : State) (sig cls v : Nat) : State :=
  let rises := s.switchesOn sig v
  match s.waiting? sig with
  | some r => if rises then s.revise r (s.requestFor sig cls v r.age) else (s.withdraw sig).applyValue sig v
  | none => if rises then s.present (s.requestFor sig cls v s.now) else s.applyValue sig v

/-- A signal taken out of the raises that wait for its port; a request left with none is removed (R119). -/
def dropRaise (s : State) (sig : Nat) : State :=
  let bare (r : AdmRequest) : Bool := isPort r.sig && r.factors.isEmpty && r.raises.all (fun x => x.1 == sig)
  let s := s.withdrawIf bare
  let cut (l : List AdmRequest) : List AdmRequest :=
    l.map (fun r => { r with raises := r.raises.filter (fun x => x.1 != sig) })
  { s with arb := { s.arb with portRaises := s.arb.portRaises.erase sig, queue := cut s.arb.queue
                               refused := cut s.arb.refused } }

/-- A raise on a bunting or matrix port kept until the port's next frame (R110, R111). One that waits under another class moves to
its new owner's class with its age (R119). -/
def portRaise (s : State) (sig cls v : Nat) : State :=
  let here := (s.arb.queue ++ s.arb.refused).filter (fun r => r.raises.any (fun x => x.1 == sig))
  let s := if here.all (fun r => r.cls = cls) then s
    else (forEach here (fun s r => s.keepAge (entryKey sig cls) r.age) s).dropRaise sig
  { s with arb := { s.arb with portRaises := s.arb.portRaises.put sig (8 * v + cls) } }

/-- A port output lowered, or passed to another class, at once (R111, R276). -/
def portLower (s : State) (sig v : Nat) : State :=
  let cls := s.own.ownerClass.read 7 sig
  let s := s.dropRaise sig
  ((s.commandOwned sig v).portFit (portSig sig) cls).runQueue

/-- The waiting request of a port in a class. -/
def portWaiting (s : State) (port cls : Nat) : Option AdmRequest :=
  (s.arb.queue ++ s.arb.refused).find? (fun r => r.sig == port && r.cls == cls)

/-- The fade time that a raise of a matrix output takes (R112), 0 for none. -/
def raiseTime (s : State) (cls sig : Nat) : Tick :=
  match s.ownerOf sig with
  | some (c, x) => if sigClass sig = clsMX && c.code = cls && x.tag ≠ 0 then (s.envelopeOf sig cls x.tag).2 else 0
  | none => 0

/-- The request of a port in one class formed at its frame (R110, R119): the raises since the last frame joined to those
that still wait, which keeps its age and its place; what raises nothing takes effect at once. I_pk is the class's present entry
and the rise (DEDUCED, assumption 108). -/
def portForm (s : State) (port cls rise : Nat) (facs : List (Nat × Nat)) : State :=
  let mine (e : Nat × Nat) : Bool := isPort e.1 && portSig e.1 == port && e.2 % 8 == cls
  let new := (s.arb.portRaises.filter mine).map (fun e => (e.1, e.2 / 8))
  if new.isEmpty && facs.isEmpty then s
  else
    let old := s.portWaiting port cls
    let oldR := match old with
      | some r => r.raises.filter (fun x => !(new.any (fun y => y.1 == x.1)))
      | none => []
    let oldF := match old with
      | some r => r.factors.filter (fun x => !(facs.any (fun y => y.1 == x.1)))
      | none => []
    let rs := oldR ++ new
    let fs := oldF ++ facs
    let k := entryKey port cls
    let s := { s with arb := { s.arb with portRaises := s.arb.portRaises.filter (fun e => !mine e) } }
    let t0 : Nat × Nat := s.portExact port [] []
    let t1 : Nat × Nat := s.portExact port rs fs
    let i : Nat := s.presentAt k + ceilDiv (t1.1 - t0.1) 10000
    let p : Nat := s.dissAt k + ceilDiv (t1.2 - t0.2) 10000
    let r : AdmRequest :=
      { sig := port, cls := cls, value := 0, raises := rs, factors := fs, age := s.ageFor k
        prof := { peak := i, settled := i, rise := rs.foldl (fun m x => max m (s.raiseTime cls x.1)) (max 1000 rise)
                  pPeak := p, pSettled := p } }
    let s := s.takeAge k
    if t1.1 ≤ t0.1 then ((s.withdrawIf (fun q => q.sig == port && q.cls == cls)).release r).runQueue
    else match old with
      | some o => s.revise o r
      | none => s.present r

/-- Every class's request of a port (R110), in order of precedence. -/
def portForms (s : State) (port rise : Nat) (facs : List (Nat × Nat × Nat)) : State :=
  forEach ([0, 1, 2, 3, 4, 7] : List Nat) (fun s cls =>
    s.portForm port cls rise ((facs.filter (fun f => f.1 == cls)).map (fun f => f.2))) s

/-- A channel's entry keeps the envelope of a fade or pattern (R112). -/
def holdEnvelope (s : State) (sig level : Nat) : State :=
  match s.arb.entries.get? (entryKey sig 7) with
  | none => s
  | some e => { s with arb := { s.arb with
      entries := s.arb.entries.put (entryKey sig 7) { e with envelope := true, level := level } } }

/-- A tagged claim's value on a channel (R112, R119): within an envelope admitted for it, it is commanded as it is; an envelope
that raises nothing holds at once; else the envelope is presented, once, and the channel keeps its value. A new fade or pattern
takes the place of an envelope that waits. -/
def resolveTagged (s : State) (sig code tag v : Nat) : State :=
  let env := s.envelopeOf sig code tag
  let held := match s.arb.entries.get? (entryKey sig 7) with
    | some e => e.envelope && decide (env.1 ≤ e.level) && s.own.ownerTag.read 0 sig = tag && s.own.ownerClass.read 7 sig = code
    | none => false
  let asked := match s.waiting? sig with
    | some r => r.envelope && r.cls = code && r.value = env.1
    | none => false
  if held then s.commandOwned sig v
  else if asked then s
  else if s.switchesOn sig env.1 then
    let r := s.requestFor sig code env.1 s.now
    let r := { r with envelope := true, prof := { r.prof with rise := max r.prof.rise env.2 } }
    match s.waiting? sig with
    | some o => s.revise o r
    | none => s.present r
  else
    let s := (s.withdraw sig).commandOwned sig v
    (if env.1 = 0 then s.dropEntry sig else (s.reduceEntry sig env.1).holdEnvelope sig env.1).runQueue

/-- A matrix or bunting output resolved (R110, R111, R112). -/
def resolvePort (s : State) (sig code tag v : Nat) : State :=
  let waits := sigClass sig = clsMX && (s.mxCh (mxPort sig)).dark.contains sig
  let old := if waits then 0 else s.commandedOf sig
  let s := if waits && v = 0 then s.undark sig else s
  if tag ≠ 0 && sigClass sig = clsMX then
    let env := (s.envelopeOf sig code tag).1
    if v ≤ old || v ≤ s.arb.portEnv.read 0 sig then s.commandOwned sig v else s.portRaise sig code (max env v)
  else
    let s := { s with arb := { s.arb with portEnv := s.arb.portEnv.erase sig } }
    if old < v then s.portRaise sig code v else s.portLower sig v

/-- Ownership resolved for one output (R80, R82, R83, R494). An output that a sag has shed stays at its rest value while
its owner's class is held back (R123). -/
def resolve (s : State) (sig : Nat) : State :=
  let v := s.ownerValue sig
  let code := s.ownerCode sig
  let old := s.commandedOf sig
  let isShed := s.arb.shed.any (fun x => x.sig == sig)
  if isShed && s.sagHolds code then s
  else
    let s := if isShed || (v = 0 && s.arb.restoring.contains sig) then s.unshed sig else s
    let tag := match s.ownerOf sig with
      | some (_, c) => c.tag
      | none => 0
    let same := decide (v = old) && s.own.ownerClass.read 7 sig = code
    if sigClass sig = clsVF || s.disabled sig then (if same then s else s.commandOwned sig v)
    else if isPort sig then
      (if same && (s.arb.portRaises.get? sig).isNone then s else s.resolvePort sig code tag v)
    else match (if sigClass sig = clsGD then s.bridgeOfLead (sigInst sig) else none) with
      | some _ => if v = old then s else s.commandOwned sig v
      | none => match (if sigClass sig = clsGD then s.fanOfLead (sigInst sig) else none) with
        | some f =>
          let w := (s.waiting? sig).isSome && s.cf (Obj.fanControl f) = 1 && v ≠ 0
          if v = old && (s.waiting? sig).isNone then s
          else if w then s.reviseTo sig code v
          else if s.cf (Obj.fanControl f) = 1 && old ≠ 0 && v ≠ 0 then s.commandOwned sig v
          else s.submit sig code v
        | none =>
          if tag ≠ 0 && sigClass sig ≠ clsSV then (if same then s else s.resolveTagged sig code tag v)
          else if v = old && (s.waiting? sig).isNone then
            (if same then s else s.ownedBy sig)
          else s.submit sig code v

/-- A channel that a protection turned off presents its commanded value as a switch-on of its owner's class (R151–R153,
R201, R213). A value of 0 has nothing to present. -/
def resubmit (s : State) (sig : Nat) : State :=
  let v := s.commandedOf sig
  if v = 0 || s.disabled sig then s
  else
    let r := { s.requestFor sig (s.ownerCode sig) v s.now with prof := s.sigProfile sig 0 v }
    match s.waiting? sig with
    | some o => s.revise o r
    | none => s.present r

end Sys2Proof.Machine.State
end

