-- ==== Sys2Proof/Machine/Bridges.lean ====
section
/-!
DEFINITION. What a bridge does with a command code (spec/07, R160–R172): its slots, position, stop sequence, motor starts, lock
pulses, wipes, and coasting when a protection acts.
-/

namespace Sys2Proof.Machine.State

def gdSig (c : Nat) : Nat := mkSig clsGD c

def brFn (s : State) (h : Nat) : Nat := s.cf (Obj.brFunction h)
def brFlag (s : State) (h i : Nat) : Bool := s.bit (Obj.brFlags h) i
def setBrFlag (s : State) (h i : Nat) (b : Bool) : State := s.setBit (Obj.brFlags h) i b

/-- A slot event of the function whose lead or pair a channel belongs to (R178): slot `k` with a value. -/
def brSlotEvent (a b k : Nat) : Nat :=
  match k with
  | 0 => 8 * a + 3
  | 1 => 8 * a + 6
  | 2 => 8 * (a + 1) + 2
  | 3 => 8 * (a + 1) + 3
  | 4 => 8 * (a + 1) + 6
  | 5 => 8 * b + 2
  | 6 => 8 * b + 3
  | 7 => 8 * b + 6
  | 8 => 8 * (b + 1) + 2
  | _ => 8 * (b + 1) + 3

def brSlot (s : State) (h k value : Nat) : State := s.post (brSlotEvent (s.brLead h) (s.brOther h) k) value
def fanSlot (s : State) (f k value : Nat) : State := s.post (brSlotEvent (s.fanLead f) 0 k) value

/-! ## Position and normalisation (R164, R166) -/

/-- RIPPLE_POS as a signed count. -/
def brPos (s : State) (h : Nat) : Int := signedOf 4 (s.ob (Obj.brRipplePos h))

/-- The count set, and POSITION in 0.1 % of TRAVEL while the window is normalised (R166). -/
def setPos (s : State) (h : Nat) (p : Int) : State :=
  let s := s.setOb (Obj.brRipplePos h) (wordOf 4 p)
  let t := s.cf (Obj.brTravel h)
  s.setOb (Obj.brPosition h)
    (if s.brFlag h 6 then min 1000 (p.toNat * 1000 / t) else 0xFFFF)

/-- Ripples counted since the bridge's last command, in the direction being driven (R164, R166). -/
def brCount (s : State) (h ripples : Nat) : State :=
  let b := s.brCh h
  let s := if b.reversal then s.setBr h { b with reversed := b.reversed + ripples } else s
  match b.dir with
  | 1 => s.setPos h (s.brPos h + ripples)
  | 2 => s.setPos h (s.brPos h - ripples)
  | _ => s

/-- BR_CURRENT measured (R164). -/
def brMeasured (s : State) (h current : Nat) : State :=
  (s.setOb (Obj.brCurrent h) (saturate current 65535)).setBr h { s.brCh h with currentAt := some s.now }

/-- BR_CURRENT as read (R164): the mean of the last millisecond, which a command has measured; else a free value. -/
def brCurrentNow (s : State) (h : Nat) : Nat :=
  match (s.brCh h).currentAt with
  | some t => if s.passed t (ms 1) then Config.unmeasured (Obj.brCurrent h) s.now % 65536 else s.ob (Obj.brCurrent h)
  | none => if s.now = 0 then s.ob (Obj.brCurrent h) else Config.unmeasured (Obj.brCurrent h) s.now % 65536

/-- A window that stops without a brake while moving loses its normalisation (R166): slot 2 with the last count. -/
def loseNormal (s : State) (h : Nat) : State :=
  if s.brFlag h 6 then
    let s := s.setBrFlag h 6 false
    let s := s.setBr h { s.brCh h with stored := none }
    (s.setOb (Obj.brPosition h) 0xFFFF).brSlot h 2 (s.ob (Obj.brRipplePos h))
  else s

/-! ## Starting and stopping (R163) -/

/-- A code that a function has (R161). -/
def brCodeOk (f code : Nat) : Bool :=
  match f with
  | 1 => code ≤ 3
  | 2 => code ≤ 2 || (4096 ≤ code && code ≤ 5096)
  | 3 => code ≤ 2
  | 4 => code ≤ 4
  | 5 => code ≤ 2
  | _ => false

/-- A bridge needs no admission any more: its request and its entry go, and the queue is tested (R117). -/
def brUnload (s : State) (h : Nat) : State :=
  let sig := gdSig (s.brLead h)
  ((s.withdraw sig).dropEntry sig).runQueue

/-- The stop sequence begins, or goes on: brake for BR_BRAKE_TIME (R163), with the reason slot 0 will carry. -/
def brStop (s : State) (h reason : Nat) : State :=
  let b := s.brCh h
  let s := (s.brUnload h).setBr h { b with
    dir := 3, next := 0, reason := reason, since := if b.dir = 3 then b.since else s.now, target := none }
  (s.brShow h 1).brChannels h 3 0

/-- A motor start presented as a switch-on (R163), of class S for a pinch reversal (R167); the bridge coasts meanwhile. A start
that waits already takes the new code. No start is presented for a bridge that a protection keeps off (R154). -/
def brPresent (s : State) (h dir cls code : Nat) : State :=
  let a := s.brLead h
  if s.gdBlocked a then
    ((s.setBr h { s.brCh h with next := 0, dir := 0 }).brShow h 0).brChannels h 0 0
  else
    let s := s.setBr h { s.brCh h with next := dir, dir := 0 }
    let s := (s.brShow h 4).brChannels h 0 0
    let k := entryKey (gdSig a) 7
    let r : AdmRequest := { sig := gdSig a, cls := cls, age := s.ageFor k, value := code
                            prof := s.gdProfile a 0 (s.brDutyFor h code dir) }
    let s := s.takeAge k
    match s.waiting? (gdSig a) with
    | some o => s.revise o r
    | none => s.present r

/-- The lead's owner class, 4 where it has none. -/
def brClass (s : State) (h : Nat) : Nat :=
  let x := s.ownerCode (gdSig (s.brLead h))
  if x = 7 then 4 else x

/-- A movement in a direction asked for: from drive in the other direction it first brakes for BR_BRAKE_TIME (R163). A brake under
way goes on, with the reason of the movement it ends. -/
def brMove (s : State) (h dir : Nat) : State :=
  let b := s.brCh h
  if b.dir = dir then s
  else if b.dir = 0 then s.brPresent h dir (s.brClass h) b.code
  else if b.dir = 3 then s.setBr h { b with next := dir }
  else
    let s := s.setBr h { b with dir := 3, next := dir, reason := 0, since := s.now }
    (s.brShow h 1).brChannels h 3 0

/-- A running or waiting movement is commanded to stop; an idle bridge stays idle, and a brake ends in coasting. -/
def brHalt (s : State) (h reason : Nat) : State :=
  let b := s.brCh h
  if b.dir = 1 || b.dir = 2 then s.brStop h reason
  else if b.dir = 3 then
    (s.brUnload h).setBr h { b with next := 0, reason := if b.next ≠ 0 && b.reason = 0 then reason else b.reason }
  else ((s.brUnload h).setBr h { b with next := 0, dir := 0 }).brShow h 0

/-- A plain function under code 3 holds the brake (R171). -/
def brHold (s : State) (h : Nat) : State :=
  let b := s.brCh h
  if s.gdBlocked (s.brLead h) then s
  else if b.dir = 1 || b.dir = 2 then s.brStop h 3
  else if b.dir = 3 then s.brHalt h 3
  else
    let s := (s.brUnload h).setBr h { b with dir := 3, next := 0, reason := 0, since := s.now }
    (s.brShow h 1).brChannels h 3 0

/-- The brake held under code 3 of a plain function (R171). -/
def brHolds (s : State) (h : Nat) : Bool := s.brFn h = 1 && (s.brCh h).code = 3 && (s.brCh h).next = 0

/-- The brake has ended (R163): slot 0 where a movement has ended, and the position stored; a pending start follows, else the
bridge coasts, or holds the brake (R171). -/
def brBrakeEnd (s : State) (h : Nat) : State :=
  let b := s.brCh h
  let s := s.setBr h { b with reason := 0, stored := if s.brFlag h 6 then some (s.brPos h) else b.stored }
  let s := if b.reason ≠ 0 then s.brSlot h 0 b.reason else s
  if b.next ≠ 0 then s.brPresent h b.next (if b.reversal then 0 else s.brClass h) b.code
  else if s.brHolds h then s
  else ((s.setBr h { s.brCh h with dir := 0 }).brShow h (if s.brFlag h 3 then 6 else 0)).brChannels h 0 0

/-! ## Codes (R161, R168–R171) -/

/-- Lock pulses that began within the last 30 s (R169). -/
def recentPulses (s : State) (h : Nat) : List Tick := (s.brCh h).pulses.filter (fun t => !s.passed t (sec 30))

/-- A lock or unlock pulse starts, or waits for the rate limit (R169). -/
def lockPulse (s : State) (h code : Nat) : State :=
  let l := s.recentPulses h
  if s.gdBlocked (s.brLead h) then s
  else if 10 ≤ l.length then
    let s := s.setBr h { s.brCh h with waiting := some code, pulses := l }
    (s.brShow h 7).brSlot h 6 10
  else
    let s := s.setBr h { s.brCh h with waiting := none, pulses := l ++ [s.now] }
    s.brMove h code

/-- A wiper's code (R170). A blocked wiper stays stopped until its code goes to 0; the reverse run of a blockage goes on whatever
the code. -/
def wiperAct (s : State) (h code : Nat) : State :=
  let b := s.brCh h
  let drive (s : State) (d : Nat) : State := (s.setBr h { s.brCh h with duty := d }).brChannels h 1 d
  if code = 0 then
    let s := (s.setBrFlag h 3 false).setBr h { b with nextWipe := none }
    let s := if s.ob (Obj.brState h) = 6 then s.brShow h 0 else s
    if b.blockage then s
    else if b.dir = 1 then drive s (s.cf (Obj.brSlowDuty h))
    else s.brHalt h 3
  else if s.brFlag h 3 || b.blockage then s
  else if b.dir = 1 then drive s (s.brDutyFor h code 1)
  else s.brMove h 1

/-- A window's code (R161, R168): a reversal runs to its end but for code 0; after a pinch the standing code is ignored; a
position code acts as 0 while the position is not known (R166). -/
def windowAct (s : State) (h code : Nat) : State :=
  let b := s.brCh h
  if b.reversal then (if code = 0 then (s.setBr h { b with reversal := false }).brStop h 3 else s)
  else if s.brFlag h 4 then s
  else if code = 1 || code = 2 then (s.setBr h { b with target := none }).brMove h code
  else if 4096 ≤ code && s.brFlag h 6 then
    let goal := (code - 4096) * s.cf (Obj.brTravel h) / 1000
    let s := s.setBr h { b with target := some goal }
    if s.brPos h < goal then s.brMove h 1 else if (goal : Int) < s.brPos h then s.brMove h 2 else s.brHalt h 1
  else s.brHalt h 3

/-- A code acts on a function (R161, R163, R168–R171). -/
def brAct (s : State) (h code : Nat) : State :=
  match s.brFn h with
  | 2 => s.windowAct h code
  | 3 => if code = 1 || code = 2 then s.lockPulse h code
    else (s.setBr h { s.brCh h with waiting := none }).brHalt h 3
  | 4 => s.wiperAct h code
  | 0 => s
  | f => if code = 1 || code = 2 then s.brMove h code else if f = 1 && code = 3 then s.brHold h else s.brHalt h 3

/-- A new command code of a lead (R163): code 0 cancels a pending retry (R153); after a pinch the change clears PINCH_LATCH
(R168); a code equal to the one commanded starts nothing anew. -/
def brCommand (s : State) (h code : Nat) : State :=
  let b := s.brCh h
  let s := s.setBr h { b with arrived := none, code := code }
  if code = b.code then s
  else
    let s := if code = 0 then s.gdCancel (s.brLead h) else s
    (s.setBrFlag h 4 false).brAct h code

/-- A fault of any member coasts the whole bridge and posts slot 0 with reason 5 (R172). A reversal it cuts short leaves the
window as after a pinch (R168). -/
def coastBridge (s : State) (h : Nat) : State :=
  let b := s.brCh h
  let s := s.brUnload h
  let moving := b.dir = 1 || b.dir = 2
  let s := if b.reversal then s.setBrFlag h 4 true else s
  let s := s.setBr h { b with dir := 0, next := 0, reason := 0, reversal := false, blockage := false, target := none }
  let s := (s.brShow h (if s.brFlag h 3 then 6 else 0)).brChannels h 0 0
  let s := s.brSlot h 0 5
  if moving && s.brFn h = 2 then s.loseNormal h else s

/-- The stop of a bridge that is no parking load at the entry into Half-mast (R172): the stop sequence; a wiper stops where it
stands. Its command is 0 from here. -/
def parkBridge (s : State) (h : Nat) : State :=
  let s := s.setBr h { s.brCh h with arrived := none, code := 0, waiting := none, nextWipe := none, reversal := false
                                     blockage := false }
  s.brHalt h 3

/-- A fan's pair is turned off by a protection: the fan is off until its command is presented again (R153, R175). -/
def fanTripped (s : State) (f : Nat) : State :=
  let st := s.ob (Obj.fanState f)
  let s := s.fanOff f
  if st = 1 || st = 2 then s.setOb (Obj.fanState f) 0 else s

end Sys2Proof.Machine.State
end

