-- ==== Sys2Proof/Machine/Gate.lean ====
section
/-!
DEFINITION. The gate-driver commands of spec/06: trips and gate faults, soft start, diagnostics, the thermal model,
supply conditions, retries and the channel's own commands. The PWM period start of DOUTs (R211) stands here too.
-/

namespace Sys2Proof.Machine

/-- Delay before the next retry of a channel that has used `used` (R153): RETRY_DELAY × 2^used, and × 64 from the
seventh on where RETRY_COUNT is 255. -/
def retryDelay (count delay used : Nat) : Nat := ms delay * 2 ^ (if count = 255 then min used 6 else used)

namespace State

/-- The active static threshold V_T in mV (R142): SS_VDS_THR during soft start and for 3 × τ after it. -/
def gdVt (s : State) (c : Nat) : Nat :=
  let ss := s.bit (Obj.gdStatus c) 13 || (match (s.gdCh c).softEnd with
    | some t => !s.passed t (30000 * s.ppVal c 4)
    | none => false)
  200 + 120 * (if ss then s.cf (Obj.gdSsVdsThr c) else s.cf (Obj.gdVdsThr c))

/-- Where the ramp of a turn-on ends (R143, R145): VPLAT + ENV_SPAN in mV. -/
def gdRampTop (s : State) (c : Nat) : Nat := 100 * (s.cf (Obj.gdVplat c) + s.cf (Obj.gdEnvSpan c))

/-- VDS is over the threshold in force (R143, R144), in mV: VDS > V_T + (V_SUP − V_T) × min(1, max(0, (VPLAT + ENV_SPAN − VGS) ÷
ENV_SPAN)), both sides times ENV_SPAN. -/
def gdOver (s : State) (c vds vgs vsup : Nat) : Bool :=
  let vt : Int := s.gdVt c
  let span := 100 * s.cf (Obj.gdEnvSpan c)
  let x := min span (s.gdRampTop c - vgs)
  decide (((vsup : Int) - vt) * x < ((vds : Int) - vt) * span)

/-- A channel off and held off (R154). -/
def gdHoldOff (s : State) (c : Nat) : State :=
  (s.setGd c { s.gdCh c with off := true, goodSince := none, recover := 0 }).gdOff c

/-- A channel turned off by a protection (R144, R151, R152, R154): its applied value is 0, its admission entry is gone,
no claim slot changes; a bridge coasts as a whole (R172), a pair or a fan is off as a whole. -/
def gdShut (s : State) (c : Nat) : State :=
  let s := (s.dropEntry (gdSig (s.gdLead c))).runQueue
  let s := match s.bridgeOf c with
    | some h => s.coastBridge h
    | none =>
      let s := if s.cf (Obj.gdMode c) = 4 then s.gdOff (c - 1) else s
      match s.fanOf c with
      | some f => s.fanTripped f
      | none => s
  s.gdHoldOff c

/-- The retry that follows a fault (R153), with the lead's own settings (R172), or latching. None runs under the hoist
safe state (R156). -/
def gdFault (s : State) (c : Nat) : State :=
  let l := s.gdLead c
  let count := s.cf (Obj.gdRetryCount l)
  let used := s.ob (Obj.gdRetriesUsed l)
  let s := s.setGd l { s.gdCh l with off := true, goodSince := none }
  if s.hoist.safe then s
  else if count = 255 || used < count then
    let at_ := s.now + retryDelay count (s.cf (Obj.gdRetryDelay l)) used
    (s.setGd l { s.gdCh l with retryAt := some at_ }).setBit (Obj.gdStatus l) 14 true
  else (s.setBit (Obj.gdStatus l) 15 true).post (8 * l + 1) used

/-- A gate fault reported (R145, R152): offset 5 with its cause. -/
def gateFault (s : State) (c cause : Nat) : State :=
  (s.setBit (Obj.gdStatus c) 9 true).post (8 * c + 5) cause

/-- A channel's function freed and its commanded value presented (R151–R153); `why` is what offset 7 of the channels that were
off will carry (R158). A bridge's standing code acts as a motor start (R172). -/
def gdResubmit (s : State) (c why : Nat) : State :=
  let l := s.gdLead c
  let m := s.gdMembers c
  if s.gdWaits c || m.any s.gdHeld then s
  else
    let s := forEach m (fun s i =>
      let ch := s.gdCh i
      s.setGd i { ch with off := false, value := 0, recover := if ch.off || (i = c && why = 1) then why else ch.recover }) s
    match s.bridgeOf c with
    | some h => s.brAct h (s.brCh h).code
    | none => s.resubmit (gdSig l)

/-- The trip of R144: `vds` in mV at the instant it is confirmed; `envelope` while the ramp runs. -/
def gdTrip (s : State) (c vds : Nat) (envelope : Bool) : State :=
  let cause := if envelope then 2 else if s.bit (Obj.gdStatus c) 13 then 3 else 1
  let s := s.gdShut c
  let s := s.setBit (Obj.gdStatus c) 5 true
  let s := s.bump (Obj.gdTripCount c)
  let s := s.setOb (Obj.gdLastTripVds c) (saturate vds 65535)
  (s.post (8 * c) (cause * 2 ^ 16 + saturate vds 65535)).gdFault c

/-- The gate of a channel is commanded on. -/
def gdIsOn (s : State) (c : Nat) : Bool := s.cf (Obj.gdMode c) ≠ 0 && s.ob (Obj.gdAppliedValue c) ≠ 0

/-- R_k of a soft start (R146). -/
def softRamp (s : State) (c k : Nat) : Nat :=
  ceilDiv (10000 * k * s.cf (Obj.gdPwmPeriod c)) (ms (s.cf (Obj.gdSoftTime c)))

/-- A gate driver's PWM period starts (R139, R146, R147, R280): a rise from 0 begins soft start where configured; the
ramp goes to its next R_k; else the value in force, derated by MAST, under the pulse limits of R140. The Hoist die runs it under
the hoist safe state too (R156); a bridge's function sets its duty itself (R162). -/
def gdPeriod (s : State) (c : Nat) : State :=
  let ch := s.gdCh c
  let applied := s.ob (Obj.gdAppliedValue c)
  let v := if s.hoist.safe then ch.value else match s.fanOfLead c with
    | some f => (s.fanCh f).duty
    | none => ch.value
  let down (x : Nat) : Nat := if s.hoist.safe then x else s.derated (gdSig c) x
  if s.gdBlocked c || (s.bridgeOf c).isSome || v = 0 then s
  else if ch.softK ≠ 0 || (applied = 0 && s.cf (Obj.gdSoftTime c) ≠ 0) then
    let k := ch.softK + 1
    let r := s.softRamp c k
    let s := s.setGd c { ch with softK := k }
    (s.setBit (Obj.gdStatus c) 13 true).gdApply c (down (min r v))
  else s.gdApply c (pulseLimit (down v) (s.cf (Obj.gdPwmPeriod c)) (s.gdTchk c))

/-- A DOUT's PWM period starts (R211). -/
def doutPeriod (s : State) (d : Nat) : State :=
  let ch := s.doutCh d
  if ch.off || ch.value = 0 then s
  else
    let x := if s.hoist.safe then ch.value else s.derated (mkSig clsDOUT d) ch.value
    let v := pulseLimit x (s.cf (Obj.doutPwmPeriod d)) (us 200)
    let s := if s.ob (Obj.doutAppliedValue d) = 0 then s.setDout d { ch with onSince := s.now } else s
    s.doutShow d v

/-- A tick at which (n − phase) mod period = 0 (R139, R186, R274). -/
def periodStart (s : State) (period phase : Nat) : Bool :=
  period ≠ 0 && decide (((s.now : Int) - phase) % (period : Int) = 0)

/-- One off-state reading of a channel (R150): 1 below 1.5 V, 2 in 3.0–5.5 V, 3 above 6.5 V, 5 between. -/
def offReading (mv : Nat) : Nat :=
  if mv < 1500 then 1 else if 3000 ≤ mv ∧ mv ≤ 5500 then 2 else if 6500 < mv then 3 else 5

/-- Three consecutive checks that gave the same reading. -/
def threeAgree (l : List Nat) : Option Nat :=
  match l with
  | a :: b :: d :: _ => if a = b ∧ b = d then some a else none
  | _ => none

/-- OPEN_LOAD of a GD channel: found in the on state or by the off-state check, each cleared by its own (R149, R150). -/
def gdOpen (s : State) (c : Nat) (on off : Bool) : State :=
  (s.setGd c { s.gdCh c with openOn := on, openOff := off }).setBit (Obj.gdStatus c) 6 (on || off)

/-- What three agreeing off-state checks report on a GD channel (R150). -/
def gdDiagReport (s : State) (c mv reading : Nat) : State :=
  let high := s.cf (Obj.gdMode c) = 1 || s.cf (Obj.gdMode c) = 3
  let result := if reading = 5 then 5 else if reading = 2 then 2
    else if high then (if reading = 1 then 1 else 4) else (if reading = 3 then 1 else 3)
  let was := s.ob (Obj.gdOffDiagResult c)
  let s := s.setOb (Obj.gdOffDiagResult c) result
  let st := Obj.gdStatus c
  let on := (s.gdCh c).openOn
  if result = 1 then (s.gdOpen c on false).setBit st 7 false
  else if result = 2 then
    ((s.gdOpen c on true).setBit st 7 false).postIf (was ≠ 2) (8 * c + 2) 2
  else if result = 3 ∨ result = 4 then ((s.gdOpen c on false).setBit st 7 true).postIf (was ≠ result) (8 * c + 3) mv
  else s

/-- One off-state check of a GD channel (R150). -/
def gdDiag (s : State) (c mv : Nat) : State :=
  let ch := s.gdCh c
  let l := (offReading mv :: ch.readings).take 3
  let s := s.setGd c { ch with readings := l, lastDiag := s.now, diagNow := false }
  match threeAgree l with
  | some r => s.gdDiagReport c mv r
  | none => s

/-- One millisecond of the junction model in µK above the sensor (R151): P × TH_RTH under the time constant TH_TAU, by
one first-order step. DESIGN CHOICE (assumption 13): the step is h + (x − h) × 1 ms ÷ TH_TAU, rounded down. -/
def heatStep (h x tau : Nat) : Nat := ((h : Int) + ((x : Int) - h) / (max 1 tau : Nat)).toNat

/-- P × TH_RTH in µK (R151): I_est² × RDS(on) × duty. -/
def gdHeatIn (s : State) (c : Nat) : Nat :=
  let i := s.gdDecide c (s.ob (Obj.gdIEst c))
  -- I in 10 mA, RDS in µΩ, duty in 0.01 %, Rth in 0.01 K/W: I² × 10⁻⁴ × R × 10⁻⁶ × d × 10⁻⁴ × Rth × 10⁻² K
  i * i * s.rdsOn c * s.ob (Obj.gdAppliedValue c) * s.cf (Obj.gdThRth c) / 10000000000

/-- The thermal update of a GD channel (R151). -/
def gdThermal (s : State) (c : Nat) : State :=
  let ch := s.gdCh c
  let h := heatStep ch.heat (s.gdHeatIn c) (s.cf (Obj.gdThTau c))
  let t : Int := s.thSensor c + ((h / 100000 : Nat) : Int)
  let lim : Int := 10 * (s.cf (Obj.gdThTjMax c) : Int)
  let s := s.setGd c { ch with heat := h, lastThermal := s.now }
  let s := s.setOb (Obj.gdTEst c) (wordOf 2 t)
  if lim < t && !s.bit (Obj.gdStatus c) 8 then
    let s := (s.gdShut c).setBit (Obj.gdStatus c) 8 true
    s.post (8 * c + 4) (wordOf 4 t)
  else if t < lim - 200 && s.bit (Obj.gdStatus c) 8 then
    (s.setBit (Obj.gdStatus c) 8 false).gdResubmit c 2
  else s

/-- A channel in a mode whose gate is supplied from VCP (R135, R152). -/
def highMode (s : State) (c : Nat) : Bool := s.cf (Obj.gdMode c) = 1 || s.cf (Obj.gdMode c) = 3

/-- A channel forced off by a supply condition (R152); a recurrence within 1 s of its resubmission is retried (R153). -/
def gdSupplyOff (s : State) (flag cause : Nat) (c : Nat) : State :=
  if !s.highMode c then s
  else
    let again := match (s.gdCh c).resubmitAt with
      | some t => !s.passed t (sec 1)
      | none => false
    let s := (s.gdShut c).setBit (Obj.gdStatus c) flag true
    let s := s.gateFault c cause
    if again then s.gdFault c else s

/-- The condition is over (R152): the commanded value is resubmitted, which is not a retry. -/
def gdSupplyOn (s : State) (flag : Nat) (c : Nat) : State :=
  if !s.highMode c || !s.bit (Obj.gdStatus c) flag then s
  else
    let s := s.setBit (Obj.gdStatus c) flag false
    (s.setGd c { s.gdCh c with resubmitAt := some s.now }).gdResubmit c 3

/-- FAULT_CLEAR of a GD channel (R155). -/
def doGdFaultClear (s : State) (c : Nat) : Answer :=
  let hot := s.bit (Obj.gdStatus c) 8 &&
    decide (10 * (s.cf (Obj.gdThTjMax c) : Int) - 200 ≤ signedOf 2 (s.ob (Obj.gdTEst c)))
  check (!hot) .configInvalid <|
    let st := Obj.gdStatus c
    let l := s.gdLead c
    let s := (s.setGd l { s.gdCh l with retryAt := none }).setOb (Obj.gdRetriesUsed l) 0
    let s := (s.setBit (Obj.gdStatus l) 15 false).setBit (Obj.gdStatus l) 14 false
    let s := ((s.setBit st 5 false).setBit st 9 false).setBit st 8 false
    if s.commandedOf (gdSig (s.gdLead c)) = 0 then
      .ok (((s.gdCancel c).setGd c { (s.gdCancel c).gdCh c with recover := 0 }).post (8 * c + 7) 1)
    else .ok (s.gdResubmit c 1)

/-- DIAG_RUN of a GD channel (R159). -/
def doGdDiagRun (s : State) (c : Nat) : Answer :=
  check (s.ob (Obj.gdAppliedValue c) = 0 && s.cf (Obj.gdOffDiagEnable c) = 1) .valueRange <|
    .ok (s.setGd c { s.gdCh c with diagNow := true })

end State

/-! ## Meanings -/

/-- R144: VDS in mV has been over the threshold in force for 0.5 µs. -/
def execGdTrip (n : Fin 24) (vds : Nat) (at_ : GateVoltages) (s : State) : Host.Outcome State Fault Refusal :=
  whenever (s.gdIsOn n && s.gdOver n vds at_.vgs at_.vsup) s (s.gdTrip n vds (decide (at_.vgs < s.gdRampTop n)))

/-- R145: the ramp has taken longer than RAMP_MAX. -/
def execGdRampTimeout (ramp : GateRamp) (s : State) : Host.Outcome State Fault Refusal :=
  let n := ramp.n.val
  whenever (s.gdIsOn n && decide (10 * s.cf (Obj.gdRampMax n) < ramp.ton)) s
    ((((s.gdShut n).setOb (Obj.gdGateTon n) (saturate ramp.ton 65535)).gateFault n 1).gdFault n)

/-- R145: the gate reached the end of its ramp within 50 ns (`ton` in 10 ns). -/
def execGdGateOpen (n : Fin 24) (ton : Nat) (s : State) : Host.Outcome State Fault Refusal :=
  whenever (s.gdIsOn n && decide (ton ≤ 5)) s
    ((((s.gdShut n).setOb (Obj.gdGateTon n) ton).gateFault n 2).gdFault n)

/-- R141: the other gate of pair `k` has not fallen; both gates go off and the pair reports a gate fault, cause 5. -/
def execGdInterlockFault (k : Fin 12) (s : State) : Host.Outcome State Fault Refusal :=
  let a := 2 * k.val
  whenever (s.cf (Obj.gdMode a) = 3 && s.cf (Obj.gdMode (a + 1)) = 4) s
    ((((s.gdShut a).gdHoldOff (a + 1)).setBit (Obj.gdStatus (a + 1)) 9 true).gateFault a 5)

/-- R146: the ramp has reached the commanded value. -/
def execGdSoftStartEnd (n : Fin 24) (s : State) : Host.Outcome State Fault Refusal :=
  let ch := s.gdCh n
  whenever (ch.softK ≠ 0 && decide (ch.value ≤ s.softRamp n ch.softK)) s
    (((s.setGd n { ch with softK := 0, softEnd := some s.now }).setBit (Obj.gdStatus n) 13 false).post (8 * n + 6)
      (s.ob (Obj.gdAppliedValue n)))

/-- R149: `iEst` in 10 mA has stood on its side of OL_CURRENT for OL_TIME. -/
def execGdOpenLoad (n : Fin 24) (iEst : Nat) (s : State) : Host.Outcome State Fault Refusal :=
  let i := saturate iEst 65535
  let low := decide (s.gdDecide n i < s.cf (Obj.gdOlCurrent n))
  let was := (s.gdCh n).openOn
  whenever (s.cf (Obj.gdOlCurrent n) ≠ 0 && s.gdIsOn n && !s.bit (Obj.gdStatus n) 13) s
    (((s.setOb (Obj.gdIEst n) i).gdOpen n low (s.gdCh n).openOff).postIf (low && !was) (8 * n + 2) 1)

/-- R150: an off channel's check, every OFF_DIAG_PERIOD or asked for by DIAG_RUN, never with VBAT below 8 V. -/
def execGdOffDiagCheck (n : Fin 24) (mv vbat : Nat) (s : State) : Host.Outcome State Fault Refusal :=
  let ch := s.gdCh n
  whenever (s.awake && s.cf (Obj.gdOffDiagEnable n) = 1 && s.cf (Obj.gdMode n) ≠ 0 && s.ob (Obj.gdAppliedValue n) = 0 &&
      decide (8000 ≤ vbat) && !s.hoist.safe &&
      (ch.diagNow || s.passed ch.lastDiag (ms (s.cf (Obj.gdOffDiagPeriod n))))) s (s.gdDiag n (saturate mv 65535))

/-- R151: the junction model, once per millisecond; suspended under the hoist safe state (R156). -/
def execGdThermalUpdate (n : Fin 24) (s : State) : Host.Outcome State Fault Refusal :=
  whenever (s.cf (Obj.gdThRth n) ≠ 0 && s.cf (Obj.gdMode n) ≠ 0 && !s.hoist.safe &&
    s.passed (s.gdCh n).lastThermal (ms 1)) s (s.gdThermal n)

/-- R152: `gap` is VCP − VBAT in mV, below 7.0 V for 2 µs. -/
def execVcpLow (gap : Nat) (s : State) : Host.Outcome State Fault Refusal :=
  let low := (List.range 24).any (fun c => s.bit (Obj.gdStatus c) 10)
  whenever (decide (gap < 7000) && !low) s (forRange 24 (fun s c => s.gdSupplyOff 10 4 c) s)

/-- R152: VCP − VBAT has stayed at or above 8.0 V for 1 ms. -/
def execVcpRestored (gap : Nat) (s : State) : Host.Outcome State Fault Refusal :=
  whenever (decide (8000 ≤ gap)) s (forRange 24 (fun s c => s.gdSupplyOn 10 c) s)

/-- R152: V(DSb) below VBAT − 3 V on three samples, with VBAT at 8 V or more. -/
def execDrainRailAbsent (b : Fin 4) (ds vbat : Nat) (s : State) : Host.Outcome State Fault Refusal :=
  let absent := (List.range 6).any (fun i => s.bit (Obj.gdStatus (6 * b.val + i)) 11)
  whenever (decide (8000 ≤ vbat) && decide (ds + 3000 < vbat) && !absent) s
    (forRange 6 (fun s i => s.gdSupplyOff 11 3 (6 * b.val + i)) s)

/-- R152: V(DSb) at or above VBAT − 2 V for 10 ms. -/
def execDrainRailRestored (b : Fin 4) (ds vbat : Nat) (s : State) : Host.Outcome State Fault Refusal :=
  whenever (decide (vbat ≤ ds + 2000)) s (forRange 6 (fun s i => s.gdSupplyOn 11 (6 * b.val + i)) s)

/-- R153: the retry delay has passed; the commanded value is presented as a switch-on. -/
def execGdRetry (n : Fin 24) (s : State) : Host.Outcome State Fault Refusal :=
  let due := match (s.gdCh n).retryAt with
    | some t => decide (t ≤ s.now)
    | none => false
  whenever (s.awake && due && s.bit (Obj.gdStatus n) 14 && !s.hoist.safe) s
    (let s := s.setGd n { s.gdCh n with retryAt := none }
     let s := s.setBit (Obj.gdStatus n) 14 false
     (s.bumpSat (Obj.gdRetriesUsed n) 255).gdResubmit n 3)

/-- R153: RETRY_RESET of running without a fault, for a GD, SV or DOUT channel or a matrix port (60 s, R291). -/
def execRetryResetExpiry (sig : BitVec 24) (s : State) : Host.Outcome State Fault Refusal :=
  let i := sigInst sig.toNat
  let due (t : Option Tick) (d : Nat) : Bool := match t with
    | some t => s.passed t (sec d)
    | none => false
  match sigClass sig.toNat with
  | 0x01 => whenever (decide (i < 24) && due (s.gdCh i).goodSince (s.cf (Obj.gdRetryReset i))) s
      (s.setOb (Obj.gdRetriesUsed i) 0)
  | 0x02 => whenever (decide (i < 8) && due (s.svCh i).goodSince (s.cf (Obj.svRetryReset i))) s
      (s.setOb (Obj.svRetriesUsed i) 0)
  | 0x04 => whenever (decide (i < 8) && due (s.doutCh i).goodSince (s.cf (Obj.doutRetryReset i))) s
      (s.setDout i { s.doutCh i with retries := 0 })
  | 0x09 => whenever (decide (mxPort sig.toNat < 2) && due (s.mxCh (mxPort sig.toNat)).goodSince 60) s
      (s.setMx (mxPort sig.toNat) { s.mxCh (mxPort sig.toNat) with retries := 0 })
  | _ => .next s

/-- R158, R159: a turn-on of a GD channel that passes t_chk without a trip (`ton` in 10 ns) clears SHORT, and after a clear, restart
or retry posts offset 7; for a DOUT, 2 ms of conduction. -/
def execGdRecovered (sig : BitVec 24) (ton : Nat) (s : State) : Host.Outcome State Fault Refusal :=
  let i := sigInst sig.toNat
  match sigClass sig.toNat with
  | 0x01 =>
    let ch := s.gdCh i
    let l := s.gdLead i
    whenever (decide (i < 24) && (ch.recover ≠ 0 || s.bit (Obj.gdStatus i) 5) && s.gdIsOn i) s
      (let s := s.setGd i { ch with recover := 0 }
       let s := s.setGd l { s.gdCh l with goodSince := some s.now }
       let s := (s.setBit (Obj.gdStatus i) 5 false).setOb (Obj.gdGateTon i) (saturate ton 65535)
       s.postIf (ch.recover ≠ 0) (8 * i + 7) ch.recover)
  | 0x04 =>
    let ch := s.doutCh i
    whenever (decide (i < 8) && ch.recover ≠ 0 && s.ob (Obj.doutAppliedValue i) ≠ 0 && s.passed ch.onSince (ms 2)) s
      ((s.setDout i { ch with recover := 0, goodSince := some s.now }).post (352 + 4 * i + 3) ch.recover)
  | _ => .next s

/-- R155. -/
def execGdFaultClear (sess : Nat) (n : Fin 24) (s : State) : Host.Outcome State Fault Refusal :=
  s.request sess .host (writeOf (Obj.gdFaultClear n) 1 1)
    (fun _ s => s.doGdFaultClear n)

/-- R159. -/
def execGdDiagRun (sess : Nat) (n : Fin 24) (s : State) : Host.Outcome State Fault Refusal :=
  s.request sess .service (writeOf (Obj.gdDiagRun n) 1 1)
    (fun _ s => s.doGdDiagRun n)

/-- R139, R211: a PWM period of a GD or DOUT channel starts. -/
def execPwmPeriodStart (sig : BitVec 24) (s : State) : Host.Outcome State Fault Refusal :=
  let i := sigInst sig.toNat
  match sigClass sig.toNat with
  | 0x01 => whenever (decide (i < 24) && s.cf (Obj.gdMode i) ≠ 0 &&
      s.periodStart (s.cf (Obj.gdPwmPeriod i)) (s.cf (Obj.gdPwmPhase i))) s (s.gdPeriod i)
  | 0x04 => whenever (decide (i < 8) && s.cf (Obj.doutEnable i) = 1 &&
      s.periodStart (s.cf (Obj.doutPwmPeriod i)) (s.cf (Obj.doutPwmPhase i))) s (s.doutPeriod i)
  | _ => .next s

end Sys2Proof.Machine
end

