-- ==== Sys2Proof/Machine/Motors.lean ====
section
/-!
DEFINITION. Bridges and fans (spec/07): command codes, braking, stall, windows with pinch protection, locks, wipers, and
the fan loop with its retries.
-/

namespace Sys2Proof.Machine
namespace State

/-- Bin of the learned profile at a count (R167). -/
def brBin (s : State) (h : Nat) : Nat := min 63 ((s.brPos h).toNat * 64 / s.cf (Obj.brTravel h))

/-- A close that ended at the closed end updates the learned profile (R167). -/
def brLearn (s : State) (h : Nat) : State :=
  let b := s.brCh h
  let first := !s.brFlag h 5
  let mix (old new : Table Nat) : Table Nat :=
    new.foldl (fun t e => t.put e.1 (match old.get? e.1 with
      | some o => if first then e.2 else (3 * o + e.2) / 4
      | none => e.2)) old
  (s.setBr h { b with bins := mix b.bins b.closing, vbats := mix b.vbats b.closingV }).setBrFlag h 5 true

/-- What a stall means for a window (R166): normalised at the closed end, TRAVEL at the open end, else lost. -/
def windowStall (s : State) (h : Nat) : State :=
  let b := s.brCh h
  let p := s.brPos h
  let norm := s.brFlag h 6
  if b.dir = 2 then
    if !norm || p.natAbs ≤ s.cf (Obj.brSealZone h) then
      let s := if norm then s.brLearn h else s
      ((s.setBrFlag h 6 true).setPos h 0).brSlot h 1 0
    else s
  else
    let t := s.cf (Obj.brTravel h)
    if norm && (p - t).natAbs ≤ t / 20 then s.setPos h t else s.loseNormal h

/-- The level FEEDBACK_DIN reads, where one is set. -/
def brFeedback (s : State) (h : Nat) : Option Bool :=
  let d := s.cf (Obj.brFeedbackDin h)
  if d = 0xFF then none else some (s.ob (Obj.dinState d) = 1)

/-- A lock pulse ends with a reason (R169): a feedback that is set and does not read the expected level posts slot 5. -/
def lockEnd (s : State) (h reason : Nat) : State :=
  let d := (s.brCh h).dir
  let s := s.brStop h reason
  match s.brFeedback h with
  | some x => if x = decide (d = 1) then s else s.brSlot h 5 d
  | none => s

/-- The reverse run of a blockage ends (R170): stop, BLOCKED and slot 9. -/
def blockageEnd (s : State) (h : Nat) : State :=
  let s := s.setBr h { s.brCh h with blockage := false }
  ((s.brStop h 0).setBrFlag h 3 true).brSlot h 9 0

/-- The reversal of a pinch ends (R167, R168): stop, slot 4 with the position, PINCH_LATCH. -/
def reversalEnd (s : State) (h reason : Nat) : State :=
  ((s.brStop h reason).setBrFlag h 4 true).brSlot h 4 (s.ob (Obj.brPosition h))

/-- A stall ends the movement with the stop sequence (R165); its meaning is the function's. -/
def brStall (s : State) (h : Nat) : State :=
  let s := match s.brFn h with
    | 3 => s.lockEnd h 2
    | 2 =>
      let s := s.windowStall h
      let b := s.brCh h
      if b.reversal then (s.setBr h { b with reversal := false }).reversalEnd h 2 else s.brStop h 2
    | _ => s.brStop h 2
  s.setBrFlag h 1 true

/-- The mean of the 50 ms that end 250 ms after the motor start, of BR_CURRENT and VBAT (R167); before they have passed, and where
none of them was measured, free values. -/
def brEarly (s : State) (h : Nat) : Nat × Nat :=
  let b := s.brCh h
  if b.early.2.2 = 0 || !s.passed b.since (ms 250) then
    (Config.unmeasured (Obj.brForceEst h) s.now, 1 + Config.unmeasured (Obj.brForceEst h) (s.now + 1))
  else (b.early.1 / b.early.2.2, b.early.2.1 / b.early.2.2)

/-- I_ref at the present position with its VBAT_ref (R167): the learned bin, or the mean taken early in the movement. -/
def brRef (s : State) (h : Nat) : Nat × Nat :=
  let b := s.brCh h
  match (if s.brFlag h 5 then b.bins.get? (s.brBin h) else none), b.vbats.get? (s.brBin h) with
  | some i, some v => (i, v)
  | _, _ => s.brEarly h

/-- The force estimate in N (R167): FORCE_GAIN × 0.1 N/A × (BR_CURRENT − I_ref × VBAT ÷ VBAT_ref), not below 0. -/
def brForce (s : State) (h current vbat : Nat) : Nat :=
  let r := s.brRef h
  s.cf (Obj.brForceGain h) * (current - r.1 * vbat / max 1 r.2) / 1000

/-- What a millisecond of a window adds to its profile (R167): the early mean, and the bins of a close. -/
def brGather (s : State) (h current vbat : Nat) : State :=
  let b := s.brCh h
  let el := s.now - b.since
  let e := b.early
  let b := if ms 200 < el ∧ el ≤ ms 250 then { b with early := (e.1 + current, e.2.1 + vbat, e.2.2 + 1) } else b
  let k := s.brBin h
  s.setBr h (if b.dir = 2 then { b with closing := b.closing.put k current, closingV := b.closingV.put k vbat } else b)

/-- One millisecond of a window that closes or opens (R166, R167): ripples counted, the go-to position checked, the
profile of a close gathered, and while a normalised window closes above SEAL_ZONE the force estimated. -/
def brMilli (s : State) (h current vbat ripples : Nat) : State :=
  let s := (s.brCount h ripples).brMeasured h current
  let b := s.brCh h
  let done := match b.target with
    | some g => (b.dir = 1 && decide ((g : Int) ≤ s.brPos h)) || (b.dir = 2 && decide (s.brPos h ≤ g))
    | none => false
  if done then s.brStop h 1
  else
    let s := s.brGather h current vbat
    if b.dir = 2 && s.brFlag h 6 && decide ((s.cf (Obj.brSealZone h) : Int) < s.brPos h) && !b.reversal then
      let f := s.brForce h (s.gdDecide (s.brOther h) current) vbat
      let s := s.setOb (Obj.brForceEst h) (saturate f 65535)
      let b := s.brCh h
      s.setBr h { b with overs := if s.cf (Obj.brPinchForce h) < f then b.overs + 1 else 0 }
    else s

/-- A pinch (R167): slot 3 with F, brake, then a reversal of class S unless REVERSE_RIPPLES is 0. -/
def brPinch (s : State) (h : Nat) : State :=
  let b := s.brCh h
  let rev := s.cf (Obj.brReverseRipples h) ≠ 0
  let s := s.brSlot h 3 (s.ob (Obj.brForceEst h))
  let s := (s.brUnload h).setBr h { b with
    dir := 3, next := if rev then 1 else 0, reversal := rev, reversed := 0, overs := 0, since := s.now, reason := 0, target := none }
  let s := if rev then s else s.setBrFlag h 4 true
  (s.brShow h 1).brChannels h 3 0

/-! ## Fans (R174–R177) -/

/-- The newest tach edge of a fan. -/
def fanEdge (s : State) (f : Nat) : Option Tick := (s.tach.read {} (s.cf (Obj.fanTach f))).edges.head?

/-- A tach edge has come within a time. -/
def fanEdgeWithin (s : State) (f : Nat) (d : Tick) : Bool := match s.fanEdge f with
  | some t => decide (s.now < t + d)
  | none => false

/-- How long a tach edge is waited for (R177): max(4 × the last tach period, 20 ms). -/
def fanEdgeWait (s : State) (f : Nat) : Tick := max (4 * s.ob (Obj.tachPeriod (s.cf (Obj.fanTach f)))) (ms 20)

/-- Tach speed in rpm (R174): TACH_FREQ is in 0.01 Hz. -/
def fanTachRpm (s : State) (f : Nat) : Nat :=
  let t := s.cf (Obj.fanTach f)
  if t = 0xFF then 0 else s.ob (Obj.tachFreq t) * 60 / (100 * s.cf (Obj.fanTachPerRev f))

/-- Ripple speed in rpm of the ripples counted in the last 100 ms (R174); RIPPLE_RATIO is in 0.01 ripple. -/
def fanRippleRpm (s : State) (f ripples : Nat) : Nat :=
  let r := s.ob (Obj.fanRippleRatio f)
  let r := if r = 0 then 100 * s.cf (Obj.fanRipplesPerRev f) else r
  if r = 0 then 0 else ripples * 60000 / r

/-- The tach counts: one is fitted and not declared open. -/
def fanTachOk (s : State) (f : Nat) : Bool := s.cf (Obj.fanTach f) ≠ 0xFF && !s.bit (Obj.fanFlags f) 3

/-- The speed loop's next duty (R174). -/
def fanNextDuty (s : State) (f speed : Nat) : Nat :=
  let c := s.fanCh f
  let e : Int := (c.value : Int) - speed
  let d : Int := (c.duty : Int) + (s.cf (Obj.fanKp f) : Int) * (e - c.lastErr) / 10 + (s.cf (Obj.fanKi f) : Int) * e / 1000
  if d < 0 then 0 else min 10000 d.toNat

/-- A 10 ms update of a fan (R174): its speed shown, the ratio relearned each second while both sources agree within
10 %, and after spin-up in speed mode the PI loop. -/
def fanUpdate (s : State) (f ripples : Nat) : State :=
  let tach := s.fanTachRpm f
  let rip := s.fanRippleRpm f ripples
  let src := if s.fanTachOk f then 1 else if s.cf (Obj.fanRipplesPerRev f) ≠ 0 then 2 else 0
  let speed := if src = 1 then tach else if src = 2 then rip else 0
  let c := s.fanCh f
  let agree := src = 1 && tach ≠ 0 && decide (10 * (max tach rip - min tach rip) ≤ tach)
  let learn := agree && s.passed c.lastLearn (sec 1)
  let s := (s.setOb (Obj.fanSpeed f) (saturate speed 65535)).setOb (Obj.fanSpeedSource f) src
  let s := if learn then
      (s.setOb (Obj.fanRippleRatio f) (saturate (ripples * 60000 / tach) 65535)).setBit (Obj.fanFlags f) 1 true else s
  let c := { c with lastUpdate := s.now, lastLearn := if learn then s.now else c.lastLearn
                    lastTach := if src = 1 && tach ≠ 0 then tach else c.lastTach
                    agreeSince := if decide (10 * (max tach rip - min tach rip) ≤ rip) && tach ≠ 0 &&
                        s.fanEdgeWithin f (s.fanEdgeWait f) then
                        (match c.agreeSince with
                         | some t => some t
                         | none => some s.now) else none }
  let s := s.setFan f c
  if s.cf (Obj.fanControl f) = 1 && s.ob (Obj.fanState f) = 2 then
    let d := s.fanNextDuty f speed
    let s := s.setFan f { c with lastErr := (c.value : Int) - speed }
    (s.setBit (Obj.fanFlags f) 0 (d = 10000)).fanDuty f d
  else s

/-- A failed start attempt (R175): slot 0 with the attempt number; retries after 1 s, 4 s and 16 s; the fourth failure
locks the fan out with slot 1. -/
def fanFailed (s : State) (f : Nat) : State :=
  let n := s.ob (Obj.fanAttempts f) + 1
  let s := ((s.dropEntry (gdSig (s.fanLead f))).runQueue).fanOff f
  let s := s.setOb (Obj.fanAttempts f) (saturate n 4)
  let s := s.fanSlot f 0 n
  if 4 ≤ n then
    let s := (s.setFan f { s.fanCh f with retryAt := none }).setOb (Obj.fanState f) 4
    (s.setBit (Obj.fanFlags f) 2 true).fanSlot f 1 4
  else
    let d := if n = 1 then sec 1 else if n = 2 then sec 4 else sec 16
    (s.setFan f { s.fanCh f with retryAt := some (s.now + d) }).setOb (Obj.fanState f) 3

/-- The tach is declared open (R177): ripple speed from here on, and slot 2 with it. -/
def tachOpens (s : State) (f rip : Nat) : State :=
  let s := s.setFan f { s.fanCh f with agreeSince := none }
  ((s.setBit (Obj.fanFlags f) 3 true).setOb (Obj.fanSpeedSource f) 2).fanSlot f 2 rip

/-- BR_CLEAR (R179): BLOCKED and the lock rate limit end; a wiper code that stands does not restart by itself. -/
def doBrClear (s : State) (h : Nat) : Answer :=
  let b := s.brCh h
  let w := b.waiting
  let s := s.setBrFlag h 3 false
  let s := s.setBr h { b with pulses := [], waiting := none }
  let st := s.ob (Obj.brState h)
  let s := if st = 6 || st = 7 then s.brShow h 0 else s
  match w with
  | some code => .ok (if code = b.code then s.lockPulse h code else s)
  | none => .ok s

/-- BR_FORGET (R179): the learned profile and normalisation are cleared. -/
def doBrForget (s : State) (h : Nat) : Answer :=
  let s := s.setBr h { s.brCh h with bins := [], vbats := [], stored := none }
  let s := (s.setBrFlag h 5 false).setBrFlag h 6 false
  .ok (s.setOb (Obj.brPosition h) 0xFFFF)

/-- FAN_CLEAR (R180): LOCKED_OUT ends and a non-zero command starts again. -/
def doFanClear (s : State) (f : Nat) : Answer :=
  let locked := s.bit (Obj.fanFlags f) 2
  let s := (s.setBit (Obj.fanFlags f) 2 false).setOb (Obj.fanAttempts f) 0
  if locked && s.fanUsed f then
    let s := s.setOb (Obj.fanState f) 0
    .ok (s.resubmit (gdSig (s.fanLead f)))
  else .ok s

end State

/-! ## Meanings -/

/-- R163. `ripples` are those counted since the bridge's last command. -/
def execBridgeCommand (h : Fin 6) (ripples : Nat) (s : State) : Host.Outcome State Fault Refusal :=
  match (s.brCh h).arrived with
  | some code => whenever (s.brUsed h && !s.hoist.safe) s ((s.brCount h ripples).brCommand h code)
  | none => .next s

/-- R163: BR_BRAKE_TIME has passed; a plain function goes on holding the brake under code 3 (R171). -/
def execBridgeBrakeEnd (h : Fin 6) (s : State) : Host.Outcome State Fault Refusal :=
  let b := s.brCh h
  whenever (s.brUsed h && b.dir = 3 && !(s.brHolds h && b.reason = 0) &&
    s.passed b.since (ms (s.cf (Obj.brBrakeTime h)))) s (s.brBrakeEnd h)

/-- R163, R170: a movement has run RUN_MAX; a wiper's cycle that has not reached park posts slot 8. -/
def execBridgeRunMax (h : Fin 6) (ripples : Nat) (s : State) : Host.Outcome State Fault Refusal :=
  let b := s.brCh h
  let max := s.cf (Obj.brRunMax h)
  whenever (s.brUsed h && max ≠ 0 && (b.dir = 1 || b.dir = 2) && s.passed b.since (ms max)) s
    (let s := s.brCount h ripples
     if s.brFn h = 4 then (if b.blockage then s.blockageEnd h else (s.brStop h 4).brSlot h 8 0)
     else if b.reversal then
       (s.setBr h { s.brCh h with reversal := false }).reversalEnd h 4
     else s.brStop h 4)

/-- R165: BR_CURRENT (10 mA) at or above STALL_I for STALL_TIME with no ripple. -/
def execBridgeStall (h : Fin 6) (current ripples : Nat) (s : State) : Host.Outcome State Fault Refusal :=
  let b := s.brCh h
  let i := s.gdDecide (s.brLead h) (saturate current 65535)
  whenever (s.brUsed h && s.brFn h ≠ 4 && (b.dir = 1 || b.dir = 2) && decide (s.cf (Obj.brStallI h) ≤ i) &&
      s.passed b.since (ms (s.cf (Obj.brStallTime h)))) s
    (((s.brCount h ripples).brMeasured h current).brStall h)

/-- R165: BR_CURRENT has stood on its side of OL_BRIDGE for 100 ms of drive; the movement continues. The flag falls as R149's does
(DEDUCED, assumption 115). -/
def execBridgeOpenLoad (h : Fin 6) (current : Nat) (s : State) : Host.Outcome State Fault Refusal :=
  let b := s.brCh h
  let ol := s.cf (Obj.brOlBridge h)
  let low := decide (s.gdDecide (s.brLead h) current < ol)
  let was := s.brFlag h 2
  whenever (s.brUsed h && ol ≠ 0 && (b.dir = 1 || b.dir = 2) && s.passed b.since (ms 100)) s
    (((s.setBrFlag h 2 low).brMeasured h current).postIf (low && !was) (8 * s.brLead h + 2) 1)

/-- R167: a window's millisecond, with BR_CURRENT (10 mA), VBAT (mV) and the ripples counted. -/
def execForceEstimate (h : Fin 6) (current vbat ripples : Nat) (s : State) : Host.Outcome State Fault Refusal :=
  let b := s.brCh h
  whenever (s.brUsed h && s.brFn h = 2 && (b.dir = 1 || b.dir = 2)) s (s.brMilli h current vbat ripples)

/-- R167: PINCH_CONFIRM consecutive estimates above PINCH_FORCE. -/
def execPinch (h : Fin 6) (s : State) : Host.Outcome State Fault Refusal :=
  let b := s.brCh h
  whenever (s.brUsed h && s.brFn h = 2 && b.dir = 2 && decide (s.cf (Obj.brPinchConfirm h) ≤ b.overs)) s (s.brPinch h)

/-- R167: REVERSE_RIPPLES counted or the open end reached: stop sequence, slot 4 with the position, PINCH_LATCH. -/
def execPinchReversalEnd (h : Fin 6) (ripples : Nat) (s : State) : Host.Outcome State Fault Refusal :=
  let t := s.brCount h ripples
  let b := t.brCh h
  whenever (s.brUsed h && b.reversal && b.dir = 1 && (decide (s.cf (Obj.brReverseRipples h) ≤ b.reversed) ||
      decide ((s.cf (Obj.brTravel h) : Int) ≤ t.brPos h))) s
    ((t.setBr h { b with reversal := false }).reversalEnd h 1)

/-- R169: a lock pulse ends at PULSE_TIME, or at the feedback level; a level not reached posts slot 5. -/
def execLockPulseEnd (h : Fin 6) (s : State) : Host.Outcome State Fault Refusal :=
  let b := s.brCh h
  let want : Bool := decide (b.dir = 1)
  let reached : Bool := decide (s.brFeedback h = some want)
  whenever (s.brUsed h && s.brFn h = 3 && (b.dir = 1 || b.dir = 2) &&
      (reached || s.passed b.since (ms (s.cf (Obj.brPulseTime h))))) s
    (s.lockEnd h 1)

/-- R169: fewer than 10 pulses lie in the last 30 s; a code that waits runs if it still stands. -/
def execLockRateWindowExpiry (h : Fin 6) (s : State) : Host.Outcome State Fault Refusal :=
  match (s.brCh h).waiting with
  | some code => whenever (s.brUsed h && s.brFn h = 3 && decide ((s.recentPulses h).length < 10)) s
      (if code = (s.brCh h).code then s.lockPulse h code
       else (s.setBr h { s.brCh h with waiting := none }).brShow h 0)
  | none => .next s

/-- R170: the park input changes. Its return to 1 ends the cycle: the wiper brakes where the code asks for no more. -/
def execWiperPark (h : Fin 6) (parked : Bool) (s : State) : Host.Outcome State Fault Refusal :=
  let b := s.brCh h
  whenever (s.brUsed h && s.brFn h = 4 && (b.dir = 1 || b.dir = 2)) s
    (if !parked then s.setBr h { b with left := true }
     else if b.blockage then s.blockageEnd h
     else if !b.left then s
     else match b.code with
       | 0 => ((s.setBr h { b with left := false }).brStop h 0).brSlot h 7 0
       | 1 => (s.setBr h { b with left := false }).brStop h 1
       | 2 => (s.setBr h { b with left := false
                                  nextWipe := some (s.now + ms (100 * s.cf (Obj.brWipeInterval h))) }).brStop h 0
       | _ => s.setBr h { b with left := false, since := s.now })

/-- R170: WIPE_INTERVAL after a park the next intermittent wipe starts. -/
def execWipeIntervalExpiry (h : Fin 6) (s : State) : Host.Outcome State Fault Refusal :=
  let b := s.brCh h
  let due := match b.nextWipe with
    | some t => decide (t ≤ s.now)
    | none => false
  whenever (s.brUsed h && s.brFn h = 4 && b.code = 2 && due && !s.brFlag h 3) s
    ((s.setBr h { b with nextWipe := none }).brMove h 1)

/-- R170: a wiper stall is a blockage: brake, reverse at SLOW_DUTY to park or RUN_MAX; a stall of that run ends it too. -/
def execWiperBlocked (h : Fin 6) (current : Nat) (s : State) : Host.Outcome State Fault Refusal :=
  let b := s.brCh h
  let i := s.gdDecide (s.brLead h) (saturate current 65535)
  whenever (s.brUsed h && s.brFn h = 4 && (b.dir = 1 || b.dir = 2) && decide (s.cf (Obj.brStallI h) ≤ i) &&
      s.passed b.since (ms (s.cf (Obj.brStallTime h)))) s
    (let s := s.brMeasured h current
     if b.blockage then (s.blockageEnd h).setBrFlag h 1 true
     else
       let s := (s.brUnload h).setBr h { s.brCh h with blockage := true, next := 2, dir := 3, since := s.now, reason := 0 }
       ((s.setBrFlag h 1 true).brShow h 1).brChannels h 3 0)

/-- R179. -/
def execBrClear (sess : Nat) (h : Fin 6) (s : State) : Host.Outcome State Fault Refusal :=
  s.request sess .host (writeOf (Obj.brClear h) 1 1)
    (fun _ s => s.doBrClear h)

/-- R179. -/
def execBrForget (sess : Nat) (h : Fin 6) (s : State) : Host.Outcome State Fault Refusal :=
  s.request sess .service (writeOf (Obj.brForget h) 1 1)
    (fun _ s => s.doBrForget h)

/-- R174: the 10 ms update; `ripples` are those of the last 100 ms. -/
def execFanLoopUpdate (f : Fin 4) (ripples : Nat) (s : State) : Host.Outcome State Fault Refusal :=
  let st := s.ob (Obj.fanState f)
  whenever (s.fanUsed f && (st = 1 || st = 2) && s.passed (s.fanCh f).lastUpdate (ms 10)) s (s.fanUpdate f ripples)

/-- R175: within the spin-up window the current (10 mA) stays at or above FAN_STALL_I for FAN_STALL_TIME, with no tach
edge in that time; where no tach is fitted, with no ripple. -/
def execFanStartFailed (f : Fin 4) (current : Nat) (s : State) : Host.Outcome State Fault Refusal :=
  let c := s.fanCh f
  whenever (s.fanUsed f && s.ob (Obj.fanState f) = 1 && !(s.cf (Obj.fanTach f) ≠ 0xFF && s.fanEdgeWithin f (ms (s.cf (Obj.fanStallTime f)))) &&
      decide (s.cf (Obj.fanStallI f) ≤ s.gdDecide (s.fanLead f) current) &&
      s.passed c.since (ms (s.cf (Obj.fanStallTime f)))) s (s.fanFailed f)

/-- R175, R177: the window ends: a speed of at least 300 rpm from either source ends the attempt without failure; ripple
speed with no tach edge declares the tach open. -/
def execSpinupWindowEnd (f : Fin 4) (ripples : Nat) (s : State) : Host.Outcome State Fault Refusal :=
  let c := s.fanCh f
  let tach := if s.fanTachOk f && s.fanEdgeWithin f (s.now - c.since) then s.fanTachRpm f else 0
  let rip := s.fanRippleRpm f ripples
  whenever (s.fanUsed f && s.ob (Obj.fanState f) = 1 && s.passed c.since (ms (s.cf (Obj.fanSpinupTime f)))) s
    (if tach < 300 ∧ rip < 300 then s.fanFailed f
     else
       let s := (s.setOb (Obj.fanState f) 2).setOb (Obj.fanAttempts f) 0
       let s := if s.cf (Obj.fanControl f) = 1 then s else s.fanDuty f c.value
       if s.fanTachOk f && !s.fanEdgeWithin f (s.now - c.since) then s.tachOpens f rip else s)

/-- R175: a retry delay has passed; the start is presented as a switch-on of the owner's class. -/
def execFanRetry (f : Fin 4) (s : State) : Host.Outcome State Fault Refusal :=
  let due := match (s.fanCh f).retryAt with
    | some t => decide (t ≤ s.now)
    | none => false
  whenever (s.awake && s.fanUsed f && s.ob (Obj.fanState f) = 3 && due) s
    (let s := (s.setFan f { s.fanCh f with retryAt := none }).setOb (Obj.fanState f) 0
     s.resubmit (State.gdSig (s.fanLead f)))

/-- R176: a running fan meets the stall condition with no ripple: slot 4 with its last speed, then a failed attempt with
retries from the 1 s step. -/
def execFanStallRunning (f : Fin 4) (current : Nat) (s : State) : Host.Outcome State Fault Refusal :=
  let edge := s.cf (Obj.fanTach f) ≠ 0xFF && s.fanEdgeWithin f (ms (s.cf (Obj.fanStallTime f)))
  whenever (s.fanUsed f && s.ob (Obj.fanState f) = 2 && !edge &&
      decide (s.cf (Obj.fanStallI f) ≤ s.gdDecide (s.fanLead f) current)) s
    ((((s.setOb (Obj.fanAttempts f) 0).fanSlot f 4 (s.ob (Obj.fanSpeed f)))).fanFailed f)

/-- R177: no tach edge for max(4 × the last period, 20 ms) while the ripple speed is at least half the last tach speed. -/
def execTachOpen (f : Fin 4) (ripples : Nat) (s : State) : Host.Outcome State Fault Refusal :=
  let rip := s.fanRippleRpm f ripples
  whenever (s.fanUsed f && s.ob (Obj.fanState f) = 2 && s.fanTachOk f && !s.fanEdgeWithin f (s.fanEdgeWait f) &&
      decide ((s.fanCh f).lastTach ≤ 2 * rip)) s (s.tachOpens f rip)

/-- R177: 1 s of tach speed within 10 % of the ripple speed. -/
def execTachRestored (f : Fin 4) (ripples : Nat) (s : State) : Host.Outcome State Fault Refusal :=
  let ok := match (s.fanCh f).agreeSince with
    | some t => s.passed t (sec 1)
    | none => false
  whenever (s.fanUsed f && s.bit (Obj.fanFlags f) 3 && ok) s
    (((s.setBit (Obj.fanFlags f) 3 false).setOb (Obj.fanSpeedSource f) 1).fanSlot f 3 (s.fanRippleRpm f ripples))

/-- R180. -/
def execFanClear (sess : Nat) (f : Fin 4) (s : State) : Host.Outcome State Fault Refusal :=
  s.request sess .host (writeOf (Obj.fanClear f) 1 1)
    (fun _ s => s.doFanClear f)

end Sys2Proof.Machine
end

