-- ==== Sys2Proof/Machine/Solenoid.lean ====
section
/-!
DEFINITION. The solenoid commands of spec/08: the profile's phases, new commands, range changes, movement detection,
trips, leaks, diagnostics and retries.
-/

namespace Sys2Proof.Machine
namespace State

/-- A delivered value starts or restarts the profile (R189, R190): from off or fast off, a RETRIGGER, and in switching mode a
different value. -/
def svRestarts (s : State) (c v : Nat) : Bool :=
  let ch := s.svCh c
  v ≠ 0 && !ch.off && (!s.svDriven c || ch.again || (s.cf (Obj.svMode c) = 1 && v ≠ ch.value))

/-- A setpoint in hold (R189, R192): one that leaves the fine range waits for the coarse range; a lower one brings fast decay. -/
def svSetpoint (s : State) (c v : Nat) : State :=
  let ch := s.svCh c
  if s.ob (Obj.svRange c) = 0 && decide (1250 * s.svTwo c < v) && s.cf (Obj.svRangeMode c) ≠ 2 then
    s.setSv c { ch with after := some v }
  else
    let s' := s.setSv c { ch with setpoint := v, after := none, steadySince := s.now }
    if v < ch.setpoint then s'.svDecay c else s'

/-- A delivered value acts by mode and phase (R189, R190); `i` is the present current in mA. The value in force again is no new
command. -/
def svAct (s : State) (c v i : Nat) : State :=
  let ch := s.svCh c
  let start := s.svRestarts c v
  let s := s.setSv c { ch with arrived := none, value := v }
  if v = 0 then s.svOff c i
  else if ch.off then s
  else if start then s.svStart c i
  else if v = ch.value || s.svPh c ≠ 4 then s
  else s.svSetpoint c v

/-- Boost ends (R186, R199): at the peak, or at BOOST_MAX, with BOOST_TIMEOUT where the current has at least risen. -/
def svBoostEnd (s : State) (c i : Nat) : State :=
  if s.cf (Obj.svPeakCurrent c) ≤ i then s.svBoostReached c
  else
    let ch := s.svCh c
    let s := s.setOb (Obj.svBoostTime c) (saturate ((s.now - ch.boostAt) / 100) 65535)
    let risen := decide (s.cf (Obj.svOpenI c) ≤ i)
    let s := s.setSv c { ch with noRise := !risen }
    let s := if risen then (s.setSvBit c 10 true).svPost c 5 i else s
    s.svPeak c

/-- A channel turned off by a protection through the clamp path (R197, R198, R201) at a current in mA. -/
def svShut (s : State) (c i : Nat) : State :=
  let s := ((s.dropEntry (svSig c)).runQueue).svStagesOff c i
  s.setSv c { s.svCh c with off := true, goodSince := none, recover := 0 }

/-- The retry after a trip or leak (R202), or latching. -/
def svFault (s : State) (c : Nat) : State :=
  let count := s.cf (Obj.svRetryCount c)
  let used := s.ob (Obj.svRetriesUsed c)
  if s.hoist.safe then s
  else if count = 255 || used < count then
    let at_ := s.now + retryDelay count (s.cf (Obj.svRetryDelay c)) used
    ((s.setSv c { s.svCh c with retryAt := some at_ }).setSvBit c 14 true).svEnter c 6
  else ((s.setSvBit c 15 true).svPost c 1 used).svEnter c 7

/-- The stages of a channel: a pair has two (R183). -/
def svStages (s : State) (c : Nat) : List Nat := if s.svPaired c then [c, c + 1] else [c]

/-- Every stage of a channel reads below 150 °C (R201, R202). -/
def svCool (s : State) (c : Nat) : Bool := (s.svStages c).all (fun i => decide (signedOf 2 (s.ob (Obj.svStageTemp i)) < 1500))

/-- A channel freed and its commanded value presented (R201, R202). -/
def svResubmit (s : State) (c why : Nat) : State :=
  if s.svBit c 14 || s.svBit c 15 || s.svBit c 8 then s
  else
    let s := s.setSv c { s.svCh c with off := false, recover := why }
    let s := if s.svPh c = 6 || s.svPh c = 7 then s.svEnter c 0 else s
    s.resubmit (svSig c)

/-- The off-state result of one check (R200). -/
def svReading (vh vl : Nat) : Nat :=
  if 4000 ≤ vh ∧ vl ≤ 500 then 2
  else if vh ≤ 500 ∧ vl ≤ 500 then 3
  else if 6500 ≤ vh ∧ 6500 ≤ vl then 4
  else if 1500 ≤ vh ∧ vh ≤ 2500 ∧ vh ≤ vl + 300 ∧ vl ≤ vh + 300 then 1
  else 5

/-- One off-state check (R200). -/
def svDiag (s : State) (c vh vl : Nat) : State :=
  let ch := s.svCh c
  let l := (svReading vh vl :: ch.readings).take 3
  let s := s.setSv c { ch with readings := l, lastDiag := s.now, diagNow := false }
  match threeAgree l with
  | none => s
  | some r =>
    let was := s.ob (Obj.svOffDiagResult c)
    let s := s.setOb (Obj.svOffDiagResult c) r
    let open_ (s : State) (b : Bool) : State := (s.setSv c { s.svCh c with openOff := b }).svShowOpen c
    match r with
    | 1 => (open_ s false).setSvBit c 7 false
    | 2 => ((open_ s true).setSvBit c 7 false).svPostIf (was ≠ 2) c 2 2
    | 3 => (s.setSvBit c 7 true).svPostIf (was ≠ 3) c 3 (3 * 2 ^ 16 + vh)
    | 4 => (s.setSvBit c 7 true).svPostIf (was ≠ 4) c 3 (4 * 2 ^ 16 + vh)
    | _ => s

/-- FAULT_CLEAR (R202), of a pair on its even channel (R183, R205). -/
def doSvFaultClear (s : State) (c0 : Nat) : Answer :=
  let c := s.svMain c0
  check (s.svCool c) .configInvalid <|
    let s := s.setSv c { s.svCh c with retryAt := none }
    let s := (((s.setSvBit c 15 false).setSvBit c 14 false).setSvBit c 5 false).setSvBit c 9 false
    let s := (s.setSvBit c 8 false).setOb (Obj.svRetriesUsed c) 0
    if s.commandedOf (svSig c) = 0 then
      let s := s.setSv c { s.svCh c with off := false, recover := 0 }
      let s := if s.svPh c = 6 || s.svPh c = 7 then s.svEnter c 0 else s
      .ok (s.svPost c 11 1)
    else .ok (s.svResubmit c 1)

/-- DIAG_RUN (R206), of a pair on its even channel. -/
def doSvDiagRun (s : State) (c0 : Nat) : Answer :=
  let c := s.svMain c0
  check (s.svPh c = 0 && s.cf (Obj.svOffDiagEnable c) = 1) .valueRange <|
    .ok (s.setSv c { s.svCh c with diagNow := true })

/-- RETRIGGER (R190): a switch-on from boost under the owner's class, at the present value, or at the one that waits (R119). -/
def doSvRetrigger (s : State) (c : Nat) : Answer :=
  let v := s.commandedOf (svSig c)
  let r : AdmRequest := { sig := svSig c, cls := s.ownerCode (svSig c), age := s.now, value := v, retrigger := true
                          prof := s.svProfile c 0 v false }
  check (v ≠ 0) .valueRange <|
    .ok (if s.disabled (svSig c) || (s.svCh c).off then s
      else match s.waiting? (svSig c) with
        | some o => s.revise o { r with value := o.value, prof := s.svProfile c 0 o.value false }
        | none => s.present r)

/-! ## Movement (R194, R195) -/

/-- The first sample, from number `k` on, at which the slope over 8 µs on each side changes by a threshold in mV/µs (R194). -/
def kinkFrom (limit : Nat) : Nat → List Int → Option Nat
  | _, [] => none
  | k, x :: rest =>
    match rest[7]?, rest[15]? with
    | some y, some z => if 8 * (limit : Int) ≤ ((z - 2 * y + x).natAbs : Int) then some (k + 8) else kinkFrom limit (k + 1) rest
    | _, _ => none

/-- The minimum of the first dip from sample `k` on (R195): `top` the highest current so far, `low` the lowest after a fall of the
limit in mA and its sample; a higher sample is the renewed rise. -/
def dipFrom (limit : Nat) : Nat → Int → Option (Int × Nat) → List Int → Option Nat
  | _, _, _, [] => none
  | k, top, none, x :: rest =>
    if x + limit ≤ top then dipFrom limit (k + 1) top (some (x, k)) rest else dipFrom limit (k + 1) (max top x) none rest
  | k, top, some (m, at_), x :: rest =>
    if m < x then some at_ else if x < m then dipFrom limit (k + 1) top (some (x, k)) rest
    else dipFrom limit (k + 1) top (some (m, at_)) rest

/-- MOVE_TIME in µs of the kink or dip that samples at 1 MS/s show, the first taken `t0` µs after fast off or boost began. -/
def svSeen (s : State) (c t0 : Nat) (samples : List Int) : Option Nat :=
  let lim := s.cf (Obj.svMoveThreshold c)
  if (s.svCh c).windowK.isSome then (kinkFrom lim 0 samples).map (fun k => t0 + k)
  else match samples with
    | [] => none
    | x :: rest => (dipFrom lim 1 x none rest).map (fun k => t0 + k)

end State

/-! ## Meanings -/

/-- R189, R190. A restart that falls in a range change waits for its end. -/
def execSvCommand (c : Fin 8) (i : Nat) (s : State) : Host.Outcome State Fault Refusal :=
  match (s.svCh c).arrived with
  | some v => whenever (s.cf (Obj.svMode c) ≠ 0 && !s.hoist.safe && !(s.svRestarts c v && s.svBit c 3)) s (s.svAct c v i)
  | none => .next s

/-- R186: boost ends when the current (mA) reaches SV_PEAK_CURRENT or BOOST_MAX has passed. -/
def execSvBoostEnd (c : Fin 8) (i : Nat) (s : State) : Host.Outcome State Fault Refusal :=
  whenever (s.svPh c = 2 && (decide (s.cf (Obj.svPeakCurrent c) ≤ i) ||
    s.passed (s.svCh c).boostAt (us (s.cf (Obj.svBoostMax c))))) s (s.svBoostEnd c i)

/-- R186: PEAK_TIME has passed. -/
def execSvPeakHoldEnd (c : Fin 8) (s : State) : Host.Outcome State Fault Refusal :=
  whenever (s.svPh c = 3 && s.passed (s.svCh c).phaseAt (us (s.cf (Obj.svPeakTime c)))) s (s.svHold c)

/-- R186: the current is below 20 mA. -/
def execSvFastOffEnd (c : Fin 8) (i : Nat) (s : State) : Host.Outcome State Fault Refusal :=
  whenever (s.svPh c = 5 && decide (i < 20)) s
    ((s.svEnter c (if s.waits (s.requestFor (State.svSig c) 0 0 0) then 1 else 0)).setOb (Obj.svIMeas c) i)

/-- R190. -/
def execSvRetrigger (sess : Nat) (c : Fin 8) (s : State) : Host.Outcome State Fault Refusal :=
  s.request sess .host (writeOf (Obj.svRetrigger c) 1 1)
    (fun _ s => s.doSvRetrigger c)

/-- R187: the mean current (mA) has stood on its side of the band for 5 ms in hold. -/
def execSvRegFault (c : Fin 8) (i : Nat) (s : State) : Host.Outcome State Fault Refusal :=
  let out := !s.svInBand c i
  let was := s.svBit c 1
  whenever (s.svPh c = 4) s
    (((s.setSvBit c 1 out).setOb (Obj.svIMeas c) (saturate i 65535)).svPostIf (out && !was) c 9 1)

/-- R192: in hold, with setpoint and current within the fine range: RANGE_MODE asks for the other range. The change to fine starts
once the current has been in band for a chop period. -/
def execSvRangeChangeStart (c : Fin 8) (i : Nat) (s : State) : Host.Outcome State Fault Refusal :=
  let ch := s.svCh c
  let two := s.svTwo c
  let mode := s.cf (Obj.svRangeMode c)
  let fine := decide (s.ob (Obj.svRange c) = 0)
  let settled := s.svInBand c i && s.passed ch.steadySince (s.cf (Obj.svChopPeriod c))
  let toFine := !fine && settled && (mode = 2 || (mode = 0 && decide (ch.setpoint ≤ 1000 * two)))
  let toCoarse := fine && (mode = 1 || (mode = 0 && (ch.after.isSome || decide (1100 * two < ch.setpoint))))
  whenever (s.svPh c = 4 && !s.svBit c 3 && (toFine || toCoarse) &&
      decide (ch.setpoint ≤ 1250 * two) && decide (i ≤ 1250 * two)) s (s.setSvBit c 3 true)

/-- R193: the hand-over; a setpoint that waited for the coarse range is applied (R192). -/
def execSvRangeChangeEnd (c : Fin 8) (s : State) : Host.Outcome State Fault Refusal :=
  let ch := s.svCh c
  whenever (s.svBit c 3) s
    (let s := (s.setSvBit c 3 false).setOb (Obj.svRange c) (1 - s.ob (Obj.svRange c))
     match ch.after with
     | some v => s.setSv c { ch with setpoint := v, after := none, steadySince := s.now }
     | none => s)

/-- R194–R196: a class K or D window ends, with its samples from fast off or the beginning of boost on. -/
def execSvMoveEvaluation (c : Fin 8) (curve : CoilSamples) (s : State) : Host.Outcome State Fault Refusal :=
  let ch := s.svCh c
  let lo := s.cf (Obj.svMoveWinStart c)
  let hi := s.cf (Obj.svMoveWinEnd c)
  let seen := s.svSeen c curve.t0 curve.samples
  let fits := match seen with
    | some t => decide (lo ≤ t) && decide (t ≤ hi)
    | none => false
  let kDue := match ch.windowK with
    | some at_ => seen.isSome || s.passed at_ (us hi)
    | none => false
  let dDue := ch.windowD && (seen.isSome || s.svPh c ≠ 2)
  whenever (kDue || dDue) s
    (if fits then s.svMoved c 1 (saturate (seen.getD 0) 65535)
     else if ch.windowD && ch.peakFirst && seen.isNone then s.svMoved c 4 0
     else s.svMoved c 2 0)

/-- R197: the stages that tripped, and the current in mA. A pair turns off as one and reports on its own stage's channel. -/
def execSvTrip (c : Fin 8) (high low : Bool) (i : Nat) (s : State) : Host.Outcome State Fault Refusal :=
  let m := s.svMain c
  let cause := if high && low then 3 else if high then 1 else 2
  whenever ((high || low) && s.cf (Obj.svMode m) ≠ 0 && s.svDriven m) s
    ((((s.svShut m i).setSvBit m 5 true).bump (Obj.svTripCount m)).svPost c 0 (cause * 2 ^ 16 + saturate i 65535)
      |>.svFault m)

/-- R198: I_HS and I_LS (mA) have differed by more than LEAK_I for 100 µs. -/
def execSvLeak (c : Fin 8) (iHs iLs : Nat) (s : State) : Host.Outcome State Fault Refusal :=
  let lim := s.cf (Obj.svLeakI c) + (if s.svBit c 12 then 20 else 0)
  let d := max iHs iLs - min iHs iLs
  let cause := if iHs < iLs then 1 else 2
  whenever (s.cf (Obj.svMode c) ≠ 0 && !s.svBound c && s.svDriven c && decide (lim < d)) s
    ((((s.svShut c iHs).setSvBit c 9 true).setOb (Obj.svIDiff c) (wordOf 2 ((iHs : Int) - iLs))).svPost c 8
      (cause * 2 ^ 16 + saturate d 65535) |>.svFault c)

/-- R199: boost ended at BOOST_MAX below OPEN_I, or hold has stayed below it for 10 ms at full duty. -/
def execSvOpenLoad (c : Fin 8) (i : Nat) (s : State) : Host.Outcome State Fault Refusal :=
  let ch := s.svCh c
  whenever (decide (i < s.cf (Obj.svOpenI c)) && (ch.noRise || s.svPh c = 4)) s
    (let s := s.setSv c { ch with noRise := false, openOn := true }
     ((s.svShowOpen c).setOb (Obj.svIMeas c) i).svPost c 2 1)

/-- R200: an off channel's check, never with VBAT below 8 V and never inside a class K window. -/
def execSvOffDiagCheck (c : Fin 8) (vh vl vbat : Nat) (s : State) : Host.Outcome State Fault Refusal :=
  let ch := s.svCh c
  whenever (s.awake && s.cf (Obj.svOffDiagEnable c) = 1 && s.cf (Obj.svMode c) ≠ 0 && !s.svBound c && s.svPh c = 0 && ch.windowK.isNone &&
      decide (8000 ≤ vbat) && !s.hoist.safe &&
      (ch.diagNow || s.passed ch.lastDiag (ms (s.cf (Obj.svOffDiagPeriod c))))) s
    (s.svDiag c (saturate vh 65535) vl)

/-- R201: the stage temperature in 0.1 °C. -/
def execSvOvertemp (c : Fin 8) (temp : Int) (s : State) : Host.Outcome State Fault Refusal :=
  let s1 := s.setOb (Obj.svStageTemp c) (wordOf 2 temp)
  let m := s.svMain c
  .next (if 1700 < temp && !s.svBit m 8 && s.cf (Obj.svMode m) ≠ 0 then
      ((s1.svShut m (s1.svFlow m)).setSvBit m 8 true).svPost c 4 (wordOf 4 temp)
    else if s.svBit m 8 && s1.svCool m then (s1.setSvBit m 8 false).svResubmit m 2
    else s1)

/-- R202: a retry restarts the profile from boost. -/
def execSvRetry (c : Fin 8) (s : State) : Host.Outcome State Fault Refusal :=
  let due := match (s.svCh c).retryAt with
    | some t => decide (t ≤ s.now)
    | none => false
  whenever (s.awake && due && s.svBit c 14 && !s.hoist.safe) s
    (let s := (s.setSv c { s.svCh c with retryAt := none }).setSvBit c 14 false
     (s.bumpSat (Obj.svRetriesUsed c) 255).svResubmit c 3)

/-- R202. -/
def execSvFaultClear (sess : Nat) (c : Fin 8) (s : State) : Host.Outcome State Fault Refusal :=
  s.request sess .host (writeOf (Obj.svFaultClear c) 1 1)
    (fun _ s => s.doSvFaultClear c)

/-- R206. -/
def execSvDiagRun (sess : Nat) (c : Fin 8) (s : State) : Host.Outcome State Fault Refusal :=
  s.request sess .service (writeOf (Obj.svDiagRun c) 1 1)
    (fun _ s => s.doSvDiagRun c)

end Sys2Proof.Machine
end

