-- ==== Sys2Proof/Machine/FieldIo.lean ====
section
/-!
DEFINITION. The 24 V inputs and outputs and the sensor inputs of spec/09.
-/

namespace Sys2Proof

namespace Machine
namespace State

def dinCh (s : State) (c : Nat) : Din := s.din.read {} c
def setDin (s : State) (c : Nat) (x : Din) : State := { s with din := s.din.write {} c x }
def ainCh (s : State) (c : Nat) : Ain := s.ain.read {} c
def setAin (s : State) (c : Nat) (x : Ain) : State := { s with ain := s.ain.write {} c x }
def tachCh (s : State) (c : Nat) : Tach := s.tach.read {} c
def setTach (s : State) (c : Nat) (x : Tach) : State := { s with tach := s.tach.write {} c x }

/-! ## Digital inputs -/

/-- The term value of an input for a filtered level (R209). -/
def dinTerm (s : State) (c : Nat) (level : Bool) : Nat :=
  if level != (s.cf (Obj.dinInvert c) == 1) then 1 else 0

/-- The filtered state changes (R209, R210): DIN_STATE, the edge count and time, and offset 0 or 1; outputs in follow
answer it under the hoist safe state (R93). -/
def dinChange (s : State) (c : Nat) (level : Bool) : State :=
  let d := s.dinCh c
  let t := s.dinTerm c level
  let s := s.setDin c { d with level := level, changes := s.now :: (d.changes.filter (fun x => !s.passed x (sec 1))).take 255 }
  let s := s.setOb (Obj.dinState c) t
  let s := (s.bump (Obj.dinEdges c)).setOb (Obj.dinLastEdge c) s.now
  let s := s.post (288 + 4 * c + (1 - t)) (s.ob (Obj.dinEdges c))
  s.hoistFollow

/-- The level has been held for DIN_FILTER (R209): `held` ticks at the comparator, counted from the last change of the filter
where that came later. -/
def dinHeld (s : State) (c held : Nat) : Bool :=
  let n := match (s.dinCh c).filterAt with
    | some t => min held (s.now - t)
    | none => held
  decide (us (100 * s.cf (Obj.dinFilter c)) ≤ n)

/-- The causes of DIN_FAULT set (R210): overvoltage shows before chatter (assumption 116). -/
def dinFaults (s : State) (c : Nat) (chatter surge : Bool) : State :=
  (s.setDin c { s.dinCh c with chatter := chatter, surge := surge }).setOb (Obj.dinFault c)
    (if surge then 2 else if chatter then 1 else 0)

/-- Changes of the filtered state within the last second (R210). -/
def dinRecent (s : State) (c : Nat) : Nat := ((s.dinCh c).changes.filter (fun x => !s.passed x (sec 1))).length

/-! ## Digital outputs -/

def doutPost (s : State) (d k v : Nat) : State := s.post (352 + 4 * d + k) v
def doutSig (d : Nat) : Nat := mkSig clsDOUT d
def doutBit (s : State) (d i : Nat) : Bool := s.bit (Obj.doutStatus d) i
def setDoutBit (s : State) (d i : Nat) (b : Bool) : State := s.setBit (Obj.doutStatus d) i b

/-- The retry after a cause-1 trip (R153, R213), or latching. -/
def doutFault (s : State) (d : Nat) : State :=
  let count := s.cf (Obj.doutRetryCount d)
  let used := (s.doutCh d).retries
  if s.hoist.safe then s
  else if count = 255 || used < count then
    let at_ := s.now + retryDelay count (s.cf (Obj.doutRetryDelay d)) used
    (s.setDout d { s.doutCh d with retryAt := some at_ }).setDoutBit d 14 true
  else (s.setDoutBit d 15 true).doutPost d 1 used

/-- A trip (R213): the switch goes off through the clamp, its entry is removed, and offset 0 is posted. -/
def doutTrip (s : State) (d : Nat) (hot : Bool) (current : Nat) : State :=
  let s := (s.dropEntry (doutSig d)).runQueue
  let s := (s.setDout d { s.doutCh d with off := true, hot := hot, goodSince := none, recover := 0 }).doutShow d 0
  let s := (s.setDoutBit d (if hot then 3 else 5) true).bump (Obj.doutTripCount d)
  let s := s.doutPost d 0 ((if hot then 2 else 1) * 2 ^ 16 + saturate current 65535)
  if hot then s else s.doutFault d

/-- A DOUT freed and its commanded value presented (R213). -/
def doutResubmit (s : State) (d why : Nat) : State :=
  if s.doutBit d 14 || s.doutBit d 15 || (s.doutCh d).hot then s
  else (s.setDout d { s.doutCh d with off := false, recover := why }).resubmit (doutSig d)

/-- OPEN_LOAD of a DOUT: found in the on state or by the off-state check, each cleared by its own (R214). -/
def doutOpen (s : State) (d : Nat) (on off : Bool) : State :=
  (s.setDout d { s.doutCh d with openOn := on, openOff := off }).setDoutBit d 6 (on || off)

/-- One off-state check of a DOUT, as a high-side channel's (R214). -/
def doutDiag (s : State) (d mv : Nat) : State :=
  let ch := s.doutCh d
  let l := (offReading mv :: ch.readings).take 3
  let s := s.setDout d { ch with readings := l, lastDiag := s.now, diagNow := false }
  match threeAgree l with
  | some 1 => (s.doutOpen d ch.openOn false).setDoutBit d 7 false
  | some 2 =>
    let s := (s.doutOpen d ch.openOn true).setDoutBit d 7 false
    if ch.openOff then s else s.doutPost d 2 2
  | some 3 =>
    let was := s.doutBit d 7
    let s := (s.doutOpen d ch.openOn false).setDoutBit d 7 true
    if was then s else s.doutPost d 2 3
  | _ => s

def doDoutFaultClear (s : State) (d : Nat) : Answer :=
  let ch := s.doutCh d
  check (!ch.hot) .configInvalid <|
    let s := s.setDout d { ch with retries := 0, retryAt := none }
    let s := (((s.setDoutBit d 15 false).setDoutBit d 14 false).setDoutBit d 5 false).setDoutBit d 3 false
    if s.commandedOf (doutSig d) = 0 then
      .ok ((s.setDout d { s.doutCh d with off := false, recover := 0 }).doutPost d 3 1)
    else .ok (s.doutResubmit d 1)

def doDoutDiagRun (s : State) (d : Nat) : Answer :=
  check (s.ob (Obj.doutAppliedValue d) = 0 && s.cf (Obj.doutOffDiagEnable d) = 1) .valueRange <|
    .ok (s.setDout d { s.doutCh d with diagNow := true })

/-! ## Analog inputs -/

/-- The pull-up in force in Ω (R217, R224). -/
def ainPull (s : State) (c : Nat) : Nat :=
  let p := s.cf (Obj.ainPullup c)
  if (if p = 2 then (s.ainCh c).pull else p) = 0 then 1000 else 10000

/-- The resistance in Ω at `mv` of the 5 V reference (R217), rounded to the nearest. At the reference itself and above it the
manual states none: a free value (assumption 117). -/
def ainOhms (s : State) (c mv : Nat) : Nat :=
  if 5000 ≤ mv then Config.unmeasured (Obj.ainValue c) s.now % 2 ^ 31 else roundDiv (mv * s.ainPull c) (5000 - mv)

/-- The natural logarithm of `a ÷ b` in units of 2^−64 (R217): ln 2 for each doubling, and 2 × artanh of what is left, a series
cut off after 24 terms (assumption 14). -/
def lnFix (a b : Nat) : Int :=
  let one : Int := 2 ^ 64
  -- artanh (x ÷ y) for |x ÷ y| ≤ 1 ÷ 3
  let artanh (x y : Int) : Int :=
    let z := x * one / y
    ((List.range 24).foldl (fun (t : Int × Int) j => (t.1 + t.2 / (2 * (j : Int) + 1), t.2 * z / one * z / one)) (0, z)).1
  let la := Nat.log2 a
  let lb := Nat.log2 b
  let x : Int := a * 2 ^ lb
  let y : Int := b * 2 ^ la
  ((la : Int) - lb) * (2 * artanh 1 3) + 2 * artanh (x - y) (x + y)

/-- The temperature in 0.1 °C of a thermistor that divides the reference to `mv` (R217). Where the formula has no value, at
resistances of 0 or without bound and at its pole, a free value within the limits (assumption 117). -/
def ntcTemp (s : State) (c mv : Nat) : Int :=
  let free : Int := (Config.unmeasured (Obj.ainValue c) s.now % 2551 : Nat) - 550
  if mv = 0 || 5000 ≤ mv then free
  else
    let b : Int := s.cf (Obj.ainNtcB c)
    let l := lnFix (mv * s.ainPull c) ((5000 - mv) * s.cf (Obj.ainNtcR25 c))
    -- T in 0.1 K is 59630 × 2^64 × B ÷ (20 × 2^64 × B + 5963 × ln)
    let n := 59630 * 2 ^ 64 * b
    let d := 20 * 2 ^ 64 * b + 5963 * l
    if d = 0 then free
    else max (-550) (min 2000 (roundDivInt ((2 * n - 5463 * d) * d.sign) (2 * d.natAbs)))

/-- The result of a conversion at `mv` at the ball, in the kind's units (R217). Quotients are rounded to the nearest. -/
def ainResult (s : State) (c mv : Nat) : Int :=
  match s.cf (Obj.ainKind c) with
  | 1 => (min mv 33000 : Nat)
  | 2 => (min (roundDiv (mv * 10000) (s.msv (4 + s.cf (Obj.ainRef c))).toNat) 11000 : Nat)
  | 3 => if s.cf (Obj.ainNtcB c) = 0 then (s.ainOhms c mv : Nat) else s.ntcTemp c mv
  | _ => 0

/-- The plausibility slot's verdict (R221): 0 plausible, 1 break, 2 short. `mv` is the conversion, `it` the ball in the plausibility
slot; a resistive input is judged on the second. -/
def ainVerdict (s : State) (c mv it : Nat) : Nat :=
  match s.cf (Obj.ainKind c) with
  | 3 => if 4900 < it then 1 else if it < 50 then 2 else 0
  | _ => if s.cf (Obj.breakShift c) < (mv - it) + (it - mv) then 1 else 0

/-- The term value that stands while an input is invalid (R222, R223). -/
def ainHeld (s : State) (c : Nat) : State :=
  if s.cf (Obj.breakMode c) = 1 then s.setOb (Obj.ainValue c) (s.cf (Obj.ainSubst c)) else s

/-- An input is declared invalid (R222). -/
def ainInvalid (s : State) (c st value : Nat) : State :=
  if s.ob (Obj.ainState c) = st then s.setAin c { s.ainCh c with good := 0 }
  else
    let s := s.setAin c { s.ainCh c with good := 0, again := if value = 3 then 3 else 1, results := [], fresh := true }
    let s := (s.setOb (Obj.ainState c) st).ainHeld c
    let s := if value = 1 then s.bump (Obj.breakCount c) else s
    s.post (384 + 4 * c + 2) value

/-- Thresholds of R220 for a delivered value: the armed flags and offsets 0 and 1. `fresh` sets the flags silently. -/
def thresholds (s : State) (ev : Nat) (v hi lo hyst : Int) (fresh armHi armLo : Bool) (shown : Nat) :
    State × Bool × Bool :=
  let up := decide (hi < v)
  let dn := decide (v < lo)
  let s := s.postIf (!fresh && armHi && up) ev shown
  let s := s.postIf (!fresh && armLo && dn) (ev + 1) shown
  let armHi' := if up then false else if v ≤ hi - hyst then true else if fresh then true else armHi
  let armLo' := if dn then false else if lo + hyst ≤ v then true else if fresh then true else armLo
  (s, armHi', armLo')

/-- A result is delivered (R219, R220, R224): the mean of the last 2^AIN_AVG, the thresholds, the auto pull-up, and
MS96 + c where it is a temperature (R218). -/
def ainDeliver (s : State) (c mv : Nat) : State :=
  let r := s.ainResult c mv
  let ohms := s.ainOhms c mv
  let a := s.ainCh c
  let n := 2 ^ s.cf (Obj.ainAvg c)
  let l := (r :: a.results).take n
  let v := roundDivInt l.sum l.length
  let w := wordOf 4 v
  let s := s.setOb (Obj.ainValue c) w
  let s := if s.cf (Obj.ainKind c) = 3 ∧ s.cf (Obj.ainNtcB c) ≠ 0 then { s with meas := s.meas.write 0 (96 + c) v } else s
  let st := s.ob (Obj.ainState c)
  let s := s.setOb (Obj.ainState c) 1
  let s := s.postIf (a.again ≠ 0 && st ≠ 1) (384 + 4 * c + 3) a.again
  let t := s.thresholds (384 + 4 * c) v (signedOf 4 (s.cf (Obj.ainHi c))) (signedOf 4 (s.cf (Obj.ainLo c)))
    (s.cf (Obj.ainHyst c)) a.fresh a.armHi a.armLo w
  let auto := s.cf (Obj.ainKind c) = 3 && s.cf (Obj.ainPullup c) = 2
  let pull := if !auto then a.pull else if ohms < 2000 then 0 else if 8000 < ohms then 1 else a.pull
  let skip := if pull ≠ a.pull then ceilDiv 100 (s.cf (Obj.ainPeriod c)) else 0
  t.1.setAin c { a with results := if pull ≠ a.pull then [] else l, fresh := false, armHi := t.2.1
                        armLo := t.2.2, good := 0, again := 0, pull := pull, skip := skip }

/-- VSENSn_STATE. -/
def vsensState (s : State) (v : Nat) : Nat := s.ob (if v = 0 then Obj.vsens0State else Obj.vsens1State)

/-- A slot of an input ends (R219, R221, R222). -/
def ainSlot (s : State) (c mv it : Nat) : State :=
  let a := s.ainCh c
  if a.skip ≠ 0 then s.setAin c { a with skip := a.skip - 1 }
  else
    let s := s.setOb (Obj.ainBallMv c) (saturate mv 65535)
    let verdict := s.ainVerdict c mv it
    let st := s.ob (Obj.ainState c)
    if s.cf (Obj.ainKind c) = 2 ∧ s.vsensState (s.cf (Obj.ainRef c)) ≠ 1 then s.ainInvalid c 5 3
    else if verdict = 1 then s.ainInvalid c 3 1
    else if verdict = 2 then s.ainInvalid c 4 2
    else if st = 5 && !s.passed (s.vsensAt.read 0 (s.cf (Obj.ainRef c))) (ms 1) then s
    else if (st = 3 ∨ st = 4) ∧ a.good + 1 < 8 then s.setAin c { a with good := a.good + 1 }
    else s.ainDeliver c mv

/-- A range change begins (R223). -/
def ainRangeChange (s : State) (c : Nat) : State :=
  if s.cf (Obj.ainKind c) = 0 then
    ((s.setAin c {}).setOb (Obj.ainState c) 0).setOb (Obj.ainValue c) 0
  else
    let s := s.setAin c { s.ainCh c with results := [], fresh := true, good := 0, again := 2, skip := 0
                                         changeEnd := some (s.now + us 200) }
    (s.setOb (Obj.ainState c) 2).ainHeld c

/-- VSENSn_STATE set, with the instant of a return to regulation (R222). -/
def setVsens (s : State) (v st : Nat) : State :=
  let back := st = 1 && s.vsensState v ≠ 1
  let s := if back then { s with vsensAt := s.vsensAt.write 0 v s.now } else s
  s.setOb (if v = 0 then Obj.vsens0State else Obj.vsens1State) st

/-- A VSENS supply changes state (R216, R222): out of regulation its ratiometric inputs are invalid at once; they recover by a
result of their own, 1 ms after it is back. -/
def vsensChange (s : State) (v st : Nat) : State :=
  let s := s.setVsens v st
  if st = 1 then s
  else forRange 12 (fun s c =>
    if s.cf (Obj.ainKind c) = 2 && s.cf (Obj.ainRef c) = v && s.ob (Obj.ainState c) ≠ 2 then s.ainInvalid c 5 3 else s) s

/-- Each VSENS supply as its VSENSn_ENABLE has it (R216, R364). -/
def vsensEnabled (s : State) : State :=
  (s.setVsens 0 (s.cf Obj.vsens0Enable)).setVsens 1 (s.cf Obj.vsens1Enable)

/-! ## Frequency inputs -/

/-- TACH_FREQ in 0.01 Hz for `n` periods that took `t` ticks (R226). -/
def tachFreqOf (n t : Nat) : Nat := min 5000000 (roundDiv (10000000000 * n) t)

/-- Thresholds of a TACH on a new frequency (R226). -/
def tachThresholds (s : State) (t f : Nat) : State :=
  let x := s.tachCh t
  let r := s.thresholds (432 + 4 * t) f (s.cf (Obj.tachHi t)) (s.cf (Obj.tachLo t)) (s.cf (Obj.tachHyst t)) x.fresh
    x.armHi x.armLo f
  r.1.setTach t { x with armHi := r.2.1, armLo := r.2.2, fresh := false }

/-- An accepted rising edge (R226). -/
def tachEdge (s : State) (t : Nat) : State :=
  let x := s.tachCh t
  let l := (s.now :: x.edges).take (s.cf (Obj.tachAvg t) + 1)
  let s := (s.setTach t { x with edges := l }).bump (Obj.tachEdges t)
  let s := if s.ob (Obj.tachState t) = 0 then s.setOb (Obj.tachState t) 1 else s
  match x.edges with
  | [] => s
  | last :: _ =>
    let oldest := l.getLast?.getD s.now
    let f := tachFreqOf (l.length - 1) (s.now - oldest)
    let s := s.setOb (Obj.tachPeriod t) (saturate (s.now - last) (2 ^ 32 - 1))
    (s.setOb (Obj.tachFreq t) f).tachThresholds t f

/-- TACH_FREQ as read (R226): once no edge has come for longer than the mean period, 1 ÷ the time since the last. -/
def tachFreqNow (s : State) (t : Nat) : Nat :=
  let f := s.ob (Obj.tachFreq t)
  match (s.tachCh t).edges with
  | [] => f
  | last :: _ => if s.now = last then f else min f (tachFreqOf 1 (s.now - last))

/-- The thresholds of a TACH whose frequency falls because no edge comes (R226). -/
def tachDecay (s : State) (t : Nat) : State :=
  if s.awake && s.cf (Obj.tachEnable t) = 1 && !(s.tachCh t).fresh then s.tachThresholds t (s.tachFreqNow t) else s

/-- One tick of the timebase: time passes, and falling frequencies meet their thresholds (R21, R226). -/
def tick (s : State) : State := forRange 4 tachDecay s.idle

end State

/-! ## Meanings -/

/-- R209: the comparator has held a new level. -/
def execDinEdge (c : Fin 16) (new : HeldLevel) (s : State) : Host.Outcome State Fault Refusal :=
  whenever (s.dinRuns c && (s.dinCh c).level != new.level && s.dinHeld c new.held) s (s.dinChange c new.level)

/-- R210: more than CHATTER_LIMIT changes within 1 s, or a window of at most half of it. -/
def execDinChatter (c : Fin 16) (s : State) : Host.Outcome State Fault Refusal :=
  let lim := s.cf (Obj.chatterLimit c)
  let n := s.dinRecent c
  let d := s.dinCh c
  whenever (s.dinRuns c) s
    (if !d.chatter && lim ≠ 0 && decide (lim < n) then (s.dinFaults c true d.surge).post (288 + 4 * c + 2) n
     else if d.chatter && decide (n ≤ lim / 2) then s.dinFaults c false d.surge else s)

/-- R210: a voltage in mV above 36 V held for 1 ms, or below 35 V for 1 ms. -/
def execDinOvervoltage (c : Fin 16) (mv : Nat) (s : State) : Host.Outcome State Fault Refusal :=
  let d := s.dinCh c
  .next (if decide (36000 < mv) && !d.surge then (s.dinFaults c d.chatter true).post (288 + 4 * c + 3) mv
    else if decide (mv < 35000) && d.surge then s.dinFaults c d.chatter false else s)

/-- R213: the current limit (mA) has acted for 2 ms, or the stage exceeds 170 °C. -/
def execDoutTrip (d : Fin 8) (hot : Bool) (current : Nat) (s : State) : Host.Outcome State Fault Refusal :=
  whenever (s.cf (Obj.doutEnable d) = 1 && s.ob (Obj.doutAppliedValue d) ≠ 0) s (s.doutTrip d hot current)

/-- R213: after a cause-2 trip the stage has fallen below 150 °C. Under the hoist safe state it stays off (R215). -/
def execDoutCooled (d : Fin 8) (s : State) : Host.Outcome State Fault Refusal :=
  whenever ((s.doutCh d).hot) s
    (let t := s.setDout d { s.doutCh d with hot := false }
     if s.hoist.safe then t else t.doutResubmit d 2)

/-- R153, R213. -/
def execDoutRetry (d : Fin 8) (s : State) : Host.Outcome State Fault Refusal :=
  let ch := s.doutCh d
  let due := match ch.retryAt with
    | some t => decide (t ≤ s.now)
    | none => false
  whenever (s.awake && due && s.doutBit d 14 && !s.hoist.safe) s
    (let s := s.setDout d { ch with retryAt := none, retries := saturate (ch.retries + 1) 255 }
     (s.setDoutBit d 14 false).doutResubmit d 3)

/-- R214: the stage current in mA has stood on its side of OL_CURRENT for OL_TIME. -/
def execDoutOpenLoad (d : Fin 8) (current : Nat) (s : State) : Host.Outcome State Fault Refusal :=
  let ol := s.cf (Obj.doutOlCurrent d)
  let low := decide (current < 10 * ol)
  let ch := s.doutCh d
  whenever (ol ≠ 0 && s.cf (Obj.doutEnable d) = 1 && s.ob (Obj.doutAppliedValue d) ≠ 0) s
    (((s.setOb (Obj.doutIMeas d) (saturate current 65535)).doutOpen d low ch.openOff).postIf (low && !ch.openOn)
      (352 + 4 * d + 2) 1)

/-- R214. -/
def execDoutOffDiagCheck (d : Fin 8) (mv vbat : Nat) (s : State) : Host.Outcome State Fault Refusal :=
  let ch := s.doutCh d
  whenever (s.awake && s.cf (Obj.doutOffDiagEnable d) = 1 && s.cf (Obj.doutEnable d) = 1 && s.ob (Obj.doutAppliedValue d) = 0 &&
      decide (8000 ≤ vbat) && !s.hoist.safe &&
      (ch.diagNow || s.passed ch.lastDiag (ms (s.cf (Obj.doutOffDiagPeriod d))))) s (s.doutDiag d mv)

/-- R213. -/
def execDoutFaultClear (sess : Nat) (d : Fin 8) (s : State) : Host.Outcome State Fault Refusal :=
  s.request sess .host (writeOf (Obj.doutFaultClear d) 1 1)
    (fun _ s => s.doDoutFaultClear d)

/-- R229. -/
def execDoutDiagRun (sess : Nat) (d : Fin 8) (s : State) : Host.Outcome State Fault Refusal :=
  s.request sess .service (writeOf (Obj.doutDiagRun d) 1 1)
    (fun _ s => s.doDoutDiagRun d)

/-- R219: the slot of an input ends 5 µs after it began; `mv` the conversion at the ball, `it` the ball in the plausibility slot, in
mV. -/
def execAinSlot (c : Fin 12) (mv it : Nat) (s : State) : Host.Outcome State Fault Refusal :=
  let per := us (s.cf (Obj.ainPeriod c))
  let due := decide (((s.now : Int) - us 5 - us (5 * (c.val % 4))) % (per : Int) = 0)
  whenever (s.awake && s.cf (Obj.ainKind c) ≠ 0 && (s.ainCh c).changeEnd.isNone && decide ((s.ainCh c).connected + us 5 ≤ s.now) &&
    due) s (s.ainSlot c mv it)

/-- R223: 200 µs after the change began the new network is connected. -/
def execAinRangeChangeEnd (c : Fin 12) (s : State) : Host.Outcome State Fault Refusal :=
  match (s.ainCh c).changeEnd with
  | some t => whenever (decide (t ≤ s.now)) s (s.setAin c { s.ainCh c with changeEnd := none, connected := t })
  | none => .next s

/-- R216: 0 off, 1 regulating, 2 current limit, 3 forced high; a disabled supply is off. -/
def execVsensStateChange (v : Fin 2) (state : Fin 4) (s : State) : Host.Outcome State Fault Refusal :=
  let on := s.cf (if v = 0 then Obj.vsens0Enable else Obj.vsens1Enable) = 1
  whenever (state = 0 || (s.awake && on)) s (s.vsensChange v state)

/-- R226. -/
def execTachEdge (t : Fin 4) (s : State) : Host.Outcome State Fault Refusal :=
  whenever (s.awake && s.cf (Obj.tachEnable t) = 1) s (s.tachEdge t)

/-- R225: more than 16 rejected pulses within 1 s. -/
def execTachGlitching (t : Fin 4) (rejected : Nat) (s : State) : Host.Outcome State Fault Refusal :=
  whenever (s.cf (Obj.tachEnable t) = 1 && decide (16 < rejected)) s
    ((s.setOb (Obj.tachState t) 2).post (432 + 4 * t + 3) rejected)

/-- R226: TACH_TIMEOUT with no edge. -/
def execTachTimeout (t : Fin 4) (s : State) : Host.Outcome State Fault Refusal :=
  match (s.tachCh t).edges with
  | [] => .next s
  | last :: _ => whenever (s.cf (Obj.tachEnable t) = 1 && s.passed last (ms (s.cf (Obj.tachTimeout t)))) s
      (let f := s.tachFreqNow t
       let s := s.setTach t { s.tachCh t with edges := [] }
       let s := (s.setOb (Obj.tachFreq t) 0).setOb (Obj.tachState t) 0
       let s := if (s.tachCh t).fresh then s else s.tachThresholds t 0
       s.post (432 + 4 * t + 2) f)

end Machine
end Sys2Proof
end

