-- ==== Sys2Proof/Machine/Passports.lean ====
section
/-!
DEFINITION. Load passports, sense calibration, supplies, temperatures and cable length (spec/10).
-/

namespace Sys2Proof.Machine
namespace State

/-! ## Passports (R230–R236) -/

/-- The signal of passport n (R230). -/
def ppSig (n : Nat) : Nat :=
  if n < 24 then mkSig clsGD n else if n < 32 then mkSig clsSV (n - 24) else mkSig clsDOUT (n - 32)

/-- The passport is in use: its channel is enabled and not bound (R230). -/
def ppUsed (s : State) (n : Nat) : Bool :=
  !s.disabled (ppSig n) && !(if n < 24 then s.gdBound n else if n < 32 then s.svBound (n - 24) else false)

/-- The quantities a class learns (R233): a GD all but L, an SV its resistances, L and I_SET, a DOUT all. -/
def ppLearns (n q : Nat) : Bool :=
  if n < 24 then q ≠ 2 else if n < 32 then q ≠ 3 && q ≠ 4 else true

/-- EXTRAPOLATED of the passport's channel (R240); DOUT has no envelope (R239). -/
def ppExtrapolated (s : State) (n : Nat) : Bool :=
  if n < 24 then s.bit (Obj.gdStatus n) 12 else if n < 32 then s.bit (Obj.svStatus (n - 24)) 12 else false

/-- Why a result is discarded (R234), 0 for a result that is kept; `disturbed` names reasons 1 to 3. -/
def ppDiscard (s : State) (n q value disturbed : Nat) : Nat :=
  let d := s.ppDeclared n q
  if disturbed ≠ 0 then disturbed
  else if s.hoist.safe then 4
  else if s.ppExtrapolated n then 5
  else if d ≠ 0 ∧ (10 * value < d ∨ 10 * d < value) then 6 else 0

/-- The learned values and their envelope discarded (R235). -/
def ppForget (s : State) (n : Nat) : State :=
  let s := s.setPp n { s.ppCh n with learned := [] }
  ((s.setOb (Obj.ppEnvIMax n) 0).setOb (Obj.ppEnvTMin n) 0).setOb (Obj.ppEnvTMax n) 0

/-- I_SET normalised to PP_VNOM at a battery voltage, by load kind (R236). -/
def ppNormal (s : State) (n i vbat : Nat) : Nat :=
  let v := s.cf (Obj.ppVnom n)
  match s.cf (Obj.ppKind n) with
  | 2 => roundDiv (i * vbat) v
  | 3 | 0 => i
  | _ => roundDiv (i * v) vbat

/-- The drift quantity of R236 that a passport quantity is, for a load kind; 0 where it is not checked. -/
def driftOf (kind q : Nat) : Nat :=
  if kind = 1 ∨ kind = 4 ∨ kind = 5 then (if q = 1 then 1 else if q = 5 then 2 else 0)
  else if kind = 2 then (if q = 5 then 2 else 0)
  else if kind = 3 then (if q = 0 then 3 else 0)
  else 0

/-- The reference of a drift quantity. -/
def driftRef (s : State) (n d : Nat) : Nat :=
  match d with
  | 1 => s.ob (Obj.ppRefRHot n)
  | 2 => s.ob (Obj.ppRefISet n)
  | _ => s.ob (Obj.ppRefRCold n)

/-- A result compared with the reference (R236). -/
def ppCheckDrift (s : State) (n q value vbat : Nat) (temp : Int) : State :=
  let p := s.ppCh n
  let d := driftOf (s.cf (Obj.ppKind n)) q
  let lim := s.cf (Obj.ppDriftLimit n)
  if s.cf (Obj.ppLearn n) ≠ 2 ∨ lim = 0 ∨ d = 0 ∨ !p.referenced ∨ temp < p.refTMin - 100 ∨ p.refTMax + 100 < temp then s
  else
    let x := if d = 2 then s.ppNormal n value vbat else value
    let r := s.driftRef n d
    let off := decide (lim * r < 100 * (max x r - min x r))
    let runs := if off then p.driftRuns.read 0 d + 1 else 0
    let s := s.setPp n { p with driftRuns := p.driftRuns.write 0 d runs }
    if s.cf (Obj.ppDriftCount n) ≤ runs && !s.bit (Obj.ppDrift n) (d - 1) then
      (s.setBit (Obj.ppDrift n) (d - 1) true).post 1276 (d * 2 ^ 24 + ppSig n)
    else s

/-- A result stored (R232, R233): with PP_LEARN 2 as (3 × v + r) ÷ 4, the first as it is. -/
def ppStore (s : State) (n q value current vbat : Nat) (temp : Int) : State :=
  let p := s.ppCh n
  let first := (p.learned.get? q).isNone
  let v := match p.learned.get? q with
    | some v => (3 * v + value) / 4
    | none => value
  let none_ := p.learned.isEmpty
  let lo := if none_ then temp else min (signedOf 2 (s.ob (Obj.ppEnvTMin n))) temp
  let hi := if none_ then temp else max (signedOf 2 (s.ob (Obj.ppEnvTMax n))) temp
  let s := s.setPp n { p with learned := p.learned.put q v }
  let s := s.setOb (Obj.ppEnvIMax n) (max (s.ob (Obj.ppEnvIMax n)) (saturate current 65535))
  let s := (s.setOb (Obj.ppEnvTMin n) (wordOf 2 lo)).setOb (Obj.ppEnvTMax n) (wordOf 2 hi)
  let s := (s.bump (Obj.ppLearnCount n)).postIf first 1274 (ppSig n)
  s.ppCheckDrift n q value vbat temp

/-- A learning measurement completes (R232–R234). -/
def ppMeasured (s : State) (n q value current vbat disturbed : Nat) (temp : Int) : State :=
  let why := s.ppDiscard n q value disturbed
  if why ≠ 0 then s.post 1275 (why * 2 ^ 24 + ppSig n) else s.ppStore n q value current vbat temp

def doPpRelearn (s : State) (n : Nat) : Answer := .ok (s.ppForget n)

/-- PP_REFERENCE (R236): the values in force become the reference, and DRIFT clears. -/
def doPpReference (s : State) (n : Nat) : Answer :=
  check (s.ppValid n) .valueRange <|
    let s := s.setOb (Obj.ppRefRCold n) (s.ppVal n 0)
    let s := s.setOb (Obj.ppRefRHot n) (s.ppVal n 1)
    let s := s.setOb (Obj.ppRefISet n) (saturate (s.ppNormal n (s.ppVal n 5) s.vbat) 65535)
    let s := s.setOb (Obj.ppRefL n) (s.ppVal n 2)
    let s := s.setPp n { s.ppCh n with referenced := true, driftRuns := []
                                       refTMin := signedOf 2 (s.ob (Obj.ppEnvTMin n))
                                       refTMax := signedOf 2 (s.ob (Obj.ppEnvTMax n)) }
    .ok (s.setOb (Obj.ppDrift n) 0)

def doPpClearDrift (s : State) (n : Nat) : Answer :=
  .ok ((s.setPp n { s.ppCh n with driftRuns := [] }).setOb (Obj.ppDrift n) 0)

/-! ## Calibration (R237–R241) -/

/-- The temperature T of R237 and R239 for a sensor reading: T_EST where the thermal model runs. -/
def calTemp (s : State) (c : Nat) (sensor : Int) : Int :=
  if s.cf (Obj.gdThRth c) ≠ 0 then signedOf 2 (s.ob (Obj.gdTEst c)) else sensor

/-- A calibration is due (R241): none was taken, the reading is extrapolated, or CAL_PERIOD has passed. -/
def calDue (s : State) (n : Nat) (taken : Option Tick) : Bool :=
  match taken with
  | none => true
  | some t => s.ob (Obj.calState n) = 2 || s.passed t (sec (s.cf (Obj.calPeriod n)))

/-- Calibration may run (R241): CAL_ENABLE, no hoist safe state, Hoisted or Dipped. -/
def calRuns (s : State) (n : Nat) : Bool :=
  s.cf (Obj.calEnable n) = 1 && !s.hoist.safe && decide (s.ob Obj.pwrState ≤ pwrDipped)

/-- EXTRAPOLATED of calibration n's channel. -/
def calExtrapolated (s : State) (n : Nat) : Bool :=
  if n < 24 then s.bit (Obj.gdStatus n) 12 else s.bit (Obj.svStatus (n - 24)) 12

/-- The reading is within the envelope again (R240, R241). -/
def calWithin (s : State) (n : Nat) : State :=
  let was := s.calExtrapolated n
  let s := if n < 24 then s.setBit (Obj.gdStatus n) 12 false else s.setBit (Obj.svStatus (n - 24)) 12 false
  (s.setOb (Obj.calState n) 1).postIf was 1278 (ppSig n)

/-- The first extrapolated reading (R240). -/
def calOutside (s : State) (n : Nat) : State :=
  let was := s.calExtrapolated n
  let s := if n < 24 then s.setBit (Obj.gdStatus n) 12 true else s.setBit (Obj.svStatus (n - 24)) 12 true
  (s.setOb (Obj.calState n) 2).postIf (!was) 1277 (ppSig n)

/-- Distance of two temperatures. -/
def tempGap (a b : Int) : Nat := (a - b).natAbs

/-- A GD reading is within the envelope (R239): `i` in 10 mA. -/
def gdWithin (s : State) (c : Nat) (t : Int) (i : Nat) : Bool :=
  (s.calCh c).taken.isSome && decide (tempGap t (signedOf 2 (s.ob (Obj.calT c))) ≤ 200) &&
    decide (i ≤ 2 * s.ob (Obj.calI c) + 100)

/-- An SV reading is within the envelope of both stages (R239): `i` in mA, CAL_I in 10 mA. -/
def svWithin (s : State) (c : Nat) (t : Int) (i : Nat) : Bool :=
  let n := 24 + c
  decide (tempGap t (signedOf 2 (s.ob (Obj.calT n))) ≤ 150) && decide (4 * i ≤ 50 * s.ob (Obj.calI n) + 400) &&
    decide (tempGap t (signedOf 2 (s.ob (Obj.calTLs n))) ≤ 150)

/-- RDS(on) nominal at a temperature, µΩ (R237, R239). -/
def rdsNominal (s : State) (c : Nat) (t : Int) : Int :=
  let b : Int := s.cf (Obj.calRdsNom c)
  b + roundDivInt (b * s.cf (Obj.calRdsTc c) * (t - 250)) 10000000

/-- A calibration result is rejected (R237). -/
def calRejected (s : State) (c uohm : Nat) (t : Int) : Bool :=
  let nom := s.rdsNominal c t
  decide (uohm < 200) || decide (200000 < uohm) ||
    (s.cf (Obj.calRdsNom c) ≠ 0 && (decide (2 * (uohm : Int) < nom) || decide (2 * nom < (uohm : Int))))

/-- A steady interval's pulse (R237): the MOSFET's resistance in µΩ and the mean current in 10 mA. -/
def gdCalibrate (s : State) (c uohm current : Nat) (t : Int) : State :=
  let s := { s with pulseAt := some s.now }
  if s.calRejected c uohm t then s.post 1279 (mkSig clsGD c)
  else
    let s := s.setCal c { s.calCh c with taken := some s.now }
    let s := (s.setOb (Obj.calValue c) uohm).setOb (Obj.calT c) (wordOf 2 t)
    (s.setOb (Obj.calI c) (saturate current 65535)).calWithin c

/-- On-time of a PWM channel's period at its applied value, in ticks; a static channel is on throughout. -/
def gdOnLongEnough (s : State) (c : Nat) : Bool :=
  let p := s.cf (Obj.gdPwmPeriod c)
  p = 0 || decide (us 300 ≤ s.ob (Obj.gdAppliedValue c) * p / 10000)

/-- Mean of a list of samples. -/
def meanOf (l : List Int) : Int := roundDivInt l.sum l.length

/-- A high-side offset sample (R238); the calibration moves when it is due (R241). -/
def svHighOffset (s : State) (c : Nat) (offset : Int) (current : Nat) : State :=
  let n := 24 + c
  let ch := s.svCh c
  let t := signedOf 2 (s.ob (Obj.svStageTemp c))
  let l := (offset :: ch.hsSamples).take 16
  let due := s.calDue n (s.calCh n).taken
  let s := s.setSv c { ch with hsSamples := l }
  let s := s.setOb (Obj.calHsOffset n) (wordOf 2 (meanOf l))
  if !due then s
  else
    let s := s.setCal n { s.calCh n with taken := some s.now }
    let s := (s.setOb (Obj.calT n) (wordOf 2 t)).setOb (Obj.calI n) (saturate current 65535)
    if s.svWithin c t (10 * current) then s.calWithin n else s

/-- A low-side offset sample (R238). -/
def svLowOffset (s : State) (c : Nat) (offset : Int) : State :=
  let n := 24 + c
  let t := signedOf 2 (s.ob (Obj.svStageTemp c))
  if !s.calDue n (s.calCh n).lsTaken then s
  else
    let s := s.setCal n { s.calCh n with lsTaken := some s.now }
    let s := (s.setOb (Obj.calLsOffset n) (wordOf 2 offset)).setOb (Obj.calTLs n) (wordOf 2 t)
    if s.svWithin c t 0 then s.calWithin n else s

/-- A reading of a calibrated channel judged (R239, R240). -/
def calJudge (s : State) (n : Nat) (t : Int) (i : Nat) : State :=
  if n < 24 then
    let inside := s.gdWithin n (s.calTemp n t) i
    let s := s.setOb (Obj.gdIEst n) (saturate i 65535)
    if inside then (if s.calExtrapolated n then s.calWithin n else s) else s.calOutside n
  else
    let c := n - 24
    let inside := s.svWithin c t i
    let s := (s.setOb (Obj.svStageTemp c) (wordOf 2 t)).setOb (Obj.svIMeas c) (saturate i 65535)
    if inside then (if s.calExtrapolated n then s.calWithin n else s) else s.calOutside n

/-! ## Supplies and temperatures (R242–R245) -/

/-- SUP_HYST in force (R250): committed, else 1 % of the SUP_HI in force. An object no commit has given a value reads
0x10000 in the store, which no U16 is. -/
def supHystOf (s : State) (m : Nat) : Nat :=
  let h := s.cf (Obj.supHyst m)
  if h < 0x10000 then h else s.cf (Obj.supHi m) / 100

/-- The side of its window a supply is on: 0 in window, 1 below, 2 above (R243). -/
def supSide (s : State) (m v : Nat) : Nat :=
  let lo := s.cf (Obj.supLo m)
  let hi := s.cf (Obj.supHi m)
  if lo ≠ 0 ∧ v < lo then 1 else if hi ≠ 0 ∧ hi < v then 2 else 0

/-- Within the window less the hysteresis (R243). -/
def supInside (s : State) (m v : Nat) : Bool :=
  let lo := s.cf (Obj.supLo m)
  let hi := s.cf (Obj.supHi m)
  let h := s.supHystOf m
  (lo = 0 || decide (lo + h ≤ v)) && (hi = 0 || decide (v + h ≤ hi))

/-- SUP_MIN or SUP_MAX read, and restarted from the latest sample (R250). -/
def supReadExtreme (s : State) (m : Nat) (mx : Bool) : State :=
  let k := if mx then Obj.supMax m else Obj.supMin m
  let s1 := { s with reply := { s.reply with data := toBytes 2 (s.ob k) } }
  if s.sampled.contains m then s1.setOb k (s.ob (Obj.supValue m)) else s1

/-- The warning limit of a temperature signal, 0.1 °C (R245). -/
def tempLimit (s : State) (m : Nat) : Int :=
  10 * (s.cf (if m = 64 then Obj.tempWarnHoist else Obj.tempWarnFly) : Int)

/-- One temperature sampled (R245). -/
def tempSample (s : State) (m : Nat) (t : Int) : State :=
  let s := { s with meas := s.meas.write 0 m t }
  let was := s.warm.contains m
  if s.tempLimit m < t ∧ !was then
    ({ s with warm := s.warm ++ [m] }).post (1268 + (m - 64)) (wordOf 4 t)
  else if t ≤ s.tempLimit m - 50 ∧ was then
    ({ s with warm := s.warm.filter (fun x => x != m) }).post 1273 m
  else s

/-! ## Cable length (R246, R247) -/

/-- A measurement starts, at CABLE_RUN or at a discovery. -/
def cableStart (s : State) (p : Nat) : State :=
  ({ s with cable := s.cable.put p { since := s.now } }).setOb (Obj.cableBusy p) 1

def doCableRun (s : State) (p : Nat) : Answer :=
  check ((s.cable.get? p).isNone) .inUse <| .ok (s.cableStart p)

/-- CABLE_LIMIT (R252): the cable is longer than the lead limit of the rate in force, in cm. -/
def cableLimit (s : State) (p : Nat) : State :=
  let len := s.ob (Obj.cableLength p)
  s.setBit (Obj.bpFlags p) 3 (len ≠ 0xFFFF && decide ([1000, 3000, 6000].getD (s.cf (Obj.bpRate p)) 6000 < len))

/-- A measurement completes with a round trip in 0.1 ns, or none within 60 m, and what was reflected first. -/
def cableDone (s : State) (p : Nat) (trip : Option Nat) (e : Nat) : State :=
  let cm := match trip with
    | some t => s.cf (Obj.cableVf p) * t / 200
    | none => 0xFFFF
  let seen := decide (cm ≤ 6000) && e ≠ 0
  let len := if seen then cm else 0xFFFF
  let e := if seen then e else 0
  let v := p * 2 ^ 24 + e * 2 ^ 16 + (if seen then cm / 10 else 0xFFFF)
  let s := { s with cable := s.cable.erase p }
  let s := (((s.setOb (Obj.cableBusy p) 0).setOb (Obj.cableLength p) len).setOb (Obj.cableEnd p) e).cableLimit p
  (s.post 1280 v).postIf (2 ≤ e) 1281 v

end State

/-! ## Meanings -/

/-- R232–R236: a measurement of quantity q (0 R_COLD, 1 R_HOT, 2 L, 3 I_PK, 4 TAU, 5 I_SET) has completed at a
temperature, current (10 mA) and VBAT (mV); `disturbed` is a reason 1–3 of R234. -/
def execPassportLearn (n : Fin 40) (q : Fin 6) (value : Nat) (temp : Int) (current vbat : Nat) (disturbed : Fin 4)
    (s : State) : Host.Outcome State Fault Refusal :=
  let learn := s.cf (Obj.ppLearn n)
  let open_ := learn = 2 || (learn = 1 && ((s.ppCh n).learned.get? q).isNone)
  whenever (open_ && s.ppUsed n && State.ppLearns n q) s (s.ppMeasured n q value current vbat disturbed temp)

/-- R235. -/
def execPpRelearn (sess : Nat) (n : Fin 40) (s : State) : Host.Outcome State Fault Refusal :=
  s.request sess .service (writeOf (Obj.ppRelearn n) 1 1)
    (fun _ s => s.doPpRelearn n)

/-- R236. -/
def execPpReference (sess : Nat) (n : Fin 40) (s : State) : Host.Outcome State Fault Refusal :=
  s.request sess .service (writeOf (Obj.ppReference n) 1 1)
    (fun _ s => s.doPpReference n)

/-- R236. -/
def execPpClearDrift (sess : Nat) (n : Fin 40) (s : State) : Host.Outcome State Fault Refusal :=
  s.request sess .host (writeOf (Obj.ppClearDrift n) 1 1)
    (fun _ s => s.doPpClearDrift n)

/-- R237: the pulse of a steady interval gave `uohm`, at the sensor's temperature and a mean current in 10 mA. -/
def execGdCalibration (n : Fin 24) (uohm : Nat) (temp : Int) (current : Nat) (s : State) :
    Host.Outcome State Fault Refusal :=
  let free := match s.pulseAt with
    | some t => s.passed t (ms 10)
    | none => true
  whenever (s.calRuns n && s.gdIsOn n && !s.bit (Obj.gdStatus n) 13 && s.gdOnLongEnough n && free &&
      s.calDue n (s.calCh n).taken) s (s.gdCalibrate n uohm current (s.calTemp n temp))

/-- R238: an offset sample in 0.1 mA of the high-side or low-side stage, at a coil current in 10 mA. -/
def execSvOffsetCalibration (c : Fin 8) (high : Bool) (offset : Int) (current : Nat) (s : State) :
    Host.Outcome State Fault Refusal :=
  let ch := s.svCh c
  let ph := s.ob (Obj.svPhase c)
  let on := s.calRuns (24 + c.val) && s.cf (Obj.svMode c) ≠ 0
  if high then
    whenever (on && ph = 4 && s.passed ch.steadySince (ms 10) && !s.bit (Obj.svStatus c) 3) s
      (s.svHighOffset c offset current)
  else whenever (on && ph = 0 && s.passed ch.phaseAt (ms 1)) s (s.svLowOffset c offset)

/-- R239, R240: a reading at a temperature in 0.1 °C and a current (10 mA for GD, mA for SV) is judged against its
envelope. -/
def execReadingExtrapolated (n : Fin 32) (temp : Int) (current : Nat) (s : State) :
    Host.Outcome State Fault Refusal :=
  whenever (s.ppUsed n) s (s.calJudge n temp current)

/-- R243: the supply has stayed outside its window for SUP_TIME. -/
def execSupplyWindowExit (m : Fin 10) (value : Nat) (s : State) : Host.Outcome State Fault Refusal :=
  let side := s.supSide m value
  let s1 := s.sampleSupply m value
  .next (if side = 0 ∨ side = s.ob (Obj.supState m) then s1
    else (s1.setOb (Obj.supState m) side).post (1248 + m) (side * 2 ^ 16 + value))

/-- R243: the supply has stayed within its window less the hysteresis for SUP_TIME. -/
def execSupplyWindowReturn (m : Fin 10) (value : Nat) (s : State) : Host.Outcome State Fault Refusal :=
  let s1 := s.sampleSupply m value
  .next (if s.ob (Obj.supState m) = 0 ∨ !s.supInside m value then s1
    else (s1.setOb (Obj.supState m) 0).post (1258 + m) value)

/-- R250. -/
def execSupMinMaxRead (sess : Nat) (m : Fin 10) (max : Bool) (s : State) : Host.Outcome State Fault Refusal :=
  s.request sess .host (readOf (if max then Obj.supMax m else Obj.supMin m))
    (fun _ s => .ok (s.supReadExtreme m max))

/-- R245: MS64 to MS68 in 0.1 °C. -/
def execTemperatureSample (hoist q0 q1 q2 q3 : Int) (s : State) : Host.Outcome State Fault Refusal :=
  .next (((((s.tempSample 64 hoist).tempSample 65 q0).tempSample 66 q1).tempSample 67 q2).tempSample 68 q3)

/-- R246. -/
def execCableRun (sess : Nat) (p : Fin 8) (s : State) : Host.Outcome State Fault Refusal :=
  s.request sess .service (writeOf (Obj.cableRun p) 1 1)
    (fun _ s => s.doCableRun p)

/-- R246, R247: the mean round trip in 0.1 ns and the reflection seen first: 1 node, 2 open, 3 short. -/
def execCableMeasured (p : Fin 8) (roundTrip : Option Nat) (end_ : Fin 4) (s : State) :
    Host.Outcome State Fault Refusal :=
  whenever ((s.cable.get? p).isSome) s (s.cableDone p roundTrip end_)

end Sys2Proof.Machine
end

