-- ==== Sys2Proof/Machine/Bunting.lean ====
section
/-!
DEFINITION. Bunting strands (spec/11): discovery, data and command frames, the two polls, board-group derating, strand
faults and node timeouts.
-/

namespace Sys2Proof.Machine

/-! ## Symbols (R253, R255, R256) -/

/-- A symbol on a strand. -/
inductive BpSymbol where
  | zero
  | one
  | mark
  deriving DecidableEq, Repr

/-- The symbol of a high time where the bit time is `bit` (R253): up to 3/8 of it a 0, from 5/8 to 7/8 a 1, over 3/2 the mark E. A
time outside every band is a symbol error. -/
def symbolOf (bit high : Nat) : Option BpSymbol :=
  if 8 * high ≤ 3 * bit then some .zero
  else if 5 * bit ≤ 8 * high ∧ 8 * high ≤ 7 * bit then some .one
  else if 3 * bit < 2 * high then some .mark else none

/-- A frame as received up to its first reset, a low of 25 µs or longer (R253): 10,000 sub-slots. -/
def untilReset : List (Nat × Nat) → List (Nat × Nat)
  | [] => []
  | x :: r => if 10000 ≤ x.2 then [x] else x :: untilReset r

/-- The bit time a node works with: the spacing of the first two rising edges after a reset gap (R253). -/
def bitTime (l : List (Nat × Nat)) : Nat :=
  match l with
  | x :: _ => x.1 + x.2
  | [] => 0

/-- What a node makes of each symbol. -/
def symbolsOf (l : List (Nat × Nat)) : List (Option BpSymbol) := (untilReset l).map (fun x => symbolOf (bitTime l) x.1)

/-- The number that `n` symbols spell, most significant bit first (R254). None where they are not all bits. -/
def bitsRead (n : Nat) (l : List (Option BpSymbol)) : Option Nat :=
  if l.length = n && l.all (fun x => x = some .zero || x = some .one) then
    some (l.foldl (fun a x => 2 * a + if x = some .one then 1 else 0) 0)
  else none

/-- A CRC of width `w` over the `n` low bits of a number, most significant first, not reflected (R255, R265). -/
def crcOf (w poly init n x : Nat) : Nat :=
  (List.range n).foldl (fun c i =>
    let top := bitAt c (w - 1) != bitAt x (n - 1 - i)
    let d := 2 * c % 2 ^ w
    if top then Nat.xor d poly else d) init

/-- What a node takes from a frame (R256): nothing where its header is broken, nothing but an error where its own bits are, else its
own 96 bits. A mark or a reset among its own bits counts as an error of them (assumption 119). -/
inductive NodeTakes where
  | nothing
  | fault
  | bits (x : Nat)
  deriving DecidableEq, Repr

/-- R256: the header by its HCRC, then the node's own 96 bits. -/
def nodeTakes (l : List (Nat × Nat)) : NodeTakes :=
  let ss := symbolsOf l
  match bitsRead 64 (ss.take 64) with
  | none => .nothing
  | some h =>
    if crcOf 8 0x07 0 56 (h / 256) ≠ h % 256 then .nothing
    else match bitsRead 96 ((ss.drop 64).take 96) with
      | none => .fault
      | some x => .bits x

namespace State

def bpPost (s : State) (p k v : Nat) : State := s.post (448 + 8 * p + k) v
def bpPortSig (p : Nat) : Nat := mkSig clsBP (p * 2 ^ 15)

/-- t_bit in ticks (R252). -/
def bpBit (s : State) (p : Nat) : Nat := [8, 16, 64].getD (s.cf (Obj.bpRate p)) 64

/-- A number rounded up to a multiple of `m`. -/
def roundUp (x m : Nat) : Nat := ceilDiv x m * m

/-- TURN_TIME in ticks (R257): ROUND_TRIP + 2.0 µs, rounded up to 0.1 µs. -/
def bpTurnTime (s : State) (p : Nat) : Nat := roundUp (s.ob (Obj.bpRoundTrip p) + us 2) 10

/-- The frame period in ticks (R259): max(BP_FRAME_PERIOD, T_min). -/
def bpPeriod (s : State) (p : Nat) : Nat :=
  max (us (s.cf (Obj.bpFramePeriod p)))
    (roundUp ((832 + 96 * s.ob (Obj.bpNodeCount p)) * s.bpBit p + s.bpTurnTime p + us 50) (us 10))

/-- FRAME_TIME and DIAG_CYCLE for the frame period in force (R259, R262). -/
def bpTimes (s : State) (p : Nat) : State :=
  let t := s.bpPeriod p
  let n := 16 - s.cf (Obj.bpThermSlots p)
  let s := s.setOb (Obj.bpFrameTime p) (t / 100)
  s.setOb (Obj.bpDiagCycle p) (if n = 0 then 0 else ceilDiv (ceilDiv (s.ob (Obj.bpNodeCount p)) n * t) (ms 1))

/-- The timeout of a node in ticks (R269). -/
def bpTimeout (s : State) (p : Nat) : Nat :=
  roundUp (max (ms (s.cf (Obj.bpNodeTimeout p))) (3 * us (s.ob (Obj.bpFrameTime p)))) (ms 1)

/-- Discovery starts (R263); its reset gaps carry a cable measurement (R246). -/
def bpDiscover (s : State) (p : Nat) : State :=
  if s.ft.stopped.contains (8 * (p / 2) + 2) || s.ft.regionsLost.contains 0 then s.setOb (Obj.bpState p) 4
  else
  let s := s.setBp p { s.bpCh p with retryAt := none, turnRun := 0 }
  let s := (s.setOb (Obj.bpState p) 1).setBit (Obj.bpFlags p) 0 false
  if (s.cable.get? p).isSome then s else s.cableStart p

/-- A port enters fault and will try discovery again after BP_RETRY_TIME (R263). -/
def bpFail (s : State) (p : Nat) : State :=
  let s := s.setBp p { s.bpCh p with retryAt := some (s.now + ms (s.cf (Obj.bpRetryTime p))) }
  (s.setOb (Obj.bpState p) 3).setBit (Obj.bpFlags p) 0 false

/-- Discovery failed at a position (R264): FOREIGN and offset 3. -/
def bpForeign (s : State) (p pos : Nat) : State := ((s.bpFail p).setBit (Obj.bpFlags p) 7 true).bpPost p 3 pos

/-- The position of the tail that the four count replies agree on (R263). -/
def countOf (l : List (Option (BitVec 12))) : Option Nat :=
  match l with
  | [some a, some b, some c, some d] => if a = b ∧ b = c ∧ c = d then some a.toNat else none
  | _ => none

/-- The first position whose capability reply is missing or names no node of R5 (R264). -/
def badCapability (n : Nat) (l : List (Option (BitVec 20))) : Option Nat :=
  (List.range n).find? fun i => match l[i]? with
    | some (some d) => !(bitsOf d.toNat 16 4 = 1 || bitsOf d.toNat 16 4 = 2)
    | _ => true

/-- What discovery learned of the node at a position (R258). -/
def nodeFound (d : BuntingDiscovery) (i : Nat) : NodeStatus :=
  let c := match d.capabilities[i]? with
    | some (some x) => x.toNat
    | _ => 0
  let v := match d.versions[i]? with
    | some (some x) => x.toNat
    | _ => 0
  { kind := bitsOf c 16 4, state := 1, version := v, iFs := bitsOf c 4 12, flags := bitsOf c 3 1 }

/-- Discovery completes with N nodes (R263, R264); BREAK clears (R271). -/
def bpFound (s : State) (p n : Nat) (d : BuntingDiscovery) : State :=
  let b := s.bpCh p
  let s := s.setBp p { b with nodes := (List.range n).map (fun i => (i, nodeFound d i)), thermPhase := 0, diagFirst := 0
                              turnRun := 0, setup := false, sinceCommand := 16, misses := [], dark := [], unheard := [] }
  let want := s.cf (Obj.bpExpectNodes p)
  let off := want ≠ 0 && want ≠ n
  let s := (s.setOb (Obj.bpNodeCount p) n).setOb (Obj.bpRoundTrip p) d.roundTrip.toNat
  let s := (s.bpTimes p).setOb (Obj.bpState p) 2
  let f := Obj.bpFlags p
  let s := ((((s.setBit f 7 false).setBit f 6 false).setBit f 5 false).setBit f 4 off).setBit f 0 true
  let s := (((s.setBit f 1 false).cableLimit p).portFit (bpPortSig p) 4).runQueue
  s.bpPost p 0 (n + if off then 2 ^ 31 else 0)

/-- What a discovery found (R263, R264). -/
def bpDiscovered (s : State) (p : Nat) (d : BuntingDiscovery) : State :=
  match countOf d.counts with
  | none => s.bpForeign p 0xFFFF
  | some tail =>
    match badCapability (tail + 1) d.capabilities with
    | some pos => s.bpForeign p pos
    | none => s.bpFound p (tail + 1) d

/-! ## Board groups (R266, R267) -/

/-- Entries of NODE_CFG that are listed, for positions that exist: position and entry. -/
def nodeEntries (s : State) (p : Nat) : List (Nat × Nat) :=
  let lo := domKey (0x5100 + p) 0
  (s.cfg.filter (fun e => decide (lo ≤ e.1) && decide (e.1 < lo + min 4096 (s.ob (Obj.bpNodeCount p))))).map
    (fun e => (e.1 - lo, e.2))

/-- The groups with a sensor node, by rising number: group and the node's position (R262). -/
def sensorGroups (s : State) (p : Nat) : List (Nat × Nat) :=
  (List.range 64).filterMap fun g =>
    ((s.nodeEntries p).find? (fun e => bitsOf e.2 16 8 == g + 1 && bitAt e.2 24)).map (fun e => (g, e.1))

/-- F_floor of a port's groups (R267). -/
def bpFloor (s : State) (p : Nat) : Nat := s.cf (Obj.bpBgFloor p) * 4096 / 100

/-- The target factor for a reading in 0.1 °C (R267). -/
def bpTarget (s : State) (p : Nat) (t : Int) : Nat :=
  let knee : Int := 10 * s.cf (Obj.bpBgKnee p)
  let top : Int := 10 * s.cf (Obj.bpBgTmax p)
  let fl := s.bpFloor p
  if t ≤ knee then 4096
  else if top ≤ t then fl
  else ((4096 : Int) - -((-(((4096 - fl : Nat) : Int) * (t - knee))) / (top - knee))).toNat

/-- F on one side of a reported value (R267, R290): at 4,096, or above any other. -/
def factorSide (x f : Nat) : Bool := if x = 4096 then decide (4096 ≤ f) else decide (x < f)

/-- F crosses 4,096, F_floor or a multiple of 512 between them. -/
def factorCrosses (fl old new : Nat) : Bool :=
  (4096 :: fl :: ((List.range 8).map (fun i => 512 * i)).filter (fun x => decide (fl < x))).any
    (fun x => factorSide x old != factorSide x new)

/-- BG_STATE of a group: its state, and F. -/
def bgShow (s : State) (p g st f : Nat) : State :=
  let o := Obj.bpBgState p g
  s.setOb o (bitsOf (s.ob o) 16 16 * 2 ^ 16 + st * 2 ^ 13 + f)

/-- F changed: offset 5 where it crosses, and BG_STATE (R267). -/
def bgFactor (s : State) (p g old new : Nat) : State :=
  let s := s.bgShow p g (bitsOf (s.ob (Obj.bpBgState p g)) 13 3) new
  if factorCrosses (s.bpFloor p) old new then s.bpPost p 5 (g * 2 ^ 16 + new) else s

/-- The lowest-ranking owner class of a group's lit channels, none where it is dark. -/
def bgClass (s : State) (p g : Nat) : Option Nat :=
  let lit := s.own.commanded.filter (fun e => sigClass e.1 = clsBP && bpPort e.1 = p &&
    bitsOf (s.cf (domKey (0x5100 + p) (bpNode e.1))) 16 8 = g + 1)
  lit.foldl (fun m e => some (max (m.getD 0) (s.own.ownerClass.read 7 e.1))) none

/-- One group's factor at a snapshot (R267): falls at once; a rise of at most 64 waits with the port's requests. -/
def bgStep (s : State) (p g : Nat) : State × List (Nat × Nat × Nat) :=
  let b := s.bpCh p
  let f := b.factors.read 4096 g
  let t := b.targets.read 4096 g
  let set_ (s : State) (v : Nat) : State :=
    let b := s.bpCh p
    s.setBp p { b with factors := b.factors.write 4096 g v }
  if t < f then ((set_ s t).bgFactor p g f t, [])
  else if f < t then
    let v := min (f + 64) t
    match s.bgClass p g with
    | none => ((set_ s v).bgFactor p g f v, [])
    | some c => (s, [(c, g, v)])
  else (s, [])

/-- The factors of every group that has one, and the requests of the snapshot (R261, R267). -/
def bpSnapshot (s : State) (p : Nat) : State :=
  let groups := (s.sensorGroups p).map (fun x => x.1)
  let before := (s.bpCh p).factors
  let r := groups.foldl (fun (a : State × List (Nat × Nat × Nat)) g =>
    let q := a.1.bgStep p g
    (q.1, a.2 ++ q.2)) (s, [])
  let s := r.1.portForms (bpPortSig p) (us 250) r.2
  let risen := r.2.filter (fun x => (s.bpCh p).factors.read 4096 x.2.1 == x.2.2)
  let s := forEach risen (fun s x => s.bgFactor p x.2.1 (before.read 4096 x.2.1) x.2.2) s
  s.setBit (Obj.bpFlags p) 2 ((s.bpCh p).factors ≠ [])

/-! ## Frames (R261, R265) -/

/-- A command frame is due and allowed (R265). -/
def bpCommandDue (s : State) (p : Nat) : Bool :=
  let b := s.bpCh p
  (b.setup || !b.clears.isEmpty) && decide (16 ≤ b.sinceCommand)

/-- The next frame may start (R259). -/
def bpMayStart (s : State) (p : Nat) : Bool :=
  s.cf (Obj.bpEnable p) = 1 && s.ob (Obj.bpState p) = 2 &&
    (s.ob (Obj.bpFrameCount p) = 0 || s.passed (s.bpCh p).lastFrame (s.bpPeriod p))

/-- The values of a frame: every commanded channel of a node in the strand, as derated (R261, R267). -/
def bpValues (s : State) (p : Nat) : Table Nat :=
  (s.own.commanded.filter (fun e => sigClass e.1 = clsBP && bpPort e.1 = p &&
    decide (bpNode e.1 < s.ob (Obj.bpNodeCount p)))).foldl
    (fun t e => t.write 0 e.1 (roundDiv (e.2 * s.bpFactor [] e.1) 4096)) []

/-- Channels of a JN-P8 that have tripped and whose value has just come to 0 (R265), by position. -/
def bpZeroed (s : State) (p : Nat) (new : Table Nat) : Table Nat :=
  let b := s.bpCh p
  b.sent.foldl (fun t e =>
    let n := b.nodes.read {} (bpNode e.1)
    if n.kind = 2 && bitAt n.short (bpChan e.1) && (new.get? e.1).isNone then
      t.put (bpNode e.1) (Nat.lor (t.read 0 (bpNode e.1)) (2 ^ bpChan e.1)) else t) b.clears

/-- What the node at a position takes: what its line spells, or the frame as sent where noise has not changed it. -/
def takenAt (lines : List BuntingLine) (i : Nat) : Option NodeTakes :=
  (lines.find? (fun x => x.position.toNat == i)).map (fun x => nodeTakes x.symbols)

/-- The first position whose header is broken: neither it nor any node downstream has the frame (R256). -/
def frameEnds (lines : List BuntingLine) : Nat :=
  lines.foldl (fun m x => if nodeTakes x.symbols = .nothing then min m x.position.toNat else m) 4096

/-- The nodes have had a frame, up to the first broken header (R256, R269): those beyond keep the time of their last. `before` is the
time of the frame before, `bad` tells an error in a node's own bits. -/
def bpHeard (s : State) (p before : Nat) (lines : List BuntingLine) (bad : NodeTakes → Bool) : State :=
  let stop := frameEnds lines
  let b := s.bpCh p
  let n := s.ob (Obj.bpNodeCount p)
  let late := (List.range n).foldl (fun (t : Table Tick) i =>
    if i < stop then t else t.put i ((b.unheard.get? i).getD before)) []
  let errs := (List.range (min n stop)).filter (fun i => b.errs.contains i || (match takenAt lines i with
    | some x => bad x
    | none => false)) ++ b.errs.filter (fun i => decide (stop ≤ i))
  s.setBp p { b with unheard := late, errs := errs
                     dark := b.dark.filter (fun i => s.bit (Obj.bpFlags p) 5 || decide (stop ≤ i)) }

/-- The nodes latch a data frame at its reset gap (R256, R261): their own bits as received, or as before where they are broken or the
frame did not come. -/
def bpLatch (s : State) (p : Nat) (lines : List BuntingLine) : State :=
  let stop := frameEnds lines
  let b := s.bpCh p
  let keep := b.latched.filter (fun e => decide (stop ≤ bpNode e.1) || takenAt lines (bpNode e.1) = some .fault)
  let fresh := b.sent.filter (fun e => decide (bpNode e.1 < stop) && (takenAt lines (bpNode e.1)).isNone)
  let own (x : BuntingLine) : List (Nat × Nat) :=
    match (if stop ≤ x.position.toNat then none else takenAt lines x.position.toNat) with
    | some (.bits w) => (List.range 8).map (fun c =>
        (bpPortSig p + 8 * x.position.toNat + c, bitsOf w (84 - 12 * c) 12))
    | _ => []
  let t := (keep ++ fresh ++ lines.flatMap own).foldl (fun (t : Table Nat) e => t.write 0 e.1 e.2) []
  s.setBp p { b with latched := t }

/-- What a frame carries and counts (R254, R261). -/
def bpSend (s : State) (p : Nat) : State :=
  let new := s.bpValues p
  let cl := s.bpZeroed p new
  let b := s.bpCh p
  let s := s.setBp p { b with sent := new, clears := cl, seq := (b.seq + 1) % 8, lastFrame := s.now
                              sinceCommand := saturate (b.sinceCommand + 1) 16 }
  (s.setBit (Obj.bpFlags p) 0 true).bump (Obj.bpFrameCount p)

/-- The turn mark of a frame judged (R268): its arrival in ticks after the E, and the tail it shows. -/
def bpTurn (s : State) (p : Nat) (turn : Option Nat) (tail : Nat) : State :=
  let b := s.bpCh p
  let bad := match turn with
    | none => true
    | some t => decide (t + 50 < s.ob (Obj.bpRoundTrip p)) || decide (s.bpTurnTime p < t)
  if !bad then s.setBp p { b with turnRun := 0 }
  else
    let s := (s.setBp p { b with turnRun := b.turnRun + 1 }).bump (Obj.bpTurnErrors p)
    if b.turnRun + 1 = 3 then
      let s := (s.setBit (Obj.bpFlags p) 5 true).bpPost p 1 (if turn.isSome then tail else 0xFFFF)
      if s.cf (Obj.bpAutoRediscover p) = 1 then s.bpDiscover p else s
    else s

/-! ## Polls (R258, R262, R268) -/

/-- Board-sensor state lost or faulted (R267). -/
def bgLost (s : State) (p g : Nat) : State :=
  let b := s.bpCh p
  let was := bitsOf (s.ob (Obj.bpBgState p g)) 13 3 = 2
  let s := s.setBp p { b with targets := b.targets.write 4096 g (s.bpFloor p) }
  let s := s.bgShow p g 2 ((s.bpCh p).factors.read 4096 g)
  if was then s else s.bpPost p 6 g

/-- A thermal reading of a group (R258, R267): `d` the 20 DATA bits. -/
def bgReading (s : State) (p g pos d : Nat) : State :=
  let w := bitsOf d 4 16
  let b := s.bpCh p
  let n := b.nodes.read {} pos
  let s := s.setBp p { b with nodes := b.nodes.put pos { n with temp := w, flags := setBitTo n.flags 1 (bitAt d 3) } }
  if bitAt d 3 then s.bgLost p g
  else if w = 0x8000 then s
  else
    let b := s.bpCh p
    let s := s.setBp p { b with targets := b.targets.write 4096 g (s.bpTarget p (signedOf 2 w)) }
    s.setOb (Obj.bpBgState p g) (w * 2 ^ 16 + 2 ^ 13 + (s.bpCh p).factors.read 4096 g)

/-- A status reply of a node (R258, R268). -/
def nodeStatus (s : State) (p pos d : Nat) : State :=
  let b := s.bpCh p
  let n := b.nodes.read {} pos
  let m := { n with open_ := bitsOf d 12 8, short := bitsOf d 4 8
                    symErrors := if bitAt d 1 then saturate (n.symErrors + 1) 65535 else n.symErrors
                    flags := setBitTo (setBitTo (setBitTo n.flags 1 (bitAt d 3)) 2 (bitAt d 2)) 3
                      (bitAt d 0 || bitAt n.flags 3) }
  let changed := m.open_ ≠ n.open_ || m.short ≠ n.short || bitsOf m.flags 1 2 ≠ bitsOf n.flags 1 2
  let faulty := m.open_ ≠ 0 || m.short ≠ 0 || bitsOf m.flags 1 2 ≠ 0
  let s := s.setBp p { b with nodes := b.nodes.put pos m, errs := b.errs.filter (fun i => i != pos) }
  if changed && faulty then s.bpPost p 4 (pos * 2 ^ 8 + m.short) else s

/-- A poll of a node answered (R268). -/
def nodeHeard (s : State) (p pos : Nat) : State :=
  let b := s.bpCh p
  let n := b.nodes.read {} pos
  s.setBp p { b with misses := b.misses.erase pos, nodes := b.nodes.put pos { n with state := 1 } }

/-- A poll of a node missed (R268): lost after REPLY_MISS_LIMIT in a row. -/
def nodeMissed (s : State) (p pos : Nat) : State :=
  let b := s.bpCh p
  let n := b.nodes.read {} pos
  let k := b.misses.read 0 pos + 1
  let lost := decide (s.cf (Obj.bpReplyMissLimit p) ≤ k) && n.state ≠ 2
  let s := s.setBp p { b with misses := b.misses.write 0 pos (saturate k 255)
                              nodes := b.nodes.put pos { n with missed := saturate (n.missed + 1) 65535
                                                                state := if lost then 2 else n.state } }
  if lost then s.bpPost p 7 pos else s

/-- The polls of the frame being sent: slot, position, and the group for a thermal poll (R262). -/
def bpPolls (s : State) (p : Nat) : List (Nat × Nat × Option Nat) :=
  let b := s.bpCh p
  let ts := s.cf (Obj.bpThermSlots p)
  let groups := s.sensorGroups p
  let thermal := (List.range ts).filterMap fun i =>
    (groups[b.thermPhase * ts + i]?).map (fun x => (i, x.2, some x.1))
  let diag := (List.range (16 - ts)).filterMap fun j =>
    if b.diagFirst + j < s.ob (Obj.bpNodeCount p) then some (ts + j, b.diagFirst + j, none) else none
  thermal ++ diag

/-- One poll judged against the replies received (R258): a bad RCRC or another node's position counts as missed. -/
def bpPoll (s : State) (p : Nat) (replies : List BuntingReply) (q : Nat × Nat × Option Nat) : State :=
  let got := replies.find? (fun r => r.slot.val == q.1)
  let good := match got with
    | some r => r.ok && r.node.toNat = q.2.1 && r.rtype.toNat = (if q.2.2.isSome then 2 else 1)
    | none => false
  let s := if got.isSome && !good then s.bump (Obj.bpReplyErrors p) else s
  if good then
    let s := s.nodeHeard p q.2.1
    let d := match got with
      | some r => r.data.toNat
      | none => 0
    match q.2.2 with
    | some g =>
      let b := s.bpCh p
      (s.setBp p { b with misses := b.misses.erase (4096 + g) }).bgReading p g q.2.1 d
    | none => s.nodeStatus p q.2.1 d
  else
    let s := s.nodeMissed p q.2.1
    match q.2.2 with
    | some g =>
      let b := s.bpCh p
      let k := b.misses.read 0 (4096 + g) + 1
      let s := s.setBp p { b with misses := b.misses.write 0 (4096 + g) (saturate k 255) }
      if s.cf (Obj.bpReplyMissLimit p) ≤ k then s.bgLost p g else s
    | none => s

/-- The polls advance (R262), and NODE_FAULT shows whether some node reports a fault or is lost. -/
def bpAdvance (s : State) (p : Nat) : State :=
  let b := s.bpCh p
  let ts := s.cf (Obj.bpThermSlots p)
  let phases := ceilDiv (s.sensorGroups p).length ts
  let next := b.diagFirst + (16 - ts)
  let s := s.setBp p { b with thermPhase := if b.thermPhase + 1 < phases then b.thermPhase + 1 else 0
                              diagFirst := if next < s.ob (Obj.bpNodeCount p) then next else 0 }
  s.setBit (Obj.bpFlags p) 1 (b.nodes.any (fun n =>
    n.2.state = 2 || n.2.open_ ≠ 0 || n.2.short ≠ 0 || bitsOf n.2.flags 1 2 ≠ 0))

/-- A data frame (R261, R262, R267, R268). -/
def bpFrame (s : State) (p : Nat) (turn : Option Nat) (tail : Nat) (replies : List BuntingReply) (lines : List BuntingLine) :
    State :=
  let before := (s.bpCh p).lastFrame
  let s := ((s.bpSnapshot p).bpSend p).bpHeard p before lines (fun x => x = .fault)
  let s := s.bpLatch p lines
  let s := forEach (s.bpPolls p) (fun s q => s.bpPoll p replies q) s
  (s.bpAdvance p).bpTurn p turn tail

/-- A command that a node cannot take (R256, R265): its own bits broken, or a CRC-16 over OP and ARG that does not hold. -/
def badCommand : NodeTakes → Bool
  | .bits x => crcOf 16 0x1021 0xFFFF 80 (x / 2 ^ 16) != x % 2 ^ 16
  | .fault => true
  | .nothing => false

/-- A command frame (R265): setups and clears that waited are sent; channel values do not change. -/
def bpCommand (s : State) (p : Nat) (lines : List BuntingLine) : State :=
  let b := s.bpCh p
  ((s.setBp p { b with setup := false, clears := [], sinceCommand := 0, seq := (b.seq + 1) % 8, lastFrame := s.now }).bpHeard p
    b.lastFrame lines badCommand).bump (Obj.bpFrameCount p)

def doBpRediscover (s : State) (p : Nat) : Answer :=
  let st := s.ob (Obj.bpState p)
  check (st ≠ 1) .inUse <| .ok (if st = 2 || st = 3 then s.bpDiscover p else s)

def doBpNodeClear (s : State) (p pos : Nat) : Answer :=
  check (pos < 4096 || pos = 0xFFFF) .valueRange <|
    let b := s.bpCh p
    let who := if pos = 0xFFFF then (b.nodes.filter (fun n => n.2.kind == 2)).map (fun n => n.1) else [pos]
    .ok (s.setBp p { b with clears := who.foldl (fun t i => t.put i 0xFF) b.clears })

/-- A node turns all its channels off (R269). -/
def nodeDark (s : State) (p pos : Nat) : State :=
  let b := s.bpCh p
  s.setBp p { b with dark := if b.dark.contains pos then b.dark else b.dark ++ [pos]
                     sent := b.sent.filter (fun e => bpNode e.1 != pos)
                     latched := b.latched.filter (fun e => bpNode e.1 != pos) }

end State

/-! ## Meanings -/

/-- R261: a frame starts; `turn` is the arrival of the turn mark in ticks after the E, `tail` the position that answered
it. -/
def execBpFrame (p : Fin 8) (turn : Option Nat) (tail : BitVec 12) (heard : BuntingHeard) (s : State) :
    Host.Outcome State Fault Refusal :=
  whenever (s.bpMayStart p && !s.bpCommandDue p) s (s.bpFrame p turn tail.toNat heard.replies heard.lines)

/-- R268. -/
def execBpLineFault (p : Fin 8) (high : Bool) (s : State) : Host.Outcome State Fault Refusal :=
  whenever (s.cf (Obj.bpEnable p) = 1 && (s.ob (Obj.bpState p) = 1 || s.ob (Obj.bpState p) = 2)) s
    (((s.bpFail p).setBit (Obj.bpFlags p) 6 true).bpPost p 2 (if high then 2 else 1))

/-- R263, R264. -/
def execBpDiscovery (p : Fin 8) (d : BuntingDiscovery) (s : State) : Host.Outcome State Fault Refusal :=
  whenever (s.ob (Obj.bpState p) = 1) s (s.bpDiscovered p d)

/-- R263: BP_RETRY_TIME has passed since a line fault or a foreign device. -/
def execBpRetryExpiry (p : Fin 8) (s : State) : Host.Outcome State Fault Refusal :=
  let due := match (s.bpCh p).retryAt with
    | some t => decide (t ≤ s.now)
    | none => false
  whenever (due && s.ob (Obj.bpState p) = 3) s (s.bpDiscover p)

/-- R265. -/
def execBpCommandFrame (frame : BuntingCommand) (s : State) : Host.Outcome State Fault Refusal :=
  whenever (s.bpMayStart frame.p && s.bpCommandDue frame.p) s (s.bpCommand frame.p frame.lines)

/-- R271. -/
def execBpRediscover (sess : Nat) (p : Fin 8) (s : State) : Host.Outcome State Fault Refusal :=
  s.request sess .service (writeOf (Obj.bpRediscover p) 1 1)
    (fun _ s => s.doBpRediscover p)

/-- R271. -/
def execBpNodeClear (sess : Nat) (p : Fin 8) (position : BitVec 16) (s : State) : Host.Outcome State Fault Refusal :=
  s.request sess .host (writeOf (Obj.bpNodeClear p) 2 position.toNat)
    (fun _ s => s.doBpNodeClear p position.toNat)

/-- R269: no frame has reached the node for its timeout. -/
def execNodeTimeout (p : Fin 8) (position : Fin 4096) (s : State) : Host.Outcome State Fault Refusal :=
  whenever (decide (position.val < s.ob (Obj.bpNodeCount p)) &&
    (s.bit (Obj.bpFlags p) 5 ||
      s.passed (((s.bpCh p).unheard.get? position.val).getD (s.bpCh p).lastFrame) (s.bpTimeout p))) s (s.nodeDark p position)

end Sys2Proof.Machine
end

