-- ==== Sys2Proof/Machine/Matrix.lean ====
section
/-!
DEFINITION. Matrix ports, derating on the Hoist die temperature and the neighbour-pin test (spec/12).
-/

namespace Sys2Proof.Machine
namespace State

def mxPost (s : State) (p k v : Nat) : State := s.post (512 + 8 * p + k) v
def mxPortSig (p : Nat) : Nat := mkSig clsMX (64 * p)

/-- The outputs of a matrix port: its pixels and its master. -/
def mxSigs (p : Nat) : List Nat :=
  (List.range 64).map (fun i => mkSig clsMX (64 * p + i)) ++ [mkSig clsMX (256 + p)]

/-- PORT_I and PORT_P (R276). -/
def mxShowPower (s : State) (p : Nat) : State :=
  let t := s.portTotal (mxPortSig p) [] []
  (s.setOb (Obj.mxPortI p) (saturate t.1 65535)).setOb (Obj.mxPortP p) (saturate t.2 65535)

/-- The port off, dark, without admission entries or waiting requests (R277). -/
def mxShut (s : State) (p : Nat) : State :=
  let port := mxPortSig p
  let keep (l : List AdmRequest) : List AdmRequest := l.filter (fun r => r.sig != port)
  let s := s.setMx p { s.mxCh p with off := true, eff := [], frames := 0, line := 8, goodSince := none, recover := 0, dark := [] }
  let s := { s with arb := { s.arb with
    entries := s.arb.entries.filter (fun e => e.1 / 8 != port), queue := keep s.arb.queue, refused := keep s.arb.refused
    portRaises := s.arb.portRaises.filter (fun e => !(isPort e.1 && portSig e.1 == port)) } }
  (s.mxShowPower p).runQueue

/-- What keeps a port off: a retry that waits, latching, overtemperature, a neighbour short. -/
def mxHeld (s : State) (p : Nat) : Bool :=
  let c := s.mxCh p
  c.hot || c.retryAt.isSome || s.ft.stagesOff.contains (mxPortSig p) || s.ob (Obj.mxState p) = 3 || s.ob (Obj.mxState p) = 4

/-- The port on again: every output it commands is presented, from dark, at the next scan frame under its owner's class
(R277, R278). `why` is what offset 6 will carry; 0 for a first start. -/
def mxRestart (s : State) (p why : Nat) : State :=
  if s.mxHeld p || s.cf (Obj.mxEnable p) = 0 then s
  else
    let lit := (mxSigs p).filter (fun sig => s.commandedOf sig ≠ 0)
    let s := s.setMx p { s.mxCh p with off := false, recover := why, frames := 0, line := 8, dark := lit }
    let s := s.setOb (Obj.mxState p) (if s.hoist.safe then 5 else 1)
    forEach lit (fun s sig => s.portRaise sig (s.ownerCode sig) (s.commandedOf sig)) s

/-- The retry after a line trip (R153, R278), or latching. -/
def mxFault (s : State) (p : Nat) : State :=
  let count := s.cf (Obj.mxRetryCount p)
  let used := (s.mxCh p).retries
  if s.hoist.safe then s
  else if count = 255 || used < count then
    let at_ := s.now + retryDelay count (s.cf (Obj.mxRetryDelay p)) used
    (s.setMx p { s.mxCh p with retryAt := some at_ }).setOb (Obj.mxState p) 2
  else (s.setOb (Obj.mxState p) 3).mxPost p 1 used

/-- The line whose slot starts at this tick, where one does (R274). -/
def mxSlot (s : State) (p : Nat) : Option Nat :=
  let tl := s.cf (Obj.mxLinePeriod p)
  let d : Int := (s.now : Int) - s.cf (Obj.mxPhase p)
  if d % (tl : Int) = 0 then some ((d / (tl : Int)) % 8).toNat else none

/-- Effective value of a pixel as it stands (R273): dark where its column is disabled or it waits to come on again; from the
latches under the hoist safe state (R279). -/
def mxEff (s : State) (p i : Nat) : Nat :=
  let val (sig : Nat) : Nat :=
    if s.hoist.safe then s.hoistValue sig (s.commandedOf sig)
    else if (s.mxCh p).dark.contains sig then 0 else s.gated sig (s.commandedOf sig)
  if s.bit (Obj.mxColDisabled p) (i % 8) then 0
  else effective (val (mkSig clsMX (64 * p + i))) (val (mkSig clsMX (256 + p))) (s.mxF p [])

/-- A line slot starts (R274–R276): at line 0 the port's requests are formed; the line's effective values are taken; a
recovery is reported after its first complete scan frame (R158, R278). -/
def mxSlotStart (s : State) (p l : Nat) : State :=
  let s := if l = 0 && !s.hoist.safe then s.portForms (mxPortSig p) (8 * s.cf (Obj.mxLinePeriod p)) [] else s
  let c := s.mxCh p
  let eff := (List.range 8).foldl (fun (t : Table Nat) k => t.write 0 (8 * l + k) (s.mxEff p (8 * l + k))) c.eff
  let frames := if l = 0 && c.line = 7 then saturate (c.frames + 1) 2 else c.frames
  let line := if l = 0 then 0 else if c.line + 1 = l then l else 8
  let done := frames ≥ 1 && c.recover ≠ 0
  let s := s.setMx p { c with eff := eff, line := line, frames := frames, recover := if done then 0 else c.recover
                              goodSince := if done then some s.now else c.goodSince }
  (s.mxShowPower p).postIf done (512 + 8 * p + 6) c.recover

def doMxFaultClear (s : State) (p : Nat) : Answer :=
  check (!(s.mxCh p).hot) .configInvalid <|
    let stopped := s.ob (Obj.mxState p) = 4
    let s := s.setMx p { s.mxCh p with retryAt := none, retries := 0 }
    let s := s.setOb (Obj.mxColDisabled p) 0
    let s := if stopped then s else s.setOb (Obj.mxState p) (if s.cf (Obj.mxEnable p) = 1 then 1 else 0)
    let dark := (mxSigs p).all (fun sig => s.commandedOf sig = 0)
    if stopped then .ok s
    else if dark then .ok ((s.mxRestart p 0).mxPost p 6 1)
    else if (s.mxCh p).off then .ok (s.mxRestart p 1)
    else .ok s

def doPixelClear (s : State) (p : Nat) : Answer := .ok (s.setOb (Obj.mxPixelOpen p) 0)

/-! ## Derating (R280) -/

/-- D_t for a temperature in 0.1 °C. -/
def kneeFactor (s : State) (t : Int) : Nat :=
  let knee : Int := 10 * s.cf Obj.kneeT
  let span : Int := 10 * s.cf Obj.kneeSpan
  let fl := s.cf Obj.kneeFloor * 4096 / 100
  if t ≤ knee then 4096
  else if knee + span ≤ t then fl
  else ((4096 : Int) - -((-(((4096 - fl : Nat) : Int) * (t - knee))) / span)).toNat

/-- A matrix port's factor moves (R280): offset 5 where it crosses. -/
def mxFactorTo (s : State) (p new : Nat) : State :=
  let old := s.ob (Obj.mxFactor p)
  let s := s.setOb (Obj.mxFactor p) new
  s.postIf (factorCrosses (s.cf Obj.kneeFloor * 4096 / 100) old new) (512 + 8 * p + 5) new

/-- Lowest-ranking owner class of a port's lit outputs, none where it is dark. -/
def mxClass (s : State) (p : Nat) : Option Nat :=
  ((mxSigs p).filter (fun sig => s.commandedOf sig ≠ 0)).foldl
    (fun m sig => some (max (m.getD 0) (s.own.ownerClass.read 7 sig))) none

/-- The factor of a matrix port this millisecond. -/
def derateMx (s : State) (dt p : Nat) : State :=
  let f := s.ob (Obj.mxFactor p)
  if s.cf (Obj.mxEnable p) = 0 || s.cf (Obj.mxKnee p) = 0 then s
  else if dt < f then ((s.mxFactorTo p dt).portFit (mxPortSig p) 4).runQueue
  else if f < dt && !s.hoist.safe then
    let v := min (f + 64) dt
    match s.mxClass p with
    | none => s.mxFactorTo p v
    | some c =>
      let s1 := s.portForm (mxPortSig p) c (8 * s.cf (Obj.mxLinePeriod p)) [(p, v)]
      s1.postIf (s1.ob (Obj.mxFactor p) = v && factorCrosses (s.cf Obj.kneeFloor * 4096 / 100) f v) (512 + 8 * p + 5) v
  else s

/-- An output driven anew under a changed factor. -/
def redrive (s : State) (sig : Nat) : State :=
  if sigClass sig = clsDOUT && s.ob (Obj.doutAppliedValue (sigInst sig)) ≠ 0 && !s.hoist.safe then
    s.doutDrive (sigInst sig) (s.doutCh (sigInst sig)).value
  else s

/-- The factor of a GD or DOUT output this millisecond: falls at once, a rise is a switch-on of the owner's class. -/
def derateOutput (s : State) (dt sig : Nat) : State :=
  let f := s.factorOf sig
  let with_ (s : State) (v : Nat) : State := { s with factors := s.factors.write 4096 sig v }
  let v0 := s.commandedOf sig
  if dt < f then
    let s := (with_ s dt).redrive sig
    if v0 = 0 then s else (s.reduceEntry sig v0).runQueue
  else if f < dt && !s.hoist.safe then
    let v := min (f + 64) dt
    if v0 = 0 || s.disabled sig then with_ s v
    else if (s.waiting? sig).isSome then s
    else
      let r := { s.requestFor sig (s.ownerCode sig) v0 s.now with
        prof := (with_ s v).sigProfile sig v0 v0, factors := [(sig, v)] }
      s.present r
  else s

/-- One millisecond of derating (R280): KNEE_TARGET from MS64 and every output it governs. -/
def deratingStep (s : State) : State :=
  let dt := s.kneeFactor (s.msv 64)
  let s := ({ s with lastDerate := s.now }).setOb Obj.kneeTarget dt
  let s := forRange 2 (fun s p => s.derateMx dt p) s
  let gm := s.cf Obj.kneeGdMask
  let dm := s.cf Obj.kneeDoutMask
  let s := forRange 24 (fun s c => if bitAt gm c then s.derateOutput dt (mkSig clsGD c) else s) s
  forRange 8 (fun s d => if bitAt dm d then s.derateOutput dt (mkSig clsDOUT d) else s) s

/-! ## The neighbour-pin test (R281, R282, R476) -/

/-- Ball code of tested ball b: 0–31 the matrix balls (16 per port, lines first), 32–39 BP, 40–47 DOUT (R476). -/
def ballCode (b : Nat) : Nat :=
  if b < 16 then 160 + b else if b < 32 then 176 + (b - 16) else if b < 40 then 144 + 2 * (b - 32) else 112 + (b - 40)

/-- A ball that carries a field signal, in the rows next to a tested ball (R476, R477). -/
def ballField (code : Nat) : Bool :=
  let row := code / 16
  let col := code % 16
  match row with
  | 8 => col < 8
  | 9 => col % 2 = 0
  | 6 | 7 | 10 | 11 | 12 => true
  | _ => false

/-- Adjacent in the array, diagonally included (R281). -/
def ballsAdjacent (a b : Nat) : Bool :=
  a ≠ b && decide (max (a / 16) (b / 16) - min (a / 16) (b / 16) ≤ 1) &&
    decide (max (a % 16) (b % 16) - min (a % 16) (b % 16) ≤ 1)

/-- The matrix port a ball code belongs to. -/
def ballPort (code : Nat) : Option Nat :=
  if code / 16 = 10 then some 0 else if code / 16 = 11 then some 1 else none

/-- A port stopped by a short at one of its balls (R282). -/
def mxStop (s : State) (code : Nat) : State :=
  match ballPort code with
  | none => s
  | some p =>
    let s := { s with nb := { s.nb with mxShort := s.nb.mxShort.put p 1 } }
    if s.cf (Obj.mxEnable p) = 0 then s else (s.mxShut p).setOb (Obj.mxState p) 4

/-- A pair found (R282): EV519, NB_PAIR, and a matrix port that it stops. A pair already listed is not found again. -/
def nbPairFound (s : State) (a b : Nat) : State :=
  let n := s.ob Obj.nbCount
  let known := (List.range n).any (fun k =>
    s.ob (Obj.nbPair k) = a * 256 + b || s.ob (Obj.nbPair k) = b * 256 + a)
  let s := { s with nb := { s.nb with found := true } }
  let s := (s.mxStop a).mxStop b
  if known then s
  else
    let s := if n < 16 then (s.setOb (Obj.nbPair n) (a * 256 + b)).setOb Obj.nbCount (n + 1) else s
    s.post 519 (a * 256 + b)

/-- The neighbours reported joined to a ball (R281). -/
def nbJoins (ball : Nat) (joined : List (BitVec 8)) : List Nat :=
  (joined.map (fun x => x.toNat)).filter (fun c => ballField c && ballsAdjacent (ballCode ball) c)

/-- The tested balls of the enabled ports and outputs (R282). -/
def nbEnabled (s : State) : List Nat :=
  (List.range 48).filter fun b =>
    if b < 32 then s.cf (Obj.mxEnable (b / 16)) = 1
    else if b < 40 then s.cf (Obj.bpEnable (b - 32)) = 1
    else s.cf (Obj.doutEnable (b - 40)) = 1

/-- A test of some balls starts: NB_STATE running, the pair list empty. -/
def nbStart (s : State) (balls : List Nat) : State :=
  let ports := ([0, 1] : List Nat).filter (fun p => (List.range 16).all (fun i => balls.contains (16 * p + i)))
  let s := { s with nb := { s.nb with todo := balls, tested := 0, found := false, ports := ports
                                      mxShort := s.nb.mxShort.filter (fun e => !ports.contains e.1) } }
  let s := forRange 16 (fun s k => s.setOb (Obj.nbPair k) 0) s
  (s.setOb Obj.nbCount 0).setOb Obj.nbState 1

/-- The running test ends (R282): EV527 where nothing was found; a port whose balls are all free of shorts starts. -/
def nbEnd (s : State) : State :=
  let s := s.setOb Obj.nbState (if s.nb.found then 3 else 2)
  let s := s.postIf (!s.nb.found) 527 s.nb.tested
  forEach s.nb.ports (fun s p =>
    let st := s.ob (Obj.mxState p)
    if (s.nb.mxShort.get? p).isSome || s.cf (Obj.mxEnable p) = 0 || !(st = 0 || st = 4) then s
    else (s.setOb (Obj.mxState p) 1).mxRestart p 0) s

/-- One ball of the running test (R281). -/
def nbBall (s : State) (ball : Nat) (joined : List (BitVec 8)) : State :=
  let s := forEach (nbJoins ball joined) (fun s c => s.nbPairFound (ballCode ball) c) s
  let s := { s with nb := { s.nb with todo := s.nb.todo.filter (fun b => b != ball), tested := s.nb.tested + 1 } }
  if s.nb.todo.isEmpty then s.nbEnd else s

def doNbRun (s : State) : Answer := check (s.ob Obj.nbState ≠ 1) .inUse <| .ok (s.nbStart (List.range 48))

/-- Bit of NB_ONLINE_MASK that selects a ball. -/
def nbMaskBit (ball : Nat) : Nat := if ball < 16 then 0 else if ball < 32 then 1 else if ball < 40 then 2 else 3

/-- An online test's opportunity (R282): a DOUT ball only while it and its DOUT neighbours are off, a bunting ball in a
gap that carries no cable measurement. -/
def nbMayOnline (s : State) (ball : Nat) : Bool :=
  let off (d : Nat) : Bool := s.ob (Obj.doutAppliedValue d) = 0
  let due := match s.nb.lastOnline.get? ball with
    | some t => s.passed t (sec (s.cf Obj.nbOnlinePeriod))
    | none => true
  bitAt (s.cf Obj.nbOnlineMask) (nbMaskBit ball) && due &&
    (if ball < 32 then s.ob (Obj.mxState (ball / 16)) = 1
     else if ball < 40 then s.ob (Obj.bpState (ball - 32)) = 2 && (s.cable.get? (ball - 32)).isNone
     else
       let d := ball - 40
       off d && (d = 0 || off (d - 1)) && (d = 7 || off (d + 1)))

/-- An online test of a ball (R282). -/
def nbOnline (s : State) (ball : Nat) (joined : List (BitVec 8)) : State :=
  let s := { s with nb := { s.nb with lastOnline := s.nb.lastOnline.put ball s.now } }
  let l := nbJoins ball joined
  let s := if l.isEmpty || s.ob Obj.nbState = 1 then s else s.setOb Obj.nbState 3
  forEach l (fun s c => s.nbPairFound (ballCode ball) c) s

end State

/-! ## Meanings -/

/-- R277. -/
def execMxLineTrip (p : Fin 2) (line : Fin 8) (s : State) : Host.Outcome State Fault Refusal :=
  whenever (s.cf (Obj.mxEnable p) = 1 && !(s.mxCh p).off) s
    (((((s.mxShut p).bump (Obj.mxTripCount p)).mxPost p 0 (2 ^ 16 + line)).mxFault p))

/-- R277: in three consecutive scan frames on the same line. -/
def execMxColumnOvervoltage (p : Fin 2) (line column : Fin 8) (s : State) : Host.Outcome State Fault Refusal :=
  whenever (s.cf (Obj.mxEnable p) = 1 && !(s.mxCh p).off && !s.bit (Obj.mxColDisabled p) column) s
    ((((s.setBit (Obj.mxColDisabled p) column true).portFit (State.mxPortSig p) 4).mxPost p 3 (line * 2 ^ 8 + column)).runQueue)

/-- R277: `low` in three consecutive frames marks the pixel, three frames at current clear the mark. -/
def execMxPixelOpen (p : Fin 2) (line column : Fin 8) (low : Bool) (s : State) : Host.Outcome State Fault Refusal :=
  let i := 8 * line.val + column.val
  let was := s.bit (Obj.mxPixelOpen p) i
  whenever (s.cf (Obj.mxEnable p) = 1 && s.cf (Obj.mxOpenDetect p) = 1 && !s.hoist.safe) s
    ((s.setBit (Obj.mxPixelOpen p) i low).postIf (low && !was) (512 + 8 * p + 2) (line * 2 ^ 8 + column))

/-- R277: the stages' temperature in 0.1 °C. -/
def execMxOvertemp (p : Fin 2) (temp : Int) (s : State) : Host.Outcome State Fault Refusal :=
  let c := s.mxCh p
  .next (if 1700 < temp && !c.hot && s.cf (Obj.mxEnable p) = 1 then
      let s := s.mxShut p
      let s := (s.setMx p { s.mxCh p with hot := true }).mxPost p 4 (wordOf 4 temp)
      if s.ob (Obj.mxState p) = 1 then s.setOb (Obj.mxState p) 0 else s
    else if temp < 1500 && c.hot then (s.setMx p { c with hot := false }).mxRestart p 2
    else s)

/-- R278: the retry delay has passed. -/
def execMxRetry (p : Fin 2) (s : State) : Host.Outcome State Fault Refusal :=
  let c := s.mxCh p
  let due := match c.retryAt with
    | some t => decide (t ≤ s.now)
    | none => false
  whenever (s.awake && due && s.ob (Obj.mxState p) = 2 && !s.hoist.safe) s
    (((s.setMx p { c with retryAt := none, retries := saturate (c.retries + 1) 255 }).setOb (Obj.mxState p) 1).mxRestart p 3)

/-- R278. -/
def execMxFaultClear (sess : Nat) (p : Fin 2) (s : State) : Host.Outcome State Fault Refusal :=
  s.request sess .host (writeOf (Obj.mxFaultClear p) 1 1)
    (fun _ s => s.doMxFaultClear p)

/-- R291. -/
def execPixelClear (sess : Nat) (p : Fin 2) (s : State) : Host.Outcome State Fault Refusal :=
  s.request sess .service (writeOf (Obj.mxPixelClear p) 1 1)
    (fun _ s => s.doPixelClear p)

/-- R274, R275: the slot that starts at this tick. -/
def execMxLineSlotStart (p : Fin 2) (s : State) : Host.Outcome State Fault Refusal :=
  match s.mxSlot p with
  | some l => whenever (s.cf (Obj.mxEnable p) = 1 && !(s.mxCh p).off && (s.ob (Obj.mxState p) = 1 || s.ob (Obj.mxState p) = 5))
      s (s.mxSlotStart p l)
  | none => .next s

/-- R280. -/
def execDeratingUpdate (s : State) : Host.Outcome State Fault Refusal :=
  whenever (s.passed s.lastDerate (ms 1)) s s.deratingStep

/-- R282. -/
def execNbRun (sess : Nat) (s : State) : Host.Outcome State Fault Refusal :=
  s.request sess .service (writeOf (Obj.nbRun) 1 1)
    (fun _ s => s.doNbRun)

/-- R281: the neighbours that read above 0.6 V, by ball code. -/
def execNbBallTest (ball : Fin 48) (joined : List (BitVec 8)) (s : State) : Host.Outcome State Fault Refusal :=
  whenever (s.ob Obj.nbState = 1 && s.nb.todo.contains ball.val) s (s.nbBall ball joined)

/-- R282. -/
def execNbOnlineTest (ball : Fin 48) (joined : List (BitVec 8)) (s : State) : Host.Outcome State Fault Refusal :=
  whenever (s.nbMayOnline ball) s (s.nbOnline ball joined)

end Sys2Proof.Machine
end

