-- ==== Sys2Proof/Machine/Lighting.lean ====
section
/-!
DEFINITION. Fades and patterns on lighting groups (R285–R289, R495).
-/

namespace Sys2Proof.Machine
namespace State

/-! ## Levels (R285, R287) -/

/-- ⌊√x⌋ for x below 2^32, bit by bit. -/
def isqrt (x : Nat) : Nat :=
  ([32768, 16384, 8192, 4096, 2048, 1024, 512, 256, 128, 64, 32, 16, 8, 4, 2, 1] : List Nat).foldl
    (fun r b => if (r + b) * (r + b) ≤ x then r + b else r) 0

/-- The p-value of a level: ⌈√(L × 65,535)⌉, limited to 65,535. -/
def pOf (l : Nat) : Nat :=
  let x := l * 65535
  let r := isqrt x
  min 65535 (if r * r < x then r + 1 else r)

/-- a + round((b − a) × n ÷ d). -/
def between (a b n d : Nat) : Nat := ((a : Int) + roundDivInt (((b : Int) - a) * n) d).toNat

/-- The level of a way from L0 to L1, `n` of `d` along, on a curve: 0 linear, 1 perceptual. -/
def curveLevel (curve l0 l1 n d : Nat) : Nat :=
  if curve = 1 then
    let p := between (pOf l0) (pOf l1) n d
    p * p / 65535
  else between l0 l1 n d

/-- A fade's level after `dt` whole milliseconds (R285). -/
def fadeLevel (s : State) (f : Fade) (dt : Nat) : Nat :=
  if f.time ≤ dt then f.level else curveLevel (s.groupCurve f.group) f.l0 f.level dt f.time

/-- A fade's level now. -/
def fadeNow (s : State) (f : Fade) : Nat := s.fadeLevel f ((s.now - f.start) / ms 1)

/-- The level of member `i` of `m` in a pattern `e` milliseconds after its origin (R287). -/
def patternLevel (b m i0 e : Nat) : Nat :=
  let per := blockPeriod b
  let φ := e % per
  let hi := blockHi b
  let lo := blockLo b
  let odd := e / per % 2 = 1
  let i1 := if blockFlag b 1 then m - 1 - i0 else i0
  match blockKind b with
  | 1 => if φ * 1000 < blockDuty b * per then hi else lo
  | 2 => curveLevel (if blockFlag b 3 then 1 else 0) lo hi (per - ((2 * φ : Int) - per).natAbs) per
  | 3 =>
    let sp := blockSpacing b
    if ((i1 : Int) - (φ * sp / per : Nat)) % (sp : Int) < (blockWidth b : Int) then hi else lo
  | 4 =>
    let i := if blockFlag b 2 && odd then m - 1 - i1 else i1
    let w := blockWidth b
    let tail := blockSpacing b
    let h : Int := (φ * (m + w + tail) / per : Nat)
    let x : Int := i
    if h - w < x ∧ x ≤ h then hi
    else
      let d := h - w + 1 - x
      if 1 ≤ d ∧ d ≤ tail then lo + (hi - lo) * (tail + 1 - d.toNat) / (tail + 1) else lo
  | _ => lo

/-! ## Claims of fades and patterns -/

/-- A slot that a fade or pattern still holds. -/
def tagStands (s : State) (cls : Cls) (holder tag sig : Nat) : Bool :=
  match s.slotOf sig cls with
  | some c => c.holder = holder && c.tag = tag
  | none => false

/-- Some claim of a group's fade or pattern still stands (R286). -/
def anyStands (s : State) (g : Nat) (cls : Cls) (holder tag : Nat) : Bool :=
  (s.groupMembers g).any (fun sig => s.tagStands cls holder tag sig)

/-- The envelope of a fade or pattern ends (R112): the entry holds the final value as settled. -/
def endEnvelope (s : State) (sig : Nat) : State :=
  if isPort sig then
    if (s.arb.portEnv.get? sig).isSome then
      ({ s with arb := { s.arb with portEnv := s.arb.portEnv.erase sig } }).portFit (portSig sig) (s.ownerCode sig)
    else s
  else match s.arb.entries.get? (entryKey sig 7) with
    | some e => if !e.envelope then s
      else if s.commandedOf sig = 0 then s.dropEntry sig else s.reduceEntry sig (s.commandedOf sig)
    | none => s

/-- Envelopes of every member ended, and the queue run (R117). -/
def endEnvelopes (s : State) (g : Nat) : State := (forEach (s.groupMembers g) endEnvelope s).runQueue

/-- An engine freed (R288, R495): its claims stay as plain ones, at the values they have. -/
def freeEngine (s : State) (e : Nat) : State :=
  match s.light.engines.get? e with
  | none => s
  | some r =>
    let s := { s with light := { s.light with engines := s.light.engines.erase e } }
    let s := forEach (s.groupMembers r.group) (fun s sig =>
      if s.tagStands r.cls r.holder (512 + e) sig then
        s.setSlot sig r.cls ((s.slotOf sig r.cls).map (fun c => { c with tag := 0 })) else s) s
    (s.setOb (Obj.engState e) 0).endEnvelopes r.group

/-- The fade of a group in a class ended. -/
def endFade (s : State) (g code : Nat) : State :=
  match s.fadeOf g code with
  | none => s
  | some _ =>
    ({ s with light := { s.light with fades := s.light.fades.filter (fun f => !(f.group == g && f.cls.code == code)) } })
      |>.endEnvelopes g

/-- The engines that serve a group in a class. -/
def enginesOf (s : State) (g code : Nat) : List Nat :=
  (s.light.engines.filter (fun e => e.2.group == g && e.2.cls.code == code)).map (fun e => e.1)

/-- Level of a group in a class (R285). -/
def levelKey (g code : Nat) : Nat := 8 * g + code
def groupLevel (s : State) (g code : Nat) : Nat := s.light.levels.read 0 (levelKey g code)
def setLevel (s : State) (g code l : Nat) : State :=
  { s with light := { s.light with levels := s.light.levels.write 0 (levelKey g code) l } }

/-- A start that changes nothing (R286): the same fade by its holder, with a claim still standing. -/
def fadeRepeats (s : State) (g : Nat) (cls : Cls) (holder level time : Nat) : Bool :=
  match s.fadeOf g cls.code with
  | some f => f.holder = holder && f.level = level && f.time = time && s.anyStands g cls holder (1 + g)
  | none => false

/-- Members' slots filled by a fade or pattern, `v` giving each member's value by index. -/
def claimMembers (s : State) (g : Nat) (cls : Cls) (holder tag session : Nat) (v : Nat → Nat → Nat) : State :=
  ((s.groupMembers g).zipIdx).foldl (fun s x =>
    s.setSlot x.1 cls (some { value := v x.1 x.2, holder := holder, tag := tag, session := session })) s

/-- A fade starts (R285, R286); its claims are resolved with the segment. -/
def startFade (s : State) (g : Nat) (cls : Cls) (holder session level time : Nat) : State :=
  if s.fadeRepeats g cls holder level time then s
  else
    let code := cls.code
    let l0 := match s.fadeOf g code with
      | some f => s.fadeNow f
      | none => s.groupLevel g code
    let s := forEach (s.enginesOf g code) freeEngine (s.endFade g code)
    let l := if time = 0 then level else l0
    let f : Fade := { group := g, cls := cls, holder := holder, level := level, time := time, l0 := l0, start := s.now
                      ended := decide (time = 0) }
    let s := { s with light := { s.light with fades := s.light.fades ++ [f] } }
    (s.setLevel g code l).claimMembers g cls holder (1 + g) session (fun sig _ => s.levelValue sig l)

/-- The pattern origin for a start now (R287). -/
def originFor (s : State) (b : Nat) : Tick :=
  if !blockFlag b 0 then s.now
  else if s.ob Obj.syncState = 0 then s.now - s.now % ms (blockPeriod b)
  else s.now - s.htime % (blockPeriod b * 1000000) / 10

/-- Slots that a taken-over engine filled and its holder still holds are emptied (R288). -/
def takeOver (s : State) (e : Nat) (r : PatternRun) : State :=
  let s := forEach (s.groupMembers r.group) (fun s sig =>
    if s.tagStands r.cls r.holder (512 + e) sig then s.setSlot sig r.cls none else s) s
  (s.endEnvelopes r.group).bump (Obj.engTakeovers e)

/-- A pattern starts on an engine (R288); its claims are resolved with the segment. -/
def startPattern (s : State) (e g : Nat) (cls : Cls) (holder session block : Nat) : State :=
  let old := s.light.engines.get? e
  let same := match old with
    | some r => r.holder = holder && r.group = g && r.cls = cls
    | none => false
  let again := same && (match old with
    | some r => r.block = block
    | none => false)
  if again then s
  else
    let s := match old with
      | some r => if same then s else s.takeOver e r
      | none => s
    let s := s.endFade g cls.code
    let b := s.cf (domKey 0x5400 block)
    let o := s.originFor b
    let r : PatternRun := { holder := holder, cls := cls, group := g, block := block, start := s.now, origin := o }
    let s := { s with light := { s.light with engines := s.light.engines.put e r } }
    let s := s.setLevel g cls.code 0
    let s := (((s.setOb (Obj.engState e) 1).setOb (Obj.engGroup e) g).setOb (Obj.engClass e) cls.code)
    let s := (s.setOb (Obj.engBlock e) block).setOb (Obj.engPeriods e) 0
    let m := (s.groupMembers g).length
    s.claimMembers g cls holder (512 + e) session
      (fun sig i => s.levelValue sig (patternLevel b m i ((s.now - o) / ms 1)))

/-- A group's slots of a class emptied on every member (R97, R289): its fade in the class ends and its engines are freed. -/
def releaseGroup (s : State) (g : Nat) (cls : Cls) : State :=
  let s := forEach (s.groupMembers g) (fun s sig => s.setSlot sig cls none) s
  let s := forEach (s.enginesOf g cls.code) freeEngine (s.endFade g cls.code)
  s.setLevel g cls.code 0

/-- A step's value written to one member that the fade or pattern still drives (R284, R285); it takes effect at once where the
class owns the member (R82). -/
def stepMember (s : State) (cls : Cls) (holder tag sig l : Nat) : State :=
  if s.tagStands cls holder tag sig then
    let s := s.setSlot sig cls ((s.slotOf sig cls).map (fun c => { c with value := s.levelValue sig l }))
    if s.ownerCode sig = cls.code then s.resolve sig else s
  else s

/-- Milliseconds between steps for a group of `m` members (R285). -/
def stepMs (m : Nat) : Nat := max 1 (ceilDiv m 8192)

/-- One step of a fade (R285). -/
def fadeStep (s : State) (f : Fade) : State :=
  let dt := (s.now - f.start) / ms 1
  let l := s.fadeLevel f dt
  let s := forEach (s.groupMembers f.group) (fun s sig => s.stepMember f.cls f.holder (1 + f.group) sig l) s
  let s := s.setLevel f.group f.cls.code l
  if f.time ≤ dt then
    let s := { s with light := { s.light with fades := s.light.fades.map (fun (x : Fade) =>
      if x.group = f.group ∧ x.cls = f.cls then { x with ended := true } else x) } }
    s.endEnvelopes f.group
  else s

/-- One step of an engine (R287, R288). -/
def patternStep (s : State) (e : Nat) (r : PatternRun) : State :=
  let b := s.cf (domKey 0x5400 r.block)
  let el := (s.now - r.origin) / ms 1
  let n := el / blockPeriod b
  let members := s.groupMembers r.group
  let s := s.setOb (Obj.engPeriods e) (n % 2 ^ 32)
  if blockRepeat b ≠ 0 && blockRepeat b ≤ n then
    let s := if blockFlag b 4 then
        forEach members (fun s sig => s.stepMember r.cls r.holder (512 + e) sig (blockLo b)) s else s
    s.freeEngine e
  else
    members.zipIdx.foldl (fun s x =>
      s.stepMember r.cls r.holder (512 + e) x.1 (patternLevel b members.length x.2 el)) s

/-- A commit changed a group's entry (R495): its fades and patterns end, and their slots on signals that are no longer
members are emptied; `old` are the members before. -/
def regroup (s : State) (g : Nat) (old : List Nat) : State :=
  let runs := (s.light.fades.filter (fun f => f.group == g)).map (fun f => (f.cls, f.holder, 1 + g)) ++
    (s.light.engines.filter (fun e => e.2.group == g)).map (fun e => (e.2.cls, e.2.holder, 512 + e.1))
  let gone := old.filter (fun sig => !s.groupHas g sig)
  let s := forEach runs (fun s r => forEach gone (fun s sig =>
    if s.tagStands r.1 r.2.1 r.2.2 sig then s.setSlot sig r.1 none else s) s) s
  let es := (s.light.engines.filter (fun e => e.2.group == g)).map (fun e => e.1)
  let s := forEach es freeEngine s
  let s := forEach ([0, 2, 3, 4] : List Nat) (fun s code => s.endFade g code) s
  forEach gone resolve s

/-! ## Group commands and the group query (R289, R291) -/

def doGroupFade (s : State) (h g level time : Nat) : Answer :=
  check (s.groupDefined g) .valueRange <|
    .ok { s with own := { s.own with hostOps := s.own.hostOps ++ [.groupFade g level time h] } }

/-- The engine must exist and the block be defined; R289 names only the group, R100 asks the same of a rule. -/
def doGroupPattern (s : State) (h g e block : Nat) : Answer :=
  check (s.groupDefined g && decide (e < 32) && blockKind (s.cf (domKey 0x5400 block)) ≠ 0) .valueRange <|
    .ok { s with own := { s.own with hostOps := s.own.hostOps ++ [.groupPattern g e block h] } }

def doGroupRelease (s : State) (h g : Nat) : Answer :=
  check (s.groupDefined g) .valueRange <|
    .ok { s with own := { s.own with hostOps := s.own.hostOps ++ [.groupRelease g h] } }

def doGroupQuery (s : State) (h v : Nat) : Answer :=
  let c := v % 256
  check (c = 0 || c = 2 || c = 3 || c = 4) .valueRange <| .ok (s.setSob h Obj.gqGroup v)

/-- GQ_ACTIVITY and GQ_HOLDER of a group in a class. -/
def groupActivity (s : State) (g code : Nat) : Nat × Nat :=
  match s.light.engines.find? (fun e => e.2.group == g && e.2.cls.code == code) with
  | some e => (0x80 + e.1, e.2.holder)
  | none => match s.fadeOf g code with
    | some f => if f.ended && !s.anyStands g f.cls f.holder (1 + g) then (0, 0xFFFF)
      else (if f.ended then 2 else 1, f.holder)
    | none => (0, 0xFFFF)

/-- A member of the group query of a session, by subindex (R291). -/
def groupQueryValue (s : State) (h sub : Nat) : Nat :=
  let v := s.sob h Obj.gqGroup
  let g := v / 256
  let code := v % 256
  match sub with
  | 1 => v
  | 2 => (s.groupMembers g).length
  | 3 => if s.groupDefined g then s.groupLevel g code else 0
  | 4 => if s.groupDefined g then (s.groupActivity g code).1 else 0
  | _ => if s.groupDefined g then (s.groupActivity g code).2 else 0xFFFF

end State

/-! ## Meanings -/

/-- R289. -/
def execGroupFade (sess : Nat) (group : BitVec 8) (level time : BitVec 16) (s : State) :
    Host.Outcome State Fault Refusal :=
  s.request sess .host (writeOf (Obj.groupCmd) 8 (2 ^ 56 + group.toNat * 2 ^ 48 + level.toNat * 2 ^ 32 + time.toNat * 2 ^ 16))
    (fun x s => s.doGroupFade x.handle group.toNat level.toNat time.toNat)

/-- R289. -/
def execGroupPattern (sess : Nat) (group engine block : BitVec 8) (s : State) : Host.Outcome State Fault Refusal :=
  s.request sess .host (writeOf (Obj.groupCmd) 8 (2 * 2 ^ 56 + group.toNat * 2 ^ 48 + engine.toNat * 2 ^ 40 + block.toNat * 2 ^ 32))
    (fun x s => s.doGroupPattern x.handle group.toNat engine.toNat block.toNat)

/-- R289. -/
def execGroupRelease (sess : Nat) (group : BitVec 8) (s : State) : Host.Outcome State Fault Refusal :=
  s.request sess .host (writeOf (Obj.groupCmd) 8 (3 * 2 ^ 56 + group.toNat * 2 ^ 48))
    (fun x s => s.doGroupRelease x.handle group.toNat)

/-- R291. -/
def execGroupQuery (sess : Nat) (value : BitVec 16) (s : State) : Host.Outcome State Fault Refusal :=
  s.request sess .host (writeOf (Obj.gqGroup) 2 value.toNat)
    (fun x s => s.doGroupQuery x.handle value.toNat)

/-- R285: the instant start + k ms of a running fade; `cls` is the class code. -/
def execFadeStep (group : BitVec 8) (cls : Fin 5) (s : State) : Host.Outcome State Fault Refusal :=
  match s.fadeOf group.toNat cls with
  | some f =>
    let n := State.stepMs (s.groupMembers f.group).length
    whenever (s.domainIsOn 15 && !f.ended && !s.hoist.safe && decide (f.start < s.now) && (s.now - f.start) % ms n = 0) s (s.fadeStep f)
  | none => .next s

/-- R287: the instant origin + k ms of a running pattern. -/
def execPatternStep (e : Fin 32) (s : State) : Host.Outcome State Fault Refusal :=
  match s.light.engines.get? e with
  | some r =>
    let n := State.stepMs (s.groupMembers r.group).length
    whenever (s.domainIsOn 15 && !s.ft.stopped.contains (8 * (e.val / 8) + 3) && !s.ft.regionsLost.contains 4 && !s.hoist.safe &&
      decide (r.start ≤ s.now) && (s.now - r.origin) % ms n = 0) s (s.patternStep e r)
  | none => .next s

end Sys2Proof.Machine
end

