-- ==== Sys2Proof/Machine/Sag.lean ====
section
/-!
DEFINITION. What the arbiter does of itself (spec/05): slopes, present values and dissipation entries that step down, the wait
warning, shedding on a sag, and a loan frozen or released.
-/

namespace Sys2Proof.Machine
namespace State

/-! ## Sags (R123, R124) -/

/-- An output shed (R123): at its rest value, its entries removed, recorded with the arbiter as commander. A request of it stays
queued. -/
def shedOne (s : State) (reason sig : Nat) : State :=
  let old := s.commandedOf sig
  let s := s.record { s.newRecord 5 s.now with
    cls := s.ownerCode sig, signal := sig, old := old, new := 0, cmdr := 6
    cmdrAux := if s.arb.sagA then 2 else 1, reason := reason, detail := s.arb.sagVbat }
  let s := { s with arb := { s.arb with shed := s.arb.shed ++ [(⟨sig, s.now⟩ : Shed)] } }
  let s := { s with arb := { s.arb with portEnv := s.arb.portEnv.erase sig } }
  let s := s.command sig 0
  if isPort sig then s.portFit (portSig sig) (s.own.ownerClass.read 7 sig) else s.dropEntry sig

/-- An output's applied value exceeds its rest value (R123), or will at its next period start. -/
def appliedOn (s : State) (sig : Nat) : Bool :=
  let i := sigInst sig
  match sigClass sig with
  | 0x01 => match s.bridgeOfLead i with
    | some h => (s.brCh h).dir = 1 || (s.brCh h).dir = 2
    | none => s.ob (Obj.gdAppliedValue i) ≠ 0 || ((s.gdCh i).value ≠ 0 && !(s.gdCh i).off)
  | 0x02 => s.ob (Obj.svPhase i) = 2 || s.ob (Obj.svPhase i) = 3 || s.ob (Obj.svPhase i) = 4
  | 0x04 => s.ob (Obj.doutAppliedValue i) ≠ 0 || ((s.doutCh i).value ≠ 0 && !(s.doutCh i).off)
  | 0x09 => s.commandedOf sig ≠ 0 && !(s.mxCh (mxPort sig)).off && !(s.mxCh (mxPort sig)).dark.contains sig
  | _ => s.commandedOf sig ≠ 0

/-- The outputs of a class that are on (R123). -/
def shedOf (s : State) (code : Nat) : List Nat :=
  (s.own.commanded.filter (fun e => sigClass e.1 ≠ clsVF && s.ownerCode e.1 = code && s.appliedOn e.1)).map (fun e => e.1)

/-- Every output of a class shed. -/
def shedClass (s : State) (code reason : Nat) : State :=
  (forEach (s.shedOf code) (fun s sig => s.shedOne reason sig) s).showShed

/-- Sag C, and sag A which takes class A as well (R123). -/
def sagC (s : State) (v : Nat) : State :=
  let s := { s with arb := { s.arb with sagC := true, sagVbat := v } }
  ((s.shedClass 4 1).post 1220 v).runQueue

def sagA (s : State) (v : Nat) : State :=
  let s := { s with arb := { s.arb with sagA := true, sagVbat := v } }
  (((s.shedClass 4 2).shedClass 3 2).post 1221 v).runQueue

/-- A shed output resubmitted as a request of its owner's class with its shedding time as age (R124); one that nothing turns on
any more is not. -/
def restoreOne (s : State) (x : Shed) : State :=
  let sig := x.sig
  let v := s.ownerValue sig
  let code := s.ownerCode sig
  let s := { s with arb := { s.arb with shed := s.arb.shed.filter (fun y => y.sig != sig) } }
  if v = 0 then s
  else
    let s := { s with arb := { s.arb with restoring := s.arb.restoring ++ [sig] } }
    if isPort sig then (s.keepAge (entryKey sig code) x.since).portRaise sig code v
    else if s.disabled sig then (s.commandOwned sig v).unshed sig
    else if sigClass sig = clsGD && (s.bridgeOfLead (sigInst sig)).isSome then
      (s.keepAge (entryKey sig code) x.since).commandOwned sig v
    else match s.waiting? sig with
      | some o => s.revise o (s.requestFor sig code v x.since)
      | none => s.present (s.requestFor sig code v x.since)

/-- Shed outputs whose owner's class is admitted again are resubmitted; EV1223 comes with the last one restored (R124, R133). -/
def restoreShed (s : State) : State :=
  (forEach (s.arb.shed.filter (fun x => !s.sagHolds (s.ownerCode x.sig))) restoreOne s).showShed

/-- A sag state ends (R124). -/
def sagOver (s : State) (v : Nat) (c a : Bool) : State :=
  let s := { s with arb := { s.arb with sagC := s.arb.sagC && !c, sagA := s.arb.sagA && !a, sagVbat := v } }
  ((s.post 1222 v).restoreShed).runQueue

/-- A level's sag state ends at a VBAT (R124). -/
def sagEnds (s : State) (level v : Nat) : Bool := decide (level + s.cf Obj.sagHyst ≤ v)

/-! ## Loans (R130) -/

/-- LOAN_RELEASE (R130): a frozen loan ends and returns to the lender at once. -/
def doLoanRelease (s : State) (a : Nat) : Answer :=
  check (1 ≤ a && a ≤ 16) .valueRange <|
  check (s.arb.frozen && s.arb.lendTo = a) .configInvalid <|
    let i := s.arb.lent
    let s := { s with arb := { s.arb with lent := 0, lendSent := 0, lendTo := 0, frozen := false, regain := none } }
    .ok ((s.post 1225 (a * 2 ^ 16 + i)).runQueue)

end State

/-! ## Meanings -/

/-- R114, R125: the arbiter runs in Hoisted and Dipped; slopes whose t_rise has passed leave ΣS. -/
def execSlopeExpiry (s : State) : Host.Outcome State Fault Refusal :=
  whenever s.awake s (({ s with arb := { s.arb with slopes := s.arb.slopes.filter (fun l => s.now < l.expiry) } }).runQueue)

/-- R113, R117: a present value has stepped down; the test runs on the queue. -/
def execPresentValueStep (s : State) : Host.Outcome State Fault Refusal :=
  whenever s.awake s (State.runQueue s)

/-- R115, R117: a dissipation entry has fallen; the test runs on the queue. -/
def execDissipationStep (s : State) : Host.Outcome State Fault Refusal :=
  whenever s.awake s (State.runQueue s)

/-- R121: every request that has waited WAIT_WARN and not said so. -/
def execWaitWarnExpiry (s : State) : Host.Outcome State Fault Refusal :=
  let late (r : AdmRequest) : Bool := !r.warned && s.passed r.age (ms (s.cf Obj.waitWarn))
  let who := (s.arb.queue.filter late).map (fun r => r.sig)
  let mark := s.arb.queue.map (fun r => if late r then { r with warned := true } else r)
  whenever s.awake s (forEach who (fun s sig => s.post 1216 sig) { s with arb := { s.arb with queue := mark } })

/-- R123: VBAT (mV) has stayed below SAG_C_LEVEL for SAG_TIME. -/
def execSagCEnter (vbat : Nat) (s : State) : Host.Outcome State Fault Refusal :=
  whenever (s.awake && s.cf Obj.sagCLevel ≠ 0 && decide (vbat < s.cf Obj.sagCLevel) && !s.arb.sagC) s (s.sagC vbat)

/-- R123: below SAG_A_LEVEL for SAG_TIME. -/
def execSagAEnter (vbat : Nat) (s : State) : Host.Outcome State Fault Refusal :=
  whenever (s.awake && s.cf Obj.sagALevel ≠ 0 && decide (vbat < s.cf Obj.sagALevel) && !s.arb.sagA) s (s.sagA vbat)

/-- R124: VBAT has stayed at or above a level + SAG_HYST for RECOVER_TIME. -/
def execSagEnd (vbat : Nat) (s : State) : Host.Outcome State Fault Refusal :=
  let c := s.arb.sagC && s.sagEnds (s.cf Obj.sagCLevel) vbat
  let a := s.arb.sagA && s.sagEnds (s.cf Obj.sagALevel) vbat
  whenever (s.awake && (c || a)) s (s.sagOver vbat c a)

/-- R130: no valid presence from the borrower for PRESENCE_TIMEOUT × 10 ms. -/
def execLoanFreeze (s : State) : Host.Outcome State Fault Refusal :=
  whenever (s.arb.lendTo ≠ 0 && !s.arb.frozen) s
    (let s1 := { s with arb := { s.arb with frozen := true } }
     s1.post 1227 s.arb.lendTo)

/-- R130. -/
def execLoanRelease (sess : Nat) (address : BitVec 8) (s : State) : Host.Outcome State Fault Refusal :=
  s.request sess .maker (writeOf (Obj.loanRelease) 1 address.toNat)
    (fun _ s => s.doLoanRelease address.toNat)

end Sys2Proof.Machine
end

