-- ==== Sys2Proof/Machine/Fabric.lean ====
section
/-!
DEFINITION. Timers and the event fabric (spec/13), and what an occurrence writes into the fault log (R472).
-/

namespace Sys2Proof.Machine
namespace State

/-! ## Timers (R292–R301) -/

def tmr (s : State) (t : Nat) : Timer := s.timers.read {} t
def setTmr (s : State) (t : Nat) (x : Timer) : State := { s with timers := s.timers.write {} t x }

/-- The count of a timer at this tick, before an overflow that is still to be handled. -/
def tmrRaw (s : State) (t : Nat) : Nat :=
  let x := s.tmr t
  if x.opTick = some s.now then x.opCount
  else if x.running && !x.frozen then x.base + (s.now - x.since) else x.base

/-- C (R292). -/
def tmrCountNow (s : State) (t : Nat) : Nat := s.tmrRaw t % 2 ^ 48

/-- The action field of compare k, or of the overflow: OP, TARGET, ARM (R309). -/
def actionOp (a : Nat) : Nat := bitsOf a 13 3
def actionTarget (a : Nat) : Nat := bitsOf a 8 5
def cmpArm (s : State) (t k : Nat) : Bool := bitAt (s.cf (Obj.tmrCmpkAction t k)) 0

/-- An operation reaches a timer at this tick (R296): 1 start, 2 stop, 3 reset, 4 reset and start; `cnt` is the count a
reset sets, the lateness in LF mode (R300). Operations of one tick combine. -/
def timerOp (s : State) (t op cnt : Nat) : State :=
  if op = 0 ∨ 4 < op then s
  else
    let x := s.tmr t
    let same := x.opTick = some s.now
    let run0 := if same then x.opRunning else x.running
    let c0 := if same then x.opCount else s.tmrCountNow t
    let old := if same then x.ops else 0
    let ops := Nat.lor old (2 ^ (op - 1))
    let stop := bitAt ops 1
    let start := bitAt ops 0 || bitAt ops 3
    let reset := bitAt ops 2 || bitAt ops 3
    let wasReset := bitAt old 2 || bitAt old 3
    let running := if stop then false else if start then true else run0
    let lf := s.tb.lfMode
    let next := if reset then cnt else if running && !lf then (c0 + 1) % 2 ^ 48 else c0
    let y := { x with base := next, since := if lf then s.now else s.now + 1, running := running
                      opTick := some s.now, ops := ops, opRunning := run0, opCount := c0 }
    let conflict := stop && start && !(bitAt old 1 && (bitAt old 0 || bitAt old 3))
    let s := s.setTmr t (if reset && !wasReset then
      { y with fired := 0, wrapped := false, endedFired := x.fired, endedWrapped := x.wrapped } else y)
    let s := if reset && !wasReset then s.bump (Obj.tmrLaps t) else s
    if conflict then s.bump Obj.tmrConflicts else s

/-- A reset has reached the timer at this tick: the step to its count belongs to the lap that ends (R296). -/
def tmrResetNow (s : State) (t : Nat) : Bool :=
  let x := s.tmr t
  x.opTick = some s.now && (bitAt x.ops 2 || bitAt x.ops 3)

/-- Compare k of a timer fires at this step (R294, R297): its event, and its action on the timer it names. -/
def cmpFires (s : State) (t k : Nat) : State :=
  let x := s.tmr t
  let late := if s.tb.lfMode then s.tmrRaw t - s.ob (Obj.tmrCmpk t k) else 0
  let a := s.cf (Obj.tmrCmpkAction t k)
  let y := { x with passed := setBitTo x.passed k false }
  let s := s.setTmr t (if s.tmrResetNow t then { y with endedFired := setBitTo x.endedFired k true }
    else { y with fired := setBitTo x.fired k true })
  (s.post (912 + 4 * t + k) (saturate late 0xFFFFFF)).timerOp (actionTarget a) (actionOp a) late

/-- Compare k fires now: armed, not fired in this lap, its value reached by a counting step (R294). -/
def cmpDue (s : State) (t k : Nat) : Bool :=
  let x := s.tmr t
  let v := s.ob (Obj.tmrCmpk t k)
  let ends := s.tmrResetNow t
  let steps := if x.opTick = some s.now then x.opRunning else x.running
  s.cmpArm t k && steps && !x.frozen && !bitAt (if ends then x.endedFired else x.fired) k &&
    decide (v ≤ s.tmrRaw t) && (v ≠ 0 || (if ends then x.endedWrapped else x.wrapped))

/-- A timer overflows (R292, R294): a new lap, every compare armed again, and the overflow action. -/
def tmrOverflows (s : State) (t : Nat) : State :=
  let x := s.tmr t
  let c := s.tmrRaw t - 2 ^ 48
  let late := if s.tb.lfMode then c else 0
  let a := s.cf (Obj.tmrOvfAction t)
  let s := s.setTmr t { x with base := c, since := s.now, fired := 0, wrapped := true }
  let s := (s.bump (Obj.tmrLaps t)).post (912 + 4 * t + 3) (2 ^ 24 + saturate late 0xFFFFFF)
  s.timerOp (actionTarget a) (actionOp a) late

/-- CMPk written (R295). -/
def doCmpWrite (s : State) (t k v : Nat) : Answer :=
  let x := s.tmr t
  let past := decide (v ≤ s.tmrCountNow t)
  let s := s.setOb (Obj.tmrCmpk t k) v
  .ok (s.setTmr t { x with fired := setBitTo x.fired k past, passed := setBitTo x.passed k past })

/-- TMR_CMD (R298). -/
def doTmrCmd (s : State) (t op : Nat) : Answer :=
  check (1 ≤ op && op ≤ 4) .valueRange <| .ok (s.timerOp t op 0)

/-- TMR_STATUS (R309). -/
def tmrStatusOf (s : State) (t : Nat) : Nat :=
  let x := s.tmr t
  let bit (b : Bool) (i : Nat) : Nat := if b then 2 ^ i else 0
  let cmp (k : Nat) : Nat := bit (bitAt x.passed k) (8 + k) +
    bit (s.cmpArm t k && !bitAt x.fired k) (4 + k)
  cmp 0 + cmp 1 + cmp 2 + cmp 3 + bit x.frozen 2 + bit s.tb.lfMode 1 + bit x.running 0

/-- Every timer stopped at 0 with its CMPk_INIT (R301); those with TMR_AUTOSTART are started by `timersAutostart`. -/
def timersInit (s : State) : State :=
  let s := { s with timers := [] }
  forRange 32 (fun s t => forRange 4 (fun s k => s.setOb (Obj.tmrCmpk t k) (s.cf (Obj.tmrCmpkInit t k))) s) s

def timersAutostart (s : State) : State :=
  forRange 32 (fun s t => if s.cf (Obj.tmrAutostart t) = 1 then s.timerOp t 1 0 else s) s

/-! ## Global start (R299) -/

/-- The first tick whose halyard time is at or above `at_` ns. -/
def tickOfHtime (s : State) (at_ : Nat) : Tick :=
  let rate := signedOf 4 (s.ob Obj.rateRatio)
  let d : Int := (at_ : Int) - s.hal.refNs
  let per : Int := 10 * (1000000000 + rate)
  (s.hal.refTick : Int) + -((-(d * 1000000000)) / per) |>.toNat

def doGsArm (s : State) : Answer :=
  let mask := s.ob Obj.gsMask
  let sync := s.ob Obj.syncState
  let base := s.ob Obj.gsBase
  let at_ := s.ob Obj.gsAt
  check (mask ≠ 0) .valueRange <|
  check (!(base = 1 && (sync = 0 || sync = 1))) .configInvalid <|
    let n := if at_ = 0 then s.now + 1 else if base = 0 then at_ else s.tickOfHtime at_
    let late := decide (n ≤ s.now)
    let s := { s with gsArmed := some { mask := mask, op := s.ob Obj.gsOp, n0 := if late then s.now + 1 else n } }
    .ok (s.setOb Obj.gsState (if late then 3 else 1))

/-- The armed operation applied to every timer of the mask. -/
def gsFire (s : State) (g : GsArmed) : State :=
  let s := { s with gsArmed := none }
  let s := forRange 32 (fun s t => if bitAt g.mask t then s.timerOp t g.op 0 else s) s
  if s.ob Obj.gsState = 3 then s else s.setOb Obj.gsState 2

/-! ## Severity and place of an occurrence (R13, R178, R472) -/

/-- Severity of a bridge or fan slot (R178). -/
def slotSeverity (fan : Bool) (k value : Nat) : Severity :=
  if fan then (if k = 0 ∨ k = 1 ∨ k = 4 then .contained else if k = 2 then .degraded else .notice)
  else match k with
    | 0 => if value = 5 then .contained else if value = 4 then .degraded else .notice
    | 2 | 3 | 5 | 8 => .degraded
    | 9 => .contained
    | _ => .notice

/-- The slot of a bridge or fan that a gate-driver event carries. -/
def slotOfEvent (s : State) (ev : Nat) : Option (Bool × Nat) :=
  let c := ev / 8
  match s.bridgeOf c with
  | some h => ((List.range 10).find? (fun k => brSlotEvent (s.brLead h) (s.brOther h) k == ev)).map (fun k => (false, k))
  | none => match s.fanOf c with
    | some f => ((List.range 5).find? (fun k => brSlotEvent (s.fanLead f) 0 k == ev)).map (fun k => (true, k))
    | none => none

/-- The severity of an occurrence. -/
def severityOf (s : State) (ev value : Nat) : Severity :=
  match (if ev < 192 then s.slotOfEvent ev else none) with
  | some (fan, k) => slotSeverity fan k value
  | none => if ev = 1320 && s.ft.soleCopy then .degraded else eventSeverity ev value

/-- FL_LEVEL and FL_INSTANCE of an occurrence (R17, R472). -/
def faultPlace (ev value : Nat) : Nat × Nat :=
  if ev < 192 then (3, mkSig clsGD (ev / 8))
  else if ev < 288 then (3, mkSig clsSV ((ev - 192) / 12))
  else if ev < 352 then (3, mkSig clsDIN ((ev - 288) / 4))
  else if ev < 384 then (3, mkSig clsDOUT ((ev - 352) / 4))
  else if ev < 432 then (3, mkSig clsAIN ((ev - 384) / 4))
  else if ev < 448 then (3, mkSig clsTACH ((ev - 432) / 4))
  else if ev < 512 then (3, mkSig clsBP ((ev - 448) / 8 * 2 ^ 15))
  else if ev < 528 then (3, mkSig clsMX (256 + (ev - 512) / 8))
  else if ev = 1319 then (3, value)
  else if ev = 1309 ∨ ev = 1311 then (3, 0x1000 + value)
  else if ev = 1317 then (3, 0x2000 + value)
  else if ev = 1312 then (3, 0x3000 + value)
  else if ev = 1314 then (3, 0x4000 + value)
  else if ev = 1303 ∨ ev = 1324 then (4, value)
  else if ev = 1305 then (5, value)
  else if ev = 1325 then (6, 1)
  else if ev = 1293 ∨ ev = 1299 ∨ ev = 1308 ∨ ev = 1322 then (6, 0)
  else (7, 0)

/-- The smallest element isolated at an occurrence (R17). A disagreement (1302) isolates the losing lane's tile, which EV1303 of
the same instant names, T1 of the lane's quadrant where none does; an unpaired lane (1307) has lost its own tile. -/
def placeOf (s : State) (o : Occ) : Nat × Nat :=
  if o.ev = 1302 then
    let won := o.value % 2 ^ 16
    if won = 3 then (6, 0)
    else (4, ((s.fab.inFlight.find? (fun x => x.ev = 1303 && x.ts = o.ts)).map (fun x => x.value)).getD (if won = 1 then 513 else 1))
  else if o.ev = 1307 then (4, 512 * o.value + 1)
  else faultPlace o.ev o.value

/-- FL_OFFSET of an occurrence (R27, R472): where a cluster failed is left open, a configuration copy stands at its offset
(assumption 97). -/
def faultOffset (ev value : Nat) : Nat :=
  if ev = 1312 ∨ ev = 1314 then Config.clusterOffset ev value
  else if ev = 1320 then 0x800000 + 0x100000 * value else 0

/-- The fault-log entry of an occurrence (R472, R473): every named fault, and every severity above notice. -/
def logOccurrence (s : State) (o : Occ) : State :=
  let sev := s.severityOf o.ev o.value
  let id := namedFault o.ev
  if id = 0 && sev = .notice then s
  else
    let p := s.placeOf o
    s.logFault id sev p.1 o.ts o.ev p.2 (faultOffset o.ev o.value) o.value

/-! ## Routes and destinations (R303–R306) -/

/-- The route of an event (R310). -/
def routeOf (s : State) (ev : Nat) : Nat := s.cf (domKey 0x7100 ev)
def routeTimerOp (r : Nat) : Nat := bitsOf r 61 3
def routeTimer (r : Nat) : Nat := bitsOf r 56 5
def routeMin (r : Nat) : Nat := bitsOf r 40 8
def routeChannel (r : Nat) : Nat := bitsOf r 32 3

/-- The 64-bit control word of a committed rule entry (R96). -/
def ruleControl (e : Nat) : Nat := bitsOf e 0 64
def ruleEnabled (e : Nat) : Bool := bitAt e 63
def ruleEvery (e : Nat) : Bool := bitAt e 62
def ruleTrigger (e : Nat) : Nat := bitsOf e 51 11
def ruleClassCode (e : Nat) : Nat := bitsOf e 48 3

/-- A configuration entry that is an enabled rule. -/
def isRule (e : Nat × Nat) : Bool :=
  decide (0x8000 ≤ keyIndex e.1) && decide (keyIndex e.1 < 0x8800) && keySub e.1 = 1 && ruleEnabled e.2

/-- Some enabled rule is triggered by an event (R100, R304). -/
def triggersRule (s : State) (ev : Nat) : Bool :=
  s.cfg.any (fun e => isRule e && !ruleEvery e.2 && ruleTrigger e.2 = ev)

/-- EFFECTIVE of ROUTE_STATE (R310). -/
def effectiveRoute (s : State) (ev : Nat) : Nat :=
  let r := s.routeOf ev
  let bit (b : Bool) (i : Nat) : Nat := if b then 2 ^ i else 0
  bit (s.triggersRule ev) 0 + bit (routeTimerOp r ≠ 0) 1 + bit (bitAt r 0) 2 + bit (bitAt r 1) 3 + bit (bitAt r 2) 4 +
    bit (bitAt r 3) 5

/-- An occurrence in its place in timestamp and event order (R303). -/
def insertOcc (o : Occ) : List Occ → List Occ
  | [] => [o]
  | x :: l => if x.ts < o.ts || (x.ts = o.ts && x.ev ≤ o.ev) then x :: insertOcc o l else o :: x :: l

/-- The oldest occurrence on its way reaches the fabric (R303–R306). -/
def occurrence (s : State) (o : Occ) (rest : List Occ) : State :=
  let s := { s with fab := { s.fab with inFlight := rest
                                        occurrences := s.fab.occurrences.write 0 o.ev
                                          ((s.fab.occurrences.read 0 o.ev + 1) % 2 ^ 32) } }
  let r := s.routeOf o.ev
  let s := s.timerOp (routeTimer r) (routeTimerOp r) 0
  let own := 1392 ≤ o.ev && o.ev ≤ 1455
  let s := if s.triggersRule o.ev && !own && !s.fab.triggers.contains o.ev then
      { s with fab := { s.fab with triggers := s.fab.triggers ++ [o.ev] } } else s
  let half := s.ob Obj.pwrState = pwrHalfMast
  let s := if half then { s with fab := { s.fab with toLog := s.fab.toLog ++ [o] } } else s.logOccurrence o
  let routed := bitsOf r 0 4 ≠ 0
  if !routed then s
  else if half then
    if s.fab.held.length < 256 then { s with fab := { s.fab with held := s.fab.held ++ [o] } }
    else s.bump Obj.heldDrops
  else { s with fab := { s.fab with pend := insertOcc o s.fab.pend } }

/-- A notice is suppressed (R305): within NOTICE_MIN × 10 ms of the last one sent for the event. -/
def noticeSuppressed (s : State) (o : Occ) : Bool :=
  let m := routeMin (s.routeOf o.ev)
  m ≠ 0 && (match s.fab.lastNotice.get? o.ev with
    | some t => !s.passed (t - 1) (ms (10 * m))
    | none => false)

/-- A notice queued for the halyard (R76, R304). -/
def halyardNotice (s : State) (o : Occ) : State :=
  if s.hal.notices.length < 512 then { s with hal := { s.hal with notices := s.hal.notices ++ [o] } }
  else
    let s := s.bump Obj.noticesDropped
    let n := saturate (s.hal.dropsSince + 1) (2 ^ 32 - 1)
    let due := match s.hal.lastEv1467 with
      | some t => s.passed t (sec 1)
      | none => true
    if due then ({ s with hal := { s.hal with dropsSince := 0, lastEv1467 := some s.now } }).post 1467 n
    else { s with hal := { s.hal with dropsSince := n } }

/-- A notice queued for a CAN channel (R304). -/
def canNotice (s : State) (o : Occ) : State :=
  let c := routeChannel (s.routeOf o.ev)
  let q := s.fab.canNotices.read [] c
  if q.length < 64 then { s with fab := { s.fab with canNotices := s.fab.canNotices.put c (q ++ [o]) } }
  else s.bump Obj.canNoticeDrops


/-- An entry of the event log (R304). -/
def logRuntime (s : State) (o : Occ) : State :=
  if !s.coresRun && 1024 ≤ s.fab.awaiting then s.bump Obj.runtimeDrops
  else
    let q := s.ob Obj.logSeq
    let s := { s with fab := { s.fab with log := s.fab.log.put (q % 1024) o
                                          awaiting := if s.coresRun then 0 else s.fab.awaiting + 1 } }
    s.setOb Obj.logSeq ((q + 1) % 2 ^ 32)

/-- A released occurrence delivered to the destinations of its route (R304, R305); `held`: from the held queue (R306, R431). -/
def deliverFrom (held : Bool) (s : State) (o : Occ) : State :=
  let r := s.routeOf o.ev
  let s := if bitAt r 0 then
      s.record { s.newRecord 8 o.ts with
        rflags := (s.newRecord 8 o.ts).rflags + (if held then 8 else 0)
        signal := o.ev, new := o.value, cmdr := 9, cmdrId := o.ev, detail := (s.severityOf o.ev o.value).code }
    else s
  let s := if bitAt r 3 then s.logRuntime o else s
  if !(bitAt r 1 || bitAt r 2) then s
  else if s.noticeSuppressed o then
    { s with fab := { s.fab with suppressed := s.fab.suppressed.write 0 o.ev
                                   (saturate (s.fab.suppressed.read 0 o.ev + 1) 65535) } }
  else
    let s := { s with fab := { s.fab with lastNotice := s.fab.lastNotice.write 0 o.ev (s.now + 1) } }
    let s := if bitAt r 1 then s.halyardNotice o else s
    if bitAt r 2 then s.canNotice o else s

/-- An occurrence delivered at its ordered release. -/
def deliver (s : State) (o : Occ) : State := deliverFrom false s o

/-- EVENT_POST (R307): bits 47–32 must be 0, taken as reserved bits (R10; DEDUCED, assumption 92). -/
def doEventPost (s : State) (v : Nat) : Answer :=
  let ev := bitsOf v 48 16
  check (bitsOf v 32 16 = 0) .reservedBit <| check (1472 ≤ ev && ev ≤ 1535) .valueRange <| .ok (s.post ev (bitsOf v 0 32))

end State

/-! ## Meanings -/

/-- R294, R297. -/
def execTimerCompare (t : Fin 32) (k : Fin 4) (s : State) : Host.Outcome State Fault Refusal :=
  whenever (s.cmpDue t k) s (s.cmpFires t k)

/-- R292. -/
def execTimerOverflow (t : Fin 32) (s : State) : Host.Outcome State Fault Refusal :=
  whenever ((s.tmr t).running && decide (2 ^ 48 ≤ s.tmrRaw t)) s (s.tmrOverflows t)

/-- R295. -/
def execCmpWrite (sess : Nat) (t : Fin 32) (k : Fin 4) (value : BitVec 48) (s : State) :
    Host.Outcome State Fault Refusal :=
  s.request sess .host (writeOf (Obj.tmrCmpk t k) 6 value.toNat)
    (fun _ s => s.doCmpWrite t k value.toNat)

/-- R298. -/
def execTmrStart (sess : Nat) (t : Fin 32) (s : State) : Host.Outcome State Fault Refusal :=
  s.request sess .host (writeOf (Obj.tmrCmd t) 1 1)
    (fun _ s => s.doTmrCmd t 1)

/-- R298. -/
def execTmrStop (sess : Nat) (t : Fin 32) (s : State) : Host.Outcome State Fault Refusal :=
  s.request sess .host (writeOf (Obj.tmrCmd t) 1 2)
    (fun _ s => s.doTmrCmd t 2)

/-- R298. -/
def execTmrReset (sess : Nat) (t : Fin 32) (s : State) : Host.Outcome State Fault Refusal :=
  s.request sess .host (writeOf (Obj.tmrCmd t) 1 3)
    (fun _ s => s.doTmrCmd t 3)

/-- R298. -/
def execTmrResetAndStart (sess : Nat) (t : Fin 32) (s : State) : Host.Outcome State Fault Refusal :=
  s.request sess .host (writeOf (Obj.tmrCmd t) 1 4)
    (fun _ s => s.doTmrCmd t 4)

/-- R299. -/
def execGsArm (sess : Nat) (s : State) : Host.Outcome State Fault Refusal :=
  s.request sess .host (writeOf (Obj.gsArm) 1 1)
    (fun _ s => s.doGsArm)

/-- R299: the tick n0. -/
def execGlobalStart (s : State) : Host.Outcome State Fault Refusal :=
  match s.gsArmed with
  | some g => whenever (decide (g.n0 ≤ s.now)) s (s.gsFire g)
  | none => .next s

/-- R303. -/
def execEventOccurrence (s : State) : Host.Outcome State Fault Refusal :=
  match s.fab.inFlight with
  | o :: rest => .next (s.occurrence o rest)
  | [] => .next s

/-- R303, R304: the oldest pending occurrence, once the timebase has passed its timestamp by 2.5 µs. -/
def execEventRelease (s : State) : Host.Outcome State Fault Refusal :=
  match s.fab.pend with
  | o :: rest => whenever (s.passed o.ts 250) s (({ s with fab := { s.fab with pend := rest } }).deliver o)
  | [] => .next s

/-- R307. -/
def execEventPost (sess : Nat) (value : BitVec 64) (s : State) : Host.Outcome State Fault Refusal :=
  s.request sess .host (writeOf (Obj.eventPost) 8 value.toNat)
    (fun _ s => s.doEventPost value.toNat)

end Sys2Proof.Machine
end

