-- ==== Sys2Proof/Machine/Can.lean ====
section
/-!
DEFINITION. CAN channels (spec/14): message objects, CS maps and watch slots, pending frames, errors, the alone state, and
J1939 claims. Meanings that also move the network-management ring stand in CanBus.
-/

namespace Sys2Proof.Machine
namespace State

/-! ## DOMAIN windows (R56, R57) -/

/-- DOM_STATUS of the DOMAIN at an index. -/
def domStatus (ix : Nat) : Nat := key ix 4

/-- What a DOMAIN's hold is kept under: CJ_BUFFER is one DOMAIN per session (R388). -/
def holdKey (ix h : Nat) : Nat := if ix = 0x3201 then ix + 2 ^ 16 * (h + 1) else ix

/-- A bit of the DOM_STATUS of a DOMAIN, as session `h` has it. -/
def setDomBit (s : State) (ix h i : Nat) (b : Bool) : State :=
  if ix = 0x3201 then s.setSob h (domStatus ix) (setBitTo (s.sob h (domStatus ix)) i b) else s.setBit (domStatus ix) i b

/-- A write by session `h` that breaks the alignment of its DOMAIN (R57): value-range error, ALIGN_ERROR set, no hold. -/
def misaligned (s : State) (ix : Nat) : Answer := (s.setBit (domStatus ix) 1 true).refused .valueRange

/-- The DOMAIN is held for writing by another session (R56). -/
def heldByOther (s : State) (ix h : Nat) : Bool :=
  match s.holds.get? (holdKey ix h) with
  | some x => x.holder ≠ h
  | none => false

/-- An aligned write by session `h` reaches a DOMAIN (R56, R57): it clears ALIGN_ERROR; where another session holds the
domain it is in use; else it takes or renews the hold, and `k` goes on. A write that `k` refuses takes no hold. -/
def domainWrites (s : State) (ix h : Nat) (k : State → Answer) : Answer :=
  let s := s.setDomBit ix h 1 false
  if s.heldByOther ix h then s.refused .inUse
  else match k ({ s with holds := s.holds.put (holdKey ix h) { holder := h, lastWrite := s.now } }.setDomBit ix h 0 true) with
    | .ok t => .ok t
    | .error e => s.refused e

/-- A hold ends (R56). -/
def dropHold (s : State) (key_ : Nat) : State :=
  ({ s with holds := s.holds.erase key_ }).setDomBit (key_ % 2 ^ 16) (key_ / 2 ^ 16 - 1) 0 false

/-! ## Channels, objects and entries -/

def canCh (s : State) (c : Nat) : CanChannel := s.can.read {} c
def setCan (s : State) (c : Nat) (x : CanChannel) : State := { s with can := s.can.write {} c x }
def moOf (s : State) (o : Nat) : MoData := s.mo.read {} o
def setMo (s : State) (o : Nat) (m : MoData) : State := { s with mo := s.mo.write {} o m }

/-- Data bytes of a DLC (R311). -/
def dlcLen (d : Nat) : Nat :=
  if d ≤ 8 then d else match d with
    | 9 => 12
    | 10 => 16
    | 11 => 20
    | 12 => 24
    | 13 => 32
    | 14 => 48
    | _ => 64

/-- Fields of a MO_CFG entry (R333). -/
def moCfg (s : State) (o : Nat) : Nat := s.cf (domKey 0x6100 o)
def moExt (e : Nat) : Bool := bitAt e 31
def moId (e : Nat) : Nat := bitsOf e 0 29
def moChan (e : Nat) : Nat := bitsOf e 32 8
def moDir (e : Nat) : Nat := bitsOf e 40 8
def moFdf (e : Nat) : Bool := bitAt e 48
def moBrs (e : Nat) : Bool := bitAt e 49
def moOnWrite (e : Nat) : Bool := bitAt e 50
def moSa (e : Nat) : Bool := bitAt e 51
def moDlc (e : Nat) : Nat := bitsOf e 56 8
def moTime (e : Nat) : Nat := bitsOf e 64 16
def moPhase (e : Nat) : Nat := bitsOf e 80 16

/-- The committed entries of a cfg DOMAIN that are not zero: entry number and value. -/
def domEntries (s : State) (ix : Nat) : List (Nat × Nat) :=
  (s.cfg.filter (fun e => decide (domKey ix 0 ≤ e.1) && decide (e.1 < domKey (ix + 1) 0))).map
    (fun e => (e.1 - domKey ix 0, e.2))

/-- The RX object that a frame of a channel matches (R316). -/
def rxObject (s : State) (c : Nat) (ext : Bool) (id : Nat) : Option Nat :=
  if s.ft.regionsLost.contains 1 then none
  else ((s.domEntries 0x6100).find? (fun e =>
    moDir e.2 = 1 && moChan e.2 = c && moExt e.2 == ext && moId e.2 = id)).map (fun e => e.1)

/-- Listen-only and FD modes (R314). -/
def canListens (s : State) (c : Nat) : Bool := s.cf (Obj.canMode c) = 3 || s.cf (Obj.canMode c) = 4
def canFd (s : State) (c : Nat) : Bool := s.cf (Obj.canMode c) = 2 || s.cf (Obj.canMode c) = 4

/-- The configuration has been applied and the Fly die runs: no debug halt stops it (R394). -/
def applied (s : State) : Bool := s.boot.stage = .applied && s.secure.haltedAt.isNone

/-- The engine of a channel runs: mode not 0, its domain on, Hoisted or Dipped, the configuration applied (R330, R350). -/
def canRuns (s : State) (c : Nat) : Bool :=
  s.cf (Obj.canMode c) ≠ 0 && s.domainIsOn (3 + c) && decide (s.ob Obj.pwrState ≤ pwrDipped) && s.applied &&
    !s.ft.stopped.contains (8 * (c / 2) + 4)

/-- The channel has joined and takes part in bus traffic (CAN_FLAGS ACTIVE). -/
def canActive (s : State) (c : Nat) : Bool :=
  let x := s.canCh c
  s.canRuns c && x.joinedAt.isSome && x.busOffAt.isNone && !x.exception && x.fault = 0

/-- CAN_STATE and CAN_FLAGS of a channel (R332). -/
def canShow (s : State) (c : Nat) : State :=
  let x := s.canCh c
  let tec := s.ob (Obj.canTec c)
  let rec_ := s.ob (Obj.canRec c)
  let passive := decide (128 ≤ tec) || decide (128 ≤ rec_)
  let st := if !s.canRuns c then 0 else if x.fault ≠ 0 then 7
    else if x.busOffAt.isSome then (if x.recovering then 5 else 4)
    else if x.aloneSince.isSome then 6 else if x.joinedAt.isNone then 1 else if passive then 3 else 2
  let bit (b : Bool) (i : Nat) : Nat := if b then 2 ^ i else 0
  let flags := bit (s.canListens c) 7 + bit (x.fault ≠ 0) 6 + bit (s.bit (Obj.canFlags c) 5) 5 +
    bit x.aloneSince.isSome 4 + bit x.busOffAt.isSome 3 + bit passive 2 +
    bit (decide (96 ≤ tec) || decide (96 ≤ rec_)) 1 + bit (s.canActive c) 0
  (s.setOb (Obj.canState c) st).setOb (Obj.canFlags c) flags

/-- An event of a channel (R331). -/
def canPost (s : State) (c k v : Nat) : State := s.post (528 + 16 * c + k) v

/-- Offset 8, at most once per second per channel (R331). -/
def canLost (s : State) (c o : Nat) : State :=
  let x := s.canCh c
  match x.lastLost with
  | some t => if s.passed t (sec 1) then (s.setCan c { x with lastLost := some s.now }).canPost c 8 o else s
  | none => (s.setCan c { x with lastLost := some s.now }).canPost c 8 o

/-! ## CS maps (R325, R326) -/

/-- The bit positions of a field, least significant first (R325). -/
def csBits (big : Bool) (start len : Nat) : List Nat :=
  if big then
    ((List.range len).foldl (fun (acc : List Nat × Nat) _ =>
      (acc.2 :: acc.1, if acc.2 % 8 = 0 then acc.2 + 15 else acc.2 - 1)) ([], start)).1
  else (List.range len).map (start + ·)

/-- Saturation to a signed 32-bit value. -/
def satI32 (x : Int) : Int := if x < -2147483648 then -2147483648 else if 2147483647 < x then 2147483647 else x

/-- The term value of a CS entry from the data bytes (as a number) and their count; `none` where it stays (R325). -/
def csExtract (e data len : Nat) : Option Int :=
  let n := bitsOf e 32 8
  let at_ := csBits (bitAt e 40) (bitsOf e 16 16) n
  if at_.any (fun i => 8 * len ≤ i) then none
  else
    let raw := (at_.zipIdx.map (fun p => if bitAt data p.1 then 2 ^ p.2 else 0)).sum
    if bitAt e 42 && raw = 2 ^ n - 1 then none
    else
      let v : Int := if bitAt e 41 && decide (2 ^ (n - 1) ≤ raw) then (raw : Int) - (2 ^ n : Nat) else raw
      let mul : Int := if bitsOf e 64 16 = 0 then 1 else signedOf 2 (bitsOf e 64 16)
      some (satI32 (v * mul / ((2 ^ bitsOf e 80 8 : Nat) : Int) + signedOf 4 (bitsOf e 96 32)))

/-- CS entries of an object. -/
def csOf (s : State) (o : Nat) : List (Nat × Nat) :=
  (s.domEntries 0x6102).filter (fun e => bitsOf e.2 32 8 ≠ 0 && bitsOf e.2 0 16 = o)

/-- The CS maps of an updated object (R326). -/
def csUpdate (s : State) (o : Nat) : State :=
  let m := s.moOf o
  forEach (s.csOf o) (fun s e => match csExtract e.2 m.data (dlcLen m.dlc) with
    | some v => { s with csNext := s.csNext.write 0 e.1 v }
    | none => s) s

/-- TIMEOUT_ZERO at a timeout of the object (R326). -/
def csTimeout (s : State) (o : Nat) : State :=
  forEach (s.csOf o) (fun s e => if bitAt e.2 43 then { s with csNext := s.csNext.write 0 e.1 0 } else s) s

/-! ## Watch slots (R324) -/

def watchObject (w : Nat) : Nat := bitsOf w 0 16
def watchMode (w : Nat) : Nat := bitsOf w 16 8
def watchMask (w : Nat) : Nat := bitsOf w 32 64

/-- Watch slots at an update of an object whose data bytes 0–7 were `old`. -/
def watchUpdate (s : State) (o old : Nat) : State :=
  let m := s.moOf o
  let value := m.dlc * 2 ^ 24 + m.data % 2 ^ 24
  forEach (s.domEntries 0x6103) (fun s e =>
    let mode := watchMode e.2
    let mask := watchMask e.2
    let hit := mode = 1 || mode = 4 ||
      (mode = 2 && Nat.land mask (old % 2 ^ 64) ≠ Nat.land mask (m.data % 2 ^ 64))
    if watchObject e.2 = o && hit then s.postAt m.ts (656 + e.1) value else s) s

/-- Watch slots at a timeout, `late` ms after the last update. -/
def watchTimeout (s : State) (o late : Nat) : State :=
  forEach (s.domEntries 0x6103) (fun s e =>
    if watchObject e.2 = o && (watchMode e.2 = 3 || watchMode e.2 = 4) then
      s.post (656 + e.1) (0xFF000000 + saturate late 0xFFFFFF) else s) s

/-! ## Received frames (R316, R318, R322) -/

/-- A frame's data bytes as a number, cut to its DLC. -/
def frameData (f : CanFrame) : Nat :=
  ofBytes ((f.data.map (fun b => b.toNat)).take (dlcLen f.dlc)) % 2 ^ (8 * dlcLen f.dlc)

/-- A frame written to its RX object (R318). -/
def moReceive (s : State) (c o : Nat) (f : CanFrame) : State :=
  let m := s.moOf o
  let lost := bitAt m.state 0
  let bit (b : Bool) (i : Nat) : Nat := if b then 2 ^ i else 0
  let m' := { m with ts := s.now, count := (m.count + 1) % 2 ^ 32, dlc := f.dlc, data := frameData f
                     state := 1 + bit lost 1 + bit (bitAt m.state 3) 3 + bit f.fdf 4 + bit f.brs 5 + bit f.esi 6
                     lost := if lost then saturate (m.lost + 1) 65535 else m.lost
                     updated := some s.now }
  let s := s.setMo o m'
  let s := if lost then s.canLost c o else s
  (s.watchUpdate o m.data).csUpdate o

/-- A stray frame (R316, R322). -/
def strayReceive (s : State) (c : Nat) (f : CanFrame) : State :=
  let s := s.bump (Obj.canStrayCount c)
  if s.cf (Obj.canStrayQueue c) ≠ 1 then s
  else
    let x := s.canCh c
    if x.strays.length < 64 then
      let e : Stray := { ext := f.ext, id := f.id.toNat, dlc := f.dlc, fdf := f.fdf, brs := f.brs, esi := f.esi
                         ts := s.now, data := frameData f % 2 ^ 64 }
      s.setCan c { x with strays := x.strays ++ [e] }
    else
      let first := !s.bit (Obj.canFlags c) 5
      let s := s.setCan c { x with strayDrops := x.strayDrops + 1 }
      let s := s.setBit (Obj.canFlags c) 5 true
      s.postIf first (528 + 16 * c + 7) 1

/-- STRAY_ACK (R322). -/
def doStrayAck (s : State) (c n : Nat) : Answer :=
  let x := s.canCh c
  check (1 ≤ n && n ≤ x.strays.length) .valueRange <|
    .ok ((s.setCan c { x with strays := x.strays.drop n, strayDrops := 0 }).setBit (Obj.canFlags c) 5 false)

/-! ## Pending frames (R320, R323) -/

/-- Rank of an identifier: its 11 most significant bits, then the format, then the rest (R323). -/
def canRank (ext : Bool) (id : Nat) : Nat := if ext then id / 2 ^ 18 * 2 ^ 19 + 2 ^ 18 + id % 2 ^ 18 else id * 2 ^ 19

/-- The identifier a pending frame goes out with: SA_SUBST puts CLAIMED_ADDR in bits 7–0 (R329). -/
def wireId (s : State) (c : Nat) (f : CanPending) : Nat :=
  match f.src with
  | .object o => if moSa (s.moCfg o) then f.id / 256 * 256 + s.ob (Obj.j1939ClaimedAddr c) % 256 else f.id
  | _ => f.id

/-- A pending frame may go: SA_SUBST waits for a claimed address (R329). -/
def mayGo (s : State) (c : Nat) (f : CanPending) : Bool :=
  match f.src with
  | .object o => !moSa (s.moCfg o) || s.ob (Obj.j1939ClaimState c) = 2
  | _ => true

/-- The frame in turn: lowest identifier first, the oldest of equals (R323). -/
def inTurn (s : State) (c : Nat) : Option CanPending :=
  ((s.canCh c).pend.filter (s.mayGo c)).foldl (fun b f => match b with
    | none => some f
    | some g => if canRank f.ext (s.wireId c f) < canRank g.ext (s.wireId c g) then some f else some g) none

/-- The first notice of the channel ranks before its other pending frames (R323); one that waits has NOTICE_CAN_ID. -/
def noticeInTurn (s : State) (c : Nat) : Bool :=
  let id := s.cf (Obj.noticeCanId c)
  !(s.fab.canNotices.read [] c).isEmpty && (match s.inTurn c with
    | none => true
    | some f => canRank (bitAt id 31) (bitsOf id 0 29) < canRank f.ext (s.wireId c f))

/-- A frame becomes pending behind the others. -/
def canEnqueue (s : State) (c : Nat) (f : CanPending) : State :=
  let x := s.canCh c
  s.setCan c { x with pend := x.pend ++ [f] }

/-- No frame of a source is pending any more. -/
def canUnpend (s : State) (c : Nat) (src : CanSource) : State :=
  let x := s.canCh c
  s.setCan c { x with pend := x.pend.filter (fun f => f.src ≠ src) }

/-- PENDING of an object follows its channel's pending frames. -/
def showPending (s : State) (c o : Nat) : State :=
  let m := s.moOf o
  let p := (s.canCh c).pend.any (fun f => f.src = .object o)
  s.setMo o { m with state := setBitTo m.state 3 p }

/-- The enabled release whose frame an object is (R408). -/
def releaseOf (s : State) (o : Nat) : Option Nat :=
  (List.range 16).find? (fun r => s.cf (Obj.relEnable r) = 1 && s.cf (Obj.relMo r) = o)

/-- An enabled implement entry that challenges through an object (R410). -/
def implementOf (s : State) (o : Nat) : Option Nat :=
  (List.range 8).find? (fun i => s.cf (Obj.implEnable i) = 1 && s.cf (Obj.implTxMo i) = o)

/-- The object may become pending: its release, where it has one, is open (R408). -/
def releasePasses (s : State) (o : Nat) : Bool :=
  match s.releaseOf o with
  | some r => s.ob (Obj.relState r) = 1
  | none => true

/-- The data a released object goes out with (R408): with REL_MAC_SLOT set, its last 8 bytes carry the counter and the
first 4 bytes of the MAC. -/
def releasedData (s : State) (o data : Nat) : Nat :=
  match s.releaseOf o with
  | none => data
  | some r =>
    let slot := s.cf (Obj.relMacSlot r)
    if slot = 0xFF then data
    else
      let n := dlcLen (moDlc (s.moCfg o)) - 8
      let body := data % 256 ^ n
      let c := (s.bg.releases.read {} r).counter
      let mac := Config.cmac (s.secure.material.read 0 slot)
        (0x50 :: toBytes 4 (bitsOf (s.moCfg o) 0 32) ++ toBytes 4 c ++ toBytes n body)
      body + 256 ^ n * (c + 2 ^ 32 * (mac.toNat % 2 ^ 32))

/-- The counter rises at each transmission, and is stored every 65,536 of them (R408). -/
def releaseSent (s : State) (o : Nat) : State :=
  match s.releaseOf o with
  | none => s
  | some r =>
    if s.cf (Obj.relMacSlot r) = 0xFF then s
    else
      let x := s.bg.releases.read {} r
      let c := (x.counter + 1) % 2 ^ 32
      let x := { x with counter := c, stored := if x.stored + 65536 ≤ c then c else x.stored }
      { s with bg := { s.bg with releases := s.bg.releases.write {} r x } }

/-- The challenge of an implement entry has gone out: its answer is timed from here (R410). -/
def challengeSent (s : State) (o : Nat) : State :=
  match s.implementOf o with
  | none => s
  | some i =>
    let x := s.bg.implements_.read {} i
    { s with bg := { s.bg with implements_ := s.bg.implements_.write {} i
                                 { x with sentAt := if x.waiting then some s.now else x.sentAt, waiting := false } } }

/-- A TX object becomes pending (R320): the frame that was pending is replaced, with LOST, unless it was already in
arbitration, when the new one waits behind it. -/
def moPending (s : State) (o : Nat) (arbitrating : Bool) : State :=
  if !s.releasePasses o then s else
  let e := s.moCfg o
  let c := moChan e
  let x := s.canCh c
  let mine := x.pend.filter (fun f => f.src = .object o)
  let old := if arbitrating then mine.drop 1 else mine
  let f : CanPending := { src := .object o, ext := moExt e, id := moId e, dlc := moDlc e, fdf := moFdf e, brs := moBrs e
                          data := none, since := s.now }
  let keep := x.pend.filter (fun f => f.src ≠ .object o)
  let first := if arbitrating then mine.take 1 else []
  let s := s.setCan c { x with pend := keep ++ first ++ [f] }
  let s := s.showPending c o
  if old.isEmpty then s
  else
    let m := s.moOf o
    (s.setMo o { m with state := setBitTo m.state 1 true, lost := saturate (m.lost + 1) 65535 }).canLost c o

/-- A TX object's data as it is now goes with the frame in arbitration (R320). -/
def freezeFrame (s : State) (o : Nat) : State :=
  let c := moChan (s.moCfg o)
  let x := s.canCh c
  s.setCan c { x with pend := x.pend.map (fun f =>
    if f.src = .object o && f.data.isNone then { f with data := some (s.moOf o).data } else f) }

/-- A write of MO_DATA by session `h` (R320, R57). -/
def doMoWrite (s : State) (h off : Nat) (data : List Nat) (arbitrating : Bool) : Answer :=
  let o := off / 96
  let e := s.moCfg o
  if !(off % 96 = 32 && decide (o < 8192) && decide (1 ≤ data.length) && decide (data.length ≤ 64) && moDir e = 2) then
    s.misaligned 0x6101
  else if (s.implementOf o).isSome then (s.setBit (domStatus 0x6101) 1 false).refused .writeOfRo
  else s.domainWrites 0x6101 h fun s =>
    let s := if arbitrating then s.freezeFrame o else s
    let m := s.moOf o
    let n := 256 ^ data.length
    let s := s.setMo o { m with data := m.data / n * n + ofBytes data }
    .ok (if moOnWrite e && s.canRuns (moChan e) then s.moPending o arbitrating else s)

/-- The 96 bytes of a message object (R333). -/
def moBytes (s : State) (o : Nat) : List Nat :=
  let m := s.moOf o
  toBytes 16 (s.moCfg o) ++ toBytes 8 m.ts ++ toBytes 4 m.count ++ [m.state, m.dlc] ++ toBytes 2 m.lost ++
    toBytes 64 m.data

/-- A read of MO_DATA (R319): the bytes, and NEW and LOST cleared in every object whose byte 28 was returned. -/
def doMoRead (s : State) (off len : Nat) : State :=
  let n := min len (786432 - off)
  let first := off / 96
  let os := (List.range (n / 96 + 2)).map (first + ·)
  let bytes := ((os.flatMap (fun o => s.moBytes o)).drop (off - 96 * first)).take n
  let seen := os.filter (fun o => decide (off ≤ 96 * o + 28) && decide (96 * o + 28 < off + n))
  let s := forEach seen (fun s o =>
    let m := s.moOf o
    s.setMo o { m with state := setBitTo (setBitTo m.state 0 false) 1 false }) s
  { s with reply := { s.reply with data := bytes } }

/-- A TX object's period (R320): timebase millisecond m with (m − PHASE) mod TIME = 0. -/
def periodDue (s : State) (o : Nat) : Bool :=
  let e := s.moCfg o
  let m := s.now / ms 1
  moDir e = 2 && moTime e ≠ 0 && s.canRuns (moChan e) && (s.moOf o).lastMs ≠ m + 1 &&
    ((m : Int) - (moPhase e : Int)) % (moTime e : Int) = 0

/-- The last update of an RX object, or the channel's joining (R321). -/
def moHeard (s : State) (o : Nat) : Option Tick :=
  match (s.canCh (moChan (s.moCfg o))).joinedAt with
  | none => none
  | some t => some (match (s.moOf o).updated with
    | some u => max t u
    | none => t)

/-- The timeout of an RX object is declared (R321, R324, R326). -/
def moTimesOut (s : State) (o : Nat) (heard : Tick) : State :=
  let m := s.moOf o
  let s := s.setMo o { m with state := setBitTo m.state 2 true }
  (s.watchTimeout o ((s.now - heard) / ms 1)).csTimeout o

/-! ## Errors, the alone state, restart (R314, R327, R328) -/

/-- Every frame pending on a channel is discarded; PENDING clears in its objects. -/
def canDiscard (s : State) (c : Nat) : State :=
  let x := s.canCh c
  let os := x.pend.filterMap (fun f => match f.src with
    | .object o => some o
    | _ => none)
  let s := s.setCan c { x with pend := [], attempt := none }
  let s := { s with fab := { s.fab with canNotices := s.fab.canNotices.erase c } }
  forEach os (fun s o => s.showPending c o) s

/-- The engine leaves its bus and starts again (R314): frames discarded, counters 0, the claim starts afresh. -/
def canRestart (s : State) (c : Nat) : State :=
  let s := s.canDiscard c
  let x := s.canCh c
  let s := s.setCan c { x with joinedAt := none, exception := false, busOffAt := none, recovering := false
                               aloneSince := none, claimAddr := 255, claimSent := none, names := [], contending := none }
  let s := ((s.setOb (Obj.canTec c) 0).setOb (Obj.canRec c) 0).setOb (Obj.canAckRun c) 0
  let s := (s.setOb (Obj.j1939ClaimState c) 0).setOb (Obj.j1939ClaimedAddr c) 255
  s.canShow c

/-- TEC and REC at new values, with what crossing the limits posts (R327). Bus-off is at TEC 256. -/
def canCounters (s : State) (c tec rec_ : Nat) : State :=
  let t0 := s.ob (Obj.canTec c)
  let r0 := s.ob (Obj.canRec c)
  let off := decide (256 ≤ tec)
  let tec := saturate tec 256
  let rec_ := saturate rec_ 255
  let v := tec * 2 ^ 16 + rec_
  let s := (s.setOb (Obj.canTec c) tec).setOb (Obj.canRec c) rec_
  let warned := decide (96 ≤ t0) || decide (96 ≤ r0)
  let passive0 := decide (128 ≤ t0) || decide (128 ≤ r0)
  let passive := decide (128 ≤ tec) || decide (128 ≤ rec_)
  let s := s.postIf ((decide (96 ≤ tec) || decide (96 ≤ rec_)) && !warned) (528 + 16 * c + 4) v
  let s := s.postIf (passive && !passive0) (528 + 16 * c + 2) v
  let s := s.postIf (!passive && passive0) (528 + 16 * c + 3) v
  let s := if off then
      let x := s.canCh c
      let s := s.setCan c { x with busOffAt := some s.now, recovering := false, aloneSince := none, attempt := none }
      (s.setOb (Obj.canAckRun c) 0).canPost c 0 (s.ob (Obj.canLastError c))
    else s
  s.canShow c

/-- The alone state ends at an acknowledged attempt (R328): TX_TIMEOUT goes on from this instant. -/
def aloneEnds (s : State) (c : Nat) : State :=
  let x := s.canCh c
  match x.aloneSince with
  | none => s
  | some t =>
    let s := s.setCan c { x with aloneSince := none, attempt := none
                                 pend := x.pend.map (fun f => { f with since := f.since + (s.now - max t f.since) }) }
    s.canPost c 6 (saturate ((s.now - t) / ms 1) 0xFFFFFFFF)

/-- The frame a transmission attempt of the channel carries: in the alone state the one tried (R328). -/
def onTheBus (s : State) (c : Nat) : Option CanPending :=
  let x := s.canCh c
  if !s.canActive c || s.canListens c then none
  else match x.aloneSince with
    | none => s.inTurn c
    | some _ => match x.attempt with
      | none => none
      | some src => x.pend.find? (fun f => f.src = src)

/-- A pending frame leaves the queue: the first of its kind. -/
def takeFrame (f : CanPending) : List CanPending → List CanPending
  | [] => []
  | g :: l => if g = f then l else g :: takeFrame f l

/-- A frame has been sent on a channel (R320, R327, R328): counted, remembered with the identifier and data it carried. -/
def frameSent (s : State) (c : Nat) (f : CanPending) : State :=
  let data := match f.src, f.data with
    | .object o, d => s.releasedData o (d.getD (s.moOf o).data)
    | _, d => d.getD 0
  let x := s.canCh c
  let s := s.setCan c { x with pend := takeFrame f x.pend
                               sent := some { f with id := s.wireId c f, data := some (data % 2 ^ (8 * dlcLen f.dlc)) } }
  let s := ((s.bump (Obj.canTxFrames c)).setOb (Obj.canAckRun c) 0).aloneEnds c
  let s := match f.src with
    | .object o =>
      let m := s.moOf o
      (((s.setMo o { m with ts := s.now, count := (m.count + 1) % 2 ^ 32 }).showPending c o).releaseSent o).challengeSent o
    | .claim =>
      let x := s.canCh c
      s.setCan c { x with claimSent := some s.now }
    | _ => s
  s.canCounters c (s.ob (Obj.canTec c) - 1) (s.ob (Obj.canRec c))

/-- A transmission ends in error (R327, R328): 1 stuff, 2 form, 3 acknowledgement, 4 bit 1, 5 bit 0, 6 CRC; 0 is lost
arbitration. ISO 11898-1 (PRESUMED, assumption 41): TEC + 8, but not for an acknowledgement error in error passive. -/
def frameFailed (s : State) (c error : Nat) : State :=
  let x := s.canCh c
  let s := s.setCan c { x with attempt := none }
  if error = 0 then s
  else
    let passive := decide (128 ≤ s.ob (Obj.canTec c)) || decide (128 ≤ s.ob (Obj.canRec c))
    let s := (s.bump (Obj.canErrorFrames c)).setOb (Obj.canLastError c) error
    let run := if error = 3 then saturate (s.ob (Obj.canAckRun c) + 1) 65535 else s.ob (Obj.canAckRun c)
    let s := s.setOb (Obj.canAckRun c) run
    let s := if error = 3 && run = 16 && x.aloneSince.isNone then
        (s.setCan c { s.canCh c with aloneSince := some s.now, lastTry := s.now }).canPost c 5 16
      else s
    if error = 3 && passive then s.canShow c
    else s.canCounters c (s.ob (Obj.canTec c) + 8) (s.ob (Obj.canRec c))

/-- Frames pending for longer than TX_TIMEOUT are discarded (R320). -/
def txExpire (s : State) (c : Nat) : State :=
  let x := s.canCh c
  let t := s.cf (Obj.canTxTimeout c)
  let late (f : CanPending) : Bool := t ≠ 0 && x.aloneSince.isNone && s.passed f.since (ms t + 1)
  let gone := x.pend.filter late
  let s := s.setCan c { x with pend := x.pend.filter (fun f => !late f) }
  forEach gone (fun s f =>
    let s := s.canPost c 10 (f.id + (if f.ext then 2 ^ 31 else 0))
    match f.src with
    | .object o => s.showPending c o
    | _ => s) s

/-- CAN_CMD (R327, R328, R332). -/
def doCanCmd (s : State) (c cmd : Nat) : Answer :=
  let x := s.canCh c
  match cmd with
  | 1 => check x.busOffAt.isSome .valueRange <|
      .ok ((s.setCan c { x with recovering := true }).canShow c)
  | 2 => .ok (s.canDiscard c)
  | 3 => check x.aloneSince.isSome .configInvalid <|
      .ok (s.setCan c { x with attempt := (s.inTurn c).map (fun f => f.src), lastTry := s.now })
  | _ => .error .valueRange

/-! ## J1939 address claim (R329) -/

/-- The claim frame for an address: PGN 0xEE00 to all, the NAME in its eight bytes. -/
def claimFrame (s : State) (c a : Nat) : CanPending :=
  { src := .claim, ext := true, id := 0x18EEFF00 + a, dlc := 8, data := some (s.cf (Obj.j1939Name c)), since := s.now }

/-- The unit claims an address. -/
def claimAddress (s : State) (c a : Nat) : State :=
  let s := s.canUnpend c .claim
  let s := s.setCan c { s.canCh c with claimAddr := a, claimSent := none }
  let s := (s.setOb (Obj.j1939ClaimState c) 1).setOb (Obj.j1939ClaimedAddr c) 255
  s.canEnqueue c (s.claimFrame c a)

/-- No address is left: Cannot Claim from SA 254. -/
def cannotClaim (s : State) (c : Nat) : State :=
  let s := s.canUnpend c .claim
  let s := s.setCan c { s.canCh c with claimAddr := 254, claimSent := none }
  let s := (s.setOb (Obj.j1939ClaimState c) 3).setOb (Obj.j1939ClaimedAddr c) 254
  (s.canEnqueue c (s.claimFrame c 254)).canPost c 12 254

/-- The next address of ADDR_FIRST–ADDR_LAST after `a` that no NAME holds. -/
def nextAddress (s : State) (c a : Nat) : Option Nat :=
  let lo := s.cf (Obj.j1939AddrFirst c)
  let n := s.cf (Obj.j1939AddrLast c) + 1 - lo
  let from_ := if lo ≤ a ∧ a < lo + n then a - lo + 1 else 0
  ((List.range n).map (fun i => lo + (from_ + i) % n)).find? (fun b => b ≠ a && ((s.canCh c).names.get? b).isNone)

/-- A claim of another node is handled: the lower NAME keeps the address. -/
def contend (s : State) (c sa name : Nat) : State :=
  let x := s.canCh c
  let s := s.setCan c { x with names := x.names.put sa name, contending := none }
  let st := s.ob (Obj.j1939ClaimState c)
  let own := s.cf (Obj.j1939Name c)
  if !((st = 1 || st = 2) && x.claimAddr = sa) then s
  else if own < name then (s.canUnpend c .claim).canEnqueue c (s.claimFrame c sa)
  else if own = name then s
  else if bitAt own 63 then match s.nextAddress c sa with
    | some a => s.claimAddress c a
    | none => s.cannotClaim c
  else s.cannotClaim c

end State

/-! ## Meanings that stay within the channel -/

/-- R311. -/
def execProtocolException (c : Fin 8) (s : State) : Host.Outcome State Fault Refusal :=
  let m := s.cf (Obj.canMode c)
  if !(s.canActive c && (m = 1 || m = 3)) then .next s
  else if s.cf (Obj.canPxeEnable c) = 1 then
    let s := (s.setCan c { s.canCh c with exception := true }).bump (Obj.canPxeCount c)
    .next ((s.canPost c 9 (s.ob (Obj.canPxeCount c))).canShow c)
  else .next (if m = 1 then (s.bump (Obj.canErrorFrames c)) else s)

/-- R311: 11 recessive bits have been seen. -/
def execProtocolExceptionEnd (c : Fin 8) (s : State) : Host.Outcome State Fault Refusal :=
  whenever (s.canCh c).exception s ((s.setCan c { s.canCh c with exception := false }).canShow c)

/-- R320. -/
def execMoDataWrite (sess : Nat) (offset : BitVec 32) (data : List Byte) (arbitrating : Bool) (s : State) :
    Host.Outcome State Fault Refusal :=
  let d := data.map (fun b => b.toNat)
  s.request sess .host (domainWriteOf 0x6101 offset.toNat d)
    (fun x s => s.doMoWrite x.handle offset.toNat d arbitrating)

/-- R319. -/
def execMoDataRead (sess : Nat) (offset : BitVec 32) (length : BitVec 16) (s : State) :
    Host.Outcome State Fault Refusal :=
  s.request sess .host (domainReadOf 0x6101 offset.toNat length.toNat)
    (fun _ s => check (length.toNat ≤ 1024) .valueRange (.ok (s.doMoRead offset.toNat length.toNat)))

/-- R320. -/
def execTxPeriod (o : Fin 8192) (arbitrating : Bool) (s : State) : Host.Outcome State Fault Refusal :=
  whenever (s.periodDue o) s
    ((s.setMo o { s.moOf o with lastMs := s.now / ms 1 + 1 }).moPending o arbitrating)

/-- R320. -/
def execTxTimeoutExpiry (c : Fin 8) (s : State) : Host.Outcome State Fault Refusal := .next (s.txExpire c)

/-- R321. -/
def execRxObjectTimeout (o : Fin 8192) (s : State) : Host.Outcome State Fault Refusal :=
  let e := s.moCfg o
  match s.moHeard o with
  | none => .next s
  | some t => whenever (State.moDir e = 1 && State.moTime e ≠ 0 && !bitAt (s.moOf o).state 2 &&
      s.passed t (ms (State.moTime e))) s (s.moTimesOut o t)

/-- R322. -/
def execStrayAck (sess : Nat) (c : Fin 8) (n : BitVec 8) (s : State) : Host.Outcome State Fault Refusal :=
  s.request sess .host (writeOf (Obj.canStrayAck c) 1 n.toNat) (fun _ s => s.doStrayAck c n.toNat)

/-- R327: CAN_CMD 0x01. -/
def execRecoverFromBusOff (sess : Nat) (c : Fin 8) (s : State) : Host.Outcome State Fault Refusal :=
  s.request sess .service (writeOf (Obj.canCmd c) 1 1) (fun _ s => s.doCanCmd c 1)

/-- R332: CAN_CMD 0x02. -/
def execDiscardPendingFrames (sess : Nat) (c : Fin 8) (s : State) : Host.Outcome State Fault Refusal :=
  s.request sess .service (writeOf (Obj.canCmd c) 1 2) (fun _ s => s.doCanCmd c 2)

/-- R328: CAN_CMD 0x03. -/
def execOneAttemptNow (sess : Nat) (c : Fin 8) (s : State) : Host.Outcome State Fault Refusal :=
  s.request sess .service (writeOf (Obj.canCmd c) 1 3) (fun _ s => s.doCanCmd c 3)

/-- R328. -/
def execAloneRetry (c : Fin 8) (s : State) : Host.Outcome State Fault Refusal :=
  let x := s.canCh c
  whenever (s.canActive c && x.aloneSince.isSome && s.passed x.lastTry (ms (s.cf (Obj.canAloneRetry c)))) s
    (s.setCan c { x with attempt := (s.inTurn c).map (fun f => f.src), lastTry := s.now })

/-- R304, R323: the first notice of the channel is sent. -/
def execCanNoticeSend (c : Fin 8) (s : State) : Host.Outcome State Fault Refusal :=
  let fd := s.canFd c
  match s.fab.canNotices.read [] c with
  | [] => .next s
  | o :: rest =>
    let id := s.cf (Obj.noticeCanId c)
    let f : CanPending :=
      { src := .notice, ext := bitAt id 31, id := bitsOf id 0 29, dlc := if fd then 10 else 8, fdf := fd
        data := some (if fd then o.ev + 2 ^ 32 * (o.value + 2 ^ 32 * o.ts)
                      else o.ev + 2 ^ 16 * (o.value + 2 ^ 32 * (o.ts / us 1 % 2 ^ 16)))
        since := o.ts }
    whenever (s.canActive c && !s.canListens c && (s.canCh c).aloneSince.isNone && s.noticeInTurn c) s
      (({ s with fab := { s.fab with canNotices := s.fab.canNotices.write [] c rest } }).frameSent c f)

/-- R329: at channel start. -/
def execJ1939Claim (c : Fin 8) (s : State) : Host.Outcome State Fault Refusal :=
  whenever (s.cf (Obj.j1939Enable c) = 1 && s.canActive c && !s.canListens c && s.ob (Obj.j1939ClaimState c) = 0) s
    (s.claimAddress c (s.cf (Obj.j1939PrefAddr c)))

/-- R329: in Dipped the claim waits for the runtime cores, which holder 4's vote wakes. -/
def execJ1939ContendingClaim (c : Fin 8) (sa : BitVec 8) (name : BitVec 64) (s : State) :
    Host.Outcome State Fault Refusal :=
  if !(s.cf (Obj.j1939Enable c) = 1 && s.canActive c) then .next s
  else if s.coresRun then .next (s.contend c sa.toNat name.toNat)
  else .next ((s.setCan c { s.canCh c with contending := some (sa.toNat, name.toNat) }).placeVotes 4 1)

/-- R329. -/
def execJ1939RequestClaimed (c : Fin 8) (s : State) : Host.Outcome State Fault Refusal :=
  let st := s.ob (Obj.j1939ClaimState c)
  whenever (s.cf (Obj.j1939Enable c) = 1 && s.canActive c && (st = 2 || st = 3)) s
    (s.canEnqueue c (s.claimFrame c (s.canCh c).claimAddr))

/-- R329: 250 ms after the claim was sent. -/
def execJ1939ClaimWait (c : Fin 8) (s : State) : Host.Outcome State Fault Refusal :=
  let x := s.canCh c
  match x.claimSent with
  | none => .next s
  | some t => whenever (s.ob (Obj.j1939ClaimState c) = 1 && s.passed t (ms 250)) s
      (((s.setOb (Obj.j1939ClaimState c) 2).setOb (Obj.j1939ClaimedAddr c) x.claimAddr).canPost c 11 x.claimAddr)

end Sys2Proof.Machine
end

