-- ==== Sys2Proof/Machine/Network.lean ====
section
/-!
DEFINITION. The consent ring, sleep and wake of a CAN network (spec/15).
-/

namespace Sys2Proof.Machine
namespace State

/-! ## The ring's nodes and messages (R334–R336) -/

def nmChan (s : State) : Nat := s.cf Obj.nmChannel
def nmOn (s : State) : Bool := s.cf Obj.nmEnable = 1
/-- The ring runs on this channel. -/
def nmOf (s : State) (c : Nat) : Bool := s.nmOn && s.nmChan = c
def nmSelf (s : State) : Nat := s.cf Obj.nmId
def nmNode (s : State) (i : Nat) : NmNode := s.ring.nodes.read {} i
def setNmNode (s : State) (i : Nat) (x : NmNode) : State :=
  { s with ring := { s.ring with nodes := s.ring.nodes.write {} i x } }

/-- Present IDs, in rising order (R336). -/
def presentIds (s : State) : List Nat := (List.range 64).filter (fun i => s.bit Obj.presentMask i)

/-- The successor of an ID among the present ones (R336). -/
def successor (s : State) (i : Nat) : Nat :=
  match s.presentIds.find? (fun j => i < j) with
  | some j => j
  | none => s.presentIds.headD i

/-- The lowest present ID starts each lap (R336). -/
def lapStarter (s : State) : Bool := s.presentIds.headD (s.nmSelf) = s.nmSelf

/-- NM_STAY_SIGNAL's term value is not 0 (R337). -/
def stayFlag (s : State) : Bool := s.cf Obj.nmStaySignal ≠ 0 && s.commandedOf (s.cf Obj.nmStaySignal) ≠ 0

/-- An area is verified and not yet activated, or holder 6 votes (R452). -/
def updateStays (s : State) : Bool :=
  (List.range 3).any (fun a => s.ob (Obj.areaState a) = 3 && !(s.upd.areas.read {} a).activated) ||
    (List.range 19).any (fun d => bitAt (s.votesOf d) 6)

/-- OWN_REASON (R337): 0 while the unit consents. -/
def nmReason (s : State) : Nat :=
  if s.ring.stay then 1
  else if s.stayFlag then 2
  else if !s.passed s.ring.lastWake (sec (s.cf Obj.nmMinAwake)) then 3
  else if s.updateStays then 4
  else 0

/-- A lap is consenting (R338): the latest message of every present ID was sent within the current lap with CONSENT. -/
def lapConsents (s : State) : Bool :=
  s.presentIds.all (fun i => let n := s.nmNode i; n.consent && n.lap = s.ring.lap)

/-- Types of R335. -/
def nmAlive : Nat := 0
def nmRing : Nat := 1
def nmLimp : Nat := 2

/-- Fields of a ring message as a number (R335). -/
def msgDest (d : Nat) : Nat := bitsOf d 0 8
def msgType (d : Nat) : Nat := bitsOf d 8 2
def msgConsent (d : Nat) : Bool := bitAt d 10
def msgAck (d : Nat) : Bool := bitAt d 11
def msgWake (d : Nat) : Bool := bitAt d 12
def msgResume (d : Nat) : Bool := bitAt d 13
def msgReason (d : Nat) : Nat := bitsOf d 16 8
def msgLap (d : Nat) : Nat := bitsOf d 48 8

/-- A ring message of this unit becomes pending on the ring's channel, in place of one that waits (R334, R335). -/
def nmSend (s : State) (type dest : Nat) (ack resume : Bool) : State :=
  let c := s.nmChan
  let r := s.nmReason
  let bit (b : Bool) (i : Nat) : Nat := if b then 2 ^ i else 0
  let w := s.ring.wakeReason
  let d := dest + 256 * (type + bit (r = 0) 2 + bit ack 3 + bit w.isSome 4 + bit resume 5) + 2 ^ 16 * r +
    2 ^ 24 * (w.map (fun x => x.1)).getD 0 + 2 ^ 32 * (w.map (fun x => x.2)).getD 0 + 2 ^ 48 * s.ring.lap
  let s := s.setOb Obj.ownReason r
  (s.canUnpend c .ring).canEnqueue c
    { src := .ring, ext := false, id := s.cf Obj.nmBaseId + s.nmSelf, dlc := 8, data := some d, since := s.now }

/-- An alive message; after a wake by pin or local request it is a remote wake (R344, DEDUCED, assumption 42). -/
def nmAliveMsg (s : State) : State :=
  let remote := s.cf Obj.nmRemoteWake = 1 && !s.ring.hostResume &&
    (match s.ring.wakeReason with
      | some (src, _) => src = 2 || src = 4
      | none => false)
  s.nmSend nmAlive s.nmSelf false remote

/-- The local wake reason (R343): the earliest wake since bus sleep. -/
def keepWakeReason (s : State) (src detail : Nat) : State :=
  if s.ring.wakeReason.isSome then s else { s with ring := { s.ring with wakeReason := some (src, detail) } }

/-- KEEPER_ID and KEEPER_REASON (R340): the keeper that has kept longest, the lowest ID on a tie. -/
def showKeeper (s : State) : State :=
  let best := (List.range 64).foldl (fun (b : Option (Nat × Tick)) i =>
    if s.bit Obj.keeperMask i then match (s.nmNode i).keeperSince, b with
      | some t, some (_, u) => if t < u then some (i, t) else b
      | some t, none => some (i, t)
      | none, _ => b
    else b) none
  match best with
  | some (i, _) => (s.setOb Obj.keeperId i).setOb Obj.keeperReason (s.nmNode i).reason
  | none => (s.setOb Obj.keeperId 0xFF).setOb Obj.keeperReason 0

/-- A keeper identified or cleared, with its ledger record (R340, R416). -/
def keeperRecord (s : State) (i : Nat) (on : Bool) : State :=
  s.record { s.newRecord 6 s.now with
    old := if on then 0 else 1, new := if on then 1 else 0, reason := (s.nmNode i).reason, cmdr := 7
    cmdrId := s.nmSelf, detail := i }

def keeperCleared (s : State) (i : Nat) : State :=
  if !s.bit Obj.keeperMask i then s
  else
    let s := (s.setBit Obj.keeperMask i false).post 1045 i
    let s := s.keeperRecord i false
    (s.setNmNode i { s.nmNode i with keeperSince := none }).showKeeper

/-- What a message of an ID says of it (R336, R338, R340). -/
def nmHeard (s : State) (i d : Nat) : State :=
  let n := s.nmNode i
  let c := msgConsent d
  let s := s.setNmNode i { n with
    last := s.now, lap := msgLap d, consent := c, reason := msgReason d
    withheldSince := if c then none else some (n.withheldSince.getD s.now) }
  let s := (s.setBit Obj.presentMask i true).setBit Obj.consentMask i c
  if c then s.keeperCleared i else s

/-- An ID stops being present (R336). -/
def nmGone (s : State) (i : Nat) : State :=
  let s := s.keeperCleared i
  let s := (s.setBit Obj.presentMask i false).setBit Obj.consentMask i false
  (s.setNmNode i {}).post 1052 i

/-! ## States of the ring (R338, R339) -/

/-- Prepare sleep (R338). -/
def nmPrepare (s : State) (lap : Nat) : State :=
  let s := { s with ring := { s.ring with prepareAt := s.now, turnAt := none } }
  ((s.setOb Obj.nmState 3).canUnpend s.nmChan .ring).post 1041 lap

/-- Sleep cancelled (R338): back to normal, with an alive message. -/
def nmCancel (s : State) (by_ : Nat) : State :=
  ((s.setOb Obj.nmState 2).nmAliveMsg).post 1043 by_

/-- The unit's own consent is looked at again (R337, R338), and the stay flag for a local request (R341). -/
def nmRecheck (s : State) : State :=
  let flag := s.stayFlag
  let was := s.ring.flag
  let s := { s with ring := { s.ring with flag := flag } }
  if !s.nmOn then s
  else if s.ob Obj.nmState = 3 && s.nmReason ≠ 0 then s.nmCancel s.nmSelf
  else if s.ob Obj.nmState = 4 && flag && !was then
    let s := ((s.setOb Obj.nmLastWakeSource 4).setOb Obj.nmLastWakeDetail 1).post 1049 1
    let s := { (s.keepWakeReason 4 1) with ring := { (s.keepWakeReason 4 1).ring with lastWake := s.now } }
    let s := (s.setOb Obj.nmState 1).placeVotes 3 (2 ^ (3 + s.nmChan))
    if s.canActive s.nmChan then s.nmAliveMsg else s
  else s

/-- A wake of the network (R341, R343): recorded and posted; in bus sleep the ring forms again, with holder 3's vote. -/
def nmWake (s : State) (src detail ev value : Nat) : State :=
  let s := ((s.setOb Obj.nmLastWakeSource src).setOb Obj.nmLastWakeDetail detail).post ev value
  if !(s.nmOn && s.ob Obj.nmState = 4) then s
  else
    let s := s.keepWakeReason src detail
    let s := { s with ring := { s.ring with lastWake := s.now, sent := 0 } }
    let s := (s.setOb Obj.nmState 1).placeVotes 3 (2 ^ (3 + s.nmChan))
    if s.canActive s.nmChan then s.nmAliveMsg else s

/-- A wake of causes 6–11 goes into the ring's reason as source 4 with its cause (R357). -/
def nmPowerWake (s : State) (cause : Nat) : State :=
  if s.nmOn && s.ob Obj.nmState = 4 then
    let s := s.keepWakeReason 4 cause
    let s := { s with ring := { s.ring with lastWake := s.now, sent := 0 } }
    (s.setOb Obj.nmState 1).placeVotes 3 (2 ^ (3 + s.nmChan))
  else s

/-- Wake sources listen (R341): in bus sleep, or on the way to Half-mast and below. -/
def wakeArmed (s : State) : Bool :=
  (s.nmOn && s.ob Obj.nmState = 4) || decide (pwrHalfMast ≤ s.ob Obj.pwrState) ||
    (s.ob Obj.pwrTransition = 1 && decide (pwrHalfMast ≤ s.pw.entering))

/-- The unit is in Half-mast or Furled, or entering one (R357, "Available in"). -/
def lowered (s : State) : Bool :=
  decide (pwrHalfMast ≤ s.ob Obj.pwrState) || (s.ob Obj.pwrTransition = 1 && decide (pwrHalfMast ≤ s.pw.entering))

/-- The channel of the ring has joined its bus (R336): the ring starts, holder 3 votes, an alive message is pending. A
host resume taken while leaving a power state merges here (R344 rule 2). -/
def nmJoin (s : State) : State :=
  if s.ob Obj.nmState = 6 then s
  else
    let s := { s with ring := { s.ring with sent := 0, lastMsg := s.now, formed := false } }
    let s := (s.setBit Obj.presentMask s.nmSelf true).setOb Obj.nmState 1
    let s := (s.placeVotes 3 (2 ^ (3 + s.nmChan))).nmAliveMsg
    if s.ring.hostResume then match s.ring.wakeReason with
      | some (src, _) => s.post 1050 (s.cf Obj.nmHostId * 256 + src)
      | none => s
    else s

/-- The ring's channel restarts or leaves its bus (R314, R336). -/
def nmLeave (s : State) : State :=
  let low := s.ob Obj.nmState = 4
  let s := { s with ring := { s.ring with nodes := [], turnAt := none, formed := false, sent := 0 } }
  let s := (((s.setOb Obj.presentMask 0).setOb Obj.consentMask 0).setOb Obj.keeperMask 0).showKeeper
  if low then s else s.setOb Obj.nmState 0

/-- The alone state, bus-off or a transceiver fault of the ring's channel: limp-home (R339). -/
def nmLimpHome (s : State) (c : Nat) : State :=
  let st := s.ob Obj.nmState
  if s.nmOf c && (st = 1 || st = 2) then
    let s := { s with ring := { s.ring with lastLimp := s.now, turnAt := none } }
    (s.setOb Obj.nmState 5).post 1053 (s.ob (Obj.canState c))
  else s

/-- After a change of a channel's state: limp-home where R339 holds. -/
def nmWatch (s : State) (c : Nat) : State :=
  let x := s.canCh c
  if x.aloneSince.isSome || x.busOffAt.isSome || x.fault ≠ 0 then s.nmLimpHome c else s

/-- The ring has formed at the first ring message received or sent (R339). -/
def nmForms (s : State) (type : Nat) : State :=
  if s.ob Obj.nmState = 1 && type = nmRing then
    ({ s with ring := { s.ring with formed := true } }.setOb Obj.nmState 2).post 1040 s.presentIds.length
  else s

/-- The lowest present ID starts a lap where no ring message runs yet (R336, DEDUCED, assumption 43). -/
def nmStartLap (s : State) : State :=
  if s.ob Obj.nmState = 1 && s.lapStarter && s.ring.turnAt.isNone then
    { s with ring := { s.ring with turnAt := some s.now } }
  else s

/-- A transmission of the unit on the ring's channel has been acknowledged (R338, R339, R343). -/
def nmSent (s : State) (c : Nat) (f : CanPending) : State :=
  if !s.nmOf c then s
  else
    let limp := s.ob Obj.nmState = 5
    let s := if limp then (s.setOb Obj.nmState 1).post 1054 0 else s
    if f.src ≠ .ring then (if limp then s.nmAliveMsg else s)
    else
      let d := f.data.getD 0
      let s := { s with ring := { s.ring with
        lastMsg := s.now, sent := s.ring.sent + 1
        wakeReason := if msgWake d then none else s.ring.wakeReason
        hostResume := if msgWake d then false else s.ring.hostResume
        turnAt := if msgType d = nmRing && msgDest d = s.nmSelf then some s.now else none } }
      let s := s.nmHeard s.nmSelf d
      let s := s.nmForms (msgType d)
      let st := s.ob Obj.nmState
      if msgAck d && (st = 2 || st = 5) then s.nmPrepare (msgLap d)
      else if msgType d = nmAlive then s.nmStartLap else s

/-- A host resume meets a local wake (R344). -/
def hostResumes (s : State) : State :=
  match s.ring.wakeReason with
  | none => s
  | some (src, _) =>
    let v := s.cf Obj.nmHostId * 256 + src
    let waits := (s.canCh s.nmChan).pend.any (fun f => f.src = .ring)
    if s.ring.hostResume then s
    else if waits then
      ({ s with ring := { s.ring with hostResume := true } }.nmAliveMsg).post 1050 v
    else if (s.canCh s.nmChan).joinedAt.isNone then { s with ring := { s.ring with hostResume := true } }
    else if s.ring.sent ≠ 0 && !s.passed s.ring.lastMsg (ms (s.cf Obj.nmTMax)) then s.post 1050 v
    else s

/-- A valid ring message of another node (R336, R338, R344). -/
def nmReceive (s : State) (i d : Nat) : State :=
  let st := s.ob Obj.nmState
  if st = 4 then
    if i = s.cf Obj.nmHostId && msgResume d then
      let s := if s.ob Obj.pwrState ≤ pwrDipped then s.wake 5 i else s
      let s := { s with ring := { s.ring with lap := msgLap d, lastWake := s.now, sent := 0 } }
      let s := ((s.setOb Obj.nmLastWakeSource 5).setOb Obj.nmLastWakeDetail i).keepWakeReason 5 i
      let s := (s.setOb Obj.nmState 1).placeVotes 3 (2 ^ (3 + s.nmChan))
      s.nmAliveMsg
    else s
  else
    let new := !s.bit Obj.presentMask i
    let s := s.nmHeard i d
    let s := s.postIf new 1051 i
    let copy := !s.lapStarter || (i = s.cf Obj.nmHostId && msgResume d)
    let s := { s with ring := { s.ring with lastMsg := s.now, lap := if copy then msgLap d else s.ring.lap } }
    let s := s.nmForms (msgType d)
    let s := if i = s.cf Obj.nmHostId && msgResume d then s.hostResumes else s
    let st := s.ob Obj.nmState
    if st = 3 then
      if !msgConsent d && msgType d ≠ nmLimp then s.nmCancel i else s
    else if msgAck d && st = 2 then s.nmPrepare (msgLap d)
    else if msgType d = nmRing && msgDest d = s.nmSelf then
      { s with ring := { s.ring with turnAt := some s.now } }
    else if msgType d = nmAlive then s.nmStartLap
    else s

/-- The unit's own ring message, NM_T_TYP after its turn came (R336, R338). -/
def nmTurn (s : State) : State :=
  let ack := s.nmReason = 0 && s.ob Obj.nmState = 2 && s.lapConsents
  let s := if s.lapStarter && !ack then { s with ring := { s.ring with lap := (s.ring.lap + 1) % 256 } } else s
  ({ s with ring := { s.ring with turnAt := none } }).nmSend nmRing (s.successor s.nmSelf) ack false

/-- A wake frame matches the decoder of a channel (R342). -/
def wufMatches (s : State) (c : Nat) (f : CanFrame) : Bool :=
  let id := s.cf (Obj.swId c)
  let m := s.cf (Obj.swIdMask c) % 2 ^ 29
  let dlc := s.cf (Obj.swDlc c)
  let mask := s.cf (Obj.swDataMask c) % 256 ^ min 8 (dlcLen f.dlc)
  s.cf (Obj.swEnable c) = 1 && !f.rtr && !f.fdf && bitAt id 31 == f.ext && Nat.land f.id.toNat m = Nat.land (id % 2 ^ 29) m &&
    (dlc = 0xFF || dlc = f.dlc.val) && Nat.land (frameData f) mask = Nat.land (s.cf (Obj.swData c)) mask

/-- NM_CMD (R337, R341, R344). -/
def doNmCmd (s : State) (cmd : Nat) : Answer :=
  match cmd with
  | 1 => .ok ({ s with ring := { s.ring with stay := true } }).nmRecheck
  | 2 => .ok { s with ring := { s.ring with stay := false } }
  | 3 => .ok (if s.ob Obj.nmState = 4 then s.nmWake 4 0 1049 0 else s.hostResumes)
  | _ => .error .valueRange

end State

/-! ## Meanings -/

/-- R335, R336, R338. -/
def execNmRingMessage (sender : Fin 64) (dlc : Fin 16) (data : BitVec 64) (s : State) :
    Host.Outcome State Fault Refusal :=
  let d := data.toNat
  let st := s.ob Obj.nmState
  if !(s.nmOn && s.canActive s.nmChan) || st = 0 || st = 6 then .next s
  else if dlc.val ≠ 8 || State.msgType d = 3 || bitsOf d 14 2 ≠ 0 || bitsOf d 56 8 ≠ 0 then .next (s.bump Obj.nmRejects)
  else if sender.val = s.nmSelf then
    .next (((s.setOb Obj.nmState 6).canUnpend s.nmChan .ring).post 1055 s.nmSelf)
  else .next (s.nmReceive sender d)

/-- R336. -/
def execNmRingSend (s : State) : Host.Outcome State Fault Refusal :=
  match s.ring.turnAt with
  | none => .next s
  | some t => whenever (s.nmOn && s.canActive s.nmChan && (s.ob Obj.nmState = 1 || s.ob Obj.nmState = 2) &&
      s.passed t (ms (s.cf Obj.nmTTyp))) s s.nmTurn

/-- R336. -/
def execNmAliveTimeout (s : State) : Host.Outcome State Fault Refusal :=
  whenever (s.nmOn && s.canActive s.nmChan && (s.ob Obj.nmState = 1 || s.ob Obj.nmState = 2) &&
    s.passed s.ring.lastMsg (ms (s.cf Obj.nmTMax))) s s.nmAliveMsg

/-- R336. -/
def execNmPresentTimeout (i : Fin 64) (s : State) : Host.Outcome State Fault Refusal :=
  whenever (s.bit Obj.presentMask i && i.val ≠ s.nmSelf &&
    s.passed (s.nmNode i).last (ms (s.cf Obj.nmTError))) s (s.nmGone i)

/-- R338: bus sleep, unless the unit's own consent has ended. -/
def execNmSleepWaitExpiry (s : State) : Host.Outcome State Fault Refusal :=
  if !(s.ob Obj.nmState = 3 && s.passed s.ring.prepareAt (ms (s.cf Obj.nmTWaitSleep))) then .next s
  else if s.nmReason ≠ 0 then .next (s.nmCancel s.nmSelf)
  else
    let s := ((s.setOb Obj.nmState 4).canUnpend s.nmChan .ring).post 1042 0
    let s := { s with ring := { s.ring with wakeReason := none, hostResume := false, flag := s.stayFlag } }
    .next (s.dropVotes 3 State.allDomains)

/-- R339: a limp-home message is attempted; it carries SLEEP_ACK whenever the unit consents. -/
def execNmLimpHomeMessage (s : State) : Host.Outcome State Fault Refusal :=
  if !(s.nmOn && s.ob Obj.nmState = 5 && s.passed s.ring.lastLimp (ms (s.cf Obj.nmTError))) then .next s
  else
    let ack := s.nmReason = 0
    let s := { s with ring := { s.ring with lastLimp := s.now, lap := (s.ring.lap + 1) % 256 } }
    let s := s.nmSend State.nmLimp s.nmSelf ack false
    let x := s.canCh s.nmChan
    let s := if x.aloneSince.isSome then s.setCan s.nmChan { x with attempt := some .ring } else s
    .next (if ack then
      let s := { s with ring := { s.ring with prepareAt := s.now } }
      (s.setOb Obj.nmState 3).post 1041 s.ring.lap
    else s)

/-- R340. -/
def execNmKeeper (i : Fin 64) (s : State) : Host.Outcome State Fault Refusal :=
  let n := s.nmNode i
  match n.withheldSince with
  | none => .next s
  | some t => whenever (s.bit Obj.presentMask i && !s.bit Obj.keeperMask i && s.passed t (sec (s.cf Obj.nmKeeperTime))) s
      (let s := (s.setBit Obj.keeperMask i true).post 1044 (i.val * 256 + n.reason)
       ((s.setNmNode i { n with keeperSince := some s.now }).keeperRecord i true).showKeeper)

/-- R341, R342. -/
def execSelectiveWakeFrame (c : Fin 4) (f : CanFrame) (s : State) : Host.Outcome State Fault Refusal :=
  if !(s.wakeArmed && s.wufMatches c f) then .next s
  else
    let low := s.lowered && s.ob Obj.pwrState ≠ pwrFurled
    .next ((if low then s.wake 1 c else s).nmWake 1 c 1046 c)

/-- R341. -/
def execWakePinEdge (n : Fin 4) (rising : Bool) (s : State) : Host.Outcome State Fault Refusal :=
  let e := s.cf (Obj.wakeEdge n)
  if !(s.wakeArmed && (e = 3 || (e = 1 && rising) || (e = 2 && !rising))) then .next s
  else
    let low := s.lowered
    .next ((if low then s.wake 2 n else s).nmWake 2 n 1047 n)

/-- R341, R342: a wake-up pattern, or the decoder's frame-error counter past 31. -/
def execBusActivityWake (c : Fin 4) (frameErrors : Bool) (s : State) : Host.Outcome State Fault Refusal :=
  let ok := if frameErrors then s.cf (Obj.swEnable c) = 1 else s.cf (Obj.swEnable c) ≠ 1 && s.cf (Obj.swWup c) = 1
  let d := (if frameErrors then 0x8000 else 0) + c.val
  if !(s.wakeArmed && ok) then .next s
  else
    let low := s.lowered && s.ob Obj.pwrState ≠ pwrFurled
    .next ((if low then s.wake 3 d else s).nmWake 3 d 1048 d)

/-- R337. -/
def execNmHoldStay (sess : Nat) (s : State) : Host.Outcome State Fault Refusal :=
  s.request sess .host (writeOf Obj.nmCmd 1 1) (fun _ s => s.doNmCmd 1)

/-- R337. -/
def execNmReleaseStay (sess : Nat) (s : State) : Host.Outcome State Fault Refusal :=
  s.request sess .host (writeOf Obj.nmCmd 1 2) (fun _ s => s.doNmCmd 2)

/-- R341, R344. -/
def execNmResume (sess : Nat) (s : State) : Host.Outcome State Fault Refusal :=
  s.request sess .host (writeOf Obj.nmCmd 1 3) (fun _ s => s.doNmCmd 3)

end Sys2Proof.Machine
end

