-- ==== Sys2Proof/Machine/CanBus.lean ====
section
/-!
DEFINITION. Channel commands that also move the network-management ring (spec/14, R336, R339).
-/

namespace Sys2Proof.Machine
namespace State

/-- The engine of a channel restarts (R314); the ring on it starts afresh. -/
def channelRestart (s : State) (c : Nat) : State :=
  let s := s.canRestart c
  if s.nmOf c then s.nmLeave else s

/-- A channel joins its bus (R314, R321, R336). -/
def channelJoin (s : State) (c : Nat) : State :=
  let s := (s.setCan c { s.canCh c with joinedAt := some s.now }).canShow c
  let s := s.canPost c 14 0
  if s.nmOf c then s.nmJoin else s

/-- The TEC and REC of a frame received without error: REC falls by 1, from above 127 to 127 (ISO 11898-1, PRESUMED,
assumption 41). -/
def receivedWell (s : State) (c : Nat) : State :=
  let r := s.ob (Obj.canRec c)
  s.canCounters c (s.ob (Obj.canTec c)) (if 127 < r then 127 else r - 1)

/-- A frame that ends in error at a receiver: REC + 1 (ISO 11898-1, PRESUMED, assumption 41). -/
def receivedBadly (s : State) (c error : Nat) : State :=
  let s := (s.bump (Obj.canErrorFrames c)).setOb (Obj.canLastError c) error
  s.canCounters c (s.ob (Obj.canTec c)) (s.ob (Obj.canRec c) + 1)

end State

/-! ## Meanings -/

/-- R320, R323, R327, R328: the frame on the bus has been acknowledged. -/
def execCanTransmissionDone (c : Fin 8) (s : State) : Host.Outcome State Fault Refusal :=
  match s.onTheBus c with
  | none => .next s
  | some f =>
    let data := match f.src, f.data with
      | .object o, none => (s.moOf o).data
      | _, d => d.getD 0
    let s := s.frameSent c f
    let s := match f.src with
      | .map m => (s.bump (Obj.piFrameCount m)).setBit (Obj.piStatus m) 7 true
      | _ => s
    .next (s.nmSent c { f with data := some data })

/-- R327, R328. -/
def execCanTxError (c : Fin 8) (error : Fin 7) (s : State) : Host.Outcome State Fault Refusal :=
  match s.onTheBus c with
  | none => .next s
  | some _ => .next ((s.frameFailed c error).nmWatch c)

/-- R314. -/
def execCanBusJoin (c : Fin 8) (s : State) : Host.Outcome State Fault Refusal :=
  whenever (s.canRuns c && (s.canCh c).joinedAt.isNone) s (s.channelJoin c)

/-- R327: the 128 occurrences have passed, after BUSOFF_DELAY or the command. -/
def execBusOffRecovery (c : Fin 8) (s : State) : Host.Outcome State Fault Refusal :=
  let x := s.canCh c
  match x.busOffAt with
  | none => .next s
  | some t =>
    whenever (s.canRuns c && (x.recovering ||
        (s.cf (Obj.canBusoffMode c) = 0 && s.passed t (ms (s.cf (Obj.canBusoffDelay c)))))) s
      (let s := s.setCan c { x with busOffAt := none, recovering := false, joinedAt := some s.now }
       let s := (s.setOb (Obj.canTec c) 0).setOb (Obj.canRec c) 0
       (s.canPost c 1 0).canShow c)

/-- R313: 1 TXD dominant, 2 bus dominant, 3 overtemperature; 1 and 3 are the integrated transceivers'. -/
def execTransceiverFault (c : Fin 8) (cause : Fin 4) (s : State) : Host.Outcome State Fault Refusal :=
  whenever (s.canRuns c && cause.val ≠ 0 && (decide (c.val < 4) || cause.val = 2) && (s.canCh c).fault = 0) s
    (let s := (s.setCan c { s.canCh c with fault := cause }).canShow c
     (s.canPost c 13 cause).nmWatch c)

/-- R313: 11 recessive bits seen, and for cause 3 the transceiver (°C) below 150. -/
def execTransceiverFaultCleared (c : Fin 8) (temp : Int) (s : State) : Host.Outcome State Fault Refusal :=
  let x := s.canCh c
  whenever (x.fault ≠ 0 && (x.fault ≠ 3 || decide (temp < 150))) s ((s.setCan c { x with fault := 0 }).canShow c)

end Sys2Proof.Machine
end

