-- ==== Sys2Proof/Machine/Reflex.lean ====
section
/-!
DEFINITION. The reflex engine and who commands an output (spec/04): host commands, the owner query, the heartbeat
supervisor, rules and their sweep.
-/

namespace Sys2Proof.Machine
namespace State

/-! ## Values a host may write (R138, R141, R161, R173, R183, R184, R211, R260, R273, R494) -/

/-- The hold limit of a solenoid channel, single or paired, mA (R183). -/
def svHoldMax (s : State) (c : Nat) : Nat := if s.svPaired c then 5000 else 2500

/-- A value in the width and range that the signal's chapter gives. -/
def valueFits (s : State) (sig v : Nat) : Bool :=
  let i := sigInst sig
  match sigClass sig with
  | 0x01 => match s.bridgeOfLead i with
    | some h => brCodeOk (s.cf (Obj.brFunction h)) v
    | none => match s.fanOfLead i with
      | some f => decide (v ≤ (if s.cf (Obj.fanControl f) = 1 then s.cf (Obj.fanMaxSpeed f) else 10000))
      | none => decide (v ≤ 10000)
  | 0x02 => decide (v ≤ s.svHoldMax i) && (s.cf (Obj.svMode i) = 2 || decide (v ≤ s.cf (Obj.svPeakCurrent i)))
  | c => decide (v ≤ classMax c)

/-- A bound channel: a member of a pair, bridge or fan that its lead commands (R141, R183). -/
def isBound (s : State) (sig : Nat) : Bool :=
  (sigClass sig = clsGD && s.gdBound (sigInst sig)) || (sigClass sig = clsSV && s.svBound (sigInst sig))

/-- A host claim that R84 accepts. -/
def claimable (s : State) (sig v : Nat) : Bool :=
  sigOwned sig && !s.disabled sig && !s.isBound sig && s.valueFits sig v

/-! ## Host commands (R84, R85) -/

/-- A host change that waits for the end of the next segment (R84). -/
def pushOp (s : State) (o : HostOp) : State := { s with own := { s.own with hostOps := s.own.hostOps ++ [o] } }

/-- HOST_COMMAND (R84). -/
def doHostCommand (s : State) (x : Session) (v : Nat) : Answer :=
  let op := bitsOf v 56 8
  let sig := bitsOf v 32 24
  let val := bitsOf v 0 16
  check (op ≠ 4 || decide (Role.service.rank ≤ x.role.rank)) .roleTooLow <|
  check (bitsOf v 16 16 = 0) .reservedBit <|
  check (decide (1 ≤ op) && decide (op ≤ 4) && (op = 3 || sigOwned sig) && (op ≠ 1 || s.claimable sig val)) .valueRange <|
    .ok (s.pushOp (match op with
      | 1 => .claim sig val x.handle
      | 2 => .release sig x.handle
      | 3 => .releaseAll x.handle
      | _ => .emptyRules sig x.handle))

/-- QUERY_SIGNAL (R85). -/
def doQuerySignal (s : State) (h v : Nat) : Answer :=
  check (sigOwned v) .valueRange <| .ok (s.setSob h Obj.querySignal v)

/-- A member of a session's owner query, by subindex (R85): the signal as it stood at the end of the last completed
sweep. -/
def ownerQueryValue (s : State) (h sub : Nat) : Nat :=
  let sig := s.sob h Obj.querySignal
  let s := { s with own := { s.own with slots := s.own.snapSlots, safe := s.own.snapSafe,
                                        commanded := s.own.snapCommanded } }
  let t := s.slotsOf sig
  let bit (b : Bool) (i : Nat) : Nat := if b then 2 ^ i else 0
  match sub with
  | 1 => sig
  | 2 => if sig = 0 then 7 else s.ownerCode sig
  | 3 => s.commandedOf sig
  | 4 => if sig = 0 then 0xFFFF else match s.ownerOf sig with
    | some (_, c) => c.holder
    | none => 0xFFFF
  | _ => if sig = 0 then 0 else
    bit t.s.isSome 4 + bit (s.safeClaim sig).isSome 3 + bit t.h.isSome 2 + bit t.a.isSome 1 + bit t.c.isSome 0

/-! ## Resolution of changed slots (R80, R101 step 5) -/

/-- Numbers in ascending order, once each. -/
def sortedNats (l : List Nat) : List Nat :=
  ((l.foldl (fun (t : Table Unit) k => t.put k ()) []) : Table Unit).map (fun e => e.1)

/-- Signals whose slots differ between two tables. -/
def changedSlots (old new : Table Slots) : List Nat :=
  sortedNats (((new.filter (fun e => old.get? e.1 ≠ some e.2)).map (fun e => e.1)) ++
    ((old.filter (fun e => (new.get? e.1).isNone)).map (fun e => e.1)))

/-- Every output that may show another value when a SAFE placement comes or goes: those with a claim or a value, and those
that an entry turns on. -/
def safeTouched (s : State) (p : SafePlacement) : List Nat :=
  sortedNats (s.own.slots.map (fun e => e.1) ++ s.own.commanded.map (fun e => e.1) ++
    (p.entries.filter (fun e => e.mode = 1 || e.mode = 3)).flatMap (fun e => rangeMembers (e.first, e.last)))

/-- Ownership resolved for the outputs of a list (R80). -/
def resolveAll (s : State) (l : List Nat) : State := forEach l resolve s

/-! ## Safe states (R88, R89, R108) -/

/-- Outputs a SAFE placement covers: every owned output but the virtual flags. -/
def safeCovered : Nat := 24 + 8 + 8 + 2 ^ 18 + 130

/-- The ledger's record of a placement or release (R416 kind 3). -/
def safeRecord (s : State) (old new reason : Nat) : State :=
  s.record { s.newRecord 3 s.now with
    cls := 1, old := old, new := new, cmdr := 4, reason := reason, detail := safeCovered }

/-- Every H slot emptied (R84, R88): H fades end and H engines are freed (R289). -/
def emptyHost (s : State) : State :=
  let t : Table Slots := (s.own.slots.map (fun (e : Nat × Slots) => (e.1, { e.2 with h := none }))).filter
    (fun (e : Nat × Slots) => e.2 ≠ ({} : Slots))
  let s := { s with own := { s.own with slots := t } }
  let es := (s.light.engines.filter (fun e => e.2.cls = .h)).map (fun e => e.1)
  let gs := (s.light.fades.filter (fun f => f.cls = .h)).map (fun f => f.group)
  let s := forEach gs (fun s g => s.endFade g 2) (forEach es freeEngine s)
  { s with light := { s.light with levels := s.light.levels.filter (fun (e : Nat × Nat) => e.1 % 8 ≠ 2) } }

/-- The used entries of the safe-state table (R89). -/
def safeEntries (s : State) : List SafeEntry :=
  ((List.range 128).filter (fun k => s.cf (Obj.ssFirst k) ≠ 0)).map fun k =>
    { k := k, first := s.cf (Obj.ssFirst k), last := s.cf (Obj.ssLast k), mode := s.cf (Obj.ssMode k)
      value := s.cf (Obj.ssValue k) }

/-- Step 2 of R88: SAFE claims placed; `held` are the values commanded before step 1. -/
def placeSafe (s : State) (held : Table Nat) : State :=
  let es := s.safeEntries
  let hold := es.filter (fun e => e.mode = 2)
  let keep := held.filter (fun c => hold.any (fun e => decide (e.first ≤ c.1) && decide (c.1 ≤ e.last)))
  ({ s with own := { s.own with safe := some { entries := es, held := keep } } }).setOb Obj.safeActive 1

/-- Step 1 of R88 alone: H slots emptied and what they owned resolved. -/
def hostSilent (s : State) : State :=
  let old := s.own.slots
  let s := s.emptyHost
  s.resolveAll (changedSlots old s.own.slots)

/-- Both steps of R88, with the record of R108; `held` are the values that mode hold takes, `more` the signals to resolve
beside those touched, `old` and `new` HB_STATE before and after. -/
def safePlacedOver (s : State) (held : Table Nat) (more : List Nat) (old new : Nat) : State :=
  let was : Table Slots := s.own.slots
  let s := (s.emptyHost).placeSafe held
  let s := match s.own.safe with
    | some p => s.resolveAll (sortedNats (s.safeTouched p ++ was.map (fun (e : Nat × Slots) => e.1) ++ more))
    | none => s
  s.safeRecord old new (if new = hbLost then 1 else 2)

/-- Both steps of R88 at a sweep boundary: mode hold takes the value commanded before. -/
def safePlaced (s : State) (old new : Nat) : State := s.safePlacedOver s.own.commanded [] old new

/-- The SAFE slots emptied (R87), with EV1298 and the record of R108. -/
def safeEmptied (s : State) : State :=
  match s.own.safe with
  | none => s
  | some p =>
    let l := s.safeTouched p
    let s := (({ s with own := { s.own with safe := none } }).setOb Obj.safeActive 0).resolveAll l
    (s.post 1298 0).safeRecord hbResumed hbAlive 3

/-- A queued SAFE_RELEASE does not outlive the state it was accepted in (R87, R88). -/
def dropRelease (s : State) : State :=
  { s with own := { s.own with hostOps := s.own.hostOps.filter (fun o => o ≠ .safeRelease) } }

/-- The supervisor enters waiting; both steps of R88 follow at the next sweep boundary. -/
def supervisorWaits (s : State) : State :=
  let old := s.ob Obj.hbState
  ({ s.dropRelease with hb := { s.hb with waiting := some (.both old hbWaiting) } }).setOb Obj.hbState hbWaiting

/-- What waited for the sweep boundary at the supervisor (R88). -/
def safeBoundary (s : State) : State :=
  match s.hb.waiting with
  | none => s
  | some w =>
    let s := { s with hb := { s.hb with waiting := none } }
    match w with
    | .hostOnly => s.hostSilent
    | .both old new => s.safePlaced old new

/-! ## The heartbeat (R86, R87, R91) -/

/-- Sweeps run (R107, R364, R459). -/
def sweepsRun (s : State) : Bool := s.boot.sweeps && s.ob Obj.engineState = 1

/-- HB_COUNTER (R86, R87). -/
def doHeartbeat (s : State) (v : Nat) : Answer :=
  if s.hb.accepted = some v then .ok s
  else
    let s := { s with hb := { s.hb with accepted := some v, lastValid := s.now } }
    let st := s.ob Obj.hbState
    if st = hbWaiting then .ok (s.setOb Obj.hbState hbResumed)
    else if st = hbLost then
      .ok ((s.setOb Obj.hbState hbResumed).post 1297
        (saturate ((s.now - s.ob Obj.hbLastLoss) / ms 1) 0xFFFFFFFF))
    else .ok s

/-- HB_TIMEOUT has passed without a valid heartbeat (R87, R91). -/
def heartbeatDue (s : State) : Bool :=
  (s.ob Obj.hbState = hbResumed || s.ob Obj.hbState = hbAlive) && decide (s.ob Obj.pwrState ≤ pwrDipped) &&
    s.passed s.hb.lastValid (ms (s.cf Obj.hbTimeout)) && decide (s.hb.notBefore ≤ s.now)

/-- The supervisor enters lost (R87): the steps of R88 follow at the next sweep boundary, at once where no sweep runs. -/
def heartbeatLost (s : State) : State :=
  let alive := s.ob Obj.hbState = hbAlive
  let s := (s.dropRelease.setOb Obj.hbState hbLost).bump Obj.hbLossCount
  let s := (s.setOb Obj.hbLastLoss (s.now % 2 ^ 64)).post 1296 (s.cf Obj.hbTimeout)
  let s := { s with hb := { s.hb with waiting := some (if alive then .both hbAlive hbLost else .hostOnly) } }
  if s.sweepsRun then s else s.safeBoundary

/-- SAFE_RELEASE (R87). -/
def doSafeRelease (s : State) (v : Nat) : Answer :=
  let st := s.ob Obj.hbState
  check (v = 0xA5) .valueRange <|
  check (st = hbResumed || st = hbAlive) .configInvalid <|
    if st = hbAlive then .ok s else .ok ((s.setOb Obj.hbState hbAlive).pushOp .safeRelease)

/-! ## Host changes at the end of a segment (R84, R289) -/

def hostOp (s : State) (o : HostOp) : State :=
  match o with
  | .claim sig v h => s.setSlot sig .h (some { value := v, holder := 0xFFFE, session := h })
  | .release sig _ => s.setSlot sig .h none
  | .releaseAll _ => s.emptyHost
  | .emptyRules sig _ => (s.setSlot sig .a none).setSlot sig .c none
  | .groupFade g level time h => s.startFade g .h 0xFFFE h level time
  | .groupPattern g e b h => s.startPattern e g .h 0xFFFE h b
  | .groupRelease g _ => s.releaseGroup g .h
  | .safeRelease => s.safeEmptied

/-- Every host change that waits, in order of arrival. -/
def hostChanges (s : State) : State :=
  let l := s.own.hostOps
  forEach l hostOp { s with own := { s.own with hostOps := [] } }

/-! ## Values of RX maps at a sweep boundary (R59, R61) -/

/-- Entry j of a map (R58): KIND, TARGET and BITS. -/
def piKind (e : Nat) : Nat := bitsOf e 56 8
def piTarget (e : Nat) : Nat := bitsOf e 32 24
def piBits (e : Nat) : Nat := bitsOf e 0 16

/-- The entries of a map that count. -/
def piEntries (s : State) (m : Nat) : List Nat :=
  (List.range (s.cf (Obj.piEntryCount m))).map (fun j => s.cf (Obj.piEntry m j))

/-- The entries of a map with the bit each starts at. -/
def piPlaces (s : State) (m : Nat) : List (Nat × Nat) :=
  ((s.piEntries m).foldl (fun (a : List (Nat × Nat) × Nat) e => (a.1 ++ [(e, a.2)], a.2 + piBits e)) ([], 0)).1

/-- One entry of a valid RX frame: an object, which can only be HB_COUNTER (the one mappable object that is written), or a
host command of class H as an acyclic write makes it. -/
def piApply (m data : Nat) (s : State) (e : Nat × Nat) : State :=
  let v := bitsOf data e.2 (piBits e.1)
  match piKind e.1 with
  | 1 => if piTarget e.1 = Obj.hbCounter then (match s.doHeartbeat v with
      | .ok t => t
      | .error _ => s) else s
  | 3 => if s.claimable (piTarget e.1) v then s.pushOp (.claim (piTarget e.1) v (0x10000 + m)) else s
  | _ => s

/-- Valid frames that wait for the boundary (R61). -/
def rxBoundary (s : State) : State :=
  forRange 64 (fun s m =>
    let x := s.maps.read {} m
    match x.waiting with
    | none => s
    | some data =>
      forEach (s.piPlaces m) (piApply m data) { s with maps := s.maps.write {} m { x with waiting := none } }) s

/-! ## Terms of a rule (R98, R99) -/

/-- Term value of a measurement signal (R132, R242, R245). -/
def msTerm (s : State) (m : Nat) : Int :=
  match m with
  | 128 => s.sumI
  | 129 => s.share
  | 130 => s.sumS
  | 131 => s.cf Obj.slewShare
  | 132 => s.sumP
  | 133 => s.cf Obj.dissBudget
  | 134 => s.arb.queue.length
  | 135 => s.borrowedSum
  | 136 => s.arb.lent
  | 137 => if s.arb.sagA then 2 else if s.arb.sagC then 1 else 0
  | 138 => (s.share : Int) - s.sumI
  | _ => s.msv m

/-- The term value of a signal (R98, R207, R293, R325). -/
def termValue (s : State) (sig : Nat) : Int :=
  let i := sigInst sig
  if sigOwned sig then s.commandedOf sig
  else match sigClass sig with
  | 0x03 => s.ob (Obj.dinState i)
  | 0x05 => signedOf 4 (s.ob (Obj.ainValue i))
  | 0x06 => s.tachFreqNow i
  | 0x0A => s.tmrCountNow i / 100000
  | 0x0C => s.cs.read 0 i
  | 0x0D => s.msTerm i
  | _ => 0

/-- Term j of a rule entry and its fields (R95, R98). -/
def ruleTerm (e j : Nat) : Nat := bitsOf e (64 + 48 * j) 48
def termSig (t : Nat) : Nat := bitsOf t 24 24
def termOp (t : Nat) : Nat := bitsOf t 21 3
def termKind (t : Nat) : Nat := bitsOf t 19 2
def operandSig (t : Nat) : Nat := mkSig (bitsOf t 15 4) (bitsOf t 0 15)
def signed19 (x : Nat) : Int := if x < 2 ^ 18 then (x : Int) else (x : Int) - 2 ^ 19

/-- The operand a term compares with. -/
def operand (s : State) (t : Nat) : Int :=
  match termKind t with
  | 2 => s.termValue (operandSig t)
  | 1 => 4096 * signed19 (bitsOf t 0 19)
  | _ => signed19 (bitsOf t 0 19)

/-- A comparison of R98; `prev` is the value at the previous evaluation of the rule. -/
def compareTerm (op : Nat) (v o : Int) (prev : Option Int) : Bool :=
  match op with
  | 0 => v = o
  | 1 => v ≠ o
  | 2 => decide (v < o)
  | 3 => decide (v ≤ o)
  | 4 => decide (o < v)
  | 5 => decide (o ≤ v)
  | 6 => Nat.land (wordOf 4 v) (wordOf 4 o) = wordOf 4 o
  | _ => match prev with
    | some p => v ≠ p
    | none => false

/-- The terms of a rule joined (R99): each term is `none` while unused. -/
def combine (mode : Nat) (t : List (Option Bool)) : Bool :=
  let x (i : Nat) : Option Bool := (t[i]?).getD none
  let and2 (a b : Option Bool) : Option Bool :=
    if a.isNone && b.isNone then none else some (a.getD true && b.getD true)
  let or2 (a b : Option Bool) : Option Bool :=
    if a.isNone && b.isNone then none else some (a.getD false || b.getD false)
  let n := (t.filter (fun y => y = some true)).length
  if t.all (fun y => y.isNone) then true
  else match mode with
  | 0 => t.all (fun y => y.getD true)
  | 1 => t.any (fun y => y.getD false)
  | 2 => (or2 (and2 (x 0) (x 1)) (and2 (x 2) (x 3))).getD true
  | 3 => (and2 (or2 (x 0) (x 1)) (or2 (x 2) (x 3))).getD true
  | 4 => decide (2 ≤ n)
  | _ => n = 1

/-- A rule's condition on the signal image, and its term values (R98, R99). -/
def evaluate (s : State) (n e : Nat) : Bool × List (Option Int) :=
  let prev := (s.eng.previous.get? n).getD []
  let vals := (List.range 4).map fun j =>
    let t := ruleTerm e j
    if termSig t = 0 then none else some (s.termValue (termSig t))
  let terms := (List.range 4).map fun j =>
    let t := ruleTerm e j
    match (vals[j]?).getD none with
    | none => none
    | some v => some (compareTerm (termOp t) v (s.operand t) ((prev[j]?).getD none))
  (combine (bitsOf (ruleControl e) 45 3) terms, vals)

/-! ## Actions of a rule (R96, R97, R102, R108) -/

/-- Fields of the control word (R96, R97). -/
def ruleCls (e : Nat) : Cls := match ruleClassCode e with
  | 0 => .s
  | 3 => .a
  | _ => .c
def ruleLedger (e : Nat) : Bool := bitAt e 44
def ruleLatch (e : Nat) : Bool := bitAt e 43
def ruleAction (e : Nat) : Nat := bitsOf e 40 3
def argTarget (e : Nat) : Nat := bitsOf e 16 24
def argGroup (e : Nat) : Nat := bitsOf e 32 8
def argHigh (e : Nat) : Nat := bitsOf e 16 16
def argLow (e : Nat) : Nat := bitsOf e 0 16

/-- What the actions of a segment leave: the state, the ledger records to write in step 6 and the events posted. -/
abbrev Acted := State × List LedgerRecord × List Nat

/-- A rule acts on a slot (R102): the rule it overwrites in this sweep, if another, counts as a conflict. -/
def actsOn (n : Nat) (cls : Cls) (s : State) (sig : Nat) : State :=
  let k := 8 * sig + cls.code
  let mark (s : State) : State := { s with eng := { s.eng with setBy := s.eng.setBy.put k n } }
  match s.eng.setBy.get? k with
  | none => mark s
  | some m =>
    if m = n then s
    else
      let s := (s.bump Obj.ruleConflicts).setOb Obj.lastConflict m
      let due := match s.eng.lastEv1300 with
        | none => true
        | some t => s.passed t (sec 1)
      mark (if due then ({ s with eng := { s.eng with lastEv1300 := some s.now } }).post 1300 m else s)

/-- The kind-1 record of a rule's action (R416, R417). -/
def actionRecord (s : State) (n e sig old new number holder : Nat) : LedgerRecord :=
  { s.newRecord 1 s.now with
    cls := (ruleCls e).code, signal := sig, old := old, new := new, cmdr := 3, cmdrId := n, reason := ruleAction e
    detail := number + 2 ^ 16 * holder }

def slotValue (c : Option Claim) : Nat := (c.map (fun x => x.value)).getD 0
def slotHolder (c : Option Claim) : Nat := (c.map (fun x => x.holder)).getD 0xFFFF

/-- One slot of the rule's class filled or emptied, with its record where the value or holder changes. -/
def putSlot (a : Acted) (n e sig : Nat) (v : Option Claim) (always : Bool) : Acted :=
  let cls := ruleCls e
  let old := a.1.slotOf sig cls
  let s := a.1.setSlot sig cls v
  let changes := slotValue old ≠ slotValue v || slotHolder old ≠ slotHolder v
  let r := if ruleLedger e && (changes || always) then
      [s.actionRecord n e sig (slotValue old) (slotValue v) 0 (slotHolder old)] else []
  (s, a.2.1 ++ r, a.2.2)

/-- The action of a true rule on one slot (R97, R102). -/
def actSlot (a : Acted) (n e sig : Nat) (v : Option Claim) (always : Bool) : Acted :=
  putSlot (a.1.actsOn n (ruleCls e) sig, a.2) n e sig v always

/-- An action on a group: conflicts per member, then what it does, and one record where some slot changes. -/
def actGroup (a : Acted) (n e g : Nat) (always : Bool) (f : State → State) : Acted :=
  let s := forEach (a.1.groupMembers g) (actsOn n (ruleCls e)) a.1
  let t := f s
  let r := if ruleLedger e && (always || s.own.slots ≠ t.own.slots) then [t.actionRecord n e 0 0 0 g 0xFFFF] else []
  (t, a.2.1 ++ r, a.2.2)

/-- An action that names a timer, event or profile. -/
def actOther (a : Acted) (n e number : Nat) (evs : List Nat) (f : State → State) : Acted :=
  let t := f a.1
  let r := if ruleLedger e then [t.actionRecord n e 0 0 0 number 0xFFFF] else []
  (t, a.2.1 ++ r, a.2.2 ++ evs)

/-- The union of the profiles placed (R351). -/
def profileUnion (s : State) : Nat := s.pw.profiles.foldl (fun m p => Nat.lor m (s.cf (Obj.profileMask p))) 0

/-- REQUEST_PROFILE (R97, R351). -/
def requestProfile (s : State) (p : Nat) (place : Bool) : State :=
  if place = s.pw.profiles.contains p then s
  else
    let l := if place then s.pw.profiles ++ [p] else s.pw.profiles.filter (fun q => q != p)
    let s := { s with pw := { s.pw with profiles := l } }
    s.setVotes 1 s.profileUnion

/-- The action of a rule whose condition is true (R97). -/
def ruleActs (a : Acted) (n e : Nat) : Acted :=
  let cls := ruleCls e
  match ruleAction e with
  | 0 | 2 => actSlot a n e (argTarget e) (some { value := argLow e, holder := n }) false
  | 1 =>
    if bitAt e 15 then actGroup a n e (argGroup e) true (fun s => s.releaseGroup (argGroup e) cls)
    else actSlot a n e (argTarget e) none true
  | 3 => actGroup a n e (argGroup e) false (fun s => s.startFade (argGroup e) cls n 0 (argHigh e) (argLow e))
  | 4 => actGroup a n e (argGroup e) false
      (fun s => s.startPattern (bitsOf e 24 8) (argGroup e) cls n 0 (bitsOf e 16 8))
  | 5 => actOther a n e (bitsOf e 35 5) [] (fun s => s.timerOp (bitsOf e 35 5) (bitsOf e 32 3 + 1) 0)
  | 6 => actOther a n e (bitsOf e 29 11) [bitsOf e 29 11] (fun s => s.post (bitsOf e 29 11) (argLow e))
  | _ => actOther a n e (bitsOf e 36 4) [] (fun s => s.requestProfile (bitsOf e 36 4) (bitAt e 35))

/-- The group claims of a rule that it still holds emptied (R96, R286): its fade ends and its engine is free. -/
def releaseRuleGroup (s : State) (n g : Nat) (cls : Cls) : State :=
  let s := forEach (s.groupMembers g) (fun s sig =>
    if slotHolder (s.slotOf sig cls) = n then s.setSlot sig cls none else s) s
  let mine := match s.fadeOf g cls.code with
    | some f => f.holder = n
    | none => false
  let es := (s.light.engines.filter (fun x => x.2.group = g && x.2.cls = cls && x.2.holder = n)).map (fun x => x.1)
  if mine || !es.isEmpty then
    (forEach es freeEngine (if mine then s.endFade g cls.code else s)).setLevel g cls.code 0
  else s

/-- A level claim whose condition is false is released if the rule still holds the slot (R96). A release of this kind
is no overwrite of R102. -/
def ruleReleases (a : Acted) (n e : Nat) : Acted :=
  let cls := ruleCls e
  if ruleLatch e then a
  else match ruleAction e with
  | 0 | 2 => if slotHolder (a.1.slotOf (argTarget e) cls) = n then putSlot a n e (argTarget e) none false else a
  | 3 | 4 =>
    let g := argGroup e
    let held := (a.1.groupMembers g).filter (fun sig => slotHolder (a.1.slotOf sig cls) = n)
    if held.isEmpty then a
    else
      let t := a.1.releaseRuleGroup n g cls
      let r := if ruleLedger e then [t.actionRecord n e 0 0 0 g 0xFFFF] else []
      (t, a.2.1 ++ r, a.2.2)
  | _ => a

/-! ## The sweep (R92, R101, R104) -/

/-- The enabled rules of a segment in ascending number, with their entries. -/
def segmentRules (s : State) (seg : Nat) : List (Nat × Nat) :=
  (s.cfg.filter (fun e => isRule e && (keyIndex e.1 - 0x8000) / 128 = seg)).map (fun e => (keyIndex e.1 - 0x8000, e.2))

/-- Rules that some events trigger marked (R101, R304). -/
def trigger (s : State) (evs : List Nat) : State :=
  if evs.isEmpty then s
  else
    let l := (s.cfg.filter (fun e => isRule e && !ruleEvery e.2 && evs.contains (ruleTrigger e.2))).map
      (fun e => keyIndex e.1 - 0x8000)
    { s with eng := { s.eng with triggered := s.eng.triggered ++ l.filter (fun n => !s.eng.triggered.contains n) } }

/-- Step 1: CS values and events that arrived since the previous boundary are published (R101, R326). -/
def publish (s : State) : State :=
  let evs := s.fab.triggers
  ({ s with cs := s.csNext, fab := { s.fab with triggers := [] } }).trigger evs

/-- A rule was evaluated (R95, R98): its term values kept for CHANGED, and a true condition counted. -/
def evaluated (s : State) (n : Nat) (r : Bool × List (Option Int)) : State :=
  let s := { s with eng := { s.eng with triggered := s.eng.triggered.filter (fun k => k != n)
                                        previous := s.eng.previous.put n r.2 } }
  if r.1 then (s.bump (Obj.ruleFires n)).setOb (Obj.ruleLastFire n) (s.now % 2 ^ 64) else s

/-- An output's commanded value delivered afresh: off at once, else a switch-on of its owner's class (R125, R394). -/
def reDrive (s : State) (sig : Nat) : State :=
  let i := sigInst sig
  let v := s.commandedOf sig
  if s.disabled sig || (sigClass sig = clsGD && s.gdBound i) || (sigClass sig = clsSV && s.svBound i) then s
  else if v = 0 then (s.drive sig 0).dropEntry sig
  else match (if sigClass sig = clsGD then s.bridgeOfLead i else none) with
    | some _ => s.drive sig v
    | none => s.resubmit sig

/-- Gate-driver, solenoid and DOUT outputs. -/
def directSigs : List Nat :=
  (List.range 24).map (mkSig clsGD) ++ (List.range 8).map (mkSig clsSV) ++ (List.range 8).map (mkSig clsDOUT)

/-- A matrix port leaves the hoist safe state (R279): scanned again, or still off for its fault. -/
def mxLeaveSafe (s : State) (p : Nat) : State :=
  let c := s.mxCh p
  if s.cf (Obj.mxEnable p) = 0 then s
  else if c.off then s.setOb (Obj.mxState p) (if c.hot then 4 else if c.retryAt.isSome then 2 else 3)
  else ((s.mxShut p).setOb (Obj.mxState p) 1).mxRestart p 0

/-- A bunting port whose domain is on runs discovery as at start (R263, R354). -/
def bpRejoin (s : State) (p : Nat) : State :=
  if s.cf (Obj.bpEnable p) = 1 && s.domainIsOn (11 + p / 2) then s.bpDiscover p else s

/-- The outputs leave the hoist safe state with the first sweep's output commands (R94, R394). -/
def leaveHoistSafe (s : State) : State :=
  (forRange 8 bpRejoin (forRange 2 mxLeaveSafe (forEach directSigs reDrive s.endHoistSafe))).runQueue

/-- The boundary before a sweep (R61, R88, R102). After a debug halt the outputs leave the hoist safe state here; on exit from
Half-mast the supervisor enters waiting once the first sweep has begun (R107). -/
def sweepBoundary (s : State) : State :=
  let s := (s.safeBoundary).rxBoundary
  let s := if s.hb.enters then ({ s with hb := { s.hb with enters := false } }).supervisorWaits else s
  let s := if s.hoist.safe && s.hoist.parked then s.leaveHoistSafe else s
  { s with eng := { s.eng with setBy := [], lanesAgreed := true, sweepStart := s.now } }

/-- The feed word to the Hoist die (R92). -/
def feed (s : State) : State :=
  { s with hoist := { s.hoist with lastFeed := s.now, feeds := s.hoist.feeds + 1, armed := true, parked := false } }

/-- The windows of open releases whose REL_HOLD_SIGNAL is not 0 start again (R406). -/
def holdReleases (s : State) : State :=
  forRange 16 (fun s r =>
    let x := s.bg.releases.read {} r
    let sig := s.cf (Obj.relHoldSignal r)
    if s.ob (Obj.relState r) = 1 && x.windowEnd.isSome && sig ≠ 0 && s.termValue sig ≠ 0 then
      { s with bg := { s.bg with releases := s.bg.releases.write {} r
                                   { x with windowEnd := some (s.now + sec (s.cf (Obj.relValidity r))) } } }
    else s) s

/-- The lanes agreed in every segment of the sweep (R92): no mismatch, settled or not. -/
def lanesAgree (s : State) : Bool :=
  s.eng.lanesAgreed && (match s.ft.unresolved with
    | some k => decide (k / 16 ≠ s.ob Obj.sweepCount)
    | none => true)

/-- The end of a sweep (R85, R92, R104, R406): its time in ns. -/
def sweepEnd (s : State) (sweepNs : Nat) : State :=
  let agreed := s.lanesAgree
  let s := s.holdReleases
  let s := s.setOb Obj.sweepCount ((s.ob Obj.sweepCount + 1) % 2 ^ 64)
  let s := s.setOb Obj.sweepTimeMax (max (s.ob Obj.sweepTimeMax) (saturate sweepNs (2 ^ 32 - 1)))
  let s := s.postIf (decide (25000 < sweepNs)) 1301 sweepNs
  let o := s.own
  let s := { s with own := { o with snapSlots := o.slots, snapSafe := o.safe, snapCommanded := o.commanded } }
  if agreed then s.feed else s

/-- The first segment from a place in the sweep on that contains an enabled rule (R101). A sweep without any rule has one segment
with nothing to evaluate, numbered 15, so that host changes act (DEDUCED, assumption 111). -/
def segmentFrom (s : State) (k : Nat) : Nat :=
  ((List.range 16).find? (fun g => decide (k ≤ g) && !(s.segmentRules g).isEmpty)).getD 15

/-- A later segment of the sweep contains an enabled rule. -/
def moreSegments (s : State) (seg : Nat) : Bool :=
  (List.range 16).any (fun g => decide (seg < g) && !(s.segmentRules g).isEmpty)

/-- The next segment of the sweep that contains an enabled rule (R101): boundary, publish, evaluate, apply, resolve, record.
`agreed`: the lanes' results were the same. -/
def runSegment (s : State) (agreed : Bool) (sweepNs : Nat) : State :=
  let seg := s.segmentFrom s.eng.segment
  let s := if s.eng.segment = 0 then s.sweepBoundary else s
  let s := { s with eng := { s.eng with lanesAgreed := s.eng.lanesAgreed && agreed } }
  let s := s.publish
  let due := (s.segmentRules seg).filter (fun r => ruleEvery r.2 || s.eng.triggered.contains r.1)
  let res := due.map (fun r => (r, s.evaluate r.1 r.2))
  let s := forEach res (fun s x => s.evaluated x.1.1 x.2) s
  let old := s.own.slots
  let a : Acted := res.foldl (fun a x =>
    if x.2.1 then ruleActs a x.1.1 x.1.2 else ruleReleases a x.1.1 x.1.2) (s, [], [])
  let s := ((a.1.trigger a.2.2).hostChanges)
  let s := s.resolveAll (changedSlots old s.own.slots)
  let s := forEach a.2.1 record s
  (if s.moreSegments seg then { s with eng := { s.eng with segment := seg + 1 } }
   else ({ s with eng := { s.eng with segment := 0 } }).sweepEnd sweepNs).nmRecheck

end State

/-! ## Meanings -/

/-- R84. -/
def execHostClaim (sess : Nat) (sig : BitVec 24) (value : BitVec 16) (s : State) : Host.Outcome State Fault Refusal :=
  let v := 2 ^ 56 + sig.toNat * 2 ^ 32 + value.toNat
  s.request sess .host (writeOf Obj.hostCommand 8 v) (fun x s => s.doHostCommand x v)

/-- R84. -/
def execHostRelease (sess : Nat) (sig : BitVec 24) (s : State) : Host.Outcome State Fault Refusal :=
  let v := 2 * 2 ^ 56 + sig.toNat * 2 ^ 32
  s.request sess .host (writeOf Obj.hostCommand 8 v) (fun x s => s.doHostCommand x v)

/-- R84. -/
def execHostReleaseAll (sess : Nat) (s : State) : Host.Outcome State Fault Refusal :=
  let v := 3 * 2 ^ 56
  s.request sess .host (writeOf Obj.hostCommand 8 v) (fun x s => s.doHostCommand x v)

/-- R84. -/
def execHostEmptyRuleSlots (sess : Nat) (sig : BitVec 24) (s : State) : Host.Outcome State Fault Refusal :=
  let v := 4 * 2 ^ 56 + sig.toNat * 2 ^ 32
  s.request sess .host (writeOf Obj.hostCommand 8 v) (fun x s => s.doHostCommand x v)

/-- R85. -/
def execOwnerQuery (sess : Nat) (sig : BitVec 32) (s : State) : Host.Outcome State Fault Refusal :=
  s.request sess .host (writeOf Obj.querySignal 4 sig.toNat) (fun x s => s.doQuerySignal x.handle sig.toNat)

/-- R86, R87. -/
def execHeartbeat (sess : Nat) (value : BitVec 16) (s : State) : Host.Outcome State Fault Refusal :=
  s.request sess .host (writeOf Obj.hbCounter 2 value.toNat) (fun _ s => s.doHeartbeat value.toNat)

/-- R87, R88. -/
def execHeartbeatLoss (s : State) : Host.Outcome State Fault Refusal := whenever s.heartbeatDue s s.heartbeatLost

/-- R87. -/
def execSafeRelease (sess : Nat) (value : BitVec 8) (s : State) : Host.Outcome State Fault Refusal :=
  s.request sess .host (writeOf Obj.safeRelease 1 value.toNat) (fun _ s => s.doSafeRelease value.toNat)

/-- R101. -/
def execReflexSegment (sweepNs : Nat) (s : State) : Host.Outcome State Fault Refusal :=
  whenever s.sweepsRun s (s.runSegment true sweepNs)

end Sys2Proof.Machine
end

