-- ==== Sys2Proof/Machine/Burgee.lean ====
section
/-!
DEFINITION. Burgee access (spec/19): the exchange and its results, lock-out, release objects and implements over CAN.
-/

namespace Sys2Proof.Machine
namespace State

/-! ## Ports (R400–R405): BKEY 0, LF 1, implement i at 2 + i -/

def bgPort (s : State) (p : Nat) : BurgeePort := s.bg.ports.read {} p
def setBgPort (s : State) (p : Nat) (x : BurgeePort) : State :=
  { s with bg := { s.bg with ports := s.bg.ports.write {} p x } }

/-- Port codes of R412. -/
def portCode (p : Nat) : Nat := if p < 2 then p else 0x20 + (p - 2)

/-- The next draw of the DRBG (R374). -/
def draw (s : State) : Nat × State :=
  ((Config.drbg s.secure.draws).toNat, { s with secure := { s.secure with draws := s.secure.draws + 1 } })

/-- A port is locked out (R405). -/
def lockedOut (s : State) (p : Nat) : Bool := (s.bgPort p).lockUntil.isSome

/-- Failures of a port that lie within FAIL_WINDOW of powered time (R405). -/
def failsNow (s : State) (p : Nat) : List Nat :=
  (s.bgPort p).fails.filter (fun t => s.poweredTime < t + sec (60 * s.cf Obj.failWindow))

/-- FAILS_IN_WINDOW and PORT_STATE shown; implements have no such objects. -/
def showPort (s : State) (p : Nat) (st : Nat) : State :=
  if p < 2 then (s.setOb (Obj.bgPortState p) st).setOb (Obj.bgFailsInWindow p) (min 15 (s.failsNow p).length) else s

/-- A port at rest: idle, or locked out. -/
def restPort (s : State) (p : Nat) : State := s.showPort p (if s.lockedOut p then 3 else 1)

/-- Holder 7 votes REFLEX while a token is detected, until 1 s after its exchange ends, and while a release is open
(R411). -/
def burgeeVote (s : State) : State :=
  let want := (List.range 16).any (fun r => s.ob (Obj.relState r) = 1) ||
    (List.range 2).any (fun p => (s.bgPort p).presentAt.isSome) || (s.pw.timers.get? 7).isSome
  let has_ := bitAt (s.votesOf 1) 7
  if want = has_ then s else if want then s.placeVotes 7 2 else s.dropVotes 7 2

/-- An exchange has ended: the vote stands for 1 s more. -/
def burgeeLinger (s : State) : State :=
  ({ s with pw := { s.pw with timers := s.pw.timers.put 7 (s.now + sec 1) } }).burgeeVote

/-- The ledger's record of the burgee function (R406, R416 kind 7). -/
def burgeeRecord (s : State) (old new reason r port entry mask : Nat) : State :=
  s.record { s.newRecord 7 s.now with
    old := old, new := new, reason := reason, cmdr := 8, cmdrId := 256 * port + entry, cmdrAux := mask
    detail := r + 2 ^ 8 * port + 2 ^ 16 * entry }

/-! ## Release objects (R406–R409) -/

def rel (s : State) (r : Nat) : Release := s.bg.releases.read {} r
def setRel (s : State) (r : Nat) (x : Release) : State :=
  { s with bg := { s.bg with releases := s.bg.releases.write {} r x } }

/-- Outputs that releases can gate: GD, SV and DOUT. -/
def gateable : List Nat :=
  (List.range 24).map (mkSig clsGD) ++ (List.range 8).map (mkSig clsSV) ++ (List.range 8).map (mkSig clsDOUT)

/-- The gate latches follow (R409). -/
def loadGates (s : State) : State := { s with bg := { s.bg with latches := gateable.filter (fun g => !s.gateOpen g) } }

/-- An output becomes enabled: its commanded value is a switch-on again (R407). -/
def enableOutput (s : State) (sig : Nat) : State :=
  match (if sigClass sig = clsGD then s.bridgeOfLead (sigInst sig) else none) with
  | some _ => s.drive sig (s.commandedOf sig)
  | none => s.resubmit sig

/-- An output becomes disabled: commanded off, nothing of it counts or waits (R407). -/
def disableOutput (s : State) (sig : Nat) : State :=
  (((s.withdraw sig).dropEntry sig).drive sig (s.commandedOf sig))

/-- What follows a change of gates, `old` the closed latches before it. -/
def gatesMoved (s : State) (old : List Nat) : State :=
  let s := s.loadGates
  let shut := s.bg.latches.filter (fun g => !old.contains g)
  let opened := old.filter (fun g => !s.bg.latches.contains g)
  ((forEach opened enableOutput (forEach shut disableOutput s)).hoistFollow).runQueue

/-- A release opened, or its window restarted (R406). -/
def openRelease (s : State) (r port entry mask : Nat) : State :=
  if s.cf (Obj.relEnable r) = 0 then s
  else
    let old := s.bg.latches
    let v := s.cf (Obj.relValidity r)
    let s := s.setRel r { s.rel r with open_ := true, windowEnd := if v = 0 then none else some (s.now + sec v)
                                       openedBy := 256 * port + entry }
    let s := (s.setOb (Obj.relState r) 1).setOb (Obj.relOpenedBy r) (256 * port + entry)
    let s := s.post 1156 (2 ^ 16 * r + 256 * port + entry)
    ((s.burgeeRecord 0 1 0 r port entry mask).gatesMoved old).burgeeVote

/-- The pending frame of a release's object is discarded (R408). -/
def dropReleaseFrame (s : State) (r : Nat) : State :=
  let o := s.cf (Obj.relMo r)
  if o = 0xFFFF then s
  else
    let c := moChan (s.moCfg o)
    (s.canUnpend c (.object o)).showPending c o

/-- A release closed for a reason (R406, R408). -/
def closeRelease (s : State) (r reason : Nat) : State :=
  if s.ob (Obj.relState r) = 0 then s
  else
    let old := s.bg.latches
    let by_ := s.ob (Obj.relOpenedBy r)
    let s := s.setRel r { s.rel r with open_ := false, windowEnd := none }
    let s := ((s.setOb (Obj.relState r) 0).post 1157 (256 * r + reason)).dropReleaseFrame r
    ((s.burgeeRecord 1 0 reason r (by_ / 256) (by_ % 256) 0).gatesMoved old).burgeeVote

/-- Releases of a mask. -/
def forMask (n mask : Nat) (f : State → Nat → State) (s : State) : State :=
  forRange n (fun s r => if bitAt mask r then f s r else s) s

def openMask (s : State) (mask port entry : Nat) : State := forMask 16 mask (fun s r => s.openRelease r port entry mask) s
def closeMask (s : State) (mask reason : Nat) : State := forMask 16 mask (fun s r => s.closeRelease r reason) s
def closeAll (s : State) (reason : Nat) : State := s.closeMask 0xFFFF reason

/-- The slot of the entry that opened a release: a token's or an implement's (R406 reason 5). -/
def openerSlot (s : State) (r : Nat) : Nat :=
  let by_ := s.ob (Obj.relOpenedBy r)
  let port := by_ / 256
  let e := by_ % 256
  if port < 2 then (if e < 32 then s.cf (Obj.tokSlot e) else 0xFF)
  else if 0x20 ≤ port && port < 0x28 then s.cf (Obj.implSlot e)
  else 0xFF

/-- REL_LEFT (R413). -/
def relLeftOf (s : State) (r : Nat) : Nat :=
  match (s.rel r).windowEnd with
  | some t => saturate (ceilDiv (t - s.now) (sec 1)) 65535
  | none => if s.ob (Obj.relState r) = 1 then 0xFFFF else 0

/-- REL_OPEN and REL_CLOSE (R406, R413). -/
def doRelOpen (s : State) (r v : Nat) : Answer :=
  check (v = 1 && s.cf (Obj.relEnable r) = 1) .valueRange <| .ok (s.openRelease r 0xFF 0xFF (2 ^ r))
def doRelClose (s : State) (r v : Nat) : Answer :=
  check (v = 1) .valueRange <| .ok (s.closeRelease r 2)

/-! ## The exchange (R398, R399, R404, R405) -/

/-- The response expected for an entry's slot (R398). -/
def expectedResponse (s : State) (slot : Nat) (diversify : Bool) (port id challenge : Nat) : Nat :=
  let k := s.secure.material.read 0 slot
  let idBytes := (toBytes 8 id).reverse
  let kt := if diversify then Config.kdf k 3 idBytes else k
  (Config.cmac kt ([0x54, port] ++ idBytes ++ toBytes 16 challenge)).toNat

/-- The token entry of an ID (R399). -/
def tokenOf (s : State) (id : Nat) : Option Nat :=
  (List.range 32).find? (fun e => s.cf (Obj.tokKind e) ≠ 0 && s.cf (Obj.tokenId e) = id)

/-- Where a response's delay, in 0.1 ns, lies: 0 in its window, 2 outside it, 4 missing (R400, R402). On LF it is judged on
carrier cycles of 8 µs: the 32nd cycle is the one. -/
def delayResult (p : Nat) (d : Option Nat) : Nat :=
  match d with
  | none => 4
  | some d =>
    if p = 0 then (if 100000 < d then 4 else if 13800 ≤ d && d ≤ 16200 then 0 else 2)
    else if 10000000 < d then 4 else if d / 80000 = 32 then 0 else 2

/-- A failure is recorded as the challenge is sent (R404). -/
def recordFail (s : State) (p : Nat) : State :=
  s.setBgPort p { s.bgPort p with fails := (s.bgPort p).fails ++ [s.poweredTime], pendingFail := true }

/-- The recorded failure judged (R404, R405): a success clears every failure; results 7–9 take it back. -/
def judgeFail (s : State) (p result : Nat) : State :=
  let x := s.bgPort p
  let fails := if result = 1 then []
    else if 2 ≤ result && result ≤ 6 then x.fails
    else if x.pendingFail then x.fails.dropLast else x.fails
  let s := s.setBgPort p { x with fails := fails, pendingFail := false }
  if 2 ≤ result && result ≤ 6 && decide (s.cf Obj.failLimit ≤ (s.failsNow p).length) && !s.lockedOut p then
    (s.setBgPort p { s.bgPort p with lockUntil := some (s.poweredTime + sec (60 * s.cf Obj.lockTime)) }).post 1154
      (portCode p)
  else s

/-- The result of a token's exchange, and the entry: 0xFF unknown. -/
def tokenResult (s : State) (p : Nat) (x : BurgeeAnswer) (challenge : Nat) : Nat × Nat :=
  match x.id with
  | none => (7, 0xFF)
  | some id =>
    let e := s.tokenOf id.toNat
    let n := e.getD 0xFF
    let d := delayResult p (x.delay.map BitVec.toNat)
    if x.violation then (7, n)
    else if d ≠ 0 then (d, n)
    else match e with
    | none => (5, 0xFF)
    | some e =>
      if !bitAt (s.cf (Obj.tokPorts e)) p then (6, e)
      else
        let r := s.expectedResponse (s.cf (Obj.tokSlot e)) (s.cf (Obj.tokDiversify e) = 1) p id.toNat challenge
        (if r = x.response.toNat then 1 else 3, e)

/-- An exchange at BKEY or LF carried out and decided (R399). -/
def tokenExchange (s : State) (p : Nat) (x : BurgeeAnswer) : State :=
  let trng := s.ob Obj.trngState = 1
  let challenged := trng && x.id.isSome
  let d := s.draw
  let s := if challenged then d.2.recordFail p else s
  let r : Nat × Nat := if trng then s.tokenResult p x (d.1 % 2 ^ 128) else (8, 0xFF)
  let s := s.judgeFail p r.1
  let s := match (if challenged then x.delay else none) with
    | some v => s.setOb (Obj.bgResponseDelay p) v.toNat
    | none => s
  let s := (s.setOb (Obj.bgLastResult p) r.1).setOb (Obj.bgLastEntry p) r.2
  let s := if 2 ≤ r.1 && r.1 ≤ 6 then s.bump (Obj.bgFailures p) else s
  let mask := if r.1 = 1 then s.cf (Obj.tokReleases r.2) else 0
  let s := s.burgeeRecord 0 r.1 r.1 0xFF p r.2 mask
  let s := if r.1 = 1 then
      (s.post 1152 (2 ^ 24 * p + 2 ^ 16 * s.cf (Obj.tokKind r.2) + r.2)).openMask mask p r.2
    else s.post 1153 (2 ^ 24 * p + 2 ^ 16 * r.1 + r.2)
  (s.setBgPort p { s.bgPort p with presentAt := none }).restPort p |>.burgeeLinger

/-- A token presented at a locked port (R405). -/
def presentedLocked (s : State) (p : Nat) : State :=
  (s.setOb (Obj.bgLastResult p) 9).post 1153 (2 ^ 24 * p + 2 ^ 16 * 9 + 0xFF)

/-- Ports run exchanges in Hoisted and Dipped (R411). -/
def exchangesRun (s : State) : Bool :=
  s.applied && decide (s.ob Obj.pwrState ≤ pwrDipped) && !(s.ob Obj.pwrTransition = 1 && s.pw.entering ≠ pwrDipped)

/-- An exchange begins. -/
def beginExchange (s : State) (p : Nat) : State := (s.bump (Obj.bgExchanges p)).showPort p 2

/-- A token presented (R401, R403): its event, the vote, and the exchange to come; a locked port runs none. -/
def presented (s : State) (p ev : Nat) : State :=
  let s := s.setBgPort p { s.bgPort p with present := true }
  let s := s.post ev 0
  if s.lockedOut p then s.presentedLocked p
  else (s.setBgPort p { s.bgPort p with presentAt := some s.now }).burgeeVote

/-! ## Implements (R410) -/

def impl (s : State) (i : Nat) : Implement := s.bg.implements_.read {} i
def setImpl (s : State) (i : Nat) (x : Implement) : State :=
  { s with bg := { s.bg with implements_ := s.bg.implements_.write {} i x } }

/-- The channel of an implement entry. -/
def implChan (s : State) (i : Nat) : Nat := moChan (s.moCfg (s.cf (Obj.implTxMo i)))

/-- A challenge formed and made pending (R410): none on a locked entry, none while the TRNG is not healthy. -/
def challenge (s : State) (i : Nat) : State :=
  if s.cf (Obj.implEnable i) = 0 || s.lockedOut (2 + i) || !s.canActive (s.implChan i) then s
  else if s.ob Obj.trngState ≠ 1 then
    (s.burgeeRecord 0 8 8 0xFF (portCode (2 + i)) i 0).setImpl i { s.impl i with last := s.now }
  else
    let d := s.draw
    let o := s.cf (Obj.implTxMo i)
    let again := (s.impl i).waiting
    let s := if again then d.2 else d.2.recordFail (2 + i)
    let c := d.1 % 2 ^ 128
    let s := s.setImpl i { challenge := c, waiting := true, sentAt := none, last := s.now
                           count := (s.moOf (s.cf (Obj.implRxMo i))).count }
    let s := s.setMo o { s.moOf o with data := 0xC1 + 2 ^ 64 * c }
    s.moPending o false

/-- An implement's challenge is due (R410): 1 s after its channel joined, and every IMPL_PERIOD. -/
def challengeDue (s : State) (i : Nat) : Bool :=
  s.cf (Obj.implEnable i) = 1 && s.exchangesRun &&
    (match (s.canCh (s.implChan i)).joinedAt with
      | none => false
      | some j =>
        if (s.impl i).last ≤ j then s.passed j (sec 1)
        else s.cf (Obj.implPeriod i) ≠ 0 && s.passed (s.impl i).last (sec (s.cf (Obj.implPeriod i))))

/-- The result of an implement's exchange, 4 ms after the challenge went out (R410). -/
def implResult (s : State) (i : Nat) (sent : Tick) : Nat :=
  let m := s.moOf (s.cf (Obj.implRxMo i))
  let x := s.impl i
  if m.count = x.count || sent + ms 4 < m.ts then 4
  else if m.ts < sent then 2
  else
    let id := ofBytes (toBytes 8 (bitsOf m.data 64 64)).reverse
    if id ≠ s.cf (Obj.implId i) then 5
    else if bitsOf m.data 0 64 ≠ 0xC2 then 3
    else
      let r := s.expectedResponse (s.cf (Obj.implSlot i)) (s.cf (Obj.implDiversify i) = 1) (0x10 + s.implChan i) id x.challenge
      if r = bitsOf m.data 128 128 then 1 else 3

/-- The exchange with an implement decided (R399, R410). -/
def decideImplement (s : State) (i : Nat) (sent : Tick) : State :=
  let r := s.implResult i sent
  let mask := s.cf (Obj.implReleases i)
  let port := portCode (2 + i)
  let s := (s.setImpl i { s.impl i with sentAt := none }).judgeFail (2 + i) r
  let s := s.burgeeRecord 0 r r 0xFF port i mask
  let s := s.setOb (Obj.implState i) (if r = 1 then 1 else if s.lockedOut (2 + i) then 3 else 2)
  if r = 1 then (s.post 1161 i).openMask mask port i
  else (s.post 1162 (2 ^ 16 * i + r)).closeMask mask 6

/-- IMPL_RUN (R410). -/
def doImplRun (s : State) (i : Nat) : Answer :=
  check (decide (i < 8)) .valueRange <| .ok (s.challenge i)

/-- The lock-out of a port ends (R405). -/
def unlockPort (s : State) (p : Nat) : State :=
  let s := s.setBgPort p { s.bgPort p with lockUntil := none }
  let s := if p < 2 then (if s.ob (Obj.bgPortState p) = 3 then s.restPort p else s)
    else if s.ob (Obj.implState (p - 2)) = 3 then s.setOb (Obj.implState (p - 2)) 2 else s
  s.post 1155 (portCode p)

/-- BG_CLEAR_LOCK (R405). -/
def doClearLock (s : State) (v : Nat) : Answer :=
  check (decide (v < 2) || (decide (0x20 ≤ v) && decide (v < 0x28))) .valueRange <|
    let p := if v < 2 then v else v - 0x20 + 2
    .ok ((s.setBgPort p { s.bgPort p with fails := [], pendingFail := false }).unlockPort p)

/-- LOCK_LEFT of a port (R413). -/
def lockLeftOf (s : State) (p : Nat) : Nat :=
  match (s.bgPort p).lockUntil with
  | some t => saturate (ceilDiv (t - s.poweredTime) (sec 1)) 65535
  | none => 0

end State

/-! ## Meanings -/

/-- R401: BKEY has read low for 20 µs. In Half-mast and Furled it wakes the unit (R411). -/
def execBkeyPresence (s : State) : Host.Outcome State Fault Refusal :=
  if s.cf Obj.bkeyEnable = 0 || (s.bgPort 0).present || (s.boot.stage ≠ .applied && s.ob Obj.pwrState ≠ pwrFurled) then .next s
  else .next ((if s.lowered then s.wake 8 0 else s).presented 0 1158)

/-- R401: BKEY_SETTLE has passed; the hail starts. -/
def execBkeySettleExpiry (s : State) : Host.Outcome State Fault Refusal :=
  match (s.bgPort 0).presentAt with
  | some t => whenever (s.exchangesRun && s.passed t (ms (s.cf Obj.bkeySettle)) && s.ob (Obj.bgPortState 0) ≠ 2) s
      (s.beginExchange 0)
  | none => .next s

/-- R400. -/
def execBkeyExchange (x : BurgeeAnswer) (s : State) : Host.Outcome State Fault Refusal :=
  whenever (s.exchangesRun && s.ob (Obj.bgPortState 0) = 2) s (s.tokenExchange 0 x)

/-- R401: the line has read high for 100 ms. -/
def execBkeyRemoved (s : State) : Host.Outcome State Fault Refusal :=
  whenever ((s.bgPort 0).present || s.ob (Obj.bgPortState 0) = 4) s
    (((s.setBgPort 0 { s.bgPort 0 with present := false, presentAt := none }).restPort 0).burgeeVote)

/-- R401: the line stays low for 100 ms after a hail. -/
def execBkeyHeldLow (s : State) : Host.Outcome State Fault Refusal :=
  whenever (s.ob (Obj.bgPortState 0) = 2) s
    ((((s.setBgPort 0 { s.bgPort 0 with presentAt := none }).post 1160 1).showPort 0 4).burgeeLinger)

/-- R403: a poll and the load it sees: 0 none, 1 a transponder, 2 the coil open, 3 short. -/
def execLfPoll (load : Fin 4) (s : State) : Host.Outcome State Fault Refusal :=
  let x := s.bgPort 1
  let due := s.applied && s.cf Obj.lfEnable = 1 && decide (s.ob Obj.pwrState ≤ pwrHalfMast) &&
    s.passed x.lastPoll (ms (s.cf Obj.lfPollPeriod)) && s.ob (Obj.bgPortState 1) ≠ 2
  let s1 := s.setBgPort 1 { x with lastPoll := s.now }
  whenever due s (match load with
    | 0 =>
      let n := min 2 (x.emptyPolls + 1)
      let s1 := s1.setBgPort 1 { s1.bgPort 1 with emptyPolls := n, present := x.present && decide (n < 2) }
      s1.restPort 1
    | 1 =>
      let s1 := (s1.setBgPort 1 { s1.bgPort 1 with emptyPolls := 0 }).restPort 1
      if x.present then s1
      else
        if s1.lowered then (s1.wake 8 1).presented 1 1159
        else
          let s2 := s1.presented 1 1159
          if (s2.bgPort 1).presentAt.isSome then s2.beginExchange 1 else s2
    | 2 => (s1.post 1160 2).showPort 1 4
    | 3 => (s1.post 1160 3).showPort 1 4)

/-- R402, R403: also the exchange that follows an exit. -/
def execLfExchange (x : BurgeeAnswer) (s : State) : Host.Outcome State Fault Refusal :=
  if !s.exchangesRun || (s.bgPort 1).presentAt.isNone then .next s
  else if s.ob (Obj.bgPortState 1) = 2 then .next (s.tokenExchange 1 x)
  else .next ((s.beginExchange 1).tokenExchange 1 x)

/-- R405: port 0 BKEY, 1 LF, 2 + i implement i. -/
def execBurgeeLockoutEnd (port : Fin 10) (s : State) : Host.Outcome State Fault Refusal :=
  match (s.bgPort port).lockUntil with
  | some t => whenever (decide (t ≤ s.poweredTime)) s (s.unlockPort port)
  | none => .next s

/-- R405. -/
def execBgClearLock (sess : Nat) (port : BitVec 8) (s : State) : Host.Outcome State Fault Refusal :=
  s.request sess .maker (writeOf Obj.bgClearLock 1 port.toNat) (fun _ s => s.doClearLock port.toNat)

/-- R406. -/
def execRelOpen (sess : Nat) (r : Fin 16) (s : State) : Host.Outcome State Fault Refusal :=
  s.request sess .maker (writeOf (Obj.relOpen r) 1 1) (fun _ s => s.doRelOpen r 1)

/-- R406. -/
def execRelClose (sess : Nat) (r : Fin 16) (s : State) : Host.Outcome State Fault Refusal :=
  s.request sess .host (writeOf (Obj.relClose r) 1 1) (fun _ s => s.doRelClose r 1)

/-- R406, reason 1. -/
def execReleaseWindowExpiry (r : Fin 16) (s : State) : Host.Outcome State Fault Refusal :=
  match (s.rel r).windowEnd with
  | some t => whenever (decide (t ≤ s.now)) s (s.closeRelease r 1)
  | none => .next s

/-- R410. -/
def execImplementChallenge (i : Fin 8) (s : State) : Host.Outcome State Fault Refusal :=
  whenever (s.challengeDue i) s (s.challenge i)

/-- R410. -/
def execImplRun (sess : Nat) (i : BitVec 8) (s : State) : Host.Outcome State Fault Refusal :=
  s.request sess .host (writeOf Obj.implRun 1 i.toNat) (fun _ s => s.doImplRun i.toNat)

/-- R410: 4 ms after the challenge's transmission. -/
def execImplementDecision (i : Fin 8) (s : State) : Host.Outcome State Fault Refusal :=
  match (s.impl i).sentAt with
  | some t => whenever (s.passed t (ms 4)) s (s.decideImplement i t)
  | none => .next s

end Sys2Proof.Machine
end

