-- ==== Sys2Proof/Machine/Ledger.lean ====
section
/-!
DEFINITION. The actuation ledger (spec/20): pages, sealing and the chain, the store, its faults, and reading back.
-/

namespace Sys2Proof.Machine
namespace State

/-! ## Bytes of records and pages (R414, R420, R423) -/

/-- The 64 bytes of a record. -/
def recordBytes (r : LedgerRecord) : List Nat :=
  toBytes 8 r.seq ++ toBytes 8 r.htime ++ toBytes 8 r.tbase ++ [r.unit, r.kind, r.sync, r.cls] ++ toBytes 4 r.signal ++
  toBytes 4 r.old ++ toBytes 4 r.new ++ [r.cmdr, 0] ++ toBytes 2 r.cmdrId ++ toBytes 4 r.cmdrAux ++ toBytes 2 r.reason ++
  toBytes 2 r.rflags ++ toBytes 12 r.detail

/-- The 64 bytes of a page before its body. -/
def pageHeader (p : LedgerPage) : List Nat :=
  toBytes 4 0x4C505753 ++ [p.kind, p.records.length] ++ toBytes 2 p.flags ++ toBytes 8 p.number ++ toBytes 8 p.firstSeq ++
  toBytes 8 0 ++ toBytes 32 p.prevHash

/-- The checkpoint fields that stand before the signature. -/
def checkpointFields (p : LedgerPage) : List Nat :=
  let none_ := 2 ^ 64 - 1
  toBytes 4 p.epoch ++ toBytes 4 0 ++ toBytes 8 p.cpHtime ++ toBytes 8 p.cpTbase ++ toBytes 16 Part.serial ++
  toBytes 8 ((p.gap.map (·.1)).getD none_) ++ toBytes 8 ((p.gap.map (·.2)).getD none_) ++ toBytes 8 0

/-- PG_BODY. -/
def pageBody (p : LedgerPage) : List Nat :=
  if p.kind = 2 then checkpointFields p ++ toBytes 64 p.sig ++ List.replicate 3840 0
  else p.records.flatMap recordBytes ++ List.replicate (3968 - 64 * p.records.length) 0

/-- Bytes 0–4047, the additional authenticated data (R421). -/
def pageAuthenticated (p : LedgerPage) : List Nat :=
  pageHeader p ++ pageBody p ++ toBytes 4 p.epoch ++ toBytes 8 p.number ++ toBytes 4 0

/-- Bytes 0–4063, which the chain value covers (R421). -/
def pageHashed (p : LedgerPage) : List Nat := pageAuthenticated p ++ toBytes 16 p.tag

/-- The 4,096 bytes of a page. -/
def pageBytes (p : LedgerPage) : List Nat := pageHashed p ++ List.replicate 32 0

/-! ## Sealing (R421–R423) -/

/-- A page signed where it is a checkpoint, tagged under slot 16 and hashed. -/
def sealed (s : State) (p : LedgerPage) : LedgerPage :=
  let p := if p.kind = 2 then
      { p with sig := (Config.ecdsaSign (s.secure.material.read 0 0)
                        (Config.sha256 (pageHeader p ++ checkpointFields p))).toNat }
    else p
  let p := { p with tag := (Config.gcmTag (s.secure.material.read 0 16) (pageAuthenticated p) []).toNat }
  { p with hash := Config.sha256 (pageHashed p) }

/-- A page sealed under the next number: it joins the chain and the buffer. -/
def sealPage (s : State) (p : LedgerPage) : State :=
  let l := s.ledger
  let p := s.sealed { p with number := l.nextPage, epoch := s.ob Obj.ledgerEpoch, prevHash := l.chain }
  let s := { s with ledger := { l with pages := l.pages ++ [p], nextPage := l.nextPage + 1, chain := p.hash } }
  s.setOb Obj.ledgerHeadPage p.number

/-- The next multiple of 65,536 at or above a page number. -/
def nextSegment (p : Nat) : Nat := ceilDiv p 65536 * 65536

/-- A checkpoint sealed (R423): where pages have been lost it stands at the next multiple of 65,536 and carries their
range (R427). -/
def sealCheckpoint (s : State) : State :=
  let l := s.ledger
  let n := nextSegment l.nextPage
  let first := match l.openPage with
    | r :: _ => r.seq
    | [] => s.ob Obj.ledgerNextSeq
  let s := { s with ledger := { l with nextPage := n, gap := none } }
  (s.sealPage { number := n, kind := 2, flags := 0, epoch := 0, firstSeq := first, prevHash := 0
                cpHtime := s.htime, cpTbase := s.now, gap := l.gap }).post 1172 (n / 65536)

/-- BUFFER_FILL follows the buffer. -/
def showFill (s : State) : State := s.setOb Obj.ledgerBufferFill s.ledgerFill

/-- A segment of the store in which a page lies (R426), and whether another segment of pages still uses its place. -/
def segmentHeld (s : State) (g : Nat) : Option Nat :=
  let cap := s.ob Obj.ledgerCapacityPages / 65536
  let g0 := s.ob Obj.ledgerFormatPage / 65536
  ((s.ledger.index.filter (fun (e : Nat × Segment) =>
    e.2.state = 1 && e.1 ≠ g && (e.1 - g0) % cap = (g - g0) % cap)).head?).map (·.1)

/-- A kind-9 record (R416): the event, its count and the SEQ range affected. -/
def ledgerNote (s : State) (ev count first last : Nat) : State :=
  s.record { s.newRecord 9 s.now with
    new := count % 2 ^ 32, reason := ev, cmdr := 10, detail := first % 2 ^ 48 + 2 ^ 48 * (last % 2 ^ 48) }

/-- The page to be written next. -/
def unwritten (s : State) : Option LedgerPage := s.ledger.pages.find? (fun p => p.written.isNone)

/-- The segment of the page to be written next is made ready (R428): where it is still in use FULL_POLICY decides. -/
def claimSegment (s : State) : State :=
  if s.ob Obj.ledgerState ≠ 3 then s
  else match s.unwritten with
  | none => s
  | some p =>
    let g := p.number / 65536
    if (s.ledger.index.get? g).isSome && s.ob Obj.ledgerCapacityPages ≠ 0 then s
    else
      let q := s.ob Obj.ledgerNextSeq
      let full := ((s.setOb Obj.ledgerState 4).post 1174 0).ledgerNote 1174 0 q q
      if s.ob Obj.ledgerCapacityPages < 65536 then full
      else match s.segmentHeld g with
      | none => s
      | some o =>
        if s.cf Obj.ledgerFullPolicy = 0 then full
        else
          let e : Segment := s.ledger.index.read ⟨65536 * o, 1, 0, 0, 0, 0, 0⟩ o
          ({ s with ledger := { s.ledger with
              index := s.ledger.index.put o { e with state := 2 }
              store := s.ledger.store.filter (fun (x : Nat × LedgerPage) => x.1 / 65536 ≠ o) } }).post 1175 o

/-- Holder 5's vote on CORES and LEDGER while pages or many records wait, or an old one (R431). -/
def ledgerWants (s : State) : Bool :=
  let l := s.ledger
  !l.pages.isEmpty || decide (2048 ≤ s.ledgerFill) ||
    (!l.openPage.isEmpty && s.passed l.openFirst (ms (s.cf Obj.ledgerDippedHold)))

def ledgerMask : Nat := 1 + 2 ^ 17

/-- The vote placed when a case of R431 begins. -/
def ledgerVote (s : State) : State :=
  if s.ledgerWants && !bitAt (s.votesOf 17) 5 then s.placeVotes 5 ledgerMask else s

/-- The vote withdrawn 100 ms after all is durable and the buffer empty (R431). -/
def ledgerUnvote (s : State) : State :=
  if bitAt (s.votesOf 17) 5 && !s.ledgerWants && s.ledger.openPage.isEmpty && s.passed s.ledger.cleanSince (ms 100) then
    s.dropVotes 5 ledgerMask
  else s

/-- The open page sealed (R422), a checkpoint before it where one is due (R423). A store whose head is not yet known
numbers no page (DEDUCED, assumption 60). -/
def sealOpen (s : State) : State :=
  if !s.ledgerOn || s.ledger.openPage.isEmpty || s.ob Obj.ledgerState = 2 then s
  else
    let s := if s.ledger.nextPage % 65536 = 0 || s.ledger.gap.isSome then s.sealCheckpoint else s
    let l := s.ledger
    let rs := l.openPage.take 62
    let s := { s with ledger := { l with openPage := l.openPage.drop 62, openFirst := s.now } }
    let s := s.sealPage { number := 0, kind := 1, flags := if rs.length < 62 then 2 else 0, epoch := 0
                          firstSeq := (rs.head?.map (·.seq)).getD 0, prevHash := 0, records := rs }
    s.showFill.claimSegment.ledgerVote

/-! ## Durability (R427) -/

/-- USED_PERCENT, and EV1173 once (R428). -/
def showUsed (s : State) : State :=
  let cap := s.ob Obj.ledgerCapacityPages
  let used := min cap (s.ob Obj.ledgerDurablePage + 1 - s.ob Obj.ledgerFormatPage)
  let pc := if cap = 0 then 0 else 100 * used / cap
  let s := s.setOb Obj.ledgerUsedPercent pc
  if s.cf Obj.ledgerUsedWarn ≤ pc && !s.ledger.usedWarned then
    ({ s with ledger := { s.ledger with usedWarned := true } }).post 1173 pc
  else s

/-- The retained index takes a durable page (R426). -/
def indexPage (ix : Table Segment) (p : LedgerPage) : Table Segment :=
  let g := p.number / 65536
  let e : Segment := match ix.get? g with
    | some e => e
    | none => { firstPage := 65536 * g, state := 1, firstSeq := p.firstSeq, lastSeq := p.firstSeq
                firstHtime := p.cpHtime, lastHtime := p.cpHtime, chain := p.hash % 2 ^ 128 }
  let e := match p.records.getLast? with
    | some r => { e with lastSeq := r.seq, lastHtime := r.htime }
    | none => e
  ix.put g e

/-- The pages a completed Flush covers become durable and leave the buffer; the head is copied at most every 100 ms. -/
def makeDurable (s : State) (n : Nat) : State :=
  let l := s.ledger
  let done := l.pages.take n
  match done.getLast? with
  | none => { s with ledger := { l with flushing := none, tries := 0 } }
  | some p =>
    let l := { l with
      pages := l.pages.drop n, flushing := none, tries := 0, cleanSince := s.now
      store := done.foldl (fun t p => t.put p.number p) l.store
      index := done.foldl indexPage l.index }
    let copy := l.headAt = 0 || s.passed l.headAt (ms 100)
    let l := if copy then
        { l with headAt := s.now, head := (p.number, p.hash, s.ob Obj.ledgerNextSeq, s.ob Obj.ledgerEpoch) }
      else l
    ((({ s with ledger := l }).setOb Obj.ledgerDurablePage p.number).showFill).showUsed

/-- Pages written and not yet covered by a Flush. -/
def written (s : State) : Nat := (s.ledger.pages.filter (fun p => p.written.isSome)).length

/-- A Flush is issued for what has been written, unless one runs. -/
def issueFlush (s : State) : State :=
  if s.ledger.flushing.isSome || s.written = 0 then s
  else { s with ledger := { s.ledger with flushing := some s.written } }

/-- A Write or Flush failed (R427): retried three times, then a store fault. -/
def storeFailed (s : State) (status : Nat) : State :=
  let l := s.ledger
  if l.tries < 3 then { s with ledger := { l with tries := l.tries + 1 } }
  else (({ s with ledger := { l with tries := 0, flushing := none, faultAt := s.now } }).setOb Obj.ledgerState 5).post 1169
    status

/-! ## The store at the start of its link (R426, R429, R430) -/

/-- Pages lost for good: the next page is a gap checkpoint (R427). -/
def loseRange (s : State) (a b : Nat) : State :=
  if b < a then s
  else
    let q := s.ob Obj.ledgerNextSeq
    let first := (s.ledger.pages.head?.map (·.firstSeq)).getD q
    (({ s with ledger := { s.ledger with gap := some (a, b) } }).post 1171 (b + 1 - a)).ledgerNote 1171 (b + 1 - a) first q

/-- The store formatted (R429): the index is new, FORMAT_PAGE is the next multiple of 65,536 above the head, and a
checkpoint stands there, which carries the pages of the buffer that can no longer be written. -/
def formatStore (s : State) : State :=
  let l := s.ledger
  let fp := nextSegment l.nextPage
  let lost := l.pages.head?.map (·.number)
  let s := match lost with
    | some a => s.loseRange a (l.nextPage - 1)
    | none => s
  let s := { s with ledger := { s.ledger with
    pages := [], store := [], index := [], nextPage := fp, usedWarned := false, tries := 0, flushing := none } }
  let s := (s.setOb Obj.ledgerFormatPage fp).setOb Obj.ledgerState 3
  let q := s.ob Obj.ledgerNextSeq
  ((s.post 1178 (fp / 65536)).ledgerNote 1178 (fp / 65536) q q).sealCheckpoint.showFill.claimSegment.ledgerVote

/-- The pages of a complete Strike record appended (R430): as they stand where they follow the head, else under new
numbers after a gap checkpoint. -/
def appendStrike (s : State) : State :=
  match s.ledger.strike with
  | [] => s
  | p :: r =>
    let n := r.length + 1
    let l := s.ledger
    let s := { s with ledger := { l with strike := [] } }
    let s := if p.number = l.nextPage then
        let last := (p :: r).getLast?.getD p
        ({ s with ledger := { s.ledger with
            pages := s.ledger.pages ++ (p :: r), nextPage := last.number + 1, chain := last.hash } }).setOb
          Obj.ledgerHeadPage last.number
      else
        let s := (s.loseRange l.nextPage (p.number - 1)).sealCheckpoint
        forEach (p :: r) (fun s (q : LedgerPage) => s.sealPage { q with written := none, gap := none }) s
    ((s.post 1179 n).ledgerNote 1179 n p.firstSeq (s.ob Obj.ledgerNextSeq)).showFill.claimSegment.ledgerVote

/-- The unit's own store found: recording continues from the later head; an older head on the store leads to a gap
checkpoint (R429). -/
def continueStore (s : State) (head : Nat) : State :=
  let stored := s.ledger.head.1
  let s := s.setOb Obj.ledgerState 3
  let s := if head < stored then (s.loseRange (head + 1) stored).sealCheckpoint
    else if s.ledger.nextPage ≤ head then
      let chain := (s.ledger.store.get? head).map (·.hash)
      let s := match s.ledger.pages.head? with
        | some p => s.loseRange p.number (s.ledger.nextPage - 1)
        | none => s
      { s with ledger := { s.ledger with pages := [], nextPage := head + 1, chain := chain.getD s.ledger.chain } }
    else s
  s.appendStrike.claimSegment.ledgerVote

/-- The ledger's records start or stop to be formed (R432): off, or starting. -/
def ledgerRefresh (s : State) : State :=
  if !s.ledgerOn then s.setOb Obj.ledgerState 0
  else if s.ob Obj.ledgerState = 0 then s.setOb Obj.ledgerState 2
  else s

/-- An entry into Provisioned starts an epoch at page 0 (R421, R432). -/
def startEpoch (s : State) : State :=
  let e := (s.ob Obj.ledgerEpoch + 1) % 2 ^ 32
  let s := { s with ledger := { s.ledger with
    openPage := [], pages := [], nextPage := 0, chain := 0, gap := none, head := (0, 0, 0, e), strike := [], lost := 0
    flushing := none, tries := 0 } }
  let s := ((s.setOb Obj.ledgerEpoch e).setOb Obj.ledgerNextSeq 0).setOb Obj.ledgerHeadPage 0
  ((s.ledgerRefresh.post 1168 e).ledgerNote 1168 e 0 0).showFill

/-! ## Commands and reading back (R422, R424, R429, R433) -/

/-- LEDGER_FLUSH: seals and flushes. -/
def doLedgerFlush (s : State) (v : Nat) : Answer :=
  check (v = 1) .valueRange <| .ok s.sealOpen.issueFlush

/-- LEDGER_ATTEST (R424): the head statement and its signature. -/
def doLedgerAttest (s : State) (h v : Nat) : Answer :=
  check (v = 1) .valueRange <|
    let s := s.sealOpen
    let st := toBytes 16 Part.serial ++ toBytes 4 (s.ob Obj.ledgerEpoch) ++ toBytes 4 0 ++
      toBytes 8 (s.ledger.nextPage - 1) ++ toBytes 32 s.ledger.chain
    let sig := Config.ecdsaSign (s.secure.material.read 0 0) (Config.sha256 st)
    .ok (s.setSob h Obj.ledgerAttestOut (ofBytes (st ++ toBytes 64 sig.toNat)))

/-- A store is on the link: recording, full or foreign. -/
def storeThere (s : State) : Bool :=
  let t := s.ob Obj.ledgerState
  t = 3 || t = 4 || t = 6

/-- LEDGER_FORMAT (R429). Without a store it has nothing to format (DEDUCED, assumption 61). -/
def doLedgerFormat (s : State) (v : Nat) : Answer :=
  check (v = 1) .valueRange <| .ok (if s.storeThere then s.formatStore else s)

/-- The bytes of page `p` as LEDGER_PAGES reads them (R433): from the store or the buffer, else zeros. -/
def ledgerPageRead (s : State) (p : Nat) : List Nat :=
  match s.ledger.pages.find? (fun x => x.number = p) with
  | some x => pageBytes x
  | none => match (if s.storeThere && s.ob Obj.ledgerState ≠ 6 then s.ledger.store.get? p else none) with
    | some x => pageBytes x
    | none => List.replicate 4096 0

/-- DOM_SIZE of LEDGER_PAGES (R433). -/
def ledgerPagesSize (s : State) : Nat := 4096 * s.ledger.nextPage

/-- LEDGER_INDEX (R426): 64 bytes per segment. -/
def ledgerIndexBytes (s : State) : List Nat :=
  s.ledger.index.flatMap fun (e : Nat × Segment) =>
    toBytes 8 e.2.firstPage ++ [e.2.state] ++ toBytes 7 0 ++ toBytes 8 e.2.firstSeq ++ toBytes 8 e.2.lastSeq ++
    toBytes 8 e.2.firstHtime ++ toBytes 8 e.2.lastHtime ++ toBytes 16 e.2.chain

end State

/-! ## Meanings -/

/-- R422: 62 records, or SEAL_TIME after the first. -/
def execPageSeal (s : State) : Host.Outcome State Fault Refusal :=
  let l := s.ledger
  whenever (decide (62 ≤ l.openPage.length) || s.passed l.openFirst (ms (s.cf Obj.ledgerSealTime))) s s.sealOpen

/-- R427: the completion of the running Write or Flush; status 0 is success. -/
def execPageWriteDone (flush : Bool) (status : BitVec 16) (s : State) : Host.Outcome State Fault Refusal :=
  if s.ob Obj.ledgerState ≠ 3 then .next s
  else if flush then
    match s.ledger.flushing with
    | none => .next s
    | some n => .next (if status = 0 then (s.makeDurable n).claimSegment else s.storeFailed status.toNat)
  else match s.unwritten with
    | none => .next s
    | some p =>
      if status ≠ 0 then .next (s.storeFailed status.toNat)
      else
        let l := s.ledger
        let s := { s with ledger := { l with
          tries := 0
          pages := l.pages.map (fun (q : LedgerPage) => if q.number = p.number then { q with written := some s.now } else q) } }
        let s := if 8 ≤ s.written then s.issueFlush else s
        .next s.claimSegment

/-- R427: FLUSH_TIME after the oldest written page. -/
def execFlushTimeExpiry (s : State) : Host.Outcome State Fault Refusal :=
  match s.ledger.pages.head? with
  | some { written := some t, .. } =>
    whenever (s.ob Obj.ledgerState = 3 && s.passed t (ms (s.cf Obj.ledgerFlushTime))) s s.issueFlush
  | _ => .next s

/-- R427: every 10 s in a store fault; up, the link starts again. -/
def execLinkRetrain (up : Bool) (s : State) : Host.Outcome State Fault Refusal :=
  whenever (s.ob Obj.ledgerState = 5 && s.passed s.ledger.faultAt (sec 10)) s
    (let s := { s with ledger := { s.ledger with faultAt := s.now } }
     if up then s.setOb Obj.ledgerState 2 else s)

/-- R429: what the retained index shows. -/
def execLedgerLinkStart (found : StoreFound) (s : State) : Host.Outcome State Fault Refusal :=
  if !s.ledgerOn || !s.domainIsOn 17 || s.ob Obj.ledgerState = 5 then .next s
  else match found with
  | .none => .next (s.setOb Obj.ledgerState 1)
  | .blank pages => .next (s.setOb Obj.ledgerCapacityPages (pages.toNat / 65536 * 65536)).formatStore
  | .own pages head => .next ((s.setOb Obj.ledgerCapacityPages (pages.toNat / 65536 * 65536)).continueStore head.toNat)
  | .foreign pages =>
    .next (((s.setOb Obj.ledgerCapacityPages (pages.toNat / 65536 * 65536)).setOb Obj.ledgerState 6).post 1177 0)

/-- R419: a record finds the buffer full. -/
def execRecordsLost (s : State) : Host.Outcome State Fault Refusal :=
  whenever (s.ledgerOn && decide (4096 ≤ s.ledgerSpace)) s s.dropRecord

/-- R434: the critical warning byte of the SMART log. -/
def execSmartRead (warning : BitVec 8) (s : State) : Host.Outcome State Fault Refusal :=
  whenever (s.storeThere && s.passed s.ledger.lastSmart (sec (s.cf Obj.ledgerSmartPeriod))) s
    (let old := s.ob Obj.ledgerSsdWarning
     let s := ({ s with ledger := { s.ledger with lastSmart := s.now } }).setOb Obj.ledgerSsdWarning warning.toNat
     s.postIf (warning.toNat ≠ old && warning.toNat ≠ 0) 1176 warning.toNat)

/-- R422, R435. -/
def execLedgerFlush (sess : Nat) (s : State) : Host.Outcome State Fault Refusal :=
  s.request sess .host (writeOf Obj.ledgerFlush 1 1) (fun _ s => s.doLedgerFlush 1)

/-- R424. -/
def execLedgerAttest (sess : Nat) (s : State) : Host.Outcome State Fault Refusal :=
  s.request sess .host (writeOf Obj.ledgerAttest 1 1) (fun x s => s.doLedgerAttest x.handle 1)

/-- R429. -/
def execLedgerFormat (sess : Nat) (s : State) : Host.Outcome State Fault Refusal :=
  s.request sess .maker (writeOf Obj.ledgerFormat 1 1) (fun _ s => s.doLedgerFormat 1)

end Sys2Proof.Machine
end

