-- ==== Sys2Proof/Machine/Restart.lean ====
section
/-!
DEFINITION. What survives a reset of the Fly die and of the Hoist die, and the Hoist watchdog (R92–R94, R366, R369).
-/

namespace Sys2Proof.Machine
namespace State

/-! ## What MRAM and the Hoist die keep -/

/-- Objects whose value stands in MRAM or in the secure block (R27, R30), or that the Hoist die holds: identity, commit
generation, address (until the next Hoist start), registry, RTC, Strike results, watchdog trips, lifecycle and key slots,
passports, ledger head, update, fault tolerance, fault log. -/
def keptObject (k : Nat) : Bool :=
  let ix := keyIndex k
  let sub := keySub k
  ix = 0x1000 || (ix = 0x10F0 && sub = 3) || ix = 0x1201 || (0x1231 ≤ ix && ix ≤ 0x1240 && sub ≠ 6) || ix = 0x2060 ||
  (ix = 0x2100 && 6 ≤ sub) || (ix = 0x8801 && sub = 2) || (ix = 0x3000 && sub = 1) || ix = 0x3002 ||
  (0x3100 ≤ ix && ix ≤ 0x317F) || (0x4C00 ≤ ix && ix ≤ 0x4C9F) ||
  (ix = 0x9001 && 2 ≤ sub && sub ≤ 7) || (ix = 0x1F00 && sub = 8) || ix = 0x1F01 || ix = 0x1F02 ||
  (0x1F10 ≤ ix && ix ≤ 0x1F12) || (ix = 0xA001 && 4 ≤ sub && sub ≤ 6) || ix = 0xA010 || ix = 0xA020 || ix = 0xA101

/-- Objects that show what the Hoist die goes on doing while the Fly die is in reset (R94, R364, R366): output values and
status, window positions, digital inputs, release states (R409). -/
def hoistObject (k : Nat) : Bool :=
  let ix := keyIndex k
  let sub := keySub k
  (0x4000 ≤ ix && ix < 0x4180 && ix % 16 = 2 && (sub = 1 || sub = 2 || sub = 7)) ||
  (0x4200 ≤ ix && ix < 0x4260 && ix % 16 = 2 && sub ≤ 4) || (0x4400 ≤ ix && ix < 0x4480 && ix % 16 = 2) ||
  (0x4810 ≤ ix && ix < 0x4820 && sub = 1) || (0x4828 ≤ ix && ix < 0x4830) ||
  (0x3430 ≤ ix && ix < 0x3440 && (sub = 2 || sub = 4))

/-- A retry under way goes on at once after a restart: the timebase it was counted on has gone. -/
def again (t : Option Tick) : Option Tick := t.map (fun _ => 0)

/-- The RTC keeps counting through a reset that leaves the Fly die powered. -/
def rtcRuns (cause : Nat) : Bool := cause = 3 || cause = 4 || cause = 5 || cause = 7 || cause = 8 || cause = 9

/-- RTC_SECONDS (R362). -/
def rtcNow (s : State) : Nat := (s.pw.rtcBase + (s.now - s.pw.rtcAt) / sec 1) % 2 ^ 32

/-- Secrets and counters of the Ensign core (R30, R385): powered time goes on from where it stood. -/
def keptSecure (s : State) : Secure :=
  { s.secure with
    setups := [], setupOut := [], zeroWait := [], unlockUntil := none, unlockLevel := 0, haltedAt := none, haltWait := false, extest := false
    testmodePosted := false, poweredBase := s.poweredTime }

/-- The ledger's durable part: the store, its index, the head and the Strike area (R427, R430). Recording resumes after the
head. -/
def keptLedger (s : State) : Ledger :=
  let l := s.ledger
  { store := l.store, index := l.index, head := l.head, strike := l.strike, usedWarned := l.usedWarned
    nextPage := if l.head.2.1 = 0 then 0 else l.head.1 + 1, chain := l.head.2.1 }

/-- The halyard's stored part: registry tags and serials, the chain counter (R69) and the address taken (R67). The FRESHNESS last
accepted from a partner is held in Fly SRAM alone and starts again (DESIGN CHOICE, assumption 105). -/
def keptHalyard (s : State) : Halyard :=
  let h := s.hal
  { addrTaken := h.addrTaken, lastBurst := h.lastBurst, burstsSent := h.burstsSent, lastPulses := h.lastPulses
    chainCounter := h.chainStored + 65536, chainStored := h.chainStored
    partners := h.partners.map (fun (e : Nat × Partner) =>
      (e.1, ({ idTag := e.2.idTag, serial := e.2.serial, capDigest := e.2.capDigest } : Partner))) }

/-- Burgee counters and lock-outs in Ensign MRAM, and releases until they are restored or closed (R405, R408, R409). -/
def keptBurgee (s : State) : Burgee :=
  { latches := s.bg.latches
    ports := s.bg.ports.map (fun (e : Nat × BurgeePort) =>
      (e.1, ({ fails := e.2.fails, lockUntil := e.2.lockUntil } : BurgeePort)))
    implements_ := []
    releases := s.bg.releases.map (fun (e : Nat × Release) =>
      (e.1, { e.2 with counter := e.2.stored + 65536, windowEnd := e.2.windowEnd.map (fun t => t - s.now) })) }

/-- The Fly die enters reset (R22, R94, R358, R366, R369, R444): a Fly start of the given cause will follow. Everything
in Fly SRAM is gone; MRAM, the secure block and the Hoist die keep theirs. -/
def flyReset (s : State) (cause : Nat) : State :=
  let rtc := rtcRuns cause
  let obj := s.obj.filter (fun e => keptObject e.1 || hoistObject e.1)
  let seq := s.ledger.head.2.2.1
  let t : State :=
    { cfg := s.cfg, obj := obj, flog := s.flog, flyStarts := s.flyStarts, pp := s.pp, pending := s.pending
      secure := s.keptSecure, ledger := s.keptLedger, hal := s.keptHalyard, bg := s.keptBurgee
      tb := { lfEstablished := s.tb.lfEstablished }
      pw := { saved := s.pw.saved, rtcBase := if rtc then s.rtcNow else 0 }
      arb := { lent := s.arb.lent, lendSent := s.arb.lendSent, lendTo := s.arb.lendTo }
      boot := { stage := .flyReset, nextCause := cause, coreMv := s.boot.coreMv, vstoreReady := s.boot.vstoreReady
                strikeReport := s.boot.strikeReport, strikeKib := s.boot.strikeKib, dinStarts := s.boot.dinStarts }
      hoist := { s.hoist with armed := false, parked := false, lastFeed := 0, flyReset := true }
      gd := s.gd.map (fun (e : Nat × GdChannel) =>
        (e.1, ({ off := e.2.off, retryAt := again e.2.retryAt, recover := e.2.recover, value := e.2.value, softK := e.2.softK
                 softEnd := again e.2.softEnd, openOn := e.2.openOn, openOff := e.2.openOff } : GdChannel)))
      br := s.br.map (fun (e : Nat × Bridge) =>
        (e.1, ({ stored := e.2.stored, bins := e.2.bins, vbats := e.2.vbats } : Bridge)))
      sv := s.sv.map (fun (e : Nat × SvChannel) =>
        (e.1, ({ off := e.2.off, setpoint := e.2.setpoint, value := e.2.value, retryAt := again e.2.retryAt
                 recover := e.2.recover } : SvChannel)))
      dout := s.dout.map (fun (e : Nat × Dout) =>
        (e.1, ({ value := e.2.value, off := e.2.off, hot := e.2.hot, retries := e.2.retries, retryAt := again e.2.retryAt
                 recover := e.2.recover, clampAt := again e.2.clampAt, openOn := e.2.openOn, openOff := e.2.openOff } : Dout)))
      mx := s.mx.map (fun (e : Nat × MxPort) =>
        (e.1, ({ off := e.2.off, hot := e.2.hot, retries := e.2.retries, retryAt := again e.2.retryAt
                 recover := e.2.recover, eff := e.2.eff } : MxPort)))
      din := s.din.map (fun (e : Nat × Din) => (e.1, ({ level := e.2.level } : Din)))
      maps := s.maps.map (fun (e : Nat × PiMap) =>
        (e.1, ({ role := e.2.role, hostId := e.2.hostId, recorded := e.2.recorded } : PiMap)))
      upd := { areas := s.upd.areas, record := s.upd.record, running := s.upd.running, keep := s.upd.keep }
      ft := { copies := s.ft.copies, stopped := s.ft.stopped, stagesOff := s.ft.stagesOff, retest := s.ft.retest
              regionsLost := s.ft.regionsLost, split := s.ft.split } }
  let t := if rtc then t else (t.setOb Obj.rtcAlarm 0).setOb Obj.rtcValid 0
  t.setOb Obj.ledgerNextSeq seq

/-- LOCKED_OUT of the fans stands through a Fly reset (R175). -/
def flyResetKeeping (s : State) (cause : Nat) : State :=
  let t := s.flyReset cause
  forRange 4 (fun t f => if s.bit (Obj.fanFlags f) 2 then
    (t.setBit (Obj.fanFlags f) 2 true).setOb (Obj.fanState f) 4 else t) t

/-- The hoist safe state applied (R93): a window that was moving loses its normalisation (R166). -/
def applyHoistSafe (s : State) : State :=
  (forRange 6 (fun s h => if s.cf (Obj.brFunction h) = 2 && ((s.brCh h).dir = 1 || (s.brCh h).dir = 2) then
    s.loseNormal h else s) s).hoistSafe

/-- The hoist safe state and a Fly reset (R22, R94, R366, R444, R467). What the Hoist die posts with it waits for MAST's start. -/
def hoistRestart (s : State) (cause : Nat) : State :=
  let a := s.applyHoistSafe
  let t := a.flyResetKeeping cause
  { t with fab := { t.fab with inFlight := t.fab.inFlight ++ a.fab.inFlight.drop s.fab.inFlight.length } }

/-- The Hoist die stops (R363, R369): every output goes to its power-up state; the address and what the Hoist die alone
held are gone. -/
def hoistOff (s : State) (cause : Nat) : State :=
  let moving (h : Nat) : Bool := s.cf (Obj.brFunction h) = 2 && ((s.brCh h).dir = 1 || (s.brCh h).dir = 2)
  let t := s.flyResetKeeping cause
  let t := { t with
    obj := t.obj.filter (fun e => !hoistObject e.1 && keyIndex e.1 ≠ 0x1201)
    gd := [], sv := [], dout := [], mx := [], din := []
    br := s.br.map (fun (e : Nat × Bridge) =>
      (e.1, ({ stored := if e.2.dir = 1 || e.2.dir = 2 then none else e.2.stored, bins := e.2.bins, vbats := e.2.vbats } : Bridge)))
    hal := { t.hal with addrTaken := false, lastBurst := 0, burstsSent := 0, lastPulses := 0 }
    hoist := {}
    bg := { t.bg with latches := [] }
    ft := { t.ft with stagesOff := [] }
    tb := {}
    boot := { t.boot with stage := .off, vstoreReady := false } }
  let t := forRange 5 (fun t n => t.postIf (!bitAt (s.ob Obj.phases) n) 1318 n) t
  let t := ((t.setOb Obj.storedAddress (s.ob Obj.storedAddress)).setOb Obj.phases 0x1F).setOb Obj.unitAddress 0
  let t := forRange 6 (fun t h => if moving h && s.brFlag h 6 then t.brSlot h 2 (s.ob (Obj.brRipplePos h)) else t) t
  forRange 16 (fun t r => (t.setOb (Obj.relState r) (s.ob (Obj.relState r))).setOb (Obj.relOpenedBy r)
    (s.ob (Obj.relOpenedBy r))) t

/-! ## The Hoist watchdog (R92–R94) -/

/-- No feed word for HOIST_WDG_TIMEOUT; the Hoist RC oscillator runs at most 5 % fast (R25, R92). -/
def watchdogDue (s : State) : Bool :=
  s.hoist.armed && !s.hoist.parked && s.passed s.hoist.lastFeed (95000 * s.cf Obj.hoistWdgTimeout)

/-- A trip (R93, R94): counted, and reported once MAST runs again. -/
def watchdogTrip (s : State) : State :=
  let s := s.bump Obj.hoistWdgTrips
  ({ s with hoist := { s.hoist with tripToReport := true } }).hoistRestart 3

/-- The Fly die is released and boots (R23, R94, R363): the timebase will start from 0, a Fly start is counted. -/
def flyRelease (s : State) : State :=
  { s with boot := { s.boot with stage := .pllWait }, hoist := { s.hoist with flyReset := false }
           flyStarts := (s.flyStarts + 1) % 2 ^ 32, tb := { lfEstablished := s.tb.lfEstablished } }

end State

/-! ## Meanings -/

/-- R92. -/
def execHoistWatchdogTrip (s : State) : Host.Outcome State Fault Refusal :=
  whenever s.watchdogDue s s.watchdogTrip

/-- R94, R444, R467: 1 ms after a reset that the Hoist die began. -/
def execFlyResetRelease (s : State) : Host.Outcome State Fault Refusal :=
  let c := s.boot.nextCause
  whenever (s.boot.stage = .flyReset && (c = 3 || c = 4 || c = 8)) s s.flyRelease

end Sys2Proof.Machine
end

