-- ==== Sys2Proof/Machine/Halyard.lean ====
section
/-!
DEFINITION. The halyard (spec/03): addresses, presence and the registry, capability exchange, loans between units (R126–
R130) and halyard time.
-/

namespace Sys2Proof.Machine
namespace State

/-- The unit's address, 0 none. -/
def address (s : State) : Nat := s.ob Obj.unitAddress

/-- The address is confirmed (R67, R71). -/
def confirmed (s : State) : Bool := s.ob Obj.addrState = 2

/-- The frame engine hears the segment: its domain and tile are in service. -/
def halyardHears (s : State) : Bool :=
  s.applied && s.domainIsOn 2 && !s.ft.stopped.contains 9

/-- The unit executes and answers what it receives on the halyard (R65): it has an address. -/
def halyardServes (s : State) : Bool := s.halyardHears && s.address ≠ 0

/-- The unit forms frames for the halyard (R63, R65, R70): it has an address and is in no conflict. -/
def halyardTalks (s : State) : Bool := s.halyardServes && (s.ob Obj.addrState = 1 || s.ob Obj.addrState = 2)

/-- The unit may transmit (R63, R65, R70): PLCA status is true besides. -/
def halyardSends (s : State) : Bool := s.halyardTalks && s.bit Obj.linkStatus 1

def partner (s : State) (a : Nat) : Partner := s.hal.partners.read {} a
def setPartner (s : State) (a : Nat) (p : Partner) : State :=
  { s with hal := { s.hal with partners := s.hal.partners.write {} a p } }

/-- IDENTITY_TAG of a serial (R68). -/
def identityTag (serial : Nat) : Nat := crc32c (toBytes 16 serial)

/-! ## Sending (R48, R63, R65, R73, R76) -/

/-- The PLCA ID of the unit, 255 while it has none, and the node count of the segment (R63). -/
def plcaId (s : State) : Nat := if s.address = 0 then 255 else s.address
def plcaNodes : Nat := 17

/-- Source address 02:53:57:00:00:aa (R65), the address of HOST_MAC, and the multicast addresses of chain frames (R65) and of
time synchronisation (R73); the first octet lies lowest. -/
def unitMac (s : State) : Nat := ofBytes [0x02, 0x53, 0x57, 0, 0, s.address]
def toHost (s : State) : HalDest := .mac (s.cf Obj.hostMac)
def toChain : HalDest := .mac (ofBytes [0x03, 0x53, 0x57, 0, 0, 0xFF])
def toTime : HalDest := .mac (ofBytes [0x01, 0x80, 0xC2, 0, 0, 0x0E])

/-- A dictionary frame without its MAC. -/
def frameBytes (ty transaction sess fresh : Nat) (payload : List Nat) : List Nat :=
  toBytes 2 0x5357 ++ [1, ty] ++ toBytes 2 transaction ++ toBytes 2 sess ++ toBytes 4 fresh ++ toBytes 2 payload.length ++
    payload

/-- A dictionary frame to send. -/
def dictFrame (s : State) (use : HalUse) (dest : HalDest) (body : List Nat) : HalFrame :=
  { use := use, dest := dest, source := s.unitMac, etherType := 0x88B5, body := body }

/-- A chain frame to send. -/
def chainFrame (s : State) (use : HalUse) (body : List Nat) : HalFrame :=
  { use := use, dest := toChain, source := s.unitMac, etherType := 0x88B6, body := body }

/-- Data bytes of a map. -/
def piBytes (s : State) (m : Nat) : Nat := ceilDiv ((s.piEntries m).map piBits).sum 8

/-- Bit times a halyard frame with a payload takes on the wire: Ethernet header, check sequence, preamble and gap, with
the shortest frame of 64 bytes (R48, R76). -/
def wireBits (payload : Nat) : Nat := 8 * (20 + max 64 (14 + payload + 4))

/-- Wire bits per second a halyard TX map claims (R76), as a numerator and a denominator: halyard header, map header, data and
MAC, each PI_PERIOD, and each 10 ms where that is 0. -/
def piClaim (s : State) (m : Nat) : Nat × Nat :=
  let p := s.cf (Obj.piPeriod m)
  (wireBits (14 + 10 + s.piBytes m + 16) * 1000, if p = 0 then 10 else p)

/-- The enabled halyard TX maps. -/
def halyardMaps (s : State) : List Nat :=
  (List.range 64).filter (fun m => s.cf (Obj.piEnable m) = 1 && s.cf (Obj.piDirection m) = 1 && s.cf (Obj.piPath m) = 0)

/-- Their claims added up exactly. -/
def claimSum (s : State) : Nat × Nat :=
  s.halyardMaps.foldl (fun (x : Nat × Nat) m => (x.1 * (s.piClaim m).2 + (s.piClaim m).1 * x.2, x.2 * (s.piClaim m).2)) (0, 1)

/-- Time synchronisation, capability exchange and notices share what presence and the maps' claims leave (R76). -/
def sharedUse : HalUse → Bool
  | .capability | .notice | .time => true
  | .answer | .presence | .map _ => false

/-- The frames sent over the last 100 ms and their bit times. -/
def recentLoad (s : State) : List HalLoad := s.hal.txLoad.filter (fun x => decide (s.now < x.at_ + ms 100))
def loadBits (l : List HalLoad) : Nat := (l.map HalLoad.bits).sum

/-- A frame may go now (R63, R76): PLCA is true, and the last 100 ms stay within 18,000 bit times, and within the share of its
use. Answers to the host, which R76 names in no share, keep to the ceiling alone (DESIGN CHOICE, assumption 102). -/
def halMay (s : State) (f : HalFrame) : Bool :=
  let n := wireBits f.body.length
  let c := s.claimSum
  s.halyardSends && decide (loadBits s.recentLoad + n ≤ 18000) &&
    (!sharedUse f.use || decide (loadBits (s.recentLoad.filter HalLoad.shared) + n + c.1 / (10 * c.2) ≤ 11280))

/-- A frame goes out at its transmit opportunity. -/
def halSent (s : State) (f : HalFrame) : State :=
  let load := s.recentLoad ++ [{ at_ := s.now, bits := wireBits f.body.length, shared := sharedUse f.use }]
  let s := ({ s with hal := { s.hal with txSent := some f, txLoad := load } }).bump Obj.txFrames
  match f.use with
  | .map m => s.bump (Obj.piFrameCount m)
  | _ => s

/-- The frames that wait go out in order, each that may (R63, R65, R76). -/
def halDrain (s : State) : State :=
  forEach s.hal.txQueue (fun s f => if s.halMay f then s.halSent f
    else { s with hal := { s.hal with txQueue := s.hal.txQueue ++ [f] } }) { s with hal := { s.hal with txQueue := [] } }

/-- A newer frame of this use takes the place of one that waits (R58 for maps; for the others DESIGN CHOICE, assumption 102). -/
def replacesUse : HalUse → Bool
  | .presence | .map _ => true
  | .answer | .capability | .notice | .time => false

/-- A frame is queued and sent when it may be (R63, R76); a unit without an address or in conflict forms none. -/
def halSend (s : State) (f : HalFrame) : State :=
  if !s.halyardTalks then s
  else
    let q := if replacesUse f.use then s.hal.txQueue.filter (fun g => g.use ≠ f.use) else s.hal.txQueue
    ({ s with hal := { s.hal with txQueue := q ++ [f] } }).halDrain

/-! ## Addresses (R66, R67, R71) -/


/-- Entries of a known serial become empty, but one (R70). -/
def emptyEntries (s : State) (serial but : Nat) : State :=
  forRange 16 (fun s i =>
    let a := i + 1
    if serial ≠ 0 && a ≠ but && s.ob (Obj.ptState a) ≠ 0 && s.ob (Obj.ptSerial a) = serial then
      ((s.setOb (Obj.ptState a) 0).setOb (Obj.ptSerial a) 0).setPartner a
        { fresh := (s.partner a).fresh }
    else s) s

/-- The unit's own registry entry follows its own state (R70). -/
def showOwn (s : State) : State :=
  let a := s.address
  if a = 0 then s
  else if s.confirmed then
    let s := (s.emptyEntries Part.serial a).setOb (Obj.ptState a) 1
    (((s.setOb (Obj.ptSerial a) Part.serial).setOb (Obj.ptMastVersion a) (s.ob Obj.mastVersion)).setOb
      (Obj.ptCompatEpoch a) (s.ob Obj.compatEpoch)).setOb (Obj.ptSchema a) (s.ob Obj.schemaVersion)
  else if s.ob Obj.addrState = 1 then s.setOb (Obj.ptState a) 3
  else s.setOb (Obj.ptState a) 4

/-- The address taken (R67): confirmed when it is the stored one, else pending. -/
def takeAddress (s : State) (a source : Nat) : State :=
  let s := { s with hal := { s.hal with addrTaken := true } }
  let s := (s.setOb Obj.unitAddress a).setOb Obj.addrSource source
  (s.setOb Obj.addrState (if s.ob Obj.storedAddress = a then 2 else 1)).showOwn

/-- The state of a unit that has no address (R67): 4 when the last burst carried a code above 16. -/
def showNoAddress (s : State) : State :=
  s.setOb Obj.addrState (if 16 < s.hal.lastBurst then 4 else 0)

/-- An accepted code (R66, R67). EV1459 carries the new code (DESIGN CHOICE, assumption 104). -/
def addressCode (s : State) (n : Nat) : State :=
  let old := s.ob Obj.addrInCode
  let s := ({ s with hal := { s.hal with lastBurst := n } }).setOb Obj.addrInCode (n % 256)
  if !s.hal.addrTaken then (if 1 ≤ n && n ≤ 16 then s.takeAddress n 1 else s)
  else if s.address = 0 then s.showNoAddress
  else s.postIf (n % 256 ≠ old) 1459 n

/-- ADDR_CONFIRM (R71). -/
def doAddrConfirm (s : State) (a : Nat) : Answer :=
  let st := s.ob Obj.addrState
  if st = 0 || st = 4 then
    check (1 ≤ a && a ≤ 16) .valueRange <| .ok ((s.setOb Obj.storedAddress a).takeAddress a 2)
  else check (a = s.address) .valueRange <|
    if st = 1 then .ok (((s.setOb Obj.storedAddress a).setOb Obj.addrState 2).showOwn)
    else if st = 2 then .ok { s with hal := { s.hal with reannounce := true } }
    else .ok s

/-! ## Chain frames (R68, R69) -/

/-- The MAC of a chain frame over its bytes, truncated; 0 without a chain key. -/
def chainMac (s : State) (bytes : List Nat) : Nat :=
  let k := s.cf Obj.chainKeySlot
  if k = 0xFF then 0 else (Config.cmac (s.secure.material.read 0 k) bytes).toNat % 2 ^ 64

/-- Bytes 0–3 of a chain frame of a type, its ADDRESS, and FRESHNESS. -/
def chainHead (type a : Nat) : List Nat := toBytes 2 0x5348 ++ [1, type, a]

/-- Bytes 0–35 of a presence frame (R68). -/
def presenceBytes (a st fresh tag digest budget : Nat) : List Nat :=
  chainHead 1 a ++ [st] ++ toBytes 6 fresh ++ toBytes 4 tag ++ toBytes 4 digest ++ toBytes 16 budget

/-- Bytes of a capability request or response that its MAC covers. -/
def capabilityBytes (type a fresh : Nat) (content : List Nat) : List Nat :=
  chainHead type a ++ [0] ++ toBytes 6 fresh ++ content

/-- The content of a capability record, in the layout of the identity objects (R72). -/
def capabilityContent (r : CapabilityRecord) : List Nat :=
  toBytes 16 r.serial.toNat ++ [r.stepping.toNat, r.grade.toNat] ++ toBytes 4 r.mast.toNat ++ toBytes 4 r.ensign.toNat ++
  toBytes 4 r.hoist.toNat ++ toBytes 4 r.node.toNat ++ toBytes 2 r.epoch.toNat ++ toBytes 2 r.schema.toNat ++
  (r.capIds.take 16).flatMap (fun c => toBytes 2 c.toNat) ++ toBytes 2 r.maxShare.toNat

/-- The unit's own capability record (R47, R72). -/
def ownCapability (s : State) : List Nat :=
  toBytes 16 Part.serial ++ [s.ob Obj.stepping, Part.grade] ++ toBytes 4 (s.ob Obj.mastVersion) ++
  toBytes 4 (s.ob Obj.ensignVersion) ++ toBytes 4 (s.ob Obj.hoistVersion) ++ toBytes 4 (s.ob Obj.nodeVersion) ++
  toBytes 2 (s.ob Obj.compatEpoch) ++ toBytes 2 (s.ob Obj.schemaVersion) ++
  ([1, 2, 3, 4, 0x10, 0x11, 0x12, 0x20, 0x21, 0x22, 0x23, 0x30].flatMap (fun c => toBytes 2 c)) ++
  toBytes 2 (s.cf Obj.maxShare)

/-- A chain frame is accepted (R69): newer than the last from its address, and its MAC verifies. -/
def chainAccepted (s : State) (h : ChainHeader) (bytes : List Nat) : Bool :=
  decide ((s.partner h.address).fresh < h.fresh.toNat) && h.mac.toNat = s.chainMac bytes

/-- The next chain counter value; stored at the first frame after a start and every 65,536 frames from there (R69). -/
def chainCount (s : State) : State :=
  let h := s.hal
  let c := h.chainCounter + 1
  { s with hal := { h with chainCounter := c, chainStored := if h.chainStored + 65536 ≤ c then c else h.chainStored } }

/-- A capability frame formed, with the next counter value, and sent (R69, R72). -/
def sendCapability (s : State) (type a : Nat) (content : List Nat) : State :=
  let s := s.chainCount
  let b := capabilityBytes type a s.hal.chainCounter content
  s.halSend (s.chainFrame .capability (b ++ toBytes 8 (s.chainMac b)))

/-- A capability request naming an address (R72); a unit that never transmits asks none. -/
def askCapability (s : State) (a tries : Nat) : State :=
  if !s.halyardTalks then s
  else
    let s := s.setPartner a { s.partner a with capTries := tries, capAsked := some s.now }
    ({ s with hal := { s.hal with capRequested := [a] } }).sendCapability 2 s.address [a]

/-! ## Shares and loans (R126–R129) -/

/-- Fields of a BUDGET (R127). -/
def budShare (b : Nat) : Nat := bitsOf b 0 16
def budUsed (b : Nat) : Nat := bitsOf b 16 16
def budWant (b : Nat) : Nat := bitsOf b 32 16
def budLend (b : Nat) : Nat := bitsOf b 48 16
def budTo (b : Nat) : Nat := bitsOf b 64 8
def budOver (b : Nat) : Bool := bitAt b 73
def budHeld (b : Nat) : Nat := bitsOf b 80 16
def budSlew (b : Nat) : Nat := bitsOf b 96 16
def budBase (b : Nat) : Nat := bitsOf b 112 16

/-- WANT_I (R127): the shortfall of the head request, within what MAX_SHARE leaves. -/
def wantI (s : State) : Nat :=
  if !s.confirmed then 0
  else match s.arb.queue with
  | [] => 0
  | r :: _ =>
    min (s.sumI - s.presentAt (entryKey r.sig r.cls) + profTop r.prof - s.share) (s.cf Obj.maxShare - s.share)

/-- HELD_MASK (R127). -/
def heldMask (s : State) : Nat := (s.arb.borrowed.map (fun b => 2 ^ (b.1 - 1))).sum

/-- The BUDGET of the unit's frame (R127). -/
def budget (s : State) : Nat :=
  let on := s.confirmed
  saturate s.share 65535 + 2 ^ 16 * saturate s.sumI 65535 + 2 ^ 32 * saturate s.wantI 65535 +
  2 ^ 48 * (if on then s.arb.lendSent else 0) + 2 ^ 64 * (if on then s.arb.lendTo else 0) +
  (if s.arb.sagC || s.arb.sagA then 2 ^ 72 else 0) + (if s.share < s.sumI then 2 ^ 73 else 0) +
  2 ^ 80 * s.heldMask + 2 ^ 96 * s.cf Obj.slewShare + 2 ^ 112 * s.cf Obj.baseI

/-- Partners whose entries are present. -/
def presentPartners (s : State) : List Nat :=
  ((List.range 16).map (· + 1)).filter (fun a => a ≠ s.address && s.ob (Obj.ptState a) = 1 && (s.partner a).heard)

/-- Sums of BASE_I and SLEW_SHARE over the present units, this one among them (R126). -/
def machineSums (s : State) : Nat × Nat :=
  s.presentPartners.foldl (fun (x : Nat × Nat) a => (x.1 + budBase (s.partner a).budget, x.2 + budSlew (s.partner a).budget))
    (s.cf Obj.baseI, s.cf Obj.slewShare)

/-- Oversubscription judged (R126). -/
def judgeShares (s : State) : State :=
  let x := s.machineSums
  let isOver := decide (s.cf Obj.machineI < x.1) || decide (s.cf Obj.machineSlew < x.2)
  let was := s.arb.oversub
  ({ s with arb := { s.arb with oversub := isOver } }).postIf (isOver && !was) 1228 x.1

/-- The unit lends (R71, R126, R128). -/
def lends (s : State) : Bool := s.confirmed && s.cf Obj.lendEnable = 1 && !s.arb.oversub

/-- What the unit can spare (R128 rule 1). -/
def spare (s : State) : Nat := s.share - (s.sumI + s.wantI + s.cf Obj.lendReserve)

/-- The present, confirmed unit with the largest WANT_I, lowest address first. -/
def neediest (s : State) : Option Nat :=
  s.presentPartners.foldl (fun best a =>
    let w := budWant (s.partner a).budget
    if (s.partner a).addrState ≠ 2 || w = 0 then best
    else match best with
      | none => some a
      | some b => if budWant (s.partner b).budget < w then some a else best) none

def loanEvent (s : State) (ev a i : Nat) : State := s.post ev (2 ^ 16 * a + i)

/-- What a lender does as it builds its frame (R128 rules 1, 2, 4). It takes rule 4's reduction whenever it may (DESIGN
CHOICE, assumption 64). -/
def lendStep (s : State) : State :=
  let a := s.arb
  if !s.lends || a.frozen then s
  else if a.lent = 0 then
    match s.neediest with
    | none => s
    | some b =>
      let i := min s.spare (budWant (s.partner b).budget)
      if i = 0 then s
      else ({ s with arb := { a with lent := i, lendSent := i, lendTo := b } }).loanEvent 1226 b i
  else if a.lendSent = 0 then s
  else
    let b := a.lendTo
    let x := (s.partner b).budget
    let unused := budShare x - (budUsed x + budWant x)
    let w := s.wantI
    if w ≠ 0 && unused ≠ 0 && a.regain.isNone then
      let r := min (min w unused) a.lendSent
      { s with arb := { a with lendSent := a.lendSent - r, regain := some r, regainAt := s.htime / 10000000 } }
    else
      let i := min s.spare (budWant x)
      if s.neediest = some b && i ≠ 0 then
        ({ s with arb := { a with lent := a.lent + i, lendSent := a.lendSent + i } }).loanEvent 1225 b (a.lendSent + i)
      else s

/-- What a lender does at a frame of its borrower (R128 rules 3, 4, 5; R130): a reduction comes back at a frame of a later 10 ms
boundary than the one it was sent at. A loan is regained once it has been ended or
frozen (DEDUCED, assumption 65). -/
def lenderHears (s : State) (b x : Nat) : State :=
  let a := s.arb
  if a.lent = 0 || a.lendTo ≠ b then s
  else
    let unused := budShare x - (budUsed x + budWant x)
    if (a.lendSent = 0 || a.frozen) && !bitAt (budHeld x) (s.address - 1) && !budOver x then
      (({ s with arb := { a with lent := 0, lendSent := 0, lendTo := 0, frozen := false, regain := none } }).loanEvent 1225 b
        a.lent).runQueue
    else if a.frozen then s
    else match a.regain with
    | some r =>
      if budOver x || decide (s.htime / 10000000 ≤ a.regainAt) then s
      else (({ s with arb := { a with lent := a.lent - r, regain := none } }).loanEvent 1225 b r).runQueue
    | none =>
      if a.lendSent ≠ 0 && decide (budShare x ≥ budUsed x + budWant x) && decide (a.lendSent ≤ unused) then
        ({ s with arb := { a with lendSent := 0 } }).loanEvent 1225 b a.lendSent
      else s

/-- A loan dropped (R129 rule 2). -/
def dropLoan (s : State) (l : Nat) : State :=
  if (s.arb.borrowed.get? l).isNone then s
  else (({ s with arb := { s.arb with borrowed := s.arb.borrowed.erase l } }).loanEvent 1224 l 0)

/-- What a borrower does at a lender's frame (R129). -/
def borrowerHears (s : State) (l x : Nat) : State :=
  let named := budTo x = s.address && s.address ≠ 0 && budLend x ≠ 0
  if !named then ({ s with arb := { s.arb with ignored := s.arb.ignored.filter (fun i => i != l) } }).dropLoan l
  else
    let have_ := s.arb.borrowed.get? l
    let mayTake := s.confirmed && s.cf Obj.borrowEnable = 1 && !s.arb.oversub && !s.arb.ignored.contains l
    if have_ = some (budLend x) || (have_.isNone && !mayTake) then s
    else
      (({ s with arb := { s.arb with borrowed := s.arb.borrowed.put l (budLend x) } }).loanEvent 1224 l
        (budLend x)).runQueue

/-! ## The registry (R70) -/

/-- An entry becomes present: it takes the sender's identity (R70). Its serial is the one the sender's capability response has
given; until that comes, a new holder's serial reads 0. -/
def entryPresent (s : State) (a tag : Nat) : State :=
  let p := s.partner a
  let s := (s.setOb (Obj.ptState a) 1).setPartner a { p with idTag := tag, pendingTag := none }
  if p.serial ≠ 0 && identityTag p.serial = tag then s.setOb (Obj.ptSerial a) p.serial
  else if p.idTag = tag then s else s.setOb (Obj.ptSerial a) 0

/-- A valid presence frame moves the entry of its address (R70). -/
def registryMove (s : State) (a st tag : Nat) : State :=
  let p := s.partner a
  let pend (s : State) : State :=
    if st = 1 then s.setPartner a { s.partner a with pendingTag := some tag } else s
  match s.ob (Obj.ptState a) with
  | 0 =>
    if st = 1 then ((pend (s.setOb (Obj.ptState a) 3)).post 1456 a).askCapability a 1
    else if st = 2 then ((s.entryPresent a tag).post 1456 a).askCapability a 1
    else s
  | 2 =>
    if tag = p.idTag then ((s.entryPresent a tag).post 1456 a).askCapability a 1
    else ((pend (s.setOb (Obj.ptState a) 3)).post 1460 a).askCapability a 1
  | 3 =>
    if st = 2 && p.pendingTag = some tag then
      let s := s.entryPresent a tag
      ((s.emptyEntries (s.ob (Obj.ptSerial a)) a).post 1461 a).askCapability a 1
    else pend s
  | _ => s

/-- A presence frame accepted (R70, R72, R126–R129). -/
def presenceTaken (s : State) (f : ChainPresence) : State :=
  let a : Nat := f.header.address
  let st := f.addrState.toNat
  let tag := f.idTag.toNat
  if a = s.address then
    let s := s.setPartner a { s.partner a with fresh := f.header.fresh.toNat }
    if tag = identityTag Part.serial || s.ob Obj.addrState = 3 then s
    else ((s.setOb Obj.addrState 3).showOwn).post 1462 a
  else
    let digest := (s.partner a).capDigest
    let s := s.setPartner a { s.partner a with
      fresh := f.header.fresh.toNat, addrState := st, capDigest := f.capDigest.toNat, budget := f.budget.toNat, heard := true }
    let s := s.setOb (Obj.ptLastSeen a) (s.now % 2 ^ 64)
    let before := s.ob (Obj.ptState a)
    let s := s.registryMove a st tag
    let s := if before = s.ob (Obj.ptState a) && before ≠ 0 && digest ≠ f.capDigest.toNat then s.askCapability a 1 else s
    ((s.judgeShares.lenderHears a f.budget.toNat).borrowerHears a f.budget.toNat)

/-- No valid presence from a partner (R70, R129). -/
def presenceLost (s : State) (a : Nat) : State :=
  let s := (s.setOb (Obj.ptState a) 2).setPartner a { s.partner a with heard := false, pendingTag := none, capAsked := none }
  let s := s.post 1457 a
  let held := (s.arb.borrowed.get? a).isSome
  let s := if held then { s with arb := { s.arb with ignored := a :: s.arb.ignored.filter (fun i => i != a) } } else s
  (s.dropLoan a).judgeShares

/-! ## Halyard time (R73–R75) -/

/-- A Sync and its Follow_Up taken (R73, R74): `t` the tick at which it arrived, `origin` the host's time, `every` the interval
it announces. The offset is judged, halyard time follows the host's timestamp, and the rate ratio is that of the two latest
Syncs (DEDUCED, assumption 66); the 3 intervals of R74 are counted in the announced one (DESIGN CHOICE, assumption 120). In
holdover only a Sync within ±500 ns ends it; another leaves the last rate ratio in force. -/
def syncTaken (s : State) (t origin every : Nat) : State :=
  let host := origin + s.ob Obj.pathDelay
  let off : Int := (host : Int) - s.htimeAt t
  let good := decide (-500 ≤ off) && decide (off ≤ 500)
  let h := s.hal
  let dt := t - h.refTick
  let st := s.ob Obj.syncState
  let s := s.setOb Obj.offset (wordOf 4 off)
  let n := if good then h.goodSyncs + 1 else 0
  let s := { s with hal := { h with lastSync := some s.now, syncInterval := every, goodSyncs := n } }
  if st = 3 && !good then s
  else
    let s := if st = 0 || dt = 0 then s
      else
        let dn : Int := (host : Int) - h.refNs
        s.setOb Obj.rateRatio (wordOf 4 ((dn - 10 * dt) * 1000000000 / (10 * dt)))
    let s := { s with hal := { s.hal with refTick := t, refNs := host } }
    match st with
    | 0 => { (s.setOb Obj.syncState 1) with hal := { s.hal with goodSyncs := 0 } }
    | 1 => if 8 ≤ n then (s.setOb Obj.syncState 2).post 1464 0 else s
    | 3 => (s.setOb Obj.syncState 2).post 1464 0
    | _ => s

/-- Time synchronisation runs. -/
def syncRuns (s : State) : Bool := s.halyardHears && s.cf Obj.syncEnable = 1

end State

/-! ## Meanings -/

/-- R66: every 5 ms on the Hoist RC oscillator, once the unit has an address. -/
def execAddrBurstSend (s : State) : Host.Outcome State Fault Refusal :=
  whenever (s.boot.stage ≠ .off && s.address ≠ 0 && s.ob Obj.pwrState ≠ pwrFurled) s
    { s with hal := { s.hal with burstsSent := s.hal.burstsSent + 1, lastPulses := s.address + 1 } }

/-- R66, R67: held high for 10 ms means 1, a burst of n pulses n. -/
def execAddrCodeAccept (heldHigh : Bool) (pulses : Nat) (s : State) : Host.Outcome State Fault Refusal :=
  whenever (s.boot.stage ≠ .off && (heldHigh || pulses ≠ 0)) s (s.addressCode (if heldHigh then 1 else pulses))

/-- R67: ADDR_WAIT from the Hoist power-on reset's release; an accepted code above 16 leaves the unit without an address. -/
def execAddrWaitExpiry (s : State) : Host.Outcome State Fault Refusal :=
  whenever (s.boot.stage ≠ .off && !s.hal.addrTaken) s
    (if s.hal.lastBurst = 0 && s.ob Obj.storedAddress ≠ 0 then s.takeAddress (s.ob Obj.storedAddress) 2
     else ({ s with hal := { s.hal with addrTaken := true } }).showNoAddress)

/-- R71. -/
def execAddrConfirm (sess : Nat) (a : BitVec 8) (s : State) : Host.Outcome State Fault Refusal :=
  s.request sess .service (writeOf Obj.addrConfirm 1 a.toNat) (fun _ s => s.doAddrConfirm a.toNat)

/-- R68, R127, R128: every 10 ms of halyard time. -/
def execPresenceSend (s : State) : Host.Outcome State Fault Refusal :=
  if !s.halyardTalks then whenever s.applied s s.judgeShares
  else
    let s := s.judgeShares.lendStep.chainCount
    let st := if s.hal.reannounce then 1 else s.ob Obj.addrState
    let tag := State.identityTag Part.serial
    let digest := crc32c s.ownCapability
    let b := s.budget
    let bytes := State.presenceBytes s.address st s.hal.chainCounter tag digest b
    let f : PresenceFrame := { address := s.address, addrState := st, fresh := s.hal.chainCounter, idTag := tag
                               capDigest := digest, budget := b
                               mac := s.chainMac bytes }
    let s := { s with hal := { s.hal with sent := some f, reannounce := false } }
    .next (s.halSend (s.chainFrame .presence (bytes ++ toBytes 8 f.mac ++ [0, 0])))

/-- R69, R70. -/
def execPresenceReceive (f : ChainPresence) (s : State) : Host.Outcome State Fault Refusal :=
  let h := f.header
  let bytes := State.presenceBytes h.address f.addrState.toNat h.fresh.toNat f.idTag.toNat f.capDigest.toNat f.budget.toNat
  if !s.halyardHears || h.address.val = 0 then .next s
  else if !s.chainAccepted h bytes then .next (s.bump Obj.chainRejects)
  else .next (s.presenceTaken f)

/-- R70. -/
def execPresenceTimeout (a : Fin 17) (s : State) : Host.Outcome State Fault Refusal :=
  let st := s.ob (Obj.ptState a)
  whenever (s.halyardHears && a.val ≠ 0 && a.val ≠ s.address && (st = 1 || st = 3) &&
    s.passed (s.ob (Obj.ptLastSeen a)) (ms (10 * s.cf Obj.presenceTimeout))) s (s.presenceLost a)

/-- R72: the named unit answers with its own record. -/
def execCapabilityRequest (f : ChainHeader) (named : Fin 17) (s : State) : Host.Outcome State Fault Refusal :=
  if !s.halyardHears || f.address.val = 0 then .next s
  else if !s.chainAccepted f (State.capabilityBytes 2 f.address f.fresh.toNat [named.val]) then
    .next (s.bump Obj.chainRejects)
  else
    let s := s.setPartner f.address { s.partner f.address with fresh := f.fresh.toNat }
    whenever (named.val = s.address && s.halyardTalks) s
      (({ s with hal := { s.hal with capSent := s.hal.capSent + 1 } }).sendCapability 3 s.address s.ownCapability)

/-- R72: the record enters the registry; an entry already present takes the serial (R70). -/
def execCapabilityResponse (f : ChainHeader) (r : CapabilityRecord) (s : State) : Host.Outcome State Fault Refusal :=
  let a : Nat := f.address
  if !s.halyardHears || a = 0 then .next s
  else if !s.chainAccepted f (State.capabilityBytes 3 a f.fresh.toNat (State.capabilityContent r)) then
    .next (s.bump Obj.chainRejects)
  else if a = s.address then .next (s.setPartner a { s.partner a with fresh := f.fresh.toNat })
  else
    let p := s.partner a
    let s := s.setPartner a { p with
      fresh := f.fresh.toNat, capTries := 0, capAsked := none, capUnknown := false, maxShare := r.maxShare.toNat
      serial := r.serial.toNat, capIds := (r.capIds.take 16).map (fun c => c.toNat), stepping := r.stepping.toNat
      grade := r.grade.toNat, ensignVersion := r.ensign.toNat, hoistVersion := r.hoist.toNat
      nodeVersion := r.node.toNat }
    let s := ((s.setOb (Obj.ptMastVersion a) r.mast.toNat).setOb (Obj.ptCompatEpoch a) r.epoch.toNat).setOb
      (Obj.ptSchema a) r.schema.toNat
    whenever (s.ob (Obj.ptState a) = 1 && State.identityTag r.serial.toNat = p.idTag) s
      ((s.setOb (Obj.ptSerial a) r.serial.toNat).emptyEntries r.serial.toNat a)

/-- R72: 100 ms without a response; three repeats, then CAP_UNKNOWN. -/
def execCapabilityRetry (a : Fin 17) (s : State) : Host.Outcome State Fault Refusal :=
  let p := s.partner a
  match p.capAsked with
  | none => .next s
  | some t =>
    whenever (s.halyardHears && s.passed t (ms 100)) s
      (if p.capTries < 4 then s.askCapability a (p.capTries + 1)
       else (s.setPartner a { p with capAsked := none, capUnknown := true }).post 1463 a)

/-- R65. -/
def execPlcaBeaconLoss (s : State) : Host.Outcome State Fault Refusal :=
  whenever (s.halyardHears && s.bit Obj.linkStatus 1) s ((s.setBit Obj.linkStatus 1 false).post 1458 0)

/-- R63, R65: the first beacon; the frames that waited go out. -/
def execPlcaBeaconResume (s : State) : Host.Outcome State Fault Refusal :=
  whenever s.halyardHears s (s.setBit Obj.linkStatus 1 true).halDrain

/-- R77: EV1466. -/
def execHalyardLinkChange (up : Bool) (s : State) : Host.Outcome State Fault Refusal :=
  whenever (s.halyardHears && s.bit Obj.linkStatus 0 ≠ up) s
    ((s.setBit Obj.linkStatus 0 up).post 1466 (if up then 1 else 0))

/-- R73, R74: `rx` the timebase tick of its SFD, and of the intervals −5 to 0 is accepted. -/
def execSyncReceive (rx : BitVec 64) (sync : SyncMessage) (s : State) : Host.Outcome State Fault Refusal :=
  let l := sync.interval.toInt
  whenever (s.syncRuns && decide (rx.toNat ≤ s.now) && decide (-5 ≤ l) && decide (l ≤ 0)) s
    (s.syncTaken rx.toNat sync.origin.toNat (sec 1 / 2 ^ (-l).toNat))

/-- R73: Announce is received; no best master is selected. -/
def execAnnounceReceive (s : State) : Host.Outcome State Fault Refusal :=
  whenever s.syncRuns s { s with hal := { s.hal with announced := true } }

/-- R73: at PDELAY_INTERVAL. The message's own bytes are those of IEEE 802.1AS: free values (assumption 84). -/
def execPdelayReqSend (s : State) : Host.Outcome State Fault Refusal :=
  let due := match s.hal.pdelaySent with
    | some t => s.passed t (ms (s.cf Obj.pdelayInterval))
    | none => true
  let f : HalFrame := { use := .time, dest := State.toTime, source := s.unitMac, etherType := 0x88F7
                        body := toBytes 54 (Config.unmeasured 0x88F7 s.now) }
  whenever (s.syncRuns && s.halMay f && due) s
    (({ s with hal := { s.hal with pdelaySent := some s.now } }).halSent f)

/-- R73: the path delay from the four timestamps of a Pdelay exchange: ours in ticks, the host's in ns. -/
def execPdelayRespReceive (received : BitVec 64) (sent : BitVec 64) (arrived : BitVec 64) (s : State) :
    Host.Outcome State Fault Refusal :=
  match s.hal.pdelaySent with
  | some t => whenever s.syncRuns s
      (s.setOb Obj.pathDelay ((10 * (arrived.toNat - t) - (sent.toNat - received.toNat)) / 2 % 2 ^ 32))
  | none => .next s

/-- R74: no Sync for 3 intervals. -/
def execSyncMissed (s : State) : Host.Outcome State Fault Refusal :=
  match s.hal.lastSync with
  | some t => whenever (s.ob Obj.syncState = 2 && s.passed t (3 * s.hal.syncInterval)) s (s.setOb Obj.syncState 3)
  | none => .next s

/-- R74: no Sync for HOLDOVER_LIMIT. -/
def execHoldoverExpiry (s : State) : Host.Outcome State Fault Refusal :=
  match s.hal.lastSync with
  | some t => whenever (s.ob Obj.syncState = 3 && s.passed t (ms (s.cf Obj.holdoverLimit))) s
      ((({ s with hal := { s.hal with lastSync := none, goodSyncs := 0 } }).setOb Obj.syncState 0).post 1465 0)
  | none => .next s

end Sys2Proof.Machine
end

