-- ==== Sys2Proof/Machine/Security.lean ====
section
/-!
DEFINITION. The secure block (spec/18): random values, key slots, the lifecycle, sessions, the cipher and public-key
engines, and debug access.
-/

namespace Sys2Proof.Machine
namespace State

/-! ## Roles and the functions of key slots (R375, R376, R384) -/

def lifecycleOf (s : State) : Nat := s.ob Obj.lifecycle

/-- The slot that holds a role's key (R384): Maker uses slot 17 in Provisioned while its own slot is empty. -/
def roleSlot (s : State) (role : Nat) : Nat :=
  match role with
  | 0 => s.cf Obj.roleSlotHost
  | 1 => s.cf Obj.roleSlotService
  | 2 =>
    let own := s.cf Obj.roleSlotMaker
    if s.lifecycleOf = 1 && s.ob (Obj.keySlotState own) = 0 then 17 else own
  | _ => 1

def slotLoaded (s : State) (n : Nat) : Bool := s.ob (Obj.keySlotState n) ≠ 0
def slotKey (s : State) (n : Nat) : Nat := s.secure.material.read 0 n
def slotPolicy (s : State) (n i : Nat) : Bool := bitAt (s.ob (Obj.keyPolicy n)) i

/-- A role may open a session (R384). -/
def roleAllowed (s : State) (role : Nat) : Bool :=
  s.slotLoaded (s.roleSlot role) && match s.lifecycleOf with
  | 0 => role = 3
  | 1 => true
  | 2 => decide (role ≤ 3)
  | 3 => role = 3
  | _ => false

/-- SLOT_FUNCTION (R376): 0 free, 1 role key, 2 chain key, 3 ledger, 4 burgee, 5 transport, 6 identity, 7 vendor. -/
def slotFunctionOf (s : State) (n : Nat) : Nat :=
  if n = 0 then 6
  else if n < 16 then 7
  else if n = 16 then 3
  else if n = 17 then 5
  else if n = s.cf Obj.roleSlotHost || n = s.cf Obj.roleSlotService || n = s.cf Obj.roleSlotMaker then 1
  else if n = s.cf Obj.chainKeySlot then 2
  else if s.slotPolicy n 5 then 4
  else 0

/-- USE_COUNT counts key commands, cipher jobs and public-key operations that run under the slot (DEDUCED, assumption
70). -/
def countUse (s : State) (n : Nat) : State := s.bump (Obj.keyUseCount n)

/-! ## Process-image maps and their sessions (R61) -/

/-- The bit of SETUP_PATHS that enables a path: the halyard 0x00, CNc 0x10 + c. -/
def pathBit (path : Nat) : Nat := if path < 0x10 then 0 else path - 0x0F
def pathOn (s : State) (path : Nat) : Bool := bitAt (s.cf Obj.setupPaths) (pathBit path)

/-- A session qualifies as the map session of a map (R61). -/
def qualifies (s : State) (m : Nat) (x : Session) : Bool :=
  let r := s.maps.read {} m
  r.recorded && decide (r.role ≤ x.role.rank) && x.hostId == r.hostId && s.pathOn (s.cf (Obj.piPath m))

/-- One map bound, or kept with the session it runs under; the counters of a new binding start again at 1. ACTIVE shows
that the map runs. -/
def bindMap (s : State) (m : Nat) : State :=
  if s.cf (Obj.piEnable m) = 0 then (s.setOb (Obj.piSession m) 0).setBit (Obj.piStatus m) 7 false
  else if s.cf (Obj.piAuth m) = 1 then (s.setOb (Obj.piSession m) 0).setBit (Obj.piStatus m) 7 true
  else
    let keeps := match s.session? (s.ob (Obj.piSession m)) with
      | some x => s.qualifies m x
      | none => false
    if keeps then s
    else match s.sessions.find? (s.qualifies m) with
      | some x =>
        let s := { s with maps := s.maps.write {} m { s.maps.read {} m with
          rxFresh := 0, txFresh := 0, last := if s.cf (Obj.piDirection m) = 0 then s.now else (s.maps.read {} m).last } }
        (s.setOb (Obj.piSession m) x.handle).setBit (Obj.piStatus m) 7 true
      | none => (s.setOb (Obj.piSession m) 0).setBit (Obj.piStatus m) 7 false

/-- Every map bound (R61). -/
def bindMaps (s : State) : State := forRange 64 bindMap s

/-! ## Zeroing and closing (R378, R387) -/

/-- A slot is in use by a running job. -/
def slotBusy (s : State) (n : Nat) : Bool := s.sessions.any (fun x => match x.job with
  | some j => j.slot == n
  | none => false)

/-- A slot made empty, with the releases opened under it (R406 reason 5). -/
def emptySlot (s : State) (n : Nat) : State :=
  let s := { s with secure := { s.secure with material := s.secure.material.erase n } }
  let s := (((s.setOb (Obj.keySlotState n) 0).setOb (Obj.keyType n) 0).setOb (Obj.keyPolicy n) 0)
  let s := ((s.setOb (Obj.keySlotScaMin n) 0).setOb (Obj.keyId n) 0).setOb (Obj.keyCheck n) 0
  let s := (s.setOb (Obj.keyUseCount n) 0).post 1095 n
  let s := forRange 16 (fun s r => if s.ob (Obj.relState r) = 1 && s.openerSlot r = n then s.closeRelease r 5 else s) s
  if n = 16 then s.ledgerRefresh else s

/-- One session gone (R42, R56, R61, R387): its pending set, its DOMAIN holds and its maps follow. -/
def dropSession (s : State) (h cause : Nat) : State :=
  if (s.session? h).isNone then s
  else
    let s := { s with sessions := s.sessions.filter (fun x => x.handle != h) }
    let s := forEach (s.holds.filter (fun (e : Nat × Hold) => e.2.holder = h)) (fun s e => s.dropHold e.1) s
    (s.post 1089 (256 * h + cause)).bindMaps

/-- Sessions closed with a cause, in order of opening. -/
def dropSessions (s : State) (p : Session → Bool) (cause : Nat) : State :=
  forEach (s.sessions.filter p) (fun s x => s.dropSession x.handle cause) s

/-- The roles whose key a slot holds. -/
def rolesOfSlot (s : State) (n : Nat) : List Nat := (List.range 4).filter (fun r => s.roleSlot r = n)

/-- A slot zeroed (R378): the sessions of the roles whose key it held close with cause 4. -/
def zeroSlot (s : State) (n : Nat) : State :=
  let rs := s.rolesOfSlot n
  (s.emptySlot n).dropSessions (fun x => rs.contains x.role.rank) 4

/-- Zeros that no running job holds up any more (R378), in order. -/
def zeroReady (s : State) : State :=
  let ready := s.secure.zeroWait.filter (fun z => !s.slotBusy z.1)
  let s := { s with secure := { s.secure with zeroWait := s.secure.zeroWait.filter (fun z => s.slotBusy z.1) } }
  forEach ready (fun s z => (s.setSob z.2 Obj.kcStatus 2).zeroSlot z.1) s

/-- A session closed (R387). Its context ends with it, so a zero that waited for its job goes on. -/
def closeSession (s : State) (h cause : Nat) : State := (s.dropSession h cause).zeroReady

/-! ## Key commands (R377, R378) -/

/-- Bytes of a key by type: AES-128, AES-192, AES-256, P-256 private. -/
def keyBytes (t : Nat) : Nat := if t = 1 then 16 else if t = 2 then 24 else 32

/-- ATTR (R377): type, countermeasure minimum, policy and KEY_ID. -/
def attrType (a : Nat) : Nat := bitsOf a 0 8
def attrSca (a : Nat) : Nat := bitsOf a 8 8
def attrPolicy (a : Nat) : Nat := bitsOf a 16 16
def attrId (a : Nat) : Nat := bitsOf a 32 32
def attrOk (a : Nat) : Bool :=
  decide (1 ≤ attrType a) && decide (attrType a ≤ 4) && decide (attrSca a ≤ 3) && decide (attrPolicy a < 64)

/-- A key stood in a slot with its ATTR. -/
def fillSlot (s : State) (n st attr key : Nat) : State :=
  let s := { s with secure := { s.secure with material := s.secure.material.write 0 n key } }
  let s := ((s.setOb (Obj.keySlotState n) st).setOb (Obj.keyType n) (attrType attr)).setOb (Obj.keyPolicy n) (attrPolicy attr)
  let s := (s.setOb (Obj.keySlotScaMin n) (attrSca attr)).setOb (Obj.keyId n) (attrId attr)
  let chk := if attrType attr ≤ 3 then (Config.cmac key (List.replicate 16 0)).toNat % 2 ^ 24 else 0
  let s := ((s.setOb (Obj.keyCheck n) chk).setOb (Obj.keyUseCount n) 0).post 1094 (256 * n + attrType attr)
  if n = 16 then s.ledgerRefresh else s

/-- A slot loaded (R377): a role-key slot closes the sessions of its role (R378). -/
def loadSlot (s : State) (n st attr key : Nat) : State :=
  let s := s.fillSlot n st attr key
  let rs := s.rolesOfSlot n
  s.dropSessions (fun x => rs.contains x.role.rank) 4

/-- A key command refused: KC_STATUS, and EV1096 where the use of a slot was refused. -/
def kcRefuse (s : State) (h n st : Nat) : Answer :=
  .ok ((s.setSob h Obj.kcStatus st).postIf (decide (4 ≤ st) && decide (st ≤ 7)) 1096 (256 * n + st))

/-- What stands against a key command on its target slot (R375, R377): vendor keys are loaded in Raw, the transport key at
an entry to Provisioned (DEDUCED, assumption 68). -/
def targetRefuses (s : State) (x : Session) (n op : Nat) : Option Nat :=
  let lc := s.lifecycleOf
  if 127 < n then some 8
  else if n = 0 || n = 16 then some 6
  else if op = 4 then none
  else if n = 17 && (x.role ≠ .vendor || !(lc = 0 || lc = 3)) then some 6
  else if (n = 1 || n = 2) && lc ≠ 0 then some 6
  else if s.slotLoaded n then some 12
  else none

/-- What stands against KC_SOURCE as a derive source (R376, R377, R389). -/
def sourceRefuses (s : State) (x : Session) (n : Nat) : Option Nat :=
  let fn := s.slotFunctionOf n
  if 127 < n || !s.slotLoaded n then some 4
  else if fn ≠ 0 && fn ≠ 5 then some 6
  else if x.role.rank < s.cf (Obj.keyUseRole n) then some 7
  else if !s.slotPolicy n 4 then some 5
  else none

/-- The first bytes of KC_BLOB. -/
def kcBlob (s : State) (h : Nat) : List Nat := (toBytes 48 (s.sob h Obj.kcBlob)).take (s.sob h Obj.kcBlobLen)

/-- KC_OP 1 (R377). -/
def kcImport (s : State) (h n src : Nat) : Answer :=
  let len := s.sob h Obj.kcBlobLen
  if !(len = 32 || len = 40 || len = 48) then s.kcRefuse h n 8
  else match Config.unwrap (s.slotKey src) (s.kcBlob h) with
  | none => s.kcRefuse h n 9
  | some bs =>
    let attr := ofBytes (bs.take 8) % 2 ^ 64
    let key := ofBytes (bs.drop 8) % 2 ^ (8 * keyBytes (attrType attr))
    if attrOk attr && keyBytes (attrType attr) + 16 = len then
      .ok (((s.countUse src).setSob h Obj.kcStatus 2).loadSlot n 1 attr key)
    else s.kcRefuse h n 8

/-- KC_OP 2 (R374, R377). A failed generator refuses it as configuration invalid (DESIGN CHOICE, assumption 69). -/
def kcGenerate (s : State) (h n : Nat) : Answer :=
  let attr := s.sob h Obj.kcAttr
  check (s.ob Obj.trngState = 1) .configInvalid <|
    if attrOk attr then
      let d := s.draw
      .ok ((d.2.setSob h Obj.kcStatus 2).loadSlot n 2 attr (d.1 % 2 ^ (8 * keyBytes (attrType attr))))
    else s.kcRefuse h n 8

/-- KC_OP 3 (R377): the result may not carry DERIVE. -/
def kcDerive (s : State) (h n src : Nat) : Answer :=
  let attr := s.sob h Obj.kcAttr
  if attrOk attr && !bitAt (attrPolicy attr) 4 && s.sob h Obj.kcBlobLen ≠ 0 then
    let key := Config.kdf (s.slotKey src) 1 (s.kcBlob h) % 2 ^ (8 * keyBytes (attrType attr))
    .ok (((s.countUse src).setSob h Obj.kcStatus 2).loadSlot n 2 attr key)
  else s.kcRefuse h n 8

/-- KC_OP 4 (R378): it waits for running jobs that use the slot. -/
def kcZero (s : State) (h n : Nat) : Answer :=
  if s.slotBusy n then
    .ok (({ s with secure := { s.secure with zeroWait := s.secure.zeroWait ++ [(n, h)] } }).setSob h Obj.kcStatus 1)
  else .ok ((s.setSob h Obj.kcStatus 2).zeroSlot n)

/-- KC_RUN (R377): customer slots need Maker, device slots Vendor. -/
def doKcRun (s : State) (x : Session) (v : Nat) : Answer :=
  let h := x.handle
  let op := s.sob h Obj.kcOp
  let n := s.sob h Obj.kcSlot
  let src := s.sob h Obj.kcSource
  check (v = 1) .valueRange <|
  check (!(n < 16 && x.role ≠ .vendor)) .roleTooLow <|
  match s.targetRefuses x n op with
  | some st => s.kcRefuse h n st
  | none => match op with
    | 1 => (match s.sourceRefuses x src with
      | some st => s.kcRefuse h src st
      | none => s.kcImport h n src)
    | 2 => s.kcGenerate h n
    | 3 => (match s.sourceRefuses x src with
      | some st => s.kcRefuse h src st
      | none => s.kcDerive h n src)
    | 4 => s.kcZero h n
    | _ => s.kcRefuse h n 8

/-! ## The Fly die runs on after a stop (R87, R125, R354, R394) -/

/-- The entry of an output that is on: settled, with no slope (R125). -/
def settledEntry (s : State) (sig v : Nat) : AdmEntry :=
  let p := s.sigProfile sig v v
  { prof := { p with peak := p.settled, tau := 0, pPeak := p.pSettled }, admitted := s.now }

/-- The value the Hoist die reports an output on at, 0 off. -/
def reportedOn (s : State) (sig : Nat) : Nat :=
  let i := sigInst sig
  match sigClass sig with
  | 0x01 => if s.gdBound i then 0 else s.ob (Obj.gdAppliedValue i)
  | 0x02 => if s.ob (Obj.svPhase i) = 0 || s.ob (Obj.svPhase i) = 5 then 0 else (s.svCh i).setpoint
  | _ => s.ob (Obj.doutAppliedValue i)

/-- The arbiter enters every output that the Hoist die reports as on, with ΣS 0 and an empty queue (R125). -/
def arbiterEnter (s : State) : State :=
  let on := directSigs.filter (fun sig => !s.disabled sig && s.reportedOn sig ≠ 0)
  let es : Table AdmEntry := on.foldl (fun t sig => t.put (entryKey sig 7) (s.settledEntry sig (s.reportedOn sig))) []
  let es := ([0, 1] : List Nat).foldl (fun (t : Table AdmEntry) p =>
    let port := mkSig clsMX (64 * p)
    let i := s.portTotal port [] []
    if (s.mxCh p).eff.isEmpty || i.1 = 0 then t
    else t.put (entryKey port 7) { prof := { peak := i.1, settled := i.1, pPeak := i.2, pSettled := i.2 }, admitted := s.now }) es
  { s with arb := { s.arb with entries := es, slopes := [], queue := [], refused := [], portRaises := [], portEnv := [], ages := [] } }

/-- What an exit from Half-mast and a debug resume share (R87, R107, R125, R130, R314): the engine starts a sweep, the
supervisor waits once that has begun, or at once where none runs, the arbiter enters what is on, loans are dropped with their
lenders ignored (R129), and CAN channels rejoin. -/
def backToRun (s : State) : State :=
  let s := s.setOb Obj.engineState 1
  let s := { s with eng := { s.eng with segment := 0, setBy := [] } }
  let s := if s.sweepsRun then { s with hb := { s.hb with enters := true } } else s.supervisorWaits.safeBoundary
  let held := s.arb.borrowed.map (fun (e : Nat × Nat) => e.1)
  let s := { s with arb := { s.arb with ignored := held ++ s.arb.ignored.filter (fun i => !held.contains i) } }
  let s := forEach held dropLoan s.arbiterEnter
  forRange 8 (fun s c => if s.cf (Obj.canMode c) = 0 then s else s.channelRestart c) s

/-! ## Debug access (R393–R395) -/

/-- A cell of the matrix of R393 in Hoisted and Dipped: none, open, or the roles that may unlock it. -/
inductive DebugCell where
  | none | open_ | unlock (roles : List Role)
  deriving DecidableEq, Repr

def debugCell (lifecycle level : Nat) : DebugCell :=
  match lifecycle, level with
  | 0, 1 => .open_
  | 0, 2 => .open_
  | 1, 1 => .open_
  | 1, 2 => .unlock [.maker, .vendor]
  | 2, 1 => .unlock [.maker]
  | 2, 2 => .unlock [.maker]
  | 3, 1 => .open_
  | 3, 2 => .unlock [.vendor]
  | _, _ => .none

/-- The debug halt takes effect (R394): the PLL stops, LF mode, the watchdog parked, the hoist safe state, EV1101 and the
ledger's record of R416 kind 4. -/
def debugHalt (s : State) : State :=
  let s := { s with timers := s.timers.map (fun (e : Nat × Timer) =>
    if s.cf (Obj.tmrDebugFreeze e.1) = 1 then (e.1, { e.2 with base := s.tmrRaw e.1, since := s.now, frozen := true }) else e) }
  let s := s.record { s.newRecord 4 s.now with
    reason := 4, cmdr := 5, cmdrAux := s.ob Obj.startCause, detail := s.ob Obj.hoistWdgTrips }
  let s := { s with tb := { s.tb with pllLocked := false, lfMode := true, lfLeaving := false }
                    hoist := { s.hoist with parked := true }
                    secure := { s.secure with haltedAt := some s.now, haltWait := false } }
  let s := ((s.setOb Obj.engineState 2).setOb Obj.debugState 3).applyHoistSafe
  s.post 1101 0

/-- The resume (R394): as on exit from Half-mast; the outputs leave the hoist safe state at the first sweep. -/
def debugResume (s : State) (since : Tick) : State :=
  let s := { s with tb := { s.tb with pllLocked := true, lfLeaving := true }
                    secure := { s.secure with haltedAt := none }
                    timers := s.timers.map (fun (e : Nat × Timer) =>
                      if e.2.frozen then (e.1, { e.2 with since := s.now, frozen := false }) else e) }
  ((s.setOb Obj.debugState 2).backToRun).post 1102 (saturate ((s.now - since) / ms 1) 0xFFFFFFFF)

/-- A debug session, or an unlock, ends (R393); a halt ends with it, and leaving EXTEST is a Fly start (R395). -/
def endDebug (s : State) (reason : Nat) : State :=
  if s.ob Obj.debugState = 0 then s
  else
    let s := match s.secure.haltedAt with
      | some t => s.debugResume t
      | none => s
    let ext := s.secure.extest
    let s := { s with secure := { s.secure with unlockUntil := none, unlockLevel := 0, haltWait := false, extest := false } }
    let s := ((s.setOb Obj.debugState 0).setOb Obj.debugLevel 0).post 1100 reason
    if ext then s.hoistRestart 9 else s

/-- DEBUG_REQUEST (R393): the cell names no role to unlock it, or another role than the session's. -/
def doDebugRequest (s : State) (x : Session) (v : Nat) : Answer :=
  let level := v / 2 ^ 16
  let window := v % 2 ^ 16
  check (decide (1 ≤ level) && decide (level ≤ 2) && decide (1 ≤ window) && decide (window ≤ 3600)) .valueRange <|
  match debugCell s.lifecycleOf level with
  | .unlock roles =>
    check (roles.contains x.role) .roleTooLow <|
      let s := { s with secure := { s.secure with unlockUntil := some (s.now + sec window), unlockLevel := level } }
      let s := if s.ob Obj.debugState < 2 then (s.setOb Obj.debugState 1).setOb Obj.debugLevel level else s
      .ok (s.post 1098 (256 * level + x.role.rank))
  | _ => .error .configInvalid

/-- DEBUG_CLOSE (R393). -/
def doDebugClose (s : State) (v : Nat) : Answer := check (v = 1) .valueRange <| .ok (s.endDebug 2)

/-- The level is available at a connection (R393). -/
def debugAvailable (s : State) (level : Nat) : Bool :=
  match debugCell s.lifecycleOf level with
  | .open_ => true
  | .unlock _ => (match s.secure.unlockUntil with
    | some t => decide (s.now < t) && decide (level ≤ s.secure.unlockLevel)
    | none => false)
  | .none => false

/-! ## The lifecycle (R379–R382) -/

/-- The roles that may request a transition; none where there is no such transition. -/
def lcRoles (from_ target : Nat) : List Role :=
  match from_, target with
  | 0, 1 => [.vendor]
  | 1, 2 => [.maker]
  | 1, 3 => [.maker, .vendor]
  | 2, 3 => [.maker, .vendor]
  | 3, 1 => [.vendor]
  | 0, 4 => [.vendor]
  | 1, 4 => [.maker, .vendor]
  | 2, 4 => [.maker, .vendor]
  | 3, 4 => [.maker, .vendor]
  | _, _ => []

/-- R380. -/
def mayEnterFielded (s : State) : Bool :=
  let r := [s.cf Obj.roleSlotHost, s.cf Obj.roleSlotService, s.cf Obj.roleSlotMaker]
  let k := s.cf Obj.chainKeySlot
  r.all (fun n => s.slotLoaded n && s.slotPolicy n 2) && r.Nodup && k ≠ 0xFF && s.slotLoaded k && s.slotPolicy k 2 &&
    s.secure.idCert

/-- The prerequisites of a transition (R379). -/
def lcPrerequisite (s : State) (from_ target : Nat) : Bool :=
  match from_, target with
  | 0, 1 => s.slotLoaded 1 && s.slotLoaded 2 && s.slotLoaded 17
  | 1, 2 => s.mayEnterFielded
  | 3, 1 => s.slotLoaded 17
  | _, _ => true

/-- Slots of a range zeroed, the loaded ones with EV1095; the sessions follow with the change of state. -/
def zeroRange (s : State) (first n : Nat) : State :=
  forRange n (fun s i => if s.slotLoaded (first + i) then s.emptySlot (first + i) else s) s

/-- A key drawn inside (R375): ATTR names its type; its policy is 0, since a reserved slot serves its function only. -/
def generateSlot (s : State) (n type : Nat) : State :=
  let d := s.draw
  d.2.fillSlot n 2 type (d.1 % 2 ^ (8 * keyBytes type))

/-- What the unit is after Void (R382): only the Ensign core runs; every output is in its power-up state, and nothing
appears on a bus. -/
def voidUnit (s : State) : State :=
  let t := s.hoistOff 1
  { t with boot := { t.boot with stage := .stopped }, tb := s.tb
           secure := { t.secure with poweredBase := s.secure.poweredBase }, hoist := { t.hoist with flyReset := false } }

/-- The actions of a transition, in order (R379, R381, R421). -/
def lcActions (s : State) (from_ target : Nat) : State :=
  match target with
  | 1 =>
    let s := if from_ = 0 then
        let s := s.generateSlot 0 4
        ({ s with secure := { s.secure with idCert := true } }).setOb Obj.devicePubkey
          (Config.publicKey (s.slotKey 0)).toNat
      else s
    (s.generateSlot 16 3)
  | 3 =>
    let s := { s with secure := { s.secure with zeroing := true } }
    let s := s.zeroRange 16 112
    { s with secure := { s.secure with zeroing := false } }
  | 4 => s.zeroRange 0 128
  | _ => s

/-- A transition done (R379): EV1097, every session closed with cause 3, every debug session ended. -/
def lcChange (s : State) (from_ target : Nat) : State :=
  let s := (s.lcActions from_ target).setOb Obj.lifecycle target
  let s := if target = 1 then s.startEpoch else s
  let s := ((s.post 1097 (256 * target + from_)).dropSessions (fun _ => true) 3).zeroReady
  let s := s.endDebug 4
  if target = 4 then s.voidUnit else s

/-- LC_REQUEST (R379): a target that the state has no transition to is out of range; a role the table does not name sets
LC_RESULT 5. -/
def doLcRequest (s : State) (x : Session) (target : Nat) : Answer :=
  let roles := lcRoles s.lifecycleOf target
  let h := x.handle
  check (!roles.isEmpty) .valueRange <|
    if roles.contains x.role then
      let d := s.draw
      let tok := d.1 % 2 ^ 32
      let s := (d.2.setSob h Obj.lcToken tok).setSob h Obj.lcResult 0
      match s.session? h with
      | some y => .ok (s.setSession { y with lcToken := some { target := target, token := tok, issued := s.now } })
      | none => .ok s
    else .ok (s.setSob h Obj.lcResult 5)

/-- LC_CONFIRM (R379, R380). -/
def doLcConfirm (s : State) (x : Session) (v : Nat) : Answer :=
  let h := x.handle
  match x.lcToken with
  | none => .ok (s.setSob h Obj.lcResult 3)
  | some t =>
    if t.token ≠ v then .ok (s.setSob h Obj.lcResult 3)
    else if t.issued + sec 10 < s.now then .ok (s.setSob h Obj.lcResult 4)
    else if (lcRoles s.lifecycleOf t.target).isEmpty || !s.lcPrerequisite s.lifecycleOf t.target then
      .ok (s.setSob h Obj.lcResult 2)
    else .ok ((s.setSob h Obj.lcResult 1).lcChange s.lifecycleOf t.target)

/-! ## Session setup (R383–R385) -/

/-- PATH of a setup (R383): the halyard 0, CNc 0x10 + c. -/
def setupPath (p : Nat) : Nat := if p = 0 then 0 else 0x0F + p

/-- The unit serves a setup on a path: a unit without an address answers nothing on the halyard (R65). -/
def setupServed (s : State) (p : Nat) : Bool :=
  s.takesRequests && s.applied && (if p = 0 then s.halyardServes else s.canActive (p - 1))

def roleLocked (s : State) (role : Nat) : Bool := match s.secure.lockUntil.get? role with
  | some t => decide (s.poweredTime < t)
  | none => false

/-- What both messages are checked for, by cause (R385). -/
def setupCause (s : State) (path role : Nat) : List Nat :=
  (if 3 < role || !s.roleAllowed role then [1] else []) ++ (if s.roleLocked role then [3] else []) ++
    (if s.ob Obj.trngState ≠ 1 then [6] else []) ++ (if !s.pathOn path then [7] else [])

/-- The smallest cause of a list. -/
def least (l : List Nat) : Option Nat := match l with
  | [] => none
  | a :: r => some (r.foldl min a)

/-- A failure of a role (R385). -/
def roleFailure (s : State) (role : Nat) : State :=
  let l := (s.secure.roleFails.read [] role).filter (fun t => s.poweredTime < t + sec 60) ++ [s.poweredTime]
  let s := { s with secure := { s.secure with roleFails := s.secure.roleFails.write [] role l } }
  if l.length < s.cf Obj.lockoutFails || (s.secure.lockUntil.get? role).isSome then s
  else
    ({ s with secure := { s.secure with
        lockUntil := s.secure.lockUntil.put role (s.poweredTime + sec (s.cf Obj.lockoutTime)) } }).post 1091 role

/-- MSG2 or MSG4 of a path (R383): SETUP_OUT of a CAN channel, a session-setup frame on the halyard. -/
def putOut (s : State) (p : Nat) (bytes : List Nat) : State :=
  let s := { s with secure := { s.secure with setupOut := s.secure.setupOut.write 0 p (ofBytes bytes) } }
  if p = 0 then s.halSend (s.dictFrame .answer .requester (frameBytes 5 0 0 0 (toBytes 56 (ofBytes bytes)))) else s
def endSetup (s : State) (p : Nat) : State :=
  { s with secure := { s.secure with setups := s.secure.setups.erase p } }

/-- MSG4 (R383). -/
def msg4 (status session hostId confirm : Nat) : List Nat :=
  [4, status] ++ toBytes 2 session ++ toBytes 4 hostId ++ toBytes 16 confirm

/-- A setup refused (R385). -/
def refuseSetup (s : State) (p role hostId cause : Nat) : State :=
  let s := ((s.endSetup p).putOut p (msg4 cause 0 hostId 0)).post 1090 (2 ^ 16 * role + cause)
  if (cause = 2 || cause = 8) && role ≤ 3 then s.roleFailure role else s

/-- The fields the values of R383 are computed over. -/
def setupContext (p role hostId nH nD : Nat) : List Nat :=
  [role, setupPath p] ++ toBytes 4 hostId ++ toBytes 16 nH ++ toBytes 16 nD ++ toBytes 16 Part.serial

/-- A handle that no open session has (R383). -/
def newHandle (s : State) (d : Nat) : Nat :=
  let h := 1 + d % 0xFFFE
  if (s.session? h).isNone then h
  else ((List.range 9).find? (fun i => (s.session? (i + 1)).isNone)).getD 0 + 1

/-- A session opened (R383). -/
def openSession (s : State) (p : Nat) (u : Setup) : State :=
  let d := s.draw
  let s := d.2
  let h := s.newHandle d.1
  let key := Config.kdf (s.slotKey (s.roleSlot u.role)) 2 (setupContext p u.role u.hostId u.nH u.nD)
  let x : Session := { handle := h, role := Role.ofCode u.role, hostId := u.hostId, key := key, opened := s.now, last := s.now }
  let confirm := (Config.cmac key ([0x43] ++ toBytes 2 h ++ toBytes 4 u.hostId)).toNat
  let s := ({ s with sessions := s.sessions ++ [x] }).endSetup p
  ((s.putOut p (msg4 0 h u.hostId confirm)).post 1088 (2 ^ 16 * u.role + h)).bindMaps

/-! ## The cipher engine (R388–R390) -/

/-- IV, tag and data lengths of a mode and operation (R388). -/
def cipherParams (op mode ivLen tagLen aad data : Nat) : Bool :=
  (match mode with
   | 1 => ivLen = 16 && data % 16 = 0
   | 2 => ivLen = 16
   | 3 => ivLen = 16
   | 4 => ivLen = 16
   | 5 => decide (4 ≤ tagLen) && decide (tagLen ≤ 16) && aad = 0
   | 6 => decide (7 ≤ ivLen) && decide (ivLen ≤ 13) && decide (4 ≤ tagLen) && decide (tagLen ≤ 16) && tagLen % 2 = 0
   | 7 => ivLen = 12 && decide (12 ≤ tagLen) && decide (tagLen ≤ 16)
   | _ => false) &&
  (match op with
   | 1 => mode ≠ 5
   | 2 => mode ≠ 5
   | 3 => mode = 5 || mode = 7
   | 4 => mode = 5 || mode = 7
   | _ => false)

/-- The policy bit an operation needs: ENCRYPT, DECRYPT or MAC. -/
def cipherPolicy (op : Nat) : Nat := if op = 1 then 0 else if op = 2 then 1 else 2

/-- The refusal of a cipher job or a public-key operation on a slot (R389), in the order empty, reserved, role, policy. -/
def useRefuses (s : State) (x : Session) (n : Nat) (policy : Bool) : Option Nat :=
  if 127 < n || !s.slotLoaded n then some 4
  else if s.slotFunctionOf n ≠ 0 then some 6
  else if x.role.rank < s.cf (Obj.keyUseRole n) then some 7
  else if !policy then some 5
  else none

/-- CJ_RUN (R389, R390). -/
def doCjRun (s : State) (x : Session) (v : Nat) : Answer :=
  let h := x.handle
  let n := s.sob h Obj.cjSlot
  let op := s.sob h Obj.cjOp
  let mode := s.sob h Obj.cjMode
  let aad := s.sob h Obj.cjAadLen
  check (v = 1) .valueRange <|
    if x.job.isSome then .ok (s.setSob h Obj.cjStatus 10)
    else
      let pol := s.slotPolicy n (cipherPolicy op) && decide (s.ob (Obj.keyType n) ≤ 3)
      match s.useRefuses x n pol with
      | some st => .ok ((s.setSob h Obj.cjStatus st).post 1096 (256 * n + st))
      | none =>
        if decide (aad ≤ x.buffer.length) && cipherParams op mode (s.sob h Obj.cjIvLen) (s.sob h Obj.cjTagLen) aad
            (x.buffer.length - aad) then
          let j : CipherJob := { slot := n, op := op, mode := mode, since := s.now, aadLen := aad
                                 level := max (s.cf Obj.scaLevel) (s.ob (Obj.keySlotScaMin n))
                                 iv := s.sob h Obj.cjIv % 2 ^ (8 * s.sob h Obj.cjIvLen)
                                 tagLen := s.sob h Obj.cjTagLen, tag := s.sob h Obj.cjTag }
          let s := (s.countUse n).setSob h Obj.cjStatus 1
          match s.session? h with
          | some y => .ok (s.setSession { y with job := some j })
          | none => .ok s
        else .ok (s.setSob h Obj.cjStatus 8)

/-- The tag of a job over its AAD and data, cut to TAG_LEN. -/
def jobTag (j : CipherJob) (key : Nat) (aad data : List Nat) : Nat :=
  (if j.mode = 5 then Config.cmac key data
   else Config.gcmTag key (j.mode :: toBytes 16 j.iv ++ aad) data).toNat % 2 ^ (8 * j.tagLen)

/-- The job's end (R388): the buffer's data after it, the tag it writes, and the status. -/
def jobResult (j : CipherJob) (key : Nat) (aad data : List Nat) : List Nat × Option Nat × Nat :=
  let n := data.length
  let out := ((Config.cipher j.mode j.op key j.iv aad data).map (fun b => b % 256) ++ List.replicate n 0).take n
  let tagged := j.mode = 6 || j.mode = 7
  let want := j.tag % 2 ^ (8 * j.tagLen)
  let body := if j.mode = 7 then [] else data
  match j.op with
  | 1 => (out, if tagged then some (jobTag j key aad data) else none, 2)
  | 2 => if tagged && jobTag j key aad out ≠ want then (List.replicate n 0, none, 3) else (out, none, 2)
  | 3 => (data, some (jobTag j key aad body), 2)
  | _ => if jobTag j key aad body = want then (data, none, 2) else (List.replicate n 0, none, 3)

/-- A cipher job ends (R378, R388). -/
def jobDone (s : State) (x : Session) (j : CipherJob) : State :=
  let h := x.handle
  let aad := x.buffer.take j.aadLen
  let data := x.buffer.drop j.aadLen
  let r := jobResult j (s.slotKey j.slot) aad data
  let s := s.setSession { x with job := none, buffer := aad ++ r.1 }
  let s := match r.2.1 with
    | some t => s.setSob h Obj.cjTag t
    | none => s
  let s := (s.setSob h Obj.cjStatus r.2.2).setSob h Obj.cjOutLen (if j.op ≤ 2 then data.length else 0)
  s.zeroReady

/-! ## Public-key services and random values (R391, R392) -/

/-- The digest of a public-key operation: given left-aligned, or computed over the buffer. -/
def pkDigestOf (s : State) (x : Session) : Nat :=
  let h := x.handle
  if s.sob h Obj.pkInput = 1 then
    (if s.sob h Obj.pkHash = 1 then Config.sha256 x.buffer else Config.sha384 x.buffer)
  else s.sob h Obj.pkDigest % 2 ^ (if s.sob h Obj.pkHash = 1 then 256 else 384)

/-- A public-key operation refused. -/
def pkRefuse (s : State) (h n st : Nat) : Answer := .ok ((s.setSob h Obj.pkStatus st).post 1096 (256 * n + st))

/-- PK_RUN (R391). Export serves any P-256 slot, reserved ones included. -/
def doPkRun (s : State) (x : Session) (v : Nat) : Answer :=
  let h := x.handle
  let n := s.sob h Obj.pkSlot
  let t := s.ob (Obj.keyType n)
  check (v = 1) .valueRange <|
  match s.sob h Obj.pkOp with
  | 1 => (match s.useRefuses x n (s.slotPolicy n 3 && t = 4) with
    | some st => s.pkRefuse h n st
    | none =>
      let sig := (Config.ecdsaSign (s.slotKey n) (s.pkDigestOf x)).toNat
      .ok (((s.countUse n).setSob h Obj.pkSignature sig).setSob h Obj.pkStatus 2))
  | 2 =>
    let result (s : State) (key : Nat) : Answer :=
      .ok (s.setSob h Obj.pkStatus (if Config.ecdsaVerify key (s.pkDigestOf x) (s.sob h Obj.pkSignature) then 2 else 11))
    if n = 0xFF then result s (s.sob h Obj.pkPubkey)
    else (match s.useRefuses x n (s.slotPolicy n 3 && t = 5) with
      | some st => s.pkRefuse h n st
      | none => result (s.countUse n) (s.slotKey n))
  | 3 =>
    if 127 < n || !s.slotLoaded n then s.pkRefuse h n 4
    else if x.role.rank < s.cf (Obj.keyUseRole n) then s.pkRefuse h n 7
    else if t < 4 then s.pkRefuse h n 5
    else
      let key := if t = 4 then (Config.publicKey (s.slotKey n)).toNat else s.slotKey n
      .ok (((s.countUse n).setSob h Obj.pkPubkey key).setSob h Obj.pkStatus 2)
  | _ => .ok (s.setSob h Obj.pkStatus 8)

/-- RANDOM (R392). -/
def doRandom (s : State) : Answer :=
  check (s.ob Obj.trngState = 1) .configInvalid <|
    let d := s.draw
    .ok { d.2 with reply := { d.2.reply with data := toBytes 32 d.1 } }

/-! ## Freshness of what is sent (R50) and notices (R76, R386) -/

/-- The session that notices are sent under: the earliest-opened one on the halyard path. -/
def noticeSession (s : State) : Option Session := if s.pathOn 0 then s.sessions.head? else none

/-- The next FRESHNESS of a session on a path; none where the counter would pass its end (R50). -/
def nextFresh (x : Session) (path : Nat) : Option Nat :=
  let f := x.tx.read 0 path + 1
  if f < 2 ^ 32 then some f else none

/-- An event notice (R52): event number, timestamp and value. -/
def noticeBytes (o : Occ) : List Nat := toBytes 2 o.ev ++ toBytes 8 o.ts ++ toBytes 4 o.value

/-- A row of KC_RUN, CJ_RUN or PK_RUN that stands for one operation: another operation is another row. -/
def opRow (s : State) (sess opKey op : Nat) : Bool := (s.session? sess).isNone || s.sob sess opKey = op

end State

/-! ## Meanings -/

/-- R48, R52, R76, R386: one notice a frame; without a session on the halyard it goes out with SESSION 0x0000 and no MAC. -/
def execNoticeSend (s : State) : Host.Outcome State Fault Refusal :=
  match s.hal.notices with
  | [] => .next s
  | o :: rest =>
    let frame (h f : Nat) (mac : List Nat → List Nat) : HalFrame :=
      let b := State.frameBytes 4 0 h f (State.noticeBytes o)
      s.dictFrame .notice s.toHost (b ++ mac b)
    let sent (s : State) (h : Nat) (g : HalFrame) : State :=
      ({ s with hal := { s.hal with notices := rest, noticeSent := some (o, h) } }).halSent g
    match s.noticeSession with
    | none =>
      let g := frame 0 0 (fun _ => [])
      whenever (s.halMay g) s (sent s 0 g)
    | some x => match State.nextFresh x 0 with
      | none => whenever s.halyardSends s (s.closeSession x.handle 5)
      | some f =>
        let g := frame x.handle f (fun b => toBytes 16 (Config.cmac x.key (2 :: 0 :: b)).toNat)
        whenever (s.halMay g) s (sent (s.setSession { x with tx := x.tx.write 0 0 f }) x.handle g)

/-- R374. -/
def execTrngHealthFail (repetition : Bool) (s : State) : Host.Outcome State Fault Refusal :=
  whenever (s.ob Obj.trngState ≠ 2) s ((s.setOb Obj.trngState 2).post 1104 (if repetition then 1 else 2))

/-- R374: once a retest passes, the DRBG is reseeded. -/
def execTrngRetest (pass : Bool) (s : State) : Host.Outcome State Fault Refusal :=
  whenever (s.ob Obj.trngState = 2 && pass) s (s.setOb Obj.trngState 1)

/-- R377, R378. -/
def execKeyImport (sess : Nat) (s : State) : Host.Outcome State Fault Refusal :=
  if s.opRow sess Obj.kcOp 1 then s.request sess .maker (writeOf Obj.kcRun 1 1) (fun x s => s.doKcRun x 1) else .next s

/-- R377. -/
def execKeyGenerate (sess : Nat) (s : State) : Host.Outcome State Fault Refusal :=
  if s.opRow sess Obj.kcOp 2 then s.request sess .maker (writeOf Obj.kcRun 1 1) (fun x s => s.doKcRun x 1) else .next s

/-- R377. -/
def execKeyDerive (sess : Nat) (s : State) : Host.Outcome State Fault Refusal :=
  if s.opRow sess Obj.kcOp 3 then s.request sess .maker (writeOf Obj.kcRun 1 1) (fun x s => s.doKcRun x 1) else .next s

/-- R378. -/
def execKeyZero (sess : Nat) (s : State) : Host.Outcome State Fault Refusal :=
  if s.opRow sess Obj.kcOp 4 then s.request sess .maker (writeOf Obj.kcRun 1 1) (fun x s => s.doKcRun x 1) else .next s

/-- R379. -/
def execLcRequest (sess : Nat) (target : BitVec 8) (s : State) : Host.Outcome State Fault Refusal :=
  s.request sess .maker (writeOf Obj.lcRequest 1 target.toNat) (fun x s => s.doLcRequest x target.toNat)

/-- R379–R382. -/
def execLcConfirm (sess : Nat) (token : BitVec 32) (s : State) : Host.Outcome State Fault Refusal :=
  s.request sess .maker (writeOf Obj.lcConfirm 4 token.toNat) (fun x s => s.doLcConfirm x token.toNat)

/-- R383–R385: MSG2, or MSG4 with the cause. A new MSG1 on a path takes the place of a setup that waits there (DESIGN
CHOICE, assumption 67). -/
def execSessionSetupMsg1 (path : Fin 9) (role : BitVec 8) (hostId : BitVec 32) (nH : BitVec 128) (serial : BitVec 128)
    (s : State) : Host.Outcome State Fault Refusal :=
  let p := path.val
  let r := role.toNat
  let h := hostId.toNat
  if !s.setupServed p then .next s
  else match State.least (s.setupCause (State.setupPath p) r ++
      (if serial.toNat ≠ 0 && serial.toNat ≠ Part.serial then [5] else [])) with
  | some c => .next (s.refuseSetup p r h c)
  | none =>
    let d := s.draw
    let nD := d.1 % 2 ^ 128
    let auth := (Config.cmac (s.slotKey (s.roleSlot r)) (0x44 :: State.setupContext p r h nH.toNat nD)).toNat
    let s := d.2
    let s := { s with secure := { s.secure with
      setups := s.secure.setups.put p { role := r, hostId := h, nH := nH.toNat, nD := nD, sent := s.now } } }
    .next (s.putOut p ([2, r, 0, 0] ++ toBytes 4 h ++ toBytes 16 nD ++ toBytes 16 auth ++ toBytes 16 Part.serial))

/-- R383–R385. -/
def execSessionSetupMsg3 (path : Fin 9) (role : BitVec 8) (hostId : BitVec 32) (authH : BitVec 128) (s : State) :
    Host.Outcome State Fault Refusal :=
  let p := path.val
  match s.secure.setups.get? p with
  | none => .next s
  | some u =>
    if !s.setupServed p then .next s
    else
      let auth := Config.cmac (s.slotKey (s.roleSlot u.role)) (0x48 :: State.setupContext p u.role u.hostId u.nH u.nD)
      let good := role.toNat = u.role && hostId.toNat = u.hostId && authH = auth
      match State.least (s.setupCause (State.setupPath p) u.role ++ (if good then [] else [2]) ++
          (if 8 ≤ s.sessions.length then [4] else []) ++ (if u.sent + sec 1 < s.now then [8] else [])) with
      | some c => .next (s.refuseSetup p u.role u.hostId c)
      | none => .next (s.openSession p u)

/-- R385 cause 8. -/
def execSetupMsg3Timeout (path : Fin 9) (s : State) : Host.Outcome State Fault Refusal :=
  match s.secure.setups.get? path.val with
  | none => .next s
  | some u => whenever (s.passed u.sent (sec 1)) s (s.refuseSetup path.val u.role u.hostId 8)

/-- R385. -/
def execRoleLockoutEnd (role : Fin 4) (s : State) : Host.Outcome State Fault Refusal :=
  match s.secure.lockUntil.get? role.val with
  | none => .next s
  | some t => whenever (decide (t ≤ s.poweredTime)) s
      (({ s with secure := { s.secure with lockUntil := s.secure.lockUntil.erase role.val } }).post 1092 role.val)

/-- R387 cause 1. -/
def execSessionClose (sess : Nat) (s : State) : Host.Outcome State Fault Refusal :=
  s.request sess .host (writeOf Obj.sessionClose 1 1) (fun x s => .ok (s.closeSession x.handle 1))

/-- R387 cause 2. -/
def execSessionIdleTimeout (sess : Nat) (s : State) : Host.Outcome State Fault Refusal :=
  match s.session? sess with
  | none => .next s
  | some x => whenever (s.passed x.last (sec (s.cf Obj.sessionIdle))) s (s.closeSession sess 2)

/-- R388, R389. -/
def execCjRun (sess : Nat) (s : State) : Host.Outcome State Fault Refusal :=
  s.request sess .host (writeOf Obj.cjRun 1 1) (fun x s => s.doCjRun x 1)

/-- R388. -/
def execCipherJobDone (sess : Nat) (s : State) : Host.Outcome State Fault Refusal :=
  match s.session? sess with
  | none => .next s
  | some x => match x.job with
    | none => .next s
    | some j => .next (s.jobDone x j)

/-- R391. -/
def execPkSign (sess : Nat) (s : State) : Host.Outcome State Fault Refusal :=
  if s.opRow sess Obj.pkOp 1 then s.request sess .host (writeOf Obj.pkRun 1 1) (fun x s => s.doPkRun x 1) else .next s

/-- R391. -/
def execPkVerify (sess : Nat) (s : State) : Host.Outcome State Fault Refusal :=
  if s.opRow sess Obj.pkOp 2 then s.request sess .host (writeOf Obj.pkRun 1 1) (fun x s => s.doPkRun x 1) else .next s

/-- R391. -/
def execPkExport (sess : Nat) (s : State) : Host.Outcome State Fault Refusal :=
  if s.opRow sess Obj.pkOp 3 then s.request sess .host (writeOf Obj.pkRun 1 1) (fun x s => s.doPkRun x 1) else .next s

/-- R392. -/
def execRandomRead (sess : Nat) (s : State) : Host.Outcome State Fault Refusal :=
  s.request sess .host (readOf Obj.random) (fun _ s => s.doRandom)

/-- R393. -/
def execDebugRequest (sess : Nat) (value : BitVec 32) (s : State) : Host.Outcome State Fault Refusal :=
  s.request sess .maker (writeOf Obj.debugRequest 4 value.toNat) (fun x s => s.doDebugRequest x value.toNat)

/-- R393. -/
def execDebugClose (sess : Nat) (s : State) : Host.Outcome State Fault Refusal :=
  s.request sess .maker (writeOf Obj.debugClose 1 1) (fun _ s => s.doDebugClose 1)

/-- R393: a debugger that connects at level closed reads the boundary-scan identification and opens no session. -/
def execDebuggerConnect (level : Fin 3) (s : State) : Host.Outcome State Fault Refusal :=
  whenever (s.boot.stage ≠ .off && s.boot.stage ≠ .flyReset && decide (s.ob Obj.pwrState ≤ pwrDipped) &&
      decide (s.ob Obj.debugState < 2) && s.debugAvailable level.val) s
    (((({ s with secure := { s.secure with unlockUntil := none, unlockLevel := 0 } }).setOb Obj.debugState 2).setOb
      Obj.debugLevel level.val).post 1099 level.val)

/-- R393. -/
def execDebugWindowExpiry (s : State) : Host.Outcome State Fault Refusal :=
  match s.secure.unlockUntil with
  | none => .next s
  | some t => whenever (s.ob Obj.debugState = 1 && decide (t ≤ s.now)) s (s.endDebug 3)

/-- R393. -/
def execTrstNLow (s : State) : Host.Outcome State Fault Refusal := .next (s.endDebug 1)

/-- R394, R487: before the LF oscillation is established the halt waits. -/
def execDebugHalt (s : State) : Host.Outcome State Fault Refusal :=
  whenever (s.applied && s.ob Obj.debugState = 2 && s.ob Obj.debugLevel = 2 &&
      decide (s.ob Obj.pwrState ≤ pwrDipped) && s.ob Obj.pwrTransition = 0) s
    (if s.tb.lfEstablished then s.debugHalt else { s with secure := { s.secure with haltWait := true } })

/-- R394. -/
def execDebugResume (s : State) : Host.Outcome State Fault Refusal :=
  match s.secure.haltedAt with
  | none => .next { s with secure := { s.secure with haltWait := false } }
  | some t => .next (s.debugResume t)

/-- R395: in Raw and Returned, in Hoisted or Dipped, during a control session; leaving it is a Fly start. -/
def execExtest (enter : Bool) (s : State) : Host.Outcome State Fault Refusal :=
  if enter then
    whenever ((s.lifecycleOf = 0 || s.lifecycleOf = 3) && decide (s.ob Obj.pwrState ≤ pwrDipped) &&
        s.ob Obj.debugState = 2 && s.ob Obj.debugLevel = 2) s
      { s with secure := { s.secure with extest := true } }
  else whenever s.secure.extest s (({ s with secure := { s.secure with extest := false } }).hoistRestart 9)

end Sys2Proof.Machine
end

