-- ==== Sys2Proof/Machine/Validate.lean ====
section
/-!
DEFINITION. What a commit is validated against (R43): every condition of spec/03 to spec/20 under which a commit fails
with configuration invalid, not mappable, type error or map too long, as the list of objects that fail on the
configuration that would result. COMMIT_FAIL_OBJECT names the lowest of them (assumption 72).
-/

namespace Sys2Proof.Machine
namespace State

/-! ## Values (R32, R34, R37, R40) -/

/-- The signal an object names lies in its range (R32). -/
def sigAllowed (r : SigRange) (v : Nat) : Bool :=
  let c := sigClass v
  match r with
  | .none => true
  | .any0 => v = 0 || sigValid v
  | .owned0 => v = 0 || sigOwned v
  | .gate0 => v = 0 || (sigValid v && (c = clsGD || c = clsSV || c = clsDOUT))
  | .vf0 => v = 0 || (sigValid v && c = clsVF)
  | .ms64 => v = 0 || (c = clsMS && decide (64 ≤ sigInst v) && decide (sigInst v < 128))
  | .adq => v = 0 || (sigValid v && (c = clsGD || c = clsSV || c = clsDOUT ||
      (c = clsMX && !mxIsMaster v && sigInst v % 64 = 0) || (c = clsBP && sigInst v % 2 ^ 15 = 0)))
  | .gq => v % 256 = 0 || v % 256 = 2 || v % 256 = 3 || v % 256 = 4

/-- Reserved bits are zero (R10); NOTICE_CAN_ID may read 0xFFFFFFFF. -/
def rsvdOk (ix : Nat) (d : Desc) (v : Nat) : Bool :=
  Nat.land v d.rsvd = 0 && (ix ≠ 0x7110 || v = 0xFFFFFFFF || bitsOf v 29 2 = 0)

/-- The value lies in the object's range (R34, Range/Unit); six octets are a MAC address, unicast or broadcast (R78). -/
def rangeOk (d : Desc) (v : Nat) : Bool :=
  let x : Int := match d.ty with
    | .i n => signedOf n v
    | _ => v
  (d.ty ≠ .bool || decide (v ≤ 1)) && (d.ty ≠ .f32 || bitsOf v 23 8 ≠ 255) &&
    (d.spans.isEmpty || d.spans.any (fun r => decide (r.1 ≤ x) && decide (x ≤ r.2))) &&
    (d.step ≤ 1 || v % d.step = 0) && sigAllowed d.sig v &&
    (d.ty ≠ .octets 6 || !bitAt v 0 || v = 2 ^ 48 - 1)

/-- The value is one the configuration object of a key takes (R34). DOMAIN entries have no range of their own. -/
def inRange (k v : Nat) : Bool :=
  match descOf k with
  | some d => d.kind ≠ .cfg || d.ty = .domain || (rsvdOk (keyIndex k) d v && rangeOk d v)
  | none => true

/-- Every listed value of a configuration fits its object. A write is checked when it is made (R40), so that only a
migrated configuration (R447) can fail by this. -/
def failsRanges (s : State) : List Nat := (s.cfg.filter (fun e => !inRange e.1 e.2)).map (fun e => e.1)

/-- The object that fails unless a condition holds. -/
def need (k : Nat) (ok : Bool) : List Nat := if ok then [] else [k]

/-- Failures over the numbers below n. -/
def needAll (n : Nat) (f : Nat → List Nat) : List Nat := (List.range n).flatMap f

/-- The object number of a DOMAIN's data. -/
def domData (ix : Nat) : Nat := ix * 256 + 3

/-! ## Ranges of signals -/

/-- A range from FIRST to LAST in one class, valid at both ends. -/
def oneClass (first last : Nat) : Bool :=
  sigClass first = sigClass last && decide (first ≤ last) && sigValid first && sigValid last

/-- Some gate-driver channel of a range has a property. -/
def gdIn (first last : Nat) (p : Nat → Bool) : Bool :=
  (List.range 24).any (fun c => decide (first ≤ mkSig clsGD c) && decide (mkSig clsGD c ≤ last) && p c)

/-- Some solenoid channel of a range has a property. -/
def svIn (first last : Nat) (p : Nat → Bool) : Bool :=
  (List.range 8).any (fun c => decide (first ≤ mkSig clsSV c) && decide (mkSig clsSV c ≤ last) && p c)

/-- A range contains a bound channel. -/
def rangeBound (s : State) (first last : Nat) : Bool := gdIn first last s.gdBound || svIn first last s.svBound

/-- The classes a lighting group, safe-state entry or SET_VALUE may name. -/
def lightClass (c : Nat) : Bool := c = clsGD || c = clsSV || c = clsDOUT || c = clsBP || c = clsMX

/-! ## Keys and roles (R69, R376) -/

/-- Key slots that 0x1100 and CHAIN_KEY_SLOT name, with the object that names each. -/
def namedSlots (s : State) : List (Nat × Nat) :=
  ([Obj.roleSlotHost, Obj.roleSlotService, Obj.roleSlotMaker].map (fun k => (k, s.cf k))) ++
    (if s.cf Obj.chainKeySlot = 0xFF then [] else [(Obj.chainKeySlot, s.cf Obj.chainKeySlot)])

def failsKeys (s : State) : List Nat :=
  let named := s.namedSlots
  need Obj.chainKeySlot (s.lifecycleOf ≠ 2 || s.cf Obj.chainKeySlot ≠ 0xFF) ++
  named.flatMap (fun x =>
    need x.1 (named.all (fun y => y.1 = x.1 || y.2 ≠ x.2)) ++
    need x.1 (!s.slotLoaded x.2 || (s.slotPolicy x.2 2 && !s.slotPolicy x.2 5))) ++
  needAll 32 (fun e => need (Obj.tokSlot e) (s.cf (Obj.tokKind e) = 0 || named.all (fun y => y.2 ≠ s.cf (Obj.tokSlot e)))) ++
  needAll 8 (fun i => need (Obj.implSlot i) (s.cf (Obj.implEnable i) = 0 || named.all (fun y => y.2 ≠ s.cf (Obj.implSlot i)))) ++
  needAll 16 (fun r => need (Obj.relMacSlot r) (s.cf (Obj.relMacSlot r) = 0xFF || named.all (fun y => y.2 ≠ s.cf (Obj.relMacSlot r))))

/-! ## Process images (R58–R60, R76) -/

/-- Bits of a signal's value in a map entry (R59, and the chapter of each class). -/
def sigBits (sig : Nat) : Nat :=
  match sigClass sig with
  | 0x03 => 1
  | 0x08 => 12
  | 0x09 => 8
  | 0x0A => 48
  | 0x05 | 0x06 | 0x0C | 0x0D => 32
  | _ => 16

/-- An entry of a map that R59 accepts; `tx` the map's direction. -/
def piEntryOk (tx : Bool) (e : Nat) : Bool :=
  let t := piTarget e
  let n := piBits e
  bitsOf e 16 16 = 0 && decide (1 ≤ n) && decide (n ≤ 1024) &&
  (match piKind e with
   | 0 => t = 0
   | 1 => (match descOf t with
     | none => false
     | some d => d.mappable && n = 8 * d.ty.size && (if tx then d.access ≠ .wo else d.access ≠ .ro))
   | 2 => tx && sigValid t && n = sigBits t
   | 3 => !tx && sigOwned t && n = sigBits t
   | _ => false)

/-- The packed data fits the map's path (R60); a channel in mode 0 carries no frame and sets no limit of its own. -/
def piFits (s : State) (m : Nat) : Bool :=
  let n := s.piBytes m
  let path := s.cf (Obj.piPath m)
  let mode := s.cf (Obj.canMode (path - 0x10))
  decide (1 ≤ n) &&
  (if path < 0x10 then decide (n ≤ 1024)
   else if mode = 1 ∨ mode = 3 then decide (n ≤ 8) && s.cf (Obj.piDirection m) = 1 && s.cf (Obj.piAuth m) = 1
   else decide (n ≤ 52))

def failsMaps (s : State) : List Nat :=
  let on (m : Nat) : Bool := s.cf (Obj.piEnable m) = 1
  let tx (m : Nat) : Bool := s.cf (Obj.piDirection m) = 1
  needAll 64 (fun m => if !on m then [] else
    need (Obj.piAuth m) (s.cf (Obj.piAuth m) = 0 || tx m) ++
    need (Obj.piPhase m) (s.cf (Obj.piPeriod m) = 0 || decide (s.cf (Obj.piPhase m) < s.cf (Obj.piPeriod m))) ++
    need (Obj.piEntryCount m) (s.piFits m) ++
    needAll (s.cf (Obj.piEntryCount m)) (fun j => need (Obj.piEntry m j) (piEntryOk (tx m) (s.cf (Obj.piEntry m j))))) ++
  (match s.halyardMaps.getLast? with
   | none => []
   | some m => need (Obj.piPeriod m) (decide (s.claimSum.1 ≤ 100000 * s.claimSum.2)))

/-! ## Safe states (R89, R93, R141, R162, R173, R183) -/

/-- The largest value a host write accepts on every output of a safe-state range; `hs` for the hoist value of a fan. -/
def safeMax (s : State) (first last : Nat) (hs : Bool) (v : Nat) : Bool :=
  match sigClass first with
  | 0x01 => decide (v ≤ 10000) || !gdIn first last (fun c => match s.fanOfLead c with
      | some f => s.cf (Obj.fanControl f) = 0 || hs
      | none => true)
  | c => decide (v ≤ classMax c) || (c = clsSV && decide (v ≤ 5000))

/-- The speed limit of fan leads in a range (R89). -/
def safeFan (s : State) (first last v : Nat) : Bool :=
  !gdIn first last (fun c => match s.fanOfLead c with
    | some f => s.cf (Obj.fanControl f) = 1 && decide (s.cf (Obj.fanMaxSpeed f) < v)
    | none => false)

/-- The limits of solenoid channels in a range (R183, R184). -/
def safeSv (s : State) (first last v : Nat) : Bool :=
  !svIn first last (fun c => decide (s.svHoldMax c < v) ||
    (s.cf (Obj.svMode c) = 1 && decide (s.cf (Obj.svPeakCurrent c) < v)))

def failsSafe (s : State) : List Nat :=
  needAll 128 fun k =>
    let f := s.cf (Obj.ssFirst k)
    let l := s.cf (Obj.ssLast k)
    let m := s.cf (Obj.ssMode k)
    let h := s.cf (Obj.hsMode k)
    let v := s.cf (Obj.ssValue k)
    let w := s.cf (Obj.hsValue k)
    let lead := gdIn f l (fun c => (s.bridgeOfLead c).isSome)
    let fan := gdIn f l (fun c => (s.fanOfLead c).isSome)
    if f = 0 then [] else
      need (Obj.ssFirst k) (lightClass (sigClass f) && !s.rangeBound f l) ++
      need (Obj.ssLast k) (oneClass f l) ++
      need (Obj.ssMode k) (m ≠ 1 || !lead) ++
      need (Obj.ssValue k) (m ≠ 3 || (s.safeMax f l false v && s.safeFan f l v && s.safeSv f l v)) ++
      need (Obj.hsMode k) ((h = 0 || (sigClass f ≠ clsBP && !lead)) &&
        (h ≠ 4 || sigClass f = clsGD || sigClass f = clsDOUT) && (h ≠ 2 || !fan)) ++
      need (Obj.hsValue k) ((h ≠ 3 && h ≠ 4) || (s.safeMax f l true w && s.safeSv f l w))

/-! ## Rules (R97–R100) -/

/-- A term that R100 accepts; an unused term (SIGNAL 0) is not looked at further (DESIGN CHOICE, assumption 107). -/
def termOk (t : Nat) : Bool :=
  termSig t = 0 || (sigValid (termSig t) && termKind t ≠ 3 &&
    (termKind t ≠ 2 || (sigValid (operandSig t) && sigClass (operandSig t) ≠ clsBP)))

/-- A target that a claim may name: not a bound channel. -/
def targetOk (s : State) (sig : Nat) : Bool := sigOwned sig && !s.isBound sig

/-- The action and ARG of a rule (R97, R100, R138, R161, R184, R211, assumption 71). -/
def actionOk (s : State) (e : Nat) : Bool :=
  let t := argTarget e
  match ruleAction e with
  | 0 => lightClass (sigClass t) && s.targetOk t && ((sigClass t = clsSV && s.disabled t) || s.valueFits t (argLow e))
  | 1 => bitsOf e 0 15 = 0 &&
      (if bitAt e 15 then argHigh e = 0 && s.groupDefined (argGroup e) else s.targetOk t)
  | 2 => sigClass t = clsVF && sigValid t
  | 3 => s.groupDefined (argGroup e)
  | 4 => argLow e = 0 && decide (bitsOf e 24 8 ≤ 31) && blockKind (s.cf (domKey 0x5400 (bitsOf e 16 8))) ≠ 0 &&
      s.groupDefined (argGroup e)
  | 5 => decide (bitsOf e 32 3 ≤ 3) && bitsOf e 0 32 = 0
  | 6 => decide (1392 ≤ bitsOf e 29 11) && decide (bitsOf e 29 11 ≤ 1455) && bitsOf e 16 13 = 0
  | _ => s.cf (Obj.profileMask (bitsOf e 36 4)) ≠ 0 && bitsOf e 32 3 = 0 && bitsOf e 0 32 = 0

/-- An enabled rule that R100 accepts. -/
def ruleOk (s : State) (e : Nat) : Bool :=
  (ruleClassCode e = 0 || ruleClassCode e = 3 || ruleClassCode e = 4) && decide (bitsOf e 45 3 ≤ 5) &&
  (List.range 4).all (fun j => termOk (ruleTerm e j)) &&
  (ruleEvery e || decide (ruleTrigger e ≤ 1535)) &&
  (ruleLatch e || ruleEvery e || !(ruleAction e = 0 || ruleAction e = 2 || ruleAction e = 3 || ruleAction e = 4)) &&
  s.actionOk e

def failsRules (s : State) : List Nat :=
  (s.cfg.filter (fun e => isRule e && !s.ruleOk e.2)).map (fun e => e.1)

/-! ## Admission (R116, R124) -/

def failsArbiter (s : State) : List Nat :=
  let c := s.cf Obj.sagCLevel
  let a := s.cf Obj.sagALevel
  let above (l : Nat) : Bool := l = 0 || decide (s.cf Obj.strikeLevel + 1000 ≤ l)
  need Obj.maxShare (decide (s.cf Obj.baseI ≤ s.cf Obj.maxShare)) ++
  need Obj.sagCLevel (above c) ++
  need Obj.sagALevel (above a && (a = 0 || c = 0 || decide (a ≤ c)))

/-! ## Gate drivers, bridges and fans (R136, R139, R141, R142, R146, R160–R162, R174, R231) -/

/-- The sum of R136 in mA, as a fraction: MOSFET_QG × PWM frequency + 0.05 mA = (2,000 × QG + P) ÷ (20 × P) for each channel in
mode 1 or 3 with a PWM period of P ticks. -/
def gateLoad (s : State) : Nat × Nat :=
  (List.range 24).foldl (fun x c =>
    let p := s.cf (Obj.gdPwmPeriod c)
    if (s.cf (Obj.gdMode c) = 1 || s.cf (Obj.gdMode c) = 3) && p ≠ 0 then
      (x.1 * (20 * p) + (2000 * s.cf (Obj.gdMosfetQg c) + p) * x.2, x.2 * (20 * p)) else x) (0, 1)

/-- A channel that belongs to a bridge or fan, lead or member. -/
def inMotor (s : State) (c : Nat) : Bool := (s.bridgeOf c).isSome || (s.fanOf c).isSome
/-- A lead of a bridge or fan. -/
def isLead (s : State) (c : Nat) : Bool := (s.bridgeOfLead c).isSome || (s.fanOfLead c).isSome

def failsGd (s : State) : List Nat :=
  need (Obj.gdMosfetQg 0) (decide (s.gateLoad.1 ≤ 20 * s.gateLoad.2)) ++
  needAll 24 (fun c =>
    let p := s.cf (Obj.gdPwmPeriod c)
    let mode := s.cf (Obj.gdMode c)
    let other := s.cf (Obj.gdMode (if c % 2 = 0 then c + 1 else c - 1))
    let ol := s.cf (Obj.gdOlCurrent c)
    let member := s.inMotor c && !s.isLead c
    need (Obj.gdMode c) ((mode ≠ 3 || (c % 2 = 0 && other = 4)) && (mode ≠ 4 || (c % 2 = 1 && other = 3))) ++
    need (Obj.gdPwmPhase c) (p = 0 || decide (s.cf (Obj.gdPwmPhase c) < p)) ++
    need (Obj.gdSsVdsThr c) (decide (s.cf (Obj.gdVdsThr c) ≤ s.cf (Obj.gdSsVdsThr c))) ++
    need (Obj.gdSoftTime c) (s.cf (Obj.gdSoftTime c) = 0 || (p ≠ 0 && mode ≠ 3 && mode ≠ 4)) ++
    need (Obj.gdOffDiagEnable c) (!member || s.cf (Obj.gdOffDiagEnable c) = 0) ++
    need (Obj.gdOlCurrent c) (ol = 0 || !(member || (s.bridgeOfLead c).isSome)) ++
    need (Obj.calRdsNom c) (s.cf (Obj.calRdsNom c) ≠ 0 || !(s.inMotor c || ol ≠ 0 || s.cf (Obj.gdThRth c) ≠ 0)))

/-- Pairs that bridges and fans use, each with the object that names it. -/
def usedPairs (s : State) : List (Nat × Nat) :=
  ((List.range 6).filter s.brUsed).flatMap (fun h =>
    [(Obj.brPairA h, s.cf (Obj.brPairA h)), (Obj.brPairB h, s.cf (Obj.brPairB h))]) ++
  ((List.range 4).filter s.fanUsed).map (fun f => (Obj.fanPair f, s.cf (Obj.fanPair f)))

def failsMotors (s : State) : List Nat :=
  let pairs := s.usedPairs
  pairs.flatMap (fun x =>
    need x.1 (pairs.all (fun y => y.1 = x.1 || y.2 ≠ x.2) && s.cf (Obj.gdMode (2 * x.2)) = 3)) ++
  needAll 6 (fun h => need (Obj.brRunMax h)
    (!s.brUsed h || s.cf (Obj.brFunction h) = 1 || s.cf (Obj.brRunMax h) ≠ 0)) ++
  needAll 4 (fun f =>
    let p := s.cf (Obj.gdPwmPeriod (s.fanLead f))
    let rate := if p = 0 then 50000 else 100000000 / p
    let ripples := s.cf (Obj.fanRipplesPerRev f)
    if !s.fanUsed f then [] else
      need (Obj.fanMaxSpeed f) (decide (s.cf (Obj.fanMaxSpeed f) * ripples * 8 ≤ 60 * rate)) ++
      need (Obj.fanControl f) (s.cf (Obj.fanControl f) = 0 || s.cf (Obj.fanTach f) ≠ 0xFF || ripples ≠ 0))

/-! ## Solenoids, outputs and frequency inputs (R183, R188, R192, R196, R211, R212, R225) -/

def failsSv (s : State) : List Nat :=
  needAll 8 fun c =>
    let n := 24 + c
    let peak := s.cf (Obj.svPeakCurrent c)
    let x := if s.svPaired c then 2 else 1
    need (Obj.svPair c) (c % 2 = 0 || s.cf (Obj.svPair c) = 0) ++
    (if s.svBound c then [] else
      need (Obj.svOffMode c) (s.cf (Obj.svOffMode c) ≠ 0 || !s.ppValid n ||
        decide (s.ppVal n 2 * peak * peak ≤ 2 * 50 * x * 1000000000)) ++
      need (Obj.svPeakCurrent c) (decide (100 * x ≤ peak) && decide (peak ≤ 6000 * x)) ++
      need (Obj.svHoldNom c) (decide (s.cf (Obj.svHoldNom c) ≤ 2500 * x)) ++
      need (Obj.svRangeMode c) (s.cf (Obj.svRangeMode c) ≠ 2 ||
        (decide (peak ≤ 1250 * x) && decide (s.cf (Obj.svHoldNom c) ≤ 1250 * x))) ++
      need (Obj.svChopPhase c) (decide (s.cf (Obj.svChopPhase c) < s.cf (Obj.svChopPeriod c))) ++
      need (Obj.svMoveWinEnd c) (decide (s.cf (Obj.svMoveWinStart c) + 100 ≤ s.cf (Obj.svMoveWinEnd c))))

def failsField (s : State) : List Nat :=
  needAll 8 (fun d =>
    let p := s.cf (Obj.doutPwmPeriod d)
    let n := 32 + d
    need (Obj.doutPwmPhase d) (p = 0 || decide (s.cf (Obj.doutPwmPhase d) < p)) ++
    need (Obj.doutEnable d) (s.cf (Obj.doutEnable d) = 0 || !s.ppValid n ||
      decide (s.ppVal n 2 * (10 * s.ppVal n 5) * (10 * s.ppVal n 5) ≤ 2 * 150 * 1000000000))) ++
  needAll 4 (fun t => need (Obj.tachPullup t) (s.cf (Obj.tachPullup t) = 0 || s.cf (Obj.tachThresh t) ≠ 0))

/-! ## Bunting and matrices (R262, R266, R267, R274, R280) -/

/-- Some two listed entries share a number. -/
def repeats (l : List Nat) : Bool := match l with
  | [] => false
  | x :: r => r.contains x || repeats r

def failsBunting (s : State) : List Nat :=
  needAll 8 fun p =>
    let nodes := s.domEntries (0x5100 + p)
    let sensors := nodes.filter (fun e => bitAt e.2 24)
    let slots := s.cf (Obj.bpThermSlots p)
    need (Obj.bpThermSlots p) (decide (sensors.length ≤ 8 * slots)) ++
    need (Obj.bpBgTmax p) (decide (s.cf (Obj.bpBgKnee p) < s.cf (Obj.bpBgTmax p))) ++
    need (domData (0x5100 + p))
      (nodes.all (fun e => decide (bitsOf e.2 16 8 ≤ 64) && bitsOf e.2 25 39 = 0) &&
       sensors.all (fun e => bitsOf e.2 16 8 ≠ 0 && (((s.bpCh p).nodes.get? e.1).getD {}).kind ≠ 2) &&
       !repeats (sensors.map (fun e => bitsOf e.2 16 8)) &&
       (List.range 64).all (fun g => decide ((nodes.filter (fun e => bitsOf e.2 16 8 = g + 1)).length ≤ 64)))

def failsMatrix (s : State) : List Nat :=
  needAll 2 (fun p => need (Obj.mxPhase p) (decide (s.cf (Obj.mxPhase p) < 8 * s.cf (Obj.mxLinePeriod p)))) ++
  need Obj.kneeGdMask ((List.range 24).all (fun c => !bitAt (s.cf Obj.kneeGdMask) c ||
    !(s.cf (Obj.gdPwmPeriod c) = 0 || s.gdBound c || s.isLead c)))

/-! ## Groups and pattern blocks (R283, R185, R287) -/

/-- Existing signals of a range. -/
def rangeCount (r : Nat × Nat) : Nat :=
  if sigClass r.1 = clsBP then r.2 + 1 - r.1 else (rangeMembers r).length

def groupOk (s : State) (e : Nat) : Bool :=
  let n := bitsOf e 0 8
  let rs := rangesOf e
  decide (n ≤ 16) && decide (bitsOf e 8 8 ≤ 1) && bitsOf e 16 48 = 0 &&
  rs.all (fun r => sigClass r.1 = sigClass r.2 && decide (r.1 ≤ r.2) && lightClass (sigClass r.1) &&
    !s.rangeBound r.1 r.2 && !gdIn r.1 r.2 s.isLead && !svIn r.1 r.2 (fun c => s.cf (Obj.svMode c) ≠ 2)) &&
  (List.range (min n 16)).all (fun r => bitsOf e (64 + 64 * r) 16 = 0) &&
  decide ((rs.map rangeCount).sum ≤ 65536)

/-- A defined pattern block within the fields of its layout (R287, assumption 73). -/
def blockOk (b : Nat) : Bool :=
  let k := blockKind b
  decide (k ≤ 4) && bitsOf b 13 3 = 0 && decide (10 ≤ blockPeriod b) && decide (blockLo b ≤ blockHi b) &&
  (k ≠ 1 || (decide (1 ≤ blockDuty b) && decide (blockDuty b ≤ 999))) &&
  (k ≠ 3 || (decide (1 ≤ blockWidth b) && decide (blockWidth b < blockSpacing b) && decide (blockSpacing b ≤ 4096))) &&
  (k ≠ 4 || (decide (1 ≤ blockWidth b) && decide (blockWidth b ≤ 4096) && decide (blockSpacing b ≤ 4095)))

def failsLighting (s : State) : List Nat :=
  need (domData 0x5300) ((s.domEntries 0x5300).all (fun e => bitsOf e.2 0 8 = 0 || s.groupOk e.2)) ++
  need (domData 0x5400) ((s.domEntries 0x5400).all (fun e => blockKind e.2 = 0 || blockOk e.2))

/-! ## Timers and routes (R308) -/

def routeOk (s : State) (r : Nat) : Bool :=
  decide (routeTimerOp r ≤ 4) && bitsOf r 48 8 = 0 && bitsOf r 35 5 = 0 && bitsOf r 4 28 = 0 &&
  (!bitAt r 2 || s.cf (Obj.noticeCanId (routeChannel r)) ≠ 0xFFFFFFFF)

def failsFabric (s : State) : List Nat :=
  needAll 32 (fun t =>
    need (Obj.tmrOvfAction t) (decide (actionOp (s.cf (Obj.tmrOvfAction t)) ≤ 4)) ++
    needAll 4 (fun k => need (Obj.tmrCmpkAction t k) (decide (actionOp (s.cf (Obj.tmrCmpkAction t k)) ≤ 4)))) ++
  need (domData 0x7100) ((s.domEntries 0x7100).all (fun e => s.routeOk e.2))

/-! ## CAN (R315–R317, R324, R326, R334, and selective wake-up) -/

/-- Bit times in cycles of 12.5 ns (R315). -/
def nominalTime (s : State) (c : Nat) : Nat :=
  s.cf (Obj.canNbrp c) * (1 + s.cf (Obj.canNtseg1 c) + s.cf (Obj.canNtseg2 c))
def dataTime (s : State) (c : Nat) : Nat :=
  s.cf (Obj.canDbrp c) * (1 + s.cf (Obj.canDtseg1 c) + s.cf (Obj.canDtseg2 c))

def canTimingFails (s : State) (c : Nat) : List Nat :=
  let n := s.nominalTime c
  let d := s.dataTime c
  if s.cf (Obj.canMode c) = 0 then [] else
    need (Obj.canNsjw c) (decide (s.cf (Obj.canNsjw c) ≤ s.cf (Obj.canNtseg2 c))) ++
    need (Obj.canNbrp c) (decide (80 ≤ n) && decide (n ≤ 8000)) ++
    need (Obj.canDsjw c) (decide (s.cf (Obj.canDsjw c) ≤ s.cf (Obj.canDtseg2 c))) ++
    (if !s.canFd c then [] else
      need (Obj.canDbrp c) (decide (d ≤ n) && decide ((if c < 4 then 16 else 10) ≤ d)) ++
      need (Obj.canTdcOffset c) (decide (80 ≤ d) || s.cf (Obj.canTdcOffset c) ≠ 0)) ++
    need (Obj.swEnable c) (4 ≤ c || s.cf (Obj.swEnable c) = 0 || n = 640 || n = 320 || n = 160 || n = 80)

/-- Identifiers with their formats that claimants hold on a channel, with the object that names each (R316); a 29-bit
identifier counts from 2^29. -/
def canIds (s : State) (c : Nat) : List (Nat × Nat) :=
  let code (ext : Bool) (id : Nat) : Nat := if ext then 2 ^ 29 + id else id
  let n := if s.cf (Obj.canNodeId c) = 0 then 0x40 + s.address else s.cf (Obj.canNodeId c)
  let notice := s.cf (Obj.noticeCanId c)
  (if s.cf (Obj.canMode c) = 1 ∨ s.cf (Obj.canMode c) = 2 then
    [(0x600 + n, Obj.canNodeId c), (0x580 + n, Obj.canNodeId c)] else []) ++
  (((List.range 64).filter (fun m => s.cf (Obj.piEnable m) = 1 && s.cf (Obj.piPath m) = 0x10 + c)).map
    (fun m => (code (bitAt (s.cf (Obj.piCanId m)) 31) (bitsOf (s.cf (Obj.piCanId m)) 0 29), Obj.piCanId m))) ++
  (if s.cf Obj.nmEnable = 1 && s.cf Obj.nmChannel = c then
    (List.range 64).map (fun i => (s.cf Obj.nmBaseId + i, Obj.nmBaseId)) else []) ++
  (if notice = 0xFFFFFFFF then [] else [(code (bitAt notice 31) (bitsOf notice 0 29), Obj.noticeCanId c)]) ++
  (((s.domEntries 0x6100).filter (fun e => moDir e.2 ≠ 0 && moChan e.2 = c)).map
    (fun e => (code (moExt e.2) (moId e.2), domData 0x6100)))

/-- Objects that name an identifier named twice. -/
def sharedIds (l : List (Nat × Nat)) : List Nat :=
  (l.filter (fun x => decide (1 < (l.filter (fun y => y.1 = x.1)).length))).map (fun x => x.2)

/-- A used message object (R317 and the fields of MO_CFG). -/
def moOk (s : State) (e : Nat) : Bool :=
  let c := moChan e
  let mode := s.cf (Obj.canMode c)
  let tx := moDir e = 2
  let classical := mode = 1 || mode = 3
  decide (moDir e ≤ 2) && decide (c ≤ 7) && mode ≠ 0 && !(tx && s.canListens c) &&
  (moExt e || bitsOf e 11 18 = 0) && !(classical && (moFdf e || moBrs e || (tx && decide (8 < moDlc e)))) &&
  (!moSa e || (tx && moExt e && s.cf (Obj.j1939Enable c) = 1)) &&
  bitsOf e 29 2 = 0 && bitsOf e 52 4 = 0 && bitsOf e 96 32 = 0 && decide (moDlc e ≤ 15) &&
  (!tx || moPhase e = 0 || decide (moPhase e < moTime e))

/-- A used CS entry (R326). -/
def csOk (s : State) (e : Nat) : Bool :=
  let n := bitsOf e 32 8
  moDir (s.moCfg (bitsOf e 0 16)) = 1 && decide (bitsOf e 0 16 < 8192) && decide (n ≤ 32) &&
  (csBits (bitAt e 40) (bitsOf e 16 16) n).all (fun i => decide (i < 512)) && decide (bitsOf e 16 16 < 512) &&
  bitsOf e 44 20 = 0 && decide (bitsOf e 80 8 ≤ 31) && bitsOf e 88 8 = 0

/-- A used watch slot (R324). -/
def watchOk (s : State) (e : Nat) : Bool :=
  let d := moDir (s.moCfg (watchObject e))
  decide (watchObject e < 8192) && decide (watchMode e ≤ 4) && d ≠ 0 && (watchMode e ≠ 2 || d = 1)

def failsCan (s : State) : List Nat :=
  needAll 8 (fun c => s.canTimingFails c ++ sharedIds (s.canIds c) ++
    need (Obj.j1939AddrLast c) (decide (s.cf (Obj.j1939AddrFirst c) ≤ s.cf (Obj.j1939AddrLast c)))) ++
  need (domData 0x6100) ((s.domEntries 0x6100).all (fun e => moDir e.2 = 0 || s.moOk e.2)) ++
  need (domData 0x6102) ((s.domEntries 0x6102).all (fun e => bitsOf e.2 32 8 = 0 || s.csOk e.2)) ++
  need (domData 0x6103) ((s.domEntries 0x6103).all (fun e => watchMode e.2 = 0 || s.watchOk e.2))

def failsRing (s : State) : List Nat :=
  let mode := s.cf (Obj.canMode (s.cf Obj.nmChannel))
  need Obj.nmChannel (s.cf Obj.nmEnable = 0 || mode = 1 || mode = 2) ++
  need Obj.nmBaseId (s.cf Obj.nmEnable = 0 || decide (s.cf Obj.nmBaseId + 63 ≤ 0x7FF)) ++
  need Obj.nmTMax (decide (5 * s.cf Obj.nmTTyp ≤ 2 * s.cf Obj.nmTMax)) ++
  need Obj.nmTError (decide (s.cf Obj.nmTMax ≤ s.cf Obj.nmTError))

/-! ## Parking, releases, implements and ledger ranges (R355, R407, R408, R410, R418) -/

/-- A signal a parking mask names. -/
def parked (s : State) (sig : Nat) : Bool :=
  let m := match sigClass sig with
    | 0x01 => s.cf Obj.parkGdMask
    | 0x02 => s.cf Obj.parkSvMask
    | 0x04 => s.cf Obj.parkDoutMask
    | _ => 0
  bitAt m (sigInst sig)

def failsParking (s : State) : List Nat :=
  let ok (k n cls : Nat) (bad : Nat → Bool) : List Nat :=
    need k ((List.range n).all (fun c => !bitAt (s.cf k) c || !(s.disabled (mkSig cls c) || bad c)))
  ok Obj.parkGdMask 24 clsGD (fun c => s.gdBound c || s.inMotor c) ++
  ok Obj.parkSvMask 8 clsSV s.svBound ++
  ok Obj.parkDoutMask 8 clsDOUT (fun _ => false)

def failsReleases (s : State) : List Nat :=
  needAll 16 fun r =>
    let f := s.cf (Obj.relGateFirst r)
    let l := s.cf (Obj.relGateLast r)
    let o := s.cf (Obj.relMo r)
    let slot := s.cf (Obj.relMacSlot r)
    if s.cf (Obj.relEnable r) = 0 then [] else
      (if f = 0 then [] else
        need (Obj.relGateFirst r) (!s.rangeBound f l && !gdIn f l (fun c => s.inMotor c && !s.isLead c) &&
          ((List.range 24).all (fun c => !(decide (f ≤ mkSig clsGD c) && decide (mkSig clsGD c ≤ l) && s.parked (mkSig clsGD c)))) &&
          ((List.range 8).all (fun c => !(decide (f ≤ mkSig clsSV c) && decide (mkSig clsSV c ≤ l) && s.parked (mkSig clsSV c)))) &&
          ((List.range 8).all (fun c => !(decide (f ≤ mkSig clsDOUT c) && decide (mkSig clsDOUT c ≤ l) && s.parked (mkSig clsDOUT c))))) ++
        need (Obj.relGateLast r) (oneClass f l)) ++
      need (Obj.relMo r) (o = 0xFFFF || moDir (s.moCfg o) = 2) ++
      need (Obj.relMacSlot r) (slot = 0xFF || o = 0xFFFF ||
        (decide (8 ≤ dlcLen (moDlc (s.moCfg o))) && s.slotPolicy slot 5 && s.slotPolicy slot 2))

/-- Message objects that enabled implements and releases use, with the object that names each. -/
def serving (s : State) : List (Nat × Nat) :=
  ((List.range 8).filter (fun i => s.cf (Obj.implEnable i) = 1)).flatMap (fun i =>
    [(s.cf (Obj.implTxMo i), Obj.implTxMo i), (s.cf (Obj.implRxMo i), Obj.implRxMo i)]) ++
  ((List.range 16).filter (fun r => s.cf (Obj.relEnable r) = 1 && s.cf (Obj.relMo r) ≠ 0xFFFF)).map (fun r =>
    (s.cf (Obj.relMo r), Obj.relMo r))

def failsImplements (s : State) : List Nat :=
  let l := s.serving
  needAll 8 fun i =>
    let tx := s.moCfg (s.cf (Obj.implTxMo i))
    let rx := s.moCfg (s.cf (Obj.implRxMo i))
    let alone (k : Nat) : Bool := decide ((l.filter (fun y => y.1 = s.cf k)).length ≤ 1)
    if s.cf (Obj.implEnable i) = 0 then [] else
      need (Obj.implTxMo i) (alone (Obj.implTxMo i) && moDir tx = 2 && moFdf tx && moDlc tx = 12 && moTime tx = 0 &&
        !moOnWrite tx && s.canFd (moChan tx)) ++
      need (Obj.implRxMo i) (alone (Obj.implRxMo i) && moDir rx = 1 && moFdf rx && moChan rx = moChan tx)

def failsLedger (s : State) : List Nat :=
  needAll 32 fun k =>
    let f := s.cf (Obj.lrFirst k)
    let l := s.cf (Obj.lrLast k)
    if f = 0 then [] else
      need (Obj.lrFirst k) (sigOwned f) ++ need (Obj.lrLast k) (oneClass f l)

/-! ## The validation (R43) -/

/-- Every object that fails on the configuration in force. -/
def configFails (s : State) : List Nat :=
  s.failsRanges ++ s.failsKeys ++ s.failsMaps ++ s.failsSafe ++ s.failsRules ++ s.failsArbiter ++ s.failsGd ++ s.failsMotors ++
    s.failsSv ++ s.failsField ++ s.failsBunting ++ s.failsMatrix ++ s.failsLighting ++ s.failsFabric ++ s.failsCan ++
    s.failsRing ++ s.failsParking ++ s.failsReleases ++ s.failsImplements ++ s.failsLedger

/-- COMMIT_FAIL_OBJECT of a configuration: the lowest object that fails, none where all pass. -/
def failObject (s : State) (cfg : Regs) : Option Nat :=
  match ({ s with cfg := cfg }).configFails with
  | [] => none
  | k :: r => some (r.foldl min k)

end State
end Sys2Proof.Machine
end

