-- ==== Sys2Proof/Machine/Commit.lean ====
section
/-!
DEFINITION. Pending sets, commits, and what a commit that takes effect does to the machine (R42–R45, R103, R124, R209,
R223, R235, R265, R314, R320, R325, R494, R495).
-/

namespace Sys2Proof.Machine
namespace State

/-! ## Pending sets (R42, R44) -/

/-- The object that a configuration key belongs to: the DOMAIN of an entry, else the key itself. -/
def objectOfKey (k : Nat) : Nat := if k < 2 ^ 40 then k else domData ((k - 2 ^ 40) / 2 ^ 20)

/-- Bytes that a pending value takes (R42, assumption 75). -/
def pendingBytes (k : Nat) : Nat :=
  if k < 2 ^ 40 then (match descOf k with
    | some d => d.ty.size
    | none => 0)
  else (domEntry ((k - 2 ^ 40) / 2 ^ 20)).1

/-- Bytes that the pending sets of all sessions take, with those of accepted commits that have not taken effect. -/
def pendingUsed (s : State) : Nat :=
  let bytes (l : List PendingValue) : Nat := (l.map (fun p => pendingBytes p.key)).sum
  (s.sessions.map (fun x => bytes x.pendingSet)).sum +
    ((s.commits.filter (fun j => j.generation.isNone)).map (fun j => bytes j.set)).sum

/-- Objects of a pending set (PENDING_COUNT, R416 kind 10). -/
def setObjects (l : List PendingValue) : List Nat := sortedNats (l.map (fun p => objectOfKey p.key))

/-- A value put into a session's pending set (R42): a pending value is replaced. Where a commit conflict has named the
object, its values count as first written now (R44, assumption 93). -/
def putPending (s : State) (x : Session) (k v : Nat) : State :=
  let same (p : PendingValue) : Bool := objectOfKey p.key = objectOfKey k
  let l := if x.pendingSet.any (fun p => same p && p.told) then
      x.pendingSet.map (fun p => if same p then { p with first := s.commitSerial, told := false } else p)
    else x.pendingSet
  let l := if l.any (fun p => p.key == k) then l.map (fun p => if p.key = k then { p with value := v } else p)
    else l ++ [{ key := k, value := v, first := s.commitSerial }]
  s.setSession { x with pendingSet := l }

/-- A cfg write of several values at once (R42): no resource where the memory of all pending sets would be exceeded. -/
def doPending (s : State) (h : Nat) (vals : List (Nat × Nat)) : Answer :=
  match s.session? h with
  | none => .error .noSession
  | some x =>
    let fresh := vals.filter (fun v => !x.pendingSet.any (fun p => p.key == v.1))
    check (decide (s.pendingUsed + (fresh.map (fun v => pendingBytes v.1)).sum ≤ 512 * 1024)) .noResource <|
      .ok (forEach vals (fun (s : State) v => match s.session? h with
        | some x => s.putPending x v.1 v.2
        | none => s) s)

/-- The object of a pending value was committed, or accepted in a commit, by another session since this one first wrote it
(R44). -/
def inConflict (s : State) (h : Nat) (p : PendingValue) : Bool :=
  match s.marks.get? (objectOfKey p.key) with
  | some m => m.by_ ≠ h && decide (p.first < m.serial)
  | none => false

/-- COMMIT_CMD 1 (R44, R45): a conflict keeps the set; an accepted set leaves the session (assumption 74). -/
def doCommit (s : State) (x : Session) : Answer :=
  let told := x.pendingSet.map (fun p => if s.inConflict x.handle p then { p with told := true } else p)
  if x.pendingSet.any (s.inConflict x.handle) then
    .ok { ((s.setSession { x with pendingSet := told, lastCommit := 0 }).setSob x.handle Obj.commitStatus 4) with
      reply := { status := .commitConflict } }
  else
    let n := s.commitSerial + 1
    let s : State := { s with
      commitSerial := n
      marks := (setObjects x.pendingSet).foldl
        (fun (t : Table CommitMark) o => t.put o { serial := n, by_ := x.handle }) s.marks
      commits := s.commits ++ [(
        { serial := n, session := x.handle, role := x.role, hostId := x.hostId, set := x.pendingSet
          accepted := s.now } : CommitJob)] }
    .ok (((s.setSession { x with pendingSet := [], lastCommit := n }).setSob x.handle Obj.commitStatus 1).setSob x.handle
      Obj.commitFailObject 0)

/-- COMMIT_STATUS of the session of a commit, where that is the session's last (R43). -/
def commitShows (s : State) (j : CommitJob) (v : Nat) : State :=
  match s.session? j.session with
  | some x => if x.lastCommit = j.serial then s.setSob j.session Obj.commitStatus v else s
  | none => s

/-- The values of a commit that failed stand in the pending set again, but for those written since (assumption 74). -/
def commitReturns (s : State) (j : CommitJob) : State :=
  match s.session? j.session with
  | some x =>
    let back := j.set.filter (fun p => !x.pendingSet.any (fun q => q.key == p.key))
    s.setSession { x with pendingSet := back ++ x.pendingSet }
  | none => s

/-- COMMIT_CMD 2 (R42). -/
def doDiscardPending (s : State) (x : Session) : Answer := .ok (s.setSession { x with pendingSet := [] })

/-! ## What changes when a configuration takes effect -/

/-- A configuration with the values of a pending set over it. -/
def withSet (cfg : Regs) (l : List PendingValue) : Regs :=
  l.foldl (fun t p => t.write (objDefault p.key) p.key p.value) cfg

/-- The keys whose value differs between two configurations, ascending. -/
def changedKeys (old new : Regs) : List Nat :=
  (sortedNats (old.map (fun e => e.1) ++ new.map (fun e => e.1))).filter
    (fun k => old.read (objDefault k) k ≠ new.read (objDefault k) k)

/-- A key of a cfg DOMAIN at an index. -/
def inDomain (ix k : Nat) : Bool := decide (domKey ix 0 ≤ k) && decide (k < domKey (ix + 1) 0)

/-- Passports whose learned values a change discards (R235). -/
def forgetPassports (s : State) (ch : List Nat) : State :=
  let was (k : Nat) : Bool := ch.contains k
  forRange 40 (fun s n =>
    if was (Obj.ppKind n) || was (Obj.ppRWire n) || (decide (n < 24) && was (Obj.gdMode n)) ||
        (decide (24 ≤ n) && decide (n < 32) && (was (Obj.svMode (n - 24)) || was (Obj.svPair ((n - 24) / 2 * 2)))) then
      s.ppForget n else s) s

/-- The slots held by changed or disabled rules emptied, and their evaluation started afresh (R103). -/
def dropRules (s : State) (rules : List Nat) : State :=
  if rules.isEmpty then s
  else
    let gone (c : Option Claim) : Option Claim := match c with
      | some x => if rules.contains x.holder then none else c
      | none => none
    let old := s.own.slots
    let t : Table Slots := (old.map (fun (e : Nat × Slots) =>
      (e.1, ({ s := gone e.2.s, h := e.2.h, a := gone e.2.a, c := gone e.2.c } : Slots)))).filter
        (fun (e : Nat × Slots) => e.2 ≠ ({} : Slots))
    let fs := s.light.fades.filter (fun f => f.cls ≠ .h && rules.contains f.holder)
    let es := (s.light.engines.filter (fun e => e.2.cls ≠ .h && rules.contains e.2.holder)).map (fun e => e.1)
    let s := { s with
      own := { s.own with slots := t }
      eng := { s.eng with triggered := s.eng.triggered.filter (fun n => !rules.contains n)
                          previous := s.eng.previous.filter (fun (e : Nat × List (Option Int)) => !rules.contains e.1) } }
    let s := forEach fs (fun s f => s.endFade f.group f.cls.code) (forEach es freeEngine s)
    s.resolveAll (changedSlots old t)

/-- An output commanded off, out of admission, with no retry left (R153, R172, R494). -/
def turnOff (s : State) (sig : Nat) : State :=
  let i := sigInst sig
  let s := (s.withdraw sig).dropEntry sig
  match sigClass sig with
  | 0x01 => ((s.setGd i { s.gdCh i with value := 0 }).gdOff i).gdCancel i
  | 0x02 => (s.setSv i { s.svCh i with arrived := none, value := 0 }).svOff i (s.svFlow i)
  | _ => ((s.setDout i { s.doutCh i with value := 0 }).doutShow i 0).doutCancel i

/-- A disabled output's commanded value follows its owner, with nothing waiting for admission (R494). -/
def asOwned (s : State) (sig : Nat) : State :=
  if s.commandedOf sig = s.ownerValue sig then s else s.commandOwned sig (s.ownerValue sig)

/-- Outputs that a commit enables or disables (R494): a disabled one's value follows its owner, a bridge lead that is enabled takes
its standing code as a command. -/
def switchOutputs (s : State) (old : State) : State :=
  forEach directSigs (fun s sig =>
    if !old.disabled sig && s.disabled sig then (s.turnOff sig).asOwned sig
    else if old.disabled sig && !s.disabled sig then
      (if sigClass sig = clsGD && (s.bridgeOfLead (sigInst sig)).isSome then s.drive sig (s.commandedOf sig) else s.resubmit sig)
    else s) s

/-- Ports that a commit enables or disables (R263, R277, R494): a bunting port that is enabled runs discovery. -/
def switchPorts (s : State) (old : State) : State :=
  let s := forRange 2 (fun s p =>
    if old.cf (Obj.mxEnable p) = 1 && s.cf (Obj.mxEnable p) = 0 then (s.mxShut p).setOb (Obj.mxState p) 0 else s) s
  forRange 8 (fun s p =>
    if old.cf (Obj.bpEnable p) = 1 && s.cf (Obj.bpEnable p) = 0 then
      ((s.setBp p {}).setOb (Obj.bpState p) 0).setOb (Obj.bpFlags p) 0
    else if old.cf (Obj.bpEnable p) = 0 && s.cf (Obj.bpEnable p) = 1 && !s.hoist.safe && s.domainIsOn (11 + p / 2) then s.bpDiscover p
    else s) s

/-- Balls of the ports and outputs that are enabled now and were not before (R282): MX 0–31, DOUT 32–39, BP 40–47. -/
def newBalls (s : State) (old : State) : List Nat :=
  let on (k : Nat) : Bool := old.cf k = 0 && s.cf k = 1
  (List.range 48).filter (fun b =>
    if b < 32 then on (Obj.mxEnable (b / 16)) else if b < 40 then on (Obj.doutEnable (b - 32)) else on (Obj.bpEnable (b - 40)))

/-- Bunting ports whose setup command must be sent again (R265). -/
def resetNodes (s : State) (ch : List Nat) : State :=
  forRange 8 (fun s p =>
    let roles := ch.any (fun k => inDomain (0x5100 + p) k)
    if ch.contains (Obj.bpP8PwmFreq p) || ch.contains (Obj.bpNodeTimeout p) || ch.contains (Obj.bpThermSlots p) || roles then
      s.setBp p { s.bpCh p with setup := true } else s) s

/-- A changed DIN_FILTER begins a running count again (R209); a VSENS supply that a commit turns on or off follows (R216). -/
def switchSensors (s : State) (ch : List Nat) : State :=
  let s := forRange 16 (fun s c =>
    if ch.contains (Obj.dinFilter c) then s.setDin c { s.dinCh c with filterAt := some s.now } else s) s
  forRange 2 (fun s v =>
    let k := if v = 0 then Obj.vsens0Enable else Obj.vsens1Enable
    if ch.contains k && s.awake then s.vsensChange v (s.cf k) else s) s

/-- Inputs (R209, R223, R225): a changed DIN_INVERT changes DIN_STATE without an edge; a changed kind, reference or fixed
pull-up starts a range change; a TACH turned on or off starts afresh. -/
def switchInputs (s : State) (old : State) (ch : List Nat) : State :=
  let s := forRange 16 (fun s c =>
    if ch.contains (Obj.dinInvert c) then s.setOb (Obj.dinState c) (s.dinTerm c (s.dinCh c).level) else s) s
  let s := forRange 12 (fun s c =>
    let fixed := ch.contains (Obj.ainPullup c) && s.cf (Obj.ainPullup c) ≠ 2
    if ch.contains (Obj.ainKind c) || ch.contains (Obj.ainRef c) || fixed then s.ainRangeChange c else s) s
  forRange 4 (fun s t =>
    if old.cf (Obj.tachEnable t) ≠ s.cf (Obj.tachEnable t) then
      ((s.setTach t {}).setOb (Obj.tachFreq t) 0).setOb (Obj.tachState t) 0 else s) s
  |>.switchSensors ch

/-- CAN channels whose mode or bit timing changes restart (R314); changed message objects and CS entries lose their
content (R320, R325). -/
def switchCan (s : State) (ch : List Nat) : State :=
  let s := forRange 8 (fun s c =>
    let timing := (List.range 10).any (fun j => ch.contains (Obj.canMode c + j))
    if timing then s.channelRestart c else s) s
  let os := (ch.filter (inDomain 0x6100)).map (fun k => k - domKey 0x6100 0)
  let cs := (ch.filter (inDomain 0x6102)).map (fun k => k - domKey 0x6102 0)
  let s := forEach os (fun (s : State) o =>
    let s := forRange 8 (fun s c => s.setCan c { s.canCh c with
      pend := (s.canCh c).pend.filter (fun p => p.src ≠ .object o) }) s
    { s with mo := s.mo.erase o }) s
  { s with cs := s.cs.filter (fun (e : Nat × Int) => !cs.contains e.1)
           csNext := s.csNext.filter (fun (e : Nat × Int) => !cs.contains e.1) }

/-- The ring follows a change of NM_ENABLE, NM_CHANNEL, NM_ID or NM_BASE_ID (R334): it leaves, and joins where its channel
has joined (DEDUCED, assumption 77). -/
def switchRing (s : State) (ch : List Nat) : State :=
  if ch.contains Obj.nmEnable || ch.contains Obj.nmChannel || ch.contains Obj.nmId || ch.contains Obj.nmBaseId then
    let s := s.nmLeave
    if s.cf Obj.nmEnable = 1 && (s.canCh (s.cf Obj.nmChannel)).joinedAt.isSome then s.nmJoin else s
  else s

/-- Timer compares whose ARM is set while the count has passed them wait for the next lap (R295). -/
def switchTimers (s : State) (old : State) : State :=
  forRange 32 (fun s t => forRange 4 (fun s k =>
    if !old.cmpArm t k && s.cmpArm t k && decide (s.ob (Obj.tmrCmpk t k) ≤ s.tmrCountNow t) then
      s.setTmr t { s.tmr t with fired := setBitTo (s.tmr t).fired k true } else s) s) s

/-- Maps whose objects a commit changes take it up (R58, R61): they record its role and HOST_ID, start afresh, and bind to the
earliest-opened session that qualifies. -/
def switchMaps (s : State) (ch : List Nat) (role hostId : Nat) : State :=
  let s := forRange 64 (fun s m =>
    let mine := ch.any (fun k => keyIndex k = 0x1800 + m || keyIndex k = 0x1840 + m)
    if !mine then s
    else
      let x := s.maps.read {} m
      let y : PiMap := { role := role, hostId := hostId, recorded := true, rxFresh := x.rxFresh, txFresh := x.txFresh
                         last := s.now }
      let s := ({ s with maps := s.maps.write {} m y }).setBit (Obj.piStatus m) 6 false
      match s.sessions.find? (s.qualifies m) with
      | some z => if s.ob (Obj.piSession m) = z.handle then s else s.setOb (Obj.piSession m) 0
      | none => s) s
  s.bindMaps

/-- Burgee ports that a commit turns on or off (R400, R401): idle, or off with no token. -/
def switchBurgee (s : State) (ch : List Nat) : State :=
  let port (p : Nat) (k : Nat) (s : State) : State :=
    if !ch.contains k then s
    else if s.cf k = 1 then s.restPort p
    else ((s.setBgPort p { s.bgPort p with present := false, presentAt := none, pendingFail := false }).showPort p 0)
  (port 1 Obj.lfEnable (port 0 Obj.bkeyEnable s)).burgeeVote

/-- A sag level set to 0 ends its sag state (R124). -/
def switchSag (s : State) : State :=
  let c := s.arb.sagC && s.cf Obj.sagCLevel = 0
  let a := s.arb.sagA && s.cf Obj.sagALevel = 0
  if c || a then s.sagOver s.vbat c a else s

/-- A configuration takes effect (R43). `role` and `hostId` are the committing session's, for maps (R61). -/
def takeConfig (s : State) (cfg : Regs) (role hostId : Nat) : State :=
  let ch := changedKeys s.cfg cfg
  let old := s
  let gates := s.bg.latches
  let groups := ((ch.filter (inDomain 0x5300)).map (fun k => k - domKey 0x5300 0)).map (fun g => (g, s.groupMembers g))
  let rules := (ch.filter (fun k => isRule (k, old.cf k))).map (fun k => keyIndex k - 0x8000)
  let s := { s with cfg := cfg }
  let s := { s with hoist := { s.hoist with latches := s.latchesOf } }
  let s := s.setOb Obj.enabledRules ((s.cfg.filter isRule).length)
  let s := s.forgetPassports ch
  let s := s.dropRules rules
  let s := forEach groups (fun s g => s.regroup g.1 g.2) s
  let s := s.switchPorts old
  let s := s.switchOutputs old
  let s := s.gatesMoved gates
  let balls := s.newBalls old
  let s := if balls.isEmpty then s else s.nbStart balls
  let s := s.resetNodes ch
  let s := s.switchInputs old ch
  let s := s.switchCan ch
  let s := s.switchRing ch
  let s := s.switchTimers old
  let s := s.switchMaps ch role hostId
  let s := s.switchBurgee ch
  let s := s.switchSag
  let s := if ch.contains Obj.standingMask then s.votesMoved old.required 15 else s
  let s := s.postIf (ch.contains Obj.scaLevel) 1106 (s.cf Obj.scaLevel)
  let s := if ch.contains Obj.syncEnable && s.cf Obj.syncEnable = 0 then
      ({ s with hal := { s.hal with goodSyncs := 0, lastSync := none } }).setOb Obj.syncState 0 else s
  s.hoistFollow.ledgerRefresh.runQueue

/-! ## Commits in progress (R43, R45, R447, R469) -/

/-- The first commit that has not taken effect, with those before and after it. -/
def nextCommit (s : State) : Option (List CommitJob × CommitJob × List CommitJob) :=
  match s.commits.span (fun j => j.generation.isSome) with
  | (done, j :: rest) => some (done, j, rest)
  | _ => none

/-- A commit may take effect: the configuration is in force, and it is between two sweeps or no sweep runs; not while a
spare loads as a lane (R43, R457). -/
def mayApply (s : State) : Bool := s.applied && (!s.sweepsRun || s.eng.segment = 0) && s.ft.loading.isEmpty

/-- The first accepted commit taken (R43): it fails invalid and applies nothing, or the whole set takes effect. -/
def commitTakes (s : State) (done : List CommitJob) (j : CommitJob) (rest : List CommitJob) : State :=
  let base := match s.upd.migrated with
    | some r => if j.set.isEmpty then s.cfg else r
    | none => s.cfg
  let cand := withSet base j.set
  let gen := match done.getLast? with
    | some d => d.generation.getD 0
    | none => s.ob Obj.commitGeneration
  if j.set.isEmpty then
    ({ s with commits := done ++ { j with generation := some gen, regs := s.cfg } :: rest }).commitShows j 2
  else match s.failObject cand with
  | some k =>
    let s := (({ s with commits := done ++ rest }).commitShows j 5).commitReturns j
    match s.session? j.session with
    | some x => if x.lastCommit = j.serial then s.setSob j.session Obj.commitFailObject (objectOfKey k) else s
    | none => s
  | none =>
    let s := s.takeConfig cand j.role.rank j.hostId
    let s := { s with commits := done ++ { j with generation := some ((gen + 1) % 2 ^ 32), regs := cand } :: rest }
    let s := s.commitShows j 2
    match s.upd.migrated with
    | none => s
    | some _ =>
      let c := s.ob Obj.configSchema
      let v := s.ob Obj.schemaVersion
      let s := { s with upd := { s.upd with migrated := none } }
      let s := ((s.setOb Obj.migrateState 1).setOb Obj.migrateFailObject 0).setOb Obj.configSchema v
      s.post 1208 (c * 2 ^ 16 + v)

/-- The three copies hold a generation and its configuration (R45, R469). -/
def writeCopies (s : State) (gen : Nat) (regs : Regs) : State :=
  let c : ConfigCopy := { generation := gen, intact := true, regs := regs }
  let s := { s with ft := { s.ft with copies := [(0, c), (1, c), (2, c)] } }
  forRange 3 (fun s k => s.setOb (Obj.cfgGen k) gen) s

/-- A commit becomes durable, with its ledger record (R45, R416 kind 10). An empty set changes nothing durable. -/
def commitEnds (s : State) (j : CommitJob) (rest : List CommitJob) : State :=
  let old := s.ob Obj.commitGeneration
  let gen := j.generation.getD old
  let s := { s with commits := rest }
  let s := s.commitShows j 3
  if j.set.isEmpty then s
  else
    let s := (s.writeCopies gen j.regs).setOb Obj.commitGeneration gen
    s.record { s.newRecord 10 s.now with
      old := old, new := gen, cmdr := 10, cmdrAux := j.session, detail := (setObjects j.set).length % 2 ^ 16 }

end State

/-! ## Meanings -/

/-- R44, R45. -/
def execCommit (sess : Nat) (s : State) : Host.Outcome State Fault Refusal :=
  s.request sess .host (writeOf Obj.commitCmd 4 1) (fun x s => s.doCommit x)

/-- R42. -/
def execDiscardPendingSet (sess : Nat) (s : State) : Host.Outcome State Fault Refusal :=
  s.request sess .host (writeOf Obj.commitCmd 4 2) (fun x s => s.doDiscardPending x)

/-- R43: the next accepted commit at a sweep boundary, or at once where no sweep runs. -/
def execCommitApply (s : State) : Host.Outcome State Fault Refusal :=
  match s.nextCommit with
  | none => .next s
  | some (done, j, rest) => whenever s.mayApply s (s.commitTakes done j rest)

/-- R45: the write of the copies has ended, well or not. A failed store leaves the configuration in force and the commit not
durable (R41). -/
def execCommitDurable (stored : Bool) (s : State) : Host.Outcome State Fault Refusal :=
  match s.commits with
  | [] => .next s
  | j :: rest =>
    if j.generation.isNone then .next s
    else if stored then .next (s.commitEnds j rest)
    else .next ((({ s with commits := rest }).commitShows j 6).logFault 0 .degraded 3 s.now 0 0 0 j.serial)

end Sys2Proof.Machine
end

