-- ==== Sys2Proof/Machine/Power.lean ====
section
/-!
DEFINITION. Power states: host votes, domains, entries and exits, wakes and the RTC (spec/16; R24, R107, R125, R306, R393,
R406, R487).
-/

namespace Sys2Proof.Machine
namespace State

/-! ## Host votes (R352) -/

/-- HOST_VOTE. -/
def doHostVote (s : State) (v : Nat) : Answer :=
  let op := bitsOf v 24 8
  let mask := bitsOf v 0 19
  let old := s.required
  let sus := s.ob Obj.standingSuspended
  check (bitsOf v 19 5 = 0) .reservedBit <|
    match op with
    | 1 => .ok (s.placeVotes 0 mask)
    | 2 => .ok (s.dropVotes 0 mask)
    | 3 => .ok (s.dropVotes 0 allDomains)
    | 4 => .ok ((s.setOb Obj.standingSuspended (sus ||| mask)).votesMoved old 15)
    | 5 => .ok ((s.setOb Obj.standingSuspended (sus - (sus &&& mask))).votesMoved old 15)
    | _ => .error .valueRange

/-- The request that writes a HOST_VOTE of an operation. -/
def hostVote (s : State) (sess op mask : Nat) : Host.Outcome State Fault Refusal :=
  s.request sess .host (writeOf Obj.hostVote 4 (op * 2 ^ 24 + mask)) (fun _ s => s.doHostVote (op * 2 ^ 24 + mask))

/-! ## Domains (R348, R350) -/

/-- The ports of a bunting domain, stopped or set on discovery (R263, R354). -/
def switchBunting (s : State) (p : Nat) (on : Bool) : State :=
  if s.cf (Obj.bpEnable p) = 0 then s
  else if on then (if s.hoist.safe then s else s.bpDiscover p)
  else (s.setOb (Obj.bpState p) 0).setBit (Obj.bpFlags p) 0 false

/-- The scan of a matrix port, stopped or started; a port that a protection holds off stays so. -/
def switchMatrix (s : State) (p : Nat) (on : Bool) : State :=
  if on then s.mxRestart p 0
  else
    let st := s.ob (Obj.mxState p)
    let s := s.mxShut p
    if st = 1 || st = 5 then s.setOb (Obj.mxState p) 0 else s

/-- A domain switched on or off (R350), with what it contains (R348). -/
def setDomain (s : State) (d : Nat) (on : Bool) : State :=
  let s := (s.setOb (Obj.domainOn d) (if on then 1 else 0)).bump (Obj.domainSwitches d)
  if 3 ≤ d && d ≤ 10 then s.channelRestart (d - 3)
  else if 11 ≤ d && d ≤ 14 then (s.switchBunting (2 * (d - 11)) on).switchBunting (2 * (d - 11) + 1) on
  else if d = 16 then (s.switchMatrix 0 on).switchMatrix 1 on
  else if d = 17 && !on then s.setOb Obj.ledgerState 2
  else s

/-- Every domain as the power state and its votes have it. -/
def settleDomains (s : State) : State :=
  forRange 19 (fun s d => if s.domainIsOn d = s.domainDue d then s else s.setDomain d (s.domainDue d)) s

/-! ## Entries (R350, R353, R354) -/

/-- The required state, looked at again in a state just reached (R350). -/
def watchTarget (s : State) : State :=
  let r := s.required
  let st := s.ob Obj.pwrState
  let s := s.showTarget
  { s with pw := { s.pw with lowSince := if st < r then some s.now else none } }

/-- A captured wake starts its exit at once (R354): EV1058, and the wake hold counted from the capture. -/
def wakeCaptured (s : State) : State :=
  match s.pw.captured with
  | none => s
  | some (cause, detail, at_) =>
    let s : State := { s with pw := { s.pw with captured := none } }
    let s := (s.recordWake cause detail).post 1058 (cause * 2 ^ 16 + detail % 2 ^ 16)
    ((s.beginExit cause detail).holdVotes at_).showTarget

/-- A state entered (R353, R361): shown, counted and posted. -/
def entered (s : State) (old new : Nat) : State :=
  ((s.bump Obj.transitionCount).setOb Obj.pwrTransition 0).post 1056 (new * 256 + old) |>.watchTarget |>.wakeCaptured

/-- An entry begins (R350, R354). -/
def beginEntry (s : State) : State :=
  ({ s with pw := { s.pw with entering := s.required, captured := none, lowSince := none } }).setOb Obj.pwrTransition 1

/-- Dipped entered (R347, R353): the runtime cores stop. -/
def toDipped (s : State) : State := ((s.setOb Obj.pwrState pwrDipped).settleDomains).entered pwrHoisted pwrDipped

/-- Every fade and pattern stops at its last value (R354). -/
def stopLighting (s : State) : State :=
  let s := forEach (s.light.fades.map (fun f => (f.group, f.cls.code))) (fun (s : State) f => s.endFade f.1 f.2) s
  forEach (s.light.engines.map (fun e => e.1)) freeEngine s

/-- Every output but the parking loads and the virtual flags is commanded off, no claim slot emptied (R355); a bridge stops with
its stop sequence (R172). -/
def parkOutputs (s : State) : State :=
  let keep (sig : Nat) : Bool := s.parked sig || sigClass sig = clsVF
  let s := { s with own := { s.own with commanded := s.own.commanded.filter (fun e => keep e.1) } }
  let s := forRange 6 (fun s h =>
    if s.brUsed h && !s.parked (gdSig (s.brLead h)) then s.parkBridge h else s) s
  let s := forRange 4 (fun s f =>
    if s.fanUsed f && !s.parked (gdSig (s.fanLead f)) then s.fanDeliver f 0 else s) s
  forEach directSigs (fun s sig =>
    let c := sigInst sig
    let other := s.disabled sig || s.parked sig || (sigClass sig = clsGD && (s.gdBound c || (s.bridgeOfLead c).isSome))
    if other then s else s.turnOff sig) s

/-- The arbiter discards its queue and keeps the entries of the parking loads (R125). -/
def parkArbiter (s : State) : State :=
  { s with arb := { s.arb with
    queue := [], refused := [], slopes := [], portRaises := [], portEnv := [], ages := [], restoring := []
    entries := s.arb.entries.filter (fun e => s.parked (e.1 / 8)) } }

/-- Occurrences that wait at the fabric are released before it holds them (R306). -/
def releaseAll (s : State) : State :=
  let l := s.fab.pend
  forEach l deliver { s with fab := { s.fab with pend := [] } }

/-- Half-mast entered (R354–R356, R406, R422). The PLL stops and the timebase goes on in LF mode (R24). -/
def toHalfMast (s : State) : State :=
  let old := s.ob Obj.pwrState
  let s := (s.closeAll 3).releaseAll.sealOpen
  let s := s.stopLighting.parkOutputs.parkArbiter
  let s := (s.mxShut 0).mxShut 1
  let s := { s with eng := { s.eng with segment := 0 } }
  let s := (s.setOb Obj.engineState 2).setOb Obj.pwrState pwrHalfMast
  let s := (s.settleDomains.setVsens 0 0).setVsens 1 0
  let s : State := { s with
    hoist := { s.hoist with parked := true }
    tb := { s.tb with pllLocked := false, lfMode := true, lfLeaving := false }
    pw := { s.pw with lfWait := false } }
  if s.pw.entering = pwrFurled then s.post 1056 (pwrHalfMast * 256 + old) |>.bump Obj.transitionCount
  else s.entered old pwrHalfMast

/-- The entry into Half-mast may go on: the sweep is complete (R107), the LF oscillation established (R487). -/
def mayPark (s : State) : Bool :=
  s.ob Obj.pwrTransition = 1 && decide (pwrHalfMast ≤ s.pw.entering) && s.awake && (!s.sweepsRun || s.eng.segment = 0)

/-- Furled entered (R358): debug access ends (R393), the held queue is saved, the Fly die loses its power. What is posted
from here is delivered after the start. -/
def toFurled (s : State) : State :=
  let s := s.endDebug 5
  let n := s.fab.held.length
  let held := s.fab.held
  let cap := s.pw.captured
  let cnt := s.ob Obj.transitionCount
  let s := (s.post 1059 n).post 1056 (pwrFurled * 256 + pwrHalfMast)
  let late := s.fab.inFlight
  let s := s.hoistOff 2
  let s : State := { s with fab := { s.fab with inFlight := late ++ s.fab.inFlight }, pw := { s.pw with saved := held, captured := cap } }
  let s := (s.setOb Obj.pwrState pwrFurled).setOb Obj.pwrTarget pwrFurled
  let s := s.setOb Obj.transitionCount ((cnt + 1) % 2 ^ 32)
  if cap.isNone then s
  else
    let s := { s.wakeCaptured with boot := { s.wakeCaptured.boot with stage := .flyReset } }
    { s with pw := { s.pw with holdUntil := some (s.now + ms (s.cf Obj.wakeHold)) } }

/-! ## Exits (R353, R354, R356) -/

/-- An exit has ended: EV1057. -/
def woken (s : State) : State :=
  let c := s.pw.cause
  ((s.bump Obj.transitionCount).setOb Obj.pwrTransition 0).post 1057 (c.1 * 2 ^ 16 + c.2) |>.watchTarget

/-- The exit from Dipped, but for the requests that wait (R353). -/
def fromDipped (s : State) : State :=
  let s := { s with fab := { s.fab with awaiting := 0 } }
  ((s.setOb Obj.pwrState pwrHoisted).settleDomains).woken

/-- Digital inputs outside HM_DIN_MASK take their first reading, the sensor supplies return, analog inputs restart (R356). -/
def wakeInputs (s : State) (dins : Nat) : State :=
  let m := s.cf Obj.hmDinMask
  let s := forRange 16 (fun s c =>
    if bitAt m c || (s.dinCh c).level == bitAt dins c then s else s.dinChange c (bitAt dins c)) s
  forRange 12 (fun s c => if s.cf (Obj.ainKind c) = 0 then s else s.ainRangeChange c) s.vsensEnabled

/-- The held queue is delivered, oldest first, and what waited is logged (R306, R472). -/
def deliverHeld (s : State) : State :=
  let held := s.fab.held
  let toLog := s.fab.toLog
  let s : State := { s with fab := { s.fab with held := [], toLog := [] } }
  forEach held (deliverFrom true) (forEach toLog logOccurrence s)

/-- The exit from Half-mast, but for requests (R354, R356): PLL, domains, the first sweep, the supervisor, the arbiter. -/
def fromHalfMast (s : State) (dins : Nat) : State :=
  let s : State := { s with tb := { s.tb with pllLocked := true, lfLeaving := true } }
  let s := s.setOb Obj.pwrState (if s.required = pwrHoisted then pwrHoisted else pwrDipped)
  let s := (s.settleDomains.backToRun.wakeInputs dins).deliverHeld
  s.woken

/-! ## Wakes (R357) -/

/-- A contained event of a parking load, and the signal it is of (R355). -/
def parkedSignal (s : State) (ev : Nat) : Option Nat :=
  let sig := if ev < 192 then some (mkSig clsGD (ev / 8))
    else if ev < 288 then some (mkSig clsSV ((ev - 192) / 12))
    else if 352 ≤ ev && ev < 384 then some (mkSig clsDOUT ((ev - 352) / 4)) else none
  sig.filter (fun x => s.parked x)

/-- A wake of a cause and detail may be captured now (R357: available in, and its setting). -/
def wakeable (s : State) (cause detail : Nat) : Bool :=
  let furled := s.ob Obj.pwrState = pwrFurled
  let low := s.lowered && !furled
  match cause with
  | 1 => low && decide (detail < 4) && s.cf (Obj.swEnable detail) = 1
  | 2 => s.lowered && decide (detail < 4) && s.cf (Obj.wakeEdge detail) ≠ 0
  | 3 => low && decide (detail % 0x8000 < 4) &&
      (if detail < 0x8000 then s.cf (Obj.swWup detail) = 1 else s.cf (Obj.swEnable (detail % 0x8000)) = 1)
  | 4 => !s.lowered && decide (detail < 16) && (List.range 19).any (fun d => bitAt (s.votesOf d) detail)
  | 5 => !s.lowered && s.applied && s.cf Obj.nmEnable = 1 && detail = s.cf Obj.nmHostId
  | 6 => low && s.cf Obj.hmHalyardWake = 1 && detail = 0
  | 7 => low && detail = 0 && s.ob Obj.rtcAlarm ≠ 0 && s.rtcNow = s.ob Obj.rtcAlarm
  | 8 => (detail = 0 && s.lowered && s.cf Obj.bkeyEnable = 1) || (detail = 1 && low && s.cf Obj.lfEnable = 1)
  | 9 => low && decide (detail < 16) && bitAt (s.cf Obj.hmDinMask) detail
  | 10 => low && decide (detail < 1536) && (List.range 32).any (fun k => s.cf (Obj.hmWakeEvent k) = detail)
  | 11 => low && s.cf Obj.parkFaultWake = 1 && (s.parkedSignal detail).isSome
  | _ => false

/-- A wake captured; causes 6–11 also go to the ring (R343, R357). -/
def capture (s : State) (cause detail : Nat) : State :=
  let s := s.wake cause detail
  if 6 ≤ cause then s.nmPowerWake cause else s

/-- A parking load shut off by a contained fault (R355): no retry runs in Half-mast. -/
def parkFault (s : State) (sig : Nat) : State :=
  let i := sigInst sig
  match sigClass sig with
  | 0x01 => (s.gdShut i).gdFault i
  | 0x02 => (s.svShut i (s.svFlow i)).svFault i
  | _ => (((s.setDout i { s.doutCh i with off := true }).doutShow i 0).dropEntry sig).doutFault i

/-! ## The RTC (R357, R362) -/

/-- RTC_SECONDS written. -/
def doRtcSeconds (s : State) (v : Nat) : State :=
  let s : State := { s with pw := { s.pw with rtcBase := v, rtcAt := s.now, timers := s.pw.timers.erase 16 } }
  s.setOb Obj.rtcValid 1

/-- RTC_ALARM written: it has not fired yet. -/
def doRtcAlarm (s : State) (v : Nat) : State :=
  ({ s with pw := { s.pw with timers := s.pw.timers.erase 16 } }).setOb Obj.rtcAlarm v

/-- The alarm is reached, and has not fired (assumption 78). -/
def alarmDue (s : State) : Bool :=
  s.ob Obj.rtcAlarm ≠ 0 && s.ob Obj.pwrState ≠ pwrFurled && s.rtcNow = s.ob Obj.rtcAlarm && !s.pw.timers.any (fun e => e.1 == 16)

/-! ## Timed votes (R349) -/

/-- Holder 6's votes (R452): CORES from a staging write or command until 10 s after the last, and during an activation; the
bunting domain of each distributing port. -/
def updVote (s : State) : State :=
  let cores := s.upd.accepted.isSome || s.pw.timers.any (fun e => e.1 == 6)
  let ports := (List.range 4).map (fun k =>
    if (s.upd.ports.read {} (2 * k)).running || (s.upd.ports.read {} (2 * k + 1)).running then 2 ^ (11 + k) else 0)
  s.setVotes 6 ((if cores then 1 else 0) + ports.sum)

/-- A timed vote of a holder ends, or begins: dictionary requests, ledger, update, burgee access. -/
def voteTimer (s : State) (h : Nat) : State :=
  let due := match s.pw.timers.get? h with
    | some t => decide (t ≤ s.now)
    | none => false
  let clear (s : State) : State := { s with pw := { s.pw with timers := s.pw.timers.erase h } }
  match h with
  | 2 => if due && s.sessions.all (fun x => x.queue.isEmpty) then (clear s).dropVotes 2 allDomains else s
  | 5 => s.ledgerUnvote.ledgerVote
  | 6 => if due then (clear s).updVote else s
  | 7 => if due then (clear s).burgeeVote else s
  | _ => s

/-- The LF oscillation is established (R487): what waited for it goes on. -/
def lfStarts (s : State) : State :=
  let s : State := { s with tb := { s.tb with lfEstablished := true } }
  let s := if s.pw.lfWait && s.mayPark then s.toHalfMast else s
  if s.secure.haltWait then s.debugHalt else s

end State

/-! ## Meanings -/

/-- R352. -/
def execPlaceHostVote (sess : Nat) (mask : BitVec 24) (s : State) : Host.Outcome State Fault Refusal :=
  s.hostVote sess 1 mask.toNat

/-- R352. -/
def execWithdrawHostVote (sess : Nat) (mask : BitVec 24) (s : State) : Host.Outcome State Fault Refusal :=
  s.hostVote sess 2 mask.toNat

/-- R352: the mask is ignored. -/
def execWithdrawAllHostVotes (sess : Nat) (s : State) : Host.Outcome State Fault Refusal := s.hostVote sess 3 0

/-- R352. -/
def execSuspendStandingVotes (sess : Nat) (mask : BitVec 24) (s : State) : Host.Outcome State Fault Refusal :=
  s.hostVote sess 4 mask.toNat

/-- R352. -/
def execRestoreStandingVotes (sess : Nat) (mask : BitVec 24) (s : State) : Host.Outcome State Fault Refusal :=
  s.hostVote sess 5 mask.toNat

/-- R349. -/
def execHolderVoteTimer (h : Fin 16) (s : State) : Host.Outcome State Fault Refusal :=
  whenever s.applied s (s.voteTimer h)

/-- R350: in Hoisted and Dipped. -/
def execDomainSwitch (d : Fin 19) (s : State) : Host.Outcome State Fault Refusal :=
  let on := s.domainDue d
  whenever (s.applied && s.awake && s.domainIsOn d != on) s
    ((s.setDomain d on).post 1063 (d.val * 256 + (if on then 1 else 0)))

/-- R350. -/
def execLingerExpiry (s : State) : Host.Outcome State Fault Refusal :=
  match s.pw.lowSince with
  | some t => whenever (s.applied && s.ob Obj.pwrTransition = 0 && decide (s.ob Obj.pwrState < s.required) &&
      s.passed t (ms (s.cf Obj.linger))) s s.beginEntry
  | none => .next s

/-- R353: Hoisted to Dipped. -/
def execEnterDipped (s : State) : Host.Outcome State Fault Refusal :=
  whenever (s.ob Obj.pwrTransition = 1 && s.pw.entering = pwrDipped && s.ob Obj.pwrState = pwrHoisted) s s.toDipped

/-- R354, R487: an entry before the LF oscillation is established waits for it. -/
def execEnterHalfMast (s : State) : Host.Outcome State Fault Refusal :=
  whenever s.mayPark s
    (if s.tb.lfEstablished then s.toHalfMast else { s with pw := { s.pw with lfWait := true } })

/-- R358: through Half-mast. -/
def execEnterFurled (s : State) : Host.Outcome State Fault Refusal :=
  whenever (s.ob Obj.pwrTransition = 1 && s.pw.entering = pwrFurled && s.ob Obj.pwrState = pwrHalfMast) s s.toFurled

/-- R357. -/
def execWakeCapture (cause : Fin 12) (detail : BitVec 16) (s : State) : Host.Outcome State Fault Refusal :=
  whenever (s.wakeable cause detail.toNat) s (s.capture cause detail.toNat)

/-- R357. -/
def execWakeHoldExpiry (s : State) : Host.Outcome State Fault Refusal :=
  match s.pw.holdUntil with
  | some t => whenever (s.applied && decide (t ≤ s.now)) s
      (({ s with pw := { s.pw with holdUntil := none } } : State).dropVotes 8 State.allDomains)
  | none => .next s

/-- R357, R361, R362. -/
def execRtcAlarm (s : State) : Host.Outcome State Fault Refusal :=
  whenever s.alarmDue s
    (let s : State := { s with pw := { s.pw with timers := s.pw.timers.put 16 s.now } }
     let s := s.post 1061 s.rtcNow
     if s.lowered then s.capture 7 0 else s)

/-- R362. -/
def execRtcSecondsWrite (sess : Nat) (value : BitVec 32) (s : State) : Host.Outcome State Fault Refusal :=
  s.request sess .host (writeOf Obj.rtcSeconds 4 value.toNat) (fun _ s => .ok (s.doRtcSeconds value.toNat))

/-- R355: in Half-mast, an event of severity contained of a parking load, with its value. -/
def execParkingLoadFault (ev : BitVec 16) (value : BitVec 32) (s : State) : Host.Outcome State Fault Refusal :=
  match s.parkedSignal ev.toNat with
  | some sig =>
    whenever (s.ob Obj.pwrState = pwrHalfMast && s.severityOf ev.toNat value.toNat = .contained) s
      (let s := (s.post ev.toNat value.toNat).parkFault sig
       if s.cf Obj.parkFaultWake = 1 then s.capture 11 ev.toNat else s)
  | none => .next s

/-- R487. -/
def execLfOscillationEstablished (s : State) : Host.Outcome State Fault Refusal := .next s.lfStarts

end Sys2Proof.Machine
end

