-- ==== Sys2Proof/Machine/Update.lean ====
section
/-!
DEFINITION. Update (spec/21): the staging bank, verification, activation of each kind, migration of the configuration, and node
distribution.
-/

namespace Sys2Proof.Machine
namespace State

/-! ## The staging bank (R436–R439) -/

def area (s : State) (a : Nat) : StageArea := s.upd.areas.read {} a
def setArea (s : State) (a : Nat) (x : StageArea) : State :=
  { s with upd := { s.upd with areas := s.upd.areas.write {} a x } }

/-- Blocks of an area, and the kinds it accepts (R437). -/
def areaBlocks (a : Nat) : Nat := if a = 0 then 896 else 64
def areaKinds (a : Nat) : List Nat := if a = 0 then [2] else if a = 1 then [3] else [1, 4]

/-- Most blocks of an image (R436). -/
def kindBlocks (k : Nat) : Nat := if k = 1 then 40 else if k = 2 then 896 else 64

/-- The area of a kind (R437). -/
def kindArea (k : Nat) : Nat := if k = 2 then 0 else if k = 3 then 1 else 2

/-- `n` bytes at offset `o` of the image header (R436). -/
def header (s : State) (a o n : Nat) : Nat := bitsOf (((s.area a).blocks.read {} 0).bytes) (8 * o) (8 * n)

/-- Valid blocks among those expected. -/
def validBlocks (s : State) (a : Nat) : Nat :=
  (s.area a).blocks.countP (fun (e : Nat × BlockRecord) => e.2.valid && decide (e.1 < s.ob (Obj.areaBlocksExpected a)))

/-- An area rejected (R438, R439). -/
def rejectArea (s : State) (a cause : Nat) : State :=
  ((s.setOb (Obj.areaState a) 4).setOb (Obj.areaRejectCause a) cause).post 1203 (a * 256 + cause)

/-- BLOCKS_VALID counted; the area is complete once every expected block is valid. -/
def countBlocks (s : State) (a : Nat) : State :=
  let n := s.validBlocks a
  let s := s.setOb (Obj.areaBlocksValid a) n
  let e := s.ob (Obj.areaBlocksExpected a)
  if s.ob (Obj.areaState a) = 1 && e ≠ 0 && n = e then (s.setOb (Obj.areaState a) 2).post 1201 a else s

/-- A valid block 0 (R438). -/
def takeHeader (s : State) (a : Nat) : State :=
  let k := s.header a 4 1
  if s.header a 0 4 = 0x4D495753 && s.header a 5 1 = 0xB1 && (areaKinds a).contains k then
    (((s.setOb (Obj.areaKind a) k).setOb (Obj.areaBlocksExpected a) (s.header a 12 4 % 2 ^ 16)).setOb (Obj.areaImgVersion a)
      (s.header a 8 4)).setOb (Obj.areaImgSec a) (s.header a 6 2)
  else
    (s.setArea a { s.area a with blocks := (s.area a).blocks.erase 0 }).rejectArea a 1

/-- A record whose 4,100 bytes have all been written since its last check (R438). -/
def checkBlock (s : State) (a b : Nat) : State :=
  let r := (s.area a).blocks.read {} b
  let put (x : BlockRecord) : State := s.setArea a { s.area a with blocks := (s.area a).blocks.write {} b x }
  if r.written ≠ 2 ^ 4100 - 1 then s
  else if crc32c (toBytes 4096 r.bytes) = bitsOf r.bytes (8 * 4096) 32 then
    let s := put { r with written := 0, valid := true }
    (if b = 0 then s.takeHeader a else s).countBlocks a
  else
    let s := ((put {}).bump (Obj.areaBlocksBad a)).post 1200 (a * 2 ^ 24 + b)
    s.countBlocks a

/-- Bytes written into a number that stands for a byte string. -/
def spliceBytes (x o : Nat) (data : List Nat) : Nat :=
  let n := data.length
  bitsOf x 0 (8 * o) + ofBytes data * 2 ^ (8 * o) + x / 2 ^ (8 * (o + n)) * 2 ^ (8 * (o + n))

/-- Holder 6 votes CORES until 10 s after a staging write or command (R452). -/
def stagingTouched (s : State) : State :=
  ({ s with pw := { s.pw with timers := s.pw.timers.put 6 (s.now + sec 10) } }).updVote

/-- A write of STAGE (R438). Before block 0 is valid, only block 0 can be written (DEDUCED, assumption 79). -/
def doStageWrite (s : State) (h a off : Nat) (data : List Nat) : Answer :=
  let ix := 0x1F20 + a
  let b := off / 4100
  let o := off % 4100
  if off % 4 ≠ 0 || 4100 < o + data.length then s.misaligned ix
  else if s.ob (Obj.areaState a) = 5 then (s.setBit (domStatus ix) 1 false).refused .inUse
  else if (b ≠ 0 && s.ob (Obj.areaBlocksExpected a) ≤ b) || areaBlocks a ≤ b then
    (s.setBit (domStatus ix) 1 false).refused .valueRange
  else s.domainWrites ix h fun s =>
    let r := (s.area a).blocks.read {} b
    let y : BlockRecord := { r with bytes := spliceBytes r.bytes o data
                                    written := r.written ||| ((2 ^ data.length - 1) * 2 ^ o) }
    let s := s.setArea a { s.area a with blocks := (s.area a).blocks.write {} b y }
    let s := if s.ob (Obj.areaState a) = 1 then s else s.setOb (Obj.areaState a) 1
    .ok ((s.checkBlock a b).stagingTouched)

/-- The image digest of R373, over the blocks of an area. -/
def imageDigest (s : State) (a : Nat) : Nat :=
  Config.sha384 ((List.range (s.ob (Obj.areaBlocksExpected a))).flatMap (fun b =>
    toBytes 48 (Config.sha384 (toBytes 4096 (((s.area a).blocks.read {} b).bytes)))))

/-- Why an area does not pass (R439); 0 it passes. -/
def verifyCause (s : State) (a : Nat) : Nat :=
  let e := s.ob (Obj.areaBlocksExpected a)
  let k := s.ob (Obj.areaKind a)
  if e = 0 || s.validBlocks a < e then 2
  else if kindBlocks k < s.header a 12 4 then 3
  else if !Config.ecdsaVerify (s.slotKey 2) (s.imageDigest a) (s.ob (Obj.areaUpdSignature a)) then 4
  else if s.ob (Obj.areaImgSec a) < s.ob (Obj.secMin (k - 1)) then 5 else 0

/-- UPD_VERIFY (R439). -/
def doUpdVerify (s : State) (a v : Nat) : Answer :=
  check (v = 1) .valueRange <| check (s.ob (Obj.areaState a) ≠ 5) .inUse <|
    let c := s.verifyCause a
    let s := s.stagingTouched
    .ok (if c = 0 then
      let s := (s.setOb (Obj.areaState a) 3).setOb (Obj.areaRejectCause a) 0
      (s.setArea a { s.area a with activated := false }).post 1202 (s.ob (Obj.areaKind a) * 2 ^ 16 + s.ob (Obj.areaImgSec a))
    else s.rejectArea a c)

/-- UPD_DISCARD (R439). -/
def doUpdDiscard (s : State) (a : Nat) : Answer :=
  check (a < 3) .valueRange <| check (s.ob (Obj.areaState a) ≠ 5) .inUse <|
    let s := s.setArea a {}
    let s := forEach [Obj.areaState a, Obj.areaKind a, Obj.areaBlocksExpected a, Obj.areaBlocksValid a,
      Obj.areaImgVersion a, Obj.areaImgSec a, Obj.areaRejectCause a] (fun s k => s.setOb k 0) s
    .ok s.stagingTouched

/-! ## Activation (R440–R445) -/

/-- A set of kinds names a kind 1–4. -/
def names (set k : Nat) : Bool := bitAt set (k - 1)

/-- A staged field where the set names the kind, else the running one. -/
def after (s : State) (set k o n running : Nat) : Nat :=
  if names set k then s.header (kindArea k) o n else running

/-- The kinds of a set. -/
def kindsOf (set : Nat) : List Nat := ([1, 2, 3, 4] : List Nat).filter (names set)

/-- A node distribution runs on a port. -/
def distributes (s : State) (p : Nat) : Bool := (s.upd.ports.read {} p).running
def distributing (s : State) : Bool := (List.range 8).any s.distributes

/-- The schema condition (R447). -/
def schemaOk (s : State) : Bool :=
  let sc := s.header 0 20 2
  let m := s.header 0 22 2
  let c := s.ob Obj.configSchema
  (decide (m ≤ c) && decide (c ≤ sc)) || (decide (sc < c) && s.upd.keep.isSome && s.ob Obj.keepSchema = sc)

/-- Why an activation is refused (R440), the lowest number first; 1 accepted. -/
def activateCause (s : State) (set : Nat) : Nat :=
  let epoch := s.after set 2 16 2 (s.ob Obj.compatEpoch)
  let lo := s.after set 1 16 2 (s.ob Obj.epochMin)
  let hi := s.after set 1 18 2 (s.ob Obj.epochMax)
  let hoist := s.after set 3 8 4 (s.ob Obj.hoistVersion)
  let node := s.after set 4 8 4 (s.ob Obj.nodeVersion)
  if (kindsOf set).any (fun k => s.ob (Obj.areaState (kindArea k)) ≠ 3 || s.ob (Obj.areaKind (kindArea k)) ≠ k) then 2
  else if !([1, 2, 4, 6, 8] : List Nat).contains set then 3
  else if epoch < lo || hi < epoch then 4
  else if hoist < s.after set 2 24 4 (s.ob Obj.hoistMin) || node < s.after set 2 28 4 (s.ob Obj.nodeMin) then 5
  else if names set 2 && !s.schemaOk then 6
  else if (kindsOf set).any (fun k => s.ob (Obj.areaImgSec (kindArea k)) < s.ob (Obj.secMin (k - 1))) then 7
  else if s.upd.accepted.isSome || s.ob Obj.updState ≠ 0 || s.distributing then 8
  else if s.lifecycleOf = 4 then 9
  else 1

/-- UPD_ACTIVATE (R440). -/
def doUpdActivate (s : State) (h set : Nat) : Answer :=
  check (bitsOf set 4 4 = 0) .reservedBit <|
    let c := s.activateCause set
    let s := s.setSob h Obj.updResult c
    if c ≠ 1 then (s.post 1206 c).refused .configInvalid
    else
      let s := forEach (kindsOf set) (fun s k => s.setOb (Obj.areaState (kindArea k)) 5) s
      .ok (({ s with upd := { s.upd with accepted := some set } } : State).stagingTouched)

/-- An accepted activation of one of these sets may begin: every commit accepted before it is durable (R440), and it is
between two sweeps (R442). -/
def mayActivate (s : State) (sets : List Nat) : Option Nat :=
  match s.upd.accepted with
  | some set => if s.applied && s.commits.isEmpty && sets.contains set && (!s.sweepsRun || s.eng.segment = 0) then some set else none
  | none => none

/-- A kind's image of the staging bank is the image that runs (R440, R441, R446). -/
def runImage (s : State) (k : Nat) : State :=
  let a := kindArea k
  let v := s.header a 8 4
  let s := (s.setOb (Obj.areaState a) 3).setArea a { s.area a with activated := true }
  let s : State := { s with upd := { s.upd with running := s.upd.running.put k (s.header a 6 2) } }
  let s := s.setBit Obj.unconfirmed (k - 1) true
  match k with
  | 1 => ((s.setOb Obj.ensignVersion v).setOb Obj.epochMin (s.header a 16 2)).setOb Obj.epochMax (s.header a 18 2)
  | 2 =>
    let s := ((s.setOb Obj.mastVersion v).setOb Obj.compatEpoch (s.header a 16 2)).setOb Obj.schemaVersion (s.header a 20 2)
    ((s.setOb Obj.migrateFrom (s.header a 22 2)).setOb Obj.hoistMin (s.header a 24 4)).setOb Obj.nodeMin (s.header a 28 4)
  | 3 => s.setOb Obj.hoistVersion v
  | _ => s.setOb Obj.nodeVersion v

def runImages (s : State) (set : Nat) : State := forEach (kindsOf set) runImage s

/-- A configuration the runtime commits itself (R447): it takes effect as the next generation, durable at once. -/
def runtimeCommits (s : State) (cfg : Regs) (objects : Nat) : State :=
  let old := s.ob Obj.commitGeneration
  let gen := (old + 1) % 2 ^ 32
  let s := s.takeConfig cfg 0 0
  let s := (s.writeCopies gen cfg).setOb Obj.commitGeneration gen
  s.record { s.newRecord 10 s.now with old := old, new := gen, cmdr := 10, cmdrAux := 0, detail := objects % 2 ^ 16 }

/-- The configuration translated into the schema of the image that runs (R447). -/
def translated (s : State) : Regs :=
  (Config.migrate (s.ob Obj.configSchema) (s.ob Obj.schemaVersion) s.cfg).foldl
    (fun (t : Regs) e => t.write (objDefault e.1) e.1 e.2) []

/-- A new MAST first runs (R447): migration, or the keep area's configuration. `failing` is the first object that the
validation of the result refuses. -/
def migrates (s : State) (failing : Option Nat) : State :=
  let c := s.ob Obj.configSchema
  let v := s.ob Obj.schemaVersion
  if c = v then s
  else if c < v then
    let t := s.translated
    let s : State := { s with upd := { s.upd with keep := some s.cfg } }
    let s := s.setOb Obj.keepSchema c
    let bad := match failing with
      | some k => some k
      | none => (s.failObject t).map objectOfKey
    match bad with
    | none =>
      let n := (changedKeys s.cfg t).length
      let s := s.runtimeCommits t n
      ((s.setOb Obj.migrateState 1).setOb Obj.configSchema v).post 1208 (c * 2 ^ 16 + v)
    | some k =>
      let s : State := { s with upd := { s.upd with migrated := some t } }
      ((s.setOb Obj.migrateState 3).setOb Obj.migrateFailObject k).post 1209 k
  else match s.upd.keep with
  | some t => (s.runtimeCommits t (changedKeys s.cfg t).length).setOb Obj.migrateState 2 |>.setOb Obj.configSchema v
  | none => s

/-- An activation is complete (R440): the record is cleared, EV1205. -/
def activated (s : State) (set : Nat) : State :=
  let s : State := { s with upd := { s.upd with accepted := none, record := 0 } }
  ((s.setOb Obj.updState 0).post 1205 set).updVote

/-- A MAST activation (R442, R91): its whole pause as one step. `failures` counts copies that failed verification. -/
def mastActivates (s : State) (set failures : Nat) (failing : Option Nat) : State :=
  let s := (s.post 1204 set)
  if failures = 2 then
    let s : State := { s with upd := { s.upd with record := set } }
    (s.setOb Obj.updState 2).hoistRestart 8
  else
    let schema := s.ob Obj.schemaVersion
    let s := s.runImages set
    let s := if s.ob Obj.schemaVersion = schema then s
      else { s with sessions := s.sessions.map (fun x => { x with pendingSet := [] }) }
    let s := s.migrates failing
    let s := if s.heartbeatDue then
        { s with hb := { s.hb with notBefore := s.now + ms (s.cf Obj.hbTimeout) } } else s
    s.activated set

/-- An update restart (R444): the copies stand in the active bank; the Hoist die keeps address, latches and watchdog count. -/
def updateRestarts (s : State) (set : Nat) : State :=
  let s : State := { s.post 1204 set with upd := { (s.post 1204 set).upd with record := set } }
  ((s.setOb Obj.updState 2).hoistRestart 8).setOb Obj.updState 2

/-! ## Node distribution (R448–R451) -/

def setDistribution (s : State) (p : Nat) (on : Bool) : State :=
  { s with upd := { s.upd with ports := s.upd.ports.write {} p { running := on } } }

/-- A port in state running begins to distribute (R448). -/
def distribute (s : State) (p : Nat) : State :=
  if s.ob (Obj.bpState p) ≠ 2 || s.distributes p then s
  else
    let s := s.setDistribution p true
    let s := (((s.setOb (Obj.ndState p) 1).setOb (Obj.ndPass p) 1).setOb (Obj.ndUpdated p) 0).setOb (Obj.ndLeft p)
      (s.ob (Obj.bpNodeCount p))
    s.post 1211 p

/-- UPD_STATE and the votes after distributions began or ended. -/
def showDistribution (s : State) : State :=
  (s.setOb Obj.updState (if s.distributing then 3 else 0)).updVote

/-- A NODE activation (R448). -/
def nodeActivates (s : State) (set : Nat) : State :=
  let s := ((s.post 1204 set).runImages set).activated set
  (forRange 8 distribute s).showDistribution

/-- UPD_NODE_RUN (R448). -/
def doUpdNodeRun (s : State) (ports : Nat) : Answer :=
  .ok ((forRange 8 (fun s p => if bitAt ports p then s.distribute p else s) s).showDistribution)

/-- A pass has ended, `n` nodes reporting the active version (R449). -/
def passEnds (s : State) (p n : Nat) : State :=
  let all := s.ob (Obj.bpNodeCount p)
  let n := min n all
  let left := all - n
  let s := (s.setOb (Obj.ndUpdated p) n).setOb (Obj.ndLeft p) left
  if left = 0 then
    (((s.setDistribution p false).setOb (Obj.ndState p) 3).post 1212 (p * 2 ^ 16 + n)).showDistribution
  else if s.cf Obj.updNodePasses ≤ s.ob (Obj.ndPass p) then
    (((s.setDistribution p false).setOb (Obj.ndState p) 4).post 1213 (p * 2 ^ 16 + left)).showDistribution
  else (s.setOb (Obj.ndState p) 1).bump (Obj.ndPass p)

/-- A node runs the new image (R450): it keeps its values, setup and board group. -/
def nodeSwitches (s : State) (p pos : Nat) : State :=
  let b := s.bpCh p
  let n := b.nodes.read {} pos
  s.setBp p { b with nodes := b.nodes.put pos { n with version := s.ob Obj.nodeVersion / 2 ^ 16 } }

/-! ## Confirmation (R446) -/

/-- UPD_CONFIRM. -/
def doUpdConfirm (s : State) (v : Nat) : Answer :=
  check (v = 0xA5) .valueRange <|
    let was := s.ob Obj.unconfirmed
    let s := forRange 4 (fun s k => s.setOb (Obj.secMin k) (max (s.ob (Obj.secMin k)) (s.upd.running.read Part.secMin (k + 1)))) s
    let s : State := { s with upd := { s.upd with keep := none, migrated := none } }
    .ok ((((s.setOb Obj.keepSchema 0).setOb Obj.migrateState 0).setOb Obj.unconfirmed 0).post 1210 was)

end State

/-! ## Meanings -/

/-- R438. -/
def execStageWrite (sess : Nat) (a : Fin 3) (offset : BitVec 32) (data : List Byte) (s : State) :
    Host.Outcome State Fault Refusal :=
  let d := data.map (fun b => b.toNat)
  s.request sess .service (domainWriteOf (0x1F20 + a) offset.toNat d) (fun x s =>
    check (d.length ≤ 1024) .valueRange (s.doStageWrite x.handle a offset.toNat d))

/-- R439. -/
def execUpdVerify (sess : Nat) (a : Fin 3) (s : State) : Host.Outcome State Fault Refusal :=
  s.request sess .service (writeOf (Obj.areaUpdVerify a) 1 1) (fun _ s => s.doUpdVerify a 1)

/-- R439. -/
def execUpdDiscard (sess : Nat) (a : BitVec 8) (s : State) : Host.Outcome State Fault Refusal :=
  s.request sess .service (writeOf Obj.updDiscard 1 a.toNat) (fun _ s => s.doUpdDiscard a.toNat)

/-- R440. -/
def execUpdActivate (sess : Nat) (set : BitVec 8) (s : State) : Host.Outcome State Fault Refusal :=
  s.request sess .service (writeOf Obj.updActivate 1 set.toNat) (fun x s => s.doUpdActivate x.handle set.toNat)

/-- R442. -/
def execMastActivation (failures : Fin 3) (failing : Option (BitVec 24)) (s : State) : Host.Outcome State Fault Refusal :=
  match s.mayActivate [2] with
  | some set => .next (s.mastActivates set failures (failing.map (fun k => k.toNat)))
  | none => .next s

/-- R443. -/
def execEnsignActivation (s : State) : Host.Outcome State Fault Refusal :=
  match s.mayActivate [1] with
  | some set => .next (((s.post 1204 set).runImages set).activated set)
  | none => .next s

/-- R444. -/
def execUpdateRestart (s : State) : Host.Outcome State Fault Refusal :=
  match s.mayActivate [4, 6] with
  | some set => .next (s.updateRestarts set)
  | none => .next s

/-- R448. -/
def execNodeActivation (s : State) : Host.Outcome State Fault Refusal :=
  match s.mayActivate [8] with
  | some set => .next (s.nodeActivates set)
  | none => .next s

/-- R448. -/
def execUpdNodeRun (sess : Nat) (ports : BitVec 8) (s : State) : Host.Outcome State Fault Refusal :=
  s.request sess .service (writeOf Obj.updNodeRun 1 ports.toNat) (fun _ s => s.doUpdNodeRun ports.toNat)

/-- R449. -/
def execNodeDistributionPass (p : Fin 8) (updated : BitVec 16) (s : State) : Host.Outcome State Fault Refusal :=
  whenever (s.distributes p && s.ob (Obj.bpState p) = 2) s (s.passEnds p updated.toNat)

/-- R450. -/
def execNodeImageSwitch (p : Fin 8) (position : Fin 4096) (s : State) : Host.Outcome State Fault Refusal :=
  whenever (s.distributes p && s.ob (Obj.bpState p) = 2 && decide (position.val < s.ob (Obj.bpNodeCount p))) s
    (s.nodeSwitches p position)

/-- R446. -/
def execUpdConfirm (sess : Nat) (value : BitVec 8) (s : State) : Host.Outcome State Fault Refusal :=
  s.request sess .service (writeOf Obj.updConfirm 1 value.toNat) (fun _ s => s.doUpdConfirm value.toNat)

end Sys2Proof.Machine
end

