-- ==== Sys2Proof/Machine/Faults.lean ====
section
/-!
DEFINITION. Single faults, spares and online test (spec/22): lanes and arbiters, tiles, memory clusters, regulator phases, stage
self-tests, scrub, configuration copies and skew.
-/

namespace Sys2Proof.Machine
namespace State

/-! ## Tiles (R18, R457, R458, R475) -/

def tileOf (s : State) (q t : Nat) : Nat := s.ob (Obj.tileState (6 * q + t))
def setTile (s : State) (q t v : Nat) : State := s.setOb (Obj.tileState (6 * q + t)) v

/-- The spare of a quadrant that is ready. -/
def spareOf (s : State) (q : Nat) : Option Nat := (List.range 6).find? (fun t => s.tileOf q t = 1)

/-- The tile of a quadrant on which function `f` runs. -/
def runsOn (s : State) (q f : Nat) : Option Nat :=
  (List.range 6).find? (fun t => (t = f && s.tileOf q t = 0) || s.tileOf q t = 0x10 + f)

/-- The arbiter: Q1 T5 while it is available, else Q3 T5; 0xFF none (R458). -/
def freeArbiter (s : State) : Nat := if s.tileOf 1 5 = 1 then 1 else if s.tileOf 3 5 = 1 then 3 else 0xFF

/-- An arbiter stands in only until a spare has loaded (R457). -/
def standsBriefly (s : State) (q : Nat) : Bool :=
  s.ft.standing.any (fun x => x.2 == q && s.ft.loading.any (fun y => y.1 == x.1))

/-- ARBITER, and the flags of FT_FLAGS that follow from what is in service. EV1306 when no arbiter is left. -/
def showFaults (s : State) : State :=
  let none_ := !(s.freeArbiter ≠ 0xFF || s.standsBriefly 1 || s.standsBriefly 3)
  let was := s.bit Obj.ftFlags 4
  let used := (List.range 24).any (fun k => 0x10 ≤ s.ob (Obj.tileState k))
  let alone := s.ft.standing.any (fun x => !s.ft.loading.any (fun y => y.1 == x.1))
  let s := s.setOb Obj.arbiter s.freeArbiter
  let s := (s.setBit Obj.ftFlags 1 (s.ob Obj.phases ≠ 0x1F)).setBit Obj.ftFlags 2 (s.ob Obj.laneState ≠ 0)
  let s := ((s.setBit Obj.ftFlags 3 used).setBit Obj.ftFlags 4 none_).setBit Obj.ftFlags 5 alone
  s.postIf (none_ && !was) 1306 0

/-- EV1305 where a quadrant has no spare left. -/
def spareGone (s : State) (q : Nat) : State := s.postIf (s.spareOf q).isNone 1305 q

/-- A tile retired (R457, R458). -/
def retire (s : State) (q t : Nat) : State := (s.setTile q t 3).post 1303 (q * 256 + t)

/-- The reflex engine is lost (R459): the hoist safe state, the Hoist watchdog parked. -/
def engineLost (s : State) : State :=
  let s := s.record { s.newRecord 4 s.now with reason := 0, cmdr := 5, cmdrAux := 0, detail := s.ob Obj.hoistWdgTrips }
  let s := s.applyHoistSafe
  let s : State := { s with hoist := { s.hoist with parked := true } }
  ((s.setOb Obj.engineState 0).setBit Obj.ftFlags 6 true).post 1308 0

/-- A lane must be replaced (R457–R459): the arbiter stands in; the spare loads, or the lane is unpaired. -/
def replaceLane (s : State) (l : Nat) : State :=
  let a := s.freeArbiter
  let s : State := { s with ft := { s.ft with standing := s.ft.standing.filter (fun x => x.1 != l) } }
  if a = 0xFF then s.engineLost.showFaults
  else
    let s : State := { s.setTile a 5 2 with ft := { s.ft with standing := s.ft.standing ++ [(l, a)] } }
    if s.ft.loading.any (fun x => x.1 == l) then s.showFaults
    else match s.spareOf (2 * l) with
    | some t => { s with ft := { s.ft with loading := s.ft.loading ++ [(l, 8 * (2 * l) + t)] } }.showFaults
    | none => (s.post 1307 l).showFaults

/-- The tile that runs a lane retired, and the lane replaced. -/
def loseLane (s : State) (l : Nat) : State :=
  match s.runsOn (2 * l) 1 with
  | some t => (s.retire (2 * l) t).replaceLane l
  | none => match s.ft.standing.find? (fun x => x.1 == l) with
    | some x => (s.retire x.2 5).replaceLane l
    | none => s.replaceLane l

/-- The spare of a lane has loaded and joins; the arbiter returns to standby (R457). -/
def spareJoins (s : State) (q : Nat) : State :=
  match s.ft.loading.find? (fun x => x.2 / 8 == q) with
  | none => s
  | some (l, tile) =>
    let s := s.setTile q (tile % 8) 0x11
    let s := match s.ft.standing.find? (fun x => x.1 == l) with
      | some x => s.setTile x.2 5 1
      | none => s
    let s : State := { s with ft := { s.ft with
      loading := s.ft.loading.filter (fun x => x.1 != l), standing := s.ft.standing.filter (fun x => x.1 != l) } }
    ((s.post 1304 (q * 256 + 1)).spareGone q).showFaults

/-! ## Disagreement (R457) -/

/-- Segment `seg` settled for lane A or B (0, 1): its result taken, the losing lane replaced; no feed word in this sweep. The
time of a sweep so lengthened is left open. -/
def laneSettled (s : State) (seg won : Nat) : State :=
  let s : State := { s.bump Obj.mismatchCount with ft := { (s.bump Obj.mismatchCount).ft with unresolved := none } }
  let s := s.runSegment false (Config.unmeasured Obj.sweepTimeMax (s.ob Obj.sweepCount))
  (s.post 1302 (seg * 2 ^ 16 + won + 1)).loseLane (1 - won)

/-- Disagreement on all three tiles: the segment is evaluated once more; the second time the engine is lost (R457, R459). -/
def laneUnresolved (s : State) (seg : Nat) : State :=
  let k := 16 * s.ob Obj.sweepCount + seg
  let s := s.bump Obj.mismatchCount
  if s.ft.unresolved = some k then ((s.post 1302 (seg * 2 ^ 16 + 3)).engineLost).showFaults
  else { s with ft := { s.ft with unresolved := some k } }

/-! ## Other tiles (R460) -/

/-- What a function shows when it resumes on a spare: the CAN channels of a T4 rejoin. -/
def resumes (s : State) (q f : Nat) : State :=
  if f ≠ 4 then s
  else forRange 2 (fun s i =>
    let c := 2 * q + i
    let s := (s.setCan c { s.canCh c with joinedAt := none }).canShow c
    if s.nmOf c then s.nmLeave else s) s

/-- A function without a tile to run on is stopped (R460, "no spare left"). -/
def stopFunction (s : State) (q f : Nat) : State :=
  let s : State := { s with ft := { s.ft with stopped := s.ft.stopped ++ [8 * q + f] } }
  match f with
  | 1 => if q = 3 then s.engineLost else s
  | 2 => (s.stopBunting (2 * q)).stopBunting (2 * q + 1)
  | 3 => forRange 8 (fun s i => s.freeEngine (8 * q + i)) s
  | 4 => (s.channelRestart (2 * q)).channelRestart (2 * q + 1)
  | _ => s

/-- A function whose tile has failed continues on the quadrant's spare, or stops. -/
def moveFunction (s : State) (q f : Nat) : State :=
  match s.spareOf q with
  | some t => (((s.setTile q t (0x10 + f)).resumes q f).post 1304 (q * 256 + f)).spareGone q |>.showFaults
  | none => (s.stopFunction q f).showFaults

/-- A tile fails (R456, R458, R460). -/
def tileFails (s : State) (q t : Nat) : State :=
  let st := s.tileOf q t
  let lane := q = 0 || q = 2
  let f := if 0x10 ≤ st then st - 0x10 else t
  if st = 3 then s
  else if st = 1 then
    let s : State := { s.retire q t with ft := { s.ft with loading := s.ft.loading.filter (fun x => x.2 != 8 * q + t) } }
    (s.spareGone q).showFaults
  else if st = 2 then match s.ft.standing.find? (fun x => x.2 == q) with
    | some x => (s.retire q t).replaceLane x.1
    | none => (s.retire q t).showFaults
  else if lane && f = 1 then s.loseLane (q / 2)
  else (s.retire q t).moveFunction q f

/-! ## At a Fly start (R458, R459) -/

/-- TILE_RETEST: LBIST on every retired tile. Whether one passes is left open. -/
def retested (s : State) : State :=
  if !s.ft.retest then s
  else
    let s : State := { s with ft := { s.ft with retest := false } }
    forRange 24 (fun s k =>
      if s.ob (Obj.tileState k) = 3 && Config.unmeasured (Obj.tileState k) s.flyStarts % 2 = 1 then
        s.setOb (Obj.tileState k) 1 else s) s

/-- A lane has a tile, takes its quadrant's spare, or has an arbiter stand in; else the engine stays lost. -/
def startLane (s : State) (l : Nat) : State :=
  if (s.runsOn (2 * l) 1).isSome then s
  else match s.spareOf (2 * l) with
  | some t => s.setTile (2 * l) t 0x11
  | none =>
    let a := s.freeArbiter
    if a = 0xFF then s.setBit Obj.ftFlags 6 true
    else
      let s : State := { s.setTile a 5 2 with ft := { s.ft with standing := s.ft.standing ++ [(l, a)] } }
      s.post 1307 l

/-- Tiles as a Fly start finds them. -/
def startTiles (s : State) : State :=
  let s := s.retested
  let s := ([1, 3] : List Nat).foldl (fun (s : State) q => if s.tileOf q 5 = 2 then s.setTile q 5 1 else s) s
  let s : State := { s with ft := { s.ft with standing := [], loading := [] } }
  let s := (forRange 2 startLane s).showFaults
  let pair := (List.range 2).any (fun l => (s.runsOn (2 * l) 1).isSome)
  if pair then s else s.setBit Obj.ftFlags 6 true

/-! ## Memory clusters (R461, R462) -/

/-- The ledger buffer lost (R419, R461). -/
def loseBuffer (s : State) : State :=
  let n := s.ledger.openPage.length
  let s := match s.ledger.pages.head? with
    | some p => s.loseRange p.number (s.ledger.nextPage - 1)
    | none => s
  let s : State := { s with ledger := { s.ledger with openPage := [], pages := [], lost := s.ledger.lost + n } }
  (s.bumpBy Obj.ledgerRecordsLost n).postIf (n ≠ 0) 1170 n |>.showFill

/-- Message objects of the region empty (R461): which of them the cluster held is not stated, so all (assumption 80). -/
def loseObjects (s : State) : State :=
  let os := s.mo.map (fun e => e.1)
  let s := forRange 8 (fun s c => s.setCan c { s.canCh c with
    pend := (s.canCh c).pend.filter (fun f => match f.src with
      | .object _ => false
      | _ => true) }) s
  forEach os (fun s o => s.post 1313 o) { s with mo := [] }

/-- Patterns restart at their origin, and maps skip a period (R461). -/
def restartEngines (s : State) : State :=
  let es : Table PatternRun := s.light.engines.map (fun (e : Nat × PatternRun) => (e.1, ({ e.2 with origin := s.now } : PatternRun)))
  { s with light := { s.light with engines := es }
           maps := s.maps.map (fun (e : Nat × PiMap) => (e.1, ({ e.2 with last := s.now, waiting := none } : PiMap))) }

/-- What an SRAM region shows while it is refilled from its source (R461). Regions: 0 bunting frame memory, 1 message objects, 2
rules, 3 ledger buffer, 4 patterns and process images, 5 working memory. -/
def refillRegion (s : State) (r : Nat) : State :=
  match r with
  | 1 => s.loseObjects
  | 3 => s.loseBuffer.post 1313 3
  | 4 => s.restartEngines.post 1313 4
  | 5 =>
    let s : State := { s with sessions := s.sessions.map (fun x => { x with pendingSet := [] }) }
    s.post 1313 5
  | n => s.post 1313 n

/-- A region that cannot be refilled: its function stops; rules are essential to the engine (R461). -/
def stopRegion (s : State) (r : Nat) : State :=
  let s : State := { s with ft := { s.ft with regionsLost := s.ft.regionsLost ++ [r] } }
  match r with
  | 0 => forRange 8 stopBunting s
  | 1 => { s with mo := [] }
  | 2 => s.engineLost.showFaults
  | 3 => s.loseBuffer
  | 4 => s.stopLighting
  | _ => { s with sessions := s.sessions.map (fun x => { x with pendingSet := [], queue := [] }) }

/-- An SRAM cluster fails (R461). -/
def sramFails (s : State) (cluster r : Nat) : State :=
  let s := s.post 1312 cluster
  if s.ob Obj.sramSpare = 0xFF then
    let s := s.setOb Obj.sramSpare cluster
    if cluster = 15 then s else s.refillRegion r
  else s.stopRegion r

/-- A cluster holds a byte of `n` blocks of 4 KiB from logical offset `o` on (R27, R28; assumption 97). -/
def clusterHolds (cluster o n : Nat) : Bool := (List.range n).any (fun b => Config.mramCluster (o / 4096 + b) = cluster)

/-- Fault-log entries that a cluster of the log's region held (R27). -/
def loseLog (s : State) (cluster : Nat) : State :=
  let gone (i : Nat) : Bool := Config.mramCluster ((0xC40000 + 64 * i) / 4096) = cluster
  let n := s.flog.countP (fun (e : Nat × FaultEntry) => gone e.1)
  let s : State := { s with flog := s.flog.filter (fun (e : Nat × FaultEntry) => !gone e.1) }
  s.bumpBy Obj.flogOverwritten n

/-- An image of the active bank can be copied again from the staging bank (R462). -/
def restorable (s : State) (a k v : Nat) : Bool :=
  s.ob (Obj.areaState a) = 3 && s.ob (Obj.areaKind a) = k && s.ob (Obj.areaImgVersion a) = v

/-- The images of the active bank that a cluster holds bytes of can all be copied again. They stand at the offsets of their staging
areas (DEDUCED, assumption 97). -/
def bankRestorable (s : State) (cluster : Nat) : Bool :=
  (!clusterHolds cluster 0 896 || s.restorable 0 2 (s.ob Obj.mastVersion)) &&
  (!clusterHolds cluster 0x380000 64 || s.restorable 1 3 (s.ob Obj.hoistVersion)) &&
  (!clusterHolds cluster 0x3C0000 64 || s.restorable 2 4 (s.ob Obj.nodeVersion))

/-- A staging area emptied (R462). -/
def emptyArea (s : State) (a : Nat) : State :=
  forEach [Obj.areaState a, Obj.areaKind a, Obj.areaBlocksExpected a, Obj.areaBlocksValid a, Obj.areaImgVersion a,
    Obj.areaImgSec a, Obj.areaRejectCause a] (fun s k => s.setOb k 0) (s.setArea a {})

/-- An MRAM cluster fails (R462). Regions: 0 configuration copies, commit records and directory, 1 nonvolatile state and passports,
2 fault log, 3 active bank, 4 staging bank, 5 any other. Clusters 8q to 8q + 7 are those of quadrant q (assumption 97): copy A and its
commit records lie in Q0, B in Q1, C in Q2, the directory in Q3 (R28). -/
def mramFails (s : State) (cluster r : Nat) : State :=
  let s := s.post 1314 cluster
  if s.ob Obj.mramSpare ≠ 0xFF then s
  else
    let s := s.setOb Obj.mramSpare cluster
    match r with
    | 0 =>
      let k := cluster / 8
      let s := if k < 3 then (s.setOb (Obj.cfgState k) 1).post 1320 k else s
      s.post 1315 0
    | 2 => (s.loseLog cluster).post 1315 2
    | 3 => s.post 1315 (if s.bankRestorable cluster then 3 else 2 ^ 31 + 3)
    | 4 => (forEach [(0, 0x400000, 896), (1, 0x780000, 64), (2, 0x7C0000, 64)]
        (fun s x => if clusterHolds cluster x.2.1 x.2.2 then s.emptyArea x.1 else s) s).post 1315 4
    | n => s.post 1315 n

/-! ## Configuration copies (R469, R470) -/

def copyOf (s : State) (k : Nat) : ConfigCopy := ((s.ft.copies.find? (fun e => e.1 == k)).map (fun e => e.2)).getD {}

def agree (a b : ConfigCopy) : Bool := a.intact && b.intact && a.generation = b.generation && a.regs = b.regs

/-- One copy rewritten from another (EV1320). -/
def rewriteCopy (s : State) (from_ k : Nat) (tell : Bool) : State :=
  let c := s.copyOf from_
  let cs : Table ConfigCopy := (List.range 3).map (fun i => (i, if i = k then { c with intact := true } else s.copyOf i))
  let s : State := { s with ft := { s.ft with copies := cs } }
  (((s.setOb (Obj.cfgState k) 1).setOb (Obj.cfgGen k) c.generation)).postIf tell 1320 k

/-- Objects whose value differs between intact copies, ascending (R470). -/
def splitObjects (l : List ConfigCopy) : List Nat :=
  match l with
  | [a, b] => setObjects ((changedKeys a.regs b.regs).map (fun k => ({ key := k, value := 0, first := 0 } : PendingValue)))
  | [a, b, c] => setObjects ((changedKeys a.regs b.regs ++ changedKeys b.regs c.regs ++ changedKeys a.regs c.regs).map
      (fun k => ({ key := k, value := 0, first := 0 } : PendingValue)))
  | _ => []

/-- CONFIG_SPLIT (R470): copy `used` has the highest generation of the intact ones. -/
def configSplit (s : State) (used : Nat) (intact : List ConfigCopy) : State :=
  let l := splitObjects intact
  let s := forRange 3 (fun s k => if k = used then s else s.rewriteCopy used k false) s
  let s : State := { s with ft := { s.ft with split := l } }
  ((s.setOb Obj.splitCount (saturate l.length 65535)).setBit Obj.ftFlags 0 true).post 1321 (saturate l.length 65535)

/-- The choice of a configuration copy (R469): the copy used, 3 the defaults, and the state with the others rewritten. -/
def chooseCopy (s : State) : Nat × State :=
  let a := s.copyOf 0
  let b := s.copyOf 1
  let c := s.copyOf 2
  let s : State := { s with ft := { s.ft with soleCopy := false } }
  if agree a b && agree b c then (0, s)
  else if agree a b then (0, s.rewriteCopy 0 2 true)
  else if agree a c then (0, s.rewriteCopy 0 1 true)
  else if agree b c then (1, s.rewriteCopy 1 0 true)
  else if a.intact && c.intact && !b.intact && a.generation = c.generation + 1 then
    (0, (s.rewriteCopy 0 1 true).rewriteCopy 0 2 true)
  else match (List.range 3).filter (fun k => (s.copyOf k).intact) with
  | [] => (3, forRange 3 (fun s k => s.setOb (Obj.cfgState k) 2) s)
  | [k] =>
    let s : State := { s with ft := { s.ft with soleCopy := true } }
    (k, forRange 3 (fun s i => if i = k then s else s.rewriteCopy k i true) s)
  | k :: rest =>
    let best := rest.foldl (fun m i => if (s.copyOf m).generation < (s.copyOf i).generation then i else m) k
    (best, s.configSplit best ((k :: rest).map s.copyOf))

/-! ## Regulator phases, stages, scrub, skew (R464–R468, R471) -/

/-- A faulted phase is disconnected (R464). -/
def phaseFails (s : State) (n : Nat) : State := ((s.setBit Obj.phases n false).showFaults).post 1317 n

/-- The output is off and free to be tested (R465). -/
def stageIdle (s : State) (sig : Nat) : Bool :=
  let i := sigInst sig
  match sigClass sig with
  | 0x01 => s.ob (Obj.gdAppliedValue i) = 0
  | 0x02 => s.ob (Obj.svPhase i) = 0 && (s.svCh i).windowK.isNone
  | 0x04 => s.ob (Obj.doutAppliedValue i) = 0
  | _ => s.ob (Obj.mxState (mxPort sig)) ≠ 5

/-- A stage fails its test and is disabled (R465); claim slots are unchanged. -/
def stageFails (s : State) (sig : Nat) : State :=
  let s : State := { s with ft := { s.ft with stagesOff := s.ft.stagesOff ++ [sig] } }
  (if sigClass sig = clsMX then s.mxShut (mxPort sig) else s.turnOff sig).post 1319 sig

/-- An arbiter or a spare in standby fails its test (R466). -/
def standbyFails (s : State) (q t : Nat) : State := ((s.retire q t).spareGone q).showFaults

/-- A Hoist sequencer fault (R467); EV1325 is logged once MAST runs again. -/
def sequencerFails (s : State) : State := (s.hoistRestart 8).post 1325 0

/-- A scrub of SRAM or MRAM has ended (R468, R469): `n` corrected words; copy 0–2 found not intact. -/
def scrubbed (s : State) (n damaged : Nat) : State :=
  let sum := s.ft.corrected + n
  let due := match s.ft.lastEv1316 with
    | some t => s.passed t (sec 60)
    | none => true
  let s := s.bumpBy Obj.scrubCorrected n
  let s : State := { s with ft := { s.ft with corrected := sum } }
  let s := if due && sum ≠ 0 then
      ({ s with ft := { s.ft with corrected := 0, lastEv1316 := some s.now } } : State).post 1316 sum else s
  if 3 ≤ damaged then s
  else
    let cs : Table ConfigCopy := (List.range 3).map (fun i =>
      (i, if i = damaged then { s.copyOf i with intact := false } else s.copyOf i))
    ({ s with ft := { s.ft with copies := cs } } : State).chooseCopy.2

/-- The range of a list of integers. -/
def spread (l : List Int) : Nat :=
  match l with
  | [] => 0
  | x :: r => ((r.foldl max x) - (r.foldl min x)).toNat

/-- What EV1322 carries where a difference exceeds its limit of R20 (R471): temperatures in 0.1 K, supplies in mV. -/
def skewOver (hoist : Int) (quadrants : List Int) (supplies : List Nat) : Option Nat :=
  let q := spread quadrants
  let h := (quadrants.map (fun t => (t - hoist).natAbs)).foldl max 0
  let v := spread (supplies.map (fun x => Int.ofNat x))
  if 150 < q then some q else if 450 < h then some h else if 60 < v then some (2 ^ 31 + v) else none

/-- The skew check (R471). -/
def skewChecked (s : State) (excess : Option Nat) : State :=
  let put (t : Option Tick) : State := { s with ft := { s.ft with withinSince := t } }
  match excess with
  | some x => if s.bit Obj.ftFlags 7 then put none else ((put none).setBit Obj.ftFlags 7 true).post 1322 x
  | none =>
    if !s.bit Obj.ftFlags 7 then s
    else match s.ft.withinSince with
    | none => put (some s.now)
    | some t => if s.passed t (sec 1) then ((put none).setBit Obj.ftFlags 7 false).post 1323 0 else s

/-- SPLIT_ACK (R470). -/
def doSplitAck (s : State) (v : Nat) : Answer :=
  check (v = 0xA5) .valueRange <|
    .ok ((({ s with ft := { s.ft with split := [] } } : State).setOb Obj.splitCount 0).setBit Obj.ftFlags 0 false)

/-- TILE_RETEST (R458). -/
def doTileRetest (s : State) (v : Nat) : Answer :=
  check (v = 1) .valueRange <| .ok { s with ft := { s.ft with retest := true } }

/-- When a test of the period given was last run. -/
def testDue (s : State) (key_ period : Nat) : Bool := s.passed (s.ft.tested.read 0 key_) period
def testRun (s : State) (key_ : Nat) : State := { s with ft := { s.ft with tested := s.ft.tested.put key_ s.now } }

end State

/-! ## Meanings -/

/-- R457, R459: on the segment that the engine evaluates next. -/
def execLaneMismatch (segment : Fin 16) (won : Fin 3) (s : State) : Host.Outcome State Fault Refusal :=
  whenever (s.sweepsRun && s.segmentFrom s.eng.segment = segment.val) s
    (if won.val = 2 then s.laneUnresolved segment else s.laneSettled segment won)

/-- R457. -/
def execSpareJoined (q : Fin 4) (s : State) : Host.Outcome State Fault Refusal := .next (s.spareJoins q)

/-- R456, R458, R460. -/
def execTileFault (q : Fin 4) (t : Fin 6) (s : State) : Host.Outcome State Fault Refusal := .next (s.tileFails q t)

/-- R461. -/
def execSramClusterFault (cluster : Fin 16) (region : Fin 6) (s : State) : Host.Outcome State Fault Refusal :=
  .next (s.sramFails cluster region)

/-- R462. -/
def execMramClusterFault (cluster : Fin 32) (region : Fin 6) (s : State) : Host.Outcome State Fault Refusal :=
  .next (s.mramFails cluster region)

/-- R464. -/
def execRegulatorPhaseFault (n : Fin 5) (s : State) : Host.Outcome State Fault Refusal :=
  whenever (s.bit Obj.phases n) s (s.phaseFails n)

/-- R465. -/
def execStageSelfTest (sig : BitVec 24) (pass : Bool) (s : State) : Host.Outcome State Fault Refusal :=
  let g := sig.toNat
  let known := State.directSigs.contains g || g = State.mxPortSig 0 || g = State.mxPortSig 1
  whenever (known && s.cf Obj.stageTestPeriod ≠ 0 && s.applied && s.awake && !s.hoist.safe && !s.disabled g &&
      !s.ft.stagesOff.contains g && s.stageIdle g && s.testDue g (sec (s.cf Obj.stageTestPeriod))) s
    (if pass then s.testRun g else (s.testRun g).stageFails g)

/-- R466: an arbiter in standby. -/
def execStandbyLaneCheck (q : Fin 4) (agrees : Bool) (s : State) : Host.Outcome State Fault Refusal :=
  let k := 2 ^ 24 + q.val
  whenever ((q.val = 1 || q.val = 3) && s.sweepsRun && s.tileOf q 5 = 1 && s.testDue k (ms (s.cf Obj.arbCheckPeriod))) s
    (if agrees then s.testRun k else ((s.testRun k).post 1324 (q.val * 256 + 5)).standbyFails q 5)

/-- R466: a spare in standby. -/
def execSpareLbist (q : Fin 4) (pass : Bool) (s : State) : Host.Outcome State Fault Refusal :=
  let k := 2 ^ 24 + 4 + q.val
  match s.spareOf q with
  | some t => whenever (s.awake && s.testDue k (sec (s.cf Obj.spareTestPeriod))) s
      (if pass then s.testRun k else (s.testRun k).standbyFails q t)
  | none => .next s

/-- R467. -/
def execSequencerFault (s : State) : Host.Outcome State Fault Refusal :=
  whenever (s.boot.stage ≠ .off && s.boot.stage ≠ .flyReset) s s.sequencerFails

/-- R466, R467: every 100 ms. -/
def execMicrocodeCheck (pass : Bool) (s : State) : Host.Outcome State Fault Refusal :=
  let k := 2 ^ 24 + 8
  whenever (s.applied && s.testDue k (ms 100)) s (if pass then s.testRun k else s.sequencerFails)

/-- R468, R469. -/
def execScrub (mram : Bool) (corrected : BitVec 16) (damaged : Fin 4) (s : State) : Host.Outcome State Fault Refusal :=
  let k := 2 ^ 24 + (if mram then 9 else 10)
  let per := if mram then sec (3600 * s.cf Obj.mramScrubPeriod) else sec 1
  whenever (s.applied && s.awake && s.testDue k per) s
    ((s.testRun k).scrubbed corrected.toNat (if mram then damaged else 3))

/-- R470. -/
def execSplitAck (sess : Nat) (value : BitVec 8) (s : State) : Host.Outcome State Fault Refusal :=
  s.request sess .service (writeOf Obj.splitAck 1 value.toNat) (fun _ s => s.doSplitAck value.toNat)

/-- R458. -/
def execTileRetest (sess : Nat) (s : State) : Host.Outcome State Fault Refusal :=
  s.request sess .maker (writeOf Obj.tileRetest 1 1) (fun _ s => s.doTileRetest 1)

/-- R471. -/
def execSkewCheck (hoist : Int) (quadrants : List Int) (supplies : List Nat) (s : State) :
    Host.Outcome State Fault Refusal :=
  whenever (s.applied && s.awake) s (s.skewChecked (State.skewOver hoist quadrants supplies))

end Sys2Proof.Machine
end

