-- ==== Sys2Proof/Machine/Start.lean ====
section
/-!
DEFINITION. The die link and clocks (R15, R16, R22–R24, R463), start-up, supply loss and Strike (spec/17).
-/

namespace Sys2Proof.Machine
namespace State

/-! ## The die link (R15, R16, R463) -/

/-- A word's number taken in one direction: whether it is new, and the direction after it. The manual gives neither the width of
the number nor what follows its last value: the model counts 32 bits and does not wrap (DESIGN CHOICE, assumption 98). -/
def LinkDirTake (d : LinkDir) (seq : Nat) : Bool × LinkDir :=
  if seq < d.next || d.early.contains seq then (false, d)
  else
    let early := d.early ++ [seq]
    let n := ((List.range early.length).foldl (fun n _ => if early.contains n then n + 1 else n) d.next)
    (true, { next := n, early := early.filter (fun x => decide (n ≤ x)) })

/-- A word applied (R15). The model's outputs follow their commanded value when it is set (R105); a command word that carries
another value than that is applied as it stands (assumption 81). -/
def applyWord (s : State) (w : LinkWord) : State :=
  match w with
  | .command sig value =>
    let g := sig.toNat
    let v := value.toNat
    let s : State := { s with link := { s.link with commands := s.link.commands.put g v } }
    if v = s.commandedOf g then s else s.drive g v
  | .measurement i value => { s with meas := s.meas.write 0 i.val value }
  | .input c level => if (s.dinCh c).level == level then s else s.dinChange c level

/-- A word arrives over a lane: applied once, a duplicate discarded (R15). -/
def linkWord (s : State) (seq : Nat) (w : LinkWord) : State :=
  let down := match w with
    | .command _ _ => true
    | _ => false
  let r := LinkDirTake (if down then s.link.toHoist else s.link.toFly) seq
  let s : State := { s with link :=
    if down then { s.link with toHoist := r.2 } else { s.link with toFly := r.2 } }
  if r.1 then s.applyWord w else { s with link := { s.link with duplicates := s.link.duplicates + 1 } }

def lane (s : State) (l : Nat) : LinkLane := s.link.lanes.read {} l
def setLane (s : State) (l : Nat) (x : LinkLane) : State :=
  { s with link := { s.link with lanes := s.link.lanes.write {} l x } }

/-- LANE_STATE and LANE_SINGLE. -/
def showLanes (s : State) : State :=
  let a := (s.lane 0).failed
  let b := (s.lane 1).failed
  (s.setOb Obj.laneState (if a && !b then 2 else if b && !a then 1 else if a && b then s.ob Obj.laneState else 0)).showFaults

/-- A lane fails (R16, R463): traffic and clock move to the other; after the third failure within an hour it stays out. -/
def laneFails (s : State) (l : Nat) : State :=
  let x := s.lane l
  let fs := s.now :: x.failures.filter (fun t => !s.passed t (sec 3600))
  let out := decide (3 ≤ fs.length)
  let s := s.setLane l { x with failed := true, passes := 0, failures := fs, lastTest := s.now
                                heldOut := out || s.cf Obj.laneReturn = 0 }
  let s : State := { s with link := { s.link with clockLane := if s.link.clockLane = l then 1 - l else s.link.clockLane } }
  ((s.showLanes.post 1309 l).postIf out 1311 l)

/-- A test of a failed lane (R463). -/
def laneTested (s : State) (l : Nat) (pass : Bool) : State :=
  let x := s.lane l
  let n := if pass then x.passes + 1 else 0
  if n < 16 then s.setLane l { x with passes := n, lastTest := s.now }
  else ((s.setLane l { x with failed := false, passes := 0, lastTest := s.now }).showLanes).post 1310 l

/-! ## Clocks (R21–R24) -/

/-- The Fly die is out of reset. -/
def flyRuns (s : State) : Bool := s.boot.stage ≠ .off && s.boot.stage ≠ .flyReset

/-- Loss of lock (R22): PLL_UNLOCK recorded, the hoist safe state, and a restart from the boot step. -/
def pllLost (s : State) : State := (s.logFault 1 .safeStated 6 s.now 0 0 0 0).hoistRestart 4

/-- One LF period (R24); where the PLL runs again single ticks begin at this boundary. -/
def lfStep (s : State) : State :=
  let a := s.tb.lfAcc + 97
  { s with tb := { s.tb with
    count := (s.tb.count + 3051 + a / 128) % 2 ^ 64, lfAcc := a % 128
    lfMode := !s.tb.lfLeaving, lfLeaving := false } }

/-! ## Commits cut short by the supply (R45, R469) -/

/-- The copies as a write cut short leaves them. `done` counts: 0 nothing written, then per copy A, B, C: its write begun, its
write ended. -/
def cutCommit (s : State) (done : Nat) : State :=
  match s.commits.head? with
  | none => s
  | some j => match j.generation with
    | none => s
    | some g =>
      let new : ConfigCopy := { generation := g, intact := true, regs := j.regs }
      let cs : Table ConfigCopy := (List.range 3).map (fun k =>
        (k, if 2 * k + 2 ≤ done then new else if done = 2 * k + 1 then { new with intact := false } else s.copyOf k))
      let s : State := { s with ft := { s.ft with copies := cs } }
      forRange 3 (fun s k => s.setOb (Obj.cfgGen k) (s.copyOf k).generation) s

/-! ## Power-on reset and images (R363, R373, R445, R469, R370) -/

/-- The filtered states at a Hoist start: the comparator levels of the first tick, with no event (R209). The levels are free (DESIGN
CHOICE, assumption 121). -/
def firstLevels (s : State) : State :=
  forRange 16 (fun s c => s.setDin c { level := bitAt (Config.dinLevels s.boot.dinStarts).toNat c })
    { s with boot := { s.boot with dinStarts := s.boot.dinStarts + 1 } }

/-- The Hoist POR releases (R363): the Hoist die runs and holds the Fly die in reset. -/
def porReleases (s : State) (cause : Nat) : State :=
  ({ s with boot := { s.boot with stage := .flyReset, nextCause := cause } } : State).firstLevels

/-- The Hoist POR asserts (R363): a plain power-down. -/
def porAsserts (s : State) (copies : Nat) : State := (s.cutCommit copies).hoistOff 1

/-- START_CAUSE of the start in progress (R366). A start after boundary scan has no cause of its own in the manual: it is left
open. -/
def startCauseNow (s : State) : Nat :=
  if s.boot.nextCause = 9 then 1 + Config.unmeasured Obj.startCause s.flyStarts % 8 else s.boot.nextCause

/-- An activation record left is completed (R445); an accepted activation that had not begun is gone. -/
def completeRecord (s : State) : State :=
  let set := s.upd.record
  let s := if set = 0 then s
    else (s.runImages set).postIf (s.ob Obj.startCause ≠ 8) 1207 set
  forRange 3 (fun s a => if s.ob (Obj.areaState a) = 5 then s.setOb (Obj.areaState a) 3 else s) s

/-- The configuration store is checked, and a copy chosen (R363, R469). -/
def loadConfig (s : State) : State :=
  let r := s.chooseCopy
  let s := r.2.setOb Obj.cfgUsed r.1
  if r.1 = 3 then ({ s with cfg := [] } : State).post 1294 0
  else
    let c := s.copyOf r.1
    let s := forRange 3 (fun s k => s.setOb (Obj.cfgGen k) (s.copyOf k).generation) { s with cfg := c.regs }
    s.setOb Obj.commitGeneration c.generation

/-- The Strike record is checked (R370): a complete one's records take their place after the head. -/
def checkStrike (s : State) : State :=
  match s.boot.strikeReport with
  | 1 =>
    let last := (s.ledger.strike.flatMap (fun p => p.records)).foldl (fun m r => max m (r.seq + 1)) 0
    let s := s.setOb Obj.ledgerNextSeq (max (s.ob Obj.ledgerNextSeq) last)
    (s.setOb Obj.lastStrikeResult 1).post 1289 s.boot.strikeKib
  | 2 => (s.setOb Obj.lastStrikeResult 2).post 1290 0
  | _ => s

/-- Balls of the enabled ports and outputs (R282, R363). -/
def enabledBalls (s : State) : List Nat :=
  (List.range 48).filter (fun b =>
    if b < 32 then s.cf (Obj.mxEnable (b / 16)) = 1 else if b < 40 then s.cf (Obj.doutEnable (b - 32)) = 1
    else s.cf (Obj.bpEnable (b - 40)) = 1)

/-- The order in which start-up tests them (R363): MX0, MX1, BP0–BP7, DOUT0–DOUT7. -/
def startBalls (s : State) : List Nat :=
  let l := s.enabledBalls
  l.filter (fun b => b < 32) ++ l.filter (fun b => decide (40 ≤ b)) ++ l.filter (fun b => decide (32 ≤ b) && decide (b < 40))

/-- The images are checked (R373): a rejected one stops start-up. -/
def checkImages (s : State) (rejected : Nat) (trng : Bool) : State :=
  let s := (s.setOb Obj.startCause s.startCauseNow).completeRecord
  let s := if trng then s.setOb Obj.trngState 1 else (s.setOb Obj.trngState 2).post 1104 0
  if rejected ≠ 0 then { (s.setOb Obj.bootResult rejected) with boot := { s.boot with stage := .stopped } }
  else
    let s := (s.postIf (s.ob Obj.bootResult ≠ 0) 1103 (s.ob Obj.bootResult)).setOb Obj.bootResult 0
    let s := s.startTiles.loadConfig.checkStrike
    let s : State := { s with boot := { s.boot with stage := .config } }
    if s.startBalls.isEmpty then s else s.nbStart s.startBalls

/-! ## The configuration applied (R364) -/

/-- Releases that a start restores, or closes with reason 4 (R406, R409). -/
def startReleases (s : State) : State :=
  let c := s.ob Obj.startCause
  let s := forRange 16 (fun s r =>
    let x := s.rel r
    let keep := s.cf (Obj.relEnable r) = 1 && s.cf (Obj.relPersist r) = 1 && (c = 3 || c = 4 || c = 5 || c = 8)
    if s.ob (Obj.relState r) = 1 && keep then
      s.setRel r { x with open_ := true, windowEnd := x.windowEnd.map (fun t => s.now + sec (ceilDiv t (sec 1))) }
    else s.closeRelease r 4) s
  (s.gatesMoved s.bg.latches).burgeeVote

/-- What the Hoist die did before this start is recorded (R416 kind 4, R94, R366). -/
def startRecords (s : State) : State :=
  let c := s.ob Obj.startCause
  let reason := if s.boot.strikeReport ≠ 0 then 5 else if c = 3 then 1 else if c = 4 then 2 else if c = 5 then 3 else 0
  let r := s.newRecord 4 s.now
  let s := if c = 1 && reason = 0 || c = 2 then s
    else s.record { r with
      rflags := r.rflags + 4, new := 1, reason := reason, cmdr := 5, cmdrAux := c, detail := s.ob Obj.hoistWdgTrips }
  let s := s.postIf s.hoist.tripToReport 1299 (s.ob Obj.hoistWdgTrips)
  let s := s.postIf (c = 5) 1293 s.boot.coreMv
  { s with hoist := { s.hoist with tripToReport := false }, boot := { s.boot with strikeReport := 0 } }

/-- What a Furled exit delivers (R358), and its end (R353). -/
def startWoken (s : State) : State :=
  let saved := s.pw.saved
  let s := forEach saved (deliverFrom true) { s with pw := { s.pw with saved := [] } }
  let s := s.postIf (!saved.isEmpty) 1060 saved.length
  let s := (s.setOb Obj.pwrState pwrHoisted)
  let s := if s.ob Obj.pwrTransition = 2 then s.woken else (s.setOb Obj.pwrTransition 0).watchTarget
  forRange 19 (fun s d => s.setOb (Obj.domainOn d) (if s.domainDue d then 1 else 0)) s

/-- What held an output off while the Fly die was in reset is over (R94, R154, R215), but for a wait, a latch and a condition that
still stands. -/
def freeStarted (s : State) : State :=
  let s := forRange 24 (fun s c => if s.gdWaits c then s else s.setGd c { s.gdCh c with off := s.gdHeld c }) s
  let s := forRange 8 (fun s c => if s.bit (Obj.svStatus c) 14 || s.bit (Obj.svStatus c) 15 || s.bit (Obj.svStatus c) 8 then s
    else s.setSv c { s.svCh c with off := false }) s
  forRange 8 (fun s d => if s.bit (Obj.doutStatus d) 14 || s.bit (Obj.doutStatus d) 15 then s
    else s.setDout d { s.doutCh d with off := (s.doutCh d).hot }) s

/-- Outputs leave their power-up state or the hoist safe state for the pre-configuration state (R364, R365). An output
reported as on stands at its value (R125), and a safe state that does not raise it is no switch-on (R83). -/
def startOutputs (s : State) : State :=
  let was := s.hoist.safe
  let s := s.endHoistSafe.freeStarted
  let s : State := { s with hoist := { s.hoist with powerUp := false, latches := s.latchesOf } }
  let s := s.arbiterEnter
  let on := directSigs.filter (fun sig => !s.disabled sig && s.reportedOn sig ≠ 0)
  let s := forEach on (fun s sig =>
    { s with own := { s.own with commanded := s.own.commanded.write 0 sig (s.reportedOn sig) } }) s
  let s := (s.setOb Obj.hbState hbWaiting).safePlacedOver [] on hbWaiting hbWaiting
  let s := if was then forEach directSigs (fun s sig => if s.commandedOf sig = 0 then s.reDrive sig else s) s else s
  let s := forRange 2 (fun s p => if s.cf (Obj.mxEnable p) = 0 then s
    else if was then s.mxLeaveSafe p else s.mxRestart p 0) s
  forRange 8 bpRejoin s

/-- Inputs at a start (R209, R223, R364). -/
def startInputs (s : State) : State :=
  let s := forRange 16 (fun s c => s.setOb (Obj.dinState c) (s.dinTerm c (s.dinCh c).level)) s
  let s := s.vsensEnabled
  forRange 12 (fun s c => if s.cf (Obj.ainKind c) = 0 then s else s.ainRangeChange c) s

/-- Windows take up their stored position (R166). -/
def startWindows (s : State) : State :=
  forRange 6 (fun s h => match (s.brCh h).stored with
    | some p => if s.cf (Obj.brFunction h) = 2 then
        ((s.setBrFlag h 6 true).setPos h p).setBrFlag h 5 (!(s.brCh h).bins.isEmpty) else s
    | none => s.setBrFlag h 5 (!(s.brCh h).bins.isEmpty)) s

/-- STRIKE_STATE (R367, R369). -/
def showStrike (s : State) : State :=
  s.setOb Obj.strikeState (if s.cf Obj.strikeEnable = 0 || !s.applied || !s.awake then 0
    else if s.boot.vstoreReady then 2 else 1)

/-- The configuration is applied, in one step (R364). -/
def applyConfig (s : State) (elapsed : Nat) : State :=
  let s : State := { s with boot := { s.boot with stage := .applied, held := false, appliedAt := s.now, sweeps := false } }
  let s := (s.setOb Obj.applyTime elapsed).setOb Obj.enabledRules ((s.cfg.filter isRule).length)
  let s := s.startWoken.timersInit
  let s : State := { s with arb := { s.arb with ignored := (List.range 16).map (fun a => a + 1) } }
  let s := s.startInputs.startWindows.startReleases.startOutputs
  let s := s.timersAutostart
  let s := forRange 8 canShow s
  let s := (([0, 1] : List Nat).foldl (fun (s : State) p =>
    if s.cf (if p = 0 then Obj.bkeyEnable else Obj.lfEnable) = 1 && (s.bgPort p).presentAt.isNone then s.restPort p else s) s)
  let s := s.bindMaps.ledgerRefresh.startRecords.showStrike
  let s := s.postIf (s.ob Obj.rtcValid = 0) 1062 0
  let s := s.migrates none
  let s := if s.upd.record = 0 then s
    else if s.ob Obj.startCause = 8 then s.activated s.upd.record
    else { s with upd := { s.upd with record := 0 } }
  let s := if s.bit Obj.ftFlags 6 then
      let s := s.applyHoistSafe
      { s with hoist := { s.hoist with parked := true } }
    else s
  (s.showFaults.post 1288 (s.ob Obj.startCause)).runQueue

/-- VBAT suffices for the apply instant (R363). -/
def vbatSuffices (s : State) (vbat : Nat) : Bool := decide (s.cf Obj.strikeLevel + 1000 ≤ vbat)

/-! ## Supply faults and Strike (R366–R370) -/

/-- VSTORE is read: ready, or not (R367). -/
def vstoreRead (s : State) (mv : Nat) : State :=
  let ready := decide (10500 ≤ mv)
  let tell := !ready && !s.boot.vstoreTold && s.applied && s.awake && (s.boot.vstoreReady || s.passed s.boot.appliedAt (sec 1))
  let s := (s.postIf tell 1291 mv).postIf (ready && s.boot.vstoreTold) 1292 mv
  { s with boot := { s.boot with vstoreReady := ready, vstoreTold := !ready && (tell || s.boot.vstoreTold) } }.showStrike

/-- The comparator is armed (R369). -/
def strikeArmed (s : State) : Bool := s.cf Obj.strikeEnable = 1 && s.applied && s.awake

/-- The pages that Strike saves (R430): the newest 16 not yet durable, marked. -/
def strikePages (s : State) : List LedgerPage :=
  let l := s.ledger.pages
  (l.drop (l.length - 16)).map (fun p => s.sealed { p with
    flags := if bitAt p.flags 0 then p.flags else p.flags + 1
    records := p.records.map (fun r => { r with rflags := if bitAt r.rflags 0 then r.rflags else r.rflags + 1 }) })

/-- The chain of the pages saved follows their new bytes (R421, R430). -/
def chained : List LedgerPage → Option Nat → (LedgerPage → LedgerPage) → List LedgerPage
  | [], _, _ => []
  | p :: r, h, f =>
    let q := f (match h with
      | some x => { p with prevHash := x }
      | none => p)
    q :: chained r (some q.hash) f

/-- Strike (R369, R370, R430): counted; what a complete one saves outlives the stop. -/
def strikes (s : State) (complete : Bool) (copies : Nat) : State :=
  let s := (s.cutCommit copies).sealOpen
  let pages := chained s.strikePages none s.sealed
  let kib := 4 * pages.length + 16
  let s := (s.bump Obj.strikeCount).setOb Obj.lastStrikeTime (s.htime)
  let s := s.setOb Obj.lastStrikeKib (if complete then kib else 0)
  let s : State := if complete then { s with ledger := { s.ledger with strike := pages } } else s
  let old := s
  let t := s.hoistOff 6
  let t : State := { t with boot := { t.boot with strikeReport := if complete then 1 else 2, strikeKib := kib } }
  if !complete then t
  else
    let t : State := { t with
      gd := old.gd.map (fun (e : Nat × GdChannel) => (e.1, ({ off := e.2.off, retryAt := again e.2.retryAt } : GdChannel)))
      sv := old.sv.map (fun (e : Nat × SvChannel) => (e.1, ({ off := e.2.off, retryAt := again e.2.retryAt } : SvChannel)))
      dout := old.dout.map (fun (e : Nat × Dout) =>
        (e.1, ({ off := e.2.off, retries := e.2.retries, retryAt := again e.2.retryAt } : Dout)))
      mx := old.mx.map (fun (e : Nat × MxPort) =>
        (e.1, ({ off := e.2.off, retries := e.2.retries, retryAt := again e.2.retryAt } : MxPort)))
      fab := { t.fab with log := old.fab.log }
      hal := { t.hal with refTick := 0, refNs := old.hal.refNs - 10 * old.hal.refTick } }
    let t := t.setOb Obj.logSeq (old.ob Obj.logSeq)
    let t := forRange 24 (fun t c =>
      let st := old.ob (Obj.gdStatus c)
      (t.setOb (Obj.gdStatus c) ((if bitAt st 14 then 2 ^ 14 else 0) + (if bitAt st 15 then 2 ^ 15 else 0))).setOb
        (Obj.gdRetriesUsed c) (old.ob (Obj.gdRetriesUsed c))) t
    let t := forRange 8 (fun t c =>
      let st := old.ob (Obj.svStatus c)
      (t.setOb (Obj.svStatus c) ((if bitAt st 14 then 2 ^ 14 else 0) + (if bitAt st 15 then 2 ^ 15 else 0))).setOb
        (Obj.svRetriesUsed c) (old.ob (Obj.svRetriesUsed c))) t
    forRange 8 (fun t d =>
      let st := old.ob (Obj.doutStatus d)
      t.setOb (Obj.doutStatus d) ((if bitAt st 14 then 2 ^ 14 else 0) + (if bitAt st 15 then 2 ^ 15 else 0))) t

end State

/-! ## Meanings -/

/-- R15: over a lane in service, while both dies run. -/
def execDieLinkWord (lane : Fin 2) (seq : BitVec 32) (w : LinkWord) (s : State) : Host.Outcome State Fault Refusal :=
  whenever (s.flyRuns && !(s.lane lane).failed) s (s.linkWord seq.toNat w)

/-- R16, R463. -/
def execLaneFailover (lane : Fin 2) (s : State) : Host.Outcome State Fault Refusal :=
  whenever (s.flyRuns && !(s.lane lane).failed) s (s.laneFails lane)

/-- R463. -/
def execLaneRetest (lane : Fin 2) (pass : Bool) (s : State) : Host.Outcome State Fault Refusal :=
  let x := s.lane lane
  whenever (s.flyRuns && x.failed && !x.heldOut && s.cf Obj.laneReturn = 1 && s.passed x.lastTest (sec 1)) s
    (s.laneTested lane pass)

/-- R22, R363. -/
def execPllLock (s : State) : Host.Outcome State Fault Refusal :=
  whenever (s.boot.stage = .pllWait) s
    { s with boot := { s.boot with stage := .images }, tb := { s.tb with pllLocked := true, count := 0 } }

/-- R22: while the PLL is meant to run. -/
def execPllUnlock (s : State) : Host.Outcome State Fault Refusal :=
  whenever (s.flyRuns && s.tb.pllLocked) s s.pllLost

/-- R22: what follows is the Fly die's own (R92). -/
def execForwardedClockLoss (s : State) : Host.Outcome State Fault Refusal :=
  whenever (s.flyRuns && s.tb.pllLocked && !s.hoist.safe) s s.applyHoistSafe

/-- R23: the Fly die stays in boot, and the attempt is repeated. -/
def execPllLockTimeout (s : State) : Host.Outcome State Fault Refusal := .next s

/-- R24. -/
def execLfPeriod (s : State) : Host.Outcome State Fault Refusal := whenever s.tb.lfMode s s.lfStep

/-- R363, R209. In Furled the die is stopped on purpose (R358). -/
def execHoistPorRelease (s : State) : Host.Outcome State Fault Refusal :=
  whenever (s.boot.stage = .off && s.ob Obj.pwrState ≠ pwrFurled) s (s.porReleases 1)

/-- R363. -/
def execHoistPorAssert (copies : Fin 7) (s : State) : Host.Outcome State Fault Refusal := .next (s.porAsserts copies)

/-- R363, R366: starts from power-on, Furled, Strike, RESET_N and boundary scan. From Furled the inputs run again with it
(R209, R358). -/
def execFlyResetReleaseAtStart (s : State) : Host.Outcome State Fault Refusal :=
  let c := s.boot.nextCause
  whenever (s.boot.stage = .flyReset && (c = 1 || c = 2 || c = 6 || c = 7 || c = 9)) s
    (if c = 2 then s.firstLevels.flyRelease else s.flyRelease)

/-- R373, R445, R469, R370. -/
def execImageCheck (rejected : Fin 5) (trng : Bool) (s : State) : Host.Outcome State Fault Refusal :=
  whenever (s.boot.stage = .images) s (s.checkImages rejected trng)

/-- R363, R364. -/
def execConfigurationApplied (vbat : Nat) (elapsed : BitVec 32) (s : State) : Host.Outcome State Fault Refusal :=
  whenever (s.boot.stage = .config && s.vbatSuffices vbat) s (s.applyConfig elapsed.toNat)

/-- R363. -/
def execApplyHeldLowVbat (vbat : Nat) (s : State) : Host.Outcome State Fault Refusal :=
  whenever (s.boot.stage = .config && !s.boot.held && !s.vbatSuffices vbat) s
    (({ s with boot := { s.boot with held := true } } : State).post 1295 vbat)

/-- R364, R71, R459. -/
def execFirstSweepStart (s : State) : Host.Outcome State Fault Refusal :=
  whenever (s.applied && !s.boot.sweeps && s.confirmed && s.awake && !s.bit Obj.ftFlags 6) s
    ({ s with boot := { s.boot with sweeps := true }, eng := { s.eng with segment := 0 } }.setOb Obj.engineState 1)

/-- R366: thresholds 725 mV and 875 mV, each ± 5 mV. -/
def execCoreSupplyFault (mv : Nat) (s : State) : Host.Outcome State Fault Refusal :=
  whenever (s.flyRuns && (decide (mv < 730) || decide (870 < mv))) s
    (({ s with boot := { s.boot with coreMv := mv } } : State).hoistRestart 5)

/-- R366: 1 ms after the supply is back in regulation. -/
def execCoreSupplyRestored (s : State) : Host.Outcome State Fault Refusal :=
  whenever (s.boot.stage = .flyReset && s.boot.nextCause = 5) s s.flyRelease

/-- R366. -/
def execResetNLow (s : State) : Host.Outcome State Fault Refusal := whenever s.flyRuns s (s.hoistRestart 7)

/-- R367. -/
def execVstoreReadiness (mv : Nat) (s : State) : Host.Outcome State Fault Refusal :=
  whenever (s.boot.stage ≠ .off) s (s.vstoreRead mv)

/-- R369. -/
def execStrikeTrigger (complete : Bool) (copies : Fin 7) (s : State) : Host.Outcome State Fault Refusal :=
  whenever s.strikeArmed s (s.strikes complete copies)

/-- R369: VBAT has been at or above STRIKE_LEVEL + 1 V for 1 ms after the stop. -/
def execStrikeRestart (s : State) : Host.Outcome State Fault Refusal :=
  whenever (s.boot.stage = .off && s.boot.nextCause = 6) s (s.porReleases 6)

end Sys2Proof.Machine
end

