-- ==== Sys2Proof/Machine/Views.lean ====
section
/-!
DEFINITION. What a read of the dictionary shows (spec/02 and the object tables): the status objects that follow from other
state, the bytes of every DOMAIN, and what a read changes.
-/

namespace Sys2Proof.Machine
namespace State

/-- Bit `i` set where a condition holds. -/
def flagAt (b : Bool) (i : Nat) : Nat := if b then 2 ^ i else 0

/-! ## Status objects that follow from other state -/

/-- Session objects (spec/18): SESSION_ROLE and SESSION_AGE, the session table, LOCK_LEFT; SETUP_OUT of the path. -/
def sessionView (s : State) (h p ix sub : Nat) : Option Nat :=
  if ix = 0x1101 then (if sub = 2 then some (s.secure.setupOut.read 0 p) else none)
  else if ix = 0x1102 then match s.session? h with
    | none => none
    | some x => if sub = 1 then some x.role.rank else if sub = 2 then some ((s.now - x.opened) / sec 1) else none
  else if ix = 0x1120 then
    if 1 ≤ sub ∧ sub ≤ 4 then some (match s.secure.lockUntil.get? (sub - 1) with
      | some t => saturate (ceilDiv (t - s.poweredTime) (sec 1)) 65535
      | none => 0) else none
  else match inst? ix 0x1110 8 1 with
    | none => none
    | some n => match s.sessions[n]? with
      | none => none
      | some x => match sub with
        | 1 => some x.handle
        | 2 => some x.role.rank
        | 3 => some x.hostId
        | 4 => some x.opened
        | 5 => some x.last
        | _ => none

/-- ADM_FLAGS (R131). -/
def admFlagsOf (s : State) : Nat :=
  flagAt s.arb.frozen 8 + flagAt s.arb.oversub 7 + flagAt (s.borrowedSum ≠ 0) 6 + flagAt (s.arb.lent ≠ 0) 5 +
    flagAt s.arb.sagA 4 + flagAt s.arb.sagC 3 + s.overFlags

/-- Arbiter status (R131). -/
def arbiterView (s : State) (sub : Nat) : Option Nat :=
  match sub with
  | 1 => some (saturate s.sumI 65535)
  | 2 => some (saturate s.share 65535)
  | 3 => some (saturate s.sumS 65535)
  | 4 => some (saturate s.sumP 65535)
  | 5 => some s.arb.queue.length
  | 6 => some s.admFlagsOf
  | 7 => some s.arb.lent
  | 8 => some s.arb.lendTo
  | 9 => some (saturate s.borrowedSum 65535)
  | 10 => some s.heldMask
  | _ => none

/-- The admission query of a session (R131): a request that waits is shown before a shed output, a refusal and an entry. -/
def admissionView (s : State) (h sub : Nat) : Option Nat :=
  let sig := s.sob h Obj.adqSignal
  let waits := s.arb.queue.find? (fun r => r.sig == sig)
  let mine := s.arb.entries.filter (fun e => e.1 / 8 = sig)
  match sub with
  | 2 => some (if sig = 0 then 0 else if waits.isSome then 2 else if s.arb.shed.any (fun x => x.sig == sig) then 3
      else if s.arb.refused.any (fun r => r.sig == sig) then 4 else if mine.isEmpty then 0 else 1)
  | 3 => some (if sig = 0 then 0 else saturate (mine.map (fun e => s.presentOf e.1 e.2)).sum 65535)
  | 4 => some (if sig = 0 then 0 else match waits with
      | some r => saturate ((s.now - r.age) / us 1) (2 ^ 32 - 1)
      | none => 0)
  | _ => none

/-- Passport values in force (R230, R233, R250). -/
def passportView (s : State) (n sub : Nat) : Option Nat :=
  if sub = 1 then some (s.ppSourceOf n)
  else if 2 ≤ sub ∧ sub ≤ 7 then some (s.ppVal n (sub - 2))
  else if sub = 8 then some (saturate (s.ppPPkOf n) 65535)
  else if sub = 9 then some (saturate (s.ppPSetOf n) 65535)
  else none

/-- CAN_STATE as read (R327, R332): in mode 0 recovery runs once BUSOFF_DELAY has passed. -/
def canStateNow (s : State) (c : Nat) : Nat :=
  match (s.canCh c).busOffAt with
  | some t => if s.ob (Obj.canState c) = 4 && s.cf (Obj.canBusoffMode c) = 0 && s.passed t (ms (s.cf (Obj.canBusoffDelay c)))
      then 5 else s.ob (Obj.canState c)
  | none => s.ob (Obj.canState c)

/-- Entries of a cfg DOMAIN that a field picks (R333). -/
def usedEntries (s : State) (ix : Nat) (used : Nat → Bool) : Nat := ((s.domEntries ix).filter (fun e => used e.2)).length

/-- Objects of spec/02 to spec/05 that follow from other state. -/
def coreView (s : State) (h p ix sub : Nat) : Option Nat :=
  let k := key ix sub
  if 0x1100 ≤ ix ∧ ix < 0x1200 then s.sessionView h p ix sub
  else if k = Obj.pendingCount then some (match s.session? h with
    | some x => (setObjects x.pendingSet).length
    | none => 0)
  else if k = Obj.uplinkLoad then some (10 * loadBits s.recentLoad)
  else if k = Obj.halyardTime then some s.htime
  else if ix = 0x8805 then (if sub = 0 then none else some (s.ownerQueryValue h sub))
  else if ix = 0x2202 then s.arbiterView sub
  else if ix = 0x2220 then s.admissionView h sub
  else none

/-- GATE_ON at the last sample (R159): on while the gate conducts without a break, off with it; between, the manual does not say
where in the period VGS is sampled, and the bit is a free value. -/
def gateOnNow (s : State) (c : Nat) : Bool :=
  let v := s.ob (Obj.gdAppliedValue c)
  if v = 0 then false else if v = 10000 || s.cf (Obj.gdPwmPeriod c) = 0 then true
  else Config.unmeasured (Obj.gdStatus c) s.now % 2 = 1

/-- Objects of spec/06 to spec/12 that follow from other state. -/
def outputView (s : State) (h ix sub : Nat) : Option Nat :=
  let k := key ix sub
  if 0x4000 ≤ ix ∧ ix < 0x4180 ∧ ix % 16 = 2 ∧ sub = 1 then
    let c := (ix - 0x4000) / 16
    some (setBitTo (setBitTo (s.ob k) 3 (s.cf (Obj.gdMode c) = 4)) 2 (s.gateOnNow c))
  else if 0x4000 ≤ ix ∧ ix < 0x4180 ∧ ix % 16 = 2 ∧ sub = 3 then
    some (if s.ob (Obj.gdAppliedValue ((ix - 0x4000) / 16)) = 0 then s.ob k else Config.unmeasured k s.now % 65536)
  else if 0x4200 ≤ ix ∧ ix < 0x4260 ∧ ix % 16 = 2 ∧ sub = 5 then some (s.brCurrentNow ((ix - 0x4200) / 16))
  else if 0x4400 ≤ ix ∧ ix < 0x4480 ∧ ix % 16 = 2 ∧ sub = 1 then
    some (setBitTo (s.ob k) 13 (s.svBound ((ix - 0x4400) / 16)))
  else if 0x4828 ≤ ix ∧ ix < 0x4830 ∧ sub = 1 then some (setBitTo (s.ob k) 2 (s.doutClamps (ix - 0x4828)))
  else if 0x4A10 ≤ ix ∧ ix < 0x4A14 ∧ sub = 1 then some (s.tachFreqNow (ix - 0x4A10))
  else if 0x4C00 ≤ ix ∧ ix < 0x4CA0 ∧ ix % 4 = 1 then s.passportView ((ix - 0x4C00) / 4) sub
  else if 0x2300 ≤ ix ∧ ix < 0x230A ∧ sub = 3 then some (s.supHystOf (ix - 0x2300))
  else if ix = 0x5302 then (if sub = 0 then none else some (s.groupQueryValue h sub))
  else none

/-- Objects of spec/13 to spec/19 that follow from other state. -/
def machineView (s : State) (ix sub : Nat) : Option Nat :=
  let k := key ix sub
  if 0x7020 ≤ ix ∧ ix < 0x7040 then
    let t := ix - 0x7020
    if k = Obj.tmrCount t then some (s.tmrCountNow t) else if k = Obj.tmrStatus t then some (s.tmrStatusOf t) else none
  else if 0x6000 ≤ ix ∧ ix < 0x6100 ∧ ix % 32 = 2 then
    let c := (ix - 0x6000) / 32
    if k = Obj.canState c then some (s.canStateNow c)
    else if k = Obj.canBusLoad c then some (Config.unmeasured k s.now % 2 ^ 16) else none
  else if ix = 0x6110 then match sub with
    | 1 => some (s.usedEntries 0x6100 (fun e => moDir e ≠ 0))
    | 2 => some (s.usedEntries 0x6102 (fun e => bitsOf e 32 8 ≠ 0))
    | 3 => some (s.usedEntries 0x6103 (fun e => watchMode e ≠ 0))
    | _ => none
  else if k = Obj.ownReason then some s.nmReason
  else if 0x2010 ≤ ix ∧ ix < 0x2023 ∧ sub = 1 then some (s.votesOf (ix - 0x2010))
  else if k = Obj.rtcSeconds then some s.rtcNow
  else if k = Obj.idCert then some (if s.secure.idCert then Part.idCert else 0)
  else if 0x3100 ≤ ix ∧ ix < 0x3180 then
    (if k = Obj.keySlotFunction (ix - 0x3100) then some (s.slotFunctionOf (ix - 0x3100)) else none)
  else if 0x3401 ≤ ix ∧ ix < 0x3403 then
    (if k = Obj.bgLockLeft (ix - 0x3401) then some (s.lockLeftOf (ix - 0x3401)) else none)
  else if 0x3430 ≤ ix ∧ ix < 0x3440 then
    (if k = Obj.relLeft (ix - 0x3430) then some (s.relLeftOf (ix - 0x3430)) else none)
  else none

/-! ## DOMAINs (R56, and the chapter that owns each) -/

/-- NODE_STATUS of a node (R271). -/
def nodeStatusBytes (s : State) (p n : Nat) : List Nat :=
  let x := (s.bpCh p).nodes.read {} n
  [x.kind, x.state] ++ toBytes 2 x.version ++ toBytes 2 x.iFs ++ [x.open_, x.short] ++ toBytes 2 x.temp ++
    toBytes 2 x.symErrors ++ toBytes 2 x.missed ++ [x.flags, 0]

/-- A stray entry (R332). -/
def strayBytes (x : Stray) : List Nat :=
  toBytes 4 (x.id + flagAt x.ext 31) ++ [x.dlc, flagAt x.fdf 0 + flagAt x.brs 1 + flagAt x.esi 2, 0, 0] ++
    toBytes 8 x.ts ++ toBytes 8 x.data

/-- A ROUTE_STATE entry (R310). -/
def routeStateBytes (s : State) (ev : Nat) : List Nat :=
  toBytes 4 (s.fab.occurrences.read 0 ev) ++ [s.effectiveRoute ev, 0] ++ toBytes 2 (s.fab.suppressed.read 0 ev)

/-- An EVENT_LOG entry (R310). -/
def eventLogBytes (s : State) (i : Nat) : List Nat :=
  match s.fab.log.get? i with
  | some o => toBytes 2 o.ev ++ [0, 0] ++ toBytes 4 o.value ++ toBytes 8 o.ts
  | none => List.replicate 16 0

/-- A FAULT_LOG entry (R472). -/
def faultLogBytes (s : State) (i : Nat) : List Nat :=
  match s.flog.get? i with
  | some e => toBytes 4 e.seq ++ toBytes 2 e.id ++ [e.severity.code, e.level] ++ toBytes 8 e.tbase ++ toBytes 8 e.htime ++
      toBytes 2 e.event ++ [0, 0] ++ toBytes 4 e.place ++ toBytes 4 e.offset ++ toBytes 4 e.value ++ toBytes 4 e.start ++
      List.replicate 20 0
  | none => List.replicate 64 0

/-- A cfg value as a read returns it (R35, R447): the migrated one while a failed migration awaits its commit. -/
def cfgRead (s : State) (k : Nat) : Nat :=
  match (if s.ob Obj.migrateState = 3 then s.upd.migrated else none) with
  | some t => t.read (objDefault k) k
  | none => s.cf k

/-- Bytes of the keep area (R447): the manual gives its place in MRAM and no layout, so its bytes are free values. -/
def keepSize : Nat := 0x1000000 - 0xEF0000

/-- The cipher buffer of a session (R388). -/
def bufferOf (s : State) (h : Nat) : List Nat := match s.session? h with
  | some x => x.buffer
  | none => []

/-- DOM_SIZE of the DOMAIN at an index. -/
def domSize (s : State) (h ix : Nat) : Nat :=
  let e := domEntry ix
  if e.1 ≠ 0 then e.1 * e.2
  else match inst? ix 0x5108 8 1 with
  | some p => 16 * s.ob (Obj.bpNodeCount p)
  | none => match inst? ix 0x6005 8 32 with
  | some c => 24 * (s.canCh c).strays.length
  | none => match inst? ix 0x1F20 3 1 with
  | some a => 4100 * s.ob (Obj.areaBlocksExpected a)
  | none => match ix with
    | 0x6101 => 786432
    | 0x7101 => 12288
    | 0x7102 => 16384
    | 0x3201 => (s.bufferOf h).length
    | 0x9010 => s.ledgerPagesSize
    | 0x9011 => s.ledgerIndexBytes.length
    | 0x1F03 => if s.upd.keep.isSome then keepSize else 0
    | 0xA021 => 4 * s.ft.split.length
    | 0xA100 => 524288
    | _ => 0

/-- `n` bytes from an offset, of entries of `w` bytes. -/
def window (w : Nat) (entry : Nat → List Nat) (off n : Nat) : List Nat :=
  ((((List.range (n / w + 2)).map (off / w + ·)).flatMap entry).drop (off % w)).take n

/-- The `n` bytes of a DOMAIN from an offset within its size. -/
def domBytes (s : State) (h ix off n : Nat) : List Nat :=
  let e := domEntry ix
  if e.1 ≠ 0 then window e.1 (fun i => toBytes e.1 (s.cfgRead (domKey ix i))) off n
  else match inst? ix 0x5108 8 1 with
  | some p => window 16 (s.nodeStatusBytes p) off n
  | none => match inst? ix 0x6005 8 32 with
  | some c => (((s.canCh c).strays.flatMap strayBytes).drop off).take n
  | none => match inst? ix 0x1F20 3 1 with
  | some a => window 4100 (fun b => toBytes 4100 ((s.area a).blocks.read {} b).bytes) off n
  | none => match ix with
    | 0x7101 => window 8 s.routeStateBytes off n
    | 0x7102 => window 16 s.eventLogBytes off n
    | 0x3201 => ((s.bufferOf h).drop off).take n
    | 0x9010 => window 4096 s.ledgerPageRead off n
    | 0x9011 => (s.ledgerIndexBytes.drop off).take n
    | 0x1F03 => (List.range n).map (fun i => Config.unmeasured (key 0x1F03 3) (off + i) % 256)
    | 0xA021 => ((s.ft.split.flatMap (toBytes 4)).drop off).take n
    | 0xA100 => window 64 s.faultLogBytes off n
    | _ => []

/-- The object at a key is the DOM_DATA of a DOMAIN record. -/
def isDomain (k : Nat) : Bool := match descOf k with
  | some d => d.ty = .domain
  | none => false

/-! ## Values as read -/

/-- The value of an object as session `h` (0: none) reads it on a path (0 the halyard, 1 + c CNc). -/
def valueOf (s : State) (h p ix sub : Nat) : Nat :=
  let k := key ix sub
  if sub = 1 && isDomain (key ix 3) then s.domSize h ix
  else match s.coreView h p ix sub with
  | some v => v
  | none => match s.outputView h ix sub with
  | some v => v
  | none => match s.machineView ix sub with
  | some v => v
  | none => match descOf k with
    | none => 0
    | some d => if d.kind = .cfg then s.cfgRead k else if d.perSession then s.sob h k else s.ob k

/-- What a read of an object changes: the extremes and flags that reading clears. -/
def afterRead (s : State) (ix sub : Nat) : State :=
  let k := key ix sub
  if k = Obj.sweepTimeMax ∨ k = Obj.waitMax then s.setOb k 0
  else if 0x1800 ≤ ix ∧ ix < 0x1840 ∧ sub = 0x0A then (s.setBit k 5 false).setBit k 4 false
  else if 0x2300 ≤ ix ∧ ix < 0x230A ∧ (sub = 7 ∨ sub = 8) then s.supReadExtreme (ix - 0x2300) (sub = 8)
  else s

end State
end Sys2Proof.Machine
end

