-- ==== Sys2Proof/Machine/Dictionary.lean ====
section
/-!
DEFINITION. Reads and writes of the dictionary (spec/02): the checks of R40 in their order, what a write of each command
object does, DOMAIN windows (R56, R57), and the rows that read or write one object.
-/

namespace Sys2Proof.Machine
namespace State

/-! ## Checks (R32, R34, R37, R38, R40) -/

/-- The description of an object that exists (R37). -/
def found (ix sub : Nat) : Except Status Desc :=
  match descOf (key ix 0) with
  | none => .error .noObject
  | some _ => match descOf (key ix sub) with
    | none => .error .noSubindex
    | some d => .ok d

/-- An object that may be read by a role. -/
def readable (role : Role) (ix sub : Nat) : Except Status Desc :=
  match found ix sub with
  | .error e => .error e
  | .ok d => if d.access = .wo then .error .readOfWo
    else if role.rank < d.readRole.rank then .error .roleTooLow else .ok d

/-- A write of RULE_ENTRY concerns class S (R95): the new or the committed entry is enabled with it. -/
def classSRule (s : State) (ix sub v : Nat) : Bool :=
  decide (0x8000 ≤ ix) && decide (ix < 0x8800) && sub = 1 &&
    ([v, s.cf (key ix sub)].any (fun e => ruleEnabled e && ruleClassCode e = 0))

/-- The limits of a solenoid's currents for a single channel; doubled ones on an even channel whose SV_PAIR is set, committed or
pending (R183, R206). -/
def pairOk (s : State) (ix sub v : Nat) : Bool :=
  let c := (ix - 0x4400) / 16
  let double := 0x4400 ≤ ix && ix < 0x4480 && ix % 16 = 0 && ((sub = 3 && decide (6000 < v)) || (sub = 4 && decide (2500 < v)))
  let set := s.sessions.any (fun x => x.pendingSet.any (fun p => p.key == Obj.svPair c && p.value == 1))
  !double || (c % 2 = 0 && (s.cf (Obj.svPair c) = 1 || set))

/-- An object that may be written by a role with a value of `n` bytes (R40 steps 3 to 8). -/
def writable (s : State) (role : Role) (ix sub n v : Nat) : Except Status Desc :=
  match found ix sub with
  | .error e => .error e
  | .ok d =>
    if d.access = .ro then .error .writeOfRo
    else if role.rank < (if s.classSRule ix sub v then Role.maker else d.role).rank then .error .roleTooLow
    else if d.ty = .domain || n ≠ d.ty.size then .error .typeError
    else if !rsvdOk ix d v then .error .reservedBit
    else if !rangeOk d v || !s.pairOk ix sub v then .error .valueRange
    else .ok d

/-! ## Command objects -/

/-- SETUP_IN of a path (R383): MSG1 or MSG3. -/
def doSetupIn (s : State) (p : Nat) (v : Nat) : Answer :=
  let f : Fin 9 := Fin.ofNat 9 p
  let b := toBytes 56 v
  let role := BitVec.ofNat 8 (b.getD 1 0)
  let hostId := BitVec.ofNat 32 (ofBytes ((b.drop 4).take 4))
  let x := BitVec.ofNat 128 (ofBytes ((b.drop 8).take 16))
  let out := match b.head? with
    | some 1 => some (execSessionSetupMsg1 f role hostId x (BitVec.ofNat 128 (ofBytes ((b.drop 24).take 16))) s)
    | some 3 => some (execSessionSetupMsg3 f role hostId x s)
    | _ => none
  match out with
  | some (.next t) => .ok t
  | _ => .error .valueRange

/-- GROUP_CMD (R289): reserved bits first, then the fields its op gives no meaning. -/
def doGroupCmd (s : State) (h v : Nat) : Answer :=
  let g := bitsOf v 48 8
  check (bitsOf v 0 16 = 0) .reservedBit <| match bitsOf v 56 8 with
  | 1 => s.doGroupFade h g (bitsOf v 32 16) (bitsOf v 16 16)
  | 2 => check (bitsOf v 16 16 = 0) .valueRange <| s.doGroupPattern h g (bitsOf v 40 8) (bitsOf v 32 8)
  | 3 => check (bitsOf v 16 32 = 0) .valueRange <| s.doGroupRelease h g
  | _ => .error .valueRange

/-- Command objects of one index: the halyard, the heartbeat, groups, timers, network, power and fault tolerance. -/
def doSingle (s : State) (x : Session) (p ix sub v : Nat) : Option Answer :=
  let h := x.handle
  let k := key ix sub
  if k = Obj.commitCmd then some (if v = 1 then s.doCommit x else s.doDiscardPending x)
  else if k = Obj.setupIn then some (s.doSetupIn p v)
  else if k = Obj.sessionClose then some (.ok (s.closeSession h 1))
  else if k = Obj.addrConfirm then some (s.doAddrConfirm v)
  else if k = Obj.hostCommand then some (s.doHostCommand x v)
  else if k = Obj.querySignal then some (s.doQuerySignal h v)
  else if k = Obj.hbCounter then some (s.doHeartbeat v)
  else if k = Obj.safeRelease then some (s.doSafeRelease v)
  else if k = Obj.loanRelease then some (s.doLoanRelease v)
  else if k = Obj.nbRun then some s.doNbRun
  else if k = Obj.groupCmd then some (s.doGroupCmd h v)
  else if k = Obj.gqGroup then some (s.doGroupQuery h v)
  else if k = Obj.gsArm then some s.doGsArm
  else if k = Obj.eventPost then some (s.doEventPost v)
  else if k = Obj.nmCmd then some (s.doNmCmd v)
  else if k = Obj.hostVote then some (s.doHostVote v)
  else if k = Obj.rtcSeconds then some (.ok (s.doRtcSeconds v))
  else if k = Obj.rtcAlarm then some (.ok (s.doRtcAlarm v))
  else if k = Obj.tileRetest then some (s.doTileRetest v)
  else if k = Obj.splitAck then some (s.doSplitAck v)
  else none

/-- Command objects of the secure block, burgee access, the ledger and update. -/
def doSecured (s : State) (x : Session) (ix sub v : Nat) : Option Answer :=
  let h := x.handle
  let k := key ix sub
  if k = Obj.lcRequest then some (s.doLcRequest x v)
  else if k = Obj.lcConfirm then some (s.doLcConfirm x v)
  else if k = Obj.debugRequest then some (s.doDebugRequest x v)
  else if k = Obj.debugClose then some (s.doDebugClose v)
  else if k = Obj.cjRun then some (s.doCjRun x v)
  else if k = Obj.kcRun then some (s.doKcRun x v)
  else if k = Obj.pkRun then some (s.doPkRun x v)
  else if k = Obj.bgClearLock then some (s.doClearLock v)
  else if k = Obj.implRun then some (s.doImplRun v)
  else if k = Obj.ledgerFlush then some (s.doLedgerFlush v)
  else if k = Obj.ledgerAttest then some (s.doLedgerAttest h v)
  else if k = Obj.ledgerFormat then some (s.doLedgerFormat v)
  else if k = Obj.updActivate then some (s.doUpdActivate h v)
  else if k = Obj.updConfirm then some (s.doUpdConfirm v)
  else if k = Obj.updDiscard then some (s.doUpdDiscard v)
  else if k = Obj.updNodeRun then some (s.doUpdNodeRun v)
  else match inst? ix 0x3430 16 1 with
  | some r => if k = Obj.relClose r then some (s.doRelClose r v) else if k = Obj.relOpen r then some (s.doRelOpen r v) else none
  | none => match inst? ix 0x1F10 3 1 with
    | some a => if k = Obj.areaUpdVerify a then some (s.doUpdVerify a v)
      else if k = Obj.areaUpdSignature a then some (.ok ((s.setOb k v).stagingTouched)) else none
    | none => none

/-- Command objects of the channels, ports and timers. -/
def doInstance (s : State) (ix sub v : Nat) : Option Answer :=
  let k := key ix sub
  match inst? ix 0x4003 24 16 with
  | some c => some (if sub = 1 then s.doGdFaultClear c else s.doGdDiagRun c)
  | none => match inst? ix 0x4203 6 16 with
  | some b => some (if sub = 1 then s.doBrClear b else s.doBrForget b)
  | none => match inst? ix 0x4302 4 16 with
  | some f => some (s.doFanClear f)
  | none => match inst? ix 0x4403 8 16 with
  | some c => some (if sub = 1 then s.doSvFaultClear c else if sub = 2 then s.doSvDiagRun c else s.doSvRetrigger c)
  | none => match inst? ix 0x4830 8 1 with
  | some d => some (if sub = 1 then s.doDoutFaultClear d else s.doDoutDiagRun d)
  | none => match inst? ix 0x4C03 40 4 with
  | some n => some (if sub = 1 then s.doPpRelearn n else if sub = 2 then s.doPpReference n else s.doPpClearDrift n)
  | none => match inst? ix 0x4D80 8 1 with
  | some q => some (s.doCableRun q)
  | none => match inst? ix 0x5002 8 32 with
  | some q => some (if sub = 1 then s.doBpRediscover q else s.doBpNodeClear q v)
  | none => match inst? ix 0x5202 2 16 with
  | some q => some (if sub = 1 then s.doMxFaultClear q else s.doPixelClear q)
  | none => match inst? ix 0x6003 8 32 with
  | some c => some (if sub = 1 then s.doCanCmd c v else s.doStrayAck c v)
  | none => match inst? ix 0x7020 32 1 with
  | some t => if k = Obj.tmrCmd t then some (s.doTmrCmd t v)
    else (List.range 4).findSome? (fun i => if k = Obj.tmrCmpk t i then some (s.doCmpWrite t i v) else none)
  | none => none

/-- A write of a DOM_OFFSET (R56): the holder ends its hold with the largest offset. -/
def doDomOffset (s : State) (h ix v : Nat) : State :=
  let s := s.setSob h (key ix 2) v
  if v = 2 ^ 64 - 1 && (match s.holds.get? (holdKey ix h) with
    | some x => x.holder = h
    | none => false) then s.dropHold (holdKey ix h) else s

/-- A checked write of a command object by session `x`, on path `p`: its own operation, else the value is taken. -/
def doCommand (s : State) (x : Session) (p ix sub v : Nat) (d : Desc) : Answer :=
  if sub = 2 && isDomain (key ix 3) then .ok (s.doDomOffset x.handle ix v)
  else match s.doSingle x p ix sub v with
  | some r => r
  | none => match s.doSecured x ix sub v with
  | some r => r
  | none => match s.doInstance ix sub v with
  | some r => r
  | none => .ok (if d.perSession then s.setSob x.handle (key ix sub) v else s.setOb (key ix sub) v)

/-- A write of one object by session `x` (R35, R40). -/
def doWrite (s : State) (x : Session) (p ix sub : Nat) (data : List Nat) : Answer :=
  let v := ofBytes data
  match s.writable x.role ix sub data.length v with
  | .error e => .error e
  | .ok d => if d.kind = .cfg then s.doPending x.handle [(key ix sub, v)] else s.doCommand x p ix sub v d

/-! ## Reads -/

/-- A read of one object as session `h` with a role: the bytes stand in `reply`. -/
def doRead (s : State) (h : Nat) (role : Role) (p ix sub : Nat) : Answer :=
  match readable role ix sub with
  | .error e => .error e
  | .ok d =>
    if d.ty = .domain then .error .typeError
    else if key ix sub = Obj.random then s.doRandom
    else
      let v := s.valueOf h p ix sub
      let t := s.afterRead ix sub
      .ok { t with reply := { t.reply with data := toBytes d.ty.size v } }

/-- Subindices 00 up to the highest, concatenated; it fails as a whole if any member fails a check (R49). -/
def doReadRecord (s : State) (h : Nat) (role : Role) (p ix : Nat) : Answer :=
  match found ix 0 with
  | .error e => .error e
  | .ok d =>
    (List.range (d.dflt + 1)).foldl (fun (a : Answer) sub => match a with
      | .error e => .error e
      | .ok t => match t.doRead h role p ix sub with
        | .error e => .error e
        | .ok u => .ok { u with reply := { u.reply with data := t.reply.data ++ u.reply.data } })
      (.ok { s with reply := { s.reply with data := [] } })

/-- What a request without a session may read (R39). -/
def openIndex (ix : Nat) : Bool := decide (0x1000 ≤ ix) && decide (ix ≤ 0x10EF)

/-! ## DOMAIN windows (R56, R57) -/

/-- A DOMAIN at an index that exists. -/
def domainAt (ix : Nat) : Except Status Desc :=
  match found ix 3 with
  | .error e => .error e
  | .ok d => if d.ty = .domain then .ok d else .error .typeError

/-- A DOMAIN read of subindex `sub`, of at most `top` bytes, by session `h` (R40, R56, R57). -/
def doDomainRead (s : State) (h : Nat) (role : Role) (ix sub off len top : Nat) : Answer :=
  match readable role ix sub with
  | .error e => .error e
  | .ok d =>
    check (d.ty = .domain) .typeError <|
    check (len ≤ top) .valueRange <|
      .ok (if ix = 0x6101 then s.doMoRead off len
        else { s with reply := { s.reply with data := s.domBytes h ix off (min len (s.domSize h ix - off)) } })

/-- A write of a cfg DOMAIN (R42, R57): every entry it covers goes into the pending set. Writes are of whole entries (R308 and
the tables of R271, R291 and R333). -/
def doCfgDomain (s : State) (x : Session) (ix off : Nat) (data : List Nat) : Answer :=
  let e := domEntry ix
  let n := data.length
  let entries := (List.range (n / e.1)).map (fun i => (domKey ix (off / e.1 + i), ofBytes ((data.drop (e.1 * i)).take e.1)))
  if off % e.1 ≠ 0 || n % e.1 ≠ 0 then s.misaligned ix
  else if entries.any (fun w => w.2 &&& domRsvd ix ≠ 0) then (s.setBit (domStatus ix) 1 false).refused .reservedBit
  else if e.1 * e.2 < off + n then (s.setBit (domStatus ix) 1 false).refused .valueRange
  else s.domainWrites ix x.handle fun s => s.doPending x.handle entries

/-- A write of CJ_BUFFER (R388), which each session has for itself; bytes between its end and the write are free values. -/
def doBufferWrite (s : State) (x : Session) (off : Nat) (data : List Nat) : Answer :=
  check (off + data.length ≤ 65536) .valueRange <| s.domainWrites 0x3201 x.handle fun s =>
    let b := x.buffer
    let gap := (List.range (off - b.length)).map (fun i => Config.unmeasured (key 0x3201 3) (b.length + i) % 256)
    .ok (match s.session? x.handle with
      | some y => s.setSession { y with buffer := b.take off ++ gap ++ data ++ b.drop (off + data.length) }
      | none => s)

/-- A DOMAIN write of subindex `sub`, of at most `top` bytes, by session `x` (R40, R56, R57). -/
def doDomainWrite (s : State) (x : Session) (ix sub off : Nat) (data : List Nat) (top : Nat) : Answer :=
  match found ix sub with
  | .error e => .error e
  | .ok d =>
    check (d.access ≠ .ro) .writeOfRo <|
    check (d.role.rank ≤ x.role.rank) .roleTooLow <|
    check (d.ty = .domain) .typeError <|
    check (data.length ≤ top) .valueRange <|
      if d.kind = .cfg then s.doCfgDomain x ix off data
      else if ix = 0x6101 then s.doMoWrite x.handle off data false
      else if ix = 0x3201 then s.doBufferWrite x off data
      else s.doStageWrite x.handle (ix - 0x1F20) off data

/-- Largest data of a halyard DOMAIN command (R56), and of a wrapped SDO transfer (R55). -/
def frameTop : Nat := 1024
def sdoTop : Nat := 65536

/-! ## Requests without a session (R39, R62) -/

/-- A request without a session waits for the runtime cores: holder 2 votes CORES, and a full queue answers busy. -/
def enqueueOpen (s : State) (r : Request) : State :=
  if 16 ≤ s.anon.length then { s with reply := { status := .busy } }
  else ({ s with anon := s.anon ++ [r] }).placeVotes 2 1

/-- A request of handle `sess`; where it may run without one and none is open, `body` runs with no session. -/
def openRequest (s : State) (sess ix : Nat) (bytes : List Nat) (body : Nat → Role → State → Answer) :
    Host.Outcome State Fault Refusal :=
  if (s.session? sess).isSome || !openIndex ix then
    s.request sess .host bytes (fun x s => body x.handle x.role s)
  else if !(s.takesRequests && s.applied) then .next s
  else if !s.coresRun then .next (s.enqueueOpen { transaction := 65536, payload := bytes })
  else
    let s : State := { s with reply := {} }
    s.finish (body 0 .host s)

end State

/-! ## Meanings -/

/-- R38–R41, R49. -/
def execDictRead (sess : Nat) (index : BitVec 16) (sub : BitVec 8) (s : State) : Host.Outcome State Fault Refusal :=
  s.openRequest sess index.toNat (readOf (key index.toNat sub.toNat)) fun h role s =>
    s.doRead h role 0 index.toNat sub.toNat

/-- R40–R42, R49. -/
def execDictWrite (sess : Nat) (index : BitVec 16) (sub : BitVec 8) (data : List Byte) (s : State) :
    Host.Outcome State Fault Refusal :=
  let d := data.map (fun b => b.toNat)
  s.request sess .host (writeOf (key index.toNat sub.toNat) d.length (ofBytes d)) fun x s =>
    s.doWrite x 0 index.toNat sub.toNat d

/-- R49, R56, R57, R433. -/
def execDomainRead (sess : Nat) (index : BitVec 16) (offset : BitVec 64) (length : BitVec 16) (s : State) :
    Host.Outcome State Fault Refusal :=
  s.request sess .host (domainReadOf index.toNat offset.toNat length.toNat) fun x s =>
    s.doDomainRead x.handle x.role index.toNat 3 offset.toNat length.toNat State.frameTop

/-- R49, R56, R57. -/
def execDomainWrite (sess : Nat) (index : BitVec 16) (offset : BitVec 64) (data : List Byte) (s : State) :
    Host.Outcome State Fault Refusal :=
  let d := data.map (fun b => b.toNat)
  s.request sess .host (domainWriteOf index.toNat offset.toNat d) fun x s =>
    s.doDomainWrite x index.toNat 3 offset.toNat d State.frameTop

/-- R49. -/
def execReadRecord (sess : Nat) (index : BitVec 16) (s : State) : Host.Outcome State Fault Refusal :=
  s.openRequest sess index.toNat ([5, 0] ++ toBytes 2 index.toNat ++ [0, 0, 0, 0]) fun h role s =>
    s.doReadRecord h role 0 index.toNat

/-- The objects a row covers: cfg objects for CFG_WRITE, the others for REGISTER_WRITE; an object that does not exist is
answered by either. -/
def rowCovers (cfg : Bool) (index : BitVec 16) (sub : BitVec 8) : Bool :=
  match descOf (key index.toNat sub.toNat) with
  | some d => (d.kind = .cfg) = cfg
  | none => true

/-- R35, R40, R42, R95, R493. -/
def execCfgWrite (sess : Nat) (index : BitVec 16) (sub : BitVec 8) (data : List Byte) (s : State) :
    Host.Outcome State Fault Refusal :=
  let d := data.map (fun b => b.toNat)
  if rowCovers true index sub then
    s.request sess .host (writeOf (key index.toNat sub.toNat) d.length (ofBytes d)) fun x s =>
      s.doWrite x 0 index.toNat sub.toNat d
  else .next s

/-- R10, R34, R40, R493. -/
def execRegisterWrite (sess : Nat) (index : BitVec 16) (sub : BitVec 8) (data : List Byte) (s : State) :
    Host.Outcome State Fault Refusal :=
  let d := data.map (fun b => b.toNat)
  if rowCovers false index sub then
    s.request sess .host (writeOf (key index.toNat sub.toNat) d.length (ofBytes d)) fun x s =>
      s.doWrite x 0 index.toNat sub.toNat d
  else .next s

/-- R56. -/
def execDomOffsetWrite (sess : Nat) (index : BitVec 16) (offset : BitVec 64) (s : State) :
    Host.Outcome State Fault Refusal :=
  s.request sess .host (writeOf (key index.toNat 2) 8 offset.toNat) fun x s =>
    match State.domainAt index.toNat with
    | .error e => .error e
    | .ok _ => s.doWrite x 0 index.toNat 2 (toBytes 8 offset.toNat)

/-- R56: 10 s with no write from the holder; at CJ_BUFFER, of any session that holds its own. -/
def execDomainHoldTimeout (index : BitVec 16) (s : State) : Host.Outcome State Fault Refusal :=
  .next (forEach (s.holds.filter (fun (e : Nat × Hold) => e.1 % 2 ^ 16 = index.toNat && s.passed e.2.lastWrite (sec 10)))
    (fun s e => s.dropHold e.1) s)

end Sys2Proof.Machine
end

