-- ==== Sys2Proof/Machine/Frames.lean ====
section
/-!
DEFINITION. Dictionary frames on the halyard (R48–R52), the requests that waited for the runtime cores (R62, R353), and
what an authentication failure does (R41, R387).
-/

namespace Sys2Proof.Machine
namespace State

/-! ## Commands of a request payload (R49) -/

/-- One command. -/
structure DictCmd where
  op : Nat
  /-- FLAGS or the reserved byte is not 0 -/
  odd : Bool
  ix : Nat
  sub : Nat
  len : Nat
  off : Nat
  data : List Nat

/-- The first command of a payload and the bytes after it; none for an unknown opcode or an overrunning length. -/
def firstCommand (b : List Nat) : Option (DictCmd × List Nat) :=
  let op := b.getD 0 0
  let head := if op = 3 ∨ op = 4 then 16 else 8
  let len := ofBytes ((b.drop 6).take 2)
  let size := head + (if op = 2 ∨ op = 4 then len else 0)
  if op = 0 ∨ 5 < op ∨ b.length < size then none
  else some ({ op := op, odd := b.getD 1 0 ≠ 0 || b.getD 5 0 ≠ 0, ix := ofBytes ((b.drop 2).take 2), sub := b.getD 4 0
               len := len, off := ofBytes ((b.drop 8).take 8), data := (b.drop head).take (size - head) }, b.drop size)

/-- The commands of a payload in order; `none` ends it. `n` bounds the number of commands. After a command that cannot be parsed
no later one has a findable start, so one entry answers for the rest (DESIGN CHOICE, assumption 101). -/
def commandsOf : Nat → List Nat → List (Option DictCmd)
  | 0, _ => []
  | n + 1, b => if b.isEmpty then [] else match firstCommand b with
    | none => [none]
    | some (c, rest) => some c :: commandsOf n rest

/-- What one command answers, as session `h` (0: none) on path `p` (R39, R40). FLAGS or the reserved byte not 0 answers protocol
error, and the next command runs (DESIGN CHOICE, assumption 100). -/
def runCommand (s : State) (h p : Nat) (c : DictCmd) : Answer :=
  if c.odd then .error .protocolError
  else match s.session? h with
  | none =>
    if !openIndex c.ix then .error .noSession
    else match c.op with
      | 1 => s.doRead 0 .host p c.ix c.sub
      | 5 => s.doReadRecord 0 .host p c.ix
      | _ => .error .noSession
  | some x => match c.op with
    | 1 => s.doRead h x.role p c.ix c.sub
    | 2 => s.doWrite x p c.ix c.sub c.data
    | 3 => s.doDomainRead h x.role c.ix c.sub c.off c.len frameTop
    | 4 => s.doDomainWrite x c.ix c.sub c.off c.data frameTop
    | _ => s.doReadRecord h x.role p c.ix

/-- A command carried out: the state after it and its entry of the response. A failed command changes nothing, but for
what its rule gives the failure. -/
def commandDone (s : State) (h p : Nat) (c : DictCmd) : State × Reply :=
  match ({ s with reply := {} } : State).runCommand h p c with
  | .ok t => (t, { t.reply with status := if t.reply.status = .none then .success else t.reply.status })
  | .error e => (s, { status := e })

/-- A payload carried out in order: the first 32 commands; later ones, and from an unknown opcode or an overrunning
length on, protocol error (R49). -/
def runPayload (s : State) (h p : Nat) (payload : List Nat) : State × List Reply :=
  (commandsOf payload.length payload).zipIdx.foldl (fun (a : State × List Reply) c => match c.1 with
    | none => (a.1, a.2 ++ [{ status := .protocolError }])
    | some c1 => if 32 ≤ c.2 then (a.1, a.2 ++ [{ status := .protocolError }])
      else
        let r := a.1.commandDone h p c1
        (r.1, a.2 ++ [r.2])) (s, [])

/-- The response entries of R49. -/
def entryBytes (r : Reply) : List Nat := toBytes 2 r.status.halyardCode ++ toBytes 2 r.data.length ++ r.data

/-! ## Frames (R48, R50, R386) -/

/-- A response sent on the halyard (R48, R50): under session `h` with the next FRESHNESS and a MAC, else without. A counter
that would pass its end closes the session (R387 cause 5). `asked` is the session as it was when its request began: the
response to a request that closed its own session still goes out under it (DEDUCED, assumption 94). -/
def respondAs (s : State) (asked : Option Session) (h transaction : Nat) (entries : List Reply) : State :=
  let payload := entries.flatMap entryBytes
  let sent (s : State) (bytes : List Nat) : State :=
    ({ s with reply := { status := (entries.getLast?.map Reply.status).getD .protocolError, data := bytes } }).halSend
      (s.dictFrame .answer .requester bytes)
  match (s.session? h).or asked with
  | none => sent s (frameBytes 2 transaction h 0 payload)
  | some x => match nextFresh x 0 with
    | none => s.closeSession h 5
    | some f =>
      let b := frameBytes 2 transaction h f payload
      sent (s.setSession { x with tx := x.tx.write 0 0 f }) (b ++ toBytes 16 (Config.cmac x.key (2 :: 0 :: b)).toNat)

def respond (s : State) (h transaction : Nat) (entries : List Reply) : State := s.respondAs none h transaction entries

/-- A response kept for repeats (R51): the last 8. -/
def keepResponse (s : State) (h transaction : Nat) (entries : List Reply) : State :=
  match s.session? h with
  | none => s
  | some x =>
    let l := x.responses ++ [{ transaction := transaction, entries := entries }]
    s.setSession { x with responses := l.drop (l.length - 8) }

/-- A MAC or freshness failure (R41, R387): counted; on an open session EV1093, at most once per second. -/
def authFailed (s : State) (h : Nat) : State :=
  let s : State := { s with hal := { s.hal with authDrops := s.hal.authDrops + 1 } }
  match s.session? h with
  | none => s
  | some x =>
    let due := match x.macFail with
      | some t => s.passed t (sec 1)
      | none => true
    if due then (s.setSession { x with macFail := some s.now }).post 1093 h else s

/-- A request that a session sent, with its MAC and FRESHNESS accepted: a repeat (R51), a request that waits (R62), or one
that is carried out and answered. -/
def sessionRequest (s : State) (x : Session) (transaction : Nat) (payload : List Nat) : State :=
  let h := x.handle
  match x.responses.find? (fun r => r.transaction == transaction) with
  | some r => s.respond h transaction r.entries
  | none =>
    if x.queue.any (fun r => r.transaction == transaction) then
      s.setSession { x with queue := x.queue.map (fun r =>
        if r.transaction = transaction then { r with copies := r.copies + 1 } else r) }
    else if !s.coresRun then
      match s.enqueueRequest x { transaction := transaction, payload := payload } with
      | .ok t => t
      | .error e => s.respond h transaction ((commandsOf payload.length payload).map (fun _ => ({ status := e } : Reply)))
    else
      let r := s.runPayload h 0 payload
      (r.1.keepResponse h transaction r.2).respondAs (some x) h transaction r.2

/-- A request frame (R48–R51). -/
def requestFrame (s : State) (b : List Nat) : State :=
  let transaction := ofBytes ((b.drop 4).take 2)
  let h := ofBytes ((b.drop 6).take 2)
  let fresh := ofBytes ((b.drop 8).take 4)
  let n := ofBytes ((b.drop 12).take 2)
  let payload := (b.drop 14).take n
  if h = 0 then
    if !s.coresRun then
      if 16 ≤ s.anon.length then
        s.respond 0 transaction ((commandsOf payload.length payload).map (fun _ => ({ status := .busy } : Reply)))
      else s.enqueueOpen { transaction := transaction, payload := payload }
    else
      let r := s.runPayload 0 0 payload
      r.1.respond 0 transaction r.2
  else match s.session? h with
  | none => { s with hal := { s.hal with authDrops := s.hal.authDrops + 1 } }
  | some x =>
    let mac := Config.cmac x.key (1 :: 0 :: b.take (14 + n))
    if !s.pathOn 0 || fresh ≤ x.rx.read 0 0 || b.length ≠ 30 + n || (b.drop (14 + n)) ≠ toBytes 16 mac.toNat then s.authFailed h
    else
      let x := { x with rx := x.rx.write 0 0 fresh, last := s.now }
      (s.setSession x).sessionRequest x transaction payload

end State

/-! ## Meaning -/

/-- R39–R41, R48–R52, R62, R65, R386: any other protocol tag, version or frame type is ignored. -/
def execDictRequestFrame (frame : List Byte) (s : State) : Host.Outcome State Fault Refusal :=
  let b := frame.map (fun x => x.toNat)
  whenever (decide (14 ≤ b.length) && (b.take 4 == [0x57, 0x53, 1, 1]) && s.takesRequests && s.applied && s.halyardServes) s
    (s.requestFrame b)

end Sys2Proof.Machine
end

