-- ==== Sys2Proof/Machine/Sdo.lean ====
section
/-!
DEFINITION. The SDO servers of the CAN channels (R53–R55): expedited, segmented and block transfers, unwrapped reads and
session setup, wrapped payloads, and transfers that wait for the runtime cores (R62, R330).
-/

namespace Sys2Proof.Machine
namespace State

def sdoOf (s : State) (c : Nat) : SdoServer := s.sdo.read {} c
def setSdo (s : State) (c : Nat) (x : SdoServer) : State := { s with sdo := s.sdo.write {} c x }

/-- The SDO server of a channel runs (R53, R314): not listen-only; it needs the runtime cores, or a state that wakes them. -/
def sdoRuns (s : State) (c : Nat) : Bool := s.canActive c && !s.canListens c && s.takesRequests

/-- The path code of a channel, and its path number among those of setups. -/
def canPath (c : Nat) : Nat := 0x10 + c
def canPathNo (c : Nat) : Nat := 1 + c

/-- The node ID of a channel (R53). -/
def nodeIdOf (s : State) (c : Nat) : Nat := if s.cf (Obj.canNodeId c) = 0 then 0x40 + s.ob Obj.unitAddress else s.cf (Obj.canNodeId c)

/-- `n` response frames become pending on COB-ID 0x580 + N (R53, R323). The layout of their eight bytes is that of CiA 301,
which the manual does not give: a free value (assumption 84). -/
def sdoFrames (s : State) (c n : Nat) : State :=
  let id := 0x580 + s.nodeIdOf c
  forRange n (fun s i => s.canEnqueue c
    { src := .sdo, ext := false, id := id, dlc := 8, data := some (Config.unmeasured id (s.now + i) % 2 ^ 64), since := s.now }) s

/-- The running transfer, if any, is over; the server answers `code` (0: confirmed) with some bytes. -/
def sdoAnswer (s : State) (c code : Nat) (bytes : List Nat) : State :=
  (s.setSdo c { s.sdoOf c with transfer := none, waiting := none, abort := code, answer := bytes }).sdoFrames c 1

/-- A transfer aborted with the code of a status (R41). -/
def sdoAbort (s : State) (c : Nat) (e : Status) : State := s.sdoAnswer c e.abortCode []

/-- A new initiate request (R55): a running transfer is aborted with 0x08000000. -/
def sdoBegin (s : State) (c : Nat) : State :=
  let x := s.sdoOf c
  let runs := x.transfer.isSome || x.waiting.isSome
  let others (l : List Request) : List Request := l.filter (fun r => r.sdo ≠ some c)
  let s := { s with anon := others s.anon, sessions := s.sessions.map (fun (y : Session) => { y with queue := others y.queue }) }
  (s.setSdo c { x with
    transfer := none, waiting := none, abort := 0, answer := []
    replaced := if runs then Status.abortCode .authFailure else 0 }).sdoFrames c (if runs then 1 else 0)

/-- The running transfer goes on: the server's confirmation carries some bytes, in `n` frames. -/
def sdoGoOn (s : State) (c : Nat) (t : SdoTransfer) (bytes : List Nat) (n : Nat := 1) : State :=
  (s.setSdo c { s.sdoOf c with transfer := some { t with lastFrame := s.now }, abort := 0, answer := bytes }).sdoFrames c n

/-- The status of an answer, and the state it leaves. -/
def settle (s : State) (r : Answer) : State × Status :=
  match r with
  | .ok t => (t, if t.reply.status = .none then .success else t.reply.status)
  | .error e => (s, e)

/-! ## Downloads (R54) -/

/-- The MAC of a wrapped transfer (R386), 8 bytes. -/
def sdoMac (x : Session) (d c cmd k h fresh : Nat) (data : List Nat) : List Nat :=
  (toBytes 16 (Config.cmac x.key ([d, canPath c, cmd] ++ toBytes 2 (keyIndex k) ++ [keySub k] ++ toBytes 2 h ++
    toBytes 4 fresh ++ data)).toNat).take 8

/-- The write a wrapped download makes (R56): DOM_DATA from the session's DOM_OFFSET, which it advances. -/
def sdoWrite (s : State) (x : Session) (c k : Nat) (data : List Nat) : Answer :=
  let ix := keyIndex k
  if isDomain k then
    let off := s.sob x.handle (key ix 2)
    match s.doDomainWrite x ix 3 off data sdoTop with
    | .error e => .error e
    | .ok t => .ok (if t.reply.status = .none then t.setSob x.handle (key ix 2) ((off + data.length) % 2 ^ 64) else t)
  else s.doWrite x (canPathNo c) ix (keySub k) data

/-- A download whose bytes are all there (R39, R54): a setup message, or a wrapped payload. -/
def sdoStore (s : State) (c k : Nat) (bytes : List Nat) : State :=
  let s : State := { s with reply := {} }
  let n := bytes.length
  let reply (r : Answer) : State :=
    let a := s.settle r
    a.1.sdoAnswer c a.2.abortCode []
  if k = Obj.setupIn then
    reply (check (n = 56) .typeError (s.doSetupIn (canPathNo c) (ofBytes bytes)))
  else if n < 14 then s.sdoAbort c .noSession
  else
    let h := ofBytes (bytes.take 2)
    let fresh := ofBytes ((bytes.drop 2).take 4)
    let data := (bytes.drop 6).take (n - 14)
    match s.session? h with
    | none => s.sdoAbort c .noSession
    | some x =>
      if !s.pathOn (canPath c) || fresh ≤ x.rx.read 0 (canPath c) || bytes.drop (n - 8) ≠ sdoMac x 1 c 1 k h fresh data then
        (s.authFailed h).sdoAbort c .authFailure
      else
        let x := { x with rx := x.rx.write 0 (canPath c) fresh, last := s.now }
        let s := s.setSession x
        let a := s.settle (s.sdoWrite x c k data)
        a.1.sdoAnswer c a.2.abortCode []

/-! ## Uploads (R39, R54, R56) -/

/-- The session an upload is wrapped under: the manual's upload request names none, so the earliest-opened session on the
path (DESIGN CHOICE, assumption 83). -/
def uploadSession (s : State) (c : Nat) : Option Session := if s.pathOn (canPath c) then s.sessions.head? else none

/-- The read an upload makes, as a session: DOM_DATA from its DOM_OFFSET. -/
def sdoRead (s : State) (x : Session) (c k : Nat) : Answer :=
  let ix := keyIndex k
  if isDomain k then
    let off := s.sob x.handle (key ix 2)
    s.doDomainRead x.handle x.role ix 3 off (min sdoTop (s.domSize x.handle ix - off)) sdoTop
  else s.doRead x.handle x.role (canPathNo c) ix (keySub k)

/-- The bytes an upload carries, and how many of them are the object's data: unwrapped for what R39 allows and SETUP_OUT,
else wrapped under a session. -/
def sdoFetch (s : State) (c k : Nat) : Except (State × Status) (State × List Nat × Nat) :=
  let s : State := { s with reply := {} }
  if openIndex (keyIndex k) || k = Obj.setupOut then
    match s.doRead 0 .host (canPathNo c) (keyIndex k) (keySub k) with
    | .error e => .error (s, e)
    | .ok t => .ok (t, t.reply.data, t.reply.data.length)
  else match s.uploadSession c with
  | none => .error (s, .noSession)
  | some x => match s.sdoRead x c k with
    | .error e => .error (s, e)
    | .ok t => match nextFresh x (canPath c) with
      | none => .error (s.closeSession x.handle 5, .authFailure)
      | some f =>
        let data := t.reply.data
        let t := match t.session? x.handle with
          | some y => t.setSession { y with tx := y.tx.write 0 (canPath c) f }
          | none => t
        .ok (t, toBytes 2 x.handle ++ toBytes 4 f ++ data ++ sdoMac x 2 c 2 k x.handle f data, data.length)

/-- An upload transfer answered: its bytes stand ready and the confirmation carries their count. -/
def sdoOffer (s : State) (c : Nat) (t : SdoTransfer) : State :=
  match s.sdoFetch c t.key with
  | .error (s, e) => s.sdoAbort c e
  | .ok (s, bytes, n) => s.sdoGoOn c { t with data := bytes, size := some n } (toBytes 4 bytes.length)

/-- A finished upload (R56): a DOM_DATA read advances the DOM_OFFSET it started at. -/
def sdoSent (s : State) (c : Nat) (t : SdoTransfer) (bytes : List Nat) : State :=
  let k := key (keyIndex t.key) 2
  let s := match s.uploadSession c with
    | some x => if isDomain t.key then s.setSob x.handle k ((s.sob x.handle k + t.size.getD 0) % 2 ^ 64) else s
    | none => s
  s.sdoAnswer c 0 bytes

/-! ## Waiting for the runtime cores (R62, R330) -/

/-- The open session a transfer's request belongs to: the one its wrapped payload names, or that of an upload; none where it
needs none. -/
def sdoSession (s : State) (c : Nat) (t : SdoTransfer) : Option Session :=
  if openIndex (keyIndex t.key) || keyIndex t.key = 0x1101 then none
  else match t.service with
    | .segDownload | .blkDownload => s.session? (ofBytes (t.data.take 2))
    | .segUpload | .blkUpload => s.uploadSession c

/-- A request of a transfer is carried out, or waits in its session's queue while the runtime cores do not run, with holder 2's
vote; a full queue aborts it with busy (R62). -/
def sdoServe (s : State) (c : Nat) (t : SdoTransfer) (run : State → State) : State :=
  if s.coresRun then run s
  else
    let r : Request := { transaction := 65536, payload := [], sdo := some c }
    let full := match s.sdoSession c t with
      | some x => decide (16 ≤ x.queue.length)
      | none => decide (16 ≤ s.anon.length)
    if full then s.sdoAbort c .busy
    else
      let s := (s.setSdo c { s.sdoOf c with transfer := none, waiting := some t }).placeVotes 2 1
      match s.sdoSession c t with
      | some x => s.setSession { x with queue := x.queue ++ [r] }
      | none => { s with anon := s.anon ++ [r] }

/-- An expedited answer (R54): a transfer with `blockSize` 1 is one. -/
def sdoExpedite (s : State) (c k : Nat) : State :=
  match s.sdoFetch c k with
  | .error (s, e) => s.sdoAbort c e
  | .ok (s, bytes, _) => s.sdoAnswer c 0 bytes

/-- A transfer that waited goes on. -/
def sdoWakes (s : State) (c : Nat) : State :=
  match (s.sdoOf c).waiting with
  | none => s
  | some t =>
    let s := s.setSdo c { s.sdoOf c with waiting := none }
    if t.service = .segDownload || t.service = .blkDownload then s.sdoStore c t.key t.data
    else if t.service = .segUpload && t.blockSize = 1 then s.sdoExpedite c t.key else s.sdoOffer c t

/-- The transfers whose session has gone while they waited. -/
def sdoWoken (s : State) : State := forRange 8 sdoWakes s

/-- One request that waited: carried out and answered once for each copy received (R51). A command that came by itself
answers in `reply` only; an SDO transfer goes on. -/
def runWaiting (s : State) (h : Nat) (r : Request) : State :=
  match r.sdo with
  | some c => s.sdoWakes c
  | none =>
  let a := s.runPayload h 0 r.payload
  if r.transaction = 65536 then { a.1 with reply := a.2.getLast?.getD {} }
  else forRange r.copies (fun t _ => t.respondAs (s.session? h) h r.transaction a.2) (a.1.keepResponse h r.transaction a.2)

/-- The queue of a session, in order of arrival. -/
def sessionQueue (s : State) (h : Nat) : State :=
  match s.session? h with
  | none => s
  | some x => forEach x.queue (fun s r => s.runWaiting h r) (s.setSession { x with queue := [] })

/-- Every request that waits, session by session. -/
def runQueues (s : State) : State :=
  let open_ := s.anon
  let s := forEach (s.sessions.map (fun x => x.handle)) sessionQueue s
  forEach open_ (fun s r => s.runWaiting 0 r) { s with anon := [] }

/-! ## Segmented transfers (R53) -/

/-- A download's total fits the size it announced and the largest of R55. -/
def sdoFits (t : SdoTransfer) (n : Nat) : Bool := decide (n ≤ sdoTop + 14) && (match t.size with
  | some z => decide (n ≤ z)
  | none => true)

/-- A download is complete: it must have the size it announced. -/
def sdoComplete (s : State) (c : Nat) (t : SdoTransfer) : State :=
  match t.size with
  | some z => if z = t.data.length then s.sdoServe c t (fun s => s.sdoStore c t.key t.data) else s.sdoAbort c .typeError
  | none => s.sdoServe c t (fun s => s.sdoStore c t.key t.data)

/-- A segmented download frame. -/
def segDownload (s : State) (c : Nat) (f : SdoFrame) : State :=
  match f with
  | .initiate ix sub size =>
    let s := s.sdoBegin c
    let t : SdoTransfer := { service := .segDownload, key := key ix.toNat sub.toNat, size := size.map (fun z => z.toNat) }
    if sdoFits t ((t.size).getD 0) then s.sdoGoOn c t [] else s.sdoAbort c .typeError
  | .segment toggle last data => match (s.sdoOf c).transfer with
    | none => s.sdoAbort c .protocolError
    | some t =>
      let all := t.data ++ data.map (fun b => b.toNat)
      if t.service ≠ .segDownload || t.toggle != toggle || 7 < data.length then s.sdoAbort c .protocolError
      else if !sdoFits t all.length then s.sdoAbort c .typeError
      else if last then s.sdoComplete c { t with data := all }
      else s.sdoGoOn c { t with data := all, toggle := !toggle } []

/-- A segmented upload frame: 7 bytes a segment. -/
def segUpload (s : State) (c : Nat) (f : SdoFrame) : State :=
  match f with
  | .initiate ix sub _ =>
    let s := s.sdoBegin c
    let t : SdoTransfer := { service := .segUpload, key := key ix.toNat sub.toNat, lastFrame := s.now }
    s.sdoServe c t (fun s => s.sdoOffer c t)
  | .segment toggle _ _ => match (s.sdoOf c).transfer with
    | none => s.sdoAbort c .protocolError
    | some t =>
      if t.service ≠ .segUpload || t.toggle != toggle then s.sdoAbort c .protocolError
      else if t.data.length ≤ 7 then s.sdoSent c t t.data
      else s.sdoGoOn c { t with data := t.data.drop 7, toggle := !toggle } (t.data.take 7)

/-! ## Block transfers (R53): 1–127 segments per block -/

/-- A block download frame. Segments arrive in order; one out of order is not taken, and the acknowledgement after the
block asks for the rest. `toggle` marks that the last segment has come. -/
def blkDownload (s : State) (c : Nat) (f : SdoBlockFrame) : State :=
  match f with
  | .initiate ix sub size _ crc =>
    let s := s.sdoBegin c
    let t : SdoTransfer := { service := .blkDownload, key := key ix.toNat sub.toNat, size := size.map (fun z => z.toNat)
                             blockSize := 127, crc := crc }
    if sdoFits t ((t.size).getD 0) then s.sdoGoOn c t [127] else s.sdoAbort c .typeError
  | .segment seqno last data => match (s.sdoOf c).transfer with
    | none => s.sdoAbort c .protocolError
    | some t =>
      let all := t.data ++ data.map (fun b => b.toNat)
      if t.service ≠ .blkDownload || t.toggle || 7 < data.length then s.sdoAbort c .protocolError
      else
        let fits := seqno.toNat = t.seqno + 1
        let n := if fits then t.seqno + 1 else t.seqno
        if fits && !sdoFits t all.length then s.sdoAbort c .typeError
        else
          let t := if fits then { t with data := all, seqno := n, toggle := last } else t
          if last || 127 ≤ seqno.toNat then s.sdoGoOn c { t with seqno := 0 } [n, 127] else s.sdoGoOn c t [] 0
  | .ack _ _ => s.sdoAbort c .protocolError
  | .end_ crcOk => match (s.sdoOf c).transfer with
    | none => s.sdoAbort c .protocolError
    | some t =>
      if t.service ≠ .blkDownload || !t.toggle || (t.crc && !crcOk) then s.sdoAbort c .protocolError
      else s.sdoComplete c t

/-- The next block of an upload. -/
def nextBlock (s : State) (c : Nat) (t : SdoTransfer) (acked size : Nat) : State :=
  if size = 0 || 127 < size then s.sdoAbort c .protocolError
  else
    let rest := t.data.drop (7 * acked)
    if rest.isEmpty then s.sdoGoOn c { t with data := [], toggle := true } []
    else s.sdoGoOn c { t with data := rest, blockSize := size, seqno := min size (ceilDiv rest.length 7) } (rest.take (7 * size))
      (min size (ceilDiv rest.length 7))

/-- A block upload frame. The acknowledgement of sequence number 0 starts the first block; `toggle` marks that every
segment has been acknowledged. -/
def blkUpload (s : State) (c : Nat) (f : SdoBlockFrame) : State :=
  match f with
  | .initiate ix sub _ size crc =>
    let s := s.sdoBegin c
    let t : SdoTransfer := { service := .blkUpload, key := key ix.toNat sub.toNat, blockSize := size.toNat, crc := crc, lastFrame := s.now }
    if size.toNat = 0 || 127 < size.toNat then s.sdoAbort c .protocolError
    else s.sdoServe c t (fun s => s.sdoOffer c t)
  | .ack seqno size => match (s.sdoOf c).transfer with
    | none => s.sdoAbort c .protocolError
    | some t =>
      if t.service ≠ .blkUpload || t.toggle || t.seqno < seqno.toNat then s.sdoAbort c .protocolError
      else s.nextBlock c t seqno.toNat size.toNat
  | .segment _ _ _ => s.sdoAbort c .protocolError
  | .end_ _ => match (s.sdoOf c).transfer with
    | none => s.sdoAbort c .protocolError
    | some t =>
      if t.service ≠ .blkUpload || !t.toggle then s.sdoAbort c .protocolError else s.sdoSent c t []

end State

/-! ## Meanings -/

/-- R53, R54: an expedited download is accepted for no purpose. -/
def execSdoExpeditedDownload (c : Fin 8) (_index : BitVec 16) (_sub : BitVec 8) (_data : List Byte) (s : State) :
    Host.Outcome State Fault Refusal :=
  whenever (s.sdoRuns c) s ((s.sdoBegin c).sdoAbort c .noSession)

/-- R39, R53, R54: the reads that need no session, of at most 4 bytes. -/
def execSdoExpeditedUpload (c : Fin 8) (index : BitVec 16) (sub : BitVec 8) (s : State) :
    Host.Outcome State Fault Refusal :=
  let k := key index.toNat sub.toNat
  if !s.sdoRuns c then .next s
  else
    let s := s.sdoBegin c
    let short := match descOf k with
      | some d => decide (d.ty.size ≤ 4)
      | none => true
    if !State.openIndex index.toNat || !short then .next (s.sdoAbort c .noSession)
    else
      .next (s.sdoServe c { service := .segUpload, key := k, blockSize := 1, lastFrame := s.now } (fun s => s.sdoExpedite c k))

/-- R53–R55. -/
def execSdoSegmentedDownload (c : Fin 8) (frame : SdoFrame) (s : State) : Host.Outcome State Fault Refusal :=
  whenever (s.sdoRuns c) s (s.segDownload c frame)

/-- R53–R55. -/
def execSdoSegmentedUpload (c : Fin 8) (frame : SdoFrame) (s : State) : Host.Outcome State Fault Refusal :=
  whenever (s.sdoRuns c) s (s.segUpload c frame)

/-- R53–R55. -/
def execSdoBlockDownload (c : Fin 8) (frame : SdoBlockFrame) (s : State) : Host.Outcome State Fault Refusal :=
  whenever (s.sdoRuns c) s (s.blkDownload c frame)

/-- R53–R55. -/
def execSdoBlockUpload (c : Fin 8) (frame : SdoBlockFrame) (s : State) : Host.Outcome State Fault Refusal :=
  whenever (s.sdoRuns c) s (s.blkUpload c frame)

/-- R53: answered with protocol error; a running transfer goes on. -/
def execSdoNetworkIndication (c : Fin 8) (s : State) : Host.Outcome State Fault Refusal :=
  whenever (s.sdoRuns c) s
    ((s.setSdo c { s.sdoOf c with abort := Status.abortCode .protocolError, answer := [] }).sdoFrames c 1)

/-- R55: the next segment or block is missing for 1 s. -/
def execSdoTransferTimeout (c : Fin 8) (s : State) : Host.Outcome State Fault Refusal :=
  match (s.sdoOf c).transfer with
  | none => .next s
  | some t => whenever (s.passed t.lastFrame (sec 1)) s (s.sdoAbort c .transferTimeout)

end Sys2Proof.Machine
end

