-- ==== Sys2Proof/Machine/Images.lean ====
section
/-!
DEFINITION. Process images (R58–R61, R386), frames received on a CAN channel (R316, R318, R322, R327), and the exits that
set the requests that waited going (R353, R354).
-/

namespace Sys2Proof.Machine
namespace State

def mapOf (s : State) (m : Nat) : PiMap := s.maps.read {} m
def setMap (s : State) (m : Nat) (x : PiMap) : State := { s with maps := s.maps.write {} m x }

/-- The engines that build and check maps run (R58, R71): Hoisted or Dipped, the configuration applied, their memory intact,
and the address confirmed (a conflict found later leaves them running). -/
def mapsRun (s : State) : Bool :=
  s.awake && s.applied && !s.ft.regionsLost.contains 4 && (s.confirmed || s.ob Obj.addrState = 3)

/-- A map runs in a direction: enabled, and bound to its session or unauthenticated (R58, R61). -/
def mapRuns (s : State) (m dir : Nat) : Bool :=
  s.mapsRun && s.cf (Obj.piEnable m) = 1 && s.cf (Obj.piDirection m) = dir && s.bit (Obj.piStatus m) 7 &&
    (s.cf (Obj.piAuth m) = 1 || s.ob (Obj.piSession m) ≠ 0)

/-! ## RX maps (R59–R61) -/

/-- A frame rejected: counted, and AUTH_REJECT where its MAC or FRESHNESS failed (R61, R387). -/
def mapRejects (s : State) (m : Nat) (auth : Bool) : State :=
  let s := s.bump (Obj.piRejectCount m)
  if auth then (s.setBit (Obj.piStatus m) 5 true).authFailed (s.ob (Obj.piSession m)) else s

/-- The MAC input of an RX frame (R386): on the halyard `data` starts with the map header of 10 bytes and TRANSACTION is 0
(DESIGN CHOICE, assumption 85); on CAN it is the data and padding bytes. -/
def mapMacInput (s : State) (d m h fresh : Nat) (data : List Nat) : List Nat :=
  let path := s.cf (Obj.piPath m)
  if path = 0 then [d, 0] ++ frameBytes 3 0 h fresh data
  else [d, path, m] ++ toBytes 4 (s.cf (Obj.piCanId m)) ++ data ++ toBytes 4 fresh

/-- Packed bits of a map. -/
def mapBits (s : State) (m : Nat) : Nat := ((s.piEntries m).map piBits).sum

/-- A frame for an RX map (R50, R60, R61): MAC and FRESHNESS, then length and padding, and on the halyard the map number and the
reserved byte of its header (a frame with another is rejected, DESIGN CHOICE, assumption 106); its values wait for the next sweep
boundary, or take effect at once where no sweep runs. -/
def mapReceive (s : State) (m sess fresh : Nat) (data : List Nat) (mac : List Nat) : State :=
  let x := s.mapOf m
  let path := s.cf (Obj.piPath m)
  match s.session? (s.ob (Obj.piSession m)) with
  | none => s
  | some y =>
    let sum := toBytes 16 (Config.cmac y.key (s.mapMacInput 1 m y.handle fresh data)).toNat
    if (path = 0 && sess ≠ y.handle) || !s.pathOn path || fresh ≤ x.rxFresh ||
        mac ≠ (if path = 0 then sum else sum.take 8) then s.mapRejects m true
    else
      let body := if path = 0 then data.drop 10 else data
      let v := ofBytes body
      let short := body.length < ceilDiv (s.mapBits m) 8 || (path = 0 && ceilDiv (s.mapBits m) 8 < body.length) ||
        (path = 0 && data.take 2 ≠ [m, 0])
      let s := s.setMap m { x with rxFresh := fresh }
      if short || v / 2 ^ s.mapBits m ≠ 0 then s.mapRejects m false
      else
        let s := s.setSession { y with last := s.now }
        let s := s.setMap m { s.mapOf m with last := s.now, waiting := some v }
        let s := (s.bump (Obj.piFrameCount m)).setBit (Obj.piStatus m) 6 false
        if s.sweepsRun then s else s.rxBoundary

/-! ## TX maps (R59–R61) -/

/-- The bits an entry carries; of a timer its count (R293). -/
def mapEntryValue (s : State) (m e : Nat) : Nat :=
  let n := piBits e
  (match piKind e with
   | 1 => s.valueOf (s.ob (Obj.piSession m)) 0 (keyIndex (piTarget e)) (keySub (piTarget e))
   | 2 => if sigClass (piTarget e) = 0x0A then s.tmrCountNow (sigInst (piTarget e))
     else (s.termValue (piTarget e) % ((2 ^ n : Nat) : Int)).toNat
   | _ => 0) % 2 ^ n

/-- Every value sampled at once, packed (R59, R61). -/
def mapSample (s : State) (m : Nat) : Nat :=
  ((s.piPlaces m).map (fun e => s.mapEntryValue m e.1 * 2 ^ e.2)).sum

/-- The instant of a period of halyard time (R58), or a change where PI_PERIOD is 0, at most once per 10 ms (R76). -/
def mapDue (s : State) (m : Nat) : Bool :=
  let x := s.mapOf m
  let p := s.cf (Obj.piPeriod m)
  let t := s.htime / 1000000
  if p = 0 then x.last = 0 || (s.passed x.last (ms 10) && s.mapSample m ≠ x.txLast)
  else ((t : Int) - s.cf (Obj.piPhase m)) % (p : Int) = 0 && (x.last = 0 || s.htimeAt x.last / 1000000 ≠ t)

/-- The DLC of the smallest CAN FD frame that holds some bytes (R60, R311). -/
def dlcFor (n : Nat) : Nat := ((List.range 16).find? (fun d => decide (n ≤ dlcLen d))).getD 15

/-- A CAN frame of a map: its data, and for an authenticated map padding, FRESHNESS and MAC (R60, R386). An unauthenticated map
has no session to compute a MAC under, and its frame carries no trailer on a CAN FD path either (DESIGN CHOICE, assumption 103). -/
def mapFrame (s : State) (m v fresh : Nat) : CanPending :=
  let id := s.cf (Obj.piCanId m)
  let n := ceilDiv (s.mapBits m) 8
  let auth := s.cf (Obj.piAuth m) = 0
  let c := s.cf (Obj.piPath m) - 0x10
  let dlc := dlcFor (if auth then n + 12 else n)
  let data := toBytes (dlcLen dlc - (if auth then 12 else 0)) v
  let mac := match s.session? (s.ob (Obj.piSession m)) with
    | some y => (toBytes 16 (Config.cmac y.key (s.mapMacInput 2 m y.handle fresh data)).toNat).take 8
    | none => []
  { src := .map (Fin.ofNat 64 m), ext := bitAt id 31, id := bitsOf id 0 29, dlc := dlc, fdf := s.canFd c, brs := false
    data := some (ofBytes (if auth then data ++ toBytes 4 fresh ++ mac else data)), since := s.now }

/-- A map's halyard frame (R48, R60, R61): the map header with the sample time, the data, and under a session the MAC. -/
def mapHalFrame (s : State) (m v fresh : Nat) : HalFrame :=
  let data := [m, 0] ++ toBytes 8 s.now ++ toBytes (s.piBytes m) v
  s.dictFrame (.map (Fin.ofNat 64 m)) s.toHost (match s.session? (s.ob (Obj.piSession m)) with
    | some y => frameBytes 3 0 y.handle fresh data ++ toBytes 16 (Config.cmac y.key (s.mapMacInput 2 m y.handle fresh data)).toNat
    | none => frameBytes 3 0 0 0 data)

/-- A map's frame is formed (R61) and sent: on the halyard when the unit may send, on CAN behind the channel's pending frames. A
frame that has not been sent is replaced, with OVERRUN. -/
def mapSend (s : State) (m v fresh : Nat) : State :=
  let path := s.cf (Obj.piPath m)
  let s := s.setMap m { s.mapOf m with last := s.now, txLast := v, txFresh := fresh }
  if path = 0 then
    let s := if s.hal.txQueue.any (fun f => f.use = .map (Fin.ofNat 64 m)) then s.setBit (Obj.piStatus m) 4 true else s
    s.halSend (s.mapHalFrame m v fresh)
  else
    let c := path - 0x10
    let waits := (s.canCh c).pend.any (fun f => f.src = .map (Fin.ofNat 64 m))
    let s := if waits then (s.canUnpend c (.map (Fin.ofNat 64 m))).setBit (Obj.piStatus m) 4 true else s
    if s.canRuns c && !s.canListens c then s.canEnqueue c (s.mapFrame m v fresh) else s

/-- A TX map at its period (R58, R61): a counter that would pass its end closes the session (R387 cause 5). -/
def mapTx (s : State) (m : Nat) : State :=
  let x := s.mapOf m
  let v := s.mapSample m
  if s.cf (Obj.piAuth m) = 1 then s.mapSend m v 0
  else if 2 ^ 32 ≤ x.txFresh + 1 then s.closeSession (s.ob (Obj.piSession m)) 5
  else s.mapSend m v (x.txFresh + 1)

/-! ## Frames received on CAN (R311, R316, R318, R322) -/

/-- The RX map that claims an identifier of a channel. -/
def mapClaims (s : State) (c : Nat) (ext : Bool) (id : Nat) : Option Nat :=
  (List.range 64).find? (fun m => s.mapRuns m 0 && s.cf (Obj.piPath m) = 0x10 + c &&
    s.cf (Obj.piCanId m) = id + flagAt ext 31)

/-- The SDO server or the network-management ring claims an identifier (R316). -/
def serverClaims (s : State) (c : Nat) (ext : Bool) (id : Nat) : Bool :=
  !ext && ((!s.canListens c && id = 0x600 + s.nodeIdOf c) ||
    (s.nmOf c && decide (s.cf Obj.nmBaseId ≤ id) && decide (id ≤ s.cf Obj.nmBaseId + 63)))

/-- A frame received without error. -/
def canReceive (s : State) (c : Nat) (f : CanFrame) : State :=
  let id := f.id.toNat
  let s := (s.bump (Obj.canRxFrames c)).receivedWell c
  match s.rxObject c f.ext id with
  | some o => s.moReceive c o f
  | none => match s.mapClaims c f.ext id with
    | some m =>
      let b := toBytes (dlcLen f.dlc) (frameData f)
      let n := b.length
      if n < 13 then s.mapRejects m false
      else s.mapReceive m 0 (ofBytes ((b.drop (n - 12)).take 4)) (b.take (n - 12)) (b.drop (n - 8))
    | none => if s.serverClaims c f.ext id then s else s.strayReceive c f

/-! ## Requests that waited (R62, R329, R349, R353) -/

/-- The runtime cores run again: contending J1939 claims, SDO transfers and requests that waited are handled; holder 4's
vote ends, holder 2's 50 ms after every queue is empty. -/
def coresWoken (s : State) : State :=
  if !s.coresRun then s
  else
    let s := forRange 8 (fun s c => match (s.canCh c).contending with
      | some (sa, name) => s.contend c sa name
      | none => s) s
    let s := s.runQueues.sdoWoken
    let s := s.dropVotes 4 allDomains
    { s with pw := { s.pw with timers := s.pw.timers.put 2 (s.now + ms 50) } }

end State

/-! ## Meanings -/

/-- R50, R58–R61, R86, R386: on a CAN path the frame names no session, and its MAC is the first 8 bytes of `mac`. -/
def execPiRxFrame (m : Fin 64) (sess : Nat) (freshness : BitVec 32) (data : List Byte) (mac : BitVec 128) (s : State) :
    Host.Outcome State Fault Refusal :=
  let path := s.cf (Obj.piPath m)
  let carried := if path = 0 then s.halyardServes else s.canActive (path - 0x10)
  let bytes := toBytes 16 mac.toNat
  whenever (s.mapRuns m 0 && carried) s
    (s.mapReceive m sess freshness.toNat (data.map (fun b => b.toNat)) (if path = 0 then bytes else bytes.take 8))

/-- R58–R61: at a sweep boundary. -/
def execPiTxPeriod (m : Fin 64) (s : State) : Host.Outcome State Fault Refusal :=
  whenever (s.mapRuns m 1 && (!s.sweepsRun || s.eng.segment = 0) && s.mapDue m) s (s.mapTx m)

/-- R61. -/
def execPiRxTimeout (m : Fin 64) (s : State) : Host.Outcome State Fault Refusal :=
  let t := s.cf (Obj.piTimeout m)
  whenever (s.mapRuns m 0 && t ≠ 0 && s.passed (max (s.mapOf m).last s.boot.appliedAt) (ms t)) s
    (s.setBit (Obj.piStatus m) 6 true)

/-- R105, R311, R316, R318, R322, R324–R327: `error` 0 a valid frame, else how it ended. -/
def execCanFrameReceived (c : Fin 8) (f : CanFrame) (error : Fin 7) (s : State) : Host.Outcome State Fault Refusal :=
  whenever (s.canActive c && (!f.fdf || s.canFd c)) s
    (if error.val ≠ 0 then s.receivedBadly c error
     else if f.rtr then (s.receivedWell c).bump (Obj.canRtrCount c)
     else s.canReceive c f)

/-- R62, R353: Dipped to Hoisted. -/
def execExitDipped (s : State) : Host.Outcome State Fault Refusal :=
  whenever (s.ob Obj.pwrTransition = 2 && s.ob Obj.pwrState = pwrDipped) s s.fromDipped.coresWoken

/-- R24, R87, R88, R91, R107, R125, R129, R306, R353, R354, R356: `dins` the first readings of the digital inputs. -/
def execExitHalfMast (dins : BitVec 16) (s : State) : Host.Outcome State Fault Refusal :=
  whenever (s.ob Obj.pwrTransition = 2 && s.ob Obj.pwrState = pwrHalfMast && s.boot.stage = .applied) s
    (s.fromHalfMast dins.toNat).coresWoken

end Sys2Proof.Machine
end

