-- ==== Sys2Proof/Machine/Dispatch.lean ====
section
/-!
DEFINITION. One arm per command, each a direct call of that command's meaning.
-/

namespace Sys2Proof.Machine

/-- The effect of a command on everything but the queue. -/
def exec (i : Instr) (s : State) : Host.Outcome State Fault Refusal :=
  match i with
  | .dieLinkWord lane seq w => Sys2Proof.Machine.execDieLinkWord lane seq w s
  | .laneFailover lane => Sys2Proof.Machine.execLaneFailover lane s
  | .laneRetest lane pass => Sys2Proof.Machine.execLaneRetest lane pass s
  | .pllLock => Sys2Proof.Machine.execPllLock s
  | .pllUnlock => Sys2Proof.Machine.execPllUnlock s
  | .forwardedClockLoss => Sys2Proof.Machine.execForwardedClockLoss s
  | .pllLockTimeout => Sys2Proof.Machine.execPllLockTimeout s
  | .lfPeriod => Sys2Proof.Machine.execLfPeriod s
  | .dictRequestFrame frame => Sys2Proof.Machine.execDictRequestFrame frame s
  | .dictRead sess index sub => Sys2Proof.Machine.execDictRead sess index sub s
  | .dictWrite sess index sub data => Sys2Proof.Machine.execDictWrite sess index sub data s
  | .domainRead sess index offset length => Sys2Proof.Machine.execDomainRead sess index offset length s
  | .domainWrite sess index offset data => Sys2Proof.Machine.execDomainWrite sess index offset data s
  | .readRecord sess index => Sys2Proof.Machine.execReadRecord sess index s
  | .sdoExpeditedDownload c index sub data => Sys2Proof.Machine.execSdoExpeditedDownload c index sub data s
  | .sdoExpeditedUpload c index sub => Sys2Proof.Machine.execSdoExpeditedUpload c index sub s
  | .sdoSegmentedDownload c frame => Sys2Proof.Machine.execSdoSegmentedDownload c frame s
  | .sdoSegmentedUpload c frame => Sys2Proof.Machine.execSdoSegmentedUpload c frame s
  | .sdoBlockDownload c frame => Sys2Proof.Machine.execSdoBlockDownload c frame s
  | .sdoBlockUpload c frame => Sys2Proof.Machine.execSdoBlockUpload c frame s
  | .sdoNetworkIndication c => Sys2Proof.Machine.execSdoNetworkIndication c s
  | .sdoTransferTimeout c => Sys2Proof.Machine.execSdoTransferTimeout c s
  | .cfgWrite sess index sub data => Sys2Proof.Machine.execCfgWrite sess index sub data s
  | .registerWrite sess index sub data => Sys2Proof.Machine.execRegisterWrite sess index sub data s
  | .commit sess => Sys2Proof.Machine.execCommit sess s
  | .discardPendingSet sess => Sys2Proof.Machine.execDiscardPendingSet sess s
  | .commitApply => Sys2Proof.Machine.execCommitApply s
  | .commitDurable stored => Sys2Proof.Machine.execCommitDurable stored s
  | .domOffsetWrite sess index offset => Sys2Proof.Machine.execDomOffsetWrite sess index offset s
  | .domainHoldTimeout index => Sys2Proof.Machine.execDomainHoldTimeout index s
  | .piRxFrame m sess freshness data mac => Sys2Proof.Machine.execPiRxFrame m sess freshness data mac s
  | .piTxPeriod m => Sys2Proof.Machine.execPiTxPeriod m s
  | .piRxTimeout m => Sys2Proof.Machine.execPiRxTimeout m s
  | .addrBurstSend => Sys2Proof.Machine.execAddrBurstSend s
  | .addrCodeAccept heldHigh pulses => Sys2Proof.Machine.execAddrCodeAccept heldHigh pulses s
  | .addrWaitExpiry => Sys2Proof.Machine.execAddrWaitExpiry s
  | .addrConfirm sess a => Sys2Proof.Machine.execAddrConfirm sess a s
  | .presenceSend => Sys2Proof.Machine.execPresenceSend s
  | .presenceReceive f => Sys2Proof.Machine.execPresenceReceive f s
  | .presenceTimeout a => Sys2Proof.Machine.execPresenceTimeout a s
  | .capabilityRequest f named => Sys2Proof.Machine.execCapabilityRequest f named s
  | .capabilityResponse f r => Sys2Proof.Machine.execCapabilityResponse f r s
  | .capabilityRetry a => Sys2Proof.Machine.execCapabilityRetry a s
  | .plcaBeaconLoss => Sys2Proof.Machine.execPlcaBeaconLoss s
  | .halyardLinkChange up => Sys2Proof.Machine.execHalyardLinkChange up s
  | .syncReceive rx sync => Sys2Proof.Machine.execSyncReceive rx sync s
  | .announceReceive => Sys2Proof.Machine.execAnnounceReceive s
  | .pdelayReqSend => Sys2Proof.Machine.execPdelayReqSend s
  | .pdelayRespReceive received sent arrived => Sys2Proof.Machine.execPdelayRespReceive received sent arrived s
  | .syncMissed => Sys2Proof.Machine.execSyncMissed s
  | .holdoverExpiry => Sys2Proof.Machine.execHoldoverExpiry s
  | .noticeSend => Sys2Proof.Machine.execNoticeSend s
  | .hostClaim sess sig value => Sys2Proof.Machine.execHostClaim sess sig value s
  | .hostRelease sess sig => Sys2Proof.Machine.execHostRelease sess sig s
  | .hostReleaseAll sess => Sys2Proof.Machine.execHostReleaseAll sess s
  | .hostEmptyRuleSlots sess sig => Sys2Proof.Machine.execHostEmptyRuleSlots sess sig s
  | .ownerQuery sess sig => Sys2Proof.Machine.execOwnerQuery sess sig s
  | .heartbeat sess value => Sys2Proof.Machine.execHeartbeat sess value s
  | .heartbeatLoss => Sys2Proof.Machine.execHeartbeatLoss s
  | .safeRelease sess value => Sys2Proof.Machine.execSafeRelease sess value s
  | .hoistWatchdogTrip => Sys2Proof.Machine.execHoistWatchdogTrip s
  | .flyResetRelease => Sys2Proof.Machine.execFlyResetRelease s
  | .reflexSegment sweepNs => Sys2Proof.Machine.execReflexSegment sweepNs s
  | .slopeExpiry => Sys2Proof.Machine.execSlopeExpiry s
  | .presentValueStep => Sys2Proof.Machine.execPresentValueStep s
  | .dissipationStep => Sys2Proof.Machine.execDissipationStep s
  | .waitWarnExpiry => Sys2Proof.Machine.execWaitWarnExpiry s
  | .sagCEnter vbat => Sys2Proof.Machine.execSagCEnter vbat s
  | .sagAEnter vbat => Sys2Proof.Machine.execSagAEnter vbat s
  | .sagEnd vbat => Sys2Proof.Machine.execSagEnd vbat s
  | .loanFreeze => Sys2Proof.Machine.execLoanFreeze s
  | .loanRelease sess address => Sys2Proof.Machine.execLoanRelease sess address s
  | .gdTrip n vds at_ => Sys2Proof.Machine.execGdTrip n vds at_ s
  | .gdRampTimeout ramp => Sys2Proof.Machine.execGdRampTimeout ramp s
  | .gdGateOpen n ton => Sys2Proof.Machine.execGdGateOpen n ton s
  | .gdInterlockFault k => Sys2Proof.Machine.execGdInterlockFault k s
  | .gdSoftStartEnd n => Sys2Proof.Machine.execGdSoftStartEnd n s
  | .gdOpenLoad n iEst => Sys2Proof.Machine.execGdOpenLoad n iEst s
  | .gdOffDiagCheck n mv vbat => Sys2Proof.Machine.execGdOffDiagCheck n mv vbat s
  | .gdThermalUpdate n => Sys2Proof.Machine.execGdThermalUpdate n s
  | .vcpLow gap => Sys2Proof.Machine.execVcpLow gap s
  | .vcpRestored gap => Sys2Proof.Machine.execVcpRestored gap s
  | .drainRailAbsent b ds vbat => Sys2Proof.Machine.execDrainRailAbsent b ds vbat s
  | .drainRailRestored b ds vbat => Sys2Proof.Machine.execDrainRailRestored b ds vbat s
  | .gdRetry n => Sys2Proof.Machine.execGdRetry n s
  | .retryResetExpiry sig => Sys2Proof.Machine.execRetryResetExpiry sig s
  | .gdRecovered sig ton => Sys2Proof.Machine.execGdRecovered sig ton s
  | .gdFaultClear sess n => Sys2Proof.Machine.execGdFaultClear sess n s
  | .gdDiagRun sess n => Sys2Proof.Machine.execGdDiagRun sess n s
  | .bridgeCommand h ripples => Sys2Proof.Machine.execBridgeCommand h ripples s
  | .bridgeBrakeEnd h => Sys2Proof.Machine.execBridgeBrakeEnd h s
  | .bridgeRunMax h ripples => Sys2Proof.Machine.execBridgeRunMax h ripples s
  | .bridgeStall h current ripples => Sys2Proof.Machine.execBridgeStall h current ripples s
  | .bridgeOpenLoad h current => Sys2Proof.Machine.execBridgeOpenLoad h current s
  | .forceEstimate h current vbat ripples => Sys2Proof.Machine.execForceEstimate h current vbat ripples s
  | .pinch h => Sys2Proof.Machine.execPinch h s
  | .pinchReversalEnd h ripples => Sys2Proof.Machine.execPinchReversalEnd h ripples s
  | .lockPulseEnd h => Sys2Proof.Machine.execLockPulseEnd h s
  | .wiperPark h parked => Sys2Proof.Machine.execWiperPark h parked s
  | .wipeIntervalExpiry h => Sys2Proof.Machine.execWipeIntervalExpiry h s
  | .wiperBlocked h current => Sys2Proof.Machine.execWiperBlocked h current s
  | .brClear sess h => Sys2Proof.Machine.execBrClear sess h s
  | .brForget sess h => Sys2Proof.Machine.execBrForget sess h s
  | .fanLoopUpdate f ripples => Sys2Proof.Machine.execFanLoopUpdate f ripples s
  | .fanStartFailed f current => Sys2Proof.Machine.execFanStartFailed f current s
  | .spinupWindowEnd f ripples => Sys2Proof.Machine.execSpinupWindowEnd f ripples s
  | .fanRetry f => Sys2Proof.Machine.execFanRetry f s
  | .fanStallRunning f current => Sys2Proof.Machine.execFanStallRunning f current s
  | .tachOpen f ripples => Sys2Proof.Machine.execTachOpen f ripples s
  | .tachRestored f ripples => Sys2Proof.Machine.execTachRestored f ripples s
  | .fanClear sess f => Sys2Proof.Machine.execFanClear sess f s
  | .svCommand c ma => Sys2Proof.Machine.execSvCommand c ma s
  | .svBoostEnd c n => Sys2Proof.Machine.execSvBoostEnd c n s
  | .svPeakHoldEnd c => Sys2Proof.Machine.execSvPeakHoldEnd c s
  | .svFastOffEnd c n => Sys2Proof.Machine.execSvFastOffEnd c n s
  | .svRetrigger sess c => Sys2Proof.Machine.execSvRetrigger sess c s
  | .svRegFault c n => Sys2Proof.Machine.execSvRegFault c n s
  | .svRangeChangeStart c n => Sys2Proof.Machine.execSvRangeChangeStart c n s
  | .svRangeChangeEnd c => Sys2Proof.Machine.execSvRangeChangeEnd c s
  | .svMoveEvaluation c curve => Sys2Proof.Machine.execSvMoveEvaluation c curve s
  | .svTrip c high low n => Sys2Proof.Machine.execSvTrip c high low n s
  | .svLeak c iHs iLs => Sys2Proof.Machine.execSvLeak c iHs iLs s
  | .svOpenLoad c n => Sys2Proof.Machine.execSvOpenLoad c n s
  | .svOffDiagCheck c vh vl vbat => Sys2Proof.Machine.execSvOffDiagCheck c vh vl vbat s
  | .svOvertemp c temp => Sys2Proof.Machine.execSvOvertemp c temp s
  | .svRetry c => Sys2Proof.Machine.execSvRetry c s
  | .svFaultClear sess c => Sys2Proof.Machine.execSvFaultClear sess c s
  | .svDiagRun sess c => Sys2Proof.Machine.execSvDiagRun sess c s
  | .dinEdge c new => Sys2Proof.Machine.execDinEdge c new s
  | .dinChatter c => Sys2Proof.Machine.execDinChatter c s
  | .dinOvervoltage c mv => Sys2Proof.Machine.execDinOvervoltage c mv s
  | .doutTrip d hot current => Sys2Proof.Machine.execDoutTrip d hot current s
  | .doutCooled d => Sys2Proof.Machine.execDoutCooled d s
  | .doutRetry d => Sys2Proof.Machine.execDoutRetry d s
  | .doutOpenLoad d current => Sys2Proof.Machine.execDoutOpenLoad d current s
  | .doutOffDiagCheck d mv vbat => Sys2Proof.Machine.execDoutOffDiagCheck d mv vbat s
  | .doutFaultClear sess d => Sys2Proof.Machine.execDoutFaultClear sess d s
  | .doutDiagRun sess d => Sys2Proof.Machine.execDoutDiagRun sess d s
  | .ainSlot c mv it => Sys2Proof.Machine.execAinSlot c mv it s
  | .ainRangeChangeEnd c => Sys2Proof.Machine.execAinRangeChangeEnd c s
  | .vsensStateChange v state => Sys2Proof.Machine.execVsensStateChange v state s
  | .tachEdge t => Sys2Proof.Machine.execTachEdge t s
  | .tachGlitching t rejected => Sys2Proof.Machine.execTachGlitching t rejected s
  | .tachTimeout t => Sys2Proof.Machine.execTachTimeout t s
  | .passportLearn n q value temp current vbat disturbed => Sys2Proof.Machine.execPassportLearn n q value temp current vbat disturbed s
  | .ppRelearn sess n => Sys2Proof.Machine.execPpRelearn sess n s
  | .ppReference sess n => Sys2Proof.Machine.execPpReference sess n s
  | .ppClearDrift sess n => Sys2Proof.Machine.execPpClearDrift sess n s
  | .gdCalibration n uohm temp current => Sys2Proof.Machine.execGdCalibration n uohm temp current s
  | .svOffsetCalibration c high offset current => Sys2Proof.Machine.execSvOffsetCalibration c high offset current s
  | .readingExtrapolated n temp current => Sys2Proof.Machine.execReadingExtrapolated n temp current s
  | .supplyWindowExit m value => Sys2Proof.Machine.execSupplyWindowExit m value s
  | .supplyWindowReturn m value => Sys2Proof.Machine.execSupplyWindowReturn m value s
  | .supMinMaxRead sess m max => Sys2Proof.Machine.execSupMinMaxRead sess m max s
  | .temperatureSample hoist q0 q1 q2 q3 => Sys2Proof.Machine.execTemperatureSample hoist q0 q1 q2 q3 s
  | .cableRun sess p => Sys2Proof.Machine.execCableRun sess p s
  | .cableMeasured p roundTrip end_ => Sys2Proof.Machine.execCableMeasured p roundTrip end_ s
  | .bpFrame p turn tail heard => Sys2Proof.Machine.execBpFrame p turn tail heard s
  | .bpLineFault p high => Sys2Proof.Machine.execBpLineFault p high s
  | .bpDiscovery p d => Sys2Proof.Machine.execBpDiscovery p d s
  | .bpRetryExpiry p => Sys2Proof.Machine.execBpRetryExpiry p s
  | .bpCommandFrame frame => Sys2Proof.Machine.execBpCommandFrame frame s
  | .bpRediscover sess p => Sys2Proof.Machine.execBpRediscover sess p s
  | .bpNodeClear sess p position => Sys2Proof.Machine.execBpNodeClear sess p position s
  | .nodeTimeout p position => Sys2Proof.Machine.execNodeTimeout p position s
  | .mxLineTrip p line => Sys2Proof.Machine.execMxLineTrip p line s
  | .mxColumnOvervoltage p line column => Sys2Proof.Machine.execMxColumnOvervoltage p line column s
  | .mxPixelOpen p line column low => Sys2Proof.Machine.execMxPixelOpen p line column low s
  | .mxOvertemp p temp => Sys2Proof.Machine.execMxOvertemp p temp s
  | .mxRetry p => Sys2Proof.Machine.execMxRetry p s
  | .mxFaultClear sess p => Sys2Proof.Machine.execMxFaultClear sess p s
  | .pixelClear sess p => Sys2Proof.Machine.execPixelClear sess p s
  | .deratingUpdate => Sys2Proof.Machine.execDeratingUpdate s
  | .nbRun sess => Sys2Proof.Machine.execNbRun sess s
  | .nbBallTest ball joined => Sys2Proof.Machine.execNbBallTest ball joined s
  | .nbOnlineTest ball joined => Sys2Proof.Machine.execNbOnlineTest ball joined s
  | .groupFade sess group level time => Sys2Proof.Machine.execGroupFade sess group level time s
  | .groupPattern sess group engine block => Sys2Proof.Machine.execGroupPattern sess group engine block s
  | .groupRelease sess group => Sys2Proof.Machine.execGroupRelease sess group s
  | .groupQuery sess value => Sys2Proof.Machine.execGroupQuery sess value s
  | .fadeStep group cls => Sys2Proof.Machine.execFadeStep group cls s
  | .patternStep e => Sys2Proof.Machine.execPatternStep e s
  | .timerCompare t k => Sys2Proof.Machine.execTimerCompare t k s
  | .timerOverflow t => Sys2Proof.Machine.execTimerOverflow t s
  | .cmpWrite sess t k value => Sys2Proof.Machine.execCmpWrite sess t k value s
  | .tmrStart sess t => Sys2Proof.Machine.execTmrStart sess t s
  | .tmrStop sess t => Sys2Proof.Machine.execTmrStop sess t s
  | .tmrReset sess t => Sys2Proof.Machine.execTmrReset sess t s
  | .tmrResetAndStart sess t => Sys2Proof.Machine.execTmrResetAndStart sess t s
  | .gsArm sess => Sys2Proof.Machine.execGsArm sess s
  | .globalStart => Sys2Proof.Machine.execGlobalStart s
  | .eventOccurrence => Sys2Proof.Machine.execEventOccurrence s
  | .eventRelease => Sys2Proof.Machine.execEventRelease s
  | .eventPost sess value => Sys2Proof.Machine.execEventPost sess value s
  | .canNoticeSend c => Sys2Proof.Machine.execCanNoticeSend c s
  | .canFrameReceived c f error => Sys2Proof.Machine.execCanFrameReceived c f error s
  | .protocolException c => Sys2Proof.Machine.execProtocolException c s
  | .moDataWrite sess offset data arbitrating => Sys2Proof.Machine.execMoDataWrite sess offset data arbitrating s
  | .moDataRead sess offset length => Sys2Proof.Machine.execMoDataRead sess offset length s
  | .txPeriod o arbitrating => Sys2Proof.Machine.execTxPeriod o arbitrating s
  | .canTransmissionDone c => Sys2Proof.Machine.execCanTransmissionDone c s
  | .canTxError c error => Sys2Proof.Machine.execCanTxError c error s
  | .txTimeoutExpiry c => Sys2Proof.Machine.execTxTimeoutExpiry c s
  | .rxObjectTimeout o => Sys2Proof.Machine.execRxObjectTimeout o s
  | .strayAck sess c n => Sys2Proof.Machine.execStrayAck sess c n s
  | .canBusJoin c => Sys2Proof.Machine.execCanBusJoin c s
  | .busOffRecovery c => Sys2Proof.Machine.execBusOffRecovery c s
  | .recoverFromBusOff sess c => Sys2Proof.Machine.execRecoverFromBusOff sess c s
  | .discardPendingFrames sess c => Sys2Proof.Machine.execDiscardPendingFrames sess c s
  | .oneAttemptNow sess c => Sys2Proof.Machine.execOneAttemptNow sess c s
  | .aloneRetry c => Sys2Proof.Machine.execAloneRetry c s
  | .transceiverFault c cause => Sys2Proof.Machine.execTransceiverFault c cause s
  | .j1939Claim c => Sys2Proof.Machine.execJ1939Claim c s
  | .j1939ContendingClaim c sa name => Sys2Proof.Machine.execJ1939ContendingClaim c sa name s
  | .j1939RequestClaimed c => Sys2Proof.Machine.execJ1939RequestClaimed c s
  | .nmRingMessage sender dlc data => Sys2Proof.Machine.execNmRingMessage sender dlc data s
  | .nmRingSend => Sys2Proof.Machine.execNmRingSend s
  | .nmAliveTimeout => Sys2Proof.Machine.execNmAliveTimeout s
  | .nmPresentTimeout n => Sys2Proof.Machine.execNmPresentTimeout n s
  | .nmSleepWaitExpiry => Sys2Proof.Machine.execNmSleepWaitExpiry s
  | .nmLimpHomeMessage => Sys2Proof.Machine.execNmLimpHomeMessage s
  | .nmKeeper n => Sys2Proof.Machine.execNmKeeper n s
  | .selectiveWakeFrame c f => Sys2Proof.Machine.execSelectiveWakeFrame c f s
  | .wakePinEdge n rising => Sys2Proof.Machine.execWakePinEdge n rising s
  | .busActivityWake c frameErrors => Sys2Proof.Machine.execBusActivityWake c frameErrors s
  | .nmHoldStay sess => Sys2Proof.Machine.execNmHoldStay sess s
  | .nmReleaseStay sess => Sys2Proof.Machine.execNmReleaseStay sess s
  | .nmResume sess => Sys2Proof.Machine.execNmResume sess s
  | .placeHostVote sess mask => Sys2Proof.Machine.execPlaceHostVote sess mask s
  | .withdrawHostVote sess mask => Sys2Proof.Machine.execWithdrawHostVote sess mask s
  | .withdrawAllHostVotes sess => Sys2Proof.Machine.execWithdrawAllHostVotes sess s
  | .suspendStandingVotes sess mask => Sys2Proof.Machine.execSuspendStandingVotes sess mask s
  | .restoreStandingVotes sess mask => Sys2Proof.Machine.execRestoreStandingVotes sess mask s
  | .domainSwitch d => Sys2Proof.Machine.execDomainSwitch d s
  | .lingerExpiry => Sys2Proof.Machine.execLingerExpiry s
  | .enterDipped => Sys2Proof.Machine.execEnterDipped s
  | .enterHalfMast => Sys2Proof.Machine.execEnterHalfMast s
  | .enterFurled => Sys2Proof.Machine.execEnterFurled s
  | .exitDipped => Sys2Proof.Machine.execExitDipped s
  | .exitHalfMast dins => Sys2Proof.Machine.execExitHalfMast dins s
  | .wakeCapture cause detail => Sys2Proof.Machine.execWakeCapture cause detail s
  | .wakeHoldExpiry => Sys2Proof.Machine.execWakeHoldExpiry s
  | .rtcAlarm => Sys2Proof.Machine.execRtcAlarm s
  | .rtcSecondsWrite sess value => Sys2Proof.Machine.execRtcSecondsWrite sess value s
  | .parkingLoadFault ev value => Sys2Proof.Machine.execParkingLoadFault ev value s
  | .hoistPorRelease => Sys2Proof.Machine.execHoistPorRelease s
  | .hoistPorAssert copies => Sys2Proof.Machine.execHoistPorAssert copies s
  | .flyResetReleaseAtStart => Sys2Proof.Machine.execFlyResetReleaseAtStart s
  | .imageCheck rejected trng => Sys2Proof.Machine.execImageCheck rejected trng s
  | .configurationApplied vbat elapsed => Sys2Proof.Machine.execConfigurationApplied vbat elapsed s
  | .applyHeldLowVbat vbat => Sys2Proof.Machine.execApplyHeldLowVbat vbat s
  | .firstSweepStart => Sys2Proof.Machine.execFirstSweepStart s
  | .coreSupplyFault mv => Sys2Proof.Machine.execCoreSupplyFault mv s
  | .coreSupplyRestored => Sys2Proof.Machine.execCoreSupplyRestored s
  | .resetNLow => Sys2Proof.Machine.execResetNLow s
  | .vstoreReadiness mv => Sys2Proof.Machine.execVstoreReadiness mv s
  | .strikeTrigger complete copies => Sys2Proof.Machine.execStrikeTrigger complete copies s
  | .strikeRestart => Sys2Proof.Machine.execStrikeRestart s
  | .trngHealthFail repetition => Sys2Proof.Machine.execTrngHealthFail repetition s
  | .trngRetest pass => Sys2Proof.Machine.execTrngRetest pass s
  | .keyImport sess => Sys2Proof.Machine.execKeyImport sess s
  | .keyGenerate sess => Sys2Proof.Machine.execKeyGenerate sess s
  | .keyDerive sess => Sys2Proof.Machine.execKeyDerive sess s
  | .keyZero sess => Sys2Proof.Machine.execKeyZero sess s
  | .lcRequest sess target => Sys2Proof.Machine.execLcRequest sess target s
  | .lcConfirm sess token => Sys2Proof.Machine.execLcConfirm sess token s
  | .sessionSetupMsg1 path role hostId nH serial => Sys2Proof.Machine.execSessionSetupMsg1 path role hostId nH serial s
  | .sessionSetupMsg3 path role hostId authH => Sys2Proof.Machine.execSessionSetupMsg3 path role hostId authH s
  | .setupMsg3Timeout path => Sys2Proof.Machine.execSetupMsg3Timeout path s
  | .roleLockoutEnd role => Sys2Proof.Machine.execRoleLockoutEnd role s
  | .sessionClose sess => Sys2Proof.Machine.execSessionClose sess s
  | .sessionIdleTimeout sess => Sys2Proof.Machine.execSessionIdleTimeout sess s
  | .cjRun sess => Sys2Proof.Machine.execCjRun sess s
  | .cipherJobDone sess => Sys2Proof.Machine.execCipherJobDone sess s
  | .pkSign sess => Sys2Proof.Machine.execPkSign sess s
  | .pkVerify sess => Sys2Proof.Machine.execPkVerify sess s
  | .pkExport sess => Sys2Proof.Machine.execPkExport sess s
  | .randomRead sess => Sys2Proof.Machine.execRandomRead sess s
  | .debugRequest sess value => Sys2Proof.Machine.execDebugRequest sess value s
  | .debugClose sess => Sys2Proof.Machine.execDebugClose sess s
  | .debuggerConnect level => Sys2Proof.Machine.execDebuggerConnect level s
  | .debugWindowExpiry => Sys2Proof.Machine.execDebugWindowExpiry s
  | .trstNLow => Sys2Proof.Machine.execTrstNLow s
  | .debugHalt => Sys2Proof.Machine.execDebugHalt s
  | .debugResume => Sys2Proof.Machine.execDebugResume s
  | .extest enter => Sys2Proof.Machine.execExtest enter s
  | .bkeyPresence => Sys2Proof.Machine.execBkeyPresence s
  | .bkeySettleExpiry => Sys2Proof.Machine.execBkeySettleExpiry s
  | .bkeyExchange x => Sys2Proof.Machine.execBkeyExchange x s
  | .bkeyRemoved => Sys2Proof.Machine.execBkeyRemoved s
  | .bkeyHeldLow => Sys2Proof.Machine.execBkeyHeldLow s
  | .lfPoll load => Sys2Proof.Machine.execLfPoll load s
  | .lfExchange x => Sys2Proof.Machine.execLfExchange x s
  | .burgeeLockoutEnd port => Sys2Proof.Machine.execBurgeeLockoutEnd port s
  | .bgClearLock sess port => Sys2Proof.Machine.execBgClearLock sess port s
  | .relOpen sess r => Sys2Proof.Machine.execRelOpen sess r s
  | .relClose sess r => Sys2Proof.Machine.execRelClose sess r s
  | .releaseWindowExpiry r => Sys2Proof.Machine.execReleaseWindowExpiry r s
  | .implementChallenge n => Sys2Proof.Machine.execImplementChallenge n s
  | .implRun sess n => Sys2Proof.Machine.execImplRun sess n s
  | .implementDecision n => Sys2Proof.Machine.execImplementDecision n s
  | .pageSeal => Sys2Proof.Machine.execPageSeal s
  | .pageWriteDone flush status => Sys2Proof.Machine.execPageWriteDone flush status s
  | .flushTimeExpiry => Sys2Proof.Machine.execFlushTimeExpiry s
  | .linkRetrain up => Sys2Proof.Machine.execLinkRetrain up s
  | .ledgerLinkStart found => Sys2Proof.Machine.execLedgerLinkStart found s
  | .recordsLost => Sys2Proof.Machine.execRecordsLost s
  | .smartRead warning => Sys2Proof.Machine.execSmartRead warning s
  | .ledgerFlush sess => Sys2Proof.Machine.execLedgerFlush sess s
  | .ledgerAttest sess => Sys2Proof.Machine.execLedgerAttest sess s
  | .ledgerFormat sess => Sys2Proof.Machine.execLedgerFormat sess s
  | .stageWrite sess a offset data => Sys2Proof.Machine.execStageWrite sess a offset data s
  | .updVerify sess a => Sys2Proof.Machine.execUpdVerify sess a s
  | .updDiscard sess a => Sys2Proof.Machine.execUpdDiscard sess a s
  | .updActivate sess set => Sys2Proof.Machine.execUpdActivate sess set s
  | .mastActivation failures failing => Sys2Proof.Machine.execMastActivation failures failing s
  | .ensignActivation => Sys2Proof.Machine.execEnsignActivation s
  | .updateRestart => Sys2Proof.Machine.execUpdateRestart s
  | .nodeActivation => Sys2Proof.Machine.execNodeActivation s
  | .updNodeRun sess ports => Sys2Proof.Machine.execUpdNodeRun sess ports s
  | .nodeDistributionPass p updated => Sys2Proof.Machine.execNodeDistributionPass p updated s
  | .nodeImageSwitch p position => Sys2Proof.Machine.execNodeImageSwitch p position s
  | .updConfirm sess value => Sys2Proof.Machine.execUpdConfirm sess value s
  | .laneMismatch segment won => Sys2Proof.Machine.execLaneMismatch segment won s
  | .spareJoined q => Sys2Proof.Machine.execSpareJoined q s
  | .tileFault q t => Sys2Proof.Machine.execTileFault q t s
  | .sramClusterFault cluster region => Sys2Proof.Machine.execSramClusterFault cluster region s
  | .mramClusterFault cluster region => Sys2Proof.Machine.execMramClusterFault cluster region s
  | .regulatorPhaseFault n => Sys2Proof.Machine.execRegulatorPhaseFault n s
  | .stageSelfTest sig pass => Sys2Proof.Machine.execStageSelfTest sig pass s
  | .standbyLaneCheck q agrees => Sys2Proof.Machine.execStandbyLaneCheck q agrees s
  | .spareLbist q pass => Sys2Proof.Machine.execSpareLbist q pass s
  | .sequencerFault => Sys2Proof.Machine.execSequencerFault s
  | .microcodeCheck pass => Sys2Proof.Machine.execMicrocodeCheck pass s
  | .scrub mram corrected damaged => Sys2Proof.Machine.execScrub mram corrected damaged s
  | .splitAck sess value => Sys2Proof.Machine.execSplitAck sess value s
  | .tileRetest sess => Sys2Proof.Machine.execTileRetest sess s
  | .skewCheck hoist quadrants supplies => Sys2Proof.Machine.execSkewCheck hoist quadrants supplies s
  | .pwmPeriodStart sig => Sys2Proof.Machine.execPwmPeriodStart sig s
  | .mxLineSlotStart p => Sys2Proof.Machine.execMxLineSlotStart p s
  | .lockRateWindowExpiry h => Sys2Proof.Machine.execLockRateWindowExpiry h s
  | .j1939ClaimWait c => Sys2Proof.Machine.execJ1939ClaimWait c s
  | .transceiverFaultCleared c temp => Sys2Proof.Machine.execTransceiverFaultCleared c temp s
  | .protocolExceptionEnd c => Sys2Proof.Machine.execProtocolExceptionEnd c s
  | .plcaBeaconResume => Sys2Proof.Machine.execPlcaBeaconResume s
  | .holderVoteTimer h => Sys2Proof.Machine.execHolderVoteTimer h s
  | .lfOscillationEstablished => Sys2Proof.Machine.execLfOscillationEstablished s

end Sys2Proof.Machine
end

