-- ==== Sys2Proof/Safety.lean ====
section
/-!
DEFINITION. The terms the statements are made in: a request that is served, what switching outputs leaves alone, and the
canonical form of the configuration and of the objects.
-/

namespace Sys2Proof.Machine

/-- Ownership less the commanded values with the class and the tag they were set under. -/
def Ownership.kept (a : Ownership) : Ownership := { a with commanded := [], ownerClass := [], ownerTag := [] }

/-- The arbiter less its model, its requests and their ages, and the count of outputs being restored. -/
def Arbiter.kept (a : Arbiter) : Arbiter :=
  { a with entries := [], slopes := [], queue := [], refused := [], portRaises := [], portEnv := [], sOver := false, defaulted := []
           restoring := [], restored := 0, ages := [], oversub := false }

namespace State

/-! ## Requests (R38–R40, R62, R354) -/

/-- A request of session `x` under handle `h` that needs `role` is served at once: requests are accepted, the runtime cores run,
and the open session has the role. -/
def Serves (s : State) (h : Nat) (role : Role) (x : Session) : Prop :=
  s.takesRequests = true ∧ s.coresRun = true ∧ s.session? h = some x ∧ role.rank ≤ x.role.rank

/-- The session of a request with its idle time started again (R387). -/
def heard (s : State) (x : Session) : Session := { x with last := s.now }

/-- The state in which a request of session `x` is carried out: the answer is empty and the session has been heard. -/
def asked (s : State) (x : Session) : State := ({ s with reply := {} }).setSession (s.heard x)

/-- The same with the answer that the request succeeded and returns no data. -/
def served (s : State) (x : Session) : State := { s.asked x with reply := { status := .success } }

/-! ## What switching outputs leaves alone -/

/-- The objects that a switched output, the admission arbiter and the ledger's buffer move by themselves: subindices 1 and 2 of
the status records of outputs and bridges, VDS_MEAS and GATE_TON of the gate drivers, the fans' state, speed, source, flags and
RIPPLE_RATIO, MX_FACTOR, the counters 0x2202:0B–10 and the ledger's 0x9001:05, 08 and 09. The records of a class lie 16 indices apart or follow one another, and the test takes every index in their step. -/
def outputObject (k : Nat) : Bool :=
  let i := keyIndex k
  let b := keySub k
  (decide (0x4002 ≤ i) && i % 16 = 2 && (b = 1 || b = 2)) || (decide (0x4828 ≤ i) && (b = 1 || b = 2)) ||
  (decide (0x4002 ≤ i) && decide (i < 0x4182) && i % 16 = 2 && (b = 3 || b = 6)) ||
  (decide (0x4301 ≤ i) && decide (i < 0x4341) && i % 16 = 1 && (b = 2 || b = 3 || b = 6)) ||
  (decide (0x4301 ≤ i) && i % 16 = 1 && (b = 1 || b = 4)) || (i = 0x2202 && decide (0x0B ≤ b)) ||
  (i = 0x9001 && (b = 5 || b = 8 || b = 9))

/-- The state less its objects, the answer, events under way, ownership, admission, the ledger's buffer, the states and derating
factors of output channels, fades and patterns. -/
def still (s : State) : State :=
  { s with obj := [], reply := {}, fab := {}, own := {}, arb := {}, ledger := {}, gd := [], br := [], fan := [], sv := [], dout := []
           bp := [], mx := [], factors := [], light := {} }

/-- `t` differs from `s` in what the switching of outputs moves, and in the objects `own`. -/
def Switches (s t : State) (own : List Nat) : Prop :=
  t.still = s.still ∧ ∀ k, outputObject k = false → k ∉ own → t.ob k = s.ob k

/-- What admission and the switching of outputs never touch in ownership and in the arbiter: the claims, the SAFE placement, the
waiting host changes, the owner query's view, the sag states, the shed outputs, the loans, and the fades and patterns. -/
def kept (s : State) : Ownership × Arbiter × Lighting := (s.own.kept, s.arb.kept, s.light)

/-- An event posted at tick `at_` is on its way to the fabric, with the low 32 bits of a value. -/
def Raised (s : State) (at_ : Tick) (ev v : Nat) : Prop := (⟨at_, ev, v % 2 ^ 32⟩ : Occ) ∈ s.fab.inFlight

/-- Every object but those of a list is as it was. -/
def ObjectsBut (s t : State) (own : List Nat) : Prop := ∀ k, k ∉ own → t.ob k = s.ob k

/-- `t` is `s` with nothing changed but the objects of a list. -/
def Only (s t : State) (own : List Nat) : Prop := t = { s with obj := t.obj } ∧ s.ObjectsBut t own

/-- `t` follows `s` with bridge `h` braking since now (R163): its lower gates on, its upper ones off, `reason` for slot 0 at the end;
no claim slot, no sag state and nothing of other units but what switching moves, and the objects `own`, has changed. -/
def Brakes (s t : State) (h reason next : Nat) (own : List Nat) : Prop :=
  (t.brCh h).dir = 3 ∧ (t.brCh h).next = next ∧ (t.brCh h).reason = reason ∧ (t.brCh h).since = s.now ∧
  t.ob (Obj.brState h) = (if (t.brCh h).waiting.isSome then 7 else 1) ∧
  t.ob (Obj.gdAppliedValue (s.brLead h)) = 0 ∧ t.ob (Obj.gdAppliedValue (s.brOther h)) = 0 ∧
  t.ob (Obj.gdAppliedValue (s.brLead h + 1)) = 10000 ∧ t.ob (Obj.gdAppliedValue (s.brOther h + 1)) = 10000 ∧
  t.kept = s.kept ∧ s.Switches t own

/-- Every committed object has its value. -/
def SameConfig (s t : State) : Prop := ∀ k, t.cf k = s.cf k

/-! ## Canonical form -/

/-- A register file in canonical form: numbers strictly rising, no entry that stands at its default. -/
def Canonical (r : Regs) : Prop := Table.wf objDefault r = true

/-- The configuration in force, its copies in MRAM, those of accepted commits and those an update holds. -/
def ConfigCanonical (s : State) : Prop :=
  Canonical s.cfg ∧ (∀ c ∈ s.ft.copies, Canonical c.2.regs) ∧ (∀ j ∈ s.commits, Canonical j.regs) ∧
  (∀ r, s.upd.keep = some r → Canonical r) ∧ (∀ r, s.upd.migrated = some r → Canonical r)

/-- Every value of the configuration in force, of its copies in MRAM, of accepted commits and of the keep area is one its
object takes (R34). -/
def ConfigFits (s : State) : Prop :=
  s.cfg.all (fun e => inRange e.1 e.2) = true ∧ (∀ c ∈ s.ft.copies, c.2.regs.all (fun e => inRange e.1 e.2) = true) ∧
  (∀ j ∈ s.commits, j.regs.all (fun e => inRange e.1 e.2) = true) ∧
  ∀ r, s.upd.keep = some r → r.all (fun e => inRange e.1 e.2) = true

/-- The status and command objects. -/
def ObjectsCanonical (s : State) : Prop := Canonical s.obj

end State
end Sys2Proof.Machine
end

