-- ==== Sys2Proof/Certificates/Slice0/Obligations.lean ====
section
/-!
DEFINITION. The statements for the provers: each formalises what the rules named in its docstring say. A clause that concludes
`∃ t, exec c s = .next t ∧ …` says where the command completes, what it gives, and what it leaves alone.
-/

open Sys2Proof Sys2Proof.Machine

/-- A step with a command at the front of the queue is that command, carried out with the queue's rest. -/
def Obligations.StepRunsTheFrontCommand : Prop :=
  ∀ (c : Instr) (rest : List Instr) (s : State), step { s with pending := c :: rest } = exec c { s with pending := rest }

/-- On an empty queue a step is one tick of the timebase while the PLL drives it, at which the frequency inputs that hear no
edge meet their thresholds (R226), and nothing else. That the block idles so is the model's choice (DESIGN CHOICE, assumption
91). No row of the command table gives bits, so no word spells a command, and placing a word in the queue leaves it as it is. -/
def Obligations.IdleStepsAndWordsDoNothingElse : Prop :=
  (∀ s : State, s.pending = [] →
    ∃ t, step s = .next t ∧ t = { s with tb := t.tb, tach := t.tach, fab := t.fab } ∧
      (s.tb.pllLocked = true → s.tb.lfMode = false → t.tb = { s.tb with count := (s.tb.count + 1) % 2 ^ 64 }) ∧
      (s.tb.pllLocked = false ∨ s.tb.lfMode = true → t.tb = s.tb) ∧
      (∀ i < 4, (t.tachCh i).edges = (s.tachCh i).edges ∧ (s.awake = false ∨ s.cf (Obj.tachEnable i) ≠ 1 → t.tachCh i = s.tachCh i)) ∧
      ((∀ i < 4, s.awake = false ∨ s.cf (Obj.tachEnable i) ≠ 1 ∨ (s.tachCh i).fresh = true) → t = { s with tb := t.tb }) ∧
      (∀ i : Fin 4, s.awake = true → s.cf (Obj.tachEnable i) = 1 → (s.tachCh i).fresh = false → (s.tachCh i).armLo = true →
        State.tachFreqNow { s with tb := t.tb } i < s.cf (Obj.tachLo i) →
        t.Raised t.now (432 + 4 * i + 1) (State.tachFreqNow { s with tb := t.tb } i) ∧ (t.tachCh i).armLo = false)) ∧
  (∀ (nbits w : Nat) (s : State), decodeTableWord nbits w = none ∧ s.withFetchWord nbits w = s)

/-- Every command answers a next state in every state: none faults and none is refused. -/
def Obligations.EveryCommandAnswers : Prop :=
  ∀ (c : Instr) (s : State), ∃ t, exec c s = .next t

/-- A command acts on everything but the queue of those that wait. -/
def Obligations.CommandsLeaveTheQueueAlone : Prop :=
  ∀ (c : Instr) (s t : State), exec c s = .next t → t.pending = s.pending

/-- Every register file of the configuration stays in the model's canonical form under every step, from any state that has it.
-/
def Obligations.ConfigurationStaysCanonical : Prop :=
  ∀ s t : State, s.ConfigCanonical → step s = .next t → t.ConfigCanonical

/-- R34, R43: from any state whose stored configurations hold only values in the range of their objects, every step leads to
such a state: a commit, a start from a copy, a migration and a return from it put no other value in force. -/
def Obligations.ConfigurationStaysInRange : Prop :=
  ∀ s t : State, s.ConfigFits → step s = .next t → t.ConfigFits

/-- The state after reset meets the two invariants, holds no session and no waiting command, runs no die, and every committed
object reads as its factory default. -/
def Obligations.ResetIsSound : Prop :=
  State.reset.ConfigCanonical ∧ State.reset.ConfigFits ∧ State.reset.pending = [] ∧ State.reset.sessions = [] ∧
  State.reset.flyRuns = false ∧ State.reset.now = 0 ∧ ∀ k, State.reset.cf k = objDefault k

/-- R38, R39, R40, R62, R354, for one request of each of many families. While requests are not taken nothing happens; without an
open session the request fails with no session; in Dipped it waits in its session's queue, with CORES voted for, or is answered
busy when sixteen wait; and with a role below the one it needs it fails with role too low. -/
def Obligations.RequestsAreGuarded : Prop :=
  ∀ (h : Nat) (n : Fin 24) (f : Fin 4) (q : Fin 40) (a : BitVec 8) (v : BitVec 16) (s : State),
    ∀ c ∈ [(Instr.heartbeat h v, Role.host), (.hostReleaseAll h, .host), (.loanRelease h a, .maker), (.gdFaultClear h n, .host),
      (.gdDiagRun h n, .service), (.fanClear h f, .host), (.ppRelearn h q, .service), (.nbRun h, .service), (.groupQuery h v, .host)],
    (s.takesRequests = false → exec c.1 s = .next s) ∧
    (s.takesRequests = true → s.session? h = none → exec c.1 s = .next { s with reply := { status := .noSession } }) ∧
    (∀ x, s.takesRequests = true → s.session? h = some x → s.coresRun = false →
      (x.queue.length < 16 → ∃ t b, exec c.1 s = .next t ∧
        t = ((s.asked x).setSession { s.heard x with queue := x.queue ++ [{ transaction := 65536, payload := b }] }).placeVotes 2 1) ∧
      (16 ≤ x.queue.length → exec c.1 s = .next { s.asked x with reply := { status := .busy } })) ∧
    (∀ x, s.takesRequests = true → s.coresRun = true → s.session? h = some x → x.role.rank < c.2.rank →
      exec c.1 s = .next { s.asked x with reply := { status := .roleTooLow } })

/-- R15, R16, R22–R24, R463, each command where its conditions hold. A die-link word that was taken before is discarded and
counted; the next word of its direction is applied: a command word's value becomes the last applied of its output, a measurement
word's sample the latest of its instance. A lane that fails leaves its traffic and the clock to the other. A failed lane counts
the tests it passes and returns to service with the sixteenth in a row. Lock starts the timebase at 0; loss of lock puts the
hoist safe state on the outputs and the Fly die into reset, with the cause 4 of the start that will follow; loss of the
forwarded clock applies the hoist safe state and leaves the Fly die's times alone; a lock time-out changes nothing. A period of
low-frequency mode adds 3,051 ticks and the accumulator's carry. Completes: dieLinkWord, laneFailover, laneRetest, pllLock,
pllUnlock, forwardedClockLoss, pllLockTimeout, lfPeriod. -/
def Obligations.ClocksAndDieLinkDoAsStated : Prop :=
  (∀ (l : Fin 2) (seq : BitVec 32) (i : Fin 256) (v : Int) (s : State), s.flyRuns = true → (s.lane l).failed = false →
    seq.toNat < s.link.toFly.next →
    exec (.dieLinkWord l seq (.measurement i v)) s =
      .next { s with link := { s.link with duplicates := s.link.duplicates + 1 } }) ∧
  (∀ (l : Fin 2) (seq : BitVec 32) (i : Fin 256) (v : Int) (s : State), s.flyRuns = true → (s.lane l).failed = false →
    s.link.toFly = { next := seq.toNat } →
    exec (.dieLinkWord l seq (.measurement i v)) s =
      .next { s with meas := s.meas.write 0 i.val v, link := { s.link with toFly := { next := seq.toNat + 1 } } }) ∧
  (∀ (l : Fin 2) (seq : BitVec 32) (sig : BitVec 24) (v : BitVec 16) (s : State), s.flyRuns = true →
    (s.lane l).failed = false → s.link.toHoist = { next := seq.toNat } →
    ∃ t, exec (.dieLinkWord l seq (.command sig v)) s = .next t ∧ t.link.commands.get? sig.toNat = some v.toNat ∧
      t.link.toHoist = { next := seq.toNat + 1 } ∧ t.link.duplicates = s.link.duplicates ∧
      State.Switches { s with link := t.link } t []) ∧
  (∀ (l : Fin 2) (s : State), s.flyRuns = true → (s.lane l).failed = false →
    ∃ t, exec (.laneFailover l) s = .next t ∧ (t.lane l).failed = true ∧ (t.lane l).passes = 0 ∧
      t.link.clockLane = (if s.link.clockLane = l then 1 - l.val else s.link.clockLane) ∧
      (∀ m, m ≠ l.val → t.lane m = s.lane m) ∧ ⟨s.now, 1309, l.val⟩ ∈ t.fab.inFlight ∧
      t = { s with obj := t.obj, fab := t.fab, link := t.link } ∧ s.ObjectsBut t [Obj.laneState, Obj.ftFlags, Obj.arbiter]) ∧
  (∀ (l : Fin 2) (s : State), s.flyRuns = true → (s.lane l).failed = true → (s.lane l).heldOut = false →
    s.cf Obj.laneReturn = 1 → s.passed (s.lane l).lastTest (sec 1) = true → (s.lane l).passes < 15 →
    exec (.laneRetest l true) s =
      .next (s.setLane l { s.lane l with passes := (s.lane l).passes + 1, lastTest := s.now })) ∧
  (∀ (l : Fin 2) (s : State), s.flyRuns = true → (s.lane l).failed = true → (s.lane l).heldOut = false →
    s.cf Obj.laneReturn = 1 → s.passed (s.lane l).lastTest (sec 1) = true → (s.lane l).passes = 15 →
    ∃ t, exec (.laneRetest l true) s = .next t ∧ (t.lane l).failed = false ∧
      ⟨s.now, 1310, l.val⟩ ∈ t.fab.inFlight ∧ t = { s with obj := t.obj, fab := t.fab, link := t.link } ∧
      s.ObjectsBut t [Obj.laneState, Obj.ftFlags, Obj.arbiter]) ∧
  (∀ s : State, s.boot.stage = .pllWait →
    exec .pllLock s =
      .next { s with boot := { s.boot with stage := .images }, tb := { s.tb with pllLocked := true, count := 0 } }) ∧
  (∀ s : State, s.flyRuns = true → s.tb.pllLocked = true →
    ∃ t, exec .pllUnlock s = .next t ∧ t.boot.stage = .flyReset ∧ t.boot.nextCause = 4 ∧ t.hoist.safe = true ∧
      t.tb.pllLocked = false ∧ t.sessions = [] ∧ t.cfg = s.cfg ∧ t.own = {} ∧ t.flyStarts = s.flyStarts) ∧
  (∀ s : State, s.flyRuns = true → s.tb.pllLocked = true → s.hoist.safe = false →
    ∃ t, exec .forwardedClockLoss s = .next t ∧ t.hoist.safe = true ∧ t.tb = s.tb ∧ t.boot = s.boot ∧ t.cfg = s.cfg) ∧
  (∀ s : State, exec .pllLockTimeout s = .next s) ∧
  (∀ s : State, s.tb.lfMode = true →
    ∃ t, exec .lfPeriod s = .next t ∧ t.tb.count = (s.tb.count + 3051 + (s.tb.lfAcc + 97) / 128) % 2 ^ 64 ∧
      t.tb.lfAcc = (s.tb.lfAcc + 97) % 128 ∧ t.tb.lfMode = !s.tb.lfLeaving ∧ t = { s with tb := t.tb })

/-- R37, R38, R40, R49: a read or write of an object in an open session of any role fails with the status of the first check it
does not pass, and changes nothing but that the session has been heard: the object and the subindex exist, the access, the role,
the type and length, the reserved bits, the range. (RULE_ENTRY objects ask for Maker where they concern class S, and
NOTICE_CAN_ID may read all ones; both are left to the meaning.) Completes: dictRead, dictWrite. -/
def Obligations.ReadsAndWritesAreCheckedInOrder : Prop :=
  (∀ (h : Nat) (i : BitVec 16) (b : BitVec 8) (s : State) (x : Session), s.Serves h .host x →
    let refuse (e : Status) := exec (.dictRead h i b) s = .next { s.asked x with reply := { status := e } }
    (descOf (key i.toNat 0) = none → refuse .noObject) ∧
    (descOf (key i.toNat 0) ≠ none → descOf (key i.toNat b.toNat) = none → refuse .noSubindex) ∧
    (∀ d, descOf (key i.toNat 0) ≠ none → descOf (key i.toNat b.toNat) = some d →
      (d.access = .wo → refuse .readOfWo) ∧
      (d.access ≠ .wo → x.role.rank < d.readRole.rank → refuse .roleTooLow) ∧
      (d.access ≠ .wo → d.readRole.rank ≤ x.role.rank → d.ty = .domain → refuse .typeError))) ∧
  (∀ (h : Nat) (i : BitVec 16) (b : BitVec 8) (data : List Byte) (s : State) (x : Session), s.Serves h .host x →
    let v := ofBytes (data.map (fun a => a.toNat))
    let refuse (e : Status) := exec (.dictWrite h i b data) s = .next { s.asked x with reply := { status := e } }
    (descOf (key i.toNat 0) = none → refuse .noObject) ∧
    (descOf (key i.toNat 0) ≠ none → descOf (key i.toNat b.toNat) = none → refuse .noSubindex) ∧
    (∀ d, descOf (key i.toNat 0) ≠ none → descOf (key i.toNat b.toNat) = some d →
      i.toNat < 0x7110 ∨ 0x8800 ≤ i.toNat →
      (d.access = .ro → refuse .writeOfRo) ∧
      (d.access ≠ .ro → x.role.rank < d.role.rank → refuse .roleTooLow) ∧
      (d.access ≠ .ro → d.role.rank ≤ x.role.rank → d.ty = .domain ∨ data.length ≠ d.ty.size → refuse .typeError) ∧
      (d.access ≠ .ro → d.role.rank ≤ x.role.rank → d.ty ≠ .domain → data.length = d.ty.size → Nat.land v d.rsvd ≠ 0 →
        refuse .reservedBit) ∧
      (d.access ≠ .ro → d.role.rank ≤ x.role.rank → d.ty ≠ .domain → data.length = d.ty.size → Nat.land v d.rsvd = 0 →
        State.rangeOk d v = false → refuse .valueRange)))

/-- R39, R49, R56, R57: what the dictionary's commands do where their checks pass. A read returns the bytes of the value (and
clears what reading clears); without a session it is served in the range 0x1000–0x10EF. A record is returned whole. A DOMAIN
read ends at DOM_SIZE; a write of CJ_BUFFER stands in the session's buffer. A write of a cfg object enters the session's pending
set and acts on nothing; a write of a per-session selector is taken at once. DOM_OFFSET is taken, and a hold ends after 10 s
without a write. A request frame without a session is carried out and answered in one response frame; one of a session that is
not open is dropped and counted. Completes: dictRead, readRecord, domainRead, domainWrite, cfgWrite, dictWrite, registerWrite,
domOffsetWrite, domainHoldTimeout, dictRequestFrame. -/
def Obligations.DictionaryCommandsDoAsStated : Prop :=
  (∀ (h : Nat) (i : BitVec 16) (b : BitVec 8) (s : State) (x : Session) (d : Desc), s.Serves h .host x →
    descOf (key i.toNat 0) ≠ none → descOf (key i.toNat b.toNat) = some d → d.access ≠ .wo →
    d.readRole.rank ≤ x.role.rank → d.ty ≠ .domain → key i.toNat b.toNat ≠ Obj.random →
    exec (.dictRead h i b) s = .next { (s.asked x).afterRead i.toNat b.toNat with
      reply := { status := .success, data := toBytes d.ty.size ((s.asked x).valueOf h 0 i.toNat b.toNat) } }) ∧
  (∀ (h : Nat) (i : BitVec 16) (s : State) (d : Desc), s.takesRequests = true → s.applied = true → s.coresRun = true →
    s.session? h = none → 0x1000 ≤ i.toNat → i.toNat ≤ 0x10EF → descOf (key i.toNat 0) = some d →
    (∀ b, b ≤ d.dflt → ∃ e, descOf (key i.toNat b) = some e ∧ e.access ≠ .wo ∧ e.readRole = .host ∧ e.ty ≠ .domain) →
    exec (.readRecord h i) s = .next { s with reply :=
      { status := .success
        data := (List.range (d.dflt + 1)).flatMap fun b => match descOf (key i.toNat b) with
          | some e => toBytes e.ty.size (s.valueOf 0 0 i.toNat b)
          | none => [] } }) ∧
  (∀ (h : Nat) (i : BitVec 16) (off : BitVec 64) (n : BitVec 16) (s : State) (x : Session) (d : Desc), s.Serves h .host x →
    State.readable x.role i.toNat 3 = .ok d → d.ty = .domain → n.toNat ≤ 1024 → i ≠ 0x6101 →
    exec (.domainRead h i off n) s = .next { s.asked x with
      reply := { status := .success
                 data := (s.asked x).domBytes h i.toNat off.toNat (min n.toNat ((s.asked x).domSize h i.toNat - off.toNat)) } }) ∧
  (∀ (h : Nat) (off : BitVec 64) (data : List Byte) (s : State) (x : Session), s.Serves h .host x →
    off.toNat ≤ x.buffer.length → data.length ≤ 1024 → off.toNat + data.length ≤ 65536 →
    (s.asked x).heldByOther 0x3201 h = false →
    ∃ t y, exec (.domainWrite h 0x3201 off data) s = .next t ∧ t.reply = { status := .success } ∧ t.session? h = some y ∧
      y.buffer = x.buffer.take off.toNat ++ data.map (fun a => a.toNat) ++ x.buffer.drop (off.toNat + data.length) ∧
      y.pendingSet = x.pendingSet ∧ y.role = x.role ∧ bitAt (t.sob h (key 0x3201 4)) 0 = true ∧
      bitAt (t.sob h (key 0x3201 4)) 1 = false ∧
      t.holds = s.holds.put (State.holdKey 0x3201 h) { holder := h, lastWrite := s.now } ∧
      t = { s with reply := t.reply, sessions := t.sessions, holds := t.holds }) ∧
  (∀ (h : Nat) (i : BitVec 16) (b : BitVec 8) (data : List Byte) (s : State) (x : Session) (d : Desc), s.Serves h .host x →
    let k := key i.toNat b.toNat
    let v := ofBytes (data.map (fun a => a.toNat))
    State.writable (s.asked x) x.role i.toNat b.toNat data.length v = .ok d → d.kind = .cfg →
    (s.asked x).pendingUsed + State.pendingBytes k ≤ 512 * 1024 → ∀ c, c = Instr.cfgWrite h i b data ∨ c = .dictWrite h i b data →
    ∃ t y, exec c s = .next t ∧ t.reply = { status := .success } ∧ t.session? h = some y ∧
      (∃ p ∈ y.pendingSet, p.key = k ∧ p.value = v) ∧
      (∀ p ∈ x.pendingSet, p.key ≠ k → ∃ q ∈ y.pendingSet, q.key = p.key ∧ q.value = p.value) ∧
      t = { s with reply := t.reply, sessions := t.sessions }) ∧
  (∀ (h : Nat) (data : List Byte) (s : State) (x : Session), s.Serves h .host x →
    let v := ofBytes (data.map (fun a => a.toNat))
    data.length = 4 → State.sigAllowed .adq v = true →
    exec (.registerWrite h 0x2220 1 data) s =
      .next ((s.served x).setSession { s.heard x with regs := x.regs.write (objDefault Obj.adqSignal) Obj.adqSignal v })) ∧
  (∀ (h : Nat) (i : BitVec 16) (off : BitVec 64) (s : State) (x : Session) (d e : Desc), s.Serves h .host x →
    State.domainAt i.toNat = .ok d → (s.asked x).writable x.role i.toNat 2 8 off.toNat = .ok e → e.kind = .cmd →
    off.toNat ≠ 2 ^ 64 - 1 →
    exec (.domOffsetWrite h i off) s = .next ((s.served x).setSession { s.heard x with
      regs := x.regs.write (objDefault (key i.toNat 2)) (key i.toNat 2) off.toNat })) ∧
  (∀ (i : BitVec 16) (s : State), Table.rises 0 s.holds = true →
    ∃ t, exec (.domainHoldTimeout i) s = .next t ∧
      (∀ k y, s.holds.get? k = some y →
        t.holds.get? k = if k % 65536 = i.toNat ∧ s.passed y.lastWrite (sec 10) = true then none else some y) ∧
      (∀ y, i ≠ 0x3201 → s.holds.get? i.toNat = some y → s.passed y.lastWrite (sec 10) = true →
        t.bit (key i.toNat 4) 0 = false) ∧
      (∀ h x y, i = 0x3201 → s.session? h = some x → s.holds.get? (State.holdKey 0x3201 h) = some y →
        s.passed y.lastWrite (sec 10) = true → bitAt (t.sob h (key 0x3201 4)) 0 = false) ∧
      t = { s with holds := t.holds, obj := t.obj, sessions := t.sessions } ∧ s.ObjectsBut t [key i.toNat 4]) ∧
  (∀ (tr : Nat) (payload : List Nat) (f : List Byte) (s : State), tr < 65536 → payload.length < 65536 →
    f.map (fun a => a.toNat) = State.frameBytes 1 tr 0 0 payload → s.takesRequests = true → s.applied = true →
    s.coresRun = true → s.halyardServes = true →
    let r := s.runPayload 0 0 payload
    let answer := State.frameBytes 2 tr 0 0 (r.2.flatMap State.entryBytes)
    r.1.session? 0 = none →
    exec (.dictRequestFrame f) s = .next (State.halSend
      { r.1 with reply := { status := (r.2.getLast?.map Reply.status).getD .protocolError, data := answer } }
      (r.1.dictFrame .answer .requester answer))) ∧
  (∀ (tr h fresh : Nat) (payload mac : List Nat) (f : List Byte) (s : State), tr < 65536 → 0 < h → h < 65536 →
    payload.length < 65536 → f.map (fun a => a.toNat) = State.frameBytes 1 tr h fresh payload ++ mac →
    s.takesRequests = true → s.applied = true → s.halyardServes = true → s.session? h = none →
    exec (.dictRequestFrame f) s = .next { s with hal := { s.hal with authDrops := s.hal.authDrops + 1 } })

/-- R42–R45. A commit without conflict is accepted: success, COMMIT_STATUS 1, the set leaves the session and waits, and nothing
of the configuration changes yet. With a conflict it fails: COMMIT_STATUS 4, nothing is accepted and the pending values are
kept. COMMIT_CMD 2 empties the set. At its place between two sweeps the first accepted commit either takes effect as a whole or,
where an object fails, applies nothing. When the copies have been written, all three hold its generation and its configuration,
and COMMIT_GENERATION names it; a failed write leaves them as they were, shows COMMIT_STATUS 6 and enters the fault log (R41;
the entry's place is the model's choice, assumption 99). Completes: commit, discardPendingSet, commitApply, commitDurable. -/
def Obligations.CommitsDoAsStated : Prop :=
  (∀ (h : Nat) (s : State) (x : Session), s.Serves h .host x → x.pendingSet.any ((s.asked x).inConflict h) = false →
    ∃ t y j, exec (.commit h) s = .next t ∧ t.reply = { status := .success } ∧ t.session? h = some y ∧ y.pendingSet = [] ∧
      t.sob h Obj.commitStatus = 1 ∧ t.commits = s.commits ++ [j] ∧ j.set = x.pendingSet ∧ j.session = h ∧
      j.generation = none ∧ y.lastCommit = j.serial ∧ j.serial = s.commitSerial + 1 ∧
      t = { s with reply := t.reply, sessions := t.sessions, commits := t.commits, marks := t.marks
                   commitSerial := t.commitSerial }) ∧
  (∀ (h : Nat) (s : State) (x : Session), s.Serves h .host x → x.pendingSet.any ((s.asked x).inConflict h) = true →
    ∃ t y, exec (.commit h) s = .next t ∧ t.reply = { status := .commitConflict } ∧ t.session? h = some y ∧
      y.pendingSet.map (fun p => (p.key, p.value, p.first)) = x.pendingSet.map (fun p => (p.key, p.value, p.first)) ∧
      t.sob h Obj.commitStatus = 4 ∧ t = { s with reply := t.reply, sessions := t.sessions }) ∧
  (∀ (h : Nat) (s : State) (x : Session), s.Serves h .host x →
    exec (.discardPendingSet h) s = .next ((s.served x).setSession { s.heard x with pendingSet := [] })) ∧
  (∀ (s : State) (done rest : List CommitJob) (j : CommitJob), s.nextCommit = some (done, j, rest) → s.mayApply = true →
    j.set ≠ [] → s.upd.migrated = none → s.failObject (State.withSet s.cfg j.set) = none →
    ∃ t k, exec .commitApply s = .next t ∧ t.cfg = State.withSet s.cfg j.set ∧
      t.commits = done ++ k :: rest ∧ k.set = j.set ∧ k.regs = t.cfg ∧ k.generation.isSome = true ∧
      t.ft.copies = s.ft.copies) ∧
  (∀ (s : State) (done rest : List CommitJob) (j : CommitJob) (k : Nat), s.nextCommit = some (done, j, rest) →
    s.mayApply = true → j.set ≠ [] → s.upd.migrated = none → s.failObject (State.withSet s.cfg j.set) = some k →
    ∃ t, exec .commitApply s = .next t ∧ t.commits = done ++ rest ∧
      (∀ x, s.session? j.session = some x → x.lastCommit = j.serial →
        t.sob j.session Obj.commitStatus = 5 ∧ t.sob j.session Obj.commitFailObject = State.objectOfKey k) ∧
      t = { s with commits := t.commits, sessions := t.sessions }) ∧
  (∀ (s : State) (rest : List CommitJob) (j : CommitJob) (g : Nat), s.commits = j :: rest → j.generation = some g →
    j.set ≠ [] →
    ∃ t, exec (.commitDurable true) s = .next t ∧ t.commits = rest ∧ t.ob Obj.commitGeneration = g ∧
      (∀ c, c < 3 → (t.copyOf c).regs = j.regs ∧ (t.copyOf c).generation = g ∧ (t.copyOf c).intact = true ∧
        t.ob (Obj.cfgGen c) = g) ∧ t.cfg = s.cfg) ∧
  (∀ (s : State) (rest : List CommitJob) (j : CommitJob) (g : Nat), s.commits = j :: rest → j.generation = some g →
    ∃ t, exec (.commitDurable false) s = .next t ∧ t.commits = rest ∧
      (∀ x, s.session? j.session = some x → x.lastCommit = j.serial → t.sob j.session Obj.commitStatus = 6) ∧
      (∃ e, t.flog.get? (s.ob Obj.flogSeq % State.flogEntries) = some e ∧ e.severity = .degraded ∧ e.level = 3 ∧ e.tbase = s.now) ∧
      t = { s with commits := t.commits, sessions := t.sessions, flog := t.flog, obj := t.obj } ∧
      s.ObjectsBut t [Obj.flogSeq, Obj.flogOverwritten])

/-- R53–R55, R62, on a channel whose SDO server runs: the running transfer, what the server answers, and that nothing else
changes but the channel's pending frames. An expedited download aborts; an expedited upload of a readable object of at most 4
bytes in the range that needs no session answers its bytes; a new request ends one of the channel that waits; segments and
blocks move the transfer on; a network indication is answered with protocol error and leaves the transfer; a segment missing for
1 s aborts it. Completes: sdoExpeditedDownload, sdoExpeditedUpload, sdoSegmentedDownload, sdoSegmentedUpload, sdoBlockDownload,
sdoBlockUpload, sdoNetworkIndication, sdoTransferTimeout. -/
def Obligations.SdoServersDoAsStated : Prop :=
  (∀ (c : Fin 8) (i : BitVec 16) (b : BitVec 8) (data : List Byte) (s : State), s.sdoRuns c = true →
    ∃ t, exec (.sdoExpeditedDownload c i b data) s = .next t ∧ (t.sdoOf c).transfer = none ∧
      (t.sdoOf c).abort = 0x06010000 ∧ (∀ d, d ≠ c.val → t.sdoOf d = s.sdoOf d) ∧ t.anon = (s.sdoBegin c).anon ∧
      t.sessions = (s.sdoBegin c).sessions ∧
      t = { s with sdo := t.sdo, can := t.can, anon := t.anon, sessions := t.sessions }) ∧
  (∀ (c : Fin 8) (i : BitVec 16) (b : BitVec 8) (d : Desc) (s : State), s.sdoRuns c = true → s.coresRun = true →
    0x1000 ≤ i.toNat → i.toNat ≤ 0x10EF → descOf (key i.toNat 0) ≠ none → descOf (key i.toNat b.toNat) = some d →
    d.ty.size ≤ 4 → d.access ≠ .wo → d.readRole = .host → d.ty ≠ .domain →
    ∃ t, exec (.sdoExpeditedUpload c i b) s = .next t ∧ (t.sdoOf c).transfer = none ∧ (t.sdoOf c).abort = 0 ∧
      (t.sdoOf c).answer = toBytes d.ty.size (({ s.sdoBegin c with reply := {} } : State).valueOf 0 (1 + c.val) i.toNat b.toNat) ∧
      (∀ e, e ≠ c.val → t.sdoOf e = s.sdoOf e) ∧ t.anon = (s.sdoBegin c).anon ∧ t.sessions = (s.sdoBegin c).sessions ∧
      t = { s with sdo := t.sdo, can := t.can, reply := t.reply, anon := t.anon, sessions := t.sessions }) ∧
  (∀ (c : Fin 8) (i : BitVec 16) (b : BitVec 8) (z : BitVec 32) (s : State), s.sdoRuns c = true → z.toNat ≤ 65550 →
    ∃ t, exec (.sdoSegmentedDownload c (.initiate i b (some z))) s = .next t ∧ (t.sdoOf c).abort = 0 ∧
      (t.sdoOf c).transfer = some { service := .segDownload, key := key i.toNat b.toNat, size := some z.toNat, lastFrame := s.now } ∧
      (∀ e, e ≠ c.val → t.sdoOf e = s.sdoOf e) ∧ t.anon = (s.sdoBegin c).anon ∧ t.sessions = (s.sdoBegin c).sessions ∧
      t = { s with sdo := t.sdo, can := t.can, anon := t.anon, sessions := t.sessions }) ∧
  (∀ (c : Fin 8) (s : State), (s.sdoBegin c).anon = s.anon.filter (fun r => r.sdo ≠ some c.val) ∧
    (s.sdoBegin c).sessions = s.sessions.map (fun y => { y with queue := y.queue.filter (fun r => r.sdo ≠ some c.val) })) ∧
  (∀ (c : Fin 8) (g : Bool) (data : List Byte) (s : State) (r : SdoTransfer), s.sdoRuns c = true →
    (s.sdoOf c).transfer = some r → r.service = .segDownload → r.toggle = g → data.length ≤ 7 →
    State.sdoFits r (r.data.length + data.length) = true →
    ∃ t, exec (.sdoSegmentedDownload c (.segment g false data)) s = .next t ∧ (t.sdoOf c).abort = 0 ∧
      (t.sdoOf c).transfer = some { r with data := r.data ++ data.map (fun a => a.toNat), toggle := !g, lastFrame := s.now } ∧
      (∀ e, e ≠ c.val → t.sdoOf e = s.sdoOf e) ∧ t = { s with sdo := t.sdo, can := t.can }) ∧
  (∀ (c : Fin 8) (g : Bool) (l : Bool) (data : List Byte) (s : State) (r : SdoTransfer), s.sdoRuns c = true →
    (s.sdoOf c).transfer = some r → r.service = .segUpload → r.toggle = g → 7 < r.data.length →
    ∃ t, exec (.sdoSegmentedUpload c (.segment g l data)) s = .next t ∧ (t.sdoOf c).abort = 0 ∧
      (t.sdoOf c).answer = r.data.take 7 ∧
      (t.sdoOf c).transfer = some { r with data := r.data.drop 7, toggle := !g, lastFrame := s.now } ∧
      (∀ e, e ≠ c.val → t.sdoOf e = s.sdoOf e) ∧ t = { s with sdo := t.sdo, can := t.can }) ∧
  (∀ (c : Fin 8) (q : BitVec 8) (data : List Byte) (s : State) (r : SdoTransfer), s.sdoRuns c = true →
    (s.sdoOf c).transfer = some r → r.service = .blkDownload → r.toggle = false → data.length ≤ 7 →
    q.toNat = r.seqno + 1 → q.toNat < 127 → State.sdoFits r (r.data.length + data.length) = true →
    ∃ t, exec (.sdoBlockDownload c (.segment q false data)) s = .next t ∧ (t.sdoOf c).abort = 0 ∧
      (t.sdoOf c).transfer = some { r with data := r.data ++ data.map (fun a => a.toNat), seqno := q.toNat, lastFrame := s.now } ∧
      (∀ e, e ≠ c.val → t.sdoOf e = s.sdoOf e) ∧ t = { s with sdo := t.sdo, can := t.can }) ∧
  (∀ (c : Fin 8) (q n : BitVec 8) (s : State) (r : SdoTransfer), s.sdoRuns c = true →
    (s.sdoOf c).transfer = some r → r.service = .blkUpload → r.toggle = false → q.toNat ≤ r.seqno →
    1 ≤ n.toNat → n.toNat ≤ 127 → 7 * q.toNat < r.data.length →
    ∃ t, exec (.sdoBlockUpload c (.ack q n)) s = .next t ∧ (t.sdoOf c).abort = 0 ∧
      (t.sdoOf c).answer = (r.data.drop (7 * q.toNat)).take (7 * n.toNat) ∧
      (∃ u, (t.sdoOf c).transfer = some u ∧ u.data = r.data.drop (7 * q.toNat) ∧ u.blockSize = n.toNat ∧ u.lastFrame = s.now) ∧
      (∀ e, e ≠ c.val → t.sdoOf e = s.sdoOf e) ∧ t = { s with sdo := t.sdo, can := t.can }) ∧
  (∀ (c : Fin 8) (s : State), s.sdoRuns c = true →
    ∃ t, exec (.sdoNetworkIndication c) s = .next t ∧ (t.sdoOf c).abort = 0x05040001 ∧
      (t.sdoOf c).transfer = (s.sdoOf c).transfer ∧ (∀ e, e ≠ c.val → t.sdoOf e = s.sdoOf e) ∧
      t = { s with sdo := t.sdo, can := t.can }) ∧
  (∀ (c : Fin 8) (s : State) (r : SdoTransfer), (s.sdoOf c).transfer = some r → s.passed r.lastFrame (sec 1) = true →
    ∃ t, exec (.sdoTransferTimeout c) s = .next t ∧ (t.sdoOf c).abort = 0x05040000 ∧ (t.sdoOf c).transfer = none ∧
      (∀ e, e ≠ c.val → t.sdoOf e = s.sdoOf e) ∧ t = { s with sdo := t.sdo, can := t.can })

/-- R58–R61, for maps that run. A valid halyard RX frame of the bound session is counted, ends STALE and waits with all its
values for the next sweep boundary; one whose FRESHNESS is not above the last is rejected and changes no value. A TX frame
carries what is sampled then, with the next FRESHNESS; it is sent when the halyard lets it, else it waits. PI_TIMEOUT without a
valid frame sets STALE. Completes: piRxFrame, piTxPeriod, piRxTimeout. -/
def Obligations.ProcessImagesDoAsStated : Prop :=
  (∀ (m : Fin 64) (fresh : BitVec 32) (data : List Byte) (mac : BitVec 128) (s : State) (y : Session),
    s.mapRuns m 0 = true → s.halyardServes = true → s.cf (Obj.piPath m) = 0 → s.sweepsRun = true → s.pathOn 0 = true →
    s.session? (s.ob (Obj.piSession m)) = some y → (s.mapOf m).rxFresh < fresh.toNat →
    let d := data.map (fun a => a.toNat)
    toBytes 16 mac.toNat = toBytes 16 (Config.cmac y.key (s.mapMacInput 1 m y.handle fresh.toNat d)).toNat →
    data.length = 10 + ceilDiv (s.mapBits m) 8 → d.take 2 = [m.val, 0] → ofBytes (d.drop 10) / 2 ^ s.mapBits m = 0 →
    ∃ t, exec (.piRxFrame m y.handle fresh data mac) s = .next t ∧
      t.mapOf m = { s.mapOf m with rxFresh := fresh.toNat, last := s.now, waiting := some (ofBytes (d.drop 10)) } ∧
      t.ob (Obj.piFrameCount m) = (s.ob (Obj.piFrameCount m) + 1) % 2 ^ 32 ∧ t.bit (Obj.piStatus m) 6 = false ∧
      t.sessions = (s.setSession { y with last := s.now }).sessions ∧
      t = { s with obj := t.obj, maps := t.maps, sessions := t.sessions } ∧
      s.ObjectsBut t [Obj.piFrameCount m, Obj.piStatus m]) ∧
  (∀ (m : Fin 64) (sess : Nat) (fresh : BitVec 32) (data : List Byte) (mac : BitVec 128) (s : State) (y : Session),
    s.mapRuns m 0 = true → s.halyardServes = true → s.cf (Obj.piPath m) = 0 →
    s.session? (s.ob (Obj.piSession m)) = some y → fresh.toNat ≤ (s.mapOf m).rxFresh →
    ∃ t, exec (.piRxFrame m sess fresh data mac) s = .next t ∧
      t.ob (Obj.piRejectCount m) = (s.ob (Obj.piRejectCount m) + 1) % 2 ^ 32 ∧ t.bit (Obj.piStatus m) 5 = true ∧
      t.maps = s.maps ∧ s.ObjectsBut t [Obj.piRejectCount m, Obj.piStatus m]) ∧
  (∀ (m : Fin 64) (s : State), s.mapRuns m 1 = true → (!s.sweepsRun || s.eng.segment = 0) = true → s.mapDue m = true →
    s.cf (Obj.piAuth m) = 0 → s.cf (Obj.piPath m) = 0 → (s.mapOf m).txFresh + 1 < 2 ^ 32 → s.hal.txQueue = [] →
    s.halyardTalks = true →
    let f := s.mapHalFrame m (s.mapSample m) ((s.mapOf m).txFresh + 1)
    ∃ t, exec (.piTxPeriod m) s = .next t ∧
      t.mapOf m = { s.mapOf m with last := s.now, txLast := s.mapSample m, txFresh := (s.mapOf m).txFresh + 1 } ∧
      t = { s with obj := t.obj, maps := t.maps, hal := t.hal } ∧
      (s.halMay f = true → t.hal.txSent = some f ∧ t.hal.txQueue = [] ∧
        t.ob (Obj.piFrameCount m) = (s.ob (Obj.piFrameCount m) + 1) % 2 ^ 32 ∧
        t.ob Obj.txFrames = (s.ob Obj.txFrames + 1) % 2 ^ 32 ∧ s.ObjectsBut t [Obj.piFrameCount m, Obj.txFrames]) ∧
      (s.halMay f = false → t.hal = { s.hal with txQueue := [f] } ∧ t.obj = s.obj)) ∧
  (∀ (m : Fin 64) (s : State), s.mapRuns m 0 = true → s.cf (Obj.piTimeout m) ≠ 0 →
    s.passed (max (s.mapOf m).last s.boot.appliedAt) (ms (s.cf (Obj.piTimeout m))) = true →
    ∃ t, exec (.piRxTimeout m) s = .next t ∧ t.bit (Obj.piStatus m) 6 = true ∧ s.Only t [Obj.piStatus m])

/-- R65–R69, R71, R76, R77. An address burst carries the address plus one. An accepted code of 1 to 16 gives the address,
confirmed where it is the stored one and pending otherwise; a different code afterwards posts EV1459 and the address stays.
Without a code the stored address is taken; after a code above 16 none is, and ADDR_STATE is 4. ADDR_CONFIRM with the own
address confirms and stores it. A unit without an address sends no presence frame; one that may send counts its chain counter up
and the frame carries it, and a frame that may not go yet waits. The link's state and PLCA status follow their events; with the
first beacon the frames that waited go out. A notice leaves the queue oldest first; without a session on the halyard it goes out
under session 0, else under the session with its next FRESHNESS. R69, R70, R72, at a unit that hears the halyard and whose own
address is another. A chain frame that is not newer than the last from its address is counted and changes nothing else. A valid
pending presence makes an empty entry pending, with EV1456 and a capability request; a valid confirmed one makes it present; a
detached entry takes back the holder it knows, and waits, reserved, for another; a pending entry becomes present when its new
holder is confirmed. Silence for PRESENCE_TIMEOUT detaches an entry. A frame of the own address with another identity puts the
unit into conflict. A capability request naming the unit is answered; a response enters the registry; a missing one is asked for
again, and after the fourth the entry is marked. Completes: addrBurstSend, addrCodeAccept, addrWaitExpiry, addrConfirm,
presenceSend, plcaBeaconLoss, plcaBeaconResume, halyardLinkChange, noticeSend, presenceReceive, presenceTimeout,
capabilityRequest, capabilityResponse, capabilityRetry. -/
def Obligations.AddressesLinkAndRegistryDoAsStated : Prop :=
  ((∀ s : State, s.boot.stage ≠ .off → s.address ≠ 0 → s.ob Obj.pwrState ≠ pwrFurled →
    ∃ t, exec .addrBurstSend s = .next t ∧ t.hal.lastPulses = s.address + 1 ∧ t.hal.burstsSent = s.hal.burstsSent + 1 ∧
      t = { s with hal := t.hal }) ∧
  (∀ (n : Nat) (s : State), s.boot.stage ≠ .off → s.hal.addrTaken = false → 1 ≤ n → n ≤ 16 →
    ∃ t, exec (.addrCodeAccept false n) s = .next t ∧ t.hal.addrTaken = true ∧ t.ob Obj.unitAddress = n ∧
      t.ob Obj.addrSource = 1 ∧ t.ob Obj.addrState = (if s.ob Obj.storedAddress = n then 2 else 1) ∧
      t = { s with obj := t.obj, hal := t.hal }) ∧
  (∀ (n : Nat) (s : State), s.boot.stage ≠ .off → s.hal.addrTaken = true → s.address ≠ 0 → 0 < n → n < 256 →
    n ≠ s.ob Obj.addrInCode →
    ∃ t, exec (.addrCodeAccept false n) s = .next t ∧ t.ob Obj.addrInCode = n ∧ ⟨s.now, 1459, n⟩ ∈ t.fab.inFlight ∧
      t = { s with obj := t.obj, hal := t.hal, fab := t.fab } ∧ s.ObjectsBut t [Obj.addrInCode]) ∧
  (∀ s : State, s.boot.stage ≠ .off → s.hal.addrTaken = false → s.hal.lastBurst ≠ 0 ∨ s.ob Obj.storedAddress = 0 →
    ∃ t, exec .addrWaitExpiry s = .next t ∧ t.hal = { s.hal with addrTaken := true } ∧
      t.ob Obj.addrState = (if 16 < s.hal.lastBurst then 4 else 0) ∧ t = { s with obj := t.obj, hal := t.hal } ∧
      s.ObjectsBut t [Obj.addrState]) ∧
  (∀ s : State, s.boot.stage ≠ .off → s.hal.addrTaken = false → s.hal.lastBurst = 0 → s.ob Obj.storedAddress ≠ 0 →
    ∃ t, exec .addrWaitExpiry s = .next t ∧ t.hal.addrTaken = true ∧ t.ob Obj.unitAddress = s.ob Obj.storedAddress ∧
      t.ob Obj.addrSource = 2 ∧ t.ob Obj.addrState = 2 ∧ t = { s with obj := t.obj, hal := t.hal }) ∧
  (∀ (h : Nat) (a : BitVec 8) (s : State) (x : Session), s.Serves h .service x → s.ob Obj.addrState = 1 →
    a.toNat = s.address →
    ∃ t, exec (.addrConfirm h a) s = .next t ∧ t.reply = { status := .success } ∧ t.ob Obj.addrState = 2 ∧
      t.ob Obj.storedAddress = a.toNat ∧ t = { s.served x with obj := t.obj, hal := t.hal }) ∧
  (∀ s : State, s.address = 0 → s.applied = true →
    ∃ t, exec .presenceSend s = .next t ∧ t.hal = s.hal ∧ t = { s with arb := t.arb, fab := t.fab }) ∧
  (∀ s : State, s.halyardTalks = true → s.hal.txQueue = [] →
    ∃ t f g, exec .presenceSend s = .next t ∧ t.hal.sent = some f ∧ f.address = s.address ∧
      f.addrState = (if s.hal.reannounce then 1 else s.ob Obj.addrState) ∧ f.fresh = s.hal.chainCounter + 1 ∧
      t.hal.chainCounter = s.hal.chainCounter + 1 ∧ t.hal.reannounce = false ∧ f.budget = t.budget ∧
      g = s.chainFrame .presence
        (State.presenceBytes s.address f.addrState f.fresh f.idTag f.capDigest f.budget ++ toBytes 8 f.mac ++ [0, 0]) ∧
      t = { s with obj := t.obj, hal := t.hal, arb := t.arb, fab := t.fab } ∧
      (s.halMay g = true → t.hal.txSent = some g ∧ t.hal.txQueue = [] ∧
        t.ob Obj.txFrames = (s.ob Obj.txFrames + 1) % 2 ^ 32 ∧ s.ObjectsBut t [Obj.txFrames]) ∧
      (s.halMay g = false → t.hal.txQueue = [g] ∧ t.obj = s.obj)) ∧
  (∀ s : State, s.halyardHears = true → s.bit Obj.linkStatus 1 = true →
    ∃ t, exec .plcaBeaconLoss s = .next t ∧ t.bit Obj.linkStatus 1 = false ∧ (s.post 1458 0).Only t [Obj.linkStatus]) ∧
  (∀ s : State, s.halyardHears = true → s.hal.txQueue = [] →
    ∃ t, exec .plcaBeaconResume s = .next t ∧ t.bit Obj.linkStatus 1 = true ∧ s.Only t [Obj.linkStatus]) ∧
  (∀ (g : HalFrame) (s : State), s.halyardHears = true → s.hal.txQueue = [g] →
    (s.setBit Obj.linkStatus 1 true).halMay g = true →
    ∃ t, exec .plcaBeaconResume s = .next t ∧ t.bit Obj.linkStatus 1 = true ∧ t.hal.txSent = some g ∧ t.hal.txQueue = [] ∧
      t = { s with obj := t.obj, hal := t.hal }) ∧
  (∀ (up : Bool) (s : State), s.halyardHears = true → s.bit Obj.linkStatus 0 = !up →
    ∃ t, exec (.halyardLinkChange up) s = .next t ∧ t.bit Obj.linkStatus 0 = up ∧
      (s.post 1466 (if up then 1 else 0)).Only t [Obj.linkStatus]) ∧
  (∀ (o : Occ) (rest : List Occ) (s : State), s.hal.notices = o :: rest → s.noticeSession = none →
    let g := s.dictFrame .notice s.toHost (State.frameBytes 4 0 0 0 (State.noticeBytes o))
    s.halMay g = true →
    ∃ t, exec .noticeSend s = .next t ∧
      t.hal = { s.hal with notices := rest, noticeSent := some (o, 0), txSent := some g, txLoad := t.hal.txLoad } ∧
      t.ob Obj.txFrames = (s.ob Obj.txFrames + 1) % 2 ^ 32 ∧ t = { s with obj := t.obj, hal := t.hal } ∧
      s.ObjectsBut t [Obj.txFrames]) ∧
  (∀ (o : Occ) (rest : List Occ) (x : Session) (f : Nat) (s : State), s.hal.notices = o :: rest → s.noticeSession = some x →
    State.nextFresh x 0 = some f →
    let b := State.frameBytes 4 0 x.handle f (State.noticeBytes o)
    let g := s.dictFrame .notice s.toHost (b ++ toBytes 16 (Config.cmac x.key (2 :: 0 :: b)).toNat)
    s.halMay g = true →
    ∃ t, exec .noticeSend s = .next t ∧
      t.hal = { s.hal with notices := rest, noticeSent := some (o, x.handle), txSent := some g, txLoad := t.hal.txLoad } ∧
      t.sessions = (s.setSession { x with tx := x.tx.write 0 0 f }).sessions ∧
      t.ob Obj.txFrames = (s.ob Obj.txFrames + 1) % 2 ^ 32 ∧
      t = { s with obj := t.obj, hal := t.hal, sessions := t.sessions } ∧ s.ObjectsBut t [Obj.txFrames])) ∧
  ((∀ (f : ChainPresence) (s : State), s.halyardHears = true → f.header.address.val ≠ 0 →
    f.header.fresh.toNat ≤ (s.partner f.header.address).fresh →
    exec (.presenceReceive f) s = .next (s.bump Obj.chainRejects)) ∧
  (∀ (f : ChainPresence) (s : State), let a := f.header.address.val
    s.halyardHears = true → a ≠ 0 → a ≠ s.address → s.chainAccepted f.header (State.presenceBytes a f.addrState.toNat
      f.header.fresh.toNat f.idTag.toNat f.capDigest.toNat f.budget.toNat) = true →
    ∃ t, exec (.presenceReceive f) s = .next t ∧ t.ob (Obj.ptLastSeen a) = s.now % 2 ^ 64 ∧
      (t.partner a).fresh = f.header.fresh.toNat ∧ (t.partner a).budget = f.budget.toNat ∧
      (s.ob (Obj.ptState a) = 0 → f.addrState = 1 →
        t.ob (Obj.ptState a) = 3 ∧ ⟨s.now, 1456, a⟩ ∈ t.fab.inFlight ∧
        (s.halyardTalks = true → (t.partner a).capTries = 1)) ∧
      (s.ob (Obj.ptState a) = 0 → f.addrState = 2 →
        t.ob (Obj.ptState a) = 1 ∧ ⟨s.now, 1456, a⟩ ∈ t.fab.inFlight ∧ (t.partner a).idTag = f.idTag.toNat) ∧
      (s.ob (Obj.ptState a) = 2 → f.idTag.toNat = (s.partner a).idTag →
        t.ob (Obj.ptState a) = 1 ∧ ⟨s.now, 1456, a⟩ ∈ t.fab.inFlight) ∧
      (s.ob (Obj.ptState a) = 2 → f.idTag.toNat ≠ (s.partner a).idTag →
        t.ob (Obj.ptState a) = 3 ∧ ⟨s.now, 1460, a⟩ ∈ t.fab.inFlight ∧ t.ob (Obj.ptSerial a) = s.ob (Obj.ptSerial a)) ∧
      (s.ob (Obj.ptState a) = 3 → f.addrState = 2 → (s.partner a).pendingTag = some f.idTag.toNat →
        t.ob (Obj.ptState a) = 1 ∧ ⟨s.now, 1461, a⟩ ∈ t.fab.inFlight)) ∧
  (∀ (f : ChainPresence) (s : State), let a := f.header.address.val
    s.halyardHears = true → a ≠ 0 → a = s.address → s.chainAccepted f.header (State.presenceBytes a f.addrState.toNat
      f.header.fresh.toNat f.idTag.toNat f.capDigest.toNat f.budget.toNat) = true →
    f.idTag.toNat ≠ State.identityTag Part.serial → s.ob Obj.addrState ≠ 3 →
    ∃ t, exec (.presenceReceive f) s = .next t ∧ t.ob Obj.addrState = 3 ∧ t.halyardSends = false ∧
      t.ob (Obj.ptState a) = 4 ∧ (t.partner a).fresh = f.header.fresh.toNat ∧
      t = { s.post 1462 a with obj := t.obj, hal := t.hal } ∧ s.ObjectsBut t [Obj.addrState, Obj.ptState a]) ∧
  (∀ (f : ChainPresence) (s : State), let a := f.header.address.val
    s.halyardHears = true → a ≠ 0 → a = s.address → s.chainAccepted f.header (State.presenceBytes a f.addrState.toNat
      f.header.fresh.toNat f.idTag.toNat f.capDigest.toNat f.budget.toNat) = true →
    f.idTag.toNat = State.identityTag Part.serial ∨ s.ob Obj.addrState = 3 →
    exec (.presenceReceive f) s = .next (s.setPartner a { s.partner a with fresh := f.header.fresh.toNat })) ∧
  (∀ (a : Fin 17) (s : State), s.halyardHears = true → a.val ≠ 0 → a.val ≠ s.address →
    s.ob (Obj.ptState a) = 1 ∨ s.ob (Obj.ptState a) = 3 →
    s.passed (s.ob (Obj.ptLastSeen a)) (ms (10 * s.cf Obj.presenceTimeout)) = true →
    ∃ t, exec (.presenceTimeout a) s = .next t ∧ t.ob (Obj.ptState a) = 2 ∧ ⟨s.now, 1457, a.val⟩ ∈ t.fab.inFlight ∧
      t.arb.borrowed.get? a = none ∧ t = { s with obj := t.obj, hal := t.hal, arb := t.arb, fab := t.fab } ∧
      s.ObjectsBut t [Obj.ptState a]) ∧
  (∀ (f : ChainHeader) (n : Fin 17) (s : State), s.halyardTalks = true → s.hal.txQueue = [] → f.address.val ≠ 0 →
    n.val = s.address → s.chainAccepted f (State.capabilityBytes 2 f.address f.fresh.toNat [n.val]) = true →
    let b := State.capabilityBytes 3 s.address (s.hal.chainCounter + 1) s.ownCapability
    let g := s.chainFrame .capability (b ++ toBytes 8 (s.chainMac b))
    ∃ t, exec (.capabilityRequest f n) s = .next t ∧ t.hal.capSent = s.hal.capSent + 1 ∧
      t.hal.chainCounter = s.hal.chainCounter + 1 ∧ (t.partner f.address).fresh = f.fresh.toNat ∧
      (s.halMay g = true → t.hal.txSent = some g ∧ t.hal.txQueue = []) ∧ (s.halMay g = false → t.hal.txQueue = [g]) ∧
      t = { s with obj := t.obj, hal := t.hal } ∧ s.ObjectsBut t [Obj.txFrames]) ∧
  (∀ (f : ChainHeader) (r : CapabilityRecord) (s : State), let a := f.address.val
    s.halyardHears = true → a ≠ 0 → a ≠ s.address → s.ob (Obj.ptState a) ≠ 1 →
    s.chainAccepted f (State.capabilityBytes 3 a f.fresh.toNat (State.capabilityContent r)) = true →
    ∃ t, exec (.capabilityResponse f r) s = .next t ∧ (t.partner a).serial = r.serial.toNat ∧
      (t.partner a).maxShare = r.maxShare.toNat ∧ (t.partner a).capAsked = none ∧ t.ob (Obj.ptMastVersion a) = r.mast.toNat ∧
      t.ob (Obj.ptCompatEpoch a) = r.epoch.toNat ∧ t.ob (Obj.ptSchema a) = r.schema.toNat ∧
      t = { s with obj := t.obj, hal := t.hal } ∧
      s.ObjectsBut t [Obj.ptMastVersion a, Obj.ptCompatEpoch a, Obj.ptSchema a]) ∧
  (∀ (f : ChainHeader) (r : CapabilityRecord) (s : State), let a := f.address.val
    s.halyardHears = true → a ≠ 0 → a ≠ s.address → s.ob (Obj.ptState a) = 1 →
    State.identityTag r.serial.toNat = (s.partner a).idTag →
    s.chainAccepted f (State.capabilityBytes 3 a f.fresh.toNat (State.capabilityContent r)) = true →
    ∃ t, exec (.capabilityResponse f r) s = .next t ∧ t.ob (Obj.ptSerial a) = r.serial.toNat ∧ t.ob (Obj.ptState a) = 1 ∧
      (t.partner a).serial = r.serial.toNat ∧ t = { s with obj := t.obj, hal := t.hal }) ∧
  (∀ (a : Fin 17) (asked : Tick) (s : State), s.halyardHears = true → (s.partner a).capAsked = some asked →
    s.passed asked (ms 100) = true →
    ((s.partner a).capTries < 4 → s.halyardTalks = false → exec (.capabilityRetry a) s = .next s) ∧
    ((s.partner a).capTries < 4 → s.halyardTalks = true → s.hal.txQueue = [] →
      ∃ t, exec (.capabilityRetry a) s = .next t ∧ (t.partner a).capTries = (s.partner a).capTries + 1 ∧
        t.hal.capRequested = [a.val] ∧ t = { s with obj := t.obj, hal := t.hal } ∧ s.ObjectsBut t [Obj.txFrames]) ∧
    (4 ≤ (s.partner a).capTries →
      ∃ t, exec (.capabilityRetry a) s = .next t ∧ (t.partner a).capUnknown = true ∧ (t.partner a).capAsked = none ∧
        t = { s.post 1463 a with hal := t.hal })))

/-- R74: the table of SYNC_STATE, for a unit whose time synchronisation runs. A Sync of an interval that is not accepted does
nothing (R73). The first Sync moves free to locking; the eighth in a row within ±500 ns moves locking to locked; none for 3
intervals moves locked to holdover, in which the rate ratio stays; a valid Sync within ±500 ns moves holdover to locked; none
for HOLDOVER_LIMIT moves holdover to free. Reaching locked raises EV1464 and reaching free raises EV1465. Completes:
syncReceive, syncMissed, holdoverExpiry. -/
def Obligations.SyncStateMovesAsTheTableSays : Prop :=
  (∀ (rx origin : BitVec 64) (l : BitVec 8) (s : State), l.toInt < -5 ∨ 0 < l.toInt →
    exec (.syncReceive rx ⟨origin, l⟩) s = .next s) ∧
  (∀ (rx origin : BitVec 64) (l : BitVec 8) (s : State), s.syncRuns = true → rx.toNat ≤ s.now → -5 ≤ l.toInt → l.toInt ≤ 0 →
    let off : Int := ((origin.toNat + s.ob Obj.pathDelay : Nat) : Int) - s.htimeAt rx.toNat
    let good : Prop := -500 ≤ off ∧ off ≤ 500
    ∃ t, exec (.syncReceive rx ⟨origin, l⟩) s = .next t ∧ t.hal.syncInterval = sec 1 / 2 ^ (-l.toInt).toNat ∧
      (s.ob Obj.syncState = 0 → t.ob Obj.syncState = 1 ∧ t.hal.goodSyncs = 0) ∧
      (s.ob Obj.syncState = 1 → good → t.hal.goodSyncs = s.hal.goodSyncs + 1) ∧
      (s.ob Obj.syncState = 1 → ¬good → t.hal.goodSyncs = 0 ∧ t.ob Obj.syncState = 1) ∧
      (s.ob Obj.syncState = 1 → good → s.hal.goodSyncs < 7 → t.ob Obj.syncState = 1) ∧
      (s.ob Obj.syncState = 1 → good → 7 ≤ s.hal.goodSyncs → t.ob Obj.syncState = 2 ∧ ⟨s.now, 1464, 0⟩ ∈ t.fab.inFlight) ∧
      (s.ob Obj.syncState = 2 → t.ob Obj.syncState = 2) ∧
      (s.ob Obj.syncState = 3 → good → t.ob Obj.syncState = 2 ∧ ⟨s.now, 1464, 0⟩ ∈ t.fab.inFlight) ∧
      (s.ob Obj.syncState = 3 → ¬good → t.ob Obj.syncState = 3 ∧ t.ob Obj.rateRatio = s.ob Obj.rateRatio) ∧
      t.hal.lastSync = some s.now ∧ t = { s with obj := t.obj, hal := t.hal, fab := t.fab } ∧
      s.ObjectsBut t [Obj.offset, Obj.rateRatio, Obj.syncState]) ∧
  (∀ (l : Tick) (s : State), s.hal.lastSync = some l → s.ob Obj.syncState = 2 → s.passed l (3 * s.hal.syncInterval) = true →
    ∃ t, exec .syncMissed s = .next t ∧ t.ob Obj.syncState = 3 ∧ t.ob Obj.rateRatio = s.ob Obj.rateRatio ∧
      s.Only t [Obj.syncState]) ∧
  (∀ (l : Tick) (s : State), s.hal.lastSync = some l → s.ob Obj.syncState = 3 →
    s.passed l (ms (s.cf Obj.holdoverLimit)) = true →
    ∃ t, exec .holdoverExpiry s = .next t ∧ t.ob Obj.syncState = 0 ∧ t.hal.lastSync = none ∧
      t = { s.post 1465 0 with obj := t.obj, hal := t.hal } ∧ s.ObjectsBut t [Obj.syncState])

/-- R73, for a unit whose time synchronisation runs. Announce is received and selects no master; at PDELAY_INTERVAL a unit that
may send sends Pdelay_Req; its answer gives PATH_DELAY, half the difference of the two round trips. Completes: announceReceive,
pdelayReqSend, pdelayRespReceive. -/
def Obligations.PathDelayIsMeasured : Prop :=
  (∀ s : State, s.syncRuns = true → exec .announceReceive s = .next { s with hal := { s.hal with announced := true } }) ∧
  (∀ s : State, s.syncRuns = true →
    let f : HalFrame := { use := .time, dest := State.toTime, source := s.unitMac, etherType := 0x88F7
                          body := toBytes 54 (Config.unmeasured 0x88F7 s.now) }
    s.halMay f = true → (∀ t, s.hal.pdelaySent = some t → s.passed t (ms (s.cf Obj.pdelayInterval)) = true) →
    ∃ t, exec .pdelayReqSend s = .next t ∧ 
      t.hal = { s.hal with pdelaySent := some s.now, txSent := some f, txLoad := t.hal.txLoad } ∧
      t.ob Obj.txFrames = (s.ob Obj.txFrames + 1) % 2 ^ 32 ∧ t = { s with obj := t.obj, hal := t.hal } ∧
      s.ObjectsBut t [Obj.txFrames]) ∧
  (∀ (r o a : BitVec 64) (sent : Tick) (s : State), s.syncRuns = true → s.hal.pdelaySent = some sent → sent ≤ a.toNat →
    r.toNat ≤ o.toNat → o.toNat - r.toNat ≤ 10 * (a.toNat - sent) →
    ∃ t, exec (.pdelayRespReceive r o a) s = .next t ∧
      t.ob Obj.pathDelay = (10 * (a.toNat - sent) - (o.toNat - r.toNat)) / 2 % 2 ^ 32 ∧ s.Only t [Obj.pathDelay])

/-- R79: a claim put into a slot of a signal stands there with its value and holder, a release leaves the slot empty, and no
other slot of that signal or of another changes; nor does the SAFE placement. -/
def Obligations.ClaimSlotsAreIndependent : Prop :=
  ∀ (s : State) (sig : Nat) (x : Cls) (v : Option Claim), x ≠ .safe →
    (s.setSlot sig x v).slotOf sig x = v ∧
    (∀ sig' x', (sig', x') ≠ (sig, x) → (s.setSlot sig x v).slotOf sig' x' = s.slotOf sig' x') ∧
    (s.setSlot sig x v).own.safe = s.own.safe

/-- R80: the owner of an output is the highest class, in the order S, SAFE, H, A, C, whose slot is occupied, and the value it is
to be commanded to is that owner's, or its rest value 0 with all five slots empty. -/
def Obligations.HighestOccupiedSlotOwns : Prop :=
  ∀ (s : State) (sig : Nat),
    (∀ x c, s.ownerOf sig = some (x, c) → s.slotOf sig x = some c ∧ s.ownerValue sig = c.value ∧
      ∀ y ∈ [Cls.s, .safe, .h, .a, .c].takeWhile (fun y => y ≠ x), s.slotOf sig y = none) ∧
    (s.ownerOf sig = none ↔ ∀ x, s.slotOf sig x = none) ∧
    (s.ownerOf sig = none → s.ownerValue sig = 0)

/-- R84, R85: a host command that its checks pass waits, in order of arrival, for the end of the next segment and changes
nothing before; op 4 from a Host session fails with role too low, and a claim of a signal that is not owned with a value-range
error. A write of QUERY_SIGNAL selects the signal of the session. Completes: hostClaim, hostRelease, hostReleaseAll,
hostEmptyRuleSlots, ownerQuery. -/
def Obligations.HostCommandsWaitForTheSegment : Prop :=
  (∀ (h : Nat) (sig : BitVec 24) (v : BitVec 16) (s : State) (x : Session), s.Serves h .host x →
    ((s.asked x).claimable sig.toNat v.toNat = true →
      exec (.hostClaim h sig v) s = .next ((s.served x).pushOp (.claim sig.toNat v.toNat h))) ∧
    (sigOwned sig.toNat = false → exec (.hostClaim h sig v) s = .next { s.asked x with reply := { status := .valueRange } }) ∧
    (sigOwned sig.toNat = true →
      exec (.hostRelease h sig) s = .next ((s.served x).pushOp (.release sig.toNat h))) ∧
    exec (.hostReleaseAll h) s = .next ((s.served x).pushOp (.releaseAll h)) ∧
    (sigOwned sig.toNat = true → x.role ≠ .host →
      exec (.hostEmptyRuleSlots h sig) s = .next ((s.served x).pushOp (.emptyRules sig.toNat h))) ∧
    (x.role = .host → exec (.hostEmptyRuleSlots h sig) s = .next { s.asked x with reply := { status := .roleTooLow } })) ∧
  (∀ (h : Nat) (sig : BitVec 32) (s : State) (x : Session), s.Serves h .host x → sigOwned sig.toNat = true →
    exec (.ownerQuery h sig) s = .next ((s.served x).setSession { s.heard x with
      regs := x.regs.write (objDefault Obj.querySignal) Obj.querySignal sig.toNat }))

/-- R86, R87, while sweeps run. A write of HB_COUNTER that repeats the accepted value only counts as accepted; another is a
valid heartbeat and moves waiting to resumed and lost to resumed (EV1297), and leaves resumed and alive as they are. HB_TIMEOUT
without one moves resumed or alive to lost, counted, with EV1296, and leaves the steps of R88 to the next sweep boundary: both
from alive, the first alone from resumed; an accepted release that still waits goes with it. 0xA5 to SAFE_RELEASE in resumed
moves to alive and has the SAFE slots emptied with the next segment; in waiting or lost it fails with configuration invalid, and
another value with a value-range error. Completes: heartbeat, heartbeatLoss, safeRelease. -/
def Obligations.HeartbeatMovesTheSupervisor : Prop :=
  (∀ (h : Nat) (v : BitVec 16) (s : State) (x : Session), s.Serves h .host x →
    (s.hb.accepted = some v.toNat → exec (.heartbeat h v) s = .next (s.served x)) ∧
    (s.hb.accepted ≠ some v.toNat →
      ∃ t, exec (.heartbeat h v) s = .next t ∧ t.hb = { s.hb with accepted := some v.toNat, lastValid := s.now } ∧
        (s.ob Obj.hbState = hbWaiting ∨ s.ob Obj.hbState = hbLost → t.ob Obj.hbState = hbResumed) ∧
        (s.ob Obj.hbState = hbResumed ∨ s.ob Obj.hbState = hbAlive → t.ob Obj.hbState = s.ob Obj.hbState) ∧
        (s.ob Obj.hbState = hbLost → ∃ d, ⟨s.now, 1297, d⟩ ∈ t.fab.inFlight) ∧
        t = { s.served x with obj := t.obj, hb := t.hb, fab := t.fab } ∧ s.ObjectsBut t [Obj.hbState])) ∧
  (∀ s : State, s.heartbeatDue = true → s.sweepsRun = true →
    ∃ t, exec .heartbeatLoss s = .next t ∧ t.ob Obj.hbState = hbLost ∧
      t.ob Obj.hbLossCount = (s.ob Obj.hbLossCount + 1) % 2 ^ 32 ∧ t.ob Obj.hbLastLoss = s.now % 2 ^ 64 ∧
      t.hb.waiting = some (if s.ob Obj.hbState = hbAlive then .both hbAlive hbLost else .hostOnly) ∧
      t.own = { s.own with hostOps := s.own.hostOps.filter (fun o => o ≠ .safeRelease) } ∧
      t = { s.post 1296 (s.cf Obj.hbTimeout) with obj := t.obj, hb := t.hb, own := t.own } ∧
      s.ObjectsBut t [Obj.hbState, Obj.hbLossCount, Obj.hbLastLoss]) ∧
  (∀ (h : Nat) (s : State) (x : Session), s.Serves h .host x →
    (s.ob Obj.hbState = hbResumed →
      ∃ t, exec (.safeRelease h 0xA5) s = .next t ∧ t.ob Obj.hbState = hbAlive ∧ ((s.served x).pushOp .safeRelease).Only t [Obj.hbState]) ∧
    (s.ob Obj.hbState = hbAlive → exec (.safeRelease h 0xA5) s = .next (s.served x)) ∧
    (s.ob Obj.hbState = hbWaiting ∨ s.ob Obj.hbState = hbLost →
      exec (.safeRelease h 0xA5) s = .next { s.asked x with reply := { status := .configInvalid } }) ∧
    (∀ v, v ≠ 0xA5 → exec (.safeRelease h v) s = .next { s.asked x with reply := { status := .valueRange } }))

/-- R84, R85, R88, R92, R101, R107, for a segment of a sweep that runs, the next one that contains an enabled rule: the host
changes that waited are carried out and none waits any more, the place after it follows, the configuration is left as it is. At
the first segment the steps that waited for the sweep are done; on exit from Half-mast the supervisor enters waiting there. The
last segment counts the sweep, shows what the owner query reports, and feeds the Hoist watchdog when the lanes agreed
throughout. A sweep in which no rule is enabled has one segment (the model's reading, assumption 111). Completes: reflexSegment.
-/
def Obligations.SegmentsMakeASweep : Prop :=
  ∀ (ns : Nat) (s : State), s.sweepsRun = true →
    let k := s.segmentFrom s.eng.segment
    ∃ t, exec (.reflexSegment ns) s = .next t ∧ t.own.hostOps = [] ∧
      t.cfg = s.cfg ∧ t.sessions = s.sessions ∧
      (s.eng.segment = 0 → s.hb.enters = false → t.hb.waiting = none) ∧
      (s.eng.segment = 0 → s.hb.enters = true → t.hb.enters = false ∧ t.ob Obj.hbState = hbWaiting) ∧
      (s.moreSegments k = true → t.eng.segment = k + 1 ∧ t.ob Obj.sweepCount = s.ob Obj.sweepCount ∧
        t.hoist.feeds = s.hoist.feeds) ∧
      (s.moreSegments k = false → t.eng.segment = 0 ∧ t.ob Obj.sweepCount = (s.ob Obj.sweepCount + 1) % 2 ^ 64 ∧
        t.own.snapSlots = t.own.slots ∧ t.own.snapCommanded = t.own.commanded ∧
        (s.eng.segment = 0 ∨ s.eng.lanesAgreed = true →
          (∀ u, s.ft.unresolved = some u → u / 16 ≠ s.ob Obj.sweepCount) →
          t.hoist.feeds = s.hoist.feeds + 1 ∧ t.hoist.lastFeed = s.now ∧ t.hoist.armed = true))

/-- R92–R94. Where no feed word has come for HOIST_WDG_TIMEOUT the Hoist watchdog trips: the trip is counted, the hoist safe
state is on the outputs, and the Fly die goes into reset with START_CAUSE 3 to come; everything of the Fly die's own is gone.
After the reset the Fly die is released and waits for the PLL, and a Fly start is counted. Completes: hoistWatchdogTrip,
flyResetRelease. -/
def Obligations.HoistWatchdogRestartsTheFlyDie : Prop :=
  (∀ s : State, s.watchdogDue = true →
    ∃ t, exec .hoistWatchdogTrip s = .next t ∧ t.boot.stage = .flyReset ∧ t.boot.nextCause = 3 ∧ t.hoist.safe = true ∧
      t.hoist.tripToReport = true ∧ t.ob Obj.hoistWdgTrips = (s.ob Obj.hoistWdgTrips + 1) % 2 ^ 32 ∧ t.sessions = [] ∧
      t.own = {} ∧ t.timers = [] ∧ t.can = [] ∧ t.commits = [] ∧ t.cfg = s.cfg ∧ t.ft.copies = s.ft.copies ∧
      t.flyStarts = s.flyStarts) ∧
  (∀ s : State, s.boot.stage = .flyReset → s.boot.nextCause = 3 ∨ s.boot.nextCause = 4 ∨ s.boot.nextCause = 8 →
    exec .flyResetRelease s = .next { s with
      boot := { s.boot with stage := .pllWait }, hoist := { s.hoist with flyReset := false }
      flyStarts := (s.flyStarts + 1) % 2 ^ 32, tb := { lfEstablished := s.tb.lfEstablished } })

/-- R113–R117, R121, R125, while the arbiter runs. A slope whose rise time has passed leaves ΣS, and a present value or a
dissipation entry steps down; then the admission test runs on the queue, and nothing changes beside while its head is not
admissible and no refused request waits for a place. A request that has waited WAIT_WARN raises EV1216 with its signal, once. No
claim moves. R123, R124. VBAT below SAG_C_LEVEL sheds every output of class C that is on, and below SAG_A_LEVEL those of class A
as well; a level 0 is switched off. A sag state ends at its level + SAG_HYST. No claim moves at a shedding. None of it in
Half-mast, where the arbiter does not run (R125). R130. A loan whose borrower has gone stays withheld, frozen, with EV1227;
LOAN_RELEASE with the borrower's address ends a frozen loan and returns it to the lender, and fails with configuration invalid
where that loan is not frozen. Completes: slopeExpiry, presentValueStep, dissipationStep, waitWarnExpiry, sagCEnter, sagAEnter,
sagEnd, loanFreeze, loanRelease. -/
def Obligations.AdmissionSagsAndLoansDoAsStated : Prop :=
  ((∀ s : State, s.awake = true → ∀ c ∈ [(Instr.slopeExpiry, { s with arb := { s.arb with slopes := s.arb.slopes.filter (fun l => s.now < l.expiry) } }),
      (.presentValueStep, s), (.dissipationStep, s)],
    ∃ t, exec c.1 s = .next t ∧ s.Switches t [] ∧ t.kept = s.kept ∧
      (s.arb.sOver = false → s.arb.refused = [] → (∀ r, s.arb.queue.head? = some r → c.2.admissible r = false) → t = c.2)) ∧
  (∀ s : State, s.awake = true →
    ∃ t, exec .waitWarnExpiry s = .next t ∧ t = { s with arb := { s.arb with queue := t.arb.queue }, fab := t.fab } ∧
      t.arb.queue.map (fun r => { r with warned := false }) = s.arb.queue.map (fun r => { r with warned := false }) ∧
      (∀ r ∈ t.arb.queue, s.passed r.age (ms (s.cf Obj.waitWarn)) = true → r.warned = true) ∧
      ∀ r ∈ s.arb.queue, r.warned = false → s.passed r.age (ms (s.cf Obj.waitWarn)) = true → t.Raised s.now 1216 r.sig)) ∧
  ((∀ (v : Nat) (s : State), s.awake = true → s.cf Obj.sagCLevel ≠ 0 → v < s.cf Obj.sagCLevel → s.arb.sagC = false →
    ∃ t, exec (.sagCEnter v) s = .next t ∧ s.Switches t [] ∧ t.own.kept = s.own.kept ∧
      t.arb.kept = { s.arb with sagC := true, sagVbat := v
                                shed := s.arb.shed ++ (s.shedOf 4).map (fun sig => (⟨sig, s.now⟩ : Shed)) }.kept) ∧
  (∀ (v : Nat) (s : State), s.awake = true → s.cf Obj.sagALevel ≠ 0 → v < s.cf Obj.sagALevel → s.arb.sagA = false →
    ∃ t, exec (.sagAEnter v) s = .next t ∧ s.Switches t [] ∧ t.own.kept = s.own.kept ∧ t.arb.sagC = s.arb.sagC ∧
      t.arb.sagA = true ∧ t.arb.sagVbat = v ∧ (∀ x ∈ s.arb.shed, x ∈ t.arb.shed) ∧ ∀ sig ∈ s.shedOf 4, ⟨sig, s.now⟩ ∈ t.arb.shed) ∧
  (∀ (v : Nat) (s : State), s.awake = true →
    (s.arb.sagC = true ∧ s.cf Obj.sagCLevel + s.cf Obj.sagHyst ≤ v) ∨ (s.arb.sagA = true ∧ s.cf Obj.sagALevel + s.cf Obj.sagHyst ≤ v) →
    ∃ t, exec (.sagEnd v) s = .next t ∧ s.Switches t [] ∧ t.own.kept = s.own.kept ∧ t.arb.sagVbat = v ∧
      t.arb.sagC = (s.arb.sagC && decide (v < s.cf Obj.sagCLevel + s.cf Obj.sagHyst)) ∧
      t.arb.sagA = (s.arb.sagA && decide (v < s.cf Obj.sagALevel + s.cf Obj.sagHyst))) ∧
  (∀ (v : Nat) (s : State), s.awake = false → ∀ c ∈ [Instr.sagCEnter v, .sagAEnter v, .sagEnd v, .slopeExpiry,
      .presentValueStep, .dissipationStep, .waitWarnExpiry], exec c s = .next s) ∧
  (∀ (v : Nat) (s : State),
    (s.cf Obj.sagCLevel = 0 → exec (.sagCEnter v) s = .next s) ∧ (s.cf Obj.sagALevel = 0 → exec (.sagAEnter v) s = .next s))) ∧
  ((∀ s : State, s.arb.lendTo ≠ 0 → s.arb.frozen = false →
    exec .loanFreeze s = .next (({ s with arb := { s.arb with frozen := true } }).post 1227 s.arb.lendTo)) ∧
  (∀ (h : Nat) (a : BitVec 8) (s : State) (x : Session), s.Serves h .maker x →
    (1 ≤ a.toNat ∧ a.toNat ≤ 16 → s.arb.frozen = true → s.arb.lendTo = a.toNat →
      ∃ t, exec (.loanRelease h a) s = .next t ∧ (s.asked x).Switches t [] ∧ t.own.kept = s.own.kept ∧
        t.arb.kept = { s.arb with lent := 0, lendSent := 0, lendTo := 0, frozen := false, regain := none }.kept) ∧
    (1 ≤ a.toNat ∧ a.toNat ≤ 16 → ¬(s.arb.frozen = true ∧ s.arb.lendTo = a.toNat) →
      exec (.loanRelease h a) s = .next { s.asked x with reply := { status := .configInvalid } }) ∧
    (a.toNat = 0 ∨ 16 < a.toNat → exec (.loanRelease h a) s = .next { s.asked x with reply := { status := .valueRange } })))

/-- R143, R144, R145, R151, R153, R154: a gate-driver channel that is on and whose VDS is over the threshold in force, whose
ramp takes too long or whose gate is open, is protected: it is shown and counted, the time of the ramp and the slot event given,
and no claim slot changes. Its applied value is 0 and it stays held off, a retry set or the channel latched. Completes: gdTrip,
gdRampTimeout, gdGateOpen. -/
def Obligations.GateDriversTrip : Prop :=
  ∀ (n : Fin 24) (s : State), s.gdIsOn n = true →
    (∀ vds vgs vsup : Nat, s.gdOver n vds vgs vsup = true →
      ∃ t, exec (.gdTrip n vds ⟨vgs, vsup⟩) s = .next t ∧ t.kept = s.kept ∧
        t.bit (Obj.gdStatus n) 5 = true ∧ t.ob (Obj.gdTripCount n) = (s.ob (Obj.gdTripCount n) + 1) % 2 ^ 32 ∧
        t.ob (Obj.gdLastTripVds n) = saturate vds 65535 ∧
        t.Raised s.now (8 * n)
          ((if vgs < s.gdRampTop n then 2 else if s.bit (Obj.gdStatus n) 13 then 3 else 1) * 2 ^ 16 + saturate vds 65535) ∧
        (t.gdCh n).off = true ∧ t.ob (Obj.gdAppliedValue n) = 0 ∧
        (s.hoist.safe = false → s.cf (Obj.gdRetryCount (s.gdLead n)) ≠ 255 →
          s.cf (Obj.gdRetryCount (s.gdLead n)) ≤ s.ob (Obj.gdRetriesUsed (s.gdLead n)) →
          t.bit (Obj.gdStatus (s.gdLead n)) 15 = true) ∧
        (s.hoist.safe = false → s.ob (Obj.gdRetriesUsed (s.gdLead n)) < s.cf (Obj.gdRetryCount (s.gdLead n)) →
          t.bit (Obj.gdStatus (s.gdLead n)) 14 = true ∧
          ∃ d, (t.gdCh (s.gdLead n)).retryAt = some (s.now + d) ∧ ms (s.cf (Obj.gdRetryDelay (s.gdLead n))) ≤ d)) ∧
    (∀ ton, 10 * s.cf (Obj.gdRampMax n) < ton → ∃ t, exec (.gdRampTimeout ⟨n, ton⟩) s = .next t ∧ t.kept = s.kept ∧
      t.bit (Obj.gdStatus n) 9 = true ∧ t.ob (Obj.gdGateTon n) = saturate ton 65535 ∧ t.Raised s.now (8 * n + 5) 1 ∧
      (t.gdCh n).off = true ∧ t.ob (Obj.gdAppliedValue n) = 0) ∧
    (∀ ton, ton ≤ 5 → ∃ t, exec (.gdGateOpen n ton) s = .next t ∧
      t.kept = s.kept ∧ t.bit (Obj.gdStatus n) 9 = true ∧ t.ob (Obj.gdGateTon n) = ton ∧ t.Raised s.now (8 * n + 5) 2 ∧
      (t.gdCh n).off = true ∧ t.ob (Obj.gdAppliedValue n) = 0)

/-- R141, R146, R149: a pair whose other gate has not fallen goes off with gate fault 5; soft start ends where the ramp reaches
the commanded value; a load current below OL_CURRENT outside soft start is an open load, said once; current ends it. R150, R151:
a check of an off channel keeps its reading, and three readings in agreement give the result, with the open-load and short bits;
the thermal update shows T_EST, and a channel over TH_TJ_MAX goes off with its overtemperature event. Completes:
gdInterlockFault, gdSoftStartEnd, gdOpenLoad, gdOffDiagCheck, gdThermalUpdate. -/
def Obligations.GateDriversAreWatched : Prop :=
  ((∀ (k : Fin 12) (s : State), s.cf (Obj.gdMode (2 * k)) = 3 → s.cf (Obj.gdMode (2 * k + 1)) = 4 →
    ∃ t, exec (.gdInterlockFault k) s = .next t ∧ t.kept = s.kept ∧ t.bit (Obj.gdStatus (2 * k)) 9 = true ∧
      t.bit (Obj.gdStatus (2 * k + 1)) 9 = true ∧ t.Raised s.now (8 * (2 * k) + 5) 5 ∧
      (t.gdCh (2 * k)).off = true ∧ (t.gdCh (2 * k + 1)).off = true ∧
      t.ob (Obj.gdAppliedValue (2 * k)) = 0 ∧ t.ob (Obj.gdAppliedValue (2 * k + 1)) = 0) ∧
  (∀ (n : Fin 24) (s : State), (s.gdCh n).softK ≠ 0 → (s.gdCh n).value ≤ s.softRamp n (s.gdCh n).softK →
    ∃ t, exec (.gdSoftStartEnd n) s = .next t ∧ t.gdCh n = { s.gdCh n with softK := 0, softEnd := some s.now } ∧
      t.bit (Obj.gdStatus n) 13 = false ∧ t.Raised s.now (8 * n + 6) (s.ob (Obj.gdAppliedValue n)) ∧
      t = { s with obj := t.obj, gd := t.gd, fab := t.fab } ∧ s.ObjectsBut t [Obj.gdStatus n] ∧
      ∀ m, m ≠ n.val → t.gdCh m = s.gdCh m) ∧
  (∀ (n : Fin 24) (i : Nat) (s : State), s.cf (Obj.gdOlCurrent n) ≠ 0 → s.gdIsOn n = true → s.bit (Obj.gdStatus n) 13 = false →
    let low := decide (s.gdDecide n (saturate i 65535) < s.cf (Obj.gdOlCurrent n))
    ∃ t, exec (.gdOpenLoad n i) s = .next t ∧ t.ob (Obj.gdIEst n) = saturate i 65535 ∧
      t.bit (Obj.gdStatus n) 6 = (low || (s.gdCh n).openOff) ∧ t.gdCh n = { s.gdCh n with openOn := low } ∧
      (low = true → (s.gdCh n).openOn = false → t.Raised s.now (8 * n + 2) 1) ∧
      t = { s with obj := t.obj, gd := t.gd, fab := t.fab } ∧ s.ObjectsBut t [Obj.gdIEst n, Obj.gdStatus n] ∧
      ∀ m, m ≠ n.val → t.gdCh m = s.gdCh m)) ∧
  ((∀ (n : Fin 24) (mv vbat : Nat) (s : State), s.awake = true → s.cf (Obj.gdOffDiagEnable n) = 1 → s.cf (Obj.gdMode n) ≠ 0 →
    s.ob (Obj.gdAppliedValue n) = 0 → 8000 ≤ vbat → s.hoist.safe = false →
    (s.gdCh n).diagNow = true ∨ s.passed (s.gdCh n).lastDiag (ms (s.cf (Obj.gdOffDiagPeriod n))) = true → mv ≤ 65535 →
    ∃ t, exec (.gdOffDiagCheck n mv vbat) s = .next t ∧
      t.gdCh n = { s.gdCh n with
        readings := (State.offReading mv :: (s.gdCh n).readings).take 3, lastDiag := s.now, diagNow := false
        openOff := (t.gdCh n).openOff } ∧
      (∀ m, m ≠ n.val → t.gdCh m = s.gdCh m) ∧ t = { s with obj := t.obj, gd := t.gd, fab := t.fab } ∧
      s.ObjectsBut t [Obj.gdStatus n, Obj.gdOffDiagResult n] ∧
      ((s.gdCh n).readings = [] → t.obj = s.obj) ∧
      ((s.gdCh n).readings.take 2 = [2, 2] → 3000 ≤ mv → mv ≤ 5500 →
        t.ob (Obj.gdOffDiagResult n) = 2 ∧ t.bit (Obj.gdStatus n) 6 = true ∧ t.bit (Obj.gdStatus n) 7 = false) ∧
      ((s.gdCh n).readings.take 2 = [3, 3] → 6500 < mv → s.highMode n = true →
        t.ob (Obj.gdOffDiagResult n) = 4 ∧ t.bit (Obj.gdStatus n) 7 = true)) ∧
  (∀ (n : Fin 24) (s : State), s.cf (Obj.gdThRth n) ≠ 0 → s.cf (Obj.gdMode n) ≠ 0 → s.hoist.safe = false →
    s.passed (s.gdCh n).lastThermal (ms 1) = true →
    ∃ t, exec (.gdThermalUpdate n) s = .next t ∧ t.kept = s.kept ∧
      ∃ T : Int, T = s.thSensor n + ((State.heatStep (s.gdCh n).heat (s.gdHeatIn n) (s.cf (Obj.gdThTau n)) / 100000 : Nat) : Int) ∧
        t.ob (Obj.gdTEst n) = wordOf 2 T ∧
        (10 * (s.cf (Obj.gdThTjMax n) : Int) < T → s.bit (Obj.gdStatus n) 8 = false →
          t.bit (Obj.gdStatus n) 8 = true ∧ t.Raised s.now (8 * n + 4) (wordOf 4 T) ∧
          (t.gdCh n).off = true ∧ t.ob (Obj.gdAppliedValue n) = 0) ∧
        (10 * (s.cf (Obj.gdThTjMax n) : Int) - 200 ≤ T → T ≤ 10 * (s.cf (Obj.gdThTjMax n) : Int) →
          t = { s with obj := t.obj, gd := t.gd } ∧ s.ObjectsBut t [Obj.gdTEst n])))

/-- R152: VCP less than 7.0 V above VBAT closes every channel whose gate it supplies, and an absent drain rail those of its
bank: each is told of with gate fault 4 or 3, and where no request waits that the freed current could let in, it is off and
held. When the supply is back the flag goes, and a channel that waits for a retry or is latched is not resubmitted by it. No
claim slot changes. Completes: vcpLow, drainRailAbsent, vcpRestored, drainRailRestored. -/
def Obligations.SupplyFaultsCloseGates : Prop :=
  (∀ (gap : Nat) (s : State), gap < 7000 → (∀ c < 24, s.bit (Obj.gdStatus c) 10 = false) →
    ∃ t, exec (.vcpLow gap) s = .next t ∧ t.kept = s.kept ∧ ∀ c < 24, s.highMode c = true → t.Raised s.now (8 * c + 5) 4 ∧
      (s.arb.queue = [] → s.arb.refused = [] →
        t.bit (Obj.gdStatus c) 10 = true ∧ (t.gdCh c).off = true ∧ t.ob (Obj.gdAppliedValue c) = 0)) ∧
  (∀ (b : Fin 4) (ds vbat : Nat) (s : State), 8000 ≤ vbat → ds + 3000 < vbat →
    (∀ i < 6, s.bit (Obj.gdStatus (6 * b.val + i)) 11 = false) →
    ∃ t, exec (.drainRailAbsent b ds vbat) s = .next t ∧ t.kept = s.kept ∧ ∀ i < 6, s.highMode (6 * b.val + i) = true →
      t.Raised s.now (8 * (6 * b.val + i) + 5) 3 ∧
      (s.arb.queue = [] → s.arb.refused = [] → t.bit (Obj.gdStatus (6 * b.val + i)) 11 = true ∧
        (t.gdCh (6 * b.val + i)).off = true ∧ t.ob (Obj.gdAppliedValue (6 * b.val + i)) = 0)) ∧
  (∀ (gap : Nat) (s : State), 8000 ≤ gap →
    ∃ t, exec (.vcpRestored gap) s = .next t ∧ s.Switches t [] ∧ t.kept = s.kept ∧
      ((∀ c < 24, s.highMode c = true → s.bit (Obj.gdStatus c) 10 = true → s.gdWaits c = true) →
        t = { s with obj := t.obj, gd := t.gd } ∧
        ∀ c < 24, s.highMode c = true → s.bit (Obj.gdStatus c) 10 = true →
          t.bit (Obj.gdStatus c) 10 = false ∧ (t.gdCh c).resubmitAt = some s.now)) ∧
  (∀ (b : Fin 4) (ds vbat : Nat) (s : State), vbat ≤ ds + 2000 →
    ∃ t, exec (.drainRailRestored b ds vbat) s = .next t ∧ s.Switches t [] ∧ t.kept = s.kept ∧
      ((∀ i < 6, s.highMode (6 * b.val + i) = true → s.bit (Obj.gdStatus (6 * b.val + i)) 11 = true →
          s.gdWaits (6 * b.val + i) = true) →
        t = { s with obj := t.obj, gd := t.gd } ∧
        ∀ i < 6, s.highMode (6 * b.val + i) = true → s.bit (Obj.gdStatus (6 * b.val + i)) 11 = true →
          t.bit (Obj.gdStatus (6 * b.val + i)) 11 = false ∧ (t.gdCh (6 * b.val + i)).resubmitAt = some s.now))

/-- R153, R158, R291: a retry that falls due counts in RETRIES_USED, ends the waiting and presents the commanded value; after
RETRY_RESET without a fault the retries used are 0 again; the first fault-free turn-on clears the trip bit, and after a clear,
restart or retry says which by offset 7. Completes: gdRetry, retryResetExpiry, gdRecovered. -/
def Obligations.RetriesAreCounted : Prop :=
  (∀ (n : Fin 24) (s : State) (d : Tick), s.awake = true → (s.gdCh n).retryAt = some d → d ≤ s.now →
    s.bit (Obj.gdStatus n) 14 = true → s.hoist.safe = false →
    ∃ t, exec (.gdRetry n) s = .next t ∧ t.kept = s.kept ∧ (s.bumpSat (Obj.gdRetriesUsed n) 255).Switches t []) ∧
  (∀ (n : Fin 24) (s : State) (g : Tick),
    ((s.gdCh n).goodSince = some g → s.passed g (sec (s.cf (Obj.gdRetryReset n))) = true →
      exec (.retryResetExpiry (BitVec.ofNat 24 (mkSig clsGD n))) s = .next (s.setOb (Obj.gdRetriesUsed n) 0)) ∧
    ∀ ton, (s.gdCh n).recover ≠ 0 ∨ s.bit (Obj.gdStatus n) 5 = true → s.gdIsOn n = true →
      ∃ t, exec (.gdRecovered (BitVec.ofNat 24 (mkSig clsGD n)) ton) s = .next t ∧
        (t.gdCh n).recover = 0 ∧ (t.gdCh (s.gdLead n)).goodSince = some s.now ∧ t.bit (Obj.gdStatus n) 5 = false ∧
        t.ob (Obj.gdGateTon n) = saturate ton 65535 ∧
        ((s.gdCh n).recover ≠ 0 → t.Raised s.now (8 * n + 7) ((s.gdCh n).recover)) ∧
        (∀ m, m ≠ n.val → m ≠ s.gdLead n → t.gdCh m = s.gdCh m) ∧
        t = { s with obj := t.obj, gd := t.gd, fab := t.fab } ∧ s.ObjectsBut t [Obj.gdStatus n, Obj.gdGateTon n]) ∧
  (∀ (n : Fin 8) (s : State) (g : Tick),
    ((s.svCh n).goodSince = some g → s.passed g (sec (s.cf (Obj.svRetryReset n))) = true →
      exec (.retryResetExpiry (BitVec.ofNat 24 (mkSig clsSV n))) s = .next (s.setOb (Obj.svRetriesUsed n) 0)) ∧
    ((s.doutCh n).goodSince = some g → s.passed g (sec (s.cf (Obj.doutRetryReset n))) = true →
      ∃ t, exec (.retryResetExpiry (BitVec.ofNat 24 (mkSig clsDOUT n))) s = .next t ∧ t = { s with dout := t.dout } ∧
        t.doutCh n = { s.doutCh n with retries := 0 } ∧ ∀ m, m ≠ n.val → t.doutCh m = s.doutCh m) ∧
    ∀ ton, (s.doutCh n).recover ≠ 0 → s.ob (Obj.doutAppliedValue n) ≠ 0 → s.passed (s.doutCh n).onSince (ms 2) = true →
      ∃ t, exec (.gdRecovered (BitVec.ofNat 24 (mkSig clsDOUT n)) ton) s = .next t ∧ t = { s with dout := t.dout, fab := t.fab } ∧
        t.doutCh n = { s.doutCh n with recover := 0, goodSince := some s.now } ∧
        t.Raised s.now (352 + 4 * n + 3) ((s.doutCh n).recover))

/-- R155, R159: a fault clear of a channel commanded 0 clears its latch, its waiting retry and its fault bits and posts offset 7
with 1; a channel commanded on is presented again; while the channel is hot it fails with configuration invalid. A diagnostic
run asked of an off channel with diagnostics enabled is taken up, else it fails with a value-range error. R139, R146, R211: at
the start of its period a PWM channel that nothing holds off takes its value, derated and under its pulse limits; a gate driver
that rises from 0 with a soft start time begins its ramp instead. At any other tick nothing happens. Completes: gdFaultClear,
gdDiagRun, pwmPeriodStart. -/
def Obligations.GateDriverCommandsDoAsStated : Prop :=
  (∀ (h : Nat) (n : Fin 24) (s : State) (x : Session),
    let cool := s.bit (Obj.gdStatus n) 8 = false ∨ signedOf 2 (s.ob (Obj.gdTEst n)) < 10 * (s.cf (Obj.gdThTjMax n) : Int) - 200
    let l := s.gdLead n
    (s.Serves h .host x → cool → s.commandedOf (State.gdSig l) = 0 →
      ∃ t, exec (.gdFaultClear h n) s = .next t ∧ t.bit (Obj.gdStatus l) 15 = false ∧ t.bit (Obj.gdStatus l) 14 = false ∧
        t.bit (Obj.gdStatus n) 5 = false ∧ t.bit (Obj.gdStatus n) 9 = false ∧ t.bit (Obj.gdStatus n) 8 = false ∧
        t.ob (Obj.gdRetriesUsed l) = 0 ∧ (t.gdCh l).retryAt = none ∧ (t.gdCh n).recover = 0 ∧
        (s.hoist.safe = false → (t.gdCh n).off = (s.bit (Obj.gdStatus n) 10 || s.bit (Obj.gdStatus n) 11)) ∧
        t.Raised s.now (8 * n + 7) 1 ∧
        t = { s.served x with obj := t.obj, gd := t.gd, fab := t.fab } ∧
        s.ObjectsBut t [Obj.gdStatus n, Obj.gdStatus l, Obj.gdRetriesUsed l]) ∧
    (s.Serves h .host x → cool → s.commandedOf (State.gdSig l) ≠ 0 →
      ∃ t, exec (.gdFaultClear h n) s = .next t ∧ t.kept = s.kept ∧ ((s.asked x).setOb (Obj.gdRetriesUsed l) 0).Switches t []) ∧
    (s.Serves h .host x → s.bit (Obj.gdStatus n) 8 = true →
      10 * (s.cf (Obj.gdThTjMax n) : Int) - 200 ≤ signedOf 2 (s.ob (Obj.gdTEst n)) →
      exec (.gdFaultClear h n) s = .next { s.asked x with reply := { status := .configInvalid } }) ∧
    (s.Serves h .service x → s.ob (Obj.gdAppliedValue n) = 0 → s.cf (Obj.gdOffDiagEnable n) = 1 →
      ∃ t, exec (.gdDiagRun h n) s = .next t ∧ t = { s.served x with gd := t.gd } ∧
        t.gdCh n = { s.gdCh n with diagNow := true } ∧ ∀ m, m ≠ n.val → t.gdCh m = s.gdCh m) ∧
    (s.Serves h .service x → s.ob (Obj.gdAppliedValue n) ≠ 0 ∨ s.cf (Obj.gdOffDiagEnable n) ≠ 1 →
      exec (.gdDiagRun h n) s = .next { s.asked x with reply := { status := .valueRange } })) ∧
  ((∀ (n : Fin 24) (s : State), s.cf (Obj.gdMode n) ≠ 0 → s.cf (Obj.gdPwmPeriod n) ≠ 0 →
    (((s.now : Int) - s.cf (Obj.gdPwmPhase n)) % (s.cf (Obj.gdPwmPeriod n) : Int) ≠ 0 →
      exec (.pwmPeriodStart (BitVec.ofNat 24 (mkSig clsGD n))) s = .next s) ∧
    (((s.now : Int) - s.cf (Obj.gdPwmPhase n)) % (s.cf (Obj.gdPwmPeriod n) : Int) = 0 →
      s.fanOfLead n = none → s.bridgeOf n = none → s.gdBlocked n = false → s.hoist.safe = false → (s.gdCh n).value ≠ 0 →
      ∃ t, exec (.pwmPeriodStart (BitVec.ofNat 24 (mkSig clsGD n))) s = .next t ∧ t = { s with obj := t.obj, gd := t.gd } ∧
        ((s.gdCh n).softK = 0 → s.ob (Obj.gdAppliedValue n) ≠ 0 ∨ s.cf (Obj.gdSoftTime n) = 0 →
          t.gd = s.gd ∧ t.ob (Obj.gdAppliedValue n) =
            State.pulseLimit (s.derated (mkSig clsGD n) (s.gdCh n).value) (s.cf (Obj.gdPwmPeriod n)) (s.gdTchk n)) ∧
        ((s.gdCh n).softK = 0 → s.ob (Obj.gdAppliedValue n) = 0 → s.cf (Obj.gdSoftTime n) ≠ 0 →
          (t.gdCh n).softK = 1 ∧ t.bit (Obj.gdStatus n) 13 = true ∧
          t.ob (Obj.gdAppliedValue n) = s.derated (mkSig clsGD n) (min (s.softRamp n 1) (s.gdCh n).value)))) ∧
  (∀ (d : Fin 8) (s : State), s.cf (Obj.doutEnable d) = 1 → s.cf (Obj.doutPwmPeriod d) ≠ 0 →
    ((s.now : Int) - s.cf (Obj.doutPwmPhase d)) % (s.cf (Obj.doutPwmPeriod d) : Int) = 0 →
    (s.doutCh d).off = false → s.hoist.safe = false → (s.doutCh d).value ≠ 0 →
    ∃ t, exec (.pwmPeriodStart (BitVec.ofNat 24 (mkSig clsDOUT d))) s = .next t ∧ t = { s with obj := t.obj, dout := t.dout } ∧
      t.ob (Obj.doutAppliedValue d) =
        State.pulseLimit (s.derated (mkSig clsDOUT d) (s.doutCh d).value) (s.cf (Obj.doutPwmPeriod d)) (us 200)))

/-- R163, R164, R171: an arrived code is taken, with the ripples counted: a code equal to the one commanded starts nothing anew,
and code 3 of a plain function that no protection keeps off brakes, and code 0 of one that moves stops it. A brake that has
lasted BR_BRAKE_TIME ends in coasting, with slot 0 and the reason of the movement that ended, or is held under code 3 of a plain
function; a movement of RUN_MAX ends with reason 4. Completes: bridgeCommand, bridgeBrakeEnd, bridgeRunMax. -/
def Obligations.BridgesFollowTheirCodes : Prop :=
  ∀ (h : Fin 6) (s : State), s.ConfigFits → s.brUsed h = true →
    (∀ (ripples code : Nat), (s.brCh h).arrived = some code → s.hoist.safe = false →
      let c := s.brCount h ripples
      ∃ t, exec (.bridgeCommand h ripples) s = .next t ∧ t.kept = s.kept ∧ s.Switches t [Obj.brRipplePos h, Obj.brPosition h] ∧
        (code = (s.brCh h).code → t = c.setBr h { c.brCh h with arrived := none, code := code }) ∧
        (code = 3 → (s.brCh h).code ≠ 3 → s.brFn h = 1 → s.gdBlocked (s.brLead h) = false → (s.brCh h).dir ≠ 3 →
          s.Brakes t h (if (s.brCh h).dir = 1 ∨ (s.brCh h).dir = 2 then 3 else 0) 0 [Obj.brRipplePos h, Obj.brPosition h]) ∧
        (code = 0 → (s.brCh h).code ≠ 0 → s.brFn h = 1 ∨ s.brFn h = 3 ∨ s.brFn h = 5 → (s.brCh h).dir = 1 ∨ (s.brCh h).dir = 2 →
          s.Brakes t h 3 0 [Obj.brRipplePos h, Obj.brPosition h])) ∧
    ((s.brCh h).dir = 3 → s.passed (s.brCh h).since (ms (s.cf (Obj.brBrakeTime h))) = true → s.brHolds h = false →
      ∃ t, exec (.bridgeBrakeEnd h) s = .next t ∧ t.kept = s.kept ∧ s.Switches t [] ∧
        ((s.brCh h).reason ≠ 0 → t.Raised s.now (8 * s.brLead h + 3) ((s.brCh h).reason)) ∧
        ((s.brCh h).next = 0 →
          (t.brCh h).dir = 0 ∧ (t.brCh h).stored = (if s.brFlag h 6 then some (s.brPos h) else (s.brCh h).stored) ∧
          t.ob (Obj.brState h) = (if (s.brCh h).waiting.isSome then 7 else if s.brFlag h 3 then 6 else 0) ∧
          t.ob (Obj.gdAppliedValue (s.brLead h)) = 0 ∧
          t.ob (Obj.gdAppliedValue (s.brOther h)) = 0 ∧ t.ob (Obj.gdAppliedValue (s.brLead h + 1)) = 0 ∧
          t.ob (Obj.gdAppliedValue (s.brOther h + 1)) = 0)) ∧
    ((s.brCh h).dir = 3 → s.passed (s.brCh h).since (ms (s.cf (Obj.brBrakeTime h))) = true → s.brHolds h = true →
      ((s.brCh h).reason = 0 → exec (.bridgeBrakeEnd h) s = .next s) ∧
      ((s.brCh h).reason ≠ 0 → ∃ t, exec (.bridgeBrakeEnd h) s = .next t ∧ (t.brCh h).dir = 3 ∧ (t.brCh h).reason = 0 ∧
        t.Raised s.now (8 * s.brLead h + 3) ((s.brCh h).reason) ∧ t = { s with br := t.br, fab := t.fab })) ∧
    (∀ ripples, s.cf (Obj.brRunMax h) ≠ 0 → (s.brCh h).dir = 1 ∨ (s.brCh h).dir = 2 →
      s.passed (s.brCh h).since (ms (s.cf (Obj.brRunMax h))) = true → s.brFn h ≠ 4 →
      ∃ t, exec (.bridgeRunMax h ripples) s = .next t ∧ (t.brCh h).reversal = false ∧
        s.Brakes t h 4 0 [Obj.brRipplePos h, Obj.brPosition h])

/-- R165, R167, R168. A stall stops the movement with reason 2 and shows it; a bridge current below OL_BRIDGE for 100 ms of
drive is an open load and the movement continues, and current ends it (assumption 115); each millisecond of a window shows the
current; a pinch brakes, with slot 3 carrying the force, and reverses; the end of the reversal latches the pinch, posts slot 4
and stops. Completes: bridgeStall, bridgeOpenLoad, forceEstimate, pinch, pinchReversalEnd. -/
def Obligations.MovementsEndAsStated : Prop :=
  ∀ (h : Fin 6) (s : State), s.ConfigFits → s.brUsed h = true →
    (∀ (current ripples : Nat), current ≤ 65535 → s.brFn h ≠ 4 → s.brFn h ≠ 2 → (s.brCh h).dir = 1 ∨ (s.brCh h).dir = 2 →
      s.cf (Obj.brStallI h) ≤ s.gdDecide (s.brLead h) current → s.passed (s.brCh h).since (ms (s.cf (Obj.brStallTime h))) = true →
      ∃ t, exec (.bridgeStall h current ripples) s = .next t ∧
        s.Brakes t h 2 0 [Obj.brCurrent h, Obj.brRipplePos h, Obj.brPosition h] ∧
        t.bit (Obj.brFlags h) 1 = true ∧ t.ob (Obj.brCurrent h) = current) ∧
    (∀ (current ripples : Nat), s.brFn h = 2 → (s.brCh h).dir = 1 ∨ (s.brCh h).dir = 2 →
      s.cf (Obj.brStallI h) ≤ s.gdDecide (s.brLead h) (saturate current 65535) →
      s.passed (s.brCh h).since (ms (s.cf (Obj.brStallTime h))) = true →
      ∃ t, exec (.bridgeStall h current ripples) s = .next t ∧ (t.brCh h).dir = 3 ∧ (t.brCh h).next = 0 ∧
        (t.brCh h).reason = 2 ∧ (t.brCh h).reversal = false ∧ t.bit (Obj.brFlags h) 1 = true ∧ t.kept = s.kept ∧
        ((s.brCh h).reversal = true → t.bit (Obj.brFlags h) 4 = true)) ∧
    (∀ current, current ≤ 65535 → s.cf (Obj.brOlBridge h) ≠ 0 → (s.brCh h).dir = 1 ∨ (s.brCh h).dir = 2 →
      s.passed (s.brCh h).since (ms 100) = true →
      let low := decide (s.gdDecide (s.brLead h) current < s.cf (Obj.brOlBridge h))
      ∃ t, exec (.bridgeOpenLoad h current) s = .next t ∧ t.bit (Obj.brFlags h) 2 = low ∧ t.ob (Obj.brCurrent h) = current ∧
        (low = true → s.brFlag h 2 = false → t.Raised s.now (8 * s.brLead h + 2) 1) ∧
        t = { s with obj := t.obj, br := t.br, fab := t.fab } ∧ t.brCh h = { s.brCh h with currentAt := some s.now } ∧
        (∀ m, m ≠ h.val → t.brCh m = s.brCh m) ∧ s.ObjectsBut t [Obj.brFlags h, Obj.brCurrent h]) ∧
    (∀ current vbat ripples, current ≤ 65535 → s.brFn h = 2 → (s.brCh h).dir = 1 ∨ (s.brCh h).dir = 2 → (s.brCh h).target = none →
      ∃ t, exec (.forceEstimate h current vbat ripples) s = .next t ∧ t.ob (Obj.brCurrent h) = current ∧
        t = { s with obj := t.obj, br := t.br } ∧ (t.brCh h).dir = (s.brCh h).dir ∧ (∀ m, m ≠ h.val → t.brCh m = s.brCh m) ∧
        s.ObjectsBut t [Obj.brCurrent h, Obj.brRipplePos h, Obj.brPosition h, Obj.brForceEst h]) ∧
    (s.brFn h = 2 → (s.brCh h).dir = 2 → s.cf (Obj.brPinchConfirm h) ≤ (s.brCh h).overs →
      ∃ t, exec (.pinch h) s = .next t ∧
        s.Brakes t h 0 (if s.cf (Obj.brReverseRipples h) = 0 then 0 else 1) [] ∧
        (t.brCh h).reversal = decide (s.cf (Obj.brReverseRipples h) ≠ 0) ∧
        (s.cf (Obj.brReverseRipples h) = 0 → t.bit (Obj.brFlags h) 4 = true) ∧
        t.Raised s.now (8 * (s.brLead h + 1) + 3) (s.ob (Obj.brForceEst h))) ∧
    (∀ ripples, (s.brCh h).reversal = true → (s.brCh h).dir = 1 → s.brFn h = 2 →
      s.cf (Obj.brReverseRipples h) ≤ (s.brCh h).reversed + ripples →
      ∃ t, exec (.pinchReversalEnd h ripples) s = .next t ∧ s.Brakes t h 1 0 [Obj.brRipplePos h, Obj.brPosition h] ∧
        t.bit (Obj.brFlags h) 4 = true ∧ (t.brCh h).reversal = false ∧
        t.Raised s.now (8 * (s.brLead h + 1) + 6) (t.ob (Obj.brPosition h)))

/-- R169, R170. A lock pulse ends at PULSE_TIME or at the feedback level. A wiper's return to park ends its cycle: code 0 brakes
with slot 7, code 1 brakes with reason 1, code 2 brakes and sets the next wipe; the interval's end starts it; a blockage brakes
and turns back, and blocked again ends it. A code that waits for the rate limit runs, or is dropped where it no longer stands.
R179: BR_CLEAR ends BLOCKED and the rate limit, and lets a waiting code that still stands run; BR_FORGET clears the learned
profile and the normalisation. Completes: lockPulseEnd, wiperPark, wipeIntervalExpiry, wiperBlocked, lockRateWindowExpiry,
brClear, brForget. -/
def Obligations.LocksWipersAndBridgeCommandsDoAsStated : Prop :=
  (∀ (h : Fin 6) (s : State), s.ConfigFits → s.brUsed h = true →
    (s.brFn h = 3 → (s.brCh h).dir = 1 ∨ (s.brCh h).dir = 2 →
      s.passed (s.brCh h).since (ms (s.cf (Obj.brPulseTime h))) = true ∨ s.brFeedback h = some (decide ((s.brCh h).dir = 1)) →
      ∃ t, exec (.lockPulseEnd h) s = .next t ∧ s.Brakes t h 1 0 [] ∧
        (s.brFeedback h = some (!decide ((s.brCh h).dir = 1)) →
          t.Raised s.now (8 * s.brOther h + 2) ((s.brCh h).dir))) ∧
    (s.brFn h = 4 → (s.brCh h).dir = 1 →
      exec (.wiperPark h false) s = .next (s.setBr h { s.brCh h with left := true }) ∧
      ((s.brCh h).blockage = false → (s.brCh h).left = true →
        ((s.brCh h).code = 0 → ∃ t, exec (.wiperPark h true) s = .next t ∧ s.Brakes t h 0 0 [] ∧
          t.Raised s.now (8 * s.brOther h + 6) 0) ∧
        ((s.brCh h).code = 1 → ∃ t, exec (.wiperPark h true) s = .next t ∧ s.Brakes t h 1 0 []) ∧
        ((s.brCh h).code = 2 → ∃ t, exec (.wiperPark h true) s = .next t ∧ s.Brakes t h 0 0 [] ∧
          (t.brCh h).nextWipe = some (s.now + ms (100 * s.cf (Obj.brWipeInterval h)))))) ∧
    (∀ d, s.brFn h = 4 → (s.brCh h).code = 2 → (s.brCh h).nextWipe = some d → d ≤ s.now → s.brFlag h 3 = false →
      ∃ t, exec (.wipeIntervalExpiry h) s = .next t ∧ t.kept = s.kept ∧ s.Switches t []) ∧
    (∀ current, current ≤ 65535 → s.brFn h = 4 → (s.brCh h).dir = 1 ∨ (s.brCh h).dir = 2 →
      s.cf (Obj.brStallI h) ≤ s.gdDecide (s.brLead h) current → s.passed (s.brCh h).since (ms (s.cf (Obj.brStallTime h))) = true →
      ∃ t, exec (.wiperBlocked h current) s = .next t ∧ t.bit (Obj.brFlags h) 1 = true ∧ t.ob (Obj.brCurrent h) = current ∧
        ((s.brCh h).blockage = false → s.Brakes t h 0 2 [Obj.brCurrent h] ∧ (t.brCh h).blockage = true) ∧
        ((s.brCh h).blockage = true → s.Brakes t h 0 0 [Obj.brCurrent h] ∧ (t.brCh h).blockage = false ∧
          t.bit (Obj.brFlags h) 3 = true ∧ t.Raised s.now (8 * (s.brOther h + 1) + 3) 0)) ∧
    (∀ code, (s.brCh h).waiting = some code → s.brFn h = 3 → (s.recentPulses h).length < 10 →
      ∃ t, exec (.lockRateWindowExpiry h) s = .next t ∧ t.kept = s.kept ∧ s.Switches t [] ∧
        (code ≠ (s.brCh h).code → (t.brCh h).waiting = none ∧ t.ob (Obj.brState h) = 0 ∧ t = { s with obj := t.obj, br := t.br }))) ∧
  (∀ (k : Nat) (h : Fin 6) (s : State) (x : Session),
    (s.Serves k .host x → ∃ t, exec (.brClear k h) s = .next t ∧ t.kept = s.kept ∧ (s.asked x).Switches t [] ∧
      ((s.brCh h).waiting = none → t = { s.served x with obj := t.obj, br := t.br } ∧ (t.brCh h).pulses = [] ∧
        t.bit (Obj.brFlags h) 3 = false)) ∧
    (s.Serves k .service x → ∃ t, exec (.brForget k h) s = .next t ∧ t = { s.served x with obj := t.obj, br := t.br } ∧
      t.brCh h = { s.brCh h with bins := [], vbats := [], stored := none } ∧ t.bit (Obj.brFlags h) 5 = false ∧
      t.bit (Obj.brFlags h) 6 = false ∧ t.ob (Obj.brPosition h) = 0xFFFF ∧ s.ObjectsBut t [Obj.brFlags h, Obj.brPosition h]))

/-- R174–R176. A fan's 10 ms update shows its speed and source. A start that fails within the spin-up window, a window that ends
below 300 rpm, and a running fan that stalls, turn the fan off and count an attempt, with slot 0: it waits 1 s, 4 s or 16 s, and
the fourth failure locks it out with slot 1. A window that ends at 300 rpm or more leaves the fan running; with no tach edge in
it the tach is open. R175, R177, R180: a retry delay that has passed presents the start again; a tach with no edge while ripples
go on is open, and is restored by 1 s of agreement; FAN_CLEAR ends a lockout and starts a commanded fan again. Completes:
fanLoopUpdate, fanStartFailed, spinupWindowEnd, fanStallRunning, fanRetry, tachOpen, tachRestored, fanClear. -/
def Obligations.FansStartFailAndRecover : Prop :=
  (∀ (f : Fin 4) (s : State), s.ConfigFits → s.fanUsed f = true →
    (∀ ripples, s.ob (Obj.fanState f) = 1 ∨ s.ob (Obj.fanState f) = 2 → s.passed (s.fanCh f).lastUpdate (ms 10) = true →
      ∃ t, exec (.fanLoopUpdate f ripples) s = .next t ∧ t.kept = s.kept ∧ (t.fanCh f).lastUpdate = s.now ∧
        s.Switches t [Obj.fanSpeed f, Obj.fanSpeedSource f, Obj.fanRippleRatio f, Obj.fanFlags f] ∧
        (s.fanTachOk f = true → t.ob (Obj.fanSpeed f) = saturate (s.fanTachRpm f) 65535 ∧ t.ob (Obj.fanSpeedSource f) = 1) ∧
        (s.fanTachOk f = false → s.cf (Obj.fanRipplesPerRev f) ≠ 0 →
          t.ob (Obj.fanSpeed f) = saturate (s.fanRippleRpm f ripples) 65535 ∧ t.ob (Obj.fanSpeedSource f) = 2)) ∧
    (∀ (c : Instr) (n : Nat),
      ((∃ i, c = .fanStartFailed f i ∧ s.ob (Obj.fanState f) = 1 ∧
          (s.cf (Obj.fanTach f) = 0xFF ∨ s.fanEdgeWithin f (ms (s.cf (Obj.fanStallTime f))) = false) ∧
          s.cf (Obj.fanStallI f) ≤ s.gdDecide (s.fanLead f) i ∧
          s.passed (s.fanCh f).since (ms (s.cf (Obj.fanStallTime f))) = true) ∨
        (∃ r, c = .spinupWindowEnd f r ∧ s.ob (Obj.fanState f) = 1 ∧
          s.passed (s.fanCh f).since (ms (s.cf (Obj.fanSpinupTime f))) = true ∧
          (s.fanTachOk f = true → s.fanEdgeWithin f (s.now - (s.fanCh f).since) = true → s.fanTachRpm f < 300) ∧
          s.fanRippleRpm f r < 300)) ∧ n = s.ob (Obj.fanAttempts f) + 1 ∨
      (∃ i, c = .fanStallRunning f i ∧ s.ob (Obj.fanState f) = 2 ∧
        (s.cf (Obj.fanTach f) = 0xFF ∨ s.fanEdgeWithin f (ms (s.cf (Obj.fanStallTime f))) = false) ∧
        s.cf (Obj.fanStallI f) ≤ s.gdDecide (s.fanLead f) i) ∧ n = 1 →
      ∃ t, exec c s = .next t ∧ t.kept = s.kept ∧ t.ob (Obj.fanAttempts f) = saturate n 4 ∧
        t.Raised s.now (8 * s.fanLead f + 3) n ∧ s.Switches t [Obj.fanAttempts f, Obj.fanFlags f] ∧
        (t.fanCh f).duty = 0 ∧ t.ob (Obj.gdAppliedValue (s.fanLead f)) = 0 ∧ t.ob (Obj.fanSpeed f) = 0 ∧
        (4 ≤ n → t.ob (Obj.fanState f) = 4 ∧ t.bit (Obj.fanFlags f) 2 = true ∧ (t.fanCh f).retryAt = none) ∧
        (n < 4 → t.ob (Obj.fanState f) = 3 ∧
          (t.fanCh f).retryAt = some (s.now + (if n = 1 then sec 1 else if n = 2 then sec 4 else sec 16)))) ∧
    (∀ ripples, s.ob (Obj.fanState f) = 1 → s.passed (s.fanCh f).since (ms (s.cf (Obj.fanSpinupTime f))) = true →
      let edge := s.fanEdgeWithin f (s.now - (s.fanCh f).since)
      300 ≤ s.fanRippleRpm f ripples ∨ (s.fanTachOk f = true ∧ edge = true ∧ 300 ≤ s.fanTachRpm f) →
      ∃ t, exec (.spinupWindowEnd f ripples) s = .next t ∧ t.kept = s.kept ∧ t.ob (Obj.fanState f) = 2 ∧
        t.ob (Obj.fanAttempts f) = 0 ∧ s.Switches t [Obj.fanAttempts f, Obj.fanFlags f, Obj.fanSpeedSource f] ∧
        (s.fanTachOk f = true → edge = false → t.bit (Obj.fanFlags f) 3 = true ∧ t.ob (Obj.fanSpeedSource f) = 2 ∧
          t.Raised s.now (8 * (s.fanLead f + 1) + 2) (s.fanRippleRpm f ripples)))) ∧
  (∀ (f : Fin 4) (s : State), s.ConfigFits → s.fanUsed f = true →
    (∀ d, s.awake = true → s.ob (Obj.fanState f) = 3 → (s.fanCh f).retryAt = some d → d ≤ s.now →
      ∃ t, exec (.fanRetry f) s = .next t ∧ t.kept = s.kept ∧ s.Switches t [] ∧
        (s.commandedOf (State.gdSig (s.fanLead f)) = 0 →
          t = { s with obj := t.obj, fan := t.fan } ∧ t.ob (Obj.fanState f) = 0 ∧ (t.fanCh f).retryAt = none)) ∧
    (∀ ripples, s.ob (Obj.fanState f) = 2 → s.fanTachOk f = true → s.fanEdgeWithin f (s.fanEdgeWait f) = false →
      (s.fanCh f).lastTach ≤ 2 * s.fanRippleRpm f ripples →
      ∃ t, exec (.tachOpen f ripples) s = .next t ∧ t.bit (Obj.fanFlags f) 3 = true ∧ t.ob (Obj.fanSpeedSource f) = 2 ∧
        t.Raised s.now (8 * (s.fanLead f + 1) + 2) (s.fanRippleRpm f ripples) ∧
        t.fanCh f = { s.fanCh f with agreeSince := none } ∧ (∀ g, g ≠ f.val → t.fanCh g = s.fanCh g) ∧
        t = { s with obj := t.obj, fab := t.fab, fan := t.fan } ∧ s.ObjectsBut t [Obj.fanFlags f, Obj.fanSpeedSource f]) ∧
    (∀ ripples a, s.bit (Obj.fanFlags f) 3 = true → (s.fanCh f).agreeSince = some a → s.passed a (sec 1) = true →
      ∃ t, exec (.tachRestored f ripples) s = .next t ∧ t.bit (Obj.fanFlags f) 3 = false ∧ t.ob (Obj.fanSpeedSource f) = 1 ∧
        t.Raised s.now (8 * (s.fanLead f + 1) + 3) (s.fanRippleRpm f ripples) ∧
        t = { s with obj := t.obj, fab := t.fab } ∧ s.ObjectsBut t [Obj.fanFlags f, Obj.fanSpeedSource f]) ∧
    (∀ (h : Nat) (x : Session), s.Serves h .host x →
      ∃ t, exec (.fanClear h f) s = .next t ∧ t.kept = s.kept ∧ (s.asked x).Switches t [Obj.fanFlags f, Obj.fanAttempts f] ∧
        t.ob (Obj.fanAttempts f) = 0 ∧ (s.bit (Obj.fanFlags f) 2 = false → t = { s.served x with obj := t.obj }) ∧
        (s.commandedOf (State.gdSig (s.fanLead f)) = 0 → s.bit (Obj.fanFlags f) 2 = true →
          t.bit (Obj.fanFlags f) 2 = false ∧ t.ob (Obj.fanState f) = 0)))

/-- R186, R189, R190. A command of 0 in boost, peak hold or hold goes to fast off, and one to a channel that rests starts boost;
boost ends at SV_PEAK_CURRENT, or at BOOST_MAX with BOOST_TIMEOUT where the current has risen; hold follows PEAK_TIME; below 20
mA the channel is off. R187, R192–R196. In hold the mean current outside its band is a regulation fault, told once; a range
change runs within the fine range and ends with the other range, taking the setpoint that waited; a movement evaluation of the
samples of its window, the kink or dip that they show, ends with its result, its time and its slot event, and counts the misses.
Completes: svCommand, svBoostEnd, svPeakHoldEnd, svFastOffEnd, svRegFault, svRangeChangeStart, svRangeChangeEnd,
svMoveEvaluation. -/
def Obligations.SolenoidProfilesRunAndAreObserved : Prop :=
  (∀ (c : Fin 8) (s : State), s.cf (Obj.svMode c) ≠ 0 →
    (∀ (i v : Nat), (s.svCh c).arrived = some v → s.hoist.safe = false → s.svRestarts c v = false ∨ s.svBit c 3 = false →
      ∃ t, exec (.svCommand c i) s = .next t ∧ t = { s with obj := t.obj, sv := t.sv, fab := t.fab } ∧
        (t.svCh c).arrived = none ∧ (t.svCh c).value = v ∧ (∀ m, m ≠ c.val → t.svCh m = s.svCh m) ∧
        s.ObjectsBut t [Obj.svPhase c, Obj.svStatus c, Obj.svRange c, Obj.svBoostTime c, Obj.svMoveResult c] ∧
        (v = 0 → s.svPh c = 2 ∨ s.svPh c = 3 ∨ s.svPh c = 4 →
          t.svPh c = 5 ∧ t.svBit c 0 = false ∧ (t.svCh c).setpoint = 0 ∧ (t.svCh c).phaseAt = s.now) ∧
        (v ≠ 0 → (s.svCh c).off = false → s.svPh c = 0 → i < s.cf (Obj.svPeakCurrent c) →
          t.svPh c = 2 ∧ t.svBit c 0 = true ∧ (t.svCh c).boostAt = s.now ∧
          t.ob (Obj.svRange c) = (if s.cf (Obj.svRangeMode c) = 2 then 0 else 1)) ∧
        (v ≠ 0 → (s.svCh c).off = true → t.obj = s.obj)) ∧
    (∀ i, s.svPh c = 2 →
      s.cf (Obj.svPeakCurrent c) ≤ i ∨ s.passed (s.svCh c).boostAt (us (s.cf (Obj.svBoostMax c))) = true →
      ∃ t, exec (.svBoostEnd c i) s = .next t ∧ t = { s with obj := t.obj, sv := t.sv, fab := t.fab } ∧
        t.svPh c = (if s.cf (Obj.svPeakTime c) = 0 then 4 else 3) ∧
        t.ob (Obj.svBoostTime c) = saturate ((s.now - (s.svCh c).boostAt) / 100) 65535 ∧
        (s.cf (Obj.svPeakCurrent c) ≤ i → t.svBit c 10 = false ∧ t.svBit c 5 = false ∧ t.svBit c 6 = (s.svCh c).openOff ∧
          ((s.svCh c).recover ≠ 0 → t.Raised s.now (192 + 12 * c + 11) ((s.svCh c).recover))) ∧
        (i < s.cf (Obj.svPeakCurrent c) → s.cf (Obj.svOpenI c) ≤ i →
          t.svBit c 10 = true ∧ t.Raised s.now (192 + 12 * c + 5) i) ∧
        (i < s.cf (Obj.svPeakCurrent c) → i < s.cf (Obj.svOpenI c) → (t.svCh c).noRise = true)) ∧
    (s.svPh c = 3 → s.passed (s.svCh c).phaseAt (us (s.cf (Obj.svPeakTime c))) = true →
      ∃ t, exec (.svPeakHoldEnd c) s = .next t ∧ t = { s with obj := t.obj, sv := t.sv, fab := t.fab } ∧ t.svPh c = 4 ∧
        (t.svCh c).setpoint = (s.svCh c).value ∧ t.Raised s.now (192 + 12 * c + 10) (s.ob (Obj.svBoostTime c)) ∧
        s.ObjectsBut t [Obj.svPhase c, Obj.svStatus c]) ∧
    (∀ i, s.svPh c = 5 → i < 20 →
      ∃ t, exec (.svFastOffEnd c i) s = .next t ∧ t = { s with obj := t.obj, sv := t.sv } ∧
        (t.svPh c = 0 ∨ t.svPh c = 1) ∧ (s.arb.queue = [] → s.arb.refused = [] → t.svPh c = 0) ∧ t.ob (Obj.svIMeas c) = i ∧
        s.ObjectsBut t [Obj.svPhase c, Obj.svIMeas c])) ∧
  (∀ (c : Fin 8) (s : State),
    (∀ i, s.svPh c = 4 →
      ∃ t, exec (.svRegFault c i) s = .next t ∧ t.svBit c 1 = !s.svInBand c i ∧ t.ob (Obj.svIMeas c) = saturate i 65535 ∧
        (s.svInBand c i = false → s.svBit c 1 = false → t.Raised s.now (192 + 12 * c + 9) 1) ∧
        t = { s with obj := t.obj, fab := t.fab } ∧ s.ObjectsBut t [Obj.svStatus c, Obj.svIMeas c]) ∧
    (∀ i, s.svPh c = 4 → s.cf (Obj.svRangeMode c) = 0 → s.svBit c 3 = false → s.svPaired c = false →
      (s.ob (Obj.svRange c) = 1 → (s.svCh c).setpoint ≤ 1000 → s.svInBand c i = true →
        s.passed (s.svCh c).steadySince (s.cf (Obj.svChopPeriod c)) = true → i ≤ 1250 →
        exec (.svRangeChangeStart c i) s = .next (s.setSvBit c 3 true)) ∧
      (s.ob (Obj.svRange c) = 0 → 1100 < (s.svCh c).setpoint ∨ (s.svCh c).after.isSome = true → (s.svCh c).setpoint ≤ 1250 → i ≤ 1250 →
        exec (.svRangeChangeStart c i) s = .next (s.setSvBit c 3 true)) ∧
      (1250 < i → exec (.svRangeChangeStart c i) s = .next s)) ∧
    (s.svBit c 3 = true →
      ∃ t, exec (.svRangeChangeEnd c) s = .next t ∧ t.svBit c 3 = false ∧ t.ob (Obj.svRange c) = 1 - s.ob (Obj.svRange c) ∧
        (∀ v, (s.svCh c).after = some v → (t.svCh c).setpoint = v ∧ (t.svCh c).after = none) ∧
        ((s.svCh c).after = none → t.sv = s.sv) ∧ t = { s with obj := t.obj, sv := t.sv } ∧
        s.ObjectsBut t [Obj.svStatus c, Obj.svRange c]) ∧
    (∀ (t0 : Nat) (samples : List Int), let seen := s.svSeen c t0 samples
      (∃ d, (s.svCh c).windowK = some d ∧ (seen.isSome ∨ s.passed d (us (s.cf (Obj.svMoveWinEnd c))) = true)) ∨
        ((s.svCh c).windowD = true ∧ (seen.isSome ∨ s.svPh c ≠ 2)) →
      ∃ t, exec (.svMoveEvaluation c ⟨t0, samples⟩) s = .next t ∧ t = { s with obj := t.obj, sv := t.sv, fab := t.fab } ∧
        (t.svCh c).windowK = none ∧ (t.svCh c).windowD = false ∧
        s.ObjectsBut t [Obj.svStatus c, Obj.svMoveResult c, Obj.svMoveTime c] ∧
        (seen = none → (s.svCh c).windowD = true → (s.svCh c).peakFirst = true → t.ob (Obj.svMoveResult c) = 4) ∧
        (∀ u, seen = some u → u < s.cf (Obj.svMoveWinStart c) ∨ s.cf (Obj.svMoveWinEnd c) < u →
          t.ob (Obj.svMoveResult c) = 2) ∧
        (∀ u, seen = some u → s.cf (Obj.svMoveWinStart c) ≤ u → u ≤ s.cf (Obj.svMoveWinEnd c) → u ≤ 65535 →
          t.ob (Obj.svMoveResult c) = 1 ∧ t.ob (Obj.svMoveTime c) = u ∧ t.svBit c 2 = true ∧ (t.svCh c).misses = 0 ∧
          t.Raised s.now (192 + 12 * c + 6) (s.cf (Obj.svMoveClass c) * 2 ^ 16 + u)) ∧
        (seen = none → ((s.svCh c).windowD = false ∨ (s.svCh c).peakFirst = false) →
          t.ob (Obj.svMoveResult c) = 2 ∧ t.svBit c 2 = false ∧ (t.svCh c).misses = (s.svCh c).misses + 1 ∧
          (s.cf (Obj.svMoveMissLimit c) ≤ (s.svCh c).misses + 1 → t.Raised s.now (192 + 12 * c + 7) 2))))

/-- R197–R202. A tripped stage, a leak or an overtemperature turns the channel off through the clamp path and holds it off, with
its status bit and slot event; no rise of the current, or its loss in hold, is an open load; three off-state checks in agreement
give their result; a retry that falls due counts and is presented again. A pair acts on its even channel and reports on the
channel whose stage it was. No claim slot changes. Completes: svTrip, svLeak, svOpenLoad, svOffDiagCheck, svOvertemp, svRetry.
-/
def Obligations.SolenoidsAreProtected : Prop :=
  ∀ (c : Fin 8) (s : State),
    let m := s.svMain c
    (∀ (high low : Bool) (i : Nat), high = true ∨ low = true → s.cf (Obj.svMode m) ≠ 0 →
      s.svPh m = 2 ∨ s.svPh m = 3 ∨ s.svPh m = 4 →
      ∃ t, exec (.svTrip c high low i) s = .next t ∧ (t.svCh m).off = true ∧ (t.svCh m).setpoint = 0 ∧ t.svBit m 0 = false ∧
        t.svBit m 5 = true ∧ t.ob (Obj.svTripCount m) = (s.ob (Obj.svTripCount m) + 1) % 2 ^ 32 ∧ t.kept = s.kept ∧
        t.Raised s.now (192 + 12 * c) ((if high && low then 3 else if high then 1 else 2) * 2 ^ 16 + saturate i 65535) ∧
        s.Switches t [Obj.svTripCount m, Obj.svMoveResult m] ∧
        (s.hoist.safe = false → s.ob (Obj.svRetriesUsed m) < s.cf (Obj.svRetryCount m) → t.svPh m = 6 ∧ t.svBit m 14 = true) ∧
        (s.hoist.safe = false → s.cf (Obj.svRetryCount m) ≠ 255 → s.cf (Obj.svRetryCount m) ≤ s.ob (Obj.svRetriesUsed m) →
          t.svPh m = 7 ∧ t.svBit m 15 = true)) ∧
    (∀ iHs iLs, s.cf (Obj.svMode c) ≠ 0 → s.svBound c = false → s.svPh c = 2 ∨ s.svPh c = 3 ∨ s.svPh c = 4 →
      s.cf (Obj.svLeakI c) + (if s.svBit c 12 then 20 else 0) < max iHs iLs - min iHs iLs →
      ∃ t, exec (.svLeak c iHs iLs) s = .next t ∧ (t.svCh c).off = true ∧ t.svBit c 0 = false ∧ t.svBit c 9 = true ∧
        t.ob (Obj.svIDiff c) = wordOf 2 ((iHs : Int) - iLs) ∧ t.kept = s.kept ∧
        t.Raised s.now (192 + 12 * c + 8) ((if iHs < iLs then 1 else 2) * 2 ^ 16 + saturate (max iHs iLs - min iHs iLs) 65535)) ∧
    (∀ i, i < s.cf (Obj.svOpenI c) → (s.svCh c).noRise = true ∨ s.svPh c = 4 →
      ∃ t, exec (.svOpenLoad c i) s = .next t ∧ t.svBit c 6 = true ∧ (t.svCh c).noRise = false ∧ (t.svCh c).openOn = true ∧
        t.Raised s.now (192 + 12 * c + 2) 1 ∧ t = { s with obj := t.obj, sv := t.sv, fab := t.fab } ∧
        s.ObjectsBut t [Obj.svStatus c, Obj.svIMeas c]) ∧
    (∀ vh vl vbat, s.awake = true → s.svBound c = false → s.cf (Obj.svOffDiagEnable c) = 1 → s.cf (Obj.svMode c) ≠ 0 → s.svPh c = 0 →
      (s.svCh c).windowK = none → 8000 ≤ vbat → s.hoist.safe = false →
      (s.svCh c).diagNow = true ∨ s.passed (s.svCh c).lastDiag (ms (s.cf (Obj.svOffDiagPeriod c))) = true → vh ≤ 65535 →
      ∃ t, exec (.svOffDiagCheck c vh vl vbat) s = .next t ∧ t = { s with obj := t.obj, sv := t.sv, fab := t.fab } ∧
        t.svCh c = { s.svCh c with
          readings := (State.svReading vh vl :: (s.svCh c).readings).take 3, lastDiag := s.now, diagNow := false
          openOff := (t.svCh c).openOff } ∧
        s.ObjectsBut t [Obj.svStatus c, Obj.svOffDiagResult c] ∧ ((s.svCh c).readings = [] → t.obj = s.obj) ∧
        ((s.svCh c).readings.take 2 = [2, 2] → 4000 ≤ vh → vl ≤ 500 →
          t.ob (Obj.svOffDiagResult c) = 2 ∧ t.svBit c 6 = true ∧ t.svBit c 7 = false)) ∧
    (∀ temp : Int,
      (1700 < temp → s.svBit m 8 = false → s.cf (Obj.svMode m) ≠ 0 →
        ∃ t, exec (.svOvertemp c temp) s = .next t ∧ t.svBit m 8 = true ∧ (t.svCh m).off = true ∧ t.svBit m 0 = false ∧
          t.kept = s.kept ∧ t.ob (Obj.svStageTemp c) = wordOf 2 temp ∧ t.Raised s.now (192 + 12 * c + 4) (wordOf 4 temp)) ∧
      (1500 ≤ temp → temp ≤ 1700 → exec (.svOvertemp c temp) s = .next (s.setOb (Obj.svStageTemp c) (wordOf 2 temp)))) ∧
    (∀ d, s.awake = true → (s.svCh c).retryAt = some d → d ≤ s.now → s.svBit c 14 = true → s.hoist.safe = false →
      ∃ t, exec (.svRetry c) s = .next t ∧ t.kept = s.kept ∧ (s.bumpSat (Obj.svRetriesUsed c) 255).Switches t [])

/-- R190, R202, R206. RETRIGGER presents a commanded channel that nothing holds off, and fails with a value-range error for one
commanded 0. A fault clear of a channel whose stages read below 150 °C clears the latch, the waiting retry and the fault bits,
and presents a commanded channel again; with a stage at 150 °C or more it fails. A diagnostic run is asked of a channel that is
off. Both act on the even channel of a pair. Completes: svRetrigger, svFaultClear, svDiagRun. -/
def Obligations.SolenoidCommandsDoAsStated : Prop :=
  ∀ (h : Nat) (c : Fin 8) (s : State) (x : Session),
    let m := s.svMain c
    (s.Serves h .host x →
      (s.commandedOf (State.svSig c) = 0 → exec (.svRetrigger h c) s = .next { s.asked x with reply := { status := .valueRange } }) ∧
      (s.commandedOf (State.svSig c) ≠ 0 → ∃ t, exec (.svRetrigger h c) s = .next t ∧ t.kept = s.kept ∧ (s.asked x).Switches t [] ∧
        ((s.svCh c).off = true → t = s.served x)) ∧
      (s.svCool m = false → exec (.svFaultClear h c) s = .next { s.asked x with reply := { status := .configInvalid } }) ∧
      (s.svCool m = true →
        ∃ t, exec (.svFaultClear h c) s = .next t ∧ t.kept = s.kept ∧
          ((s.asked x).setOb (Obj.svRetriesUsed m) 0).Switches t [] ∧
          (s.commandedOf (State.svSig m) = 0 →
            (t.svCh m).off = false ∧ (t.svCh m).retryAt = none ∧ t.svBit m 15 = false ∧ t.svBit m 14 = false ∧
            t.svBit m 5 = false ∧ t.svBit m 9 = false ∧ t.svBit m 8 = false ∧ t.Raised s.now (192 + 12 * m + 11) 1 ∧
            (s.svPh m = 6 ∨ s.svPh m = 7 → t.svPh m = 0)))) ∧
    (s.Serves h .service x →
      (s.svPh m = 0 → s.cf (Obj.svOffDiagEnable m) = 1 →
        ∃ t, exec (.svDiagRun h c) s = .next t ∧ t = { s.served x with sv := t.sv } ∧
          t.svCh m = { s.svCh m with diagNow := true } ∧ ∀ k, k ≠ m → t.svCh k = s.svCh k) ∧
      (s.svPh m ≠ 0 ∨ s.cf (Obj.svOffDiagEnable m) ≠ 1 →
        exec (.svDiagRun h c) s = .next { s.asked x with reply := { status := .valueRange } }))

/-- R209, R210. An input whose comparator has held a new level for DIN_FILTER shows its term value, counts the edge and posts
offset 0 or 1; more than CHATTER_LIMIT changes within 1 s are chatter until they are at most half of it; a ball above 36 V is an
overvoltage until it is below 35 V. R225, R226. An accepted edge counts, gives the period since the last one and the mean
frequency, and the state is running; more than 16 rejected pulses within 1 s are glitching; TACH_TIMEOUT without an edge stops
the input with its last frequency in offset 2. Completes: dinEdge, dinChatter, dinOvervoltage, tachEdge, tachGlitching,
tachTimeout. -/
def Obligations.DigitalAndFrequencyInputsAreRead : Prop :=
  (∀ (c : Fin 16) (s : State),
    (∀ (level : Bool) (held : Nat), s.dinRuns c = true → (s.dinCh c).level ≠ level → s.dinHeld c held = true →
      ∃ t, exec (.dinEdge c ⟨level, held⟩) s = .next t ∧ t.ob (Obj.dinState c) = (if level = (s.cf (Obj.dinInvert c) == 1) then 0 else 1) ∧
        t.ob (Obj.dinEdges c) = (s.ob (Obj.dinEdges c) + 1) % 2 ^ 32 ∧ t.ob (Obj.dinLastEdge c) = s.now ∧
        (t.dinCh c).level = level ∧ s.now ∈ (t.dinCh c).changes ∧ t.kept = s.kept ∧
        t.Raised s.now (288 + 4 * c + (1 - t.ob (Obj.dinState c))) (t.ob (Obj.dinEdges c)) ∧
        (∀ m, m ≠ c.val → t.dinCh m = s.dinCh m) ∧
        ({ s with din := t.din } : State).Switches t [Obj.dinState c, Obj.dinEdges c, Obj.dinLastEdge c]) ∧
    (s.dinRuns c = true →
      (s.cf (Obj.chatterLimit c) ≠ 0 → s.cf (Obj.chatterLimit c) < s.dinRecent c → (s.dinCh c).chatter = false →
        ∃ t, exec (.dinChatter c) s = .next t ∧ t = (s.dinFaults c true (s.dinCh c).surge).post (288 + 4 * c + 2) (s.dinRecent c) ∧
          t.ob (Obj.dinFault c) = (if (s.dinCh c).surge then 2 else 1) ∧ t.Raised s.now (288 + 4 * c + 2) (s.dinRecent c)) ∧
      ((s.dinCh c).chatter = true → s.dinRecent c ≤ s.cf (Obj.chatterLimit c) / 2 →
        ∃ t, exec (.dinChatter c) s = .next t ∧ t = s.dinFaults c false (s.dinCh c).surge ∧
          t.ob (Obj.dinFault c) = if (s.dinCh c).surge then 2 else 0)) ∧
    (∀ mv, (36000 < mv → (s.dinCh c).surge = false →
        ∃ t, exec (.dinOvervoltage c mv) s = .next t ∧
          t = (s.dinFaults c (s.dinCh c).chatter true).post (288 + 4 * c + 3) mv ∧ t.ob (Obj.dinFault c) = 2 ∧
          t.Raised s.now (288 + 4 * c + 3) mv) ∧
      (mv < 35000 → (s.dinCh c).surge = true →
        ∃ t, exec (.dinOvervoltage c mv) s = .next t ∧ t = s.dinFaults c (s.dinCh c).chatter false ∧
          t.ob (Obj.dinFault c) = if (s.dinCh c).chatter then 1 else 0) ∧
      (35000 ≤ mv → mv ≤ 36000 → exec (.dinOvervoltage c mv) s = .next s))) ∧
  (∀ (i : Fin 4) (s : State), s.cf (Obj.tachEnable i) = 1 →
    (s.awake = true →
      ∃ t, exec (.tachEdge i) s = .next t ∧ t.ob (Obj.tachEdges i) = (s.ob (Obj.tachEdges i) + 1) % 2 ^ 32 ∧
        (t.tachCh i).edges = (s.now :: (s.tachCh i).edges).take (s.cf (Obj.tachAvg i) + 1) ∧
        t.ob (Obj.tachState i) = (if s.ob (Obj.tachState i) = 0 then 1 else s.ob (Obj.tachState i)) ∧
        t = { s with obj := t.obj, tach := t.tach, fab := t.fab } ∧ (∀ m, m ≠ i.val → t.tachCh m = s.tachCh m) ∧
        s.ObjectsBut t [Obj.tachEdges i, Obj.tachState i, Obj.tachPeriod i, Obj.tachFreq i] ∧
        (∀ e, (s.tachCh i).edges = [e] → s.cf (Obj.tachAvg i) ≠ 0 → s.now - e < 2 ^ 32 → e < s.now →
          t.ob (Obj.tachPeriod i) = s.now - e ∧ t.ob (Obj.tachFreq i) = min 5000000 (roundDiv 10000000000 (s.now - e)))) ∧
    (∀ n, 16 < n → exec (.tachGlitching i n) s = .next ((s.setOb (Obj.tachState i) 2).post (432 + 4 * i + 3) n)) ∧
    (∀ e r, (s.tachCh i).edges = e :: r → s.passed e (ms (s.cf (Obj.tachTimeout i))) = true →
      ∃ t, exec (.tachTimeout i) s = .next t ∧ t.ob (Obj.tachFreq i) = 0 ∧ t.ob (Obj.tachState i) = 0 ∧
        (t.tachCh i).edges = [] ∧ t.Raised s.now (432 + 4 * i + 2) (s.tachFreqNow i) ∧
        t = { s with obj := t.obj, tach := t.tach, fab := t.fab } ∧ s.ObjectsBut t [Obj.tachFreq i, Obj.tachState i]))

/-- R213, R214. A current-limit or hot trip turns the switch off and holds it off, shows and counts the trip with offset 0, and
the former is retried or latched; a hot stage that has cooled is presented again; a retry counts and is presented; a current
below OL_CURRENT while on is an open load, told once; three off-state checks in agreement give their result. R213, R229: a fault
clear of an output that is not hot clears its latch, waiting retry and fault bits, and presents a commanded one again; a hot one
fails. A diagnostic run is asked of an output that is off with diagnostics enabled. Completes: doutTrip, doutCooled, doutRetry,
doutOpenLoad, doutOffDiagCheck, doutFaultClear, doutDiagRun. -/
def Obligations.DigitalOutputsAreProtected : Prop :=
  (∀ (d : Fin 8) (s : State),
    (∀ (hot : Bool) (i : Nat), s.cf (Obj.doutEnable d) = 1 → s.ob (Obj.doutAppliedValue d) ≠ 0 →
      ∃ t, exec (.doutTrip d hot i) s = .next t ∧ (t.doutCh d).off = true ∧ (t.doutCh d).hot = hot ∧
        t.ob (Obj.doutAppliedValue d) = 0 ∧ t.doutBit d (if hot then 3 else 5) = true ∧
        t.ob (Obj.doutTripCount d) = (s.ob (Obj.doutTripCount d) + 1) % 2 ^ 32 ∧ t.kept = s.kept ∧
        t.Raised s.now (352 + 4 * d) ((if hot then 2 else 1) * 2 ^ 16 + saturate i 65535) ∧
        s.Switches t [Obj.doutTripCount d] ∧
        (hot = false → s.hoist.safe = false → (s.doutCh d).retries < s.cf (Obj.doutRetryCount d) → t.doutBit d 14 = true ∧
          ∃ u, (t.doutCh d).retryAt = some u ∧ s.now + ms (s.cf (Obj.doutRetryDelay d)) ≤ u) ∧
        (hot = false → s.hoist.safe = false → s.cf (Obj.doutRetryCount d) ≠ 255 →
          s.cf (Obj.doutRetryCount d) ≤ (s.doutCh d).retries → t.doutBit d 15 = true)) ∧
    ((s.doutCh d).hot = true → ∃ t, exec (.doutCooled d) s = .next t ∧ t.kept = s.kept ∧ s.Switches t [] ∧
      (s.hoist.safe = true ∨ s.doutBit d 15 = true → t = s.setDout d { s.doutCh d with hot := false })) ∧
    (∀ u, s.awake = true → (s.doutCh d).retryAt = some u → u ≤ s.now → s.doutBit d 14 = true → s.hoist.safe = false →
      ∃ t, exec (.doutRetry d) s = .next t ∧ t.kept = s.kept ∧ s.Switches t [] ∧
        (s.commandedOf (State.doutSig d) = 0 → (s.doutCh d).hot = false → s.doutBit d 15 = false →
          (t.doutCh d).retries = saturate ((s.doutCh d).retries + 1) 255 ∧ (t.doutCh d).off = false ∧ t.doutBit d 14 = false)) ∧
    (∀ i, s.cf (Obj.doutOlCurrent d) ≠ 0 → s.cf (Obj.doutEnable d) = 1 → s.ob (Obj.doutAppliedValue d) ≠ 0 →
      ∃ t, exec (.doutOpenLoad d i) s = .next t ∧ t.ob (Obj.doutIMeas d) = saturate i 65535 ∧
        t.doutBit d 6 = (decide (i < 10 * s.cf (Obj.doutOlCurrent d)) || (s.doutCh d).openOff) ∧
        (t.doutCh d).openOn = decide (i < 10 * s.cf (Obj.doutOlCurrent d)) ∧
        (i < 10 * s.cf (Obj.doutOlCurrent d) → (s.doutCh d).openOn = false → t.Raised s.now (352 + 4 * d + 2) 1) ∧
        t = { s with obj := t.obj, dout := t.dout, fab := t.fab } ∧ s.ObjectsBut t [Obj.doutIMeas d, Obj.doutStatus d]) ∧
    (∀ mv vbat, s.awake = true → s.cf (Obj.doutOffDiagEnable d) = 1 → s.cf (Obj.doutEnable d) = 1 →
      s.ob (Obj.doutAppliedValue d) = 0 → 8000 ≤ vbat → s.hoist.safe = false →
      (s.doutCh d).diagNow = true ∨ s.passed (s.doutCh d).lastDiag (ms (s.cf (Obj.doutOffDiagPeriod d))) = true →
      ∃ t, exec (.doutOffDiagCheck d mv vbat) s = .next t ∧ t = { s with obj := t.obj, dout := t.dout, fab := t.fab } ∧
        t.doutCh d = { s.doutCh d with
          readings := (State.offReading mv :: (s.doutCh d).readings).take 3, lastDiag := s.now, diagNow := false
          openOff := (t.doutCh d).openOff } ∧
        s.ObjectsBut t [Obj.doutStatus d] ∧ ((s.doutCh d).readings = [] → t.obj = s.obj) ∧
        ((s.doutCh d).readings.take 2 = [2, 2] → 3000 ≤ mv → mv ≤ 5500 → t.doutBit d 6 = true ∧ t.doutBit d 7 = false) ∧
        ((s.doutCh d).readings.take 2 = [3, 3] → 6500 < mv → t.doutBit d 7 = true))) ∧
  (∀ (h : Nat) (d : Fin 8) (s : State) (x : Session),
    (s.Serves h .host x →
      ((s.doutCh d).hot = true → exec (.doutFaultClear h d) s = .next { s.asked x with reply := { status := .configInvalid } }) ∧
      ((s.doutCh d).hot = false →
        ∃ t, exec (.doutFaultClear h d) s = .next t ∧ t.kept = s.kept ∧ (s.asked x).Switches t [] ∧
          (s.commandedOf (State.doutSig d) = 0 →
            t.doutCh d = { s.doutCh d with retries := 0, retryAt := none, off := false, recover := 0 } ∧
            t.doutBit d 15 = false ∧ t.doutBit d 14 = false ∧ t.doutBit d 5 = false ∧ t.doutBit d 3 = false ∧
            t.Raised s.now (352 + 4 * d + 3) 1))) ∧
    (s.Serves h .service x →
      (s.ob (Obj.doutAppliedValue d) = 0 → s.cf (Obj.doutOffDiagEnable d) = 1 →
        ∃ t, exec (.doutDiagRun h d) s = .next t ∧ t = { s.served x with dout := t.dout } ∧
          t.doutCh d = { s.doutCh d with diagNow := true } ∧ ∀ m, m ≠ d.val → t.doutCh m = s.doutCh m) ∧
      (s.ob (Obj.doutAppliedValue d) ≠ 0 ∨ s.cf (Obj.doutOffDiagEnable d) ≠ 1 →
        exec (.doutDiagRun h d) s = .next { s.asked x with reply := { status := .valueRange } })))

/-- R216–R224. A due slot of an enabled input shows the ball's voltage; an implausible conversion declares a break or a short
with offset 2, and the eighth plausible one in a row ends it; an enabled plausible input delivers its result. 200 µs after a
range change began the new network is connected, and only a slot that starts after that is taken. A VSENS supply shows its
state, and ratiometric inputs of a supply that does not regulate are invalid. Completes: ainSlot, ainRangeChangeEnd,
vsensStateChange. -/
def Obligations.AnalogInputsAreMeasured : Prop :=
  (∀ (c : Fin 12) (mv it : Nat) (s : State), s.awake = true → s.cf (Obj.ainKind c) ≠ 0 → (s.ainCh c).changeEnd = none →
    (s.ainCh c).connected + us 5 ≤ s.now →
    ((s.now : Int) - us 5 - us (5 * (c.val % 4))) % (us (s.cf (Obj.ainPeriod c)) : Int) = 0 → mv ≤ 65535 →
    ∃ t, exec (.ainSlot c mv it) s = .next t ∧
      t = { s with obj := t.obj, ain := t.ain, fab := t.fab, meas := t.meas } ∧ (∀ m, m ≠ c.val → t.ainCh m = s.ainCh m) ∧
      s.ObjectsBut t [Obj.ainBallMv c, Obj.ainState c, Obj.ainValue c, Obj.breakCount c] ∧
      ((s.ainCh c).skip ≠ 0 → t = s.setAin c { s.ainCh c with skip := (s.ainCh c).skip - 1 }) ∧
      ((s.ainCh c).skip = 0 → t.ob (Obj.ainBallMv c) = mv ∧
        (s.cf (Obj.ainKind c) = 1 → s.cf (Obj.breakShift c) < (mv - it) + (it - mv) → s.ob (Obj.ainState c) ≠ 3 →
          t.ob (Obj.ainState c) = 3 ∧ t.ob (Obj.breakCount c) = (s.ob (Obj.breakCount c) + 1) % 2 ^ 32 ∧
          t.Raised s.now (384 + 4 * c + 2) 1) ∧
        (s.cf (Obj.ainKind c) = 3 → 4900 < it → s.ob (Obj.ainState c) ≠ 3 →
          t.ob (Obj.ainState c) = 3 ∧ t.ob (Obj.breakCount c) = (s.ob (Obj.breakCount c) + 1) % 2 ^ 32 ∧
          t.Raised s.now (384 + 4 * c + 2) 1) ∧
        (s.cf (Obj.ainKind c) = 3 → it < 50 → s.ob (Obj.ainState c) ≠ 4 →
          t.ob (Obj.ainState c) = 4 ∧ t.Raised s.now (384 + 4 * c + 2) 2) ∧
        (s.cf (Obj.ainKind c) = 2 → s.vsensState (s.cf (Obj.ainRef c)) ≠ 1 → s.ob (Obj.ainState c) ≠ 5 →
          t.ob (Obj.ainState c) = 5 ∧ t.Raised s.now (384 + 4 * c + 2) 3) ∧
        (s.cf (Obj.ainKind c) = 1 → (mv - it) + (it - mv) ≤ s.cf (Obj.breakShift c) →
          (s.ob (Obj.ainState c) = 1 →
            t.ob (Obj.ainState c) = 1 ∧ (s.cf (Obj.ainAvg c) = 0 → t.ob (Obj.ainValue c) = min mv 33000)) ∧
          (s.ob (Obj.ainState c) = 3 → (s.ainCh c).good < 7 →
            t.ob (Obj.ainState c) = 3 ∧ (t.ainCh c).good = (s.ainCh c).good + 1) ∧
          (s.ob (Obj.ainState c) = 3 → (s.ainCh c).good = 7 → (s.ainCh c).again ≠ 0 →
            t.ob (Obj.ainState c) = 1 ∧ t.Raised s.now (384 + 4 * c + 3) ((s.ainCh c).again))))) ∧
  (∀ (c : Fin 12) (s : State) (e : Tick), (s.ainCh c).changeEnd = some e →
    (e ≤ s.now → exec (.ainRangeChangeEnd c) s = .next (s.setAin c { s.ainCh c with changeEnd := none, connected := e })) ∧
    (s.now < e → exec (.ainRangeChangeEnd c) s = .next s)) ∧
  (∀ (v : Fin 2) (st : Fin 4) (s : State),
    st = 0 ∨ (s.awake = true ∧ s.cf (if v = 0 then Obj.vsens0Enable else Obj.vsens1Enable) = 1) →
    ∃ t, exec (.vsensStateChange v st) s = .next t ∧ t.vsensState v = st ∧
      t = { s with obj := t.obj, ain := t.ain, fab := t.fab, vsensAt := t.vsensAt } ∧
      (∀ c < 12, s.cf (Obj.ainKind c) = 2 → s.cf (Obj.ainRef c) = v → st ≠ 1 → s.ob (Obj.ainState c) ≠ 2 →
        t.ob (Obj.ainState c) = 5 ∧ (s.ob (Obj.ainState c) ≠ 5 → t.Raised s.now (384 + 4 * c + 2) 3)) ∧
      (∀ c < 12, (s.cf (Obj.ainKind c) = 2 → s.cf (Obj.ainRef c) = v → st = 1) → t.ob (Obj.ainState c) = s.ob (Obj.ainState c)) ∧
      (st = 1 → s.vsensState v ≠ 1 → t.vsensAt.read 0 v = s.now))

/-- R232–R236. A learning result that is disturbed, or far from what is declared, is discarded with EV1275 and its reason; one
that is kept is stored, the first as it is and a later one as (3 × v + r) ÷ 4, counted, with EV1274 for the first. PP_RELEARN
forgets the learned values, PP_REFERENCE takes the values in force of a valid passport, PP_CLEAR_DRIFT clears DRIFT. Completes:
passportLearn, ppRelearn, ppReference, ppClearDrift. -/
def Obligations.PassportsLearn : Prop :=
  (∀ (n : Fin 40) (q : Fin 6) (v i vbat : Nat) (temp : Int) (why : Fin 4) (s : State), s.ppUsed n = true → State.ppLearns n q = true →
    s.cf (Obj.ppLearn n) = 2 ∨ (s.cf (Obj.ppLearn n) = 1 ∧ (s.ppCh n).learned.get? q = none) →
    (s.ppDiscard n q v why ≠ 0 →
      exec (.passportLearn n q v temp i vbat why) s = .next (s.post 1275 (s.ppDiscard n q v why * 2 ^ 24 + State.ppSig n))) ∧
    (s.ppDiscard n q v why = 0 →
      ∃ t, exec (.passportLearn n q v temp i vbat why) s = .next t ∧
        (t.ppCh n).learned.get? q = some (match (s.ppCh n).learned.get? q with
          | some w => (3 * w + v) / 4
          | none => v) ∧
        t.ob (Obj.ppLearnCount n) = (s.ob (Obj.ppLearnCount n) + 1) % 2 ^ 32 ∧
        ((s.ppCh n).learned.get? q = none → t.Raised s.now 1274 (State.ppSig n)) ∧
        t = { s with obj := t.obj, pp := t.pp, fab := t.fab } ∧ (∀ m, m ≠ n.val → t.ppCh m = s.ppCh m) ∧
        s.ObjectsBut t [Obj.ppEnvIMax n, Obj.ppEnvTMin n, Obj.ppEnvTMax n, Obj.ppLearnCount n, Obj.ppDrift n])) ∧
  (∀ (h : Nat) (n : Fin 40) (s : State) (x : Session),
    (s.Serves h .service x →
      (∃ t, exec (.ppRelearn h n) s = .next t ∧ t.ppCh n = { s.ppCh n with learned := [] } ∧ t.ob (Obj.ppEnvIMax n) = 0 ∧
        t.ob (Obj.ppEnvTMin n) = 0 ∧ t.ob (Obj.ppEnvTMax n) = 0 ∧ t = { s.served x with obj := t.obj, pp := t.pp } ∧
        (∀ m, m ≠ n.val → t.ppCh m = s.ppCh m) ∧ s.ObjectsBut t [Obj.ppEnvIMax n, Obj.ppEnvTMin n, Obj.ppEnvTMax n]) ∧
      (s.ppValid n = false → exec (.ppReference h n) s = .next { s.asked x with reply := { status := .valueRange } }) ∧
      (s.ppValid n = true → ∃ t, exec (.ppReference h n) s = .next t ∧ t.ob (Obj.ppRefRCold n) = s.ppVal n 0 ∧
        t.ob (Obj.ppRefRHot n) = s.ppVal n 1 ∧ t.ob (Obj.ppRefL n) = s.ppVal n 2 ∧ t.ob (Obj.ppDrift n) = 0 ∧
        (t.ppCh n).referenced = true ∧ (t.ppCh n).learned = (s.ppCh n).learned ∧
        t = { s.served x with obj := t.obj, pp := t.pp } ∧
        s.ObjectsBut t [Obj.ppRefRCold n, Obj.ppRefRHot n, Obj.ppRefISet n, Obj.ppRefL n, Obj.ppDrift n])) ∧
    (s.Serves h .host x →
      ∃ t, exec (.ppClearDrift h n) s = .next t ∧ t.ob (Obj.ppDrift n) = 0 ∧ (t.ppCh n).driftRuns = [] ∧
        t = { s.served x with obj := t.obj, pp := t.pp } ∧ s.ObjectsBut t [Obj.ppDrift n]))

/-- R237–R240. A due calibration pulse of a conducting channel gives CAL_VALUE with its temperature and current, and is rejected
with EV1279 outside 0.2 to 200 mΩ or twofold from nominal; offset samples give the means of a solenoid's stages; a reading
outside its envelope is extrapolated with EV1277 once, and within it again with EV1278. Completes: gdCalibration,
svOffsetCalibration, readingExtrapolated. -/
def Obligations.SensesAreCalibrated : Prop :=
  (∀ (n : Fin 24) (r i : Nat) (temp : Int) (s : State), s.calRuns n = true → s.gdIsOn n = true → s.bit (Obj.gdStatus n) 13 = false →
    s.gdOnLongEnough n = true → (∀ u, s.pulseAt = some u → s.passed u (ms 10) = true) → s.calDue n (s.calCh n).taken = true →
    (s.calRejected n r (s.calTemp n temp) = true →
      exec (.gdCalibration n r temp i) s = .next (({ s with pulseAt := some s.now } : State).post 1279 (mkSig clsGD n))) ∧
    (s.calRejected n r (s.calTemp n temp) = false →
      ∃ t, exec (.gdCalibration n r temp i) s = .next t ∧ t.ob (Obj.calValue n) = r ∧
        t.ob (Obj.calT n) = wordOf 2 (s.calTemp n temp) ∧ t.ob (Obj.calI n) = saturate i 65535 ∧ t.ob (Obj.calState n) = 1 ∧
        t.bit (Obj.gdStatus n) 12 = false ∧ (t.calCh n).taken = some s.now ∧ t.pulseAt = some s.now ∧
        (s.bit (Obj.gdStatus n) 12 = true → t.Raised s.now 1278 (State.ppSig n)) ∧
        t = { s with obj := t.obj, cal := t.cal, fab := t.fab, pulseAt := t.pulseAt } ∧
        s.ObjectsBut t [Obj.calValue n, Obj.calT n, Obj.calI n, Obj.calState n, Obj.gdStatus n])) ∧
  (∀ (c : Fin 8) (offset : Int) (i : Nat) (s : State), s.calRuns (24 + c.val) = true → s.cf (Obj.svMode c) ≠ 0 →
    (s.ob (Obj.svPhase c) = 4 → s.passed (s.svCh c).steadySince (ms 10) = true → s.bit (Obj.svStatus c) 3 = false →
      ∃ t, exec (.svOffsetCalibration c true offset i) s = .next t ∧
        (t.svCh c).hsSamples = (offset :: (s.svCh c).hsSamples).take 16 ∧
        t.ob (Obj.calHsOffset (24 + c.val)) = wordOf 2 (State.meanOf ((offset :: (s.svCh c).hsSamples).take 16)) ∧
        (s.calDue (24 + c.val) (s.calCh (24 + c.val)).taken = true → (t.calCh (24 + c.val)).taken = some s.now) ∧
        t = { s with obj := t.obj, sv := t.sv, cal := t.cal, fab := t.fab }) ∧
    (s.ob (Obj.svPhase c) = 0 → s.passed (s.svCh c).phaseAt (ms 1) = true →
      s.calDue (24 + c.val) (s.calCh (24 + c.val)).lsTaken = true →
      ∃ t, exec (.svOffsetCalibration c false offset i) s = .next t ∧ t.ob (Obj.calLsOffset (24 + c.val)) = wordOf 2 offset ∧
        (t.calCh (24 + c.val)).lsTaken = some s.now ∧ t = { s with obj := t.obj, cal := t.cal, fab := t.fab })) ∧
  (∀ (n : Fin 32) (temp : Int) (i : Nat) (s : State), s.ppUsed n = true → n.val < 24 →
    ∃ t, exec (.readingExtrapolated n temp i) s = .next t ∧
      t.ob (Obj.gdIEst n) = saturate i 65535 ∧
      t.bit (Obj.gdStatus n) 12 = !s.gdWithin n (s.calTemp n temp) i ∧
      (s.gdWithin n (s.calTemp n temp) i = false → t.ob (Obj.calState n) = 2 ∧
        (s.bit (Obj.gdStatus n) 12 = false → t.Raised s.now 1277 (State.ppSig n))) ∧
      t = { s with obj := t.obj, fab := t.fab } ∧ s.ObjectsBut t [Obj.gdIEst n, Obj.calState n, Obj.gdStatus n])

/-- R242, R243, R245, R250. A supply outside its window shows its side and raises its event with the sample, and one back within
its window less the hysteresis the event of its return; reading an extreme answers it and restarts it from the latest sample; a
temperature above its warning limit raises EV1268 and those that follow it, once, and 5 °C below it EV1273. R246, R247.
CABLE_RUN starts a measurement of a port, and is in use while one runs. A measurement that ends gives the length of the round
trip, or that no end was seen within 60 m, what was reflected, EV1280, and EV1281 for an open end or a short. Completes:
supplyWindowExit, supplyWindowReturn, supMinMaxRead, temperatureSample, cableRun, cableMeasured. -/
def Obligations.SuppliesTemperaturesAndCablesAreWatched : Prop :=
  ((∀ (m : Fin 10) (v : Nat) (s : State),
    (s.supSide m v ≠ 0 → s.supSide m v ≠ s.ob (Obj.supState m) →
      ∃ t, exec (.supplyWindowExit m v) s = .next t ∧ t.ob (Obj.supState m) = s.supSide m v ∧ t.ob (Obj.supValue m) = v ∧
        t.Raised s.now (1248 + m) (s.supSide m v * 2 ^ 16 + v) ∧
        t = { s with obj := t.obj, fab := t.fab, meas := t.meas, sampled := t.sampled } ∧
        s.ObjectsBut t [Obj.supState m, Obj.supValue m, Obj.supMin m, Obj.supMax m]) ∧
    (s.ob (Obj.supState m) ≠ 0 → s.supInside m v = true →
      ∃ t, exec (.supplyWindowReturn m v) s = .next t ∧ t.ob (Obj.supState m) = 0 ∧ t.ob (Obj.supValue m) = v ∧
        t.Raised s.now (1258 + m) v ∧
        t = { s with obj := t.obj, fab := t.fab, meas := t.meas, sampled := t.sampled } ∧
        s.ObjectsBut t [Obj.supState m, Obj.supValue m, Obj.supMin m, Obj.supMax m]) ∧
    (s.supSide m v = 0 → exec (.supplyWindowExit m v) s = .next (s.sampleSupply m v)) ∧
    (s.ob (Obj.supMin m) ≤ v → v ≤ s.ob (Obj.supMax m) →
      (s.sampleSupply m v).ob (Obj.supMin m) = s.ob (Obj.supMin m) ∧ (s.sampleSupply m v).ob (Obj.supMax m) = s.ob (Obj.supMax m))) ∧
  (∀ (h : Nat) (m : Fin 10) (mx : Bool) (s : State) (x : Session), s.Serves h .host x →
    ∃ t, exec (.supMinMaxRead h m mx) s = .next t ∧ t.reply.data = toBytes 2 (s.ob (if mx then Obj.supMax m else Obj.supMin m)) ∧
      t = { s.asked x with obj := t.obj, reply := t.reply } ∧
      s.ObjectsBut t [if mx then Obj.supMax m else Obj.supMin m] ∧
      (m.val ∈ s.sampled → t.ob (if mx then Obj.supMax m else Obj.supMin m) = s.ob (Obj.supValue m))) ∧
  (∀ (a b c d e : Int) (s : State),
    ∃ t, exec (.temperatureSample a b c d e) s = .next t ∧ t = { s with meas := t.meas, warm := t.warm, fab := t.fab } ∧
      ∀ p ∈ [(64, a), (65, b), (66, c), (67, d), (68, e)], t.meas.read 0 p.1 = p.2 ∧
        (s.tempLimit p.1 < p.2 → p.1 ∈ t.warm ∧ (p.1 ∉ s.warm → t.Raised s.now (1268 + (p.1 - 64)) (wordOf 4 p.2))) ∧
        (p.2 ≤ s.tempLimit p.1 - 50 → p.1 ∉ t.warm ∧ (p.1 ∈ s.warm → t.Raised s.now 1273 p.1)))) ∧
  ((∀ (h : Nat) (p : Fin 8) (s : State) (x : Session), s.Serves h .service x →
    (s.cable.get? p = none → ∃ t, exec (.cableRun h p) s = .next t ∧ t.cable.get? p = some { since := s.now } ∧
      t.ob (Obj.cableBusy p) = 1 ∧ t = { s.served x with obj := t.obj, cable := t.cable } ∧ s.ObjectsBut t [Obj.cableBusy p]) ∧
    (s.cable.get? p ≠ none → exec (.cableRun h p) s = .next { s.asked x with reply := { status := .inUse } })) ∧
  (∀ (p : Fin 8) (trip : Option Nat) (e : Fin 4) (s : State), s.cable.get? p ≠ none →
    ∃ t, exec (.cableMeasured p trip e) s = .next t ∧ t.ob (Obj.cableBusy p) = 0 ∧
      t = { s with obj := t.obj, cable := t.cable, fab := t.fab } ∧
      s.ObjectsBut t [Obj.cableBusy p, Obj.cableLength p, Obj.cableEnd p, Obj.bpFlags p] ∧
      (∀ u, trip = some u → s.cf (Obj.cableVf p) * u / 200 ≤ 6000 → e.val ≠ 0 →
        t.ob (Obj.cableLength p) = s.cf (Obj.cableVf p) * u / 200 ∧ t.ob (Obj.cableEnd p) = e ∧
        t.Raised s.now 1280 (p * 2 ^ 24 + e * 2 ^ 16 + s.cf (Obj.cableVf p) * u / 200 / 10) ∧
        (2 ≤ e.val → t.Raised s.now 1281 (p * 2 ^ 24 + e * 2 ^ 16 + s.cf (Obj.cableVf p) * u / 200 / 10))) ∧
      (trip = none → t.ob (Obj.cableLength p) = 0xFFFF ∧ t.ob (Obj.cableEnd p) = 0 ∧
        t.Raised s.now 1280 (p * 2 ^ 24 + 0xFFFF))))

/-- R253, R256, R258, R259, R261, R265, R268. A data frame of a port that may start one counts, carries the values and judges
its turn mark; a mark that does not come counts a turn error. Each node latches the values sent, its own bits as it received
them, or what it had where they are broken or a broken header ended the frame before it. A command frame carries the setups and
clears that wait, and changes no value; a node whose command is broken sets its error flag. R263, R264, R268, R269, R271. A line
fault, or a discovery whose replies do not agree, puts the port in fault until BP_RETRY_TIME has passed; one whose replies agree
and name known nodes makes it active with its nodes. Rediscovery is asked of an active or faulty port; clears wait for a command
frame; a node that no frame reaches is dark. Completes: bpFrame, bpCommandFrame, bpLineFault, bpDiscovery, bpRetryExpiry,
bpRediscover, bpNodeClear, nodeTimeout. -/
def Obligations.BuntingStrandsDoAsStated : Prop :=
  (∀ (p : Fin 8) (s : State), s.bpMayStart p = true →
    (∀ (turn : Option Nat) (tail : BitVec 12) (l : List BuntingReply) (lines : List BuntingLine), s.bpCommandDue p = false →
      ∃ t, exec (.bpFrame p turn tail ⟨l, lines⟩) s = .next t ∧ t.ob (Obj.bpFrameCount p) = (s.ob (Obj.bpFrameCount p) + 1) % 2 ^ 32 ∧
        (t.bpCh p).lastFrame = s.now ∧ t.kept = s.kept ∧
        (Table.wf (fun _ => 0) (s.bpCh p).latched = true → ∀ pos < 4096, ∀ c < 8,
          (t.bpCh p).latched.read 0 (State.bpPortSig p + 8 * pos + c) =
            if State.frameEnds lines ≤ pos then (s.bpCh p).latched.read 0 (State.bpPortSig p + 8 * pos + c)
            else match State.takenAt lines pos with
              | some (.bits w) => bitsOf w (84 - 12 * c) 12
              | some _ => (s.bpCh p).latched.read 0 (State.bpPortSig p + 8 * pos + c)
              | none => (t.bpCh p).sent.read 0 (State.bpPortSig p + 8 * pos + c)) ∧
        (turn = none → t.ob (Obj.bpTurnErrors p) = (s.ob (Obj.bpTurnErrors p) + 1) % 2 ^ 32) ∧
        ({ s with cable := t.cable } : State).Switches t
          ([Obj.bpFrameCount p, Obj.bpTurnErrors p, Obj.bpReplyErrors p, Obj.cableBusy p] ++ (List.range 64).map (Obj.bpBgState p))) ∧
    (∀ lines : List BuntingLine, s.bpCommandDue p = true →
      ∃ t, exec (.bpCommandFrame ⟨p, lines⟩) s = .next t ∧ t.ob (Obj.bpFrameCount p) = (s.ob (Obj.bpFrameCount p) + 1) % 2 ^ 32 ∧
        t.bpCh p = { s.bpCh p with setup := false, clears := [], sinceCommand := 0, seq := ((s.bpCh p).seq + 1) % 8
                                   lastFrame := s.now, unheard := (t.bpCh p).unheard, errs := (t.bpCh p).errs
                                   dark := (t.bpCh p).dark } ∧
        (∀ pos < s.ob (Obj.bpNodeCount p), pos < State.frameEnds lines → (t.bpCh p).unheard.get? pos = none ∧
          (∀ x, State.takenAt lines pos = some x → State.badCommand x = true → pos ∈ (t.bpCh p).errs)) ∧
        (∀ m, m ≠ p.val → t.bpCh m = s.bpCh m) ∧ t = { s with obj := t.obj, bp := t.bp } ∧ s.ObjectsBut t [Obj.bpFrameCount p])) ∧
  ((∀ (p : Fin 8) (high : Bool) (s : State), s.cf (Obj.bpEnable p) = 1 → s.ob (Obj.bpState p) = 1 ∨ s.ob (Obj.bpState p) = 2 →
    ∃ t, exec (.bpLineFault p high) s = .next t ∧ t.ob (Obj.bpState p) = 3 ∧ t.bit (Obj.bpFlags p) 6 = true ∧
      (t.bpCh p).retryAt = some (s.now + ms (s.cf (Obj.bpRetryTime p))) ∧
      t.Raised s.now (448 + 8 * p + 2) (if high then 2 else 1) ∧
      t = { s with obj := t.obj, bp := t.bp, fab := t.fab } ∧ s.ObjectsBut t [Obj.bpState p, Obj.bpFlags p]) ∧
  (∀ (p : Fin 8) (d : BuntingDiscovery) (s : State), s.ob (Obj.bpState p) = 1 →
    (State.countOf d.counts = none →
      ∃ t, exec (.bpDiscovery p d) s = .next t ∧ t.ob (Obj.bpState p) = 3 ∧ t.bit (Obj.bpFlags p) 7 = true ∧
        t.Raised s.now (448 + 8 * p + 3) 0xFFFF ∧ t = { s with obj := t.obj, bp := t.bp, fab := t.fab }) ∧
    (∀ tail, State.countOf d.counts = some tail → State.badCapability (tail + 1) d.capabilities = none →
      ∃ t, exec (.bpDiscovery p d) s = .next t ∧ t.ob (Obj.bpState p) = 2 ∧ t.ob (Obj.bpNodeCount p) = tail + 1 ∧
        t.ob (Obj.bpRoundTrip p) = d.roundTrip.toNat ∧ t.bit (Obj.bpFlags p) 0 = true ∧ t.bit (Obj.bpFlags p) 5 = false ∧
        (s.cf (Obj.bpExpectNodes p) = tail + 1 → t.bit (Obj.bpFlags p) 4 = false ∧
          t.Raised s.now (448 + 8 * p) (tail + 1)) ∧ t.kept = s.kept ∧
        s.Switches t [Obj.bpNodeCount p, Obj.bpRoundTrip p, Obj.bpFrameTime p, Obj.bpDiagCycle p, Obj.bpState p, Obj.bpFlags p] ∧
        (s.arb.queue = [] → s.arb.refused = [] → t = { s with obj := t.obj, bp := t.bp, fab := t.fab, arb := t.arb } ∧
          s.ObjectsBut t [Obj.bpNodeCount p, Obj.bpRoundTrip p, Obj.bpFrameTime p, Obj.bpDiagCycle p, Obj.bpState p, Obj.bpFlags p]))) ∧
  (∀ (p : Fin 8) (s : State) (u : Tick), (s.bpCh p).retryAt = some u → u ≤ s.now → s.ob (Obj.bpState p) = 3 →
    s.ft.stopped = [] → s.ft.regionsLost = [] →
    ∃ t, exec (.bpRetryExpiry p) s = .next t ∧ t.ob (Obj.bpState p) = 1 ∧ (t.bpCh p).retryAt = none ∧
      (t.cable.get? p).isSome = true ∧ t = { s with obj := t.obj, bp := t.bp, cable := t.cable } ∧
      s.ObjectsBut t [Obj.bpState p, Obj.bpFlags p, Obj.cableBusy p]) ∧
  (∀ (h : Nat) (p : Fin 8) (pos : BitVec 16) (s : State) (x : Session),
    (s.Serves h .service x →
      (s.ob (Obj.bpState p) = 1 → exec (.bpRediscover h p) s = .next { s.asked x with reply := { status := .inUse } }) ∧
      (s.ob (Obj.bpState p) = 2 → s.ft.stopped = [] → s.ft.regionsLost = [] →
        ∃ t, exec (.bpRediscover h p) s = .next t ∧ t.ob (Obj.bpState p) = 1 ∧
          t = { s.served x with obj := t.obj, bp := t.bp, cable := t.cable }) ∧
      (s.ob (Obj.bpState p) = 0 → exec (.bpRediscover h p) s = .next (s.served x))) ∧
    (s.Serves h .host x →
      (pos.toNat < 4096 → ∃ t, exec (.bpNodeClear h p pos) s = .next t ∧ (t.bpCh p).clears.get? pos.toNat = some 0xFF ∧
        t = { s.served x with bp := t.bp } ∧ ∀ m, m ≠ p.val → t.bpCh m = s.bpCh m) ∧
      (4096 ≤ pos.toNat → pos.toNat ≠ 0xFFFF →
        exec (.bpNodeClear h p pos) s = .next { s.asked x with reply := { status := .valueRange } }))) ∧
  (∀ (p : Fin 8) (pos : Fin 4096) (s : State), pos.val < s.ob (Obj.bpNodeCount p) →
    s.bit (Obj.bpFlags p) 5 = true ∨
      s.passed (((s.bpCh p).unheard.get? pos.val).getD (s.bpCh p).lastFrame) (s.bpTimeout p) = true →
    ∃ t, exec (.nodeTimeout p pos) s = .next t ∧ pos.val ∈ (t.bpCh p).dark ∧
      (∀ e ∈ (t.bpCh p).sent ++ (t.bpCh p).latched, bpNode e.1 ≠ pos.val) ∧ t = { s with bp := t.bp } ∧ ∀ m, m ≠ p.val → t.bpCh m = s.bpCh m))

/-- R273–R278. A line slot shows the effective values of its line; a shorted line or hot stages turn the port off, dark, with
its slot event, counted and retried or latched; a column in overvoltage is disabled; an open pixel is marked and told once. A
retry that falls due, and a fault clear of a port that is not hot, bring it back. No claim slot changes. Completes:
mxLineSlotStart, mxLineTrip, mxColumnOvervoltage, mxPixelOpen, mxOvertemp, mxRetry, mxFaultClear, pixelClear. -/
def Obligations.MatrixPortsRunAndAreProtected : Prop :=
  ∀ (p : Fin 2) (s : State),
    (∀ l, s.cf (Obj.mxEnable p) = 1 → s.ob (Obj.mxState p) = 1 → (s.mxCh p).off = false → s.mxSlot p = some l →
      ∃ t, exec (.mxLineSlotStart p) s = .next t ∧ t.kept = s.kept ∧
        (t.mxCh p).line = (if l = 0 then 0 else if (s.mxCh p).line + 1 = l then l else 8) ∧
        (∀ k < 8, (t.mxCh p).eff.read 0 (8 * l + k) = t.mxEff p (8 * l + k)) ∧
        s.Switches t [Obj.mxPortP p]) ∧
    (∀ line : Fin 8, s.cf (Obj.mxEnable p) = 1 → (s.mxCh p).off = false →
      ∃ t, exec (.mxLineTrip p line) s = .next t ∧ t.kept = s.kept ∧ (t.mxCh p).off = true ∧ (t.mxCh p).eff = [] ∧
        t.ob (Obj.mxTripCount p) = (s.ob (Obj.mxTripCount p) + 1) % 2 ^ 32 ∧ s.Switches t [Obj.mxTripCount p, Obj.mxPortP p] ∧
        t.Raised s.now (512 + 8 * p) (2 ^ 16 + line) ∧
        (s.hoist.safe = false → s.cf (Obj.mxRetryCount p) = 0 → t.ob (Obj.mxState p) = 3)) ∧
    (∀ line col : Fin 8, s.cf (Obj.mxEnable p) = 1 → (s.mxCh p).off = false → s.bit (Obj.mxColDisabled p) col = false →
      ∃ t, exec (.mxColumnOvervoltage p line col) s = .next t ∧ t.kept = s.kept ∧ t.bit (Obj.mxColDisabled p) col = true ∧
        s.Switches t [Obj.mxColDisabled p]) ∧
    (∀ (line col : Fin 8) (low : Bool), s.cf (Obj.mxEnable p) = 1 → s.cf (Obj.mxOpenDetect p) = 1 → s.hoist.safe = false →
      ∃ t, exec (.mxPixelOpen p line col low) s = .next t ∧ t.bit (Obj.mxPixelOpen p) (8 * line + col) = low ∧
        (low = true → s.bit (Obj.mxPixelOpen p) (8 * line + col) = false →
          t.Raised s.now (512 + 8 * p + 2) (line * 2 ^ 8 + col)) ∧
        t = { s with obj := t.obj, fab := t.fab } ∧ s.ObjectsBut t [Obj.mxPixelOpen p]) ∧
    (∀ temp : Int,
      (1700 < temp → (s.mxCh p).hot = false → s.cf (Obj.mxEnable p) = 1 →
        ∃ t, exec (.mxOvertemp p temp) s = .next t ∧ t.kept = s.kept ∧ (t.mxCh p).hot = true ∧ (t.mxCh p).off = true ∧
          (t.mxCh p).eff = [] ∧
          t.Raised s.now (512 + 8 * p + 4) (wordOf 4 temp) ∧ s.Switches t [Obj.mxPortP p]) ∧
      (1500 ≤ temp → temp ≤ 1700 → exec (.mxOvertemp p temp) s = .next s)) ∧
    (∀ u, s.awake = true → (s.mxCh p).retryAt = some u → u ≤ s.now → s.ob (Obj.mxState p) = 2 → s.hoist.safe = false →
      (s.mxCh p).hot = false → s.ft.stagesOff = [] → s.cf (Obj.mxEnable p) = 1 →
      ∃ t, exec (.mxRetry p) s = .next t ∧ (t.mxCh p).off = false ∧ (t.mxCh p).retryAt = none ∧ (t.mxCh p).recover = 3 ∧
        (t.mxCh p).retries = saturate ((s.mxCh p).retries + 1) 255 ∧ t.ob (Obj.mxState p) = 1 ∧ t.kept = s.kept ∧
        t = { s with obj := t.obj, mx := t.mx, arb := t.arb } ∧ s.ObjectsBut t [Obj.mxState p, Obj.waitMax]) ∧
    (∀ (h : Nat) (x : Session),
      (s.Serves h .host x →
        ((s.mxCh p).hot = true → exec (.mxFaultClear h p) s = .next { s.asked x with reply := { status := .configInvalid } }) ∧
        ((s.mxCh p).hot = false → ∃ t, exec (.mxFaultClear h p) s = .next t ∧ t.kept = s.kept ∧ (t.mxCh p).retries = 0 ∧
          (t.mxCh p).retryAt = none ∧ t.ob (Obj.mxColDisabled p) = 0 ∧
          t = { s.served x with obj := t.obj, mx := t.mx, arb := t.arb, fab := t.fab } ∧
          s.ObjectsBut t [Obj.mxColDisabled p, Obj.mxState p, Obj.waitMax])) ∧
      (s.Serves h .service x → exec (.pixelClear h p) s = .next ((s.served x).setOb (Obj.mxPixelOpen p) 0)))

/-- R280–R282, R476. Each millisecond KNEE_TARGET follows MS64 and the outputs it governs are derated. NB_RUN starts a test of
all balls, and is in use while one runs; a tested ball leaves the list, and a neighbour that joins it is a pair, with EV519; an
online test of a ball in its opportunity is noted. Completes: deratingUpdate, nbRun, nbBallTest, nbOnlineTest. -/
def Obligations.DeratingAndNeighbourTestsRun : Prop :=
  (∀ s : State, s.passed s.lastDerate (ms 1) = true →
    ∃ t, exec .deratingUpdate s = .next t ∧ t.kept = s.kept ∧ t.ob Obj.kneeTarget = s.kneeFactor (s.msv 64) ∧
      ({ s with lastDerate := s.now } : State).Switches t [Obj.kneeTarget] ∧
      (s.msv 64 ≤ 10 * s.cf Obj.kneeT → t.ob Obj.kneeTarget = 4096)) ∧
  (∀ (h : Nat) (s : State) (x : Session), s.Serves h .service x →
    (s.ob Obj.nbState = 1 → exec (.nbRun h) s = .next { s.asked x with reply := { status := .inUse } }) ∧
    (s.ob Obj.nbState ≠ 1 →
      ∃ t, exec (.nbRun h) s = .next t ∧ t.ob Obj.nbState = 1 ∧ t.ob Obj.nbCount = 0 ∧ t.nb.todo = List.range 48 ∧
        t.nb.found = false ∧ t = { s.served x with obj := t.obj, nb := t.nb })) ∧
  (∀ (ball : Fin 48) (l : List (BitVec 8)) (s : State),
    (s.ob Obj.nbState = 1 → ball.val ∈ s.nb.todo → State.nbJoins ball l = [] →
      (∀ b ∈ s.nb.todo, b = ball.val) →
      ∃ t, exec (.nbBallTest ball l) s = .next t ∧ t.nb.todo = [] ∧ t.nb.tested = s.nb.tested + 1 ∧ t.kept = s.kept ∧
        (s.nb.ports = [] → t.ob Obj.nbState = (if s.nb.found then 3 else 2) ∧
          (s.nb.found = false → t.Raised s.now 527 (s.nb.tested + 1)))) ∧
    (s.ob Obj.nbState = 1 → ball.val ∈ s.nb.todo →
      ∃ t, exec (.nbBallTest ball l) s = .next t ∧ ball.val ∉ t.nb.todo ∧ t.kept = s.kept ∧
        ({ s with nb := t.nb } : State).Switches t ([Obj.nbCount, Obj.nbState, Obj.mxPortP 0, Obj.mxPortP 1] ++ (List.range 16).map Obj.nbPair)) ∧
    (s.nbMayOnline ball = true →
      ∃ t, exec (.nbOnlineTest ball l) s = .next t ∧ t.kept = s.kept ∧ t.nb.lastOnline.get? ball = some s.now ∧
        (State.nbJoins ball l = [] → t = { s with nb := t.nb }) ∧
        (State.nbJoins ball l ≠ [] → s.ob Obj.nbState ≠ 1 → t.ob Obj.nbState = 3)))

/-- R285–R289, R291. A group command of a defined group waits for the next segment as the host's claims do; one of a group that
is not defined, and a query of a class that groups do not have, fail with a value-range error. A step of a fade that has reached
its time ends it at its level; a step of a pattern counts its periods and frees the engine after its repeats. Completes:
groupFade, groupRelease, groupPattern, groupQuery, fadeStep, patternStep. -/
def Obligations.GroupsFadeAndRunPatterns : Prop :=
  (∀ (h : Nat) (g e b : BitVec 8) (level time : BitVec 16) (s : State) (x : Session), s.Serves h .host x →
    (s.groupDefined g.toNat = true →
      exec (.groupFade h g level time) s = .next ((s.served x).pushOp (.groupFade g.toNat level.toNat time.toNat h)) ∧
      exec (.groupRelease h g) s = .next ((s.served x).pushOp (.groupRelease g.toNat h)) ∧
      (e.toNat < 32 → State.blockKind (s.cf (domKey 0x5400 b.toNat)) ≠ 0 →
        exec (.groupPattern h g e b) s = .next ((s.served x).pushOp (.groupPattern g.toNat e.toNat b.toNat h)))) ∧
    (s.groupDefined g.toNat = false → ∀ c ∈ [Instr.groupFade h g level time, .groupRelease h g, .groupPattern h g e b],
      exec c s = .next { s.asked x with reply := { status := .valueRange } })) ∧
  (∀ (h : Nat) (v : BitVec 16) (s : State) (x : Session), s.Serves h .host x →
    (v.toNat % 256 ∈ [0, 2, 3, 4] → ∃ t, exec (.groupQuery h v) s = .next t ∧ t.sob h Obj.gqGroup = v.toNat ∧
      t = { s.served x with sessions := t.sessions }) ∧
    (v.toNat % 256 ∉ [0, 2, 3, 4] → exec (.groupQuery h v) s = .next { s.asked x with reply := { status := .valueRange } })) ∧
  (∀ (g : BitVec 8) (cls : Fin 5) (f : Fade) (s : State), s.fadeOf g.toNat cls = some f → s.domainIsOn 15 = true → f.ended = false →
    s.hoist.safe = false → f.start < s.now → (s.now - f.start) % ms (State.stepMs (s.groupMembers f.group).length) = 0 →
    ∃ t, exec (.fadeStep g cls) s = .next t ∧ s.Switches t [] ∧
      (s.groupMembers f.group = [] → f.time ≤ (s.now - f.start) / ms 1 → t.groupLevel f.group f.cls.code = f.level ∧
        ∀ x ∈ t.light.fades, x.group = f.group → x.cls = f.cls → x.ended = true)) ∧
  (∀ (e : Fin 32) (r : PatternRun) (s : State), s.light.engines.get? e = some r → s.domainIsOn 15 = true → s.ft.stopped = [] →
    s.ft.regionsLost = [] → s.hoist.safe = false → r.start ≤ s.now →
    (s.now - r.origin) % ms (State.stepMs (s.groupMembers r.group).length) = 0 →
    ∃ t, exec (.patternStep e) s = .next t ∧ s.Switches t [Obj.engPeriods e] ∧
      t.ob (Obj.engPeriods e) = (s.now - r.origin) / ms 1 / State.blockPeriod (s.cf (domKey 0x5400 r.block)) % 2 ^ 32)

/-- R292, R294–R298, outside low-frequency mode and at a tick with no operation on the timer before. A compare that is due fires
once in its lap, with its event; a count that reaches 2^48 begins a new lap, with the overflow event; a written compare value at
or below the count waits for the next lap; start, stop, reset and reset and start act on the running state and the count as the
table says. R299. GS_ARM with a mask arms the operation for its tick, and fails for an empty mask or on halyard time without
sync; at the tick it reaches every timer of the mask and no other, and nothing stays armed. Completes: timerCompare,
timerOverflow, cmpWrite, tmrStart, tmrStop, tmrReset, tmrResetAndStart, gsArm, globalStart. -/
def Obligations.TimersAndGlobalStartsDoAsStated : Prop :=
  (∀ (i : Fin 32) (s : State), s.tb.lfMode = false → (s.tmr i).opTick ≠ some s.now →
    (∀ k : Fin 4, s.cmpDue i k = true → State.actionOp (s.cf (Obj.tmrCmpkAction i k)) = 0 →
      ∃ t, exec (.timerCompare i k) s = .next t ∧ bitAt (t.tmr i).fired k = true ∧ bitAt (t.tmr i).passed k = false ∧
        t.Raised s.now (912 + 4 * i + k) 0 ∧ t = { s with timers := t.timers, fab := t.fab } ∧
        (∀ m, m ≠ i.val → t.tmr m = s.tmr m) ∧ t.cmpDue i k = false) ∧
    ((s.tmr i).running = true → 2 ^ 48 ≤ s.tmrRaw i → State.actionOp (s.cf (Obj.tmrOvfAction i)) = 0 →
      ∃ t, exec (.timerOverflow i) s = .next t ∧
        t.tmr i = { s.tmr i with base := s.tmrRaw i - 2 ^ 48, since := s.now, fired := 0, wrapped := true } ∧
        t.ob (Obj.tmrLaps i) = (s.ob (Obj.tmrLaps i) + 1) % 2 ^ 32 ∧ t.Raised s.now (912 + 4 * i + 3) (2 ^ 24) ∧
        t = { s with timers := t.timers, obj := t.obj, fab := t.fab } ∧ (∀ m, m ≠ i.val → t.tmr m = s.tmr m) ∧
        s.ObjectsBut t [Obj.tmrLaps i]) ∧
    (∀ (h : Nat) (x : Session), s.Serves h .host x →
      (∀ (k : Fin 4) (v : BitVec 48), ∃ t, exec (.cmpWrite h i k v) s = .next t ∧ t.ob (Obj.tmrCmpk i k) = v.toNat ∧
        bitAt (t.tmr i).fired k = decide (v.toNat ≤ s.tmrCountNow i) ∧ bitAt (t.tmr i).passed k = decide (v.toNat ≤ s.tmrCountNow i) ∧
        t = { s.served x with timers := t.timers, obj := t.obj } ∧ (∀ m, m ≠ i.val → t.tmr m = s.tmr m) ∧
        s.ObjectsBut t [Obj.tmrCmpk i k]) ∧
      ∀ c ∈ [(Instr.tmrStart h i, true, (s.tmrCountNow i + 1) % 2 ^ 48, false), (.tmrStop h i, false, s.tmrCountNow i, false),
          (.tmrReset h i, (s.tmr i).running, 0, true), (.tmrResetAndStart h i, true, 0, true)],
        ∃ t, exec c.1 s = .next t ∧ (t.tmr i).running = c.2.1 ∧ (t.tmr i).base = c.2.2.1 ∧ (t.tmr i).since = s.now + 1 ∧
          t.ob (Obj.tmrLaps i) = (if c.2.2.2 then (s.ob (Obj.tmrLaps i) + 1) % 2 ^ 32 else s.ob (Obj.tmrLaps i)) ∧
          t = { s.served x with timers := t.timers, obj := t.obj } ∧ (∀ m, m ≠ i.val → t.tmr m = s.tmr m) ∧
          s.ObjectsBut t [Obj.tmrLaps i])) ∧
  ((∀ (h : Nat) (s : State) (x : Session), s.Serves h .host x →
    (s.ob Obj.gsMask = 0 → exec (.gsArm h) s = .next { s.asked x with reply := { status := .valueRange } }) ∧
    (s.ob Obj.gsMask ≠ 0 → s.ob Obj.gsBase = 1 → s.ob Obj.syncState = 0 ∨ s.ob Obj.syncState = 1 →
      exec (.gsArm h) s = .next { s.asked x with reply := { status := .configInvalid } }) ∧
    (s.ob Obj.gsMask ≠ 0 → s.ob Obj.gsBase = 0 →
      ∃ t g, exec (.gsArm h) s = .next t ∧ t.gsArmed = some g ∧ g.mask = s.ob Obj.gsMask ∧ g.op = s.ob Obj.gsOp ∧ s.now < g.n0 ∧
        (s.ob Obj.gsAt = 0 → g.n0 = s.now + 1 ∧ t.ob Obj.gsState = 1) ∧
        (s.now < s.ob Obj.gsAt → g.n0 = s.ob Obj.gsAt ∧ t.ob Obj.gsState = 1) ∧
        (s.ob Obj.gsAt ≠ 0 → s.ob Obj.gsAt ≤ s.now → g.n0 = s.now + 1 ∧ t.ob Obj.gsState = 3) ∧
        t = { s.served x with gsArmed := t.gsArmed, obj := t.obj } ∧ s.ObjectsBut t [Obj.gsState])) ∧
  (∀ (s : State) (g : GsArmed), s.gsArmed = some g → g.n0 ≤ s.now →
    ∃ t, exec .globalStart s = .next t ∧ t.gsArmed = none ∧
      t.ob Obj.gsState = (if s.ob Obj.gsState = 3 then 3 else 2) ∧ t = { s with gsArmed := none, timers := t.timers, obj := t.obj } ∧
      (∀ i < 32, bitAt g.mask i = false → t.tmr i = s.tmr i) ∧
      (∀ i < 32, bitAt g.mask i = true → g.op = 3 → (s.tmr i).opTick ≠ some s.now → (t.tmr i).base = 0)))

/-- R303, R304, R307. The oldest occurrence on its way is counted and, where its event is routed, takes its place among those
that wait for release; the first of these is released once its timestamp is 2.5 µs old; EVENT_POST raises the events 1472 to
1535 and no other. Completes: eventOccurrence, eventRelease, eventPost. -/
def Obligations.EventsAreOrderedAndReleased : Prop :=
  (∀ (s : State) (o : Occ) (rest : List Occ), s.fab.inFlight = o :: rest →
    ∃ t, exec .eventOccurrence s = .next t ∧
      t.fab.occurrences.read 0 o.ev = (s.fab.occurrences.read 0 o.ev + 1) % 2 ^ 32 ∧
      (∀ e, e ≠ o.ev → t.fab.occurrences.read 0 e = s.fab.occurrences.read 0 e) ∧
      (s.ob Obj.pwrState ≠ pwrHalfMast →
        t.fab.pend = (if bitsOf (s.routeOf o.ev) 0 4 = 0 then s.fab.pend else State.insertOcc o s.fab.pend)) ∧
      t.cfg = s.cfg ∧ t.sessions = s.sessions ∧ t.kept = s.kept) ∧
  (∀ (s : State) (o : Occ) (rest : List Occ), s.fab.pend = o :: rest →
    (s.passed o.ts 250 = true → ∃ t, exec .eventRelease s = .next t ∧ t.fab.pend = rest ∧ t.cfg = s.cfg ∧ t.sessions = s.sessions ∧
      (bitsOf (s.routeOf o.ev) 0 4 = 0 → t = { s with fab := { s.fab with pend := rest } })) ∧
    (s.passed o.ts 250 = false → exec .eventRelease s = .next s)) ∧
  (∀ (h : Nat) (v : BitVec 64) (s : State) (x : Session), s.Serves h .host x →
    let ev := bitsOf v.toNat 48 16
    (bitsOf v.toNat 32 16 = 0 → 1472 ≤ ev → ev ≤ 1535 → exec (.eventPost h v) s = .next ((s.served x).post ev (bitsOf v.toNat 0 32))) ∧
    (bitsOf v.toNat 32 16 = 0 → ev < 1472 ∨ 1535 < ev → exec (.eventPost h v) s = .next { s.asked x with reply := { status := .valueRange } }))

/-- R311, R316, R318–R324, R326, R327: what a CAN channel does with frames. A remote frame is counted; a valid data frame that
matches an RX object is written to it, with NEW, and LOST where NEW stood, and its watch slots of mode 1 post; a stray frame is
counted and queued; a frame in error counts and raises REC. A write of an aligned data field of a TX object stands in it, and
makes it pending where it is sent on a write; a read returns an object's bytes and clears NEW and LOST; a period makes its frame
pending; a transmitted frame leaves, is counted and remembered; a frame pending beyond TX_TIMEOUT is discarded with offset 10,
and an RX object unheard for its time times out. STRAY_ACK takes strays off, and the first notice of a channel goes out in its
turn. R311, R313, R314, R327–R329, R332, on a channel the ring does not run on. A transmission in error counts, raises TEC by 8
and at 256 is bus-off; the sixteenth acknowledgement error in a row makes the channel alone, which then tries on its retry time
or on command. A protocol exception stops the channel until 11 recessive bits have been seen; a transceiver fault until it is
cleared. A channel that runs joins its bus, and one in recovery rejoins with TEC and REC 0. CAN_CMD recovers, discards or tries.
The J1939 claim of the preferred address is claimed after 250 ms, is defended against a higher NAME, and lost to a lower. The
TEC steps are ISO 11898-1's (PRESUMED, assumption 41). Completes: canFrameReceived, moDataWrite, moDataRead, txPeriod,
rxObjectTimeout, canTransmissionDone, txTimeoutExpiry, canNoticeSend, strayAck, canTxError, protocolException,
protocolExceptionEnd, transceiverFault, transceiverFaultCleared, canBusJoin, busOffRecovery, recoverFromBusOff,
discardPendingFrames, oneAttemptNow, aloneRetry, j1939Claim, j1939ContendingClaim, j1939RequestClaimed, j1939ClaimWait. -/
def Obligations.CanFramesAndErrorsDoAsStated : Prop :=
  ((∀ (c : Fin 8) (f : CanFrame) (s : State), s.canActive c = true → (f.fdf = true → s.canFd c = true) →
    (f.rtr = true →
      ∃ t, exec (.canFrameReceived c f 0) s = .next t ∧ t.ob (Obj.canRtrCount c) = (s.ob (Obj.canRtrCount c) + 1) % 2 ^ 32 ∧
        t = { s with obj := t.obj, fab := t.fab, can := t.can } ∧
        s.ObjectsBut t [Obj.canRtrCount c, Obj.canTec c, Obj.canRec c, Obj.canState c, Obj.canFlags c, Obj.canAckRun c]) ∧
    (∀ o, f.rtr = false → s.rxObject c f.ext f.id.toNat = some o →
      ∃ t, exec (.canFrameReceived c f 0) s = .next t ∧ t.ob (Obj.canRxFrames c) = (s.ob (Obj.canRxFrames c) + 1) % 2 ^ 32 ∧
        (t.moOf o).data = State.frameData f ∧ (t.moOf o).dlc = f.dlc ∧ (t.moOf o).ts = s.now ∧
        (t.moOf o).count = ((s.moOf o).count + 1) % 2 ^ 32 ∧ bitAt (t.moOf o).state 0 = true ∧
        bitAt (t.moOf o).state 1 = bitAt (s.moOf o).state 0 ∧ bitAt (t.moOf o).state 2 = false ∧
        (∀ e ∈ s.domEntries 0x6103, State.watchObject e.2 = o → State.watchMode e.2 = 1 →
          t.Raised s.now (656 + e.1) (f.dlc * 2 ^ 24 + State.frameData f % 2 ^ 24)) ∧
        (∀ p, p ≠ o → t.moOf p = s.moOf p) ∧
        t = { s with obj := t.obj, fab := t.fab, can := t.can, mo := t.mo, csNext := t.csNext } ∧
        s.ObjectsBut t [Obj.canRxFrames c, Obj.canTec c, Obj.canRec c, Obj.canState c, Obj.canFlags c, Obj.canAckRun c]) ∧
    (f.rtr = false → s.rxObject c f.ext f.id.toNat = none → s.mapClaims c f.ext f.id.toNat = none →
      s.serverClaims c f.ext f.id.toNat = false → s.cf (Obj.canStrayQueue c) = 1 → (s.canCh c).strays.length < 64 →
      ∃ t, exec (.canFrameReceived c f 0) s = .next t ∧ t.ob (Obj.canStrayCount c) = (s.ob (Obj.canStrayCount c) + 1) % 2 ^ 32 ∧
        (t.canCh c).strays = (s.canCh c).strays ++ 
          [(⟨f.ext, f.id.toNat, f.dlc, f.fdf, f.brs, f.esi, s.now, State.frameData f % 2 ^ 64⟩ : Stray)] ∧
        t = { s with obj := t.obj, fab := t.fab, can := t.can }) ∧
    (∀ error : Fin 7, error ≠ 0 →
      ∃ t, exec (.canFrameReceived c f error) s = .next t ∧ t.ob (Obj.canLastError c) = error ∧
        t.ob (Obj.canErrorFrames c) = (s.ob (Obj.canErrorFrames c) + 1) % 2 ^ 32 ∧
        t.ob (Obj.canRec c) = saturate (s.ob (Obj.canRec c) + 1) 255 ∧ t = { s with obj := t.obj, fab := t.fab, can := t.can })) ∧
  (∀ (h : Nat) (o : Fin 8192) (off : BitVec 32) (data : List Byte) (s : State) (x : Session), s.Serves h .host x →
    (off.toNat = 96 * o + 32 → 1 ≤ data.length → data.length ≤ 64 → State.moDir (s.moCfg o) = 2 → s.implementOf o = none →
      s.heldByOther 0x6101 h = false →
      ∃ t, exec (.moDataWrite h off data false) s = .next t ∧ t.reply = { status := .success } ∧
        (t.moOf o).data = (s.moOf o).data / 256 ^ data.length * 256 ^ data.length + ofBytes (data.map (fun b => b.toNat)) ∧
        (∀ p, p ≠ o.val → t.moOf p = s.moOf p) ∧ t.holds = s.holds.put 0x6101 { holder := h, lastWrite := s.now } ∧
        t = { s.served x with obj := t.obj, mo := t.mo, holds := t.holds, can := t.can, fab := t.fab } ∧
        s.ObjectsBut t [State.domStatus 0x6101] ∧
        (State.moOnWrite (s.moCfg o) = false → t.can = s.can ∧ t.fab = s.fab) ∧
        (State.moOnWrite (s.moCfg o) = true → s.canRuns (State.moChan (s.moCfg o)) = true → s.releasePasses o = true →
          ∃ f ∈ (t.canCh (State.moChan (s.moCfg o))).pend, f.src = .object o ∧ f.since = s.now)) ∧
    (off.toNat % 96 ≠ 32 →
      ∃ t, exec (.moDataWrite h off data false) s = .next t ∧ t.reply = { status := .valueRange } ∧
        t.bit (State.domStatus 0x6101) 1 = true ∧ t = { s.served x with reply := t.reply, obj := t.obj } ∧
        s.ObjectsBut t [State.domStatus 0x6101]) ∧
    (off.toNat = 96 * o → ∀ length : BitVec 16, length.toNat = 96 →
      ∃ t, exec (.moDataRead h off length) s = .next t ∧ t.reply = { status := .success, data := s.moBytes o } ∧
        t.moOf o = { s.moOf o with state := setBitTo (setBitTo (s.moOf o).state 0 false) 1 false } ∧
        (∀ p, p ≠ o.val → t.moOf p = s.moOf p) ∧ t = { s.served x with reply := t.reply, mo := t.mo })) ∧
  (∀ (o : Fin 8192) (s : State),
    (s.periodDue o = true → s.releasePasses o = true →
      ∃ t, exec (.txPeriod o false) s = .next t ∧ (t.moOf o).lastMs = s.now / ms 1 + 1 ∧ bitAt (t.moOf o).state 3 = true ∧
        (∃ f ∈ (t.canCh (State.moChan (s.moCfg o))).pend, f.src = .object o ∧ f.since = s.now ∧ f.id = State.moId (s.moCfg o)) ∧
        (t.moOf o).lost = (if (s.canCh (State.moChan (s.moCfg o))).pend.any (fun f => f.src = .object o) then
          saturate ((s.moOf o).lost + 1) 65535 else (s.moOf o).lost) ∧
        (∀ p, p ≠ o.val → t.moOf p = s.moOf p) ∧ t = { s with mo := t.mo, can := t.can, fab := t.fab }) ∧
    (∀ u, s.moHeard o = some u → State.moDir (s.moCfg o) = 1 → State.moTime (s.moCfg o) ≠ 0 → bitAt (s.moOf o).state 2 = false →
      s.passed u (ms (State.moTime (s.moCfg o))) = true →
      ∃ t, exec (.rxObjectTimeout o) s = .next t ∧ t.moOf o = { s.moOf o with state := setBitTo (s.moOf o).state 2 true } ∧
        (∀ e ∈ s.domEntries 0x6103, State.watchObject e.2 = o → State.watchMode e.2 = 3 →
          t.Raised s.now (656 + e.1) (0xFF000000 + saturate ((s.now - u) / ms 1) 0xFFFFFF)) ∧
        (∀ p, p ≠ o.val → t.moOf p = s.moOf p) ∧ t = { s with mo := t.mo, fab := t.fab, csNext := t.csNext })) ∧
  (∀ (c : Fin 8) (s : State),
    (s.onTheBus c = none → exec (.canTransmissionDone c) s = .next s) ∧
    (∀ (f : CanPending) (o : Nat), s.onTheBus c = some f → f.src = .object o → s.nmOf c = false →
      ∃ t g, exec (.canTransmissionDone c) s = .next t ∧ t.ob (Obj.canTxFrames c) = (s.ob (Obj.canTxFrames c) + 1) % 2 ^ 32 ∧
        t.ob (Obj.canAckRun c) = 0 ∧ (t.canCh c).sent = some g ∧ g.id = s.wireId c f ∧ g.src = .object o ∧
        (t.moOf o).count = ((s.moOf o).count + 1) % 2 ^ 32 ∧ (t.moOf o).ts = s.now ∧
        ((s.canCh c).aloneSince = none → (t.canCh c).pend = State.takeFrame f (s.canCh c).pend) ∧
        (∀ p, p ≠ o → t.moOf p = s.moOf p) ∧ t = { s with obj := t.obj, fab := t.fab, can := t.can, mo := t.mo, bg := t.bg } ∧
        s.ObjectsBut t [Obj.canTxFrames c, Obj.canAckRun c, Obj.canTec c, Obj.canRec c, Obj.canState c, Obj.canFlags c]) ∧
    (s.cf (Obj.canTxTimeout c) ≠ 0 → (s.canCh c).aloneSince = none →
      let late (f : CanPending) : Bool := s.passed f.since (ms (s.cf (Obj.canTxTimeout c)) + 1)
      ∃ t, exec (.txTimeoutExpiry c) s = .next t ∧ (t.canCh c).pend = (s.canCh c).pend.filter (fun f => !late f) ∧
        (∀ f ∈ (s.canCh c).pend, late f = true → t.Raised s.now (528 + 16 * c + 10) (f.id + (if f.ext then 2 ^ 31 else 0))) ∧
        t = { s with can := t.can, mo := t.mo, fab := t.fab }) ∧
    (∀ (o : Occ) (rest : List Occ), s.fab.canNotices.read [] c = o :: rest → s.canActive c = true → s.canListens c = false →
      (s.canCh c).aloneSince = none → s.noticeInTurn c = true →
      ∃ t g, exec (.canNoticeSend c) s = .next t ∧ t.fab.canNotices.read [] c = rest ∧ (t.canCh c).sent = some g ∧
        g.src = .notice ∧ g.id = bitsOf (s.cf (Obj.noticeCanId c)) 0 29 ∧
        t.ob (Obj.canTxFrames c) = (s.ob (Obj.canTxFrames c) + 1) % 2 ^ 32 ∧
        t = { s with obj := t.obj, fab := t.fab, can := t.can } ∧
        s.ObjectsBut t [Obj.canTxFrames c, Obj.canAckRun c, Obj.canTec c, Obj.canRec c, Obj.canState c, Obj.canFlags c]) ∧
    (∀ (h : Nat) (n : BitVec 8) (x : Session), s.Serves h .host x →
      (1 ≤ n.toNat ∧ n.toNat ≤ (s.canCh c).strays.length →
        ∃ t, exec (.strayAck h c n) s = .next t ∧ (t.canCh c).strays = (s.canCh c).strays.drop n.toNat ∧
          (t.canCh c).strayDrops = 0 ∧ t.bit (Obj.canFlags c) 5 = false ∧ t = { s.served x with obj := t.obj, can := t.can } ∧
          s.ObjectsBut t [Obj.canFlags c]) ∧
      (n.toNat = 0 ∨ (s.canCh c).strays.length < n.toNat →
        exec (.strayAck h c n) s = .next { s.asked x with reply := { status := .valueRange } })))) ∧
  (∀ (c : Fin 8) (s : State), s.nmOf c = false →
    (∀ (f : CanPending) (error : Fin 7), s.onTheBus c = some f →
      (error = 0 → exec (.canTxError c error) s = .next (s.setCan c { s.canCh c with attempt := none })) ∧
      (error ≠ 0 →
        ∃ t, exec (.canTxError c error) s = .next t ∧ t.ob (Obj.canErrorFrames c) = (s.ob (Obj.canErrorFrames c) + 1) % 2 ^ 32 ∧
          t.ob (Obj.canLastError c) = error ∧ t = { s with obj := t.obj, fab := t.fab, can := t.can } ∧
          (error ≠ 3 → t.ob (Obj.canTec c) = saturate (s.ob (Obj.canTec c) + 8) 256) ∧
          (error ≠ 3 → 248 ≤ s.ob (Obj.canTec c) → (t.canCh c).busOffAt = some s.now ∧ t.Raised s.now (528 + 16 * c) error) ∧
          (error = 3 → s.ob (Obj.canAckRun c) = 15 → (s.canCh c).aloneSince = none →
            (t.canCh c).aloneSince = some s.now ∧ t.Raised s.now (528 + 16 * c + 5) 16))) ∧
    (s.canActive c = true → s.cf (Obj.canMode c) = 1 ∨ s.cf (Obj.canMode c) = 3 →
      (s.cf (Obj.canPxeEnable c) = 1 →
        ∃ t, exec (.protocolException c) s = .next t ∧ (t.canCh c).exception = true ∧ t.canActive c = false ∧
          t.ob (Obj.canPxeCount c) = (s.ob (Obj.canPxeCount c) + 1) % 2 ^ 32 ∧
          t.Raised s.now (528 + 16 * c + 9) (t.ob (Obj.canPxeCount c)) ∧ t = { s with obj := t.obj, fab := t.fab, can := t.can } ∧
          s.ObjectsBut t [Obj.canPxeCount c, Obj.canState c, Obj.canFlags c]) ∧
      (s.cf (Obj.canPxeEnable c) ≠ 1 → s.cf (Obj.canMode c) = 3 → exec (.protocolException c) s = .next s)) ∧
    ((s.canCh c).exception = true →
      ∃ t, exec (.protocolExceptionEnd c) s = .next t ∧ t.canCh c = { s.canCh c with exception := false } ∧
        t = { s with obj := t.obj, can := t.can } ∧ s.ObjectsBut t [Obj.canState c, Obj.canFlags c]) ∧
    (∀ cause : Fin 4, s.canRuns c = true → cause ≠ 0 → c.val < 4 ∨ cause = 2 → (s.canCh c).fault = 0 →
      ∃ t, exec (.transceiverFault c cause) s = .next t ∧ t.canCh c = { s.canCh c with fault := cause } ∧ t.canActive c = false ∧
        t.Raised s.now (528 + 16 * c + 13) cause ∧ t.ob (Obj.canState c) = 7 ∧ t = { s with obj := t.obj, fab := t.fab, can := t.can } ∧
        s.ObjectsBut t [Obj.canState c, Obj.canFlags c]) ∧
    (∀ temp : Int, (s.canCh c).fault ≠ 0 →
      ((s.canCh c).fault = 3 → temp < 150) →
      ∃ t, exec (.transceiverFaultCleared c temp) s = .next t ∧ t.canCh c = { s.canCh c with fault := 0 } ∧
        t = { s with obj := t.obj, can := t.can } ∧ s.ObjectsBut t [Obj.canState c, Obj.canFlags c]) ∧
    (s.canRuns c = true → (s.canCh c).joinedAt = none →
      ∃ t, exec (.canBusJoin c) s = .next t ∧ t.canCh c = { s.canCh c with joinedAt := some s.now } ∧
        t.Raised s.now (528 + 16 * c + 14) 0 ∧ t = { s with obj := t.obj, fab := t.fab, can := t.can } ∧
        s.ObjectsBut t [Obj.canState c, Obj.canFlags c]) ∧
    (∀ u, (s.canCh c).busOffAt = some u → s.canRuns c = true →
      (s.canCh c).recovering = true ∨ (s.cf (Obj.canBusoffMode c) = 0 ∧ s.passed u (ms (s.cf (Obj.canBusoffDelay c))) = true) →
      ∃ t, exec (.busOffRecovery c) s = .next t ∧ (t.canCh c).busOffAt = none ∧ (t.canCh c).joinedAt = some s.now ∧
        t.ob (Obj.canTec c) = 0 ∧ t.ob (Obj.canRec c) = 0 ∧ t.Raised s.now (528 + 16 * c + 1) 0 ∧
        t = { s with obj := t.obj, fab := t.fab, can := t.can } ∧
        s.ObjectsBut t [Obj.canTec c, Obj.canRec c, Obj.canState c, Obj.canFlags c]) ∧
    (∀ (h : Nat) (x : Session), s.Serves h .service x →
      ((s.canCh c).busOffAt ≠ none →
        ∃ t, exec (.recoverFromBusOff h c) s = .next t ∧ t.canCh c = { s.canCh c with recovering := true } ∧
          t = { s.served x with obj := t.obj, can := t.can } ∧ s.ObjectsBut t [Obj.canState c, Obj.canFlags c]) ∧
      ((s.canCh c).busOffAt = none → exec (.recoverFromBusOff h c) s = .next { s.asked x with reply := { status := .valueRange } }) ∧
      (∃ t, exec (.discardPendingFrames h c) s = .next t ∧ (t.canCh c).pend = [] ∧ t.fab.canNotices.read [] c = [] ∧
        t = { s.served x with can := t.can, mo := t.mo, fab := t.fab }) ∧
      ((s.canCh c).aloneSince ≠ none →
        ∃ t, exec (.oneAttemptNow h c) s = .next t ∧ t.canCh c = { s.canCh c with attempt := (s.inTurn c).map (fun f => f.src), lastTry := s.now } ∧
          t = { s.served x with can := t.can }) ∧
      ((s.canCh c).aloneSince = none → exec (.oneAttemptNow h c) s = .next { s.asked x with reply := { status := .configInvalid } })) ∧
    (s.canActive c = true → (s.canCh c).aloneSince ≠ none → s.passed (s.canCh c).lastTry (ms (s.cf (Obj.canAloneRetry c))) = true →
      exec (.aloneRetry c) s = .next (s.setCan c { s.canCh c with attempt := (s.inTurn c).map (fun f => f.src), lastTry := s.now })) ∧
    (s.cf (Obj.j1939Enable c) = 1 → s.canActive c = true →
      (s.canListens c = false → s.ob (Obj.j1939ClaimState c) = 0 →
        ∃ t, exec (.j1939Claim c) s = .next t ∧ t.ob (Obj.j1939ClaimState c) = 1 ∧ t.ob (Obj.j1939ClaimedAddr c) = 255 ∧
          (t.canCh c).claimAddr = s.cf (Obj.j1939PrefAddr c) ∧ s.claimFrame c (s.cf (Obj.j1939PrefAddr c)) ∈ (t.canCh c).pend ∧
          t = { s with obj := t.obj, can := t.can } ∧ s.ObjectsBut t [Obj.j1939ClaimState c, Obj.j1939ClaimedAddr c]) ∧
      (∀ (sa : BitVec 8) (name : BitVec 64),
        (s.coresRun = false → exec (.j1939ContendingClaim c sa name) s =
          .next ((s.setCan c { s.canCh c with contending := some (sa.toNat, name.toNat) }).placeVotes 4 1)) ∧
        (s.coresRun = true → s.ob (Obj.j1939ClaimState c) = 1 ∨ s.ob (Obj.j1939ClaimState c) = 2 → (s.canCh c).claimAddr = sa.toNat →
          ∃ t, exec (.j1939ContendingClaim c sa name) s = .next t ∧ (t.canCh c).names.get? sa.toNat = some name.toNat ∧
            t = { s with obj := t.obj, can := t.can, fab := t.fab } ∧ s.ObjectsBut t [Obj.j1939ClaimState c, Obj.j1939ClaimedAddr c] ∧
            (s.cf (Obj.j1939Name c) < name.toNat → t.obj = s.obj ∧ s.claimFrame c sa.toNat ∈ (t.canCh c).pend) ∧
            (name.toNat < s.cf (Obj.j1939Name c) → bitAt (s.cf (Obj.j1939Name c)) 63 = false →
              t.ob (Obj.j1939ClaimState c) = 3 ∧ t.ob (Obj.j1939ClaimedAddr c) = 254 ∧ s.claimFrame c 254 ∈ (t.canCh c).pend ∧
              t.Raised s.now (528 + 16 * c + 12) 254))) ∧
      (s.ob (Obj.j1939ClaimState c) = 2 ∨ s.ob (Obj.j1939ClaimState c) = 3 →
        exec (.j1939RequestClaimed c) s = .next (s.canEnqueue c (s.claimFrame c (s.canCh c).claimAddr)))) ∧
    (∀ u, (s.canCh c).claimSent = some u → s.ob (Obj.j1939ClaimState c) = 1 → s.passed u (ms 250) = true →
      ∃ t, exec (.j1939ClaimWait c) s = .next t ∧ t.ob (Obj.j1939ClaimState c) = 2 ∧
        t.ob (Obj.j1939ClaimedAddr c) = (s.canCh c).claimAddr ∧ t.Raised s.now (528 + 16 * c + 11) ((s.canCh c).claimAddr) ∧
        t = { s with obj := t.obj, fab := t.fab } ∧ s.ObjectsBut t [Obj.j1939ClaimState c, Obj.j1939ClaimedAddr c]))

/-- R334–R344. A ring message with a wrong DLC, type or reserved field is rejected and counted; one from the unit's own ID stops
the ring with EV1055; another makes its sender present with its consent, with EV1051 where it is new; without consent it cancels
a prepared sleep, and with an acknowledgement it prepares one. In bus sleep only a resume of the host wakes the ring. The unit's
message follows its turn, an alive message a silence; an ID that stays silent is gone; a keeper is identified by its time. After
the wait the ring sleeps and holder 3's votes end, unless the unit has a reason. A limp-home message acknowledges sleep where
the unit consents. A wake frame, a pin edge and bus activity that the configuration arms are recorded and posted, and form the
ring again in bus sleep. NM_CMD holds, releases and resumes. The start of a lap and the remote wake bit are the model's reading
(assumptions 42, 43). Completes: nmRingMessage, nmRingSend, nmAliveTimeout, nmPresentTimeout, nmKeeper, nmSleepWaitExpiry,
nmLimpHomeMessage, selectiveWakeFrame, wakePinEdge, busActivityWake, nmHoldStay, nmReleaseStay, nmResume. -/
def Obligations.RingSleepsAndWakesAsStated : Prop :=
  (∀ (i : Fin 64) (dlc : Fin 16) (data : BitVec 64) (s : State), s.nmOn = true → s.canActive s.nmChan = true →
    s.ob Obj.nmState ≠ 0 → s.ob Obj.nmState ≠ 6 →
    let d := data.toNat
    let ok := dlc = 8 ∧ State.msgType d ≠ 3 ∧ bitsOf d 14 2 = 0 ∧ bitsOf d 56 8 = 0
    (¬ ok → exec (.nmRingMessage i dlc data) s = .next (s.bump Obj.nmRejects)) ∧
    (ok → i.val = s.nmSelf →
      ∃ t, exec (.nmRingMessage i dlc data) s = .next t ∧ t.ob Obj.nmState = 6 ∧ t.Raised s.now 1055 i ∧
        (∀ f ∈ (t.canCh s.nmChan).pend, f.src ≠ .ring) ∧ t = { s with obj := t.obj, can := t.can, fab := t.fab } ∧
        s.ObjectsBut t [Obj.nmState]) ∧
    (ok → i.val ≠ s.nmSelf → s.ob Obj.nmState ≠ 4 →
      ∃ t, exec (.nmRingMessage i dlc data) s = .next t ∧ t.bit Obj.presentMask i = true ∧
        t.bit Obj.consentMask i = State.msgConsent d ∧ (t.nmNode i).last = s.now ∧ (t.nmNode i).lap = State.msgLap d ∧
        (s.bit Obj.presentMask i = false → t.Raised s.now 1051 i) ∧ t.kept = s.kept ∧
        ({ s with ring := t.ring, can := t.can } : State).Switches t [Obj.presentMask, Obj.consentMask, Obj.keeperMask,
          Obj.keeperId, Obj.keeperReason, Obj.nmState, Obj.ownReason] ∧
        (s.ob Obj.nmState = 3 → State.msgConsent d = false → State.msgType d ≠ 2 → t.ob Obj.nmState = 2 ∧ t.Raised s.now 1043 i) ∧
        (s.ob Obj.nmState = 2 → State.msgAck d = true →
          t.ob Obj.nmState = 3 ∧ t.ring.prepareAt = s.now ∧ t.Raised s.now 1041 (State.msgLap d))) ∧
    (ok → i.val ≠ s.nmSelf → s.ob Obj.nmState = 4 →
      (¬(i.val = s.cf Obj.nmHostId ∧ State.msgResume d = true) → exec (.nmRingMessage i dlc data) s = .next s) ∧
      (i.val = s.cf Obj.nmHostId → State.msgResume d = true →
        ∃ t, exec (.nmRingMessage i dlc data) s = .next t ∧ t.ob Obj.nmState = 1 ∧ t.ob Obj.nmLastWakeSource = 5 ∧
          t.ob Obj.nmLastWakeDetail = i))) ∧
  (∀ s : State, s.nmOn = true → s.canActive s.nmChan = true → s.ob Obj.nmState = 1 ∨ s.ob Obj.nmState = 2 →
    (∀ u, s.ring.turnAt = some u → s.passed u (ms (s.cf Obj.nmTTyp)) = true →
      ∃ t, exec .nmRingSend s = .next t ∧ t.ring.turnAt = none ∧
        (∃ f ∈ (t.canCh s.nmChan).pend, f.src = .ring ∧ f.id = s.cf Obj.nmBaseId + s.nmSelf ∧ f.since = s.now) ∧
        (s.nmReason ≠ 0 → t.ring.lap = (if s.lapStarter then (s.ring.lap + 1) % 256 else s.ring.lap)) ∧
        t = { s with ring := t.ring, obj := t.obj, can := t.can } ∧ s.ObjectsBut t [Obj.ownReason]) ∧
    (s.passed s.ring.lastMsg (ms (s.cf Obj.nmTMax)) = true →
      ∃ t, exec .nmAliveTimeout s = .next t ∧
        (∃ f ∈ (t.canCh s.nmChan).pend, f.src = .ring ∧ f.id = s.cf Obj.nmBaseId + s.nmSelf ∧ f.since = s.now) ∧
        t = { s with obj := t.obj, can := t.can } ∧ s.ObjectsBut t [Obj.ownReason])) ∧
  (∀ (i : Fin 64) (s : State), s.bit Obj.presentMask i = true → s.bit Obj.keeperMask i = false →
    (i.val ≠ s.nmSelf → s.passed (s.nmNode i).last (ms (s.cf Obj.nmTError)) = true →
      ∃ t, exec (.nmPresentTimeout i) s = .next t ∧ t.bit Obj.presentMask i = false ∧ t.bit Obj.consentMask i = false ∧
        t.nmNode i = {} ∧ t.Raised s.now 1052 i ∧ t = { s with obj := t.obj, ring := t.ring, fab := t.fab } ∧
        s.ObjectsBut t [Obj.presentMask, Obj.consentMask]) ∧
    (∀ u, (s.nmNode i).withheldSince = some u → s.passed u (sec (s.cf Obj.nmKeeperTime)) = true →
      ∃ t, exec (.nmKeeper i) s = .next t ∧ t.bit Obj.keeperMask i = true ∧ (t.nmNode i).keeperSince = some s.now ∧
        t.Raised s.now 1044 (i * 256 + (s.nmNode i).reason) ∧ t.kept = s.kept ∧
        ({ s with ring := t.ring } : State).Switches t [Obj.keeperMask, Obj.keeperId, Obj.keeperReason])) ∧
  (∀ s : State,
    (s.ob Obj.nmState = 3 → s.passed s.ring.prepareAt (ms (s.cf Obj.nmTWaitSleep)) = true →
      ∃ t, exec .nmSleepWaitExpiry s = .next t ∧
        (s.nmReason = 0 → t.ob Obj.nmState = 4 ∧ t.ring.wakeReason = none ∧ t.Raised s.now 1042 0 ∧
          (∀ d < 19, bitAt (t.pw.votes.read 0 d) 3 = false) ∧
          t = { s with obj := t.obj, can := t.can, ring := t.ring, fab := t.fab, pw := t.pw }) ∧
        (s.nmReason ≠ 0 → t.ob Obj.nmState = 2 ∧ t.Raised s.now 1043 s.nmSelf ∧
          t = { s with obj := t.obj, can := t.can, fab := t.fab } ∧ s.ObjectsBut t [Obj.nmState, Obj.ownReason])) ∧
    (s.nmOn = true → s.ob Obj.nmState = 5 → s.passed s.ring.lastLimp (ms (s.cf Obj.nmTError)) = true →
      ∃ t, exec .nmLimpHomeMessage s = .next t ∧ t.ring.lastLimp = s.now ∧ t.ring.lap = (s.ring.lap + 1) % 256 ∧
        (∃ f ∈ (t.canCh s.nmChan).pend, f.src = .ring ∧ f.id = s.cf Obj.nmBaseId + s.nmSelf ∧ f.since = s.now) ∧
        t.ob Obj.nmState = (if s.nmReason = 0 then 3 else 5) ∧ (s.nmReason = 0 → t.Raised s.now 1041 t.ring.lap) ∧
        ((s.canCh s.nmChan).aloneSince ≠ none → (t.canCh s.nmChan).attempt = some .ring) ∧
        t = { s with obj := t.obj, can := t.can, ring := t.ring, fab := t.fab } ∧ s.ObjectsBut t [Obj.nmState, Obj.ownReason])) ∧
  (∀ (c n : Fin 4) (f : CanFrame) (s : State), s.wakeArmed = true →
    ∀ w ∈ [(s.wufMatches c f, Instr.selectiveWakeFrame c f, 1, c.val), (s.cf (Obj.wakeEdge n) = 1, .wakePinEdge n true, 2, n.val),
      (s.cf (Obj.wakeEdge n) = 2, .wakePinEdge n false, 2, n.val),
      (s.cf (Obj.swEnable c) ≠ 1 ∧ s.cf (Obj.swWup c) = 1, .busActivityWake c false, 3, c.val),
      (s.cf (Obj.swEnable c) = 1, .busActivityWake c true, 3, 0x8000 + c.val)], w.1 →
      ∃ t, exec w.2.1 s = .next t ∧ t.ob Obj.nmLastWakeSource = w.2.2.1 ∧ t.ob Obj.nmLastWakeDetail = w.2.2.2 ∧
        t.Raised s.now (1045 + w.2.2.1) w.2.2.2 ∧
        t.ob Obj.nmState = (if s.nmOn && s.ob Obj.nmState = 4 then 1 else s.ob Obj.nmState) ∧
        (s.lowered = true → s.ob Obj.pwrState ≠ pwrFurled →
          t.ob Obj.lastWakeCause = w.2.2.1 ∧ t.ob Obj.lastWakeDetail = w.2.2.2) ∧
        t = { s with obj := t.obj, fab := t.fab, pw := t.pw, ring := t.ring, can := t.can, boot := t.boot }) ∧
  (∀ (h : Nat) (s : State) (x : Session), s.Serves h .host x →
    (∃ t, exec (.nmHoldStay h) s = .next t ∧ t.ring.stay = true ∧
      (s.nmOn = true → s.ob Obj.nmState = 3 → t.ob Obj.nmState = 2 ∧ t.Raised s.now 1043 s.nmSelf) ∧
      (s.nmOn = false ∨ (s.ob Obj.nmState ≠ 3 ∧ s.ob Obj.nmState ≠ 4) →
        t = { s.served x with ring := { s.ring with stay := true, flag := s.stayFlag } })) ∧
    exec (.nmReleaseStay h) s = .next { s.served x with ring := { s.ring with stay := false } } ∧
    (∃ t, exec (.nmResume h) s = .next t ∧
      (s.ob Obj.nmState = 4 → s.nmOn = true → t.ob Obj.nmState = 1 ∧ t.ob Obj.nmLastWakeSource = 4 ∧
        t.ob Obj.nmLastWakeDetail = 0 ∧ t.Raised s.now 1049 0) ∧
      (s.ob Obj.nmState ≠ 4 → s.ring.wakeReason = none → t = s.served x)))

/-- R348–R350, R352. HOST_VOTE places, withdraws and suspends votes of the domains of its mask, PWR_TARGET follows, and a mask
with a reserved bit fails. A domain follows its votes and the power state, counted, with EV1063. A target below the state for
LINGER begins an entry. A timed vote of holder 2 ends once no request waits; the wake hold ends with holder 8's votes. R24,
R107, R306, R347, R353–R358, R361, R362, R487. Dipped is entered with CORES off and EV1056, and left with EV1057 where no
request waits; Half-mast is entered in low-frequency mode, where host changes that wait do not act, once the LF oscillation is
established, and left through the PLL, with the supervisor waiting once a sweep has begun; Furled keeps the held events. A
captured wake records its cause and starts an exit, or waits for the end of an entry. The RTC follows what is written, and its
alarm fires once. A contained event of a parking load turns it off and may wake the unit. Completes: placeHostVote,
withdrawHostVote, withdrawAllHostVotes, suspendStandingVotes, restoreStandingVotes, domainSwitch, lingerExpiry, holderVoteTimer,
wakeHoldExpiry, enterDipped, exitDipped, enterHalfMast, exitHalfMast, enterFurled, wakeCapture, rtcAlarm, rtcSecondsWrite,
parkingLoadFault, lfOscillationEstablished. -/
def Obligations.PowerStatesFollowTheVotes : Prop :=
  ((∀ (h : Nat) (mask : BitVec 24) (s : State) (x : Session), s.Serves h .host x →
    (mask.toNat < 2 ^ 19 → ∀ c ∈ [(Instr.placeHostVote h mask, fun d => bitAt mask.toNat d || bitAt (s.pw.votes.read 0 d) 0),
        (.withdrawHostVote h mask, fun d => !bitAt mask.toNat d && bitAt (s.pw.votes.read 0 d) 0),
        (.withdrawAllHostVotes h, fun _ => false)],
      ∃ t, exec c.1 s = .next t ∧ t.reply = { status := .success } ∧ (∀ d < 19, bitAt (t.pw.votes.read 0 d) 0 = c.2 d) ∧
        t.ob Obj.pwrTarget = t.required ∧ t = { s.served x with pw := t.pw, obj := t.obj } ∧
        s.ObjectsBut t [Obj.pwrTarget, Obj.pwrTransition, Obj.lastWakeCause, Obj.lastWakeDetail]) ∧
    (mask.toNat < 2 ^ 19 → ∀ c ∈ [(Instr.suspendStandingVotes h mask, fun d => bitAt mask.toNat d || bitAt (s.ob Obj.standingSuspended) d),
        (.restoreStandingVotes h mask, fun d => !bitAt mask.toNat d && bitAt (s.ob Obj.standingSuspended) d)],
      ∃ t, exec c.1 s = .next t ∧ t.reply = { status := .success } ∧ (∀ d < 19, bitAt (t.ob Obj.standingSuspended) d = c.2 d) ∧
        t.ob Obj.pwrTarget = t.required ∧ t = { s.served x with pw := t.pw, obj := t.obj } ∧
        s.ObjectsBut t [Obj.standingSuspended, Obj.pwrTarget, Obj.pwrTransition, Obj.lastWakeCause, Obj.lastWakeDetail]) ∧
    (2 ^ 19 ≤ mask.toNat → ∀ c ∈ [Instr.placeHostVote h mask, .withdrawHostVote h mask, .suspendStandingVotes h mask, .restoreStandingVotes h mask],
      exec c s = .next { s.asked x with reply := { status := .reservedBit } })) ∧
  (∀ (d : Fin 19) (s : State), s.applied = true → s.awake = true → s.domainIsOn d ≠ s.domainDue d →
    ∃ t, exec (.domainSwitch d) s = .next t ∧ t.domainIsOn d = s.domainDue d ∧
      t.ob (Obj.domainSwitches d) = (s.ob (Obj.domainSwitches d) + 1) % 2 ^ 32 ∧
      t.Raised s.now 1063 (d * 256 + (if s.domainDue d then 1 else 0)) ∧ t.cfg = s.cfg ∧ t.sessions = s.sessions ∧
      t.own.kept = s.own.kept) ∧
  (∀ (s : State) (u : Tick), s.pw.lowSince = some u → s.applied = true → s.ob Obj.pwrTransition = 0 → s.ob Obj.pwrState < s.required →
    (s.passed u (ms (s.cf Obj.linger)) = true →
      ∃ t, exec .lingerExpiry s = .next t ∧ t.ob Obj.pwrTransition = 1 ∧
        t = { s with obj := t.obj, pw := { s.pw with entering := s.required, captured := none, lowSince := none } } ∧
        s.ObjectsBut t [Obj.pwrTransition]) ∧
    (s.passed u (ms (s.cf Obj.linger)) = false → exec .lingerExpiry s = .next s)) ∧
  (∀ (s : State) (u : Tick), s.applied = true → u ≤ s.now →
    (s.pw.timers.get? 2 = some u → (∀ x ∈ s.sessions, x.queue = []) →
      ∃ t, exec (.holderVoteTimer 2) s = .next t ∧ t.pw.timers = s.pw.timers.erase 2 ∧
        (∀ d < 19, bitAt (t.pw.votes.read 0 d) 2 = false) ∧ t = { s with pw := t.pw, obj := t.obj } ∧
        s.ObjectsBut t [Obj.pwrTarget, Obj.pwrTransition, Obj.lastWakeCause, Obj.lastWakeDetail]) ∧
    (s.pw.holdUntil = some u →
      ∃ t, exec .wakeHoldExpiry s = .next t ∧ t.pw.holdUntil = none ∧ (∀ d < 19, bitAt (t.pw.votes.read 0 d) 8 = false) ∧
        t = { s with pw := t.pw, obj := t.obj } ∧
        s.ObjectsBut t [Obj.pwrTarget, Obj.pwrTransition, Obj.lastWakeCause, Obj.lastWakeDetail]))) ∧
  ((∀ s : State, s.ob Obj.pwrTransition = 1 → s.pw.entering = pwrDipped → s.ob Obj.pwrState = pwrHoisted → s.pw.captured = none →
    ∃ t, exec .enterDipped s = .next t ∧ t.ob Obj.pwrState = pwrDipped ∧ t.ob Obj.pwrTransition = 0 ∧ t.domainIsOn 0 = false ∧
      t.ob Obj.transitionCount = (s.ob Obj.transitionCount + 1) % 2 ^ 32 ∧ t.Raised s.now 1056 (pwrDipped * 256 + pwrHoisted) ∧
      t.cfg = s.cfg ∧ t.sessions = s.sessions) ∧
  (∀ s : State, s.ob Obj.pwrTransition = 2 → s.ob Obj.pwrState = pwrDipped → (∀ x ∈ s.sessions, x.queue = []) → s.anon = [] →
    (∀ c < 8, (s.canCh c).contending = none ∧ (s.sdoOf c).waiting = none) →
    ∃ t, exec .exitDipped s = .next t ∧ t.ob Obj.pwrState = pwrHoisted ∧
      t.ob Obj.transitionCount = (s.ob Obj.transitionCount + 1) % 2 ^ 32 ∧
      t.Raised s.now 1057 (s.pw.cause.1 * 2 ^ 16 + s.pw.cause.2) ∧ t.pw.timers.get? 2 = some (s.now + ms 50) ∧ t.cfg = s.cfg) ∧
  (∀ s : State, s.mayPark = true →
    (s.tb.lfEstablished = false → exec .enterHalfMast s = .next { s with pw := { s.pw with lfWait := true } }) ∧
    (s.tb.lfEstablished = true →
      ∃ t, exec .enterHalfMast s = .next t ∧ t.ob Obj.pwrState = pwrHalfMast ∧ t.ob Obj.engineState = 2 ∧ t.tb.lfMode = true ∧
        t.tb.pllLocked = false ∧ t.hoist.parked = true ∧ t.own.hostOps = s.own.hostOps ∧ t.eng.segment = 0 ∧ t.fab.pend = [] ∧ t.cfg = s.cfg)) ∧
  (∀ (dins : BitVec 16) (s : State), s.ob Obj.pwrTransition = 2 → s.ob Obj.pwrState = pwrHalfMast → s.boot.stage = .applied →
    s.fab.held = [] → s.fab.toLog = [] → s.sessions = [] → s.anon = [] → s.sdo = [] →
    ∃ t, exec (.exitHalfMast dins) s = .next t ∧ t.tb.pllLocked = true ∧ t.tb.lfLeaving = true ∧
      t.ob Obj.pwrState = (if s.required = pwrHoisted then pwrHoisted else pwrDipped) ∧ t.ob Obj.engineState = 1 ∧
      (s.boot.sweeps = true → t.hb.enters = true) ∧ (s.boot.sweeps = false → t.ob Obj.hbState = hbWaiting) ∧
      t.Raised s.now 1057 (s.pw.cause.1 * 2 ^ 16 + s.pw.cause.2) ∧ t.cfg = s.cfg) ∧
  (∀ s : State, s.ob Obj.pwrTransition = 1 → s.pw.entering = pwrFurled → s.ob Obj.pwrState = pwrHalfMast → s.pw.captured = none →
    s.ob Obj.debugState = 0 →
    ∃ t, exec .enterFurled s = .next t ∧ t.ob Obj.pwrState = pwrFurled ∧ t.ob Obj.pwrTarget = pwrFurled ∧ t.pw.saved = s.fab.held ∧
      t.boot.stage = .off ∧ t.Raised s.now 1059 s.fab.held.length ∧ t.Raised s.now 1056 (pwrFurled * 256 + pwrHalfMast) ∧
      t.ob Obj.transitionCount = (s.ob Obj.transitionCount + 1) % 2 ^ 32 ∧ t.cfg = s.cfg) ∧
  (∀ (cause : Fin 12) (detail : BitVec 16) (s : State), s.wakeable cause detail.toNat = true →
    ∃ t, exec (.wakeCapture cause detail) s = .next t ∧ t.ob Obj.lastWakeCause = cause ∧ t.ob Obj.lastWakeDetail = detail.toNat ∧
      (s.ob Obj.pwrTransition = 0 → pwrHalfMast ≤ s.ob Obj.pwrState → t.ob Obj.pwrTransition = 2) ∧
      (s.ob Obj.pwrTransition = 1 → s.pw.captured = none → t.pw.captured = some (cause.val, detail.toNat, s.now)) ∧
      t = { s with obj := t.obj, pw := t.pw, boot := t.boot, ring := t.ring, can := t.can }) ∧
  (∀ s : State, s.alarmDue = true →
    ∃ t, exec .rtcAlarm s = .next t ∧ t.Raised s.now 1061 s.rtcNow ∧ t.pw.timers.get? 16 = some s.now ∧ t.alarmDue = false ∧
      (s.lowered = true → t.ob Obj.lastWakeCause = 7) ∧ (s.lowered = false → t = { s with pw := t.pw, fab := t.fab })) ∧
  (∀ (h : Nat) (v : BitVec 32) (s : State) (x : Session), s.Serves h .host x →
    ∃ t, exec (.rtcSecondsWrite h v) s = .next t ∧ t.rtcNow = v.toNat ∧ t.ob Obj.rtcValid = 1 ∧
      t = { s.served x with pw := t.pw, obj := t.obj } ∧ s.ObjectsBut t [Obj.rtcValid]) ∧
  (∀ (ev : BitVec 16) (v : BitVec 32) (sig : Nat) (s : State), s.parkedSignal ev.toNat = some sig → s.ob Obj.pwrState = pwrHalfMast →
    s.severityOf ev.toNat v.toNat = .contained →
    ∃ t, exec (.parkingLoadFault ev v) s = .next t ∧ t.Raised s.now ev.toNat v.toNat ∧ t.own.kept = s.own.kept ∧
      (s.cf Obj.parkFaultWake = 1 → t.ob Obj.lastWakeCause = 11 ∧ t.ob Obj.lastWakeDetail = ev.toNat) ∧ t.cfg = s.cfg) ∧
  (∀ s : State, ∃ t, exec .lfOscillationEstablished s = .next t ∧ t.cfg = s.cfg ∧
    (s.pw.lfWait = false → s.secure.haltWait = false → t = { s with tb := { s.tb with lfEstablished := true } }) ∧
    (s.pw.lfWait = false → s.secure.haltWait = true → t.secure.haltWait = false ∧ t.tb.lfMode = true ∧ t.ob Obj.debugState = 3)))

/-- R209, R363–R367, R369, R370, R373, R469. The Hoist die runs once its power-on reset releases, its inputs at the comparator
levels of the first tick, and a plain power-down, RESET_N, a core supply fault and Strike stop what they stop, with the cause of
the start that will follow; copies whose write is cut short are as the write left them. After the Fly reset the Fly die is
released and waits for the PLL. A rejected image stops start-up; else the configuration store is checked: three copies in
agreement give the configuration, and without an intact copy the defaults are in force, with EV1294. The configuration is
applied where VBAT suffices, with EV1288, and held with EV1295 where it does not; the first sweep starts in a unit whose address
is confirmed. VSTORE is ready from 10.5 V. Completes: hoistPorRelease, strikeRestart, coreSupplyRestored,
flyResetReleaseAtStart, hoistPorAssert, imageCheck, configurationApplied, applyHeldLowVbat, firstSweepStart, coreSupplyFault,
resetNLow, vstoreReadiness, strikeTrigger. -/
def Obligations.UnitsStartAndStopAsStated : Prop :=
  (∀ s : State,
    let first (u : State) : Prop := ∀ i < 16, u.dinCh i = { level := bitAt (Config.dinLevels s.boot.dinStarts).toNat i }
    let started (u : State) (c : Nat) : Prop :=
      first u ∧ u = { s with
        din := u.din, boot := { s.boot with stage := .flyReset, nextCause := c, dinStarts := s.boot.dinStarts + 1 } }
    (s.boot.stage = .off → s.ob Obj.pwrState ≠ pwrFurled → ∃ t, exec .hoistPorRelease s = .next t ∧ started t 1) ∧
    (s.boot.stage = .off → s.boot.nextCause = 6 → ∃ t, exec .strikeRestart s = .next t ∧ started t 6) ∧
    (s.boot.stage = .flyReset → s.boot.nextCause ∈ [1, 2, 5, 6, 7, 9] →
      ∃ t, exec (if s.boot.nextCause = 5 then .coreSupplyRestored else .flyResetReleaseAtStart) s = .next t ∧
        (s.boot.nextCause ≠ 2 → t.din = s.din) ∧ (s.boot.nextCause = 2 → first t) ∧
        t = { s with
          din := t.din, boot := { s.boot with stage := .pllWait, dinStarts := t.boot.dinStarts }, hoist := { s.hoist with flyReset := false }
          flyStarts := (s.flyStarts + 1) % 2 ^ 32, tb := { lfEstablished := s.tb.lfEstablished } }) ∧
    (s.boot.stage = .off → s.ob Obj.pwrState = pwrFurled → exec .hoistPorRelease s = .next s)) ∧
  (∀ (n : Fin 7) (s : State),
    ∃ t, exec (.hoistPorAssert n) s = .next t ∧ t.boot.stage = .off ∧ t.boot.nextCause = 1 ∧ t.sessions = [] ∧ t.own = {} ∧
      t.hoist = {} ∧ t.tb = {} ∧ t.gd = [] ∧ t.sv = [] ∧ t.dout = [] ∧ t.commits = [] ∧ t.cfg = s.cfg ∧ t.address = 0 ∧
      t.ob Obj.storedAddress = s.ob Obj.storedAddress ∧ t.flyStarts = s.flyStarts ∧ t.pending = s.pending ∧
      (s.commits = [] → t.ft.copies = s.ft.copies) ∧
      ∀ j rest g, s.commits = j :: rest → j.generation = some g → ∀ c < 3,
        (2 * c + 2 ≤ n.val → t.copyOf c = { generation := g, intact := true, regs := j.regs }) ∧
        (n.val = 2 * c + 1 → (t.copyOf c).intact = false) ∧ (n.val ≤ 2 * c → t.copyOf c = s.copyOf c)) ∧
  (∀ (rejected : Fin 5) (trng : Bool) (s : State), s.boot.stage = .images → s.upd.record = 0 →
    ∃ t, exec (.imageCheck rejected trng) s = .next t ∧ t.ob Obj.bootResult = rejected ∧
      t.ob Obj.trngState = (if trng then 1 else 2) ∧ (trng = false → t.Raised s.now 1104 0) ∧
      (s.boot.nextCause ≠ 9 → t.ob Obj.startCause = s.boot.nextCause) ∧
      (rejected ≠ 0 → t.boot.stage = .stopped ∧ t.cfg = s.cfg) ∧
      (rejected = 0 → t.boot.stage = .config ∧ (s.ob Obj.bootResult ≠ 0 → t.Raised s.now 1103 (s.ob Obj.bootResult)) ∧
        (State.agree (s.copyOf 0) (s.copyOf 1) = true → State.agree (s.copyOf 1) (s.copyOf 2) = true →
          t.cfg = (s.copyOf 0).regs ∧ t.ob Obj.cfgUsed = 0 ∧ t.ob Obj.commitGeneration = (s.copyOf 0).generation) ∧
        ((∀ c < 3, (s.copyOf c).intact = false) → t.cfg = [] ∧ t.ob Obj.cfgUsed = 3 ∧ t.Raised s.now 1294 0))) ∧
  (∀ (vbat : Nat) (elapsed : BitVec 32) (s : State), s.boot.stage = .config →
    (s.cf Obj.strikeLevel + 1000 ≤ vbat → s.upd.record = 0 → s.ob Obj.configSchema = s.ob Obj.schemaVersion →
      ∃ t, exec (.configurationApplied vbat elapsed) s = .next t ∧ t.boot.stage = .applied ∧ t.boot.appliedAt = s.now ∧
        t.boot.sweeps = false ∧ t.ob Obj.applyTime = elapsed.toNat ∧ t.ob Obj.pwrState = pwrHoisted ∧
        t.Raised s.now 1288 (s.ob Obj.startCause) ∧ t.cfg = s.cfg) ∧
    (vbat < s.cf Obj.strikeLevel + 1000 → s.boot.held = false →
      exec (.applyHeldLowVbat vbat) s = .next (({ s with boot := { s.boot with held := true } } : State).post 1295 vbat) ∧
      exec (.configurationApplied vbat elapsed) s = .next s)) ∧
  (∀ s : State, s.applied = true → s.boot.sweeps = false → s.awake = true → s.bit Obj.ftFlags 6 = false →
    (s.ob Obj.addrState = 2 → ∃ t, exec .firstSweepStart s = .next t ∧ t.ob Obj.engineState = 1 ∧
      t = { s with obj := t.obj, boot := { s.boot with sweeps := true }, eng := { s.eng with segment := 0 } } ∧
      s.ObjectsBut t [Obj.engineState]) ∧
    (s.ob Obj.addrState ≠ 2 → exec .firstSweepStart s = .next s)) ∧
  (∀ (mv : Nat) (s : State), s.flyRuns = true →
    (730 ≤ mv → mv ≤ 870 → exec (.coreSupplyFault mv) s = .next s) ∧
    ∀ c ∈ [(Instr.resetNLow, True, 7, s.boot.coreMv), (.coreSupplyFault mv, mv < 730 ∨ 870 < mv, 5, mv)], c.2.1 →
      ∃ t, exec c.1 s = .next t ∧ t.boot.stage = .flyReset ∧ t.boot.nextCause = c.2.2.1 ∧ t.boot.coreMv = c.2.2.2 ∧
        t.hoist.safe = true ∧ t.sessions = [] ∧ t.own = {} ∧ t.timers = [] ∧ t.can = [] ∧ t.commits = [] ∧ t.cfg = s.cfg ∧
        t.ft.copies = s.ft.copies ∧ t.flyStarts = s.flyStarts) ∧
  (∀ (mv : Nat) (s : State), s.boot.stage ≠ .off →
    ∃ t, exec (.vstoreReadiness mv) s = .next t ∧ t.boot.vstoreReady = decide (10500 ≤ mv) ∧
      (10500 ≤ mv → s.boot.vstoreTold = true → t.Raised s.now 1292 mv) ∧
      (mv < 10500 → s.boot.vstoreTold = false → s.applied = true → s.awake = true → s.boot.vstoreReady = true →
        t.boot.vstoreTold = true ∧ t.Raised s.now 1291 mv) ∧
      t = { s with obj := t.obj, boot := t.boot, fab := t.fab } ∧ s.ObjectsBut t [Obj.strikeState]) ∧
  (∀ (complete : Bool) (n : Fin 7) (s : State),
    (s.strikeArmed = false → exec (.strikeTrigger complete n) s = .next s) ∧
    (s.strikeArmed = true →
      ∃ t, exec (.strikeTrigger complete n) s = .next t ∧ t.boot.stage = .off ∧ t.boot.nextCause = 6 ∧
        t.boot.strikeReport = (if complete then 1 else 2) ∧ t.ob Obj.strikeCount = (s.ob Obj.strikeCount + 1) % 2 ^ 32 ∧
        t.sessions = [] ∧ t.own = {} ∧ t.cfg = s.cfg ∧ t.flyStarts = s.flyStarts ∧
        (complete = true → t.ledger.strike.length ≤ 16) ∧ (complete = false → t.ob Obj.lastStrikeKib = 0 ∧ t.gd = [] ∧ t.sv = [])))

/-- R375–R382. A key command on an empty customer slot stands the imported, generated or derived key there with its ATTR, with
EV1094; one on a loaded slot sets KC_STATUS 12, a refused source its own status and EV1096, and a failed generator fails
KEY_GENERATE (the model's choice, assumption 69). A zero empties the slot with EV1095, or waits for the job that uses it.
LC_REQUEST gives a token to a role the transition names; LC_CONFIRM with it, in time and with its prerequisites met, makes the
transition with EV1097 and closes every session, and sets its result otherwise. Completes: keyImport, keyGenerate, keyDerive,
keyZero, lcRequest, lcConfirm. -/
def Obligations.KeysAndLifecycleDoAsStated : Prop :=
  (∀ (h : Nat) (s : State) (x : Session), s.Serves h .maker x → 17 < s.sob h Obj.kcSlot → s.sob h Obj.kcSlot ≤ 127 →
    let n := s.sob h Obj.kcSlot
    let src := s.sob h Obj.kcSource
    let attr := s.sob h Obj.kcAttr
    (∀ c ∈ [(Instr.keyImport h, 1), (.keyGenerate h, 2), (.keyDerive h, 3)], s.sob h Obj.kcOp = c.2 → s.slotLoaded n = true →
      ∃ t, exec c.1 s = .next t ∧ t.sob h Obj.kcStatus = 12 ∧ t.reply = { status := .success } ∧
        t = { s.served x with sessions := t.sessions }) ∧
    (s.slotLoaded n = false →
      (∀ c ∈ [(Instr.keyImport h, 1), (.keyDerive h, 3)], ∀ st, s.sob h Obj.kcOp = c.2 → s.sourceRefuses x src = some st →
        ∃ t, exec c.1 s = .next t ∧ t.sob h Obj.kcStatus = st ∧ t.Raised s.now 1096 (256 * src + st) ∧
          t = { s.served x with sessions := t.sessions, fab := t.fab }) ∧
      (∀ bs, s.sob h Obj.kcOp = 1 → s.sourceRefuses x src = none →
        s.sob h Obj.kcBlobLen = 32 ∨ s.sob h Obj.kcBlobLen = 40 ∨ s.sob h Obj.kcBlobLen = 48 →
        Config.unwrap (s.slotKey src) (s.kcBlob h) = some bs →
        let a := ofBytes (bs.take 8) % 2 ^ 64
        State.attrOk a = true → State.keyBytes (State.attrType a) + 16 = s.sob h Obj.kcBlobLen →
        ∃ t, exec (.keyImport h) s = .next t ∧ t.ob (Obj.keySlotState n) = 1 ∧ t.ob (Obj.keyType n) = State.attrType a ∧
          t.ob (Obj.keyPolicy n) = State.attrPolicy a ∧ t.Raised s.now 1094 (256 * n + State.attrType a) ∧
          t.ob (Obj.keyUseCount src) = (s.ob (Obj.keyUseCount src) + 1) % 2 ^ 32 ∧
          (∀ m, m ≠ n → t.secure.material.read 0 m = s.secure.material.read 0 m) ∧ t.cfg = s.cfg) ∧
      (s.sob h Obj.kcOp = 2 →
        (s.ob Obj.trngState ≠ 1 → exec (.keyGenerate h) s = .next { s.asked x with reply := { status := .configInvalid } }) ∧
        (s.ob Obj.trngState = 1 → State.attrOk attr = true →
          ∃ t, exec (.keyGenerate h) s = .next t ∧ t.ob (Obj.keySlotState n) = 2 ∧ t.ob (Obj.keyType n) = State.attrType attr ∧
            t.ob (Obj.keyPolicy n) = State.attrPolicy attr ∧ t.ob (Obj.keyId n) = State.attrId attr ∧
            t.Raised s.now 1094 (256 * n + State.attrType attr) ∧
            (∀ m, m ≠ n → t.secure.material.read 0 m = s.secure.material.read 0 m) ∧ t.cfg = s.cfg)) ∧
      (s.sob h Obj.kcOp = 3 → s.sourceRefuses x src = none → State.attrOk attr = true → bitAt (State.attrPolicy attr) 4 = false →
        s.sob h Obj.kcBlobLen ≠ 0 →
        ∃ t, exec (.keyDerive h) s = .next t ∧ t.ob (Obj.keySlotState n) = 2 ∧ t.ob (Obj.keyPolicy n) = State.attrPolicy attr ∧
          t.slotKey n = Config.kdf (s.slotKey src) 1 (s.kcBlob h) % 2 ^ (8 * State.keyBytes (State.attrType attr)) ∧
          t.Raised s.now 1094 (256 * n + State.attrType attr) ∧
          (∀ m, m ≠ n → t.secure.material.read 0 m = s.secure.material.read 0 m) ∧ t.cfg = s.cfg)) ∧
    (s.sob h Obj.kcOp = 4 →
      (s.slotBusy n = true → ∃ t, exec (.keyZero h) s = .next t ∧ t.sob h Obj.kcStatus = 1 ∧
        t.secure.zeroWait = s.secure.zeroWait ++ [(n, h)] ∧ t = { s.served x with sessions := t.sessions, secure := t.secure }) ∧
      (s.slotBusy n = false → ∃ t, exec (.keyZero h) s = .next t ∧ t.slotLoaded n = false ∧ t.ob (Obj.keyPolicy n) = 0 ∧
        t.slotKey n = 0 ∧ t.Raised s.now 1095 n ∧ (∀ m, m ≠ n → t.secure.material.read 0 m = s.secure.material.read 0 m) ∧
        t.cfg = s.cfg))) ∧
  (∀ (h : Nat) (target : BitVec 8) (s : State) (x : Session), s.Serves h .maker x →
    (State.lcRoles s.lifecycleOf target.toNat = [] →
      exec (.lcRequest h target) s = .next { s.asked x with reply := { status := .valueRange } }) ∧
    (x.role ∈ State.lcRoles s.lifecycleOf target.toNat →
      ∃ t y k, exec (.lcRequest h target) s = .next t ∧ t.session? h = some y ∧ t.sob h Obj.lcToken = k ∧ t.sob h Obj.lcResult = 0 ∧
        y.lcToken = some { target := target.toNat, token := k, issued := s.now } ∧
        t = { s.served x with sessions := t.sessions, secure := t.secure }) ∧
    (State.lcRoles s.lifecycleOf target.toNat ≠ [] → x.role ∉ State.lcRoles s.lifecycleOf target.toNat →
      ∃ t, exec (.lcRequest h target) s = .next t ∧ t.sob h Obj.lcResult = 5 ∧ t = { s.served x with sessions := t.sessions })) ∧
  (∀ (h : Nat) (v : BitVec 32) (s : State) (x : Session), s.Serves h .maker x →
    (x.lcToken = none → ∃ t, exec (.lcConfirm h v) s = .next t ∧ t.sob h Obj.lcResult = 3 ∧
      t = { s.served x with sessions := t.sessions }) ∧
    (∀ k, x.lcToken = some k →
      (k.token ≠ v.toNat → ∃ t, exec (.lcConfirm h v) s = .next t ∧ t.sob h Obj.lcResult = 3 ∧
        t = { s.served x with sessions := t.sessions }) ∧
      (k.token = v.toNat → k.issued + sec 10 < s.now → ∃ t, exec (.lcConfirm h v) s = .next t ∧ t.sob h Obj.lcResult = 4 ∧
        t = { s.served x with sessions := t.sessions }) ∧
      (k.token = v.toNat → s.now ≤ k.issued + sec 10 → s.lcPrerequisite s.lifecycleOf k.target = false →
        ∃ t, exec (.lcConfirm h v) s = .next t ∧ t.sob h Obj.lcResult = 2 ∧ t = { s.served x with sessions := t.sessions }) ∧
      (k.token = v.toNat → s.now ≤ k.issued + sec 10 → s.lifecycleOf = 1 → k.target = 2 → s.mayEnterFielded = true →
        s.ob Obj.debugState = 0 → s.secure.zeroWait = [] →
        ∃ t, exec (.lcConfirm h v) s = .next t ∧ t.lifecycleOf = 2 ∧ t.sessions = [] ∧ t.Raised s.now 1097 (256 * 2 + 1) ∧
          t.cfg = s.cfg ∧ t.secure = s.secure)))

/-- R374, R383–R395. The generator fails and passes its retest. MSG1 starts a setup where nothing stands against it, MSG3 with
the right proof opens a session, and a wrong or late one is refused with its cause and EV1090; a lock-out ends with EV1092. A
session that closes, or is idle too long, is gone with its holds, with EV1089. A cipher job starts, or is refused with its
status; its end writes the buffer and the status. Signing, verifying, exporting and random values answer as stated. A debug
window is opened, used, and ended; a halt stops the PLL with the hoist safe state, and the resume runs on, the supervisor
waiting once a sweep has begun; leaving EXTEST is a Fly start. A new MSG1 that takes the place of a waiting setup is the model's
choice (assumption 67). Completes: trngHealthFail, trngRetest, sessionSetupMsg1, sessionSetupMsg3, setupMsg3Timeout,
roleLockoutEnd, sessionClose, sessionIdleTimeout, cjRun, cipherJobDone, pkSign, pkVerify, pkExport, randomRead, debugRequest,
trstNLow, debugClose, debugWindowExpiry, debuggerConnect, debugHalt, debugResume, extest. -/
def Obligations.SessionsEnginesAndDebugDoAsStated : Prop :=
  (∀ s : State,
    (∀ rep : Bool, s.ob Obj.trngState ≠ 2 → ∃ t, exec (.trngHealthFail rep) s = .next t ∧ t.ob Obj.trngState = 2 ∧
      t.Raised s.now 1104 (if rep then 1 else 2) ∧ t = { s with obj := t.obj, fab := t.fab } ∧ s.ObjectsBut t [Obj.trngState]) ∧
    (s.ob Obj.trngState = 2 → exec (.trngRetest true) s = .next (s.setOb Obj.trngState 1)) ∧
    exec (.trngRetest false) s = .next s) ∧
  (∀ (p : Fin 9) (role : BitVec 8) (host : BitVec 32) (nH auth : BitVec 128) (s : State), s.setupServed p = true →
    -- MSG2 or MSG4 goes out, or waits for its transmit opportunity
    let answers (t : State) : Prop := p.val = 0 → s.halyardTalks = true →
      ∃ f, (t.hal.txSent = some f ∨ f ∈ t.hal.txQueue) ∧ f.use = .answer ∧ f.dest = .requester ∧ f.etherType = 0x88B5
    (s.setupCause (State.setupPath p) role.toNat = [] →
      ∃ t u, exec (.sessionSetupMsg1 p role host nH 0) s = .next t ∧ t.secure.setups.get? p = some u ∧ u.role = role.toNat ∧
        u.hostId = host.toNat ∧ u.nH = nH.toNat ∧ u.sent = s.now ∧ t.secure.draws = s.secure.draws + 1 ∧
        (p.val ≠ 0 → t = { s with secure := t.secure }) ∧ t = { s with secure := t.secure, hal := t.hal, obj := t.obj } ∧
        s.ObjectsBut t (Obj.txFrames :: (List.range 64).map Obj.piFrameCount) ∧ answers t) ∧
    (∀ c, State.least (s.setupCause (State.setupPath p) role.toNat) = some c →
      ∃ t, exec (.sessionSetupMsg1 p role host nH 0) s = .next t ∧ t.secure.setups.get? p = none ∧
        t.Raised s.now 1090 (2 ^ 16 * role.toNat + c) ∧ (p.val ≠ 0 → t = { s with secure := t.secure, fab := t.fab }) ∧
        t = { s with secure := t.secure, fab := t.fab, hal := t.hal, obj := t.obj } ∧
        s.ObjectsBut t (Obj.txFrames :: (List.range 64).map Obj.piFrameCount) ∧ answers t) ∧
    (∀ u, s.secure.setups.get? p = some u → s.setupCause (State.setupPath p) u.role = [] → role.toNat = u.role → host.toNat = u.hostId →
      let proof := Config.cmac (s.slotKey (s.roleSlot u.role)) (0x48 :: State.setupContext p u.role u.hostId u.nH u.nD)
      (auth = proof → s.sessions.length < 8 → s.now ≤ u.sent + sec 1 →
        ∃ t y, exec (.sessionSetupMsg3 p role host auth) s = .next t ∧ t.sessions = s.sessions ++ [y] ∧ y.role = Role.ofCode u.role ∧
          y.hostId = u.hostId ∧ y.last = s.now ∧ s.session? y.handle = none ∧ t.secure.setups.get? p = none ∧
          t.Raised s.now 1088 (2 ^ 16 * u.role + y.handle) ∧ t.cfg = s.cfg ∧ answers t) ∧
      (auth ≠ proof →
        ∃ t, exec (.sessionSetupMsg3 p role host auth) s = .next t ∧ t.secure.setups.get? p = none ∧
          t.Raised s.now 1090 (2 ^ 16 * u.role + 2) ∧ (p.val ≠ 0 → t = { s with secure := t.secure, fab := t.fab }) ∧
          t = { s with secure := t.secure, fab := t.fab, hal := t.hal, obj := t.obj } ∧
          s.ObjectsBut t (Obj.txFrames :: (List.range 64).map Obj.piFrameCount) ∧ answers t))) ∧
  (∀ (p : Fin 9) (r : Fin 4) (s : State),
    (∀ u, s.secure.setups.get? p = some u → s.passed u.sent (sec 1) = true →
      ∃ t, exec (.setupMsg3Timeout p) s = .next t ∧ t.secure.setups.get? p = none ∧ t.Raised s.now 1090 (2 ^ 16 * u.role + 8) ∧
        (p.val ≠ 0 → t = { s with secure := t.secure, fab := t.fab }) ∧
        t = { s with secure := t.secure, fab := t.fab, hal := t.hal, obj := t.obj } ∧
        s.ObjectsBut t (Obj.txFrames :: (List.range 64).map Obj.piFrameCount)) ∧
    (∀ e, s.secure.lockUntil.get? r = some e → e ≤ s.poweredTime →
      ∃ t, exec (.roleLockoutEnd r) s = .next t ∧ t.roleLocked r = false ∧ t.Raised s.now 1092 r ∧
        t = { s with fab := t.fab, secure := { s.secure with lockUntil := s.secure.lockUntil.erase r } })) ∧
  (∀ (h : Nat) (s : State) (x : Session), s.session? h = some x → s.secure.zeroWait = [] →
    ∀ c ∈ [(Instr.sessionClose h, s.Serves h .host x, 1), (.sessionIdleTimeout h, s.passed x.last (sec (s.cf Obj.sessionIdle)) = true, 2)],
      c.2.1 → ∃ t, exec c.1 s = .next t ∧ t.session? h = none ∧ (∀ g, g ≠ h → t.session? g = s.session? g) ∧
        (∀ i y, t.holds.get? i = some y → y.holder ≠ h) ∧ t.Raised s.now 1089 (256 * h + c.2.2) ∧ t.cfg = s.cfg ∧ t.own = s.own) ∧
  (∀ (h : Nat) (s : State) (x : Session), s.Serves h .host x →
    let n := s.sob h Obj.cjSlot
    let op := s.sob h Obj.cjOp
    let pol := s.slotPolicy n (State.cipherPolicy op) && decide (s.ob (Obj.keyType n) ≤ 3)
    (x.job ≠ none → ∃ t, exec (.cjRun h) s = .next t ∧ t.sob h Obj.cjStatus = 10 ∧ t = { s.served x with sessions := t.sessions }) ∧
    (∀ st, x.job = none → s.useRefuses x n pol = some st →
      ∃ t, exec (.cjRun h) s = .next t ∧ t.sob h Obj.cjStatus = st ∧ t.Raised s.now 1096 (256 * n + st) ∧
        t = { s.served x with sessions := t.sessions, fab := t.fab }) ∧
    (x.job = none → s.useRefuses x n pol = none → s.sob h Obj.cjAadLen ≤ x.buffer.length →
      State.cipherParams op (s.sob h Obj.cjMode) (s.sob h Obj.cjIvLen) (s.sob h Obj.cjTagLen) (s.sob h Obj.cjAadLen)
        (x.buffer.length - s.sob h Obj.cjAadLen) = true →
      ∃ t y j, exec (.cjRun h) s = .next t ∧ t.session? h = some y ∧ y.job = some j ∧ j.slot = n ∧ j.op = op ∧
        j.mode = s.sob h Obj.cjMode ∧ j.since = s.now ∧ t.sob h Obj.cjStatus = 1 ∧ y.buffer = x.buffer ∧
        t.ob (Obj.keyUseCount n) = (s.ob (Obj.keyUseCount n) + 1) % 2 ^ 32 ∧
        t = { s.served x with sessions := t.sessions, obj := t.obj } ∧ s.ObjectsBut t [Obj.keyUseCount n])) ∧
  (∀ (h : Nat) (s : State) (x : Session) (j : CipherJob), s.session? h = some x → x.job = some j → s.secure.zeroWait = [] →
    let r := State.jobResult j (s.slotKey j.slot) (x.buffer.take j.aadLen) (x.buffer.drop j.aadLen)
    ∃ t y, exec (.cipherJobDone h) s = .next t ∧ t.session? h = some y ∧ y.job = none ∧ y.buffer = x.buffer.take j.aadLen ++ r.1 ∧
      t.sob h Obj.cjStatus = r.2.2 ∧ (∀ v, r.2.1 = some v → t.sob h Obj.cjTag = v) ∧ t = { s with sessions := t.sessions }) ∧
  (∀ (h : Nat) (s : State) (x : Session), s.Serves h .host x →
    let n := s.sob h Obj.pkSlot
    (s.sob h Obj.pkOp = 1 →
      (∀ st, s.useRefuses x n (s.slotPolicy n 3 && s.ob (Obj.keyType n) = 4) = some st →
        ∃ t, exec (.pkSign h) s = .next t ∧ t.sob h Obj.pkStatus = st ∧ t.Raised s.now 1096 (256 * n + st) ∧
          t = { s.served x with sessions := t.sessions, fab := t.fab }) ∧
      (s.useRefuses x n (s.slotPolicy n 3 && s.ob (Obj.keyType n) = 4) = none →
        ∃ t, exec (.pkSign h) s = .next t ∧ t.sob h Obj.pkStatus = 2 ∧
          t.sob h Obj.pkSignature = (Config.ecdsaSign (s.slotKey n) (s.pkDigestOf x)).toNat ∧
          t = { s.served x with sessions := t.sessions, obj := t.obj } ∧ s.ObjectsBut t [Obj.keyUseCount n])) ∧
    (s.sob h Obj.pkOp = 2 → n = 0xFF →
      ∃ t, exec (.pkVerify h) s = .next t ∧ t = { s.served x with sessions := t.sessions } ∧ t.sob h Obj.pkStatus =
        (if Config.ecdsaVerify (s.sob h Obj.pkPubkey) (s.pkDigestOf x) (s.sob h Obj.pkSignature) then 2 else 11)) ∧
    (s.sob h Obj.pkOp = 3 → n ≤ 127 → s.slotLoaded n = true → s.cf (Obj.keyUseRole n) ≤ x.role.rank → s.ob (Obj.keyType n) = 4 →
      ∃ t, exec (.pkExport h) s = .next t ∧ t.sob h Obj.pkStatus = 2 ∧ t.sob h Obj.pkPubkey = (Config.publicKey (s.slotKey n)).toNat ∧
        t = { s.served x with sessions := t.sessions, obj := t.obj } ∧ s.ObjectsBut t [Obj.keyUseCount n]) ∧
    (s.ob Obj.trngState = 1 → exec (.randomRead h) s = .next { s.asked x with
      secure := { s.secure with draws := s.secure.draws + 1 }
      reply := { status := .success, data := toBytes 32 (Config.drbg s.secure.draws).toNat } }) ∧
    (s.ob Obj.trngState ≠ 1 → exec (.randomRead h) s = .next { s.asked x with reply := { status := .configInvalid } })) ∧
  (∀ (h : Nat) (v : BitVec 32) (roles : List Role) (s : State) (x : Session), s.Serves h .maker x →
    let level := v.toNat / 2 ^ 16
    let window := v.toNat % 2 ^ 16
    (1 ≤ level → level ≤ 2 → 1 ≤ window → window ≤ 3600 →
      (State.debugCell s.lifecycleOf level = .unlock roles → x.role ∈ roles →
        ∃ t, exec (.debugRequest h v) s = .next t ∧ t.secure.unlockUntil = some (s.now + sec window) ∧ t.secure.unlockLevel = level ∧
          t.Raised s.now 1098 (256 * level + x.role.rank) ∧ (s.ob Obj.debugState < 2 → t.ob Obj.debugState = 1 ∧ t.ob Obj.debugLevel = level) ∧
          t = { s.served x with secure := t.secure, obj := t.obj, fab := t.fab } ∧ s.ObjectsBut t [Obj.debugState, Obj.debugLevel]) ∧
      (State.debugCell s.lifecycleOf level = .unlock roles → x.role ∉ roles →
        exec (.debugRequest h v) s = .next { s.asked x with reply := { status := .roleTooLow } }) ∧
      (State.debugCell s.lifecycleOf level = .none →
        exec (.debugRequest h v) s = .next { s.asked x with reply := { status := .configInvalid } })) ∧
    (window = 0 ∨ 3600 < window → exec (.debugRequest h v) s = .next { s.asked x with reply := { status := .valueRange } })) ∧
  (∀ (h : Nat) (s : State) (x : Session), s.ob Obj.debugState ≠ 0 → s.secure.haltedAt = none → s.secure.extest = false →
    ∀ c ∈ [(Instr.trstNLow, True, s, 1), (.debugClose h, s.Serves h .maker x, s.served x, 2),
        (.debugWindowExpiry, s.ob Obj.debugState = 1 ∧ ∃ u, s.secure.unlockUntil = some u ∧ u ≤ s.now, s, 3)], c.2.1 →
      ∃ t, exec c.1 s = .next t ∧ t.ob Obj.debugState = 0 ∧ t.ob Obj.debugLevel = 0 ∧ t.secure.unlockUntil = none ∧
        t.Raised s.now 1100 c.2.2.2 ∧ t = { c.2.2.1 with secure := t.secure, obj := t.obj, fab := t.fab } ∧
        s.ObjectsBut t [Obj.debugState, Obj.debugLevel]) ∧
  (∀ (level : Fin 3) (s : State), s.flyRuns = true → s.awake = true → s.ob Obj.debugState < 2 → s.debugAvailable level = true →
    ∃ t, exec (.debuggerConnect level) s = .next t ∧ t.ob Obj.debugState = 2 ∧ t.ob Obj.debugLevel = level ∧
      t.Raised s.now 1099 level ∧ t.secure.unlockUntil = none ∧ t = { s with secure := t.secure, obj := t.obj, fab := t.fab } ∧
      s.ObjectsBut t [Obj.debugState, Obj.debugLevel]) ∧
  (∀ s : State,
    (s.applied = true → s.ob Obj.debugState = 2 → s.ob Obj.debugLevel = 2 → s.awake = true → s.ob Obj.pwrTransition = 0 →
      (s.tb.lfEstablished = false → exec .debugHalt s = .next { s with secure := { s.secure with haltWait := true } }) ∧
      (s.tb.lfEstablished = true →
        ∃ t, exec .debugHalt s = .next t ∧ t.secure.haltedAt = some s.now ∧ t.ob Obj.debugState = 3 ∧ t.ob Obj.engineState = 2 ∧
          t.hoist.safe = true ∧ t.hoist.parked = true ∧ t.tb.lfMode = true ∧ t.tb.pllLocked = false ∧ t.Raised s.now 1101 0 ∧
          t.cfg = s.cfg ∧ t.sessions = s.sessions)) ∧
    (∀ u, s.secure.haltedAt = some u →
      ∃ t, exec .debugResume s = .next t ∧ t.secure.haltedAt = none ∧ t.ob Obj.debugState = 2 ∧ t.ob Obj.engineState = 1 ∧
        (s.boot.sweeps = true → t.hb.enters = true) ∧ (s.boot.sweeps = false → t.ob Obj.hbState = hbWaiting) ∧ t.tb.pllLocked = true ∧ t.Raised s.now 1102 (saturate ((s.now - u) / ms 1) 0xFFFFFFFF) ∧
        t.cfg = s.cfg ∧ t.sessions = s.sessions) ∧
    (s.lifecycleOf = 0 ∨ s.lifecycleOf = 3 → s.awake = true → s.ob Obj.debugState = 2 → s.ob Obj.debugLevel = 2 →
      exec (.extest true) s = .next { s with secure := { s.secure with extest := true } }) ∧
    (s.secure.extest = true →
      ∃ t, exec (.extest false) s = .next t ∧ t.boot.stage = .flyReset ∧ t.boot.nextCause = 9 ∧ t.hoist.safe = true ∧
        t.sessions = [] ∧ t.cfg = s.cfg))

/-- R398–R411. A token at BKEY is told of, votes for REFLEX and waits for its exchange; at a locked port it is refused with
result 9. After BKEY_SETTLE the exchange runs; its answer gives the result that follows from ID, delay and response: a success
clears the failures and opens the releases of the entry, any other posts EV1153. A line held low and an LF coil fault end in
port state 4 with EV1160. A lock-out ends with EV1155, and BG_CLEAR_LOCK ends one with its failures. A release opens and closes
as commanded, by its window, and by an implement's decision; an implement is challenged when due or on command. No claim slot
changes. Completes: bkeyPresence, bkeySettleExpiry, bkeyExchange, lfExchange, bkeyRemoved, bkeyHeldLow, lfPoll,
burgeeLockoutEnd, bgClearLock, relOpen, relClose, releaseWindowExpiry, implementChallenge, implRun, implementDecision. -/
def Obligations.BurgeeAccessDoesAsStated : Prop :=
  (∀ s : State, s.cf Obj.bkeyEnable ≠ 0 → (s.bgPort 0).present = false → s.boot.stage = .applied → s.lowered = false →
    ∃ t, exec .bkeyPresence s = .next t ∧ (t.bgPort 0).present = true ∧ t.Raised s.now 1158 0 ∧
      t = { s with bg := t.bg, fab := t.fab, pw := t.pw, obj := t.obj } ∧
      (s.lockedOut 0 = false → (t.bgPort 0).presentAt = some s.now ∧ bitAt (t.pw.votes.read 0 1) 7 = true) ∧
      (s.lockedOut 0 = true → t.ob (Obj.bgLastResult 0) = 9 ∧ t.Raised s.now 1153 (2 ^ 16 * 9 + 0xFF))) ∧
  (∀ (u : Tick) (s : State), (s.bgPort 0).presentAt = some u → s.exchangesRun = true → s.passed u (ms (s.cf Obj.bkeySettle)) = true →
    s.ob (Obj.bgPortState 0) ≠ 2 →
    ∃ t, exec .bkeySettleExpiry s = .next t ∧ t.ob (Obj.bgExchanges 0) = (s.ob (Obj.bgExchanges 0) + 1) % 2 ^ 32 ∧
      t.ob (Obj.bgPortState 0) = 2 ∧ s.Only t [Obj.bgExchanges 0, Obj.bgPortState 0, Obj.bgFailsInWindow 0]) ∧
  (∀ (x : BurgeeAnswer) (s : State), s.exchangesRun = true →
    ∀ c ∈ [(Instr.bkeyExchange x, 0), (.lfExchange x, 1)], s.ob (Obj.bgPortState c.2) = 2 → (s.bgPort c.2).presentAt ≠ none →
      let r : Nat × Nat := if s.ob Obj.trngState = 1 then s.tokenResult c.2 x ((Config.drbg s.secure.draws).toNat % 2 ^ 128) else (8, 0xFF)
      ∃ t, exec c.1 s = .next t ∧ t.ob (Obj.bgLastResult c.2) = r.1 ∧ t.ob (Obj.bgLastEntry c.2) = r.2 ∧
        (t.bgPort c.2).presentAt = none ∧ t.own.kept = s.own.kept ∧ t.cfg = s.cfg ∧ t.sessions = s.sessions ∧
        (r.1 = 1 → (t.bgPort c.2).fails = [] ∧ t.Raised s.now 1152 (2 ^ 24 * c.2 + 2 ^ 16 * s.cf (Obj.tokKind r.2) + r.2) ∧
          ∀ k < 16, bitAt (s.cf (Obj.tokReleases r.2)) k = true → s.cf (Obj.relEnable k) ≠ 0 →
            t.ob (Obj.relState k) = 1 ∧ t.ob (Obj.relOpenedBy k) = 256 * c.2 + r.2) ∧
        (r.1 ≠ 1 → t.Raised s.now 1153 (2 ^ 24 * c.2 + 2 ^ 16 * r.1 + r.2) ∧ ∀ k < 16, t.ob (Obj.relState k) = s.ob (Obj.relState k))) ∧
  (∀ s : State,
    ((s.bgPort 0).present = true ∨ s.ob (Obj.bgPortState 0) = 4 →
      ∃ t, exec .bkeyRemoved s = .next t ∧ (t.bgPort 0).present = false ∧ (t.bgPort 0).presentAt = none ∧
        t.ob (Obj.bgPortState 0) = (if s.lockedOut 0 then 3 else 1) ∧ t = { s with bg := t.bg, obj := t.obj, pw := t.pw }) ∧
    (s.ob (Obj.bgPortState 0) = 2 →
      ∃ t, exec .bkeyHeldLow s = .next t ∧ (t.bgPort 0).presentAt = none ∧ t.ob (Obj.bgPortState 0) = 4 ∧ t.Raised s.now 1160 1 ∧
        t.pw.timers.get? 7 = some (s.now + sec 1) ∧ t = { s with bg := t.bg, obj := t.obj, pw := t.pw, fab := t.fab })) ∧
  (∀ s : State, s.applied = true → s.cf Obj.lfEnable = 1 → s.awake = true → s.lowered = false →
    s.passed (s.bgPort 1).lastPoll (ms (s.cf Obj.lfPollPeriod)) = true → s.ob (Obj.bgPortState 1) ≠ 2 →
    (∀ load : Fin 4, 2 ≤ load.val →
      ∃ t, exec (.lfPoll load) s = .next t ∧ t.ob (Obj.bgPortState 1) = 4 ∧ t.Raised s.now 1160 load ∧
        (t.bgPort 1).lastPoll = s.now ∧ t = { s with bg := t.bg, obj := t.obj, fab := t.fab }) ∧
    (∃ t, exec (.lfPoll 0) s = .next t ∧ (t.bgPort 1).emptyPolls = min 2 ((s.bgPort 1).emptyPolls + 1) ∧
      ((s.bgPort 1).emptyPolls ≠ 0 → (t.bgPort 1).present = false) ∧ t = { s with bg := t.bg, obj := t.obj }) ∧
    ((s.bgPort 1).present = false → s.lockedOut 1 = false →
      ∃ t, exec (.lfPoll 1) s = .next t ∧ (t.bgPort 1).present = true ∧ (t.bgPort 1).presentAt = some s.now ∧
        t.ob (Obj.bgPortState 1) = 2 ∧ t.Raised s.now 1159 0 ∧ t = { s with bg := t.bg, obj := t.obj, fab := t.fab, pw := t.pw })) ∧
  (∀ (p : Fin 10) (u : Nat) (s : State), (s.bgPort p).lockUntil = some u → u ≤ s.poweredTime →
    ∃ t, exec (.burgeeLockoutEnd p) s = .next t ∧ t.lockedOut p = false ∧ (t.bgPort p).fails = (s.bgPort p).fails ∧
      t.Raised s.now 1155 (State.portCode p) ∧ t = { s with bg := t.bg, obj := t.obj, fab := t.fab }) ∧
  (∀ (h : Nat) (v : BitVec 8) (s : State) (x : Session), s.Serves h .maker x →
    (v.toNat < 2 ∨ (0x20 ≤ v.toNat ∧ v.toNat < 0x28) →
      let p := if v.toNat < 2 then v.toNat else v.toNat - 0x20 + 2
      ∃ t, exec (.bgClearLock h v) s = .next t ∧ t.lockedOut p = false ∧ (t.bgPort p).fails = [] ∧ t.Raised s.now 1155 v.toNat ∧
        t = { s.served x with bg := t.bg, obj := t.obj, fab := t.fab }) ∧
    (2 ≤ v.toNat ∧ v.toNat < 0x20 ∨ 0x28 ≤ v.toNat →
      exec (.bgClearLock h v) s = .next { s.asked x with reply := { status := .valueRange } })) ∧
  (∀ (h : Nat) (r : Fin 16) (s : State) (x : Session),
    (s.Serves h .maker x →
      (s.cf (Obj.relEnable r) = 1 →
        ∃ t, exec (.relOpen h r) s = .next t ∧ t.ob (Obj.relState r) = 1 ∧ t.ob (Obj.relOpenedBy r) = 0xFFFF ∧
          (t.rel r).windowEnd = (if s.cf (Obj.relValidity r) = 0 then none else some (s.now + sec (s.cf (Obj.relValidity r)))) ∧
          t.Raised s.now 1156 (2 ^ 16 * r + 0xFFFF) ∧ t.own.kept = s.own.kept ∧ t.cfg = s.cfg ∧
          ∀ k, k ≠ r.val → t.ob (Obj.relState k) = s.ob (Obj.relState k)) ∧
      (s.cf (Obj.relEnable r) ≠ 1 → exec (.relOpen h r) s = .next { s.asked x with reply := { status := .valueRange } })) ∧
    (s.ob (Obj.relState r) = 0 → s.Serves h .host x → exec (.relClose h r) s = .next (s.served x)) ∧
    (∀ c ∈ [(Instr.relClose h r, s.Serves h .host x, 2), (.releaseWindowExpiry r, ∃ u, (s.rel r).windowEnd = some u ∧ u ≤ s.now, 1)],
      c.2.1 → s.ob (Obj.relState r) ≠ 0 →
      ∃ t, exec c.1 s = .next t ∧ t.ob (Obj.relState r) = 0 ∧ (t.rel r).windowEnd = none ∧ t.Raised s.now 1157 (256 * r + c.2.2) ∧
        t.own.kept = s.own.kept ∧ t.cfg = s.cfg ∧ ∀ k, k ≠ r.val → t.ob (Obj.relState k) = s.ob (Obj.relState k))) ∧
  (∀ (h : Nat) (i : Fin 8) (s : State) (x : Session), s.lockedOut (2 + i) = false → s.cf (Obj.implEnable i) = 1 →
    s.canActive (s.implChan i) = true → s.ob Obj.trngState = 1 → (s.impl i).waiting = false →
    ∀ c ∈ [(Instr.implementChallenge i, s.challengeDue i = true, s), (.implRun h (BitVec.ofNat 8 i), s.Serves h .host x, s.served x)], c.2.1 →
      ∃ t, exec c.1 s = .next t ∧ (t.impl i).waiting = true ∧ (t.impl i).sentAt = none ∧ (t.impl i).last = s.now ∧
        (t.impl i).challenge = (Config.drbg s.secure.draws).toNat % 2 ^ 128 ∧
        (t.moOf (s.cf (Obj.implTxMo i))).data = 0xC1 + 2 ^ 64 * (t.impl i).challenge ∧
        (t.bgPort (2 + i)).fails = (s.bgPort (2 + i)).fails ++ [s.poweredTime] ∧ t.secure.draws = s.secure.draws + 1 ∧
        t = { c.2.2 with secure := t.secure, bg := t.bg, mo := t.mo, can := t.can, fab := t.fab }) ∧
  (∀ (i : Fin 8) (u : Tick) (s : State), (s.impl i).sentAt = some u → s.passed u (ms 4) = true →
    ∃ t, exec (.implementDecision i) s = .next t ∧ (t.impl i).sentAt = none ∧ t.own.kept = s.own.kept ∧ t.cfg = s.cfg ∧
      (s.implResult i u = 1 → t.ob (Obj.implState i) = 1 ∧ t.Raised s.now 1161 i ∧
        ∀ k < 16, bitAt (s.cf (Obj.implReleases i)) k = true → s.cf (Obj.relEnable k) ≠ 0 → t.ob (Obj.relState k) = 1) ∧
      (s.implResult i u ≠ 1 → t.Raised s.now 1162 (2 ^ 16 * i + s.implResult i u) ∧
        ∀ k < 16, bitAt (s.cf (Obj.implReleases i)) k = true → t.ob (Obj.relState k) = 0))

/-- R418, R419, R421–R430, R433, R434. A page that is full or whose time has come is sealed as the next of the chain with its
records. A write that ends is noted; a Flush that ends makes its pages durable; a failed one is tried again, and the fourth
failure is a store fault with EV1169, from which the link is retrained. The start of the link finds no store, a blank one, the
unit's own or another's. A record that finds the buffer full is dropped and counted. The warning of the store is shown and told
of. LEDGER_FLUSH flushes what has been written, LEDGER_ATTEST signs the head, LEDGER_FORMAT formats a store that is there
(without one the model does nothing, assumption 61). Completes: pageSeal, pageWriteDone, flushTimeExpiry, linkRetrain,
ledgerLinkStart, recordsLost, smartRead, ledgerFlush, ledgerAttest, ledgerFormat. -/
def Obligations.LedgerDoesAsStated : Prop :=
  (∀ s : State, s.ledgerOn = true → s.ob Obj.ledgerState ≠ 2 → s.ledger.openPage ≠ [] → s.ledger.nextPage % 65536 ≠ 0 → s.ledger.gap = none →
    62 ≤ s.ledger.openPage.length ∨ s.passed s.ledger.openFirst (ms (s.cf Obj.ledgerSealTime)) = true →
    ∃ t p, exec .pageSeal s = .next t ∧ t.ledger.pages = s.ledger.pages ++ [p] ∧ p.number = s.ledger.nextPage ∧
      p.records = s.ledger.openPage.take 62 ∧ p.prevHash = s.ledger.chain ∧ t.ledger.chain = p.hash ∧
      t.ledger.nextPage = s.ledger.nextPage + 1 ∧ t.ob Obj.ledgerHeadPage = p.number ∧ t.own = s.own ∧ t.cfg = s.cfg) ∧
  (∀ (status : BitVec 16) (s : State), s.ob Obj.ledgerState = 3 →
    (∀ p, s.unwritten = some p →
      ∃ t, exec (.pageWriteDone false 0) s = .next t ∧ (∃ q ∈ t.ledger.pages, q.number = p.number ∧ q.written = some s.now) ∧
        t.ledger.pages.map (fun q => q.number) = s.ledger.pages.map (fun q => q.number) ∧ t.own = s.own ∧ t.cfg = s.cfg) ∧
    (∀ (n : Nat) (p : LedgerPage), s.ledger.flushing = some n → (s.ledger.pages.take n).getLast? = some p →
      ∃ t, exec (.pageWriteDone true 0) s = .next t ∧ t.ledger.pages = s.ledger.pages.drop n ∧ t.ledger.flushing = none ∧
        t.ob Obj.ledgerDurablePage = p.number ∧ t.own = s.own ∧ t.cfg = s.cfg) ∧
    (status ≠ 0 → ∀ flush : Bool, (flush = true → s.ledger.flushing ≠ none) → (flush = false → s.unwritten ≠ none) →
      (s.ledger.tries < 3 → exec (.pageWriteDone flush status) s = .next { s with ledger := { s.ledger with tries := s.ledger.tries + 1 } }) ∧
      (3 ≤ s.ledger.tries → ∃ t, exec (.pageWriteDone flush status) s = .next t ∧ t.ob Obj.ledgerState = 5 ∧
        t.Raised s.now 1169 status.toNat ∧ t.ledger = { s.ledger with tries := 0, flushing := none, faultAt := s.now } ∧
        t = { s with ledger := t.ledger, obj := t.obj, fab := t.fab } ∧ s.ObjectsBut t [Obj.ledgerState])) ∧
    (∀ p rest u, s.ledger.pages = p :: rest → p.written = some u → s.passed u (ms (s.cf Obj.ledgerFlushTime)) = true →
      s.ledger.flushing = none →
      exec .flushTimeExpiry s = .next { s with ledger := { s.ledger with flushing := some s.written } })) ∧
  (∀ s : State, s.ob Obj.ledgerState = 5 → s.passed s.ledger.faultAt (sec 10) = true →
    exec (.linkRetrain false) s = .next { s with ledger := { s.ledger with faultAt := s.now } } ∧
    exec (.linkRetrain true) s = .next (({ s with ledger := { s.ledger with faultAt := s.now } } : State).setOb Obj.ledgerState 2)) ∧
  (∀ (pages head : BitVec 64) (s : State), s.ledgerOn = true → s.domainIsOn 17 = true → s.ob Obj.ledgerState ≠ 5 →
    exec (.ledgerLinkStart .none) s = .next (s.setOb Obj.ledgerState 1) ∧
    (∃ t, exec (.ledgerLinkStart (.blank pages)) s = .next t ∧ t.ob Obj.ledgerFormatPage = State.nextSegment s.ledger.nextPage ∧
      t.ob Obj.ledgerCapacityPages = pages.toNat / 65536 * 65536 ∧ t.ledger.store = [] ∧
      t.Raised s.now 1178 (State.nextSegment s.ledger.nextPage / 65536) ∧ t.own = s.own ∧ t.cfg = s.cfg) ∧
    (head.toNat = s.ledger.head.1 → head.toNat < s.ledger.nextPage → s.ledger.strike = [] → s.unwritten = none →
      ∃ t, exec (.ledgerLinkStart (.own pages head)) s = .next t ∧ t.ob Obj.ledgerState = 3 ∧
        t.ob Obj.ledgerCapacityPages = pages.toNat / 65536 * 65536 ∧ t.ledger = s.ledger ∧ t.own = s.own ∧ t.cfg = s.cfg) ∧
    (∃ t, exec (.ledgerLinkStart (.foreign pages)) s = .next t ∧ t.ob Obj.ledgerState = 6 ∧ t.Raised s.now 1177 0 ∧
      t = { s with obj := t.obj, fab := t.fab } ∧ s.ObjectsBut t [Obj.ledgerState, Obj.ledgerCapacityPages])) ∧
  (∀ s : State,
    (s.ledgerSpace < 4096 → exec .recordsLost s = .next s) ∧
    (s.ledgerOn = true → 4096 ≤ s.ledgerSpace →
      ∃ t, exec .recordsLost s = .next t ∧ t.ob Obj.ledgerRecordsLost = (s.ob Obj.ledgerRecordsLost + 1) % 2 ^ 32 ∧
        t.ledger.lost = s.ledger.lost + 1 ∧ (s.ledger.lastEv1170 = none → t.Raised s.now 1170 (s.ledger.lostSince + 1)) ∧
        t.ledger.openPage = s.ledger.openPage ∧ t.ledger.pages = s.ledger.pages ∧
        t = { s with ledger := t.ledger, obj := t.obj, fab := t.fab } ∧ s.ObjectsBut t [Obj.ledgerRecordsLost])) ∧
  (∀ (w : BitVec 8) (s : State), s.storeThere = true → s.passed s.ledger.lastSmart (sec (s.cf Obj.ledgerSmartPeriod)) = true →
    ∃ t, exec (.smartRead w) s = .next t ∧ t.ob Obj.ledgerSsdWarning = w.toNat ∧ t.ledger = { s.ledger with lastSmart := s.now } ∧
      (w.toNat ≠ s.ob Obj.ledgerSsdWarning → w ≠ 0 → t.Raised s.now 1176 w.toNat) ∧
      t = { s with ledger := t.ledger, obj := t.obj, fab := t.fab } ∧ s.ObjectsBut t [Obj.ledgerSsdWarning]) ∧
  (∀ (h : Nat) (s : State) (x : Session),
    (s.Serves h .host x → s.ledger.openPage = [] →
      (s.ledger.flushing = none → s.written ≠ 0 →
        exec (.ledgerFlush h) s = .next { s.served x with ledger := { s.ledger with flushing := some s.written } }) ∧
      (s.ledger.flushing ≠ none ∨ s.written = 0 → exec (.ledgerFlush h) s = .next (s.served x)) ∧
      let st := toBytes 16 Part.serial ++ toBytes 4 (s.ob Obj.ledgerEpoch) ++ toBytes 4 0 ++ toBytes 8 (s.ledger.nextPage - 1) ++
        toBytes 32 s.ledger.chain
      ∃ t, exec (.ledgerAttest h) s = .next t ∧ t = { s.served x with sessions := t.sessions } ∧
        t.sob h Obj.ledgerAttestOut = ofBytes (st ++ toBytes 64 (Config.ecdsaSign (s.slotKey 0) (Config.sha256 st)).toNat)) ∧
    (s.Serves h .maker x →
      (s.storeThere = false → exec (.ledgerFormat h) s = .next (s.served x)) ∧
      (s.storeThere = true → ∃ t, exec (.ledgerFormat h) s = .next t ∧ t.ob Obj.ledgerFormatPage = State.nextSegment s.ledger.nextPage ∧
        t.ledger.store = [] ∧ t.Raised s.now 1178 (State.nextSegment s.ledger.nextPage / 65536) ∧ t.own = s.own ∧ t.cfg = s.cfg)))

/-- R437–R439, R446, R452. A write of STAGE out of alignment or out of range, or to an area in use, fails and leaves the area as
it was; any other puts its bytes into the record, and the area is in state 1 until every expected block is valid. A record
written whole is valid where its CRC matches; else it is discarded and counted, with EV1200. A valid block 0 gives kind, size
and versions, or is rejected with cause 1. UPD_VERIFY answers the first cause that stands, or verifies; UPD_DISCARD empties;
UPD_CONFIRM raises the minimum versions and erases the keep area. Holder 6 votes CORES until 10 s later. That only block 0 can
be written before block 0 is valid is assumption 79. Completes: stageWrite, updVerify, updDiscard, updConfirm. -/
def Obligations.StagingDoesAsStated : Prop :=
  (∀ (h : Nat) (a : Fin 3) (offset : BitVec 32) (data : List Byte) (s : State) (x : Session), s.Serves h .service x → data.length ≤ 1024 →
    let ix := 0x1F20 + a.val
    let off := offset.toNat
    let b := off / 4100
    let o := off % 4100
    let e := s.ob (Obj.areaBlocksExpected a)
    let r := (s.area a).blocks.read {} b
    let bytes := State.spliceBytes r.bytes o (data.map (fun y => y.toNat))
    let mask := r.written ||| ((2 ^ data.length - 1) * 2 ^ o)
    let aligned := off % 4 = 0 ∧ o + data.length ≤ 4100
    let fits := (b = 0 ∨ b < e) ∧ b < State.areaBlocks a
    (∀ c ∈ [(¬ aligned, Status.valueRange, true), (aligned ∧ s.ob (Obj.areaState a) = 5, .inUse, false),
        (aligned ∧ s.ob (Obj.areaState a) ≠ 5 ∧ ¬ fits, .valueRange, false),
        (aligned ∧ s.ob (Obj.areaState a) ≠ 5 ∧ fits ∧ s.heldByOther ix h = true, .inUse, false)], c.1 →
      ∃ t, exec (.stageWrite h a offset data) s = .next t ∧ t.reply = { status := c.2.1 } ∧
        t.bit (State.domStatus ix) 1 = c.2.2 ∧ t = { s.asked x with obj := t.obj, reply := t.reply } ∧
        s.ObjectsBut t [State.domStatus ix]) ∧
    (aligned → s.ob (Obj.areaState a) ≠ 5 → fits → s.heldByOther ix h = false →
      ∃ t, exec (.stageWrite h a offset data) s = .next t ∧ t = { s.served x with
          upd := t.upd, obj := t.obj, holds := t.holds, pw := t.pw, fab := t.fab } ∧
        t.holds.get? ix = some { holder := h, lastWrite := s.now } ∧ t.pw.timers.get? 6 = some (s.now + sec 10) ∧
        bitAt (t.pw.votes.read 0 0) 6 = true ∧ (∀ c, c ≠ b → (t.area a).blocks.read {} c = (s.area a).blocks.read {} c) ∧
        (∀ c : Fin 3, c ≠ a → t.area c = s.area c) ∧
        (mask ≠ 2 ^ 4100 - 1 → t.ob (Obj.areaState a) = 1 ∧
          (t.area a).blocks.read {} b = { r with bytes := bytes, written := mask }) ∧
        (mask = 2 ^ 4100 - 1 → crc32c (toBytes 4096 bytes) ≠ bitsOf bytes (8 * 4096) 32 →
          (t.area a).blocks.read {} b = {} ∧ t.ob (Obj.areaBlocksBad a) = (s.ob (Obj.areaBlocksBad a) + 1) % 2 ^ 32 ∧
          t.Raised s.now 1200 (a * 2 ^ 24 + b) ∧ t.ob (Obj.areaBlocksValid a) = t.validBlocks a) ∧
        (mask = 2 ^ 4100 - 1 → crc32c (toBytes 4096 bytes) = bitsOf bytes (8 * 4096) 32 →
          t.ob (Obj.areaBlocksValid a) = t.validBlocks a ∧
          (b ≠ 0 → (t.area a).blocks.read {} b = { bytes := bytes, written := 0, valid := true } ∧
            (e ≠ 0 ∧ t.validBlocks a = e → t.ob (Obj.areaState a) = 2 ∧ t.Raised s.now 1201 a) ∧
            (e = 0 ∨ t.validBlocks a ≠ e → t.ob (Obj.areaState a) = 1)) ∧
          (b = 0 →
            let right := bitsOf bytes 0 32 = 0x4D495753 ∧ bitsOf bytes 40 8 = 0xB1 ∧
              bitsOf bytes 32 8 ∈ State.areaKinds a
            (right → t.ob (Obj.areaKind a) = bitsOf bytes 32 8 ∧
              t.ob (Obj.areaBlocksExpected a) = bitsOf bytes 96 32 % 2 ^ 16 ∧
              t.ob (Obj.areaImgVersion a) = bitsOf bytes 64 32 ∧ t.ob (Obj.areaImgSec a) = bitsOf bytes 48 16 ∧
              (t.area a).blocks.read {} 0 = { bytes := bytes, written := 0, valid := true }) ∧
            (¬ right → t.ob (Obj.areaState a) = 4 ∧ t.ob (Obj.areaRejectCause a) = 1 ∧ (t.area a).blocks.read {} 0 = {} ∧
              t.Raised s.now 1203 (a * 256 + 1)))))) ∧
  (∀ (h : Nat) (a : Fin 3) (s : State) (x : Session), s.Serves h .service x →
    let k := s.ob (Obj.areaKind a)
    let cause :=
      if s.ob (Obj.areaBlocksExpected a) = 0 ∨ s.validBlocks a < s.ob (Obj.areaBlocksExpected a) then 2
      else if State.kindBlocks k < s.header a 12 4 then 3
      else if Config.ecdsaVerify (s.slotKey 2) (s.imageDigest a) (s.ob (Obj.areaUpdSignature a)) = false then 4
      else if s.ob (Obj.areaImgSec a) < s.ob (Obj.secMin (k - 1)) then 5 else 0
    (s.ob (Obj.areaState a) = 5 → exec (.updVerify h a) s = .next { s.asked x with reply := { status := .inUse } }) ∧
    (s.ob (Obj.areaState a) ≠ 5 →
      ∃ t, exec (.updVerify h a) s = .next t ∧ t = { s.served x with upd := t.upd, obj := t.obj, pw := t.pw, fab := t.fab } ∧
        t.ob (Obj.areaState a) = (if cause = 0 then 3 else 4) ∧ t.ob (Obj.areaRejectCause a) = cause ∧
        (t.area a).blocks = (s.area a).blocks ∧ t.pw.timers.get? 6 = some (s.now + sec 10) ∧
        (cause = 0 → (t.area a).activated = false ∧ t.Raised s.now 1202 (k * 2 ^ 16 + s.ob (Obj.areaImgSec a))) ∧
        (cause ≠ 0 → t.Raised s.now 1203 (a * 256 + cause)))) ∧
  (∀ (h : Nat) (v : BitVec 8) (s : State) (x : Session), s.Serves h .service x →
    let a := v.toNat
    (3 ≤ a → exec (.updDiscard h v) s = .next { s.asked x with reply := { status := .valueRange } }) ∧
    (a < 3 → s.ob (Obj.areaState a) = 5 → exec (.updDiscard h v) s = .next { s.asked x with reply := { status := .inUse } }) ∧
    (a < 3 → s.ob (Obj.areaState a) ≠ 5 →
      ∃ t, exec (.updDiscard h v) s = .next t ∧ t = { s.served x with upd := t.upd, obj := t.obj, pw := t.pw } ∧ t.area a = {} ∧
        (∀ k ∈ [Obj.areaState a, Obj.areaKind a, Obj.areaBlocksExpected a, Obj.areaBlocksValid a, Obj.areaImgVersion a,
          Obj.areaImgSec a, Obj.areaRejectCause a], t.ob k = 0) ∧ (∀ c : Fin 3, c.val ≠ a → t.area c = s.area c))) ∧
  (∀ (h : Nat) (v : BitVec 8) (s : State) (x : Session), s.Serves h .service x →
    (v.toNat ≠ 0xA5 → exec (.updConfirm h v) s = .next { s.asked x with reply := { status := .valueRange } }) ∧
    (v.toNat = 0xA5 →
      ∃ t, exec (.updConfirm h v) s = .next t ∧ t.upd = { s.upd with keep := none, migrated := none } ∧
        t = { s.served x with upd := t.upd, obj := t.obj, fab := t.fab } ∧
        (∀ k < 4, t.ob (Obj.secMin k) = max (s.ob (Obj.secMin k)) (s.upd.running.read Part.secMin (k + 1))) ∧
        t.ob Obj.keepSchema = 0 ∧ t.ob Obj.migrateState = 0 ∧ t.ob Obj.unconfirmed = 0 ∧ t.Raised s.now 1210 (s.ob Obj.unconfirmed) ∧
        s.ObjectsBut t ([0, 1, 2, 3].map Obj.secMin ++ [Obj.keepSchema, Obj.migrateState, Obj.unconfirmed])))

/-- R440–R444, R447. UPD_ACTIVATE refuses a set with the first cause that stands, with EV1206 (lowest cause first: the model's
choice), or accepts it: the areas are in state 5. Once every commit accepted before is durable, an activation of MAST or ENSIGN
shows the versions of the image that runs now, with EV1204 and EV1205, and no claim, session or output changes. A MAST of a
later schema migrates the configuration or leaves it with EV1209, and one of the kept schema brings the kept one back. A HOIST,
and a MAST whose copy fails twice, restart the Fly die with START_CAUSE 8 behind the hoist safe state. R448–R450. An activation
of NODE, and UPD_NODE_RUN for the ports it names, start a distribution on every port that runs, with EV1211. A pass that ends
counts the nodes with the active version: all of them end it with EV1212, the last pass allowed with EV1213, and any other is
followed by the next. A node that switches keeps its values, its setup and its board group. Completes: updActivate,
mastActivation, ensignActivation, updateRestart, nodeActivation, updNodeRun, nodeDistributionPass, nodeImageSwitch. -/
def Obligations.ActivationsDoAsStated : Prop :=
  ((∀ (h : Nat) (v : BitVec 8) (s : State) (x : Session), s.Serves h .service x →
    let set := v.toNat
    let kinds := State.kindsOf set
    let epoch := if State.names set 2 then s.header 0 16 2 else s.ob Obj.compatEpoch
    let lo := if State.names set 1 then s.header 2 16 2 else s.ob Obj.epochMin
    let hi := if State.names set 1 then s.header 2 18 2 else s.ob Obj.epochMax
    let hoist := if State.names set 3 then s.header 1 8 4 else s.ob Obj.hoistVersion
    let node := if State.names set 4 then s.header 2 8 4 else s.ob Obj.nodeVersion
    let hoistMin := if State.names set 2 then s.header 0 24 4 else s.ob Obj.hoistMin
    let nodeMin := if State.names set 2 then s.header 0 28 4 else s.ob Obj.nodeMin
    let c := s.ob Obj.configSchema
    let cause :=
      if ∃ k ∈ kinds, s.ob (Obj.areaState (State.kindArea k)) ≠ 3 ∨ s.ob (Obj.areaKind (State.kindArea k)) ≠ k then 2
      else if set ∉ [1, 2, 4, 6, 8] then 3
      else if epoch < lo ∨ hi < epoch then 4
      else if hoist < hoistMin ∨ node < nodeMin then 5
      else if State.names set 2 ∧ ¬((s.header 0 22 2 ≤ c ∧ c ≤ s.header 0 20 2) ∨
        (s.header 0 20 2 < c ∧ s.upd.keep ≠ none ∧ s.ob Obj.keepSchema = s.header 0 20 2)) then 6
      else if ∃ k ∈ kinds, s.ob (Obj.areaImgSec (State.kindArea k)) < s.ob (Obj.secMin (k - 1)) then 7
      else if s.upd.accepted ≠ none ∨ s.ob Obj.updState ≠ 0 ∨ s.distributing = true then 8
      else if s.lifecycleOf = 4 then 9 else 1
    (16 ≤ set → exec (.updActivate h v) s = .next { s.asked x with reply := { status := .reservedBit } }) ∧
    (set < 16 → cause ≠ 1 → ∃ t, exec (.updActivate h v) s = .next t ∧ t.sob h Obj.updResult = cause ∧ t.Raised s.now 1206 cause ∧
      t = { s.asked x with sessions := t.sessions, fab := t.fab, reply := { status := .configInvalid } }) ∧
    (set < 16 → cause = 1 → ∃ t, exec (.updActivate h v) s = .next t ∧ t.sob h Obj.updResult = 1 ∧ t.upd.accepted = some set ∧
      (∀ k ∈ kinds, t.ob (Obj.areaState (State.kindArea k)) = 5) ∧ t.pw.timers.get? 6 = some (s.now + sec 10) ∧
      bitAt (t.pw.votes.read 0 0) 6 = true ∧ t.upd = { s.upd with accepted := some set } ∧
      t = { s.served x with sessions := t.sessions, upd := t.upd, obj := t.obj, pw := t.pw })) ∧
  (∀ (failures : Fin 3) (failing : Option (BitVec 24)) (s : State), s.upd.accepted = some 2 → s.applied = true → s.commits = [] →
    s.sweepsRun = false ∨ s.eng.segment = 0 →
    let c := s.ob Obj.configSchema
    let v := s.header 0 20 2
    let m : Regs := (Config.migrate c v s.cfg).foldl (fun r e => r.write (objDefault e.1) e.1 e.2) []
    (failures.val = 2 → ∃ t, exec (.mastActivation failures failing) s = .next t ∧ t.boot.stage = .flyReset ∧ t.boot.nextCause = 8 ∧
      t.hoist.safe = true ∧ t.upd.record = 2 ∧ t.sessions = [] ∧ t.cfg = s.cfg) ∧
    (failures.val ≠ 2 → ∃ t, exec (.mastActivation failures failing) s = .next t ∧ t.ob Obj.updState = 0 ∧ t.upd.accepted = none ∧
      t.upd.record = 0 ∧ (t.area 0).activated = true ∧ t.Raised s.now 1205 2 ∧
      (c = v → t.ob (Obj.areaState 0) = 3 ∧ t.bit Obj.unconfirmed 1 = true ∧ t.Raised s.now 1204 2 ∧
        (∀ w ∈ [(Obj.mastVersion, 8, 4), (Obj.compatEpoch, 16, 2), (Obj.schemaVersion, 20, 2), (Obj.migrateFrom, 22, 2),
          (Obj.hoistMin, 24, 4), (Obj.nodeMin, 28, 4)], t.ob w.1 = s.header 0 w.2.1 w.2.2) ∧
        t.sessions = (if s.ob Obj.schemaVersion = v then s.sessions else s.sessions.map (fun x => { x with pendingSet := [] })) ∧
        t = { s with upd := t.upd, obj := t.obj, fab := t.fab, pw := t.pw, hb := t.hb, sessions := t.sessions }) ∧
      (c < v → t.upd.keep = some s.cfg ∧ t.ob Obj.keepSchema = c ∧
        ((t.ob Obj.migrateState = 1 ∧ failing = none ∧ t.ob Obj.configSchema = v ∧ t.cfg = m ∧ t.Raised s.now 1208 (c * 2 ^ 16 + v) ∧
            t.ob Obj.commitGeneration = (s.ob Obj.commitGeneration + 1) % 2 ^ 32 ∧
            ∀ k < 3, (t.copyOf k).regs = m ∧ (t.copyOf k).intact = true) ∨
          (t.ob Obj.migrateState = 3 ∧ t.cfg = s.cfg ∧ t.ft = s.ft ∧ t.upd.migrated = some m ∧ t.ob Obj.configSchema = c ∧
            t.own = s.own ∧ t.Raised s.now 1209 (t.ob Obj.migrateFailObject) ∧
            ∀ k, failing = some k → t.ob Obj.migrateFailObject = k.toNat))) ∧
      (∀ r, v < c → s.upd.keep = some r → t.ob Obj.migrateState = 2 ∧ t.ob Obj.configSchema = v ∧ t.cfg = r ∧
        ∀ k < 3, (t.copyOf k).regs = r ∧ (t.copyOf k).intact = true))) ∧
  (∀ s : State, s.applied = true → s.commits = [] → s.sweepsRun = false ∨ s.eng.segment = 0 →
    (s.upd.accepted = some 1 → ∃ t, exec .ensignActivation s = .next t ∧ t.ob Obj.updState = 0 ∧ t.upd.accepted = none ∧
      t.upd.record = 0 ∧ t.ob (Obj.areaState 2) = 3 ∧ (t.area 2).activated = true ∧ t.bit Obj.unconfirmed 0 = true ∧
      t.ob Obj.ensignVersion = s.header 2 8 4 ∧ t.ob Obj.epochMin = s.header 2 16 2 ∧ t.ob Obj.epochMax = s.header 2 18 2 ∧
      t.Raised s.now 1204 1 ∧ t.Raised s.now 1205 1 ∧ t = { s with upd := t.upd, obj := t.obj, fab := t.fab, pw := t.pw }) ∧
    (∀ set ∈ [4, 6], s.upd.accepted = some set →
      ∃ t, exec .updateRestart s = .next t ∧ t.boot.stage = .flyReset ∧ t.boot.nextCause = 8 ∧ t.hoist.safe = true ∧
        t.upd.record = set ∧ t.upd.areas = s.upd.areas ∧ t.ob Obj.updState = 2 ∧ t.sessions = [] ∧ t.own = {} ∧ t.timers = [] ∧
        t.mo = [] ∧ t.cfg = s.cfg ∧ t.address = s.address ∧ t.bg.latches = s.bg.latches ∧
        t.ob Obj.hoistWdgTrips = s.ob Obj.hoistWdgTrips)) ∧
  (∀ s : State, s.upd.accepted = none →
    ∀ c ∈ [Instr.mastActivation 0 none, .ensignActivation, .updateRestart, .nodeActivation], exec c s = .next s)) ∧
  ((∀ (h : Nat) (ports : BitVec 8) (s : State) (x : Session),
    ∀ c ∈ [(Instr.nodeActivation, s.upd.accepted = some 8 ∧ s.applied = true ∧ s.commits = [] ∧ (s.sweepsRun = false ∨ s.eng.segment = 0),
          fun _ => true, s),
        (.updNodeRun h ports, s.Serves h .service x, fun p => bitAt ports.toNat p, s.served x)], c.2.1 →
      ∃ t, exec c.1 s = .next t ∧ t.ob Obj.updState = (if t.distributing then 3 else 0) ∧
        t = { c.2.2.2 with upd := t.upd, obj := t.obj, fab := t.fab, pw := t.pw } ∧
        (c.1 = .nodeActivation → t.upd.accepted = none ∧ t.ob Obj.nodeVersion = s.header 2 8 4 ∧ t.Raised s.now 1204 8 ∧
          t.Raised s.now 1205 8) ∧
        ∀ p < 8,
          (c.2.2.1 p = true → s.ob (Obj.bpState p) = 2 → s.distributes p = false → t.distributes p = true ∧
            t.ob (Obj.ndState p) = 1 ∧ t.ob (Obj.ndPass p) = 1 ∧ t.ob (Obj.ndUpdated p) = 0 ∧
            t.ob (Obj.ndLeft p) = s.ob (Obj.bpNodeCount p) ∧ t.Raised s.now 1211 p) ∧
          (c.2.2.1 p = false ∨ s.ob (Obj.bpState p) ≠ 2 ∨ s.distributes p = true → t.distributes p = s.distributes p ∧
            t.ob (Obj.ndState p) = s.ob (Obj.ndState p) ∧ t.ob (Obj.ndPass p) = s.ob (Obj.ndPass p))) ∧
  (∀ (p : Fin 8) (updated : BitVec 16) (s : State), s.distributes p = true → s.ob (Obj.bpState p) = 2 →
    let all := s.ob (Obj.bpNodeCount p)
    let n := min updated.toNat all
    ∃ t, exec (.nodeDistributionPass p updated) s = .next t ∧ t.ob (Obj.ndUpdated p) = n ∧ t.ob (Obj.ndLeft p) = all - n ∧
      t = { s with upd := t.upd, obj := t.obj, fab := t.fab, pw := t.pw } ∧
      (∀ q : Fin 8, q ≠ p → t.distributes q = s.distributes q) ∧
      (all - n = 0 → t.ob (Obj.ndState p) = 3 ∧ t.distributes p = false ∧ t.Raised s.now 1212 (p * 2 ^ 16 + n)) ∧
      (all - n ≠ 0 → s.cf Obj.updNodePasses ≤ s.ob (Obj.ndPass p) →
        t.ob (Obj.ndState p) = 4 ∧ t.distributes p = false ∧ t.Raised s.now 1213 (p * 2 ^ 16 + (all - n))) ∧
      (all - n ≠ 0 → s.ob (Obj.ndPass p) < s.cf Obj.updNodePasses →
        t.ob (Obj.ndState p) = 1 ∧ t.distributes p = true ∧ t.ob (Obj.ndPass p) = (s.ob (Obj.ndPass p) + 1) % 2 ^ 32 ∧
        t.fab = s.fab)) ∧
  (∀ (p : Fin 8) (i : Fin 4096) (s : State), s.distributes p = true → s.ob (Obj.bpState p) = 2 → i.val < s.ob (Obj.bpNodeCount p) →
    ∃ t, exec (.nodeImageSwitch p i) s = .next t ∧ t = { s with bp := t.bp } ∧ (∀ q : Fin 8, q ≠ p → t.bpCh q = s.bpCh q) ∧
      t.bpCh p = { s.bpCh p with nodes := (t.bpCh p).nodes } ∧
      (∀ j, j ≠ i.val → (t.bpCh p).nodes.read {} j = (s.bpCh p).nodes.read {} j) ∧
      (t.bpCh p).nodes.read {} i = { (s.bpCh p).nodes.read {} i with version := s.ob Obj.nodeVersion / 2 ^ 16 }))

/-- R456–R461 (tiles and lanes). A retired tile stays so. A spare that fails is retired; a tile of another function is retired
and its quadrant's spare serves for it, with EV1304, or its function stops. A lane that loses its tile, by a fault or by a
disagreement, has the arbiter stand in while a spare loads, or for good with EV1307; without an arbiter the engine is lost: the
hoist safe state, ENGINE_STATE 0, EV1308. A disagreement is settled with EV1302 and feeds nothing; one that stays unsettled
twice loses the engine. The spare that has loaded joins and the arbiter returns. EV1302 with 3 only at the second disagreement
is the model's reading. Completes: tileFault, laneMismatch, spareJoined. -/
def Obligations.TilesAndLanesDoAsStated : Prop :=
  (∀ (q : Fin 4) (t0 : Fin 6) (s : State),
    (s.tileOf q t0 = 3 → exec (.tileFault q t0) s = .next s) ∧
    (s.tileOf q t0 = 1 →
      ∃ t, exec (.tileFault q t0) s = .next t ∧ t.tileOf q t0 = 3 ∧ t.Raised s.now 1303 (q * 256 + t0) ∧
        (t.spareOf q = none → t.Raised s.now 1305 q) ∧ t.ob Obj.arbiter = t.freeArbiter ∧
        t = { s with obj := t.obj, ft := t.ft, fab := t.fab } ∧
        s.ObjectsBut t [Obj.tileState (6 * q + t0), Obj.arbiter, Obj.ftFlags]) ∧
    (s.tileOf q t0 = 0 → ¬((q.val = 0 ∨ q.val = 2) ∧ t0.val = 1) →
      (∀ sp, s.spareOf q = some sp →
        ∃ t, exec (.tileFault q t0) s = .next t ∧ t.tileOf q t0 = 3 ∧ t.tileOf q sp = 0x10 + t0 ∧
          t.Raised s.now 1303 (q * 256 + t0) ∧ t.Raised s.now 1304 (q * 256 + t0) ∧ t.bit Obj.ftFlags 3 = true ∧ t.ft = s.ft ∧
          t.own = s.own ∧ t.cfg = s.cfg ∧ t.sessions = s.sessions ∧
          (t0.val = 4 → ∀ i < 2, (t.canCh (2 * q + i)).joinedAt = none) ∧
          (t0.val ≠ 4 → t = { s with obj := t.obj, fab := t.fab } ∧
            s.ObjectsBut t [Obj.tileState (6 * q + t0), Obj.tileState (6 * q + sp), Obj.arbiter, Obj.ftFlags])) ∧
      (s.spareOf q = none →
        ∃ t, exec (.tileFault q t0) s = .next t ∧ t.tileOf q t0 = 3 ∧ t.Raised s.now 1303 (q * 256 + t0) ∧
          8 * q.val + t0.val ∈ t.ft.stopped ∧ t.cfg = s.cfg ∧ t.sessions = s.sessions ∧
          (t0.val = 0 → t = { s with obj := t.obj, ft := t.ft, fab := t.fab }) ∧
          (t0.val = 1 → q.val = 3 → t.ob Obj.engineState = 0 ∧ t.hoist.safe = true ∧ t.Raised s.now 1308 0) ∧
          (t0.val = 2 → ∀ i < 2, s.cf (Obj.bpEnable (2 * q + i)) ≠ 0 → t.ob (Obj.bpState (2 * q + i)) = 4)))) ∧
  (∀ (l : Fin 2) (t0 : Fin 6) (q : Fin 4) (seg : Fin 16) (won : Fin 3) (s : State), q.val = 2 * l.val → won.val = 1 - l.val →
    s.runsOn q 1 = some t0 →
    ∀ c ∈ [(Instr.tileFault q t0, True), (.laneMismatch seg won, s.sweepsRun = true ∧ s.segmentFrom s.eng.segment = seg.val)], c.2 →
      ∃ t, exec c.1 s = .next t ∧ t.tileOf q t0 = 3 ∧ t.Raised s.now 1303 (q * 256 + t0) ∧ t.cfg = s.cfg ∧
        (s.freeArbiter = 0xFF → t.ob Obj.engineState = 0 ∧ t.bit Obj.ftFlags 6 = true ∧ t.hoist.safe = true ∧
          t.hoist.parked = true ∧ t.Raised s.now 1308 0) ∧
        (s.freeArbiter ≠ 0xFF → t.tileOf s.freeArbiter 5 = 2 ∧ (l.val, s.freeArbiter) ∈ t.ft.standing ∧
          t.ob Obj.arbiter = t.freeArbiter ∧ ((∀ y ∈ s.ft.loading, y.1 ≠ l.val) →
            (∀ sp, s.spareOf q = some sp → (l.val, 8 * q.val + sp) ∈ t.ft.loading) ∧
            (s.spareOf q = none → t.Raised s.now 1307 l ∧ t.bit Obj.ftFlags 5 = true))) ∧
        (c.1 = .laneMismatch seg won → t.Raised s.now 1302 (seg * 2 ^ 16 + won + 1) ∧ t.eng.segment = (if s.moreSegments seg then seg.val + 1 else 0) ∧
          t.ob Obj.mismatchCount = (s.ob Obj.mismatchCount + 1) % 2 ^ 32 ∧ t.hoist.lastFeed = s.hoist.lastFeed) ∧
        (c.1 = .tileFault q t0 → s.freeArbiter ≠ 0xFF → t = { s with obj := t.obj, ft := t.ft, fab := t.fab })) ∧
  (∀ (seg : Fin 16) (s : State),
    (s.sweepsRun = true → s.segmentFrom s.eng.segment = seg.val → s.ft.unresolved ≠ some (16 * s.ob Obj.sweepCount + seg.val) →
      ∃ t, exec (.laneMismatch seg 2) s = .next t ∧ t.ft = { s.ft with unresolved := some (16 * s.ob Obj.sweepCount + seg.val) } ∧
        t.ob Obj.mismatchCount = (s.ob Obj.mismatchCount + 1) % 2 ^ 32 ∧ t = { s with obj := t.obj, ft := t.ft } ∧
        s.ObjectsBut t [Obj.mismatchCount]) ∧
    (s.sweepsRun = true → s.segmentFrom s.eng.segment = seg.val → s.ft.unresolved = some (16 * s.ob Obj.sweepCount + seg.val) →
      ∃ t, exec (.laneMismatch seg 2) s = .next t ∧ t.ob Obj.engineState = 0 ∧ t.bit Obj.ftFlags 6 = true ∧ t.hoist.safe = true ∧
        t.hoist.parked = true ∧ t.Raised s.now 1302 (seg * 2 ^ 16 + 3) ∧ t.Raised s.now 1308 0 ∧ t.sweepsRun = false ∧ t.cfg = s.cfg ∧
        t.sessions = s.sessions) ∧
    (s.sweepsRun = false → ∀ won, exec (.laneMismatch seg won) s = .next s)) ∧
  (∀ (l : Fin 2) (q : Fin 4) (a : Nat) (s : State), q.val = 2 * l.val → a = 1 ∨ a = 3 →
    s.ft.loading.find? (fun x => x.2 / 8 == q.val) = some (l.val, 8 * q.val + 5) →
    s.ft.standing.find? (fun x => x.1 == l.val) = some (l.val, a) →
    ∃ t, exec (.spareJoined q) s = .next t ∧ t.tileOf q 5 = 0x11 ∧ t.tileOf a 5 = 1 ∧ t.ob Obj.arbiter = t.freeArbiter ∧
      (∀ y ∈ t.ft.standing, y.1 ≠ l.val) ∧ (∀ y ∈ t.ft.loading, y.1 ≠ l.val) ∧ t.Raised s.now 1304 (q * 256 + 1) ∧
      (t.spareOf q = none → t.Raised s.now 1305 q) ∧ t = { s with obj := t.obj, ft := t.ft, fab := t.fab } ∧
      s.ObjectsBut t [Obj.tileState (6 * q + 5), Obj.tileState (6 * a + 5), Obj.arbiter, Obj.ftFlags])

/-- R461, R462, R464. The first SRAM cluster that fails is remapped onto the spare, with EV1312, and its region is filled again
from its source with EV1313; a second one stops its function, and rules lose the engine. The first MRAM cluster is rebuilt with
EV1314 and EV1315, the second is told of only. A regulator phase that fails is out of service, with EV1317. That every message
object is lost with its region, and which clusters a quadrant has, are the model's choices (assumptions 80, 97). R458,
R465–R471. A stage that passes its test is noted; one that fails is off until the next Hoist power-on reset, with EV1319, and
its claims stay. An arbiter that disagrees with the lanes is retired with EV1324, and a spare that fails LBIST with EV1303. A
sequencer fault, found as such or by the microcode check, restarts the Fly die with cause 8 behind the hoist safe state, with
EV1325. Scrub counts its corrections, tells of them at most once per minute, and mends a damaged copy from two that agree, or
splits. SPLIT_ACK empties the list, TILE_RETEST waits for the next Fly start, and the skew check tells of differences above and
within their limits. Completes: sramClusterFault, mramClusterFault, regulatorPhaseFault, stageSelfTest, standbyLaneCheck,
spareLbist, sequencerFault, microcodeCheck, scrub, splitAck, tileRetest, skewCheck. -/
def Obligations.FaultsAndOnlineTestsDoAsStated : Prop :=
  ((∀ (k : Fin 16) (r : Fin 6) (s : State),
    (s.ob Obj.sramSpare = 0xFF →
      ∃ t, exec (.sramClusterFault k r) s = .next t ∧ t.ob Obj.sramSpare = k ∧ t.Raised s.now 1312 k ∧ t.own = s.own ∧
        t = { s with obj := t.obj, fab := t.fab, mo := t.mo, can := t.can, ledger := t.ledger, light := t.light, maps := t.maps
                     sessions := t.sessions } ∧
        (k.val = 15 ∨ r.val = 0 ∨ r.val = 2 → t = { s with obj := t.obj, fab := t.fab } ∧ s.ObjectsBut t [Obj.sramSpare]) ∧
        (k.val ≠ 15 →
          (r.val ≠ 1 → t.Raised s.now 1313 r) ∧
          (r.val = 1 → t.mo = [] ∧ ∀ o ∈ s.mo, t.Raised s.now 1313 o.1) ∧
          (r.val = 3 → t.ledger.openPage = [] ∧ t.ledger.pages = [] ∧
            t.ob Obj.ledgerRecordsLost = (s.ob Obj.ledgerRecordsLost + s.ledger.openPage.length) % 2 ^ 32) ∧
          (r.val = 4 → (∀ e ∈ t.light.engines, e.2.origin = s.now) ∧ ∀ e ∈ t.maps, e.2.last = s.now ∧ e.2.waiting = none) ∧
          (r.val = 5 → t.sessions = s.sessions.map (fun x => { x with pendingSet := [] })))) ∧
    (s.ob Obj.sramSpare ≠ 0xFF →
      ∃ t, exec (.sramClusterFault k r) s = .next t ∧ t.ft.regionsLost = s.ft.regionsLost ++ [r.val] ∧ t.Raised s.now 1312 k ∧
        t.cfg = s.cfg ∧
        (r.val = 0 → ∀ p < 8, s.cf (Obj.bpEnable p) ≠ 0 → t.ob (Obj.bpState p) = 4) ∧ (r.val = 1 → t.mo = []) ∧
        (r.val = 2 → t.ob Obj.engineState = 0 ∧ t.bit Obj.ftFlags 6 = true ∧ t.hoist.safe = true ∧ t.hoist.parked = true ∧
          t.Raised s.now 1308 0) ∧
        (r.val = 3 → t.ledger.openPage = [] ∧ t.ledger.pages = []) ∧ (r.val = 5 → t.takesRequests = false))) ∧
  (∀ (k : Fin 32) (r : Fin 6) (s : State),
    (s.ob Obj.mramSpare ≠ 0xFF →
      ∃ t, exec (.mramClusterFault k r) s = .next t ∧ t.Raised s.now 1314 k ∧ t = { s with fab := t.fab }) ∧
    (s.ob Obj.mramSpare = 0xFF →
      ∃ t, exec (.mramClusterFault k r) s = .next t ∧ t.ob Obj.mramSpare = k ∧ t.Raised s.now 1314 k ∧
        t = { s with obj := t.obj, fab := t.fab, flog := t.flog, upd := t.upd } ∧
        (r.val = 0 ∨ r.val = 1 ∨ r.val = 2 ∨ r.val = 4 ∨ r.val = 5 → t.Raised s.now 1315 r) ∧
        (r.val = 0 → ∀ c < 3, k.val / 8 = c → t.ob (Obj.cfgState c) = 1 ∧ t.Raised s.now 1320 c) ∧
        (r.val = 2 → t.flog = s.flog.filter (fun e => Config.mramCluster ((0xC40000 + 64 * e.1) / 4096) ≠ k) ∧
          t.ob Obj.flogOverwritten = (s.ob Obj.flogOverwritten + (s.flog.length - t.flog.length)) % 2 ^ 32) ∧
        (r.val = 3 →
          let lost := ∃ x ∈ [(0, 896, 0, 2, Obj.mastVersion), (0x380, 64, 1, 3, Obj.hoistVersion), (0x3C0, 64, 2, 4, Obj.nodeVersion)],
            (∃ b < x.2.1, Config.mramCluster (x.1 + b) = k) ∧ ¬(s.ob (Obj.areaState x.2.2.1) = 3 ∧
              s.ob (Obj.areaKind x.2.2.1) = x.2.2.2.1 ∧ s.ob (Obj.areaImgVersion x.2.2.1) = s.ob x.2.2.2.2)
          (lost → t.Raised s.now 1315 (2 ^ 31 + 3)) ∧ (¬ lost → t.Raised s.now 1315 3)) ∧
        (r.val = 4 → t.Raised s.now 1315 4 ∧ ∀ x ∈ [(0, 0x400, 896), (1, 0x780, 64), (2, 0x7C0, 64)],
          ((∃ b < x.2.2, Config.mramCluster (x.2.1 + b) = k) → t.area x.1 = {} ∧ t.ob (Obj.areaState x.1) = 0 ∧
            t.ob (Obj.areaBlocksValid x.1) = 0) ∧
          ((∀ b < x.2.2, Config.mramCluster (x.2.1 + b) ≠ k) → t.area x.1 = s.area x.1)))) ∧
  (∀ (n : Fin 5) (s : State),
    (s.bit Obj.phases n = true →
      ∃ t, exec (.regulatorPhaseFault n) s = .next t ∧ t.bit Obj.phases n = false ∧ t.bit Obj.ftFlags 1 = true ∧
        (∀ m < 5, m ≠ n.val → t.bit Obj.phases m = s.bit Obj.phases m) ∧ t.Raised s.now 1317 n ∧
        t = { s with obj := t.obj, fab := t.fab } ∧ s.ObjectsBut t [Obj.phases, Obj.ftFlags, Obj.arbiter]) ∧
    (s.bit Obj.phases n = false → exec (.regulatorPhaseFault n) s = .next s))) ∧
  ((∀ (sig : BitVec 24) (s : State), let g := sig.toNat
    g ∈ State.directSigs ∨ g = State.mxPortSig 0 ∨ g = State.mxPortSig 1 → s.cf Obj.stageTestPeriod ≠ 0 → s.applied = true →
    s.awake = true → s.hoist.safe = false → s.disabled g = false → g ∉ s.ft.stagesOff → s.stageIdle g = true →
    s.passed (s.ft.tested.read 0 g) (sec (s.cf Obj.stageTestPeriod)) = true →
    (∃ t, exec (.stageSelfTest sig true) s = .next t ∧ t.ft.tested.get? g = some s.now ∧ t = { s with ft := t.ft } ∧
      t.ft = { s.ft with tested := t.ft.tested }) ∧
    (∃ t, exec (.stageSelfTest sig false) s = .next t ∧ g ∈ t.ft.stagesOff ∧ t.Raised s.now 1319 g ∧ t.kept = s.kept ∧ t.cfg = s.cfg ∧
      (g ∈ State.directSigs → ({ s with ft := t.ft } : State).Switches t []))) ∧
  (∀ (q : Fin 4) (s : State),
    (q.val = 1 ∨ q.val = 3 → s.sweepsRun = true → s.tileOf q 5 = 1 →
      s.passed (s.ft.tested.read 0 (2 ^ 24 + q.val)) (ms (s.cf Obj.arbCheckPeriod)) = true →
      (∃ t, exec (.standbyLaneCheck q true) s = .next t ∧ t.ft.tested.get? (2 ^ 24 + q.val) = some s.now ∧ t = { s with ft := t.ft } ∧
        t.ft = { s.ft with tested := t.ft.tested }) ∧
      (∃ t, exec (.standbyLaneCheck q false) s = .next t ∧ t.tileOf q 5 = 3 ∧ t.Raised s.now 1324 (q * 256 + 5) ∧
        t.Raised s.now 1303 (q * 256 + 5) ∧ t.ob Obj.arbiter = (if s.tileOf (4 - q) 5 = 1 then 4 - q.val else 0xFF) ∧
        t = { s with obj := t.obj, ft := t.ft, fab := t.fab } ∧
        s.ObjectsBut t [Obj.tileState (6 * q + 5), Obj.arbiter, Obj.ftFlags])) ∧
    (∀ tl, s.spareOf q = some tl → s.awake = true →
      s.passed (s.ft.tested.read 0 (2 ^ 24 + 4 + q.val)) (sec (s.cf Obj.spareTestPeriod)) = true →
      (∃ t, exec (.spareLbist q true) s = .next t ∧ t.ft.tested.get? (2 ^ 24 + 4 + q.val) = some s.now ∧ t = { s with ft := t.ft }) ∧
      (∃ t, exec (.spareLbist q false) s = .next t ∧ t.tileOf q tl = 3 ∧ t.Raised s.now 1303 (q * 256 + tl) ∧
        t.ob Obj.arbiter = t.freeArbiter ∧ t = { s with obj := t.obj, ft := t.ft, fab := t.fab } ∧
        s.ObjectsBut t [Obj.tileState (6 * q + tl), Obj.arbiter, Obj.ftFlags])) ∧
    (s.spareOf q = none → ∀ pass, exec (.spareLbist q pass) s = .next s)) ∧
  (∀ s : State,
    (∀ c ∈ [(Instr.sequencerFault, s.boot.stage ≠ .off ∧ s.boot.stage ≠ .flyReset),
        (.microcodeCheck false, s.applied = true ∧ s.passed (s.ft.tested.read 0 (2 ^ 24 + 8)) (ms 100) = true)], c.2 →
      ∃ t, exec c.1 s = .next t ∧ t.boot.stage = .flyReset ∧ t.boot.nextCause = 8 ∧ t.hoist.safe = true ∧ t.Raised t.now 1325 0 ∧
        t.sessions = [] ∧ t.own = {} ∧ t.cfg = s.cfg ∧ t.address = s.address) ∧
    (s.applied = true → s.passed (s.ft.tested.read 0 (2 ^ 24 + 8)) (ms 100) = true →
      ∃ t, exec (.microcodeCheck true) s = .next t ∧ t.ft.tested.get? (2 ^ 24 + 8) = some s.now ∧ t = { s with ft := t.ft })) ∧
  (∀ (mram : Bool) (n : BitVec 16) (d : Fin 4) (s : State), s.applied = true → s.awake = true →
    s.passed (s.ft.tested.read 0 (2 ^ 24 + (if mram then 9 else 10)))
      (if mram then sec (3600 * s.cf Obj.mramScrubPeriod) else sec 1) = true →
    let sum := s.ft.corrected + n.toNat
    let due := ∀ u, s.ft.lastEv1316 = some u → s.passed u (sec 60) = true
    ∃ t, exec (.scrub mram n d) s = .next t ∧ t.ob Obj.scrubCorrected = (s.ob Obj.scrubCorrected + n.toNat) % 2 ^ 32 ∧
      t = { s with obj := t.obj, ft := t.ft, fab := t.fab } ∧
      (due → sum ≠ 0 → t.Raised s.now 1316 sum ∧ t.ft.corrected = 0 ∧ t.ft.lastEv1316 = some s.now) ∧
      (¬ due → t.ft.corrected = sum ∧ t.ft.lastEv1316 = s.ft.lastEv1316) ∧
      (mram = false ∨ d.val = 3 → t.ft.copies = s.ft.copies ∧ s.ObjectsBut t [Obj.scrubCorrected]) ∧
      (mram = true → ∀ a b : Nat, a < 3 → b < 3 → d.val < 3 → a ≠ b → a ≠ d.val → b ≠ d.val →
        (State.agree (s.copyOf a) (s.copyOf b) = true →
          t.copyOf d = { s.copyOf a with intact := true } ∧ t.copyOf a = s.copyOf a ∧ t.copyOf b = s.copyOf b ∧
          t.ob (Obj.cfgState d) = 1 ∧ t.ob (Obj.cfgGen d) = (s.copyOf a).generation ∧ t.Raised s.now 1320 d) ∧
        ((s.copyOf a).intact = true → (s.copyOf b).intact = true → (s.copyOf a).regs ≠ (s.copyOf b).regs →
          (s.copyOf a).generation < (s.copyOf b).generation → d.val ≠ 1 →
          t.bit Obj.ftFlags 0 = true ∧ t.copyOf a = s.copyOf b ∧ t.copyOf d = s.copyOf b ∧
          t.ft.split = State.splitObjects (if a < b then [s.copyOf a, s.copyOf b] else [s.copyOf b, s.copyOf a]) ∧
          t.ob Obj.splitCount = saturate t.ft.split.length 65535 ∧ t.Raised s.now 1321 (t.ob Obj.splitCount)))) ∧
  (∀ (h : Nat) (v : BitVec 8) (s : State) (x : Session),
    (s.Serves h .service x → v.toNat ≠ 0xA5 → exec (.splitAck h v) s = .next { s.asked x with reply := { status := .valueRange } }) ∧
    (s.Serves h .service x → v.toNat = 0xA5 →
      ∃ t, exec (.splitAck h v) s = .next t ∧ t.ft = { s.ft with split := [] } ∧ t.ob Obj.splitCount = 0 ∧ t.bit Obj.ftFlags 0 = false ∧
        (∀ i, i ≠ 0 → t.bit Obj.ftFlags i = s.bit Obj.ftFlags i) ∧ t = { s.served x with obj := t.obj, ft := t.ft } ∧
        s.ObjectsBut t [Obj.splitCount, Obj.ftFlags]) ∧
    (s.Serves h .maker x → exec (.tileRetest h) s = .next { s.served x with ft := { s.ft with retest := true } })) ∧
  (∀ (hoist a b c d : Int) (v w x y : Nat) (s : State), s.applied = true → s.awake = true →
    let most (p q r u : Int) : Nat := (max (max p q) (max r u) - min (min p q) (min r u)).toNat
    let dies := max (max (a - hoist).natAbs (b - hoist).natAbs) (max (c - hoist).natAbs (d - hoist).natAbs)
    let excess := [(150 < most a b c d, most a b c d), (most a b c d ≤ 150 ∧ 450 < dies, dies),
      (most a b c d ≤ 150 ∧ dies ≤ 450 ∧ 60 < most v w x y, 2 ^ 31 + most v w x y)]
    (s.bit Obj.ftFlags 7 = false → ∀ e ∈ excess, e.1 →
      ∃ t, exec (.skewCheck hoist [a, b, c, d] [v, w, x, y]) s = .next t ∧ t.bit Obj.ftFlags 7 = true ∧ t.Raised s.now 1322 e.2 ∧
        t = { s with obj := t.obj, ft := t.ft, fab := t.fab } ∧ s.ObjectsBut t [Obj.ftFlags]) ∧
    (s.bit Obj.ftFlags 7 = true → (∀ e ∈ excess, ¬ e.1) →
      (s.ft.withinSince = none →
        exec (.skewCheck hoist [a, b, c, d] [v, w, x, y]) s = .next { s with ft := { s.ft with withinSince := some s.now } }) ∧
      (∀ u, s.ft.withinSince = some u → s.passed u (sec 1) = true →
        ∃ t, exec (.skewCheck hoist [a, b, c, d] [v, w, x, y]) s = .next t ∧ t.bit Obj.ftFlags 7 = false ∧ t.Raised s.now 1323 0 ∧
          t = { s with obj := t.obj, ft := t.ft, fab := t.fab } ∧ s.ObjectsBut t [Obj.ftFlags]))))
end

