-- ==== Sys2Proof/Laws/Tables.lean ====
section
/-!
SUPPORT. The laws of sparse tables: a read after a write, and that `put`, `erase` and `write` keep the canonical form.
-/

namespace Sys2Proof.Machine.Table

variable {α : Type}

@[simp] theorem get?_nil (k : Nat) : Table.get? ([] : Table α) k = none := rfl

theorem get?_cons (i : Nat) (a : α) (t : Table α) (k : Nat) :
    Table.get? ((i, a) :: t) k = if i = k then some a else t.get? k := rfl

@[simp] theorem get?_put_same (t : Table α) (k : Nat) (v : α) : (t.put k v).get? k = some v := by
  induction t with
  | nil => simp [Table.put, get?_cons]
  | cons e t ih =>
    obtain ⟨i, a⟩ := e
    by_cases h1 : k < i
    · simp [Table.put, h1, get?_cons]
    · by_cases h2 : i = k <;> simp [Table.put, h1, h2, get?_cons, ih]

@[simp] theorem get?_put_other (t : Table α) {k j : Nat} (v : α) (h : k ≠ j) : (t.put k v).get? j = t.get? j := by
  induction t with
  | nil => simp [Table.put, get?_cons, h]
  | cons e t ih =>
    obtain ⟨i, a⟩ := e
    by_cases h1 : k < i
    · simp [Table.put, h1, get?_cons, h]
    · by_cases h2 : i = k
      · simp [Table.put, h2, get?_cons, h]
      · simp [Table.put, h1, h2, get?_cons, ih]

@[simp] theorem get?_erase_same (t : Table α) (k : Nat) : (t.erase k).get? k = none := by
  induction t with
  | nil => rfl
  | cons e t ih =>
    obtain ⟨i, a⟩ := e
    by_cases h : i = k
    · simpa [Table.erase, h] using ih
    · simpa [Table.erase, h, get?_cons] using ih

@[simp] theorem get?_erase_other (t : Table α) {k j : Nat} (h : k ≠ j) : (t.erase k).get? j = t.get? j := by
  induction t with
  | nil => rfl
  | cons e t ih =>
    obtain ⟨i, a⟩ := e
    by_cases h2 : i = k
    · subst h2
      have e1 : Table.erase ((i, a) :: t) i = Table.erase t i := by simp [Table.erase]
      rw [e1, ih, get?_cons, if_neg h]
    · have e1 : Table.erase ((i, a) :: t) k = (i, a) :: Table.erase t k := by simp [Table.erase, h2]
      rw [e1, get?_cons, get?_cons, ih]

/-- A number reads as what was last written there. -/
@[simp] theorem read_write_same [DecidableEq α] (t : Table α) (d : α) (k : Nat) (v : α) : (t.write d k v).read d k = v := by
  unfold Table.write Table.read
  split
  · rename_i h; simp [h]
  · simp

/-- A write leaves every other number alone. -/
@[simp] theorem read_write_other [DecidableEq α] (t : Table α) (d d' : α) {k j : Nat} (v : α) (h : k ≠ j) :
    (t.write d k v).read d' j = t.read d' j := by
  unfold Table.write Table.read
  split <;> simp [h]

/-! ## The canonical form -/

theorem rises_mono {lo lo' : Nat} (t : Table α) (h : lo' ≤ lo) (w : Table.rises lo t = true) : Table.rises lo' t = true := by
  cases t with
  | nil => rfl
  | cons e t =>
    obtain ⟨i, a⟩ := e
    simp only [Table.rises, Bool.and_eq_true, decide_eq_true_eq] at *
    exact ⟨Nat.le_trans h w.1, w.2⟩

theorem rises_erase {lo : Nat} (t : Table α) (k : Nat) (w : Table.rises lo t = true) : Table.rises lo (t.erase k) = true := by
  induction t generalizing lo with
  | nil => rfl
  | cons e t ih =>
    obtain ⟨i, a⟩ := e
    simp only [Table.rises, Bool.and_eq_true, decide_eq_true_eq] at w
    by_cases h : i = k
    · have e1 : Table.erase ((i, a) :: t) k = Table.erase t k := by simp [Table.erase, h]
      rw [e1]
      exact ih (rises_mono t (by omega) w.2)
    · have e1 : Table.erase ((i, a) :: t) k = (i, a) :: Table.erase t k := by simp [Table.erase, h]
      rw [e1]
      simp only [Table.rises, Bool.and_eq_true, decide_eq_true_eq]
      exact ⟨w.1, ih w.2⟩

theorem rises_put {lo : Nat} (t : Table α) (k : Nat) (v : α) (hk : lo ≤ k) (w : Table.rises lo t = true) :
    Table.rises lo (t.put k v) = true := by
  induction t generalizing lo with
  | nil => simp [Table.put, Table.rises, hk]
  | cons e t ih =>
    obtain ⟨i, a⟩ := e
    simp only [Table.rises, Bool.and_eq_true, decide_eq_true_eq] at w
    by_cases h1 : k < i
    · simp only [Table.put, if_pos h1, Table.rises, Bool.and_eq_true, decide_eq_true_eq]
      exact ⟨hk, by omega, w.2⟩
    · by_cases h2 : i = k
      · subst h2
        simp only [Table.put, if_neg h1, if_pos, Table.rises, Bool.and_eq_true, decide_eq_true_eq]
        exact ⟨hk, w.2⟩
      · simp only [Table.put, if_neg h1, if_neg h2, Table.rises, Bool.and_eq_true, decide_eq_true_eq]
        exact ⟨w.1, ih (by omega) w.2⟩

theorem mem_put {t : Table α} {k : Nat} {v : α} {e : Nat × α} (h : e ∈ t.put k v) : e = (k, v) ∨ e ∈ t := by
  induction t with
  | nil => simpa [Table.put] using h
  | cons x t ih =>
    obtain ⟨i, a⟩ := x
    unfold Table.put at h
    split at h
    · simpa using h
    · split at h
      · rcases List.mem_cons.mp h with h | h
        · exact .inl h
        · exact .inr (List.mem_cons_of_mem _ h)
      · rcases List.mem_cons.mp h with h | h
        · exact .inr (h ▸ List.mem_cons_self ..)
        · exact (ih h).imp id (List.mem_cons_of_mem _)

/-- `write` keeps the canonical form, where `d` is what the number reads as. -/
theorem wf_write [DecidableEq α] {d : Nat → α} {t : Table α} {k : Nat} {v : α} (w : Table.wf d t = true) :
    Table.wf d (t.write (d k) k v) = true := by
  simp only [Table.wf, Bool.and_eq_true, List.all_eq_true, decide_eq_true_eq] at w ⊢
  unfold Table.write
  split
  · exact ⟨rises_erase t k w.1, fun e he => w.2 e (List.mem_filter.mp he).1⟩
  · rename_i hv
    refine ⟨rises_put t k v (Nat.zero_le _) w.1, fun e he => ?_⟩
    rcases mem_put he with rfl | h
    · exact hv
    · exact w.2 e h

theorem rises_filter {lo : Nat} (t : Table α) (p : Nat × α → Bool) (w : Table.rises lo t = true) :
    Table.rises lo (t.filter p) = true := by
  induction t generalizing lo with
  | nil => rfl
  | cons e t ih =>
    obtain ⟨i, a⟩ := e
    simp only [Table.rises, Bool.and_eq_true, decide_eq_true_eq] at w
    by_cases h : p (i, a) = true
    · rw [List.filter_cons_of_pos h]
      simp only [Table.rises, Bool.and_eq_true, decide_eq_true_eq]
      exact ⟨w.1, ih w.2⟩
    · rw [List.filter_cons_of_neg h]
      exact ih (rises_mono t (by omega) w.2)

/-- Entries dropped keep the canonical form. -/
theorem wf_filter [DecidableEq α] {d : Nat → α} {t : Table α} (p : Nat × α → Bool) (w : Table.wf d t = true) :
    Table.wf d (t.filter p) = true := by
  simp only [Table.wf, Bool.and_eq_true, List.all_eq_true, decide_eq_true_eq] at w ⊢
  exact ⟨rises_filter t p w.1, fun e he => w.2 e (List.mem_filter.mp he).1⟩

@[simp] theorem wf_nil [DecidableEq α] (d : Nat → α) : Table.wf d ([] : Table α) = true := rfl

end Sys2Proof.Machine.Table
end

