-- ==== Sys2Proof/Laws/State.lean ====
section
/-!
SUPPORT. One lemma per field per update: what a written object, a posted event, a session put in place and a ledger record
leave of every field, and what an object reads as after them.
-/

namespace Sys2Proof.Machine.State

/-! ## Objects -/

@[simp] theorem ob_setOb_same (s : State) (k v : Nat) : (s.setOb k v).ob k = v := Table.read_write_same _ _ _ _
@[simp] theorem ob_setOb_other (s : State) {k j : Nat} (v : Nat) (h : k ≠ j) : (s.setOb k v).ob j = s.ob j :=
  Table.read_write_other _ _ _ _ h
theorem bump_eq (s : State) (k : Nat) : s.bump k = s.setOb k ((s.ob k + 1) % 2 ^ 32) := rfl
theorem bumpBy_eq (s : State) (k n : Nat) : s.bumpBy k n = s.setOb k ((s.ob k + n) % 2 ^ 32) := rfl
theorem bumpSat_eq (s : State) (k top : Nat) : s.bumpSat k top = s.setOb k (saturate (s.ob k + 1) top) := rfl
theorem setBit_eq (s : State) (k i : Nat) (b : Bool) : s.setBit k i b = s.setOb k (setBitTo (s.ob k) i b) := rfl
@[simp] theorem cf_setOb (s : State) (k v j : Nat) : (s.setOb k v).cf j = s.cf j := rfl
@[simp] theorem ob_post (s : State) (ev v j : Nat) : (s.post ev v).ob j = s.ob j := rfl
@[simp] theorem cf_post (s : State) (ev v j : Nat) : (s.post ev v).cf j = s.cf j := rfl
@[simp] theorem ob_postAt (s : State) (t ev v j : Nat) : (s.postAt t ev v).ob j = s.ob j := rfl
@[simp] theorem ob_postIf (s : State) (c : Bool) (ev v j : Nat) : (s.postIf c ev v).ob j = s.ob j := by cases c <;> rfl
@[simp] theorem cf_postIf (s : State) (c : Bool) (ev v j : Nat) : (s.postIf c ev v).cf j = s.cf j := by cases c <;> rfl
@[simp] theorem ob_setSession (s : State) (x : Session) (j : Nat) : (s.setSession x).ob j = s.ob j := rfl
@[simp] theorem cf_setSession (s : State) (x : Session) (j : Nat) : (s.setSession x).cf j = s.cf j := rfl

/-! ## Events -/

/-- What `post` puts on its way to the fabric (R303). -/
@[simp] theorem inFlight_post (s : State) (ev v : Nat) :
    (s.post ev v).fab.inFlight = s.fab.inFlight ++ [⟨s.now, ev, v % 2 ^ 32⟩] := rfl
@[simp] theorem inFlight_setOb (s : State) (k v : Nat) : (s.setOb k v).fab.inFlight = s.fab.inFlight := rfl

/-! ## Fields -/

@[simp] theorem cfg_setOb (s : State) (k v : Nat) : (s.setOb k v).cfg = s.cfg := rfl
@[simp] theorem reply_setOb (s : State) (k v : Nat) : (s.setOb k v).reply = s.reply := rfl
@[simp] theorem tb_setOb (s : State) (k v : Nat) : (s.setOb k v).tb = s.tb := rfl
@[simp] theorem timers_setOb (s : State) (k v : Nat) : (s.setOb k v).timers = s.timers := rfl
@[simp] theorem gsArmed_setOb (s : State) (k v : Nat) : (s.setOb k v).gsArmed = s.gsArmed := rfl
@[simp] theorem fab_setOb (s : State) (k v : Nat) : (s.setOb k v).fab = s.fab := rfl
@[simp] theorem flog_setOb (s : State) (k v : Nat) : (s.setOb k v).flog = s.flog := rfl
@[simp] theorem sessions_setOb (s : State) (k v : Nat) : (s.setOb k v).sessions = s.sessions := rfl
@[simp] theorem secure_setOb (s : State) (k v : Nat) : (s.setOb k v).secure = s.secure := rfl
@[simp] theorem holds_setOb (s : State) (k v : Nat) : (s.setOb k v).holds = s.holds := rfl
@[simp] theorem marks_setOb (s : State) (k v : Nat) : (s.setOb k v).marks = s.marks := rfl
@[simp] theorem commits_setOb (s : State) (k v : Nat) : (s.setOb k v).commits = s.commits := rfl
@[simp] theorem commitSerial_setOb (s : State) (k v : Nat) : (s.setOb k v).commitSerial = s.commitSerial := rfl
@[simp] theorem maps_setOb (s : State) (k v : Nat) : (s.setOb k v).maps = s.maps := rfl
@[simp] theorem anon_setOb (s : State) (k v : Nat) : (s.setOb k v).anon = s.anon := rfl
@[simp] theorem sdo_setOb (s : State) (k v : Nat) : (s.setOb k v).sdo = s.sdo := rfl
@[simp] theorem hal_setOb (s : State) (k v : Nat) : (s.setOb k v).hal = s.hal := rfl
@[simp] theorem own_setOb (s : State) (k v : Nat) : (s.setOb k v).own = s.own := rfl
@[simp] theorem hb_setOb (s : State) (k v : Nat) : (s.setOb k v).hb = s.hb := rfl
@[simp] theorem hoist_setOb (s : State) (k v : Nat) : (s.setOb k v).hoist = s.hoist := rfl
@[simp] theorem eng_setOb (s : State) (k v : Nat) : (s.setOb k v).eng = s.eng := rfl
@[simp] theorem arb_setOb (s : State) (k v : Nat) : (s.setOb k v).arb = s.arb := rfl
@[simp] theorem ledger_setOb (s : State) (k v : Nat) : (s.setOb k v).ledger = s.ledger := rfl
@[simp] theorem flyStarts_setOb (s : State) (k v : Nat) : (s.setOb k v).flyStarts = s.flyStarts := rfl
@[simp] theorem gd_setOb (s : State) (k v : Nat) : (s.setOb k v).gd = s.gd := rfl
@[simp] theorem br_setOb (s : State) (k v : Nat) : (s.setOb k v).br = s.br := rfl
@[simp] theorem fan_setOb (s : State) (k v : Nat) : (s.setOb k v).fan = s.fan := rfl
@[simp] theorem sv_setOb (s : State) (k v : Nat) : (s.setOb k v).sv = s.sv := rfl
@[simp] theorem din_setOb (s : State) (k v : Nat) : (s.setOb k v).din = s.din := rfl
@[simp] theorem dout_setOb (s : State) (k v : Nat) : (s.setOb k v).dout = s.dout := rfl
@[simp] theorem ain_setOb (s : State) (k v : Nat) : (s.setOb k v).ain = s.ain := rfl
@[simp] theorem vsensAt_setOb (s : State) (k v : Nat) : (s.setOb k v).vsensAt = s.vsensAt := rfl
@[simp] theorem tach_setOb (s : State) (k v : Nat) : (s.setOb k v).tach = s.tach := rfl
@[simp] theorem pp_setOb (s : State) (k v : Nat) : (s.setOb k v).pp = s.pp := rfl
@[simp] theorem cal_setOb (s : State) (k v : Nat) : (s.setOb k v).cal = s.cal := rfl
@[simp] theorem meas_setOb (s : State) (k v : Nat) : (s.setOb k v).meas = s.meas := rfl
@[simp] theorem warm_setOb (s : State) (k v : Nat) : (s.setOb k v).warm = s.warm := rfl
@[simp] theorem sampled_setOb (s : State) (k v : Nat) : (s.setOb k v).sampled = s.sampled := rfl
@[simp] theorem cable_setOb (s : State) (k v : Nat) : (s.setOb k v).cable = s.cable := rfl
@[simp] theorem pulseAt_setOb (s : State) (k v : Nat) : (s.setOb k v).pulseAt = s.pulseAt := rfl
@[simp] theorem bp_setOb (s : State) (k v : Nat) : (s.setOb k v).bp = s.bp := rfl
@[simp] theorem mx_setOb (s : State) (k v : Nat) : (s.setOb k v).mx = s.mx := rfl
@[simp] theorem light_setOb (s : State) (k v : Nat) : (s.setOb k v).light = s.light := rfl
@[simp] theorem factors_setOb (s : State) (k v : Nat) : (s.setOb k v).factors = s.factors := rfl
@[simp] theorem lastDerate_setOb (s : State) (k v : Nat) : (s.setOb k v).lastDerate = s.lastDerate := rfl
@[simp] theorem nb_setOb (s : State) (k v : Nat) : (s.setOb k v).nb = s.nb := rfl
@[simp] theorem can_setOb (s : State) (k v : Nat) : (s.setOb k v).can = s.can := rfl
@[simp] theorem mo_setOb (s : State) (k v : Nat) : (s.setOb k v).mo = s.mo := rfl
@[simp] theorem cs_setOb (s : State) (k v : Nat) : (s.setOb k v).cs = s.cs := rfl
@[simp] theorem csNext_setOb (s : State) (k v : Nat) : (s.setOb k v).csNext = s.csNext := rfl
@[simp] theorem ring_setOb (s : State) (k v : Nat) : (s.setOb k v).ring = s.ring := rfl
@[simp] theorem pw_setOb (s : State) (k v : Nat) : (s.setOb k v).pw = s.pw := rfl
@[simp] theorem boot_setOb (s : State) (k v : Nat) : (s.setOb k v).boot = s.boot := rfl
@[simp] theorem bg_setOb (s : State) (k v : Nat) : (s.setOb k v).bg = s.bg := rfl
@[simp] theorem upd_setOb (s : State) (k v : Nat) : (s.setOb k v).upd = s.upd := rfl
@[simp] theorem link_setOb (s : State) (k v : Nat) : (s.setOb k v).link = s.link := rfl
@[simp] theorem ft_setOb (s : State) (k v : Nat) : (s.setOb k v).ft = s.ft := rfl
@[simp] theorem pending_setOb (s : State) (k v : Nat) : (s.setOb k v).pending = s.pending := rfl

@[simp] theorem cfg_post (s : State) (ev v : Nat) : (s.post ev v).cfg = s.cfg := rfl
@[simp] theorem obj_post (s : State) (ev v : Nat) : (s.post ev v).obj = s.obj := rfl
@[simp] theorem reply_post (s : State) (ev v : Nat) : (s.post ev v).reply = s.reply := rfl
@[simp] theorem tb_post (s : State) (ev v : Nat) : (s.post ev v).tb = s.tb := rfl
@[simp] theorem timers_post (s : State) (ev v : Nat) : (s.post ev v).timers = s.timers := rfl
@[simp] theorem gsArmed_post (s : State) (ev v : Nat) : (s.post ev v).gsArmed = s.gsArmed := rfl
@[simp] theorem flog_post (s : State) (ev v : Nat) : (s.post ev v).flog = s.flog := rfl
@[simp] theorem sessions_post (s : State) (ev v : Nat) : (s.post ev v).sessions = s.sessions := rfl
@[simp] theorem secure_post (s : State) (ev v : Nat) : (s.post ev v).secure = s.secure := rfl
@[simp] theorem holds_post (s : State) (ev v : Nat) : (s.post ev v).holds = s.holds := rfl
@[simp] theorem marks_post (s : State) (ev v : Nat) : (s.post ev v).marks = s.marks := rfl
@[simp] theorem commits_post (s : State) (ev v : Nat) : (s.post ev v).commits = s.commits := rfl
@[simp] theorem commitSerial_post (s : State) (ev v : Nat) : (s.post ev v).commitSerial = s.commitSerial := rfl
@[simp] theorem maps_post (s : State) (ev v : Nat) : (s.post ev v).maps = s.maps := rfl
@[simp] theorem anon_post (s : State) (ev v : Nat) : (s.post ev v).anon = s.anon := rfl
@[simp] theorem sdo_post (s : State) (ev v : Nat) : (s.post ev v).sdo = s.sdo := rfl
@[simp] theorem hal_post (s : State) (ev v : Nat) : (s.post ev v).hal = s.hal := rfl
@[simp] theorem own_post (s : State) (ev v : Nat) : (s.post ev v).own = s.own := rfl
@[simp] theorem hb_post (s : State) (ev v : Nat) : (s.post ev v).hb = s.hb := rfl
@[simp] theorem hoist_post (s : State) (ev v : Nat) : (s.post ev v).hoist = s.hoist := rfl
@[simp] theorem eng_post (s : State) (ev v : Nat) : (s.post ev v).eng = s.eng := rfl
@[simp] theorem arb_post (s : State) (ev v : Nat) : (s.post ev v).arb = s.arb := rfl
@[simp] theorem ledger_post (s : State) (ev v : Nat) : (s.post ev v).ledger = s.ledger := rfl
@[simp] theorem flyStarts_post (s : State) (ev v : Nat) : (s.post ev v).flyStarts = s.flyStarts := rfl
@[simp] theorem gd_post (s : State) (ev v : Nat) : (s.post ev v).gd = s.gd := rfl
@[simp] theorem br_post (s : State) (ev v : Nat) : (s.post ev v).br = s.br := rfl
@[simp] theorem fan_post (s : State) (ev v : Nat) : (s.post ev v).fan = s.fan := rfl
@[simp] theorem sv_post (s : State) (ev v : Nat) : (s.post ev v).sv = s.sv := rfl
@[simp] theorem din_post (s : State) (ev v : Nat) : (s.post ev v).din = s.din := rfl
@[simp] theorem dout_post (s : State) (ev v : Nat) : (s.post ev v).dout = s.dout := rfl
@[simp] theorem ain_post (s : State) (ev v : Nat) : (s.post ev v).ain = s.ain := rfl
@[simp] theorem vsensAt_post (s : State) (ev v : Nat) : (s.post ev v).vsensAt = s.vsensAt := rfl
@[simp] theorem tach_post (s : State) (ev v : Nat) : (s.post ev v).tach = s.tach := rfl
@[simp] theorem pp_post (s : State) (ev v : Nat) : (s.post ev v).pp = s.pp := rfl
@[simp] theorem cal_post (s : State) (ev v : Nat) : (s.post ev v).cal = s.cal := rfl
@[simp] theorem meas_post (s : State) (ev v : Nat) : (s.post ev v).meas = s.meas := rfl
@[simp] theorem warm_post (s : State) (ev v : Nat) : (s.post ev v).warm = s.warm := rfl
@[simp] theorem sampled_post (s : State) (ev v : Nat) : (s.post ev v).sampled = s.sampled := rfl
@[simp] theorem cable_post (s : State) (ev v : Nat) : (s.post ev v).cable = s.cable := rfl
@[simp] theorem pulseAt_post (s : State) (ev v : Nat) : (s.post ev v).pulseAt = s.pulseAt := rfl
@[simp] theorem bp_post (s : State) (ev v : Nat) : (s.post ev v).bp = s.bp := rfl
@[simp] theorem mx_post (s : State) (ev v : Nat) : (s.post ev v).mx = s.mx := rfl
@[simp] theorem light_post (s : State) (ev v : Nat) : (s.post ev v).light = s.light := rfl
@[simp] theorem factors_post (s : State) (ev v : Nat) : (s.post ev v).factors = s.factors := rfl
@[simp] theorem lastDerate_post (s : State) (ev v : Nat) : (s.post ev v).lastDerate = s.lastDerate := rfl
@[simp] theorem nb_post (s : State) (ev v : Nat) : (s.post ev v).nb = s.nb := rfl
@[simp] theorem can_post (s : State) (ev v : Nat) : (s.post ev v).can = s.can := rfl
@[simp] theorem mo_post (s : State) (ev v : Nat) : (s.post ev v).mo = s.mo := rfl
@[simp] theorem cs_post (s : State) (ev v : Nat) : (s.post ev v).cs = s.cs := rfl
@[simp] theorem csNext_post (s : State) (ev v : Nat) : (s.post ev v).csNext = s.csNext := rfl
@[simp] theorem ring_post (s : State) (ev v : Nat) : (s.post ev v).ring = s.ring := rfl
@[simp] theorem pw_post (s : State) (ev v : Nat) : (s.post ev v).pw = s.pw := rfl
@[simp] theorem boot_post (s : State) (ev v : Nat) : (s.post ev v).boot = s.boot := rfl
@[simp] theorem bg_post (s : State) (ev v : Nat) : (s.post ev v).bg = s.bg := rfl
@[simp] theorem upd_post (s : State) (ev v : Nat) : (s.post ev v).upd = s.upd := rfl
@[simp] theorem link_post (s : State) (ev v : Nat) : (s.post ev v).link = s.link := rfl
@[simp] theorem ft_post (s : State) (ev v : Nat) : (s.post ev v).ft = s.ft := rfl
@[simp] theorem pending_post (s : State) (ev v : Nat) : (s.post ev v).pending = s.pending := rfl

@[simp] theorem cfg_postIf (s : State) (c : Bool) (ev v : Nat) : (s.postIf c ev v).cfg = s.cfg := by cases c <;> rfl
@[simp] theorem obj_postIf (s : State) (c : Bool) (ev v : Nat) : (s.postIf c ev v).obj = s.obj := by cases c <;> rfl
@[simp] theorem reply_postIf (s : State) (c : Bool) (ev v : Nat) : (s.postIf c ev v).reply = s.reply := by cases c <;> rfl
@[simp] theorem tb_postIf (s : State) (c : Bool) (ev v : Nat) : (s.postIf c ev v).tb = s.tb := by cases c <;> rfl
@[simp] theorem timers_postIf (s : State) (c : Bool) (ev v : Nat) : (s.postIf c ev v).timers = s.timers := by cases c <;> rfl
@[simp] theorem gsArmed_postIf (s : State) (c : Bool) (ev v : Nat) : (s.postIf c ev v).gsArmed = s.gsArmed := by cases c <;> rfl
@[simp] theorem flog_postIf (s : State) (c : Bool) (ev v : Nat) : (s.postIf c ev v).flog = s.flog := by cases c <;> rfl
@[simp] theorem sessions_postIf (s : State) (c : Bool) (ev v : Nat) : (s.postIf c ev v).sessions = s.sessions := by cases c <;> rfl
@[simp] theorem secure_postIf (s : State) (c : Bool) (ev v : Nat) : (s.postIf c ev v).secure = s.secure := by cases c <;> rfl
@[simp] theorem holds_postIf (s : State) (c : Bool) (ev v : Nat) : (s.postIf c ev v).holds = s.holds := by cases c <;> rfl
@[simp] theorem marks_postIf (s : State) (c : Bool) (ev v : Nat) : (s.postIf c ev v).marks = s.marks := by cases c <;> rfl
@[simp] theorem commits_postIf (s : State) (c : Bool) (ev v : Nat) : (s.postIf c ev v).commits = s.commits := by cases c <;> rfl
@[simp] theorem commitSerial_postIf (s : State) (c : Bool) (ev v : Nat) : (s.postIf c ev v).commitSerial = s.commitSerial := by cases c <;> rfl
@[simp] theorem maps_postIf (s : State) (c : Bool) (ev v : Nat) : (s.postIf c ev v).maps = s.maps := by cases c <;> rfl
@[simp] theorem anon_postIf (s : State) (c : Bool) (ev v : Nat) : (s.postIf c ev v).anon = s.anon := by cases c <;> rfl
@[simp] theorem sdo_postIf (s : State) (c : Bool) (ev v : Nat) : (s.postIf c ev v).sdo = s.sdo := by cases c <;> rfl
@[simp] theorem hal_postIf (s : State) (c : Bool) (ev v : Nat) : (s.postIf c ev v).hal = s.hal := by cases c <;> rfl
@[simp] theorem own_postIf (s : State) (c : Bool) (ev v : Nat) : (s.postIf c ev v).own = s.own := by cases c <;> rfl
@[simp] theorem hb_postIf (s : State) (c : Bool) (ev v : Nat) : (s.postIf c ev v).hb = s.hb := by cases c <;> rfl
@[simp] theorem hoist_postIf (s : State) (c : Bool) (ev v : Nat) : (s.postIf c ev v).hoist = s.hoist := by cases c <;> rfl
@[simp] theorem eng_postIf (s : State) (c : Bool) (ev v : Nat) : (s.postIf c ev v).eng = s.eng := by cases c <;> rfl
@[simp] theorem arb_postIf (s : State) (c : Bool) (ev v : Nat) : (s.postIf c ev v).arb = s.arb := by cases c <;> rfl
@[simp] theorem ledger_postIf (s : State) (c : Bool) (ev v : Nat) : (s.postIf c ev v).ledger = s.ledger := by cases c <;> rfl
@[simp] theorem flyStarts_postIf (s : State) (c : Bool) (ev v : Nat) : (s.postIf c ev v).flyStarts = s.flyStarts := by cases c <;> rfl
@[simp] theorem gd_postIf (s : State) (c : Bool) (ev v : Nat) : (s.postIf c ev v).gd = s.gd := by cases c <;> rfl
@[simp] theorem br_postIf (s : State) (c : Bool) (ev v : Nat) : (s.postIf c ev v).br = s.br := by cases c <;> rfl
@[simp] theorem fan_postIf (s : State) (c : Bool) (ev v : Nat) : (s.postIf c ev v).fan = s.fan := by cases c <;> rfl
@[simp] theorem sv_postIf (s : State) (c : Bool) (ev v : Nat) : (s.postIf c ev v).sv = s.sv := by cases c <;> rfl
@[simp] theorem din_postIf (s : State) (c : Bool) (ev v : Nat) : (s.postIf c ev v).din = s.din := by cases c <;> rfl
@[simp] theorem dout_postIf (s : State) (c : Bool) (ev v : Nat) : (s.postIf c ev v).dout = s.dout := by cases c <;> rfl
@[simp] theorem ain_postIf (s : State) (c : Bool) (ev v : Nat) : (s.postIf c ev v).ain = s.ain := by cases c <;> rfl
@[simp] theorem vsensAt_postIf (s : State) (c : Bool) (ev v : Nat) : (s.postIf c ev v).vsensAt = s.vsensAt := by cases c <;> rfl
@[simp] theorem tach_postIf (s : State) (c : Bool) (ev v : Nat) : (s.postIf c ev v).tach = s.tach := by cases c <;> rfl
@[simp] theorem pp_postIf (s : State) (c : Bool) (ev v : Nat) : (s.postIf c ev v).pp = s.pp := by cases c <;> rfl
@[simp] theorem cal_postIf (s : State) (c : Bool) (ev v : Nat) : (s.postIf c ev v).cal = s.cal := by cases c <;> rfl
@[simp] theorem meas_postIf (s : State) (c : Bool) (ev v : Nat) : (s.postIf c ev v).meas = s.meas := by cases c <;> rfl
@[simp] theorem warm_postIf (s : State) (c : Bool) (ev v : Nat) : (s.postIf c ev v).warm = s.warm := by cases c <;> rfl
@[simp] theorem sampled_postIf (s : State) (c : Bool) (ev v : Nat) : (s.postIf c ev v).sampled = s.sampled := by cases c <;> rfl
@[simp] theorem cable_postIf (s : State) (c : Bool) (ev v : Nat) : (s.postIf c ev v).cable = s.cable := by cases c <;> rfl
@[simp] theorem pulseAt_postIf (s : State) (c : Bool) (ev v : Nat) : (s.postIf c ev v).pulseAt = s.pulseAt := by cases c <;> rfl
@[simp] theorem bp_postIf (s : State) (c : Bool) (ev v : Nat) : (s.postIf c ev v).bp = s.bp := by cases c <;> rfl
@[simp] theorem mx_postIf (s : State) (c : Bool) (ev v : Nat) : (s.postIf c ev v).mx = s.mx := by cases c <;> rfl
@[simp] theorem light_postIf (s : State) (c : Bool) (ev v : Nat) : (s.postIf c ev v).light = s.light := by cases c <;> rfl
@[simp] theorem factors_postIf (s : State) (c : Bool) (ev v : Nat) : (s.postIf c ev v).factors = s.factors := by cases c <;> rfl
@[simp] theorem lastDerate_postIf (s : State) (c : Bool) (ev v : Nat) : (s.postIf c ev v).lastDerate = s.lastDerate := by cases c <;> rfl
@[simp] theorem nb_postIf (s : State) (c : Bool) (ev v : Nat) : (s.postIf c ev v).nb = s.nb := by cases c <;> rfl
@[simp] theorem can_postIf (s : State) (c : Bool) (ev v : Nat) : (s.postIf c ev v).can = s.can := by cases c <;> rfl
@[simp] theorem mo_postIf (s : State) (c : Bool) (ev v : Nat) : (s.postIf c ev v).mo = s.mo := by cases c <;> rfl
@[simp] theorem cs_postIf (s : State) (c : Bool) (ev v : Nat) : (s.postIf c ev v).cs = s.cs := by cases c <;> rfl
@[simp] theorem csNext_postIf (s : State) (c : Bool) (ev v : Nat) : (s.postIf c ev v).csNext = s.csNext := by cases c <;> rfl
@[simp] theorem ring_postIf (s : State) (c : Bool) (ev v : Nat) : (s.postIf c ev v).ring = s.ring := by cases c <;> rfl
@[simp] theorem pw_postIf (s : State) (c : Bool) (ev v : Nat) : (s.postIf c ev v).pw = s.pw := by cases c <;> rfl
@[simp] theorem boot_postIf (s : State) (c : Bool) (ev v : Nat) : (s.postIf c ev v).boot = s.boot := by cases c <;> rfl
@[simp] theorem bg_postIf (s : State) (c : Bool) (ev v : Nat) : (s.postIf c ev v).bg = s.bg := by cases c <;> rfl
@[simp] theorem upd_postIf (s : State) (c : Bool) (ev v : Nat) : (s.postIf c ev v).upd = s.upd := by cases c <;> rfl
@[simp] theorem link_postIf (s : State) (c : Bool) (ev v : Nat) : (s.postIf c ev v).link = s.link := by cases c <;> rfl
@[simp] theorem ft_postIf (s : State) (c : Bool) (ev v : Nat) : (s.postIf c ev v).ft = s.ft := by cases c <;> rfl
@[simp] theorem pending_postIf (s : State) (c : Bool) (ev v : Nat) : (s.postIf c ev v).pending = s.pending := by cases c <;> rfl

@[simp] theorem cfg_setSession (s : State) (x : Session) : (s.setSession x).cfg = s.cfg := rfl
@[simp] theorem obj_setSession (s : State) (x : Session) : (s.setSession x).obj = s.obj := rfl
@[simp] theorem reply_setSession (s : State) (x : Session) : (s.setSession x).reply = s.reply := rfl
@[simp] theorem tb_setSession (s : State) (x : Session) : (s.setSession x).tb = s.tb := rfl
@[simp] theorem timers_setSession (s : State) (x : Session) : (s.setSession x).timers = s.timers := rfl
@[simp] theorem gsArmed_setSession (s : State) (x : Session) : (s.setSession x).gsArmed = s.gsArmed := rfl
@[simp] theorem fab_setSession (s : State) (x : Session) : (s.setSession x).fab = s.fab := rfl
@[simp] theorem flog_setSession (s : State) (x : Session) : (s.setSession x).flog = s.flog := rfl
@[simp] theorem secure_setSession (s : State) (x : Session) : (s.setSession x).secure = s.secure := rfl
@[simp] theorem holds_setSession (s : State) (x : Session) : (s.setSession x).holds = s.holds := rfl
@[simp] theorem marks_setSession (s : State) (x : Session) : (s.setSession x).marks = s.marks := rfl
@[simp] theorem commits_setSession (s : State) (x : Session) : (s.setSession x).commits = s.commits := rfl
@[simp] theorem commitSerial_setSession (s : State) (x : Session) : (s.setSession x).commitSerial = s.commitSerial := rfl
@[simp] theorem maps_setSession (s : State) (x : Session) : (s.setSession x).maps = s.maps := rfl
@[simp] theorem anon_setSession (s : State) (x : Session) : (s.setSession x).anon = s.anon := rfl
@[simp] theorem sdo_setSession (s : State) (x : Session) : (s.setSession x).sdo = s.sdo := rfl
@[simp] theorem hal_setSession (s : State) (x : Session) : (s.setSession x).hal = s.hal := rfl
@[simp] theorem own_setSession (s : State) (x : Session) : (s.setSession x).own = s.own := rfl
@[simp] theorem hb_setSession (s : State) (x : Session) : (s.setSession x).hb = s.hb := rfl
@[simp] theorem hoist_setSession (s : State) (x : Session) : (s.setSession x).hoist = s.hoist := rfl
@[simp] theorem eng_setSession (s : State) (x : Session) : (s.setSession x).eng = s.eng := rfl
@[simp] theorem arb_setSession (s : State) (x : Session) : (s.setSession x).arb = s.arb := rfl
@[simp] theorem ledger_setSession (s : State) (x : Session) : (s.setSession x).ledger = s.ledger := rfl
@[simp] theorem flyStarts_setSession (s : State) (x : Session) : (s.setSession x).flyStarts = s.flyStarts := rfl
@[simp] theorem gd_setSession (s : State) (x : Session) : (s.setSession x).gd = s.gd := rfl
@[simp] theorem br_setSession (s : State) (x : Session) : (s.setSession x).br = s.br := rfl
@[simp] theorem fan_setSession (s : State) (x : Session) : (s.setSession x).fan = s.fan := rfl
@[simp] theorem sv_setSession (s : State) (x : Session) : (s.setSession x).sv = s.sv := rfl
@[simp] theorem din_setSession (s : State) (x : Session) : (s.setSession x).din = s.din := rfl
@[simp] theorem dout_setSession (s : State) (x : Session) : (s.setSession x).dout = s.dout := rfl
@[simp] theorem ain_setSession (s : State) (x : Session) : (s.setSession x).ain = s.ain := rfl
@[simp] theorem vsensAt_setSession (s : State) (x : Session) : (s.setSession x).vsensAt = s.vsensAt := rfl
@[simp] theorem tach_setSession (s : State) (x : Session) : (s.setSession x).tach = s.tach := rfl
@[simp] theorem pp_setSession (s : State) (x : Session) : (s.setSession x).pp = s.pp := rfl
@[simp] theorem cal_setSession (s : State) (x : Session) : (s.setSession x).cal = s.cal := rfl
@[simp] theorem meas_setSession (s : State) (x : Session) : (s.setSession x).meas = s.meas := rfl
@[simp] theorem warm_setSession (s : State) (x : Session) : (s.setSession x).warm = s.warm := rfl
@[simp] theorem sampled_setSession (s : State) (x : Session) : (s.setSession x).sampled = s.sampled := rfl
@[simp] theorem cable_setSession (s : State) (x : Session) : (s.setSession x).cable = s.cable := rfl
@[simp] theorem pulseAt_setSession (s : State) (x : Session) : (s.setSession x).pulseAt = s.pulseAt := rfl
@[simp] theorem bp_setSession (s : State) (x : Session) : (s.setSession x).bp = s.bp := rfl
@[simp] theorem mx_setSession (s : State) (x : Session) : (s.setSession x).mx = s.mx := rfl
@[simp] theorem light_setSession (s : State) (x : Session) : (s.setSession x).light = s.light := rfl
@[simp] theorem factors_setSession (s : State) (x : Session) : (s.setSession x).factors = s.factors := rfl
@[simp] theorem lastDerate_setSession (s : State) (x : Session) : (s.setSession x).lastDerate = s.lastDerate := rfl
@[simp] theorem nb_setSession (s : State) (x : Session) : (s.setSession x).nb = s.nb := rfl
@[simp] theorem can_setSession (s : State) (x : Session) : (s.setSession x).can = s.can := rfl
@[simp] theorem mo_setSession (s : State) (x : Session) : (s.setSession x).mo = s.mo := rfl
@[simp] theorem cs_setSession (s : State) (x : Session) : (s.setSession x).cs = s.cs := rfl
@[simp] theorem csNext_setSession (s : State) (x : Session) : (s.setSession x).csNext = s.csNext := rfl
@[simp] theorem ring_setSession (s : State) (x : Session) : (s.setSession x).ring = s.ring := rfl
@[simp] theorem pw_setSession (s : State) (x : Session) : (s.setSession x).pw = s.pw := rfl
@[simp] theorem boot_setSession (s : State) (x : Session) : (s.setSession x).boot = s.boot := rfl
@[simp] theorem bg_setSession (s : State) (x : Session) : (s.setSession x).bg = s.bg := rfl
@[simp] theorem upd_setSession (s : State) (x : Session) : (s.setSession x).upd = s.upd := rfl
@[simp] theorem link_setSession (s : State) (x : Session) : (s.setSession x).link = s.link := rfl
@[simp] theorem ft_setSession (s : State) (x : Session) : (s.setSession x).ft = s.ft := rfl
@[simp] theorem pending_setSession (s : State) (x : Session) : (s.setSession x).pending = s.pending := rfl

@[simp] theorem now_setOb (s : State) (k v : Nat) : (s.setOb k v).now = s.now := rfl
@[simp] theorem now_post (s : State) (ev v : Nat) : (s.post ev v).now = s.now := rfl
@[simp] theorem now_postIf (s : State) (c : Bool) (ev v : Nat) : (s.postIf c ev v).now = s.now := by cases c <;> rfl
@[simp] theorem now_setSession (s : State) (x : Session) : (s.setSession x).now = s.now := rfl

end Sys2Proof.Machine.State
end

