-- ==== Sys2Proof/Laws/Switching.lean ====
section
/-!
SUPPORT. What switching an output, resolving owners, admission and the ledger's buffer leave alone: one lemma per operation says
that the state less what switching moves, and less any objects one cares to leave out (`State.quiet`), is as it was.
-/

namespace Sys2Proof.Machine

/-- An object that switching moves, or one of a list. -/
def State.moves (own : List Nat) (k : Nat) : Bool := State.outputObject k || own.contains k

/-- The state less what switching outputs moves, and less the objects of a list. -/
def State.quiet (own : List Nat) (s : State) : State := { s.still with obj := s.obj.filter (fun e => !State.moves own e.1) }

theorem moves_own {own : List Nat} {k : Nat} (h : k ∈ own) : State.moves own k = true := by simp [State.moves, h]
theorem moves_output {own : List Nat} {k : Nat} (h : State.outputObject k = true) : State.moves own k = true := by
  simp [State.moves, h]

theorem get?_filter_moves (own : List Nat) {k : Nat} (h : State.moves own k = false) (l : Regs) :
    Table.get? (l.filter (fun e => !State.moves own e.1)) k = Table.get? l k := by
  induction l with
  | nil => rfl
  | cons x l ih =>
    obtain ⟨i, a⟩ := x
    by_cases hi : i = k
    · subst hi; simp [h, Table.get?_cons]
    · by_cases ho : State.moves own i = true
      · simpa [ho, Table.get?_cons, hi] using ih
      · simpa [ho, Table.get?_cons, hi] using ih

theorem ob_of_quiet {own : List Nat} {s t : State} (e : t.quiet own = s.quiet own) {k : Nat} (h : State.moves own k = false) :
    t.ob k = s.ob k := by
  have e2 : (t.obj.filter (fun e => !State.moves own e.1)) = s.obj.filter (fun e => !State.moves own e.1) :=
    congrArg State.obj e
  unfold State.ob Table.read
  rw [← get?_filter_moves own h t.obj, ← get?_filter_moves own h s.obj, e2]

theorem still_of_quiet {own : List Nat} {s t : State} (e : t.quiet own = s.quiet own) : t.still = s.still := by
  have : ({ t.quiet own with obj := [] } : State) = { s.quiet own with obj := [] } := by rw [e]
  exact this

/-- The statement that uses it. -/
theorem switches_of_quiet {own : List Nat} {s t : State} (e : t.quiet own = s.quiet own) : s.Switches t own :=
  ⟨still_of_quiet e, fun k h1 h2 => ob_of_quiet e (by simp [State.moves, h1, h2])⟩

theorem filter_write (own : List Nat) (l : Regs) (d k v : Nat) (h : State.moves own k = true) :
    (l.write d k v).filter (fun e => !State.moves own e.1) = l.filter (fun e => !State.moves own e.1) := by
  unfold Table.write
  split
  · induction l with
    | nil => rfl
    | cons x l ih =>
      obtain ⟨i, a⟩ := x
      by_cases hi : i = k
      · subst hi; simpa [Table.erase, h] using ih
      · by_cases ho : State.moves own i = true <;> simpa [Table.erase, hi, ho] using ih
  · induction l with
    | nil => simp [Table.put, h]
    | cons x l ih =>
      obtain ⟨i, a⟩ := x
      unfold Table.put
      split
      · simp [h]
      · split
        · rename_i hi; subst hi; simp [h]
        · by_cases ho : State.moves own i = true <;> simpa [ho] using ih

theorem setOb_quiet (own : List Nat) (s : State) (k v : Nat) (h : State.moves own k = true) :
    (s.setOb k v).quiet own = s.quiet own := by
  have e := filter_write own s.obj (objDefault k) k v h
  simp only [State.quiet, State.setOb, State.still, e]

variable {own : List Nat}

@[simp] theorem setOb_quiet' (s : State) (k v : Nat) (h : State.moves own k = true) : (State.setOb s k v).quiet own = s.quiet own := setOb_quiet own s k v h
@[simp] theorem bump_quiet' (s : State) (k : Nat) (h : State.moves own k = true) : (State.bump s k).quiet own = s.quiet own := setOb_quiet own s k _ h
@[simp] theorem setBit_quiet' (s : State) (k i : Nat) (b : Bool) (h : State.moves own k = true) : (State.setBit s k i b).quiet own = s.quiet own := setOb_quiet own s k _ h
@[simp] theorem setOb_quiet_own (s : State) {k : Nat} (v : Nat) (h : k ∈ own) : (s.setOb k v).quiet own = s.quiet own :=
  setOb_quiet own s k v (moves_own h)
@[simp] theorem bump_quiet_own (s : State) {k : Nat} (h : k ∈ own) : (s.bump k).quiet own = s.quiet own := setOb_quiet_own s _ h
@[simp] theorem setBit_quiet_own (s : State) {k : Nat} (i : Nat) (b : Bool) (h : k ∈ own) : (s.setBit k i b).quiet own = s.quiet own :=
  setOb_quiet_own s _ h
@[simp] theorem with_factors_quiet (s : State) x : ({ s with factors := x } : State).quiet own = s.quiet own := rfl
@[simp] theorem ite_quiet {c : Prop} [Decidable c] (a b : State) : (if c then a else b).quiet own = if c then a.quiet own else b.quiet own := by split <;> rfl
theorem foldl_quiet {α : Type} (l : List α) (f : State → α → State) (s : State) (h : ∀ s a, (f s a).quiet own = s.quiet own) : (l.foldl f s).quiet own = s.quiet own := by
  induction l generalizing s with
  | nil => rfl
  | cons a r ih => rw [List.foldl_cons, ih, h]
@[simp] theorem forRange_quiet (n : Nat) (f : State → Nat → State) (s : State) (h : ∀ s a, (f s a).quiet own = s.quiet own) : (forRange n f s).quiet own = s.quiet own := foldl_quiet _ _ _ h
@[simp] theorem forEach_quiet {α : Type} (l : List α) (f : State → α → State) (s : State) (h : ∀ s a, (f s a).quiet own = s.quiet own) : (forEach l f s).quiet own = s.quiet own := foldl_quiet _ _ _ h
@[simp] theorem with_reply_quiet (s : State) x : ({ s with reply := x } : State).quiet own = s.quiet own := rfl
@[simp] theorem with_fab_quiet (s : State) x : ({ s with fab := x } : State).quiet own = s.quiet own := rfl
@[simp] theorem with_own_quiet (s : State) x : ({ s with own := x } : State).quiet own = s.quiet own := rfl
@[simp] theorem with_arb_quiet (s : State) x : ({ s with arb := x } : State).quiet own = s.quiet own := rfl
@[simp] theorem with_gd_quiet (s : State) x : ({ s with gd := x } : State).quiet own = s.quiet own := rfl
@[simp] theorem with_br_quiet (s : State) x : ({ s with br := x } : State).quiet own = s.quiet own := rfl
@[simp] theorem with_fan_quiet (s : State) x : ({ s with fan := x } : State).quiet own = s.quiet own := rfl
@[simp] theorem with_sv_quiet (s : State) x : ({ s with sv := x } : State).quiet own = s.quiet own := rfl
@[simp] theorem with_dout_quiet (s : State) x : ({ s with dout := x } : State).quiet own = s.quiet own := rfl
@[simp] theorem with_bp_quiet (s : State) x : ({ s with bp := x } : State).quiet own = s.quiet own := rfl
@[simp] theorem with_mx_quiet (s : State) x : ({ s with mx := x } : State).quiet own = s.quiet own := rfl
@[simp] theorem with_light_quiet (s : State) x : ({ s with light := x } : State).quiet own = s.quiet own := rfl
@[simp] theorem with_ledger_quiet (s : State) x : ({ s with ledger := x } : State).quiet own = s.quiet own := rfl

theorem keyIndex_key (i : Nat) {b : Nat} (h : b < 256) : keyIndex (key i b) = i := by unfold keyIndex key; omega
theorem keySub_key (i : Nat) {b : Nat} (h : b < 256) : keySub (key i b) = b := by unfold keySub key; omega
theorem outputObject_key (i : Nat) {b : Nat} (h : b < 256) : State.outputObject (key i b) = 
  ((decide (0x4002 ≤ i) && i % 16 = 2 && (b = 1 || b = 2)) || (decide (0x4828 ≤ i) && (b = 1 || b = 2)) ||
  (decide (0x4002 ≤ i) && decide (i < 0x4182) && i % 16 = 2 && (b = 3 || b = 6)) ||
  (decide (0x4301 ≤ i) && decide (i < 0x4341) && i % 16 = 1 && (b = 2 || b = 3 || b = 6)) ||
  (decide (0x4301 ≤ i) && i % 16 = 1 && (b = 1 || b = 4)) || (i = 0x2202 && decide (0x0B ≤ b)) ||
  (i = 0x9001 && (b = 5 || b = 8 || b = 9))) := by
  simp only [State.outputObject, keyIndex_key i h, keySub_key i h]
theorem out_gdStatus (n : Nat) : State.outputObject (Obj.gdStatus n) = true := by
  unfold Obj.gdStatus
  rw [outputObject_key _ (by decide)]
  simp
theorem out_gdAppliedValue (n : Nat) : State.outputObject (Obj.gdAppliedValue n) = true := by
  unfold Obj.gdAppliedValue
  rw [outputObject_key _ (by decide)]
  simp
theorem out_brState (n : Nat) : State.outputObject (Obj.brState n) = true := by
  unfold Obj.brState
  rw [outputObject_key _ (by decide)]
  simp; omega
theorem out_brFlags (n : Nat) : State.outputObject (Obj.brFlags n) = true := by
  unfold Obj.brFlags
  rw [outputObject_key _ (by decide)]
  simp; omega
theorem out_doutStatus (n : Nat) : State.outputObject (Obj.doutStatus n) = true := by
  unfold Obj.doutStatus
  rw [outputObject_key _ (by decide)]
  simp
theorem out_doutAppliedValue (n : Nat) : State.outputObject (Obj.doutAppliedValue n) = true := by
  unfold Obj.doutAppliedValue
  rw [outputObject_key _ (by decide)]
  simp
theorem out_fanState (n : Nat) : State.outputObject (Obj.fanState n) = true := by
  unfold Obj.fanState
  rw [outputObject_key _ (by decide)]
  simp
theorem out_svPhase (n : Nat) : State.outputObject (Obj.svPhase n) = true := by
  unfold Obj.svPhase
  rw [outputObject_key _ (by decide)]
  simp; omega
theorem out_svStatus (n : Nat) : State.outputObject (Obj.svStatus n) = true := by
  unfold Obj.svStatus
  rw [outputObject_key _ (by decide)]
  simp; omega
theorem out_mxFactor (n : Nat) : State.outputObject (Obj.mxFactor n) = true := by
  unfold Obj.mxFactor
  rw [outputObject_key _ (by decide)]
  simp; omega
theorem out_engState (n : Nat) : State.outputObject (Obj.engState n) = true := by
  unfold Obj.engState
  rw [outputObject_key _ (by decide)]
  simp; omega
theorem out_mxState (n : Nat) : State.outputObject (Obj.mxState n) = true := by
  unfold Obj.mxState
  rw [outputObject_key _ (by decide)]
  simp; omega
theorem out_admittedCount : State.outputObject Obj.admittedCount = true := by decide
theorem out_shedCount : State.outputObject Obj.shedCount = true := by decide
theorem out_waitMax : State.outputObject Obj.waitMax = true := by decide
theorem out_refusedCount : State.outputObject Obj.refusedCount = true := by decide
theorem out_waitedCount : State.outputObject Obj.waitedCount = true := by decide
theorem out_sOverCount : State.outputObject Obj.sOverCount = true := by decide
theorem out_ledgerBufferFill : State.outputObject Obj.ledgerBufferFill = true := by decide
theorem out_ledgerNextSeq : State.outputObject Obj.ledgerNextSeq = true := by decide
theorem out_ledgerRecordsLost : State.outputObject Obj.ledgerRecordsLost = true := by decide
@[simp] theorem moves_gdStatus (n : Nat) : State.moves own (Obj.gdStatus n) = true := moves_output (out_gdStatus n)
@[simp] theorem moves_gdAppliedValue (n : Nat) : State.moves own (Obj.gdAppliedValue n) = true := moves_output (out_gdAppliedValue n)
@[simp] theorem moves_brState (n : Nat) : State.moves own (Obj.brState n) = true := moves_output (out_brState n)
@[simp] theorem moves_brFlags (n : Nat) : State.moves own (Obj.brFlags n) = true := moves_output (out_brFlags n)
@[simp] theorem moves_doutStatus (n : Nat) : State.moves own (Obj.doutStatus n) = true := moves_output (out_doutStatus n)
@[simp] theorem moves_doutAppliedValue (n : Nat) : State.moves own (Obj.doutAppliedValue n) = true := moves_output (out_doutAppliedValue n)
@[simp] theorem moves_fanState (n : Nat) : State.moves own (Obj.fanState n) = true := moves_output (out_fanState n)
@[simp] theorem moves_svPhase (n : Nat) : State.moves own (Obj.svPhase n) = true := moves_output (out_svPhase n)
@[simp] theorem moves_svStatus (n : Nat) : State.moves own (Obj.svStatus n) = true := moves_output (out_svStatus n)
@[simp] theorem moves_mxFactor (n : Nat) : State.moves own (Obj.mxFactor n) = true := moves_output (out_mxFactor n)
@[simp] theorem moves_engState (n : Nat) : State.moves own (Obj.engState n) = true := moves_output (out_engState n)
@[simp] theorem moves_mxState (n : Nat) : State.moves own (Obj.mxState n) = true := moves_output (out_mxState n)
@[simp] theorem moves_admittedCount : State.moves own Obj.admittedCount = true := moves_output (out_admittedCount)
@[simp] theorem moves_shedCount : State.moves own Obj.shedCount = true := moves_output (out_shedCount)
@[simp] theorem moves_waitMax : State.moves own Obj.waitMax = true := moves_output (out_waitMax)
@[simp] theorem moves_refusedCount : State.moves own Obj.refusedCount = true := moves_output (out_refusedCount)
@[simp] theorem moves_waitedCount : State.moves own Obj.waitedCount = true := moves_output (out_waitedCount)
@[simp] theorem moves_sOverCount : State.moves own Obj.sOverCount = true := moves_output (out_sOverCount)
@[simp] theorem moves_ledgerBufferFill : State.moves own Obj.ledgerBufferFill = true := moves_output (out_ledgerBufferFill)
@[simp] theorem moves_ledgerNextSeq : State.moves own Obj.ledgerNextSeq = true := moves_output (out_ledgerNextSeq)
@[simp] theorem moves_ledgerRecordsLost : State.moves own Obj.ledgerRecordsLost = true := moves_output (out_ledgerRecordsLost)
theorem out_gdGateTon (n : Nat) (h : n < 24) : State.outputObject (Obj.gdGateTon n) = true := by
  unfold Obj.gdGateTon
  rw [outputObject_key _ (by decide)]
  simp; omega
theorem out_gdVdsMeas (n : Nat) (h : n < 24) : State.outputObject (Obj.gdVdsMeas n) = true := by
  unfold Obj.gdVdsMeas
  rw [outputObject_key _ (by decide)]
  simp; omega
theorem out_fanSpeed (n : Nat) (h : n < 4) : State.outputObject (Obj.fanSpeed n) = true := by
  unfold Obj.fanSpeed
  rw [outputObject_key _ (by decide)]
  simp; omega
theorem out_fanSpeedSource (n : Nat) (h : n < 4) : State.outputObject (Obj.fanSpeedSource n) = true := by
  unfold Obj.fanSpeedSource
  rw [outputObject_key _ (by decide)]
  simp; omega
theorem out_fanRippleRatio (n : Nat) (h : n < 4) : State.outputObject (Obj.fanRippleRatio n) = true := by
  unfold Obj.fanRippleRatio
  rw [outputObject_key _ (by decide)]
  simp; omega
theorem out_fanFlags (n : Nat) : State.outputObject (Obj.fanFlags n) = true := by
  unfold Obj.fanFlags
  rw [outputObject_key _ (by decide)]
  simp
@[simp] theorem moves_fanFlags (n : Nat) : State.moves own (Obj.fanFlags n) = true := moves_output (out_fanFlags n)
theorem setIn_quiet (s : State) (n : Nat) (f : Nat → Nat) (i v : Nat) (h : ∀ j, j < n → State.outputObject (f j) = true) :
    (s.setIn n f i v).quiet own = s.quiet own := by
  unfold State.setIn
  split
  · exact setOb_quiet own s _ v (moves_output (h i ‹_›))
  · rfl
@[simp] theorem setIn_gdGateTon_quiet (s : State) (i v : Nat) : (s.setIn 24 Obj.gdGateTon i v).quiet own = s.quiet own :=
  setIn_quiet s 24 Obj.gdGateTon i v out_gdGateTon
@[simp] theorem setIn_gdVdsMeas_quiet (s : State) (i v : Nat) : (s.setIn 24 Obj.gdVdsMeas i v).quiet own = s.quiet own :=
  setIn_quiet s 24 Obj.gdVdsMeas i v out_gdVdsMeas
@[simp] theorem setIn_fanSpeed_quiet (s : State) (i v : Nat) : (s.setIn 4 Obj.fanSpeed i v).quiet own = s.quiet own :=
  setIn_quiet s 4 Obj.fanSpeed i v out_fanSpeed
@[simp] theorem setIn_fanSpeedSource_quiet (s : State) (i v : Nat) : (s.setIn 4 Obj.fanSpeedSource i v).quiet own = s.quiet own :=
  setIn_quiet s 4 Obj.fanSpeedSource i v out_fanSpeedSource
@[simp] theorem setIn_fanRippleRatio_quiet (s : State) (i v : Nat) : (s.setIn 4 Obj.fanRippleRatio i v).quiet own = s.quiet own :=
  setIn_quiet s 4 Obj.fanRippleRatio i v out_fanRippleRatio
@[simp] theorem State.postAt_quiet (s : State) (ts : Tick) (ev value : Nat) : (State.postAt s ts ev value).quiet own = s.quiet own := by
  simp [State.postAt]
@[simp] theorem State.post_quiet (s : State) (ev value : Nat) : (State.post s ev value).quiet own = s.quiet own := by
  simp [State.post]
@[simp] theorem State.postIf_quiet (s : State) (c : Bool) (ev value : Nat) : (State.postIf s c ev value).quiet own = s.quiet own := by
  simp [State.postIf]
@[simp] theorem State.storeRecord_quiet (s : State) (r : LedgerRecord) : (State.storeRecord s r).quiet own = s.quiet own := by
  simp [State.storeRecord]
@[simp] theorem State.dropRecord_quiet (s : State) : (State.dropRecord s).quiet own = s.quiet own := by
  simp [State.dropRecord]
@[simp] theorem State.record_quiet (s : State) (r : LedgerRecord) : (State.record s r).quiet own = s.quiet own := by
  simp [State.record]
@[simp] theorem State.setGd_quiet (s : State) (n : Nat) (c : GdChannel) : (State.setGd s n c).quiet own = s.quiet own := by
  simp [State.setGd]
@[simp] theorem State.setSv_quiet (s : State) (n : Nat) (c : SvChannel) : (State.setSv s n c).quiet own = s.quiet own := by
  simp [State.setSv]
@[simp] theorem State.setDout_quiet (s : State) (n : Nat) (c : Dout) : (State.setDout s n c).quiet own = s.quiet own := by
  simp [State.setDout]
@[simp] theorem State.setBr_quiet (s : State) (n : Nat) (c : Bridge) : (State.setBr s n c).quiet own = s.quiet own := by
  simp [State.setBr]
@[simp] theorem State.setFan_quiet (s : State) (n : Nat) (c : Fan) : (State.setFan s n c).quiet own = s.quiet own := by
  simp [State.setFan]
@[simp] theorem State.setMx_quiet (s : State) (n : Nat) (c : MxPort) : (State.setMx s n c).quiet own = s.quiet own := by
  simp [State.setMx]
@[simp] theorem State.setBp_quiet (s : State) (n : Nat) (c : BuntingPort) : (State.setBp s n c).quiet own = s.quiet own := by
  simp [State.setBp]
@[simp] theorem State.svEnter_quiet (s : State) (c ph : Nat) : (State.svEnter s c ph).quiet own = s.quiet own := by
  simp [State.svEnter]
@[simp] theorem State.gdShow_quiet (s : State) (c v : Nat) : (State.gdShow s c v).quiet own = s.quiet own := by
  simp [State.gdShow]
@[simp] theorem State.gdApplyAt_quiet (s : State) (c v period : Nat) : (State.gdApplyAt s c v period).quiet own = s.quiet own := by
  simp [State.gdApplyAt]
@[simp] theorem State.gdApply_quiet (s : State) (c v : Nat) : (State.gdApply s c v).quiet own = s.quiet own := by
  simp [State.gdApply]
@[simp] theorem State.gdCancel_quiet (s : State) (c : Nat) : (State.gdCancel s c).quiet own = s.quiet own := by
  simp [State.gdCancel]
@[simp] theorem State.gdOff_quiet (s : State) (c : Nat) : (State.gdOff s c).quiet own = s.quiet own := by
  simp [State.gdOff]
@[simp] theorem State.gdDrive_quiet (s : State) (c v : Nat) : (State.gdDrive s c v).quiet own = s.quiet own := by
  simp [State.gdDrive]
@[simp] theorem State.brChannels_quiet (s : State) (h dir duty : Nat) : (State.brChannels s h dir duty).quiet own = s.quiet own := by
  unfold State.brChannels; split <;> simp
@[simp] theorem State.brShow_quiet (s : State) (h st : Nat) : (State.brShow s h st).quiet own = s.quiet own := by
  simp [State.brShow]
@[simp] theorem State.brStart_quiet (s : State) (h : Nat) : (State.brStart s h).quiet own = s.quiet own := by
  simp [State.brStart]
@[simp] theorem State.fanOff_quiet (s : State) (f : Nat) : (State.fanOff s f).quiet own = s.quiet own := by
  simp [State.fanOff]
@[simp] theorem State.fanDuty_quiet (s : State) (f d : Nat) : (State.fanDuty s f d).quiet own = s.quiet own := by
  simp [State.fanDuty]
@[simp] theorem State.fanStart_quiet (s : State) (f : Nat) : (State.fanStart s f).quiet own = s.quiet own := by
  simp [State.fanStart]
@[simp] theorem State.fanDeliver_quiet (s : State) (f v : Nat) : (State.fanDeliver s f v).quiet own = s.quiet own := by
  simp [State.fanDeliver]
@[simp] theorem State.doutShow_quiet (s : State) (d v : Nat) : (State.doutShow s d v).quiet own = s.quiet own := by
  simp [State.doutShow]
@[simp] theorem State.doutCancel_quiet (s : State) (d : Nat) : (State.doutCancel s d).quiet own = s.quiet own := by
  simp [State.doutCancel]
@[simp] theorem State.doutDrive_quiet (s : State) (d v : Nat) : (State.doutDrive s d v).quiet own = s.quiet own := by
  simp [State.doutDrive]
@[simp] theorem State.drive_quiet (s : State) (sig v0 : Nat) : (State.drive s sig v0).quiet own = s.quiet own := by
  simp only [State.drive]; (repeat' split) <;> simp
@[simp] theorem State.command_quiet (s : State) (sig v : Nat) : (State.command s sig v).quiet own = s.quiet own := by
  simp [State.command]
@[simp] theorem State.setSlot_quiet (s : State) (sig : Nat) (x : Cls) (v : Option Claim) : (State.setSlot s sig x v).quiet own = s.quiet own := by
  simp [State.setSlot]
@[simp] theorem State.commandOwned_quiet (s : State) (sig v : Nat) : (State.commandOwned s sig v).quiet own = s.quiet own := by
  simp [State.commandOwned]
@[simp] theorem State.portFit_quiet (s : State) (port cls : Nat) : (State.portFit s port cls).quiet own = s.quiet own := by
  simp [State.portFit]
@[simp] theorem State.undark_quiet (s : State) (sig : Nat) : (State.undark s sig).quiet own = s.quiet own := by
  simp [State.undark]
@[simp] theorem State.showShed_quiet (s : State) : (State.showShed s).quiet own = s.quiet own := by
  unfold State.showShed
  extract_lets a t
  have e : t.quiet own = s.quiet own := setOb_quiet' s _ _ moves_shedCount
  split
  · exact (State.post_quiet ..).trans ((with_arb_quiet ..).trans e)
  · exact e
@[simp] theorem State.restoredOne_quiet (s : State) (sig : Nat) : (State.restoredOne s sig).quiet own = s.quiet own := by
  simp [State.restoredOne]
@[simp] theorem State.unshed_quiet (s : State) (sig : Nat) : (State.unshed s sig).quiet own = s.quiet own := by
  simp [State.unshed]
@[simp] theorem State.portTake_quiet (s : State) (x : Nat × Nat) : (State.portTake s x).quiet own = s.quiet own := by
  simp [State.portTake]
@[simp] theorem State.release_quiet (s : State) (r : AdmRequest) : (State.release s r).quiet own = s.quiet own := by
  simp only [State.release]; (repeat' split) <;> simp
@[simp] theorem State.noteWait_quiet (s : State) (r : AdmRequest) : (State.noteWait s r).quiet own = s.quiet own := by
  simp [State.noteWait]
@[simp] theorem State.admitNow_quiet (s : State) (r : AdmRequest) : (State.admitNow s r).quiet own = s.quiet own := by
  simp only [State.admitNow, State.release_quiet, State.noteWait_quiet, setOb_quiet', bump_quiet', with_arb_quiet, State.postIf_quiet, moves_admittedCount, moves_waitMax]
@[simp] theorem State.admitS_quiet (s : State) (r : AdmRequest) : (State.admitS s r).quiet own = s.quiet own := by
  simp [State.admitS]
@[simp] theorem State.checkOver_quiet (s : State) : (State.checkOver s).quiet own = s.quiet own := by
  simp [State.checkOver]
@[simp] theorem State.runQueueN_quiet (n : Nat) (s : State) : (State.runQueueN n s).quiet own = s.quiet own := by
  induction n generalizing s with
  | zero => simp [State.runQueueN]
  | succ n ih =>
    simp only [State.runQueueN]
    split
    · simp
    · split <;> simp [ih]
@[simp] theorem State.refillN_quiet (n : Nat) (s : State) : (State.refillN n s).quiet own = s.quiet own := by
  induction n generalizing s with
  | zero => simp [State.refillN]
  | succ n ih =>
    simp only [State.refillN]
    split
    · simp
    · split <;> simp [ih]
@[simp] theorem State.runQueue_quiet (s : State) : (State.runQueue s).quiet own = s.quiet own := by simp [State.runQueue]
@[simp] theorem State.refuse_quiet (s : State) (r : AdmRequest) : (State.refuse s r).quiet own = s.quiet own := by
  simp [State.refuse]
@[simp] theorem State.showWait_quiet (s : State) (sig : Nat) : (State.showWait s sig).quiet own = s.quiet own := by
  simp only [State.showWait]; (repeat' split) <;> simp
@[simp] theorem State.present_quiet (s : State) (r : AdmRequest) : (State.present s r).quiet own = s.quiet own := by
  simp only [State.present]; (repeat' split) <;> simp
@[simp] theorem State.withdrawIf_quiet (s : State) (p : AdmRequest → Bool) : (State.withdrawIf s p).quiet own = s.quiet own := by
  simp [State.withdrawIf]
@[simp] theorem State.withdraw_quiet (s : State) (sig : Nat) : (State.withdraw s sig).quiet own = s.quiet own := by
  simp [State.withdraw]
@[simp] theorem State.revise_quiet (s : State) (old new : AdmRequest) : (State.revise s old new).quiet own = s.quiet own := by
  simp [State.revise]
@[simp] theorem State.keepAge_quiet (s : State) (key : Nat) (t : Tick) : (State.keepAge s key t).quiet own = s.quiet own := by
  simp [State.keepAge]
@[simp] theorem State.takeAge_quiet (s : State) (key : Nat) : (State.takeAge s key).quiet own = s.quiet own := by
  simp [State.takeAge]
@[simp] theorem State.dropEntry_quiet (s : State) (sig : Nat) : (State.dropEntry s sig).quiet own = s.quiet own := by
  simp [State.dropEntry]
@[simp] theorem State.reduceEntry_quiet (s : State) (sig v : Nat) : (State.reduceEntry s sig v).quiet own = s.quiet own := by
  unfold State.reduceEntry; split <;> simp
@[simp] theorem State.ownedBy_quiet (s : State) (sig : Nat) : (State.ownedBy s sig).quiet own = s.quiet own := by
  simp [State.ownedBy]
@[simp] theorem State.applyValue_quiet (s : State) (sig v : Nat) : (State.applyValue s sig v).quiet own = s.quiet own := by
  simp [State.applyValue]
@[simp] theorem State.reviseTo_quiet (s : State) (sig cls v : Nat) : (State.reviseTo s sig cls v).quiet own = s.quiet own := by
  unfold State.reviseTo; (repeat' split) <;> simp
@[simp] theorem State.submit_quiet (s : State) (sig cls v : Nat) : (State.submit s sig cls v).quiet own = s.quiet own := by
  unfold State.submit; (repeat' split) <;> simp
@[simp] theorem State.dropRaise_quiet (s : State) (sig : Nat) : (State.dropRaise s sig).quiet own = s.quiet own := by
  simp [State.dropRaise]
@[simp] theorem State.portRaise_quiet (s : State) (sig cls v : Nat) : (State.portRaise s sig cls v).quiet own = s.quiet own := by
  simp [State.portRaise]
@[simp] theorem State.portLower_quiet (s : State) (sig v : Nat) : (State.portLower s sig v).quiet own = s.quiet own := by
  simp [State.portLower]
@[simp] theorem State.holdEnvelope_quiet (s : State) (sig level : Nat) : (State.holdEnvelope s sig level).quiet own = s.quiet own := by
  unfold State.holdEnvelope; split <;> simp
@[simp] theorem State.resolveTagged_quiet (s : State) (sig code tag v : Nat) : (State.resolveTagged s sig code tag v).quiet own = s.quiet own := by
  unfold State.resolveTagged; (repeat' split) <;> simp
@[simp] theorem State.resolvePort_quiet (s : State) (sig code tag v : Nat) : (State.resolvePort s sig code tag v).quiet own = s.quiet own := by
  simp [State.resolvePort]
@[simp] theorem State.resolve_quiet (s : State) (sig : Nat) : (State.resolve s sig).quiet own = s.quiet own := by
  simp only [State.resolve]; (repeat' split) <;> simp
@[simp] theorem State.resubmit_quiet (s : State) (sig : Nat) : (State.resubmit s sig).quiet own = s.quiet own := by
  unfold State.resubmit; (repeat' split) <;> simp
@[simp] theorem State.setBrFlag_quiet (s : State) (h i : Nat) (b : Bool) : (State.setBrFlag s h i b).quiet own = s.quiet own := by
  simp [State.setBrFlag]
@[simp] theorem State.brSlot_quiet (s : State) (h k value : Nat) : (State.brSlot s h k value).quiet own = s.quiet own := by
  simp [State.brSlot]
@[simp] theorem State.brUnload_quiet (s : State) (h : Nat) : (State.brUnload s h).quiet own = s.quiet own := by
  simp [State.brUnload]
@[simp] theorem State.brStop_quiet (s : State) (h reason : Nat) : (State.brStop s h reason).quiet own = s.quiet own := by
  simp [State.brStop]
@[simp] theorem State.brPresent_quiet (s : State) (h dir cls code : Nat) : (State.brPresent s h dir cls code).quiet own = s.quiet own := by
  simp only [State.brPresent]; (repeat' split) <;> simp
@[simp] theorem State.brMove_quiet (s : State) (h dir : Nat) : (State.brMove s h dir).quiet own = s.quiet own := by
  simp [State.brMove]
@[simp] theorem State.brHalt_quiet (s : State) (h reason : Nat) : (State.brHalt s h reason).quiet own = s.quiet own := by
  simp [State.brHalt]
@[simp] theorem State.brHold_quiet (s : State) (h : Nat) : (State.brHold s h).quiet own = s.quiet own := by
  simp [State.brHold]
@[simp] theorem State.lockPulse_quiet (s : State) (h code : Nat) : (State.lockPulse s h code).quiet own = s.quiet own := by
  simp [State.lockPulse]
@[simp] theorem State.wiperAct_quiet (s : State) (h code : Nat) : (State.wiperAct s h code).quiet own = s.quiet own := by
  simp [State.wiperAct]
@[simp] theorem State.windowAct_quiet (s : State) (h code : Nat) : (State.windowAct s h code).quiet own = s.quiet own := by
  simp only [State.windowAct]; (repeat' split) <;> simp
@[simp] theorem State.brAct_quiet (s : State) (h code : Nat) : (State.brAct s h code).quiet own = s.quiet own := by
  unfold State.brAct; (repeat' split) <;> simp
@[simp] theorem State.gdResubmit_quiet (s : State) (c why : Nat) : (State.gdResubmit s c why).quiet own = s.quiet own := by
  simp only [State.gdResubmit]; (repeat' split) <;> simp
@[simp] theorem State.svResubmit_quiet (s : State) (c why : Nat) : (State.svResubmit s c why).quiet own = s.quiet own := by
  simp [State.svResubmit]
@[simp] theorem State.doutResubmit_quiet (s : State) (d why : Nat) : (State.doutResubmit s d why).quiet own = s.quiet own := by
  simp [State.doutResubmit]
@[simp] theorem State.mxRestart_quiet (s : State) (p why : Nat) : (State.mxRestart s p why).quiet own = s.quiet own := by
  simp [State.mxRestart]
@[simp] theorem State.endEnvelope_quiet (s : State) (sig : Nat) : (State.endEnvelope s sig).quiet own = s.quiet own := by
  unfold State.endEnvelope; (repeat' split) <;> simp
@[simp] theorem State.endEnvelopes_quiet (s : State) (g : Nat) : (State.endEnvelopes s g).quiet own = s.quiet own := by
  simp [State.endEnvelopes]
@[simp] theorem State.freeEngine_quiet (s : State) (e : Nat) : (State.freeEngine s e).quiet own = s.quiet own := by
  unfold State.freeEngine; split <;> simp
@[simp] theorem State.endFade_quiet (s : State) (g code : Nat) : (State.endFade s g code).quiet own = s.quiet own := by
  unfold State.endFade; split <;> simp
@[simp] theorem State.setLevel_quiet (s : State) (g code l : Nat) : (State.setLevel s g code l).quiet own = s.quiet own := by
  simp [State.setLevel]
@[simp] theorem State.claimMembers_quiet (s : State) (g : Nat) (cls : Cls) (holder tag session : Nat) (v : Nat → Nat → Nat) : (State.claimMembers s g cls holder tag session v).quiet own = s.quiet own := by
  unfold State.claimMembers
  exact foldl_quiet _ _ _ fun s a => by simp
@[simp] theorem State.startFade_quiet (s : State) (g : Nat) (cls : Cls) (holder session level time : Nat) : (State.startFade s g cls holder session level time).quiet own = s.quiet own := by
  simp [State.startFade]
@[simp] theorem State.stepMember_quiet (s : State) (cls : Cls) (holder tag sig l : Nat) : (State.stepMember s cls holder tag sig l).quiet own = s.quiet own := by
  simp [State.stepMember]
@[simp] theorem State.fadeStep_quiet (s : State) (f : Fade) : (State.fadeStep s f).quiet own = s.quiet own := by
  simp [State.fadeStep]
@[simp] theorem State.shedOne_quiet (s : State) (reason sig : Nat) : (State.shedOne s reason sig).quiet own = s.quiet own := by
  simp [State.shedOne]
@[simp] theorem State.shedClass_quiet (s : State) (code reason : Nat) : (State.shedClass s code reason).quiet own = s.quiet own := by
  simp [State.shedClass]
@[simp] theorem State.sagC_quiet (s : State) (v : Nat) : (State.sagC s v).quiet own = s.quiet own := by simp [State.sagC]
@[simp] theorem State.sagA_quiet (s : State) (v : Nat) : (State.sagA s v).quiet own = s.quiet own := by simp [State.sagA]
@[simp] theorem State.resolveAll_quiet (s : State) (l : List Nat) : (State.resolveAll s l).quiet own = s.quiet own := by
  simp [State.resolveAll]

end Sys2Proof.Machine
end

