-- ==== Sys2Proof/Laws/Config.lean ====
section
/-!
SUPPORT. Which operations leave the configuration and the queue alone: one lemma per operation says that `State.conf`, the
configuration in force and everywhere it is kept, with the queue, is as it was. Those that move it have none here: a commit
that takes effect or becomes durable, a request that may carry a commit, a start or restart of the Fly die, the choice and
repair of the copies, and an update's migration.
-/

namespace Sys2Proof.Machine

/-- What holds configuration, and the queue. -/
def State.conf (s : State) : Regs × Table ConfigCopy × List CommitJob × Option Regs × Option Regs × List Instr :=
  (s.cfg, s.ft.copies, s.commits, s.upd.keep, s.upd.migrated, s.pending)
theorem conf_of_quiet {s t : State} (e : t.quiet [] = s.quiet []) : t.conf = s.conf := by
  have h : (t.quiet []).conf = (s.quiet []).conf := congrArg State.conf e
  exact h
@[simp] theorem ite_conf {c : Prop} [Decidable c] (a b : State) : (if c then a else b).conf = if c then a.conf else b.conf := by
  split <;> rfl
theorem foldl_conf {α : Type} (l : List α) (f : State → α → State) (s : State) (h : ∀ s a, (f s a).conf = s.conf) :
    (l.foldl f s).conf = s.conf := by
  induction l generalizing s with
  | nil => rfl
  | cons a r ih => rw [List.foldl_cons, ih, h]
@[simp] theorem forRange_conf (n : Nat) (f : State → Nat → State) (s : State) (h : ∀ s a, (f s a).conf = s.conf) :
    (forRange n f s).conf = s.conf := foldl_conf _ _ _ h
@[simp] theorem forEach_conf {α : Type} (l : List α) (f : State → α → State) (s : State) (h : ∀ s a, (f s a).conf = s.conf) :
    (forEach l f s).conf = s.conf := foldl_conf _ _ _ h
theorem foldl_fst_conf {α β : Type} (l : List α) (f : State × β → α → State × β) (a : State × β)
    (h : ∀ a x, (f a x).1.conf = a.1.conf) : (l.foldl f a).1.conf = a.1.conf := by
  induction l generalizing a with
  | nil => rfl
  | cons x r ih => rw [List.foldl_cons, ih, h]
@[simp] theorem bump_conf (s : State) (k : Nat) : (s.bump k).conf = s.conf := (rfl)
@[simp] theorem bumpBy_conf (s : State) (k n : Nat) : (s.bumpBy k n).conf = s.conf := (rfl)
@[simp] theorem bumpSat_conf (s : State) (k n : Nat) : (s.bumpSat k n).conf = s.conf := (rfl)
@[simp] theorem setBit_conf (s : State) (k n : Nat) (b : Bool) : (s.setBit k n b).conf = s.conf := (rfl)
@[simp] theorem setIn_conf (s : State) (n : Nat) (f : Nat → Nat) (i v : Nat) : (s.setIn n f i v).conf = s.conf := by
  unfold State.setIn; split <;> rfl
@[simp] theorem setOb_conf (s : State) (k v : Nat) : (s.setOb k v).conf = s.conf := (rfl)
@[simp] theorem with_obj_conf (s : State) x : ({ s with obj := x } : State).conf = s.conf := (rfl)
@[simp] theorem with_reply_conf (s : State) x : ({ s with reply := x } : State).conf = s.conf := (rfl)
@[simp] theorem with_tb_conf (s : State) x : ({ s with tb := x } : State).conf = s.conf := (rfl)
@[simp] theorem with_timers_conf (s : State) x : ({ s with timers := x } : State).conf = s.conf := (rfl)
@[simp] theorem with_gsArmed_conf (s : State) x : ({ s with gsArmed := x } : State).conf = s.conf := (rfl)
@[simp] theorem with_fab_conf (s : State) x : ({ s with fab := x } : State).conf = s.conf := (rfl)
@[simp] theorem with_flog_conf (s : State) x : ({ s with flog := x } : State).conf = s.conf := (rfl)
@[simp] theorem with_sessions_conf (s : State) x : ({ s with sessions := x } : State).conf = s.conf := (rfl)
@[simp] theorem with_secure_conf (s : State) x : ({ s with secure := x } : State).conf = s.conf := (rfl)
@[simp] theorem with_holds_conf (s : State) x : ({ s with holds := x } : State).conf = s.conf := (rfl)
@[simp] theorem with_marks_conf (s : State) x : ({ s with marks := x } : State).conf = s.conf := (rfl)
@[simp] theorem with_commitSerial_conf (s : State) x : ({ s with commitSerial := x } : State).conf = s.conf := (rfl)
@[simp] theorem with_maps_conf (s : State) x : ({ s with maps := x } : State).conf = s.conf := (rfl)
@[simp] theorem with_anon_conf (s : State) x : ({ s with anon := x } : State).conf = s.conf := (rfl)
@[simp] theorem with_sdo_conf (s : State) x : ({ s with sdo := x } : State).conf = s.conf := (rfl)
@[simp] theorem with_hal_conf (s : State) x : ({ s with hal := x } : State).conf = s.conf := (rfl)
@[simp] theorem with_own_conf (s : State) x : ({ s with own := x } : State).conf = s.conf := (rfl)
@[simp] theorem with_hb_conf (s : State) x : ({ s with hb := x } : State).conf = s.conf := (rfl)
@[simp] theorem with_hoist_conf (s : State) x : ({ s with hoist := x } : State).conf = s.conf := (rfl)
@[simp] theorem with_eng_conf (s : State) x : ({ s with eng := x } : State).conf = s.conf := (rfl)
@[simp] theorem with_arb_conf (s : State) x : ({ s with arb := x } : State).conf = s.conf := (rfl)
@[simp] theorem with_ledger_conf (s : State) x : ({ s with ledger := x } : State).conf = s.conf := (rfl)
@[simp] theorem with_flyStarts_conf (s : State) x : ({ s with flyStarts := x } : State).conf = s.conf := (rfl)
@[simp] theorem with_gd_conf (s : State) x : ({ s with gd := x } : State).conf = s.conf := (rfl)
@[simp] theorem with_br_conf (s : State) x : ({ s with br := x } : State).conf = s.conf := (rfl)
@[simp] theorem with_fan_conf (s : State) x : ({ s with fan := x } : State).conf = s.conf := (rfl)
@[simp] theorem with_sv_conf (s : State) x : ({ s with sv := x } : State).conf = s.conf := (rfl)
@[simp] theorem with_din_conf (s : State) x : ({ s with din := x } : State).conf = s.conf := (rfl)
@[simp] theorem with_dout_conf (s : State) x : ({ s with dout := x } : State).conf = s.conf := (rfl)
@[simp] theorem with_ain_conf (s : State) x : ({ s with ain := x } : State).conf = s.conf := (rfl)
@[simp] theorem with_tach_conf (s : State) x : ({ s with tach := x } : State).conf = s.conf := (rfl)
@[simp] theorem with_pp_conf (s : State) x : ({ s with pp := x } : State).conf = s.conf := (rfl)
@[simp] theorem with_cal_conf (s : State) x : ({ s with cal := x } : State).conf = s.conf := (rfl)
@[simp] theorem with_meas_conf (s : State) x : ({ s with meas := x } : State).conf = s.conf := (rfl)
@[simp] theorem with_warm_conf (s : State) x : ({ s with warm := x } : State).conf = s.conf := (rfl)
@[simp] theorem with_sampled_conf (s : State) x : ({ s with sampled := x } : State).conf = s.conf := (rfl)
@[simp] theorem with_cable_conf (s : State) x : ({ s with cable := x } : State).conf = s.conf := (rfl)
@[simp] theorem with_pulseAt_conf (s : State) x : ({ s with pulseAt := x } : State).conf = s.conf := (rfl)
@[simp] theorem with_bp_conf (s : State) x : ({ s with bp := x } : State).conf = s.conf := (rfl)
@[simp] theorem with_mx_conf (s : State) x : ({ s with mx := x } : State).conf = s.conf := (rfl)
@[simp] theorem with_light_conf (s : State) x : ({ s with light := x } : State).conf = s.conf := (rfl)
@[simp] theorem with_factors_conf (s : State) x : ({ s with factors := x } : State).conf = s.conf := (rfl)
@[simp] theorem with_lastDerate_conf (s : State) x : ({ s with lastDerate := x } : State).conf = s.conf := (rfl)
@[simp] theorem with_nb_conf (s : State) x : ({ s with nb := x } : State).conf = s.conf := (rfl)
@[simp] theorem with_can_conf (s : State) x : ({ s with can := x } : State).conf = s.conf := (rfl)
@[simp] theorem with_mo_conf (s : State) x : ({ s with mo := x } : State).conf = s.conf := (rfl)
@[simp] theorem with_vsensAt_conf (s : State) x : ({ s with vsensAt := x } : State).conf = s.conf := (rfl)
@[simp] theorem with_cs_conf (s : State) x : ({ s with cs := x } : State).conf = s.conf := (rfl)
@[simp] theorem with_csNext_conf (s : State) x : ({ s with csNext := x } : State).conf = s.conf := (rfl)
@[simp] theorem with_ring_conf (s : State) x : ({ s with ring := x } : State).conf = s.conf := (rfl)
@[simp] theorem with_pw_conf (s : State) x : ({ s with pw := x } : State).conf = s.conf := (rfl)
@[simp] theorem with_boot_conf (s : State) x : ({ s with boot := x } : State).conf = s.conf := (rfl)
@[simp] theorem with_bg_conf (s : State) x : ({ s with bg := x } : State).conf = s.conf := (rfl)
@[simp] theorem with_link_conf (s : State) x : ({ s with link := x } : State).conf = s.conf := (rfl)
@[simp] theorem State.idle_conf (s : State) : (State.idle s).conf = s.conf := by simp [State.idle]
@[simp] theorem State.postAt_conf (s : State) (ts : Tick) (ev value : Nat) : (State.postAt s ts ev value).conf = s.conf := conf_of_quiet (State.postAt_quiet s ts ev value)
@[simp] theorem State.post_conf (s : State) (ev value : Nat) : (State.post s ev value).conf = s.conf := conf_of_quiet (State.post_quiet s ev value)
@[simp] theorem State.postIf_conf (s : State) (c : Bool) (ev value : Nat) : (State.postIf s c ev value).conf = s.conf := conf_of_quiet (State.postIf_quiet s c ev value)
@[simp] theorem State.logFault_conf (s : State) (id : Nat) (sev : Severity) (level : Nat) (ts : Tick) (ev place offset value : Nat) : (State.logFault s id sev level ts ev place offset value).conf = s.conf := by
  simp [State.logFault]
@[simp] theorem State.storeRecord_conf (s : State) (r : LedgerRecord) : (State.storeRecord s r).conf = s.conf := conf_of_quiet (State.storeRecord_quiet s r)
@[simp] theorem State.dropRecord_conf (s : State) : (State.dropRecord s).conf = s.conf := conf_of_quiet (State.dropRecord_quiet s)
@[simp] theorem State.record_conf (s : State) (r : LedgerRecord) : (State.record s r).conf = s.conf := conf_of_quiet (State.record_quiet s r)
@[simp] theorem State.setSession_conf (s : State) (x : Session) : (State.setSession s x).conf = s.conf := (rfl)
@[simp] theorem State.setSob_conf (s : State) (h k v : Nat) : (State.setSob s h k v).conf = s.conf := by
  unfold State.setSob; split <;> simp
@[simp] theorem State.recordWake_conf (s : State) (cause detail : Nat) : (State.recordWake s cause detail).conf = s.conf := (rfl)
@[simp] theorem State.beginExit_conf (s : State) (cause detail : Nat) : (State.beginExit s cause detail).conf = s.conf := (rfl)
@[simp] theorem State.putVotes_conf (s : State) (holder mask : Nat) (b : Bool) : (State.putVotes s holder mask b).conf = s.conf := by
  simp [State.putVotes]
@[simp] theorem State.holdVotes_conf (s : State) (at_ : Tick) : (State.holdVotes s at_).conf = s.conf := by
  simp [State.holdVotes]
@[simp] theorem State.showTarget_conf (s : State) : (State.showTarget s).conf = s.conf := (rfl)
@[simp] theorem State.votesMoved_conf (s : State) (old holder : Nat) : (State.votesMoved s old holder).conf = s.conf := by
  simp only [State.votesMoved]; (repeat' split) <;> first | rfl | simp
@[simp] theorem State.placeVotes_conf (s : State) (holder mask : Nat) : (State.placeVotes s holder mask).conf = s.conf := by
  simp [State.placeVotes]
@[simp] theorem State.dropVotes_conf (s : State) (holder mask : Nat) : (State.dropVotes s holder mask).conf = s.conf := by
  simp [State.dropVotes]
@[simp] theorem State.setVotes_conf (s : State) (holder mask : Nat) : (State.setVotes s holder mask).conf = s.conf := by
  simp [State.setVotes]
@[simp] theorem State.placeHold_conf (s : State) (at_ : Tick) : (State.placeHold s at_).conf = s.conf := by
  simp [State.placeHold]
@[simp] theorem State.wake_conf (s : State) (cause detail : Nat) : (State.wake s cause detail).conf = s.conf := by
  simp only [State.wake]; (repeat' split) <;> simp
@[simp] theorem State.setGd_conf (s : State) (n : Nat) (c : GdChannel) : (State.setGd s n c).conf = s.conf := conf_of_quiet (State.setGd_quiet s n c)
@[simp] theorem State.setSv_conf (s : State) (n : Nat) (c : SvChannel) : (State.setSv s n c).conf = s.conf := conf_of_quiet (State.setSv_quiet s n c)
@[simp] theorem State.setDout_conf (s : State) (n : Nat) (c : Dout) : (State.setDout s n c).conf = s.conf := conf_of_quiet (State.setDout_quiet s n c)
@[simp] theorem State.setBr_conf (s : State) (n : Nat) (c : Bridge) : (State.setBr s n c).conf = s.conf := conf_of_quiet (State.setBr_quiet s n c)
@[simp] theorem State.setFan_conf (s : State) (n : Nat) (c : Fan) : (State.setFan s n c).conf = s.conf := conf_of_quiet (State.setFan_quiet s n c)
@[simp] theorem State.setMx_conf (s : State) (n : Nat) (c : MxPort) : (State.setMx s n c).conf = s.conf := conf_of_quiet (State.setMx_quiet s n c)
@[simp] theorem State.setBp_conf (s : State) (n : Nat) (c : BuntingPort) : (State.setBp s n c).conf = s.conf := conf_of_quiet (State.setBp_quiet s n c)
@[simp] theorem State.setPp_conf (s : State) (n : Nat) (c : Passport) : (State.setPp s n c).conf = s.conf := (rfl)
@[simp] theorem State.setCal_conf (s : State) (n : Nat) (c : Calib) : (State.setCal s n c).conf = s.conf := (rfl)
@[simp] theorem State.sampleSupply_conf (s : State) (m v : Nat) : (State.sampleSupply s m v).conf = s.conf := (rfl)
@[simp] theorem State.svPost_conf (s : State) (c k v : Nat) : (State.svPost s c k v).conf = s.conf := (rfl)
@[simp] theorem State.svPostIf_conf (s : State) (b : Bool) (c k v : Nat) : (State.svPostIf s b c k v).conf = s.conf := by
  simp [State.svPostIf]
@[simp] theorem State.setSvBit_conf (s : State) (c i : Nat) (b : Bool) : (State.setSvBit s c i b).conf = s.conf := (rfl)
@[simp] theorem State.svShowOpen_conf (s : State) (c : Nat) : (State.svShowOpen s c).conf = s.conf := by
  simp [State.svShowOpen]
@[simp] theorem State.svEnter_conf (s : State) (c ph : Nat) : (State.svEnter s c ph).conf = s.conf := conf_of_quiet (State.svEnter_quiet s c ph)
@[simp] theorem State.svMoved_conf (s : State) (c result time : Nat) : (State.svMoved s c result time).conf = s.conf := by
  unfold State.svMoved; split <;> simp
@[simp] theorem State.svInterrupt_conf (s : State) (c : Nat) : (State.svInterrupt s c).conf = s.conf := by
  simp [State.svInterrupt]
@[simp] theorem State.svDecay_conf (s : State) (c : Nat) : (State.svDecay s c).conf = s.conf := by simp [State.svDecay]
@[simp] theorem State.svHold_conf (s : State) (c : Nat) : (State.svHold s c).conf = s.conf := by simp [State.svHold]
@[simp] theorem State.svPeak_conf (s : State) (c : Nat) : (State.svPeak s c).conf = s.conf := by simp [State.svPeak]
@[simp] theorem State.svBoostReached_conf (s : State) (c : Nat) : (State.svBoostReached s c).conf = s.conf := by
  simp [State.svBoostReached]
@[simp] theorem State.svStart_conf (s : State) (c i : Nat) : (State.svStart s c i).conf = s.conf := by
  simp [State.svStart]
@[simp] theorem State.svStagesOff_conf (s : State) (c i : Nat) : (State.svStagesOff s c i).conf = s.conf := by
  simp [State.svStagesOff]
@[simp] theorem State.svFastOff_conf (s : State) (c i : Nat) : (State.svFastOff s c i).conf = s.conf := by
  simp [State.svFastOff]
@[simp] theorem State.svCancel_conf (s : State) (c : Nat) : (State.svCancel s c).conf = s.conf := by
  simp [State.svCancel]
@[simp] theorem State.svOff_conf (s : State) (c i : Nat) : (State.svOff s c i).conf = s.conf := by simp [State.svOff]
@[simp] theorem State.gdShow_conf (s : State) (c v : Nat) : (State.gdShow s c v).conf = s.conf := conf_of_quiet (State.gdShow_quiet s c v)
@[simp] theorem State.gdApplyAt_conf (s : State) (c v period : Nat) : (State.gdApplyAt s c v period).conf = s.conf := conf_of_quiet (State.gdApplyAt_quiet s c v period)
@[simp] theorem State.gdApply_conf (s : State) (c v : Nat) : (State.gdApply s c v).conf = s.conf := conf_of_quiet (State.gdApply_quiet s c v)
@[simp] theorem State.gdCancel_conf (s : State) (c : Nat) : (State.gdCancel s c).conf = s.conf := conf_of_quiet (State.gdCancel_quiet s c)
@[simp] theorem State.gdOff_conf (s : State) (c : Nat) : (State.gdOff s c).conf = s.conf := conf_of_quiet (State.gdOff_quiet s c)
@[simp] theorem State.gdDrive_conf (s : State) (c v : Nat) : (State.gdDrive s c v).conf = s.conf := conf_of_quiet (State.gdDrive_quiet s c v)
@[simp] theorem State.brChannels_conf (s : State) (h dir duty : Nat) : (State.brChannels s h dir duty).conf = s.conf := conf_of_quiet (State.brChannels_quiet s h dir duty)
@[simp] theorem State.brShow_conf (s : State) (h st : Nat) : (State.brShow s h st).conf = s.conf := conf_of_quiet (State.brShow_quiet s h st)
@[simp] theorem State.brStart_conf (s : State) (h : Nat) : (State.brStart s h).conf = s.conf := conf_of_quiet (State.brStart_quiet s h)
@[simp] theorem State.fanOff_conf (s : State) (f : Nat) : (State.fanOff s f).conf = s.conf := conf_of_quiet (State.fanOff_quiet s f)
@[simp] theorem State.fanDuty_conf (s : State) (f d : Nat) : (State.fanDuty s f d).conf = s.conf := conf_of_quiet (State.fanDuty_quiet s f d)
@[simp] theorem State.fanStart_conf (s : State) (f : Nat) : (State.fanStart s f).conf = s.conf := conf_of_quiet (State.fanStart_quiet s f)
@[simp] theorem State.fanDeliver_conf (s : State) (f v : Nat) : (State.fanDeliver s f v).conf = s.conf := conf_of_quiet (State.fanDeliver_quiet s f v)
@[simp] theorem State.doutShow_conf (s : State) (d v : Nat) : (State.doutShow s d v).conf = s.conf := conf_of_quiet (State.doutShow_quiet s d v)
@[simp] theorem State.doutCancel_conf (s : State) (d : Nat) : (State.doutCancel s d).conf = s.conf := conf_of_quiet (State.doutCancel_quiet s d)
@[simp] theorem State.doutDrive_conf (s : State) (d v : Nat) : (State.doutDrive s d v).conf = s.conf := conf_of_quiet (State.doutDrive_quiet s d v)
@[simp] theorem State.drive_conf (s : State) (sig v0 : Nat) : (State.drive s sig v0).conf = s.conf := conf_of_quiet (State.drive_quiet s sig v0)
@[simp] theorem State.command_conf (s : State) (sig v : Nat) : (State.command s sig v).conf = s.conf := conf_of_quiet (State.command_quiet s sig v)
@[simp] theorem State.hoistGd_conf (s : State) (c : Nat) : (State.hoistGd s c).conf = s.conf := by
  simp only [State.hoistGd]; (repeat' split) <;> simp
@[simp] theorem State.hoistSv_conf (s : State) (c : Nat) : (State.hoistSv s c).conf = s.conf := by simp [State.hoistSv]
@[simp] theorem State.hoistDout_conf (s : State) (d : Nat) : (State.hoistDout s d).conf = s.conf := by
  simp [State.hoistDout]
@[simp] theorem State.hoistMx_conf (s : State) (p : Nat) : (State.hoistMx s p).conf = s.conf := by simp [State.hoistMx]
@[simp] theorem State.stopBunting_conf (s : State) (p : Nat) : (State.stopBunting s p).conf = s.conf := by
  simp [State.stopBunting]
@[simp] theorem State.hoistSafe_conf (s : State) : (State.hoistSafe s).conf = s.conf := by simp [State.hoistSafe]
@[simp] theorem State.hoistFollow_conf (s : State) : (State.hoistFollow s).conf = s.conf := by simp [State.hoistFollow]
@[simp] theorem State.endHoistSafe_conf (s : State) : (State.endHoistSafe s).conf = s.conf := by
  simp only [State.endHoistSafe]
  exact (forRange_conf _ _ _ fun _ _ => setOb_conf _ _ _).trans <| (forRange_conf _ _ _ fun _ _ => setOb_conf _ _ _).trans <| (forRange_conf _ _ _ fun _ _ => setOb_conf _ _ _).trans <| with_hoist_conf s _
@[simp] theorem State.setSlot_conf (s : State) (sig : Nat) (x : Cls) (v : Option Claim) : (State.setSlot s sig x v).conf = s.conf := conf_of_quiet (State.setSlot_quiet s sig x v)
@[simp] theorem State.commandOwned_conf (s : State) (sig v : Nat) : (State.commandOwned s sig v).conf = s.conf := conf_of_quiet (State.commandOwned_quiet s sig v)
@[simp] theorem State.portFit_conf (s : State) (port cls : Nat) : (State.portFit s port cls).conf = s.conf := conf_of_quiet (State.portFit_quiet s port cls)
@[simp] theorem State.undark_conf (s : State) (sig : Nat) : (State.undark s sig).conf = s.conf := conf_of_quiet (State.undark_quiet s sig)
@[simp] theorem State.showShed_conf (s : State) : (State.showShed s).conf = s.conf := conf_of_quiet (State.showShed_quiet s)
@[simp] theorem State.restoredOne_conf (s : State) (sig : Nat) : (State.restoredOne s sig).conf = s.conf := conf_of_quiet (State.restoredOne_quiet s sig)
@[simp] theorem State.unshed_conf (s : State) (sig : Nat) : (State.unshed s sig).conf = s.conf := conf_of_quiet (State.unshed_quiet s sig)
@[simp] theorem State.portTake_conf (s : State) (x : Nat × Nat) : (State.portTake s x).conf = s.conf := conf_of_quiet (State.portTake_quiet s x)
@[simp] theorem State.release_conf (s : State) (r : AdmRequest) : (State.release s r).conf = s.conf := conf_of_quiet (State.release_quiet s r)
@[simp] theorem State.noteWait_conf (s : State) (r : AdmRequest) : (State.noteWait s r).conf = s.conf := conf_of_quiet (State.noteWait_quiet s r)
@[simp] theorem State.admitNow_conf (s : State) (r : AdmRequest) : (State.admitNow s r).conf = s.conf := conf_of_quiet (State.admitNow_quiet s r)
@[simp] theorem State.admitS_conf (s : State) (r : AdmRequest) : (State.admitS s r).conf = s.conf := conf_of_quiet (State.admitS_quiet s r)
@[simp] theorem State.checkOver_conf (s : State) : (State.checkOver s).conf = s.conf := conf_of_quiet (State.checkOver_quiet s)
@[simp] theorem State.runQueue_conf (s : State) : (State.runQueue s).conf = s.conf := conf_of_quiet (State.runQueue_quiet s)
@[simp] theorem State.refuse_conf (s : State) (r : AdmRequest) : (State.refuse s r).conf = s.conf := conf_of_quiet (State.refuse_quiet s r)
@[simp] theorem State.showWait_conf (s : State) (sig : Nat) : (State.showWait s sig).conf = s.conf := conf_of_quiet (State.showWait_quiet s sig)
@[simp] theorem State.present_conf (s : State) (r : AdmRequest) : (State.present s r).conf = s.conf := conf_of_quiet (State.present_quiet s r)
@[simp] theorem State.withdrawIf_conf (s : State) (p : AdmRequest → Bool) : (State.withdrawIf s p).conf = s.conf := conf_of_quiet (State.withdrawIf_quiet s p)
@[simp] theorem State.withdraw_conf (s : State) (sig : Nat) : (State.withdraw s sig).conf = s.conf := conf_of_quiet (State.withdraw_quiet s sig)
@[simp] theorem State.revise_conf (s : State) (old new : AdmRequest) : (State.revise s old new).conf = s.conf := conf_of_quiet (State.revise_quiet s old new)
@[simp] theorem State.keepAge_conf (s : State) (key : Nat) (t : Tick) : (State.keepAge s key t).conf = s.conf := conf_of_quiet (State.keepAge_quiet s key t)
@[simp] theorem State.takeAge_conf (s : State) (key : Nat) : (State.takeAge s key).conf = s.conf := conf_of_quiet (State.takeAge_quiet s key)
@[simp] theorem State.dropEntry_conf (s : State) (sig : Nat) : (State.dropEntry s sig).conf = s.conf := conf_of_quiet (State.dropEntry_quiet s sig)
@[simp] theorem State.reduceEntry_conf (s : State) (sig v : Nat) : (State.reduceEntry s sig v).conf = s.conf := conf_of_quiet (State.reduceEntry_quiet s sig v)
@[simp] theorem State.ownedBy_conf (s : State) (sig : Nat) : (State.ownedBy s sig).conf = s.conf := conf_of_quiet (State.ownedBy_quiet s sig)
@[simp] theorem State.applyValue_conf (s : State) (sig v : Nat) : (State.applyValue s sig v).conf = s.conf := conf_of_quiet (State.applyValue_quiet s sig v)
@[simp] theorem State.reviseTo_conf (s : State) (sig cls v : Nat) : (State.reviseTo s sig cls v).conf = s.conf := conf_of_quiet (State.reviseTo_quiet s sig cls v)
@[simp] theorem State.submit_conf (s : State) (sig cls v : Nat) : (State.submit s sig cls v).conf = s.conf := conf_of_quiet (State.submit_quiet s sig cls v)
@[simp] theorem State.dropRaise_conf (s : State) (sig : Nat) : (State.dropRaise s sig).conf = s.conf := conf_of_quiet (State.dropRaise_quiet s sig)
@[simp] theorem State.portRaise_conf (s : State) (sig cls v : Nat) : (State.portRaise s sig cls v).conf = s.conf := conf_of_quiet (State.portRaise_quiet s sig cls v)
@[simp] theorem State.portLower_conf (s : State) (sig v : Nat) : (State.portLower s sig v).conf = s.conf := conf_of_quiet (State.portLower_quiet s sig v)
@[simp] theorem State.portForm_conf (s : State) (port cls rise : Nat) (facs : List (Nat × Nat)) : (State.portForm s port cls rise facs).conf = s.conf := by
  simp only [State.portForm]; (repeat' split) <;> simp
@[simp] theorem State.portForms_conf (s : State) (port rise : Nat) (facs : List (Nat × Nat × Nat)) : (State.portForms s port rise facs).conf = s.conf := by
  simp [State.portForms]
@[simp] theorem State.holdEnvelope_conf (s : State) (sig level : Nat) : (State.holdEnvelope s sig level).conf = s.conf := by
  unfold State.holdEnvelope; (repeat' split) <;> simp
@[simp] theorem State.resolveTagged_conf (s : State) (sig code tag v : Nat) : (State.resolveTagged s sig code tag v).conf = s.conf := conf_of_quiet (State.resolveTagged_quiet s sig code tag v)
@[simp] theorem State.resolvePort_conf (s : State) (sig code tag v : Nat) : (State.resolvePort s sig code tag v).conf = s.conf := conf_of_quiet (State.resolvePort_quiet s sig code tag v)
@[simp] theorem State.resolve_conf (s : State) (sig : Nat) : (State.resolve s sig).conf = s.conf := conf_of_quiet (State.resolve_quiet s sig)
@[simp] theorem State.resubmit_conf (s : State) (sig : Nat) : (State.resubmit s sig).conf = s.conf := conf_of_quiet (State.resubmit_quiet s sig)
@[simp] theorem State.setBrFlag_conf (s : State) (h i : Nat) (b : Bool) : (State.setBrFlag s h i b).conf = s.conf := (rfl)
@[simp] theorem State.brSlot_conf (s : State) (h k value : Nat) : (State.brSlot s h k value).conf = s.conf := (rfl)
@[simp] theorem State.fanSlot_conf (s : State) (f k value : Nat) : (State.fanSlot s f k value).conf = s.conf := (rfl)
@[simp] theorem State.setPos_conf (s : State) (h : Nat) (p : Int) : (State.setPos s h p).conf = s.conf := (rfl)
@[simp] theorem State.brCount_conf (s : State) (h ripples : Nat) : (State.brCount s h ripples).conf = s.conf := by
  simp only [State.brCount]; (repeat' split) <;> simp
@[simp] theorem State.brMeasured_conf (s : State) (h current : Nat) : (State.brMeasured s h current).conf = s.conf := by
  simp [State.brMeasured]
@[simp] theorem State.loseNormal_conf (s : State) (h : Nat) : (State.loseNormal s h).conf = s.conf := by
  simp [State.loseNormal]
@[simp] theorem State.brUnload_conf (s : State) (h : Nat) : (State.brUnload s h).conf = s.conf := conf_of_quiet (State.brUnload_quiet s h)
@[simp] theorem State.brStop_conf (s : State) (h reason : Nat) : (State.brStop s h reason).conf = s.conf := by
  simp [State.brStop]
@[simp] theorem State.brPresent_conf (s : State) (h dir cls code : Nat) : (State.brPresent s h dir cls code).conf = s.conf := by
  simp only [State.brPresent]; (repeat' split) <;> simp
@[simp] theorem State.brMove_conf (s : State) (h dir : Nat) : (State.brMove s h dir).conf = s.conf := by
  simp [State.brMove]
@[simp] theorem State.brHalt_conf (s : State) (h reason : Nat) : (State.brHalt s h reason).conf = s.conf := by
  simp [State.brHalt]
@[simp] theorem State.brHold_conf (s : State) (h : Nat) : (State.brHold s h).conf = s.conf := conf_of_quiet (State.brHold_quiet s h)
@[simp] theorem State.brBrakeEnd_conf (s : State) (h : Nat) : (State.brBrakeEnd s h).conf = s.conf := by
  simp [State.brBrakeEnd]
@[simp] theorem State.lockPulse_conf (s : State) (h code : Nat) : (State.lockPulse s h code).conf = s.conf := by
  simp [State.lockPulse]
@[simp] theorem State.wiperAct_conf (s : State) (h code : Nat) : (State.wiperAct s h code).conf = s.conf := conf_of_quiet (State.wiperAct_quiet s h code)
@[simp] theorem State.windowAct_conf (s : State) (h code : Nat) : (State.windowAct s h code).conf = s.conf := conf_of_quiet (State.windowAct_quiet s h code)
@[simp] theorem State.brAct_conf (s : State) (h code : Nat) : (State.brAct s h code).conf = s.conf := by
  simp only [State.brAct]; (repeat' split) <;> simp
@[simp] theorem State.brCommand_conf (s : State) (h code : Nat) : (State.brCommand s h code).conf = s.conf := by
  simp [State.brCommand]
@[simp] theorem State.coastBridge_conf (s : State) (h : Nat) : (State.coastBridge s h).conf = s.conf := by
  simp [State.coastBridge]
@[simp] theorem State.parkBridge_conf (s : State) (h : Nat) : (State.parkBridge s h).conf = s.conf := by
  simp [State.parkBridge]
@[simp] theorem State.fanTripped_conf (s : State) (f : Nat) : (State.fanTripped s f).conf = s.conf := by
  simp [State.fanTripped]
@[simp] theorem State.gdHoldOff_conf (s : State) (c : Nat) : (State.gdHoldOff s c).conf = s.conf := by
  simp [State.gdHoldOff]
@[simp] theorem State.gdShut_conf (s : State) (c : Nat) : (State.gdShut s c).conf = s.conf := by
  simp only [State.gdShut]; (repeat' split) <;> simp
@[simp] theorem State.gdFault_conf (s : State) (c : Nat) : (State.gdFault s c).conf = s.conf := by simp [State.gdFault]
@[simp] theorem State.gateFault_conf (s : State) (c cause : Nat) : (State.gateFault s c cause).conf = s.conf := (rfl)
@[simp] theorem State.gdResubmit_conf (s : State) (c why : Nat) : (State.gdResubmit s c why).conf = s.conf := conf_of_quiet (State.gdResubmit_quiet s c why)
@[simp] theorem State.gdTrip_conf (s : State) (c vds : Nat) (envelope : Bool) : (State.gdTrip s c vds envelope).conf = s.conf := by
  simp [State.gdTrip]
@[simp] theorem State.gdPeriod_conf (s : State) (c : Nat) : (State.gdPeriod s c).conf = s.conf := by
  simp [State.gdPeriod]
@[simp] theorem State.doutPeriod_conf (s : State) (d : Nat) : (State.doutPeriod s d).conf = s.conf := by
  simp [State.doutPeriod]
@[simp] theorem State.gdOpen_conf (s : State) (c : Nat) (on off : Bool) : (State.gdOpen s c on off).conf = s.conf := by
  simp [State.gdOpen]
@[simp] theorem State.gdDiagReport_conf (s : State) (c mv reading : Nat) : (State.gdDiagReport s c mv reading).conf = s.conf := by
  simp [State.gdDiagReport]
@[simp] theorem State.gdDiag_conf (s : State) (c mv : Nat) : (State.gdDiag s c mv).conf = s.conf := by
  simp only [State.gdDiag]; (repeat' split) <;> simp
@[simp] theorem State.gdThermal_conf (s : State) (c : Nat) : (State.gdThermal s c).conf = s.conf := by
  simp [State.gdThermal]
@[simp] theorem State.gdSupplyOff_conf (s : State) (flag cause : Nat) (c : Nat) : (State.gdSupplyOff s flag cause c).conf = s.conf := by
  simp [State.gdSupplyOff]
@[simp] theorem State.gdSupplyOn_conf (s : State) (flag : Nat) (c : Nat) : (State.gdSupplyOn s flag c).conf = s.conf := by
  simp [State.gdSupplyOn]
@[simp] theorem State.brLearn_conf (s : State) (h : Nat) : (State.brLearn s h).conf = s.conf := (rfl)
@[simp] theorem State.windowStall_conf (s : State) (h : Nat) : (State.windowStall s h).conf = s.conf := by
  simp [State.windowStall]
@[simp] theorem State.lockEnd_conf (s : State) (h reason : Nat) : (State.lockEnd s h reason).conf = s.conf := by
  simp only [State.lockEnd]; (repeat' split) <;> simp
@[simp] theorem State.reversalEnd_conf (s : State) (h reason : Nat) : (State.reversalEnd s h reason).conf = s.conf := by
  simp [State.reversalEnd]
@[simp] theorem State.brStall_conf (s : State) (h : Nat) : (State.brStall s h).conf = s.conf := by
  simp only [State.brStall]; (repeat' split) <;> simp
@[simp] theorem State.brGather_conf (s : State) (h current vbat : Nat) : (State.brGather s h current vbat).conf = s.conf := by
  simp [State.brGather]
@[simp] theorem State.brMilli_conf (s : State) (h current vbat ripples : Nat) : (State.brMilli s h current vbat ripples).conf = s.conf := by
  simp [State.brMilli]
@[simp] theorem State.brPinch_conf (s : State) (h : Nat) : (State.brPinch s h).conf = s.conf := by simp [State.brPinch]
@[simp] theorem State.fanUpdate_conf (s : State) (f ripples : Nat) : (State.fanUpdate s f ripples).conf = s.conf := by
  simp [State.fanUpdate]
@[simp] theorem State.fanFailed_conf (s : State) (f : Nat) : (State.fanFailed s f).conf = s.conf := by
  simp [State.fanFailed]
@[simp] theorem State.svSetpoint_conf (s : State) (c v : Nat) : (State.svSetpoint s c v).conf = s.conf := by
  simp [State.svSetpoint]
@[simp] theorem State.svAct_conf (s : State) (c v i : Nat) : (State.svAct s c v i).conf = s.conf := by simp [State.svAct]
@[simp] theorem State.svBoostEnd_conf (s : State) (c i : Nat) : (State.svBoostEnd s c i).conf = s.conf := by
  simp only [State.svBoostEnd]; (repeat' split) <;> simp
@[simp] theorem State.svShut_conf (s : State) (c i : Nat) : (State.svShut s c i).conf = s.conf := by simp [State.svShut]
@[simp] theorem State.svFault_conf (s : State) (c : Nat) : (State.svFault s c).conf = s.conf := by simp [State.svFault]
@[simp] theorem State.svResubmit_conf (s : State) (c why : Nat) : (State.svResubmit s c why).conf = s.conf := conf_of_quiet (State.svResubmit_quiet s c why)
@[simp] theorem State.svDiag_conf (s : State) (c vh vl : Nat) : (State.svDiag s c vh vl).conf = s.conf := by
  simp only [State.svDiag]; (repeat' split) <;> simp
@[simp] theorem State.setDin_conf (s : State) (c : Nat) (x : Din) : (State.setDin s c x).conf = s.conf := (rfl)
@[simp] theorem State.setAin_conf (s : State) (c : Nat) (x : Ain) : (State.setAin s c x).conf = s.conf := (rfl)
@[simp] theorem State.setTach_conf (s : State) (c : Nat) (x : Tach) : (State.setTach s c x).conf = s.conf := (rfl)
@[simp] theorem State.dinChange_conf (s : State) (c : Nat) (level : Bool) : (State.dinChange s c level).conf = s.conf := by
  simp [State.dinChange]
@[simp] theorem State.doutPost_conf (s : State) (d k v : Nat) : (State.doutPost s d k v).conf = s.conf := (rfl)
@[simp] theorem State.setDoutBit_conf (s : State) (d i : Nat) (b : Bool) : (State.setDoutBit s d i b).conf = s.conf := (rfl)
@[simp] theorem State.doutFault_conf (s : State) (d : Nat) : (State.doutFault s d).conf = s.conf := by
  simp [State.doutFault]
@[simp] theorem State.doutTrip_conf (s : State) (d : Nat) (hot : Bool) (current : Nat) : (State.doutTrip s d hot current).conf = s.conf := by
  simp [State.doutTrip]
@[simp] theorem State.doutResubmit_conf (s : State) (d why : Nat) : (State.doutResubmit s d why).conf = s.conf := conf_of_quiet (State.doutResubmit_quiet s d why)
@[simp] theorem State.doutOpen_conf (s : State) (d : Nat) (on off : Bool) : (State.doutOpen s d on off).conf = s.conf := by
  simp [State.doutOpen]
@[simp] theorem State.doutDiag_conf (s : State) (d mv : Nat) : (State.doutDiag s d mv).conf = s.conf := by
  simp only [State.doutDiag]; (repeat' split) <;> simp
@[simp] theorem State.ainHeld_conf (s : State) (c : Nat) : (State.ainHeld s c).conf = s.conf := by simp [State.ainHeld]
@[simp] theorem State.ainInvalid_conf (s : State) (c st value : Nat) : (State.ainInvalid s c st value).conf = s.conf := by
  simp [State.ainInvalid]
@[simp] theorem State.thresholds_conf (s : State) (ev : Nat) (v hi lo hyst : Int) (fresh armHi armLo : Bool) (shown : Nat) : (State.thresholds s ev v hi lo hyst fresh armHi armLo shown).1.conf = s.conf := by
  simp [State.thresholds]
@[simp] theorem State.ainDeliver_conf (s : State) (c mv : Nat) : (State.ainDeliver s c mv).conf = s.conf := by
  simp only [State.ainDeliver, State.setAin_conf, State.thresholds_conf, State.postIf_conf, setOb_conf, ite_conf, with_meas_conf, ite_self]
@[simp] theorem State.ainSlot_conf (s : State) (c mv it : Nat) : (State.ainSlot s c mv it).conf = s.conf := by
  simp only [State.ainSlot]; (repeat' split) <;> simp
@[simp] theorem State.ainRangeChange_conf (s : State) (c : Nat) : (State.ainRangeChange s c).conf = s.conf := by
  simp [State.ainRangeChange]
@[simp] theorem State.setVsens_conf (s : State) (v st : Nat) : (State.setVsens s v st).conf = s.conf := by
  simp [State.setVsens]
@[simp] theorem State.vsensChange_conf (s : State) (v st : Nat) : (State.vsensChange s v st).conf = s.conf := by
  simp [State.vsensChange]
@[simp] theorem State.vsensEnabled_conf (s : State) : (State.vsensEnabled s).conf = s.conf := by
  simp [State.vsensEnabled]
@[simp] theorem State.tachThresholds_conf (s : State) (t f : Nat) : (State.tachThresholds s t f).conf = s.conf := by
  simp only [State.tachThresholds, State.setTach_conf, State.thresholds_conf]
@[simp] theorem State.tachEdge_conf (s : State) (t : Nat) : (State.tachEdge s t).conf = s.conf := by
  simp only [State.tachEdge]; (repeat' split) <;> simp
@[simp] theorem State.tachDecay_conf (s : State) (t : Nat) : (State.tachDecay s t).conf = s.conf := by
  simp [State.tachDecay]
@[simp] theorem State.tick_conf (s : State) : (State.tick s).conf = s.conf := by simp [State.tick]
@[simp] theorem State.ppForget_conf (s : State) (n : Nat) : (State.ppForget s n).conf = s.conf := (rfl)
@[simp] theorem State.ppCheckDrift_conf (s : State) (n q value vbat : Nat) (temp : Int) : (State.ppCheckDrift s n q value vbat temp).conf = s.conf := by
  simp [State.ppCheckDrift]
@[simp] theorem State.ppStore_conf (s : State) (n q value current vbat : Nat) (temp : Int) : (State.ppStore s n q value current vbat temp).conf = s.conf := by
  simp [State.ppStore]
@[simp] theorem State.ppMeasured_conf (s : State) (n q value current vbat disturbed : Nat) (temp : Int) : (State.ppMeasured s n q value current vbat disturbed temp).conf = s.conf := by
  simp [State.ppMeasured]
@[simp] theorem State.calWithin_conf (s : State) (n : Nat) : (State.calWithin s n).conf = s.conf := by
  simp [State.calWithin]
@[simp] theorem State.calOutside_conf (s : State) (n : Nat) : (State.calOutside s n).conf = s.conf := by
  simp [State.calOutside]
@[simp] theorem State.gdCalibrate_conf (s : State) (c uohm current : Nat) (t : Int) : (State.gdCalibrate s c uohm current t).conf = s.conf := by
  simp [State.gdCalibrate]
@[simp] theorem State.svHighOffset_conf (s : State) (c : Nat) (offset : Int) (current : Nat) : (State.svHighOffset s c offset current).conf = s.conf := by
  simp only [State.svHighOffset]; (repeat' split) <;> simp
@[simp] theorem State.svLowOffset_conf (s : State) (c : Nat) (offset : Int) : (State.svLowOffset s c offset).conf = s.conf := by
  simp [State.svLowOffset]
@[simp] theorem State.calJudge_conf (s : State) (n : Nat) (t : Int) (i : Nat) : (State.calJudge s n t i).conf = s.conf := by
  simp [State.calJudge]
@[simp] theorem State.supReadExtreme_conf (s : State) (m : Nat) (mx : Bool) : (State.supReadExtreme s m mx).conf = s.conf := by
  simp [State.supReadExtreme]
@[simp] theorem State.tempSample_conf (s : State) (m : Nat) (t : Int) : (State.tempSample s m t).conf = s.conf := by
  simp only [State.tempSample]; (repeat' split) <;> first | rfl | simp
@[simp] theorem State.cableStart_conf (s : State) (p : Nat) : (State.cableStart s p).conf = s.conf := (rfl)
@[simp] theorem State.cableLimit_conf (s : State) (p : Nat) : (State.cableLimit s p).conf = s.conf := (rfl)
@[simp] theorem State.cableDone_conf (s : State) (p : Nat) (trip : Option Nat) (e : Nat) : (State.cableDone s p trip e).conf = s.conf := by
  simp [State.cableDone]
@[simp] theorem State.bpPost_conf (s : State) (p k v : Nat) : (State.bpPost s p k v).conf = s.conf := (rfl)
@[simp] theorem State.bpTimes_conf (s : State) (p : Nat) : (State.bpTimes s p).conf = s.conf := (rfl)
@[simp] theorem State.bpDiscover_conf (s : State) (p : Nat) : (State.bpDiscover s p).conf = s.conf := by
  simp [State.bpDiscover]
@[simp] theorem State.bpFail_conf (s : State) (p : Nat) : (State.bpFail s p).conf = s.conf := (rfl)
@[simp] theorem State.bpForeign_conf (s : State) (p pos : Nat) : (State.bpForeign s p pos).conf = s.conf := (rfl)
@[simp] theorem State.bpFound_conf (s : State) (p n : Nat) (d : BuntingDiscovery) : (State.bpFound s p n d).conf = s.conf := by
  simp [State.bpFound]
@[simp] theorem State.bpDiscovered_conf (s : State) (p : Nat) (d : BuntingDiscovery) : (State.bpDiscovered s p d).conf = s.conf := by
  unfold State.bpDiscovered; (repeat' split) <;> simp
@[simp] theorem State.bgShow_conf (s : State) (p g st f : Nat) : (State.bgShow s p g st f).conf = s.conf := (rfl)
@[simp] theorem State.bgFactor_conf (s : State) (p g old new : Nat) : (State.bgFactor s p g old new).conf = s.conf := by
  simp [State.bgFactor]
@[simp] theorem State.bgStep_conf (s : State) (p g : Nat) : (State.bgStep s p g).1.conf = s.conf := by
  simp only [State.bgStep]; (repeat' split) <;> simp
@[simp] theorem State.bpSnapshot_conf (s : State) (p : Nat) : (State.bpSnapshot s p).conf = s.conf := by
  simp only [State.bpSnapshot, setBit_conf, forEach_conf, State.bgFactor_conf, State.portForms_conf, implies_true, eq_self]
  exact foldl_fst_conf _ _ _ fun a x => State.bgStep_conf a.1 p x
@[simp] theorem State.bpHeard_conf (s : State) (p before : Nat) (lines : List BuntingLine) (bad : NodeTakes → Bool) : (State.bpHeard s p before lines bad).conf = s.conf := by
  simp [State.bpHeard]
@[simp] theorem State.bpLatch_conf (s : State) (p : Nat) (lines : List BuntingLine) : (State.bpLatch s p lines).conf = s.conf := by
  simp [State.bpLatch]
@[simp] theorem State.bpSend_conf (s : State) (p : Nat) : (State.bpSend s p).conf = s.conf := (rfl)
@[simp] theorem State.bpTurn_conf (s : State) (p : Nat) (turn : Option Nat) (tail : Nat) : (State.bpTurn s p turn tail).conf = s.conf := by
  simp [State.bpTurn]
@[simp] theorem State.bgLost_conf (s : State) (p g : Nat) : (State.bgLost s p g).conf = s.conf := by simp [State.bgLost]
@[simp] theorem State.bgReading_conf (s : State) (p g pos d : Nat) : (State.bgReading s p g pos d).conf = s.conf := by
  simp [State.bgReading]
@[simp] theorem State.nodeStatus_conf (s : State) (p pos d : Nat) : (State.nodeStatus s p pos d).conf = s.conf := by
  simp [State.nodeStatus]
@[simp] theorem State.nodeHeard_conf (s : State) (p pos : Nat) : (State.nodeHeard s p pos).conf = s.conf := (rfl)
@[simp] theorem State.nodeMissed_conf (s : State) (p pos : Nat) : (State.nodeMissed s p pos).conf = s.conf := by
  simp [State.nodeMissed]
@[simp] theorem State.bpPoll_conf (s : State) (p : Nat) (replies : List BuntingReply) (q : Nat × Nat × Option Nat) : (State.bpPoll s p replies q).conf = s.conf := by
  unfold State.bpPoll; (repeat' split) <;> simp
@[simp] theorem State.bpAdvance_conf (s : State) (p : Nat) : (State.bpAdvance s p).conf = s.conf := (rfl)
@[simp] theorem State.bpFrame_conf (s : State) (p : Nat) (turn : Option Nat) (tail : Nat) (replies : List BuntingReply) (lines : List BuntingLine) : (State.bpFrame s p turn tail replies lines).conf = s.conf := by
  simp [State.bpFrame]
@[simp] theorem State.bpCommand_conf (s : State) (p : Nat) (lines : List BuntingLine) : (State.bpCommand s p lines).conf = s.conf := (rfl)
@[simp] theorem State.nodeDark_conf (s : State) (p pos : Nat) : (State.nodeDark s p pos).conf = s.conf := (rfl)
@[simp] theorem State.mxPost_conf (s : State) (p k v : Nat) : (State.mxPost s p k v).conf = s.conf := (rfl)
@[simp] theorem State.mxShowPower_conf (s : State) (p : Nat) : (State.mxShowPower s p).conf = s.conf := (rfl)
@[simp] theorem State.mxShut_conf (s : State) (p : Nat) : (State.mxShut s p).conf = s.conf := by simp [State.mxShut]
@[simp] theorem State.mxRestart_conf (s : State) (p why : Nat) : (State.mxRestart s p why).conf = s.conf := conf_of_quiet (State.mxRestart_quiet s p why)
@[simp] theorem State.mxFault_conf (s : State) (p : Nat) : (State.mxFault s p).conf = s.conf := by simp [State.mxFault]
@[simp] theorem State.mxSlotStart_conf (s : State) (p l : Nat) : (State.mxSlotStart s p l).conf = s.conf := by
  simp [State.mxSlotStart]
@[simp] theorem State.mxFactorTo_conf (s : State) (p new : Nat) : (State.mxFactorTo s p new).conf = s.conf := by
  simp [State.mxFactorTo]
@[simp] theorem State.derateMx_conf (s : State) (dt p : Nat) : (State.derateMx s dt p).conf = s.conf := by
  unfold State.derateMx; (repeat' split) <;> simp
@[simp] theorem State.redrive_conf (s : State) (sig : Nat) : (State.redrive s sig).conf = s.conf := by
  simp [State.redrive]
@[simp] theorem State.derateOutput_conf (s : State) (dt sig : Nat) : (State.derateOutput s dt sig).conf = s.conf := by
  simp [State.derateOutput]
@[simp] theorem State.deratingStep_conf (s : State) : (State.deratingStep s).conf = s.conf := by
  simp [State.deratingStep]
@[simp] theorem State.mxStop_conf (s : State) (code : Nat) : (State.mxStop s code).conf = s.conf := by
  unfold State.mxStop; split <;> simp
@[simp] theorem State.nbPairFound_conf (s : State) (a b : Nat) : (State.nbPairFound s a b).conf = s.conf := by
  simp [State.nbPairFound]
@[simp] theorem State.nbStart_conf (s : State) (balls : List Nat) : (State.nbStart s balls).conf = s.conf := by
  simp only [State.nbStart]
  exact (setOb_conf _ _ _).trans <| (setOb_conf _ _ _).trans <| (forRange_conf _ _ _ fun _ _ => setOb_conf _ _ _).trans <| with_nb_conf s _
@[simp] theorem State.nbEnd_conf (s : State) : (State.nbEnd s).conf = s.conf := by simp [State.nbEnd]
@[simp] theorem State.nbBall_conf (s : State) (ball : Nat) (joined : List (BitVec 8)) : (State.nbBall s ball joined).conf = s.conf := by
  simp [State.nbBall]
@[simp] theorem State.nbOnline_conf (s : State) (ball : Nat) (joined : List (BitVec 8)) : (State.nbOnline s ball joined).conf = s.conf := by
  simp [State.nbOnline]
@[simp] theorem State.endEnvelope_conf (s : State) (sig : Nat) : (State.endEnvelope s sig).conf = s.conf := conf_of_quiet (State.endEnvelope_quiet s sig)
@[simp] theorem State.endEnvelopes_conf (s : State) (g : Nat) : (State.endEnvelopes s g).conf = s.conf := conf_of_quiet (State.endEnvelopes_quiet s g)
@[simp] theorem State.freeEngine_conf (s : State) (e : Nat) : (State.freeEngine s e).conf = s.conf := conf_of_quiet (State.freeEngine_quiet s e)
@[simp] theorem State.endFade_conf (s : State) (g code : Nat) : (State.endFade s g code).conf = s.conf := conf_of_quiet (State.endFade_quiet s g code)
@[simp] theorem State.setLevel_conf (s : State) (g code l : Nat) : (State.setLevel s g code l).conf = s.conf := conf_of_quiet (State.setLevel_quiet s g code l)
@[simp] theorem State.claimMembers_conf (s : State) (g : Nat) (cls : Cls) (holder tag session : Nat) (v : Nat → Nat → Nat) : (State.claimMembers s g cls holder tag session v).conf = s.conf := conf_of_quiet (State.claimMembers_quiet s g cls holder tag session v)
@[simp] theorem State.startFade_conf (s : State) (g : Nat) (cls : Cls) (holder session level time : Nat) : (State.startFade s g cls holder session level time).conf = s.conf := conf_of_quiet (State.startFade_quiet s g cls holder session level time)
@[simp] theorem State.takeOver_conf (s : State) (e : Nat) (r : PatternRun) : (State.takeOver s e r).conf = s.conf := by
  simp [State.takeOver]
@[simp] theorem State.startPattern_conf (s : State) (e g : Nat) (cls : Cls) (holder session block : Nat) : (State.startPattern s e g cls holder session block).conf = s.conf := by
  simp only [State.startPattern]; (repeat' split) <;> simp
@[simp] theorem State.releaseGroup_conf (s : State) (g : Nat) (cls : Cls) : (State.releaseGroup s g cls).conf = s.conf := by
  simp [State.releaseGroup]
@[simp] theorem State.stepMember_conf (s : State) (cls : Cls) (holder tag sig l : Nat) : (State.stepMember s cls holder tag sig l).conf = s.conf := conf_of_quiet (State.stepMember_quiet s cls holder tag sig l)
@[simp] theorem State.fadeStep_conf (s : State) (f : Fade) : (State.fadeStep s f).conf = s.conf := conf_of_quiet (State.fadeStep_quiet s f)
@[simp] theorem State.patternStep_conf (s : State) (e : Nat) (r : PatternRun) : (State.patternStep s e r).conf = s.conf := by
  simp only [State.patternStep]
  split
  · rw [State.freeEngine_conf]; split <;> simp
  · exact (foldl_conf _ _ _ fun s a => by simp).trans (setOb_conf _ _ _)
@[simp] theorem State.regroup_conf (s : State) (g : Nat) (old : List Nat) : (State.regroup s g old).conf = s.conf := by
  simp [State.regroup]
@[simp] theorem State.shedOne_conf (s : State) (reason sig : Nat) : (State.shedOne s reason sig).conf = s.conf := conf_of_quiet (State.shedOne_quiet s reason sig)
@[simp] theorem State.shedClass_conf (s : State) (code reason : Nat) : (State.shedClass s code reason).conf = s.conf := conf_of_quiet (State.shedClass_quiet s code reason)
@[simp] theorem State.sagC_conf (s : State) (v : Nat) : (State.sagC s v).conf = s.conf := conf_of_quiet (State.sagC_quiet s v)
@[simp] theorem State.sagA_conf (s : State) (v : Nat) : (State.sagA s v).conf = s.conf := conf_of_quiet (State.sagA_quiet s v)
@[simp] theorem State.restoreOne_conf (s : State) (x : Shed) : (State.restoreOne s x).conf = s.conf := by
  simp only [State.restoreOne]; (repeat' split) <;> simp
@[simp] theorem State.restoreShed_conf (s : State) : (State.restoreShed s).conf = s.conf := by simp [State.restoreShed]
@[simp] theorem State.sagOver_conf (s : State) (v : Nat) (c a : Bool) : (State.sagOver s v c a).conf = s.conf := by
  simp [State.sagOver]
@[simp] theorem State.setTmr_conf (s : State) (t : Nat) (x : Timer) : (State.setTmr s t x).conf = s.conf := (rfl)
@[simp] theorem State.timerOp_conf (s : State) (t op cnt : Nat) : (State.timerOp s t op cnt).conf = s.conf := by
  simp [State.timerOp]
@[simp] theorem State.cmpFires_conf (s : State) (t k : Nat) : (State.cmpFires s t k).conf = s.conf := by
  simp [State.cmpFires]
@[simp] theorem State.tmrOverflows_conf (s : State) (t : Nat) : (State.tmrOverflows s t).conf = s.conf := by
  simp only [State.tmrOverflows]
  rw [State.timerOp_conf, State.post_conf, bump_conf, State.setTmr_conf]
@[simp] theorem State.timersInit_conf (s : State) : (State.timersInit s).conf = s.conf := by
  simp only [State.timersInit]
  exact (forRange_conf _ _ _ fun _ _ => forRange_conf _ _ _ fun _ _ => setOb_conf _ _ _).trans <| with_timers_conf s _
@[simp] theorem State.timersAutostart_conf (s : State) : (State.timersAutostart s).conf = s.conf := by
  simp [State.timersAutostart]
@[simp] theorem State.gsFire_conf (s : State) (g : GsArmed) : (State.gsFire s g).conf = s.conf := by simp [State.gsFire]
@[simp] theorem State.logOccurrence_conf (s : State) (o : Occ) : (State.logOccurrence s o).conf = s.conf := by
  simp [State.logOccurrence]
@[simp] theorem State.occurrence_conf (s : State) (o : Occ) (rest : List Occ) : (State.occurrence s o rest).conf = s.conf := by
  simp [State.occurrence]
@[simp] theorem State.halyardNotice_conf (s : State) (o : Occ) : (State.halyardNotice s o).conf = s.conf := by
  simp [State.halyardNotice]
@[simp] theorem State.canNotice_conf (s : State) (o : Occ) : (State.canNotice s o).conf = s.conf := by
  simp [State.canNotice]
@[simp] theorem State.logRuntime_conf (s : State) (o : Occ) : (State.logRuntime s o).conf = s.conf := by
  simp [State.logRuntime]
@[simp] theorem State.deliverFrom_conf (held : Bool) (s : State) (o : Occ) : (State.deliverFrom held s o).conf = s.conf := by
  simp [State.deliverFrom]
@[simp] theorem State.deliver_conf (s : State) (o : Occ) : (State.deliver s o).conf = s.conf := by simp [State.deliver]
@[simp] theorem State.setDomBit_conf (s : State) (ix h i : Nat) (b : Bool) : (State.setDomBit s ix h i b).conf = s.conf := by
  simp [State.setDomBit]
@[simp] theorem State.dropHold_conf (s : State) (key_ : Nat) : (State.dropHold s key_).conf = s.conf := by
  simp [State.dropHold]
@[simp] theorem State.setCan_conf (s : State) (c : Nat) (x : CanChannel) : (State.setCan s c x).conf = s.conf := (rfl)
@[simp] theorem State.setMo_conf (s : State) (o : Nat) (m : MoData) : (State.setMo s o m).conf = s.conf := (rfl)
@[simp] theorem State.canShow_conf (s : State) (c : Nat) : (State.canShow s c).conf = s.conf := (rfl)
@[simp] theorem State.canPost_conf (s : State) (c k v : Nat) : (State.canPost s c k v).conf = s.conf := (rfl)
@[simp] theorem State.canLost_conf (s : State) (c o : Nat) : (State.canLost s c o).conf = s.conf := by
  simp only [State.canLost]; (repeat' split) <;> simp
@[simp] theorem State.csUpdate_conf (s : State) (o : Nat) : (State.csUpdate s o).conf = s.conf := by
  unfold State.csUpdate
  exact forEach_conf _ _ _ fun s e => by split <;> rfl
@[simp] theorem State.csTimeout_conf (s : State) (o : Nat) : (State.csTimeout s o).conf = s.conf := by
  simp [State.csTimeout]
@[simp] theorem State.watchUpdate_conf (s : State) (o old : Nat) : (State.watchUpdate s o old).conf = s.conf := by
  simp [State.watchUpdate]
@[simp] theorem State.watchTimeout_conf (s : State) (o late : Nat) : (State.watchTimeout s o late).conf = s.conf := by
  simp [State.watchTimeout]
@[simp] theorem State.moReceive_conf (s : State) (c o : Nat) (f : CanFrame) : (State.moReceive s c o f).conf = s.conf := by
  simp [State.moReceive]
@[simp] theorem State.strayReceive_conf (s : State) (c : Nat) (f : CanFrame) : (State.strayReceive s c f).conf = s.conf := by
  simp [State.strayReceive]
@[simp] theorem State.canEnqueue_conf (s : State) (c : Nat) (f : CanPending) : (State.canEnqueue s c f).conf = s.conf := (rfl)
@[simp] theorem State.canUnpend_conf (s : State) (c : Nat) (src : CanSource) : (State.canUnpend s c src).conf = s.conf := (rfl)
@[simp] theorem State.showPending_conf (s : State) (c o : Nat) : (State.showPending s c o).conf = s.conf := (rfl)
@[simp] theorem State.releaseSent_conf (s : State) (o : Nat) : (State.releaseSent s o).conf = s.conf := by
  unfold State.releaseSent; split <;> simp
@[simp] theorem State.challengeSent_conf (s : State) (o : Nat) : (State.challengeSent s o).conf = s.conf := by
  unfold State.challengeSent; split <;> simp
@[simp] theorem State.moPending_conf (s : State) (o : Nat) (arbitrating : Bool) : (State.moPending s o arbitrating).conf = s.conf := by
  simp [State.moPending]
@[simp] theorem State.freezeFrame_conf (s : State) (o : Nat) : (State.freezeFrame s o).conf = s.conf := (rfl)
@[simp] theorem State.doMoRead_conf (s : State) (off len : Nat) : (State.doMoRead s off len).conf = s.conf := by
  simp [State.doMoRead]
@[simp] theorem State.moTimesOut_conf (s : State) (o : Nat) (heard : Tick) : (State.moTimesOut s o heard).conf = s.conf := by
  simp [State.moTimesOut]
@[simp] theorem State.canDiscard_conf (s : State) (c : Nat) : (State.canDiscard s c).conf = s.conf := by
  simp [State.canDiscard]
@[simp] theorem State.canRestart_conf (s : State) (c : Nat) : (State.canRestart s c).conf = s.conf := by
  simp [State.canRestart]
@[simp] theorem State.canCounters_conf (s : State) (c tec rec_ : Nat) : (State.canCounters s c tec rec_).conf = s.conf := by
  simp [State.canCounters]
@[simp] theorem State.aloneEnds_conf (s : State) (c : Nat) : (State.aloneEnds s c).conf = s.conf := by
  simp only [State.aloneEnds]; (repeat' split) <;> simp
@[simp] theorem State.frameSent_conf (s : State) (c : Nat) (f : CanPending) : (State.frameSent s c f).conf = s.conf := by
  unfold State.frameSent; (repeat' split) <;> simp
@[simp] theorem State.frameFailed_conf (s : State) (c error : Nat) : (State.frameFailed s c error).conf = s.conf := by
  simp [State.frameFailed]
@[simp] theorem State.txExpire_conf (s : State) (c : Nat) : (State.txExpire s c).conf = s.conf := by
  simp only [State.txExpire]
  refine (forEach_conf _ _ _ fun s e => ?_).trans (State.setCan_conf _ _ _)
  cases e.src <;> simp only [State.showPending_conf, State.canPost_conf]
@[simp] theorem State.claimAddress_conf (s : State) (c a : Nat) : (State.claimAddress s c a).conf = s.conf := (rfl)
@[simp] theorem State.cannotClaim_conf (s : State) (c : Nat) : (State.cannotClaim s c).conf = s.conf := (rfl)
@[simp] theorem State.contend_conf (s : State) (c sa name : Nat) : (State.contend s c sa name).conf = s.conf := by
  simp only [State.contend]; (repeat' split) <;> simp
@[simp] theorem State.setNmNode_conf (s : State) (i : Nat) (x : NmNode) : (State.setNmNode s i x).conf = s.conf := (rfl)
@[simp] theorem State.nmSend_conf (s : State) (type dest : Nat) (ack resume : Bool) : (State.nmSend s type dest ack resume).conf = s.conf := (rfl)
@[simp] theorem State.nmAliveMsg_conf (s : State) : (State.nmAliveMsg s).conf = s.conf := (rfl)
@[simp] theorem State.keepWakeReason_conf (s : State) (src detail : Nat) : (State.keepWakeReason s src detail).conf = s.conf := by
  simp [State.keepWakeReason]
@[simp] theorem State.showKeeper_conf (s : State) : (State.showKeeper s).conf = s.conf := by
  simp only [State.showKeeper]; (repeat' split) <;> simp
@[simp] theorem State.keeperRecord_conf (s : State) (i : Nat) (on : Bool) : (State.keeperRecord s i on).conf = s.conf := by
  simp [State.keeperRecord]
@[simp] theorem State.keeperCleared_conf (s : State) (i : Nat) : (State.keeperCleared s i).conf = s.conf := by
  simp [State.keeperCleared]
@[simp] theorem State.nmHeard_conf (s : State) (i d : Nat) : (State.nmHeard s i d).conf = s.conf := by
  simp [State.nmHeard]
@[simp] theorem State.nmGone_conf (s : State) (i : Nat) : (State.nmGone s i).conf = s.conf := by simp [State.nmGone]
@[simp] theorem State.nmPrepare_conf (s : State) (lap : Nat) : (State.nmPrepare s lap).conf = s.conf := (rfl)
@[simp] theorem State.nmCancel_conf (s : State) (by_ : Nat) : (State.nmCancel s by_).conf = s.conf := (rfl)
@[simp] theorem State.nmRecheck_conf (s : State) : (State.nmRecheck s).conf = s.conf := by
  simp only [State.nmRecheck]; (repeat' split) <;> simp
@[simp] theorem State.nmWake_conf (s : State) (src detail ev value : Nat) : (State.nmWake s src detail ev value).conf = s.conf := by
  simp [State.nmWake]
@[simp] theorem State.nmPowerWake_conf (s : State) (cause : Nat) : (State.nmPowerWake s cause).conf = s.conf := by
  simp [State.nmPowerWake]
@[simp] theorem State.nmJoin_conf (s : State) : (State.nmJoin s).conf = s.conf := by
  simp only [State.nmJoin]; (repeat' split) <;> simp
@[simp] theorem State.nmLeave_conf (s : State) : (State.nmLeave s).conf = s.conf := by simp [State.nmLeave]
@[simp] theorem State.nmLimpHome_conf (s : State) (c : Nat) : (State.nmLimpHome s c).conf = s.conf := by
  simp [State.nmLimpHome]
@[simp] theorem State.nmWatch_conf (s : State) (c : Nat) : (State.nmWatch s c).conf = s.conf := by simp [State.nmWatch]
@[simp] theorem State.nmForms_conf (s : State) (type : Nat) : (State.nmForms s type).conf = s.conf := by
  simp [State.nmForms]
@[simp] theorem State.nmStartLap_conf (s : State) : (State.nmStartLap s).conf = s.conf := by simp [State.nmStartLap]
@[simp] theorem State.nmSent_conf (s : State) (c : Nat) (f : CanPending) : (State.nmSent s c f).conf = s.conf := by
  simp [State.nmSent]
@[simp] theorem State.hostResumes_conf (s : State) : (State.hostResumes s).conf = s.conf := by
  unfold State.hostResumes; split <;> simp
@[simp] theorem State.nmReceive_conf (s : State) (i d : Nat) : (State.nmReceive s i d).conf = s.conf := by
  simp only [State.nmReceive]; (repeat' split) <;> simp only [State.hostResumes_conf, State.keepWakeReason_conf, State.nmAliveMsg_conf, State.nmCancel_conf, State.nmForms_conf, State.nmHeard_conf, State.nmPrepare_conf, State.nmStartLap_conf, State.placeVotes_conf, State.postIf_conf, State.wake_conf, with_ring_conf, setOb_conf, ite_conf]
@[simp] theorem State.nmTurn_conf (s : State) : (State.nmTurn s).conf = s.conf := by simp [State.nmTurn]
@[simp] theorem State.channelRestart_conf (s : State) (c : Nat) : (State.channelRestart s c).conf = s.conf := by
  simp [State.channelRestart]
@[simp] theorem State.channelJoin_conf (s : State) (c : Nat) : (State.channelJoin s c).conf = s.conf := by
  simp [State.channelJoin]
@[simp] theorem State.receivedWell_conf (s : State) (c : Nat) : (State.receivedWell s c).conf = s.conf := by
  simp [State.receivedWell]
@[simp] theorem State.receivedBadly_conf (s : State) (c error : Nat) : (State.receivedBadly s c error).conf = s.conf := by
  simp [State.receivedBadly]
@[simp] theorem State.pushOp_conf (s : State) (o : HostOp) : (State.pushOp s o).conf = s.conf := (rfl)
@[simp] theorem State.resolveAll_conf (s : State) (l : List Nat) : (State.resolveAll s l).conf = s.conf := conf_of_quiet (State.resolveAll_quiet s l)
@[simp] theorem State.safeRecord_conf (s : State) (old new reason : Nat) : (State.safeRecord s old new reason).conf = s.conf := by
  simp [State.safeRecord]
@[simp] theorem State.emptyHost_conf (s : State) : (State.emptyHost s).conf = s.conf := by simp [State.emptyHost]
@[simp] theorem State.placeSafe_conf (s : State) (held : Table Nat) : (State.placeSafe s held).conf = s.conf := (rfl)
@[simp] theorem State.hostSilent_conf (s : State) : (State.hostSilent s).conf = s.conf := by simp [State.hostSilent]
@[simp] theorem State.safePlacedOver_conf (s : State) (held : Table Nat) (more : List Nat) (old new : Nat) : (State.safePlacedOver s held more old new).conf = s.conf := by
  simp only [State.safePlacedOver]; (repeat' split) <;> simp
@[simp] theorem State.safePlaced_conf (s : State) (old new : Nat) : (State.safePlaced s old new).conf = s.conf := by
  simp [State.safePlaced]
@[simp] theorem State.safeEmptied_conf (s : State) : (State.safeEmptied s).conf = s.conf := by
  unfold State.safeEmptied; split <;> simp
@[simp] theorem State.dropRelease_conf (s : State) : (State.dropRelease s).conf = s.conf := by simp [State.dropRelease]
@[simp] theorem State.supervisorWaits_conf (s : State) : (State.supervisorWaits s).conf = s.conf := (rfl)
@[simp] theorem State.safeBoundary_conf (s : State) : (State.safeBoundary s).conf = s.conf := by
  unfold State.safeBoundary; (repeat' split) <;> simp
theorem State.doHeartbeat_conf {s t : State} {v : Nat} (h : s.doHeartbeat v = .ok t) : t.conf = s.conf := by
  unfold State.doHeartbeat at h
  dsimp only at h
  split at h
  · exact (Except.ok.inj h) ▸ rfl
  · split at h
    · exact (Except.ok.inj h) ▸ rfl
    · split at h <;> exact (Except.ok.inj h) ▸ rfl
@[simp] theorem State.heartbeatLost_conf (s : State) : (State.heartbeatLost s).conf = s.conf := by
  unfold State.heartbeatLost
  extract_lets alive s1 s2 src s3
  have e1 : s1.conf = s.conf := (bump_conf ..).trans ((setOb_conf ..).trans (State.dropRelease_conf s))
  have e2 : s2.conf = s.conf := (State.post_conf ..).trans ((setOb_conf ..).trans e1)
  have e3 : s3.conf = s.conf := e2
  split
  · exact e3
  · exact (State.safeBoundary_conf _).trans e3
@[simp] theorem State.hostOp_conf (s : State) (o : HostOp) : (State.hostOp s o).conf = s.conf := by
  unfold State.hostOp; split <;> simp
@[simp] theorem State.hostChanges_conf (s : State) : (State.hostChanges s).conf = s.conf := by simp [State.hostChanges]
@[simp] theorem State.piApply_conf (m data : Nat) (s : State) (e : Nat × Nat) : (State.piApply m data s e).conf = s.conf := by
  unfold State.piApply
  dsimp only
  split
  · split
    · split
      · rename_i h; exact State.doHeartbeat_conf h
      · rfl
    · rfl
  · split <;> simp
  · rfl
@[simp] theorem State.rxBoundary_conf (s : State) : (State.rxBoundary s).conf = s.conf := by
  unfold State.rxBoundary
  refine forRange_conf _ _ _ fun s m => ?_
  dsimp only
  split
  · rfl
  · exact (forEach_conf _ _ _ fun s e => State.piApply_conf _ _ _ _).trans (with_maps_conf s _)
@[simp] theorem State.actsOn_conf (n : Nat) (cls : Cls) (s : State) (sig : Nat) : (State.actsOn n cls s sig).conf = s.conf := by
  simp only [State.actsOn]; (repeat' split) <;> first | rfl | simp
@[simp] theorem State.putSlot_conf (a : State.Acted) (n e sig : Nat) (v : Option Claim) (always : Bool) : (State.putSlot a n e sig v always).1.conf = a.1.conf := by
  simp [State.putSlot]
@[simp] theorem State.actSlot_conf (a : State.Acted) (n e sig : Nat) (v : Option Claim) (always : Bool) : (State.actSlot a n e sig v always).1.conf = a.1.conf := by
  simp [State.actSlot]
@[simp] theorem State.actGroup_conf (a : State.Acted) (n e g : Nat) (always : Bool) (f : State → State) (h : ∀ s, (f s).conf = s.conf) : (State.actGroup a n e g always f).1.conf = a.1.conf := by
  simp [State.actGroup, h]
@[simp] theorem State.actOther_conf (a : State.Acted) (n e m : Nat) (evs : List Nat) (f : State → State) (h : ∀ s, (f s).conf = s.conf) : (State.actOther a n e m evs f).1.conf = a.1.conf := by
  simp [State.actOther, h]
@[simp] theorem State.requestProfile_conf (s : State) (p : Nat) (place : Bool) : (State.requestProfile s p place).conf = s.conf := by
  simp [State.requestProfile]
@[simp] theorem State.ruleActs_conf (a : State.Acted) (n e : Nat) : (State.ruleActs a n e).1.conf = a.1.conf := by
  unfold State.ruleActs; (repeat' split) <;> simp
@[simp] theorem State.releaseRuleGroup_conf (s : State) (n g : Nat) (cls : Cls) : (State.releaseRuleGroup s n g cls).conf = s.conf := by
  simp [State.releaseRuleGroup]
@[simp] theorem State.ruleReleases_conf (a : State.Acted) (n e : Nat) : (State.ruleReleases a n e).1.conf = a.1.conf := by
  unfold State.ruleReleases
  dsimp only
  split
  · rfl
  · split <;> (try split) <;> simp
@[simp] theorem State.trigger_conf (s : State) (evs : List Nat) : (State.trigger s evs).conf = s.conf := by
  simp [State.trigger]
@[simp] theorem State.publish_conf (s : State) : (State.publish s).conf = s.conf := by
  simp only [State.publish, State.trigger_conf, with_cs_conf, with_fab_conf, ite_conf]; (repeat' split) <;> first | rfl | simp only [State.trigger_conf, with_cs_conf, with_fab_conf, ite_conf]
@[simp] theorem State.evaluated_conf (s : State) (n : Nat) (r : Bool × List (Option Int)) : (State.evaluated s n r).conf = s.conf := by
  simp [State.evaluated]
@[simp] theorem State.reDrive_conf (s : State) (sig : Nat) : (State.reDrive s sig).conf = s.conf := by
  simp only [State.reDrive]; (repeat' split) <;> simp
@[simp] theorem State.mxLeaveSafe_conf (s : State) (p : Nat) : (State.mxLeaveSafe s p).conf = s.conf := by
  simp [State.mxLeaveSafe]
@[simp] theorem State.bpRejoin_conf (s : State) (p : Nat) : (State.bpRejoin s p).conf = s.conf := by
  simp [State.bpRejoin]
@[simp] theorem State.leaveHoistSafe_conf (s : State) : (State.leaveHoistSafe s).conf = s.conf := by
  simp [State.leaveHoistSafe]
@[simp] theorem State.sweepBoundary_conf (s : State) : (State.sweepBoundary s).conf = s.conf := by
  simp [State.sweepBoundary]
@[simp] theorem State.feed_conf (s : State) : (State.feed s).conf = s.conf := (rfl)
@[simp] theorem State.holdReleases_conf (s : State) : (State.holdReleases s).conf = s.conf := by
  simp [State.holdReleases]
@[simp] theorem State.sweepEnd_conf (s : State) (sweepNs : Nat) : (State.sweepEnd s sweepNs).conf = s.conf := by
  simp only [State.sweepEnd]; (repeat' split) <;> simp only [State.feed_conf, State.holdReleases_conf, State.postIf_conf, with_own_conf, setOb_conf, ite_conf]
@[simp] theorem State.runSegment_conf (s : State) (agreed : Bool) (sweepNs : Nat) : (State.runSegment s agreed sweepNs).conf = s.conf := by
  have hb : ∀ s : State, (if s.eng.segment = 0 then s.sweepBoundary else s).conf = s.conf := fun s => by split <;> simp
  have hf : ∀ (l : List ((Nat × Nat) × Bool × List (Option Int))) (a : State.Acted),
      (l.foldl (fun a x => if x.2.1 then State.ruleActs a x.1.1 x.1.2 else State.ruleReleases a x.1.1 x.1.2) a).1.conf = a.1.conf :=
    fun l a => foldl_fst_conf _ _ _ fun a x => by split <;> simp
  unfold State.runSegment
  extract_lets seg s1 src s2 s3 due res s4 old a s5 s6 s7 src2
  clear_value due res
  have e2 : s2.conf = s1.conf := rfl
  have e3 : s3.conf = s.conf := (State.publish_conf _).trans (e2.trans (hb s))
  clear_value s3
  have e4 : s4.conf = s.conf := (forEach_conf _ _ _ fun s x => State.evaluated_conf s _ _).trans e3
  clear_value s4
  have e5 : s5.conf = s.conf := (State.hostChanges_conf _).trans ((State.trigger_conf _ _).trans ((hf _ _).trans e4))
  have e6 : s6.conf = s.conf := (State.resolveAll_conf _ _).trans e5
  have e7 : s7.conf = s.conf := (forEach_conf _ _ _ fun s r => State.record_conf s r).trans e6
  clear_value s7
  rw [State.nmRecheck_conf]
  split
  · exact e7
  · exact (State.sweepEnd_conf _ _).trans e7
@[simp] theorem State.setBgPort_conf (s : State) (p : Nat) (x : BurgeePort) : (State.setBgPort s p x).conf = s.conf := (rfl)
@[simp] theorem State.draw_conf (s : State) : (State.draw s).2.conf = s.conf := by rfl
@[simp] theorem State.showPort_conf (s : State) (p : Nat) (st : Nat) : (State.showPort s p st).conf = s.conf := by
  simp [State.showPort]
@[simp] theorem State.restPort_conf (s : State) (p : Nat) : (State.restPort s p).conf = s.conf := by
  simp [State.restPort]
@[simp] theorem State.burgeeVote_conf (s : State) : (State.burgeeVote s).conf = s.conf := by simp [State.burgeeVote]
@[simp] theorem State.burgeeLinger_conf (s : State) : (State.burgeeLinger s).conf = s.conf := by
  simp [State.burgeeLinger]
@[simp] theorem State.burgeeRecord_conf (s : State) (old new reason r port entry mask : Nat) : (State.burgeeRecord s old new reason r port entry mask).conf = s.conf := by
  simp [State.burgeeRecord]
@[simp] theorem State.setRel_conf (s : State) (r : Nat) (x : Release) : (State.setRel s r x).conf = s.conf := (rfl)
@[simp] theorem State.loadGates_conf (s : State) : (State.loadGates s).conf = s.conf := (rfl)
@[simp] theorem State.enableOutput_conf (s : State) (sig : Nat) : (State.enableOutput s sig).conf = s.conf := by
  unfold State.enableOutput; split <;> simp
@[simp] theorem State.disableOutput_conf (s : State) (sig : Nat) : (State.disableOutput s sig).conf = s.conf := by
  simp [State.disableOutput]
@[simp] theorem State.gatesMoved_conf (s : State) (old : List Nat) : (State.gatesMoved s old).conf = s.conf := by
  simp [State.gatesMoved]
@[simp] theorem State.openRelease_conf (s : State) (r port entry mask : Nat) : (State.openRelease s r port entry mask).conf = s.conf := by
  simp [State.openRelease]
@[simp] theorem State.dropReleaseFrame_conf (s : State) (r : Nat) : (State.dropReleaseFrame s r).conf = s.conf := by
  simp [State.dropReleaseFrame]
@[simp] theorem State.closeRelease_conf (s : State) (r reason : Nat) : (State.closeRelease s r reason).conf = s.conf := by
  simp [State.closeRelease]
@[simp] theorem State.forMask_conf (n mask : Nat) (f : State → Nat → State) (s : State) (h : ∀ s a, (f s a).conf = s.conf) : (State.forMask n mask f s).conf = s.conf := by
  unfold State.forMask
  exact forRange_conf _ _ _ fun s r => by split <;> simp [h]
@[simp] theorem State.openMask_conf (s : State) (mask port entry : Nat) : (State.openMask s mask port entry).conf = s.conf := by
  simp [State.openMask]
@[simp] theorem State.closeMask_conf (s : State) (mask reason : Nat) : (State.closeMask s mask reason).conf = s.conf := by
  simp [State.closeMask]
@[simp] theorem State.closeAll_conf (s : State) (reason : Nat) : (State.closeAll s reason).conf = s.conf := by
  simp [State.closeAll]
@[simp] theorem State.recordFail_conf (s : State) (p : Nat) : (State.recordFail s p).conf = s.conf := (rfl)
@[simp] theorem State.judgeFail_conf (s : State) (p result : Nat) : (State.judgeFail s p result).conf = s.conf := by
  simp [State.judgeFail]
@[simp] theorem State.tokenExchange_conf (s : State) (p : Nat) (x : BurgeeAnswer) : (State.tokenExchange s p x).conf = s.conf := by
  simp only [State.tokenExchange]; (repeat' split) <;> simp
@[simp] theorem State.presentedLocked_conf (s : State) (p : Nat) : (State.presentedLocked s p).conf = s.conf := (rfl)
@[simp] theorem State.beginExchange_conf (s : State) (p : Nat) : (State.beginExchange s p).conf = s.conf := by
  simp [State.beginExchange]
@[simp] theorem State.presented_conf (s : State) (p ev : Nat) : (State.presented s p ev).conf = s.conf := by
  simp [State.presented]
@[simp] theorem State.setImpl_conf (s : State) (i : Nat) (x : Implement) : (State.setImpl s i x).conf = s.conf := (rfl)
@[simp] theorem State.challenge_conf (s : State) (i : Nat) : (State.challenge s i).conf = s.conf := by
  simp only [State.challenge, State.burgeeRecord_conf, State.moPending_conf, State.recordFail_conf, State.setImpl_conf, State.setMo_conf, ite_conf]; (repeat' split) <;> first | rfl | simp only [State.burgeeRecord_conf, State.moPending_conf, State.recordFail_conf, State.setImpl_conf, State.setMo_conf, ite_conf]
@[simp] theorem State.decideImplement_conf (s : State) (i : Nat) (sent : Tick) : (State.decideImplement s i sent).conf = s.conf := by
  simp [State.decideImplement]
@[simp] theorem State.unlockPort_conf (s : State) (p : Nat) : (State.unlockPort s p).conf = s.conf := by
  simp [State.unlockPort]
@[simp] theorem State.sealPage_conf (s : State) (p : LedgerPage) : (State.sealPage s p).conf = s.conf := (rfl)
@[simp] theorem State.sealCheckpoint_conf (s : State) : (State.sealCheckpoint s).conf = s.conf := (rfl)
@[simp] theorem State.showFill_conf (s : State) : (State.showFill s).conf = s.conf := (rfl)
@[simp] theorem State.ledgerNote_conf (s : State) (ev count first last : Nat) : (State.ledgerNote s ev count first last).conf = s.conf := by
  simp [State.ledgerNote]
@[simp] theorem State.claimSegment_conf (s : State) : (State.claimSegment s).conf = s.conf := by
  simp only [State.claimSegment]; (repeat' split) <;> simp
@[simp] theorem State.ledgerVote_conf (s : State) : (State.ledgerVote s).conf = s.conf := by simp [State.ledgerVote]
@[simp] theorem State.ledgerUnvote_conf (s : State) : (State.ledgerUnvote s).conf = s.conf := by
  simp [State.ledgerUnvote]
@[simp] theorem State.sealOpen_conf (s : State) : (State.sealOpen s).conf = s.conf := by simp [State.sealOpen]
@[simp] theorem State.showUsed_conf (s : State) : (State.showUsed s).conf = s.conf := by
  simp only [State.showUsed]; (repeat' split) <;> first | rfl | simp
@[simp] theorem State.makeDurable_conf (s : State) (n : Nat) : (State.makeDurable s n).conf = s.conf := by
  simp only [State.makeDurable]; (repeat' split) <;> simp
@[simp] theorem State.issueFlush_conf (s : State) : (State.issueFlush s).conf = s.conf := by simp [State.issueFlush]
@[simp] theorem State.storeFailed_conf (s : State) (status : Nat) : (State.storeFailed s status).conf = s.conf := by
  simp [State.storeFailed]
@[simp] theorem State.loseRange_conf (s : State) (a b : Nat) : (State.loseRange s a b).conf = s.conf := by
  simp [State.loseRange]
@[simp] theorem State.formatStore_conf (s : State) : (State.formatStore s).conf = s.conf := by
  simp only [State.formatStore]; (repeat' split) <;> simp
@[simp] theorem State.appendStrike_conf (s : State) : (State.appendStrike s).conf = s.conf := by
  unfold State.appendStrike; split <;> simp
@[simp] theorem State.continueStore_conf (s : State) (head : Nat) : (State.continueStore s head).conf = s.conf := by
  simp only [State.continueStore]; (repeat' split) <;> simp only [State.appendStrike_conf, State.claimSegment_conf, State.ledgerVote_conf, State.loseRange_conf, State.sealCheckpoint_conf, with_ledger_conf, setOb_conf, ite_conf]
@[simp] theorem State.ledgerRefresh_conf (s : State) : (State.ledgerRefresh s).conf = s.conf := by
  simp [State.ledgerRefresh]
@[simp] theorem State.startEpoch_conf (s : State) : (State.startEpoch s).conf = s.conf := by simp [State.startEpoch]
@[simp] theorem State.applyHoistSafe_conf (s : State) : (State.applyHoistSafe s).conf = s.conf := by
  simp [State.applyHoistSafe]
@[simp] theorem State.flyRelease_conf (s : State) : (State.flyRelease s).conf = s.conf := (rfl)
@[simp] theorem State.setPartner_conf (s : State) (a : Nat) (p : Partner) : (State.setPartner s a p).conf = s.conf := (rfl)
@[simp] theorem State.halSent_conf (s : State) (f : HalFrame) : (State.halSent s f).conf = s.conf := by
  unfold State.halSent; (repeat' split) <;> simp
@[simp] theorem State.halDrain_conf (s : State) : (State.halDrain s).conf = s.conf := by simp [State.halDrain]
@[simp] theorem State.halSend_conf (s : State) (f : HalFrame) : (State.halSend s f).conf = s.conf := by
  simp [State.halSend]
@[simp] theorem State.emptyEntries_conf (s : State) (serial but : Nat) : (State.emptyEntries s serial but).conf = s.conf := by
  simp [State.emptyEntries]
@[simp] theorem State.showOwn_conf (s : State) : (State.showOwn s).conf = s.conf := by simp [State.showOwn]
@[simp] theorem State.takeAddress_conf (s : State) (a source : Nat) : (State.takeAddress s a source).conf = s.conf := by
  simp [State.takeAddress]
@[simp] theorem State.showNoAddress_conf (s : State) : (State.showNoAddress s).conf = s.conf := (rfl)
@[simp] theorem State.addressCode_conf (s : State) (n : Nat) : (State.addressCode s n).conf = s.conf := by
  simp [State.addressCode]
@[simp] theorem State.chainCount_conf (s : State) : (State.chainCount s).conf = s.conf := (rfl)
@[simp] theorem State.sendCapability_conf (s : State) (type a : Nat) (content : List Nat) : (State.sendCapability s type a content).conf = s.conf := by
  simp [State.sendCapability]
@[simp] theorem State.askCapability_conf (s : State) (a tries : Nat) : (State.askCapability s a tries).conf = s.conf := by
  simp [State.askCapability]
@[simp] theorem State.judgeShares_conf (s : State) : (State.judgeShares s).conf = s.conf := by simp [State.judgeShares]
@[simp] theorem State.loanEvent_conf (s : State) (ev a i : Nat) : (State.loanEvent s ev a i).conf = s.conf := (rfl)
@[simp] theorem State.lendStep_conf (s : State) : (State.lendStep s).conf = s.conf := by
  unfold State.lendStep; split <;> simp
@[simp] theorem State.lenderHears_conf (s : State) (b x : Nat) : (State.lenderHears s b x).conf = s.conf := by
  simp only [State.lenderHears]; (repeat' split) <;> simp
@[simp] theorem State.dropLoan_conf (s : State) (l : Nat) : (State.dropLoan s l).conf = s.conf := by
  simp [State.dropLoan]
@[simp] theorem State.borrowerHears_conf (s : State) (l x : Nat) : (State.borrowerHears s l x).conf = s.conf := by
  simp [State.borrowerHears]
@[simp] theorem State.entryPresent_conf (s : State) (a tag : Nat) : (State.entryPresent s a tag).conf = s.conf := by
  simp [State.entryPresent]
@[simp] theorem State.registryMove_conf (s : State) (a st tag : Nat) : (State.registryMove s a st tag).conf = s.conf := by
  unfold State.registryMove; (repeat' split) <;> simp
@[simp] theorem State.presenceTaken_conf (s : State) (f : ChainPresence) : (State.presenceTaken s f).conf = s.conf := by
  simp [State.presenceTaken]
@[simp] theorem State.presenceLost_conf (s : State) (a : Nat) : (State.presenceLost s a).conf = s.conf := by
  simp only [State.presenceLost]; (repeat' split) <;> simp only [State.dropLoan_conf, State.judgeShares_conf, State.post_conf, State.setPartner_conf, with_arb_conf, setOb_conf, ite_conf]
@[simp] theorem State.syncTaken_conf (s : State) (t origin every : Nat) : (State.syncTaken s t origin every).conf = s.conf := by
  simp only [State.syncTaken]; (repeat' split) <;> first | rfl | simp
@[simp] theorem State.countUse_conf (s : State) (n : Nat) : (State.countUse s n).conf = s.conf := (rfl)
@[simp] theorem State.bindMap_conf (s : State) (m : Nat) : (State.bindMap s m).conf = s.conf := by
  unfold State.bindMap; (repeat' split) <;> simp
@[simp] theorem State.bindMaps_conf (s : State) : (State.bindMaps s).conf = s.conf := by simp [State.bindMaps]
@[simp] theorem State.emptySlot_conf (s : State) (n : Nat) : (State.emptySlot s n).conf = s.conf := by
  simp [State.emptySlot]
@[simp] theorem State.dropSession_conf (s : State) (h cause : Nat) : (State.dropSession s h cause).conf = s.conf := by
  simp [State.dropSession]
@[simp] theorem State.dropSessions_conf (s : State) (p : Session → Bool) (cause : Nat) : (State.dropSessions s p cause).conf = s.conf := by
  simp [State.dropSessions]
@[simp] theorem State.zeroSlot_conf (s : State) (n : Nat) : (State.zeroSlot s n).conf = s.conf := by
  simp [State.zeroSlot]
@[simp] theorem State.zeroReady_conf (s : State) : (State.zeroReady s).conf = s.conf := by simp [State.zeroReady]
@[simp] theorem State.closeSession_conf (s : State) (h cause : Nat) : (State.closeSession s h cause).conf = s.conf := by
  simp [State.closeSession]
@[simp] theorem State.fillSlot_conf (s : State) (n st attr key : Nat) : (State.fillSlot s n st attr key).conf = s.conf := by
  simp [State.fillSlot]
@[simp] theorem State.loadSlot_conf (s : State) (n st attr key : Nat) : (State.loadSlot s n st attr key).conf = s.conf := by
  simp [State.loadSlot]
@[simp] theorem State.arbiterEnter_conf (s : State) : (State.arbiterEnter s).conf = s.conf := (rfl)
@[simp] theorem State.backToRun_conf (s : State) : (State.backToRun s).conf = s.conf := by
  unfold State.backToRun
  extract_lets s1 src s2 src2 s3 held src3 s4 s5
  have e3 : s3.conf = s.conf := by
    simp only [s3]
    split
    · rfl
    · exact (State.safeBoundary_conf _).trans ((State.supervisorWaits_conf _).trans rfl)
  have e4 : s4.conf = s.conf := e3
  have e5 : s5.conf = s.conf := (forEach_conf _ _ _ fun s a => State.dropLoan_conf s a).trans ((State.arbiterEnter_conf _).trans e4)
  exact (forRange_conf _ _ _ fun s c => by split <;> simp).trans e5
@[simp] theorem State.debugHalt_conf (s : State) : (State.debugHalt s).conf = s.conf := by
  simp only [State.debugHalt]
  rw [State.post_conf, State.applyHoistSafe_conf, setOb_conf, setOb_conf]
  exact (State.record_conf _ _).trans (with_timers_conf s _)
@[simp] theorem State.debugResume_conf (s : State) (since : Tick) : (State.debugResume s since).conf = s.conf := by
  simp only [State.debugResume, State.backToRun_conf, State.post_conf, with_tb_conf, with_secure_conf, with_timers_conf, setOb_conf, ite_conf]; (repeat' split) <;> first | rfl | simp only [State.backToRun_conf, State.post_conf, with_tb_conf, with_secure_conf, with_timers_conf, setOb_conf, ite_conf]
@[simp] theorem State.zeroRange_conf (s : State) (first n : Nat) : (State.zeroRange s first n).conf = s.conf := by
  simp [State.zeroRange]
@[simp] theorem State.generateSlot_conf (s : State) (n type : Nat) : (State.generateSlot s n type).conf = s.conf := by
  simp only [State.generateSlot, State.fillSlot_conf, ite_conf]; (repeat' split) <;> first | rfl | simp only [State.fillSlot_conf, ite_conf]
@[simp] theorem State.lcActions_conf (s : State) (from_ target : Nat) : (State.lcActions s from_ target).conf = s.conf := by
  unfold State.lcActions; split <;> simp
@[simp] theorem State.roleFailure_conf (s : State) (role : Nat) : (State.roleFailure s role).conf = s.conf := by
  simp [State.roleFailure]
@[simp] theorem State.putOut_conf (s : State) (p : Nat) (bytes : List Nat) : (State.putOut s p bytes).conf = s.conf := by
  simp [State.putOut]
@[simp] theorem State.endSetup_conf (s : State) (p : Nat) : (State.endSetup s p).conf = s.conf := (rfl)
@[simp] theorem State.refuseSetup_conf (s : State) (p role hostId cause : Nat) : (State.refuseSetup s p role hostId cause).conf = s.conf := by
  simp [State.refuseSetup]
@[simp] theorem State.openSession_conf (s : State) (p : Nat) (u : Setup) : (State.openSession s p u).conf = s.conf := by
  simp only [State.openSession, State.bindMaps_conf, State.endSetup_conf, State.post_conf, State.putOut_conf, with_sessions_conf, ite_conf]; (repeat' split) <;> first | rfl | simp only [State.bindMaps_conf, State.endSetup_conf, State.post_conf, State.putOut_conf, with_sessions_conf, ite_conf]
@[simp] theorem State.jobDone_conf (s : State) (x : Session) (j : CipherJob) : (State.jobDone s x j).conf = s.conf := by
  simp only [State.jobDone]; (repeat' split) <;> simp
@[simp] theorem State.putPending_conf (s : State) (x : Session) (k v : Nat) : (State.putPending s x k v).conf = s.conf := (rfl)
@[simp] theorem State.commitShows_conf (s : State) (j : CommitJob) (v : Nat) : (State.commitShows s j v).conf = s.conf := by
  unfold State.commitShows; split <;> simp
@[simp] theorem State.commitReturns_conf (s : State) (j : CommitJob) : (State.commitReturns s j).conf = s.conf := by
  unfold State.commitReturns; split <;> simp
@[simp] theorem State.forgetPassports_conf (s : State) (ch : List Nat) : (State.forgetPassports s ch).conf = s.conf := by
  simp [State.forgetPassports]
@[simp] theorem State.dropRules_conf (s : State) (rules : List Nat) : (State.dropRules s rules).conf = s.conf := by
  simp only [State.dropRules]
  split
  · rfl
  · rw [State.resolveAll_conf, forEach_conf _ _ _ (fun s f => State.endFade_conf s _ _), forEach_conf _ _ _ (fun s e => State.freeEngine_conf s _)]
    rfl
@[simp] theorem State.turnOff_conf (s : State) (sig : Nat) : (State.turnOff s sig).conf = s.conf := by
  unfold State.turnOff; split <;> simp
@[simp] theorem State.asOwned_conf (s : State) (sig : Nat) : (State.asOwned s sig).conf = s.conf := by
  simp [State.asOwned]
@[simp] theorem State.switchOutputs_conf (s : State) (old : State) : (State.switchOutputs s old).conf = s.conf := by
  simp [State.switchOutputs]
@[simp] theorem State.switchPorts_conf (s : State) (old : State) : (State.switchPorts s old).conf = s.conf := by
  simp [State.switchPorts]
@[simp] theorem State.resetNodes_conf (s : State) (ch : List Nat) : (State.resetNodes s ch).conf = s.conf := by
  simp [State.resetNodes]
@[simp] theorem State.switchSensors_conf (s : State) (ch : List Nat) : (State.switchSensors s ch).conf = s.conf := by
  simp [State.switchSensors]
@[simp] theorem State.switchInputs_conf (s : State) (old : State) (ch : List Nat) : (State.switchInputs s old ch).conf = s.conf := by
  simp [State.switchInputs]
@[simp] theorem State.switchCan_conf (s : State) (ch : List Nat) : (State.switchCan s ch).conf = s.conf := by
  simp only [State.switchCan]
  have h2 : ∀ (s : State) (o : Nat), (forRange 8 (fun s c => s.setCan c { s.canCh c with
        pend := (s.canCh c).pend.filter (fun p => p.src ≠ .object o) }) s).conf = s.conf :=
    fun s o => forRange_conf _ _ _ fun s c => State.setCan_conf _ _ _
  refine Eq.trans (b := State.conf (forEach _ _ _)) rfl ?_
  rw [forEach_conf _ _ _ (fun s o => (with_mo_conf _ _).trans (h2 s o))]
  exact forRange_conf _ _ _ fun s c => by split <;> simp
@[simp] theorem State.switchRing_conf (s : State) (ch : List Nat) : (State.switchRing s ch).conf = s.conf := by
  simp [State.switchRing]
@[simp] theorem State.switchTimers_conf (s : State) (old : State) : (State.switchTimers s old).conf = s.conf := by
  simp [State.switchTimers]
@[simp] theorem State.switchMaps_conf (s : State) (ch : List Nat) (role hostId : Nat) : (State.switchMaps s ch role hostId).conf = s.conf := by
  unfold State.switchMaps
  rw [State.bindMaps_conf]
  refine forRange_conf _ _ _ fun s m => ?_
  dsimp only
  split
  · rfl
  · split
    · split
      · rfl
      · rfl
    · rfl
@[simp] theorem State.switchBurgee_conf (s : State) (ch : List Nat) : (State.switchBurgee s ch).conf = s.conf := by
  simp [State.switchBurgee]
@[simp] theorem State.switchSag_conf (s : State) : (State.switchSag s).conf = s.conf := by simp [State.switchSag]
@[simp] theorem State.switchBunting_conf (s : State) (p : Nat) (on : Bool) : (State.switchBunting s p on).conf = s.conf := by
  simp [State.switchBunting]
@[simp] theorem State.switchMatrix_conf (s : State) (p : Nat) (on : Bool) : (State.switchMatrix s p on).conf = s.conf := by
  simp [State.switchMatrix]
@[simp] theorem State.setDomain_conf (s : State) (d : Nat) (on : Bool) : (State.setDomain s d on).conf = s.conf := by
  simp [State.setDomain]
@[simp] theorem State.settleDomains_conf (s : State) : (State.settleDomains s).conf = s.conf := by
  simp [State.settleDomains]
@[simp] theorem State.watchTarget_conf (s : State) : (State.watchTarget s).conf = s.conf := (rfl)
@[simp] theorem State.wakeCaptured_conf (s : State) : (State.wakeCaptured s).conf = s.conf := by
  unfold State.wakeCaptured; split <;> simp
@[simp] theorem State.entered_conf (s : State) (old new : Nat) : (State.entered s old new).conf = s.conf := by
  simp [State.entered]
@[simp] theorem State.beginEntry_conf (s : State) : (State.beginEntry s).conf = s.conf := (rfl)
@[simp] theorem State.toDipped_conf (s : State) : (State.toDipped s).conf = s.conf := by simp [State.toDipped]
@[simp] theorem State.stopLighting_conf (s : State) : (State.stopLighting s).conf = s.conf := by
  simp [State.stopLighting]
@[simp] theorem State.parkOutputs_conf (s : State) : (State.parkOutputs s).conf = s.conf := by simp [State.parkOutputs]
@[simp] theorem State.parkArbiter_conf (s : State) : (State.parkArbiter s).conf = s.conf := (rfl)
@[simp] theorem State.releaseAll_conf (s : State) : (State.releaseAll s).conf = s.conf := by simp [State.releaseAll]
@[simp] theorem State.toHalfMast_conf (s : State) : (State.toHalfMast s).conf = s.conf := by
  unfold State.toHalfMast
  extract_lets old s1 s2 s3 src s4 s5 s6 src2 src3 src4 s7
  have e3 : s3.conf = s.conf := by
    simp only [s3, s2, s1, State.mxShut_conf, State.parkArbiter_conf, State.parkOutputs_conf, State.stopLighting_conf, State.sealOpen_conf, State.releaseAll_conf, State.closeAll_conf]
  clear_value s3
  have e4 : s4.conf = s.conf := e3
  clear_value s4
  have e6 : s6.conf = s.conf := by simp only [s6, s5, State.setVsens_conf, State.settleDomains_conf, setOb_conf, e4]
  clear_value s6
  have e7 : s7.conf = s.conf := e6
  clear_value s7
  split
  · exact (bump_conf ..).trans ((State.post_conf ..).trans e7)
  · exact (State.entered_conf ..).trans e7
@[simp] theorem State.woken_conf (s : State) : (State.woken s).conf = s.conf := (rfl)
@[simp] theorem State.fromDipped_conf (s : State) : (State.fromDipped s).conf = s.conf := by simp [State.fromDipped]
@[simp] theorem State.wakeInputs_conf (s : State) (dins : Nat) : (State.wakeInputs s dins).conf = s.conf := by
  simp [State.wakeInputs]
@[simp] theorem State.deliverHeld_conf (s : State) : (State.deliverHeld s).conf = s.conf := by simp [State.deliverHeld]
@[simp] theorem State.fromHalfMast_conf (s : State) (dins : Nat) : (State.fromHalfMast s dins).conf = s.conf := by
  simp [State.fromHalfMast]
@[simp] theorem State.capture_conf (s : State) (cause detail : Nat) : (State.capture s cause detail).conf = s.conf := by
  simp [State.capture]
@[simp] theorem State.parkFault_conf (s : State) (sig : Nat) : (State.parkFault s sig).conf = s.conf := by
  unfold State.parkFault; split <;> simp
@[simp] theorem State.doRtcSeconds_conf (s : State) (v : Nat) : (State.doRtcSeconds s v).conf = s.conf := (rfl)
@[simp] theorem State.doRtcAlarm_conf (s : State) (v : Nat) : (State.doRtcAlarm s v).conf = s.conf := (rfl)
@[simp] theorem State.updVote_conf (s : State) : (State.updVote s).conf = s.conf := by simp [State.updVote]
@[simp] theorem State.voteTimer_conf (s : State) (h : Nat) : (State.voteTimer s h).conf = s.conf := by
  unfold State.voteTimer; (repeat' split) <;> simp
@[simp] theorem State.lfStarts_conf (s : State) : (State.lfStarts s).conf = s.conf := by simp [State.lfStarts]
@[simp] theorem State.setArea_conf (s : State) (a : Nat) (x : StageArea) : (State.setArea s a x).conf = s.conf := (rfl)
@[simp] theorem State.rejectArea_conf (s : State) (a cause : Nat) : (State.rejectArea s a cause).conf = s.conf := (rfl)
@[simp] theorem State.countBlocks_conf (s : State) (a : Nat) : (State.countBlocks s a).conf = s.conf := by
  simp [State.countBlocks]
@[simp] theorem State.takeHeader_conf (s : State) (a : Nat) : (State.takeHeader s a).conf = s.conf := by
  simp [State.takeHeader]
@[simp] theorem State.checkBlock_conf (s : State) (a b : Nat) : (State.checkBlock s a b).conf = s.conf := by
  simp [State.checkBlock]
@[simp] theorem State.stagingTouched_conf (s : State) : (State.stagingTouched s).conf = s.conf := by
  simp [State.stagingTouched]
@[simp] theorem State.runImage_conf (s : State) (k : Nat) : (State.runImage s k).conf = s.conf := by
  simp only [State.runImage]; (repeat' split) <;> first | rfl | simp
@[simp] theorem State.runImages_conf (s : State) (set : Nat) : (State.runImages s set).conf = s.conf := by
  simp [State.runImages]
@[simp] theorem State.activated_conf (s : State) (set : Nat) : (State.activated s set).conf = s.conf := by
  simp only [State.activated, State.post_conf, State.record_conf, State.updVote_conf, setOb_conf, ite_conf]; (repeat' split) <;> first | rfl | simp only [State.post_conf, State.record_conf, State.updVote_conf, setOb_conf, ite_conf]
@[simp] theorem State.setDistribution_conf (s : State) (p : Nat) (on : Bool) : (State.setDistribution s p on).conf = s.conf := (rfl)
@[simp] theorem State.distribute_conf (s : State) (p : Nat) : (State.distribute s p).conf = s.conf := by
  simp [State.distribute]
@[simp] theorem State.showDistribution_conf (s : State) : (State.showDistribution s).conf = s.conf := by
  simp [State.showDistribution]
@[simp] theorem State.nodeActivates_conf (s : State) (set : Nat) : (State.nodeActivates s set).conf = s.conf := by
  simp [State.nodeActivates]
@[simp] theorem State.passEnds_conf (s : State) (p n : Nat) : (State.passEnds s p n).conf = s.conf := by
  simp only [State.passEnds]; (repeat' split) <;> simp
@[simp] theorem State.nodeSwitches_conf (s : State) (p pos : Nat) : (State.nodeSwitches s p pos).conf = s.conf := (rfl)
@[simp] theorem State.setTile_conf (s : State) (q t v : Nat) : (State.setTile s q t v).conf = s.conf := (rfl)
@[simp] theorem State.showFaults_conf (s : State) : (State.showFaults s).conf = s.conf := by simp [State.showFaults]
@[simp] theorem State.spareGone_conf (s : State) (q : Nat) : (State.spareGone s q).conf = s.conf := by
  simp [State.spareGone]
@[simp] theorem State.retire_conf (s : State) (q t : Nat) : (State.retire s q t).conf = s.conf := (rfl)
@[simp] theorem State.engineLost_conf (s : State) : (State.engineLost s).conf = s.conf := by simp [State.engineLost]
@[simp] theorem State.replaceLane_conf (s : State) (l : Nat) : (State.replaceLane s l).conf = s.conf := by
  simp only [State.replaceLane]; (repeat' split) <;> first | rfl | (simp only [State.engineLost_conf, State.post_conf, State.setTile_conf, State.showFaults_conf, ite_conf]; rfl) | (simp only [State.engineLost_conf, State.post_conf, State.setTile_conf, State.showFaults_conf, ite_conf]; split <;> first | rfl | simp only [State.engineLost_conf, State.post_conf, State.setTile_conf, State.showFaults_conf, ite_conf])
@[simp] theorem State.loseLane_conf (s : State) (l : Nat) : (State.loseLane s l).conf = s.conf := by
  unfold State.loseLane; (repeat' split) <;> simp
@[simp] theorem State.spareJoins_conf (s : State) (q : Nat) : (State.spareJoins s q).conf = s.conf := by
  simp only [State.spareJoins]; (repeat' split) <;> first | rfl | (simp only [State.post_conf, State.setTile_conf, State.showFaults_conf, State.spareGone_conf, ite_conf]; rfl) | (simp only [State.post_conf, State.setTile_conf, State.showFaults_conf, State.spareGone_conf, ite_conf]; split <;> first | rfl | simp only [State.post_conf, State.setTile_conf, State.showFaults_conf, State.spareGone_conf, ite_conf])
@[simp] theorem State.laneSettled_conf (s : State) (seg won : Nat) : (State.laneSettled s seg won).conf = s.conf := by
  simp only [State.laneSettled, State.loseLane_conf, State.post_conf, State.runSegment_conf, bump_conf, ite_conf]; (repeat' split) <;> first | rfl | simp only [State.loseLane_conf, State.post_conf, State.runSegment_conf, bump_conf, ite_conf]
@[simp] theorem State.laneUnresolved_conf (s : State) (seg : Nat) : (State.laneUnresolved s seg).conf = s.conf := by
  simp only [State.laneUnresolved]; (repeat' split) <;> first | rfl | simp
@[simp] theorem State.resumes_conf (s : State) (q f : Nat) : (State.resumes s q f).conf = s.conf := by
  simp [State.resumes]
@[simp] theorem State.stopFunction_conf (s : State) (q f : Nat) : (State.stopFunction s q f).conf = s.conf := by
  simp only [State.stopFunction]
  split
  · split
    · rw [State.engineLost_conf]; rfl
    · rfl
  · rw [State.stopBunting_conf, State.stopBunting_conf]; rfl
  · rw [forRange_conf _ _ _ (fun s i => State.freeEngine_conf s _)]; rfl
  · rw [State.channelRestart_conf, State.channelRestart_conf]; rfl
  · rfl
@[simp] theorem State.moveFunction_conf (s : State) (q f : Nat) : (State.moveFunction s q f).conf = s.conf := by
  unfold State.moveFunction; split <;> simp
@[simp] theorem State.tileFails_conf (s : State) (q t : Nat) : (State.tileFails s q t).conf = s.conf := by
  simp only [State.tileFails, State.loseLane_conf, State.moveFunction_conf, State.replaceLane_conf, State.retire_conf, State.showFaults_conf, State.spareGone_conf, ite_conf]; (repeat' split) <;> first | rfl | simp only [State.loseLane_conf, State.moveFunction_conf, State.replaceLane_conf, State.retire_conf, State.showFaults_conf, State.spareGone_conf, ite_conf]
@[simp] theorem State.retested_conf (s : State) : (State.retested s).conf = s.conf := by
  simp only [State.retested]
  split
  · rfl
  · rw [forRange_conf _ _ _ (fun s k => by split <;> simp)]; rfl
@[simp] theorem State.startLane_conf (s : State) (l : Nat) : (State.startLane s l).conf = s.conf := by
  simp only [State.startLane]; (repeat' split) <;> first | rfl | simp
@[simp] theorem State.startTiles_conf (s : State) : (State.startTiles s).conf = s.conf := by
  simp only [State.startTiles]
  have h : ∀ s : State, ({ s with ft := { s.ft with standing := [], loading := [] } } : State).conf = s.conf := fun s => rfl
  have h1 : ∀ s : State, (([1, 3] : List Nat).foldl (fun (s : State) q => if s.tileOf q 5 = 2 then s.setTile q 5 1 else s) s).conf = s.conf :=
    fun s => foldl_conf _ _ _ fun s q => by split <;> simp
  split <;> simp only [setBit_conf, State.showFaults_conf, forRange_conf, State.startLane_conf, h, h1, State.retested_conf, implies_true]
@[simp] theorem State.loseBuffer_conf (s : State) : (State.loseBuffer s).conf = s.conf := by
  unfold State.loseBuffer; split <;> simp
@[simp] theorem State.loseObjects_conf (s : State) : (State.loseObjects s).conf = s.conf := by simp [State.loseObjects]
@[simp] theorem State.restartEngines_conf (s : State) : (State.restartEngines s).conf = s.conf := (rfl)
@[simp] theorem State.refillRegion_conf (s : State) (r : Nat) : (State.refillRegion s r).conf = s.conf := by
  unfold State.refillRegion; split <;> simp
@[simp] theorem State.stopRegion_conf (s : State) (r : Nat) : (State.stopRegion s r).conf = s.conf := by
  simp only [State.stopRegion]
  split
  · rw [forRange_conf _ _ _ (fun s i => State.stopBunting_conf s _)]; rfl
  · rfl
  · rw [State.showFaults_conf, State.engineLost_conf]; rfl
  · rw [State.loseBuffer_conf]; rfl
  · rw [State.stopLighting_conf]; rfl
  · rfl
@[simp] theorem State.sramFails_conf (s : State) (cluster r : Nat) : (State.sramFails s cluster r).conf = s.conf := by
  simp only [State.sramFails]; (repeat' split) <;> simp
@[simp] theorem State.loseLog_conf (s : State) (cluster : Nat) : (State.loseLog s cluster).conf = s.conf := (rfl)
@[simp] theorem State.emptyArea_conf (s : State) (a : Nat) : (State.emptyArea s a).conf = s.conf := by
  simp [State.emptyArea]
@[simp] theorem State.mramFails_conf (s : State) (cluster r : Nat) : (State.mramFails s cluster r).conf = s.conf := by
  simp only [State.mramFails]; (repeat' split) <;> simp
@[simp] theorem State.phaseFails_conf (s : State) (n : Nat) : (State.phaseFails s n).conf = s.conf := by
  simp [State.phaseFails]
@[simp] theorem State.stageFails_conf (s : State) (sig : Nat) : (State.stageFails s sig).conf = s.conf := by
  simp only [State.stageFails, State.mxShut_conf, State.post_conf, State.turnOff_conf, ite_conf]; (repeat' split) <;> first | rfl | simp only [State.mxShut_conf, State.post_conf, State.turnOff_conf, ite_conf]
@[simp] theorem State.standbyFails_conf (s : State) (q t : Nat) : (State.standbyFails s q t).conf = s.conf := by
  simp [State.standbyFails]
@[simp] theorem State.skewChecked_conf (s : State) (excess : Option Nat) : (State.skewChecked s excess).conf = s.conf := by
  simp only [State.skewChecked]; (repeat' split) <;> first | rfl | simp
@[simp] theorem State.testRun_conf (s : State) (key_ : Nat) : (State.testRun s key_).conf = s.conf := (rfl)
@[simp] theorem State.applyWord_conf (s : State) (w : LinkWord) : (State.applyWord s w).conf = s.conf := by
  unfold State.applyWord; split <;> simp
@[simp] theorem State.linkWord_conf (s : State) (seq : Nat) (w : LinkWord) : (State.linkWord s seq w).conf = s.conf := by
  simp [State.linkWord]
@[simp] theorem State.setLane_conf (s : State) (l : Nat) (x : LinkLane) : (State.setLane s l x).conf = s.conf := (rfl)
@[simp] theorem State.showLanes_conf (s : State) : (State.showLanes s).conf = s.conf := by simp [State.showLanes]
@[simp] theorem State.laneFails_conf (s : State) (l : Nat) : (State.laneFails s l).conf = s.conf := by
  simp [State.laneFails]
@[simp] theorem State.laneTested_conf (s : State) (l : Nat) (pass : Bool) : (State.laneTested s l pass).conf = s.conf := by
  simp [State.laneTested]
@[simp] theorem State.lfStep_conf (s : State) : (State.lfStep s).conf = s.conf := (rfl)
@[simp] theorem State.firstLevels_conf (s : State) : (State.firstLevels s).conf = s.conf := by simp [State.firstLevels]
@[simp] theorem State.porReleases_conf (s : State) (cause : Nat) : (State.porReleases s cause).conf = s.conf := by
  simp [State.porReleases]
@[simp] theorem State.completeRecord_conf (s : State) : (State.completeRecord s).conf = s.conf := by
  simp [State.completeRecord]
@[simp] theorem State.checkStrike_conf (s : State) : (State.checkStrike s).conf = s.conf := by
  unfold State.checkStrike; split <;> simp
@[simp] theorem State.startReleases_conf (s : State) : (State.startReleases s).conf = s.conf := by
  simp [State.startReleases]
@[simp] theorem State.startRecords_conf (s : State) : (State.startRecords s).conf = s.conf := by
  simp only [State.startRecords]
  have h : ∀ (x : HoistDie) (b : Boot) (s : State), ({ s with hoist := x, boot := b } : State).conf = s.conf := fun _ _ _ => rfl
  rw [h, State.postIf_conf, State.postIf_conf]
  rw [ite_conf, State.record_conf, ite_self]
@[simp] theorem State.startWoken_conf (s : State) : (State.startWoken s).conf = s.conf := by simp [State.startWoken]
@[simp] theorem State.freeStarted_conf (s : State) : (State.freeStarted s).conf = s.conf := by simp [State.freeStarted]
@[simp] theorem State.startOutputs_conf (s : State) : (State.startOutputs s).conf = s.conf := by
  simp [State.startOutputs]
@[simp] theorem State.startInputs_conf (s : State) : (State.startInputs s).conf = s.conf := by simp [State.startInputs]
@[simp] theorem State.startWindows_conf (s : State) : (State.startWindows s).conf = s.conf := by
  simp only [State.startWindows]
  refine forRange_conf _ _ _ fun s h => ?_
  split
  · split <;> simp
  · rfl
@[simp] theorem State.showStrike_conf (s : State) : (State.showStrike s).conf = s.conf := (rfl)
@[simp] theorem State.vstoreRead_conf (s : State) (mv : Nat) : (State.vstoreRead s mv).conf = s.conf := by
  simp only [State.vstoreRead, State.postIf_conf, State.showStrike_conf, with_boot_conf, ite_conf]
@[simp] theorem State.afterRead_conf (s : State) (ix sub : Nat) : (State.afterRead s ix sub).conf = s.conf := by
  simp [State.afterRead]
@[simp] theorem State.doDomOffset_conf (s : State) (h ix v : Nat) : (State.doDomOffset s h ix v).conf = s.conf := by
  simp [State.doDomOffset]
@[simp] theorem State.enqueueOpen_conf (s : State) (r : Request) : (State.enqueueOpen s r).conf = s.conf := by
  simp [State.enqueueOpen]
@[simp] theorem State.respondAs_conf (s : State) (asked : Option Session) (h transaction : Nat) (entries : List Reply) : (State.respondAs s asked h transaction entries).conf = s.conf := by
  unfold State.respondAs
  extract_lets payload sent
  have h1 : ∀ s b, (sent s b).conf = s.conf := fun s b => (State.halSend_conf ..).trans rfl
  split
  · exact h1 _ _
  · split
    · simp
    · exact (h1 _ _).trans (State.setSession_conf ..)
@[simp] theorem State.respond_conf (s : State) (h transaction : Nat) (entries : List Reply) : (State.respond s h transaction entries).conf = s.conf := by
  simp [State.respond]
@[simp] theorem State.keepResponse_conf (s : State) (h transaction : Nat) (entries : List Reply) : (State.keepResponse s h transaction entries).conf = s.conf := by
  unfold State.keepResponse; split <;> simp
@[simp] theorem State.authFailed_conf (s : State) (h : Nat) : (State.authFailed s h).conf = s.conf := by
  simp only [State.authFailed]; (repeat' split) <;> simp
@[simp] theorem State.setSdo_conf (s : State) (c : Nat) (x : SdoServer) : (State.setSdo s c x).conf = s.conf := (rfl)
@[simp] theorem State.sdoFrames_conf (s : State) (c n : Nat) : (State.sdoFrames s c n).conf = s.conf := by
  simp [State.sdoFrames]
@[simp] theorem State.sdoAnswer_conf (s : State) (c code : Nat) (bytes : List Nat) : (State.sdoAnswer s c code bytes).conf = s.conf := (rfl)
@[simp] theorem State.sdoAbort_conf (s : State) (c : Nat) (e : Status) : (State.sdoAbort s c e).conf = s.conf := (rfl)
@[simp] theorem State.sdoBegin_conf (s : State) (c : Nat) : (State.sdoBegin s c).conf = s.conf := by
  simp only [State.sdoBegin]; (repeat' split) <;> first | rfl | simp
@[simp] theorem State.sdoGoOn_conf (s : State) (c : Nat) (t : SdoTransfer) (bytes : List Nat) (n : Nat := 1) : (State.sdoGoOn s c t bytes n).conf = s.conf := by
  simp [State.sdoGoOn]
@[simp] theorem State.sdoSent_conf (s : State) (c : Nat) (t : SdoTransfer) (bytes : List Nat) : (State.sdoSent s c t bytes).conf = s.conf := by
  unfold State.sdoSent; split <;> simp
@[simp] theorem State.nextBlock_conf (s : State) (c : Nat) (t : SdoTransfer) (acked size : Nat) : (State.nextBlock s c t acked size).conf = s.conf := by
  simp [State.nextBlock]
@[simp] theorem State.setMap_conf (s : State) (m : Nat) (x : PiMap) : (State.setMap s m x).conf = s.conf := (rfl)
@[simp] theorem State.mapRejects_conf (s : State) (m : Nat) (auth : Bool) : (State.mapRejects s m auth).conf = s.conf := by
  simp [State.mapRejects]
@[simp] theorem State.mapReceive_conf (s : State) (m sess fresh : Nat) (data : List Nat) (mac : List Nat) : (State.mapReceive s m sess fresh data mac).conf = s.conf := by
  simp only [State.mapReceive]; (repeat' split) <;> simp
@[simp] theorem State.mapSend_conf (s : State) (m v fresh : Nat) : (State.mapSend s m v fresh).conf = s.conf := by
  simp [State.mapSend]
@[simp] theorem State.mapTx_conf (s : State) (m : Nat) : (State.mapTx s m).conf = s.conf := by simp [State.mapTx]
@[simp] theorem State.canReceive_conf (s : State) (c : Nat) (f : CanFrame) : (State.canReceive s c f).conf = s.conf := by
  simp only [State.canReceive]; (repeat' split) <;> simp

end Sys2Proof.Machine
end

