-- ==== Sys2Proof/Laws/Kept.lean ====
section
/-!
SUPPORT. Switching an output, admission and the ledger's buffer leave the claims, the SAFE placement, the waiting host changes,
the sag states, the shed outputs, the loans, and the fades and patterns
alone (`State.kept`): one lemma per operation.
-/

namespace Sys2Proof.Machine

@[simp] theorem Ownership.with_kept (a : Ownership) c k g :
    ({ a with commanded := c, ownerClass := k, ownerTag := g } : Ownership).kept = a.kept := rfl
@[simp] theorem Arbiter.with_kept (a : Arbiter) e sl q r pr pe so d ov re rd ag :
    ({ a with entries := e, slopes := sl, queue := q, refused := r, portRaises := pr, portEnv := pe, sOver := so, defaulted := d
              oversub := ov, restoring := re, restored := rd, ages := ag } : Arbiter).kept = a.kept := rfl
@[simp] theorem setOb_kept (s : State) (k v : Nat) : (s.setOb k v).kept = s.kept := rfl
@[simp] theorem setIn_kept (s : State) (n : Nat) (f : Nat → Nat) (i v : Nat) : (s.setIn n f i v).kept = s.kept := by
  unfold State.setIn; split <;> rfl
@[simp] theorem bump_kept (s : State) (k : Nat) : (s.bump k).kept = s.kept := rfl
@[simp] theorem setBit_kept (s : State) (k i : Nat) (b : Bool) : (s.setBit k i b).kept = s.kept := rfl
@[simp] theorem ite_kept {c : Prop} [Decidable c] (a b : State) : (if c then a else b).kept = if c then a.kept else b.kept := by
  split <;> rfl
theorem forEach_kept' {α : Type} (l : List α) (f : State → α → State) (s t : State) (e : s.kept = t.kept)
    (h : ∀ s a, (f s a).kept = s.kept) : (forEach l f s).kept = t.kept := by
  induction l generalizing s with
  | nil => exact e
  | cons a r ih => exact ih _ ((h _ _).trans e)
theorem foldl_kept {α : Type} (l : List α) (f : State → α → State) (s : State) (h : ∀ s a, (f s a).kept = s.kept) :
    (l.foldl f s).kept = s.kept := by
  induction l generalizing s with
  | nil => rfl
  | cons a r ih => rw [List.foldl_cons, ih, h]
@[simp] theorem forRange_kept (n : Nat) (f : State → Nat → State) (s : State) (h : ∀ s a, (f s a).kept = s.kept) :
    (forRange n f s).kept = s.kept := foldl_kept _ _ _ h
@[simp] theorem forEach_kept {α : Type} (l : List α) (f : State → α → State) (s : State) (h : ∀ s a, (f s a).kept = s.kept) :
    (forEach l f s).kept = s.kept := foldl_kept _ _ _ h
@[simp] theorem with_own_kept (s : State) c k g :
    ({ s with own := { s.own with commanded := c, ownerClass := k, ownerTag := g } } : State).kept = s.kept := rfl
@[simp] theorem with_arb_kept (s : State) e sl q r pr pe so d ov re rd ag :
    ({ s with arb := { s.arb with entries := e, slopes := sl, queue := q, refused := r, portRaises := pr, portEnv := pe, sOver := so
                                  defaulted := d, oversub := ov, restoring := re, restored := rd, ages := ag } } : State).kept = s.kept := rfl
@[simp] theorem with_reply_kept (s : State) x : ({ s with reply := x } : State).kept = s.kept := rfl
@[simp] theorem with_fab_kept (s : State) x : ({ s with fab := x } : State).kept = s.kept := rfl
@[simp] theorem with_gd_kept (s : State) x : ({ s with gd := x } : State).kept = s.kept := rfl
@[simp] theorem with_br_kept (s : State) x : ({ s with br := x } : State).kept = s.kept := rfl
@[simp] theorem with_fan_kept (s : State) x : ({ s with fan := x } : State).kept = s.kept := rfl
@[simp] theorem with_sv_kept (s : State) x : ({ s with sv := x } : State).kept = s.kept := rfl
@[simp] theorem with_dout_kept (s : State) x : ({ s with dout := x } : State).kept = s.kept := rfl
@[simp] theorem with_bp_kept (s : State) x : ({ s with bp := x } : State).kept = s.kept := rfl
@[simp] theorem with_mx_kept (s : State) x : ({ s with mx := x } : State).kept = s.kept := rfl
@[simp] theorem with_ledger_kept (s : State) x : ({ s with ledger := x } : State).kept = s.kept := rfl
@[simp] theorem with_hoist_kept (s : State) x : ({ s with hoist := x } : State).kept = s.kept := rfl
@[simp] theorem with_factors_kept (s : State) x : ({ s with factors := x } : State).kept = s.kept := rfl

@[simp] theorem State.postAt_kept (s : State) (ts : Tick) (ev value : Nat) : (State.postAt s ts ev value).kept = s.kept := by
  simp [State.postAt]
@[simp] theorem State.post_kept (s : State) (ev value : Nat) : (State.post s ev value).kept = s.kept := by
  simp [State.post]
@[simp] theorem State.postIf_kept (s : State) (c : Bool) (ev value : Nat) : (State.postIf s c ev value).kept = s.kept := by
  simp [State.postIf]
@[simp] theorem State.storeRecord_kept (s : State) (r : LedgerRecord) : (State.storeRecord s r).kept = s.kept := by
  simp [State.storeRecord]
@[simp] theorem State.dropRecord_kept (s : State) : (State.dropRecord s).kept = s.kept := by simp [State.dropRecord]
@[simp] theorem State.record_kept (s : State) (r : LedgerRecord) : (State.record s r).kept = s.kept := by
  simp [State.record]
@[simp] theorem State.setGd_kept (s : State) (n : Nat) (c : GdChannel) : (State.setGd s n c).kept = s.kept := by
  simp [State.setGd]
@[simp] theorem State.setSv_kept (s : State) (n : Nat) (c : SvChannel) : (State.setSv s n c).kept = s.kept := by
  simp [State.setSv]
@[simp] theorem State.setDout_kept (s : State) (n : Nat) (c : Dout) : (State.setDout s n c).kept = s.kept := by
  simp [State.setDout]
@[simp] theorem State.setBr_kept (s : State) (n : Nat) (c : Bridge) : (State.setBr s n c).kept = s.kept := by
  simp [State.setBr]
@[simp] theorem State.setFan_kept (s : State) (n : Nat) (c : Fan) : (State.setFan s n c).kept = s.kept := by
  simp [State.setFan]
@[simp] theorem State.setMx_kept (s : State) (n : Nat) (c : MxPort) : (State.setMx s n c).kept = s.kept := by
  simp [State.setMx]
@[simp] theorem State.setBp_kept (s : State) (n : Nat) (c : BuntingPort) : (State.setBp s n c).kept = s.kept := by
  simp [State.setBp]
@[simp] theorem State.svEnter_kept (s : State) (c ph : Nat) : (State.svEnter s c ph).kept = s.kept := by
  simp [State.svEnter]
@[simp] theorem State.gdShow_kept (s : State) (c v : Nat) : (State.gdShow s c v).kept = s.kept := by simp [State.gdShow]
@[simp] theorem State.gdApplyAt_kept (s : State) (c v period : Nat) : (State.gdApplyAt s c v period).kept = s.kept := by
  simp [State.gdApplyAt]
@[simp] theorem State.gdApply_kept (s : State) (c v : Nat) : (State.gdApply s c v).kept = s.kept := by
  simp [State.gdApply]
@[simp] theorem State.gdCancel_kept (s : State) (c : Nat) : (State.gdCancel s c).kept = s.kept := by
  simp [State.gdCancel]
@[simp] theorem State.gdOff_kept (s : State) (c : Nat) : (State.gdOff s c).kept = s.kept := by simp [State.gdOff]
@[simp] theorem State.gdDrive_kept (s : State) (c v : Nat) : (State.gdDrive s c v).kept = s.kept := by
  simp [State.gdDrive]
@[simp] theorem State.brChannels_kept (s : State) (h dir duty : Nat) : (State.brChannels s h dir duty).kept = s.kept := by
  unfold State.brChannels; split <;> simp
@[simp] theorem State.brShow_kept (s : State) (h st : Nat) : (State.brShow s h st).kept = s.kept := by
  simp [State.brShow]
@[simp] theorem State.brStart_kept (s : State) (h : Nat) : (State.brStart s h).kept = s.kept := by simp [State.brStart]
@[simp] theorem State.fanOff_kept (s : State) (f : Nat) : (State.fanOff s f).kept = s.kept := by simp [State.fanOff]
@[simp] theorem State.fanDuty_kept (s : State) (f d : Nat) : (State.fanDuty s f d).kept = s.kept := by
  simp [State.fanDuty]
@[simp] theorem State.fanStart_kept (s : State) (f : Nat) : (State.fanStart s f).kept = s.kept := by
  simp [State.fanStart]
@[simp] theorem State.fanDeliver_kept (s : State) (f v : Nat) : (State.fanDeliver s f v).kept = s.kept := by
  simp [State.fanDeliver]
@[simp] theorem State.doutShow_kept (s : State) (d v : Nat) : (State.doutShow s d v).kept = s.kept := by
  simp [State.doutShow]
@[simp] theorem State.doutCancel_kept (s : State) (d : Nat) : (State.doutCancel s d).kept = s.kept := by
  simp [State.doutCancel]
@[simp] theorem State.doutDrive_kept (s : State) (d v : Nat) : (State.doutDrive s d v).kept = s.kept := by
  simp [State.doutDrive]
@[simp] theorem State.drive_kept (s : State) (sig v0 : Nat) : (State.drive s sig v0).kept = s.kept := by
  simp only [State.drive]; (repeat' split) <;> simp
@[simp] theorem State.command_kept (s : State) (sig v : Nat) : (State.command s sig v).kept = s.kept := by
  simp [State.command]
@[simp] theorem State.commandOwned_kept (s : State) (sig v : Nat) : (State.commandOwned s sig v).kept = s.kept := by
  simp [State.commandOwned]
@[simp] theorem State.portFit_kept (s : State) (port cls : Nat) : (State.portFit s port cls).kept = s.kept := by
  simp [State.portFit]
@[simp] theorem State.undark_kept (s : State) (sig : Nat) : (State.undark s sig).kept = s.kept := by simp [State.undark]
@[simp] theorem State.showShed_kept (s : State) : (State.showShed s).kept = s.kept := by
  simp only [State.showShed]; (repeat' split) <;> first | rfl | simp
@[simp] theorem State.restoredOne_kept (s : State) (sig : Nat) : (State.restoredOne s sig).kept = s.kept := by
  simp [State.restoredOne]
@[simp] theorem State.portTake_kept (s : State) (x : Nat × Nat) : (State.portTake s x).kept = s.kept := by
  simp [State.portTake]
@[simp] theorem State.release_kept (s : State) (r : AdmRequest) : (State.release s r).kept = s.kept := by
  unfold State.release
  extract_lets t p b s1 s2 src
  have e : t.kept = s.kept := by simp only [t]; split <;> rfl
  rw [← e]
  clear_value t
  split
  · simp only [State.portFit_kept, forEach_kept, State.portTake_kept, implies_true, s1]
    split
    · exact State.setBp_kept ..
    · exact forEach_kept _ _ _ (fun _ _ => rfl)
  · split
    · simp
    · split <;> simp [s2]
@[simp] theorem State.noteWait_kept (s : State) (r : AdmRequest) : (State.noteWait s r).kept = s.kept := by
  simp [State.noteWait]
@[simp] theorem State.admitNow_kept (s : State) (r : AdmRequest) : (State.admitNow s r).kept = s.kept := by
  simp only [State.admitNow, State.release_kept, State.noteWait_kept, setOb_kept, bump_kept, with_arb_kept, State.postIf_kept]
@[simp] theorem State.admitS_kept (s : State) (r : AdmRequest) : (State.admitS s r).kept = s.kept := by
  simp [State.admitS]
@[simp] theorem State.checkOver_kept (s : State) : (State.checkOver s).kept = s.kept := by simp [State.checkOver]
@[simp] theorem State.runQueueN_kept (n : Nat) (s : State) : (State.runQueueN n s).kept = s.kept := by
  induction n generalizing s with
  | zero => simp [State.runQueueN]
  | succ n ih =>
    simp only [State.runQueueN]
    split
    · simp
    · split <;> simp [ih]
@[simp] theorem State.refillN_kept (n : Nat) (s : State) : (State.refillN n s).kept = s.kept := by
  induction n generalizing s with
  | zero => simp [State.refillN]
  | succ n ih =>
    simp only [State.refillN]
    split
    · simp
    · split <;> simp [ih]
@[simp] theorem State.runQueue_kept (s : State) : (State.runQueue s).kept = s.kept := by simp [State.runQueue]
@[simp] theorem State.refuse_kept (s : State) (r : AdmRequest) : (State.refuse s r).kept = s.kept := by
  simp [State.refuse]
@[simp] theorem State.showWait_kept (s : State) (sig : Nat) : (State.showWait s sig).kept = s.kept := by
  simp only [State.showWait]; (repeat' split) <;> simp
@[simp] theorem State.present_kept (s : State) (r : AdmRequest) : (State.present s r).kept = s.kept := by
  simp only [State.present]; (repeat' split) <;> simp
@[simp] theorem State.withdrawIf_kept (s : State) (p : AdmRequest → Bool) : (State.withdrawIf s p).kept = s.kept := by
  simp [State.withdrawIf]
@[simp] theorem State.withdraw_kept (s : State) (sig : Nat) : (State.withdraw s sig).kept = s.kept := by
  simp [State.withdraw]
@[simp] theorem State.revise_kept (s : State) (old new : AdmRequest) : (State.revise s old new).kept = s.kept := by
  simp [State.revise]
@[simp] theorem State.keepAge_kept (s : State) (key : Nat) (t : Tick) : (State.keepAge s key t).kept = s.kept := by
  simp [State.keepAge]
@[simp] theorem State.takeAge_kept (s : State) (key : Nat) : (State.takeAge s key).kept = s.kept := by
  simp [State.takeAge]
@[simp] theorem State.dropEntry_kept (s : State) (sig : Nat) : (State.dropEntry s sig).kept = s.kept := by
  simp [State.dropEntry]
@[simp] theorem State.reduceEntry_kept (s : State) (sig v : Nat) : (State.reduceEntry s sig v).kept = s.kept := by
  unfold State.reduceEntry; split <;> simp
@[simp] theorem State.ownedBy_kept (s : State) (sig : Nat) : (State.ownedBy s sig).kept = s.kept := by
  simp [State.ownedBy]
@[simp] theorem State.applyValue_kept (s : State) (sig v : Nat) : (State.applyValue s sig v).kept = s.kept := by
  simp [State.applyValue]
@[simp] theorem State.submit_kept (s : State) (sig cls v : Nat) : (State.submit s sig cls v).kept = s.kept := by
  unfold State.submit; (repeat' split) <;> simp
@[simp] theorem State.dropRaise_kept (s : State) (sig : Nat) : (State.dropRaise s sig).kept = s.kept := by
  simp [State.dropRaise]
@[simp] theorem State.portRaise_kept (s : State) (sig cls v : Nat) : (State.portRaise s sig cls v).kept = s.kept := by
  simp [State.portRaise]
@[simp] theorem State.portLower_kept (s : State) (sig v : Nat) : (State.portLower s sig v).kept = s.kept := by
  simp [State.portLower]
@[simp] theorem State.holdEnvelope_kept (s : State) (sig level : Nat) : (State.holdEnvelope s sig level).kept = s.kept := by
  unfold State.holdEnvelope; split <;> simp
@[simp] theorem State.resolveTagged_kept (s : State) (sig code tag v : Nat) : (State.resolveTagged s sig code tag v).kept = s.kept := by
  unfold State.resolveTagged; (repeat' split) <;> simp
@[simp] theorem State.resolvePort_kept (s : State) (sig code tag v : Nat) : (State.resolvePort s sig code tag v).kept = s.kept := by
  simp [State.resolvePort]
@[simp] theorem State.resubmit_kept (s : State) (sig : Nat) : (State.resubmit s sig).kept = s.kept := by
  unfold State.resubmit; (repeat' split) <;> simp
@[simp] theorem State.setBrFlag_kept (s : State) (h i : Nat) (b : Bool) : (State.setBrFlag s h i b).kept = s.kept := by
  simp [State.setBrFlag]
@[simp] theorem State.brSlot_kept (s : State) (h k value : Nat) : (State.brSlot s h k value).kept = s.kept := by
  simp [State.brSlot]
@[simp] theorem State.brUnload_kept (s : State) (h : Nat) : (State.brUnload s h).kept = s.kept := by
  simp [State.brUnload]
@[simp] theorem State.brStop_kept (s : State) (h reason : Nat) : (State.brStop s h reason).kept = s.kept := by
  simp [State.brStop]
@[simp] theorem State.brPresent_kept (s : State) (h dir cls code : Nat) : (State.brPresent s h dir cls code).kept = s.kept := by
  simp only [State.brPresent]; (repeat' split) <;> simp
@[simp] theorem State.brMove_kept (s : State) (h dir : Nat) : (State.brMove s h dir).kept = s.kept := by
  simp [State.brMove]
@[simp] theorem State.brHalt_kept (s : State) (h reason : Nat) : (State.brHalt s h reason).kept = s.kept := by
  simp [State.brHalt]
@[simp] theorem State.brHold_kept (s : State) (h : Nat) : (State.brHold s h).kept = s.kept := by simp [State.brHold]
@[simp] theorem State.lockPulse_kept (s : State) (h code : Nat) : (State.lockPulse s h code).kept = s.kept := by
  simp [State.lockPulse]
@[simp] theorem State.wiperAct_kept (s : State) (h code : Nat) : (State.wiperAct s h code).kept = s.kept := by
  simp [State.wiperAct]
@[simp] theorem State.windowAct_kept (s : State) (h code : Nat) : (State.windowAct s h code).kept = s.kept := by
  simp only [State.windowAct]; (repeat' split) <;> simp
@[simp] theorem State.brAct_kept (s : State) (h code : Nat) : (State.brAct s h code).kept = s.kept := by
  unfold State.brAct; (repeat' split) <;> simp
@[simp] theorem State.gdResubmit_kept (s : State) (c why : Nat) : (State.gdResubmit s c why).kept = s.kept := by
  simp only [State.gdResubmit]; (repeat' split) <;> simp
@[simp] theorem State.svResubmit_kept (s : State) (c why : Nat) : (State.svResubmit s c why).kept = s.kept := by
  simp [State.svResubmit]
@[simp] theorem State.doutResubmit_kept (s : State) (d why : Nat) : (State.doutResubmit s d why).kept = s.kept := by
  simp [State.doutResubmit]
@[simp] theorem State.mxRestart_kept (s : State) (p why : Nat) : (State.mxRestart s p why).kept = s.kept := by
  simp [State.mxRestart]
@[simp] theorem State.endEnvelope_kept (s : State) (sig : Nat) : (State.endEnvelope s sig).kept = s.kept := by
  unfold State.endEnvelope; (repeat' split) <;> simp
@[simp] theorem State.endEnvelopes_kept (s : State) (g : Nat) : (State.endEnvelopes s g).kept = s.kept := by
  simp [State.endEnvelopes]

end Sys2Proof.Machine
end

