-- ==== Sys2Proof/WellFormed.lean ====
section
/-!
DEFINITION. Which terms of `Instr` are commands: what the operand types alone do not say. A session handle is a U16 (R48), a
dictionary frame is at most 1,484 bytes (R48), a CAN frame's data is as long as its DLC says (R311), an SDO segment carries at
most 7 bytes and a block at most 127 segments (R53). A measured quantity may be any number.
-/

namespace Sys2Proof

/-- SESSION is a U16 (R48). -/
def sessWf (sess : Nat) : Bool := decide (sess < 2 ^ 16)

/-- Bytes a CAN frame's DLC stands for: a classical frame carries at most 8, an FD frame 12 to 64 from DLC 9 on (R311). -/
def CanFrame.bytes (f : CanFrame) : Nat :=
  if f.dlc.val ≤ 8 then f.dlc.val
  else if !f.fdf then 8
  else match f.dlc.val with
  | 9 => 12
  | 10 => 16
  | 11 => 20
  | 12 => 24
  | 13 => 32
  | 14 => 48
  | _ => 64

/-- A CAN frame (R311): a standard identifier has 11 bits, a remote frame is classical and carries no data, and only an FD
frame switches its rate or shows an error-passive sender. -/
def CanFrame.wf (f : CanFrame) : Bool :=
  (f.ext || decide (f.id.toNat < 2 ^ 11)) && (f.fdf || (!f.brs && !f.esi)) && !(f.fdf && f.rtr) &&
    decide (f.data.length = if f.rtr then 0 else f.bytes)

/-- A segment of CiA 301 carries at most 7 bytes (R53). -/
def SdoFrame.wf : SdoFrame → Bool
  | .initiate _ _ _ => true
  | .segment _ _ data => decide (data.length ≤ 7)

/-- A block holds 1 to 127 segments of at most 7 bytes (R53). -/
def SdoBlockFrame.wf : SdoBlockFrame → Bool
  | .initiate _ _ _ n _ => decide (n.toNat ≤ 127)
  | .segment q _ data => decide (1 ≤ q.toNat) && decide (q.toNat ≤ 127) && decide (data.length ≤ 7)
  | .ack q n => decide (q.toNat ≤ 127) && decide (n.toNat ≤ 127)
  | .end_ _ => true

/-- A discovery asks for the count four times, and then for a capability and a version of each position (R263). -/
def BuntingDiscovery.wf (d : BuntingDiscovery) : Bool :=
  decide (d.counts.length = 4) && decide (d.capabilities.length = d.versions.length) && decide (d.versions.length ≤ 4096)

/-- Balls found joined: a ball has at most eight neighbours, each named once (R281). -/
def ballsWf (joined : List (BitVec 8)) : Bool := decide (joined.length ≤ 8) && decide joined.Nodup

/-- The term is a command. -/
def Instr.wf : Instr → Bool
  | .dieLinkWord _ _ _ => true
  | .laneFailover _ => true
  | .laneRetest _ _ => true
  | .pllLock => true
  | .pllUnlock => true
  | .forwardedClockLoss => true
  | .pllLockTimeout => true
  | .lfPeriod => true
  | .dictRequestFrame frame => decide (frame.length ≤ 1484)
  | .dictRead sess _ _ => sessWf sess
  | .dictWrite sess _ _ data => sessWf sess && decide (data.length ≤ 65535)
  | .domainRead sess _ _ _ => sessWf sess
  | .domainWrite sess _ _ data => sessWf sess && decide (data.length ≤ 65535)
  | .readRecord sess _ => sessWf sess
  | .sdoExpeditedDownload _ _ _ data => decide (1 ≤ data.length) && decide (data.length ≤ 4)
  | .sdoExpeditedUpload _ _ _ => true
  | .sdoSegmentedDownload _ frame => frame.wf
  | .sdoSegmentedUpload _ frame => frame.wf
  | .sdoBlockDownload _ frame => frame.wf
  | .sdoBlockUpload _ frame => frame.wf
  | .sdoNetworkIndication _ => true
  | .sdoTransferTimeout _ => true
  | .cfgWrite sess _ _ data => sessWf sess && decide (data.length ≤ 65535)
  | .registerWrite sess _ _ data => sessWf sess && decide (data.length ≤ 65535)
  | .commit sess => sessWf sess
  | .discardPendingSet sess => sessWf sess
  | .commitApply => true
  | .commitDurable _ => true
  | .domOffsetWrite sess _ _ => sessWf sess
  | .domainHoldTimeout _ => true
  | .piRxFrame _ sess _ data _ => sessWf sess && decide (data.length ≤ 1024)
  | .piTxPeriod _ => true
  | .piRxTimeout _ => true
  | .addrBurstSend => true
  | .addrCodeAccept _ _ => true
  | .addrWaitExpiry => true
  | .addrConfirm sess _ => sessWf sess
  | .presenceSend => true
  | .presenceReceive _ => true
  | .presenceTimeout _ => true
  | .capabilityRequest _ _ => true
  | .capabilityResponse _ r => decide (r.capIds.length ≤ 255)
  | .capabilityRetry _ => true
  | .plcaBeaconLoss => true
  | .halyardLinkChange _ => true
  | .syncReceive _ _ => true
  | .announceReceive => true
  | .pdelayReqSend => true
  | .pdelayRespReceive _ _ _ => true
  | .syncMissed => true
  | .holdoverExpiry => true
  | .noticeSend => true
  | .hostClaim sess _ _ => sessWf sess
  | .hostRelease sess _ => sessWf sess
  | .hostReleaseAll sess => sessWf sess
  | .hostEmptyRuleSlots sess _ => sessWf sess
  | .ownerQuery sess _ => sessWf sess
  | .heartbeat sess _ => sessWf sess
  | .heartbeatLoss => true
  | .safeRelease sess _ => sessWf sess
  | .hoistWatchdogTrip => true
  | .flyResetRelease => true
  | .reflexSegment _ => true
  | .slopeExpiry => true
  | .presentValueStep => true
  | .dissipationStep => true
  | .waitWarnExpiry => true
  | .sagCEnter _ => true
  | .sagAEnter _ => true
  | .sagEnd _ => true
  | .loanFreeze => true
  | .loanRelease sess _ => sessWf sess
  | .gdTrip _ _ _ => true
  | .gdRampTimeout _ => true
  | .gdGateOpen _ _ => true
  | .gdInterlockFault _ => true
  | .gdSoftStartEnd _ => true
  | .gdOpenLoad _ _ => true
  | .gdOffDiagCheck _ _ _ => true
  | .gdThermalUpdate _ => true
  | .vcpLow _ => true
  | .vcpRestored _ => true
  | .drainRailAbsent _ _ _ => true
  | .drainRailRestored _ _ _ => true
  | .gdRetry _ => true
  | .retryResetExpiry _ => true
  | .gdRecovered _ _ => true
  | .gdFaultClear sess _ => sessWf sess
  | .gdDiagRun sess _ => sessWf sess
  | .bridgeCommand _ _ => true
  | .bridgeBrakeEnd _ => true
  | .bridgeRunMax _ _ => true
  | .bridgeStall _ _ _ => true
  | .bridgeOpenLoad _ _ => true
  | .forceEstimate _ _ _ _ => true
  | .pinch _ => true
  | .pinchReversalEnd _ _ => true
  | .lockPulseEnd _ => true
  | .wiperPark _ _ => true
  | .wipeIntervalExpiry _ => true
  | .wiperBlocked _ _ => true
  | .brClear sess _ => sessWf sess
  | .brForget sess _ => sessWf sess
  | .fanLoopUpdate _ _ => true
  | .fanStartFailed _ _ => true
  | .spinupWindowEnd _ _ => true
  | .fanRetry _ => true
  | .fanStallRunning _ _ => true
  | .tachOpen _ _ => true
  | .tachRestored _ _ => true
  | .fanClear sess _ => sessWf sess
  | .svCommand _ _ => true
  | .svBoostEnd _ _ => true
  | .svPeakHoldEnd _ => true
  | .svFastOffEnd _ _ => true
  | .svRetrigger sess _ => sessWf sess
  | .svRegFault _ _ => true
  | .svRangeChangeStart _ _ => true
  | .svRangeChangeEnd _ => true
  | .svMoveEvaluation _ _ => true
  | .svTrip _ _ _ _ => true
  | .svLeak _ _ _ => true
  | .svOpenLoad _ _ => true
  | .svOffDiagCheck _ _ _ _ => true
  | .svOvertemp _ _ => true
  | .svRetry _ => true
  | .svFaultClear sess _ => sessWf sess
  | .svDiagRun sess _ => sessWf sess
  | .dinEdge _ _ => true
  | .dinChatter _ => true
  | .dinOvervoltage _ _ => true
  | .doutTrip _ _ _ => true
  | .doutCooled _ => true
  | .doutRetry _ => true
  | .doutOpenLoad _ _ => true
  | .doutOffDiagCheck _ _ _ => true
  | .doutFaultClear sess _ => sessWf sess
  | .doutDiagRun sess _ => sessWf sess
  | .ainSlot _ _ _ => true
  | .ainRangeChangeEnd _ => true
  | .vsensStateChange _ _ => true
  | .tachEdge _ => true
  | .tachGlitching _ _ => true
  | .tachTimeout _ => true
  | .passportLearn _ _ _ _ _ _ _ => true
  | .ppRelearn sess _ => sessWf sess
  | .ppReference sess _ => sessWf sess
  | .ppClearDrift sess _ => sessWf sess
  | .gdCalibration _ _ _ _ => true
  | .svOffsetCalibration _ _ _ _ => true
  | .readingExtrapolated _ _ _ => true
  | .supplyWindowExit _ _ => true
  | .supplyWindowReturn _ _ => true
  | .supMinMaxRead sess _ _ => sessWf sess
  | .temperatureSample _ _ _ _ _ => true
  | .cableRun sess _ => sessWf sess
  | .cableMeasured _ _ _ => true
  | .bpFrame _ _ _ heard => decide (heard.replies.length ≤ 16)
  | .bpLineFault _ _ => true
  | .bpDiscovery _ d => d.wf
  | .bpRetryExpiry _ => true
  | .bpCommandFrame _ => true
  | .bpRediscover sess _ => sessWf sess
  | .bpNodeClear sess _ _ => sessWf sess
  | .nodeTimeout _ _ => true
  | .mxLineTrip _ _ => true
  | .mxColumnOvervoltage _ _ _ => true
  | .mxPixelOpen _ _ _ _ => true
  | .mxOvertemp _ _ => true
  | .mxRetry _ => true
  | .mxFaultClear sess _ => sessWf sess
  | .pixelClear sess _ => sessWf sess
  | .deratingUpdate => true
  | .nbRun sess => sessWf sess
  | .nbBallTest _ joined => ballsWf joined
  | .nbOnlineTest _ joined => ballsWf joined
  | .groupFade sess _ _ _ => sessWf sess
  | .groupPattern sess _ _ _ => sessWf sess
  | .groupRelease sess _ => sessWf sess
  | .groupQuery sess _ => sessWf sess
  | .fadeStep _ _ => true
  | .patternStep _ => true
  | .timerCompare _ _ => true
  | .timerOverflow _ => true
  | .cmpWrite sess _ _ _ => sessWf sess
  | .tmrStart sess _ => sessWf sess
  | .tmrStop sess _ => sessWf sess
  | .tmrReset sess _ => sessWf sess
  | .tmrResetAndStart sess _ => sessWf sess
  | .gsArm sess => sessWf sess
  | .globalStart => true
  | .eventOccurrence => true
  | .eventRelease => true
  | .eventPost sess _ => sessWf sess
  | .canNoticeSend _ => true
  | .canFrameReceived _ f _ => f.wf
  | .protocolException _ => true
  | .moDataWrite sess _ data _ => sessWf sess && decide (data.length ≤ 65535)
  | .moDataRead sess _ _ => sessWf sess
  | .txPeriod _ _ => true
  | .canTransmissionDone _ => true
  | .canTxError _ _ => true
  | .txTimeoutExpiry _ => true
  | .rxObjectTimeout _ => true
  | .strayAck sess _ _ => sessWf sess
  | .canBusJoin _ => true
  | .busOffRecovery _ => true
  | .recoverFromBusOff sess _ => sessWf sess
  | .discardPendingFrames sess _ => sessWf sess
  | .oneAttemptNow sess _ => sessWf sess
  | .aloneRetry _ => true
  | .transceiverFault _ _ => true
  | .j1939Claim _ => true
  | .j1939ContendingClaim _ _ _ => true
  | .j1939RequestClaimed _ => true
  | .nmRingMessage _ _ _ => true
  | .nmRingSend => true
  | .nmAliveTimeout => true
  | .nmPresentTimeout _ => true
  | .nmSleepWaitExpiry => true
  | .nmLimpHomeMessage => true
  | .nmKeeper _ => true
  | .selectiveWakeFrame _ f => f.wf
  | .wakePinEdge _ _ => true
  | .busActivityWake _ _ => true
  | .nmHoldStay sess => sessWf sess
  | .nmReleaseStay sess => sessWf sess
  | .nmResume sess => sessWf sess
  | .placeHostVote sess _ => sessWf sess
  | .withdrawHostVote sess _ => sessWf sess
  | .withdrawAllHostVotes sess => sessWf sess
  | .suspendStandingVotes sess _ => sessWf sess
  | .restoreStandingVotes sess _ => sessWf sess
  | .domainSwitch _ => true
  | .lingerExpiry => true
  | .enterDipped => true
  | .enterHalfMast => true
  | .enterFurled => true
  | .exitDipped => true
  | .exitHalfMast _ => true
  | .wakeCapture _ _ => true
  | .wakeHoldExpiry => true
  | .rtcAlarm => true
  | .rtcSecondsWrite sess _ => sessWf sess
  | .parkingLoadFault _ _ => true
  | .hoistPorRelease => true
  | .hoistPorAssert _ => true
  | .flyResetReleaseAtStart => true
  | .imageCheck _ _ => true
  | .configurationApplied _ _ => true
  | .applyHeldLowVbat _ => true
  | .firstSweepStart => true
  | .coreSupplyFault _ => true
  | .coreSupplyRestored => true
  | .resetNLow => true
  | .vstoreReadiness _ => true
  | .strikeTrigger _ _ => true
  | .strikeRestart => true
  | .trngHealthFail _ => true
  | .trngRetest _ => true
  | .keyImport sess => sessWf sess
  | .keyGenerate sess => sessWf sess
  | .keyDerive sess => sessWf sess
  | .keyZero sess => sessWf sess
  | .lcRequest sess _ => sessWf sess
  | .lcConfirm sess _ => sessWf sess
  | .sessionSetupMsg1 _ _ _ _ _ => true
  | .sessionSetupMsg3 _ _ _ _ => true
  | .setupMsg3Timeout _ => true
  | .roleLockoutEnd _ => true
  | .sessionClose sess => sessWf sess
  | .sessionIdleTimeout sess => sessWf sess
  | .cjRun sess => sessWf sess
  | .cipherJobDone sess => sessWf sess
  | .pkSign sess => sessWf sess
  | .pkVerify sess => sessWf sess
  | .pkExport sess => sessWf sess
  | .randomRead sess => sessWf sess
  | .debugRequest sess _ => sessWf sess
  | .debugClose sess => sessWf sess
  | .debuggerConnect _ => true
  | .debugWindowExpiry => true
  | .trstNLow => true
  | .debugHalt => true
  | .debugResume => true
  | .extest _ => true
  | .bkeyPresence => true
  | .bkeySettleExpiry => true
  | .bkeyExchange _ => true
  | .bkeyRemoved => true
  | .bkeyHeldLow => true
  | .lfPoll _ => true
  | .lfExchange _ => true
  | .burgeeLockoutEnd _ => true
  | .bgClearLock sess _ => sessWf sess
  | .relOpen sess _ => sessWf sess
  | .relClose sess _ => sessWf sess
  | .releaseWindowExpiry _ => true
  | .implementChallenge _ => true
  | .implRun sess _ => sessWf sess
  | .implementDecision _ => true
  | .pageSeal => true
  | .pageWriteDone _ _ => true
  | .flushTimeExpiry => true
  | .linkRetrain _ => true
  | .ledgerLinkStart _ => true
  | .recordsLost => true
  | .smartRead _ => true
  | .ledgerFlush sess => sessWf sess
  | .ledgerAttest sess => sessWf sess
  | .ledgerFormat sess => sessWf sess
  | .stageWrite sess _ _ data => sessWf sess && decide (data.length ≤ 65535)
  | .updVerify sess _ => sessWf sess
  | .updDiscard sess _ => sessWf sess
  | .updActivate sess _ => sessWf sess
  | .mastActivation _ _ => true
  | .ensignActivation => true
  | .updateRestart => true
  | .nodeActivation => true
  | .updNodeRun sess _ => sessWf sess
  | .nodeDistributionPass _ _ => true
  | .nodeImageSwitch _ _ => true
  | .updConfirm sess _ => sessWf sess
  | .laneMismatch _ _ => true
  | .spareJoined _ => true
  | .tileFault _ _ => true
  | .sramClusterFault _ _ => true
  | .mramClusterFault _ _ => true
  | .regulatorPhaseFault _ => true
  | .stageSelfTest _ _ => true
  | .standbyLaneCheck _ _ => true
  | .spareLbist _ _ => true
  | .sequencerFault => true
  | .microcodeCheck _ => true
  | .scrub _ _ _ => true
  | .splitAck sess _ => sessWf sess
  | .tileRetest sess => sessWf sess
  | .skewCheck _ quadrants supplies => decide (quadrants.length = 4) && decide (supplies.length = 4)
  | .pwmPeriodStart _ => true
  | .mxLineSlotStart _ => true
  | .lockRateWindowExpiry _ => true
  | .j1939ClaimWait _ => true
  | .transceiverFaultCleared _ _ => true
  | .protocolExceptionEnd _ => true
  | .plcaBeaconResume => true
  | .holderVoteTimer _ => true
  | .lfOscillationEstablished => true

/-- The session a request is made in; `none` for a command that is no request of a session. -/
def Instr.sess : Instr → Option Nat
  | .dieLinkWord _ _ _ => none
  | .laneFailover _ => none
  | .laneRetest _ _ => none
  | .pllLock => none
  | .pllUnlock => none
  | .forwardedClockLoss => none
  | .pllLockTimeout => none
  | .lfPeriod => none
  | .dictRequestFrame _ => none
  | .dictRead sess _ _ => some sess
  | .dictWrite sess _ _ _ => some sess
  | .domainRead sess _ _ _ => some sess
  | .domainWrite sess _ _ _ => some sess
  | .readRecord sess _ => some sess
  | .sdoExpeditedDownload _ _ _ _ => none
  | .sdoExpeditedUpload _ _ _ => none
  | .sdoSegmentedDownload _ _ => none
  | .sdoSegmentedUpload _ _ => none
  | .sdoBlockDownload _ _ => none
  | .sdoBlockUpload _ _ => none
  | .sdoNetworkIndication _ => none
  | .sdoTransferTimeout _ => none
  | .cfgWrite sess _ _ _ => some sess
  | .registerWrite sess _ _ _ => some sess
  | .commit sess => some sess
  | .discardPendingSet sess => some sess
  | .commitApply => none
  | .commitDurable _ => none
  | .domOffsetWrite sess _ _ => some sess
  | .domainHoldTimeout _ => none
  | .piRxFrame _ sess _ _ _ => some sess
  | .piTxPeriod _ => none
  | .piRxTimeout _ => none
  | .addrBurstSend => none
  | .addrCodeAccept _ _ => none
  | .addrWaitExpiry => none
  | .addrConfirm sess _ => some sess
  | .presenceSend => none
  | .presenceReceive _ => none
  | .presenceTimeout _ => none
  | .capabilityRequest _ _ => none
  | .capabilityResponse _ _ => none
  | .capabilityRetry _ => none
  | .plcaBeaconLoss => none
  | .halyardLinkChange _ => none
  | .syncReceive _ _ => none
  | .announceReceive => none
  | .pdelayReqSend => none
  | .pdelayRespReceive _ _ _ => none
  | .syncMissed => none
  | .holdoverExpiry => none
  | .noticeSend => none
  | .hostClaim sess _ _ => some sess
  | .hostRelease sess _ => some sess
  | .hostReleaseAll sess => some sess
  | .hostEmptyRuleSlots sess _ => some sess
  | .ownerQuery sess _ => some sess
  | .heartbeat sess _ => some sess
  | .heartbeatLoss => none
  | .safeRelease sess _ => some sess
  | .hoistWatchdogTrip => none
  | .flyResetRelease => none
  | .reflexSegment _ => none
  | .slopeExpiry => none
  | .presentValueStep => none
  | .dissipationStep => none
  | .waitWarnExpiry => none
  | .sagCEnter _ => none
  | .sagAEnter _ => none
  | .sagEnd _ => none
  | .loanFreeze => none
  | .loanRelease sess _ => some sess
  | .gdTrip _ _ _ => none
  | .gdRampTimeout _ => none
  | .gdGateOpen _ _ => none
  | .gdInterlockFault _ => none
  | .gdSoftStartEnd _ => none
  | .gdOpenLoad _ _ => none
  | .gdOffDiagCheck _ _ _ => none
  | .gdThermalUpdate _ => none
  | .vcpLow _ => none
  | .vcpRestored _ => none
  | .drainRailAbsent _ _ _ => none
  | .drainRailRestored _ _ _ => none
  | .gdRetry _ => none
  | .retryResetExpiry _ => none
  | .gdRecovered _ _ => none
  | .gdFaultClear sess _ => some sess
  | .gdDiagRun sess _ => some sess
  | .bridgeCommand _ _ => none
  | .bridgeBrakeEnd _ => none
  | .bridgeRunMax _ _ => none
  | .bridgeStall _ _ _ => none
  | .bridgeOpenLoad _ _ => none
  | .forceEstimate _ _ _ _ => none
  | .pinch _ => none
  | .pinchReversalEnd _ _ => none
  | .lockPulseEnd _ => none
  | .wiperPark _ _ => none
  | .wipeIntervalExpiry _ => none
  | .wiperBlocked _ _ => none
  | .brClear sess _ => some sess
  | .brForget sess _ => some sess
  | .fanLoopUpdate _ _ => none
  | .fanStartFailed _ _ => none
  | .spinupWindowEnd _ _ => none
  | .fanRetry _ => none
  | .fanStallRunning _ _ => none
  | .tachOpen _ _ => none
  | .tachRestored _ _ => none
  | .fanClear sess _ => some sess
  | .svCommand _ _ => none
  | .svBoostEnd _ _ => none
  | .svPeakHoldEnd _ => none
  | .svFastOffEnd _ _ => none
  | .svRetrigger sess _ => some sess
  | .svRegFault _ _ => none
  | .svRangeChangeStart _ _ => none
  | .svRangeChangeEnd _ => none
  | .svMoveEvaluation _ _ => none
  | .svTrip _ _ _ _ => none
  | .svLeak _ _ _ => none
  | .svOpenLoad _ _ => none
  | .svOffDiagCheck _ _ _ _ => none
  | .svOvertemp _ _ => none
  | .svRetry _ => none
  | .svFaultClear sess _ => some sess
  | .svDiagRun sess _ => some sess
  | .dinEdge _ _ => none
  | .dinChatter _ => none
  | .dinOvervoltage _ _ => none
  | .doutTrip _ _ _ => none
  | .doutCooled _ => none
  | .doutRetry _ => none
  | .doutOpenLoad _ _ => none
  | .doutOffDiagCheck _ _ _ => none
  | .doutFaultClear sess _ => some sess
  | .doutDiagRun sess _ => some sess
  | .ainSlot _ _ _ => none
  | .ainRangeChangeEnd _ => none
  | .vsensStateChange _ _ => none
  | .tachEdge _ => none
  | .tachGlitching _ _ => none
  | .tachTimeout _ => none
  | .passportLearn _ _ _ _ _ _ _ => none
  | .ppRelearn sess _ => some sess
  | .ppReference sess _ => some sess
  | .ppClearDrift sess _ => some sess
  | .gdCalibration _ _ _ _ => none
  | .svOffsetCalibration _ _ _ _ => none
  | .readingExtrapolated _ _ _ => none
  | .supplyWindowExit _ _ => none
  | .supplyWindowReturn _ _ => none
  | .supMinMaxRead sess _ _ => some sess
  | .temperatureSample _ _ _ _ _ => none
  | .cableRun sess _ => some sess
  | .cableMeasured _ _ _ => none
  | .bpFrame _ _ _ _ => none
  | .bpLineFault _ _ => none
  | .bpDiscovery _ _ => none
  | .bpRetryExpiry _ => none
  | .bpCommandFrame _ => none
  | .bpRediscover sess _ => some sess
  | .bpNodeClear sess _ _ => some sess
  | .nodeTimeout _ _ => none
  | .mxLineTrip _ _ => none
  | .mxColumnOvervoltage _ _ _ => none
  | .mxPixelOpen _ _ _ _ => none
  | .mxOvertemp _ _ => none
  | .mxRetry _ => none
  | .mxFaultClear sess _ => some sess
  | .pixelClear sess _ => some sess
  | .deratingUpdate => none
  | .nbRun sess => some sess
  | .nbBallTest _ _ => none
  | .nbOnlineTest _ _ => none
  | .groupFade sess _ _ _ => some sess
  | .groupPattern sess _ _ _ => some sess
  | .groupRelease sess _ => some sess
  | .groupQuery sess _ => some sess
  | .fadeStep _ _ => none
  | .patternStep _ => none
  | .timerCompare _ _ => none
  | .timerOverflow _ => none
  | .cmpWrite sess _ _ _ => some sess
  | .tmrStart sess _ => some sess
  | .tmrStop sess _ => some sess
  | .tmrReset sess _ => some sess
  | .tmrResetAndStart sess _ => some sess
  | .gsArm sess => some sess
  | .globalStart => none
  | .eventOccurrence => none
  | .eventRelease => none
  | .eventPost sess _ => some sess
  | .canNoticeSend _ => none
  | .canFrameReceived _ _ _ => none
  | .protocolException _ => none
  | .moDataWrite sess _ _ _ => some sess
  | .moDataRead sess _ _ => some sess
  | .txPeriod _ _ => none
  | .canTransmissionDone _ => none
  | .canTxError _ _ => none
  | .txTimeoutExpiry _ => none
  | .rxObjectTimeout _ => none
  | .strayAck sess _ _ => some sess
  | .canBusJoin _ => none
  | .busOffRecovery _ => none
  | .recoverFromBusOff sess _ => some sess
  | .discardPendingFrames sess _ => some sess
  | .oneAttemptNow sess _ => some sess
  | .aloneRetry _ => none
  | .transceiverFault _ _ => none
  | .j1939Claim _ => none
  | .j1939ContendingClaim _ _ _ => none
  | .j1939RequestClaimed _ => none
  | .nmRingMessage _ _ _ => none
  | .nmRingSend => none
  | .nmAliveTimeout => none
  | .nmPresentTimeout _ => none
  | .nmSleepWaitExpiry => none
  | .nmLimpHomeMessage => none
  | .nmKeeper _ => none
  | .selectiveWakeFrame _ _ => none
  | .wakePinEdge _ _ => none
  | .busActivityWake _ _ => none
  | .nmHoldStay sess => some sess
  | .nmReleaseStay sess => some sess
  | .nmResume sess => some sess
  | .placeHostVote sess _ => some sess
  | .withdrawHostVote sess _ => some sess
  | .withdrawAllHostVotes sess => some sess
  | .suspendStandingVotes sess _ => some sess
  | .restoreStandingVotes sess _ => some sess
  | .domainSwitch _ => none
  | .lingerExpiry => none
  | .enterDipped => none
  | .enterHalfMast => none
  | .enterFurled => none
  | .exitDipped => none
  | .exitHalfMast _ => none
  | .wakeCapture _ _ => none
  | .wakeHoldExpiry => none
  | .rtcAlarm => none
  | .rtcSecondsWrite sess _ => some sess
  | .parkingLoadFault _ _ => none
  | .hoistPorRelease => none
  | .hoistPorAssert _ => none
  | .flyResetReleaseAtStart => none
  | .imageCheck _ _ => none
  | .configurationApplied _ _ => none
  | .applyHeldLowVbat _ => none
  | .firstSweepStart => none
  | .coreSupplyFault _ => none
  | .coreSupplyRestored => none
  | .resetNLow => none
  | .vstoreReadiness _ => none
  | .strikeTrigger _ _ => none
  | .strikeRestart => none
  | .trngHealthFail _ => none
  | .trngRetest _ => none
  | .keyImport sess => some sess
  | .keyGenerate sess => some sess
  | .keyDerive sess => some sess
  | .keyZero sess => some sess
  | .lcRequest sess _ => some sess
  | .lcConfirm sess _ => some sess
  | .sessionSetupMsg1 _ _ _ _ _ => none
  | .sessionSetupMsg3 _ _ _ _ => none
  | .setupMsg3Timeout _ => none
  | .roleLockoutEnd _ => none
  | .sessionClose sess => some sess
  | .sessionIdleTimeout sess => some sess
  | .cjRun sess => some sess
  | .cipherJobDone sess => some sess
  | .pkSign sess => some sess
  | .pkVerify sess => some sess
  | .pkExport sess => some sess
  | .randomRead sess => some sess
  | .debugRequest sess _ => some sess
  | .debugClose sess => some sess
  | .debuggerConnect _ => none
  | .debugWindowExpiry => none
  | .trstNLow => none
  | .debugHalt => none
  | .debugResume => none
  | .extest _ => none
  | .bkeyPresence => none
  | .bkeySettleExpiry => none
  | .bkeyExchange _ => none
  | .bkeyRemoved => none
  | .bkeyHeldLow => none
  | .lfPoll _ => none
  | .lfExchange _ => none
  | .burgeeLockoutEnd _ => none
  | .bgClearLock sess _ => some sess
  | .relOpen sess _ => some sess
  | .relClose sess _ => some sess
  | .releaseWindowExpiry _ => none
  | .implementChallenge _ => none
  | .implRun sess _ => some sess
  | .implementDecision _ => none
  | .pageSeal => none
  | .pageWriteDone _ _ => none
  | .flushTimeExpiry => none
  | .linkRetrain _ => none
  | .ledgerLinkStart _ => none
  | .recordsLost => none
  | .smartRead _ => none
  | .ledgerFlush sess => some sess
  | .ledgerAttest sess => some sess
  | .ledgerFormat sess => some sess
  | .stageWrite sess _ _ _ => some sess
  | .updVerify sess _ => some sess
  | .updDiscard sess _ => some sess
  | .updActivate sess _ => some sess
  | .mastActivation _ _ => none
  | .ensignActivation => none
  | .updateRestart => none
  | .nodeActivation => none
  | .updNodeRun sess _ => some sess
  | .nodeDistributionPass _ _ => none
  | .nodeImageSwitch _ _ => none
  | .updConfirm sess _ => some sess
  | .laneMismatch _ _ => none
  | .spareJoined _ => none
  | .tileFault _ _ => none
  | .sramClusterFault _ _ => none
  | .mramClusterFault _ _ => none
  | .regulatorPhaseFault _ => none
  | .stageSelfTest _ _ => none
  | .standbyLaneCheck _ _ => none
  | .spareLbist _ _ => none
  | .sequencerFault => none
  | .microcodeCheck _ => none
  | .scrub _ _ _ => none
  | .splitAck sess _ => some sess
  | .tileRetest sess => some sess
  | .skewCheck _ _ _ => none
  | .pwmPeriodStart _ => none
  | .mxLineSlotStart _ => none
  | .lockRateWindowExpiry _ => none
  | .j1939ClaimWait _ => none
  | .transceiverFaultCleared _ _ => none
  | .protocolExceptionEnd _ => none
  | .plcaBeaconResume => none
  | .holderVoteTimer _ => none
  | .lfOscillationEstablished => none

end Sys2Proof
end

