-- ==== Sys2Proof/Laws/PerInstr.lean ====
section
/-!
SUPPORT. The per-instruction family `Operands`: the session a well-formed command is made in fits SESSION, a U16 (R48).
-/

namespace Sys2Proof.Laws.Operands

/-- A well-formed request names its session in 16 bits. -/
def Statement (i : Instr) : Prop := i.wf = true → ∀ h, i.sess = some h → h < 2 ^ 16

/-- A command that is no request. -/
theorem of_none {i : Instr} (e : i.sess = none) : Statement i := fun _ _ x => nomatch e.symm.trans x

/-- A request whose check begins with that of its session. -/
theorem of_some {i : Instr} {n : Nat} (e : i.sess = some n) (w : i.wf = true → sessWf n = true) : Statement i :=
  fun hw _ x => (Option.some.inj (e.symm.trans x)) ▸ of_decide_eq_true (w hw)

theorem dieLinkWord (lane : Fin 2) (seq : BitVec 32) (w : LinkWord) : Statement (.dieLinkWord lane seq w) := of_none rfl
theorem laneFailover (lane : Fin 2) : Statement (.laneFailover lane) := of_none rfl
theorem laneRetest (lane : Fin 2) (pass : Bool) : Statement (.laneRetest lane pass) := of_none rfl
theorem pllLock : Statement .pllLock := of_none rfl
theorem pllUnlock : Statement .pllUnlock := of_none rfl
theorem forwardedClockLoss : Statement .forwardedClockLoss := of_none rfl
theorem pllLockTimeout : Statement .pllLockTimeout := of_none rfl
theorem lfPeriod : Statement .lfPeriod := of_none rfl
theorem dictRequestFrame (frame : List Byte) : Statement (.dictRequestFrame frame) := of_none rfl
theorem dictRead (sess : Nat) (index : BitVec 16) (sub : BitVec 8) : Statement (.dictRead sess index sub) := of_some rfl id
theorem dictWrite (sess : Nat) (index : BitVec 16) (sub : BitVec 8) (data : List Byte) : Statement (.dictWrite sess index sub data) := of_some rfl fun h => (Bool.and_eq_true_iff.mp h).1
theorem domainRead (sess : Nat) (index : BitVec 16) (offset : BitVec 64) (length : BitVec 16) : Statement (.domainRead sess index offset length) := of_some rfl id
theorem domainWrite (sess : Nat) (index : BitVec 16) (offset : BitVec 64) (data : List Byte) : Statement (.domainWrite sess index offset data) := of_some rfl fun h => (Bool.and_eq_true_iff.mp h).1
theorem readRecord (sess : Nat) (index : BitVec 16) : Statement (.readRecord sess index) := of_some rfl id
theorem sdoExpeditedDownload (c : Fin 8) (index : BitVec 16) (sub : BitVec 8) (data : List Byte) : Statement (.sdoExpeditedDownload c index sub data) := of_none rfl
theorem sdoExpeditedUpload (c : Fin 8) (index : BitVec 16) (sub : BitVec 8) : Statement (.sdoExpeditedUpload c index sub) := of_none rfl
theorem sdoSegmentedDownload (c : Fin 8) (frame : SdoFrame) : Statement (.sdoSegmentedDownload c frame) := of_none rfl
theorem sdoSegmentedUpload (c : Fin 8) (frame : SdoFrame) : Statement (.sdoSegmentedUpload c frame) := of_none rfl
theorem sdoBlockDownload (c : Fin 8) (frame : SdoBlockFrame) : Statement (.sdoBlockDownload c frame) := of_none rfl
theorem sdoBlockUpload (c : Fin 8) (frame : SdoBlockFrame) : Statement (.sdoBlockUpload c frame) := of_none rfl
theorem sdoNetworkIndication (c : Fin 8) : Statement (.sdoNetworkIndication c) := of_none rfl
theorem sdoTransferTimeout (c : Fin 8) : Statement (.sdoTransferTimeout c) := of_none rfl
theorem cfgWrite (sess : Nat) (index : BitVec 16) (sub : BitVec 8) (data : List Byte) : Statement (.cfgWrite sess index sub data) := of_some rfl fun h => (Bool.and_eq_true_iff.mp h).1
theorem registerWrite (sess : Nat) (index : BitVec 16) (sub : BitVec 8) (data : List Byte) : Statement (.registerWrite sess index sub data) := of_some rfl fun h => (Bool.and_eq_true_iff.mp h).1
theorem commit (sess : Nat) : Statement (.commit sess) := of_some rfl id
theorem discardPendingSet (sess : Nat) : Statement (.discardPendingSet sess) := of_some rfl id
theorem commitApply : Statement .commitApply := of_none rfl
theorem commitDurable (stored : Bool) : Statement (.commitDurable stored) := of_none rfl
theorem domOffsetWrite (sess : Nat) (index : BitVec 16) (offset : BitVec 64) : Statement (.domOffsetWrite sess index offset) := of_some rfl id
theorem domainHoldTimeout (index : BitVec 16) : Statement (.domainHoldTimeout index) := of_none rfl
theorem piRxFrame (m : Fin 64) (sess : Nat) (freshness : BitVec 32) (data : List Byte) (mac : BitVec 128) : Statement (.piRxFrame m sess freshness data mac) := of_some rfl fun h => (Bool.and_eq_true_iff.mp h).1
theorem piTxPeriod (m : Fin 64) : Statement (.piTxPeriod m) := of_none rfl
theorem piRxTimeout (m : Fin 64) : Statement (.piRxTimeout m) := of_none rfl
theorem addrBurstSend : Statement .addrBurstSend := of_none rfl
theorem addrCodeAccept (heldHigh : Bool) (pulses : Nat) : Statement (.addrCodeAccept heldHigh pulses) := of_none rfl
theorem addrWaitExpiry : Statement .addrWaitExpiry := of_none rfl
theorem addrConfirm (sess : Nat) (a : BitVec 8) : Statement (.addrConfirm sess a) := of_some rfl id
theorem presenceSend : Statement .presenceSend := of_none rfl
theorem presenceReceive (f : ChainPresence) : Statement (.presenceReceive f) := of_none rfl
theorem presenceTimeout (a : Fin 17) : Statement (.presenceTimeout a) := of_none rfl
theorem capabilityRequest (f : ChainHeader) (named : Fin 17) : Statement (.capabilityRequest f named) := of_none rfl
theorem capabilityResponse (f : ChainHeader) (r : CapabilityRecord) : Statement (.capabilityResponse f r) := of_none rfl
theorem capabilityRetry (a : Fin 17) : Statement (.capabilityRetry a) := of_none rfl
theorem plcaBeaconLoss : Statement .plcaBeaconLoss := of_none rfl
theorem halyardLinkChange (up : Bool) : Statement (.halyardLinkChange up) := of_none rfl
theorem syncReceive (rx : BitVec 64) (sync : SyncMessage) : Statement (.syncReceive rx sync) := of_none rfl
theorem announceReceive : Statement .announceReceive := of_none rfl
theorem pdelayReqSend : Statement .pdelayReqSend := of_none rfl
theorem pdelayRespReceive (received : BitVec 64) (sent : BitVec 64) (arrived : BitVec 64) : Statement (.pdelayRespReceive received sent arrived) := of_none rfl
theorem syncMissed : Statement .syncMissed := of_none rfl
theorem holdoverExpiry : Statement .holdoverExpiry := of_none rfl
theorem noticeSend : Statement .noticeSend := of_none rfl
theorem hostClaim (sess : Nat) (sig : BitVec 24) (value : BitVec 16) : Statement (.hostClaim sess sig value) := of_some rfl id
theorem hostRelease (sess : Nat) (sig : BitVec 24) : Statement (.hostRelease sess sig) := of_some rfl id
theorem hostReleaseAll (sess : Nat) : Statement (.hostReleaseAll sess) := of_some rfl id
theorem hostEmptyRuleSlots (sess : Nat) (sig : BitVec 24) : Statement (.hostEmptyRuleSlots sess sig) := of_some rfl id
theorem ownerQuery (sess : Nat) (sig : BitVec 32) : Statement (.ownerQuery sess sig) := of_some rfl id
theorem heartbeat (sess : Nat) (value : BitVec 16) : Statement (.heartbeat sess value) := of_some rfl id
theorem heartbeatLoss : Statement .heartbeatLoss := of_none rfl
theorem safeRelease (sess : Nat) (value : BitVec 8) : Statement (.safeRelease sess value) := of_some rfl id
theorem hoistWatchdogTrip : Statement .hoistWatchdogTrip := of_none rfl
theorem flyResetRelease : Statement .flyResetRelease := of_none rfl
theorem reflexSegment (sweepNs : Nat) : Statement (.reflexSegment sweepNs) := of_none rfl
theorem slopeExpiry : Statement .slopeExpiry := of_none rfl
theorem presentValueStep : Statement .presentValueStep := of_none rfl
theorem dissipationStep : Statement .dissipationStep := of_none rfl
theorem waitWarnExpiry : Statement .waitWarnExpiry := of_none rfl
theorem sagCEnter (vbat : Nat) : Statement (.sagCEnter vbat) := of_none rfl
theorem sagAEnter (vbat : Nat) : Statement (.sagAEnter vbat) := of_none rfl
theorem sagEnd (vbat : Nat) : Statement (.sagEnd vbat) := of_none rfl
theorem loanFreeze : Statement .loanFreeze := of_none rfl
theorem loanRelease (sess : Nat) (address : BitVec 8) : Statement (.loanRelease sess address) := of_some rfl id
theorem gdTrip (n : Fin 24) (vds : Nat) (at_ : GateVoltages) : Statement (.gdTrip n vds at_) := of_none rfl
theorem gdRampTimeout (ramp : GateRamp) : Statement (.gdRampTimeout ramp) := of_none rfl
theorem gdGateOpen (n : Fin 24) (ton : Nat) : Statement (.gdGateOpen n ton) := of_none rfl
theorem gdInterlockFault (k : Fin 12) : Statement (.gdInterlockFault k) := of_none rfl
theorem gdSoftStartEnd (n : Fin 24) : Statement (.gdSoftStartEnd n) := of_none rfl
theorem gdOpenLoad (n : Fin 24) (iEst : Nat) : Statement (.gdOpenLoad n iEst) := of_none rfl
theorem gdOffDiagCheck (n : Fin 24) (mv : Nat) (vbat : Nat) : Statement (.gdOffDiagCheck n mv vbat) := of_none rfl
theorem gdThermalUpdate (n : Fin 24) : Statement (.gdThermalUpdate n) := of_none rfl
theorem vcpLow (gap : Nat) : Statement (.vcpLow gap) := of_none rfl
theorem vcpRestored (gap : Nat) : Statement (.vcpRestored gap) := of_none rfl
theorem drainRailAbsent (b : Fin 4) (ds : Nat) (vbat : Nat) : Statement (.drainRailAbsent b ds vbat) := of_none rfl
theorem drainRailRestored (b : Fin 4) (ds : Nat) (vbat : Nat) : Statement (.drainRailRestored b ds vbat) := of_none rfl
theorem gdRetry (n : Fin 24) : Statement (.gdRetry n) := of_none rfl
theorem retryResetExpiry (sig : BitVec 24) : Statement (.retryResetExpiry sig) := of_none rfl
theorem gdRecovered (sig : BitVec 24) (ton : Nat) : Statement (.gdRecovered sig ton) := of_none rfl
theorem gdFaultClear (sess : Nat) (n : Fin 24) : Statement (.gdFaultClear sess n) := of_some rfl id
theorem gdDiagRun (sess : Nat) (n : Fin 24) : Statement (.gdDiagRun sess n) := of_some rfl id
theorem bridgeCommand (h : Fin 6) (ripples : Nat) : Statement (.bridgeCommand h ripples) := of_none rfl
theorem bridgeBrakeEnd (h : Fin 6) : Statement (.bridgeBrakeEnd h) := of_none rfl
theorem bridgeRunMax (h : Fin 6) (ripples : Nat) : Statement (.bridgeRunMax h ripples) := of_none rfl
theorem bridgeStall (h : Fin 6) (current : Nat) (ripples : Nat) : Statement (.bridgeStall h current ripples) := of_none rfl
theorem bridgeOpenLoad (h : Fin 6) (current : Nat) : Statement (.bridgeOpenLoad h current) := of_none rfl
theorem forceEstimate (h : Fin 6) (current : Nat) (vbat : Nat) (ripples : Nat) : Statement (.forceEstimate h current vbat ripples) := of_none rfl
theorem pinch (h : Fin 6) : Statement (.pinch h) := of_none rfl
theorem pinchReversalEnd (h : Fin 6) (ripples : Nat) : Statement (.pinchReversalEnd h ripples) := of_none rfl
theorem lockPulseEnd (h : Fin 6) : Statement (.lockPulseEnd h) := of_none rfl
theorem wiperPark (h : Fin 6) (parked : Bool) : Statement (.wiperPark h parked) := of_none rfl
theorem wipeIntervalExpiry (h : Fin 6) : Statement (.wipeIntervalExpiry h) := of_none rfl
theorem wiperBlocked (h : Fin 6) (current : Nat) : Statement (.wiperBlocked h current) := of_none rfl
theorem brClear (sess : Nat) (h : Fin 6) : Statement (.brClear sess h) := of_some rfl id
theorem brForget (sess : Nat) (h : Fin 6) : Statement (.brForget sess h) := of_some rfl id
theorem fanLoopUpdate (f : Fin 4) (ripples : Nat) : Statement (.fanLoopUpdate f ripples) := of_none rfl
theorem fanStartFailed (f : Fin 4) (current : Nat) : Statement (.fanStartFailed f current) := of_none rfl
theorem spinupWindowEnd (f : Fin 4) (ripples : Nat) : Statement (.spinupWindowEnd f ripples) := of_none rfl
theorem fanRetry (f : Fin 4) : Statement (.fanRetry f) := of_none rfl
theorem fanStallRunning (f : Fin 4) (current : Nat) : Statement (.fanStallRunning f current) := of_none rfl
theorem tachOpen (f : Fin 4) (ripples : Nat) : Statement (.tachOpen f ripples) := of_none rfl
theorem tachRestored (f : Fin 4) (ripples : Nat) : Statement (.tachRestored f ripples) := of_none rfl
theorem fanClear (sess : Nat) (f : Fin 4) : Statement (.fanClear sess f) := of_some rfl id
theorem svCommand (c : Fin 8) (ma : Nat) : Statement (.svCommand c ma) := of_none rfl
theorem svBoostEnd (c : Fin 8) (i : Nat) : Statement (.svBoostEnd c i) := of_none rfl
theorem svPeakHoldEnd (c : Fin 8) : Statement (.svPeakHoldEnd c) := of_none rfl
theorem svFastOffEnd (c : Fin 8) (i : Nat) : Statement (.svFastOffEnd c i) := of_none rfl
theorem svRetrigger (sess : Nat) (c : Fin 8) : Statement (.svRetrigger sess c) := of_some rfl id
theorem svRegFault (c : Fin 8) (i : Nat) : Statement (.svRegFault c i) := of_none rfl
theorem svRangeChangeStart (c : Fin 8) (i : Nat) : Statement (.svRangeChangeStart c i) := of_none rfl
theorem svRangeChangeEnd (c : Fin 8) : Statement (.svRangeChangeEnd c) := of_none rfl
theorem svMoveEvaluation (c : Fin 8) (curve : CoilSamples) : Statement (.svMoveEvaluation c curve) := of_none rfl
theorem svTrip (c : Fin 8) (high : Bool) (low : Bool) (i : Nat) : Statement (.svTrip c high low i) := of_none rfl
theorem svLeak (c : Fin 8) (iHs : Nat) (iLs : Nat) : Statement (.svLeak c iHs iLs) := of_none rfl
theorem svOpenLoad (c : Fin 8) (i : Nat) : Statement (.svOpenLoad c i) := of_none rfl
theorem svOffDiagCheck (c : Fin 8) (vh : Nat) (vl : Nat) (vbat : Nat) : Statement (.svOffDiagCheck c vh vl vbat) := of_none rfl
theorem svOvertemp (c : Fin 8) (temp : Int) : Statement (.svOvertemp c temp) := of_none rfl
theorem svRetry (c : Fin 8) : Statement (.svRetry c) := of_none rfl
theorem svFaultClear (sess : Nat) (c : Fin 8) : Statement (.svFaultClear sess c) := of_some rfl id
theorem svDiagRun (sess : Nat) (c : Fin 8) : Statement (.svDiagRun sess c) := of_some rfl id
theorem dinEdge (c : Fin 16) (new : HeldLevel) : Statement (.dinEdge c new) := of_none rfl
theorem dinChatter (c : Fin 16) : Statement (.dinChatter c) := of_none rfl
theorem dinOvervoltage (c : Fin 16) (mv : Nat) : Statement (.dinOvervoltage c mv) := of_none rfl
theorem doutTrip (d : Fin 8) (hot : Bool) (current : Nat) : Statement (.doutTrip d hot current) := of_none rfl
theorem doutCooled (d : Fin 8) : Statement (.doutCooled d) := of_none rfl
theorem doutRetry (d : Fin 8) : Statement (.doutRetry d) := of_none rfl
theorem doutOpenLoad (d : Fin 8) (current : Nat) : Statement (.doutOpenLoad d current) := of_none rfl
theorem doutOffDiagCheck (d : Fin 8) (mv : Nat) (vbat : Nat) : Statement (.doutOffDiagCheck d mv vbat) := of_none rfl
theorem doutFaultClear (sess : Nat) (d : Fin 8) : Statement (.doutFaultClear sess d) := of_some rfl id
theorem doutDiagRun (sess : Nat) (d : Fin 8) : Statement (.doutDiagRun sess d) := of_some rfl id
theorem ainSlot (c : Fin 12) (mv : Nat) (it : Nat) : Statement (.ainSlot c mv it) := of_none rfl
theorem ainRangeChangeEnd (c : Fin 12) : Statement (.ainRangeChangeEnd c) := of_none rfl
theorem vsensStateChange (v : Fin 2) (state : Fin 4) : Statement (.vsensStateChange v state) := of_none rfl
theorem tachEdge (t : Fin 4) : Statement (.tachEdge t) := of_none rfl
theorem tachGlitching (t : Fin 4) (rejected : Nat) : Statement (.tachGlitching t rejected) := of_none rfl
theorem tachTimeout (t : Fin 4) : Statement (.tachTimeout t) := of_none rfl
theorem passportLearn (n : Fin 40) (q : Fin 6) (value : Nat) (temp : Int) (current : Nat) (vbat : Nat) (disturbed : Fin 4) : Statement (.passportLearn n q value temp current vbat disturbed) := of_none rfl
theorem ppRelearn (sess : Nat) (n : Fin 40) : Statement (.ppRelearn sess n) := of_some rfl id
theorem ppReference (sess : Nat) (n : Fin 40) : Statement (.ppReference sess n) := of_some rfl id
theorem ppClearDrift (sess : Nat) (n : Fin 40) : Statement (.ppClearDrift sess n) := of_some rfl id
theorem gdCalibration (n : Fin 24) (uohm : Nat) (temp : Int) (current : Nat) : Statement (.gdCalibration n uohm temp current) := of_none rfl
theorem svOffsetCalibration (c : Fin 8) (high : Bool) (offset : Int) (current : Nat) : Statement (.svOffsetCalibration c high offset current) := of_none rfl
theorem readingExtrapolated (n : Fin 32) (temp : Int) (current : Nat) : Statement (.readingExtrapolated n temp current) := of_none rfl
theorem supplyWindowExit (m : Fin 10) (value : Nat) : Statement (.supplyWindowExit m value) := of_none rfl
theorem supplyWindowReturn (m : Fin 10) (value : Nat) : Statement (.supplyWindowReturn m value) := of_none rfl
theorem supMinMaxRead (sess : Nat) (m : Fin 10) (max : Bool) : Statement (.supMinMaxRead sess m max) := of_some rfl id
theorem temperatureSample (hoist : Int) (q0 : Int) (q1 : Int) (q2 : Int) (q3 : Int) : Statement (.temperatureSample hoist q0 q1 q2 q3) := of_none rfl
theorem cableRun (sess : Nat) (p : Fin 8) : Statement (.cableRun sess p) := of_some rfl id
theorem cableMeasured (p : Fin 8) (roundTrip : Option Nat) (end_ : Fin 4) : Statement (.cableMeasured p roundTrip end_) := of_none rfl
theorem bpFrame (p : Fin 8) (turn : Option Nat) (tail : BitVec 12) (heard : BuntingHeard) : Statement (.bpFrame p turn tail heard) := of_none rfl
theorem bpLineFault (p : Fin 8) (high : Bool) : Statement (.bpLineFault p high) := of_none rfl
theorem bpDiscovery (p : Fin 8) (d : BuntingDiscovery) : Statement (.bpDiscovery p d) := of_none rfl
theorem bpRetryExpiry (p : Fin 8) : Statement (.bpRetryExpiry p) := of_none rfl
theorem bpCommandFrame (frame : BuntingCommand) : Statement (.bpCommandFrame frame) := of_none rfl
theorem bpRediscover (sess : Nat) (p : Fin 8) : Statement (.bpRediscover sess p) := of_some rfl id
theorem bpNodeClear (sess : Nat) (p : Fin 8) (position : BitVec 16) : Statement (.bpNodeClear sess p position) := of_some rfl id
theorem nodeTimeout (p : Fin 8) (position : Fin 4096) : Statement (.nodeTimeout p position) := of_none rfl
theorem mxLineTrip (p : Fin 2) (line : Fin 8) : Statement (.mxLineTrip p line) := of_none rfl
theorem mxColumnOvervoltage (p : Fin 2) (line : Fin 8) (column : Fin 8) : Statement (.mxColumnOvervoltage p line column) := of_none rfl
theorem mxPixelOpen (p : Fin 2) (line : Fin 8) (column : Fin 8) (low : Bool) : Statement (.mxPixelOpen p line column low) := of_none rfl
theorem mxOvertemp (p : Fin 2) (temp : Int) : Statement (.mxOvertemp p temp) := of_none rfl
theorem mxRetry (p : Fin 2) : Statement (.mxRetry p) := of_none rfl
theorem mxFaultClear (sess : Nat) (p : Fin 2) : Statement (.mxFaultClear sess p) := of_some rfl id
theorem pixelClear (sess : Nat) (p : Fin 2) : Statement (.pixelClear sess p) := of_some rfl id
theorem deratingUpdate : Statement .deratingUpdate := of_none rfl
theorem nbRun (sess : Nat) : Statement (.nbRun sess) := of_some rfl id
theorem nbBallTest (ball : Fin 48) (joined : List (BitVec 8)) : Statement (.nbBallTest ball joined) := of_none rfl
theorem nbOnlineTest (ball : Fin 48) (joined : List (BitVec 8)) : Statement (.nbOnlineTest ball joined) := of_none rfl
theorem groupFade (sess : Nat) (group : BitVec 8) (level : BitVec 16) (time : BitVec 16) : Statement (.groupFade sess group level time) := of_some rfl id
theorem groupPattern (sess : Nat) (group : BitVec 8) (engine : BitVec 8) (block : BitVec 8) : Statement (.groupPattern sess group engine block) := of_some rfl id
theorem groupRelease (sess : Nat) (group : BitVec 8) : Statement (.groupRelease sess group) := of_some rfl id
theorem groupQuery (sess : Nat) (value : BitVec 16) : Statement (.groupQuery sess value) := of_some rfl id
theorem fadeStep (group : BitVec 8) (cls : Fin 5) : Statement (.fadeStep group cls) := of_none rfl
theorem patternStep (e : Fin 32) : Statement (.patternStep e) := of_none rfl
theorem timerCompare (t : Fin 32) (k : Fin 4) : Statement (.timerCompare t k) := of_none rfl
theorem timerOverflow (t : Fin 32) : Statement (.timerOverflow t) := of_none rfl
theorem cmpWrite (sess : Nat) (t : Fin 32) (k : Fin 4) (value : BitVec 48) : Statement (.cmpWrite sess t k value) := of_some rfl id
theorem tmrStart (sess : Nat) (t : Fin 32) : Statement (.tmrStart sess t) := of_some rfl id
theorem tmrStop (sess : Nat) (t : Fin 32) : Statement (.tmrStop sess t) := of_some rfl id
theorem tmrReset (sess : Nat) (t : Fin 32) : Statement (.tmrReset sess t) := of_some rfl id
theorem tmrResetAndStart (sess : Nat) (t : Fin 32) : Statement (.tmrResetAndStart sess t) := of_some rfl id
theorem gsArm (sess : Nat) : Statement (.gsArm sess) := of_some rfl id
theorem globalStart : Statement .globalStart := of_none rfl
theorem eventOccurrence : Statement .eventOccurrence := of_none rfl
theorem eventRelease : Statement .eventRelease := of_none rfl
theorem eventPost (sess : Nat) (value : BitVec 64) : Statement (.eventPost sess value) := of_some rfl id
theorem canNoticeSend (c : Fin 8) : Statement (.canNoticeSend c) := of_none rfl
theorem canFrameReceived (c : Fin 8) (f : CanFrame) (error : Fin 7) : Statement (.canFrameReceived c f error) := of_none rfl
theorem protocolException (c : Fin 8) : Statement (.protocolException c) := of_none rfl
theorem moDataWrite (sess : Nat) (offset : BitVec 32) (data : List Byte) (arbitrating : Bool) : Statement (.moDataWrite sess offset data arbitrating) := of_some rfl fun h => (Bool.and_eq_true_iff.mp h).1
theorem moDataRead (sess : Nat) (offset : BitVec 32) (length : BitVec 16) : Statement (.moDataRead sess offset length) := of_some rfl id
theorem txPeriod (o : Fin 8192) (arbitrating : Bool) : Statement (.txPeriod o arbitrating) := of_none rfl
theorem canTransmissionDone (c : Fin 8) : Statement (.canTransmissionDone c) := of_none rfl
theorem canTxError (c : Fin 8) (error : Fin 7) : Statement (.canTxError c error) := of_none rfl
theorem txTimeoutExpiry (c : Fin 8) : Statement (.txTimeoutExpiry c) := of_none rfl
theorem rxObjectTimeout (o : Fin 8192) : Statement (.rxObjectTimeout o) := of_none rfl
theorem strayAck (sess : Nat) (c : Fin 8) (n : BitVec 8) : Statement (.strayAck sess c n) := of_some rfl id
theorem canBusJoin (c : Fin 8) : Statement (.canBusJoin c) := of_none rfl
theorem busOffRecovery (c : Fin 8) : Statement (.busOffRecovery c) := of_none rfl
theorem recoverFromBusOff (sess : Nat) (c : Fin 8) : Statement (.recoverFromBusOff sess c) := of_some rfl id
theorem discardPendingFrames (sess : Nat) (c : Fin 8) : Statement (.discardPendingFrames sess c) := of_some rfl id
theorem oneAttemptNow (sess : Nat) (c : Fin 8) : Statement (.oneAttemptNow sess c) := of_some rfl id
theorem aloneRetry (c : Fin 8) : Statement (.aloneRetry c) := of_none rfl
theorem transceiverFault (c : Fin 8) (cause : Fin 4) : Statement (.transceiverFault c cause) := of_none rfl
theorem j1939Claim (c : Fin 8) : Statement (.j1939Claim c) := of_none rfl
theorem j1939ContendingClaim (c : Fin 8) (sa : BitVec 8) (name : BitVec 64) : Statement (.j1939ContendingClaim c sa name) := of_none rfl
theorem j1939RequestClaimed (c : Fin 8) : Statement (.j1939RequestClaimed c) := of_none rfl
theorem nmRingMessage (sender : Fin 64) (dlc : Fin 16) (data : BitVec 64) : Statement (.nmRingMessage sender dlc data) := of_none rfl
theorem nmRingSend : Statement .nmRingSend := of_none rfl
theorem nmAliveTimeout : Statement .nmAliveTimeout := of_none rfl
theorem nmPresentTimeout (i : Fin 64) : Statement (.nmPresentTimeout i) := of_none rfl
theorem nmSleepWaitExpiry : Statement .nmSleepWaitExpiry := of_none rfl
theorem nmLimpHomeMessage : Statement .nmLimpHomeMessage := of_none rfl
theorem nmKeeper (i : Fin 64) : Statement (.nmKeeper i) := of_none rfl
theorem selectiveWakeFrame (c : Fin 4) (f : CanFrame) : Statement (.selectiveWakeFrame c f) := of_none rfl
theorem wakePinEdge (n : Fin 4) (rising : Bool) : Statement (.wakePinEdge n rising) := of_none rfl
theorem busActivityWake (c : Fin 4) (frameErrors : Bool) : Statement (.busActivityWake c frameErrors) := of_none rfl
theorem nmHoldStay (sess : Nat) : Statement (.nmHoldStay sess) := of_some rfl id
theorem nmReleaseStay (sess : Nat) : Statement (.nmReleaseStay sess) := of_some rfl id
theorem nmResume (sess : Nat) : Statement (.nmResume sess) := of_some rfl id
theorem placeHostVote (sess : Nat) (mask : BitVec 24) : Statement (.placeHostVote sess mask) := of_some rfl id
theorem withdrawHostVote (sess : Nat) (mask : BitVec 24) : Statement (.withdrawHostVote sess mask) := of_some rfl id
theorem withdrawAllHostVotes (sess : Nat) : Statement (.withdrawAllHostVotes sess) := of_some rfl id
theorem suspendStandingVotes (sess : Nat) (mask : BitVec 24) : Statement (.suspendStandingVotes sess mask) := of_some rfl id
theorem restoreStandingVotes (sess : Nat) (mask : BitVec 24) : Statement (.restoreStandingVotes sess mask) := of_some rfl id
theorem domainSwitch (d : Fin 19) : Statement (.domainSwitch d) := of_none rfl
theorem lingerExpiry : Statement .lingerExpiry := of_none rfl
theorem enterDipped : Statement .enterDipped := of_none rfl
theorem enterHalfMast : Statement .enterHalfMast := of_none rfl
theorem enterFurled : Statement .enterFurled := of_none rfl
theorem exitDipped : Statement .exitDipped := of_none rfl
theorem exitHalfMast (dins : BitVec 16) : Statement (.exitHalfMast dins) := of_none rfl
theorem wakeCapture (cause : Fin 12) (detail : BitVec 16) : Statement (.wakeCapture cause detail) := of_none rfl
theorem wakeHoldExpiry : Statement .wakeHoldExpiry := of_none rfl
theorem rtcAlarm : Statement .rtcAlarm := of_none rfl
theorem rtcSecondsWrite (sess : Nat) (value : BitVec 32) : Statement (.rtcSecondsWrite sess value) := of_some rfl id
theorem parkingLoadFault (ev : BitVec 16) (value : BitVec 32) : Statement (.parkingLoadFault ev value) := of_none rfl
theorem hoistPorRelease : Statement .hoistPorRelease := of_none rfl
theorem hoistPorAssert (copies : Fin 7) : Statement (.hoistPorAssert copies) := of_none rfl
theorem flyResetReleaseAtStart : Statement .flyResetReleaseAtStart := of_none rfl
theorem imageCheck (rejected : Fin 5) (trng : Bool) : Statement (.imageCheck rejected trng) := of_none rfl
theorem configurationApplied (vbat : Nat) (elapsed : BitVec 32) : Statement (.configurationApplied vbat elapsed) := of_none rfl
theorem applyHeldLowVbat (vbat : Nat) : Statement (.applyHeldLowVbat vbat) := of_none rfl
theorem firstSweepStart : Statement .firstSweepStart := of_none rfl
theorem coreSupplyFault (mv : Nat) : Statement (.coreSupplyFault mv) := of_none rfl
theorem coreSupplyRestored : Statement .coreSupplyRestored := of_none rfl
theorem resetNLow : Statement .resetNLow := of_none rfl
theorem vstoreReadiness (mv : Nat) : Statement (.vstoreReadiness mv) := of_none rfl
theorem strikeTrigger (complete : Bool) (copies : Fin 7) : Statement (.strikeTrigger complete copies) := of_none rfl
theorem strikeRestart : Statement .strikeRestart := of_none rfl
theorem trngHealthFail (repetition : Bool) : Statement (.trngHealthFail repetition) := of_none rfl
theorem trngRetest (pass : Bool) : Statement (.trngRetest pass) := of_none rfl
theorem keyImport (sess : Nat) : Statement (.keyImport sess) := of_some rfl id
theorem keyGenerate (sess : Nat) : Statement (.keyGenerate sess) := of_some rfl id
theorem keyDerive (sess : Nat) : Statement (.keyDerive sess) := of_some rfl id
theorem keyZero (sess : Nat) : Statement (.keyZero sess) := of_some rfl id
theorem lcRequest (sess : Nat) (target : BitVec 8) : Statement (.lcRequest sess target) := of_some rfl id
theorem lcConfirm (sess : Nat) (token : BitVec 32) : Statement (.lcConfirm sess token) := of_some rfl id
theorem sessionSetupMsg1 (path : Fin 9) (role : BitVec 8) (hostId : BitVec 32) (nH : BitVec 128) (serial : BitVec 128) : Statement (.sessionSetupMsg1 path role hostId nH serial) := of_none rfl
theorem sessionSetupMsg3 (path : Fin 9) (role : BitVec 8) (hostId : BitVec 32) (authH : BitVec 128) : Statement (.sessionSetupMsg3 path role hostId authH) := of_none rfl
theorem setupMsg3Timeout (path : Fin 9) : Statement (.setupMsg3Timeout path) := of_none rfl
theorem roleLockoutEnd (role : Fin 4) : Statement (.roleLockoutEnd role) := of_none rfl
theorem sessionClose (sess : Nat) : Statement (.sessionClose sess) := of_some rfl id
theorem sessionIdleTimeout (sess : Nat) : Statement (.sessionIdleTimeout sess) := of_some rfl id
theorem cjRun (sess : Nat) : Statement (.cjRun sess) := of_some rfl id
theorem cipherJobDone (sess : Nat) : Statement (.cipherJobDone sess) := of_some rfl id
theorem pkSign (sess : Nat) : Statement (.pkSign sess) := of_some rfl id
theorem pkVerify (sess : Nat) : Statement (.pkVerify sess) := of_some rfl id
theorem pkExport (sess : Nat) : Statement (.pkExport sess) := of_some rfl id
theorem randomRead (sess : Nat) : Statement (.randomRead sess) := of_some rfl id
theorem debugRequest (sess : Nat) (value : BitVec 32) : Statement (.debugRequest sess value) := of_some rfl id
theorem debugClose (sess : Nat) : Statement (.debugClose sess) := of_some rfl id
theorem debuggerConnect (level : Fin 3) : Statement (.debuggerConnect level) := of_none rfl
theorem debugWindowExpiry : Statement .debugWindowExpiry := of_none rfl
theorem trstNLow : Statement .trstNLow := of_none rfl
theorem debugHalt : Statement .debugHalt := of_none rfl
theorem debugResume : Statement .debugResume := of_none rfl
theorem extest (enter : Bool) : Statement (.extest enter) := of_none rfl
theorem bkeyPresence : Statement .bkeyPresence := of_none rfl
theorem bkeySettleExpiry : Statement .bkeySettleExpiry := of_none rfl
theorem bkeyExchange (x : BurgeeAnswer) : Statement (.bkeyExchange x) := of_none rfl
theorem bkeyRemoved : Statement .bkeyRemoved := of_none rfl
theorem bkeyHeldLow : Statement .bkeyHeldLow := of_none rfl
theorem lfPoll (load : Fin 4) : Statement (.lfPoll load) := of_none rfl
theorem lfExchange (x : BurgeeAnswer) : Statement (.lfExchange x) := of_none rfl
theorem burgeeLockoutEnd (port : Fin 10) : Statement (.burgeeLockoutEnd port) := of_none rfl
theorem bgClearLock (sess : Nat) (port : BitVec 8) : Statement (.bgClearLock sess port) := of_some rfl id
theorem relOpen (sess : Nat) (r : Fin 16) : Statement (.relOpen sess r) := of_some rfl id
theorem relClose (sess : Nat) (r : Fin 16) : Statement (.relClose sess r) := of_some rfl id
theorem releaseWindowExpiry (r : Fin 16) : Statement (.releaseWindowExpiry r) := of_none rfl
theorem implementChallenge (i : Fin 8) : Statement (.implementChallenge i) := of_none rfl
theorem implRun (sess : Nat) (i : BitVec 8) : Statement (.implRun sess i) := of_some rfl id
theorem implementDecision (i : Fin 8) : Statement (.implementDecision i) := of_none rfl
theorem pageSeal : Statement .pageSeal := of_none rfl
theorem pageWriteDone (flush : Bool) (status : BitVec 16) : Statement (.pageWriteDone flush status) := of_none rfl
theorem flushTimeExpiry : Statement .flushTimeExpiry := of_none rfl
theorem linkRetrain (up : Bool) : Statement (.linkRetrain up) := of_none rfl
theorem ledgerLinkStart (found : StoreFound) : Statement (.ledgerLinkStart found) := of_none rfl
theorem recordsLost : Statement .recordsLost := of_none rfl
theorem smartRead (warning : BitVec 8) : Statement (.smartRead warning) := of_none rfl
theorem ledgerFlush (sess : Nat) : Statement (.ledgerFlush sess) := of_some rfl id
theorem ledgerAttest (sess : Nat) : Statement (.ledgerAttest sess) := of_some rfl id
theorem ledgerFormat (sess : Nat) : Statement (.ledgerFormat sess) := of_some rfl id
theorem stageWrite (sess : Nat) (a : Fin 3) (offset : BitVec 32) (data : List Byte) : Statement (.stageWrite sess a offset data) := of_some rfl fun h => (Bool.and_eq_true_iff.mp h).1
theorem updVerify (sess : Nat) (a : Fin 3) : Statement (.updVerify sess a) := of_some rfl id
theorem updDiscard (sess : Nat) (a : BitVec 8) : Statement (.updDiscard sess a) := of_some rfl id
theorem updActivate (sess : Nat) (set : BitVec 8) : Statement (.updActivate sess set) := of_some rfl id
theorem mastActivation (failures : Fin 3) (failing : Option (BitVec 24)) : Statement (.mastActivation failures failing) := of_none rfl
theorem ensignActivation : Statement .ensignActivation := of_none rfl
theorem updateRestart : Statement .updateRestart := of_none rfl
theorem nodeActivation : Statement .nodeActivation := of_none rfl
theorem updNodeRun (sess : Nat) (ports : BitVec 8) : Statement (.updNodeRun sess ports) := of_some rfl id
theorem nodeDistributionPass (p : Fin 8) (updated : BitVec 16) : Statement (.nodeDistributionPass p updated) := of_none rfl
theorem nodeImageSwitch (p : Fin 8) (position : Fin 4096) : Statement (.nodeImageSwitch p position) := of_none rfl
theorem updConfirm (sess : Nat) (value : BitVec 8) : Statement (.updConfirm sess value) := of_some rfl id
theorem laneMismatch (segment : Fin 16) (won : Fin 3) : Statement (.laneMismatch segment won) := of_none rfl
theorem spareJoined (q : Fin 4) : Statement (.spareJoined q) := of_none rfl
theorem tileFault (q : Fin 4) (t : Fin 6) : Statement (.tileFault q t) := of_none rfl
theorem sramClusterFault (cluster : Fin 16) (region : Fin 6) : Statement (.sramClusterFault cluster region) := of_none rfl
theorem mramClusterFault (cluster : Fin 32) (region : Fin 6) : Statement (.mramClusterFault cluster region) := of_none rfl
theorem regulatorPhaseFault (n : Fin 5) : Statement (.regulatorPhaseFault n) := of_none rfl
theorem stageSelfTest (sig : BitVec 24) (pass : Bool) : Statement (.stageSelfTest sig pass) := of_none rfl
theorem standbyLaneCheck (q : Fin 4) (agrees : Bool) : Statement (.standbyLaneCheck q agrees) := of_none rfl
theorem spareLbist (q : Fin 4) (pass : Bool) : Statement (.spareLbist q pass) := of_none rfl
theorem sequencerFault : Statement .sequencerFault := of_none rfl
theorem microcodeCheck (pass : Bool) : Statement (.microcodeCheck pass) := of_none rfl
theorem scrub (mram : Bool) (corrected : BitVec 16) (damaged : Fin 4) : Statement (.scrub mram corrected damaged) := of_none rfl
theorem splitAck (sess : Nat) (value : BitVec 8) : Statement (.splitAck sess value) := of_some rfl id
theorem tileRetest (sess : Nat) : Statement (.tileRetest sess) := of_some rfl id
theorem skewCheck (hoist : Int) (quadrants : List Int) (supplies : List Nat) : Statement (.skewCheck hoist quadrants supplies) := of_none rfl
theorem pwmPeriodStart (sig : BitVec 24) : Statement (.pwmPeriodStart sig) := of_none rfl
theorem mxLineSlotStart (p : Fin 2) : Statement (.mxLineSlotStart p) := of_none rfl
theorem lockRateWindowExpiry (h : Fin 6) : Statement (.lockRateWindowExpiry h) := of_none rfl
theorem j1939ClaimWait (c : Fin 8) : Statement (.j1939ClaimWait c) := of_none rfl
theorem transceiverFaultCleared (c : Fin 8) (temp : Int) : Statement (.transceiverFaultCleared c temp) := of_none rfl
theorem protocolExceptionEnd (c : Fin 8) : Statement (.protocolExceptionEnd c) := of_none rfl
theorem plcaBeaconResume : Statement .plcaBeaconResume := of_none rfl
theorem holderVoteTimer (h : Fin 16) : Statement (.holderVoteTimer h) := of_none rfl
theorem lfOscillationEstablished : Statement .lfOscillationEstablished := of_none rfl

end Sys2Proof.Laws.Operands
end

