-- ==== Sys2Proof/Laws/Requests.lean ====
section
/-!
SUPPORT. What `whenever`, `finish` and `request` can do, once: the cases of R38–R40, R62 and R354.
-/

namespace Sys2Proof.Machine

theorem whenever_of {c : Bool} (h : c = true) (s t : State) : whenever c s t = .next t := by simp [whenever, h]
theorem whenever_not {c : Bool} (h : c = false) (s t : State) : whenever c s t = .next s := by simp [whenever, h]
/-- A command whose conditions decide between two states answers one of them. -/
theorem whenever_next (c : Bool) (s t : State) : ∃ u, whenever c s t = .next u := ⟨_, rfl⟩

namespace State

@[simp] theorem finish_ok (s t : State) : s.finish (.ok t) =
    .next { t with reply := { t.reply with status := if t.reply.status = .none then .success else t.reply.status } } := rfl
@[simp] theorem finish_error (s : State) (e : Status) : s.finish (.error e) = .next { s with reply := { status := e } } := rfl

/-- A request that was carried out answers a next state. -/
theorem finish_next (s : State) (r : Answer) : ∃ t, s.finish r = .next t := by cases r <;> exact ⟨_, rfl⟩

theorem check_ok {c : Bool} (h : c = true) (e : Status) (k : Answer) : check c e k = k := by simp [check, h]
theorem check_error {c : Bool} (h : c = false) (e : Status) (k : Answer) : check c e k = .error e := by simp [check, h]

/-- A request that is served is carried out in the state `asked`. -/
theorem request_serves {s : State} {h : Nat} {role : Role} {x : Session} (sv : s.Serves h role x) (bytes : List Nat)
    (body : Session → State → Answer) : s.request h role bytes body = (s.asked x).finish (body (s.heard x) (s.asked x)) := by
  obtain ⟨h1, h2, h3, h4⟩ := sv
  have h2' : (s.asked x).coresRun = true := h2
  unfold request
  simp only [h1, h3, Bool.not_true, Bool.false_eq_true, if_false]
  have e : ({ s with reply := {} } : State).setSession { x with last := s.now } = s.asked x := rfl
  rw [e, h2']
  have h4' : ¬ (s.heard x).role.rank < role.rank := Nat.not_lt.mpr h4
  simp only [Bool.not_true, Bool.false_eq_true, if_false]
  exact if_neg h4'

/-- A request whose session is not open is refused (R39). -/
theorem request_noSession {s : State} {h : Nat} (h1 : s.takesRequests = true) (h2 : s.session? h = none) (role : Role)
    (bytes : List Nat) (body : Session → State → Answer) :
    s.request h role bytes body = .next { s with reply := { status := .noSession } } := by
  simp [request, h1, h2]

/-- A request of too low a role is refused with nothing but the session's idle time changed (R38, R40). -/
theorem request_lowRole {s : State} {h : Nat} {role : Role} {x : Session} (h1 : s.takesRequests = true) (h2 : s.coresRun = true)
    (h3 : s.session? h = some x) (h4 : x.role.rank < role.rank) (bytes : List Nat) (body : Session → State → Answer) :
    s.request h role bytes body = .next { s.asked x with reply := { status := .roleTooLow } } := by
  have h2' : (s.asked x).coresRun = true := h2
  unfold request
  simp only [h1, h3, Bool.not_true, Bool.false_eq_true, if_false]
  have e : ({ s with reply := {} } : State).setSession { x with last := s.now } = s.asked x := rfl
  rw [e, h2']
  simp [h4]

/-- Where requests are not accepted, a request changes nothing (R354, R394, R461). -/
theorem request_deaf {s : State} (h1 : s.takesRequests = false) (h : Nat) (role : Role) (bytes : List Nat)
    (body : Session → State → Answer) : s.request h role bytes body = .next s := by
  simp [request, h1]

/-- Every request answers a next state. -/
theorem request_next (s : State) (h : Nat) (role : Role) (bytes : List Nat) (body : Session → State → Answer) :
    ∃ t, s.request h role bytes body = .next t := by
  unfold request
  split
  · exact ⟨_, rfl⟩
  · split
    · exact finish_next _ _
    · dsimp only
      split
      · split
        · exact ⟨_, rfl⟩
        · exact finish_next _ _
      · split <;> exact finish_next _ _

/-! ## Sessions put in place -/

theorem session_handle {s : State} {h : Nat} {x : Session} (e : s.session? h = some x) : x.handle = h := by
  have := List.find?_some e
  simpa using this
theorem find_map_handle (l : List Session) (h : Nat) (x y : Session) (hy : y.handle = h) (e : l.find? (fun z => z.handle == h) = some x) :
    (l.map (fun z => if z.handle = y.handle then y else z)).find? (fun z => z.handle == h) = some y := by
  induction l with
  | nil => simp at e
  | cons a l ih =>
    by_cases ha : a.handle = h
    · simp [ha, hy]
    · have : (a.handle == h) = false := by simpa using ha
      simp only [List.find?_cons, this] at e
      simp [hy, ha, this]
      have := ih e
      rw [hy] at this; simpa using this
theorem session_setSession {s : State} {h : Nat} {x y : Session} (hy : y.handle = h) (e : s.session? h = some x) : (s.setSession y).session? h = some y :=
  find_map_handle _ _ _ _ hy e
theorem setSession_twice (s : State) (y z : Session) (h : z.handle = y.handle) : (s.setSession y).setSession z = s.setSession z := by
  unfold State.setSession
  simp only [List.map_map]
  congr 1
  apply List.map_congr_left
  intro a _
  simp only [Function.comp]
  by_cases ha : a.handle = y.handle <;> simp [ha, h]
theorem openRequest_serves {s : State} {h : Nat} {x : Session} (sv : s.Serves h .host x) (ix bytes body) :
    s.openRequest h ix bytes body = (s.asked x).finish (body h x.role (s.asked x)) := by
  unfold State.openRequest
  have h3 := sv.2.2.1
  simp only [h3, Option.isSome_some, Bool.true_or, if_true]
  rw [request_serves sv]
  show (s.asked x).finish (body x.handle x.role (s.asked x)) = _
  rw [session_handle h3]

@[simp] theorem asked_ob (s : State) (x : Session) (k : Nat) : (s.asked x).ob k = s.ob k := rfl
@[simp] theorem asked_cf (s : State) (x : Session) (k : Nat) : (s.asked x).cf k = s.cf k := rfl
@[simp] theorem asked_bit (s : State) (x : Session) (k i : Nat) : (s.asked x).bit k i = s.bit k i := rfl
@[simp] theorem asked_now (s : State) (x : Session) : (s.asked x).now = s.now := rfl

end State
end Sys2Proof.Machine
end

