-- ==== Sys2Proof/Laws/Still.lean ====
section
/-!
SUPPORT. What an operation leaves alone but objects: `State.still` says that every part of the state that switching does not move
is as it was.
-/

namespace Sys2Proof.Machine
open Sys2Proof
@[simp] theorem ite_still {c : Prop} [Decidable c] (a b : State) : (if c then a else b).still = if c then a.still else b.still := by
  split <;> rfl
theorem foldl_still {α : Type} (l : List α) (f : State → α → State) (s : State) (h : ∀ s a, (f s a).still = s.still) :
    (l.foldl f s).still = s.still := by
  induction l generalizing s with
  | nil => rfl
  | cons a r ih => rw [List.foldl_cons, ih, h]
@[simp] theorem forRange_still (n : Nat) (f : State → Nat → State) (s : State) (h : ∀ s a, (f s a).still = s.still) :
    (forRange n f s).still = s.still := foldl_still _ _ _ h
@[simp] theorem forEach_still {α : Type} (l : List α) (f : State → α → State) (s : State) (h : ∀ s a, (f s a).still = s.still) :
    (forEach l f s).still = s.still := foldl_still _ _ _ h
@[simp] theorem bump_still (s : State) (k : Nat) : (s.bump k).still = s.still := (rfl)
@[simp] theorem bumpBy_still (s : State) (k n : Nat) : (s.bumpBy k n).still = s.still := (rfl)
@[simp] theorem bumpSat_still (s : State) (k n : Nat) : (s.bumpSat k n).still = s.still := (rfl)
@[simp] theorem setBit_still (s : State) (k n : Nat) (b : Bool) : (s.setBit k n b).still = s.still := (rfl)
@[simp] theorem setIn_still (s : State) (n : Nat) (f : Nat → Nat) (i v : Nat) : (s.setIn n f i v).still = s.still := by
  unfold State.setIn; split <;> rfl
@[simp] theorem setOb_still (s : State) (k v : Nat) : (s.setOb k v).still = s.still := (rfl)
@[simp] theorem with_reply_still (s : State) x : ({ s with reply := x } : State).still = s.still := rfl
@[simp] theorem with_fab_still (s : State) x : ({ s with fab := x } : State).still = s.still := rfl
@[simp] theorem with_own_still (s : State) x : ({ s with own := x } : State).still = s.still := rfl
@[simp] theorem with_arb_still (s : State) x : ({ s with arb := x } : State).still = s.still := rfl
@[simp] theorem with_ledger_still (s : State) x : ({ s with ledger := x } : State).still = s.still := rfl
@[simp] theorem with_gd_still (s : State) x : ({ s with gd := x } : State).still = s.still := rfl
@[simp] theorem with_br_still (s : State) x : ({ s with br := x } : State).still = s.still := rfl
@[simp] theorem with_fan_still (s : State) x : ({ s with fan := x } : State).still = s.still := rfl
@[simp] theorem with_sv_still (s : State) x : ({ s with sv := x } : State).still = s.still := rfl
@[simp] theorem with_dout_still (s : State) x : ({ s with dout := x } : State).still = s.still := rfl
@[simp] theorem with_bp_still (s : State) x : ({ s with bp := x } : State).still = s.still := rfl
@[simp] theorem with_mx_still (s : State) x : ({ s with mx := x } : State).still = s.still := rfl
@[simp] theorem with_factors_still (s : State) x : ({ s with factors := x } : State).still = s.still := rfl
@[simp] theorem with_light_still (s : State) x : ({ s with light := x } : State).still = s.still := rfl
@[simp] theorem with_obj_still (s : State) x : ({ s with obj := x } : State).still = s.still := rfl
@[simp] theorem State.postAt_still (s : State) (ts : Tick) (ev value : Nat) : (State.postAt s ts ev value).still = s.still := still_of_quiet (own := []) (State.postAt_quiet s ts ev value)
@[simp] theorem State.post_still (s : State) (ev value : Nat) : (State.post s ev value).still = s.still := still_of_quiet (own := []) (State.post_quiet s ev value)
@[simp] theorem State.postIf_still (s : State) (c : Bool) (ev value : Nat) : (State.postIf s c ev value).still = s.still := still_of_quiet (own := []) (State.postIf_quiet s c ev value)
@[simp] theorem State.storeRecord_still (s : State) (r : LedgerRecord) : (State.storeRecord s r).still = s.still := still_of_quiet (own := []) (State.storeRecord_quiet s r)
@[simp] theorem State.dropRecord_still (s : State) : (State.dropRecord s).still = s.still := still_of_quiet (own := []) (State.dropRecord_quiet s)
@[simp] theorem State.record_still (s : State) (r : LedgerRecord) : (State.record s r).still = s.still := still_of_quiet (own := []) (State.record_quiet s r)
@[simp] theorem State.recordWake_still (s : State) (cause detail : Nat) : (State.recordWake s cause detail).still = s.still := by
  rfl
@[simp] theorem State.showTarget_still (s : State) : (State.showTarget s).still = s.still := by rfl
@[simp] theorem State.setGd_still (s : State) (n : Nat) (c : GdChannel) : (State.setGd s n c).still = s.still := still_of_quiet (own := []) (State.setGd_quiet s n c)
@[simp] theorem State.setSv_still (s : State) (n : Nat) (c : SvChannel) : (State.setSv s n c).still = s.still := still_of_quiet (own := []) (State.setSv_quiet s n c)
@[simp] theorem State.setDout_still (s : State) (n : Nat) (c : Dout) : (State.setDout s n c).still = s.still := still_of_quiet (own := []) (State.setDout_quiet s n c)
@[simp] theorem State.setBr_still (s : State) (n : Nat) (c : Bridge) : (State.setBr s n c).still = s.still := still_of_quiet (own := []) (State.setBr_quiet s n c)
@[simp] theorem State.setFan_still (s : State) (n : Nat) (c : Fan) : (State.setFan s n c).still = s.still := still_of_quiet (own := []) (State.setFan_quiet s n c)
@[simp] theorem State.setMx_still (s : State) (n : Nat) (c : MxPort) : (State.setMx s n c).still = s.still := still_of_quiet (own := []) (State.setMx_quiet s n c)
@[simp] theorem State.setBp_still (s : State) (n : Nat) (c : BuntingPort) : (State.setBp s n c).still = s.still := still_of_quiet (own := []) (State.setBp_quiet s n c)
@[simp] theorem State.svPost_still (s : State) (c k v : Nat) : (State.svPost s c k v).still = s.still := by rfl
@[simp] theorem State.svPostIf_still (s : State) (b : Bool) (c k v : Nat) : (State.svPostIf s b c k v).still = s.still := by
  simp [State.svPostIf]
@[simp] theorem State.setSvBit_still (s : State) (c i : Nat) (b : Bool) : (State.setSvBit s c i b).still = s.still := by
  rfl
@[simp] theorem State.svShowOpen_still (s : State) (c : Nat) : (State.svShowOpen s c).still = s.still := by
  simp [State.svShowOpen]
@[simp] theorem State.svEnter_still (s : State) (c ph : Nat) : (State.svEnter s c ph).still = s.still := still_of_quiet (own := []) (State.svEnter_quiet s c ph)
@[simp] theorem State.svMoved_still (s : State) (c result time : Nat) : (State.svMoved s c result time).still = s.still := by
  unfold State.svMoved; split <;> simp
@[simp] theorem State.svInterrupt_still (s : State) (c : Nat) : (State.svInterrupt s c).still = s.still := by
  simp [State.svInterrupt]
@[simp] theorem State.svDecay_still (s : State) (c : Nat) : (State.svDecay s c).still = s.still := by
  simp [State.svDecay]
@[simp] theorem State.svHold_still (s : State) (c : Nat) : (State.svHold s c).still = s.still := by simp [State.svHold]
@[simp] theorem State.svPeak_still (s : State) (c : Nat) : (State.svPeak s c).still = s.still := by simp [State.svPeak]
@[simp] theorem State.svBoostReached_still (s : State) (c : Nat) : (State.svBoostReached s c).still = s.still := by
  simp [State.svBoostReached]
@[simp] theorem State.svStart_still (s : State) (c i : Nat) : (State.svStart s c i).still = s.still := by
  simp [State.svStart]
@[simp] theorem State.svStagesOff_still (s : State) (c i : Nat) : (State.svStagesOff s c i).still = s.still := by
  simp [State.svStagesOff]
@[simp] theorem State.svFastOff_still (s : State) (c i : Nat) : (State.svFastOff s c i).still = s.still := by
  simp [State.svFastOff]
@[simp] theorem State.svCancel_still (s : State) (c : Nat) : (State.svCancel s c).still = s.still := by
  simp [State.svCancel]
@[simp] theorem State.svOff_still (s : State) (c i : Nat) : (State.svOff s c i).still = s.still := by simp [State.svOff]
@[simp] theorem State.gdShow_still (s : State) (c v : Nat) : (State.gdShow s c v).still = s.still := still_of_quiet (own := []) (State.gdShow_quiet s c v)
@[simp] theorem State.gdApplyAt_still (s : State) (c v period : Nat) : (State.gdApplyAt s c v period).still = s.still := still_of_quiet (own := []) (State.gdApplyAt_quiet s c v period)
@[simp] theorem State.gdApply_still (s : State) (c v : Nat) : (State.gdApply s c v).still = s.still := still_of_quiet (own := []) (State.gdApply_quiet s c v)
@[simp] theorem State.gdCancel_still (s : State) (c : Nat) : (State.gdCancel s c).still = s.still := still_of_quiet (own := []) (State.gdCancel_quiet s c)
@[simp] theorem State.gdOff_still (s : State) (c : Nat) : (State.gdOff s c).still = s.still := still_of_quiet (own := []) (State.gdOff_quiet s c)
@[simp] theorem State.gdDrive_still (s : State) (c v : Nat) : (State.gdDrive s c v).still = s.still := still_of_quiet (own := []) (State.gdDrive_quiet s c v)
@[simp] theorem State.brChannels_still (s : State) (h dir duty : Nat) : (State.brChannels s h dir duty).still = s.still := still_of_quiet (own := []) (State.brChannels_quiet s h dir duty)
@[simp] theorem State.brShow_still (s : State) (h st : Nat) : (State.brShow s h st).still = s.still := still_of_quiet (own := []) (State.brShow_quiet s h st)
@[simp] theorem State.brStart_still (s : State) (h : Nat) : (State.brStart s h).still = s.still := still_of_quiet (own := []) (State.brStart_quiet s h)
@[simp] theorem State.fanOff_still (s : State) (f : Nat) : (State.fanOff s f).still = s.still := still_of_quiet (own := []) (State.fanOff_quiet s f)
@[simp] theorem State.fanDuty_still (s : State) (f d : Nat) : (State.fanDuty s f d).still = s.still := still_of_quiet (own := []) (State.fanDuty_quiet s f d)
@[simp] theorem State.fanStart_still (s : State) (f : Nat) : (State.fanStart s f).still = s.still := still_of_quiet (own := []) (State.fanStart_quiet s f)
@[simp] theorem State.fanDeliver_still (s : State) (f v : Nat) : (State.fanDeliver s f v).still = s.still := still_of_quiet (own := []) (State.fanDeliver_quiet s f v)
@[simp] theorem State.doutShow_still (s : State) (d v : Nat) : (State.doutShow s d v).still = s.still := still_of_quiet (own := []) (State.doutShow_quiet s d v)
@[simp] theorem State.doutCancel_still (s : State) (d : Nat) : (State.doutCancel s d).still = s.still := still_of_quiet (own := []) (State.doutCancel_quiet s d)
@[simp] theorem State.doutDrive_still (s : State) (d v : Nat) : (State.doutDrive s d v).still = s.still := still_of_quiet (own := []) (State.doutDrive_quiet s d v)
@[simp] theorem State.drive_still (s : State) (sig v0 : Nat) : (State.drive s sig v0).still = s.still := still_of_quiet (own := []) (State.drive_quiet s sig v0)
@[simp] theorem State.command_still (s : State) (sig v : Nat) : (State.command s sig v).still = s.still := still_of_quiet (own := []) (State.command_quiet s sig v)
@[simp] theorem State.hoistGd_still (s : State) (c : Nat) : (State.hoistGd s c).still = s.still := by
  simp only [State.hoistGd]; (repeat' split) <;> simp
@[simp] theorem State.hoistSv_still (s : State) (c : Nat) : (State.hoistSv s c).still = s.still := by
  simp [State.hoistSv]
@[simp] theorem State.hoistDout_still (s : State) (d : Nat) : (State.hoistDout s d).still = s.still := by
  simp [State.hoistDout]
@[simp] theorem State.hoistMx_still (s : State) (p : Nat) : (State.hoistMx s p).still = s.still := by
  simp [State.hoistMx]
@[simp] theorem State.stopBunting_still (s : State) (p : Nat) : (State.stopBunting s p).still = s.still := by
  simp [State.stopBunting]
theorem State.hoistSafe_still (s : State) :
    s.hoistSafe.still = ({ s with hoist := { s.hoist with safe := true } } : State).still := by
  simp [State.hoistSafe]
@[simp] theorem State.hoistFollow_still (s : State) : (State.hoistFollow s).still = s.still := by
  simp [State.hoistFollow]
theorem State.endHoistSafe_still (s : State) :
    s.endHoistSafe.still = ({ s with hoist := { s.hoist with safe := false } } : State).still := by
  simp only [State.endHoistSafe]
  rw [forRange_still _ _ _ fun s a => setBit_still s _ _ _, forRange_still _ _ _ fun s a => setBit_still s _ _ _,
    forRange_still _ _ _ fun s a => setBit_still s _ _ _]
@[simp] theorem State.setSlot_still (s : State) (sig : Nat) (x : Cls) (v : Option Claim) : (State.setSlot s sig x v).still = s.still := still_of_quiet (own := []) (State.setSlot_quiet s sig x v)
@[simp] theorem State.commandOwned_still (s : State) (sig v : Nat) : (State.commandOwned s sig v).still = s.still := still_of_quiet (own := []) (State.commandOwned_quiet s sig v)
@[simp] theorem State.portFit_still (s : State) (port cls : Nat) : (State.portFit s port cls).still = s.still := still_of_quiet (own := []) (State.portFit_quiet s port cls)
@[simp] theorem State.undark_still (s : State) (sig : Nat) : (State.undark s sig).still = s.still := still_of_quiet (own := []) (State.undark_quiet s sig)
@[simp] theorem State.showShed_still (s : State) : (State.showShed s).still = s.still := still_of_quiet (own := []) (State.showShed_quiet s)
@[simp] theorem State.restoredOne_still (s : State) (sig : Nat) : (State.restoredOne s sig).still = s.still := still_of_quiet (own := []) (State.restoredOne_quiet s sig)
@[simp] theorem State.unshed_still (s : State) (sig : Nat) : (State.unshed s sig).still = s.still := still_of_quiet (own := []) (State.unshed_quiet s sig)
@[simp] theorem State.portTake_still (s : State) (x : Nat × Nat) : (State.portTake s x).still = s.still := still_of_quiet (own := []) (State.portTake_quiet s x)
@[simp] theorem State.release_still (s : State) (r : AdmRequest) : (State.release s r).still = s.still := still_of_quiet (own := []) (State.release_quiet s r)
@[simp] theorem State.noteWait_still (s : State) (r : AdmRequest) : (State.noteWait s r).still = s.still := still_of_quiet (own := []) (State.noteWait_quiet s r)
@[simp] theorem State.admitNow_still (s : State) (r : AdmRequest) : (State.admitNow s r).still = s.still := still_of_quiet (own := []) (State.admitNow_quiet s r)
@[simp] theorem State.admitS_still (s : State) (r : AdmRequest) : (State.admitS s r).still = s.still := still_of_quiet (own := []) (State.admitS_quiet s r)
@[simp] theorem State.checkOver_still (s : State) : (State.checkOver s).still = s.still := still_of_quiet (own := []) (State.checkOver_quiet s)
@[simp] theorem State.runQueue_still (s : State) : (State.runQueue s).still = s.still := still_of_quiet (own := []) (State.runQueue_quiet s)
@[simp] theorem State.refuse_still (s : State) (r : AdmRequest) : (State.refuse s r).still = s.still := still_of_quiet (own := []) (State.refuse_quiet s r)
@[simp] theorem State.showWait_still (s : State) (sig : Nat) : (State.showWait s sig).still = s.still := still_of_quiet (own := []) (State.showWait_quiet s sig)
@[simp] theorem State.present_still (s : State) (r : AdmRequest) : (State.present s r).still = s.still := still_of_quiet (own := []) (State.present_quiet s r)
@[simp] theorem State.withdrawIf_still (s : State) (p : AdmRequest → Bool) : (State.withdrawIf s p).still = s.still := still_of_quiet (own := []) (State.withdrawIf_quiet s p)
@[simp] theorem State.withdraw_still (s : State) (sig : Nat) : (State.withdraw s sig).still = s.still := still_of_quiet (own := []) (State.withdraw_quiet s sig)
@[simp] theorem State.revise_still (s : State) (old new : AdmRequest) : (State.revise s old new).still = s.still := still_of_quiet (own := []) (State.revise_quiet s old new)
@[simp] theorem State.keepAge_still (s : State) (key : Nat) (t : Tick) : (State.keepAge s key t).still = s.still := still_of_quiet (own := []) (State.keepAge_quiet s key t)
@[simp] theorem State.takeAge_still (s : State) (key : Nat) : (State.takeAge s key).still = s.still := still_of_quiet (own := []) (State.takeAge_quiet s key)
@[simp] theorem State.dropEntry_still (s : State) (sig : Nat) : (State.dropEntry s sig).still = s.still := still_of_quiet (own := []) (State.dropEntry_quiet s sig)
@[simp] theorem State.reduceEntry_still (s : State) (sig v : Nat) : (State.reduceEntry s sig v).still = s.still := still_of_quiet (own := []) (State.reduceEntry_quiet s sig v)
@[simp] theorem State.ownedBy_still (s : State) (sig : Nat) : (State.ownedBy s sig).still = s.still := still_of_quiet (own := []) (State.ownedBy_quiet s sig)
@[simp] theorem State.applyValue_still (s : State) (sig v : Nat) : (State.applyValue s sig v).still = s.still := still_of_quiet (own := []) (State.applyValue_quiet s sig v)
@[simp] theorem State.reviseTo_still (s : State) (sig cls v : Nat) : (State.reviseTo s sig cls v).still = s.still := still_of_quiet (own := []) (State.reviseTo_quiet s sig cls v)
@[simp] theorem State.submit_still (s : State) (sig cls v : Nat) : (State.submit s sig cls v).still = s.still := still_of_quiet (own := []) (State.submit_quiet s sig cls v)
@[simp] theorem State.dropRaise_still (s : State) (sig : Nat) : (State.dropRaise s sig).still = s.still := still_of_quiet (own := []) (State.dropRaise_quiet s sig)
@[simp] theorem State.portRaise_still (s : State) (sig cls v : Nat) : (State.portRaise s sig cls v).still = s.still := still_of_quiet (own := []) (State.portRaise_quiet s sig cls v)
@[simp] theorem State.portLower_still (s : State) (sig v : Nat) : (State.portLower s sig v).still = s.still := still_of_quiet (own := []) (State.portLower_quiet s sig v)
@[simp] theorem State.portForm_still (s : State) (port cls rise : Nat) (facs : List (Nat × Nat)) : (State.portForm s port cls rise facs).still = s.still := by
  simp only [State.portForm]; (repeat' split) <;> simp
@[simp] theorem State.portForms_still (s : State) (port rise : Nat) (facs : List (Nat × Nat × Nat)) : (State.portForms s port rise facs).still = s.still := by
  simp [State.portForms]
@[simp] theorem State.holdEnvelope_still (s : State) (sig level : Nat) : (State.holdEnvelope s sig level).still = s.still := by
  unfold State.holdEnvelope; (repeat' split) <;> simp
@[simp] theorem State.resolveTagged_still (s : State) (sig code tag v : Nat) : (State.resolveTagged s sig code tag v).still = s.still := still_of_quiet (own := []) (State.resolveTagged_quiet s sig code tag v)
@[simp] theorem State.resolvePort_still (s : State) (sig code tag v : Nat) : (State.resolvePort s sig code tag v).still = s.still := still_of_quiet (own := []) (State.resolvePort_quiet s sig code tag v)
@[simp] theorem State.resolve_still (s : State) (sig : Nat) : (State.resolve s sig).still = s.still := still_of_quiet (own := []) (State.resolve_quiet s sig)
@[simp] theorem State.resubmit_still (s : State) (sig : Nat) : (State.resubmit s sig).still = s.still := still_of_quiet (own := []) (State.resubmit_quiet s sig)
@[simp] theorem State.setBrFlag_still (s : State) (h i : Nat) (b : Bool) : (State.setBrFlag s h i b).still = s.still := by
  rfl
@[simp] theorem State.brSlot_still (s : State) (h k value : Nat) : (State.brSlot s h k value).still = s.still := by rfl
@[simp] theorem State.fanSlot_still (s : State) (f k value : Nat) : (State.fanSlot s f k value).still = s.still := by rfl
@[simp] theorem State.setPos_still (s : State) (h : Nat) (p : Int) : (State.setPos s h p).still = s.still := by rfl
@[simp] theorem State.brCount_still (s : State) (h ripples : Nat) : (State.brCount s h ripples).still = s.still := by
  simp only [State.brCount]; (repeat' split) <;> simp
@[simp] theorem State.brMeasured_still (s : State) (h current : Nat) : (State.brMeasured s h current).still = s.still := by
  simp [State.brMeasured]
@[simp] theorem State.loseNormal_still (s : State) (h : Nat) : (State.loseNormal s h).still = s.still := by
  simp [State.loseNormal]
@[simp] theorem State.brUnload_still (s : State) (h : Nat) : (State.brUnload s h).still = s.still := still_of_quiet (own := []) (State.brUnload_quiet s h)
@[simp] theorem State.brStop_still (s : State) (h reason : Nat) : (State.brStop s h reason).still = s.still := by
  simp [State.brStop]
@[simp] theorem State.brPresent_still (s : State) (h dir cls code : Nat) : (State.brPresent s h dir cls code).still = s.still := by
  simp only [State.brPresent]; (repeat' split) <;> simp
@[simp] theorem State.brMove_still (s : State) (h dir : Nat) : (State.brMove s h dir).still = s.still := by
  simp [State.brMove]
@[simp] theorem State.brHalt_still (s : State) (h reason : Nat) : (State.brHalt s h reason).still = s.still := by
  simp [State.brHalt]
@[simp] theorem State.brHold_still (s : State) (h : Nat) : (State.brHold s h).still = s.still := still_of_quiet (own := []) (State.brHold_quiet s h)
@[simp] theorem State.brBrakeEnd_still (s : State) (h : Nat) : (State.brBrakeEnd s h).still = s.still := by
  simp [State.brBrakeEnd]
@[simp] theorem State.lockPulse_still (s : State) (h code : Nat) : (State.lockPulse s h code).still = s.still := by
  simp [State.lockPulse]
@[simp] theorem State.wiperAct_still (s : State) (h code : Nat) : (State.wiperAct s h code).still = s.still := still_of_quiet (own := []) (State.wiperAct_quiet s h code)
@[simp] theorem State.windowAct_still (s : State) (h code : Nat) : (State.windowAct s h code).still = s.still := still_of_quiet (own := []) (State.windowAct_quiet s h code)
@[simp] theorem State.brAct_still (s : State) (h code : Nat) : (State.brAct s h code).still = s.still := by
  simp only [State.brAct]; (repeat' split) <;> simp
@[simp] theorem State.brCommand_still (s : State) (h code : Nat) : (State.brCommand s h code).still = s.still := by
  simp [State.brCommand]
@[simp] theorem State.coastBridge_still (s : State) (h : Nat) : (State.coastBridge s h).still = s.still := by
  simp [State.coastBridge]
@[simp] theorem State.parkBridge_still (s : State) (h : Nat) : (State.parkBridge s h).still = s.still := by
  simp [State.parkBridge]
@[simp] theorem State.fanTripped_still (s : State) (f : Nat) : (State.fanTripped s f).still = s.still := by
  simp [State.fanTripped]
@[simp] theorem State.gdHoldOff_still (s : State) (c : Nat) : (State.gdHoldOff s c).still = s.still := by
  simp [State.gdHoldOff]
@[simp] theorem State.gdShut_still (s : State) (c : Nat) : (State.gdShut s c).still = s.still := by
  simp only [State.gdShut]; (repeat' split) <;> simp
@[simp] theorem State.gdFault_still (s : State) (c : Nat) : (State.gdFault s c).still = s.still := by
  simp [State.gdFault]
@[simp] theorem State.gateFault_still (s : State) (c cause : Nat) : (State.gateFault s c cause).still = s.still := by rfl
@[simp] theorem State.gdResubmit_still (s : State) (c why : Nat) : (State.gdResubmit s c why).still = s.still := still_of_quiet (own := []) (State.gdResubmit_quiet s c why)
@[simp] theorem State.gdTrip_still (s : State) (c vds : Nat) (envelope : Bool) : (State.gdTrip s c vds envelope).still = s.still := by
  simp [State.gdTrip]
@[simp] theorem State.gdPeriod_still (s : State) (c : Nat) : (State.gdPeriod s c).still = s.still := by
  simp [State.gdPeriod]
@[simp] theorem State.doutPeriod_still (s : State) (d : Nat) : (State.doutPeriod s d).still = s.still := by
  simp [State.doutPeriod]
@[simp] theorem State.gdOpen_still (s : State) (c : Nat) (on off : Bool) : (State.gdOpen s c on off).still = s.still := by
  simp [State.gdOpen]
@[simp] theorem State.gdDiagReport_still (s : State) (c mv reading : Nat) : (State.gdDiagReport s c mv reading).still = s.still := by
  simp [State.gdDiagReport]
@[simp] theorem State.gdDiag_still (s : State) (c mv : Nat) : (State.gdDiag s c mv).still = s.still := by
  simp only [State.gdDiag]; (repeat' split) <;> simp
@[simp] theorem State.gdThermal_still (s : State) (c : Nat) : (State.gdThermal s c).still = s.still := by
  simp [State.gdThermal]
@[simp] theorem State.gdSupplyOff_still (s : State) (flag cause : Nat) (c : Nat) : (State.gdSupplyOff s flag cause c).still = s.still := by
  simp [State.gdSupplyOff]
@[simp] theorem State.gdSupplyOn_still (s : State) (flag : Nat) (c : Nat) : (State.gdSupplyOn s flag c).still = s.still := by
  simp [State.gdSupplyOn]
@[simp] theorem State.brLearn_still (s : State) (h : Nat) : (State.brLearn s h).still = s.still := by rfl
@[simp] theorem State.windowStall_still (s : State) (h : Nat) : (State.windowStall s h).still = s.still := by
  simp [State.windowStall]
@[simp] theorem State.lockEnd_still (s : State) (h reason : Nat) : (State.lockEnd s h reason).still = s.still := by
  simp only [State.lockEnd]; (repeat' split) <;> simp
@[simp] theorem State.reversalEnd_still (s : State) (h reason : Nat) : (State.reversalEnd s h reason).still = s.still := by
  simp [State.reversalEnd]
@[simp] theorem State.brStall_still (s : State) (h : Nat) : (State.brStall s h).still = s.still := by
  simp only [State.brStall]; (repeat' split) <;> simp
@[simp] theorem State.brGather_still (s : State) (h current vbat : Nat) : (State.brGather s h current vbat).still = s.still := by
  simp [State.brGather]
@[simp] theorem State.brMilli_still (s : State) (h current vbat ripples : Nat) : (State.brMilli s h current vbat ripples).still = s.still := by
  simp [State.brMilli]
@[simp] theorem State.brPinch_still (s : State) (h : Nat) : (State.brPinch s h).still = s.still := by
  simp [State.brPinch]
@[simp] theorem State.fanUpdate_still (s : State) (f ripples : Nat) : (State.fanUpdate s f ripples).still = s.still := by
  simp [State.fanUpdate]
@[simp] theorem State.svSetpoint_still (s : State) (c v : Nat) : (State.svSetpoint s c v).still = s.still := by
  simp [State.svSetpoint]
@[simp] theorem State.svAct_still (s : State) (c v i : Nat) : (State.svAct s c v i).still = s.still := by
  simp [State.svAct]
@[simp] theorem State.svBoostEnd_still (s : State) (c i : Nat) : (State.svBoostEnd s c i).still = s.still := by
  simp only [State.svBoostEnd]; (repeat' split) <;> simp
@[simp] theorem State.svShut_still (s : State) (c i : Nat) : (State.svShut s c i).still = s.still := by
  simp [State.svShut]
@[simp] theorem State.svFault_still (s : State) (c : Nat) : (State.svFault s c).still = s.still := by
  simp [State.svFault]
@[simp] theorem State.svResubmit_still (s : State) (c why : Nat) : (State.svResubmit s c why).still = s.still := still_of_quiet (own := []) (State.svResubmit_quiet s c why)
@[simp] theorem State.svDiag_still (s : State) (c vh vl : Nat) : (State.svDiag s c vh vl).still = s.still := by
  simp only [State.svDiag]; (repeat' split) <;> simp
@[simp] theorem State.doutPost_still (s : State) (d k v : Nat) : (State.doutPost s d k v).still = s.still := by rfl
@[simp] theorem State.setDoutBit_still (s : State) (d i : Nat) (b : Bool) : (State.setDoutBit s d i b).still = s.still := by
  rfl
@[simp] theorem State.doutFault_still (s : State) (d : Nat) : (State.doutFault s d).still = s.still := by
  simp [State.doutFault]
@[simp] theorem State.doutTrip_still (s : State) (d : Nat) (hot : Bool) (current : Nat) : (State.doutTrip s d hot current).still = s.still := by
  simp [State.doutTrip]
@[simp] theorem State.doutResubmit_still (s : State) (d why : Nat) : (State.doutResubmit s d why).still = s.still := still_of_quiet (own := []) (State.doutResubmit_quiet s d why)
@[simp] theorem State.doutOpen_still (s : State) (d : Nat) (on off : Bool) : (State.doutOpen s d on off).still = s.still := by
  simp [State.doutOpen]
@[simp] theorem State.doutDiag_still (s : State) (d mv : Nat) : (State.doutDiag s d mv).still = s.still := by
  simp only [State.doutDiag]; (repeat' split) <;> simp
@[simp] theorem State.ainHeld_still (s : State) (c : Nat) : (State.ainHeld s c).still = s.still := by
  simp [State.ainHeld]
@[simp] theorem State.calWithin_still (s : State) (n : Nat) : (State.calWithin s n).still = s.still := by
  simp [State.calWithin]
@[simp] theorem State.calOutside_still (s : State) (n : Nat) : (State.calOutside s n).still = s.still := by
  simp [State.calOutside]
@[simp] theorem State.calJudge_still (s : State) (n : Nat) (t : Int) (i : Nat) : (State.calJudge s n t i).still = s.still := by
  simp [State.calJudge]
@[simp] theorem State.supReadExtreme_still (s : State) (m : Nat) (mx : Bool) : (State.supReadExtreme s m mx).still = s.still := by
  simp [State.supReadExtreme]
@[simp] theorem State.cableLimit_still (s : State) (p : Nat) : (State.cableLimit s p).still = s.still := by rfl
@[simp] theorem State.bpPost_still (s : State) (p k v : Nat) : (State.bpPost s p k v).still = s.still := by rfl
@[simp] theorem State.bpTimes_still (s : State) (p : Nat) : (State.bpTimes s p).still = s.still := by rfl
@[simp] theorem State.bpFail_still (s : State) (p : Nat) : (State.bpFail s p).still = s.still := by rfl
@[simp] theorem State.bpForeign_still (s : State) (p pos : Nat) : (State.bpForeign s p pos).still = s.still := by rfl
@[simp] theorem State.bpFound_still (s : State) (p n : Nat) (d : BuntingDiscovery) : (State.bpFound s p n d).still = s.still := by
  simp [State.bpFound]
@[simp] theorem State.bpDiscovered_still (s : State) (p : Nat) (d : BuntingDiscovery) : (State.bpDiscovered s p d).still = s.still := by
  unfold State.bpDiscovered; (repeat' split) <;> simp
@[simp] theorem State.bgShow_still (s : State) (p g st f : Nat) : (State.bgShow s p g st f).still = s.still := by rfl
@[simp] theorem State.bgFactor_still (s : State) (p g old new : Nat) : (State.bgFactor s p g old new).still = s.still := by
  simp [State.bgFactor]
@[simp] theorem State.bpHeard_still (s : State) (p before : Nat) (lines : List BuntingLine) (bad : NodeTakes → Bool) : (State.bpHeard s p before lines bad).still = s.still := by
  simp [State.bpHeard]
@[simp] theorem State.bpSend_still (s : State) (p : Nat) : (State.bpSend s p).still = s.still := by rfl
@[simp] theorem State.bgLost_still (s : State) (p g : Nat) : (State.bgLost s p g).still = s.still := by
  simp [State.bgLost]
@[simp] theorem State.bgReading_still (s : State) (p g pos d : Nat) : (State.bgReading s p g pos d).still = s.still := by
  simp [State.bgReading]
@[simp] theorem State.nodeStatus_still (s : State) (p pos d : Nat) : (State.nodeStatus s p pos d).still = s.still := by
  simp [State.nodeStatus]
@[simp] theorem State.nodeHeard_still (s : State) (p pos : Nat) : (State.nodeHeard s p pos).still = s.still := by rfl
@[simp] theorem State.nodeMissed_still (s : State) (p pos : Nat) : (State.nodeMissed s p pos).still = s.still := by
  simp [State.nodeMissed]
@[simp] theorem State.bpPoll_still (s : State) (p : Nat) (replies : List BuntingReply) (q : Nat × Nat × Option Nat) : (State.bpPoll s p replies q).still = s.still := by
  unfold State.bpPoll; (repeat' split) <;> simp
@[simp] theorem State.bpAdvance_still (s : State) (p : Nat) : (State.bpAdvance s p).still = s.still := by rfl
@[simp] theorem State.bpCommand_still (s : State) (p : Nat) (lines : List BuntingLine) : (State.bpCommand s p lines).still = s.still := by
  rfl
@[simp] theorem State.nodeDark_still (s : State) (p pos : Nat) : (State.nodeDark s p pos).still = s.still := by rfl
@[simp] theorem State.mxPost_still (s : State) (p k v : Nat) : (State.mxPost s p k v).still = s.still := by rfl
@[simp] theorem State.mxShowPower_still (s : State) (p : Nat) : (State.mxShowPower s p).still = s.still := by rfl
@[simp] theorem State.mxShut_still (s : State) (p : Nat) : (State.mxShut s p).still = s.still := by simp [State.mxShut]
@[simp] theorem State.mxRestart_still (s : State) (p why : Nat) : (State.mxRestart s p why).still = s.still := still_of_quiet (own := []) (State.mxRestart_quiet s p why)
@[simp] theorem State.mxFault_still (s : State) (p : Nat) : (State.mxFault s p).still = s.still := by
  simp [State.mxFault]
@[simp] theorem State.mxSlotStart_still (s : State) (p l : Nat) : (State.mxSlotStart s p l).still = s.still := by
  simp [State.mxSlotStart]
@[simp] theorem State.mxFactorTo_still (s : State) (p new : Nat) : (State.mxFactorTo s p new).still = s.still := by
  simp [State.mxFactorTo]
@[simp] theorem State.derateMx_still (s : State) (dt p : Nat) : (State.derateMx s dt p).still = s.still := by
  unfold State.derateMx; (repeat' split) <;> simp
@[simp] theorem State.redrive_still (s : State) (sig : Nat) : (State.redrive s sig).still = s.still := by
  simp [State.redrive]
@[simp] theorem State.derateOutput_still (s : State) (dt sig : Nat) : (State.derateOutput s dt sig).still = s.still := by
  simp [State.derateOutput]
@[simp] theorem State.nbEnd_still (s : State) : (State.nbEnd s).still = s.still := by simp [State.nbEnd]
@[simp] theorem State.endEnvelope_still (s : State) (sig : Nat) : (State.endEnvelope s sig).still = s.still := still_of_quiet (own := []) (State.endEnvelope_quiet s sig)
@[simp] theorem State.endEnvelopes_still (s : State) (g : Nat) : (State.endEnvelopes s g).still = s.still := still_of_quiet (own := []) (State.endEnvelopes_quiet s g)
@[simp] theorem State.freeEngine_still (s : State) (e : Nat) : (State.freeEngine s e).still = s.still := still_of_quiet (own := []) (State.freeEngine_quiet s e)
@[simp] theorem State.endFade_still (s : State) (g code : Nat) : (State.endFade s g code).still = s.still := still_of_quiet (own := []) (State.endFade_quiet s g code)
@[simp] theorem State.setLevel_still (s : State) (g code l : Nat) : (State.setLevel s g code l).still = s.still := still_of_quiet (own := []) (State.setLevel_quiet s g code l)
@[simp] theorem State.claimMembers_still (s : State) (g : Nat) (cls : Cls) (holder tag session : Nat) (v : Nat → Nat → Nat) : (State.claimMembers s g cls holder tag session v).still = s.still := still_of_quiet (own := []) (State.claimMembers_quiet s g cls holder tag session v)
@[simp] theorem State.startFade_still (s : State) (g : Nat) (cls : Cls) (holder session level time : Nat) : (State.startFade s g cls holder session level time).still = s.still := still_of_quiet (own := []) (State.startFade_quiet s g cls holder session level time)
@[simp] theorem State.takeOver_still (s : State) (e : Nat) (r : PatternRun) : (State.takeOver s e r).still = s.still := by
  simp [State.takeOver]
@[simp] theorem State.startPattern_still (s : State) (e g : Nat) (cls : Cls) (holder session block : Nat) : (State.startPattern s e g cls holder session block).still = s.still := by
  simp only [State.startPattern]; (repeat' split) <;> simp
@[simp] theorem State.releaseGroup_still (s : State) (g : Nat) (cls : Cls) : (State.releaseGroup s g cls).still = s.still := by
  simp [State.releaseGroup]
@[simp] theorem State.stepMember_still (s : State) (cls : Cls) (holder tag sig l : Nat) : (State.stepMember s cls holder tag sig l).still = s.still := still_of_quiet (own := []) (State.stepMember_quiet s cls holder tag sig l)
@[simp] theorem State.fadeStep_still (s : State) (f : Fade) : (State.fadeStep s f).still = s.still := still_of_quiet (own := []) (State.fadeStep_quiet s f)
@[simp] theorem State.regroup_still (s : State) (g : Nat) (old : List Nat) : (State.regroup s g old).still = s.still := by
  simp [State.regroup]
@[simp] theorem State.shedOne_still (s : State) (reason sig : Nat) : (State.shedOne s reason sig).still = s.still := still_of_quiet (own := []) (State.shedOne_quiet s reason sig)
@[simp] theorem State.shedClass_still (s : State) (code reason : Nat) : (State.shedClass s code reason).still = s.still := still_of_quiet (own := []) (State.shedClass_quiet s code reason)
@[simp] theorem State.sagC_still (s : State) (v : Nat) : (State.sagC s v).still = s.still := still_of_quiet (own := []) (State.sagC_quiet s v)
@[simp] theorem State.sagA_still (s : State) (v : Nat) : (State.sagA s v).still = s.still := still_of_quiet (own := []) (State.sagA_quiet s v)
@[simp] theorem State.restoreOne_still (s : State) (x : Shed) : (State.restoreOne s x).still = s.still := by
  simp only [State.restoreOne]; (repeat' split) <;> simp
@[simp] theorem State.canNotice_still (s : State) (o : Occ) : (State.canNotice s o).still = s.still := by
  simp [State.canNotice]
@[simp] theorem State.logRuntime_still (s : State) (o : Occ) : (State.logRuntime s o).still = s.still := by
  simp [State.logRuntime]
@[simp] theorem State.canShow_still (s : State) (c : Nat) : (State.canShow s c).still = s.still := by rfl
@[simp] theorem State.canPost_still (s : State) (c k v : Nat) : (State.canPost s c k v).still = s.still := by rfl
@[simp] theorem State.watchUpdate_still (s : State) (o old : Nat) : (State.watchUpdate s o old).still = s.still := by
  simp [State.watchUpdate]
@[simp] theorem State.watchTimeout_still (s : State) (o late : Nat) : (State.watchTimeout s o late).still = s.still := by
  simp [State.watchTimeout]
@[simp] theorem State.showKeeper_still (s : State) : (State.showKeeper s).still = s.still := by
  simp only [State.showKeeper]; (repeat' split) <;> simp
@[simp] theorem State.keeperRecord_still (s : State) (i : Nat) (on : Bool) : (State.keeperRecord s i on).still = s.still := by
  simp [State.keeperRecord]
@[simp] theorem State.pushOp_still (s : State) (o : HostOp) : (State.pushOp s o).still = s.still := by rfl
@[simp] theorem State.resolveAll_still (s : State) (l : List Nat) : (State.resolveAll s l).still = s.still := still_of_quiet (own := []) (State.resolveAll_quiet s l)
@[simp] theorem State.safeRecord_still (s : State) (old new reason : Nat) : (State.safeRecord s old new reason).still = s.still := by
  simp [State.safeRecord]
@[simp] theorem State.emptyHost_still (s : State) : (State.emptyHost s).still = s.still := by simp [State.emptyHost]
@[simp] theorem State.placeSafe_still (s : State) (held : Table Nat) : (State.placeSafe s held).still = s.still := by rfl
@[simp] theorem State.hostSilent_still (s : State) : (State.hostSilent s).still = s.still := by simp [State.hostSilent]
@[simp] theorem State.safePlacedOver_still (s : State) (held : Table Nat) (more : List Nat) (old new : Nat) : (State.safePlacedOver s held more old new).still = s.still := by
  simp only [State.safePlacedOver]; (repeat' split) <;> simp
@[simp] theorem State.safePlaced_still (s : State) (old new : Nat) : (State.safePlaced s old new).still = s.still := by
  simp [State.safePlaced]
@[simp] theorem State.safeEmptied_still (s : State) : (State.safeEmptied s).still = s.still := by
  unfold State.safeEmptied; split <;> simp
@[simp] theorem State.releaseRuleGroup_still (s : State) (n g : Nat) (cls : Cls) : (State.releaseRuleGroup s n g cls).still = s.still := by
  simp [State.releaseRuleGroup]
@[simp] theorem State.reDrive_still (s : State) (sig : Nat) : (State.reDrive s sig).still = s.still := by
  simp only [State.reDrive]; (repeat' split) <;> simp
@[simp] theorem State.mxLeaveSafe_still (s : State) (p : Nat) : (State.mxLeaveSafe s p).still = s.still := by
  simp [State.mxLeaveSafe]
@[simp] theorem State.showPort_still (s : State) (p : Nat) (st : Nat) : (State.showPort s p st).still = s.still := by
  simp [State.showPort]
@[simp] theorem State.restPort_still (s : State) (p : Nat) : (State.restPort s p).still = s.still := by
  simp [State.restPort]
@[simp] theorem State.burgeeRecord_still (s : State) (old new reason r port entry mask : Nat) : (State.burgeeRecord s old new reason r port entry mask).still = s.still := by
  simp [State.burgeeRecord]
@[simp] theorem State.enableOutput_still (s : State) (sig : Nat) : (State.enableOutput s sig).still = s.still := by
  unfold State.enableOutput; split <;> simp
@[simp] theorem State.disableOutput_still (s : State) (sig : Nat) : (State.disableOutput s sig).still = s.still := by
  simp [State.disableOutput]
@[simp] theorem State.presentedLocked_still (s : State) (p : Nat) : (State.presentedLocked s p).still = s.still := by rfl
@[simp] theorem State.beginExchange_still (s : State) (p : Nat) : (State.beginExchange s p).still = s.still := by
  simp [State.beginExchange]
@[simp] theorem State.sealPage_still (s : State) (p : LedgerPage) : (State.sealPage s p).still = s.still := by rfl
@[simp] theorem State.sealCheckpoint_still (s : State) : (State.sealCheckpoint s).still = s.still := by rfl
@[simp] theorem State.showFill_still (s : State) : (State.showFill s).still = s.still := by rfl
@[simp] theorem State.ledgerNote_still (s : State) (ev count first last : Nat) : (State.ledgerNote s ev count first last).still = s.still := by
  simp [State.ledgerNote]
@[simp] theorem State.claimSegment_still (s : State) : (State.claimSegment s).still = s.still := by
  simp only [State.claimSegment]; (repeat' split) <;> simp
@[simp] theorem State.showUsed_still (s : State) : (State.showUsed s).still = s.still := by
  simp only [State.showUsed]; (repeat' split) <;> first | rfl | simp
@[simp] theorem State.makeDurable_still (s : State) (n : Nat) : (State.makeDurable s n).still = s.still := by
  simp only [State.makeDurable]; (repeat' split) <;> simp
@[simp] theorem State.issueFlush_still (s : State) : (State.issueFlush s).still = s.still := by simp [State.issueFlush]
@[simp] theorem State.storeFailed_still (s : State) (status : Nat) : (State.storeFailed s status).still = s.still := by
  simp [State.storeFailed]
@[simp] theorem State.loseRange_still (s : State) (a b : Nat) : (State.loseRange s a b).still = s.still := by
  simp [State.loseRange]
@[simp] theorem State.ledgerRefresh_still (s : State) : (State.ledgerRefresh s).still = s.still := by
  simp [State.ledgerRefresh]
@[simp] theorem State.startEpoch_still (s : State) : (State.startEpoch s).still = s.still := by simp [State.startEpoch]
@[simp] theorem State.showNoAddress_still (s : State) : (State.showNoAddress s).still = s.still := by rfl
@[simp] theorem State.judgeShares_still (s : State) : (State.judgeShares s).still = s.still := by
  simp [State.judgeShares]
@[simp] theorem State.loanEvent_still (s : State) (ev a i : Nat) : (State.loanEvent s ev a i).still = s.still := by rfl
@[simp] theorem State.lendStep_still (s : State) : (State.lendStep s).still = s.still := by
  unfold State.lendStep; split <;> simp
@[simp] theorem State.lenderHears_still (s : State) (b x : Nat) : (State.lenderHears s b x).still = s.still := by
  simp only [State.lenderHears]; (repeat' split) <;> simp
@[simp] theorem State.dropLoan_still (s : State) (l : Nat) : (State.dropLoan s l).still = s.still := by
  simp [State.dropLoan]
@[simp] theorem State.borrowerHears_still (s : State) (l x : Nat) : (State.borrowerHears s l x).still = s.still := by
  simp [State.borrowerHears]
@[simp] theorem State.countUse_still (s : State) (n : Nat) : (State.countUse s n).still = s.still := by rfl
@[simp] theorem State.arbiterEnter_still (s : State) : (State.arbiterEnter s).still = s.still := by rfl
@[simp] theorem State.turnOff_still (s : State) (sig : Nat) : (State.turnOff s sig).still = s.still := by
  unfold State.turnOff; split <;> simp
@[simp] theorem State.asOwned_still (s : State) (sig : Nat) : (State.asOwned s sig).still = s.still := by
  simp [State.asOwned]
@[simp] theorem State.switchOutputs_still (s : State) (old : State) : (State.switchOutputs s old).still = s.still := by
  simp [State.switchOutputs]
@[simp] theorem State.resetNodes_still (s : State) (ch : List Nat) : (State.resetNodes s ch).still = s.still := by
  simp [State.resetNodes]
@[simp] theorem State.switchMatrix_still (s : State) (p : Nat) (on : Bool) : (State.switchMatrix s p on).still = s.still := by
  simp [State.switchMatrix]
@[simp] theorem State.stopLighting_still (s : State) : (State.stopLighting s).still = s.still := by
  simp [State.stopLighting]
@[simp] theorem State.parkOutputs_still (s : State) : (State.parkOutputs s).still = s.still := by
  simp [State.parkOutputs]
@[simp] theorem State.parkArbiter_still (s : State) : (State.parkArbiter s).still = s.still := by rfl
@[simp] theorem State.parkFault_still (s : State) (sig : Nat) : (State.parkFault s sig).still = s.still := by
  unfold State.parkFault; split <;> simp
@[simp] theorem State.rejectArea_still (s : State) (a cause : Nat) : (State.rejectArea s a cause).still = s.still := by
  rfl
@[simp] theorem State.countBlocks_still (s : State) (a : Nat) : (State.countBlocks s a).still = s.still := by
  simp [State.countBlocks]
@[simp] theorem State.nodeSwitches_still (s : State) (p pos : Nat) : (State.nodeSwitches s p pos).still = s.still := by
  rfl
@[simp] theorem State.setTile_still (s : State) (q t v : Nat) : (State.setTile s q t v).still = s.still := by rfl
@[simp] theorem State.showFaults_still (s : State) : (State.showFaults s).still = s.still := by simp [State.showFaults]
@[simp] theorem State.spareGone_still (s : State) (q : Nat) : (State.spareGone s q).still = s.still := by
  simp [State.spareGone]
@[simp] theorem State.retire_still (s : State) (q t : Nat) : (State.retire s q t).still = s.still := by rfl
@[simp] theorem State.loseBuffer_still (s : State) : (State.loseBuffer s).still = s.still := by
  unfold State.loseBuffer; split <;> simp
@[simp] theorem State.phaseFails_still (s : State) (n : Nat) : (State.phaseFails s n).still = s.still := by
  simp [State.phaseFails]
@[simp] theorem State.standbyFails_still (s : State) (q t : Nat) : (State.standbyFails s q t).still = s.still := by
  simp [State.standbyFails]
@[simp] theorem State.showLanes_still (s : State) : (State.showLanes s).still = s.still := by simp [State.showLanes]
@[simp] theorem State.checkStrike_still (s : State) : (State.checkStrike s).still = s.still := by
  unfold State.checkStrike; split <;> simp
@[simp] theorem State.startWindows_still (s : State) : (State.startWindows s).still = s.still := by
  unfold State.startWindows
  exact forRange_still _ _ _ fun s a => by (repeat' split) <;> rfl
@[simp] theorem State.showStrike_still (s : State) : (State.showStrike s).still = s.still := by rfl
@[simp] theorem State.afterRead_still (s : State) (ix sub : Nat) : (State.afterRead s ix sub).still = s.still := by
  simp [State.afterRead]

end Sys2Proof.Machine
end

