-- ==== Sys2Proof/Tests/Slice0.lean ====
section
/-!
SUPPORT. The model's own tests: ill-formed commands that `Instr.wf` refuses, single commands with results worked out by hand from
the rules, and for each statement with hypotheses a witness: concrete states and operands that meet the hypotheses of its clauses
(`witness_<statement>`), each conjunct those of one clause.
-/

namespace Sys2Proof.Tests
open Sys2Proof Sys2Proof.Machine

/-! ## Small states -/

/-- A session of the role Maker under handle 1. -/
def maker : Session := { handle := 1, role := .maker, hostId := 1, key := 0, opened := 0, last := 0 }
/-- A session of the role Host under handle 2. -/
def host : Session := { handle := 2, role := .host, hostId := 1, key := 0, opened := 0, last := 0 }
/-- Hoisted, 200 s after the start, with the configuration at its defaults and one session open. -/
def running : State :=
  { State.reset with
    tb := { State.reset.tb with pllLocked := true, count := sec 200 }
    boot := { State.reset.boot with stage := .applied, sweeps := true }
    hoist := { State.reset.hoist with flyReset := false, powerUp := false }
    sessions := [maker] }
/-- A state with an object at a value. -/
def withOb (s : State) (k v : Nat) : State := s.setOb k v
/-- A state with a committed object at a value. -/
def withCf (s : State) (k v : Nat) : State := { s with cfg := s.cfg.write (objDefault k) k v }
/-- A state with objects at values, and one with committed objects at values. -/
def withObs (s : State) (l : List (Nat × Nat)) : State := l.foldl (fun s e => withOb s e.1 e.2) s
def withCfs (s : State) (l : List (Nat × Nat)) : State := l.foldl (fun s e => withCf s e.1 e.2) s
/-- Dipped: the runtime cores sleep. -/
def dipped : State := withOb running Obj.pwrState pwrDipped
/-- `running` with sweeps. -/
def sweeping : State := withOb running Obj.engineState 1
/-- `running` with an unanswered session of role Host. -/
def hostOnly : State := { running with sessions := [host] }
/-- A request that waits. -/
def waits : Request := { transaction := 1, payload := [] }
/-- `running` on a live halyard, with the confirmed address 1 and without a chain key. -/
def linked : State :=
  withCf (withOb (withOb (withOb running Obj.unitAddress 1) Obj.addrState 2) Obj.linkStatus 3) Obj.chainKeySlot 0xFF
/-- The header of a chain frame of address `a` that is newer than any. -/
def chain (a : Fin 17) : ChainHeader := { address := a, fresh := 1, mac := 0 }

/-! ## Ill-formed commands -/

/-- An octet string of a length. -/
def octets (n : Nat) : List Byte := List.replicate n 0

theorem test_wf_refuses_session : (Instr.commit 0x10000).wf = false ∧ (Instr.commit 0xFFFF).wf = true := by decide
theorem test_wf_refuses_request_frame :
    (Instr.dictRequestFrame (octets 1485)).wf = false ∧ (Instr.dictRequestFrame (octets 1484)).wf = true := by decide +kernel
theorem test_wf_refuses_write_data :
    (Instr.dictWrite 1 0 0 (octets 65536)).wf = false ∧ (Instr.stageWrite 1 0 0 (octets 65536)).wf = false := by decide +kernel
theorem test_wf_refuses_expedited_data :
    (Instr.sdoExpeditedDownload 0 0 0 []).wf = false ∧ (Instr.sdoExpeditedDownload 0 0 0 (octets 5)).wf = false ∧
    (Instr.sdoExpeditedDownload 0 0 0 (octets 4)).wf = true := by decide
theorem test_wf_refuses_sdo_segment :
    (Instr.sdoSegmentedDownload 0 (.segment false false (octets 8))).wf = false ∧
    (Instr.sdoSegmentedUpload 0 (.segment false false (octets 7))).wf = true := by decide
theorem test_wf_refuses_sdo_block :
    (Instr.sdoBlockDownload 0 (.segment 0 false (octets 7))).wf = false ∧ (Instr.sdoBlockUpload 0 (.ack 127 128)).wf = false ∧
    (Instr.sdoBlockDownload 0 (.segment 127 false (octets 7))).wf = true := by decide
theorem test_wf_refuses_can_frame :
    let f : CanFrame := { ext := false, id := 0x7FF, fdf := false, brs := false, esi := false, rtr := false, dlc := 9, data := octets 8 }
    (Instr.canFrameReceived 0 f 0).wf = true ∧ (Instr.canFrameReceived 0 { f with id := 0x800 } 0).wf = false ∧
    (Instr.canFrameReceived 0 { f with brs := true } 0).wf = false ∧ (Instr.canFrameReceived 0 { f with rtr := true } 0).wf = false ∧
    (Instr.selectiveWakeFrame 0 { f with data := octets 12 }).wf = false ∧
    (Instr.canFrameReceived 0 { f with fdf := true, data := octets 12 } 0).wf = true := by decide
theorem test_wf_refuses_map_data : (Instr.piRxFrame 0 1 0 (octets 1025) 0).wf = false := by decide +kernel
theorem test_wf_refuses_capabilities (r : CapabilityRecord) (h : 255 < r.capIds.length) :
    (Instr.capabilityResponse { address := 2, fresh := 1, mac := 0 } r).wf = false := by simpa [Instr.wf] using h
theorem test_wf_refuses_discovery :
    (Instr.bpDiscovery 0 { counts := [none], roundTrip := 0, capabilities := [], versions := [] }).wf = false := by decide
theorem test_wf_refuses_replies :
    (Instr.bpFrame 0 none 0 ⟨List.replicate 17 { slot := 0, ok := true, node := 0, rtype := 1, data := 0 }, []⟩).wf = false := by decide
theorem test_wf_refuses_joined_balls :
    (Instr.nbBallTest 0 [1, 1]).wf = false ∧ (Instr.nbOnlineTest 0 [0, 1, 2, 3, 4, 5, 6, 7, 8]).wf = false := by decide
theorem test_wf_refuses_skew : (Instr.skewCheck 0 [0, 0] [0, 0, 0, 0]).wf = false := by decide

/-! ## Witnesses: the block, requests, the dictionary -/

theorem witness_StepRunsTheFrontCommand : step { running with pending := [.pllLockTimeout] } = .next running := by rfl

theorem witness_IdleStepsAndWordsDoNothingElse :
    running.pending = [] ∧ running.tb.pllLocked = true ∧ running.tb.lfMode = false ∧ State.reset.tb.pllLocked = false ∧
    (let s := { withCf (withCf running (Obj.tachEnable 3) 1) (Obj.tachLo 3) 1 with tach := [(3, { armLo := true, fresh := false })] }
     s.awake = true ∧ s.cf (Obj.tachEnable 3) = 1 ∧ (s.tachCh 3).fresh = false ∧ (s.tachCh 3).armLo = true ∧
     s.tachFreqNow 3 < s.cf (Obj.tachLo 3)) := by
  decide

theorem witness_ConfigurationStaysCanonical :
    State.reset.ConfigCanonical ∧ ∃ t, step running = .next t :=
  ⟨⟨rfl, nofun, nofun, nofun, nofun⟩, _, rfl⟩

theorem witness_ConfigurationStaysInRange :
    State.reset.ConfigFits ∧ ∃ t, step running = .next t :=
  ⟨⟨rfl, nofun, nofun, nofun⟩, _, rfl⟩

theorem witness_RequestsAreGuarded :
    State.takesRequests { running with secure := { running.secure with haltedAt := some 0 } } = false ∧
    running.takesRequests = true ∧ running.session? 2 = none ∧
    dipped.takesRequests = true ∧ dipped.session? 1 = some maker ∧ dipped.coresRun = false ∧
    maker.queue.length < 16 ∧ ({ maker with queue := List.replicate 15 waits } : Session).queue.length < 16 ∧
    16 ≤ ({ maker with queue := List.replicate 16 waits } : Session).queue.length ∧
    hostOnly.coresRun = true ∧ hostOnly.session? 2 = some host ∧ host.role.rank < Role.service.rank := by
  decide

theorem witness_ClocksAndDieLinkDoAsStated :
    running.flyRuns = true ∧ (running.lane 0).failed = false ∧
    (0 : BitVec 32).toNat < ({ next := 1 } : LinkDir).next ∧ running.link.toFly = { next := (0 : BitVec 32).toNat } ∧
    running.link.toHoist = { next := (0 : BitVec 32).toNat } ∧ running.tb.pllLocked = true ∧ running.hoist.safe = false ∧
    running.cf Obj.laneReturn = 1 ∧
    (∀ n ∈ [0, 14, 15], let s := running.setLane 1 { failed := true, passes := n }
      (s.lane 1).failed = true ∧ (s.lane 1).heldOut = false ∧ s.passed (s.lane 1).lastTest (sec 1) = true) ∧
    ({ running with boot := { running.boot with stage := .pllWait } } : State).boot.stage = .pllWait ∧
    ({ running with tb := { running.tb with lfMode := true } } : State).tb.lfMode = true := by
  decide

theorem witness_ReadsAndWritesAreCheckedInOrder :
    running.Serves 1 .host maker ∧ descOf (key 0x0FFF 0) = none ∧ descOf (key 0x1000 0) ≠ none ∧ descOf (key 0x1000 13) = none ∧
    (∃ d, descOf (key 0x10F0 1) = some d ∧ d.access = .wo) ∧
    (∃ d, descOf (key 0xA100 1) = some d ∧ d.access ≠ .wo ∧ host.role.rank < d.readRole.rank) ∧
    (∃ d, descOf (key 0x6101 3) = some d ∧ d.access ≠ .wo ∧ d.readRole.rank ≤ maker.role.rank ∧ d.ty = .domain) ∧
    (∃ d, descOf (key 0x1000 1) = some d ∧ d.access = .ro) ∧
    (∃ d, descOf (key 0xA000 2) = some d ∧ d.access ≠ .ro ∧ host.role.rank < d.role.rank) ∧
    (∃ d, descOf (key 0xA000 2) = some d ∧ d.access ≠ .ro ∧ d.role.rank ≤ maker.role.rank ∧ d.ty ≠ .domain ∧ d.ty.size = 2 ∧
      State.rangeOk d 9 = false ∧ State.rangeOk d 10 = true ∧ State.rangeOk d 3600 = true ∧ State.rangeOk d 3601 = false) := by
  refine ⟨by unfold State.Serves; decide, by decide, by decide, by decide, ⟨_, rfl, by decide⟩, ⟨_, rfl, by decide⟩,
    ⟨_, rfl, by decide⟩, ⟨_, rfl, by decide⟩, ⟨_, rfl, by decide⟩, ⟨_, rfl, by decide⟩⟩

theorem witness_CommandsLeaveTheQueueAlone : ∃ t, exec .recordsLost running = .next t := ⟨_, rfl⟩

/-- A commit of one value that has been accepted. -/
def accepted (k v : Nat) : CommitJob :=
  { serial := 1, session := 1, role := .maker, hostId := 1, set := [{ key := k, value := v, first := 0 }], accepted := 0 }

theorem witness_DictionaryCommandsDoAsStated :
    running.Serves 1 .host maker ∧
    (∃ d, descOf (key 0x1000 1) = some d ∧ d.access ≠ .wo ∧ d.readRole.rank ≤ maker.role.rank ∧ d.ty ≠ .domain) ∧
    (running.applied = true ∧ running.session? 2 = none ∧ ∃ d, descOf (key 0x1000 0) = some d ∧
      ∀ b, b ≤ d.dflt → ∃ e, descOf (key 0x1000 b) = some e ∧ e.access ≠ .wo ∧ e.readRole = .host ∧ e.ty ≠ .domain) ∧
    (∃ d, State.readable .maker 0x6103 3 = .ok d ∧ d.ty = .domain) ∧
    (running.asked maker).heldByOther 0x3201 1 = false ∧
    (∃ d, State.writable (running.asked maker) .maker 0xA000 2 2 10 = .ok d ∧ d.kind = .cfg) ∧
    (running.asked maker).pendingUsed + State.pendingBytes (key 0xA000 2) ≤ 512 * 1024 ∧
    State.sigAllowed .adq 0 = true ∧
    (∃ d e, State.domainAt 0x6103 = .ok d ∧ (running.asked maker).writable .maker 0x6103 2 8 0 = .ok e ∧ e.kind = .cmd) ∧
    (let s := { running with holds := [(0x23201, { holder := 1, lastWrite := sec 100 })] }
     Table.rises 0 s.holds = true ∧ s.holds.get? (State.holdKey 0x3201 1) = some { holder := 1, lastWrite := sec 100 } ∧
     s.passed (sec 100) (sec 10) = true) ∧
    (let s := { running with holds := [(0x6103, { holder := 1, lastWrite := sec 190 })] }
     Table.rises 0 s.holds = true ∧ s.holds.get? 0x6103 = some { holder := 1, lastWrite := sec 190 } ∧
     s.passed (sec 190) (sec 10) = true) ∧
    linked.halyardServes = true ∧ (linked.runPayload 0 0 []).1.session? 0 = none ∧ linked.session? 2 = none := by
  refine ⟨by unfold State.Serves; decide, ⟨_, rfl, by decide⟩, ⟨by decide, by decide, _, rfl, fun b hb => ?_⟩, ⟨_, rfl, by decide⟩,
    by decide, ⟨_, rfl, by decide⟩, by decide, by decide, ⟨_, _, rfl, rfl, by decide⟩, by decide, by decide, by decide, by decide,
    by decide⟩
  have h : b ≤ 12 := hb
  interval_cases b <;> exact ⟨_, rfl, by decide⟩

theorem witness_CommitsDoAsStated :
    running.Serves 1 .host maker ∧ maker.pendingSet.any ((running.asked maker).inConflict 1) = false ∧
    (let s := { running with marks := [(0xA00002, { serial := 1, by_ := 2 })] }
     let x := { maker with pendingSet := [{ key := 0xA00002, value := 10, first := 0 }] }
     x.pendingSet.any ((s.asked x).inConflict 1) = true) ∧
    (let s := { running with commits := [accepted 0xA00002 10] }
     s.nextCommit = some ([], accepted 0xA00002 10, []) ∧ s.mayApply = true ∧ s.upd.migrated = none ∧
     s.failObject (State.withSet s.cfg (accepted 0xA00002 10).set) = none) ∧
    (let s := { running with commits := [accepted (Obj.gdMode 0) 3] }
     s.nextCommit = some ([], accepted (Obj.gdMode 0) 3, []) ∧
     s.failObject (State.withSet s.cfg (accepted (Obj.gdMode 0) 3).set) = some (Obj.gdMode 0) ∧
     s.session? 1 = some maker) ∧
    ({ accepted 0xA00002 10 with generation := some 1 } : CommitJob).generation = some 1 := by
  refine ⟨by unfold State.Serves; decide, by decide, by decide, ⟨rfl, by decide, rfl, ?_⟩, ⟨rfl, ?_, by decide⟩, rfl⟩
  · decide +kernel
  · decide +kernel

/-- `running` with CAN channel 0 on its bus in mode 1. -/
def onBus : State :=
  { withCf (withOb running (Obj.domainOn 3) 1) (Obj.canMode 0) 1 with can := [(0, { joinedAt := some 0 })] }
/-- The same with a running SDO transfer. -/
def transferring (r : SdoTransfer) : State := { onBus with sdo := [(0, { transfer := some r })] }

theorem witness_SdoServersDoAsStated :
    onBus.sdoRuns 0 = true ∧ onBus.coresRun = true ∧
    (∃ d, descOf (key 0x1000 3) = some d ∧ d.ty.size ≤ 4 ∧ d.access ≠ .wo ∧ d.readRole = .host ∧ d.ty ≠ .domain) ∧
    (let r : SdoTransfer := { service := .segDownload, key := 0x220001, size := some 14 }
     (transferring r).sdoRuns 0 = true ∧ ((transferring r).sdoOf 0).transfer = some r ∧
     State.sdoFits r (r.data.length + [0, 0, 0, 0, 0, 0, 0].length) = true) ∧
    (let r : SdoTransfer := { service := .segUpload, key := 0x220001, data := [1, 2, 3, 4, 5, 6, 7, 8] }
     (transferring r).sdoRuns 0 = true ∧ ((transferring r).sdoOf 0).transfer = some r ∧ 7 < r.data.length) ∧
    (let r : SdoTransfer := { service := .blkDownload, key := 0x220001, seqno := 125 }
     (transferring r).sdoRuns 0 = true ∧ ((transferring r).sdoOf 0).transfer = some r ∧ (126 : BitVec 8).toNat = r.seqno + 1 ∧
     (126 : BitVec 8).toNat < 127) ∧
    (let r : SdoTransfer := { service := .blkUpload, key := 0x220001, data := [1], seqno := 127, lastFrame := sec 199 }
     (transferring r).sdoRuns 0 = true ∧ ((transferring r).sdoOf 0).transfer = some r ∧ (0 : BitVec 8).toNat ≤ r.seqno ∧
     7 * (0 : BitVec 8).toNat < r.data.length ∧ (transferring r).passed r.lastFrame (sec 1) = true) := by
  refine ⟨by decide, by decide, ⟨_, rfl, by decide⟩, ?_⟩
  decide

/-- `linked` with process-image map 0 in a direction, bound to session 1. -/
def mapped (dir : Nat) : State :=
  withOb (withOb (withCf (withCf linked (Obj.piEnable 0) 1) (Obj.piDirection 0) dir) (Obj.piStatus 0) 0x80) (Obj.piSession 0) 1

/-- What session 1 sends in an RX frame of map 0: the header and no value. -/
def rxFrame : List Byte := [0, 0, 0, 0, 0, 0, 0, 0, 0, 0]

theorem witness_ProcessImagesDoAsStated :
    (let s := withOb (mapped 0) Obj.engineState 1
     let d := rxFrame.map (fun a => a.toNat)
     s.mapRuns 0 0 = true ∧ s.halyardServes = true ∧ s.cf (Obj.piPath 0) = 0 ∧ s.sweepsRun = true ∧ s.pathOn 0 = true ∧
     s.session? (s.ob (Obj.piSession 0)) = some maker ∧ (s.mapOf 0).rxFresh < (1 : BitVec 32).toNat ∧
     toBytes 16 (Config.cmac maker.key (s.mapMacInput 1 0 1 1 d)).toNat =
       toBytes 16 (Config.cmac maker.key (s.mapMacInput 1 0 maker.handle (1 : BitVec 32).toNat d)).toNat ∧
     rxFrame.length = 10 + ceilDiv (s.mapBits 0) 8 ∧ d.take 2 = [0, 0] ∧ ofBytes (d.drop 10) / 2 ^ s.mapBits 0 = 0) ∧
    ((mapped 0).mapRuns 0 0 = true ∧ (0 : BitVec 32).toNat ≤ ((mapped 0).mapOf 0).rxFresh) ∧
    (let s := mapped 1
     s.mapRuns 0 1 = true ∧ (!s.sweepsRun || s.eng.segment = 0) = true ∧ s.mapDue 0 = true ∧ s.cf (Obj.piAuth 0) = 0 ∧
     (s.mapOf 0).txFresh + 1 < 2 ^ 32 ∧ s.hal.txQueue = [] ∧ s.halyardTalks = true ∧
     s.halMay (s.mapHalFrame 0 (s.mapSample 0) ((s.mapOf 0).txFresh + 1)) = true) ∧
    (let s := withOb (mapped 1) Obj.linkStatus 0
     s.halyardTalks = true ∧ s.halMay (s.mapHalFrame 0 (s.mapSample 0) ((s.mapOf 0).txFresh + 1)) = false) ∧
    (let s := withCf (mapped 0) (Obj.piTimeout 0) 1
     s.mapRuns 0 0 = true ∧ s.cf (Obj.piTimeout 0) ≠ 0 ∧
     s.passed (max (s.mapOf 0).last s.boot.appliedAt) (ms (s.cf (Obj.piTimeout 0))) = true) := by
  refine ⟨⟨by decide, by decide, by decide, by decide, by decide, by decide, by decide, rfl, by decide, by decide, by decide⟩,
    by decide, by decide, by decide, by decide⟩

/-! ## Witnesses: the halyard -/

/-- `linked` with entry 2 of the registry in a state. -/
def met (st : Nat) (p : Partner) : State := (withOb linked (Obj.ptState 2) st).setPartner 2 p
/-- A presence frame of address `a`. -/
def presence (a : Fin 17) (st : BitVec 8) (tag : BitVec 32) : ChainPresence :=
  { header := chain a, addrState := st, idTag := tag, capDigest := 0, budget := 0 }
/-- The bytes that its MAC covers. -/
def presenceOf (f : ChainPresence) : List Nat :=
  State.presenceBytes f.header.address f.addrState.toNat f.header.fresh.toNat f.idTag.toNat f.capDigest.toNat f.budget.toNat
/-- A capability response of a part. -/
def aPart : CapabilityRecord :=
  { serial := 7, stepping := 0, grade := 1, mast := 0, ensign := 0, hoist := 0, node := 0, epoch := 1, schema := 1, capIds := []
    maxShare := 0 }
/-- An occurrence to notify. -/
def anEvent : Occ := ⟨0, 16, 0⟩

theorem witness_AddressesLinkAndRegistryDoAsStated_own :
    (linked.boot.stage ≠ .off ∧ linked.address ≠ 0 ∧ linked.ob Obj.pwrState ≠ pwrFurled ∧ linked.hal.addrTaken = false) ∧
    (let s := { linked with hal := { linked.hal with addrTaken := true } }
     s.hal.addrTaken = true ∧ s.address ≠ 0 ∧ 1 ≠ s.ob Obj.addrInCode ∧ 255 ≠ s.ob Obj.addrInCode) ∧
    (linked.ob Obj.storedAddress = 0 ∧ ({ linked.hal with lastBurst := 17 } : Halyard).lastBurst ≠ 0) ∧
    (let s := withOb linked Obj.storedAddress 16
     s.hal.addrTaken = false ∧ s.hal.lastBurst = 0 ∧ s.ob Obj.storedAddress ≠ 0) ∧
    (let s := withOb linked Obj.addrState 1
     s.ob Obj.addrState = 1 ∧ (1 : BitVec 8).toNat = s.address) ∧
    (running.address = 0 ∧ running.applied = true) ∧ (linked.halyardTalks = true ∧ linked.hal.txQueue = []) ∧
    (linked.halyardHears = true ∧ linked.bit Obj.linkStatus 1 = true ∧ linked.bit Obj.linkStatus 0 = !false) ∧
    (let g := linked.chainFrame .presence []
     let s := { linked with hal := { linked.hal with txQueue := [g] } }
     s.halyardHears = true ∧ s.hal.txQueue = [g] ∧ (s.setBit Obj.linkStatus 1 true).halMay g = true) ∧
    (let s := { linked with hal := { linked.hal with notices := [anEvent] }, sessions := [] }
     s.hal.notices = [anEvent] ∧ s.noticeSession = none ∧
     s.halMay (s.dictFrame .notice s.toHost (State.frameBytes 4 0 0 0 (State.noticeBytes anEvent))) = true) ∧
    (let s := { linked with hal := { linked.hal with notices := [anEvent] } }
     let b := State.frameBytes 4 0 maker.handle 1 (State.noticeBytes anEvent)
     s.noticeSession = some maker ∧ State.nextFresh maker 0 = some 1 ∧
     s.halMay (s.dictFrame .notice s.toHost (b ++ toBytes 16 (Config.cmac maker.key (2 :: 0 :: b)).toNat)) = true) := by
  decide

theorem witness_AddressesLinkAndRegistryDoAsStated_partners :
    (let f := presence 2 1 5
     linked.halyardHears = true ∧ f.header.address.val ≠ 0 ∧ f.header.fresh.toNat ≤ ((met 0 { fresh := 1 }).partner 2).fresh) ∧
    (∀ st ∈ [1, 2], let f := presence 2 st 5
     f.header.address.val ≠ linked.address ∧ linked.chainAccepted f.header (presenceOf f) = true ∧ linked.ob (Obj.ptState 2) = 0) ∧
    (let s := met 2 { idTag := 5 }
     s.chainAccepted (chain 2) (presenceOf (presence 2 2 5)) = true ∧ s.chainAccepted (chain 2) (presenceOf (presence 2 2 6)) = true ∧
     s.ob (Obj.ptState 2) = 2 ∧ (s.partner 2).idTag = 5) ∧
    (let f := presence 2 2 5
     let s := met 3 { pendingTag := some 5 }
     s.chainAccepted f.header (presenceOf f) = true ∧ s.ob (Obj.ptState 2) = 3 ∧ (s.partner 2).pendingTag = some f.idTag.toNat) ∧
    (let f := presence 1 2 5
     f.header.address.val = linked.address ∧ linked.chainAccepted f.header (presenceOf f) = true ∧
     f.idTag.toNat ≠ 2960955156 ∧ linked.ob Obj.addrState ≠ 3) ∧
    (let f := presence 1 2 2960955156
     linked.chainAccepted f.header (presenceOf f) = true ∧ f.idTag.toNat = 2960955156) ∧
    State.identityTag Part.serial = 2960955156 :=
  ⟨by decide, by decide, by decide +kernel, by decide, by decide, by decide, by decide +kernel⟩

theorem witness_AddressesLinkAndRegistryDoAsStated_registry :
    (∀ st ∈ [1, 3], let s := withOb (met st {}) (Obj.ptLastSeen 2) (sec 100)
     s.halyardHears = true ∧ (2 : Fin 17).val ≠ s.address ∧ s.ob (Obj.ptState 2) = st ∧
     s.passed (s.ob (Obj.ptLastSeen 2)) (ms (10 * s.cf Obj.presenceTimeout)) = true) ∧
    (linked.halyardTalks = true ∧ linked.hal.txQueue = [] ∧ (1 : Fin 17).val = linked.address ∧
     linked.chainAccepted (chain 2) (State.capabilityBytes 2 2 1 [1]) = true) ∧
    (linked.ob (Obj.ptState 2) ≠ 1 ∧
     linked.chainAccepted (chain 2) (State.capabilityBytes 3 2 1 (State.capabilityContent aPart)) = true) ∧
    (let s := met 1 { idTag := 2542556914 }
     s.ob (Obj.ptState 2) = 1 ∧ State.identityTag aPart.serial.toNat = 2542556914 ∧ (s.partner 2).idTag = 2542556914 ∧
     s.chainAccepted (chain 2) (State.capabilityBytes 3 2 1 (State.capabilityContent aPart)) = true) ∧
    (∀ n ∈ [3, 4], let s := met 3 { capTries := n, capAsked := some (sec 199) }
     s.halyardHears = true ∧ (s.partner 2).capAsked = some (sec 199) ∧ s.passed (sec 199) (ms 100) = true ∧
     s.halyardTalks = true ∧ s.hal.txQueue = []) ∧
    (let s := withOb (met 3 { capTries := 3, capAsked := some (sec 199) }) Obj.addrState 0
     s.halyardHears = true ∧ s.halyardTalks = false) := 
  ⟨by decide +kernel, by decide +kernel, by decide +kernel, by decide +kernel, by decide +kernel, by decide +kernel⟩

/-- `linked` with time synchronisation, and a Sync received at a tick. -/
def synced (st : Nat) (last : Option Tick) : State :=
  let s := withOb (withCf linked Obj.syncEnable 1) Obj.syncState st
  { s with hal := { s.hal with lastSync := last, syncInterval := sec 1 } }

theorem witness_SyncStateMovesAsTheTableSays :
    ((-6 : BitVec 8).toInt < -5 ∧ 0 < (1 : BitVec 8).toInt ∧ -5 ≤ (-5 : BitVec 8).toInt ∧ (0 : BitVec 8).toInt ≤ 0) ∧
    (∀ st ∈ [0, 1, 2, 3], (synced st none).syncRuns = true ∧ (synced st none).ob Obj.syncState = st ∧
     (0 : BitVec 64).toNat ≤ (synced st none).now ∧
     (let off (o : BitVec 64) : Int := ((o.toNat + (synced st none).ob Obj.pathDelay : Nat) : Int) - (synced st none).htimeAt 0
      off 0 = 0 ∧ off 500 = 500 ∧ off 501 = 501)) ∧
    (∀ n ∈ [6, 7], ({ (synced 1 none).hal with goodSyncs := n } : Halyard).goodSyncs = n) ∧
    ((synced 2 (some (sec 197))).passed (sec 197) (3 * (synced 2 (some (sec 197))).hal.syncInterval) = true) ∧
    (let s := synced 3 (some 0)
     s.hal.lastSync = some 0 ∧ s.ob Obj.syncState = 3 ∧ s.passed 0 (ms (s.cf Obj.holdoverLimit)) = true) := by
  decide

theorem witness_PathDelayIsMeasured :
    (synced 0 none).syncRuns = true ∧
    (let s := synced 0 none
     s.halMay { use := .time, dest := State.toTime, source := s.unitMac, etherType := 0x88F7
                body := toBytes 54 (Config.unmeasured 0x88F7 s.now) } = true) ∧
    (∀ t, (synced 0 none).hal.pdelaySent = some t → (synced 0 none).passed t (ms ((synced 0 none).cf Obj.pdelayInterval)) = true) ∧
    (let s := { synced 0 none with hal := { (synced 0 none).hal with pdelaySent := some 5 } }
     s.syncRuns = true ∧ s.hal.pdelaySent = some 5 ∧ 5 ≤ (6 : BitVec 64).toNat ∧ (0 : BitVec 64).toNat ≤ (10 : BitVec 64).toNat ∧
     (10 : BitVec 64).toNat - (0 : BitVec 64).toNat ≤ 10 * ((6 : BitVec 64).toNat - 5)) := by
  refine ⟨by decide, by decide, nofun, by decide⟩

/-! ## Witnesses: ownership, the supervisor, sweeps, admission -/

/-- GD channel 0 drives its gate: high side, on at once, commanded on by the host. -/
def gateOn : State :=
  let s := withOb (withCf running (Obj.gdMode 0) 1) (Obj.gdAppliedValue 0) 10000
  { s with own := { s.own with
      slots := [(mkSig clsGD 0, { h := some ⟨10000, 0xFFFE, 0, 1⟩ })]
      commanded := [(mkSig clsGD 0, 10000)], ownerClass := [(mkSig clsGD 0, 2)] } }

theorem witness_ClaimSlotsAreIndependent : Cls.h ≠ .safe ∧ ((mkSig clsGD 1, Cls.h) ≠ (mkSig clsGD 0, .h)) := by decide

theorem witness_HighestOccupiedSlotOwns :
    gateOn.ownerOf (mkSig clsGD 0) = some (.h, ⟨10000, 0xFFFE, 0, 1⟩) ∧ running.ownerOf (mkSig clsGD 0) = none ∧
    Cls.a ∈ [Cls.s, .safe, .h, .a, .c].takeWhile (fun y => y ≠ .c) := by
  decide

theorem witness_HostCommandsWaitForTheSegment :
    running.Serves 1 .host maker ∧ (gateOn.asked maker).claimable (mkSig clsGD 0) 10000 = true ∧
    sigOwned (mkSig clsGD 0) = true ∧ sigOwned (mkSig clsDIN 0) = false ∧ maker.role ≠ .host ∧ host.role = .host ∧
    hostOnly.Serves 2 .host host := by
  refine ⟨by unfold State.Serves; decide, by decide, by decide, by decide, by decide, rfl, by unfold State.Serves; decide⟩

theorem witness_HeartbeatMovesTheSupervisor :
    running.Serves 1 .host maker ∧
    ({ running with hb := { accepted := some 7 } } : State).hb.accepted = some (7 : BitVec 16).toNat ∧
    running.hb.accepted ≠ some (7 : BitVec 16).toNat ∧
    (∀ st ∈ [hbResumed, hbAlive], (withOb sweeping Obj.hbState st).heartbeatDue = true ∧
      (withOb sweeping Obj.hbState st).sweepsRun = true ∧ (withOb running Obj.hbState st).ob Obj.hbState = st) ∧
    (∀ st ∈ [hbWaiting, hbLost], (withOb running Obj.hbState st).ob Obj.hbState = st) ∧ (0 : BitVec 8) ≠ 0xA5 := by
  refine ⟨by unfold State.Serves; decide, by decide, by decide, by decide, by decide, by decide⟩

/-- Two enabled rules, in segments 0 and 3. -/
def twoRules : State := withCf (withCf sweeping (Obj.ruleEntry 0) (2 ^ 63)) (Obj.ruleEntry 384) (2 ^ 63)

theorem witness_SegmentsMakeASweep :
    sweeping.sweepsRun = true ∧ sweeping.eng.segment = 0 ∧ sweeping.hb.enters = false ∧
    ({ sweeping with hb := { enters := true } } : State).hb.enters = true ∧
    sweeping.moreSegments (sweeping.segmentFrom sweeping.eng.segment) = false ∧ sweeping.eng.lanesAgreed = true ∧
    (∀ u, sweeping.ft.unresolved = some u → u / 16 ≠ sweeping.ob Obj.sweepCount) ∧
    twoRules.moreSegments (twoRules.segmentFrom 0) = true ∧ twoRules.moreSegments (twoRules.segmentFrom 1) = false := by
  refine ⟨by decide, by decide, by decide, by decide, by decide, by decide, nofun, by decide, by decide⟩

theorem witness_HoistWatchdogRestartsTheFlyDie :
    ({ running with hoist := { running.hoist with armed := true } } : State).watchdogDue = true ∧
    (∀ c ∈ [3, 4, 8], let s := { State.reset with boot := { stage := .flyReset, nextCause := c } }
     s.boot.stage = .flyReset ∧ (s.boot.nextCause = 3 ∨ s.boot.nextCause = 4 ∨ s.boot.nextCause = 8)) := by
  decide

/-- A request of class H for GD channel 1 that has waited since the start. -/
def aRequest : AdmRequest := { sig := mkSig clsGD 1, cls := 2, age := 0, value := 10000, prof := {} }
/-- `running` with sag levels, and GD channel 0 on in class C. -/
def sagging : State :=
  let s := withCf (withCf (withCf gateOn Obj.sagCLevel 20000) Obj.sagALevel 18000) Obj.sagHyst 500
  { s with own := { s.own with slots := [(mkSig clsGD 0, { c := some ⟨10000, 5, 0, 0⟩ })], ownerClass := [(mkSig clsGD 0, 4)] } }
/-- `running` as a lender whose borrower, unit 16, has gone. -/
def lender : State := { running with arb := { running.arb with lent := 5, lendSent := 5, lendTo := 16 } }

theorem witness_AdmissionSagsAndLoansDoAsStated :
    (running.awake = true ∧ running.arb.sOver = false ∧ running.arb.refused = [] ∧
      (∀ r, running.arb.queue.head? = some r → running.admissible r = false)) ∧
    (let s := { running with arb := { running.arb with queue := [aRequest] } }
     aRequest ∈ s.arb.queue ∧ aRequest.warned = false ∧ s.passed aRequest.age (ms (s.cf Obj.waitWarn)) = true) ∧
    (sagging.cf Obj.sagCLevel ≠ 0 ∧ 19999 < sagging.cf Obj.sagCLevel ∧ sagging.arb.sagC = false ∧
      sagging.shedOf 4 = [mkSig clsGD 0]) ∧
    (sagging.cf Obj.sagALevel ≠ 0 ∧ 17999 < sagging.cf Obj.sagALevel ∧ sagging.arb.sagA = false) ∧
    (let s := { sagging with arb := { sagging.arb with sagC := true, sagA := true } }
     s.arb.sagC = true ∧ s.cf Obj.sagCLevel + s.cf Obj.sagHyst ≤ 20500 ∧ s.arb.sagA = true ∧
     s.cf Obj.sagALevel + s.cf Obj.sagHyst ≤ 18500) ∧
    (withOb running Obj.pwrState pwrHalfMast).awake = false ∧
    (withCf running Obj.sagCLevel 0).cf Obj.sagCLevel = 0 ∧ (withCf running Obj.sagALevel 0).cf Obj.sagALevel = 0 ∧
    (lender.arb.lendTo ≠ 0 ∧ lender.arb.frozen = false) ∧
    (let s := { lender with arb := { lender.arb with frozen := true } }
     s.session? 1 = some maker ∧ 1 ≤ (16 : BitVec 8).toNat ∧ (16 : BitVec 8).toNat ≤ 16 ∧ s.arb.frozen = true ∧
     s.arb.lendTo = (16 : BitVec 8).toNat ∧ ¬(s.arb.frozen = true ∧ s.arb.lendTo = (1 : BitVec 8).toNat) ∧
     16 < (17 : BitVec 8).toNat) := by
  refine ⟨⟨by decide, by decide, by decide, nofun⟩, by decide, by decide, by decide, by decide, by decide, by decide, by decide,
    by decide, by decide⟩

/-! ## Witnesses: gate drivers -/

/-- `gateOn` with a retry of two tries, of which `used` have been used. -/
def retrying (used : Nat) : State := withObs (withCfs gateOn [(Obj.gdRetryCount 0, 2)]) [(Obj.gdRetriesUsed 0, used)]

theorem witness_GateDriversTrip :
    (∀ used ∈ [1, 2], let s := retrying used
     s.gdIsOn 0 = true ∧ s.gdOver 0 60000 15000 24000 = true ∧ s.hoist.safe = false ∧
     s.cf (Obj.gdRetryCount (s.gdLead 0)) ≠ 255 ∧ s.ob (Obj.gdRetriesUsed (s.gdLead 0)) = used ∧
     s.cf (Obj.gdRetryCount (s.gdLead 0)) = 2) ∧
    gateOn.gdOver 0 1000000 0 24000 = true ∧ 10 * gateOn.cf (Obj.gdRampMax 0) < 10 * gateOn.cf (Obj.gdRampMax 0) + 1 ∧ 5 ≤ 5 := by
  decide

theorem witness_GateDriversAreWatched :
    (let s := withCfs running [(Obj.gdMode 22, 3), (Obj.gdMode 23, 4)]
     s.cf (Obj.gdMode (2 * (11 : Fin 12))) = 3 ∧ s.cf (Obj.gdMode (2 * (11 : Fin 12) + 1)) = 4) ∧
    (let s := { withCfs gateOn [(Obj.gdPwmPeriod 0, 10000), (Obj.gdSoftTime 0, 1)] with gd := [(0, { value := 10000, softK := 10 })] }
     (s.gdCh 0).softK ≠ 0 ∧ (s.gdCh 0).value ≤ s.softRamp 0 (s.gdCh 0).softK) ∧
    (let s := withCfs gateOn [(Obj.gdOlCurrent 0, 10)]
     s.cf (Obj.gdOlCurrent 0) ≠ 0 ∧ s.gdIsOn 0 = true ∧ s.bit (Obj.gdStatus 0) 13 = false ∧
     decide (s.gdDecide 0 (saturate 9 65535) < s.cf (Obj.gdOlCurrent 0)) = true ∧
     decide (s.gdDecide 0 (saturate 10 65535) < s.cf (Obj.gdOlCurrent 0)) = false ∧ (s.gdCh 0).openOn = false) ∧
    (∀ r ∈ [[2, 2], [3, 3], []],
     let s := { withCfs running [(Obj.gdMode 0, 1), (Obj.gdOffDiagEnable 0, 1)] with gd := [(0, { readings := r })] }
     s.awake = true ∧ s.cf (Obj.gdOffDiagEnable 0) = 1 ∧ s.cf (Obj.gdMode 0) ≠ 0 ∧ s.ob (Obj.gdAppliedValue 0) = 0 ∧
     s.hoist.safe = false ∧ s.passed (s.gdCh 0).lastDiag (ms (s.cf (Obj.gdOffDiagPeriod 0))) = true ∧
     (s.gdCh 0).readings.take 2 = r ∧ s.highMode 0 = true) ∧
    (let s := withCfs gateOn [(Obj.gdThRth 0, 100)]
     s.cf (Obj.gdThRth 0) ≠ 0 ∧ s.cf (Obj.gdMode 0) ≠ 0 ∧ s.hoist.safe = false ∧ s.passed (s.gdCh 0).lastThermal (ms 1) = true ∧
     s.bit (Obj.gdStatus 0) 8 = false) := by
  decide

theorem witness_SupplyFaultsCloseGates :
    (∀ c < 24, gateOn.bit (Obj.gdStatus c) 10 = false) ∧ (∀ i < 6, gateOn.bit (Obj.gdStatus (6 * (3 : Fin 4).val + i)) 11 = false) ∧
    gateOn.highMode 0 = true ∧ gateOn.arb.queue = [] ∧ gateOn.arb.refused = [] ∧ 5000 + 3000 < 8001 ∧ 10000 ≤ 8000 + 2000 ∧
    (let s := withObs gateOn [(Obj.gdStatus 0, 2 ^ 10 + 2 ^ 11 + 2 ^ 14)]
     s.bit (Obj.gdStatus 0) 10 = true ∧ s.bit (Obj.gdStatus 0) 11 = true ∧ s.gdWaits 0 = true ∧
     (∀ c < 24, s.highMode c = true → s.bit (Obj.gdStatus c) 10 = true → s.gdWaits c = true) ∧
     (∀ i < 6, s.highMode (6 * (0 : Fin 4).val + i) = true → s.bit (Obj.gdStatus (6 * (0 : Fin 4).val + i)) 11 = true →
       s.gdWaits (6 * (0 : Fin 4).val + i) = true)) := by
  decide

theorem witness_RetriesAreCounted :
    (let s := { withObs gateOn [(Obj.gdStatus 0, 2 ^ 14)] with gd := [(0, { retryAt := some (sec 200) })] }
     s.awake = true ∧ (s.gdCh 0).retryAt = some (sec 200) ∧ sec 200 ≤ s.now ∧ s.bit (Obj.gdStatus 0) 14 = true ∧
     s.hoist.safe = false) ∧
    (let s := { gateOn with gd := [(0, { goodSince := some 0, recover := 1 })] }
     (s.gdCh 0).goodSince = some 0 ∧ s.passed 0 (sec (s.cf (Obj.gdRetryReset 0))) = true ∧ (s.gdCh 0).recover ≠ 0 ∧
     s.gdIsOn 0 = true) ∧
    (let s := { running with sv := [(7, { goodSince := some 0 })] }
     (s.svCh 7).goodSince = some 0 ∧ s.passed 0 (sec (s.cf (Obj.svRetryReset 7))) = true) ∧
    (let s := { withObs running [(Obj.doutAppliedValue 7, 1)] with dout := [(7, { goodSince := some 0, recover := 2 })] }
     (s.doutCh 7).goodSince = some 0 ∧ s.passed 0 (sec (s.cf (Obj.doutRetryReset 7))) = true ∧ (s.doutCh 7).recover ≠ 0 ∧
     s.ob (Obj.doutAppliedValue 7) ≠ 0 ∧ s.passed (s.doutCh 7).onSince (ms 2) = true) := by
  decide

theorem witness_GateDriverCommandsDoAsStated :
    (running.session? 1 = some maker ∧ running.bit (Obj.gdStatus 0) 8 = false ∧
      running.commandedOf (State.gdSig (running.gdLead 0)) = 0 ∧ gateOn.commandedOf (State.gdSig (gateOn.gdLead 0)) ≠ 0) ∧
    (let s := withObs gateOn [(Obj.gdStatus 0, 2 ^ 8), (Obj.gdTEst 0, 10 * gateOn.cf (Obj.gdThTjMax 0) - 200)]
     s.bit (Obj.gdStatus 0) 8 = true ∧
     10 * (s.cf (Obj.gdThTjMax 0) : Int) - 200 ≤ signedOf 2 (s.ob (Obj.gdTEst 0))) ∧
    (let s := withCfs running [(Obj.gdOffDiagEnable 0, 1)]
     s.ob (Obj.gdAppliedValue 0) = 0 ∧ s.cf (Obj.gdOffDiagEnable 0) = 1 ∧ running.cf (Obj.gdOffDiagEnable 23) ≠ 1) ∧
    (∀ a ∈ [0, 10000], let s := { withObs (withCfs gateOn [(Obj.gdPwmPeriod 0, 50000), (Obj.gdSoftTime 0, 100)])
         [(Obj.gdAppliedValue 0, a)] with gd := [(0, { value := 5000 })] }
     s.cf (Obj.gdMode 0) ≠ 0 ∧ s.cf (Obj.gdPwmPeriod 0) ≠ 0 ∧
     ((s.now : Int) - s.cf (Obj.gdPwmPhase 0)) % (s.cf (Obj.gdPwmPeriod 0) : Int) = 0 ∧ s.fanOfLead 0 = none ∧
     s.bridgeOf 0 = none ∧ s.gdBlocked 0 = false ∧ s.hoist.safe = false ∧ (s.gdCh 0).value ≠ 0 ∧ (s.gdCh 0).softK = 0 ∧
     s.cf (Obj.gdSoftTime 0) ≠ 0 ∧ s.ob (Obj.gdAppliedValue 0) = a) ∧
    (let s := withCfs gateOn [(Obj.gdPwmPeriod 0, 50000), (Obj.gdPwmPhase 0, 1)]
     ((s.now : Int) - s.cf (Obj.gdPwmPhase 0)) % (s.cf (Obj.gdPwmPeriod 0) : Int) ≠ 0) ∧
    (let s := { withCfs running [(Obj.doutEnable 7, 1), (Obj.doutPwmPeriod 7, 100000)] with dout := [(7, { value := 5000 })] }
     s.cf (Obj.doutEnable 7) = 1 ∧ s.cf (Obj.doutPwmPeriod 7) ≠ 0 ∧
     ((s.now : Int) - s.cf (Obj.doutPwmPhase 7)) % (s.cf (Obj.doutPwmPeriod 7) : Int) = 0 ∧ (s.doutCh 7).off = false ∧
     s.hoist.safe = false ∧ (s.doutCh 7).value ≠ 0) := by
  decide

/-! ## Witnesses: bridges and fans -/

/-- Bridge 0 on the pairs 0 and 1, of a function, in a state. -/
def bridge (fn : Nat) (b : Bridge) : State :=
  { withCfs running [(Obj.gdMode 0, 3), (Obj.gdMode 1, 4), (Obj.gdMode 2, 3), (Obj.gdMode 3, 4), (Obj.brFunction 0, fn),
      (Obj.brPairA 0, 0), (Obj.brPairB 0, 1), (Obj.brRunMax 0, 100), (Obj.brOlBridge 0, 10), (Obj.brStallI 0, 1000)] with
    br := [(0, b)] }

theorem bridge_fits : (bridge 1 {}).ConfigFits ∧ (bridge 2 {}).ConfigFits ∧ (bridge 3 {}).ConfigFits ∧ (bridge 4 {}).ConfigFits :=
  ⟨⟨by decide, nofun, nofun, nofun⟩, ⟨by decide, nofun, nofun, nofun⟩, ⟨by decide, nofun, nofun, nofun⟩,
    ⟨by decide, nofun, nofun, nofun⟩⟩

theorem witness_BridgesFollowTheirCodes :
    (bridge 1 {}).ConfigFits ∧ (bridge 1 {}).brUsed 0 = true ∧
    (∀ code ∈ [0, 3], let s := bridge 1 { code := 1, dir := 1, arrived := some code }
     (s.brCh 0).arrived = some code ∧ s.hoist.safe = false ∧ code ≠ (s.brCh 0).code ∧ s.brFn 0 = 1 ∧
     s.gdBlocked (s.brLead 0) = false ∧ (s.brCh 0).dir = 1) ∧
    (let s := bridge 1 { code := 3, arrived := some 3 }
     (s.brCh 0).arrived = some 3 ∧ 3 = (s.brCh 0).code) ∧
    (let s := bridge 1 { code := 0, dir := 3, reason := 3 }
     (s.brCh 0).dir = 3 ∧ s.passed (s.brCh 0).since (ms (s.cf (Obj.brBrakeTime 0))) = true ∧ s.brHolds 0 = false ∧
     (s.brCh 0).reason ≠ 0 ∧ (s.brCh 0).next = 0) ∧
    (∀ r ∈ [0, 3], let s := bridge 1 { code := 3, dir := 3, reason := r }
     s.brHolds 0 = true ∧ s.passed (s.brCh 0).since (ms (s.cf (Obj.brBrakeTime 0))) = true ∧ (s.brCh 0).reason = r) ∧
    (∀ d ∈ [1, 2], let s := bridge 2 { dir := d }
     s.cf (Obj.brRunMax 0) ≠ 0 ∧ (s.brCh 0).dir = d ∧ s.passed (s.brCh 0).since (ms (s.cf (Obj.brRunMax 0))) = true ∧
     s.brFn 0 ≠ 4) :=
  ⟨bridge_fits.1, by decide⟩

theorem witness_MovementsEndAsStated :
    (bridge 1 {}).ConfigFits ∧ (bridge 2 {}).ConfigFits ∧
    (∀ d ∈ [1, 2], ∀ fn ∈ [1, 2], let s := bridge fn { dir := d }
     s.brUsed 0 = true ∧ s.brFn 0 = fn ∧ (s.brCh 0).dir = d ∧ s.cf (Obj.brStallI 0) ≤ s.gdDecide (s.brLead 0) 1000 ∧
     s.passed (s.brCh 0).since (ms (s.cf (Obj.brStallTime 0))) = true) ∧
    (let s := bridge 1 { dir := 1 }
     s.cf (Obj.brOlBridge 0) ≠ 0 ∧ s.passed (s.brCh 0).since (ms 100) = true ∧
     decide (s.gdDecide (s.brLead 0) 9 < s.cf (Obj.brOlBridge 0)) = true ∧
     decide (s.gdDecide (s.brLead 0) 10 < s.cf (Obj.brOlBridge 0)) = false ∧ s.brFlag 0 2 = false) ∧
    (let s := bridge 2 { dir := 2, overs := 255 }
     (s.brCh 0).target = none ∧ s.brFn 0 = 2 ∧ (s.brCh 0).dir = 2 ∧ s.cf (Obj.brPinchConfirm 0) ≤ (s.brCh 0).overs) ∧
    (let s := bridge 2 { dir := 1, reversal := true }
     (s.brCh 0).reversal = true ∧ (s.brCh 0).dir = 1 ∧ s.cf (Obj.brReverseRipples 0) ≤ (s.brCh 0).reversed + 65535) :=
  ⟨bridge_fits.1, bridge_fits.2.1, by decide⟩

theorem witness_LocksWipersAndBridgeCommandsDoAsStated :
    (bridge 3 {}).ConfigFits ∧ (bridge 4 {}).ConfigFits ∧
    (∀ d ∈ [1, 2], let s := bridge 3 { dir := d }
     s.brUsed 0 = true ∧ s.brFn 0 = 3 ∧ (s.brCh 0).dir = d ∧ s.passed (s.brCh 0).since (ms (s.cf (Obj.brPulseTime 0))) = true) ∧
    (∀ d ∈ [1, 2], let s := withObs (withCfs (bridge 3 { dir := d }) [(Obj.brFeedbackDin 0, 15)]) [(Obj.dinState 15, 2 - d)]
     s.brFeedback 0 = some (decide ((s.brCh 0).dir = 1))) ∧
    (∀ code ∈ [0, 1, 2], let s := bridge 4 { code := code, dir := 1, left := true }
     s.brFn 0 = 4 ∧ (s.brCh 0).dir = 1 ∧ (s.brCh 0).blockage = false ∧ (s.brCh 0).left = true ∧ (s.brCh 0).code = code) ∧
    (let s := bridge 4 { code := 2, nextWipe := some (sec 200) }
     (s.brCh 0).code = 2 ∧ (s.brCh 0).nextWipe = some (sec 200) ∧ sec 200 ≤ s.now ∧ s.brFlag 0 3 = false) ∧
    (∀ b ∈ [false, true], let s := bridge 4 { code := 1, dir := 2, blockage := b }
     (s.brCh 0).blockage = b ∧ s.cf (Obj.brStallI 0) ≤ s.gdDecide (s.brLead 0) 1000 ∧
     s.passed (s.brCh 0).since (ms (s.cf (Obj.brStallTime 0))) = true) ∧
    (let s := bridge 3 { code := 1, waiting := some 2, pulses := List.replicate 9 (sec 199) }
     (s.brCh 0).waiting = some 2 ∧ (s.recentPulses 0).length < 10 ∧ 2 ≠ (s.brCh 0).code) ∧
    running.session? 1 = some maker ∧ ((bridge 3 {}).brCh 0).waiting = none :=
  ⟨bridge_fits.2.2.1, bridge_fits.2.2.2, by decide⟩

/-- Fan 0 on the pair 0 with a tach on input 0, in a state. -/
def spinning (st : Nat) (f : Fan) (edges : List Tick) : State :=
  { withObs (withCfs running [(Obj.gdMode 0, 3), (Obj.gdMode 1, 4), (Obj.fanPair 0, 0), (Obj.fanTach 0, 0), (Obj.fanRipplesPerRev 0, 6)])
      [(Obj.fanState 0, st), (Obj.tachFreq 0, 1000)] with
    fan := [(0, f)], tach := [(0, { edges := edges })] }

theorem spinning_fits : (spinning 1 {} []).ConfigFits := ⟨by decide, nofun, nofun, nofun⟩

theorem witness_FansStartFailAndRecover :
    (spinning 1 {} []).ConfigFits ∧ (spinning 1 {} []).fanUsed 0 = true ∧
    (∀ st ∈ [1, 2], (spinning st {} []).ob (Obj.fanState 0) = st ∧
      (spinning st {} []).passed ((spinning st {} []).fanCh 0).lastUpdate (ms 10) = true ∧ (spinning st {} []).fanTachOk 0 = true) ∧
    (let s := withObs (spinning 2 {} []) [(Obj.fanFlags 0, 8)]
     s.fanTachOk 0 = false ∧ s.cf (Obj.fanRipplesPerRev 0) ≠ 0 ∧ s.bit (Obj.fanFlags 0) 3 = true) ∧
    (∀ st ∈ [1, 2], let s := spinning st {} []
     s.fanEdgeWithin 0 (ms (s.cf (Obj.fanStallTime 0))) = false ∧ s.cf (Obj.fanStallI 0) ≤ s.gdDecide (s.fanLead 0) 65535 ∧
     s.passed (s.fanCh 0).since (ms (s.cf (Obj.fanStallTime 0))) = true) ∧
    (let s := spinning 1 {} []
     s.passed (s.fanCh 0).since (ms (s.cf (Obj.fanSpinupTime 0))) = true ∧ s.fanEdgeWithin 0 (s.now - (s.fanCh 0).since) = false ∧
     s.fanRippleRpm 0 2 < 300 ∧ 300 ≤ s.fanRippleRpm 0 3) ∧
    (let s := spinning 1 {} [sec 200]
     s.fanTachOk 0 = true ∧ s.fanEdgeWithin 0 (s.now - (s.fanCh 0).since) = true ∧ 300 ≤ s.fanTachRpm 0) ∧
    (∀ n ∈ [0, 3], (withObs (spinning 1 {} []) [(Obj.fanAttempts 0, n)]).ob (Obj.fanAttempts 0) + 1 = n + 1) ∧
    (let s := spinning 3 { retryAt := some (sec 200) } []
     s.awake = true ∧ s.ob (Obj.fanState 0) = 3 ∧ (s.fanCh 0).retryAt = some (sec 200) ∧ sec 200 ≤ s.now ∧
     s.commandedOf (State.gdSig (s.fanLead 0)) = 0) ∧
    (let s := spinning 2 { lastTach := 600 } []
     s.fanEdgeWithin 0 (s.fanEdgeWait 0) = false ∧ (s.fanCh 0).lastTach ≤ 2 * s.fanRippleRpm 0 3) ∧
    (let s := withObs (spinning 2 { agreeSince := some (sec 199) } []) [(Obj.fanFlags 0, 8)]
     s.bit (Obj.fanFlags 0) 3 = true ∧ (s.fanCh 0).agreeSince = some (sec 199) ∧ s.passed (sec 199) (sec 1) = true) ∧
    (∀ x ∈ [0, 4], (withObs (spinning 4 {} []) [(Obj.fanFlags 0, x)]).bit (Obj.fanFlags 0) 2 = decide (x = 4)) :=
  ⟨spinning_fits, by decide⟩

/-! ## Witnesses: solenoids -/

/-- Channel 0 in a mode, in a phase, with its hidden state, and with objects. -/
def coil (phase : Nat) (ch : SvChannel) (l : List (Nat × Nat)) : State :=
  { withObs (withCfs running [(Obj.svMode 0, 1)]) ((Obj.svPhase 0, phase) :: l) with sv := [(0, ch)] }

theorem witness_SolenoidProfilesRunAndAreObserved :
    (coil 0 {} []).cf (Obj.svMode 0) ≠ 0 ∧
    (∀ ph ∈ [2, 3, 4], let s := coil ph { arrived := some 0 } []
     (s.svCh 0).arrived = some 0 ∧ s.hoist.safe = false ∧ s.svRestarts 0 0 = false ∧ s.svPh 0 = ph) ∧
    (∀ off ∈ [true, false], let s := coil 0 { arrived := some 500, off := off } []
     (s.svCh 0).arrived = some 500 ∧ s.svBit 0 3 = false ∧ (s.svCh 0).off = off ∧ s.svPh 0 = 0 ∧
     s.cf (Obj.svPeakCurrent 0) - 1 < s.cf (Obj.svPeakCurrent 0)) ∧
    (let s := coil 2 { recover := 1 } []
     s.svPh 0 = 2 ∧ s.cf (Obj.svPeakCurrent 0) ≤ s.cf (Obj.svPeakCurrent 0) ∧
     s.passed (s.svCh 0).boostAt (us (s.cf (Obj.svBoostMax 0))) = true ∧ (s.svCh 0).recover ≠ 0 ∧
     s.cf (Obj.svOpenI 0) < s.cf (Obj.svPeakCurrent 0) ∧ s.cf (Obj.svOpenI 0) - 1 < s.cf (Obj.svOpenI 0)) ∧
    (let s := coil 3 {} []
     s.svPh 0 = 3 ∧ s.passed (s.svCh 0).phaseAt (us (s.cf (Obj.svPeakTime 0))) = true) ∧
    (let s := coil 5 {} []
     s.svPh 0 = 5 ∧ s.arb.queue = [] ∧ s.arb.refused = [] ∧ 19 < 20) ∧
    (let s := coil 4 { setpoint := 500 } []
     s.svPh 0 = 4 ∧ s.svInBand 0 500 = true ∧ s.svInBand 0 0 = false ∧ s.svBit 0 1 = false) ∧
    (let s := coil 4 { setpoint := 1000 } [(Obj.svRange 0, 1)]
     s.svPh 0 = 4 ∧ s.cf (Obj.svRangeMode 0) = 0 ∧ s.svBit 0 3 = false ∧ s.svPaired 0 = false ∧ s.ob (Obj.svRange 0) = 1 ∧
     (s.svCh 0).setpoint ≤ 1000 ∧ s.svInBand 0 1000 = true ∧ s.passed (s.svCh 0).steadySince (s.cf (Obj.svChopPeriod 0)) = true) ∧
    (let s := coil 4 { setpoint := 1101 } [(Obj.svRange 0, 0)]
     s.ob (Obj.svRange 0) = 0 ∧ 1100 < (s.svCh 0).setpoint ∧ (s.svCh 0).setpoint ≤ 1250) ∧
    (let s := coil 4 { setpoint := 1250, after := some 1300 } [(Obj.svRange 0, 0)]
     s.ob (Obj.svRange 0) = 0 ∧ (s.svCh 0).after.isSome = true ∧ (s.svCh 0).setpoint ≤ 1250) ∧
    (∀ a ∈ [none, some 1300], let s := coil 4 { after := a } [(Obj.svStatus 0, 2 ^ 3)]
     s.svBit 0 3 = true ∧ (s.svCh 0).after = a) ∧
    (let s := coil 5 { windowK := some 0 } []
     (s.svCh 0).windowK = some 0 ∧ s.passed 0 (us (s.cf (Obj.svMoveWinEnd 0))) = true ∧ s.svSeen 0 0 [] = none ∧
     (s.svCh 0).windowD = false) ∧
    (let s := coil 4 { windowD := true, peakFirst := true, misses := 255 } []
     (s.svCh 0).windowD = true ∧ s.svPh 0 ≠ 2 ∧ s.svSeen 0 0 [] = none ∧ (s.svCh 0).peakFirst = true) ∧
    (∀ t0 ∈ [0, (coil 2 {} []).cf (Obj.svMoveWinStart 0), (coil 2 {} []).cf (Obj.svMoveWinEnd 0)],
     let s := coil 2 { windowD := true } []
     (s.svSeen 0 t0 [1000, 900, 1000]).isSome = true) := by
  refine ⟨?_, ?_, ?_, ?_, ?_, ?_, ?_, ?_, ?_, ?_, ?_, ?_, ?_, ?_⟩ <;> decide

theorem witness_SolenoidsAreProtected :
    (∀ ph ∈ [2, 3, 4], let s := coil ph {} []
     s.cf (Obj.svMode (s.svMain 0)) ≠ 0 ∧ s.svPh (s.svMain 0) = ph ∧ s.hoist.safe = false ∧ s.svBound 0 = false ∧
     s.cf (Obj.svLeakI 0) < max (s.cf (Obj.svLeakI 0) + 1) 0 - min (s.cf (Obj.svLeakI 0) + 1) 0) ∧
    (let s := withCfs (coil 2 {} [(Obj.svRetriesUsed 0, 2)]) [(Obj.svRetryCount 0, 3)]
     s.ob (Obj.svRetriesUsed (s.svMain 0)) < s.cf (Obj.svRetryCount (s.svMain 0))) ∧
    (let s := withCfs (coil 2 {} [(Obj.svRetriesUsed 0, 3)]) [(Obj.svRetryCount 0, 3)]
     s.cf (Obj.svRetryCount (s.svMain 0)) ≠ 255 ∧ s.cf (Obj.svRetryCount (s.svMain 0)) ≤ s.ob (Obj.svRetriesUsed (s.svMain 0))) ∧
    (let s := coil 4 { noRise := true } []
     0 < s.cf (Obj.svOpenI 0) ∧ (s.svCh 0).noRise = true ∧ s.svPh 0 = 4) ∧
    (∀ r ∈ [[2, 2], []], let s := withCfs (coil 0 { readings := r } []) [(Obj.svOffDiagEnable 0, 1)]
     s.awake = true ∧ s.svBound 0 = false ∧ s.cf (Obj.svOffDiagEnable 0) = 1 ∧ s.cf (Obj.svMode 0) ≠ 0 ∧ s.svPh 0 = 0 ∧
     (s.svCh 0).windowK = none ∧ s.hoist.safe = false ∧
     s.passed (s.svCh 0).lastDiag (ms (s.cf (Obj.svOffDiagPeriod 0))) = true ∧ (s.svCh 0).readings.take 2 = r) ∧
    (coil 0 {} []).svBit 0 8 = false ∧ (1700 : Int) < 1701 ∧
    (let s := coil 6 { retryAt := some (sec 200), off := true } [(Obj.svStatus 0, 2 ^ 14)]
     s.awake = true ∧ (s.svCh 0).retryAt = some (sec 200) ∧ sec 200 ≤ s.now ∧ s.svBit 0 14 = true ∧ s.hoist.safe = false) := by
  decide

theorem witness_SolenoidCommandsDoAsStated :
    hostOnly.Serves 2 .host host ∧ running.Serves 1 .service maker ∧ hostOnly.commandedOf (State.svSig 0) = 0 ∧
    (let s := { hostOnly with own := { hostOnly.own with commanded := [(State.svSig 0, 65535)] }, sv := [(0, { off := true })] }
     s.commandedOf (State.svSig 0) ≠ 0 ∧ (s.svCh 0).off = true) ∧
    hostOnly.svCool (hostOnly.svMain 0) = true ∧ hostOnly.commandedOf (State.svSig (hostOnly.svMain 0)) = 0 ∧
    (let s := withObs hostOnly [(Obj.svStageTemp 0, 1500)]
     s.svCool (s.svMain 0) = false) ∧
    (∀ ph ∈ [6, 7], (coil ph {} []).svPh ((coil ph {} []).svMain 0) = ph) ∧
    (let s := withCfs (coil 0 {} []) [(Obj.svOffDiagEnable 0, 1)]
     s.svPh (s.svMain 0) = 0 ∧ s.cf (Obj.svOffDiagEnable (s.svMain 0)) = 1) ∧
    (coil 4 {} []).svPh ((coil 4 {} []).svMain 0) ≠ 0 :=
  ⟨by unfold State.Serves; decide, by unfold State.Serves; decide, by decide⟩

/-! ## Witnesses: field inputs and outputs -/

/-- An input with its hidden state and CHATTER_LIMIT 4. -/
def input (d : Din) : State := { withCfs running [(Obj.chatterLimit 0, 4)] with din := [(0, d)] }
/-- A digital output that is on or off, with its hidden state. -/
def switch (on : Nat) (d : Dout) (l : List (Nat × Nat)) : State :=
  { withObs (withCfs running [(Obj.doutEnable 0, 1), (Obj.doutOlCurrent 0, 5), (Obj.doutOffDiagEnable 0, 1)])
      ((Obj.doutAppliedValue 0, on) :: l) with dout := [(0, d)] }
/-- An analog input of a kind and a state. -/
def analog (kind state : Nat) (a : Ain) : State :=
  { withObs (withCfs running [(Obj.ainKind 0, kind), (Obj.ainPeriod 0, 100), (Obj.breakShift 0, 500)]) [(Obj.ainState 0, state)] with
    ain := [(0, a)], tb := { running.tb with count := sec 200 + us 5 } }
/-- A frequency input with its edges. -/
def wheel (l : List Tick) : State := { withCfs running [(Obj.tachEnable 0, 1), (Obj.tachAvg 0, 8)] with tach := [(0, { edges := l })] }

theorem witness_DigitalAndFrequencyInputsAreRead :
    (let s := input {}
     s.dinRuns 0 = true ∧ (s.dinCh 0).level ≠ true ∧ s.dinHeld 0 (us (100 * s.cf (Obj.dinFilter 0))) = true ∧
     (s.dinCh 0).surge = false) ∧
    (let s := input { changes := List.replicate 5 (sec 200) }
     s.cf (Obj.chatterLimit 0) ≠ 0 ∧ s.cf (Obj.chatterLimit 0) < s.dinRecent 0 ∧ (s.dinCh 0).chatter = false) ∧
    (let s := input { changes := [sec 200, sec 200], chatter := true, surge := true }
     (s.dinCh 0).chatter = true ∧ s.dinRecent 0 ≤ s.cf (Obj.chatterLimit 0) / 2 ∧ (s.dinCh 0).surge = true) ∧
    (let s := wheel [sec 200 - 1]
     s.cf (Obj.tachEnable 0) = 1 ∧ s.awake = true ∧ (s.tachCh 0).edges = [sec 200 - 1] ∧ s.cf (Obj.tachAvg 0) ≠ 0 ∧
     s.now - (sec 200 - 1) < 2 ^ 32 ∧ sec 200 - 1 < s.now) ∧
    (let s := wheel [0]
     (s.tachCh 0).edges = [0] ∧ s.passed 0 (ms (s.cf (Obj.tachTimeout 0))) = true) := by
  decide

theorem witness_DigitalOutputsAreProtected :
    (let s := switch 1 {} []
     s.cf (Obj.doutEnable 0) = 1 ∧ s.ob (Obj.doutAppliedValue 0) ≠ 0 ∧ s.hoist.safe = false ∧ s.cf (Obj.doutOlCurrent 0) ≠ 0 ∧
     49 < 10 * s.cf (Obj.doutOlCurrent 0) ∧ (s.doutCh 0).openOn = false) ∧
    (∀ n ∈ [1, 2], let s := withCfs (switch 1 { retries := n } []) [(Obj.doutRetryCount 0, 2)]
     s.cf (Obj.doutRetryCount 0) ≠ 255 ∧ (s.doutCh 0).retries = n ∧ s.cf (Obj.doutRetryCount 0) = 2) ∧
    (∀ st ∈ [0, 2 ^ 15], let s := switch 0 { hot := true, off := true } [(Obj.doutStatus 0, st)]
     (s.doutCh 0).hot = true ∧ s.doutBit 0 15 = (st != 0)) ∧
    (let s := switch 0 { off := true, retryAt := some (sec 200) } [(Obj.doutStatus 0, 2 ^ 14)]
     s.awake = true ∧ (s.doutCh 0).retryAt = some (sec 200) ∧ sec 200 ≤ s.now ∧ s.doutBit 0 14 = true ∧
     s.commandedOf (State.doutSig 0) = 0 ∧ (s.doutCh 0).hot = false ∧ s.doutBit 0 15 = false) ∧
    (∀ r ∈ [[2, 2], [3, 3], []], let s := switch 0 { readings := r } []
     s.awake = true ∧ s.cf (Obj.doutOffDiagEnable 0) = 1 ∧ s.ob (Obj.doutAppliedValue 0) = 0 ∧
     s.passed (s.doutCh 0).lastDiag (ms (s.cf (Obj.doutOffDiagPeriod 0))) = true ∧ (s.doutCh 0).readings.take 2 = r) ∧
    hostOnly.Serves 2 .host host ∧ running.Serves 1 .service maker ∧ (hostOnly.doutCh 0).hot = false ∧
    running.cf (Obj.doutOffDiagEnable 0) ≠ 1 :=
  ⟨by decide, by decide, by decide, by decide, by decide, by unfold State.Serves; decide, by unfold State.Serves; decide, by decide,
    by decide⟩

theorem witness_AnalogInputsAreMeasured :
    (∀ st ∈ [1, 3], ∀ skip ∈ [0, 1], ∀ good ∈ [0, 6, 7],
     let s := analog 1 st { connected := sec 200, skip := skip, good := good, again := 1 }
     s.awake = true ∧ s.cf (Obj.ainKind 0) ≠ 0 ∧ (s.ainCh 0).changeEnd = none ∧ (s.ainCh 0).connected + us 5 ≤ s.now ∧
     ((s.now : Int) - us 5 - us (5 * (0 % 4))) % (us (s.cf (Obj.ainPeriod 0)) : Int) = 0 ∧ (s.ainCh 0).skip = skip ∧
     s.ob (Obj.ainState 0) = st ∧ (s.ainCh 0).good = good ∧ (s.ainCh 0).again ≠ 0 ∧ s.cf (Obj.breakShift 0) = 500) ∧
    (∀ kind ∈ [2, 3], let s := analog kind 1 {}
     s.cf (Obj.ainKind 0) = kind ∧ s.vsensState (s.cf (Obj.ainRef 0)) ≠ 1 ∧ s.ob (Obj.ainState 0) = 1) ∧
    (∀ e ∈ [sec 200 + us 5, sec 200 + us 5 + 1], let s := analog 1 2 { changeEnd := some e }
     (s.ainCh 0).changeEnd = some e ∧ (e ≤ s.now ∨ s.now + 1 = e)) ∧
    (let s := withCfs (analog 2 1 {}) [(Obj.vsens0Enable, 1)]
     s.awake = true ∧ s.cf Obj.vsens0Enable = 1 ∧ s.cf (Obj.ainKind 0) = 2 ∧ s.cf (Obj.ainRef 0) = 0 ∧ s.vsensState 0 ≠ 1) := by
  decide

/-! ## Witnesses: passports, calibration, diagnostics, strands and matrix ports -/

/-- A passport of a gate driver with a declared resistance and a learned one. -/
def learning (learned : Table Nat) (l : Nat) : State :=
  { withCfs gateOn [(Obj.ppLearn 0, l)] with pp := [(0, { learned := learned })] }

theorem witness_PassportsLearn :
    (∀ l ∈ [[], [(0, 100)]], let s := learning l 2
     s.ppUsed 0 = true ∧ State.ppLearns 0 0 = true ∧ s.cf (Obj.ppLearn 0) = 2 ∧ s.ppDiscard 0 0 100 3 ≠ 0 ∧
     s.ppDiscard 0 0 100 0 = 0 ∧ (s.ppCh 0).learned = l) ∧
    (let s := learning [] 1
     s.cf (Obj.ppLearn 0) = 1 ∧ (s.ppCh 0).learned.get? 0 = none) ∧
    running.Serves 1 .service maker ∧ running.Serves 1 .host maker ∧ running.ppValid 0 = false ∧
    (learning [(5, 1)] 2).ppValid 0 = true :=
  ⟨by decide, by decide, by unfold State.Serves; decide, by unfold State.Serves; decide, by decide, by decide⟩

theorem witness_SensesAreCalibrated :
    (let s := withCfs gateOn [(Obj.calEnable 0, 1)]
     s.calRuns 0 = true ∧ s.gdIsOn 0 = true ∧ s.bit (Obj.gdStatus 0) 13 = false ∧ s.gdOnLongEnough 0 = true ∧
     s.pulseAt = none ∧ s.calDue 0 (s.calCh 0).taken = true ∧ s.calRejected 0 199 (s.calTemp 0 250) = true ∧
     s.calRejected 0 200 (s.calTemp 0 250) = false ∧ s.calRejected 0 200000 (s.calTemp 0 250) = false) ∧
    (let s := withCfs (coil 4 {} []) [(Obj.calEnable 24, 1)]
     s.calRuns (24 + (0 : Fin 8).val) = true ∧ s.cf (Obj.svMode 0) ≠ 0 ∧ s.ob (Obj.svPhase 0) = 4 ∧
     s.passed (s.svCh 0).steadySince (ms 10) = true ∧ s.bit (Obj.svStatus 0) 3 = false ∧
     s.calDue 24 (s.calCh 24).taken = true) ∧
    (let s := withCfs (coil 0 {} []) [(Obj.calEnable 24, 1)]
     s.ob (Obj.svPhase 0) = 0 ∧ s.passed (s.svCh 0).phaseAt (ms 1) = true ∧ s.calDue 24 (s.calCh 24).lsTaken = true) ∧
    gateOn.ppUsed 0 = true ∧ gateOn.gdWithin 0 (gateOn.calTemp 0 250) 0 = false ∧ gateOn.bit (Obj.gdStatus 0) 12 = false ∧
    (let s := { gateOn with cal := [(0, { taken := some 0 })] }
     s.gdWithin 0 (s.calTemp 0 200) 100 = true ∧ s.gdWithin 0 (s.calTemp 0 200) 101 = false) := by
  decide

theorem witness_SuppliesTemperaturesAndCablesAreWatched :
    (let s := withCfs running [(Obj.supLo 0, 9000), (Obj.supHi 0, 16000)]
     s.supSide 0 8999 = 1 ∧ s.supSide 0 9000 = 0 ∧ s.supSide 0 16000 = 0 ∧ s.supSide 0 16001 = 2 ∧
     s.ob (Obj.supState 0) = 0) ∧
    (let s := withObs (withCfs running [(Obj.supLo 0, 9000), (Obj.supHi 0, 16000)]) [(Obj.supState 0, 1), (Obj.supMin 0, 8000), (Obj.supMax 0, 12000)]
     s.ob (Obj.supState 0) ≠ 0 ∧ s.supInside 0 (9000 + s.supHystOf 0) = true ∧ s.ob (Obj.supMin 0) ≤ 8000 ∧
     12000 ≤ s.ob (Obj.supMax 0)) ∧
    hostOnly.Serves 2 .host host ∧ running.tempLimit 64 < running.tempLimit 64 + 1 ∧ 64 ∉ running.warm ∧
    running.Serves 1 .service maker ∧ running.cable.get? 0 = none ∧
    (let s := { running with cable := [(0, { since := 0 })] }
     s.cable.get? 0 ≠ none ∧ s.cf (Obj.cableVf 0) * 0 / 200 ≤ 6000) :=
  ⟨by decide, by decide, by unfold State.Serves; decide, by decide, by decide, by unfold State.Serves; decide, by decide, by decide⟩

/-- Port 0 in a state, with its nodes' side and objects. -/
def strand (st : Nat) (b : BuntingPort) (l : List (Nat × Nat)) : State :=
  { withObs (withCfs running [(Obj.bpEnable 0, 1), (Obj.bpExpectNodes 0, 1)]) ((Obj.bpState 0, st) :: l) with bp := [(0, b)] }

theorem witness_BuntingStrandsDoAsStated :
    (let s := strand 2 {} [(Obj.bpNodeCount 0, 1)]
     s.bpMayStart 0 = true ∧ s.bpCommandDue 0 = false ∧ Table.wf (fun _ => 0) (s.bpCh 0).latched = true ∧ State.frameEnds [] = 4096) ∧
    (let s := strand 2 { setup := true } [(Obj.bpNodeCount 0, 1)]
     s.bpMayStart 0 = true ∧ s.bpCommandDue 0 = true ∧ 0 < s.ob (Obj.bpNodeCount 0)) ∧
    (let s := strand 1 {} []
     s.cf (Obj.bpEnable 0) = 1 ∧ s.ob (Obj.bpState 0) = 1 ∧ State.countOf [some 0, some 0, some 0, none] = none ∧
     State.countOf [some 0, some 0, some 0, some 0] = some 0 ∧ State.badCapability (0 + 1) [some 0x10000] = none ∧
     s.cf (Obj.bpExpectNodes 0) = 0 + 1 ∧ s.arb.queue = [] ∧ s.arb.refused = []) ∧
    (let s := strand 3 { retryAt := some (sec 200) } []
     (s.bpCh 0).retryAt = some (sec 200) ∧ sec 200 ≤ s.now ∧ s.ob (Obj.bpState 0) = 3 ∧ s.ft.stopped = [] ∧
     s.ft.regionsLost = []) ∧
    (∀ st ∈ [0, 1, 2], (strand st {} []).Serves 1 .service maker ∧ (strand st {} []).ob (Obj.bpState 0) = st) ∧
    hostOnly.Serves 2 .host host ∧ (4095 : BitVec 16).toNat < 4096 ∧ (0xFFFE : BitVec 16).toNat ≠ 0xFFFF ∧
    (let s := strand 2 { lastFrame := 0 } [(Obj.bpNodeCount 0, 4096), (Obj.bpFlags 0, 2 ^ 5)]
     4095 < s.ob (Obj.bpNodeCount 0) ∧ s.bit (Obj.bpFlags 0) 5 = true ∧
     s.passed (((s.bpCh 0).unheard.get? 4095).getD (s.bpCh 0).lastFrame) (s.bpTimeout 0) = true) :=
  ⟨by decide, by decide, by decide, by decide, by unfold State.Serves; decide, by unfold State.Serves; decide, by decide, by decide,
    by decide⟩

/-- Matrix port 0 in a state, with its hidden state and objects, its line slots of 5 ms. -/
def matrix (m : MxPort) (l : List (Nat × Nat)) : State :=
  { withObs (withCfs running [(Obj.mxEnable 0, 1), (Obj.mxLinePeriod 0, ms 5), (Obj.mxOpenDetect 0, 1)]) l with mx := [(0, m)] }

theorem witness_MatrixPortsRunAndAreProtected :
    (let s := matrix { line := 7 } [(Obj.mxState 0, 1)]
     s.cf (Obj.mxEnable 0) = 1 ∧ s.ob (Obj.mxState 0) = 1 ∧ (s.mxCh 0).off = false ∧ s.mxSlot 0 = some 0 ∧ s.hoist.safe = false ∧
     s.bit (Obj.mxColDisabled 0) 7 = false ∧ s.cf (Obj.mxOpenDetect 0) = 1 ∧ s.bit (Obj.mxPixelOpen 0) 63 = false ∧
     (s.mxCh 0).hot = false) ∧
    (withCfs (matrix {} []) [(Obj.mxRetryCount 0, 0)]).cf (Obj.mxRetryCount 0) = 0 ∧
    (let s := matrix { off := true, retryAt := some (sec 200) } [(Obj.mxState 0, 2)]
     s.awake = true ∧ (s.mxCh 0).retryAt = some (sec 200) ∧ sec 200 ≤ s.now ∧ s.ob (Obj.mxState 0) = 2 ∧ s.hoist.safe = false ∧
     (s.mxCh 0).hot = false ∧ s.ft.stagesOff = []) ∧
    hostOnly.Serves 2 .host host ∧ (hostOnly.mxCh 0).hot = false ∧ (matrix { hot := true } []).Serves 1 .host maker ∧
    ((matrix { hot := true } []).mxCh 0).hot = true ∧ running.Serves 1 .service maker :=
  ⟨by decide, by decide, by decide, by unfold State.Serves; decide, by decide, by unfold State.Serves; decide, by decide,
    by unfold State.Serves; decide⟩

/-! ## Witnesses: derating, groups, timers and events -/

theorem witness_DeratingAndNeighbourTestsRun :
    running.passed running.lastDerate (ms 1) = true ∧ running.msv 64 ≤ 10 * running.cf Obj.kneeT ∧
    running.Serves 1 .service maker ∧ running.ob Obj.nbState ≠ 1 ∧
    (withObs running [(Obj.nbState, 1)]).Serves 1 .service maker ∧
    (let s := { withObs running [(Obj.nbState, 1)] with nb := { todo := [0] } }
     s.ob Obj.nbState = 1 ∧ 0 ∈ s.nb.todo ∧ State.nbJoins 0 [] = [] ∧ (∀ b ∈ s.nb.todo, b = 0) ∧ s.nb.ports = [] ∧
     s.nb.found = false) ∧
    (let s := withCfs running [(Obj.nbOnlineMask, 2 ^ 32 - 1)]
     ∃ b : Fin 48, s.nbMayOnline b = true ∧ State.nbJoins b [] = []) :=
  ⟨by decide, by decide, by unfold State.Serves; decide, by decide, by unfold State.Serves; decide, by decide, ⟨40, by decide⟩⟩

/-- `hostOnly` with group 1 of no member, and with a running or ended fade of it. -/
def grouped (l : List Fade) : State := { withCfs hostOnly [(domKey 0x5300 1, 1)] with light := { hostOnly.light with fades := l } }

theorem witness_GroupsFadeAndRunPatterns :
    (grouped []).Serves 2 .host host ∧ (grouped []).groupDefined 1 = true ∧ hostOnly.groupDefined 1 = false ∧
    State.blockKind ((withCfs hostOnly [(domKey 0x5400 0, 1)]).cf (domKey 0x5400 0)) ≠ 0 ∧ hostOnly.Serves 2 .host host := by
  refine ⟨by unfold State.Serves; decide, by decide, by decide, by decide, by unfold State.Serves; decide⟩

/-- Domain 15 on, an engine that runs block 0 on group 1. -/
def patterns : State :=
  { withObs (withCfs (grouped [{ group := 1, cls := .h, holder := 2, level := 7, time := 5, l0 := 0, start := sec 199 }])
      [(domKey 0x5400 0, 1 + 100 * 2 ^ 16)]) [(Obj.domainOn 15, 1)] with
    light := { hostOnly.light with
      fades := [{ group := 1, cls := .h, holder := 2, level := 7, time := 5, l0 := 0, start := sec 199 }]
      engines := [(0, { holder := 2, cls := .h, group := 1, block := 0, start := 0, origin := 0 })] } }

theorem witness_GroupsFadeAndRunPatterns_steps :
    (∃ f, patterns.fadeOf 1 Cls.h.code = some f ∧ patterns.domainIsOn 15 = true ∧ f.ended = false ∧ patterns.hoist.safe = false ∧
      f.start < patterns.now ∧ (patterns.now - f.start) % ms (State.stepMs (patterns.groupMembers f.group).length) = 0 ∧
      patterns.groupMembers f.group = [] ∧ f.time ≤ (patterns.now - f.start) / ms 1) ∧
    (∃ r, patterns.light.engines.get? 0 = some r ∧ patterns.ft.stopped = [] ∧ patterns.ft.regionsLost = [] ∧
      r.start ≤ patterns.now ∧ (patterns.now - r.origin) % ms (State.stepMs (patterns.groupMembers r.group).length) = 0) :=
  ⟨⟨_, rfl, by decide⟩, _, rfl, by decide⟩

/-- Timer 0 with its hidden state, compare 0 armed at 100. -/
def timer (x : Timer) : State :=
  { withObs (withCfs running [(Obj.tmrCmpkAction 0 0, 1)]) [(Obj.tmrCmpk 0 0, 100), (Obj.tmrCmpk 0 3, 2 ^ 48 - 1)] with timers := [(0, x)] }

theorem witness_TimersAndGlobalStartsDoAsStated :
    (let s := timer { running := true, base := 100, since := sec 200 }
     s.tb.lfMode = false ∧ (s.tmr 0).opTick ≠ some s.now ∧ s.cmpDue 0 0 = true ∧
     State.actionOp (s.cf (Obj.tmrCmpkAction 0 0)) = 0 ∧ (timer { running := true, base := 99, since := sec 200 }).cmpDue 0 0 = false) ∧
    (let s := timer { running := true, base := 2 ^ 48 - sec 200, since := 0 }
     (s.tmr 0).running = true ∧ s.tmrRaw 0 = 2 ^ 48 ∧ State.actionOp (s.cf (Obj.tmrOvfAction 0)) = 0) ∧
    running.Serves 1 .host maker ∧ running.ob Obj.gsMask = 0 ∧
    (withObs running [(Obj.gsMask, 1), (Obj.gsBase, 1)]).Serves 1 .host maker ∧
    (let s := withObs running [(Obj.gsMask, 1), (Obj.gsBase, 1)]
     s.ob Obj.gsMask ≠ 0 ∧ s.ob Obj.gsBase = 1 ∧ s.ob Obj.syncState = 0) ∧
    (∀ at_ ∈ [0, sec 200, sec 200 + 1], (withObs running [(Obj.gsMask, 1), (Obj.gsAt, at_)]).Serves 1 .host maker ∧
      (let s := withObs running [(Obj.gsMask, 1), (Obj.gsAt, at_)]
       s.ob Obj.gsMask ≠ 0 ∧ s.ob Obj.gsBase = 0 ∧ s.ob Obj.gsAt = at_ ∧ s.now = sec 200)) ∧
    (let s := { running with gsArmed := some { mask := 1, op := 3, n0 := sec 200 } }
     s.gsArmed = some { mask := 1, op := 3, n0 := sec 200 } ∧ sec 200 ≤ s.now ∧ bitAt 1 0 = true ∧ bitAt 1 1 = false ∧
     (s.tmr 0).opTick ≠ some s.now) :=
  ⟨by decide, by decide, by unfold State.Serves; decide, by decide, by unfold State.Serves; decide, by decide,
    by unfold State.Serves; decide, by decide⟩

theorem witness_EventsAreOrderedAndReleased :
    (let s := running.post 1472 7
     ∃ o rest, s.fab.inFlight = o :: rest ∧ s.ob Obj.pwrState ≠ pwrHalfMast) ∧
    (∀ ts ∈ [sec 200 - 250, sec 200 - 249],
     let s := { running with fab := { running.fab with pend := [{ ts := ts, ev := 1472, value := 0 }] } }
     (∃ o rest, s.fab.pend = o :: rest ∧ s.passed o.ts 250 = decide (ts = sec 200 - 250) ∧ bitsOf (s.routeOf o.ev) 0 4 = 0)) ∧
    hostOnly.Serves 2 .host host ∧
    (∀ ev ∈ [1471, 1472, 1535, 1536], bitsOf (BitVec.ofNat 64 (ev * 2 ^ 48)).toNat 48 16 = ev) := by
  refine ⟨⟨_, _, rfl, by decide⟩, ?_, by unfold State.Serves; decide, by decide⟩
  intro ts h
  simp only [List.mem_cons, List.not_mem_nil, or_false] at h
  rcases h with rfl | rfl
  · exact ⟨_, _, rfl, by decide⟩
  · exact ⟨_, _, rfl, by decide⟩

/-! ## Witnesses: CAN and the ring -/

/-- A classical data frame of the identifier 0x100 with one byte. -/
def frame : CanFrame :=
  { ext := false, id := 0x100, fdf := false, brs := false, esi := false, rtr := false, dlc := 1, data := [0xA5] }

/-- CAN channel 0 on its bus in mode 1 with its hidden state and objects. -/
def bus (x : CanChannel) (l : List (Nat × Nat)) : State :=
  { withObs (withCfs hostOnly [(Obj.canMode 0, 1), (Obj.canStrayQueue 0, 1)]) ((Obj.domainOn 3, 1) :: l) with
    can := [(0, { x with joinedAt := some 0 })] }
/-- A TX object 1 on channel 0, sent on a write, of identifier 0x100 and period 10 ms. -/
def txEntry : Nat := 0x100 + 2 * 2 ^ 40 + 2 ^ 50 + 10 * 2 ^ 64
/-- An RX object 2 on channel 0 of identifier 0x100 that times out after 10 ms. -/
def rxEntry : Nat := 0x100 + 2 ^ 40 + 10 * 2 ^ 64
/-- A frame of object 1 that waits since a tick. -/
def ofObject (since : Tick) : CanPending := { src := .object 1, ext := false, id := 0x100, dlc := 1, data := none, since := since }

theorem witness_CanFramesAndErrorsDoAsStated_frames :
    (let s := withCfs (bus {} []) [(domKey 0x6100 2, rxEntry)]
     s.canActive 0 = true ∧ frame.fdf = false ∧ { frame with rtr := true }.rtr = true ∧ frame.rtr = false ∧
     s.rxObject 0 frame.ext frame.id.toNat = some 2) ∧
    (let s := bus {} []
     s.rxObject 0 frame.ext frame.id.toNat = none ∧ s.mapClaims 0 frame.ext frame.id.toNat = none ∧
     s.serverClaims 0 frame.ext frame.id.toNat = false ∧ s.cf (Obj.canStrayQueue 0) = 1 ∧ (s.canCh 0).strays.length < 64) ∧
    (let s := withCfs (bus {} []) [(domKey 0x6100 1, txEntry)]
     State.moDir (s.moCfg 1) = 2 ∧ s.implementOf 1 = none ∧ s.heldByOther 0x6101 2 = false ∧ (128 : BitVec 32).toNat = 96 * 1 + 32 ∧
     (127 : BitVec 32).toNat % 96 ≠ 32 ∧ (96 : BitVec 32).toNat = 96 * 1 ∧ State.moOnWrite (s.moCfg 1) = true ∧
     s.canRuns (State.moChan (s.moCfg 1)) = true ∧ s.releasePasses 1 = true ∧ s.periodDue 1 = true) ∧
    (withCfs (bus {} []) [(domKey 0x6100 1, txEntry)]).Serves 2 .host host ∧
    State.moOnWrite (hostOnly.moCfg 8191) = false ∧
    (let s := withCfs (bus {} []) [(domKey 0x6100 2, rxEntry)]
     s.moHeard 2 = some 0 ∧ State.moDir (s.moCfg 2) = 1 ∧ State.moTime (s.moCfg 2) ≠ 0 ∧ bitAt (s.moOf 2).state 2 = false ∧
     s.passed 0 (ms (State.moTime (s.moCfg 2))) = true) ∧
    (bus {} []).onTheBus 0 = none ∧
    (let s := withCfs (bus { pend := [ofObject 0] } []) [(domKey 0x6100 1, txEntry), (Obj.canTxTimeout 0, 10)]
     s.onTheBus 0 = some (ofObject 0) ∧ s.nmOf 0 = false ∧ s.cf (Obj.canTxTimeout 0) ≠ 0 ∧ (s.canCh 0).aloneSince = none ∧
     s.passed (ofObject 0).since (ms (s.cf (Obj.canTxTimeout 0)) + 1) = true) ∧
    (let s := { bus {} [] with fab := { running.fab with canNotices := [(0, [{ ts := 0, ev := 1472, value := 0 }])] } }
     s.fab.canNotices.read [] 0 = [{ ts := 0, ev := 1472, value := 0 }] ∧ s.canActive 0 = true ∧ s.canListens 0 = false ∧
     (s.canCh 0).aloneSince = none ∧ s.noticeInTurn 0 = true) ∧
    (let s := bus { strays := [⟨false, 1, 0, false, false, false, 0, 0⟩] } []
     1 ≤ (1 : BitVec 8).toNat ∧ (1 : BitVec 8).toNat ≤ (s.canCh 0).strays.length ∧ (s.canCh 0).strays.length < (2 : BitVec 8).toNat) :=
  ⟨by decide, by decide, by decide, by unfold State.Serves; decide, by decide, by decide, by decide, by decide, by decide, by decide⟩

theorem witness_CanFramesAndErrorsDoAsStated_errors :
    (∀ tec ∈ [247, 248], ∀ n ∈ [14, 15], let s := bus { pend := [ofObject 0] } [(Obj.canTec 0, tec), (Obj.canAckRun 0, n)]
     s.nmOf 0 = false ∧ s.onTheBus 0 = some (ofObject 0) ∧ s.ob (Obj.canTec 0) = tec ∧ s.ob (Obj.canAckRun 0) = n ∧
     (s.canCh 0).aloneSince = none) ∧
    (∀ e ∈ [0, 1], let s := withCfs (bus {} []) [(Obj.canPxeEnable 0, e), (Obj.canMode 0, 3)]
     s.canActive 0 = true ∧ s.cf (Obj.canMode 0) = 3 ∧ s.cf (Obj.canPxeEnable 0) = e) ∧
    ((bus { exception := true } []).canCh 0).exception = true ∧
    (bus {} []).canRuns 0 = true ∧ ((bus {} []).canCh 0).fault = 0 ∧ ((bus { fault := 3 } []).canCh 0).fault = 3 ∧
    (let s := { bus {} [] with can := [] }
     s.canRuns 0 = true ∧ (s.canCh 0).joinedAt = none) ∧
    (let s := bus { busOffAt := some 0, recovering := true } []
     (s.canCh 0).busOffAt = some 0 ∧ s.canRuns 0 = true ∧ (s.canCh 0).recovering = true) ∧
    (let s := withCfs (bus { busOffAt := some 0 } []) [(Obj.canBusoffMode 0, 0)]
     s.cf (Obj.canBusoffMode 0) = 0 ∧ s.passed 0 (ms (s.cf (Obj.canBusoffDelay 0))) = true) ∧
    (∀ b ∈ [none, some 0], ∀ a ∈ [none, some 0], let s := { bus { busOffAt := b, aloneSince := a } [] with sessions := [maker] }
     (s.canCh 0).busOffAt = b ∧ (s.canCh 0).aloneSince = a) ∧
    running.Serves 1 .service maker ∧
    (let s := bus { aloneSince := some 0 } []
     s.canActive 0 = true ∧ (s.canCh 0).aloneSince ≠ none ∧ s.passed (s.canCh 0).lastTry (ms (s.cf (Obj.canAloneRetry 0))) = true) ∧
    (∀ st ∈ [0, 1, 2, 3], let s := withCfs (bus { claimAddr := 5, claimSent := some 0 } [(Obj.j1939ClaimState 0, st)]) [(Obj.j1939Enable 0, 1), (Obj.j1939Name 0, 9)]
     s.cf (Obj.j1939Enable 0) = 1 ∧ s.canActive 0 = true ∧ s.canListens 0 = false ∧ s.ob (Obj.j1939ClaimState 0) = st ∧
     s.coresRun = true ∧ (s.canCh 0).claimAddr = (5 : BitVec 8).toNat ∧ s.cf (Obj.j1939Name 0) < (10 : BitVec 64).toNat ∧
     (8 : BitVec 64).toNat < s.cf (Obj.j1939Name 0) ∧ bitAt (s.cf (Obj.j1939Name 0)) 63 = false ∧
     (s.canCh 0).claimSent = some 0 ∧ s.passed 0 (ms 250) = true) ∧
    (withObs running [(Obj.pwrState, pwrDipped), (Obj.domainOn 0, 0)]).coresRun = false :=
  ⟨by decide, by decide, by decide, by decide, by decide, by decide, by decide, by decide, by decide, by decide,
    by unfold State.Serves; decide, by decide, by decide, by decide⟩

/-- The ring on channel 0 under ID 3 in a state, with its hidden state and objects. -/
def ring (st : Nat) (r : Ring) (l : List (Nat × Nat)) : State :=
  { withObs (withCfs (bus {} []) [(Obj.nmEnable, 1), (Obj.nmId, 3), (Obj.nmHostId, 5), (Obj.nmMinAwake, 0)]) ((Obj.nmState, st) :: l) with
    ring := r }

theorem witness_RingSleepsAndWakesAsStated :
    (∀ st ∈ [1, 2, 3, 4, 5], let s := ring st {} []
     s.nmOn = true ∧ s.canActive s.nmChan = true ∧ s.ob Obj.nmState = st ∧ (3 : Fin 64).val = s.nmSelf ∧ (5 : Fin 64).val ≠ s.nmSelf ∧
     (5 : Fin 64).val = s.cf Obj.nmHostId ∧ s.bit Obj.presentMask 5 = false ∧ s.nmReason = 0) ∧
    (∀ d ∈ [0, 2 ^ 11, 2 ^ 13, 2 ^ 8], State.msgType d ≠ 3 ∧ bitsOf d 14 2 = 0 ∧ bitsOf d 56 8 = 0) ∧
    State.msgConsent 0 = false ∧ State.msgAck (2 ^ 11) = true ∧ State.msgResume (2 ^ 13) = true ∧ State.msgType (3 * 2 ^ 8) = 3 ∧
    (∀ st ∈ [1, 2], let s := ring st { turnAt := some 0, lastMsg := 0 } []
     s.ob Obj.nmState = st ∧ s.ring.turnAt = some 0 ∧ s.passed 0 (ms (s.cf Obj.nmTTyp)) = true ∧
     s.passed s.ring.lastMsg (ms (s.cf Obj.nmTMax)) = true) ∧
    (ring 1 { stay := true } []).nmReason ≠ 0 ∧
    (let s := withCfs (ring 1 { nodes := [(5, { last := 0, withheldSince := some 0 })] } [(Obj.presentMask, 2 ^ 5)]) [(Obj.nmKeeperTime, 200)]
     s.bit Obj.presentMask 5 = true ∧ s.bit Obj.keeperMask 5 = false ∧ (5 : Fin 64).val ≠ s.nmSelf ∧
     s.passed (s.nmNode 5).last (ms (s.cf Obj.nmTError)) = true ∧ (s.nmNode 5).withheldSince = some 0 ∧
     s.passed 0 (sec (s.cf Obj.nmKeeperTime)) = true) ∧
    (∀ stay ∈ [true, false], let s := ring 3 { prepareAt := 0, stay := stay } []
     s.ob Obj.nmState = 3 ∧ s.passed s.ring.prepareAt (ms (s.cf Obj.nmTWaitSleep)) = true ∧ (s.nmReason = 0) = (stay = false)) ∧
    (let s := ring 5 { lastLimp := 0 } []
     s.nmOn = true ∧ s.ob Obj.nmState = 5 ∧ s.passed s.ring.lastLimp (ms (s.cf Obj.nmTError)) = true) ∧
    (let s := withCfs (ring 4 {} []) [(Obj.swEnable 0, 1), (Obj.swId 0, 0x100), (Obj.swDlc 0, 1), (Obj.wakeEdge 0, 1), (Obj.wakeEdge 1, 2),
       (Obj.swWup 1, 1)]
     s.wakeArmed = true ∧ s.wufMatches 0 frame = true ∧ s.cf (Obj.wakeEdge 0) = 1 ∧ s.cf (Obj.wakeEdge 1) = 2 ∧
     s.cf (Obj.swEnable 1) ≠ 1 ∧ s.cf (Obj.swWup 1) = 1 ∧ s.cf (Obj.swEnable 0) = 1) ∧
    (let s := withObs running [(Obj.pwrState, pwrHalfMast)]
     s.wakeArmed = true ∧ s.lowered = true ∧ s.ob Obj.pwrState ≠ pwrFurled) ∧
    (∀ st ∈ [1, 3, 4], (ring st {} []).Serves 2 .host host ∧ (ring st {} []).ring.wakeReason = none) :=
  ⟨by decide, by decide, by decide, by decide, by decide, by decide, by decide, by decide, by decide, by decide, by decide, by decide,
    by decide, by unfold State.Serves; decide⟩

/-! ## Witnesses: power states, start-up, keys and the lifecycle -/

/-- `running` in a power state and a transition that enters another. -/
def moving (st tr into : Nat) : State :=
  { withObs running [(Obj.pwrState, st), (Obj.pwrTransition, tr)] with pw := { running.pw with entering := into } }

theorem witness_PowerStatesFollowTheVotes :
    hostOnly.Serves 2 .host host ∧ (0x7FFFF : BitVec 24).toNat < 2 ^ 19 ∧ 2 ^ 19 ≤ (0x80000 : BitVec 24).toNat ∧
    (let s := withObs running [(Obj.domainOn 18, 0)]
     s.applied = true ∧ s.awake = true ∧ s.domainIsOn (18 : Fin 19) ≠ s.domainDue (18 : Fin 19)) ∧
    (∀ u ∈ [0, sec 200], let s := { withCfs running [(Obj.standingMask, 0)] with pw := { running.pw with lowSince := some u } }
     s.pw.lowSince = some u ∧ s.applied = true ∧ s.ob Obj.pwrTransition = 0 ∧ s.ob Obj.pwrState < s.required ∧
     s.passed u (ms (s.cf Obj.linger)) = decide (u = 0)) ∧
    (let s := { running with pw := { running.pw with timers := [(2, sec 200)], holdUntil := some (sec 200) } }
     s.applied = true ∧ sec 200 ≤ s.now ∧ s.pw.timers.get? 2 = some (sec 200) ∧ (∀ x ∈ s.sessions, x.queue = []) ∧
     s.pw.holdUntil = some (sec 200)) ∧
    (let s := moving pwrHoisted 1 pwrDipped
     s.ob Obj.pwrTransition = 1 ∧ s.pw.entering = pwrDipped ∧ s.ob Obj.pwrState = pwrHoisted ∧ s.pw.captured = none) ∧
    (let s := moving pwrDipped 2 pwrDipped
     s.ob Obj.pwrTransition = 2 ∧ s.ob Obj.pwrState = pwrDipped ∧ (∀ x ∈ s.sessions, x.queue = []) ∧ s.anon = [] ∧
     (∀ c < 8, (s.canCh c).contending = none ∧ (s.sdoOf c).waiting = none)) ∧
    (∀ lf ∈ [true, false], let s := { moving pwrDipped 1 pwrHalfMast with tb := { running.tb with lfEstablished := lf } }
     s.mayPark = true ∧ s.tb.lfEstablished = lf) ∧
    (let s := { moving pwrHalfMast 2 pwrHoisted with sessions := [] }
     s.ob Obj.pwrTransition = 2 ∧ s.ob Obj.pwrState = pwrHalfMast ∧ s.boot.stage = .applied ∧ s.fab.held = [] ∧ s.fab.toLog = [] ∧
     s.sessions = [] ∧ s.anon = [] ∧ s.sdo = []) ∧
    (let s := moving pwrHalfMast 1 pwrFurled
     s.ob Obj.pwrTransition = 1 ∧ s.pw.entering = pwrFurled ∧ s.ob Obj.pwrState = pwrHalfMast ∧ s.pw.captured = none ∧
     s.ob Obj.debugState = 0) ∧
    (∀ tr ∈ [0, 1], let s := withCfs (moving pwrHalfMast tr pwrHalfMast) [(Obj.wakeEdge 3, 1)]
     s.wakeable 2 (3 : BitVec 16).toNat = true ∧ s.ob Obj.pwrTransition = tr ∧ pwrHalfMast ≤ s.ob Obj.pwrState ∧
     s.pw.captured = none) ∧
    (∀ st ∈ [pwrHoisted, pwrHalfMast], let s := withObs running [(Obj.pwrState, st), (Obj.rtcAlarm, 200)]
     s.alarmDue = true ∧ s.lowered = (st != pwrHoisted)) ∧
    (let s := withCfs (moving pwrHalfMast 0 0) [(Obj.parkFaultWake, 1), (Obj.gdMode 0, 1), (Obj.parkGdMask, 1)]
     s.parkedSignal 0 = some (mkSig clsGD 0) ∧ s.ob Obj.pwrState = pwrHalfMast ∧ s.severityOf 0 0 = .contained ∧ s.cf Obj.parkFaultWake = 1) ∧
    (running.pw.lfWait = false ∧ running.secure.haltWait = false ∧
     ({ running with secure := { running.secure with haltWait := true } } : State).secure.haltWait = true) :=
  ⟨by unfold State.Serves; decide, by decide, by decide, by decide, by decide, by decide, by decide, by decide, by decide, by decide,
    by decide, by decide, by decide, by decide, by decide⟩

/-- `running` at a stage of start-up, with the cause of the start. -/
def booting (stage : BootStage) (cause : Nat) : State :=
  { running with boot := { running.boot with stage := stage, nextCause := cause } }

theorem witness_UnitsStartAndStopAsStated :
    ((booting .off 6).boot.stage = .off ∧ (booting .off 6).ob Obj.pwrState ≠ pwrFurled ∧ (booting .off 6).boot.nextCause = 6) ∧
    (let s := withObs (booting .off 1) [(Obj.pwrState, pwrFurled)]
     s.boot.stage = .off ∧ s.ob Obj.pwrState = pwrFurled) ∧
    (∀ c ∈ [1, 2, 5, 6, 7, 9], (booting .flyReset c).boot.stage = .flyReset ∧ (booting .flyReset c).boot.nextCause = c) ∧
    (running.commits = [] ∧
     ∀ n < 7, ∀ c < 3, 2 * c + 2 ≤ n ∨ n = 2 * c + 1 ∨ n ≤ 2 * c) ∧
    (let s := withObs (booting .images 1) [(Obj.bootResult, 1)]
     s.boot.stage = .images ∧ s.upd.record = 0 ∧ s.boot.nextCause ≠ 9 ∧ s.ob Obj.bootResult ≠ 0) ∧
    (State.agree (running.copyOf 0) (running.copyOf 1) = true ∧ State.agree (running.copyOf 1) (running.copyOf 2) = true) ∧
    (let bad : ConfigCopy := { intact := false }
     let s := { running with ft := { running.ft with copies := [(0, bad), (1, bad), (2, bad)] } }
     ∀ c < 3, (s.copyOf c).intact = false) ∧
    (let s := booting .config 1
     s.boot.stage = .config ∧ s.cf Obj.strikeLevel + 1000 ≤ s.cf Obj.strikeLevel + 1000 ∧ s.upd.record = 0 ∧
     s.ob Obj.configSchema = s.ob Obj.schemaVersion ∧ s.boot.held = false) ∧
    (∀ a ∈ [1, 2], let s := { withObs running [(Obj.addrState, a)] with boot := { running.boot with sweeps := false } }
     s.applied = true ∧ s.boot.sweeps = false ∧ s.awake = true ∧ s.bit Obj.ftFlags 6 = false ∧ s.ob Obj.addrState = a) ∧
    running.flyRuns = true ∧
    (∀ told ∈ [true, false], let s := { running with boot := { running.boot with vstoreTold := told, vstoreReady := true } }
     s.boot.stage ≠ .off ∧ s.boot.vstoreTold = told ∧ s.applied = true ∧ s.awake = true ∧ s.boot.vstoreReady = true) ∧
    (running.strikeArmed = false ∨ (withCfs running [(Obj.strikeEnable, 0)]).strikeArmed = false) ∧
    (withCfs running [(Obj.strikeEnable, 1)]).strikeArmed = true := by
  decide

/-- A session of the role Maker with per-session objects, in a unit whose objects are given. -/
def keyed (l regs : List (Nat × Nat)) : State := { withObs running l with sessions := [{ maker with regs := regs }] }

/-- The hypothesis on `Config.unwrap` in the import of a key is on a free value, so no concrete state meets it by evaluation. -/
theorem witness_KeysAndLifecycleDoAsStated :
    (∀ op ∈ [1, 2, 3, 4], ∀ n ∈ [18, 127], let s := keyed [] [(Obj.kcSlot, n), (Obj.kcOp, op), (Obj.kcSource, 128)]
     17 < s.sob 1 Obj.kcSlot ∧ s.sob 1 Obj.kcSlot ≤ 127 ∧ s.sob 1 Obj.kcOp = op ∧ s.slotLoaded n = false ∧ s.slotBusy n = false ∧
     s.sourceRefuses { maker with regs := [(Obj.kcSlot, n), (Obj.kcOp, op), (Obj.kcSource, 128)] } 128 = some 4) ∧
    (keyed [] [(Obj.kcSlot, 18)]).Serves 1 .maker { maker with regs := [(Obj.kcSlot, 18)] } ∧
    (keyed [(Obj.keySlotState 18, 1)] [(Obj.kcSlot, 18)]).slotLoaded 18 = true ∧
    (let regs := [(Obj.kcSlot, 18), (Obj.kcOp, 3), (Obj.kcSource, 30), (Obj.kcAttr, 1), (Obj.kcBlobLen, 48)]
     let s := keyed [(Obj.keySlotState 30, 1), (Obj.keyPolicy 30, 2 ^ 4)] regs
     s.sourceRefuses { maker with regs := regs } 30 = none ∧ State.attrOk (s.sob 1 Obj.kcAttr) = true ∧
     bitAt (State.attrPolicy (s.sob 1 Obj.kcAttr)) 4 = false ∧ s.sob 1 Obj.kcBlobLen ≠ 0 ∧ s.slotLoaded 18 = false) ∧
    (∀ t ∈ [1, 2], (withObs running [(Obj.trngState, t)]).ob Obj.trngState = t) ∧
    (let j : CipherJob := { slot := 18, op := 0, mode := 0, level := 0, since := 0, iv := 0, aadLen := 0, tagLen := 0, tag := 0 }
     ({ running with sessions := [{ maker with job := some j }] } : State).slotBusy 18 = true) ∧
    (State.lcRoles 1 4 = [.maker, .vendor] ∧ State.lcRoles 1 1 = [] ∧ maker.role ∈ State.lcRoles 1 2 ∧
     State.lcRoles 0 1 ≠ [] ∧ maker.role ∉ State.lcRoles 0 1) ∧
    maker.lcToken = none ∧
    (let k : LcToken := { target := 2, token := 7, issued := sec 190 }
     let x := { maker with lcToken := some k }
     let s := { withObs running [(Obj.lifecycle, 1)] with sessions := [x] }
     x.lcToken = some k ∧ k.token ≠ (8 : BitVec 32).toNat ∧ k.token = (7 : BitVec 32).toNat ∧ s.now ≤ k.issued + sec 10 ∧
     sec 189 + sec 10 < s.now ∧ s.lifecycleOf = 1 ∧ s.lcPrerequisite s.lifecycleOf k.target = false ∧ s.ob Obj.debugState = 0 ∧
     s.secure.zeroWait = []) ∧
    (let s := withObs (withCfs running [(Obj.roleSlotHost, 18), (Obj.roleSlotService, 19), (Obj.roleSlotMaker, 20), (Obj.chainKeySlot, 21)])
       ([18, 19, 20, 21].flatMap fun n => [(Obj.keySlotState n, 1), (Obj.keyPolicy n, 2 ^ 2)])
     s.mayEnterFielded = true) :=
  ⟨by decide, by unfold State.Serves; decide, by decide, by decide, by decide, by decide, by decide, by decide, by decide, by decide⟩

/-! ## Witnesses: sessions, the secure engines, debug and burgee access -/

/-- A unit in Provisioned whose transport key stands for Maker, with CN0 on its bus and the generator passed. -/
def setting (l : List (Nat × Nat)) : State :=
  withObs (bus {} []) ([(Obj.lifecycle, 1), (Obj.trngState, 1), (Obj.keySlotState 17, 1)] ++ l)

/-- A setup of Maker that waits for MSG3. -/
def setup : Setup := { role := 2, hostId := 7, nH := 0, nD := 0, sent := sec 199 }

theorem witness_SessionsEnginesAndDebugDoAsStated_sessions :
    (∀ v ∈ [1, 2], (withObs running [(Obj.trngState, v)]).ob Obj.trngState = v) ∧
    ((setting []).setupServed 1 = true ∧ (setting []).setupCause (State.setupPath 1) 2 = [] ∧
     State.least ((setting [(Obj.trngState, 2)]).setupCause (State.setupPath 1) 2) = some 6) ∧
    (let s := { setting [] with secure := { running.secure with setups := [(1, setup)] } }
     s.setupServed 1 = true ∧ s.secure.setups.get? 1 = some setup ∧ s.setupCause (State.setupPath 1) setup.role = [] ∧
     (2 : BitVec 8).toNat = setup.role ∧ (7 : BitVec 32).toNat = setup.hostId ∧ s.sessions.length < 8 ∧
     s.now ≤ setup.sent + sec 1 ∧ s.passed setup.sent (sec 1) = true) ∧
    (let s := { running with secure := { running.secure with lockUntil := [(3, sec 200)] } }
     s.secure.lockUntil.get? 3 = some (sec 200) ∧ sec 200 ≤ s.poweredTime) ∧
    (running.session? 1 = some maker ∧ running.secure.zeroWait = [] ∧
     running.passed maker.last (sec (running.cf Obj.sessionIdle)) = decide (running.cf Obj.sessionIdle ≤ 200)) ∧
    running.Serves 1 .host maker ∧
    (let j : CipherJob := { slot := 20, op := 1, mode := 1, level := 0, since := 0, iv := 0, aadLen := 0, tagLen := 0, tag := 0 }
     let s := { running with sessions := [{ maker with job := some j }] }
     s.session? 1 = some { maker with job := some j } ∧ s.secure.zeroWait = [] ∧ ({ maker with job := some j } : Session).job ≠ none) ∧
    (let regs := [(Obj.cjSlot, 30), (Obj.cjOp, 1), (Obj.cjMode, 1), (Obj.cjIvLen, 16)]
     let s := keyed [(Obj.keySlotState 30, 1), (Obj.keyPolicy 30, 1), (Obj.keyType 30, 1)] regs
     let x := { maker with regs := regs }
     s.useRefuses x 30 (s.slotPolicy 30 (State.cipherPolicy 1) && decide (s.ob (Obj.keyType 30) ≤ 3)) = none ∧
     (keyed [] regs).useRefuses x 30 false = some 4 ∧ s.sob 1 Obj.cjAadLen ≤ x.buffer.length ∧
     State.cipherParams 1 (s.sob 1 Obj.cjMode) (s.sob 1 Obj.cjIvLen) (s.sob 1 Obj.cjTagLen) (s.sob 1 Obj.cjAadLen)
       (x.buffer.length - s.sob 1 Obj.cjAadLen) = true) ∧
    (let regs := [(Obj.pkSlot, 30), (Obj.pkOp, 1)]
     let s := keyed [(Obj.keySlotState 30, 1), (Obj.keyPolicy 30, 8), (Obj.keyType 30, 4)] regs
     let x := { maker with regs := regs }
     s.sob 1 Obj.pkOp = 1 ∧ s.useRefuses x 30 (s.slotPolicy 30 3 && s.ob (Obj.keyType 30) = 4) = none ∧ s.slotLoaded 30 = true ∧
     s.cf (Obj.keyUseRole 30) ≤ x.role.rank ∧ (keyed [] regs).useRefuses x 30 false = some 4) ∧
    (∀ op ∈ [2, 3], (keyed [] [(Obj.pkSlot, 0xFF), (Obj.pkOp, op)]).sob 1 Obj.pkOp = op ∧
      (keyed [] [(Obj.pkSlot, 0xFF), (Obj.pkOp, op)]).sob 1 Obj.pkSlot = 0xFF) :=
  ⟨by decide, by decide, by decide, by decide, by decide, by unfold State.Serves; decide, by decide, by decide, by decide, by decide⟩

theorem witness_SessionsEnginesAndDebugDoAsStated_debug :
    (∀ v ∈ [2 * 2 ^ 16 + 1, 2 * 2 ^ 16 + 3600], 1 ≤ v / 2 ^ 16 ∧ v / 2 ^ 16 ≤ 2 ∧ 1 ≤ v % 2 ^ 16 ∧ v % 2 ^ 16 ≤ 3600) ∧
    (State.debugCell 1 2 = .unlock [.maker, .vendor] ∧ maker.role ∈ [Role.maker, .vendor] ∧ State.debugCell 3 2 = .unlock [.vendor] ∧
     maker.role ∉ [Role.vendor] ∧ State.debugCell 4 2 = .none) ∧
    (∀ d ∈ [1, 2], let s := { withObs running [(Obj.debugState, d)] with secure := { running.secure with unlockUntil := some (sec 200) } }
     s.ob Obj.debugState ≠ 0 ∧ s.secure.haltedAt = none ∧ s.secure.extest = false ∧ s.secure.unlockUntil = some (sec 200) ∧
     sec 200 ≤ s.now ∧ (s.ob Obj.debugState = 1 ↔ d = 1)) ∧
    (running.Serves 1 .maker maker) ∧
    (let s := withObs running [(Obj.lifecycle, 0)]
     s.flyRuns = true ∧ s.awake = true ∧ s.ob Obj.debugState < 2 ∧ s.debugAvailable 2 = true) ∧
    (∀ lf ∈ [true, false], let s := { withObs running [(Obj.debugState, 2), (Obj.debugLevel, 2)] with
       tb := { running.tb with lfEstablished := lf } }
     s.applied = true ∧ s.ob Obj.debugState = 2 ∧ s.ob Obj.debugLevel = 2 ∧ s.awake = true ∧ s.ob Obj.pwrTransition = 0 ∧
     s.tb.lfEstablished = lf) ∧
    (∀ sw ∈ [true, false], let s := { running with secure := { running.secure with haltedAt := some 0 }, boot := { running.boot with sweeps := sw } }
     s.secure.haltedAt = some 0 ∧ s.boot.sweeps = sw) ∧
    (let s := withObs running [(Obj.lifecycle, 3), (Obj.debugState, 2), (Obj.debugLevel, 2)]
     s.lifecycleOf = 3 ∧ s.awake = true ∧ s.ob Obj.debugState = 2 ∧ s.ob Obj.debugLevel = 2) ∧
    ({ running with secure := { running.secure with extest := true } } : State).secure.extest = true :=
  ⟨by decide, by decide, by decide, by unfold State.Serves; decide, by decide, by decide, by decide, by decide, by decide⟩

/-- Burgee port 0 with its hidden state, the releases 0 and 15 enabled, and objects. -/
def lock (b : BurgeePort) (l : List (Nat × Nat)) : State :=
  { withObs (withCfs running [(Obj.bkeyEnable, 1), (Obj.lfEnable, 1), (Obj.relEnable 0, 1), (Obj.relEnable 15, 1)]) l with
    bg := { running.bg with ports := [(0, b), (1, b)] } }
/-- Implement entry 0 challenges through object 1 on CN0. -/
def implement (x : Implement) : State :=
  { withObs (withCfs (bus {} []) [(domKey 0x6100 1, txEntry), (Obj.implEnable 0, 1), (Obj.implTxMo 0, 1), (Obj.implPeriod 0, 1)])
      [(Obj.trngState, 1)] with bg := { running.bg with implements_ := [(0, x)] } }

theorem witness_BurgeeAccessDoesAsStated :
    (∀ u ∈ [none, some 0], let s := lock { lockUntil := u } []
     s.cf Obj.bkeyEnable ≠ 0 ∧ (s.bgPort 0).present = false ∧ s.boot.stage = .applied ∧ s.lowered = false ∧ s.lockedOut 0 = u.isSome) ∧
    (let s := lock { presentAt := some 0, present := true } []
     (s.bgPort 0).presentAt = some 0 ∧ s.exchangesRun = true ∧ s.passed 0 (ms (s.cf Obj.bkeySettle)) = true ∧
     s.ob (Obj.bgPortState 0) ≠ 2 ∧ (s.bgPort 0).present = true) ∧
    (let s := lock { presentAt := some 0 } [(Obj.bgPortState 0, 2), (Obj.bgPortState 1, 2)]
     s.exchangesRun = true ∧ s.ob (Obj.bgPortState 0) = 2 ∧ s.ob (Obj.bgPortState 1) = 2 ∧ (s.bgPort 0).presentAt ≠ none ∧
     (s.bgPort 1).presentAt ≠ none) ∧
    (let s := lock {} []
     s.applied = true ∧ s.cf Obj.lfEnable = 1 ∧ s.awake = true ∧ s.lowered = false ∧
     s.passed (s.bgPort 1).lastPoll (ms (s.cf Obj.lfPollPeriod)) = true ∧ s.ob (Obj.bgPortState 1) ≠ 2 ∧
     (s.bgPort 1).present = false ∧ s.lockedOut 1 = false) ∧
    (let s := lock { lockUntil := some (sec 200) } []
     (s.bgPort 0).lockUntil = some (sec 200) ∧ sec 200 ≤ s.poweredTime) ∧
    (lock {} []).Serves 1 .maker maker ∧
    (∀ v ∈ [1, 0x20, 0x27], v < 2 ∨ (0x20 ≤ v ∧ v < 0x28)) ∧ (∀ v ∈ [2, 0x1F, 0x28], 2 ≤ v ∧ v < 0x20 ∨ 0x28 ≤ v) ∧
    ((lock {} []).cf (Obj.relEnable 15) = 1 ∧ (lock {} []).cf (Obj.relEnable 1) ≠ 1 ∧ (lock {} []).ob (Obj.relState 15) = 0) ∧
    (let s := { lock {} [(Obj.relState 15, 1)] with bg := { running.bg with releases := [(15, { windowEnd := some (sec 200) })] } }
     (s.rel 15).windowEnd = some (sec 200) ∧ sec 200 ≤ s.now ∧ s.ob (Obj.relState 15) ≠ 0) ∧
    (let s := implement {}
     s.lockedOut (2 + 0) = false ∧ s.cf (Obj.implEnable 0) = 1 ∧ s.canActive (s.implChan 0) = true ∧ s.ob Obj.trngState = 1 ∧
     (s.impl 0).waiting = false ∧ s.challengeDue 0 = true) ∧
    (implement {}).Serves 2 .host host ∧
    (let s := implement { sentAt := some 0 }
     (s.impl 0).sentAt = some 0 ∧ s.passed 0 (ms 4) = true ∧ s.implResult 0 0 ≠ 1) :=
  ⟨by decide, by decide, by decide, by decide, by decide, by unfold State.Serves; decide, by decide, by decide, by decide, by decide,
    by decide, by unfold State.Serves; decide, by decide⟩

/-! ## Witnesses: the ledger, staging and activation -/

/-- The ledger in a state: enabled, with its key and its side of the state. -/
def logging (st : Nat) (l : Ledger) : State :=
  { withObs (withCfs running [(Obj.ledgerEnable, 1)]) [(Obj.keySlotState 16, 1), (Obj.domainOn 17, 1), (Obj.ledgerState, st)] with
    ledger := l }
/-- A record, and a page that is written or not. -/
def aRecord : LedgerRecord := { kind := 1, htime := 0, tbase := 0, unit := 1, sync := 0 }
def page (w : Option Tick) : LedgerPage :=
  { number := 1, kind := 1, flags := 0, epoch := 0, firstSeq := 0, prevHash := 0, written := w }

theorem witness_LedgerDoesAsStated :
    (let s := logging 3 { openPage := List.replicate 62 aRecord, openFirst := sec 200, nextPage := 1 }
     s.ledgerOn = true ∧ s.ob Obj.ledgerState ≠ 2 ∧ s.ledger.openPage ≠ [] ∧ s.ledger.nextPage % 65536 ≠ 0 ∧ s.ledger.gap = none ∧
     62 ≤ s.ledger.openPage.length) ∧
    (let s := logging 3 { openPage := [aRecord], nextPage := 65535 }
     s.ledger.nextPage % 65536 ≠ 0 ∧ s.passed s.ledger.openFirst (ms (s.cf Obj.ledgerSealTime)) = true) ∧
    (∀ n ∈ [2, 3], let s := logging 3 { pages := [page none], tries := n }
     s.ob Obj.ledgerState = 3 ∧ s.unwritten = some (page none) ∧ s.unwritten ≠ none ∧ s.ledger.tries = n) ∧
    (let s := logging 3 { pages := [page (some 0)], flushing := some 1 }
     s.ledger.flushing = some 1 ∧ (s.ledger.pages.take 1).getLast? = some (page (some 0)) ∧ s.ledger.flushing ≠ none) ∧
    (let s := logging 3 { pages := [page (some 0)] }
     s.ledger.pages = page (some 0) :: [] ∧ (page (some 0)).written = some 0 ∧
     s.passed 0 (ms (s.cf Obj.ledgerFlushTime)) = true ∧ s.ledger.flushing = none ∧ s.written ≠ 0 ∧ s.ledger.openPage = []) ∧
    (let s := logging 5 { faultAt := 0 }
     s.ob Obj.ledgerState = 5 ∧ s.passed s.ledger.faultAt (sec 10) = true) ∧
    (let s := logging 1 { nextPage := 1, head := (0, 0, 0, 0) }
     s.ledgerOn = true ∧ s.domainIsOn 17 = true ∧ s.ob Obj.ledgerState ≠ 5 ∧ (0 : BitVec 64).toNat = s.ledger.head.1 ∧
     (0 : BitVec 64).toNat < s.ledger.nextPage ∧ s.ledger.strike = [] ∧ s.unwritten = none) ∧
    ((logging 3 { pages := List.replicate 63 (page none), openPage := List.replicate 63 aRecord }).ledgerSpace = 4095) ∧
    (let s := logging 3 { pages := List.replicate 64 (page none) }
     s.ledgerOn = true ∧ 4096 ≤ s.ledgerSpace ∧ s.ledger.lastEv1170 = none) ∧
    (let s := logging 3 {}
     s.storeThere = true ∧ s.passed s.ledger.lastSmart (sec (s.cf Obj.ledgerSmartPeriod)) = decide (s.cf Obj.ledgerSmartPeriod ≤ 200) ∧
     (1 : BitVec 8).toNat ≠ s.ob Obj.ledgerSsdWarning ∧ s.written = 0) ∧
    (withCfs (logging 3 {}) [(Obj.ledgerSmartPeriod, 60)]).passed 0
      (sec ((withCfs (logging 3 {}) [(Obj.ledgerSmartPeriod, 60)]).cf Obj.ledgerSmartPeriod)) = true ∧
    (logging 3 {}).Serves 1 .maker maker ∧ (logging 3 {}).Serves 1 .host maker ∧ (logging 1 {}).storeThere = false := by
  refine ⟨?_, ?_, ?_, ?_, ?_, ?_, ?_, ?_, ?_, ?_, ?_, by unfold State.Serves; decide, by unfold State.Serves; decide, ?_⟩ <;> decide

/-- Area 2 in a state with image kind 1 and a valid header of versions 0 to 0xFFFF. -/
def staged (st : Nat) : State :=
  { withObs running [(Obj.areaState 2, st), (Obj.areaKind 2, 1), (Obj.areaBlocksExpected 2, 1), (Obj.areaImgSec 2, 0xFFFF)] with
    upd := { running.upd with areas := [(2, { blocks := [(0, { bytes := 0xFFFF * 2 ^ 144, valid := true })] })] } }

theorem witness_StagingDoesAsStated :
    ((staged 0).Serves 1 .service maker ∧ ∀ st ∈ [0, 5], (staged st).ob (Obj.areaState 2) = st) ∧
    (∀ o ∈ [0, 4100 * 63 + 4096], o % 4 = 0 ∧ o % 4100 + 4 ≤ 4100 ∧ o / 4100 < State.areaBlocks 2) ∧
    (¬ (4100 * 63 + 4098) % 4 = 0 ∧ ¬ (4100 * 64 / 4100 < State.areaBlocks 2)) ∧
    (let s := staged 1
     s.heldByOther 0x1F22 1 = false ∧
     ({ s with holds := [(0x1F22, { holder := 2, lastWrite := 0 })] } : State).heldByOther 0x1F22 1 = true) ∧
    (let w := 2 ^ 4100 - 2 ^ 4
     w ||| ((2 ^ 4 - 1) * 2 ^ 0) = 2 ^ 4100 - 1 ∧ 0 ||| ((2 ^ 4 - 1) * 2 ^ 0) ≠ 2 ^ 4100 - 1) ∧
    (crc32c [] ≠ 1 ∧ bitsOf (0xB1 * 2 ^ 40 + 2 ^ 32 + 0x4D495753) 0 32 = 0x4D495753 ∧ bitsOf (0xB1 * 2 ^ 40 + 2 ^ 32 + 0x4D495753) 40 8 = 0xB1 ∧
     bitsOf (0xB1 * 2 ^ 40 + 2 ^ 32 + 0x4D495753) 32 8 ∈ State.areaKinds 2) ∧
    ((staged 0).validBlocks 2 = 1 ∧ (2 : BitVec 8).toNat < 3 ∧ 3 ≤ (3 : BitVec 8).toNat ∧ (0xA5 : BitVec 8).toNat = 0xA5 ∧
     (0xA4 : BitVec 8).toNat ≠ 0xA5) := by
  refine ⟨⟨by unfold State.Serves; decide, by decide⟩, ?_, ?_, ?_, ?_, ?_, ?_⟩ <;> decide +kernel

/-- An accepted activation of a set. -/
def accepting (set : Nat) (s : State) : State := { s with upd := { s.upd with accepted := some set } }

theorem witness_ActivationsDoAsStated :
    (staged 3).Serves 1 .service maker ∧ 16 ≤ (16 : BitVec 8).toNat ∧ (15 : BitVec 8).toNat < 16 ∧
    (let s := staged 3
     State.kindsOf 1 = [1] ∧ s.ob (Obj.areaState (State.kindArea 1)) = 3 ∧ s.ob (Obj.areaKind (State.kindArea 1)) = 1 ∧
     s.header 2 16 2 = 0 ∧ s.header 2 18 2 = 0xFFFF ∧ s.ob Obj.compatEpoch ≤ 0xFFFF ∧ s.ob Obj.hoistMin ≤ s.ob Obj.hoistVersion ∧
     s.ob Obj.nodeMin ≤ s.ob Obj.nodeVersion ∧ State.names 1 2 = false ∧ s.ob (Obj.secMin 0) ≤ s.ob (Obj.areaImgSec 2) ∧
     s.upd.accepted = none ∧ s.ob Obj.updState = 0 ∧ s.distributing = false ∧ s.lifecycleOf ≠ 4) ∧
    (∀ set ∈ [1, 2, 4, 6, 8], let s := accepting set running
     s.upd.accepted = some set ∧ s.applied = true ∧ s.commits = [] ∧ s.sweepsRun = false) ∧
    (∀ v ∈ [0, 1, 2], let s := { withObs running [(Obj.configSchema, 1)] with
       upd := { running.upd with accepted := some 2, areas := [(0, { blocks := [(0, { bytes := v * 2 ^ 160, valid := true })] })], keep := some [] } }
     s.ob Obj.configSchema = 1 ∧ s.header 0 20 2 = v ∧ s.upd.keep = some []) ∧
    running.upd.accepted = none ∧
    (let s := { strand 2 {} [(Obj.bpNodeCount 0, 4096)] with upd := { running.upd with ports := [(0, { running := true })] } }
     s.distributes 0 = true ∧ s.ob (Obj.bpState 0) = 2 ∧ 4095 < s.ob (Obj.bpNodeCount 0)) ∧
    (∀ n ∈ [9, 10], let s := withCfs (withObs running [(Obj.ndPass 0, n)]) [(Obj.updNodePasses, 10)]
     s.cf Obj.updNodePasses = 10 ∧ s.ob (Obj.ndPass 0) = n) := by
  refine ⟨by unfold State.Serves; decide, ?_, ?_, ?_, ?_, ?_, ?_, ?_, ?_⟩ <;> decide

/-! ## Witnesses: tiles, lanes and faults -/

/-- `sweeping` with the tile states of reset and those given. -/
def tiles (l : List (Nat × Nat)) : State := withObs sweeping (l.map fun e => (Obj.tileState e.1, e.2))

theorem witness_TilesAndLanesDoAsStated :
    (∀ v ∈ [0, 1, 3], (tiles [(11, v)]).tileOf 1 5 = v) ∧
    ((tiles [(11, 1)]).spareOf 1 = some 5 ∧ (tiles [(11, 3)]).spareOf 1 = none ∧ (tiles [(7, 0)]).tileOf 1 1 = 0 ∧
     ¬((1 = 0 ∨ 1 = 2) ∧ 1 = 1)) ∧
    (∀ l ∈ [0, 1], (tiles [(6 * (2 * l) + 1, 0)]).runsOn (2 * l) 1 = some 1) ∧
    ((tiles [(11, 3), (23, 3)]).freeArbiter = 0xFF ∧ (tiles [(11, 1)]).freeArbiter = 1 ∧ (tiles [(11, 3), (23, 1)]).freeArbiter = 3 ∧
     (tiles [(6 * 0 + 5, 1)]).spareOf 0 = some 5 ∧ (tiles [(6 * 0 + 5, 3)]).spareOf 0 = none) ∧
    ((tiles []).sweepsRun = true ∧ (tiles []).segmentFrom (tiles []).eng.segment = 15 ∧ (tiles []).ft.unresolved = none ∧
     running.sweepsRun = false) ∧
    (let s := { tiles [] with ft := { running.ft with unresolved := some (16 * (tiles []).ob Obj.sweepCount + 15) } }
     s.ft.unresolved = some (16 * s.ob Obj.sweepCount + 15)) ∧
    (∀ a ∈ [1, 3], let s := { tiles [] with ft := { running.ft with loading := [(0, 5)], standing := [(0, a)] } }
     s.ft.loading.find? (fun x => x.2 / 8 == 0) = some (0, 8 * 0 + 5) ∧ s.ft.standing.find? (fun x => x.1 == 0) = some (0, a)) := by
  refine ⟨?_, ?_, ?_, ?_, ?_, ?_, ?_⟩ <;> decide

theorem witness_FaultsAndOnlineTestsDoAsStated :
    (∀ v ∈ [0xFF, 15], (withObs running [(Obj.sramSpare, v), (Obj.mramSpare, v)]).ob Obj.sramSpare = v ∧
      (withObs running [(Obj.sramSpare, v), (Obj.mramSpare, v)]).ob Obj.mramSpare = v) ∧
    ((withObs running [(Obj.phases, 0x1F)]).bit Obj.phases 4 = true ∧ (withObs running [(Obj.phases, 0x0F)]).bit Obj.phases 4 = false) ∧
    (let s := withCfs gateOn [(Obj.stageTestPeriod, 200), (Obj.gdMode 1, 1)]
     mkSig clsGD 1 ∈ State.directSigs ∧ s.cf Obj.stageTestPeriod ≠ 0 ∧ s.applied = true ∧ s.awake = true ∧ s.hoist.safe = false ∧
     s.disabled (mkSig clsGD 1) = false ∧ mkSig clsGD 1 ∉ s.ft.stagesOff ∧ s.stageIdle (mkSig clsGD 1) = true ∧
     s.passed (s.ft.tested.read 0 (mkSig clsGD 1)) (sec (s.cf Obj.stageTestPeriod)) = true) ∧
    (let s := withCfs (tiles [(11, 1)]) [(Obj.spareTestPeriod, 200)]
     s.sweepsRun = true ∧ s.tileOf 1 5 = 1 ∧ s.passed (s.ft.tested.read 0 (2 ^ 24 + 1)) (ms (s.cf Obj.arbCheckPeriod)) = true ∧
     s.spareOf 1 = some 5 ∧ s.awake = true ∧ s.passed (s.ft.tested.read 0 (2 ^ 24 + 4 + 1)) (sec (s.cf Obj.spareTestPeriod)) = true) ∧
    (running.boot.stage ≠ .off ∧ running.boot.stage ≠ .flyReset ∧ running.applied = true ∧
     running.passed (running.ft.tested.read 0 (2 ^ 24 + 8)) (ms 100) = true ∧
     running.passed (running.ft.tested.read 0 (2 ^ 24 + 10)) (sec 1) = true) ∧
    (∀ u ∈ [sec 140, sec 140 + 1], running.passed u (sec 60) = decide (u = sec 140)) ∧
    (let c (g : Nat) (r : Regs) : ConfigCopy := { generation := g, regs := r }
     let s := { running with ft := { running.ft with copies := [(0, c 1 []), (1, c 1 []), (2, { intact := false })] },
                             tb := { running.tb with count := sec 900000 } }
     State.agree (s.copyOf 0) (s.copyOf 1) = true ∧ s.passed (s.ft.tested.read 0 (2 ^ 24 + 9)) (sec (3600 * s.cf Obj.mramScrubPeriod)) = true) ∧
    (let s := { running with ft := { running.ft with copies := [(0, { generation := 1, regs := [] }), (1, { generation := 2, regs := [(1, 1)] })] } }
     (s.copyOf 0).intact = true ∧ (s.copyOf 1).intact = true ∧ (s.copyOf 0).regs ≠ (s.copyOf 1).regs ∧
     (s.copyOf 0).generation < (s.copyOf 1).generation) ∧
    running.Serves 1 .service maker ∧ running.Serves 1 .maker maker ∧
    (∀ v ∈ [0, 2 ^ 7], (withObs running [(Obj.ftFlags, v)]).bit Obj.ftFlags 7 = decide (v ≠ 0)) ∧
    (let most (p q r u : Int) : Nat := (max (max p q) (max r u) - min (min p q) (min r u)).toNat
     150 < most 100 251 200 200 ∧ most 250 250 250 400 ≤ 150 ∧ 450 < (701 - 250 : Int).natAbs ∧ most 700 700 700 700 ≤ 150 ∧
     (695 - 250 : Int).natAbs ≤ 450 ∧ 60 < most 1000 1061 1000 1000 ∧ ¬ 60 < most 1000 1060 1000 1000) ∧
    (let s := { running with ft := { running.ft with withinSince := some (sec 199) } }
     s.ft.withinSince = some (sec 199) ∧ s.passed (sec 199) (sec 1) = true) ∧ running.ft.withinSince = none := by
  refine ⟨?_, ?_, ?_, ?_, ?_, ?_, ?_, ?_, by unfold State.Serves; decide, by unfold State.Serves; decide, ?_, ?_, ?_, ?_⟩ <;> decide

/-! ## Single commands, with results worked out by hand from the rules -/

/-- What a command leaves of a state, if it answers a next state. -/
def after (c : Instr) (s : State) (p : State → Bool) : Bool :=
  match exec c s with
  | .next t => p t
  | _ => false

theorem test_reset_runs_no_die : State.reset.flyRuns = false := by decide
/-- The check value of CRC-32C. -/
theorem test_crc32c : crc32c [0x31, 0x32, 0x33, 0x34, 0x35, 0x36, 0x37, 0x38, 0x39] = 0xE3069283 := by decide +kernel
/-- R15: a word that has been applied before is discarded, and counted as a duplicate. -/
theorem test_die_link_duplicate :
    after (.dieLinkWord 0 0 (.input 3 true)) running (fun t => t.link.toFly.next == 1 && t.link.duplicates == 0) = true ∧
    after (.dieLinkWord 1 0 (.input 3 true)) { running with link := { running.link with toFly := { next := 1 } } }
      (fun t => t.link.toFly.next == 1 && t.link.duplicates == 1) = true := by decide
/-- R237: a resistance below 0.2 mΩ is rejected. -/
theorem test_calibration_limits : running.calRejected 0 199 250 = true ∧ running.calRejected 0 200 250 = false := by decide
/-- R245: signal temperatures above their limit warn once. -/
theorem test_temperature_warns :
    after (.temperatureSample 2000 0 0 0 0) running (fun t => t.warm == [64]) = true := by decide
/-- R348: a vote for the domains of a mask, and a reserved bit of it. -/
theorem test_vote :
    after (.placeHostVote 2 1) hostOnly (fun t => bitAt (t.pw.votes.read 0 0) 0 && t.reply.status == .success) = true ∧
    after (.placeHostVote 2 0x80000) hostOnly (fun t => t.reply.status == .reservedBit) = true := by decide
/-- R296: a reset zeroes the count at the tick of the command. -/
theorem test_timer_reset :
    after (.tmrReset 1 0) (timer { running := true, base := 5, since := 0 }) (fun t => (t.tmr 0).base == 0) = true := by decide
/-- R322: 17 strays cannot be acknowledged where one waits. -/
theorem test_stray_ack :
    after (.strayAck 2 0 1) (bus { strays := [⟨false, 1, 0, false, false, false, 0, 0⟩] } []) (fun t => (t.canCh 0).strays == []) = true ∧
    after (.strayAck 2 0 17) (bus { strays := [⟨false, 1, 0, false, false, false, 0, 0⟩] } [])
      (fun t => t.reply.status == .valueRange) = true := by decide
/-- The queue is first in, first out: the front command runs, the rest stays. -/
theorem test_queue :
    (match step { hostOnly with pending := [.placeHostVote 2 0x80000, .sequencerFault] } with
     | .next t => t.pending == [.sequencerFault] && t.reply.status == .reservedBit
     | _ => false) = true := by decide

end Sys2Proof.Tests
end

/-!
What an operation that only shows objects and posts events leaves alone: every other part of the state (`State.Shows`), and
the objects outside a list (`State.ObjectsBut`). One lemma per operation.
-/

namespace Sys2Proof.Machine.State

/-- `t` is `s` with nothing changed but objects and the events under way. -/
def Shows (s t : State) : Prop := t = { s with obj := t.obj, fab := t.fab }

theorem Shows.refl (s : State) : s.Shows s := rfl

theorem Shows.trans {s t u : State} (h : s.Shows t) (k : t.Shows u) : s.Shows u := by
  unfold Shows at h k ⊢
  rw [k, h]

theorem Shows.tb {s t : State} (h : s.Shows t) : t.tb = s.tb := by unfold Shows at h; rw [h]
theorem Shows.link {s t : State} (h : s.Shows t) : t.link = s.link := by unfold Shows at h; rw [h]

theorem shows_setOb (s : State) (k v : Nat) : s.Shows (s.setOb k v) := rfl
theorem shows_setBit (s : State) (k i : Nat) (b : Bool) : s.Shows (s.setBit k i b) := rfl
theorem shows_post (s : State) (ev v : Nat) : s.Shows (s.post ev v) := rfl

theorem shows_postIf (s : State) (c : Bool) (ev v : Nat) : s.Shows (s.postIf c ev v) := by
  cases c
  · exact .refl s
  · exact shows_post s ev v

theorem shows_forRange (n : Nat) {f : State → Nat → State} (h : ∀ s a, Shows s (f s a)) (s : State) :
    s.Shows (forRange n f s) := by
  unfold forRange
  induction List.range n generalizing s with
  | nil => exact .refl s
  | cons a l ih => exact (h s a).trans (ih _)

theorem objectsBut_refl (s : State) (own : List Nat) : s.ObjectsBut s own := fun _ _ => rfl

theorem objectsBut_setOb {s t : State} {own : List Nat} (h : s.ObjectsBut t own) {k : Nat} (hk : k ∈ own) (v : Nat) :
    s.ObjectsBut (t.setOb k v) own := fun j hj =>
  (ob_setOb_other t v (ne_of_mem_of_not_mem hk hj)).trans (h j hj)

theorem objectsBut_setBit {s t : State} {own : List Nat} (h : s.ObjectsBut t own) {k : Nat} (hk : k ∈ own) (i : Nat) (b : Bool) :
    s.ObjectsBut (t.setBit k i b) own := objectsBut_setOb h hk _

theorem objectsBut_post {s t : State} {own : List Nat} (h : s.ObjectsBut t own) (ev v : Nat) :
    s.ObjectsBut (t.post ev v) own := h

theorem objectsBut_postIf {s t : State} {own : List Nat} (h : s.ObjectsBut t own) (c : Bool) (ev v : Nat) :
    s.ObjectsBut (t.postIf c ev v) own := fun j hj => (ob_postIf t c ev v j).trans (h j hj)

/-- An event on its way stays so when another one may be posted. -/
theorem mem_inFlight_postIf {s : State} {o : Occ} (h : o ∈ s.fab.inFlight) (c : Bool) (ev v : Nat) :
    o ∈ (s.postIf c ev v).fab.inFlight := by
  cases c
  · exact h
  · exact List.mem_append_left _ h

/-- What is posted is on its way. -/
theorem raised_post (s : State) (ev v : Nat) : (s.post ev v).Raised s.now ev v :=
  List.mem_append_right _ (List.mem_singleton_self _)

/-- An event with a value of 32 bits is on its way with that value. -/
theorem mem_of_raised {t : State} {at_ : Tick} {ev v : Nat} (h : t.Raised at_ ev v) (fits : v < 2 ^ 32) :
    ⟨at_, ev, v⟩ ∈ t.fab.inFlight := by
  have e : v % 2 ^ 32 = v := Nat.mod_eq_of_lt fits
  exact e ▸ h

end Sys2Proof.Machine.State

/-!
An idle tick of the timebase (R21, R22, R226): what one frequency input does at it, and what the four of them do together.
-/

namespace Sys2Proof.Machine.State

/-! ## One frequency input -/

@[simp] theorem tachCh_setTach_same (s : State) (i : Nat) (x : Tach) : (s.setTach i x).tachCh i = x :=
  Table.read_write_same _ _ _ _

@[simp] theorem tachCh_setTach_other (s : State) {i j : Nat} (x : Tach) (h : i ≠ j) : (s.setTach i x).tachCh j = s.tachCh j :=
  Table.read_write_other _ _ _ _ h

@[simp] theorem tachCh_postIf (s : State) (c : Bool) (ev v i : Nat) : (s.postIf c ev v).tachCh i = s.tachCh i := by
  cases c <;> rfl

/-- `t` is `s` with nothing changed but the frequency inputs and the events under way. -/
def TachFrame (s t : State) : Prop := t = { s with tach := t.tach, fab := t.fab }

theorem TachFrame.refl (s : State) : s.TachFrame s := rfl

theorem TachFrame.trans {s t u : State} (h : s.TachFrame t) (k : t.TachFrame u) : s.TachFrame u := by
  unfold TachFrame at h k ⊢
  rw [k, h]

theorem TachFrame.tb {s t : State} (h : s.TachFrame t) : t.tb = s.tb := by unfold TachFrame at h; rw [h]
theorem TachFrame.now {s t : State} (h : s.TachFrame t) : t.now = s.now := congrArg TimeBase.count h.tb
theorem TachFrame.cf {s t : State} (h : s.TachFrame t) (k : Nat) : t.cf k = s.cf k := by unfold TachFrame at h; rw [h]; rfl
theorem TachFrame.ob {s t : State} (h : s.TachFrame t) (k : Nat) : t.ob k = s.ob k := by unfold TachFrame at h; rw [h]; rfl
theorem TachFrame.awake {s t : State} (h : s.TachFrame t) : t.awake = s.awake := by
  simp only [State.awake, h.ob]

theorem tachFrame_postIf (s : State) (c : Bool) (ev v : Nat) : s.TachFrame (s.postIf c ev v) := by cases c <;> rfl

theorem tachFrame_tachThresholds (s : State) (i f : Nat) : s.TachFrame (s.tachThresholds i f) :=
  ((tachFrame_postIf s _ _ _).trans (tachFrame_postIf _ _ _ _)).trans rfl

/-- Thresholds crossed add events to those under way. -/
theorem inFlight_tachThresholds (s : State) (i f : Nat) : s.fab.inFlight ⊆ (s.tachThresholds i f).fab.inFlight := fun _ ho =>
  mem_inFlight_postIf (mem_inFlight_postIf ho _ _ _) _ _ _

/-- A frequency below TACH_LO posts the input's second event and disarms it (R220, R226). -/
theorem tachThresholds_below {s : State} {i f : Nat} (fresh : (s.tachCh i).fresh = false) (armed : (s.tachCh i).armLo = true)
    (low : f < s.cf (Obj.tachLo i)) :
    (s.tachThresholds i f).Raised s.now (432 + 4 * i + 1) f ∧ ((s.tachThresholds i f).tachCh i).armLo = false := by
  have dn : decide ((f : Int) < (s.cf (Obj.tachLo i) : Int)) = true := by simpa using low
  constructor
  · simp only [tachThresholds, thresholds, fresh, armed, dn]
    exact now_postIf s _ _ _ ▸ raised_post _ _ _
  · simp [tachThresholds, thresholds, low]

/-- An input meets its thresholds at an idle tick where the block is awake and the input is enabled and has a frequency (R226). -/
def tachMeets (s : State) (i : Nat) : Bool := s.awake && s.cf (Obj.tachEnable i) = 1 && !(s.tachCh i).fresh

theorem tachDecay_of_not_meets {s : State} {i : Nat} (h : s.tachMeets i = false) : s.tachDecay i = s := by
  unfold tachMeets at h
  simp [tachDecay, h]

theorem tachDecay_of_meets {s : State} {i : Nat} (h : s.tachMeets i = true) :
    s.tachDecay i = s.tachThresholds i (s.tachFreqNow i) := by
  unfold tachMeets at h
  simp [tachDecay, h]

theorem tachFrame_tachDecay (s : State) (i : Nat) : s.TachFrame (s.tachDecay i) := by
  unfold tachDecay
  split
  · exact tachFrame_tachThresholds s i _
  · exact .refl s

theorem inFlight_tachDecay (s : State) (i : Nat) : s.fab.inFlight ⊆ (s.tachDecay i).fab.inFlight := by
  unfold tachDecay
  split
  · exact inFlight_tachThresholds s i _
  · exact List.Subset.refl _

theorem tachCh_tachDecay_other (s : State) {i j : Nat} (h : i ≠ j) : (s.tachDecay i).tachCh j = s.tachCh j := by
  unfold tachDecay
  split
  · simp [tachThresholds, thresholds, h]
  · rfl

theorem edges_tachDecay (s : State) (i : Nat) : ((s.tachDecay i).tachCh i).edges = (s.tachCh i).edges := by
  unfold tachDecay
  split
  · simp [tachThresholds]
  · rfl

/-! ## The tick -/

/-- `t` is `s` after other frequency inputs than `i` have met their thresholds. -/
structure DecaysBeside (i : Nat) (s t : State) : Prop where
  frame : s.TachFrame t
  same : t.tachCh i = s.tachCh i
  posted : s.fab.inFlight ⊆ t.fab.inFlight

theorem decaysBeside_foldl {i : Nat} (l : List Nat) (h : i ∉ l) (s : State) : DecaysBeside i s (l.foldl tachDecay s) := by
  induction l generalizing s with
  | nil => exact ⟨.refl s, rfl, List.Subset.refl _⟩
  | cons j l ih =>
    obtain ⟨hj, hl⟩ := not_or.mp (mt List.mem_cons.mpr h)
    obtain ⟨frame, same, posted⟩ := ih hl (s.tachDecay j)
    exact ⟨(tachFrame_tachDecay s j).trans frame, same.trans (tachCh_tachDecay_other s (Ne.symm hj)),
      fun _ ho => posted (inFlight_tachDecay s j ho)⟩

/-- A tick is a period of the timebase, the inputs before one of them, that one, and those after it. -/
theorem tick_around (s : State) {i : Nat} (hi : i < 4) :
    ∃ u, DecaysBeside i s.idle u ∧ DecaysBeside i (u.tachDecay i) s.tick := by
  obtain ⟨before, rest, split⟩ := List.append_of_mem (List.mem_range.mpr hi)
  have nodup := split ▸ List.nodup_range (n := 4)
  obtain ⟨hb, hr⟩ : i ∉ before ∧ i ∉ rest := by
    have := (List.nodup_middle.mp nodup).notMem
    simpa using this
  refine ⟨before.foldl tachDecay s.idle, decaysBeside_foldl before hb _, ?_⟩
  have e : s.tick = rest.foldl tachDecay ((before.foldl tachDecay s.idle).tachDecay i) := by
    rw [tick, forRange, split, List.foldl_append, List.foldl_cons]
  exact e ▸ decaysBeside_foldl rest hr _

theorem idle_eq (s : State) : s.idle = { s with tb := s.idle.tb } := by
  unfold idle
  split <;> rfl

theorem tachFrame_tick (s : State) : s.idle.TachFrame s.tick := by
  obtain ⟨u, before, rest⟩ := s.tick_around (i := 0) (by decide)
  exact (before.frame.trans (tachFrame_tachDecay u 0)).trans rest.frame

theorem tb_tick (s : State) : s.tick.tb = s.idle.tb := s.tachFrame_tick.tb

/-- The state at the new time, before any input has met its thresholds. -/
theorem with_tb_tick (s : State) : { s with tb := s.tick.tb } = s.idle := by rw [tb_tick, ← idle_eq]

theorem tick_eq (s : State) : s.tick = { s with tb := s.tick.tb, tach := s.tick.tach, fab := s.tick.fab } := by
  have e := s.tachFrame_tick
  rw [← with_tb_tick] at e
  exact e

theorem tb_idle_running {s : State} (lock : s.tb.pllLocked = true) (lf : s.tb.lfMode = false) :
    s.idle.tb = { s.tb with count := (s.tb.count + 1) % 2 ^ 64 } := by simp [idle, lock, lf]

theorem tb_idle_stopped {s : State} (h : s.tb.pllLocked = false ∨ s.tb.lfMode = true) : s.idle.tb = s.tb := by
  rcases h with h | h <;> simp [idle, h]

/-- An input meets its thresholds by the block's objects and configuration and by its own state alone. -/
theorem tachMeets_frame {i : Nat} {s t : State} (h : s.TachFrame t) (same : t.tachCh i = s.tachCh i) :
    t.tachMeets i = s.tachMeets i := by
  simp only [tachMeets, h.awake, h.cf, same]

theorem tachFreqNow_frame {i : Nat} {s t : State} (h : s.TachFrame t) (same : t.tachCh i = s.tachCh i) :
    t.tachFreqNow i = s.tachFreqNow i := by
  simp only [tachFreqNow, h.ob, h.now, same]

theorem tachMeets_idle (s : State) (i : Nat) : s.idle.tachMeets i = s.tachMeets i := by rw [idle_eq]; rfl
theorem tachCh_idle (s : State) (i : Nat) : s.idle.tachCh i = s.tachCh i := by rw [idle_eq]; rfl
theorem cf_idle (s : State) (k : Nat) : s.idle.cf k = s.cf k := by rw [idle_eq]; rfl

theorem edges_tick (s : State) {i : Nat} (hi : i < 4) : (s.tick.tachCh i).edges = (s.tachCh i).edges := by
  obtain ⟨u, before, rest⟩ := s.tick_around hi
  rw [rest.same, edges_tachDecay, before.same, tachCh_idle]

theorem tachCh_tick_of_not_meets {s : State} {i : Nat} (hi : i < 4) (h : s.tachMeets i = false) :
    s.tick.tachCh i = s.tachCh i := by
  obtain ⟨u, before, rest⟩ := s.tick_around hi
  have hu : u.tachMeets i = false := by rw [tachMeets_frame before.frame before.same, tachMeets_idle, h]
  rw [rest.same, tachDecay_of_not_meets hu, before.same, tachCh_idle]

/-- Where no input meets its thresholds a tick is the timebase's alone. -/
theorem tick_eq_idle {s : State} (h : ∀ i < 4, s.tachMeets i = false) : s.tick = s.idle := by
  have fold : ∀ l : List Nat, (∀ i ∈ l, i < 4) → l.foldl tachDecay s.idle = s.idle := fun l hl => by
    induction l with
    | nil => rfl
    | cons i l ih =>
      have hi : s.idle.tachMeets i = false := (tachMeets_idle s i).trans (h i (hl i List.mem_cons_self))
      rw [List.foldl_cons, tachDecay_of_not_meets hi, ih fun j hj => hl j (List.mem_cons_of_mem i hj)]
  exact fold _ fun i hi => List.mem_range.mp hi

/-- An input whose frequency has fallen below TACH_LO tells it once (R226). -/
theorem tick_below {s : State} {i : Nat} (hi : i < 4) (meets : s.tachMeets i = true) (armed : (s.tachCh i).armLo = true)
    (low : s.idle.tachFreqNow i < s.cf (Obj.tachLo i)) :
    s.tick.Raised s.tick.now (432 + 4 * i + 1) (s.idle.tachFreqNow i) ∧ (s.tick.tachCh i).armLo = false := by
  obtain ⟨u, before, rest⟩ := s.tick_around hi
  have hu : u.tachMeets i = true := by rw [tachMeets_frame before.frame before.same, tachMeets_idle, meets]
  have ch : u.tachCh i = s.tachCh i := before.same.trans (tachCh_idle s i)
  have cf : u.cf (Obj.tachLo i) = s.cf (Obj.tachLo i) :=
    (before.frame.cf _).trans (cf_idle s _)
  have fresh : (u.tachCh i).fresh = false := by
    unfold tachMeets at hu
    simp only [Bool.and_eq_true, Bool.not_eq_true'] at hu
    exact hu.2
  have freq : u.tachFreqNow i = s.idle.tachFreqNow i := tachFreqNow_frame before.frame before.same
  have now : s.tick.now = u.now := ((tachFrame_tachDecay u i).trans rest.frame).now
  obtain ⟨posted, off⟩ := tachThresholds_below fresh (ch ▸ armed) (freq ▸ cf ▸ low)
  rw [← tachDecay_of_meets hu] at posted off
  rw [now, ← freq]
  exact ⟨rest.posted posted, rest.same ▸ off⟩

end Sys2Proof.Machine.State

namespace Sys2Proof.Machine

/-- Settles O2: a step on an empty queue is `State.tick`, which moves the timebase and then each frequency input. -/
theorem idleStepsAndWordsDoNothingElse : Obligations.IdleStepsAndWordsDoNothingElse := by
  unfold Obligations.IdleStepsAndWordsDoNothingElse
  refine ⟨fun s empty => ⟨s.tick, by simp [step, empty], s.tick_eq, ?_, ?_, fun i hi => ⟨s.edges_tick hi, ?_⟩, ?_, ?_⟩,
    fun _ _ _ => ⟨rfl, rfl⟩⟩
  · exact fun lock lf => s.tb_tick.trans (State.tb_idle_running lock lf)
  · exact fun h => s.tb_tick.trans (State.tb_idle_stopped h)
  · intro h
    refine State.tachCh_tick_of_not_meets hi ?_
    rcases h with h | h <;> simp [State.tachMeets, h]
  · intro h
    rw [State.with_tb_tick]
    refine State.tick_eq_idle fun i hi => ?_
    rcases h i hi with h | h | h <;> simp [State.tachMeets, h]
  · intro i awake enabled fresh armed low
    rw [State.with_tb_tick] at low ⊢
    exact State.tick_below i.isLt (by simp [State.tachMeets, awake, enabled, fresh]) armed low

end Sys2Proof.Machine

/-!
The die link (R15, R16, R463) and the clocks (R22–R24): what a word, a lane's failure and test, and the loss of a clock do.
-/

namespace Sys2Proof.Machine.State

/-! ## Words of the die link (R15) -/

/-- A number below the next one has been taken before. -/
theorem linkDirTake_old {d : LinkDir} {seq : Nat} (h : seq < d.next) : LinkDirTake d seq = (false, d) := by
  simp [LinkDirTake, h]

/-- The next number is new, and the one after it is next. -/
theorem linkDirTake_next (seq : Nat) : LinkDirTake { next := seq } seq = (true, { next := seq + 1 }) := by
  simp [LinkDirTake]

/-- A word drives its output or finds it as it stands; no more than switching moves. -/
theorem quiet_applyWord_command (own : List Nat) (s : State) (sig : BitVec 24) (v : BitVec 16) :
    (s.applyWord (.command sig v)).quiet own =
      ({ s with link := { s.link with commands := s.link.commands.put sig.toNat v.toNat } } : State).quiet own := by
  unfold applyWord
  dsimp only
  split
  · rfl
  · exact drive_quiet _ _ _

/-- A command word that is next takes effect (R15). -/
theorem linkWord_command {s : State} {seq : Nat} (next : s.link.toHoist = { next := seq }) (sig : BitVec 24) (v : BitVec 16) :
    (s.linkWord seq (.command sig v)).link =
        { s.link with toHoist := { next := seq + 1 }, commands := s.link.commands.put sig.toNat v.toNat } ∧
      Switches { s with link := (s.linkWord seq (.command sig v)).link } (s.linkWord seq (.command sig v)) [] := by
  have e : s.linkWord seq (.command sig v) =
      ({ s with link := { s.link with toHoist := { next := seq + 1 } } } : State).applyWord (.command sig v) := by
    simp [linkWord, next, linkDirTake_next]
  have quiet := e ▸ quiet_applyWord_command [] _ sig v
  have link := congrArg State.link quiet
  refine ⟨link, switches_of_quiet (quiet.trans ?_)⟩
  exact link ▸ rfl

/-! ## Lanes (R16, R463) -/

@[simp] theorem lane_setLane_same (s : State) (l : Nat) (x : LinkLane) : (s.setLane l x).lane l = x :=
  Table.read_write_same _ _ _ _

@[simp] theorem lane_setLane_other (s : State) {l m : Nat} (x : LinkLane) (h : l ≠ m) : (s.setLane l x).lane m = s.lane m :=
  Table.read_write_other _ _ _ _ h

/-- The objects that show which lanes and spares are in service. -/
def laneObjects : List Nat := [Obj.laneState, Obj.ftFlags, Obj.arbiter]

theorem shows_showFaults (s : State) : s.Shows s.showFaults := by
  unfold showFaults
  extract_lets none_ was used alone s1 s2 s3
  have h3 : s.Shows s3 := rfl
  exact h3.trans (shows_postIf s3 _ _ _)

theorem objectsBut_showFaults {own : List Nat} (flags : Obj.ftFlags ∈ own) (arb : Obj.arbiter ∈ own) (s : State) :
    s.ObjectsBut s.showFaults own := by
  unfold showFaults
  extract_lets none_ was used alone s1 s2 s3
  refine objectsBut_postIf ?_ _ _ _
  have h1 : s.ObjectsBut s1 own := objectsBut_setOb (objectsBut_refl s own) arb _
  have h2 : s.ObjectsBut s2 own := objectsBut_setBit (objectsBut_setBit h1 flags _ _) flags _ _
  exact objectsBut_setBit (objectsBut_setBit (objectsBut_setBit h2 flags _ _) flags _ _) flags _ _

theorem shows_showLanes (s : State) : s.Shows s.showLanes := .trans (shows_setOb s _ _) (shows_showFaults _)

theorem objectsBut_showLanes (s : State) : s.ObjectsBut s.showLanes laneObjects := fun k hk =>
  (objectsBut_showFaults (by simp [laneObjects]) (by simp [laneObjects]) _ k hk).trans
    (objectsBut_setOb (objectsBut_refl s _) (by simp [laneObjects]) _ k hk)

/-- The state with another die link. -/
def relink (s : State) (d : DieLink) : State := { s with link := d }

theorem lane_of_link {s t : State} (h : t.link = s.link) (l : Nat) : t.lane l = s.lane l := by simp only [lane, h]

theorem Shows.relink {s t : State} {d : DieLink} (h : (s.relink d).Shows t) :
    t = { s with obj := t.obj, fab := t.fab, link := t.link } := by
  have link : t.link = d := h.link
  rw [link]
  exact h

/-- A change of the lanes is shown and told, and changes nothing else. -/
theorem lanes_shown (s : State) (d : DieLink) (ev l : Nat) (out : Bool) :
    ∃ t, ((s.relink d).showLanes.post ev l).postIf out 1311 l = t ∧ t.link = d ∧ t.Raised s.now ev l ∧
      t = { s with obj := t.obj, fab := t.fab, link := t.link } ∧ s.ObjectsBut t laneObjects := by
  have shown := shows_showLanes (s.relink d)
  have frame := (shown.trans (shows_post _ ev l)).trans (shows_postIf _ out 1311 l)
  have objects := objectsBut_postIf (objectsBut_post (s.relink d).objectsBut_showLanes ev l) out 1311 l
  have raised := mem_inFlight_postIf (raised_post (s.relink d).showLanes ev l) out 1311 l
  have now : (s.relink d).showLanes.now = s.now := congrArg TimeBase.count shown.tb
  rw [now] at raised
  exact ⟨_, rfl, frame.link, raised, frame.relink, objects⟩

/-- A lane's failure marks the lane, moves the clock, and is shown and told (R16, R463). -/
theorem laneFails_eq (s : State) (l : Nat) :
    ∃ d out, s.laneFails l = ((s.relink d).showLanes.post 1309 l).postIf out 1311 l ∧
      d.clockLane = (if s.link.clockLane = l then 1 - l else s.link.clockLane) ∧
      ((s.relink d).lane l).failed = true ∧ ((s.relink d).lane l).passes = 0 ∧ ∀ m, m ≠ l → (s.relink d).lane m = s.lane m := by
  have marked (x : LinkLane) (c : Nat) (m : Nat) :
      (s.relink { (s.setLane l x).link with clockLane := c }).lane m = (s.setLane l x).lane m := rfl
  refine ⟨_, _, rfl, rfl, ?_, ?_, fun m hm => ?_⟩
  · exact (marked _ _ l).trans (lane_setLane_same ..) ▸ rfl
  · exact (marked _ _ l).trans (lane_setLane_same ..) ▸ rfl
  · exact (marked _ _ m).trans (lane_setLane_other s _ (Ne.symm hm))

/-- A lane's test that is passed (R463): counted, or the sixteenth. -/
theorem laneTested_counts {s : State} {l : Nat} (h : (s.lane l).passes < 15) :
    s.laneTested l true = s.setLane l { s.lane l with passes := (s.lane l).passes + 1, lastTest := s.now } := by
  simp [laneTested, h]

theorem laneTested_returns {s : State} {l : Nat} (h : (s.lane l).passes = 15) : s.laneTested l true =
    ((s.setLane l { s.lane l with failed := false, passes := 0, lastTest := s.now }).showLanes).post 1310 l := by
  simp [laneTested, h]

/-! ## Clocks (R22–R24) -/

/-- Fields that `still` keeps. -/
theorem fields_of_still {s t : State} (h : t.still = s.still) :
    t.hoist = s.hoist ∧ t.tb = s.tb ∧ t.boot = s.boot ∧ t.cfg = s.cfg ∧ t.flyStarts = s.flyStarts := by
  have field {α : Type} (f : State → α) : f t.still = f s.still := congrArg f h
  exact ⟨field State.hoist, field State.tb, field State.boot, field State.cfg, field State.flyStarts⟩

/-- The hoist safe state sets its flag, and else does no more than switching (R93). -/
theorem applyHoistSafe_still (s : State) :
    s.applyHoistSafe.still = ({ s with hoist := { s.hoist with safe := true } } : State).still := by
  have flag (u : State) : ({ u with hoist := { u.hoist with safe := true } } : State).still =
      { u.still with hoist := { u.still.hoist with safe := true } } := rfl
  have windows (u : State) : (forRange 6 (fun s h =>
      if s.cf (Obj.brFunction h) = 2 && ((s.brCh h).dir = 1 || (s.brCh h).dir = 2) then s.loseNormal h else s) u).still = u.still :=
    forRange_still _ _ _ fun s h => by split <;> simp
  rw [applyHoistSafe, hoistSafe_still, flag, flag, windows]

theorem applyHoistSafe_keeps (s : State) :
    let t := s.applyHoistSafe
    t.hoist.safe = true ∧ t.tb = s.tb ∧ t.boot = s.boot ∧ t.cfg = s.cfg ∧ t.flyStarts = s.flyStarts := by
  obtain ⟨hoist, others⟩ := fields_of_still s.applyHoistSafe_still
  exact ⟨by rw [hoist], others⟩

/-- What a reset of the Fly die keeps of the Hoist die, and what it ends (R22, R94, R366). -/
theorem flyReset_keeps (s : State) (cause : Nat) :
    let t := s.flyReset cause
    t.boot.stage = .flyReset ∧ t.boot.nextCause = cause ∧ t.hoist.safe = s.hoist.safe ∧ t.tb.pllLocked = false ∧
      t.sessions = [] ∧ t.cfg = s.cfg ∧ t.own = {} ∧ t.flyStarts = s.flyStarts := by
  unfold flyReset
  dsimp only
  split <;> exact ⟨rfl, rfl, rfl, rfl, rfl, rfl, rfl, rfl⟩

/-- What the fans keep through a reset of the Fly die is in their objects. -/
theorem shows_flyResetKeeping (s : State) (cause : Nat) : (s.flyReset cause).Shows (s.flyResetKeeping cause) :=
  shows_forRange 4 (fun t f => by
    split
    · exact (shows_setBit t _ _ _).trans (shows_setOb _ _ _)
    · exact .refl t) _

/-- A restart is a reset of the Fly die under the hoist safe state, but for objects and the events it reports. -/
theorem shows_hoistRestart (s : State) (cause : Nat) : (s.applyHoistSafe.flyReset cause).Shows (s.hoistRestart cause) :=
  (shows_flyResetKeeping s.applyHoistSafe cause).trans rfl

/-- A restart: the Fly die is in reset under the hoist safe state (R22, R94). -/
theorem hoistRestart_keeps (s : State) (cause : Nat) :
    let t := s.hoistRestart cause
    t.boot.stage = .flyReset ∧ t.boot.nextCause = cause ∧ t.hoist.safe = true ∧ t.tb.pllLocked = false ∧
      t.sessions = [] ∧ t.cfg = s.cfg ∧ t.own = {} ∧ t.flyStarts = s.flyStarts := by
  obtain ⟨safe, -, -, safeCfg, safeStarts⟩ := s.applyHoistSafe_keeps
  obtain ⟨stage, cause', hoist, pll, sessions, cfg, own, starts⟩ := s.applyHoistSafe.flyReset_keeps cause
  have frame := s.shows_hoistRestart cause
  unfold Shows at frame
  rw [safe] at hoist
  rw [safeCfg] at cfg
  rw [safeStarts] at starts
  rw [frame]
  dsimp only
  exact ⟨stage, cause', hoist, pll, sessions, cfg, own, starts⟩

theorem logFault_keeps (s : State) (id : Nat) (sev : Severity) (level : Nat) (ts : Tick) (ev place offset value : Nat) :
    (s.logFault id sev level ts ev place offset value).cfg = s.cfg ∧
      (s.logFault id sev level ts ev place offset value).flyStarts = s.flyStarts := by
  unfold logFault
  dsimp only
  split <;> exact ⟨rfl, rfl⟩

/-! ## What each command does -/

theorem exec_dieLinkWord {l : Fin 2} {s : State} (runs : s.flyRuns = true) (serves : (s.lane l).failed = false)
    (seq : BitVec 32) (w : LinkWord) : exec (.dieLinkWord l seq w) s = .next (s.linkWord seq.toNat w) :=
  whenever_of (by simp [runs, serves]) _ _

theorem exec_laneRetest {l : Fin 2} {s : State} (runs : s.flyRuns = true) (failed : (s.lane l).failed = true)
    (held : (s.lane l).heldOut = false) (returns : s.cf Obj.laneReturn = 1)
    (due : s.passed (s.lane l).lastTest (sec 1) = true) (pass : Bool) :
    exec (.laneRetest l pass) s = .next (s.laneTested l pass) :=
  whenever_of (by simp [runs, failed, held, returns, due]) _ _

end Sys2Proof.Machine.State

namespace Sys2Proof.Machine
open State

/-- R16, R463: a lane that fails leaves its traffic and the clock to the other. -/
theorem laneFailover_completes {l : Fin 2} {s : State} (runs : s.flyRuns = true) (serves : (s.lane l).failed = false) :
    ∃ t, exec (.laneFailover l) s = .next t ∧ (t.lane l).failed = true ∧ (t.lane l).passes = 0 ∧
      t.link.clockLane = (if s.link.clockLane = l then 1 - l.val else s.link.clockLane) ∧
      (∀ m, m ≠ l.val → t.lane m = s.lane m) ∧ t.Raised s.now 1309 l.val ∧
      t = { s with obj := t.obj, fab := t.fab, link := t.link } ∧ s.ObjectsBut t laneObjects := by
  obtain ⟨d, out, fails, clock, failed, passes, others⟩ := s.laneFails_eq l
  obtain ⟨t, shown, link, raised, frame, objects⟩ := s.lanes_shown d 1309 l out
  have lane : ∀ m, t.lane m = (s.relink d).lane m := lane_of_link link
  refine ⟨t, ?_, by rw [lane, failed], by rw [lane, passes], by rw [link, clock], fun m hm => by rw [lane, others m hm], raised,
    frame, objects⟩
  rw [← shown, ← fails]
  exact whenever_of (by simp [runs, serves]) _ _

/-- R463: the sixteenth test passed in a row returns a lane to service. -/
theorem laneRetest_returns {l : Fin 2} {s : State} (runs : s.flyRuns = true) (failed : (s.lane l).failed = true)
    (held : (s.lane l).heldOut = false) (returns : s.cf Obj.laneReturn = 1)
    (due : s.passed (s.lane l).lastTest (sec 1) = true) (fifteen : (s.lane l).passes = 15) :
    ∃ t, exec (.laneRetest l true) s = .next t ∧ (t.lane l).failed = false ∧ t.Raised s.now 1310 l.val ∧
      t = { s with obj := t.obj, fab := t.fab, link := t.link } ∧ s.ObjectsBut t laneObjects := by
  let x : LinkLane := { s.lane l with failed := false, passes := 0, lastTest := s.now }
  obtain ⟨t, shown, link, raised, frame, objects⟩ := s.lanes_shown (s.setLane l x).link 1310 l false
  have lane : t.lane l = x := (lane_of_link (s := s.setLane l x) link l).trans (lane_setLane_same ..)
  refine ⟨t, ?_, by rw [lane], raised, frame, objects⟩
  rw [exec_laneRetest runs failed held returns due, laneTested_returns fifteen, ← shown]
  rfl

/-- R22: loss of lock is the hoist safe state and a reset of the Fly die. -/
theorem pllUnlock_completes {s : State} (runs : s.flyRuns = true) (locked : s.tb.pllLocked = true) :
    ∃ t, exec .pllUnlock s = .next t ∧ t.boot.stage = .flyReset ∧ t.boot.nextCause = 4 ∧ t.hoist.safe = true ∧
      t.tb.pllLocked = false ∧ t.sessions = [] ∧ t.cfg = s.cfg ∧ t.own = {} ∧ t.flyStarts = s.flyStarts := by
  obtain ⟨logCfg, logStarts⟩ := s.logFault_keeps 1 .safeStated 6 s.now 0 0 0 0
  obtain ⟨stage, cause, safe, pll, sessions, cfg, own, starts⟩ :=
    (s.logFault 1 .safeStated 6 s.now 0 0 0 0).hoistRestart_keeps 4
  exact ⟨s.pllLost, whenever_of (by simp [runs, locked]) _ _, stage, cause, safe, pll, sessions, cfg.trans logCfg, own,
    starts.trans logStarts⟩

/-- Settles O9: each command by the lemma about the operation it carries out. -/
theorem clocksAndDieLinkDoAsStated : Obligations.ClocksAndDieLinkDoAsStated := by
  unfold Obligations.ClocksAndDieLinkDoAsStated
  refine ⟨?duplicate, ?measurement, ?command, ?failover, ?tested, ?returned, ?lock, ?unlock, ?clockLoss, fun _ => rfl, ?lfPeriod⟩
  case duplicate =>
    intro l seq i v s runs serves old
    rw [exec_dieLinkWord runs serves]
    simp [linkWord, linkDirTake_old old]
  case measurement =>
    intro l seq i v s runs serves next
    rw [exec_dieLinkWord runs serves]
    simp [linkWord, next, linkDirTake_next, applyWord]
  case command =>
    intro l seq sig v s runs serves next
    obtain ⟨link, switches⟩ := linkWord_command next sig v
    refine ⟨_, exec_dieLinkWord runs serves seq _, ?_, ?_, ?_, switches⟩
    · rw [link]
      exact Table.get?_put_same _ _ _
    · rw [link]
    · rw [link]
  case failover =>
    intro l s runs serves
    obtain ⟨t, done, failed, passes, clock, others, raised, frame, objects⟩ := laneFailover_completes runs serves
    exact ⟨t, done, failed, passes, clock, others, mem_of_raised raised (l.isLt.trans (by decide)), frame, objects⟩
  case tested =>
    intro l s runs failed held returns due few
    rw [exec_laneRetest runs failed held returns due, laneTested_counts few]
  case returned =>
    intro l s runs failed held returns due fifteen
    obtain ⟨t, done, serves, raised, frame, objects⟩ := laneRetest_returns runs failed held returns due fifteen
    exact ⟨t, done, serves, mem_of_raised raised (l.isLt.trans (by decide)), frame, objects⟩
  case lock => exact fun s waits => whenever_of (by simp [waits]) _ _
  case unlock => exact fun s => pllUnlock_completes
  case clockLoss =>
    intro s runs locked safe
    obtain ⟨applied, tb, boot, cfg, -⟩ := s.applyHoistSafe_keeps
    exact ⟨_, whenever_of (by simp [runs, locked, safe]) _ _, applied, tb, boot, cfg⟩
  case lfPeriod => exact fun s lf => ⟨s.lfStep, whenever_of lf _ _, rfl, rfl, rfl, rfl⟩

end Sys2Proof.Machine

/-!
Which answers of a request leave the configuration, everywhere it is kept, and the queue alone: one lemma per operation, with
`answerConf` for what an answer leaves of `State.conf`.
-/

namespace Sys2Proof.Machine

/-- What an answer leaves of the configuration and the queue: a request that failed leaves them as they were. -/
def answerConf (s : State) : Answer → Regs × Table ConfigCopy × List CommitJob × Option Regs × Option Regs × List Instr
  | .ok t => t.conf
  | .error _ => s.conf

@[simp] theorem answerConf_ok (s t : State) : answerConf s (.ok t) = t.conf := rfl
@[simp] theorem answerConf_error (s : State) (e : Status) : answerConf s (.error e) = s.conf := rfl
@[simp] theorem answerConf_ite {c : Prop} [Decidable c] (s : State) (a b : Answer) :
    answerConf s (if c then a else b) = if c then answerConf s a else answerConf s b := by split <;> rfl
@[simp] theorem answerConf_check (s : State) (c : Bool) (e : Status) (k : Answer) :
    answerConf s (check c e k) = if c then answerConf s k else s.conf := by cases c <;> rfl

namespace State

/-! ## Outputs and field inputs and outputs -/

@[simp] theorem doGdFaultClear_conf (s : State) (c : Nat) : answerConf s (s.doGdFaultClear c) = s.conf := by
  simp [doGdFaultClear]
@[simp] theorem doGdDiagRun_conf (s : State) (c : Nat) : answerConf s (s.doGdDiagRun c) = s.conf := by simp [doGdDiagRun]
@[simp] theorem doBrClear_conf (s : State) (h : Nat) : answerConf s (s.doBrClear h) = s.conf := by
  simp only [doBrClear]
  split <;> simp
@[simp] theorem doBrForget_conf (s : State) (h : Nat) : answerConf s (s.doBrForget h) = s.conf := by simp [doBrForget]
@[simp] theorem doFanClear_conf (s : State) (f : Nat) : answerConf s (s.doFanClear f) = s.conf := by simp [doFanClear]
@[simp] theorem doSvFaultClear_conf (s : State) (c : Nat) : answerConf s (s.doSvFaultClear c) = s.conf := by
  simp [doSvFaultClear]
@[simp] theorem doSvDiagRun_conf (s : State) (c : Nat) : answerConf s (s.doSvDiagRun c) = s.conf := by simp [doSvDiagRun]
@[simp] theorem doSvRetrigger_conf (s : State) (c : Nat) : answerConf s (s.doSvRetrigger c) = s.conf := by
  simp only [doSvRetrigger, answerConf_check]
  (repeat' split) <;> simp
@[simp] theorem doDoutFaultClear_conf (s : State) (d : Nat) : answerConf s (s.doDoutFaultClear d) = s.conf := by
  simp [doDoutFaultClear]
@[simp] theorem doDoutDiagRun_conf (s : State) (d : Nat) : answerConf s (s.doDoutDiagRun d) = s.conf := by
  simp [doDoutDiagRun]
@[simp] theorem doPpRelearn_conf (s : State) (n : Nat) : answerConf s (s.doPpRelearn n) = s.conf := by simp [doPpRelearn]
@[simp] theorem doPpReference_conf (s : State) (n : Nat) : answerConf s (s.doPpReference n) = s.conf := by
  simp [doPpReference]
@[simp] theorem doPpClearDrift_conf (s : State) (n : Nat) : answerConf s (s.doPpClearDrift n) = s.conf := by
  simp [doPpClearDrift]
@[simp] theorem doCableRun_conf (s : State) (p : Nat) : answerConf s (s.doCableRun p) = s.conf := by simp [doCableRun]

/-! ## Strands, matrices, groups, the arbiter, timers and events -/

@[simp] theorem doBpRediscover_conf (s : State) (p : Nat) : answerConf s (s.doBpRediscover p) = s.conf := by
  simp [doBpRediscover]
@[simp] theorem doBpNodeClear_conf (s : State) (p pos : Nat) : answerConf s (s.doBpNodeClear p pos) = s.conf := by
  simp [doBpNodeClear]
@[simp] theorem doMxFaultClear_conf (s : State) (p : Nat) : answerConf s (s.doMxFaultClear p) = s.conf := by
  simp only [doMxFaultClear, answerConf_check]
  (repeat' split) <;> simp
@[simp] theorem doPixelClear_conf (s : State) (p : Nat) : answerConf s (s.doPixelClear p) = s.conf := by simp [doPixelClear]
@[simp] theorem doNbRun_conf (s : State) : answerConf s s.doNbRun = s.conf := by simp [doNbRun]
@[simp] theorem doGroupFade_conf (s : State) (h g level time : Nat) : answerConf s (s.doGroupFade h g level time) = s.conf := by
  simp [doGroupFade]
@[simp] theorem doGroupPattern_conf (s : State) (h g e b : Nat) : answerConf s (s.doGroupPattern h g e b) = s.conf := by
  simp [doGroupPattern]
@[simp] theorem doGroupRelease_conf (s : State) (h g : Nat) : answerConf s (s.doGroupRelease h g) = s.conf := by
  simp [doGroupRelease]
@[simp] theorem doGroupQuery_conf (s : State) (h v : Nat) : answerConf s (s.doGroupQuery h v) = s.conf := by
  simp [doGroupQuery]
@[simp] theorem doLoanRelease_conf (s : State) (a : Nat) : answerConf s (s.doLoanRelease a) = s.conf := by
  simp [doLoanRelease]
@[simp] theorem doCmpWrite_conf (s : State) (t k v : Nat) : answerConf s (s.doCmpWrite t k v) = s.conf := by
  simp [doCmpWrite]
@[simp] theorem doTmrCmd_conf (s : State) (t op : Nat) : answerConf s (s.doTmrCmd t op) = s.conf := by simp [doTmrCmd]
@[simp] theorem doGsArm_conf (s : State) : answerConf s s.doGsArm = s.conf := by simp [doGsArm]
@[simp] theorem doEventPost_conf (s : State) (v : Nat) : answerConf s (s.doEventPost v) = s.conf := by simp [doEventPost]

/-! ## CAN, the ring, ownership and the heartbeat -/

@[simp] theorem refused_conf (s t : State) (e : Status) : answerConf s (t.refused e) = t.conf := rfl
@[simp] theorem misaligned_conf (s : State) (ix : Nat) : answerConf s (s.misaligned ix) = s.conf := rfl
/-- A write of a DOMAIN leaves the configuration alone where what it does with its bytes does. -/
theorem domainWrites_conf (s : State) (ix h : Nat) (k : State → Answer) (hk : ∀ t, answerConf t (k t) = t.conf) :
    answerConf s (s.domainWrites ix h k) = s.conf := by
  unfold domainWrites
  extract_lets s1
  have e1 : s1.conf = s.conf := by simp [s1]
  have e2 := hk ({ s1 with holds := s1.holds.put (holdKey ix h) { holder := h, lastWrite := s1.now } }.setDomBit ix h 0 true)
  split
  · exact e1
  · split
    · rename_i t ht
      rw [ht] at e2
      simpa [e1] using e2
    · exact e1
@[simp] theorem doStrayAck_conf (s : State) (c n : Nat) : answerConf s (s.doStrayAck c n) = s.conf := by simp [doStrayAck]
@[simp] theorem doMoWrite_conf (s : State) (h off : Nat) (data : List Nat) (a : Bool) :
    answerConf s (s.doMoWrite h off data a) = s.conf := by
  simp only [doMoWrite]
  split
  · simp
  · split
    · simp
    · refine domainWrites_conf _ _ _ _ fun t => ?_
      cases a <;> simp
@[simp] theorem doCanCmd_conf (s : State) (c cmd : Nat) : answerConf s (s.doCanCmd c cmd) = s.conf := by
  simp only [doCanCmd]
  split <;> simp
@[simp] theorem doNmCmd_conf (s : State) (cmd : Nat) : answerConf s (s.doNmCmd cmd) = s.conf := by
  unfold doNmCmd
  split <;> simp
@[simp] theorem doHostCommand_conf (s : State) (x : Session) (v : Nat) : answerConf s (s.doHostCommand x v) = s.conf := by
  simp [doHostCommand]
@[simp] theorem doQuerySignal_conf (s : State) (h v : Nat) : answerConf s (s.doQuerySignal h v) = s.conf := by
  simp [doQuerySignal]
@[simp] theorem doHeartbeat_answerConf (s : State) (v : Nat) : answerConf s (s.doHeartbeat v) = s.conf := by
  cases h : s.doHeartbeat v with
  | ok t => exact doHeartbeat_conf h
  | error e => rfl
@[simp] theorem doSafeRelease_conf (s : State) (v : Nat) : answerConf s (s.doSafeRelease v) = s.conf := by
  simp [doSafeRelease]

/-! ## Burgee access, the ledger, the halyard, the secure block, power and update -/

@[simp] theorem doRelOpen_conf (s : State) (r v : Nat) : answerConf s (s.doRelOpen r v) = s.conf := by simp [doRelOpen]
@[simp] theorem doRelClose_conf (s : State) (r v : Nat) : answerConf s (s.doRelClose r v) = s.conf := by simp [doRelClose]
@[simp] theorem doImplRun_conf (s : State) (i : Nat) : answerConf s (s.doImplRun i) = s.conf := by simp [doImplRun]
@[simp] theorem doClearLock_conf (s : State) (v : Nat) : answerConf s (s.doClearLock v) = s.conf := by simp [doClearLock]
@[simp] theorem doLedgerFlush_conf (s : State) (v : Nat) : answerConf s (s.doLedgerFlush v) = s.conf := by
  simp [doLedgerFlush]
@[simp] theorem doLedgerAttest_conf (s : State) (h v : Nat) : answerConf s (s.doLedgerAttest h v) = s.conf := by
  simp [doLedgerAttest]
@[simp] theorem doLedgerFormat_conf (s : State) (v : Nat) : answerConf s (s.doLedgerFormat v) = s.conf := by
  simp [doLedgerFormat]
@[simp] theorem doAddrConfirm_conf (s : State) (a : Nat) : answerConf s (s.doAddrConfirm a) = s.conf := by
  simp [doAddrConfirm]
@[simp] theorem kcRefuse_conf (s : State) (h n st : Nat) : answerConf s (s.kcRefuse h n st) = s.conf := by simp [kcRefuse]
@[simp] theorem kcImport_conf (s : State) (h n src : Nat) : answerConf s (s.kcImport h n src) = s.conf := by
  simp only [kcImport]
  split
  · simp
  · split <;> simp
@[simp] theorem kcGenerate_conf (s : State) (h n : Nat) : answerConf s (s.kcGenerate h n) = s.conf := by simp [kcGenerate]
@[simp] theorem kcDerive_conf (s : State) (h n src : Nat) : answerConf s (s.kcDerive h n src) = s.conf := by simp [kcDerive]
@[simp] theorem kcZero_conf (s : State) (h n : Nat) : answerConf s (s.kcZero h n) = s.conf := by simp [kcZero]
@[simp] theorem doKcRun_conf (s : State) (x : Session) (v : Nat) : answerConf s (s.doKcRun x v) = s.conf := by
  simp only [doKcRun, answerConf_check]
  (repeat' split) <;> simp
@[simp] theorem doDebugRequest_conf (s : State) (x : Session) (v : Nat) : answerConf s (s.doDebugRequest x v) = s.conf := by
  simp only [doDebugRequest]
  split <;> simp
@[simp] theorem doLcRequest_conf (s : State) (x : Session) (target : Nat) : answerConf s (s.doLcRequest x target) = s.conf := by
  simp only [doLcRequest, answerConf_check, answerConf_ite]
  (repeat' split) <;> simp
@[simp] theorem doCjRun_conf (s : State) (x : Session) (v : Nat) : answerConf s (s.doCjRun x v) = s.conf := by
  simp only [doCjRun, answerConf_check, answerConf_ite]
  (repeat' split) <;> simp
@[simp] theorem pkRefuse_conf (s : State) (h n st : Nat) : answerConf s (s.pkRefuse h n st) = s.conf := by simp [pkRefuse]
@[simp] theorem doPkRun_conf (s : State) (x : Session) (v : Nat) : answerConf s (s.doPkRun x v) = s.conf := by
  simp only [doPkRun, answerConf_check]
  (repeat' split) <;> simp
@[simp] theorem doRandom_conf (s : State) : answerConf s s.doRandom = s.conf := by simp [doRandom]
@[simp] theorem doHostVote_conf (s : State) (v : Nat) : answerConf s (s.doHostVote v) = s.conf := by
  simp only [doHostVote, answerConf_check]
  (repeat' split) <;> simp
@[simp] theorem doStageWrite_conf (s : State) (h a off : Nat) (data : List Nat) :
    answerConf s (s.doStageWrite h a off data) = s.conf := by
  unfold doStageWrite
  extract_lets ix b o
  split
  · simp
  · split
    · simp
    · split
      · simp
      · exact domainWrites_conf _ _ _ _ fun t => by simp
@[simp] theorem doUpdVerify_conf (s : State) (a v : Nat) : answerConf s (s.doUpdVerify a v) = s.conf := by
  simp [doUpdVerify]
@[simp] theorem doUpdDiscard_conf (s : State) (a : Nat) : answerConf s (s.doUpdDiscard a) = s.conf := by
  simp [doUpdDiscard]
@[simp] theorem doUpdActivate_conf (s : State) (h set : Nat) : answerConf s (s.doUpdActivate h set) = s.conf := by
  simp only [doUpdActivate, answerConf_check, answerConf_ite, answerConf_ok, stagingTouched_conf]
  refine ite_eq_right_iff.mpr fun _ => ?_
  split
  · simp
  · exact (forEach_conf _ _ _ fun _ _ => setOb_conf _ _ _).trans (setSob_conf ..)
@[simp] theorem doUpdNodeRun_conf (s : State) (p : Nat) : answerConf s (s.doUpdNodeRun p) = s.conf := by
  simp [doUpdNodeRun]
@[simp] theorem doSplitAck_conf (s : State) (v : Nat) : answerConf s (s.doSplitAck v) = s.conf := by
  unfold doSplitAck
  rw [answerConf_check]
  split <;> rfl
@[simp] theorem doTileRetest_conf (s : State) (v : Nat) : answerConf s (s.doTileRetest v) = s.conf := by
  unfold doTileRetest
  rw [answerConf_check]
  split <;> rfl

end State
end Sys2Proof.Machine

/-!
What the configuration, everywhere it is kept, can become: the operations that move it, each with the one thing it puts in place.
A rule on configurations that a commit and a migration meet holds after every one of them where it held before.
-/

namespace Sys2Proof.Machine

/-- A rule on stored configurations: `ok` of each that can be put in force, `waits` of one that a migration has left. It says
what a commit and a migration must meet for their results. -/
structure ConfigRule where
  ok : Regs → Prop
  waits : Regs → Prop
  empty : ok []
  committed : ∀ (s : State) (base : Regs) (l : List PendingValue), ok base ∨ waits base →
    s.failObject (State.withSet base l) = none → ok (State.withSet base l)
  translated : ∀ s : State, waits s.translated
  migrated : ∀ s t : State, t.failObject s.translated = none → ok s.translated

/-- The configuration in force, its copies in MRAM, those of accepted commits and those an update holds meet a rule, and the
queue is `q`. -/
structure ConfigRule.Holds (R : ConfigRule) (q : List Instr) (s : State) : Prop where
  cfg : R.ok s.cfg
  copies : ∀ e ∈ s.ft.copies, R.ok e.2.regs
  commits : ∀ j ∈ s.commits, R.ok j.regs
  keep : ∀ r, s.upd.keep = some r → R.ok r
  left : ∀ r, s.upd.migrated = some r → R.waits r
  queue : s.pending = q

/-- An answer leaves a state in which a property holds: that of a request which failed is the state before. -/
def Gives (K : State → Prop) : Answer → Prop
  | .ok t => K t
  | .error _ => True

/-- A command ends in a state in which a property holds. -/
def Ends (K : State → Prop) : Host.Outcome State Fault Refusal → Prop
  | .next t => K t
  | _ => True

theorem gives_check {K : State → Prop} {k : Answer} (h : Gives K k) (c : Bool) (e : Status) : Gives K (check c e k) := by
  cases c
  · trivial
  · exact h

theorem ends_whenever {K : State → Prop} {s t : State} {c : Bool} (hs : K s) (ht : K t) : Ends K (whenever c s t) := by
  cases c
  · exact hs
  · exact ht

variable {R : ConfigRule} {q : List Instr}

namespace ConfigRule.Holds

theorem of_conf {s t : State} (h : R.Holds q s) (e : t.conf = s.conf) : R.Holds q t := by
  simp only [State.conf, Prod.mk.injEq] at e
  obtain ⟨cfg, copies, commits, keep, left, pending⟩ := e
  exact ⟨cfg ▸ h.cfg, copies ▸ h.copies, commits ▸ h.commits, keep ▸ h.keep, left ▸ h.left, pending ▸ h.queue⟩

theorem gives {s : State} (h : R.Holds q s) {r : Answer} (e : answerConf s r = s.conf) : Gives (R.Holds q) r := by
  cases r with
  | ok t => exact h.of_conf e
  | error => trivial

theorem forRange {s : State} (h : R.Holds q s) (n : Nat) {f : State → Nat → State}
    (hf : ∀ t i, R.Holds q t → R.Holds q (f t i)) : R.Holds q (Machine.forRange n f s) := by
  unfold Machine.forRange
  induction List.range n generalizing s with
  | nil => exact h
  | cons a l ih => exact ih (hf s a h)

theorem forEach {α : Type} {s : State} (h : R.Holds q s) (l : List α) {f : State → α → State}
    (hf : ∀ t a, R.Holds q t → R.Holds q (f t a)) : R.Holds q (Machine.forEach l f s) := by
  unfold Machine.forEach
  induction l generalizing s with
  | nil => exact h
  | cons a l ih => exact ih (hf s a h)

/-! ## Restarts: a die that starts again keeps the configuration, its copies and the keep area (R363, R369) -/

theorem flyReset {s : State} (h : R.Holds q s) (cause : Nat) : R.Holds q (s.flyReset cause) := by
  have kept : R.Holds q { s with commits := [], upd := { s.upd with migrated := none } } :=
    ⟨h.cfg, h.copies, by simp, h.keep, by simp, h.queue⟩
  refine kept.of_conf ?_
  unfold State.flyReset
  cases State.rtcRuns cause <;> rfl

theorem flyResetKeeping {s : State} (h : R.Holds q s) (cause : Nat) : R.Holds q (s.flyResetKeeping cause) :=
  (h.flyReset cause).forRange 4 fun t f ht => ht.of_conf (by simp)

theorem hoistRestart {s : State} (h : R.Holds q s) (cause : Nat) : R.Holds q (s.hoistRestart cause) :=
  ((h.of_conf (by simp)).flyResetKeeping (s := s.applyHoistSafe) cause).of_conf rfl

theorem hoistOff {s : State} (h : R.Holds q s) (cause : Nat) : R.Holds q (s.hoistOff cause) := by
  unfold State.hoistOff
  extract_lets moving t0 hal boot bg ft t1 t2 t3 t4
  have h0 : R.Holds q t0 := h.flyResetKeeping cause
  have h1 : R.Holds q t1 := h0.of_conf rfl
  have h2 : R.Holds q t2 := h1.forRange 5 fun t n ht => ht.of_conf (State.postIf_conf ..)
  have h3 : R.Holds q t3 := h2.of_conf rfl
  have h4 : R.Holds q t4 := h3.forRange 6 fun t k ht => ht.of_conf (by split <;> simp)
  exact h4.forRange 16 fun t r ht => ht.of_conf rfl

theorem endDebug {s : State} (h : R.Holds q s) (reason : Nat) : R.Holds q (s.endDebug reason) := by
  unfold State.endDebug
  split
  · exact h
  · extract_lets s1 ext secure s2 s3
    have h1 : R.Holds q s1 := h.of_conf (by simp only [s1]; split <;> simp)
    have h3 : R.Holds q s3 := h1.of_conf rfl
    split
    · exact h3.hoistRestart 9
    · exact h3

theorem voidUnit {s : State} (h : R.Holds q s) : R.Holds q s.voidUnit := by
  refine (h.hoistOff 1).of_conf ?_
  unfold State.voidUnit
  generalize s.hoistOff 1 = t
  rfl

theorem lcChange {s : State} (h : R.Holds q s) (from_ target : Nat) : R.Holds q (s.lcChange from_ target) := by
  unfold State.lcChange
  extract_lets s1 s2 s3 s4
  have h4 : R.Holds q s4 := (h.of_conf (by simp [s3, s2, s1])).endDebug 4
  split
  · exact h4.voidUnit
  · exact h4

theorem toFurled {s : State} (h : R.Holds q s) : R.Holds q s.toFurled := by
  unfold State.toFurled
  extract_lets s1 n held cap cnt s2 late s3 fab pw s4 s5 s6 woken boot s7 pw'
  have h1 : R.Holds q s1 := h.endDebug 5
  clear_value s1
  have h2 : R.Holds q s2 := h1.of_conf rfl
  have h3 : R.Holds q s3 := h2.hoistOff 2
  clear_value s3
  have h6 : R.Holds q s6 := h3.of_conf rfl
  split
  · exact h6
  · have h7 : R.Holds q s7 := (h6.of_conf (State.wakeCaptured_conf s6)).of_conf rfl
    exact h7.of_conf rfl

theorem watchdogTrip {s : State} (h : R.Holds q s) : R.Holds q s.watchdogTrip :=
  (h.of_conf (by simp)).hoistRestart (s := { s.bump Obj.hoistWdgTrips with
    hoist := { (s.bump Obj.hoistWdgTrips).hoist with tripToReport := true } }) 3

theorem pllLost {s : State} (h : R.Holds q s) : R.Holds q s.pllLost := (h.of_conf (by simp)).hoistRestart 4

theorem sequencerFails {s : State} (h : R.Holds q s) : R.Holds q s.sequencerFails :=
  (h.hoistRestart 8).of_conf (by simp [State.sequencerFails])

end ConfigRule.Holds
end Sys2Proof.Machine

/-!
The operations that put a configuration in force or store one (R43–R45, R363, R447, R469): each keeps a rule on configurations.
-/

namespace Sys2Proof.Machine

variable {R : ConfigRule} {q : List Instr}

namespace State

/-- A configuration that takes effect replaces the one in force, and nothing that is stored. -/
theorem takeConfig_conf (s : State) (cfg : Regs) (role hostId : Nat) :
    (s.takeConfig cfg role hostId).conf = ({ s with cfg := cfg } : State).conf := by
  unfold takeConfig
  extract_lets ch old gates groups rules s1 hoist s2 s3 s4 s5 s6 s7 s8 s9 balls s10 s11 s12 s13 s14 s15 s16 s17 s18 s19 s20 hal s21
  have h9 : s9.conf = s1.conf := by
    simp only [s9, s8, s7, s6, s5, s4, gatesMoved_conf, switchOutputs_conf, switchPorts_conf]
    rw [forEach_conf _ _ _ fun s g => regroup_conf ..]
    simp only [dropRules_conf, forgetPassports_conf]
    rfl
  have h18 : s18.conf = s9.conf := by
    simp only [s18, s17, s16, s15, s14, s13, s12, s11, s10, switchSag_conf, switchBurgee_conf, switchMaps_conf, switchTimers_conf,
      switchRing_conf, switchCan_conf, switchInputs_conf, resetNodes_conf]
    split <;> simp
  have h20 : s20.conf = s18.conf := by simp [s20, s19]
  have h21 : s21.conf = s20.conf := by
    simp only [s21]
    split <;> rfl
  simp only [runQueue_conf, ledgerRefresh_conf, hoistFollow_conf, h21, h20, h18, h9]
  rfl

theorem writeCopies_eq (s : State) (gen : Nat) (regs : Regs) :
    (s.writeCopies gen regs).conf =
      ({ s with ft := { s.ft with copies := (List.range 3).map fun k => (k, { generation := gen, intact := true, regs := regs }) } } : State).conf := by
  unfold writeCopies
  rw [forRange_conf _ _ _ fun s k => setOb_conf ..]
  rfl

/-- The copy at a place is one of those listed, or an empty one. -/
theorem copyOf_mem (s : State) (k : Nat) : (k, s.copyOf k) ∈ s.ft.copies ∨ s.copyOf k = {} := by
  unfold copyOf
  cases e : s.ft.copies.find? (fun e => e.1 == k) with
  | none => exact .inr rfl
  | some c =>
    have hk : c.1 = k := by simpa using List.find?_some e
    exact .inl (hk ▸ List.mem_of_find?_eq_some e)

/-- The commits in progress are those before the first one that has not taken effect, this one and those after it. -/
theorem nextCommit_eq {s : State} {done rest : List CommitJob} {j : CommitJob}
    (e : s.nextCommit = some (done, j, rest)) : s.commits = done ++ j :: rest := by
  unfold nextCommit at e
  rw [List.span_eq_takeWhile_dropWhile] at e
  have split := List.takeWhile_append_dropWhile (p := fun j : CommitJob => j.generation.isSome) (l := s.commits)
  cases hd : s.commits.dropWhile (fun j => j.generation.isSome) with
  | nil => simp [hd] at e
  | cons a l =>
    simp only [hd, Option.some.injEq, Prod.mk.injEq] at e
    obtain ⟨rfl, rfl, rfl⟩ := e
    rw [← hd]
    exact split.symm

end State

namespace ConfigRule.Holds

theorem copyOf {s : State} (h : R.Holds q s) (k : Nat) : R.ok (s.copyOf k).regs := by
  rcases s.copyOf_mem k with m | e
  · exact h.copies _ m
  · rw [e]
    exact R.empty

theorem withCfg {s : State} (h : R.Holds q s) {r : Regs} (hr : R.ok r) : R.Holds q { s with cfg := r } :=
  ⟨hr, h.copies, h.commits, h.keep, h.left, h.queue⟩

theorem withCopies {s : State} (h : R.Holds q s) {c : Table ConfigCopy} (hc : ∀ e ∈ c, R.ok e.2.regs) :
    R.Holds q { s with ft := { s.ft with copies := c } } := ⟨h.cfg, hc, h.commits, h.keep, h.left, h.queue⟩

theorem withCommits {s : State} (h : R.Holds q s) {l : List CommitJob} (hl : ∀ j ∈ l, R.ok j.regs) :
    R.Holds q { s with commits := l } := ⟨h.cfg, h.copies, hl, h.keep, h.left, h.queue⟩

theorem withKeep {s : State} (h : R.Holds q s) {o : Option Regs} (ho : ∀ r, o = some r → R.ok r) :
    R.Holds q { s with upd := { s.upd with keep := o } } := ⟨h.cfg, h.copies, h.commits, ho, h.left, h.queue⟩

theorem withMigrated {s : State} (h : R.Holds q s) {o : Option Regs} (ho : ∀ r, o = some r → R.waits r) :
    R.Holds q { s with upd := { s.upd with migrated := o } } := ⟨h.cfg, h.copies, h.commits, h.keep, ho, h.queue⟩

theorem takeConfig {s : State} (h : R.Holds q s) {r : Regs} (hr : R.ok r) (role hostId : Nat) :
    R.Holds q (s.takeConfig r role hostId) := (h.withCfg hr).of_conf (s.takeConfig_conf r role hostId)

theorem writeCopies {s : State} (h : R.Holds q s) {r : Regs} (hr : R.ok r) (gen : Nat) : R.Holds q (s.writeCopies gen r) :=
  (h.withCopies (by simp [hr])).of_conf (s.writeCopies_eq gen r)

/-! ## Commits (R43–R45) -/

theorem doCommit {s : State} (h : R.Holds q s) (x : Session) : Gives (R.Holds q) (s.doCommit x) := by
  unfold State.doCommit
  extract_lets told s0 n s1
  split
  · exact h.of_conf (by simp [s0])
  · have h1 : R.Holds q s1 := by
      refine (h.withCommits (l := s1.commits) fun j hj => ?_).of_conf rfl
      rcases List.mem_append.mp hj with hj | hj
      · exact h.commits j hj
      · rw [List.mem_singleton.mp hj]
        exact R.empty
    exact h1.of_conf (by simp)

theorem commitTakes {s : State} (h : R.Holds q s) {done rest : List CommitJob} {j : CommitJob}
    (e : s.commits = done ++ j :: rest) : R.Holds q (s.commitTakes done j rest) := by
  have others : ∀ i ∈ done ++ rest, R.ok i.regs := fun i hi => h.commits i (by
    rw [e]
    rcases List.mem_append.mp hi with m | m
    · exact List.mem_append_left _ m
    · exact List.mem_append_right _ (List.mem_cons_of_mem _ m))
  have replaced : ∀ r g, R.ok r → ∀ i ∈ done ++ { j with generation := g, regs := r } :: rest, R.ok i.regs := by
    intro r g hr i hi
    rcases List.mem_append.mp hi with m | m
    · exact others i (List.mem_append_left _ m)
    · rcases List.mem_cons.mp m with rfl | m
      · exact hr
      · exact others i (List.mem_append_right _ m)
  unfold State.commitTakes
  extract_lets base cand gen s0 s1 s2 s3 c v upd s4 s5
  split
  · exact (h.withCommits (replaced _ _ h.cfg)).of_conf (State.commitShows_conf ..)
  · have hbase : R.ok base ∨ R.waits base := by
      simp only [base]
      split
      · next r hr =>
        split
        · exact .inl h.cfg
        · exact .inr (h.left r hr)
      · exact .inl h.cfg
    split
    · have h0 : R.Holds q s0 := (h.withCommits others).of_conf (by simp [s0])
      refine h0.of_conf ?_
      split
      · split <;> simp
      · rfl
    · next ok =>
      have hc : R.ok cand := R.committed s base j.set hbase ok
      have h3 : R.Holds q s3 :=
        ((h.takeConfig hc j.role.rank j.hostId).withCommits (replaced _ _ hc)).of_conf (State.commitShows_conf ..)
      clear_value s3
      split
      · exact h3
      · exact (h3.withMigrated (o := none) (by simp)).of_conf rfl

theorem commitEnds {s : State} (h : R.Holds q s) {j : CommitJob} {rest : List CommitJob} (e : s.commits = j :: rest) :
    R.Holds q (s.commitEnds j rest) := by
  unfold State.commitEnds
  extract_lets old gen s1 s2 s3
  have h2 : R.Holds q s2 :=
    (h.withCommits fun i m => h.commits i (e ▸ List.mem_cons_of_mem _ m)).of_conf (State.commitShows_conf ..)
  clear_value s2
  split
  · exact h2
  · have hj : R.ok j.regs := h.commits j (e ▸ List.mem_cons_self)
    exact (h2.writeCopies hj gen).of_conf (by simp [s3])

/-- A commit whose write has failed leaves those in progress. -/
theorem commitFails {s : State} (h : R.Holds q s) {j : CommitJob} {rest : List CommitJob} (e : s.commits = j :: rest)
    (v : Nat) : R.Holds q ((({ s with commits := rest } : State).commitShows j 6).logFault 0 .degraded 3 s.now 0 0 0 v) :=
  (h.withCommits fun i m => h.commits i (e ▸ List.mem_cons_of_mem _ m)).of_conf (by simp)

/-! ## Migration (R447) -/

theorem runtimeCommits {s : State} (h : R.Holds q s) {r : Regs} (hr : R.ok r) (objects : Nat) :
    R.Holds q (s.runtimeCommits r objects) := by
  unfold State.runtimeCommits
  extract_lets old gen s1 s2
  have h1 : R.Holds q s1 := h.takeConfig hr 0 0
  clear_value s1
  have h2 : R.Holds q s2 := (h1.writeCopies hr gen).of_conf (setOb_conf ..)
  exact h2.of_conf (State.record_conf ..)

theorem migrates {s : State} (h : R.Holds q s) (failing : Option Nat) : R.Holds q (s.migrates failing) := by
  have kept : ∀ {t : State}, t.conf = ({ s with upd := { s.upd with keep := some s.cfg } } : State).conf → R.Holds q t :=
    fun e => (h.withKeep (by rintro r ⟨⟩; exact h.cfg)).of_conf e
  unfold State.migrates
  extract_lets c v t upd s1 s2 bad n s3 upd' s4
  split
  · exact h
  · split
    · have h2 : R.Holds q s2 := kept rfl
      have hs : bad = none → s2.failObject s.translated = none := fun e => by
        cases failing with
        | none => exact Option.map_eq_none_iff.mp e
        | some k => exact (Option.some_ne_none k e).elim
      clear_value s2 bad
      cases bad with
      | none =>
        refine (h2.runtimeCommits (R.migrated s s2 (hs rfl)) n).of_conf ?_
        simp only [s3, State.post_conf, setOb_conf]
        rfl
      | some k => exact (h2.withMigrated (o := some t) (by rintro r ⟨⟩; exact R.translated s)).of_conf rfl
    · split
      · next r hr =>
        refine (h.runtimeCommits (h.keep r hr) (State.changedKeys s.cfg r).length).of_conf ?_
        simp only [setOb_conf]
      · exact h

theorem mastActivates {s : State} (h : R.Holds q s) (set failures : Nat) (failing : Option Nat) :
    R.Holds q (s.mastActivates set failures failing) := by
  unfold State.mastActivates
  extract_lets s1 upd s2 schema s3 s4 s5 hb s6
  have h1 : R.Holds q s1 := h.of_conf (State.post_conf ..)
  clear_value s1
  split
  · have h2 : R.Holds q (s2.setOb Obj.updState 2) := h1.of_conf rfl
    exact h2.hoistRestart 8
  · have h4 : R.Holds q s4 := h1.of_conf (by simp only [s4, s3]; split <;> simp)
    have h5 : R.Holds q s5 := h4.migrates failing
    clear_value s5
    have h6 : R.Holds q s6 := h5.of_conf (by simp only [s6]; split <;> rfl)
    exact h6.of_conf (State.activated_conf s6 set)

theorem updateRestarts {s : State} (h : R.Holds q s) (set : Nat) : R.Holds q (s.updateRestarts set) := by
  unfold State.updateRestarts
  extract_lets p upd s1
  have h1 : R.Holds q s1 := (h.of_conf (State.post_conf s 1204 set)).of_conf (t := s1) rfl
  clear_value s1
  have h2 : R.Holds q (s1.setOb Obj.updState 2) := h1.of_conf (setOb_conf ..)
  exact (h2.hoistRestart 8).of_conf (setOb_conf ..)

theorem doUpdConfirm {s : State} (h : R.Holds q s) (v : Nat) : Gives (R.Holds q) (s.doUpdConfirm v) := by
  refine gives_check ?_ _ _
  extract_lets was s1 upd s2
  have h1 : R.Holds q s1 := h.of_conf (forRange_conf _ _ _ fun s k => setOb_conf ..)
  clear_value s1
  have h2 : R.Holds q s2 := (h1.withKeep (o := none) (by simp)).withMigrated (o := none) (by simp)
  exact h2.of_conf rfl

/-! ## The copies in MRAM (R45, R363, R369, R469) -/

theorem rewriteCopy {s : State} (h : R.Holds q s) (from_ k : Nat) (tell : Bool) : R.Holds q (s.rewriteCopy from_ k tell) := by
  refine (h.withCopies (c := (List.range 3).map fun i =>
    (i, if i = k then { s.copyOf from_ with intact := true } else s.copyOf i)) fun e he => ?_).of_conf (by
      simp [State.rewriteCopy])
  obtain ⟨i, -, rfl⟩ := List.mem_map.mp he
  dsimp only
  split
  · exact h.copyOf from_
  · exact h.copyOf i

theorem configSplit {s : State} (h : R.Holds q s) (used : Nat) (l : List ConfigCopy) : R.Holds q (s.configSplit used l) := by
  unfold State.configSplit
  extract_lets objects s1 ft s2
  have h1 : R.Holds q s1 := h.forRange 3 fun t k ht => by
    split
    · exact ht
    · exact ht.rewriteCopy used k false
  exact h1.of_conf rfl

theorem chooseCopy {s : State} (h : R.Holds q s) : R.Holds q s.chooseCopy.2 := by
  unfold State.chooseCopy
  extract_lets a b c ft s1 ft' s2
  have h1 : R.Holds q s1 := h.of_conf rfl
  have h2 : R.Holds q s2 := h.of_conf rfl
  clear_value s1
  split_ifs
  · exact h1
  · exact h1.rewriteCopy 0 2 true
  · exact h1.rewriteCopy 0 1 true
  · exact h1.rewriteCopy 1 0 true
  · exact (h1.rewriteCopy 0 1 true).rewriteCopy 0 2 true
  · split
    · exact h1.forRange 3 (f := fun t k => t.setOb (Obj.cfgState k) 2) fun t k ht => ht.of_conf (setOb_conf ..)
    · next k _ =>
      refine h2.forRange 3 (f := fun t i => if i = k then t else t.rewriteCopy k i true) fun t i ht => ?_
      split
      · exact ht
      · exact ht.rewriteCopy k i true
    · exact h1.configSplit _ _

theorem scrubbed {s : State} (h : R.Holds q s) (n damaged : Nat) : R.Holds q (s.scrubbed n damaged) := by
  unfold State.scrubbed
  extract_lets sum due s1 ft s2 ft' s3 cs ft''
  have h3 : R.Holds q s3 := h.of_conf (by simp only [s3]; split <;> rfl)
  clear_value s3
  split
  · exact h3
  · refine (h3.withCopies (c := cs) fun e he => ?_).chooseCopy
    obtain ⟨i, -, rfl⟩ := List.mem_map.mp he
    dsimp only
    split <;> exact h3.copyOf i

theorem cutCommit {s : State} (h : R.Holds q s) (n : Nat) : R.Holds q (s.cutCommit n) := by
  unfold State.cutCommit
  split
  · exact h
  · next j hj =>
    have hr : R.ok j.regs := h.commits j (List.mem_of_head? hj)
    split
    · exact h
    · extract_lets new cs ft s1
      have h1 : R.Holds q s1 := by
        refine h.withCopies fun e he => ?_
        obtain ⟨i, -, rfl⟩ := List.mem_map.mp he
        dsimp only
        split_ifs
        · exact hr
        · exact hr
        · exact h.copyOf i
      exact h1.forRange 3 fun t k ht => ht.of_conf (setOb_conf ..)

theorem porAsserts {s : State} (h : R.Holds q s) (n : Nat) : R.Holds q (s.porAsserts n) := (h.cutCommit n).hoistOff 1

theorem loadConfig {s : State} (h : R.Holds q s) : R.Holds q s.loadConfig := by
  unfold State.loadConfig
  extract_lets r s1 c s2
  have h1 : R.Holds q s1 := h.chooseCopy.of_conf (setOb_conf ..)
  clear_value s1
  split
  · exact (h1.withCfg R.empty).of_conf (State.post_conf ..)
  · have h2 : R.Holds q s2 := (h1.withCfg (h1.copyOf r.1)).forRange 3 fun t k ht => ht.of_conf (setOb_conf ..)
    exact h2.of_conf (setOb_conf ..)

theorem checkImages {s : State} (h : R.Holds q s) (rejected : Nat) (trng : Bool) : R.Holds q (s.checkImages rejected trng) := by
  unfold State.checkImages
  extract_lets s1 s2 told boot s3 s4 boot' s5
  have h2 : R.Holds q s2 := h.of_conf (by simp [s2, s1])
  clear_value s2
  split
  · exact h2.of_conf rfl
  · have h3 : R.Holds q s3 := h2.of_conf (by simp [s3])
    have h4 : R.Holds q s4 := ((h3.of_conf (State.startTiles_conf s3)).loadConfig).of_conf (State.checkStrike_conf _)
    clear_value s4
    have h5 : R.Holds q s5 := h4.of_conf rfl
    exact h5.of_conf (by split <;> simp)

theorem applyConfig {s : State} (h : R.Holds q s) (elapsed : Nat) : R.Holds q (s.applyConfig elapsed) := by
  unfold State.applyConfig
  extract_lets boot s1 s2 s3 arb s4 s5 s6 s7 s8 s9 s10 s11 upd s12 s13 hoist s14
  have h4 : R.Holds q s4 := h.of_conf (by simp [s4, s3, s2, s1])
  have h10 : R.Holds q s10 := h4.of_conf (by
    simp only [s10, s9, State.postIf_conf, State.showStrike_conf, State.startRecords_conf, State.ledgerRefresh_conf,
      State.bindMaps_conf]
    rw [foldl_conf _ _ _ fun s p => by split <;> simp]
    simp [s7, s6, s5])
  have h11 : R.Holds q s11 := h10.migrates none
  clear_value s11
  have h12 : R.Holds q s12 := h11.of_conf (by
    simp only [s12]
    split
    · rfl
    · split
      · simp
      · rfl)
  clear_value s12
  have h14 : R.Holds q s14 := h12.of_conf (by
    simp only [s14]
    split
    · simp [s13]
    · rfl)
  exact h14.of_conf (by simp)

theorem strikes {s : State} (h : R.Holds q s) (complete : Bool) (n : Nat) : R.Holds q (s.strikes complete n) := by
  unfold State.strikes
  extract_lets s1 pages kib s2 s3 ledger s4 old t0 boot t1 fab hal t2 t3 t4 t5
  have h1 : R.Holds q s1 := (h.cutCommit n).of_conf (State.sealOpen_conf _)
  clear_value s1
  have h4 : R.Holds q s4 := h1.of_conf (by simp only [s4]; split <;> rfl)
  have h0 : R.Holds q t0 := h4.hoistOff 6
  clear_value t0
  have t1_holds : R.Holds q t1 := h0.of_conf rfl
  split
  · exact t1_holds
  · have h3 : R.Holds q t3 := t1_holds.of_conf rfl
    clear_value t1 t3
    have t4_holds : R.Holds q t4 := h3.forRange 24 fun t c ht => ht.of_conf rfl
    have h5 : R.Holds q t5 := t4_holds.forRange 8 fun t c ht => ht.of_conf rfl
    exact h5.forRange 8 fun t d ht => ht.of_conf rfl

end ConfigRule.Holds
end Sys2Proof.Machine

/-!
Requests and the configuration (R40–R42, R49, R53, R62): what a write, a payload, a frame and an SDO transfer carry out keeps a
rule on configurations.
-/

namespace Sys2Proof.Machine

variable {R : ConfigRule} {q : List Instr}

namespace State

/-! ## What leaves the configuration alone -/

@[simp] theorem doSetupIn_conf (s : State) (p v : Nat) : answerConf s (s.doSetupIn p v) = s.conf := by
  have msg1 : ∀ f r h n d t, execSessionSetupMsg1 f r h n d s = .next t → t.conf = s.conf := by
    intro f r h n d t e
    simp only [execSessionSetupMsg1] at e
    split at e
    · cases e; rfl
    · split at e <;> cases e <;> simp
  have msg3 : ∀ f r h a t, execSessionSetupMsg3 f r h a s = .next t → t.conf = s.conf := by
    intro f r h a t e
    simp only [execSessionSetupMsg3] at e
    split at e
    · cases e; rfl
    · split at e
      · cases e; rfl
      · split at e
        · cases e; exact refuseSetup_conf ..
        · exact Host.Outcome.next.inj e ▸ openSession_conf ..
  simp only [doSetupIn]
  split
  · next t e =>
    split at e
    · exact msg1 _ _ _ _ _ t (Option.some.inj e)
    · exact msg3 _ _ _ _ t (Option.some.inj e)
    · cases e
  · rfl

@[simp] theorem doGroupCmd_conf (s : State) (h v : Nat) : answerConf s (s.doGroupCmd h v) = s.conf := by
  simp only [doGroupCmd, answerConf_check]
  (repeat' split) <;> simp

@[simp] theorem doPending_conf (s : State) (h : Nat) (vals : List (Nat × Nat)) : answerConf s (s.doPending h vals) = s.conf := by
  simp only [doPending]
  split
  · rfl
  · simp only [answerConf_check, answerConf_ok]
    rw [forEach_conf _ _ _ fun s v => by split <;> simp, ite_self]

@[simp] theorem doDiscardPending_conf (s : State) (x : Session) : answerConf s (s.doDiscardPending x) = s.conf := rfl

@[simp] theorem doRead_conf (s : State) (h : Nat) (role : Role) (p ix sub : Nat) :
    answerConf s (s.doRead h role p ix sub) = s.conf := by
  simp only [doRead]
  split
  · rfl
  · split_ifs
    · rfl
    · simp
    · simp

@[simp] theorem doReadRecord_conf (s : State) (h : Nat) (role : Role) (p ix : Nat) :
    answerConf s (s.doReadRecord h role p ix) = s.conf := by
  unfold doReadRecord
  split
  · rfl
  · next d _ =>
    have reads : ∀ (l : List Nat) (a : Answer), answerConf s a = s.conf → answerConf s (l.foldl (fun (a : Answer) sub =>
        match a with
        | .error e => .error e
        | .ok t => match t.doRead h role p ix sub with
          | .error e => .error e
          | .ok u => .ok { u with reply := { u.reply with data := t.reply.data ++ u.reply.data } }) a) = s.conf := by
      intro l
      induction l with
      | nil => exact fun a ha => ha
      | cons sub l ih =>
        refine fun a ha => ih _ ?_
        cases a with
        | error e => rfl
        | ok t =>
          have ht : answerConf t (t.doRead h role p ix sub) = t.conf := doRead_conf ..
          cases hr : t.doRead h role p ix sub with
          | error e =>
            simp only [hr]
            rfl
          | ok u =>
            rw [hr] at ht
            simp only [hr]
            exact Eq.trans (b := u.conf) rfl (ht.trans ha)
    exact reads _ _ rfl

@[simp] theorem doDomainRead_conf (s : State) (h : Nat) (role : Role) (ix sub off len top : Nat) :
    answerConf s (s.doDomainRead h role ix sub off len top) = s.conf := by
  simp only [doDomainRead]
  split
  · rfl
  · simp

@[simp] theorem doCfgDomain_conf (s : State) (x : Session) (ix off : Nat) (data : List Nat) :
    answerConf s (s.doCfgDomain x ix off data) = s.conf := by
  simp only [doCfgDomain]
  split_ifs
  · rfl
  · rfl
  · rfl
  · exact domainWrites_conf _ _ _ _ fun t => doPending_conf ..

@[simp] theorem doBufferWrite_conf (s : State) (x : Session) (off : Nat) (data : List Nat) :
    answerConf s (s.doBufferWrite x off data) = s.conf := by
  simp only [doBufferWrite, answerConf_check]
  rw [domainWrites_conf _ _ _ _ fun t => by simp only [answerConf_ok]; split <;> rfl, ite_self]

@[simp] theorem doDomainWrite_conf (s : State) (x : Session) (ix sub off : Nat) (data : List Nat) (top : Nat) :
    answerConf s (s.doDomainWrite x ix sub off data top) = s.conf := by
  simp only [doDomainWrite]
  split
  · rfl
  · simp

end State

/-- An operation that may have no say in a write: the answer it gives leaves a state in which a property holds. -/
def Offers (K : State → Prop) : Option Answer → Prop
  | some r => Gives K r
  | none => True

theorem offers_ite {K : State → Prop} {c : Prop} [Decidable c] {r : Answer} {o : Option Answer} (hr : Gives K r)
    (ho : Offers K o) : Offers K (if c then some r else o) := by
  split
  · exact hr
  · exact ho

namespace ConfigRule.Holds

/-! ## Writes (R35, R40) -/

theorem doLcConfirm {s : State} (h : R.Holds q s) (x : Session) (v : Nat) : Gives (R.Holds q) (s.doLcConfirm x v) := by
  unfold State.doLcConfirm
  extract_lets hx
  split
  · exact h.of_conf (State.setSob_conf ..)
  · split_ifs
    · exact h.of_conf (State.setSob_conf ..)
    · exact h.of_conf (State.setSob_conf ..)
    · exact h.of_conf (State.setSob_conf ..)
    · exact (h.of_conf (State.setSob_conf ..)).lcChange _ _

theorem doDebugClose {s : State} (h : R.Holds q s) (v : Nat) : Gives (R.Holds q) (s.doDebugClose v) :=
  gives_check (k := .ok (s.endDebug 2)) (h.endDebug 2) _ _

theorem doSingle {s : State} (h : R.Holds q s) (x : Session) (p ix sub v : Nat) :
    Offers (R.Holds q) (s.doSingle x p ix sub v) := by
  unfold State.doSingle
  extract_lets handle k
  refine offers_ite ?commit ?rest
  case commit =>
    split
    · exact h.doCommit x
    · exact h.gives (State.doDiscardPending_conf s x)
  case rest =>
    repeat' refine offers_ite (h.gives (by simp)) ?_
    trivial

theorem doSecured {s : State} (h : R.Holds q s) (x : Session) (ix sub v : Nat) :
    Offers (R.Holds q) (s.doSecured x ix sub v) := by
  unfold State.doSecured
  extract_lets handle k
  refine offers_ite (h.gives (by simp)) (offers_ite (h.doLcConfirm x v) (offers_ite (h.gives (by simp))
    (offers_ite (h.doDebugClose v) ?_)))
  iterate 9 refine offers_ite (h.gives (by simp)) ?_
  refine offers_ite (h.doUpdConfirm v) ?_
  iterate 2 refine offers_ite (h.gives (by simp)) ?_
  split
  · repeat' refine offers_ite (h.gives (by simp)) ?_
    trivial
  · split
    · repeat' refine offers_ite (h.gives (by simp)) ?_
      trivial
    · trivial

theorem doInstance {s : State} (h : R.Holds q s) (ix sub v : Nat) : Offers (R.Holds q) (s.doInstance ix sub v) := by
  have timer : ∀ (t : Nat) (l : List Nat), Offers (R.Holds q)
      (l.findSome? fun i => if key ix sub = Obj.tmrCmpk t i then some (s.doCmpWrite t i v) else none) := by
    intro t l
    induction l with
    | nil => trivial
    | cons i l ih =>
      rw [List.findSome?_cons]
      split
      · next r e =>
        split at e
        · exact Option.some.inj e ▸ h.gives (State.doCmpWrite_conf ..)
        · cases e
      · exact ih
  unfold State.doInstance
  extract_lets k
  split
  · exact h.gives (by split <;> simp)
  split
  · exact h.gives (by split <;> simp)
  split
  · exact h.gives (by simp)
  split
  · exact h.gives (by split_ifs <;> simp)
  split
  · exact h.gives (by split <;> simp)
  split
  · exact h.gives (by split_ifs <;> simp)
  split
  · exact h.gives (by simp)
  split
  · exact h.gives (by split <;> simp)
  split
  · exact h.gives (by split <;> simp)
  split
  · exact h.gives (by split <;> simp)
  split
  · exact offers_ite (h.gives (by simp)) (timer _ _)
  · trivial

theorem doCommand {s : State} (h : R.Holds q s) (x : Session) (p ix sub v : Nat) (d : Desc) :
    Gives (R.Holds q) (s.doCommand x p ix sub v d) := by
  unfold State.doCommand
  have single := h.doSingle x p ix sub v
  have secured := h.doSecured x ix sub v
  have byInstance := h.doInstance ix sub v
  split
  · exact h.of_conf (State.doDomOffset_conf ..)
  · split
    · next r e => rw [e] at single; exact single
    · split
      · next r e => rw [e] at secured; exact secured
      · split
        · next r e => rw [e] at byInstance; exact byInstance
        · exact h.of_conf (by split <;> simp)

theorem doWrite {s : State} (h : R.Holds q s) (x : Session) (p ix sub : Nat) (data : List Nat) :
    Gives (R.Holds q) (s.doWrite x p ix sub data) := by
  unfold State.doWrite
  extract_lets v
  split
  · trivial
  · split
    · exact h.gives (State.doPending_conf ..)
    · exact h.doCommand ..

/-! ## Payloads and frames of the halyard (R48–R51, R62) -/

theorem runCommand {s : State} (h : R.Holds q s) (handle p : Nat) (c : State.DictCmd) :
    Gives (R.Holds q) (s.runCommand handle p c) := by
  unfold State.runCommand
  split
  · trivial
  · split
    · split
      · trivial
      · split
        · exact h.gives (State.doRead_conf ..)
        · exact h.gives (State.doReadRecord_conf ..)
        · trivial
    · split
      · exact h.gives (State.doRead_conf ..)
      · exact h.doWrite ..
      · exact h.gives (State.doDomainRead_conf ..)
      · exact h.gives (State.doDomainWrite_conf ..)
      · exact h.gives (State.doReadRecord_conf ..)

theorem commandDone {s : State} (h : R.Holds q s) (handle p : Nat) (c : State.DictCmd) :
    R.Holds q (s.commandDone handle p c).1 := by
  have runs := (h.of_conf (with_reply_conf s {})).runCommand handle p c
  unfold State.commandDone
  split
  · next t e => rw [e] at runs; exact runs
  · exact h

theorem runPayload {s : State} (h : R.Holds q s) (handle p : Nat) (payload : List Nat) :
    R.Holds q (s.runPayload handle p payload).1 := by
  unfold State.runPayload
  generalize (State.commandsOf payload.length payload).zipIdx = l
  suffices hl : ∀ a : State × List Reply, R.Holds q a.1 → R.Holds q (l.foldl _ a).1 from hl (s, []) h
  induction l with
  | nil => exact fun _ ha => ha
  | cons c l ih =>
    refine fun a ha => ih _ ?_
    dsimp only
    split
    · exact ha
    · split
      · exact ha
      · exact ha.commandDone ..

theorem sessionRequest {s : State} (h : R.Holds q s) (x : Session) (transaction : Nat) (payload : List Nat) :
    R.Holds q (s.sessionRequest x transaction payload) := by
  unfold State.sessionRequest
  extract_lets handle r
  split
  · exact h.of_conf (State.respond_conf ..)
  · split_ifs
    · exact h.of_conf (State.setSession_conf ..)
    · split
      · next t e =>
        refine h.of_conf ?_
        unfold State.enqueueRequest at e
        split at e
        · cases e
        · cases e
          simp
      · exact h.of_conf (State.respond_conf ..)
    · have hr : R.Holds q r.1 := h.runPayload handle 0 payload
      exact hr.of_conf (by simp)

theorem requestFrame {s : State} (h : R.Holds q s) (b : List Nat) : R.Holds q (s.requestFrame b) := by
  unfold State.requestFrame
  extract_lets transaction handle fresh n payload r
  split_ifs
  · exact h.of_conf (State.respond_conf ..)
  · exact h.of_conf (State.enqueueOpen_conf ..)
  · exact (h.runPayload 0 0 payload).of_conf (State.respond_conf ..)
  · split
    · exact h.of_conf rfl
    · dsimp only
      split
      · exact h.of_conf (State.authFailed_conf ..)
      · exact (h.of_conf (State.setSession_conf ..)).sessionRequest ..

/-! ## SDO transfers (R53–R55, R62) -/

theorem settle {s : State} (h : R.Holds q s) {r : Answer} (hr : Gives (R.Holds q) r) : R.Holds q (s.settle r).1 := by
  cases r with
  | ok t => exact hr
  | error e => exact h

theorem sdoWrite {s : State} (h : R.Holds q s) (x : Session) (c k : Nat) (data : List Nat) :
    Gives (R.Holds q) (s.sdoWrite x c k data) := by
  unfold State.sdoWrite
  extract_lets ix off
  split
  · have hw := h.gives (s.doDomainWrite_conf x ix 3 off data State.sdoTop)
    split
    · trivial
    · next t e =>
      have ht : R.Holds q t := by rw [e] at hw; exact hw
      exact ht.of_conf (by split <;> simp)
  · exact h.doWrite ..

theorem sdoStore {s : State} (h : R.Holds q s) (c k : Nat) (bytes : List Nat) : R.Holds q (s.sdoStore c k bytes) := by
  unfold State.sdoStore
  extract_lets s1 n reply handle fresh data
  have h1 : R.Holds q s1 := h.of_conf rfl
  clear_value s1
  split
  · exact (h1.settle (gives_check (h1.gives (State.doSetupIn_conf ..)) _ _)).of_conf (State.sdoAnswer_conf ..)
  · split
    · exact h1.of_conf (State.sdoAbort_conf ..)
    · split
      · exact h1.of_conf (State.sdoAbort_conf ..)
      · dsimp only
        split
        · exact h1.of_conf (by simp)
        · have h2 := fun x => h1.of_conf (State.setSession_conf s1 x)
          exact ((h2 _).settle ((h2 _).sdoWrite ..)).of_conf (State.sdoAnswer_conf ..)

end ConfigRule.Holds

namespace State

theorem sdoRead_conf (s : State) (x : Session) (c k : Nat) : answerConf s (s.sdoRead x c k) = s.conf := by
  simp [sdoRead]

/-- The state that an upload's bytes are fetched in, or its failure leaves. -/
def fetched : Except (State × Status) (State × List Nat × Nat) → State
  | .ok (t, _) => t
  | .error (t, _) => t

theorem sdoFetch_conf (s : State) (c k : Nat) : (fetched (s.sdoFetch c k)).conf = s.conf := by
  unfold sdoFetch
  extract_lets s1
  have h1 : s1.conf = s.conf := rfl
  have plain := doRead_conf s1 0 .host (canPathNo c) (keyIndex k) (keySub k)
  clear_value s1
  split
  · split
    · exact h1
    · next t e => exact (show t.conf = s1.conf by rw [e] at plain; exact plain).trans h1
  · split
    · exact h1
    · next x _ =>
      have wrapped := s1.sdoRead_conf x c k
      split
      · exact h1
      · next t e =>
        have ht : t.conf = s.conf := (show t.conf = s1.conf by rw [e] at wrapped; exact wrapped).trans h1
        split
        · exact (closeSession_conf ..).trans h1
        · dsimp only [fetched]
          split
          · exact (setSession_conf ..).trans ht
          · exact ht

@[simp] theorem sdoOffer_conf (s : State) (c : Nat) (t : SdoTransfer) : (s.sdoOffer c t).conf = s.conf := by
  have e := s.sdoFetch_conf c t.key
  unfold sdoOffer
  split <;> next h => rw [h] at e; simpa [fetched] using e

@[simp] theorem sdoExpedite_conf (s : State) (c k : Nat) : (s.sdoExpedite c k).conf = s.conf := by
  have e := s.sdoFetch_conf c k
  unfold sdoExpedite
  split <;> next h => rw [h] at e; simpa [fetched] using e

end State

namespace ConfigRule.Holds

theorem sdoServe {s : State} (h : R.Holds q s) (c : Nat) (t : SdoTransfer) {run : State → State}
    (hr : R.Holds q (run s)) : R.Holds q (s.sdoServe c t run) := by
  unfold State.sdoServe
  extract_lets r full x s1
  split
  · exact hr
  · split
    · exact h.of_conf (State.sdoAbort_conf ..)
    · have h1 : R.Holds q s1 := h.of_conf (by simp [s1])
      clear_value s1
      split
      · exact h1.of_conf (State.setSession_conf ..)
      · exact h1.of_conf rfl

theorem sdoWakes {s : State} (h : R.Holds q s) (c : Nat) : R.Holds q (s.sdoWakes c) := by
  unfold State.sdoWakes
  split
  · exact h
  · extract_lets x s1
    have h1 : R.Holds q s1 := h.of_conf (State.setSdo_conf ..)
    clear_value s1
    split_ifs
    · exact h1.sdoStore ..
    · exact h1.of_conf (State.sdoExpedite_conf ..)
    · exact h1.of_conf (State.sdoOffer_conf ..)

theorem sdoComplete {s : State} (h : R.Holds q s) (c : Nat) (t : SdoTransfer) : R.Holds q (s.sdoComplete c t) := by
  unfold State.sdoComplete
  split
  · split
    · exact h.sdoServe c t (h.sdoStore ..)
    · exact h.of_conf (State.sdoAbort_conf ..)
  · exact h.sdoServe c t (h.sdoStore ..)

theorem segDownload {s : State} (h : R.Holds q s) (c : Nat) (f : SdoFrame) : R.Holds q (s.segDownload c f) := by
  cases f with
  | initiate ix sub size => exact h.of_conf (by simp [State.segDownload])
  | segment toggle last data =>
    simp only [State.segDownload]
    split
    · exact h.of_conf (State.sdoAbort_conf ..)
    · split_ifs
      · exact h.of_conf (State.sdoAbort_conf ..)
      · exact h.of_conf (State.sdoAbort_conf ..)
      · exact h.sdoComplete ..
      · exact h.of_conf (State.sdoGoOn_conf ..)

theorem segUpload {s : State} (h : R.Holds q s) (c : Nat) (f : SdoFrame) : R.Holds q (s.segUpload c f) := by
  cases f with
  | initiate ix sub size =>
    have hb := h.of_conf (State.sdoBegin_conf s c)
    exact hb.sdoServe c _ (run := fun s => s.sdoOffer c _) (hb.of_conf (State.sdoOffer_conf ..))
  | segment toggle last data =>
    simp only [State.segUpload]
    split
    · exact h.of_conf (State.sdoAbort_conf ..)
    · refine h.of_conf ?_
      split_ifs <;> simp

theorem blkDownload {s : State} (h : R.Holds q s) (c : Nat) (f : SdoBlockFrame) : R.Holds q (s.blkDownload c f) := by
  cases f with
  | initiate ix sub size blk crc => exact h.of_conf (by simp [State.blkDownload])
  | segment seqno last data =>
    simp only [State.blkDownload]
    split
    · exact h.of_conf (State.sdoAbort_conf ..)
    · refine h.of_conf ?_
      split_ifs <;> simp
  | ack seqno size => exact h.of_conf (State.sdoAbort_conf ..)
  | end_ crcOk =>
    simp only [State.blkDownload]
    split
    · exact h.of_conf (State.sdoAbort_conf ..)
    · split
      · exact h.of_conf (State.sdoAbort_conf ..)
      · exact h.sdoComplete ..

theorem blkUpload {s : State} (h : R.Holds q s) (c : Nat) (f : SdoBlockFrame) : R.Holds q (s.blkUpload c f) := by
  cases f with
  | initiate ix sub size blk crc =>
    have hb := h.of_conf (State.sdoBegin_conf s c)
    simp only [State.blkUpload]
    split
    · exact hb.of_conf (State.sdoAbort_conf ..)
    · exact hb.sdoServe c _ (hb.of_conf (State.sdoOffer_conf ..))
  | segment seqno last data => exact h.of_conf (State.sdoAbort_conf ..)
  | ack seqno size =>
    simp only [State.blkUpload]
    split
    · exact h.of_conf (State.sdoAbort_conf ..)
    · refine h.of_conf ?_
      split <;> simp
  | end_ crcOk =>
    simp only [State.blkUpload]
    split
    · exact h.of_conf (State.sdoAbort_conf ..)
    · refine h.of_conf ?_
      split <;> simp

/-! ## Requests that waited for the runtime cores (R62, R353) -/

theorem runWaiting {s : State} (h : R.Holds q s) (handle : Nat) (r : Request) : R.Holds q (s.runWaiting handle r) := by
  unfold State.runWaiting
  split
  · exact h.sdoWakes _
  · extract_lets a
    have ha : R.Holds q a.1 := h.runPayload ..
    split
    · exact ha.of_conf rfl
    · exact (ha.of_conf (State.keepResponse_conf ..)).forRange _ fun t i ht => ht.of_conf (State.respondAs_conf ..)

theorem sessionQueue {s : State} (h : R.Holds q s) (handle : Nat) : R.Holds q (s.sessionQueue handle) := by
  unfold State.sessionQueue
  split
  · exact h
  · exact (h.of_conf (State.setSession_conf ..)).forEach _ fun t r ht => ht.runWaiting handle r

theorem runQueues {s : State} (h : R.Holds q s) : R.Holds q s.runQueues := by
  unfold State.runQueues
  extract_lets open_ s1
  have h1 : R.Holds q s1 := h.forEach _ fun t x ht => ht.sessionQueue x
  exact (h1.of_conf (with_anon_conf s1 [])).forEach _ fun t r ht => ht.runWaiting 0 r

theorem coresWoken {s : State} (h : R.Holds q s) : R.Holds q s.coresWoken := by
  unfold State.coresWoken
  extract_lets s1 s2 s3 pw
  have h1 : R.Holds q s1 := h.forRange 8 fun t c ht => ht.of_conf (by split <;> simp)
  clear_value s1
  have h2 : R.Holds q s2 := h1.runQueues.forRange 8 fun t c ht => ht.sdoWakes c
  split
  · exact h
  · have h3 : R.Holds q s3 := h2.of_conf (State.dropVotes_conf s2 4 State.allDomains)
    clear_value s3
    exact h3.of_conf rfl

end ConfigRule.Holds
end Sys2Proof.Machine

/-!
What a command leaves of the configuration and the queue, for the commands that do not move them.
-/

namespace Sys2Proof.Machine

/-- What a command leaves of the configuration and the queue: one that does not end in a state leaves them as they were. -/
def outcomeConf (s : State) : Host.Outcome State Fault Refusal →
    Regs × Table ConfigCopy × List CommitJob × Option Regs × Option Regs × List Instr
  | .next t => t.conf
  | _ => s.conf

@[simp] theorem outcomeConf_next (s t : State) : outcomeConf s (.next t) = t.conf := rfl
@[simp] theorem outcomeConf_ite {c : Prop} [Decidable c] (s : State) (a b : Host.Outcome State Fault Refusal) :
    outcomeConf s (if c then a else b) = if c then outcomeConf s a else outcomeConf s b := by split <;> rfl
@[simp] theorem outcomeConf_whenever (s t u : State) (c : Bool) :
    outcomeConf s (whenever c t u) = if c then u.conf else t.conf := by cases c <;> rfl
theorem outcomeConf_whenever_same {s t : State} (h : t.conf = s.conf) (c : Bool) :
    outcomeConf s (whenever c s t) = s.conf := by simp [h]

namespace State

theorem finish_outcomeConf {s t : State} {r : Answer} (ht : t.conf = s.conf) (hr : answerConf t r = t.conf) :
    outcomeConf s (t.finish r) = s.conf := by
  cases r with
  | ok u => exact Eq.trans hr ht
  | error e => exact ht

theorem enqueueRequest_conf {s t : State} {x : Session} {r : Request} (e : s.enqueueRequest x r = .ok t) :
    t.conf = s.conf := by
  unfold enqueueRequest at e
  split at e
  · cases e
  · cases e
    simp

@[simp] theorem request_outcomeConf {s : State} (handle : Nat) (role : Role) (bytes : List Nat)
    {body : Session → State → Answer} (hb : ∀ x t, answerConf t (body x t) = t.conf) :
    outcomeConf s (s.request handle role bytes body) = s.conf := by
  unfold request
  split
  · rfl
  · split
    · rfl
    · next x _ =>
      extract_lets y s1
      have h1 : s1.conf = s.conf := rfl
      clear_value s1
      split_ifs
      · split
        · next t e => exact (enqueueRequest_conf e).trans h1
        · exact finish_outcomeConf h1 rfl
      · exact finish_outcomeConf h1 rfl
      · exact finish_outcomeConf h1 (hb y s1)

@[simp] theorem openRequest_outcomeConf {s : State} (handle ix : Nat) (bytes : List Nat)
    {body : Nat → Role → State → Answer} (hb : ∀ k role t, answerConf t (body k role t) = t.conf) :
    outcomeConf s (s.openRequest handle ix bytes body) = s.conf := by
  unfold openRequest
  split_ifs
  · exact request_outcomeConf _ _ _ fun x t => hb x.handle x.role t
  · rfl
  · exact enqueueOpen_conf ..
  · exact finish_outcomeConf (t := { s with reply := {} }) rfl (hb 0 .host _)

@[simp] theorem hostVote_outcomeConf (s : State) (sess op mask : Nat) :
    outcomeConf s (s.hostVote sess op mask) = s.conf := request_outcomeConf _ _ _ fun _ t => t.doHostVote_conf _

@[simp] theorem blockageEnd_conf (s : State) (h : Nat) : (s.blockageEnd h).conf = s.conf := by simp [blockageEnd]
@[simp] theorem tachOpens_conf (s : State) (f rip : Nat) : (s.tachOpens f rip).conf = s.conf := by simp [tachOpens]
@[simp] theorem dinFaults_conf (s : State) (c : Nat) (chatter surge : Bool) :
    (s.dinFaults c chatter surge).conf = s.conf := by simp [dinFaults]

end State

/-! ## Commands whose case analysis is by hand -/

theorem execWiperPark_conf (h : Fin 6) (parked : Bool) (s : State) : outcomeConf s (execWiperPark h parked s) = s.conf := by
  refine outcomeConf_whenever_same ?_ _
  split_ifs
  · exact State.setBr_conf ..
  · exact State.blockageEnd_conf ..
  · rfl
  · split <;> simp

theorem execSpinupWindowEnd_conf (f : Fin 4) (ripples : Nat) (s : State) :
    outcomeConf s (execSpinupWindowEnd f ripples s) = s.conf := by
  unfold execSpinupWindowEnd
  extract_lets c tach rip s1 s2
  refine outcomeConf_whenever_same ?_ _
  have h2 : s2.conf = s.conf := by simp only [s2, s1]; split <;> simp
  clear_value s2
  split_ifs
  · exact State.fanFailed_conf ..
  · exact (State.tachOpens_conf ..).trans h2
  · exact h2

theorem execSvRangeChangeEnd_conf (c : Fin 8) (s : State) : outcomeConf s (execSvRangeChangeEnd c s) = s.conf := by
  unfold execSvRangeChangeEnd
  extract_lets ch s1
  refine outcomeConf_whenever_same ?_ _
  have h1 : s1.conf = s.conf := by simp [s1]
  split
  · exact (State.setSv_conf ..).trans h1
  · exact h1

theorem execJ1939ClaimWait_conf (c : Fin 8) (s : State) : outcomeConf s (execJ1939ClaimWait c s) = s.conf := by
  unfold execJ1939ClaimWait
  extract_lets x
  split <;> simp

theorem execNmSleepWaitExpiry_conf (s : State) : outcomeConf s (execNmSleepWaitExpiry s) = s.conf := by
  unfold execNmSleepWaitExpiry
  extract_lets s1 ring s2
  have h1 : s1.conf = s.conf := by simp [s1]
  have h2 : s2.conf = s1.conf := rfl
  split_ifs <;> simp [h2, h1]

theorem execNmKeeper_conf (i : Fin 64) (s : State) : outcomeConf s (execNmKeeper i s) = s.conf := by
  unfold execNmKeeper
  extract_lets n s1
  split
  · rfl
  · exact outcomeConf_whenever_same (by simp [s1]) _

theorem execBusOffRecovery_conf (c : Fin 8) (s : State) : outcomeConf s (execBusOffRecovery c s) = s.conf := by
  unfold execBusOffRecovery
  extract_lets x s1 s2
  split
  · rfl
  · exact outcomeConf_whenever_same (by simp [s2, s1]) _

theorem execCapabilityRetry_conf (a : Fin 17) (s : State) : outcomeConf s (execCapabilityRetry a s) = s.conf := by
  unfold execCapabilityRetry
  extract_lets p
  split
  · rfl
  · exact outcomeConf_whenever_same (by split <;> simp) _

theorem execNoticeSend_conf (s : State) : outcomeConf s (execNoticeSend s) = s.conf := by
  unfold execNoticeSend
  split
  · rfl
  · next o rest _ =>
    have sent : ∀ (t : State) (h : Nat) (g : HalFrame), (({ t with hal :=
        { t.hal with notices := rest, noticeSent := some (o, h) } } : State).halSent g).conf = t.conf :=
      fun t h g => State.halSent_conf ..
    dsimp only
    split
    · exact outcomeConf_whenever_same (sent ..) _
    · split
      · exact outcomeConf_whenever_same (State.closeSession_conf ..) _
      · exact outcomeConf_whenever_same ((sent ..).trans (State.setSession_conf ..)) _

theorem execSessionSetupMsg1_conf (path : Fin 9) (role : BitVec 8) (hostId : BitVec 32) (nH serial : BitVec 128)
    (s : State) : outcomeConf s (execSessionSetupMsg1 path role hostId nH serial s) = s.conf := by
  unfold execSessionSetupMsg1
  extract_lets p r h d nD auth s1 secure s2
  have h2 : s2.conf = s.conf := rfl
  clear_value s2
  split
  · rfl
  · split
    · exact State.refuseSetup_conf ..
    · exact (State.putOut_conf ..).trans h2

theorem execSessionSetupMsg3_conf (path : Fin 9) (role : BitVec 8) (hostId : BitVec 32) (authH : BitVec 128)
    (s : State) : outcomeConf s (execSessionSetupMsg3 path role hostId authH s) = s.conf := by
  unfold execSessionSetupMsg3
  extract_lets p
  split
  · rfl
  · split
    · rfl
    · dsimp only
      split
      · exact State.refuseSetup_conf ..
      · exact State.openSession_conf ..

theorem execCanTransmissionDone_conf (c : Fin 8) (s : State) : outcomeConf s (execCanTransmissionDone c s) = s.conf := by
  delta execCanTransmissionDone
  split
  · rfl
  · next f _ =>
    have h1 := State.frameSent_conf s c f
    dsimp only
    generalize s.frameSent c f = s1 at h1 ⊢
    refine (State.nmSent_conf ..).trans (Eq.trans ?_ h1)
    split <;> simp

theorem execCanTxError_conf (c : Fin 8) (error : Fin 7) (s : State) : outcomeConf s (execCanTxError c error s) = s.conf := by
  delta execCanTxError
  split <;> simp

theorem execPllLock_conf (s : State) : outcomeConf s (execPllLock s) = s.conf := by
  refine outcomeConf_whenever_same ?_ _
  rfl

theorem execFirstSweepStart_conf (s : State) : outcomeConf s (execFirstSweepStart s) = s.conf := by
  refine outcomeConf_whenever_same ?_ _
  exact setOb_conf ..

end Sys2Proof.Machine

/-!
Every command keeps a rule on configurations: most leave the configuration as it is, and the others move it by the operations
above.
-/

namespace Sys2Proof.Machine

variable {R : ConfigRule} {q : List Instr}

namespace ConfigRule.Holds

theorem ends {s : State} (h : R.Holds q s) {o : Host.Outcome State Fault Refusal} (e : outcomeConf s o = s.conf) :
    Ends (R.Holds q) o := by
  cases o with
  | next t => exact h.of_conf e
  | fault | refused => trivial

theorem finish {s : State} (h : R.Holds q s) {r : Answer} (hr : Gives (R.Holds q) r) : Ends (R.Holds q) (s.finish r) := by
  cases r with
  | ok t => exact ConfigRule.Holds.of_conf (s := t) hr rfl
  | error e => exact h.of_conf rfl

theorem request {s : State} (h : R.Holds q s) (handle : Nat) (role : Role) (bytes : List Nat) {body : Session → State → Answer}
    (hb : ∀ x t, R.Holds q t → Gives (R.Holds q) (body x t)) : Ends (R.Holds q) (s.request handle role bytes body) := by
  unfold State.request
  split
  · exact h
  · split
    · exact h.finish (r := .error .noSession) trivial
    · next x _ =>
      extract_lets y s1
      have h1 : R.Holds q s1 := h.of_conf rfl
      clear_value s1
      split_ifs
      · split
        · next t e => exact h1.of_conf (State.enqueueRequest_conf e)
        · exact h1.finish (r := .error _) trivial
      · exact h1.finish (r := .error _) trivial
      · exact h1.finish (hb y s1 h1)

theorem writes {s : State} (h : R.Holds q s) (handle : Nat) (bytes : List Nat) (ix sub : Nat) (data : List Nat) :
    Ends (R.Holds q) (s.request handle .host bytes fun x s => s.doWrite x 0 ix sub data) :=
  h.request handle .host bytes fun x _ ht => ht.doWrite x 0 ix sub data

theorem domOffsetWrite {s : State} (h : R.Holds q s) (sess : Nat) (index : BitVec 16) (offset : BitVec 64) :
    Ends (R.Holds q) (execDomOffsetWrite sess index offset s) := by
  refine h.request _ _ _ fun x t ht => ?_
  split
  · trivial
  · exact ht.doWrite x 0 index.toNat 2 _

theorem sdoExpeditedUpload {s : State} (h : R.Holds q s) (c : Fin 8) (index : BitVec 16) (sub : BitVec 8) :
    Ends (R.Holds q) (execSdoExpeditedUpload c index sub s) := by
  unfold execSdoExpeditedUpload
  extract_lets k s1 short
  have h1 : R.Holds q s1 := h.of_conf (State.sdoBegin_conf s c)
  clear_value s1
  split
  · exact h
  · split
    · exact h1.of_conf (State.sdoAbort_conf ..)
    · exact h1.sdoServe c _ (h1.of_conf (State.sdoExpedite_conf ..))

theorem commitApply {s : State} (h : R.Holds q s) : Ends (R.Holds q) (execCommitApply s) := by
  unfold execCommitApply
  split
  · exact h
  · next done j rest e => exact ends_whenever h (h.commitTakes (State.nextCommit_eq e))

theorem commitDurable {s : State} (h : R.Holds q s) (stored : Bool) : Ends (R.Holds q) (execCommitDurable stored s) := by
  unfold execCommitDurable
  split
  · exact h
  · next j rest e =>
    split_ifs
    · exact h
    · exact h.commitEnds e
    · exact h.commitFails e j.serial

theorem extest {s : State} (h : R.Holds q s) (enter : Bool) : Ends (R.Holds q) (execExtest enter s) := by
  unfold execExtest
  split
  · exact ends_whenever h (h.of_conf rfl)
  · have h1 : R.Holds q { s with secure := { s.secure with extest := false } } := h.of_conf rfl
    exact ends_whenever h (h1.hoistRestart 9)

theorem scrub {s : State} (h : R.Holds q s) (mram : Bool) (corrected : BitVec 16) (damaged : Fin 4) :
    Ends (R.Holds q) (execScrub mram corrected damaged s) := by
  unfold execScrub
  exact ends_whenever h ((h.of_conf (State.testRun_conf ..)).scrubbed _ _)

theorem coreSupplyFault {s : State} (h : R.Holds q s) (mv : Nat) : Ends (R.Holds q) (execCoreSupplyFault mv s) := by
  have h1 : R.Holds q { s with boot := { s.boot with coreMv := mv } } := h.of_conf rfl
  exact ends_whenever h (h1.hoistRestart 5)

theorem exitDipped {s : State} (h : R.Holds q s) : Ends (R.Holds q) (execExitDipped s) :=
  ends_whenever h (h.of_conf (State.fromDipped_conf s)).coresWoken

theorem exitHalfMast {s : State} (h : R.Holds q s) (dins : BitVec 16) : Ends (R.Holds q) (execExitHalfMast dins s) :=
  ends_whenever h (h.of_conf (State.fromHalfMast_conf s dins.toNat)).coresWoken

theorem microcodeCheck {s : State} (h : R.Holds q s) (pass : Bool) : Ends (R.Holds q) (execMicrocodeCheck pass s) := by
  refine ends_whenever h ?_
  split
  · exact h.of_conf (State.testRun_conf ..)
  · exact h.sequencerFails

theorem exec {s : State} (h : R.Holds q s) (i : Instr) : Ends (R.Holds q) (Machine.exec i s) := by
  cases i with
  | gdTrip | gdRampTimeout | gdGateOpen | gdInterlockFault | gdSoftStartEnd | gdOpenLoad | gdOffDiagCheck | gdThermalUpdate |
      vcpLow | vcpRestored | drainRailAbsent | drainRailRestored | gdRetry | gdFaultClear | gdDiagRun | bridgeBrakeEnd |
      bridgeRunMax | bridgeStall | bridgeOpenLoad | forceEstimate | pinch | pinchReversalEnd | lockPulseEnd |
      wipeIntervalExpiry | wiperBlocked | brClear | brForget | fanLoopUpdate | fanStartFailed | fanRetry | fanStallRunning |
      tachOpen | tachRestored | fanClear =>
    -- Outputs: gate drivers, bridges and fans
    refine h.ends ?_
    unfold Machine.exec
    simp [execGdTrip, execGdRampTimeout, execGdGateOpen, execGdInterlockFault, execGdSoftStartEnd, execGdOpenLoad,
      execGdOffDiagCheck, execGdThermalUpdate, execVcpLow, execVcpRestored, execDrainRailAbsent, execDrainRailRestored,
      execGdRetry, execGdFaultClear, execGdDiagRun, execBridgeBrakeEnd, execBridgeRunMax, execBridgeStall, execBridgeOpenLoad,
      execForceEstimate, execPinch, execPinchReversalEnd, execLockPulseEnd, execWipeIntervalExpiry, execWiperBlocked,
      execBrClear, execBrForget, execFanLoopUpdate, execFanStartFailed, execFanRetry, execFanStallRunning, execTachOpen,
      execTachRestored, execFanClear]
  | svBoostEnd | svPeakHoldEnd | svFastOffEnd | svRetrigger | svRegFault | svRangeChangeStart | svMoveEvaluation | svTrip |
      svLeak | svOpenLoad | svOffDiagCheck | svOvertemp | svRetry | svFaultClear | svDiagRun | dinEdge | dinChatter |
      dinOvervoltage | doutTrip | doutCooled | doutRetry | doutOpenLoad | doutOffDiagCheck | doutFaultClear | doutDiagRun =>
    -- Valves, inputs and outputs
    refine h.ends ?_
    unfold Machine.exec
    simp [execSvBoostEnd, execSvPeakHoldEnd, execSvFastOffEnd, execSvRetrigger, execSvRegFault, execSvRangeChangeStart,
      execSvMoveEvaluation, execSvTrip, execSvLeak, execSvOpenLoad, execSvOffDiagCheck, execSvOvertemp, execSvRetry,
      execSvFaultClear, execSvDiagRun, execDinEdge, execDinChatter, execDinOvervoltage, execDoutTrip, execDoutCooled,
      execDoutRetry, execDoutOpenLoad, execDoutOffDiagCheck, execDoutFaultClear, execDoutDiagRun]
  | ainSlot | vsensStateChange | tachEdge | tachGlitching | passportLearn | ppRelearn | ppReference | ppClearDrift |
      gdCalibration | svOffsetCalibration | readingExtrapolated | supplyWindowExit | supplyWindowReturn | supMinMaxRead |
      temperatureSample | cableRun | cableMeasured =>
    -- Analogue inputs, measurement and calibration
    refine h.ends ?_
    unfold Machine.exec
    simp [execAinSlot, execVsensStateChange, execTachEdge, execTachGlitching, execPassportLearn, execPpRelearn,
      execPpReference, execPpClearDrift, execGdCalibration, execSvOffsetCalibration, execReadingExtrapolated,
      execSupplyWindowExit, execSupplyWindowReturn, execSupMinMaxRead, execTemperatureSample, execCableRun, execCableMeasured]
  | bpFrame | bpLineFault | bpDiscovery | bpRetryExpiry | bpCommandFrame | bpRediscover | bpNodeClear | nodeTimeout |
      mxLineTrip | mxColumnOvervoltage | mxPixelOpen | mxOvertemp | mxRetry | mxFaultClear | pixelClear | deratingUpdate |
      nbRun | nbBallTest | nbOnlineTest | groupFade | groupPattern | groupRelease | groupQuery =>
    -- Strands, matrices, neighbours and groups
    refine h.ends ?_
    unfold Machine.exec
    simp [execBpFrame, execBpLineFault, execBpDiscovery, execBpRetryExpiry, execBpCommandFrame, execBpRediscover,
      execBpNodeClear, execNodeTimeout, execMxLineTrip, execMxColumnOvervoltage, execMxPixelOpen, execMxOvertemp, execMxRetry,
      execMxFaultClear, execPixelClear, execDeratingUpdate, execNbRun, execNbBallTest, execNbOnlineTest, execGroupFade,
      execGroupPattern, execGroupRelease, execGroupQuery]
  | slopeExpiry | presentValueStep | dissipationStep | waitWarnExpiry | sagCEnter | sagAEnter | sagEnd | loanFreeze |
      loanRelease | timerCompare | timerOverflow | cmpWrite | tmrStart | tmrStop | tmrReset | tmrResetAndStart | gsArm |
      eventPost =>
    -- The arbiter, timers and the event fabric
    refine h.ends ?_
    unfold Machine.exec
    simp [execSlopeExpiry, execPresentValueStep, execDissipationStep, execWaitWarnExpiry, execSagCEnter, execSagAEnter,
      execSagEnd, execLoanFreeze, execLoanRelease, execTimerCompare, execTimerOverflow, execCmpWrite, execTmrStart,
      execTmrStop, execTmrReset, execTmrResetAndStart, execGsArm, execEventPost]
  | protocolException | protocolExceptionEnd | moDataWrite | moDataRead | txPeriod | txTimeoutExpiry | strayAck |
      recoverFromBusOff | discardPendingFrames | oneAttemptNow | aloneRetry | j1939Claim | j1939ContendingClaim |
      j1939RequestClaimed | nmRingMessage | nmAliveTimeout | nmPresentTimeout | nmLimpHomeMessage | selectiveWakeFrame |
      wakePinEdge | busActivityWake | nmHoldStay | nmReleaseStay | nmResume | canBusJoin | transceiverFault |
      transceiverFaultCleared =>
    -- CAN and the ring
    refine h.ends ?_
    unfold Machine.exec
    simp [execProtocolException, execProtocolExceptionEnd, execMoDataWrite, execMoDataRead, execTxPeriod, execTxTimeoutExpiry,
      execStrayAck, execRecoverFromBusOff, execDiscardPendingFrames, execOneAttemptNow, execAloneRetry, execJ1939Claim,
      execJ1939ContendingClaim, execJ1939RequestClaimed, execNmRingMessage, execNmAliveTimeout, execNmPresentTimeout,
      execNmLimpHomeMessage, execSelectiveWakeFrame, execWakePinEdge, execBusActivityWake, execNmHoldStay, execNmReleaseStay,
      execNmResume, execCanBusJoin, execTransceiverFault, execTransceiverFaultCleared]
  | hostClaim | hostRelease | hostReleaseAll | hostEmptyRuleSlots | ownerQuery | heartbeat | heartbeatLoss | safeRelease |
      reflexSegment | bkeyPresence | bkeyExchange | bkeyRemoved | bkeyHeldLow | lfExchange | bgClearLock | relOpen |
      relClose | implementChallenge | implRun | pageSeal | linkRetrain | recordsLost | smartRead | ledgerFlush |
      ledgerAttest | ledgerFormat =>
    -- Ownership, the heartbeat, burgee access and the ledger
    refine h.ends ?_
    unfold Machine.exec
    simp [execHostClaim, execHostRelease, execHostReleaseAll, execHostEmptyRuleSlots, execOwnerQuery, execHeartbeat,
      execHeartbeatLoss, execSafeRelease, execReflexSegment, execBkeyPresence, execBkeyExchange, execBkeyRemoved,
      execBkeyHeldLow, execLfExchange, execBgClearLock, execRelOpen, execRelClose, execImplementChallenge, execImplRun,
      execPageSeal, execLinkRetrain, execRecordsLost, execSmartRead, execLedgerFlush, execLedgerAttest, execLedgerFormat]
  | flyResetRelease | addrBurstSend | addrCodeAccept | addrWaitExpiry | addrConfirm | presenceSend | presenceReceive |
      presenceTimeout | capabilityRequest | capabilityResponse | plcaBeaconLoss | plcaBeaconResume | halyardLinkChange |
      syncReceive | announceReceive | pdelayReqSend =>
    -- The halyard
    refine h.ends ?_
    unfold Machine.exec
    simp [execFlyResetRelease, execAddrBurstSend, execAddrCodeAccept, execAddrWaitExpiry, execAddrConfirm, execPresenceSend,
      execPresenceReceive, execPresenceTimeout, execCapabilityRequest, execCapabilityResponse, execPlcaBeaconLoss,
      execPlcaBeaconResume, execHalyardLinkChange, execSyncReceive, execAnnounceReceive, execPdelayReqSend]
  | trngHealthFail | trngRetest | keyImport | keyGenerate | keyDerive | keyZero | lcRequest | sessionClose | cjRun | pkSign |
      pkVerify | pkExport | randomRead | debugRequest | debuggerConnect | debugHalt | placeHostVote | withdrawHostVote |
      withdrawAllHostVotes | suspendStandingVotes | restoreStandingVotes =>
    -- The secure block
    refine h.ends ?_
    unfold Machine.exec
    simp [execTrngHealthFail, execTrngRetest, execKeyImport, execKeyGenerate, execKeyDerive, execKeyZero, execLcRequest,
      execSessionClose, execCjRun, execPkSign, execPkVerify, execPkExport, execRandomRead, execDebugRequest,
      execDebuggerConnect, execDebugHalt, execPlaceHostVote, execWithdrawHostVote, execWithdrawAllHostVotes,
      execSuspendStandingVotes, execRestoreStandingVotes]
  | holderVoteTimer | domainSwitch | enterDipped | enterHalfMast | wakeCapture | rtcAlarm | rtcSecondsWrite |
      lfOscillationEstablished | stageWrite | updVerify | updDiscard | updActivate | updNodeRun | nodeDistributionPass |
      nodeImageSwitch =>
    -- Power and update
    refine h.ends ?_
    unfold Machine.exec
    simp [execHolderVoteTimer, execDomainSwitch, execEnterDipped, execEnterHalfMast, execWakeCapture, execRtcAlarm,
      execRtcSecondsWrite, execLfOscillationEstablished, execStageWrite, execUpdVerify, execUpdDiscard, execUpdActivate,
      execUpdNodeRun, execNodeDistributionPass, execNodeImageSwitch]
  | laneMismatch | spareJoined | tileFault | sramClusterFault | mramClusterFault | regulatorPhaseFault | stageSelfTest |
      standbyLaneCheck | splitAck | tileRetest | skewCheck | dieLinkWord | laneFailover | laneRetest | forwardedClockLoss |
      pllLockTimeout | lfPeriod | hoistPorRelease | flyResetReleaseAtStart | applyHeldLowVbat | coreSupplyRestored |
      vstoreReadiness | strikeRestart =>
    -- Fault tolerance and the die link
    refine h.ends ?_
    unfold Machine.exec
    simp [execLaneMismatch, execSpareJoined, execTileFault, execSramClusterFault, execMramClusterFault,
      execRegulatorPhaseFault, execStageSelfTest, execStandbyLaneCheck, execSplitAck, execTileRetest, execSkewCheck,
      execDieLinkWord, execLaneFailover, execLaneRetest, execForwardedClockLoss, execPllLockTimeout, execLfPeriod,
      execHoistPorRelease, execFlyResetReleaseAtStart, execApplyHeldLowVbat, execCoreSupplyRestored, execVstoreReadiness,
      execStrikeRestart]
  | dictRead | domainRead | domainWrite | readRecord | domainHoldTimeout | sdoExpeditedDownload | sdoNetworkIndication |
      piRxFrame | piTxPeriod | piRxTimeout | canFrameReceived =>
    -- The dictionary, SDO and process images
    refine h.ends ?_
    unfold Machine.exec
    simp [execDictRead, execDomainRead, execDomainWrite, execReadRecord, execDomainHoldTimeout, execSdoExpeditedDownload,
      execSdoNetworkIndication, execPiRxFrame, execPiTxPeriod, execPiRxTimeout, execCanFrameReceived]
  | retryResetExpiry | gdRecovered | pwmPeriodStart | bridgeCommand | lockRateWindowExpiry | svCommand | ainRangeChangeEnd |
      tachTimeout | mxLineSlotStart | fadeStep | patternStep | globalStart | eventOccurrence | eventRelease |
      rxObjectTimeout | canNoticeSend | nmRingSend | bkeySettleExpiry | lfPoll |
      burgeeLockoutEnd | releaseWindowExpiry | implementDecision | pageWriteDone | flushTimeExpiry | ledgerLinkStart |
      pdelayRespReceive | syncMissed | holdoverExpiry | setupMsg3Timeout | roleLockoutEnd | sessionIdleTimeout |
      cipherJobDone | debugResume | lingerExpiry | wakeHoldExpiry | parkingLoadFault | ensignActivation | nodeActivation |
      spareLbist | sdoTransferTimeout =>
    refine h.ends ?_
    unfold Machine.exec
    simp only [execRetryResetExpiry, execGdRecovered, execPwmPeriodStart, execBridgeCommand, execLockRateWindowExpiry,
      execSvCommand, execAinRangeChangeEnd, execTachTimeout, execMxLineSlotStart, execFadeStep, execPatternStep,
      execGlobalStart, execEventOccurrence, execEventRelease, execRxObjectTimeout, execCanNoticeSend, execNmRingSend,
      execBkeySettleExpiry, execLfPoll, execBurgeeLockoutEnd,
      execReleaseWindowExpiry, execImplementDecision, execPageWriteDone, execFlushTimeExpiry, execLedgerLinkStart,
      execPdelayRespReceive, execSyncMissed, execHoldoverExpiry, execSetupMsg3Timeout, execRoleLockoutEnd,
      execSessionIdleTimeout, execCipherJobDone, execDebugResume, execLingerExpiry, execWakeHoldExpiry, execParkingLoadFault,
      execEnsignActivation, execNodeActivation, execSpareLbist, execSdoTransferTimeout]
    (repeat' split) <;> simp
  | canTransmissionDone c => exact h.ends (execCanTransmissionDone_conf c s)
  | canTxError c error => exact h.ends (execCanTxError_conf c error s)
  | wiperPark b parked => exact h.ends (execWiperPark_conf b parked s)
  | spinupWindowEnd f ripples => exact h.ends (execSpinupWindowEnd_conf f ripples s)
  | svRangeChangeEnd c => exact h.ends (execSvRangeChangeEnd_conf c s)
  | j1939ClaimWait c => exact h.ends (execJ1939ClaimWait_conf c s)
  | nmSleepWaitExpiry => exact h.ends (execNmSleepWaitExpiry_conf s)
  | nmKeeper i => exact h.ends (execNmKeeper_conf i s)
  | busOffRecovery c => exact h.ends (execBusOffRecovery_conf c s)
  | capabilityRetry a => exact h.ends (execCapabilityRetry_conf a s)
  | noticeSend => exact h.ends (execNoticeSend_conf s)
  | sessionSetupMsg1 path role hostId nH serial => exact h.ends (execSessionSetupMsg1_conf path role hostId nH serial s)
  | sessionSetupMsg3 path role hostId authH => exact h.ends (execSessionSetupMsg3_conf path role hostId authH s)
  | pllLock => exact h.ends (execPllLock_conf s)
  | firstSweepStart => exact h.ends (execFirstSweepStart_conf s)
  | discardPendingSet sess => exact h.request _ _ _ fun x t ht => ht.gives (t.doDiscardPending_conf x)
  | dictWrite sess index sub data => exact h.writes ..
  | cfgWrite sess index sub data =>
    show Ends _ (execCfgWrite sess index sub data s)
    unfold execCfgWrite
    split
    · exact h.writes ..
    · exact h
  | registerWrite sess index sub data =>
    show Ends _ (execRegisterWrite sess index sub data s)
    unfold execRegisterWrite
    split
    · exact h.writes ..
    · exact h
  | domOffsetWrite sess index offset => exact h.domOffsetWrite sess index offset
  | dictRequestFrame frame => exact ends_whenever h (h.requestFrame _)
  | sdoExpeditedUpload c index sub => exact h.sdoExpeditedUpload c index sub
  | sdoSegmentedDownload c frame => exact ends_whenever h (h.segDownload ..)
  | sdoSegmentedUpload c frame => exact ends_whenever h (h.segUpload ..)
  | sdoBlockDownload c frame => exact ends_whenever h (h.blkDownload ..)
  | sdoBlockUpload c frame => exact ends_whenever h (h.blkUpload ..)
  | commit sess => exact h.request _ _ _ fun x t ht => ht.doCommit x
  | commitApply => exact h.commitApply
  | commitDurable stored => exact h.commitDurable stored
  | lcConfirm sess token => exact h.request _ _ _ fun x t ht => ht.doLcConfirm x _
  | debugClose sess => exact h.request _ _ _ fun x t ht => ht.doDebugClose 1
  | updConfirm sess value => exact h.request _ _ _ fun x t ht => ht.doUpdConfirm _
  | debugWindowExpiry =>
    show Ends _ (execDebugWindowExpiry s)
    unfold execDebugWindowExpiry
    split
    · exact h
    · exact ends_whenever h (h.endDebug 3)
  | trstNLow => exact h.endDebug 1
  | extest enter => exact h.extest enter
  | enterFurled => exact ends_whenever h h.toFurled
  | mastActivation failures failing =>
    show Ends _ (execMastActivation failures failing s)
    unfold execMastActivation
    split
    · exact h.mastActivates ..
    · exact h
  | updateRestart =>
    show Ends _ (execUpdateRestart s)
    unfold execUpdateRestart
    split
    · exact h.updateRestarts _
    · exact h
  | sequencerFault => exact ends_whenever h h.sequencerFails
  | microcodeCheck pass => exact h.microcodeCheck pass
  | scrub mram corrected damaged => exact h.scrub mram corrected damaged
  | pllUnlock => exact ends_whenever h h.pllLost
  | hoistWatchdogTrip => exact ends_whenever h h.watchdogTrip
  | hoistPorAssert copies => exact h.porAsserts _
  | imageCheck rejected trng => exact ends_whenever h (h.checkImages rejected trng)
  | configurationApplied vbat elapsed => exact ends_whenever h (h.applyConfig _)
  | coreSupplyFault mv => exact h.coreSupplyFault mv
  | resetNLow => exact ends_whenever h (h.hoistRestart 7)
  | strikeTrigger complete copies => exact ends_whenever h (h.strikes complete copies)
  | exitDipped => exact h.exitDipped
  | exitHalfMast dins => exact h.exitHalfMast dins

end ConfigRule.Holds
end Sys2Proof.Machine

/-!
The two rules a stored configuration keeps (R34, R43), and the state after reset.
-/

namespace Sys2Proof.Machine

/-- A step keeps a rule on configurations. -/
theorem ConfigRule.Holds.step {R : ConfigRule} {s t : State} (h : R.Holds s.pending s) (e : Machine.step s = .next t) :
    ∃ q, R.Holds q t := by
  unfold Machine.step at e
  split at e
  · cases e
    exact ⟨_, h.of_conf (State.tick_conf s)⟩
  · next c rest _ =>
    have queued : R.Holds rest { s with pending := rest } := ⟨h.cfg, h.copies, h.commits, h.keep, h.left, rfl⟩
    have ends := queued.exec c
    rw [e] at ends
    exact ⟨rest, ends⟩

/-- Registers written one after another keep the canonical form. -/
theorem canonical_foldl_write {α : Type} (k v : α → Nat) (l : List α) {r : Regs} (h : State.Canonical r) :
    State.Canonical (l.foldl (fun (t : Regs) e => t.write (objDefault (k e)) (k e) (v e)) r) := by
  induction l generalizing r with
  | nil => exact h
  | cons e l ih => exact ih (Table.wf_write h)

/-- Canonical form is one: writing registers keeps it. -/
def canonicalRule : ConfigRule where
  ok := State.Canonical
  waits := State.Canonical
  empty := Table.wf_nil _
  committed _ _ l h _ := canonical_foldl_write (fun p : PendingValue => p.key) (fun p => p.value) l (h.elim id id)
  translated _ := canonical_foldl_write (fun e : Nat × Nat => e.1) (fun e => e.2) _ (Table.wf_nil _)
  migrated _ _ _ := canonical_foldl_write (fun e : Nat × Nat => e.1) (fun e => e.2) _ (Table.wf_nil _)

/-- Every value of a configuration is in the range of its object. -/
def InRange (r : Regs) : Prop := r.all (fun e => State.inRange e.1 e.2) = true

/-- What leaves its range fails a commit. -/
theorem mem_configFails_of_mem_failsRanges {s : State} {k : Nat} (h : k ∈ s.failsRanges) : k ∈ s.configFails := by
  unfold State.configFails
  iterate 19 refine List.mem_append_left _ ?_
  exact h

theorem configFails_of_failObject {s : State} {r : Regs} (h : s.failObject r = none) :
    ({ s with cfg := r } : State).configFails = [] := by
  unfold State.failObject at h
  generalize ({ s with cfg := r } : State).configFails = l at h ⊢
  cases l with
  | nil => rfl
  | cons k l => cases h

/-- A configuration no object of which fails the checks of a commit is in range. -/
theorem inRange_of_failObject {s : State} {r : Regs} (h : s.failObject r = none) : InRange r := by
  have ranges : ({ s with cfg := r } : State).failsRanges = [] :=
    List.eq_nil_iff_forall_not_mem.mpr fun k hk => by
      have := mem_configFails_of_mem_failsRanges hk
      rw [configFails_of_failObject h] at this
      cases this
  refine List.all_eq_true.mpr fun e he => ?_
  simpa using List.filter_eq_nil_iff.mp (List.map_eq_nil_iff.mp ranges) e he

/-- Values in range are one: a commit and a migration take effect where no object fails. -/
def rangeRule : ConfigRule where
  ok := InRange
  waits _ := True
  empty := rfl
  committed _ _ _ _ h := inRange_of_failObject h
  translated _ := trivial
  migrated _ _ h := inRange_of_failObject h

/-- Settles O5: canonical form is a rule every command keeps. -/
theorem configurationStaysCanonical : Obligations.ConfigurationStaysCanonical := by
  intro s t ⟨cfg, copies, commits, keep, left⟩ e
  have before : canonicalRule.Holds s.pending s := ⟨cfg, copies, commits, keep, left, rfl⟩
  obtain ⟨_, after⟩ := before.step e
  exact ⟨after.cfg, after.copies, after.commits, after.keep, after.left⟩

/-- Settles O6: values in range are a rule every command keeps. -/
theorem configurationStaysInRange : Obligations.ConfigurationStaysInRange := by
  intro s t ⟨cfg, copies, commits, keep⟩ e
  have before : rangeRule.Holds s.pending s := ⟨cfg, copies, commits, keep, fun _ _ => trivial, rfl⟩
  obtain ⟨_, after⟩ := before.step e
  exact ⟨after.cfg, after.copies, after.commits, after.keep⟩

/-- The copies in MRAM after reset are those of an unprovisioned part: each holds the factory defaults. -/
theorem reset_copies : ∀ c ∈ State.reset.ft.copies, c.2.regs = [] := by decide

/-- Settles O7: everything stored after reset is the factory defaults, which no entry stands for. -/
theorem resetIsSound : Obligations.ResetIsSound := by
  have empty : State.Canonical [] := Table.wf_nil _
  refine ⟨⟨empty, fun c hc => ?_, by simp [State.reset], by simp [State.reset], by simp [State.reset]⟩,
    ⟨rfl, fun c hc => ?_, by simp [State.reset], by simp [State.reset]⟩, rfl, rfl, rfl, rfl, fun k => rfl⟩
  · rw [reset_copies c hc]
    exact empty
  · rw [reset_copies c hc]
    rfl

end Sys2Proof.Machine

/-!
Reads and writes: the order of the checks (R37, R38, R40, R49).
-/

namespace Sys2Proof.Machine
namespace State

/-! ## The checks of a read and a write, one after another -/

theorem found_noObject {ix : Nat} (sub : Nat) (h : descOf (key ix 0) = none) : found ix sub = .error .noObject := by
  simp [found, h]
theorem found_noSubindex {ix sub : Nat} (h0 : descOf (key ix 0) ≠ none) (h : descOf (key ix sub) = none) :
    found ix sub = .error .noSubindex := by
  obtain ⟨d0, h0⟩ := Option.ne_none_iff_exists'.mp h0
  simp [found, h0, h]
theorem found_ok {ix sub : Nat} {d : Desc} (h0 : descOf (key ix 0) ≠ none) (h : descOf (key ix sub) = some d) :
    found ix sub = .ok d := by
  obtain ⟨d0, h0⟩ := Option.ne_none_iff_exists'.mp h0
  simp [found, h0, h]

theorem readable_error {ix sub : Nat} {e : Status} (role : Role) (h : found ix sub = .error e) :
    readable role ix sub = .error e := by simp [readable, h]
theorem readable_found {ix sub : Nat} {d : Desc} (role : Role) (h : found ix sub = .ok d) :
    readable role ix sub = if d.access = .wo then .error .readOfWo
      else if role.rank < d.readRole.rank then .error .roleTooLow else .ok d := by simp [readable, h]

theorem doRead_error {s : State} {role : Role} {ix sub : Nat} {e : Status} (h p : Nat)
    (r : readable role ix sub = .error e) : s.doRead h role p ix sub = .error e := by simp [doRead, r]
theorem doRead_domain {s : State} {role : Role} {ix sub : Nat} {d : Desc} (h p : Nat)
    (r : readable role ix sub = .ok d) (hd : d.ty = .domain) : s.doRead h role p ix sub = .error .typeError := by
  simp [doRead, r, hd]

theorem writable_error {s : State} {ix sub : Nat} {e : Status} (role : Role) (n v : Nat) (h : found ix sub = .error e) :
    s.writable role ix sub n v = .error e := by simp [writable, h]

/-- The checks of a write outside the objects whose role and reserved bits depend on the value. -/
theorem writable_found {s : State} {ix sub : Nat} {d : Desc} (role : Role) (n v : Nat) (h : found ix sub = .ok d)
    (plain : ix < 0x7110 ∨ 0x8800 ≤ ix) :
    s.writable role ix sub n v =
      if d.access = .ro then .error .writeOfRo
      else if role.rank < d.role.rank then .error .roleTooLow
      else if d.ty = .domain || n ≠ d.ty.size then .error .typeError
      else if Nat.land v d.rsvd ≠ 0 then .error .reservedBit
      else if !rangeOk d v || !s.pairOk ix sub v then .error .valueRange
      else .ok d := by
  have rule : s.classSRule ix sub v = false := by
    unfold classSRule
    simp only [Bool.and_eq_false_iff, decide_eq_false_iff_not]
    omega
  have notice : ix ≠ 0x7110 := by omega
  simp [writable, h, rule, rsvdOk, notice]

theorem doWrite_error {s : State} {x : Session} {ix sub : Nat} {data : List Nat} {e : Status} (p : Nat)
    (w : s.writable x.role ix sub data.length (ofBytes data) = .error e) : s.doWrite x p ix sub data = .error e := by
  simp [doWrite, w]

/-! ## A request that its checks refuse -/

theorem dictRead_refused {s : State} {h : Nat} {x : Session} {i : BitVec 16} {b : BitVec 8} {e : Status}
    (sv : s.Serves h .host x) (r : (s.asked x).doRead h x.role 0 i.toNat b.toNat = .error e) :
    exec (.dictRead h i b) s = .next { s.asked x with reply := { status := e } } := by
  show execDictRead h i b s = _
  rw [execDictRead, openRequest_serves sv, r, finish_error]

theorem dictWrite_refused {s : State} {h : Nat} {x : Session} {i : BitVec 16} {b : BitVec 8} {data : List Byte} {e : Status}
    (sv : s.Serves h .host x) (w : (s.asked x).writable x.role i.toNat b.toNat data.length
      (ofBytes (data.map (fun a => a.toNat))) = .error e) :
    exec (.dictWrite h i b data) s = .next { s.asked x with reply := { status := e } } := by
  show execDictWrite h i b data s = _
  unfold execDictWrite
  rw [request_serves sv, doWrite_error 0 (by rw [List.length_map]; exact w), finish_error]

end State

/-- Settles O10: the checks of a read and of a write are those of `readable` and `writable`, one after another. -/
theorem readsAndWritesAreCheckedInOrder : Obligations.ReadsAndWritesAreCheckedInOrder := by
  refine ⟨fun h i b s x sv => ⟨fun h0 => ?_, fun h0 hb => ?_, fun d h0 hd => ?_⟩,
    fun h i b data s x sv => ⟨fun h0 => ?_, fun h0 hb => ?_, fun d h0 hd plain => ?_⟩⟩
  · exact State.dictRead_refused sv (State.doRead_error _ _ (State.readable_error _ (State.found_noObject _ h0)))
  · exact State.dictRead_refused sv (State.doRead_error _ _ (State.readable_error _ (State.found_noSubindex h0 hb)))
  · have checks := State.readable_found x.role (State.found_ok h0 hd)
    refine ⟨fun wo => ?_, fun wo role => ?_, fun wo role dom => ?_⟩
    · exact State.dictRead_refused sv (State.doRead_error _ _ (by rw [checks, if_pos wo]))
    · exact State.dictRead_refused sv (State.doRead_error _ _ (by rw [checks, if_neg wo, if_pos role]))
    · exact State.dictRead_refused sv
        (State.doRead_domain _ _ (by rw [checks, if_neg wo, if_neg (Nat.not_lt.mpr role)]) dom)
  · exact State.dictWrite_refused sv (State.writable_error _ _ _ (State.found_noObject _ h0))
  · exact State.dictWrite_refused sv (State.writable_error _ _ _ (State.found_noSubindex h0 hb))
  · have checks := (s.asked x).writable_found x.role data.length (ofBytes (data.map (fun a => a.toNat)))
      (State.found_ok h0 hd) plain
    refine ⟨fun ro => ?_, fun ro role => ?_, fun ro role len => ?_, fun ro role ty len rsvd => ?_,
      fun ro role ty len rsvd range => ?_⟩ <;> refine State.dictWrite_refused sv (checks.trans ?_)
    · rw [if_pos ro]
    · rw [if_neg ro, if_pos role]
    · rw [if_neg ro, if_neg (Nat.not_lt.mpr role), if_pos (by simpa using len)]
    · rw [if_neg ro, if_neg (Nat.not_lt.mpr role), if_neg (by simp [ty, len]), if_pos rsvd]
    · rw [if_neg ro, if_neg (Nat.not_lt.mpr role), if_neg (by simp [ty, len]), if_neg (not_not.mpr rsvd),
        if_pos (by simp [range])]

end Sys2Proof.Machine

/-!
What the dictionary's commands do where their checks pass: reads, records and DOMAIN reads (R39, R49, R56, R57).
-/

namespace Sys2Proof.Machine
namespace State

theorem heard_handle {s : State} {h : Nat} {role : Role} {x : Session} (sv : s.Serves h role x) : (s.heard x).handle = h :=
  session_handle (x := x) sv.2.2.1

/-! ## Reads -/

/-- Reading clears objects and may put bytes in the answer, which then ends as the answer's status says. -/
theorem afterRead_status (s : State) (ix sub : Nat) : (s.afterRead ix sub).reply.status = s.reply.status := by
  unfold afterRead supReadExtreme
  dsimp only
  split_ifs <;> rfl

theorem doRead_ok {s : State} {role : Role} {ix sub : Nat} {d : Desc} (h p : Nat) (r : readable role ix sub = .ok d)
    (ty : d.ty ≠ .domain) (rnd : key ix sub ≠ Obj.random) :
    s.doRead h role p ix sub = .ok { s.afterRead ix sub with
      reply := { (s.afterRead ix sub).reply with data := toBytes d.ty.size (s.valueOf h p ix sub) } } := by
  simp [doRead, r, ty, rnd]

theorem readable_ok {role : Role} {ix sub : Nat} {d : Desc} (f : found ix sub = .ok d) (access : d.access ≠ .wo)
    (rank : d.readRole.rank ≤ role.rank) : readable role ix sub = .ok d := by
  rw [readable_found role f, if_neg access, if_neg (Nat.not_lt.mpr rank)]

theorem dictRead_reads {h : Nat} {i : BitVec 16} {b : BitVec 8} {s : State} {x : Session} {d : Desc} (sv : s.Serves h .host x)
    (r : readable x.role i.toNat b.toNat = .ok d) (ty : d.ty ≠ .domain) (rnd : key i.toNat b.toNat ≠ Obj.random) :
    exec (.dictRead h i b) s = .next { (s.asked x).afterRead i.toNat b.toNat with
      reply := { status := .success, data := toBytes d.ty.size ((s.asked x).valueOf h 0 i.toNat b.toNat) } } := by
  have status : ((s.asked x).afterRead i.toNat b.toNat).reply.status = .none := afterRead_status ..
  show execDictRead h i b s = _
  rw [execDictRead, openRequest_serves sv, doRead_ok h 0 r ty rnd, finish_ok]
  simp only [status, if_true]

/-! ## Records without a session -/

/-- An index that may be read without a session has its subindices in one byte. -/
theorem open_dflt {ix : Nat} {d : Desc} (o : openIndex ix = true) (e : descOf (key ix 0) = some d) : d.dflt < 256 := by
  have all : (List.range 240).all (fun n => (descOf (key (0x1000 + n) 0)).all (fun d => decide (d.dflt < 256))) = true := by
    decide +kernel
  simp only [openIndex, Bool.and_eq_true, decide_eq_true_eq] at o
  have at_ := List.all_eq_true.mp all (ix - 0x1000) (List.mem_range.mpr (by omega))
  rw [Nat.add_sub_cancel' o.1, e] at at_
  simpa using at_

/-- What may be read without a session is not cleared by it. -/
theorem afterRead_open {s : State} {ix sub : Nat} (o : openIndex ix = true) (b : sub < 256) : s.afterRead ix sub = s := by
  simp only [openIndex, Bool.and_eq_true, decide_eq_true_eq] at o
  have hk : key ix sub < 0x1100 * 256 := by unfold key; omega
  unfold afterRead
  dsimp only
  rw [if_neg, if_neg (by omega), if_neg (by omega)]
  simp only [Obj.sweepTimeMax, Obj.waitMax, key] at hk ⊢
  omega

/-- A record read on: what subindex `sub` reads is appended to what those before it did. -/
def readsOn (ix : Nat) (a : Answer) (sub : Nat) : Answer :=
  match a with
  | .error e => .error e
  | .ok t => match t.doRead 0 .host 0 ix sub with
    | .error e => .error e
    | .ok u => .ok { u with reply := { u.reply with data := t.reply.data ++ u.reply.data } }

theorem doReadRecord_found {s : State} {ix : Nat} {d : Desc} (f : found ix 0 = .ok d) :
    s.doReadRecord 0 .host 0 ix =
      (List.range (d.dflt + 1)).foldl (readsOn ix) (.ok { s with reply := { s.reply with data := [] } }) := by
  unfold doReadRecord
  rw [f]
  rfl

/-- The bytes subindex `sub` of a record reads. -/
def subBytes (s : State) (ix sub : Nat) : List Nat :=
  match descOf (key ix sub) with
  | some e => toBytes e.ty.size (s.valueOf 0 0 ix sub)
  | none => []

theorem readsOn_ok {s : State} {ix sub : Nat} {e : Desc} (o : openIndex ix = true) (f : found ix sub = .ok e)
    (he : descOf (key ix sub) = some e) (b : sub < 256) (access : e.access ≠ .wo) (role : e.readRole = .host)
    (ty : e.ty ≠ .domain) (data : List Nat) :
    readsOn ix (.ok { s with reply := { s.reply with data := data } }) sub =
      .ok { s with reply := { s.reply with data := data ++ s.subBytes ix sub } } := by
  have rnd : key ix sub ≠ Obj.random := by
    simp only [openIndex, Bool.and_eq_true, decide_eq_true_eq] at o
    simp only [Obj.random, key]
    omega
  have r : readable .host ix sub = .ok e := readable_ok f access (by rw [role])
  unfold readsOn subBytes
  dsimp only
  rw [doRead_ok 0 0 r ty rnd, afterRead_open o b, he]
  rfl

/-- The subindices of a record read one after another: what each reads is appended. -/
theorem readsOn_foldl {ix : Nat} (o : openIndex ix = true) (some0 : descOf (key ix 0) ≠ none) (s : State) (l : List Nat)
    (all : ∀ b ∈ l, b < 256 ∧ ∃ e, descOf (key ix b) = some e ∧ e.access ≠ .wo ∧ e.readRole = .host ∧ e.ty ≠ .domain)
    (data : List Nat) :
    l.foldl (readsOn ix) (.ok { s with reply := { s.reply with data := data } }) =
      .ok { s with reply := { s.reply with data := data ++ l.flatMap (s.subBytes ix) } } := by
  induction l generalizing data with
  | nil => simp
  | cons b l ih =>
    obtain ⟨hb, e, he, access, role, ty⟩ := all b List.mem_cons_self
    rw [List.foldl_cons, readsOn_ok o (found_ok some0 he) he hb access role ty, List.flatMap_cons, ← List.append_assoc]
    exact ih (fun c hc => all c (List.mem_cons_of_mem b hc)) _

theorem readRecord_reads {h : Nat} {i : BitVec 16} {s : State} {d : Desc} (takes : s.takesRequests = true)
    (applied : s.applied = true) (runs : s.coresRun = true) (none_ : s.session? h = none) (o : openIndex i.toNat = true)
    (hd : descOf (key i.toNat 0) = some d)
    (all : ∀ b, b ≤ d.dflt → ∃ e, descOf (key i.toNat b) = some e ∧ e.access ≠ .wo ∧ e.readRole = .host ∧ e.ty ≠ .domain) :
    exec (.readRecord h i) s = .next { s with reply :=
      { status := .success, data := (List.range (d.dflt + 1)).flatMap (s.subBytes i.toNat) } } := by
  have some0 : descOf (key i.toNat 0) ≠ none := by simp [hd]
  have small := open_dflt o hd
  have record := readsOn_foldl o some0 { s with reply := {} } (List.range (d.dflt + 1))
    (fun b hb => ⟨by have := List.mem_range.mp hb; omega, all b (by have := List.mem_range.mp hb; omega)⟩) []
  show execReadRecord h i s = _
  unfold execReadRecord openRequest
  simp only [none_, o, takes, applied, runs, Option.isSome_none, Bool.not_true, Bool.or_self, Bool.and_self,
    Bool.false_eq_true, if_false]
  rw [doReadRecord_found (found_ok some0 hd), record]
  rfl

/-! ## DOMAIN reads -/

theorem domainRead_reads {h : Nat} {i : BitVec 16} {off : BitVec 64} {n : BitVec 16} {s : State} {x : Session} {d : Desc}
    (sv : s.Serves h .host x) (r : readable x.role i.toNat 3 = .ok d) (ty : d.ty = .domain) (len : n.toNat ≤ 1024)
    (notMo : i ≠ 0x6101) :
    exec (.domainRead h i off n) s = .next { s.asked x with
      reply := { status := .success
                 data := (s.asked x).domBytes h i.toNat off.toNat
                   (min n.toNat ((s.asked x).domSize h i.toNat - off.toNat)) } } := by
  have handle : (s.heard x).handle = h := heard_handle sv
  have role : (s.heard x).role = x.role := rfl
  have index : i.toNat ≠ 0x6101 := fun e => notMo (BitVec.eq_of_toNat_eq e)
  show execDomainRead h i off n s = _
  unfold execDomainRead
  rw [request_serves sv, handle, role]
  unfold doDomainRead
  simp only [r]
  rw [check_ok (by simp [ty]), check_ok (c := decide (n.toNat ≤ frameTop)) (decide_eq_true len), if_neg index]
  rfl

end State
end Sys2Proof.Machine

/-!
Writes of a session's own objects: selectors, DOM_OFFSET and CJ_BUFFER (R35, R56, R388).
-/

namespace Sys2Proof.Machine

/-! ## Bits and bytes -/

theorem bitAt_setBitTo_same (x i : Nat) (b : Bool) : bitAt (setBitTo x i b) i = b := by
  have down : (x - 2 ^ i) / 2 ^ i = x / 2 ^ i - 1 := by simpa using Nat.sub_mul_div x (2 ^ i) 1
  have up : (x + 2 ^ i) / 2 ^ i = x / 2 ^ i + 1 := Nat.add_div_right x (Nat.two_pow_pos i)
  unfold setBitTo
  split
  · assumption
  · next h =>
    unfold bitAt at h ⊢
    generalize x / 2 ^ i = m at h down up
    cases b <;> simp [down, up] at h ⊢ <;> omega

/-- Bit 0 made so leaves bit 1. -/
theorem bitAt_setBitTo_zero_one (x : Nat) (b : Bool) : bitAt (setBitTo x 0 b) 1 = bitAt x 1 := by
  unfold setBitTo
  split
  · rfl
  · next h =>
    unfold bitAt at h ⊢
    cases b
    · have odd : x / 2 ^ 0 % 2 = 1 := by simpa using h
      have : (x - 2 ^ 0) / 2 ^ 1 = x / 2 ^ 1 := by omega
      simp only [Bool.false_eq_true, if_false, this]
    · have even : ¬ x / 2 ^ 0 % 2 = 1 := by simpa using h
      have : (x + 2 ^ 0) / 2 ^ 1 = x / 2 ^ 1 := by omega
      simp only [if_true, this]

theorem toBytes_length (n x : Nat) : (toBytes n x).length = n := by
  induction n generalizing x with
  | zero => rfl
  | succ n ih => exact congrArg Nat.succ (ih _)

theorem ofBytes_toBytes {n x : Nat} (h : x < 256 ^ n) : ofBytes (toBytes n x) = x := by
  induction n generalizing x with
  | zero => simp at h; simp [toBytes, ofBytes, h]
  | succ n ih =>
    have := ih (x := x / 256) (Nat.div_lt_of_lt_mul (by rw [pow_succ'] at h; exact h))
    simp only [toBytes, ofBytes, this]
    omega

namespace State

/-! ## A session that is served -/

theorem asked_session {s : State} {h : Nat} {role : Role} {x : Session} (sv : s.Serves h role x) :
    (s.asked x).session? h = some (s.heard x) :=
  session_setSession (s := { s with reply := {} }) (heard_handle sv) sv.2.2.1

theorem setSob_eq {s : State} {h : Nat} {x : Session} (e : s.session? h = some x) (k v : Nat) :
    s.setSob h k v = s.setSession { x with regs := x.regs.write (objDefault k) k v } := by
  simp [setSob, e]

theorem sob_eq {s : State} {h : Nat} {x : Session} (e : s.session? h = some x) (k : Nat) :
    s.sob h k = x.regs.read (objDefault k) k := by simp [sob, e]

theorem sob_setSob_same {s : State} {h : Nat} {x : Session} (e : s.session? h = some x) (k v : Nat) :
    (s.setSob h k v).sob h k = v := by
  rw [setSob_eq e, sob_eq (session_setSession (y := { x with regs := x.regs.write (objDefault k) k v }) (session_handle (x := x) e) e)]
  exact Table.read_write_same ..

/-- A write that a session's own object takes, of a session that is served. -/
theorem asked_setSob {s : State} {h : Nat} {role : Role} {x : Session} (sv : s.Serves h role x) (k v : Nat) :
    (s.asked x).setSob h k v = ({ s with reply := {} } : State).setSession
      { s.heard x with regs := x.regs.write (objDefault k) k v } := by
  rw [setSob_eq (asked_session sv)]
  exact setSession_twice _ _ _ rfl

/-- A request that does nothing but write a session's own object. -/
theorem finish_setSob {s : State} {h : Nat} {role : Role} {x : Session} (sv : s.Serves h role x) (k v : Nat) :
    (s.asked x).finish (.ok ((s.asked x).setSob h k v)) =
      .next ((s.served x).setSession { s.heard x with regs := x.regs.write (objDefault k) k v }) := by
  rw [asked_setSob sv, finish_ok]
  exact congrArg Host.Outcome.next
    (setSession_twice ({ s with reply := { status := .success } } : State) (s.heard x)
      { s.heard x with regs := x.regs.write (objDefault k) k v } rfl).symm

/-! ## Selectors and DOM_OFFSET -/

theorem doWrite_command {s : State} {x : Session} {ix sub : Nat} {data : List Nat} {d : Desc} (p : Nat)
    (w : s.writable x.role ix sub data.length (ofBytes data) = .ok d) (kind : d.kind ≠ .cfg) :
    s.doWrite x p ix sub data = s.doCommand x p ix sub (ofBytes data) d := by
  simp [doWrite, w, kind]

/-- The description of ADQ_SIGNAL. -/
def adqSignalDesc : Desc := { ty := .u 4, access := .rw, kind := .cmd, sig := .adq, perSession := true }

theorem adqSignal_writable {s : State} {role : Role} {v : Nat} (ok : sigAllowed .adq v = true) :
    s.writable role 0x2220 1 4 v = .ok adqSignalDesc := by
  have f : found 0x2220 1 = .ok adqSignalDesc := by decide +kernel
  have range : rangeOk adqSignalDesc v = true := by simp [rangeOk, adqSignalDesc, ok]
  have pair : s.pairOk 0x2220 1 v = true := by simp [pairOk]
  rw [writable_found role 4 v f (.inl (by decide)), range, pair]
  have rank : ¬ role.rank < Role.host.rank := Nat.not_lt_zero _
  simp [adqSignalDesc, ObjType.size, rank]

theorem adqSignal_taken {h : Nat} {data : List Byte} {s : State} {x : Session} (sv : s.Serves h .host x)
    (len : data.length = 4) (ok : sigAllowed .adq (ofBytes (data.map (fun a => a.toNat))) = true) :
    exec (.registerWrite h 0x2220 1 data) s = .next ((s.served x).setSession
      { s.heard x with
        regs := x.regs.write (objDefault Obj.adqSignal) Obj.adqSignal (ofBytes (data.map (fun a => a.toNat))) }) := by
  have covers : rowCovers false 0x2220 1 = true := by decide +kernel
  have w := (s.asked x).adqSignal_writable (role := (s.heard x).role) ok
  rw [← len, ← List.length_map (as := data) (fun a => a.toNat)] at w
  show execRegisterWrite h 0x2220 1 data s = _
  unfold execRegisterWrite
  rw [if_pos covers, request_serves sv]
  show (s.asked x).finish ((s.asked x).doWrite (s.heard x) 0 0x2220 1 _) = _
  rw [doWrite_command 0 w (by decide)]
  have command : ∀ v, (s.asked x).doCommand (s.heard x) 0 0x2220 1 v adqSignalDesc =
      .ok ((s.asked x).setSob h Obj.adqSignal v) := fun v => by
    rw [← heard_handle sv]
    rfl
  rw [command, finish_setSob sv]

theorem domainAt_ok {ix : Nat} {d : Desc} (e : domainAt ix = .ok d) : isDomain (key ix 3) = true := by
  unfold domainAt found at e
  cases e0 : descOf (key ix 0) with
  | none => simp [e0] at e
  | some d0 =>
    cases e3 : descOf (key ix 3) with
    | none => simp [e0, e3] at e
    | some d3 =>
      have ty : d3.ty = .domain := by
        by_contra h
        simp [e0, e3, h] at e
      simp [isDomain, e3, ty]

theorem domOffset_taken {h : Nat} {i : BitVec 16} {off : BitVec 64} {s : State} {x : Session} {d e : Desc}
    (sv : s.Serves h .host x) (dom : domainAt i.toNat = .ok d)
    (w : (s.asked x).writable x.role i.toNat 2 8 off.toNat = .ok e) (kind : e.kind = .cmd) (held : off.toNat ≠ 2 ^ 64 - 1) :
    exec (.domOffsetWrite h i off) s = .next ((s.served x).setSession { s.heard x with
      regs := x.regs.write (objDefault (key i.toNat 2)) (key i.toNat 2) off.toNat }) := by
  have bytes : ofBytes (toBytes 8 off.toNat) = off.toNat := ofBytes_toBytes off.isLt
  have w' : (s.asked x).writable (s.heard x).role i.toNat 2 (toBytes 8 off.toNat).length (ofBytes (toBytes 8 off.toNat)) =
      .ok e := by
    rw [toBytes_length, bytes]
    exact w
  show execDomOffsetWrite h i off s = _
  unfold execDomOffsetWrite
  rw [request_serves sv]
  simp only [dom]
  rw [doWrite_command 0 w' (by rw [kind]; decide), bytes]
  have command : (s.asked x).doCommand (s.heard x) 0 i.toNat 2 off.toNat e =
      .ok ((s.asked x).setSob h (key i.toNat 2) off.toNat) := by
    unfold doCommand doDomOffset
    simp only [domainAt_ok dom, heard_handle sv, held, decide_true, decide_false, Bool.and_self, Bool.false_and, if_true,
      Bool.false_eq_true, if_false]
  rw [command, finish_setSob sv]

end State
end Sys2Proof.Machine

/-!
A write of CJ_BUFFER, which stands in the session that wrote it (R56, R388).
-/

namespace Sys2Proof.Machine
namespace State

/-- The regs of a session with a bit of its CJ_BUFFER's status made so. -/
def bufferBit (r : Regs) (i : Nat) (b : Bool) : Regs :=
  r.write (objDefault (domStatus 0x3201)) (domStatus 0x3201)
    (setBitTo (r.read (objDefault (domStatus 0x3201)) (domStatus 0x3201)) i b)

theorem bufferBit_read (r : Regs) (i : Nat) (b : Bool) :
    (bufferBit r i b).read (objDefault (domStatus 0x3201)) (domStatus 0x3201) =
      setBitTo (r.read (objDefault (domStatus 0x3201)) (domStatus 0x3201)) i b := Table.read_write_same ..

theorem setDomBit_buffer {s : State} {h : Nat} {x : Session} (e : s.session? h = some x) (i : Nat) (b : Bool) :
    s.setDomBit 0x3201 h i b = s.setSession { x with regs := bufferBit x.regs i b } := by
  unfold setDomBit
  rw [if_pos rfl, setSob_eq e, sob_eq e]
  rfl

/-- The state in which a write of a DOMAIN takes its bytes: its status is cleared, and the writer holds it since now. -/
def domainHeld (s : State) (ix h : Nat) : State :=
  let s := s.setDomBit ix h 1 false
  ({ s with holds := s.holds.put (holdKey ix h) { holder := h, lastWrite := s.now } }).setDomBit ix h 0 true

theorem domainWrites_free {s t : State} {ix h : Nat} {k : State → Answer}
    (free : (s.setDomBit ix h 1 false).heldByOther ix h = false) (hk : k (s.domainHeld ix h) = .ok t) :
    s.domainWrites ix h k = .ok t := by
  unfold domainHeld at hk
  unfold domainWrites
  dsimp only at hk ⊢
  rw [free, if_neg Bool.false_ne_true, hk]

/-- The session that writes its CJ_BUFFER. -/
def bufferTaken (x : Session) : Session := { x with regs := bufferBit (bufferBit x.regs 1 false) 0 true }

/-- The holds with session `h` holding its CJ_BUFFER since now. -/
def bufferHeld (s : State) (h : Nat) : Table Hold := s.holds.put (holdKey 0x3201 h) { holder := h, lastWrite := s.now }

theorem domainHeld_buffer {s : State} {h : Nat} {x : Session} (e : s.session? h = some x) :
    s.domainHeld 0x3201 h = ({ s with holds := s.bufferHeld h } : State).setSession (bufferTaken x) := by
  have handle : x.handle = h := session_handle e
  have e1 := session_setSession (s := { s with holds := s.bufferHeld h })
    (y := { x with regs := bufferBit x.regs 1 false }) handle e
  unfold domainHeld
  rw [setDomBit_buffer e]
  exact (setDomBit_buffer e1 0 true).trans (setSession_twice _ _ _ rfl)

/-- The session after a write of its CJ_BUFFER: its bits 1 and 0 stand as the writer's, and the bytes stand in the buffer. -/
def bufferWritten (x : Session) (off : Nat) (data : List Nat) : Session :=
  { bufferTaken x with buffer := x.buffer.take off ++ data ++ x.buffer.drop (off + data.length) }

theorem doBufferWrite_ok {s : State} {h : Nat} {x : Session} (e : s.session? h = some x) {off : Nat} {data : List Nat}
    (inside : off ≤ x.buffer.length) (fits : off + data.length ≤ 65536) (free : s.heldByOther 0x3201 h = false) :
    s.doBufferWrite x off data =
      .ok (({ s with holds := s.bufferHeld h } : State).setSession (bufferWritten x off data)) := by
  have handle : x.handle = h := session_handle e
  have taken := session_setSession (s := { s with holds := s.bufferHeld h }) (y := bufferTaken x) handle e
  have free1 : (s.setDomBit 0x3201 h 1 false).heldByOther 0x3201 h = false := by
    rw [setDomBit_buffer e]
    exact free
  have gap : off - x.buffer.length = 0 := Nat.sub_eq_zero_of_le inside
  unfold doBufferWrite
  rw [check_ok (decide_eq_true fits), handle]
  refine domainWrites_free free1 ?_
  rw [domainHeld_buffer e]
  simp only [taken, gap, List.range_zero, List.map_nil, List.append_nil]
  exact congrArg Except.ok (setSession_twice _ _ _ rfl)

/-- The description of CJ_BUFFER's DOM_DATA. -/
def bufferDesc : Desc := { ty := .domain, access := .rw, kind := .cmd, perSession := true }

theorem doDomainWrite_buffer {s : State} {x : Session} {off : Nat} {data : List Nat} (len : data.length ≤ frameTop) :
    s.doDomainWrite x 0x3201 3 off data frameTop = s.doBufferWrite x off data := by
  have f : found 0x3201 3 = .ok bufferDesc := by decide +kernel
  unfold doDomainWrite
  rw [f]
  dsimp only
  rw [check_ok (by decide), check_ok (c := decide (bufferDesc.role.rank ≤ _)) (decide_eq_true (Nat.zero_le _)), check_ok (by decide), check_ok (decide_eq_true len),
    if_neg (by decide), if_neg (by decide), if_pos rfl]

theorem bufferWrite_stands {h : Nat} {off : BitVec 64} {data : List Byte} {s : State} {x : Session} (sv : s.Serves h .host x)
    (inside : off.toNat ≤ x.buffer.length) (len : data.length ≤ 1024) (fits : off.toNat + data.length ≤ 65536)
    (free : (s.asked x).heldByOther 0x3201 h = false) :
    ∃ t y, exec (.domainWrite h 0x3201 off data) s = .next t ∧ t.reply = { status := .success } ∧ t.session? h = some y ∧
      y.buffer = x.buffer.take off.toNat ++ data.map (fun a => a.toNat) ++ x.buffer.drop (off.toNat + data.length) ∧
      y.pendingSet = x.pendingSet ∧ y.role = x.role ∧ bitAt (t.sob h (key 0x3201 4)) 0 = true ∧
      bitAt (t.sob h (key 0x3201 4)) 1 = false ∧
      t.holds = s.holds.put (holdKey 0x3201 h) { holder := h, lastWrite := s.now } ∧
      t = { s with reply := t.reply, sessions := t.sessions, holds := t.holds } := by
  let bytes := data.map fun a => a.toNat
  let u : State := { s.asked x with holds := s.bufferHeld h, reply := { status := .success } }
  have n : bytes.length = data.length := List.length_map ..
  have handle := heard_handle sv
  have at_ : (u.setSession (bufferWritten (s.heard x) off.toNat bytes)).session? h =
      some (bufferWritten (s.heard x) off.toNat bytes) :=
    session_setSession handle (show u.session? h = some (s.heard x) from asked_session sv)
  have status : (u.setSession (bufferWritten (s.heard x) off.toNat bytes)).sob h (key 0x3201 4) =
      setBitTo (setBitTo (x.regs.read (objDefault (domStatus 0x3201)) (domStatus 0x3201)) 1 false) 0 true := by
    rw [sob_eq at_]
    exact (bufferBit_read ..).trans (congrArg (setBitTo · 0 true) (bufferBit_read ..))
  refine ⟨u.setSession (bufferWritten (s.heard x) off.toNat bytes), _, ?_, rfl, at_, ?_, rfl, rfl, ?_, ?_, rfl, rfl⟩
  · show execDomainWrite h 0x3201 off data s = _
    unfold execDomainWrite
    rw [request_serves sv]
    show (s.asked x).finish ((s.asked x).doDomainWrite (s.heard x) 0x3201 3 off.toNat bytes frameTop) = _
    rw [doDomainWrite_buffer (by rw [n]; exact len),
      doBufferWrite_ok (asked_session sv) inside (by rw [n]; exact fits) free]
    rfl
  · exact congrArg (fun k => x.buffer.take off.toNat ++ bytes ++ x.buffer.drop (off.toNat + k)) n
  · rw [status, bitAt_setBitTo_same]
  · rw [status, bitAt_setBitTo_zero_one, bitAt_setBitTo_same]

end State
end Sys2Proof.Machine

/-!
Writes of cfg objects, which enter the session's pending set (R42).
-/

namespace Sys2Proof.Machine
namespace State

/-- What a value put into a pending set leaves: the object has the value, and every other one keeps its own. -/
theorem putPending_sets (s : State) (x : Session) (k v : Nat) :
    ∃ l, s.putPending x k v = s.setSession { x with pendingSet := l } ∧ (∃ p ∈ l, p.key = k ∧ p.value = v) ∧
      ∀ p ∈ x.pendingSet, p.key ≠ k → ∃ q ∈ l, q.key = p.key ∧ q.value = p.value := by
  unfold putPending
  extract_lets same l1 l2
  have told : ∀ p ∈ x.pendingSet, ∃ q ∈ l1, q.key = p.key ∧ q.value = p.value := by
    intro p hp
    simp only [l1]
    split
    · exact ⟨_, List.mem_map_of_mem hp, by split <;> exact ⟨rfl, rfl⟩⟩
    · exact ⟨p, hp, rfl, rfl⟩
  refine ⟨l2, rfl, ?_, fun p hp other => ?_⟩
  · simp only [l2]
    split
    · next present =>
      obtain ⟨q, hq, hk⟩ := List.any_eq_true.mp present
      have hk : q.key = k := by simpa using hk
      exact ⟨_, List.mem_map_of_mem hq, by rw [if_pos hk]; exact ⟨hk, rfl⟩⟩
    · exact ⟨_, List.mem_append_right _ (List.mem_singleton.mpr rfl), rfl, rfl⟩
  · obtain ⟨q, hq, key, value⟩ := told p hp
    simp only [l2]
    split
    · exact ⟨_, List.mem_map_of_mem hq, by rw [if_neg (key ▸ other)]; exact ⟨key, value⟩⟩
    · exact ⟨q, List.mem_append_left _ hq, key, value⟩

theorem doPending_one {s : State} {h : Nat} {x : Session} (e : s.session? h = some x) {k v : Nat}
    (room : s.pendingUsed + pendingBytes k ≤ 512 * 1024) : s.doPending h [(k, v)] = .ok (s.putPending x k v) := by
  have fresh : ((List.filter (fun w => !x.pendingSet.any fun p => p.key == w.1) [(k, v)]).map
      fun w => pendingBytes w.1).sum ≤ pendingBytes k := by
    rw [List.filter_singleton]
    cases !x.pendingSet.any fun p => p.key == (k, v).1 <;> simp
  unfold doPending
  rw [e]
  dsimp only
  rw [check_ok (decide_eq_true (by omega))]
  simp only [Machine.forEach, List.foldl_cons, List.foldl_nil, e]

theorem cfgWrite_pends {h : Nat} {i : BitVec 16} {b : BitVec 8} {data : List Byte} {s : State} {x : Session} {d : Desc}
    (sv : s.Serves h .host x)
    (w : (s.asked x).writable x.role i.toNat b.toNat data.length (ofBytes (data.map (fun a => a.toNat))) = .ok d)
    (kind : d.kind = .cfg) (room : (s.asked x).pendingUsed + pendingBytes (key i.toNat b.toNat) ≤ 512 * 1024) :
    ∃ t y, exec (.dictWrite h i b data) s = .next t ∧ t.reply = { status := .success } ∧ t.session? h = some y ∧
      (∃ p ∈ y.pendingSet, p.key = key i.toNat b.toNat ∧ p.value = ofBytes (data.map (fun a => a.toNat))) ∧
      (∀ p ∈ x.pendingSet, p.key ≠ key i.toNat b.toNat → ∃ q ∈ y.pendingSet, q.key = p.key ∧ q.value = p.value) ∧
      t = { s with reply := t.reply, sessions := t.sessions } := by
  obtain ⟨l, put, new, others⟩ := (s.asked x).putPending_sets (s.heard x) (key i.toNat b.toNat)
    (ofBytes (data.map (fun a => a.toNat)))
  have at_ : ((s.served x).setSession { s.heard x with pendingSet := l }).session? h = some { s.heard x with pendingSet := l } :=
    session_setSession (show (s.heard x).handle = h from heard_handle sv) (show (s.served x).session? h = some (s.heard x) from asked_session sv)
  refine ⟨(s.served x).setSession { s.heard x with pendingSet := l }, _, ?_, rfl, at_, new, others, rfl⟩
  have write : (s.asked x).doWrite (s.heard x) 0 i.toNat b.toNat (data.map (fun a => a.toNat)) =
      .ok ((s.asked x).setSession { s.heard x with pendingSet := l }) := by
    have w' : (s.asked x).writable (s.heard x).role i.toNat b.toNat (data.map (fun a => a.toNat)).length _ = .ok d :=
      (List.length_map (as := data) (fun a => a.toNat)) ▸ w
    unfold doWrite
    simp only [w', kind, if_true]
    exact (congrArg (fun n => (s.asked x).doPending n _) (heard_handle sv)).trans
      ((doPending_one (asked_session sv) room).trans (congrArg Except.ok put))
  show execDictWrite h i b data s = _
  unfold execDictWrite
  rw [request_serves sv]
  dsimp only
  rw [write]
  rfl

/-- An object that may be written exists. -/
theorem descOf_of_writable {s : State} {role : Role} {ix sub n v : Nat} {d : Desc}
    (w : s.writable role ix sub n v = .ok d) : descOf (key ix sub) = some d := by
  unfold writable at w
  cases e : found ix sub with
  | error e' => simp [e] at w
  | ok d' =>
    have same : d' = d := by
      simp only [e] at w
      split_ifs at w <;> exact Except.ok.inj w
    unfold found at e
    split at e
    · cases e
    · split at e
      · cases e
      · next h => rw [h, ← same, Except.ok.inj e]

theorem rowCovers_of_writable {s : State} {role : Role} {i : BitVec 16} {b : BitVec 8} {n v : Nat} {d : Desc}
    (w : s.writable role i.toNat b.toNat n v = .ok d) (kind : d.kind = .cfg) : rowCovers true i b = true := by
  simp [rowCovers, descOf_of_writable w, kind]

end State

/-- A command that writes a cfg object is a write of the dictionary. -/
theorem exec_cfgWrite {h : Nat} {i : BitVec 16} {b : BitVec 8} {data : List Byte} {s : State}
    (covers : rowCovers true i b = true) : exec (.cfgWrite h i b data) s = exec (.dictWrite h i b data) s := by
  show execCfgWrite h i b data s = execDictWrite h i b data s
  unfold execCfgWrite
  rw [if_pos covers]
  rfl

end Sys2Proof.Machine

/-!
Holds of DOMAINs that end 10 s after the last write (R56).
-/

namespace Sys2Proof.Machine

/-! ## Entries of a rising table -/

theorem rises_le {α : Type} {lo : Nat} {t : Table α} {k : Nat} {v : α} (w : Table.rises lo t = true) (m : (k, v) ∈ t) :
    lo ≤ k := by
  induction t generalizing lo with
  | nil => cases m
  | cons e t ih =>
    obtain ⟨i, a⟩ := e
    simp only [Table.rises, Bool.and_eq_true, decide_eq_true_eq] at w
    rcases List.mem_cons.mp m with m | m
    · cases m
      exact w.1
    · have := ih w.2 m
      omega

theorem get?_of_mem {α : Type} {lo : Nat} {t : Table α} {k : Nat} {v : α} (w : Table.rises lo t = true) (m : (k, v) ∈ t) :
    t.get? k = some v := by
  induction t generalizing lo with
  | nil => cases m
  | cons e t ih =>
    obtain ⟨i, a⟩ := e
    simp only [Table.rises, Bool.and_eq_true, decide_eq_true_eq] at w
    rw [Table.get?_cons]
    rcases List.mem_cons.mp m with m | m
    · cases m
      exact if_pos rfl
    · have := rises_le w.2 m
      rw [if_neg (by omega)]
      exact ih w.2 m

theorem mem_of_get? {α : Type} {t : Table α} {k : Nat} {v : α} (e : t.get? k = some v) : (k, v) ∈ t := by
  induction t with
  | nil => cases e
  | cons x t ih =>
    obtain ⟨i, a⟩ := x
    rw [Table.get?_cons] at e
    split at e
    · next h =>
      cases e
      exact h ▸ List.mem_cons_self
    · exact List.mem_cons_of_mem _ (ih e)

theorem get?_foldl_erase {α : Type} (l : List (Nat × α)) (t : Table α) (k : Nat) :
    (l.foldl (fun t e => t.erase e.1) t).get? k = if k ∈ l.map Prod.fst then none else t.get? k := by
  induction l generalizing t with
  | nil => simp
  | cons e l ih =>
    rw [List.foldl_cons, ih, List.map_cons]
    by_cases same : k = e.1
    · simp [same]
    · simp only [List.mem_cons, same, false_or, Table.get?_erase_other t (Ne.symm same)]

namespace State

/-! ## What the end of a hold leaves -/

theorem session_setSession_other {s : State} {h : Nat} {y : Session} (other : y.handle ≠ h) :
    (s.setSession y).session? h = s.session? h := by
  unfold setSession session?
  dsimp only
  induction s.sessions with
  | nil => rfl
  | cons a l ih =>
    rw [List.map_cons, List.find?_cons, List.find?_cons, ih]
    by_cases same : a.handle = y.handle
    · rw [if_pos same, beq_false_of_ne other, same, beq_false_of_ne other]
    · rw [if_neg same]

theorem isSome_session_setSob {s : State} {h : Nat} (g k v : Nat) (open_ : (s.session? h).isSome) :
    ((s.setSob g k v).session? h).isSome := by
  unfold setSob
  cases e : s.session? g with
  | none => exact open_
  | some x =>
    have hg : x.handle = g := session_handle e
    by_cases same : g = h
    · exact Option.isSome_iff_exists.mpr ⟨_, session_setSession (same ▸ hg : x.handle = h) (same ▸ e)⟩
    · exact (congrArg Option.isSome (session_setSession_other (hg ▸ same))).trans open_

theorem sob_setSob_other {s : State} {g h : Nat} (k v : Nat) (other : g ≠ h) (j : Nat) :
    (s.setSob g k v).sob h j = s.sob h j := by
  unfold setSob
  cases e : s.session? g with
  | none => rfl
  | some x =>
    unfold sob
    rw [session_setSession_other ((session_handle e : x.handle = g) ▸ other)]

/-- A bit of a session's own object that is made 0 reads 0, also where no such session is open and it did before. -/
theorem clear_setSob {s : State} {h k i : Nat} (clear : bitAt (s.sob h k) i = false) :
    bitAt ((s.setSob h k (setBitTo (s.sob h k) i false)).sob h k) i = false := by
  cases e : s.session? h with
  | none => rwa [setSob, e]
  | some x => rw [sob_setSob_same e, bitAt_setBitTo_same]

/-- What ending holds of the DOMAIN at `ix` leaves: its status, the holds and the sessions move, and a status that reads no hold
goes on doing so. -/
structure EndsHolds (ix : Nat) (s t : State) : Prop where
  frame : t = { s with holds := t.holds, obj := t.obj, sessions := t.sessions }
  objects : s.ObjectsBut t [key ix 4]
  bit : s.bit (key ix 4) 0 = false → t.bit (key ix 4) 0 = false
  sob : ∀ h, bitAt (s.sob h (key ix 4)) 0 = false → bitAt (t.sob h (key ix 4)) 0 = false
  session : ∀ h, (s.session? h).isSome → (t.session? h).isSome

theorem EndsHolds.refl (ix : Nat) (s : State) : EndsHolds ix s s :=
  ⟨rfl, objectsBut_refl s _, id, fun _ => id, fun _ => id⟩

theorem EndsHolds.trans {ix : Nat} {s t u : State} (h : EndsHolds ix s t) (k : EndsHolds ix t u) : EndsHolds ix s u where
  frame := by rw [k.frame, h.frame]
  objects j hj := (k.objects j hj).trans (h.objects j hj)
  bit e := k.bit (h.bit e)
  sob g e := k.sob g (h.sob g e)
  session g e := k.session g (h.session g e)

theorem setSob_frame (s : State) (h k v : Nat) : s.setSob h k v = { s with sessions := (s.setSob h k v).sessions } := by
  unfold setSob
  split <;> rfl

/-- A hold's number names its DOMAIN, and at CJ_BUFFER the session. -/
theorem dropHold_shared {s : State} {k : Nat} (shared : k % 2 ^ 16 ≠ 0x3201) :
    s.dropHold k = ({ s with holds := s.holds.erase k } : State).setBit (domStatus (k % 2 ^ 16)) 0 false := if_neg shared

theorem dropHold_buffer {s : State} {k : Nat} (buffer : k % 2 ^ 16 = 0x3201) :
    s.dropHold k = ({ s with holds := s.holds.erase k } : State).setSob (k / 2 ^ 16 - 1) (domStatus 0x3201)
      (setBitTo (({ s with holds := s.holds.erase k } : State).sob (k / 2 ^ 16 - 1) (domStatus 0x3201)) 0 false) := by
  unfold dropHold setDomBit
  rw [if_pos buffer, buffer]

theorem holds_dropHold (s : State) (k : Nat) : (s.dropHold k).holds = s.holds.erase k := by
  by_cases buffer : k % 2 ^ 16 = 0x3201
  · rw [dropHold_buffer buffer, setSob_frame]
  · rw [dropHold_shared buffer]
    rfl

/-- Ending a hold of a DOMAIN that all sessions share clears its status. -/
theorem bit_dropHold {s : State} {k : Nat} (shared : k % 2 ^ 16 ≠ 0x3201) :
    (s.dropHold k).bit (key (k % 2 ^ 16) 4) 0 = false := by
  rw [dropHold_shared shared]
  unfold bit
  rw [setBit_eq]
  exact (congrArg (bitAt · 0) (ob_setOb_same ..)).trans (bitAt_setBitTo_same ..)

/-- Ending a session's hold of its CJ_BUFFER clears its status. -/
theorem sob_dropHold {s : State} {h : Nat} (open_ : (s.session? h).isSome) :
    bitAt ((s.dropHold (holdKey 0x3201 h)).sob h (key 0x3201 4)) 0 = false := by
  obtain ⟨x, e⟩ := Option.isSome_iff_exists.mp open_
  have number : holdKey 0x3201 h = 0x3201 + 2 ^ 16 * (h + 1) := rfl
  have handle : holdKey 0x3201 h / 2 ^ 16 - 1 = h := by omega
  rw [dropHold_buffer (by omega), handle]
  exact (congrArg (bitAt · 0) (sob_setSob_same (s := { s with holds := s.holds.erase (holdKey 0x3201 h) }) e _ _)).trans
    (bitAt_setBitTo_same ..)

theorem endsHolds_dropHold (s : State) (k : Nat) : EndsHolds (k % 2 ^ 16) s (s.dropHold k) := by
  by_cases buffer : k % 2 ^ 16 = 0x3201
  · have drop := dropHold_buffer (s := s) buffer
    refine ⟨?_, ?_, ?_, fun h e => ?_, fun h open_ => ?_⟩
    · rw [drop, setSob_frame]
    · rw [drop, setSob_frame]
      exact objectsBut_refl s _
    · rw [drop, setSob_frame]
      exact id
    · by_cases own : k / 2 ^ 16 - 1 = h
      · rw [drop, own, buffer]
        exact clear_setSob (s := { s with holds := s.holds.erase k }) (buffer ▸ e)
      · rw [drop, sob_setSob_other _ _ own]
        exact e
    · rw [drop]
      exact isSome_session_setSob (s := { s with holds := s.holds.erase k }) _ _ _ open_
  · have drop := dropHold_shared (s := s) buffer
    refine ⟨?_, ?_, fun _ => bit_dropHold buffer, fun h e => ?_, fun h open_ => ?_⟩
    · rw [drop]
      rfl
    · rw [drop]
      exact objectsBut_setBit (objectsBut_refl _ _) (List.mem_singleton.mpr rfl) _ _
    · rw [drop]
      exact e
    · rw [drop]
      exact open_

/-! ## The timeout -/

theorem endsHolds_foldl {ix : Nat} (l : Table Hold) (at_ : ∀ e ∈ l, e.1 % 2 ^ 16 = ix) (s : State) :
    EndsHolds ix s (l.foldl (fun s e => s.dropHold e.1) s) := by
  induction l generalizing s with
  | nil => exact .refl ix s
  | cons e l ih =>
    have first := endsHolds_dropHold s e.1
    rw [at_ e List.mem_cons_self] at first
    exact first.trans (ih (fun e' m => at_ e' (List.mem_cons_of_mem _ m)) _)

theorem holds_foldl_dropHold (l : Table Hold) (s : State) :
    (l.foldl (fun s e => s.dropHold e.1) s).holds = l.foldl (fun t e => t.erase e.1) s.holds := by
  induction l generalizing s with
  | nil => rfl
  | cons e l ih => rw [List.foldl_cons, List.foldl_cons, ih, holds_dropHold]

/-- A hold among those that end: it ends after some and before the others. -/
theorem foldl_dropHold_at {ix : Nat} {l : Table Hold} (at_ : ∀ e ∈ l, e.1 % 2 ^ 16 = ix) {e : Nat × Hold} (m : e ∈ l)
    (s : State) : ∃ t, EndsHolds ix s t ∧ EndsHolds ix (t.dropHold e.1) (l.foldl (fun s e => s.dropHold e.1) s) := by
  obtain ⟨a, b, rfl⟩ := List.append_of_mem m
  refine ⟨a.foldl (fun s e => s.dropHold e.1) s, endsHolds_foldl a (fun e' m => at_ e' (List.mem_append_left _ m)) s, ?_⟩
  rw [List.foldl_append, List.foldl_cons]
  exact endsHolds_foldl b (fun e' m => at_ e' (List.mem_append_right _ (List.mem_cons_of_mem _ m))) _

/-- The holds of the DOMAIN at `ix` whose holder has not written for 10 s. -/
def lateHolds (s : State) (ix : Nat) : Table Hold :=
  s.holds.filter fun (e : Nat × Hold) => e.1 % 2 ^ 16 = ix && s.passed e.2.lastWrite (sec 10)

theorem mem_lateHolds {s : State} {ix : Nat} {e : Nat × Hold} :
    e ∈ s.lateHolds ix ↔ e ∈ s.holds ∧ e.1 % 2 ^ 16 = ix ∧ s.passed e.2.lastWrite (sec 10) = true := by
  simp [lateHolds]

theorem mem_lateHolds_fst {s : State} (w : Table.rises 0 s.holds = true) {ix k : Nat} {y : Hold} (e : s.holds.get? k = some y) :
    k ∈ (s.lateHolds ix).map Prod.fst ↔ k % 65536 = ix ∧ s.passed y.lastWrite (sec 10) = true := by
  constructor
  · intro m
    obtain ⟨⟨k', y'⟩, late, rfl⟩ := List.mem_map.mp m
    obtain ⟨held, at_, late⟩ := mem_lateHolds.mp late
    have same := (get?_of_mem w held).symm.trans e
    cases same
    exact ⟨at_, late⟩
  · rintro ⟨at_, late⟩
    exact List.mem_map_of_mem (f := Prod.fst) (mem_lateHolds.mpr ⟨mem_of_get? e, at_, late⟩)

theorem domainHoldTimeout_ends {i : BitVec 16} {s : State} (w : Table.rises 0 s.holds = true) :
    ∃ t, exec (.domainHoldTimeout i) s = .next t ∧
      (∀ k y, s.holds.get? k = some y →
        t.holds.get? k = if k % 65536 = i.toNat ∧ s.passed y.lastWrite (sec 10) = true then none else some y) ∧
      (∀ y, i ≠ 0x3201 → s.holds.get? i.toNat = some y → s.passed y.lastWrite (sec 10) = true →
        t.bit (key i.toNat 4) 0 = false) ∧
      (∀ h x y, i = 0x3201 → s.session? h = some x → s.holds.get? (holdKey 0x3201 h) = some y →
        s.passed y.lastWrite (sec 10) = true → bitAt (t.sob h (key 0x3201 4)) 0 = false) ∧
      t = { s with holds := t.holds, obj := t.obj, sessions := t.sessions } ∧ s.ObjectsBut t [key i.toNat 4] := by
  have at_ : ∀ e ∈ s.lateHolds i.toNat, e.1 % 2 ^ 16 = i.toNat := fun e m => (mem_lateHolds.mp m).2.1
  have ends := endsHolds_foldl _ at_ s
  refine ⟨(s.lateHolds i.toNat).foldl (fun s e => s.dropHold e.1) s, rfl, fun k y e => ?_, fun y shared e late => ?_,
    fun h x y buffer open_ e late => ?_, ends.frame, ends.objects⟩
  · rw [holds_foldl_dropHold, get?_foldl_erase]
    simp only [mem_lateHolds_fst w e, e]
  · have small : i.toNat % 2 ^ 16 = i.toNat := Nat.mod_eq_of_lt i.isLt
    have member : (i.toNat, y) ∈ s.lateHolds i.toNat := mem_lateHolds.mpr ⟨mem_of_get? e, small, late⟩
    obtain ⟨t, -, after⟩ := foldl_dropHold_at at_ member s
    have cleared := bit_dropHold (s := t) (k := i.toNat) fun same => shared (BitVec.eq_of_toNat_eq (small.symm.trans same))
    rw [small] at cleared
    exact after.bit cleared
  · subst buffer
    have number : holdKey 0x3201 h % 2 ^ 16 = 0x3201 := by
      have : holdKey 0x3201 h = 0x3201 + 2 ^ 16 * (h + 1) := rfl
      omega
    have member : (holdKey 0x3201 h, y) ∈ s.lateHolds 0x3201 := mem_lateHolds.mpr ⟨mem_of_get? e, number, late⟩
    obtain ⟨t, before, after⟩ := foldl_dropHold_at at_ member s
    exact after.sob h (sob_dropHold (before.session h (Option.isSome_iff_exists.mpr ⟨x, open_⟩)))

end State
end Sys2Proof.Machine

/-!
Request frames of the halyard: without a session, and of one that is not open (R39, R48–R50).
-/

namespace Sys2Proof.Machine
namespace State

/-! ## The fields of a request frame -/

theorem frame_transaction {tr h fresh : Nat} (payload mac : List Nat) (fits : tr < 65536) :
    ofBytes (((frameBytes 1 tr h fresh payload ++ mac).drop 4).take 2) = tr := ofBytes_toBytes (n := 2) fits
theorem frame_session {tr h fresh : Nat} (payload mac : List Nat) (fits : h < 65536) :
    ofBytes (((frameBytes 1 tr h fresh payload ++ mac).drop 6).take 2) = h := ofBytes_toBytes (n := 2) fits
theorem frame_length {tr h fresh : Nat} (payload mac : List Nat) (fits : payload.length < 65536) :
    ofBytes (((frameBytes 1 tr h fresh payload ++ mac).drop 12).take 2) = payload.length := ofBytes_toBytes (n := 2) fits
theorem frame_payload (tr h fresh : Nat) (payload mac : List Nat) :
    ((frameBytes 1 tr h fresh payload ++ mac).drop 14).take payload.length = payload :=
  List.take_left (l₁ := payload) (l₂ := mac)

/-- A frame with the tag, version and type of a request is served as one. -/
theorem exec_dictRequestFrame {f : List Byte} {s : State} {tr h fresh : Nat} {payload mac : List Nat}
    (bytes : f.map (fun a => a.toNat) = frameBytes 1 tr h fresh payload ++ mac) (takes : s.takesRequests = true)
    (applied : s.applied = true) (serves : s.halyardServes = true) :
    exec (.dictRequestFrame f) s = .next (s.requestFrame (frameBytes 1 tr h fresh payload ++ mac)) := by
  show execDictRequestFrame f s = _
  unfold execDictRequestFrame
  rw [bytes]
  have len : decide (14 ≤ (frameBytes 1 tr h fresh payload ++ mac).length) = true := by
    simp [frameBytes, toBytes]
  have head : (frameBytes 1 tr h fresh payload ++ mac).take 4 = [0x57, 0x53, 1, 1] := rfl
  exact whenever_of (by simp only [len, head, takes, applied, serves, beq_self_eq_true, Bool.and_self]) _ _

theorem respond_anonymous {s : State} (none_ : s.session? 0 = none) (tr : Nat) (entries : List Reply) :
    s.respond 0 tr entries =
      halSend { s with reply := { status := (entries.getLast?.map Reply.status).getD .protocolError
                                  data := frameBytes 2 tr 0 0 (entries.flatMap entryBytes) } }
        (s.dictFrame .answer .requester (frameBytes 2 tr 0 0 (entries.flatMap entryBytes))) := by
  unfold respond respondAs
  rw [none_]
  rfl

theorem requestFrame_anonymous {s : State} {tr : Nat} {payload : List Nat} (mac : List Nat) (fits : tr < 65536)
    (len : payload.length < 65536) (runs : s.coresRun = true) :
    s.requestFrame (frameBytes 1 tr 0 0 payload ++ mac) =
      (s.runPayload 0 0 payload).1.respond 0 tr (s.runPayload 0 0 payload).2 := by
  unfold requestFrame
  simp only [frame_transaction payload mac fits, frame_session payload mac (Nat.zero_lt_succ _), frame_length payload mac len,
    frame_payload, runs, Bool.not_true, Bool.false_eq_true, if_false, if_true]

theorem requestFrame_unknown {s : State} {tr h fresh : Nat} {payload mac : List Nat} (pos : 0 < h) (small : h < 65536)
    (none_ : s.session? h = none) :
    s.requestFrame (frameBytes 1 tr h fresh payload ++ mac) =
      { s with hal := { s.hal with authDrops := s.hal.authDrops + 1 } } := by
  unfold requestFrame
  simp only [frame_session payload mac small, Nat.pos_iff_ne_zero.mp pos, none_, if_false]

end State

/-- Settles O11, clause by clause: each command's meaning where its checks pass. -/
theorem dictionaryCommandsDoAsStated : Obligations.DictionaryCommandsDoAsStated := by
  refine ⟨?read, ?record, ?domainRead, ?bufferWrite, ?cfgWrite, ?selector, ?domOffset, ?hold, ?frame, ?unknown⟩
  case read =>
    intro h i b s x d sv h0 hd access role ty rnd
    exact State.dictRead_reads sv (State.readable_ok (State.found_ok h0 hd) access role) ty rnd
  case record =>
    intro h i s d takes applied runs none_ lo hi hd all
    exact State.readRecord_reads takes applied runs none_ (by simp [State.openIndex, lo, hi]) hd all
  case domainRead =>
    intro h i off n s x d sv r ty len notMo
    exact State.domainRead_reads sv r ty len notMo
  case bufferWrite =>
    intro h off data s x sv inside len fits free
    exact State.bufferWrite_stands sv inside len fits free
  case cfgWrite =>
    intro h i b data s x d sv k v w kind room c hc
    have pends := State.cfgWrite_pends sv w kind room
    rcases hc with rfl | rfl
    · rw [exec_cfgWrite (State.rowCovers_of_writable w kind)]
      exact pends
    · exact pends
  case selector =>
    intro h data s x sv v len ok
    exact State.adqSignal_taken sv len ok
  case domOffset =>
    intro h i off s x d e sv dom w kind held
    exact State.domOffset_taken sv dom w kind held
  case hold => exact fun i s w => State.domainHoldTimeout_ends w
  case frame =>
    intro tr payload f s fits len bytes takes applied runs serves r answer none_
    rw [State.exec_dictRequestFrame (mac := []) (by rw [List.append_nil]; exact bytes) takes applied serves,
      State.requestFrame_anonymous [] fits len runs, State.respond_anonymous none_]
  case unknown =>
    intro tr h fresh payload mac f s fits pos small len bytes takes applied serves none_
    rw [State.exec_dictRequestFrame bytes takes applied serves, State.requestFrame_unknown pos small none_]

end Sys2Proof.Machine

/-!
Commits: accepted or refused, applied as a whole or not at all, and made durable (R42–R45).
-/

namespace Sys2Proof.Machine
namespace State

theorem setSob_setSession {s : State} {h : Nat} {x y : Session} (handle : y.handle = h) (e : s.session? h = some x) (k v : Nat) :
    (s.setSession y).setSob h k v = s.setSession { y with regs := y.regs.write (objDefault k) k v } := by
  rw [setSob_eq (session_setSession handle e)]
  exact setSession_twice _ _ _ rfl

/-! ## COMMIT_CMD (R42, R44) -/

/-- A session whose set was accepted as commit `n`. -/
def setAccepted (x : Session) (n : Nat) : Session :=
  { x with pendingSet := [], lastCommit := n
           regs := (x.regs.write (objDefault Obj.commitStatus) Obj.commitStatus 1).write
             (objDefault Obj.commitFailObject) Obj.commitFailObject 0 }

theorem setAccepted_status (x : Session) (n : Nat) :
    (setAccepted x n).regs.read (objDefault Obj.commitStatus) Obj.commitStatus = 1 :=
  (Table.read_write_other (x.regs.write (objDefault Obj.commitStatus) Obj.commitStatus 1) (objDefault Obj.commitFailObject)
    (objDefault Obj.commitStatus) 0 (show Obj.commitFailObject ≠ Obj.commitStatus by decide)).trans
    (Table.read_write_same x.regs (objDefault Obj.commitStatus) Obj.commitStatus 1)

/-- The commit that an accepted set waits as. -/
def jobOf (s : State) (x : Session) : CommitJob :=
  { serial := s.commitSerial + 1, session := x.handle, role := x.role, hostId := x.hostId, set := x.pendingSet
    accepted := s.now }

/-- The state with the set of a session waiting as a commit, and its objects marked. -/
def withJob (s : State) (x : Session) : State :=
  { s with
    commitSerial := s.commitSerial + 1
    marks := (setObjects x.pendingSet).foldl
      (fun (t : Table CommitMark) o => t.put o { serial := s.commitSerial + 1, by_ := x.handle }) s.marks
    commits := s.commits ++ [s.jobOf x] }

theorem doCommit_accepted {s : State} {h : Nat} {x : Session} (e : s.session? h = some x)
    (free : x.pendingSet.any (s.inConflict h) = false) :
    s.doCommit x = .ok ((s.withJob x).setSession (setAccepted x (s.commitSerial + 1))) := by
  have handle : x.handle = h := session_handle e
  have e' : (s.withJob x).session? h = some x := e
  unfold doCommit
  rw [handle, free, if_neg Bool.false_ne_true]
  have first := setSob_setSession (y := { x with pendingSet := [], lastCommit := s.commitSerial + 1 }) handle e'
    Obj.commitStatus 1
  have second := setSob_setSession (y := { x with
    pendingSet := [], lastCommit := s.commitSerial + 1
    regs := x.regs.write (objDefault Obj.commitStatus) Obj.commitStatus 1 }) handle e' Obj.commitFailObject 0
  rw [← first] at second
  subst handle
  exact congrArg Except.ok second

/-- A session whose commit met a conflict. -/
def setKept (s : State) (x : Session) : Session :=
  { x with pendingSet := x.pendingSet.map (fun p => if s.inConflict x.handle p then { p with told := true } else p)
           lastCommit := 0, regs := x.regs.write (objDefault Obj.commitStatus) Obj.commitStatus 4 }

theorem setKept_status (s : State) (x : Session) :
    (s.setKept x).regs.read (objDefault Obj.commitStatus) Obj.commitStatus = 4 :=
  Table.read_write_same x.regs (objDefault Obj.commitStatus) Obj.commitStatus 4

theorem doCommit_conflict {s : State} {h : Nat} {x : Session} (e : s.session? h = some x)
    (conflict : x.pendingSet.any (s.inConflict h) = true) :
    s.doCommit x = .ok { s.setSession (s.setKept x) with reply := { status := .commitConflict } } := by
  have handle : x.handle = h := session_handle e
  subst handle
  unfold doCommit
  rw [conflict, if_pos rfl, setSob_setSession (by rfl) e]
  rfl

theorem commit_accepted {h : Nat} {s : State} {x : Session} (sv : s.Serves h .host x)
    (free : x.pendingSet.any ((s.asked x).inConflict h) = false) :
    ∃ t y j, exec (.commit h) s = .next t ∧ t.reply = { status := .success } ∧ t.session? h = some y ∧ y.pendingSet = [] ∧
      t.sob h Obj.commitStatus = 1 ∧ t.commits = s.commits ++ [j] ∧ j.set = x.pendingSet ∧ j.session = h ∧
      j.generation = none ∧ y.lastCommit = j.serial ∧ j.serial = s.commitSerial + 1 ∧
      t = { s with reply := t.reply, sessions := t.sessions, commits := t.commits, marks := t.marks
                   commitSerial := t.commitSerial } := by
  have open_ := asked_session sv
  have at_ := session_setSession (s := (s.served x).withJob (s.heard x)) (y := setAccepted (s.heard x) (s.commitSerial + 1))
    (show (s.heard x).handle = h from heard_handle sv) open_
  refine ⟨((s.served x).withJob (s.heard x)).setSession (setAccepted (s.heard x) (s.commitSerial + 1)), _,
    s.jobOf (s.heard x), ?_, rfl, at_, rfl, ?_, rfl, rfl, heard_handle (x := x) sv, rfl, rfl, rfl, rfl⟩
  · show execCommit h s = _
    unfold execCommit
    rw [request_serves sv, doCommit_accepted open_ free]
    rfl
  · rw [sob_eq at_, setAccepted_status]

theorem commit_conflicts {h : Nat} {s : State} {x : Session} (sv : s.Serves h .host x)
    (conflict : x.pendingSet.any ((s.asked x).inConflict h) = true) :
    ∃ t y, exec (.commit h) s = .next t ∧ t.reply = { status := .commitConflict } ∧ t.session? h = some y ∧
      y.pendingSet.map (fun p => (p.key, p.value, p.first)) = x.pendingSet.map (fun p => (p.key, p.value, p.first)) ∧
      t.sob h Obj.commitStatus = 4 ∧ t = { s with reply := t.reply, sessions := t.sessions } := by
  have open_ := asked_session sv
  let u : State := { s.asked x with reply := { status := .commitConflict } }
  have at_ := session_setSession (s := u) (y := (s.asked x).setKept (s.heard x))
    (show (s.heard x).handle = h from heard_handle sv) open_
  refine ⟨u.setSession ((s.asked x).setKept (s.heard x)), _, ?_, rfl, at_, ?_, ?_, rfl⟩
  · show execCommit h s = _
    unfold execCommit
    rw [request_serves sv, doCommit_conflict open_ conflict]
    rfl
  · show ((x.pendingSet.map _).map _) = _
    rw [List.map_map]
    refine List.map_congr_left fun p _ => ?_
    rw [Function.comp_apply]
    split <;> rfl
  · rw [sob_eq at_, setKept_status]

theorem discardPendingSet_empties {h : Nat} {s : State} {x : Session} (sv : s.Serves h .host x) :
    exec (.discardPendingSet h) s = .next ((s.served x).setSession { s.heard x with pendingSet := [] }) := by
  show execDiscardPendingSet h s = _
  unfold execDiscardPendingSet
  rw [request_serves sv]
  rfl

end State
end Sys2Proof.Machine

/-!
Commits between two sweeps and in MRAM (R43, R45).
-/

namespace Sys2Proof.Machine
namespace State

/-! ## COMMIT_STATUS and COMMIT_FAIL_OBJECT of the session of a commit -/

/-- What follows a commit: nothing but the sessions moves, and those that are open stay so. -/
def SessionsMove (s t : State) : Prop := t = { s with sessions := t.sessions }

theorem SessionsMove.trans {s t u : State} (h : s.SessionsMove t) (k : t.SessionsMove u) : s.SessionsMove u := by
  unfold SessionsMove at h k ⊢
  rw [k, h]

theorem sessionsMove_setSob (s : State) (h k v : Nat) : s.SessionsMove (s.setSob h k v) := setSob_frame s h k v

theorem sessionsMove_commitShows (s : State) (j : CommitJob) (v : Nat) : s.SessionsMove (s.commitShows j v) := by
  unfold commitShows
  split
  · split
    · exact sessionsMove_setSob ..
    · rfl
  · rfl

theorem sessionsMove_commitReturns (s : State) (j : CommitJob) : s.SessionsMove (s.commitReturns j) := by
  unfold commitReturns
  split <;> rfl

theorem commitShows_last {s : State} {j : CommitJob} {x : Session} (e : s.session? j.session = some x)
    (last : x.lastCommit = j.serial) (v : Nat) :
    s.commitShows j v = s.setSession { x with regs := x.regs.write (objDefault Obj.commitStatus) Obj.commitStatus v } := by
  unfold commitShows
  rw [e]
  dsimp only
  rw [if_pos last, setSob_eq e]

theorem commitShows_session {s : State} {j : CommitJob} {x : Session} (e : s.session? j.session = some x)
    (last : x.lastCommit = j.serial) (v : Nat) : (s.commitShows j v).session? j.session =
      some { x with regs := x.regs.write (objDefault Obj.commitStatus) Obj.commitStatus v } := by
  rw [commitShows_last e last]
  exact session_setSession (show x.handle = _ from session_handle e) e

theorem sob_commitShows {s : State} {j : CommitJob} {x : Session} (e : s.session? j.session = some x)
    (last : x.lastCommit = j.serial) (v : Nat) : (s.commitShows j v).sob j.session Obj.commitStatus = v := by
  rw [commitShows_last e last, ← setSob_eq e, sob_setSob_same e]

theorem sob_setSob_object {s : State} {h k j : Nat} (v : Nat) (other : k ≠ j) : (s.setSob h k v).sob h j = s.sob h j := by
  cases e : s.session? h with
  | none => rw [setSob, e]
  | some x =>
    have at_ := session_setSession (y := { x with regs := x.regs.write (objDefault k) k v })
      (show x.handle = h from session_handle e) e
    rw [setSob_eq e, sob_eq at_, sob_eq e]
    exact Table.read_write_other x.regs (objDefault k) (objDefault j) v other

/-- The session whose commit failed, with its values back in its pending set, is the session of the commit still. -/
theorem session_commitReturns {s : State} {j : CommitJob} {x : Session} (e : s.session? j.session = some x) :
    ∃ y, (s.commitReturns j).session? j.session = some y ∧ y.lastCommit = x.lastCommit ∧ y.regs = x.regs := by
  unfold commitReturns
  rw [e]
  exact ⟨_, session_setSession (show x.handle = _ from session_handle e) e, rfl, rfl⟩

/-! ## A commit that takes effect or applies nothing (R43) -/

theorem exec_commitApply {s : State} {done rest : List CommitJob} {j : CommitJob} (next_ : s.nextCommit = some (done, j, rest))
    (may : s.mayApply = true) : exec .commitApply s = .next (s.commitTakes done j rest) := by
  show execCommitApply s = _
  unfold execCommitApply
  rw [next_]
  exact whenever_of may _ _

theorem migrated_of_conf {s t : State} (e : t.conf = s.conf) : t.upd.migrated = s.upd.migrated := by
  simp only [State.conf, Prod.mk.injEq] at e
  exact e.2.2.2.2.1

theorem conf_withCommits {s t : State} (e : t.conf = s.conf) (l : List CommitJob) :
    ({ t with commits := l } : State).conf = ({ s with commits := l } : State).conf := by
  simp only [State.conf, Prod.mk.injEq] at e ⊢
  exact ⟨e.1, e.2.1, trivial, e.2.2.2⟩

/-- A commit no object of which fails puts its values in force and waits for the copies. -/
theorem commitTakes_applies {s : State} {done rest : List CommitJob} {j : CommitJob} (some_ : j.set ≠ [])
    (migrated : s.upd.migrated = none) (fits : s.failObject (withSet s.cfg j.set) = none) :
    ∃ g, (s.commitTakes done j rest).conf =
      ({ s with cfg := withSet s.cfg j.set
                commits := done ++ { j with generation := some g, regs := withSet s.cfg j.set } :: rest } : State).conf := by
  have nonempty : ¬ j.set.isEmpty = true := by simpa using some_
  unfold commitTakes
  extract_lets base cand gen s0 s1 s2 s3 c v upd s4 s5
  have hcand : cand = withSet s.cfg j.set := by simp only [cand, base, migrated]
  rw [if_neg nonempty, hcand, fits]
  refine ⟨(gen + 1) % 2 ^ 32, ?_⟩
  have h3 : s3.conf = ({ s with
      cfg := withSet s.cfg j.set
      commits := done ++ { j with generation := some ((gen + 1) % 2 ^ 32), regs := withSet s.cfg j.set } :: rest } : State).conf := by
    rw [← hcand]
    exact (commitShows_conf ..).trans (conf_withCommits (takeConfig_conf s cand j.role.rank j.hostId) _)
  have none_ : s3.upd.migrated = none := (migrated_of_conf h3).trans migrated
  clear_value s3
  simp only [none_]
  exact h3

theorem commitApply_applies {s : State} {done rest : List CommitJob} {j : CommitJob}
    (next_ : s.nextCommit = some (done, j, rest)) (may : s.mayApply = true) (some_ : j.set ≠ [])
    (migrated : s.upd.migrated = none) (fits : s.failObject (withSet s.cfg j.set) = none) :
    ∃ t k, exec .commitApply s = .next t ∧ t.cfg = withSet s.cfg j.set ∧ t.commits = done ++ k :: rest ∧ k.set = j.set ∧
      k.regs = t.cfg ∧ k.generation.isSome = true ∧ t.ft.copies = s.ft.copies := by
  obtain ⟨g, conf⟩ := commitTakes_applies (done := done) (rest := rest) some_ migrated fits
  simp only [State.conf, Prod.mk.injEq] at conf
  obtain ⟨cfg, copies, commits, -⟩ := conf
  exact ⟨_, _, exec_commitApply next_ may, cfg, commits, rfl, cfg.symm, rfl, copies⟩

/-- COMMIT_FAIL_OBJECT of the session of a commit, where that is the session's last. -/
def showsFailing (s : State) (j : CommitJob) (k : Nat) : State :=
  match s.session? j.session with
  | some x => if x.lastCommit = j.serial then s.setSob j.session Obj.commitFailObject (objectOfKey k) else s
  | none => s

theorem showsFailing_last {s : State} {j : CommitJob} {x : Session} (e : s.session? j.session = some x)
    (last : x.lastCommit = j.serial) (k : Nat) :
    s.showsFailing j k = s.setSob j.session Obj.commitFailObject (objectOfKey k) := by
  unfold showsFailing
  rw [e]
  exact if_pos last

theorem sessionsMove_showsFailing (s : State) (j : CommitJob) (k : Nat) : s.SessionsMove (s.showsFailing j k) := by
  unfold showsFailing
  split
  · split
    · exact sessionsMove_setSob ..
    · rfl
  · rfl

theorem commitTakes_fails {s : State} {done rest : List CommitJob} {j : CommitJob} {k : Nat} (some_ : j.set ≠ [])
    (migrated : s.upd.migrated = none) (fails : s.failObject (withSet s.cfg j.set) = some k) :
    s.commitTakes done j rest =
      ((({ s with commits := done ++ rest } : State).commitShows j 5).commitReturns j).showsFailing j k := by
  have nonempty : ¬ j.set.isEmpty = true := by simpa using some_
  unfold commitTakes
  extract_lets base cand gen s0 s1 s2 s3 c v upd s4 s5
  have hcand : cand = withSet s.cfg j.set := by simp only [cand, base, migrated]
  rw [if_neg nonempty, hcand, fails]
  rfl

/-- The session whose commit failed is told so. -/
theorem sob_showsFailing {s : State} {j : CommitJob} {x : Session} (e : s.session? j.session = some x)
    (last : x.lastCommit = j.serial) (k : Nat) :
    (((s.commitShows j 5).commitReturns j).showsFailing j k).sob j.session Obj.commitStatus = 5 ∧
      (((s.commitShows j 5).commitReturns j).showsFailing j k).sob j.session Obj.commitFailObject = objectOfKey k := by
  obtain ⟨y, hy, lastY, regs⟩ := session_commitReturns (commitShows_session e last 5)
  rw [showsFailing_last hy (lastY.trans last), sob_setSob_object _ (by decide), sob_eq hy, regs, sob_setSob_same hy]
  exact ⟨Table.read_write_same x.regs (objDefault Obj.commitStatus) Obj.commitStatus 5, rfl⟩

theorem commitApply_fails {s : State} {done rest : List CommitJob} {j : CommitJob} {k : Nat}
    (next_ : s.nextCommit = some (done, j, rest)) (may : s.mayApply = true) (some_ : j.set ≠ [])
    (migrated : s.upd.migrated = none) (fails : s.failObject (withSet s.cfg j.set) = some k) :
    ∃ t, exec .commitApply s = .next t ∧ t.commits = done ++ rest ∧
      (∀ x, s.session? j.session = some x → x.lastCommit = j.serial →
        t.sob j.session Obj.commitStatus = 5 ∧ t.sob j.session Obj.commitFailObject = objectOfKey k) ∧
      t = { s with commits := t.commits, sessions := t.sessions } := by
  let u : State := { s with commits := done ++ rest }
  have moves : u.SessionsMove (((u.commitShows j 5).commitReturns j).showsFailing j k) :=
    ((sessionsMove_commitShows u j 5).trans (sessionsMove_commitReturns _ j)).trans (sessionsMove_showsFailing _ j k)
  have commits := congrArg State.commits moves
  refine ⟨_, exec_commitApply next_ may, ?_⟩
  rw [commitTakes_fails some_ migrated fails]
  refine ⟨commits, fun x e last => sob_showsFailing (s := u) e last k, ?_⟩
  rw [commits]
  exact moves

/-! ## A commit written to the copies (R45) -/

theorem exec_commitDurable {s : State} {rest : List CommitJob} {j : CommitJob} {g : Nat} (first : s.commits = j :: rest)
    (applied : j.generation = some g) (stored : Bool) : exec (.commitDurable stored) s = .next (if stored then s.commitEnds j rest
      else (({ s with commits := rest } : State).commitShows j 6).logFault 0 .degraded 3 s.now 0 0 0 j.serial) := by
  show execCommitDurable stored s = _
  unfold execCommitDurable
  rw [first]
  dsimp only
  rw [applied]
  cases stored <;> rfl

theorem copyOf_of_copies {s t : State} (e : t.ft.copies = s.ft.copies) (c : Nat) : t.copyOf c = s.copyOf c := by
  unfold copyOf
  rw [e]

theorem copyOf_writeCopies (s : State) (g : Nat) (r : Regs) {c : Nat} (hc : c < 3) :
    (s.writeCopies g r).copyOf c = { generation := g, intact := true, regs := r } := by
  have copies : (s.writeCopies g r).ft.copies =
      [(0, { generation := g, intact := true, regs := r }), (1, { generation := g, intact := true, regs := r }),
        (2, { generation := g, intact := true, regs := r })] := rfl
  unfold copyOf
  rw [copies]
  interval_cases c <;> rfl

theorem ob_writeCopies (s : State) (g : Nat) (r : Regs) {c : Nat} (hc : c < 3) : (s.writeCopies g r).ob (Obj.cfgGen c) = g := by
  unfold writeCopies Machine.forRange
  simp only [List.range, List.range.loop, List.foldl_cons, List.foldl_nil]
  interval_cases c
  · rw [ob_setOb_other _ _ (by decide), ob_setOb_other _ _ (by decide), ob_setOb_same]
  · rw [ob_setOb_other _ _ (by decide), ob_setOb_same]
  · rw [ob_setOb_same]

theorem ob_record (s : State) (r : LedgerRecord) {k : Nat} (h : State.moves [] k = false) : (s.record r).ob k = s.ob k :=
  ob_of_quiet (State.record_quiet s r) h

theorem commitDurable_stores {s : State} {rest : List CommitJob} {j : CommitJob} {g : Nat} (first : s.commits = j :: rest)
    (applied : j.generation = some g) (some_ : j.set ≠ []) :
    ∃ t, exec (.commitDurable true) s = .next t ∧ t.commits = rest ∧ t.ob Obj.commitGeneration = g ∧
      (∀ c, c < 3 → (t.copyOf c).regs = j.regs ∧ (t.copyOf c).generation = g ∧ (t.copyOf c).intact = true ∧
        t.ob (Obj.cfgGen c) = g) ∧ t.cfg = s.cfg := by
  have nonempty : ¬ j.set.isEmpty = true := by simpa using some_
  refine ⟨_, exec_commitDurable first applied true, ?_⟩
  rw [if_pos rfl]
  unfold commitEnds
  extract_lets old gen s1 s2 s3
  have hgen : gen = g := by simp only [gen, applied, Option.getD_some]
  have moves : s1.SessionsMove s2 := sessionsMove_commitShows ..
  have commits : s2.commits = rest := congrArg State.commits moves
  have cfg : s2.cfg = s.cfg := (congrArg State.cfg moves).trans rfl
  clear_value s2 gen
  subst hgen
  rw [if_neg nonempty]
  generalize hr : ({ s3.newRecord 10 s3.now with
    old := old, new := gen, cmdr := 10, cmdrAux := j.session, detail := (setObjects j.set).length % 2 ^ 16 } : LedgerRecord) = r
  have conf : (s3.record r).conf = (s2.writeCopies gen j.regs).conf := (State.record_conf ..).trans (setOb_conf ..)
  simp only [State.conf, Prod.mk.injEq] at conf
  obtain ⟨hcfg, hcopies, hcommits, -⟩ := conf
  have obs : ∀ k, State.moves [] k = false → (s3.record r).ob k = s3.ob k := fun k => ob_record s3 r
  refine ⟨hcommits.trans commits, (obs _ (by decide)).trans (ob_setOb_same ..), fun c hc => ?_, hcfg.trans cfg⟩
  have copy := (copyOf_of_copies hcopies c).trans (copyOf_writeCopies s2 gen j.regs hc)
  have quiet : State.moves [] (Obj.cfgGen c) = false := by interval_cases c <;> decide
  have other : Obj.commitGeneration ≠ Obj.cfgGen c := by interval_cases c <;> decide
  rw [copy, obs _ quiet]
  exact ⟨rfl, rfl, rfl, (ob_setOb_other _ _ other).trans (ob_writeCopies s2 gen j.regs hc)⟩

/-! ## A commit whose write failed (R41, R45) -/

/-- `t` is `s` with an entry of the fault log in its place: the log and its own objects move. -/
structure Logs (s t : State) (sev : Severity) (level : Nat) (ts : Tick) : Prop where
  frame : t = { s with flog := t.flog, obj := t.obj }
  objects : s.ObjectsBut t [Obj.flogSeq, Obj.flogOverwritten]
  entry : ∃ e, t.flog.get? (s.ob Obj.flogSeq % flogEntries) = some e ∧ e.severity = sev ∧ e.level = level ∧ e.tbase = ts

theorem logs_logFault (s : State) (id : Nat) (sev : Severity) (level : Nat) (ts : Tick) (ev place offset value : Nat) :
    Logs s (s.logFault id sev level ts ev place offset value) sev level ts := by
  unfold logFault
  extract_lets q e slot full s1 s2
  have objects : s.ObjectsBut s2 [Obj.flogSeq, Obj.flogOverwritten] :=
    objectsBut_setOb (objectsBut_refl s _) List.mem_cons_self _
  have logged : s2.flog.get? slot = some e := Table.get?_put_same ..
  split
  · exact ⟨rfl, objectsBut_setOb objects (List.mem_cons_of_mem _ List.mem_cons_self) _, e, logged, rfl, rfl, rfl⟩
  · exact ⟨rfl, objects, e, logged, rfl, rfl, rfl⟩

theorem commitDurable_fails {s : State} {rest : List CommitJob} {j : CommitJob} {g : Nat} (first : s.commits = j :: rest)
    (applied : j.generation = some g) :
    ∃ t, exec (.commitDurable false) s = .next t ∧ t.commits = rest ∧
      (∀ x, s.session? j.session = some x → x.lastCommit = j.serial → t.sob j.session Obj.commitStatus = 6) ∧
      (∃ e, t.flog.get? (s.ob Obj.flogSeq % flogEntries) = some e ∧ e.severity = .degraded ∧ e.level = 3 ∧ e.tbase = s.now) ∧
      t = { s with commits := t.commits, sessions := t.sessions, flog := t.flog, obj := t.obj } ∧
      s.ObjectsBut t [Obj.flogSeq, Obj.flogOverwritten] := by
  let u : State := { s with commits := rest }
  have moves : u.SessionsMove (u.commitShows j 6) := sessionsMove_commitShows ..
  have told : ∀ x, s.session? j.session = some x → x.lastCommit = j.serial →
      (u.commitShows j 6).sob j.session Obj.commitStatus = 6 := fun x e last => sob_commitShows (s := u) e last 6
  refine ⟨_, exec_commitDurable first applied false, ?_⟩
  rw [if_neg Bool.false_ne_true]
  have logs := logs_logFault (u.commitShows j 6) 0 .degraded 3 s.now 0 0 0 j.serial
  show (State.logFault (u.commitShows j 6) 0 .degraded 3 s.now 0 0 0 j.serial).commits = rest ∧ _
  generalize State.logFault (u.commitShows j 6) 0 .degraded 3 s.now 0 0 0 j.serial = t at logs ⊢
  generalize u.commitShows j 6 = v at moves told logs
  have seq : v.ob Obj.flogSeq = s.ob Obj.flogSeq := (congrArg (fun t : State => t.ob Obj.flogSeq) moves).trans rfl
  have session : ∀ k, t.sob j.session k = v.sob j.session k := fun k =>
    (congrArg (fun t : State => t.sob j.session k) logs.frame).trans rfl
  have commits : t.commits = rest := (congrArg State.commits logs.frame).trans ((congrArg State.commits moves).trans rfl)
  refine ⟨commits, fun x e last => (session _).trans (told x e last), seq ▸ logs.entry, ?_, fun k hk => ?_⟩
  · rw [logs.frame, moves]
  · exact (logs.objects k hk).trans ((congrArg (fun t : State => t.ob k) moves).trans rfl)

end State

/-- Settles O12, clause by clause. -/
theorem commitsDoAsStated : Obligations.CommitsDoAsStated :=
  ⟨fun _ _ _ sv free => State.commit_accepted sv free, fun _ _ _ sv conflict => State.commit_conflicts sv conflict,
    fun _ _ _ sv => State.discardPendingSet_empties sv,
    fun _ _ _ _ next_ may some_ migrated fits => State.commitApply_applies next_ may some_ migrated fits,
    fun _ _ _ _ _ next_ may some_ migrated fails => State.commitApply_fails next_ may some_ migrated fails,
    fun _ _ _ _ first applied some_ => State.commitDurable_stores first applied some_,
    fun _ _ _ _ first applied => State.commitDurable_fails first applied⟩

end Sys2Proof.Machine

/-!
The SDO servers of the CAN channels (R53–R55, R62).
-/

namespace Sys2Proof.Machine
namespace State

/-! ## What an SDO server shows -/

/-- `t` is `s` with the SDO server of channel `c` standing at `x`: no other server, and nothing but the channel's frames, moves. -/
structure SdoShows (s t : State) (c : Nat) (x : SdoServer) : Prop where
  own : t.sdoOf c = x
  others : ∀ e, e ≠ c → t.sdoOf e = s.sdoOf e
  frame : t = { s with sdo := t.sdo, can := t.can }

/-- `t` is `s` with nothing changed but the CAN channels. -/
def CanMoves (s t : State) : Prop := t = { s with can := t.can }

theorem CanMoves.trans {s t u : State} (h : s.CanMoves t) (k : t.CanMoves u) : s.CanMoves u := by
  unfold CanMoves at h k ⊢
  rw [k, h]

theorem canMoves_forRange (n : Nat) {f : State → Nat → State} (h : ∀ s i, CanMoves s (f s i)) (s : State) :
    s.CanMoves (Machine.forRange n f s) := by
  unfold Machine.forRange
  induction List.range n generalizing s with
  | nil => rfl
  | cons i l ih => exact (h s i).trans (ih _)

theorem canMoves_canEnqueue (s : State) (c : Nat) (f : CanPending) : s.CanMoves (s.canEnqueue c f) := rfl

theorem sdoFrames_frame (s : State) (c n : Nat) : s.CanMoves (s.sdoFrames c n) := by
  unfold sdoFrames
  exact canMoves_forRange n (fun t _ => canMoves_canEnqueue t c _) s

theorem sdoOf_setSdo_same (s : State) (c : Nat) (x : SdoServer) : (s.setSdo c x).sdoOf c = x := Table.read_write_same ..
theorem sdoOf_setSdo_other (s : State) {c e : Nat} (x : SdoServer) (h : e ≠ c) : (s.setSdo c x).sdoOf e = s.sdoOf e :=
  Table.read_write_other _ _ _ _ (Ne.symm h)

theorem sdoShows_setSdo (s : State) (c : Nat) (x : SdoServer) (n : Nat) : SdoShows s ((s.setSdo c x).sdoFrames c n) c x := by
  have frame := sdoFrames_frame (s.setSdo c x) c n
  refine ⟨?_, fun e h => ?_, ?_⟩
  · rw [frame]
    exact sdoOf_setSdo_same s c x
  · rw [frame]
    exact sdoOf_setSdo_other s x h
  · rw [frame]
    rfl

theorem sdoShows_sdoAnswer (s : State) (c code : Nat) (bytes : List Nat) : SdoShows s (s.sdoAnswer c code bytes) c
    { s.sdoOf c with transfer := none, waiting := none, abort := code, answer := bytes } := sdoShows_setSdo ..

theorem sdoShows_sdoGoOn (s : State) (c : Nat) (r : SdoTransfer) (bytes : List Nat) (n : Nat) :
    SdoShows s (s.sdoGoOn c r bytes n) c
      { s.sdoOf c with transfer := some { r with lastFrame := s.now }, abort := 0, answer := bytes } := sdoShows_setSdo ..

/-- The requests that wait, but for those of channel `c`. -/
def notOfChannel (c : Nat) (l : List Request) : List Request := l.filter fun r => r.sdo ≠ some c

/-- A new request ends one of the channel that waits (R62). -/
theorem sdoBegin_queues (s : State) (c : Nat) : (s.sdoBegin c).anon = notOfChannel c s.anon ∧
    (s.sdoBegin c).sessions = s.sessions.map fun y => { y with queue := notOfChannel c y.queue } := by
  unfold sdoBegin
  extract_lets x runs others s1
  have shows := sdoShows_setSdo s1 c { x with
    transfer := none, waiting := none, abort := 0, answer := []
    replaced := if runs then Status.abortCode .authFailure else 0 } (if runs then 1 else 0)
  exact ⟨(congrArg State.anon shows.frame).trans rfl, (congrArg State.sessions shows.frame).trans rfl⟩

theorem sdoBegin_frame (s : State) (c : Nat) :
    s.sdoBegin c = { s with sdo := (s.sdoBegin c).sdo, can := (s.sdoBegin c).can, anon := (s.sdoBegin c).anon
                            sessions := (s.sdoBegin c).sessions } ∧
      ∀ e, e ≠ c → (s.sdoBegin c).sdoOf e = s.sdoOf e := by
  unfold sdoBegin
  extract_lets x runs others s1
  have shows := sdoShows_setSdo s1 c { x with
    transfer := none, waiting := none, abort := 0, answer := []
    replaced := if runs then Status.abortCode .authFailure else 0 } (if runs then 1 else 0)
  refine ⟨?_, shows.others⟩
  rw [shows.frame]

/-- A server that answers a new request: the requests that waited are those the begin of the request leaves. -/
structure SdoBegins (s t : State) (c : Nat) : Prop where
  others : ∀ e, e ≠ c → t.sdoOf e = s.sdoOf e
  anon : t.anon = (s.sdoBegin c).anon
  sessions : t.sessions = (s.sdoBegin c).sessions
  frame : t = { s with sdo := t.sdo, can := t.can, anon := t.anon, sessions := t.sessions }

theorem SdoShows.begins {s t : State} {c : Nat} {x : SdoServer} (h : SdoShows (s.sdoBegin c) t c x) : SdoBegins s t c := by
  obtain ⟨frame, others⟩ := sdoBegin_frame s c
  refine ⟨fun e he => (h.others e he).trans (others e he), (congrArg State.anon h.frame).trans rfl,
    (congrArg State.sessions h.frame).trans rfl, ?_⟩
  rw [h.frame, frame]

/-! ## Expedited transfers -/

theorem sdoExpeditedDownload_aborts {c : Fin 8} {i : BitVec 16} {b : BitVec 8} {data : List Byte} {s : State}
    (runs : s.sdoRuns c = true) :
    ∃ t, exec (.sdoExpeditedDownload c i b data) s = .next t ∧ (t.sdoOf c).transfer = none ∧
      (t.sdoOf c).abort = 0x06010000 ∧ (∀ d, d ≠ c.val → t.sdoOf d = s.sdoOf d) ∧ t.anon = (s.sdoBegin c).anon ∧
      t.sessions = (s.sdoBegin c).sessions ∧
      t = { s with sdo := t.sdo, can := t.can, anon := t.anon, sessions := t.sessions } := by
  have shows := sdoShows_sdoAnswer (s.sdoBegin c) c (Status.abortCode .noSession) []
  obtain ⟨others, anon, sessions, frame⟩ := shows.begins
  exact ⟨_, whenever_of runs _ _, by rw [sdoAbort, shows.own], by rw [sdoAbort, shows.own]; rfl, others, anon, sessions, frame⟩

/-- The bytes an expedited upload answers, of an object that R39 lets be read without a session. -/
theorem sdoExpedite_answers {s : State} {c i b : Nat} {d : Desc} (o : openIndex i = true) (hb : b < 256)
    (h0 : descOf (key i 0) ≠ none) (hd : descOf (key i b) = some d) (access : d.access ≠ .wo) (role : d.readRole = .host)
    (ty : d.ty ≠ .domain) :
    ∃ reply, s.sdoExpedite c (key i b) = ({ s with reply := reply } : State).sdoAnswer c 0
      (toBytes d.ty.size (({ s with reply := {} } : State).valueOf 0 (canPathNo c) i b)) := by
  have rnd : key i b ≠ Obj.random := by
    simp only [openIndex, Bool.and_eq_true, decide_eq_true_eq] at o
    simp only [Obj.random, key]
    omega
  have r : readable .host i b = .ok d := readable_ok (found_ok h0 hd) access (by rw [role])
  have read := doRead_ok (s := { s with reply := {} }) 0 (canPathNo c) r ty rnd
  rw [afterRead_open o hb] at read
  unfold sdoExpedite sdoFetch
  simp only [keyIndex_key i hb, keySub_key i hb, o, Bool.true_or, if_true, read]
  exact ⟨_, rfl⟩

theorem sdoExpeditedUpload_answers {c : Fin 8} {i : BitVec 16} {b : BitVec 8} {d : Desc} {s : State}
    (runs : s.sdoRuns c = true) (cores : s.coresRun = true) (o : openIndex i.toNat = true)
    (h0 : descOf (key i.toNat 0) ≠ none) (hd : descOf (key i.toNat b.toNat) = some d) (short : d.ty.size ≤ 4)
    (access : d.access ≠ .wo) (role : d.readRole = .host) (ty : d.ty ≠ .domain) :
    ∃ t, exec (.sdoExpeditedUpload c i b) s = .next t ∧ (t.sdoOf c).transfer = none ∧ (t.sdoOf c).abort = 0 ∧
      (t.sdoOf c).answer = toBytes d.ty.size (({ s.sdoBegin c with reply := {} } : State).valueOf 0 (1 + c.val) i.toNat b.toNat) ∧
      (∀ e, e ≠ c.val → t.sdoOf e = s.sdoOf e) ∧ t.anon = (s.sdoBegin c).anon ∧ t.sessions = (s.sdoBegin c).sessions ∧
      t = { s with sdo := t.sdo, can := t.can, reply := t.reply, anon := t.anon, sessions := t.sessions } := by
  obtain ⟨reply, expedite⟩ := sdoExpedite_answers (s := s.sdoBegin c) (c := c) o b.isLt h0 hd access role ty
  have cores' : (s.sdoBegin c).coresRun = true := by
    rw [(sdoBegin_frame s c).1]
    exact cores
  have shows := sdoShows_sdoAnswer ({ s.sdoBegin c with reply := reply } : State) c 0
    (toBytes d.ty.size (({ s.sdoBegin c with reply := {} } : State).valueOf 0 (canPathNo c) i.toNat b.toNat))
  have serve : exec (.sdoExpeditedUpload c i b) s = .next ((s.sdoBegin c).sdoExpedite c (key i.toNat b.toNat)) := by
    show execSdoExpeditedUpload c i b s = _
    unfold execSdoExpeditedUpload
    simp only [runs, hd, o, short, decide_true, Bool.not_true, Bool.or_self, Bool.false_eq_true, if_false]
    unfold sdoServe
    rw [if_pos cores']
  rw [expedite] at serve
  obtain ⟨frame, others⟩ := sdoBegin_frame s c
  refine ⟨_, serve, by rw [shows.own], by rw [shows.own], by rw [shows.own]; rfl,
    fun e he => (shows.others e he).trans (others e he), (congrArg State.anon shows.frame).trans rfl,
    (congrArg State.sessions shows.frame).trans rfl, ?_⟩
  rw [shows.frame, frame]

/-! ## Segmented transfers -/

theorem segDownload_begins {c : Fin 8} {i : BitVec 16} {b : BitVec 8} {z : BitVec 32} {s : State} (runs : s.sdoRuns c = true)
    (size : z.toNat ≤ 65550) :
    ∃ t, exec (.sdoSegmentedDownload c (.initiate i b (some z))) s = .next t ∧ (t.sdoOf c).abort = 0 ∧
      (t.sdoOf c).transfer = some { service := .segDownload, key := key i.toNat b.toNat, size := some z.toNat, lastFrame := s.now } ∧
      (∀ e, e ≠ c.val → t.sdoOf e = s.sdoOf e) ∧ t.anon = (s.sdoBegin c).anon ∧ t.sessions = (s.sdoBegin c).sessions ∧
      t = { s with sdo := t.sdo, can := t.can, anon := t.anon, sessions := t.sessions } := by
  let r : SdoTransfer := { service := .segDownload, key := key i.toNat b.toNat, size := some z.toNat }
  have fits : sdoFits r z.toNat = true := by
    have top : z.toNat ≤ sdoTop + 14 := size
    exact Bool.and_eq_true_iff.mpr ⟨decide_eq_true top, decide_eq_true (Nat.le_refl z.toNat)⟩
  have begun : s.segDownload c (.initiate i b (some z)) = (s.sdoBegin c).sdoGoOn c r [] := if_pos fits
  have now : (s.sdoBegin c).now = s.now := by rw [(sdoBegin_frame s c).1]; rfl
  have shows := sdoShows_sdoGoOn (s.sdoBegin c) c r [] 1
  obtain ⟨others, anon, sessions, frame⟩ := shows.begins
  refine ⟨_, (whenever_of runs _ _).trans (congrArg _ begun), by rw [shows.own], ?_, others, anon, sessions, frame⟩
  rw [shows.own, now]

/-- A frame that moves a running transfer on. -/
theorem sdoGoOn_moves (s : State) (c : Nat) (r : SdoTransfer) (bytes : List Nat) (n : Nat) :
    ((s.sdoGoOn c r bytes n).sdoOf c).abort = 0 ∧ ((s.sdoGoOn c r bytes n).sdoOf c).answer = bytes ∧
      ((s.sdoGoOn c r bytes n).sdoOf c).transfer = some { r with lastFrame := s.now } ∧
      (∀ e, e ≠ c → (s.sdoGoOn c r bytes n).sdoOf e = s.sdoOf e) ∧
      s.sdoGoOn c r bytes n = { s with sdo := (s.sdoGoOn c r bytes n).sdo, can := (s.sdoGoOn c r bytes n).can } := by
  obtain ⟨own, others, frame⟩ := sdoShows_sdoGoOn s c r bytes n
  exact ⟨by rw [own], by rw [own], by rw [own], others, frame⟩

theorem segDownload_takes {c : Fin 8} {g : Bool} {data : List Byte} {s : State} {r : SdoTransfer} (runs : s.sdoRuns c = true)
    (running : (s.sdoOf c).transfer = some r) (service : r.service = .segDownload) (toggle : r.toggle = g)
    (len : data.length ≤ 7) (fits : sdoFits r (r.data.length + data.length) = true) :
    ∃ t, exec (.sdoSegmentedDownload c (.segment g false data)) s = .next t ∧ (t.sdoOf c).abort = 0 ∧
      (t.sdoOf c).transfer = some { r with data := r.data ++ data.map (fun a => a.toNat), toggle := !g, lastFrame := s.now } ∧
      (∀ e, e ≠ c.val → t.sdoOf e = s.sdoOf e) ∧ t = { s with sdo := t.sdo, can := t.can } := by
  have takes : s.segDownload c (.segment g false data) =
      s.sdoGoOn c { r with data := r.data ++ data.map (fun a => a.toNat), toggle := !g } [] := by
    unfold segDownload
    simp [running, service, toggle, len, fits]
  obtain ⟨abort, -, transfer, others, frame⟩ :=
    sdoGoOn_moves s c { r with data := r.data ++ data.map (fun a => a.toNat), toggle := !g } [] 1
  exact ⟨_, (whenever_of runs _ _).trans (congrArg _ takes), abort, transfer, others, frame⟩

theorem segUpload_sends {c : Fin 8} {g l : Bool} {data : List Byte} {s : State} {r : SdoTransfer} (runs : s.sdoRuns c = true)
    (running : (s.sdoOf c).transfer = some r) (service : r.service = .segUpload) (toggle : r.toggle = g)
    (more : 7 < r.data.length) :
    ∃ t, exec (.sdoSegmentedUpload c (.segment g l data)) s = .next t ∧ (t.sdoOf c).abort = 0 ∧
      (t.sdoOf c).answer = r.data.take 7 ∧
      (t.sdoOf c).transfer = some { r with data := r.data.drop 7, toggle := !g, lastFrame := s.now } ∧
      (∀ e, e ≠ c.val → t.sdoOf e = s.sdoOf e) ∧ t = { s with sdo := t.sdo, can := t.can } := by
  have sends : s.segUpload c (.segment g l data) =
      s.sdoGoOn c { r with data := r.data.drop 7, toggle := !g } (r.data.take 7) := by
    unfold segUpload
    simp [running, service, toggle, Nat.not_le.mpr more]
  exact ⟨_, (whenever_of runs _ _).trans (congrArg _ sends),
    sdoGoOn_moves s c { r with data := r.data.drop 7, toggle := !g } (r.data.take 7) 1⟩

/-! ## Block transfers -/

theorem blkDownload_takes {c : Fin 8} {q : BitVec 8} {data : List Byte} {s : State} {r : SdoTransfer}
    (runs : s.sdoRuns c = true) (running : (s.sdoOf c).transfer = some r) (service : r.service = .blkDownload)
    (open_ : r.toggle = false) (len : data.length ≤ 7) (next_ : q.toNat = r.seqno + 1) (inBlock : q.toNat < 127)
    (fits : sdoFits r (r.data.length + data.length) = true) :
    ∃ t, exec (.sdoBlockDownload c (.segment q false data)) s = .next t ∧ (t.sdoOf c).abort = 0 ∧
      (t.sdoOf c).transfer = some { r with data := r.data ++ data.map (fun a => a.toNat), seqno := q.toNat, lastFrame := s.now } ∧
      (∀ e, e ≠ c.val → t.sdoOf e = s.sdoOf e) ∧ t = { s with sdo := t.sdo, can := t.can } := by
  have takes : s.blkDownload c (.segment q false data) =
      s.sdoGoOn c { r with data := r.data ++ data.map (fun a => a.toNat), seqno := q.toNat } [] 0 := by
    unfold blkDownload
    simp [running, service, open_, len, fits, next_, Nat.not_le.mpr (next_ ▸ inBlock)]
  obtain ⟨abort, -, transfer, others, frame⟩ :=
    sdoGoOn_moves s c { r with data := r.data ++ data.map (fun a => a.toNat), seqno := q.toNat } [] 0
  exact ⟨_, (whenever_of runs _ _).trans (congrArg _ takes), abort, transfer, others, frame⟩

theorem blkUpload_acked {c : Fin 8} {q n : BitVec 8} {s : State} {r : SdoTransfer} (runs : s.sdoRuns c = true)
    (running : (s.sdoOf c).transfer = some r) (service : r.service = .blkUpload) (open_ : r.toggle = false)
    (sent : q.toNat ≤ r.seqno) (lo : 1 ≤ n.toNat) (hi : n.toNat ≤ 127) (more : 7 * q.toNat < r.data.length) :
    ∃ t, exec (.sdoBlockUpload c (.ack q n)) s = .next t ∧ (t.sdoOf c).abort = 0 ∧
      (t.sdoOf c).answer = (r.data.drop (7 * q.toNat)).take (7 * n.toNat) ∧
      (∃ u, (t.sdoOf c).transfer = some u ∧ u.data = r.data.drop (7 * q.toNat) ∧ u.blockSize = n.toNat ∧ u.lastFrame = s.now) ∧
      (∀ e, e ≠ c.val → t.sdoOf e = s.sdoOf e) ∧ t = { s with sdo := t.sdo, can := t.can } := by
  let rest := r.data.drop (7 * q.toNat)
  let k := min n.toNat (ceilDiv rest.length 7)
  have some_ : rest.isEmpty = false := by simpa [rest] using more
  have range : (n.toNat = 0 || decide (127 < n.toNat)) = false := by
    simp only [Bool.or_eq_false_iff, decide_eq_false_iff_not]
    omega
  have acks : s.blkUpload c (.ack q n) =
      s.sdoGoOn c { r with data := rest, blockSize := n.toNat, seqno := k } (rest.take (7 * n.toNat)) k := by
    unfold blkUpload nextBlock
    simp only [running, service, open_, range, some_, rest, k, Nat.not_lt.mpr sent]
    simp
  obtain ⟨abort, answer, transfer, others, frame⟩ :=
    sdoGoOn_moves s c { r with data := rest, blockSize := n.toNat, seqno := k } (rest.take (7 * n.toNat)) k
  exact ⟨_, (whenever_of runs _ _).trans (congrArg _ acks), abort, answer, ⟨_, transfer, rfl, rfl, rfl⟩, others, frame⟩

/-! ## Network indications and the timeout -/

theorem sdoNetworkIndication_answers {c : Fin 8} {s : State} (runs : s.sdoRuns c = true) :
    ∃ t, exec (.sdoNetworkIndication c) s = .next t ∧ (t.sdoOf c).abort = 0x05040001 ∧
      (t.sdoOf c).transfer = (s.sdoOf c).transfer ∧ (∀ e, e ≠ c.val → t.sdoOf e = s.sdoOf e) ∧
      t = { s with sdo := t.sdo, can := t.can } := by
  obtain ⟨own, others, frame⟩ := sdoShows_setSdo s c { s.sdoOf c with abort := Status.abortCode .protocolError, answer := [] } 1
  exact ⟨_, whenever_of runs _ _, by rw [own]; rfl, by rw [own], others, frame⟩

theorem sdoTransferTimeout_aborts {c : Fin 8} {s : State} {r : SdoTransfer} (running : (s.sdoOf c).transfer = some r)
    (late : s.passed r.lastFrame (sec 1) = true) :
    ∃ t, exec (.sdoTransferTimeout c) s = .next t ∧ (t.sdoOf c).abort = 0x05040000 ∧ (t.sdoOf c).transfer = none ∧
      (∀ e, e ≠ c.val → t.sdoOf e = s.sdoOf e) ∧ t = { s with sdo := t.sdo, can := t.can } := by
  obtain ⟨own, others, frame⟩ := sdoShows_sdoAnswer s c (Status.abortCode .transferTimeout) []
  refine ⟨s.sdoAbort c .transferTimeout, ?_, by rw [sdoAbort, own]; rfl, by rw [sdoAbort, own], others, frame⟩
  show execSdoTransferTimeout c s = _
  unfold execSdoTransferTimeout
  rw [running]
  exact whenever_of late _ _

end State

/-- Settles O13, clause by clause. -/
theorem sdoServersDoAsStated : Obligations.SdoServersDoAsStated := by
  refine ⟨fun _ _ _ _ _ runs => State.sdoExpeditedDownload_aborts runs, ?upload,
    fun _ _ _ _ _ runs size => State.segDownload_begins runs size, fun c s => State.sdoBegin_queues s c,
    fun _ _ _ _ _ runs running service toggle len fits => State.segDownload_takes runs running service toggle len fits,
    fun _ _ _ _ _ _ runs running service toggle more => State.segUpload_sends runs running service toggle more,
    fun _ _ _ _ _ runs running service open_ len next_ inBlock fits =>
      State.blkDownload_takes runs running service open_ len next_ inBlock fits,
    fun _ _ _ _ _ runs running service open_ sent lo hi more =>
      State.blkUpload_acked runs running service open_ sent lo hi more,
    fun _ _ runs => State.sdoNetworkIndication_answers runs, fun _ _ _ running late => State.sdoTransferTimeout_aborts running late⟩
  case upload =>
    intro c i b d s runs cores lo hi h0 hd short access role ty
    exact State.sdoExpeditedUpload_answers runs cores (by simp [State.openIndex, lo, hi]) h0 hd short access role ty

end Sys2Proof.Machine

/-!
Process images (R58–R61).
-/

namespace Sys2Proof.Machine
namespace State

theorem mapOf_setMap_same (s : State) (m : Nat) (x : PiMap) : (s.setMap m x).mapOf m = x := Table.read_write_same ..

theorem bit_setBit_same (s : State) (k i : Nat) (b : Bool) : (s.setBit k i b).bit k i = b := by
  unfold bit
  rw [setBit_eq, ob_setOb_same, bitAt_setBitTo_same]

theorem piFrameCount_ne_piStatus (m : Nat) : Obj.piFrameCount m ≠ Obj.piStatus m := by
  unfold Obj.piFrameCount Obj.piStatus key
  omega
theorem piRejectCount_ne_piStatus (m : Nat) : Obj.piRejectCount m ≠ Obj.piStatus m := by
  unfold Obj.piRejectCount Obj.piStatus key
  omega
theorem txFrames_ne_piFrameCount (m : Nat) : Obj.txFrames ≠ Obj.piFrameCount m := by
  unfold Obj.piFrameCount Obj.txFrames key
  omega

/-- A failed authentication is counted and told, and moves no object and no map. -/
theorem authFailed_keeps (s : State) (h : Nat) : (s.authFailed h).obj = s.obj ∧ (s.authFailed h).maps = s.maps := by
  unfold authFailed
  extract_lets s1
  split
  · exact ⟨rfl, rfl⟩
  · dsimp only
    split_ifs <;> exact ⟨rfl, rfl⟩

/-! ## RX maps -/

/-- The state after a frame that an RX map has found authentic. -/
def mapHeard (s : State) (m fresh : Nat) (y : Session) : State :=
  (s.setMap m { s.mapOf m with rxFresh := fresh }).setSession { y with last := s.now }

/-- The state after a frame that an RX map takes, with its values `v` waiting for the next sweep boundary. -/
def mapTaken (s : State) (m fresh v : Nat) (y : Session) : State :=
  (((s.mapHeard m fresh y).setMap m { (s.mapHeard m fresh y).mapOf m with last := s.now, waiting := some v }).bump
    (Obj.piFrameCount m)).setBit (Obj.piStatus m) 6 false

theorem mapOf_mapHeard (s : State) (m fresh : Nat) (y : Session) :
    (s.mapHeard m fresh y).mapOf m = { s.mapOf m with rxFresh := fresh } := mapOf_setMap_same s m _

theorem mapOf_mapTaken (s : State) (m fresh v : Nat) (y : Session) : (s.mapTaken m fresh v y).mapOf m =
    { s.mapOf m with rxFresh := fresh, last := s.now, waiting := some v } :=
  (mapOf_setMap_same (s.mapHeard m fresh y) m _).trans
    (congrArg (fun x : PiMap => { x with last := s.now, waiting := some v }) (mapOf_mapHeard s m fresh y))

/-- Counting an object and writing a bit of another moves nothing but objects. -/
theorem bump_setBit_frame (s : State) (k l i : Nat) (b : Bool) :
    (s.bump k).setBit l i b = { s with obj := ((s.bump k).setBit l i b).obj } := rfl

theorem objectsBut_bump_setBit (s : State) (k l i : Nat) (b : Bool) :
    s.ObjectsBut ((s.bump k).setBit l i b) [k, l] :=
  objectsBut_setBit (objectsBut_setOb (objectsBut_refl s _) List.mem_cons_self _)
    (List.mem_cons_of_mem _ List.mem_cons_self) i b

theorem mapTaken_frame (s : State) (m fresh v : Nat) (y : Session) : s.mapTaken m fresh v y =
    { s with obj := (s.mapTaken m fresh v y).obj, maps := (s.mapTaken m fresh v y).maps
             sessions := (s.setSession { y with last := s.now }).sessions } := by
  unfold mapTaken
  rw [bump_setBit_frame]
  rfl

theorem objectsBut_mapTaken (s : State) (m fresh v : Nat) (y : Session) :
    s.ObjectsBut (s.mapTaken m fresh v y) [Obj.piFrameCount m, Obj.piStatus m] := by
  unfold mapTaken
  exact fun k hk => objectsBut_bump_setBit _ _ _ _ _ k hk

theorem frameCount_mapTaken (s : State) (m fresh v : Nat) (y : Session) :
    (s.mapTaken m fresh v y).ob (Obj.piFrameCount m) = (s.ob (Obj.piFrameCount m) + 1) % 2 ^ 32 := by
  unfold mapTaken
  rw [setBit_eq, ob_setOb_other _ _ (piFrameCount_ne_piStatus m).symm, bump_eq, ob_setOb_same]
  rfl

theorem sweepsRun_setOb {s : State} {k : Nat} (v : Nat) (other : k ≠ Obj.engineState) :
    (s.setOb k v).sweepsRun = s.sweepsRun := by
  unfold sweepsRun
  rw [ob_setOb_other _ _ other]
  rfl

theorem sweepsRun_mapTaken (s : State) (m fresh v : Nat) (y : Session) (small : m < 64) :
    (s.mapTaken m fresh v y).sweepsRun = s.sweepsRun := by
  have count : Obj.piFrameCount m ≠ Obj.engineState := by
    unfold Obj.piFrameCount Obj.engineState key
    omega
  have status : Obj.piStatus m ≠ Obj.engineState := by
    unfold Obj.piStatus Obj.engineState key
    omega
  unfold mapTaken
  rw [setBit_eq, sweepsRun_setOb _ status, bump_eq, sweepsRun_setOb _ count]
  rfl

theorem mapReceive_takes {m fresh : Nat} {data mac : List Nat} {s : State} {y : Session} (small : m < 64)
    (path : s.cf (Obj.piPath m) = 0)
    (sweeps : s.sweepsRun = true) (on : s.pathOn 0 = true) (bound : s.session? (s.ob (Obj.piSession m)) = some y)
    (newer : (s.mapOf m).rxFresh < fresh)
    (auth : mac = toBytes 16 (Config.cmac y.key (s.mapMacInput 1 m y.handle fresh data)).toNat)
    (len : data.length = 10 + ceilDiv (s.mapBits m) 8) (header : data.take 2 = [m, 0])
    (padding : ofBytes (data.drop 10) / 2 ^ s.mapBits m = 0) :
    s.mapReceive m y.handle fresh data mac = s.mapTaken m fresh (ofBytes (data.drop 10)) y := by
  have body : (data.drop 10).length = ceilDiv (s.mapBits m) 8 := by rw [List.length_drop, len]; omega
  unfold mapReceive
  extract_lets x path' body' v short s1
  have hbody : body' = data.drop 10 := if_pos path
  have hv : v = ofBytes (data.drop 10) := congrArg ofBytes hbody
  have whole : (short || decide (v / 2 ^ s1.mapBits m ≠ 0)) = false := by
    have bits : s1.mapBits m = s.mapBits m := rfl
    simp only [short, hbody, body, header, bits, hv, padding, lt_irrefl, decide_false, ne_eq, not_true, Bool.and_false,
      Bool.or_self]
  have valid : (decide (path' = 0) && decide (y.handle ≠ y.handle) || !s.pathOn path' || decide (fresh ≤ x.rxFresh) ||
      decide (mac ≠ if path' = 0 then toBytes 16 (Config.cmac y.key (s.mapMacInput 1 m y.handle fresh data)).toNat
        else (toBytes 16 (Config.cmac y.key (s.mapMacInput 1 m y.handle fresh data)).toNat).take 8)) = false := by
    have path0 : path' = 0 := path
    have old : ¬ fresh ≤ x.rxFresh := Nat.not_le.mpr newer
    simp [path0, on, old, auth]
  have runs : (s.mapTaken m fresh v y).sweepsRun = true := by rw [sweepsRun_mapTaken _ _ _ _ _ small, sweeps]
  rw [bound]
  dsimp only
  rw [if_neg (Bool.eq_false_iff.mp valid), if_neg (Bool.eq_false_iff.mp whole), ← hv]
  exact if_pos runs

theorem piRxFrame_takes {m : Fin 64} {fresh : BitVec 32} {data : List Byte} {mac : BitVec 128} {s : State} {y : Session}
    (runs : s.mapRuns m 0 = true) (serves : s.halyardServes = true) (path : s.cf (Obj.piPath m) = 0)
    (sweeps : s.sweepsRun = true) (on : s.pathOn 0 = true) (bound : s.session? (s.ob (Obj.piSession m)) = some y)
    (newer : (s.mapOf m).rxFresh < fresh.toNat)
    (auth : toBytes 16 mac.toNat =
      toBytes 16 (Config.cmac y.key (s.mapMacInput 1 m y.handle fresh.toNat (data.map (fun a => a.toNat)))).toNat)
    (len : data.length = 10 + ceilDiv (s.mapBits m) 8) (header : (data.map (fun a => a.toNat)).take 2 = [m.val, 0])
    (padding : ofBytes ((data.map (fun a => a.toNat)).drop 10) / 2 ^ s.mapBits m = 0) :
    ∃ t, exec (.piRxFrame m y.handle fresh data mac) s = .next t ∧
      t.mapOf m = { s.mapOf m with
        rxFresh := fresh.toNat, last := s.now, waiting := some (ofBytes ((data.map (fun a => a.toNat)).drop 10)) } ∧
      t.ob (Obj.piFrameCount m) = (s.ob (Obj.piFrameCount m) + 1) % 2 ^ 32 ∧ t.bit (Obj.piStatus m) 6 = false ∧
      t.sessions = (s.setSession { y with last := s.now }).sessions ∧
      t = { s with obj := t.obj, maps := t.maps, sessions := t.sessions } ∧
      s.ObjectsBut t [Obj.piFrameCount m, Obj.piStatus m] := by
  let v := ofBytes ((data.map (fun a => a.toNat)).drop 10)
  have takes := mapReceive_takes m.isLt path sweeps on bound newer auth (by rw [List.length_map]; exact len) header padding
  have exec_eq : exec (.piRxFrame m y.handle fresh data mac) s = .next (s.mapTaken m fresh.toNat v y) := by
    show execPiRxFrame m y.handle fresh data mac s = _
    unfold execPiRxFrame
    simp only [path, if_true, runs, serves, Bool.and_self]
    exact (whenever_of rfl _ _).trans (congrArg _ takes)
  have frame := s.mapTaken_frame m fresh.toNat v y
  have sessions : (s.mapTaken m fresh.toNat v y).sessions = (s.setSession { y with last := s.now }).sessions := rfl
  refine ⟨_, exec_eq, mapOf_mapTaken .., frameCount_mapTaken .., bit_setBit_same .., sessions, ?_,
    objectsBut_mapTaken s m fresh.toNat v y⟩
  rw [sessions]
  exact frame

/-- A frame that fails its authentication is counted, and no value changes. -/
theorem mapRejects_auth (s : State) (m : Nat) :
    (s.mapRejects m true).ob (Obj.piRejectCount m) = (s.ob (Obj.piRejectCount m) + 1) % 2 ^ 32 ∧
      (s.mapRejects m true).bit (Obj.piStatus m) 5 = true ∧ (s.mapRejects m true).maps = s.maps ∧
      s.ObjectsBut (s.mapRejects m true) [Obj.piRejectCount m, Obj.piStatus m] := by
  let t := (s.bump (Obj.piRejectCount m)).setBit (Obj.piStatus m) 5 true
  have after : s.mapRejects m true = t.authFailed ((s.bump (Obj.piRejectCount m)).ob (Obj.piSession m)) := rfl
  obtain ⟨obj, maps⟩ := authFailed_keeps t ((s.bump (Obj.piRejectCount m)).ob (Obj.piSession m))
  have obs : ∀ k, (s.mapRejects m true).ob k = t.ob k := fun k => by
    rw [after]
    exact congrArg (fun o : Regs => o.read (objDefault k) k) obj
  refine ⟨(obs _).trans ?_, ?_, (congrArg State.maps after).trans maps, fun k hk => (obs k).trans ?_⟩
  · exact ob_setOb_other _ _ (piRejectCount_ne_piStatus m).symm |>.trans (ob_setOb_same ..)
  · unfold bit
    rw [obs]
    exact bit_setBit_same ..
  · exact objectsBut_setBit (objectsBut_setOb (objectsBut_refl s _) List.mem_cons_self _)
      (List.mem_cons_of_mem _ List.mem_cons_self) 5 true k hk

theorem piRxFrame_rejects {m : Fin 64} {sess : Nat} {fresh : BitVec 32} {data : List Byte} {mac : BitVec 128} {s : State}
    {y : Session} (runs : s.mapRuns m 0 = true) (serves : s.halyardServes = true) (path : s.cf (Obj.piPath m) = 0)
    (bound : s.session? (s.ob (Obj.piSession m)) = some y) (old : fresh.toNat ≤ (s.mapOf m).rxFresh) :
    ∃ t, exec (.piRxFrame m sess fresh data mac) s = .next t ∧
      t.ob (Obj.piRejectCount m) = (s.ob (Obj.piRejectCount m) + 1) % 2 ^ 32 ∧ t.bit (Obj.piStatus m) 5 = true ∧
      t.maps = s.maps ∧ s.ObjectsBut t [Obj.piRejectCount m, Obj.piStatus m] := by
  refine ⟨s.mapRejects m true, ?_, mapRejects_auth s m⟩
  show execPiRxFrame m sess fresh data mac s = _
  unfold execPiRxFrame
  simp only [path, if_true, runs, serves, Bool.and_self]
  refine (whenever_of rfl _ _).trans (congrArg _ ?_)
  unfold mapReceive
  simp [bound, old]

/-! ## TX maps -/

/-- The state in which a frame waits alone for the halyard. -/
def halWaits (s : State) (f : HalFrame) : State := { s with hal := { s.hal with txQueue := [f] } }

/-- With nothing waiting, a frame goes out where the halyard lets it, else it waits alone. -/
theorem halSend_alone {s : State} {f : HalFrame} (talks : s.halyardTalks = true) (empty : s.hal.txQueue = []) :
    s.halSend f = if s.halMay f then s.halSent f else s.halWaits f := by
  have kept : (if replacesUse f.use then s.hal.txQueue.filter (fun g => g.use ≠ f.use) else s.hal.txQueue) = [] := by
    simp [empty]
  have back : { s with hal := { s.hal with txQueue := [] } } = s :=
    congrArg (fun h => { s with hal := h }) (congrArg (fun q => { s.hal with txQueue := q }) empty.symm)
  have drained : (s.halWaits f).halDrain = if s.halMay f then s.halSent f else
      { s with hal := { s.hal with txQueue := s.hal.txQueue ++ [f] } } :=
    congrArg (fun t : State => if t.halMay f then t.halSent f else
      { t with hal := { t.hal with txQueue := t.hal.txQueue ++ [f] } }) back
  rw [empty] at drained
  unfold halSend
  simp only [talks, Bool.not_true, Bool.false_eq_true, if_false, kept]
  exact drained

/-- The state after a TX map's sample has been taken for a frame. -/
def mapSampled (s : State) (m : Nat) : State :=
  s.setMap m { s.mapOf m with last := s.now, txLast := s.mapSample m, txFresh := (s.mapOf m).txFresh + 1 }

theorem mapTx_sends {s : State} {m : Nat} (auth : s.cf (Obj.piAuth m) = 0) (path : s.cf (Obj.piPath m) = 0)
    (room : (s.mapOf m).txFresh + 1 < 2 ^ 32) (empty : s.hal.txQueue = []) (talks : s.halyardTalks = true) :
    s.mapTx m = if s.halMay (s.mapHalFrame m (s.mapSample m) ((s.mapOf m).txFresh + 1)) then
      (s.mapSampled m).halSent (s.mapHalFrame m (s.mapSample m) ((s.mapOf m).txFresh + 1))
    else (s.mapSampled m).halWaits (s.mapHalFrame m (s.mapSample m) ((s.mapOf m).txFresh + 1)) := by
  unfold mapTx
  simp only [auth, zero_ne_one, if_false, Nat.not_le.mpr room]
  unfold mapSend
  simp only [path, if_true]
  have alone : (s.mapSampled m).hal.txQueue = [] := empty
  have noneWaits : (s.mapSampled m).hal.txQueue.any (fun f => f.use = .map (Fin.ofNat 64 m)) = false := by rw [alone]; rfl
  have send := halSend_alone (s := s.mapSampled m)
    (f := (s.mapSampled m).mapHalFrame m (s.mapSample m) ((s.mapOf m).txFresh + 1)) talks alone
  unfold mapSampled at send noneWaits ⊢
  simp only [noneWaits, Bool.false_eq_true, if_false]
  exact send

/-- The state in which a frame has gone out and weighs on the halyard's load, before it is counted. -/
def halShows (s : State) (f : HalFrame) : State :=
  { s with hal := { s.hal with
      txSent := some f
      txLoad := s.recentLoad ++ [{ at_ := s.now, bits := wireBits f.body.length, shared := sharedUse f.use }] } }

theorem halSent_eq_bump {s : State} {f : HalFrame} {m : Fin 64} (use : f.use = .map m) :
    s.halSent f = ((s.halShows f).bump Obj.txFrames).bump (Obj.piFrameCount m) := by
  unfold halSent halShows
  rw [use]

/-- A map's frame that has gone out is counted for its map and among the frames sent, and nothing waits more than before. -/
theorem halSent_map {s : State} {f : HalFrame} {m : Fin 64} (use : f.use = .map m) :
    (s.halSent f).hal.txSent = some f ∧ (s.halSent f).hal.txQueue = s.hal.txQueue ∧ (s.halSent f).maps = s.maps ∧
      s.halSent f = { s with obj := (s.halSent f).obj, hal := (s.halSent f).hal } ∧
      (s.halSent f).ob (Obj.piFrameCount m) = (s.ob (Obj.piFrameCount m) + 1) % 2 ^ 32 ∧
      (s.halSent f).ob Obj.txFrames = (s.ob Obj.txFrames + 1) % 2 ^ 32 ∧
      s.ObjectsBut (s.halSent f) [Obj.piFrameCount m, Obj.txFrames] := by
  have other := txFrames_ne_piFrameCount m
  have same : ∀ k, (s.halShows f).ob k = s.ob k := fun _ => rfl
  have frame : s.halShows f = { s with hal := (s.halShows f).hal } := rfl
  have sent : (s.halShows f).hal.txSent = some f := rfl
  have queue : (s.halShows f).hal.txQueue = s.hal.txQueue := rfl
  have maps : (s.halShows f).maps = s.maps := rfl
  rw [halSent_eq_bump use]
  generalize s.halShows f = u at *
  refine ⟨sent, queue, maps, ?_, ?_, ?_, ?_⟩
  · exact congrArg (fun t : State => { t with obj := ((u.bump Obj.txFrames).bump (Obj.piFrameCount m)).obj }) frame
  · rw [bump_eq, ob_setOb_same, bump_eq, ob_setOb_other _ _ other, same]
  · rw [bump_eq (u.bump _), ob_setOb_other _ _ other.symm, bump_eq, ob_setOb_same, same]
  · exact objectsBut_setOb (objectsBut_setOb (fun k _ => same k) (List.mem_cons_of_mem _ List.mem_cons_self) _)
      List.mem_cons_self _

theorem piTxPeriod_samples {m : Fin 64} {s : State} (runs : s.mapRuns m 1 = true)
    (boundary : (!s.sweepsRun || s.eng.segment = 0) = true) (due : s.mapDue m = true) (auth : s.cf (Obj.piAuth m) = 0)
    (path : s.cf (Obj.piPath m) = 0) (room : (s.mapOf m).txFresh + 1 < 2 ^ 32) (empty : s.hal.txQueue = [])
    (talks : s.halyardTalks = true) :
    let f := s.mapHalFrame m (s.mapSample m) ((s.mapOf m).txFresh + 1)
    ∃ t, exec (.piTxPeriod m) s = .next t ∧
      t.mapOf m = { s.mapOf m with last := s.now, txLast := s.mapSample m, txFresh := (s.mapOf m).txFresh + 1 } ∧
      t = { s with obj := t.obj, maps := t.maps, hal := t.hal } ∧
      (s.halMay f = true → t.hal.txSent = some f ∧ t.hal.txQueue = [] ∧
        t.ob (Obj.piFrameCount m) = (s.ob (Obj.piFrameCount m) + 1) % 2 ^ 32 ∧
        t.ob Obj.txFrames = (s.ob Obj.txFrames + 1) % 2 ^ 32 ∧ s.ObjectsBut t [Obj.piFrameCount m, Obj.txFrames]) ∧
      (s.halMay f = false → t.hal = { s.hal with txQueue := [f] } ∧ t.obj = s.obj) := by
  intro f
  have use : f.use = .map m := congrArg HalUse.map (Fin.ext (Nat.mod_eq_of_lt m.isLt))
  have exec_eq : exec (.piTxPeriod m) s =
      .next (if s.halMay f then (s.mapSampled m).halSent f else (s.mapSampled m).halWaits f) :=
    (whenever_of (by rw [runs, boundary, due]; rfl) _ _).trans
      (congrArg _ (mapTx_sends auth path room empty talks))
  have sampled : (s.mapSampled m).mapOf m =
    { s.mapOf m with last := s.now, txLast := s.mapSample m, txFresh := (s.mapOf m).txFresh + 1 } := mapOf_setMap_same s m _
  have frame : s.mapSampled m = { s with maps := (s.mapSampled m).maps } := rfl
  have obj : (s.mapSampled m).obj = s.obj := rfl
  have hal : (s.mapSampled m).hal = s.hal := rfl
  refine ⟨_, exec_eq, ?_⟩
  clear exec_eq
  clear_value f
  generalize s.mapSampled m = u at *
  by_cases may : s.halMay f = true
  · obtain ⟨sent, queue, maps, sentFrame, count, frames, others⟩ := halSent_map (s := u) use
    have same : ∀ k, u.ob k = s.ob k := fun k => congrArg (fun o : Regs => o.read (objDefault k) k) obj
    rw [if_pos may]
    refine ⟨(congrArg (fun x => x.read {} m.val) maps).trans sampled, ?_, fun _ => ⟨sent, ?_, ?_, ?_, ?_⟩, fun no => ?_⟩
    · rw [maps]
      exact sentFrame.trans (congrArg (fun t : State => { t with obj := (u.halSent f).obj, hal := (u.halSent f).hal }) frame)
    · rw [queue, hal, empty]
    · rw [count, same]
    · rw [frames, same]
    · exact fun k hk => (others k hk).trans (same k)
    · exact absurd (may.symm.trans no) (by decide)
  · rw [if_neg may]
    refine ⟨sampled, ?_, fun yes => absurd yes may, fun _ => ⟨?_, obj⟩⟩
    · exact congrArg (fun t : State => { t with obj := u.obj, hal := (u.halWaits f).hal }) frame
    · exact congrArg (fun h => { h with txQueue := [f] }) hal

/-! ## PI_TIMEOUT -/

theorem piRxTimeout_sets {m : Fin 64} {s : State} (runs : s.mapRuns m 0 = true) (timeout : s.cf (Obj.piTimeout m) ≠ 0)
    (silent : s.passed (max (s.mapOf m).last s.boot.appliedAt) (ms (s.cf (Obj.piTimeout m))) = true) :
    ∃ t, exec (.piRxTimeout m) s = .next t ∧ t.bit (Obj.piStatus m) 6 = true ∧ s.Only t [Obj.piStatus m] :=
  ⟨s.setBit (Obj.piStatus m) 6 true, whenever_of (by simp [runs, timeout, silent]) _ _, bit_setBit_same .., rfl,
    objectsBut_setBit (objectsBut_refl s _) List.mem_cons_self 6 true⟩

end State

open State in
/-- Settles O14, clause by clause. -/
theorem processImagesDoAsStated : Obligations.ProcessImagesDoAsStated := by
  refine ⟨?_, ?_, ?_, ?_⟩
  · intro m fresh data mac s y runs serves path sweeps on bound newer d auth len header padding
    exact piRxFrame_takes runs serves path sweeps on bound newer auth len header padding
  · intro m sess fresh data mac s y runs serves path bound old
    exact piRxFrame_rejects runs serves path bound old
  · intro m s runs boundary due auth path room empty talks
    exact piTxPeriod_samples runs boundary due auth path room empty talks
  · intro m s runs timeout silent
    exact piRxTimeout_sets runs timeout silent

end Sys2Proof.Machine

/-!
What sending on the halyard moves (R48, R63, R76): the halyard's own part of the state and the counters of frames.
-/

namespace Sys2Proof.Machine
namespace State

/-- A written object is the only thing changed. -/
theorem only_setOb (s : State) (k v : Nat) : s.Only (s.setOb k v) [k] :=
  ⟨rfl, objectsBut_setOb (objectsBut_refl s _) List.mem_cons_self v⟩

theorem ob_bump_other (s : State) {k j : Nat} (h : k ≠ j) : (s.bump k).ob j = s.ob j := ob_setOb_other s _ h

theorem partner_setPartner_same (s : State) (a : Nat) (p : Partner) : (s.setPartner a p).partner a = p :=
  Table.read_write_same ..
theorem partner_setPartner_other (s : State) {a b : Nat} (p : Partner) (h : a ≠ b) :
    (s.setPartner a p).partner b = s.partner b := Table.read_write_other _ _ _ _ h

/-- What a partner is known by stands in the halyard's part alone. -/
theorem partner_eq {s t : State} (h : t.hal.partners = s.hal.partners) (a : Nat) : t.partner a = s.partner a :=
  congrArg (fun p => p.read {} a) h

/-! ## Nothing but objects and the halyard's part -/

/-- `t` is `s` with nothing changed but objects and the halyard's part of the state. -/
def OnlyHal (s t : State) : Prop := t = { s with obj := t.obj, hal := t.hal }

theorem OnlyHal.refl (s : State) : s.OnlyHal s := rfl

theorem OnlyHal.trans {s t u : State} (h : s.OnlyHal t) (k : t.OnlyHal u) : s.OnlyHal u := by
  unfold OnlyHal at h k ⊢
  rw [k, h]

theorem OnlyHal.now {s t : State} (h : s.OnlyHal t) : t.now = s.now := by unfold OnlyHal at h; rw [h]; rfl
theorem OnlyHal.fab {s t : State} (h : s.OnlyHal t) : t.fab = s.fab := by unfold OnlyHal at h; rw [h]
theorem OnlyHal.cfg {s t : State} (h : s.OnlyHal t) : t.cfg = s.cfg := by unfold OnlyHal at h; rw [h]
theorem OnlyHal.arb {s t : State} (h : s.OnlyHal t) : t.arb = s.arb := by unfold OnlyHal at h; rw [h]

theorem onlyHal_setOb (s : State) (k v : Nat) : s.OnlyHal (s.setOb k v) := rfl
theorem onlyHal_setPartner (s : State) (a : Nat) (p : Partner) : s.OnlyHal (s.setPartner a p) := rfl

/-! ## What sending leaves of the registry -/

/-- `t` follows `s` by frames sent or queued: the partners are as they were, and below the process images only the count of frames
has moved among the objects. -/
structure Sends (s t : State) : Prop where
  frame : s.OnlyHal t
  partners : t.hal.partners = s.hal.partners
  objects : ∀ k, k < key 0x1800 0 → k ≠ Obj.txFrames → t.ob k = s.ob k

theorem Sends.refl (s : State) : s.Sends s := ⟨.refl s, rfl, fun _ _ _ => rfl⟩

theorem Sends.trans {s t u : State} (h : s.Sends t) (k : t.Sends u) : s.Sends u :=
  ⟨h.frame.trans k.frame, k.partners.trans h.partners, fun i low other => (k.objects i low other).trans (h.objects i low other)⟩

theorem Sends.partner {s t : State} (h : s.Sends t) (a : Nat) : t.partner a = s.partner a := partner_eq h.partners a

/-- A part of the halyard's state that holds no partner may change. -/
theorem sends_of_hal {s t : State} (frame : t = { s with hal := t.hal }) (partners : t.hal.partners = s.hal.partners) :
    s.Sends t := by
  have obj : t.obj = s.obj := by rw [frame]
  refine ⟨?_, partners, fun k _ _ => congrArg (fun o : Regs => o.read (objDefault k) k) obj⟩
  unfold OnlyHal
  rw [obj]
  exact frame

theorem sends_bump {s : State} {k : Nat} (counts : k = Obj.txFrames ∨ key 0x1800 0 ≤ k) : s.Sends (s.bump k) := by
  refine ⟨onlyHal_setOb .., rfl, fun j low other => ob_bump_other s ?_⟩
  rintro rfl
  exact counts.elim other (Nat.not_le.mpr low)

theorem sends_halSent (s : State) (f : HalFrame) : s.Sends (s.halSent f) := by
  have shown : s.Sends ((s.halShows f).bump Obj.txFrames) :=
    (sends_of_hal (t := s.halShows f) rfl rfl).trans (sends_bump (.inl rfl))
  unfold halShows at shown
  unfold halSent
  dsimp only
  split
  · refine shown.trans (sends_bump (.inr ?_))
    unfold Obj.piFrameCount key
    omega
  · exact shown

/-- Frames that go out where they may, and wait again where not. -/
theorem sends_drain (l : List HalFrame) (s : State) : s.Sends (forEach l (fun s f => if s.halMay f then s.halSent f
    else { s with hal := { s.hal with txQueue := s.hal.txQueue ++ [f] } }) s) := by
  unfold forEach
  induction l generalizing s with
  | nil => exact .refl s
  | cons f l ih =>
    refine Sends.trans ?_ (ih _)
    dsimp only
    split
    · exact sends_halSent s f
    · exact sends_of_hal rfl rfl

theorem sends_halDrain (s : State) : s.Sends s.halDrain :=
  (sends_of_hal (t := { s with hal := { s.hal with txQueue := [] } }) rfl rfl).trans (sends_drain _ _)

theorem sends_halSend (s : State) (f : HalFrame) : s.Sends (s.halSend f) := by
  unfold halSend
  split
  · exact .refl s
  · extract_lets q
    exact (sends_of_hal (t := { s with hal := { s.hal with txQueue := q ++ [f] } }) rfl rfl).trans (sends_halDrain _)

theorem sends_sendCapability (s : State) (type a : Nat) (content : List Nat) : s.Sends (s.sendCapability type a content) :=
  (sends_of_hal (t := s.chainCount) rfl rfl).trans (sends_halSend s.chainCount _)

/-! ## A frame sent with nothing waiting -/

/-- Whether a frame may go hangs on the load of the halyard, and on nothing else of its part. -/
theorem halMay_eq {s t : State} (frame : t = { s with hal := t.hal }) (load : t.hal.txLoad = s.hal.txLoad) (f : HalFrame) :
    t.halMay f = s.halMay f := by
  obtain ⟨h, rfl⟩ : ∃ h, t = { s with hal := h } := ⟨_, frame⟩
  unfold halMay recentLoad
  rw [load]
  rfl

/-- The state in which a frame that belongs to no map has gone out. -/
theorem halSent_eq {s : State} {f : HalFrame} (use : ∀ m, f.use ≠ .map m) :
    s.halSent f = (s.halShows f).bump Obj.txFrames := by
  unfold halSent halShows
  cases h : f.use with
  | map m => exact absurd h (use m)
  | _ => rfl

/-- A frame that belongs to no map has gone out: it is shown and counted, and it weighs on the halyard's load. -/
theorem halSent_plain {s : State} {f : HalFrame} (use : ∀ m, f.use ≠ .map m) :
    (s.halSent f).hal = { s.hal with txSent := some f, txLoad := (s.halSent f).hal.txLoad } ∧
      (s.halSent f).ob Obj.txFrames = (s.ob Obj.txFrames + 1) % 2 ^ 32 ∧ s.OnlyHal (s.halSent f) ∧
      s.ObjectsBut (s.halSent f) [Obj.txFrames] := by
  rw [halSent_eq use]
  exact ⟨rfl, ob_setOb_same .., rfl, fun k hk => objectsBut_setOb (objectsBut_refl _ _) List.mem_cons_self _ k hk⟩

/-- `t` follows `s` by frame `f` of no map, sent with nothing waiting: it has gone out, or it waits alone. -/
structure SendsAlone (s : State) (f : HalFrame) (t : State) : Prop where
  hal : t.hal = { s.hal with txQueue := t.hal.txQueue, txSent := t.hal.txSent, txLoad := t.hal.txLoad }
  frame : s.OnlyHal t
  objects : s.ObjectsBut t [Obj.txFrames]
  goes : s.halMay f = true →
    t.hal.txSent = some f ∧ t.hal.txQueue = [] ∧ t.ob Obj.txFrames = (s.ob Obj.txFrames + 1) % 2 ^ 32
  waits : s.halMay f = false → t.hal.txQueue = [f] ∧ t.obj = s.obj

theorem sendsAlone_halSend {s : State} {f : HalFrame} (talks : s.halyardTalks = true) (empty : s.hal.txQueue = [])
    (use : ∀ m, f.use ≠ .map m) : s.SendsAlone f (s.halSend f) := by
  rw [halSend_alone talks empty]
  by_cases may : s.halMay f = true
  · obtain ⟨hal, count, frame, objects⟩ := halSent_plain (s := s) use
    rw [if_pos may]
    generalize s.halSent f = t at *
    refine ⟨?_, frame, objects, fun _ => ⟨?_, ?_, count⟩, fun no => absurd (may.symm.trans no) (by decide)⟩
    all_goals rw [hal]
    exact empty
  · rw [if_neg may]
    exact ⟨rfl, rfl, objectsBut_refl s _, fun yes => absurd yes may, fun _ => ⟨rfl, rfl⟩⟩

/-- A capability frame of the unit, with the next counter value (R69, R72). -/
def capabilityFrame (s : State) (type a : Nat) (content : List Nat) : HalFrame :=
  let b := capabilityBytes type a (s.hal.chainCounter + 1) content
  s.chainFrame .capability (b ++ toBytes 8 (s.chainMac b))

/-- What a capability frame does that is sent with nothing waiting, whatever the halyard's part holds besides. -/
structure SendsCapability (s : State) (h : Halyard) (g : HalFrame) (t : State) : Prop where
  hal : t.hal = { h with
    chainCounter := s.hal.chainCounter + 1, chainStored := t.hal.chainStored
    txQueue := t.hal.txQueue, txSent := t.hal.txSent, txLoad := t.hal.txLoad }
  frame : s.OnlyHal t
  objects : s.ObjectsBut t [Obj.txFrames]
  goes : s.halMay g = true → t.hal.txSent = some g ∧ t.hal.txQueue = []
  waits : s.halMay g = false → t.hal.txQueue = [g]

theorem sendsCapability {s u : State} (differs : u = { s with hal := u.hal }) (talks : s.halyardTalks = true)
    (empty : u.hal.txQueue = []) (load : u.hal.txLoad = s.hal.txLoad) (counter : u.hal.chainCounter = s.hal.chainCounter)
    (type a : Nat) (content : List Nat) :
    s.SendsCapability u.hal (s.capabilityFrame type a content) (u.sendCapability type a content) := by
  obtain ⟨h, rfl⟩ : ∃ h, u = { s with hal := h } := ⟨_, differs⟩
  let u : State := { s with hal := h }
  have same : u.capabilityFrame type a content = s.capabilityFrame type a content := by
    unfold capabilityFrame
    rw [← counter]
    rfl
  have may : u.chainCount.halMay (s.capabilityFrame type a content) = s.halMay (s.capabilityFrame type a content) :=
    halMay_eq (s := s) (t := u.chainCount) rfl load _
  have sent : u.chainCount.SendsAlone (u.capabilityFrame type a content) (u.sendCapability type a content) :=
    sendsAlone_halSend talks empty nofun
  rw [same] at sent
  obtain ⟨hal, frame, objects, goes, waits⟩ := sent
  rw [may] at goes waits
  generalize u.sendCapability type a content = t at *
  refine ⟨hal.trans ?_, OnlyHal.trans (t := u.chainCount) rfl frame, objects, fun may => ?_, fun may => (waits may).1⟩
  · rw [hal, ← counter]
    rfl
  · obtain ⟨txSent, txQueue, -⟩ := goes may
    exact ⟨txSent, txQueue⟩

end State
end Sys2Proof.Machine

/-!
Halyard time (R73, R74): SYNC_STATE, and the path delay.
-/

namespace Sys2Proof.Machine
namespace State

/-! ## A Sync taken -/

/-- `u` follows `s` with a Sync of an interval noted, the `n`th good one in a row: SYNC_STATE has not moved yet. -/
structure NotesSync (s u : State) (every n : Nat) : Prop where
  state : u.ob Obj.syncState = s.ob Obj.syncState
  last : u.hal.lastSync = some s.now
  interval : u.hal.syncInterval = every
  good : u.hal.goodSyncs = n
  frame : s.OnlyHal u
  objects : s.ObjectsBut u [Obj.offset, Obj.rateRatio]

/-- The state in which a Sync `off` ns away from halyard time is noted. -/
def syncNoted (s : State) (off : Int) (every n : Nat) : State :=
  { s.setOb Obj.offset (wordOf 4 off) with
    hal := { s.hal with lastSync := some s.now, syncInterval := every, goodSyncs := n } }

/-- The state in which halyard time follows the host's timestamp, under a new rate ratio but for a first Sync. -/
def syncFollowed (s : State) (first : Bool) (ratio t host : Nat) : State :=
  let s := if first then s else s.setOb Obj.rateRatio ratio
  { s with hal := { s.hal with refTick := t, refNs := host } }

/-- SYNC_STATE moved from `st` by the `n`th good Sync in a row (R74). -/
def syncMoved (s : State) (st n : Nat) : State :=
  match st with
  | 0 => { s.setOb Obj.syncState 1 with hal := { s.hal with goodSyncs := 0 } }
  | 1 => if 8 ≤ n then (s.setOb Obj.syncState 2).post 1464 0 else s
  | 3 => (s.setOb Obj.syncState 2).post 1464 0
  | _ => s

theorem notesSync_syncNoted (s : State) (off : Int) (every n : Nat) : s.NotesSync (s.syncNoted off every n) every n where
  state := ob_setOb_other s _ (by decide)
  last := rfl
  interval := rfl
  good := rfl
  frame := rfl
  objects := fun k hk => objectsBut_setOb (objectsBut_refl s _) List.mem_cons_self _ k hk

theorem NotesSync.syncFollowed {s u : State} {every n : Nat} (h : s.NotesSync u every n) (first : Bool) (ratio t host : Nat) :
    s.NotesSync (u.syncFollowed first ratio t host) every n := by
  cases first with
  | true => exact { h with frame := h.frame.trans rfl }
  | false => exact
    { h with
      state := (ob_setOb_other u ratio (by decide)).trans h.state
      frame := h.frame.trans rfl
      objects := fun k hk => objectsBut_setOb h.objects (List.mem_cons_of_mem _ List.mem_cons_self) ratio k hk }

/-- How far the host's time lies from halyard time at a Sync that arrived at tick `t`. -/
def syncOffset (s : State) (t origin : Nat) : Int := ((origin + s.ob Obj.pathDelay : Nat) : Int) - s.htimeAt t

/-- A Sync within ±500 ns (R74). -/
def syncGood (s : State) (t origin : Nat) : Bool :=
  decide (-500 ≤ s.syncOffset t origin) && decide (s.syncOffset t origin ≤ 500)

theorem syncGood_iff (s : State) (t origin : Nat) :
    s.syncGood t origin = true ↔ -500 ≤ s.syncOffset t origin ∧ s.syncOffset t origin ≤ 500 := by
  unfold syncGood
  rw [Bool.and_eq_true, decide_eq_true_eq, decide_eq_true_eq]

/-- The good Syncs in a row with this one. -/
def goodRow (s : State) (t origin : Nat) : Nat := if s.syncGood t origin then s.hal.goodSyncs + 1 else 0

/-- In holdover a Sync that is not good is noted and nothing more (R74). -/
theorem syncTaken_held {s : State} {t origin every : Nat} (state : s.ob Obj.syncState = 3) (off : s.syncGood t origin = false) :
    s.syncTaken t origin every = s.syncNoted (s.syncOffset t origin) every (s.goodRow t origin) := by
  have held : (decide (s.ob Obj.syncState = 3) && !s.syncGood t origin) = true := by simp [state, off]
  unfold syncTaken
  exact if_pos held

/-- Another Sync is noted and followed, and moves SYNC_STATE. -/
theorem syncTaken_moves {s : State} (t origin every : Nat) (followed : s.ob Obj.syncState = 3 → s.syncGood t origin = true) :
    ∃ u, s.NotesSync u every (s.goodRow t origin) ∧
      s.syncTaken t origin every = u.syncMoved (s.ob Obj.syncState) (s.goodRow t origin) := by
  let host := origin + s.ob Obj.pathDelay
  let dt := t - s.hal.refTick
  let ratio := wordOf 4 (((host : Int) - s.hal.refNs - 10 * dt) * 1000000000 / (10 * dt))
  have moves : ¬ (decide (s.ob Obj.syncState = 3) && !s.syncGood t origin) = true := by simpa using followed
  refine ⟨_, (s.notesSync_syncNoted (s.syncOffset t origin) every _).syncFollowed
    (s.ob Obj.syncState = 0 || dt = 0) ratio t host, ?_⟩
  unfold syncTaken
  exact if_neg moves

/-- Where SYNC_STATE moves, nothing but it, the count of good Syncs and the events has changed besides. -/
theorem NotesSync.syncMoved_frame {s u : State} {every n : Nat} (h : s.NotesSync u every n) (st : Nat) :
    let t := u.syncMoved st n
    t.hal.syncInterval = every ∧ t.hal.lastSync = some s.now ∧ t = { s with obj := t.obj, hal := t.hal, fab := t.fab } ∧
      s.ObjectsBut t [Obj.offset, Obj.rateRatio, Obj.syncState] := by
  obtain ⟨-, last, interval, -, frame, objects⟩ := h
  have kept : s.ObjectsBut u [Obj.offset, Obj.rateRatio, Obj.syncState] := fun k hk =>
    objects k fun h => hk (List.mem_append_left [Obj.syncState] h)
  have written (v : Nat) : s.ObjectsBut (u.setOb Obj.syncState v) [Obj.offset, Obj.rateRatio, Obj.syncState] :=
    objectsBut_setOb kept (by decide) v
  have frame' (t : State) (e : t = { u with obj := t.obj, hal := t.hal, fab := t.fab }) :
      t = { s with obj := t.obj, hal := t.hal, fab := t.fab } :=
    e.trans (congrArg (fun v : State => { v with obj := t.obj, hal := t.hal, fab := t.fab }) frame)
  unfold syncMoved
  split
  · exact ⟨interval, last, frame' _ rfl, written 1⟩
  · split_ifs
    · exact ⟨interval, last, frame' _ rfl, written 2⟩
    · exact ⟨interval, last, frame' _ rfl, kept⟩
  · exact ⟨interval, last, frame' _ rfl, written 2⟩
  · exact ⟨interval, last, frame' _ rfl, kept⟩

/-- What every Sync taken notes, and what it leaves alone. -/
theorem syncTaken_notes (s : State) (t origin every : Nat) :
    let u := s.syncTaken t origin every
    u.hal.syncInterval = every ∧ u.hal.lastSync = some s.now ∧ u = { s with obj := u.obj, hal := u.hal, fab := u.fab } ∧
      s.ObjectsBut u [Obj.offset, Obj.rateRatio, Obj.syncState] := by
  by_cases followed : s.ob Obj.syncState = 3 → s.syncGood t origin = true
  · obtain ⟨u, notes, e⟩ := syncTaken_moves t origin every followed
    rw [e]
    exact notes.syncMoved_frame _
  · obtain ⟨state, off⟩ := Classical.not_imp.mp followed
    rw [syncTaken_held state (Bool.not_eq_true _ ▸ off)]
    exact ⟨rfl, rfl, rfl, objectsBut_setOb (objectsBut_refl s _) List.mem_cons_self _⟩

/-- The first Sync (R74). -/
theorem syncTaken_free {s : State} {t origin every : Nat} (state : s.ob Obj.syncState = 0) :
    (s.syncTaken t origin every).ob Obj.syncState = 1 ∧ (s.syncTaken t origin every).hal.goodSyncs = 0 := by
  obtain ⟨u, -, e⟩ := syncTaken_moves t origin every (s := s) (by simp [state])
  rw [e, state]
  exact ⟨ob_setOb_same u Obj.syncState 1, rfl⟩

/-- While locking every Sync is counted, or ends the row. -/
theorem syncTaken_locking_row {s : State} {t origin every : Nat} (state : s.ob Obj.syncState = 1) :
    (s.syncTaken t origin every).hal.goodSyncs = s.goodRow t origin := by
  obtain ⟨u, notes, e⟩ := syncTaken_moves t origin every (s := s) (by simp [state])
  rw [e, state]
  unfold syncMoved
  split_ifs
  · exact notes.good
  · exact notes.good

theorem syncTaken_locking_short {s : State} {t origin every : Nat} (state : s.ob Obj.syncState = 1)
    (short : s.goodRow t origin < 8) : (s.syncTaken t origin every).ob Obj.syncState = 1 := by
  obtain ⟨u, notes, e⟩ := syncTaken_moves t origin every (s := s) (by simp [state])
  rw [e, state]
  unfold syncMoved
  rw [if_neg (Nat.not_le.mpr short)]
  exact notes.state.trans state

/-- Reaching locked is told (R74). -/
theorem locked_told {s u : State} {every n : Nat} (notes : s.NotesSync u every n) :
    ((u.setOb Obj.syncState 2).post 1464 0).ob Obj.syncState = 2 ∧
      ⟨s.now, 1464, 0⟩ ∈ ((u.setOb Obj.syncState 2).post 1464 0).fab.inFlight := by
  have now : (u.setOb Obj.syncState 2).now = s.now := (now_setOb u _ 2).trans notes.frame.now
  exact ⟨ob_setOb_same u Obj.syncState 2, now ▸ mem_of_raised (raised_post _ 1464 0) (by decide)⟩

theorem syncTaken_locks {s : State} {t origin every : Nat} (state : s.ob Obj.syncState = 1) (row : 8 ≤ s.goodRow t origin) :
    (s.syncTaken t origin every).ob Obj.syncState = 2 ∧
      ⟨s.now, 1464, 0⟩ ∈ (s.syncTaken t origin every).fab.inFlight := by
  obtain ⟨u, notes, e⟩ := syncTaken_moves t origin every (s := s) (by simp [state])
  rw [e, state]
  unfold syncMoved
  rw [if_pos row]
  exact locked_told notes

theorem syncTaken_locked {s : State} {t origin every : Nat} (state : s.ob Obj.syncState = 2) :
    (s.syncTaken t origin every).ob Obj.syncState = 2 := by
  obtain ⟨u, notes, e⟩ := syncTaken_moves t origin every (s := s) (by simp [state])
  rw [e, state]
  exact notes.state.trans state

theorem syncTaken_relocks {s : State} {t origin every : Nat} (state : s.ob Obj.syncState = 3)
    (good : s.syncGood t origin = true) :
    (s.syncTaken t origin every).ob Obj.syncState = 2 ∧
      ⟨s.now, 1464, 0⟩ ∈ (s.syncTaken t origin every).fab.inFlight := by
  obtain ⟨u, notes, e⟩ := syncTaken_moves t origin every (s := s) fun _ => good
  rw [e, state]
  exact locked_told notes

theorem syncTaken_holdover {s : State} {t origin every : Nat} (state : s.ob Obj.syncState = 3)
    (off : s.syncGood t origin = false) : (s.syncTaken t origin every).ob Obj.syncState = 3 ∧
      (s.syncTaken t origin every).ob Obj.rateRatio = s.ob Obj.rateRatio := by
  rw [syncTaken_held state off]
  exact ⟨(ob_setOb_other s _ (by decide)).trans state, ob_setOb_other s _ (by decide)⟩

/-- A Sync of an interval from −5 to 0 is taken; another is not (R73). -/
theorem exec_syncReceive {rx origin : BitVec 64} {l : BitVec 8} {s : State} (runs : s.syncRuns = true) (past : rx.toNat ≤ s.now)
    (above : -5 ≤ l.toInt) (below : l.toInt ≤ 0) :
    exec (.syncReceive rx ⟨origin, l⟩) s = .next (s.syncTaken rx.toNat origin.toNat (sec 1 / 2 ^ (-l.toInt).toNat)) :=
  whenever_of (by simp [runs, past, above, below]) _ _

theorem exec_syncReceive_ignored {rx origin : BitVec 64} {l : BitVec 8} {s : State} (out : l.toInt < -5 ∨ 0 < l.toInt) :
    exec (.syncReceive rx ⟨origin, l⟩) s = .next s := by
  have ignored : (decide (-5 ≤ l.toInt) && decide (l.toInt ≤ 0)) = false := by
    rw [Bool.and_eq_false_iff, decide_eq_false_iff_not, decide_eq_false_iff_not]
    omega
  exact whenever_not (by rw [Bool.and_assoc, ignored, Bool.and_false]) _ _

/-! ## No Sync -/

theorem exec_syncMissed {l : Tick} {s : State} (last : s.hal.lastSync = some l) (state : s.ob Obj.syncState = 2)
    (late : s.passed l (3 * s.hal.syncInterval) = true) : exec .syncMissed s = .next (s.setOb Obj.syncState 3) := by
  show execSyncMissed s = _
  unfold execSyncMissed
  rw [last]
  exact whenever_of (by simp [state, late]) _ _

/-- The state in which halyard time runs free again. -/
def syncFree (s : State) : State :=
  (({ s with hal := { s.hal with lastSync := none, goodSyncs := 0 } }).setOb Obj.syncState 0).post 1465 0

theorem exec_holdoverExpiry {l : Tick} {s : State} (last : s.hal.lastSync = some l) (state : s.ob Obj.syncState = 3)
    (late : s.passed l (ms (s.cf Obj.holdoverLimit)) = true) : exec .holdoverExpiry s = .next s.syncFree := by
  show execHoldoverExpiry s = _
  unfold execHoldoverExpiry
  rw [last]
  exact whenever_of (by simp [state, late]) _ _

/-! ## Path delay (R73) -/

/-- The frame of a Pdelay_Req at this instant. -/
def pdelayReq (s : State) : HalFrame :=
  { use := .time, dest := State.toTime, source := s.unitMac, etherType := 0x88F7
    body := toBytes 54 (Config.unmeasured 0x88F7 s.now) }

theorem exec_pdelayReqSend {s : State} (runs : s.syncRuns = true) (may : s.halMay s.pdelayReq = true)
    (due : ∀ t, s.hal.pdelaySent = some t → s.passed t (ms (s.cf Obj.pdelayInterval)) = true) :
    exec .pdelayReqSend s = .next (({ s with hal := { s.hal with pdelaySent := some s.now } }).halSent s.pdelayReq) := by
  refine whenever_of ?_ _ _
  rw [Bool.and_eq_true, Bool.and_eq_true]
  refine ⟨⟨runs, may⟩, ?_⟩
  split
  · exact due _ ‹_›
  · rfl

theorem exec_pdelayRespReceive {received sent arrived : BitVec 64} {t : Tick} {s : State} (runs : s.syncRuns = true)
    (asked : s.hal.pdelaySent = some t) : exec (.pdelayRespReceive received sent arrived) s =
      .next (s.setOb Obj.pathDelay ((10 * (arrived.toNat - t) - (sent.toNat - received.toNat)) / 2 % 2 ^ 32)) := by
  show execPdelayRespReceive received sent arrived s = _
  unfold execPdelayRespReceive
  rw [asked]
  exact whenever_of runs _ _

end State

open State in
/-- Settles O16: a Sync row by row of the table, then the two ways in which Syncs fail to come. -/
theorem syncStateMovesAsTheTableSays : Obligations.SyncStateMovesAsTheTableSays := by
  refine ⟨?_, ?_, ?_, ?_⟩
  · intro rx origin l s out
    exact exec_syncReceive_ignored out
  · intro rx origin l s runs past above below off good
    have isGood : s.syncGood rx.toNat origin.toNat = true ↔ good := s.syncGood_iff rx.toNat origin.toNat
    have row (h : good) : s.goodRow rx.toNat origin.toNat = s.hal.goodSyncs + 1 := if_pos (isGood.mpr h)
    have bad (h : ¬good) : s.syncGood rx.toNat origin.toNat = false := Bool.eq_false_iff.mpr (mt isGood.mp h)
    have noRow (h : ¬good) : s.goodRow rx.toNat origin.toNat = 0 := if_neg (mt isGood.mp h)
    obtain ⟨interval, last, frame, objects⟩ :=
      s.syncTaken_notes rx.toNat origin.toNat (sec 1 / 2 ^ (-l.toInt).toNat)
    refine ⟨_, exec_syncReceive runs past above below, interval, syncTaken_free, ?_, ?_, ?_, ?_, syncTaken_locked, ?_, ?_,
      last, frame, objects⟩
    · exact fun state h => (syncTaken_locking_row state).trans (row h)
    · exact fun state h => ⟨(syncTaken_locking_row state).trans (noRow h), syncTaken_locking_short state (by omega)⟩
    · exact fun state h few => syncTaken_locking_short state (by omega)
    · exact fun state h enough => syncTaken_locks state (by omega)
    · exact fun state h => syncTaken_relocks state (isGood.mpr h)
    · exact fun state h => syncTaken_holdover state (bad h)
  · intro l s last state late
    exact ⟨_, exec_syncMissed last state late, ob_setOb_same .., ob_setOb_other s 3 (by decide), only_setOb s _ _⟩
  · intro l s last state late
    exact ⟨_, exec_holdoverExpiry last state late, ob_setOb_same _ Obj.syncState 0, rfl, rfl,
      objectsBut_setOb (objectsBut_refl s _) List.mem_cons_self 0⟩

open State in
/-- Settles O17: an Announce, the request sent, and the delay from its answer. -/
theorem pathDelayIsMeasured : Obligations.PathDelayIsMeasured := by
  refine ⟨fun s runs => whenever_of runs _ _, ?_, ?_⟩
  · intro s runs f may due
    obtain ⟨hal, count, frame, objects⟩ := halSent_plain
      (s := { s with hal := { s.hal with pdelaySent := some s.now } }) (f := s.pdelayReq) nofun
    exact ⟨_, exec_pdelayReqSend runs may due, hal, count, frame, objects⟩
  · intro r o a sent s runs asked _ _ _
    exact ⟨_, exec_pdelayRespReceive runs asked, ob_setOb_same .., only_setOb s _ _⟩

end Sys2Proof.Machine

/-!
What admission and the shares of the machine post (R110–R129): they lose no event on its way to the fabric, and they leave what
switching leaves alone.
-/

namespace Sys2Proof.Machine
namespace State

/-! ## An output driven posts nothing -/

theorem fab_ite {c : Prop} [Decidable c] (a b : State) : (if c then a else b).fab = if c then a.fab else b.fab := by
  split <;> rfl
theorem fab_forEach {α : Type} {f : State → α → State} (h : ∀ s a, (f s a).fab = s.fab) (l : List α) (s : State) :
    (forEach l f s).fab = s.fab := by
  unfold forEach
  induction l generalizing s with
  | nil => rfl
  | cons a l ih => exact (ih _).trans (h s a)

theorem fab_setIn (s : State) (n : Nat) (f : Nat → Nat) (i v : Nat) : (s.setIn n f i v).fab = s.fab := by
  unfold setIn; split <;> rfl
theorem fab_setBit (s : State) (k i : Nat) (b : Bool) : (s.setBit k i b).fab = s.fab := rfl
theorem fab_setGd (s : State) (n : Nat) (c : GdChannel) : (s.setGd n c).fab = s.fab := rfl
theorem fab_setBr (s : State) (n : Nat) (c : Bridge) : (s.setBr n c).fab = s.fab := rfl
theorem fab_setFan (s : State) (n : Nat) (c : Fan) : (s.setFan n c).fab = s.fab := rfl
theorem fab_setDout (s : State) (n : Nat) (c : Dout) : (s.setDout n c).fab = s.fab := rfl

theorem fab_gdShow (s : State) (c v : Nat) : (s.gdShow c v).fab = s.fab := by
  simp [gdShow, fab_setBit, fab_ite, fab_setIn]
theorem fab_gdApplyAt (s : State) (c v period : Nat) : (s.gdApplyAt c v period).fab = s.fab := by
  simp [gdApplyAt, fab_ite, fab_gdShow]
theorem fab_gdOff (s : State) (c : Nat) : (s.gdOff c).fab = s.fab := by
  simp [gdOff, gdApply, fab_setBit, fab_gdApplyAt, fab_setGd]
theorem fab_gdCancel (s : State) (c : Nat) : (s.gdCancel c).fab = s.fab := by
  unfold gdCancel
  dsimp only
  split
  · rfl
  · exact fab_forEach (fun t i => fab_setGd t i _) _ _
theorem fab_gdDrive (s : State) (c v : Nat) : (s.gdDrive c v).fab = s.fab := by
  simp [gdDrive, gdApply, fab_ite, fab_gdCancel, fab_gdOff, fab_gdApplyAt, fab_setGd]
theorem fab_brChannels (s : State) (h dir duty : Nat) : (s.brChannels h dir duty).fab = s.fab := by
  unfold brChannels
  dsimp only
  split <;> simp [fab_gdApplyAt, fab_gdShow, fab_gdOff]
theorem fab_brStart (s : State) (h : Nat) : (s.brStart h).fab = s.fab := by
  simp [brStart, brShow, fab_ite, fab_brChannels, fab_setBit, fab_setBr]
theorem fab_fanDuty (s : State) (f d : Nat) : (s.fanDuty f d).fab = s.fab := by
  simp [fanDuty, fab_gdDrive, fab_setFan]
theorem fab_fanDeliver (s : State) (f v : Nat) : (s.fanDeliver f v).fab = s.fab := by
  simp [fanDeliver, fanStart, fanOff, fab_ite, fab_gdCancel, fab_setBit, fab_setIn, fab_gdShow, fab_gdOff, fab_fanDuty, fab_setFan]
theorem fab_doutDrive (s : State) (d v : Nat) : (s.doutDrive d v).fab = s.fab := by
  simp [doutDrive, doutShow, doutCancel, fab_ite, fab_setBit, fab_setDout]

theorem fab_drive (s : State) (sig v : Nat) : (s.drive sig v).fab = s.fab := by
  unfold drive
  dsimp only
  split
  · rfl
  · split
    · split
      · rfl
      · split
        · exact fab_fanDeliver ..
        · exact fab_gdDrive ..
    · rfl
    · exact fab_doutDrive ..
    · rfl

theorem fab_command (s : State) (sig v : Nat) : (s.command sig v).fab = s.fab := fab_drive ..
theorem fab_portFit (s : State) (port cls : Nat) : (s.portFit port cls).fab = s.fab := by
  simp [portFit, fab_ite]

/-! ## Operations that post keep what is on its way -/

section
variable {s t : State} {o : Occ}

theorem mem_inFlight_ite {c : Prop} [Decidable c] (h : o ∈ s.fab.inFlight) (k : o ∈ t.fab.inFlight) :
    o ∈ (if c then s else t).fab.inFlight := by
  split
  · exact h
  · exact k

theorem mem_inFlight_forEach {α : Type} {f : State → α → State}
    (each : ∀ {s : State} (a : α), o ∈ s.fab.inFlight → o ∈ (f s a).fab.inFlight) (l : List α) (h : o ∈ s.fab.inFlight) :
    o ∈ (forEach l f s).fab.inFlight := by
  unfold forEach
  induction l generalizing s with
  | nil => exact h
  | cons a l ih => exact ih (each a h)

theorem mem_inFlight_of_fab (same : t.fab = s.fab) (h : o ∈ s.fab.inFlight) : o ∈ t.fab.inFlight := same ▸ h

variable (h : o ∈ s.fab.inFlight)
include h

theorem mem_inFlight_post (ev v : Nat) : o ∈ (s.post ev v).fab.inFlight := List.mem_append_left _ h

theorem mem_inFlight_dropRecord : o ∈ s.dropRecord.fab.inFlight := by
  unfold dropRecord
  exact mem_inFlight_ite (List.mem_append_left _ h) h

theorem mem_inFlight_record (r : LedgerRecord) : o ∈ (s.record r).fab.inFlight := by
  unfold record
  exact mem_inFlight_ite h (mem_inFlight_ite (mem_inFlight_dropRecord h) (mem_inFlight_ite h h))

theorem mem_inFlight_commandOwned (sig v : Nat) : o ∈ (s.commandOwned sig v).fab.inFlight := by
  unfold commandOwned
  refine mem_inFlight_of_fab (fab_command ..) (mem_inFlight_ite (mem_inFlight_record ?_ _) ?_)
  all_goals exact h

theorem mem_inFlight_showShed : o ∈ s.showShed.fab.inFlight := by
  unfold showShed
  exact mem_inFlight_ite (List.mem_append_left _ h) h

theorem mem_inFlight_restoredOne (sig : Nat) : o ∈ (s.restoredOne sig).fab.inFlight := by
  unfold restoredOne
  refine mem_inFlight_ite h (mem_inFlight_showShed ?_)
  exact mem_inFlight_record h _

theorem mem_inFlight_portTake (x : Nat × Nat) : o ∈ (s.portTake x).fab.inFlight := by
  unfold portTake
  extract_lets s1 tagged
  have lit : o ∈ s1.fab.inFlight := mem_inFlight_ite h h
  refine mem_inFlight_restoredOne (mem_inFlight_ite (mem_inFlight_commandOwned ?_ _ _) (mem_inFlight_commandOwned lit _ _)) _
  exact lit

theorem mem_inFlight_release (r : AdmRequest) : o ∈ (s.release r).fab.inFlight := by
  unfold release
  extract_lets s0
  have factored : o ∈ s0.fab.inFlight := h
  refine mem_inFlight_ite ?_ ?_
  · refine mem_inFlight_of_fab (fab_portFit ..) (mem_inFlight_forEach (fun x k => mem_inFlight_portTake k x) _ ?_)
    exact mem_inFlight_ite factored (mem_inFlight_of_fab (fab_forEach (fun t _ => fab_setOb t _ _) _ _) factored)
  · split
    · exact mem_inFlight_restoredOne (mem_inFlight_of_fab (fab_brStart ..) factored) _
    · have commanded := mem_inFlight_restoredOne
        (mem_inFlight_commandOwned factored r.sig (if r.envelope then s0.ownerValue r.sig else r.value)) r.sig
      exact mem_inFlight_ite commanded commanded

theorem mem_inFlight_admitNow (r : AdmRequest) : o ∈ (s.admitNow r).fab.inFlight := by
  unfold admitNow
  refine mem_inFlight_release ?_ r
  exact mem_inFlight_postIf (mem_inFlight_postIf h _ _ _) _ _ _

theorem mem_inFlight_checkOver : o ∈ s.checkOver.fab.inFlight := by
  unfold checkOver
  exact mem_inFlight_ite (List.mem_append_left _ h) h

theorem mem_inFlight_runQueueN (n : Nat) : o ∈ (runQueueN n s).fab.inFlight := by
  induction n generalizing s with
  | zero => exact mem_inFlight_checkOver h
  | succ n ih =>
    have checked := mem_inFlight_checkOver h
    unfold runQueueN
    dsimp only
    split
    · exact checked
    · refine mem_inFlight_ite (ih (mem_inFlight_admitNow ?_ _)) checked
      exact checked

theorem mem_inFlight_refillN (n : Nat) : o ∈ (refillN n s).fab.inFlight := by
  induction n generalizing s with
  | zero => exact h
  | succ n ih =>
    unfold refillN
    split
    · exact h
    · refine mem_inFlight_ite (ih (mem_inFlight_runQueueN ?_ _)) h
      exact h

/-- The test run on the queue loses no event on its way. -/
theorem mem_inFlight_runQueue : o ∈ s.runQueue.fab.inFlight := mem_inFlight_refillN (mem_inFlight_runQueueN h 65) _

/-! ## Shares and loans (R126–R129) -/

theorem mem_inFlight_judgeShares : o ∈ s.judgeShares.fab.inFlight := by
  unfold judgeShares
  refine mem_inFlight_postIf ?_ _ _ _
  exact h

theorem mem_inFlight_dropLoan (l : Nat) : o ∈ (s.dropLoan l).fab.inFlight := by
  unfold dropLoan
  refine mem_inFlight_ite h (mem_inFlight_post ?_ _ _)
  exact h

theorem mem_inFlight_lenderHears (b x : Nat) : o ∈ (s.lenderHears b x).fab.inFlight := by
  have told (a : Arbiter) (ev v i : Nat) : o ∈ (({ s with arb := a }).loanEvent ev v i).fab.inFlight :=
    mem_inFlight_post (s := { s with arb := a }) h _ _
  unfold lenderHears
  refine mem_inFlight_ite h (mem_inFlight_ite (mem_inFlight_runQueue (told ..)) (mem_inFlight_ite h ?_))
  split
  · exact mem_inFlight_ite h (mem_inFlight_runQueue (told ..))
  · exact mem_inFlight_ite (told ..) h

theorem mem_inFlight_borrowerHears (l x : Nat) : o ∈ (s.borrowerHears l x).fab.inFlight := by
  unfold borrowerHears
  refine mem_inFlight_ite (mem_inFlight_dropLoan ?_ l) (mem_inFlight_ite h (mem_inFlight_runQueue (mem_inFlight_post ?_ _ _)))
  all_goals exact h

end

theorem judgeShares_quiet (s : State) (own : List Nat) : s.judgeShares.quiet own = s.quiet own :=
  (postIf_quiet ..).trans (with_arb_quiet ..)

theorem dropLoan_quiet (s : State) (l : Nat) (own : List Nat) : (s.dropLoan l).quiet own = s.quiet own := by
  unfold dropLoan
  split
  · rfl
  · exact (post_quiet ..).trans (with_arb_quiet ..)

theorem quiet_of_ite {own : List Nat} {c : Prop} [Decidable c] {s t u : State} (h : s.quiet own = u.quiet own)
    (k : t.quiet own = u.quiet own) : (if c then s else t).quiet own = u.quiet own := by
  rw [ite_quiet, h, k, ite_self]

theorem lenderHears_quiet (s : State) (b x : Nat) (own : List Nat) : (s.lenderHears b x).quiet own = s.quiet own := by
  have told (a : Arbiter) (ev v i : Nat) : (({ s with arb := a }).loanEvent ev v i).quiet own = s.quiet own :=
    (post_quiet ..).trans (with_arb_quiet ..)
  unfold lenderHears
  refine quiet_of_ite rfl (quiet_of_ite ((runQueue_quiet _).trans (told ..)) (quiet_of_ite rfl ?_))
  split
  · exact quiet_of_ite rfl ((runQueue_quiet _).trans (told ..))
  · exact quiet_of_ite (told ..) rfl

theorem borrowerHears_quiet (s : State) (l x : Nat) (own : List Nat) : (s.borrowerHears l x).quiet own = s.quiet own := by
  have told (a : Arbiter) (ev v i : Nat) : (({ s with arb := a }).loanEvent ev v i).quiet own = s.quiet own :=
    (post_quiet ..).trans (with_arb_quiet ..)
  unfold borrowerHears
  exact quiet_of_ite ((dropLoan_quiet ..).trans (with_arb_quiet ..))
    (quiet_of_ite rfl ((runQueue_quiet _).trans (told ..)))

end State
end Sys2Proof.Machine

/-!
The unit's own address (R66, R67, R71) and its entry in the registry (R70).
-/

namespace Sys2Proof.Machine
namespace State

/-! ## The registry's objects -/

theorem registry_le_ptState (a : Nat) : key 0x1230 0 ≤ Obj.ptState a := by unfold Obj.ptState key; omega
theorem registry_le_ptSerial (a : Nat) : key 0x1230 0 ≤ Obj.ptSerial a := by unfold Obj.ptSerial key; omega
theorem registry_le_ptMastVersion (a : Nat) : key 0x1230 0 ≤ Obj.ptMastVersion a := by unfold Obj.ptMastVersion key; omega
theorem registry_le_ptCompatEpoch (a : Nat) : key 0x1230 0 ≤ Obj.ptCompatEpoch a := by unfold Obj.ptCompatEpoch key; omega
theorem registry_le_ptSchema (a : Nat) : key 0x1230 0 ≤ Obj.ptSchema a := by unfold Obj.ptSchema key; omega

/-- `t` is `s` with the registry changed: its objects and the partners. -/
structure MovesRegistry (s t : State) : Prop where
  frame : s.OnlyHal t
  hal : t.hal = { s.hal with partners := t.hal.partners }
  objects : ∀ k, k < key 0x1230 0 → t.ob k = s.ob k

theorem MovesRegistry.refl (s : State) : s.MovesRegistry s := ⟨.refl s, rfl, fun _ _ => rfl⟩

theorem MovesRegistry.trans {s t u : State} (h : s.MovesRegistry t) (k : t.MovesRegistry u) : s.MovesRegistry u := by
  refine ⟨h.frame.trans k.frame, k.hal.trans ?_, fun i low => (k.objects i low).trans (h.objects i low)⟩
  rw [h.hal]

theorem MovesRegistry.setOb {s t : State} (h : s.MovesRegistry t) {k : Nat} (entry : key 0x1230 0 ≤ k) (v : Nat) :
    s.MovesRegistry (t.setOb k v) :=
  h.trans ⟨onlyHal_setOb .., rfl, fun _ low => ob_setOb_other t v (Nat.ne_of_gt (Nat.lt_of_lt_of_le low entry))⟩

theorem MovesRegistry.setPartner {s t : State} (h : s.MovesRegistry t) (a : Nat) (p : Partner) :
    s.MovesRegistry (t.setPartner a p) := h.trans ⟨onlyHal_setPartner .., rfl, fun _ _ => rfl⟩

/-! ## Entries of a serial emptied -/

/-- `t` is `s` with other entries of the registry changed than that of address `a`. -/
structure KeepsEntry (a : Nat) (s t : State) : Prop where
  objects : ∀ k, keyIndex k = 0x1230 + a → t.ob k = s.ob k
  partner : t.partner a = s.partner a

theorem KeepsEntry.refl (a : Nat) (s : State) : KeepsEntry a s s := ⟨fun _ _ => rfl, rfl⟩

theorem KeepsEntry.trans {a : Nat} {s t u : State} (h : KeepsEntry a s t) (k : KeepsEntry a t u) : KeepsEntry a s u :=
  ⟨fun i entry => (k.objects i entry).trans (h.objects i entry), k.partner.trans h.partner⟩

theorem KeepsEntry.setOb {a : Nat} {s t : State} (h : KeepsEntry a s t) {k : Nat} (other : keyIndex k ≠ 0x1230 + a) (v : Nat) :
    KeepsEntry a s (t.setOb k v) :=
  ⟨fun i entry => (ob_setOb_other t v (ne_of_apply_ne keyIndex (entry ▸ other))).trans (h.objects i entry), h.partner⟩

theorem KeepsEntry.setPartner {a : Nat} {s t : State} (h : KeepsEntry a s t) {b : Nat} (other : b ≠ a) (p : Partner) :
    KeepsEntry a s (t.setPartner b p) := ⟨h.objects, (partner_setPartner_other t p other).trans h.partner⟩

theorem keyIndex_ptState (a : Nat) : keyIndex (Obj.ptState a) = 0x1230 + a := keyIndex_key _ (by decide)
theorem keyIndex_ptSerial (a : Nat) : keyIndex (Obj.ptSerial a) = 0x1230 + a := keyIndex_key _ (by decide)
theorem keyIndex_ptLastSeen (a : Nat) : keyIndex (Obj.ptLastSeen a) = 0x1230 + a := keyIndex_key _ (by decide)

/-- One entry emptied if another than `but` holds the serial (R70). -/
def emptyEntry (serial but : Nat) (s : State) (i : Nat) : State :=
  let a := i + 1
  if serial ≠ 0 && a ≠ but && s.ob (Obj.ptState a) ≠ 0 && s.ob (Obj.ptSerial a) = serial then
    ((s.setOb (Obj.ptState a) 0).setOb (Obj.ptSerial a) 0).setPartner a { fresh := (s.partner a).fresh }
  else s

theorem emptyEntries_eq (s : State) (serial but : Nat) : s.emptyEntries serial but = forRange 16 (emptyEntry serial but) s := rfl

theorem movesRegistry_emptyEntry (serial but : Nat) (s : State) (i : Nat) : s.MovesRegistry (emptyEntry serial but s i) := by
  unfold emptyEntry
  dsimp only
  split
  · exact (((MovesRegistry.refl s).setOb (registry_le_ptState _) 0).setOb (registry_le_ptSerial _) 0).setPartner _ _
  · exact .refl s

theorem keepsEntry_emptyEntry (serial but : Nat) (s : State) (i : Nat) : KeepsEntry but s (emptyEntry serial but s i) := by
  unfold emptyEntry
  dsimp only
  split
  case isTrue taken =>
    have other : i + 1 ≠ but := by
      simp only [Bool.and_eq_true, decide_eq_true_eq] at taken
      exact taken.1.1.2
    refine (((KeepsEntry.refl but s).setOb ?_ 0).setOb ?_ 0).setPartner other _
    · rw [keyIndex_ptState]
      omega
    · rw [keyIndex_ptSerial]
      omega
  case isFalse => exact .refl but s

theorem movesRegistry_emptyEntries (s : State) (serial but : Nat) : s.MovesRegistry (s.emptyEntries serial but) := by
  rw [emptyEntries_eq]
  unfold forRange
  induction List.range 16 generalizing s with
  | nil => exact .refl s
  | cons i l ih => exact (movesRegistry_emptyEntry serial but s i).trans (ih _)

theorem keepsEntry_emptyEntries (s : State) (serial but : Nat) : KeepsEntry but s (s.emptyEntries serial but) := by
  rw [emptyEntries_eq]
  unfold forRange
  induction List.range 16 generalizing s with
  | nil => exact .refl but s
  | cons i l ih => exact (keepsEntry_emptyEntry serial but s i).trans (ih _)

/-! ## The unit's own entry -/

theorem movesRegistry_showOwn (s : State) : s.MovesRegistry s.showOwn := by
  unfold showOwn
  extract_lets a
  split
  · exact .refl s
  · split
    · have present := (movesRegistry_emptyEntries s Part.serial a).setOb (registry_le_ptState a) 1
      exact (((present.setOb (registry_le_ptSerial a) _).setOb (registry_le_ptMastVersion a) _).setOb
        (registry_le_ptCompatEpoch a) _).setOb (registry_le_ptSchema a) _
    · split
      · exact (MovesRegistry.refl s).setOb (registry_le_ptState a) 3
      · exact (MovesRegistry.refl s).setOb (registry_le_ptState a) 4

/-- A unit that has an address, neither confirmed nor pending, is in conflict in its own registry. -/
theorem showOwn_conflict {s : State} (own : s.address ≠ 0) (pending : s.ob Obj.addrState ≠ 1) (confirmed : s.ob Obj.addrState ≠ 2) :
    s.showOwn = s.setOb (Obj.ptState s.address) 4 := by
  unfold showOwn State.confirmed
  simp [own, pending, confirmed]

/-! ## Addresses taken (R66, R67) -/

/-- What an address taken shows, and what it leaves alone. -/
theorem takeAddress_shows (s : State) (a source : Nat) :
    (s.takeAddress a source).hal.addrTaken = true ∧ (s.takeAddress a source).ob Obj.unitAddress = a ∧
      (s.takeAddress a source).ob Obj.addrSource = source ∧
      (s.takeAddress a source).ob Obj.addrState = (if s.ob Obj.storedAddress = a then 2 else 1) ∧
      s.OnlyHal (s.takeAddress a source) := by
  let u := (({ s with hal := { s.hal with addrTaken := true } }).setOb Obj.unitAddress a).setOb Obj.addrSource source
  let v := if u.ob Obj.storedAddress = a then 2 else 1
  have own : (u.setOb Obj.addrState v).MovesRegistry (s.takeAddress a source) := movesRegistry_showOwn _
  have taken : (s.takeAddress a source).hal.addrTaken = true := by
    rw [own.hal]
    rfl
  have shown (k : Nat) (low : k < key 0x1230 0 := by decide) := own.objects k low
  have address : u.ob Obj.unitAddress = a := (ob_setOb_other _ source (by decide)).trans (ob_setOb_same ..)
  have stored : u.ob Obj.storedAddress = s.ob Obj.storedAddress :=
    (ob_setOb_other _ source (by decide)).trans (ob_setOb_other _ a (by decide))
  refine ⟨taken, (shown _).trans ((ob_setOb_other u v (by decide)).trans address),
    (shown _).trans ((ob_setOb_other u v (by decide)).trans (ob_setOb_same ..)), ?_, OnlyHal.trans (t := u) rfl own.frame⟩
  rw [shown Obj.addrState, ob_setOb_same, ← stored]

/-! ## The commands -/

theorem exec_addrBurstSend {s : State} (on : s.boot.stage ≠ .off) (own : s.address ≠ 0) (power : s.ob Obj.pwrState ≠ pwrFurled) :
    exec .addrBurstSend s =
      .next { s with hal := { s.hal with burstsSent := s.hal.burstsSent + 1, lastPulses := s.address + 1 } } :=
  whenever_of (by simp [on, own, power]) _ _

/-- The state after a burst of `n` pulses, before the unit acts on it. -/
def burstSeen (s : State) (n : Nat) : State :=
  ({ s with hal := { s.hal with lastBurst := n } }).setOb Obj.addrInCode (n % 256)

theorem exec_addrCodeAccept {n : Nat} {s : State} (on : s.boot.stage ≠ .off) (pulses : n ≠ 0) :
    exec (.addrCodeAccept false n) s = .next (s.addressCode n) := whenever_of (by simp [on, pulses]) _ _

theorem addressCode_eq (s : State) (n : Nat) :
    let u := s.burstSeen n
    s.addressCode n =
      if !u.hal.addrTaken then (if 1 ≤ n && n ≤ 16 then u.takeAddress n 1 else u)
      else if u.address = 0 then u.showNoAddress
      else u.postIf (n % 256 ≠ s.ob Obj.addrInCode) 1459 n := rfl

/-- A first code of an address gives it. -/
theorem addressCode_first {s : State} {n : Nat} (free : s.hal.addrTaken = false) (least : 1 ≤ n) (most : n ≤ 16) :
    s.addressCode n = (s.burstSeen n).takeAddress n 1 := by
  have free' : (s.burstSeen n).hal.addrTaken = false := free
  rw [addressCode_eq]
  simp [free', least, most]

/-- A code that differs from the one before posts EV1459 at a unit that has its address. -/
theorem addressCode_later {s : State} {n : Nat} (taken : s.hal.addrTaken = true) (own : s.address ≠ 0) (byte : n < 256)
    (new : n ≠ s.ob Obj.addrInCode) : s.addressCode n = (s.burstSeen n).post 1459 n := by
  have taken' : (s.burstSeen n).hal.addrTaken = true := taken
  have own' : (s.burstSeen n).address ≠ 0 := fun h => own ((ob_setOb_other s (n % 256) (by decide)).symm.trans h)
  rw [addressCode_eq]
  simp [taken', own', Nat.mod_eq_of_lt byte, new, postIf]

theorem exec_addrWaitExpiry_stored {s : State} (on : s.boot.stage ≠ .off) (free : s.hal.addrTaken = false)
    (noCode : s.hal.lastBurst = 0) (stored : s.ob Obj.storedAddress ≠ 0) :
    exec .addrWaitExpiry s = .next (s.takeAddress (s.ob Obj.storedAddress) 2) :=
  (whenever_of (by simp [on, free]) _ _).trans (congrArg _ (if_pos (by simp [noCode, stored])))

theorem exec_addrWaitExpiry_none {s : State} (on : s.boot.stage ≠ .off) (free : s.hal.addrTaken = false)
    (noAddress : s.hal.lastBurst ≠ 0 ∨ s.ob Obj.storedAddress = 0) :
    exec .addrWaitExpiry s = .next ({ s with hal := { s.hal with addrTaken := true } }).showNoAddress := by
  refine (whenever_of (by simp [on, free]) _ _).trans (congrArg _ (if_neg ?_))
  rw [Bool.and_eq_true, decide_eq_true_eq, decide_eq_true_eq]
  exact fun ⟨noCode, stored⟩ => noAddress.elim (absurd noCode) (absurd · stored)

/-- A pending address confirmed and stored. -/
def confirmAddress (s : State) (a : Nat) : State := ((s.setOb Obj.storedAddress a).setOb Obj.addrState 2).showOwn

theorem movesRegistry_confirmAddress (s : State) (a : Nat) :
    ((s.setOb Obj.storedAddress a).setOb Obj.addrState 2).MovesRegistry (s.confirmAddress a) := movesRegistry_showOwn _

theorem doAddrConfirm_pending {s : State} (pending : s.ob Obj.addrState = 1) :
    s.doAddrConfirm s.address = .ok (s.confirmAddress s.address) := by
  unfold doAddrConfirm confirmAddress
  simp [pending, check]

theorem exec_addrConfirm {h : Nat} {a : BitVec 8} {s : State} {x : Session} (serves : s.Serves h .service x)
    (pending : s.ob Obj.addrState = 1) (own : a.toNat = s.address) :
    exec (.addrConfirm h a) s =
      .next { (s.asked x).confirmAddress a.toNat with reply := { status := .success } } := by
  have confirms : (s.asked x).doAddrConfirm a.toNat = .ok ((s.asked x).confirmAddress a.toNat) :=
    own ▸ doAddrConfirm_pending (s := s.asked x) pending
  have reply : ((s.asked x).confirmAddress a.toNat).reply = {} := by
    rw [(movesRegistry_confirmAddress (s.asked x) a.toNat).frame]
    rfl
  show execAddrConfirm h a s = _
  unfold execAddrConfirm
  rw [request_serves serves, confirms, finish_ok, reply]
  rfl

/-- What a confirmed address shows, and what confirming it leaves alone. -/
theorem confirmAddress_shows (s : State) (a : Nat) : (s.confirmAddress a).ob Obj.addrState = 2 ∧
    (s.confirmAddress a).ob Obj.storedAddress = a ∧ s.OnlyHal (s.confirmAddress a) := by
  have own := s.movesRegistry_confirmAddress a
  refine ⟨(own.objects _ (by decide)).trans (ob_setOb_same ..), (own.objects _ (by decide)).trans ?_,
    OnlyHal.trans (t := (s.setOb Obj.storedAddress a).setOb Obj.addrState 2) rfl own.frame⟩
  exact (ob_setOb_other _ 2 (by decide)).trans (ob_setOb_same ..)

theorem addrCodeAccept_first {n : Nat} {s : State} (on : s.boot.stage ≠ .off) (free : s.hal.addrTaken = false) (least : 1 ≤ n)
    (most : n ≤ 16) : ∃ t, exec (.addrCodeAccept false n) s = .next t ∧ t.hal.addrTaken = true ∧ t.ob Obj.unitAddress = n ∧
      t.ob Obj.addrSource = 1 ∧ t.ob Obj.addrState = (if s.ob Obj.storedAddress = n then 2 else 1) ∧
      t = { s with obj := t.obj, hal := t.hal } := by
  obtain ⟨taken, address, source, state, frame⟩ := (s.burstSeen n).takeAddress_shows n 1
  have stored : (s.burstSeen n).ob Obj.storedAddress = s.ob Obj.storedAddress := ob_setOb_other _ _ (by decide)
  rw [stored] at state
  refine ⟨_, ?_, taken, address, source, state, OnlyHal.trans (t := s.burstSeen n) rfl frame⟩
  rw [exec_addrCodeAccept on (Nat.ne_of_gt least), addressCode_first free least most]

theorem addrCodeAccept_later {n : Nat} {s : State} (on : s.boot.stage ≠ .off) (taken : s.hal.addrTaken = true)
    (own : s.address ≠ 0) (pulses : 0 < n) (byte : n < 256) (new : n ≠ s.ob Obj.addrInCode) :
    ∃ t, exec (.addrCodeAccept false n) s = .next t ∧ t.ob Obj.addrInCode = n ∧ ⟨s.now, 1459, n⟩ ∈ t.fab.inFlight ∧
      t = { s with obj := t.obj, hal := t.hal, fab := t.fab } ∧ s.ObjectsBut t [Obj.addrInCode] := by
  refine ⟨(s.burstSeen n).post 1459 n, ?_, ?_, mem_of_raised (raised_post _ 1459 n) (by omega), rfl, ?_⟩
  · rw [exec_addrCodeAccept on (Nat.ne_of_gt pulses), addressCode_later taken own byte new]
  · exact (ob_setOb_same ..).trans (Nat.mod_eq_of_lt byte)
  · exact objectsBut_setOb (objectsBut_refl s _) List.mem_cons_self _

theorem addrConfirm_pending {h : Nat} {a : BitVec 8} {s : State} {x : Session} (serves : s.Serves h .service x)
    (pending : s.ob Obj.addrState = 1) (own : a.toNat = s.address) :
    ∃ t, exec (.addrConfirm h a) s = .next t ∧ t.reply = { status := .success } ∧ t.ob Obj.addrState = 2 ∧
      t.ob Obj.storedAddress = a.toNat ∧ t = { s.served x with obj := t.obj, hal := t.hal } := by
  obtain ⟨state, stored, frame⟩ := (s.asked x).confirmAddress_shows a.toNat
  refine ⟨_, exec_addrConfirm serves pending own, rfl, state, stored, ?_⟩
  exact congrArg (fun t : State => { t with reply := { status := .success } }) frame

end State
end Sys2Proof.Machine

/-!
What the unit sends of itself on the halyard: presence (R68), the frames that waited (R65), and notices (R76, R386); and the state
of the link (R65, R77).
-/

namespace Sys2Proof.Machine
namespace State

/-! ## The budget that presence carries (R127) -/

theorem measuredI_eq {s t : State} (objects : s.ObjectsBut t [Obj.txFrames]) (sig : Nat) : t.measuredI sig = s.measuredI sig := by
  have same (k : Nat) (other : k ≠ Obj.txFrames) : t.ob k = s.ob k := objects k (by simpa using other)
  have status (n : Nat) : t.ob (Obj.gdStatus n) = s.ob (Obj.gdStatus n) := same _ (by unfold Obj.gdStatus Obj.txFrames key; omega)
  have gd (n : Nat) : t.ob (Obj.gdIEst n) = s.ob (Obj.gdIEst n) := same _ (by unfold Obj.gdIEst Obj.txFrames key; omega)
  have sv (n : Nat) : t.ob (Obj.svIMeas n) = s.ob (Obj.svIMeas n) := same _ (by unfold Obj.svIMeas Obj.txFrames key; omega)
  have dout (n : Nat) : t.ob (Obj.doutIMeas n) = s.ob (Obj.doutIMeas n) :=
    same _ (by unfold Obj.doutIMeas Obj.txFrames key; omega)
  unfold measuredI gdDecide bit
  dsimp only
  split
  · rw [status, gd]
  · rw [sv]
  · rw [dout]
  · rfl

theorem presentOf_eq {s t : State} (now : t.now = s.now) (measured : ∀ sig, t.measuredI sig = s.measuredI sig) (k : Nat)
    (e : AdmEntry) : t.presentOf k e = s.presentOf k e := by
  unfold presentOf entrySettled entryPredicted
  rw [now, measured]

/-- The budget does not hang on the halyard's part, nor on the count of frames. -/
theorem budget_eq {s t : State} (frame : s.OnlyHal t) (objects : s.ObjectsBut t [Obj.txFrames]) : t.budget = s.budget := by
  have confirmed : t.confirmed = s.confirmed := by unfold State.confirmed; rw [objects _ (by decide)]
  have cf (k : Nat) : t.cf k = s.cf k := congrArg (fun c : Regs => c.read (objDefault k) k) frame.cfg
  have share : t.share = s.share := by
    unfold State.share borrowedSum
    rw [objects _ (by decide), frame.arb, cf, cf]
  have present : ∀ k e, t.presentOf k e = s.presentOf k e := presentOf_eq frame.now (measuredI_eq objects)
  have sumI : t.sumI = s.sumI := by
    unfold State.sumI
    simp only [present, frame.arb]
  have wantI : t.wantI = s.wantI := by
    unfold State.wantI presentAt
    simp only [present, confirmed, share, sumI, cf, frame.arb]
  unfold budget heldMask
  rw [confirmed, share, sumI, wantI, frame.arb, cf, cf]

/-! ## Presence (R68, R127, R128) -/

/-- `t` is `s` with nothing changed but the arbiter and the events under way. -/
def OnlyArb (s t : State) : Prop := t = { s with arb := t.arb, fab := t.fab }

theorem OnlyArb.refl (s : State) : s.OnlyArb s := rfl

theorem OnlyArb.trans {s t u : State} (h : s.OnlyArb t) (k : t.OnlyArb u) : s.OnlyArb u := by
  unfold OnlyArb at h k ⊢
  rw [k, h]

theorem OnlyArb.thenHal {s t u : State} (h : s.OnlyArb t) (k : t.OnlyHal u) :
    u = { s with obj := u.obj, hal := u.hal, arb := u.arb, fab := u.fab } := by
  unfold OnlyArb at h
  unfold OnlyHal at k
  rw [k, h]

theorem OnlyArb.afterHal {s t u : State} (h : t.OnlyArb u) (k : s.OnlyHal t) :
    u = { s with obj := u.obj, hal := u.hal, arb := u.arb, fab := u.fab } := by
  have obj : u.obj = t.obj := by rw [h]
  have hal : u.hal = t.hal := by rw [h]
  unfold OnlyArb at h
  unfold OnlyHal at k
  rw [obj, hal, h, k]

theorem onlyArb_ite {c : Prop} [Decidable c] {s t u : State} (h : s.OnlyArb t) (k : s.OnlyArb u) :
    s.OnlyArb (if c then t else u) := by
  split
  · exact h
  · exact k

theorem onlyArb_judgeShares (s : State) : s.OnlyArb s.judgeShares := by
  unfold judgeShares
  exact onlyArb_ite rfl rfl

theorem onlyArb_lendStep (s : State) : s.OnlyArb s.lendStep := by
  unfold lendStep
  refine onlyArb_ite rfl (onlyArb_ite ?_ (onlyArb_ite rfl (onlyArb_ite rfl (onlyArb_ite rfl rfl))))
  split
  · rfl
  · exact onlyArb_ite rfl rfl

/-- The presence frame that a unit forms, its counter being already that of the frame. -/
def presenceFrame (s : State) : PresenceFrame :=
  let st := if s.hal.reannounce then 1 else s.ob Obj.addrState
  let digest := crc32c s.ownCapability
  { address := s.address, addrState := st, fresh := s.hal.chainCounter, idTag := State.identityTag Part.serial
    capDigest := digest, budget := s.budget
    mac := s.chainMac (State.presenceBytes s.address st s.hal.chainCounter (State.identityTag Part.serial) digest s.budget) }

/-- The halyard frame that carries it. -/
def presenceHal (s : State) : HalFrame :=
  let f := s.presenceFrame
  s.chainFrame .presence
    (State.presenceBytes s.address f.addrState f.fresh f.idTag f.capDigest f.budget ++ toBytes 8 f.mac ++ [0, 0])

/-- The state in which it has been formed. -/
def presenceFormed (s : State) : State := { s with hal := { s.hal with sent := some s.presenceFrame, reannounce := false } }

theorem exec_presenceSend_silent {s : State} (none : s.address = 0) (applied : s.applied = true) :
    exec .presenceSend s = .next s.judgeShares := by
  have silent : s.halyardTalks = false := by simp [halyardTalks, halyardServes, none]
  show execPresenceSend s = _
  unfold execPresenceSend
  rw [silent]
  exact whenever_of applied _ _

theorem exec_presenceSend {s : State} (talks : s.halyardTalks = true) :
    exec .presenceSend s = .next (s.judgeShares.lendStep.chainCount.presenceFormed.halSend
      s.judgeShares.lendStep.chainCount.presenceHal) := by
  show execPresenceSend s = _
  unfold execPresenceSend
  rw [talks, if_neg (by decide)]
  generalize s.judgeShares.lendStep.chainCount = u
  unfold presenceFormed presenceHal presenceFrame
  dsimp only
  rfl

theorem presenceSend_sends {s : State} (talks : s.halyardTalks = true) (empty : s.hal.txQueue = []) :
    ∃ t f g, exec .presenceSend s = .next t ∧ t.hal.sent = some f ∧ f.address = s.address ∧
      f.addrState = (if s.hal.reannounce then 1 else s.ob Obj.addrState) ∧ f.fresh = s.hal.chainCounter + 1 ∧
      t.hal.chainCounter = s.hal.chainCounter + 1 ∧ t.hal.reannounce = false ∧ f.budget = t.budget ∧
      g = s.chainFrame .presence
        (State.presenceBytes s.address f.addrState f.fresh f.idTag f.capDigest f.budget ++ toBytes 8 f.mac ++ [0, 0]) ∧
      t = { s with obj := t.obj, hal := t.hal, arb := t.arb, fab := t.fab } ∧
      (s.halMay g = true → t.hal.txSent = some g ∧ t.hal.txQueue = [] ∧
        t.ob Obj.txFrames = (s.ob Obj.txFrames + 1) % 2 ^ 32 ∧ s.ObjectsBut t [Obj.txFrames]) ∧
      (s.halMay g = false → t.hal.txQueue = [g] ∧ t.obj = s.obj) := by
  have shares : s.OnlyArb s.judgeShares.lendStep := (onlyArb_judgeShares s).trans (onlyArb_lendStep _)
  rw [exec_presenceSend talks]
  generalize s.judgeShares.lendStep = u at shares
  have framed {t : State} := shares.thenHal (u := t)
  obtain ⟨a, b, rfl⟩ : ∃ a b, u = { s with arb := a, fab := b } := ⟨_, _, shares⟩
  let v := ({ s with arb := a, fab := b } : State).chainCount
  have sent : v.presenceFormed.SendsAlone v.presenceHal (v.presenceFormed.halSend v.presenceHal) :=
    sendsAlone_halSend talks empty nofun
  obtain ⟨hal, frame, objects, goes, waits⟩ := sent
  have budget : (v.presenceFormed.halSend v.presenceHal).budget = v.presenceFormed.budget := budget_eq frame objects
  refine ⟨_, v.presenceFrame, v.presenceHal, rfl, ?_, rfl, rfl, rfl, ?_, ?_, budget.symm, rfl, ?_, ?_, waits⟩
  · rw [hal]
    rfl
  · rw [hal]
    rfl
  · rw [hal]
    rfl
  · exact framed (OnlyHal.trans (t := v.presenceFormed) rfl frame)
  · intro may
    obtain ⟨txSent, txQueue, count⟩ := goes may
    exact ⟨txSent, txQueue, count, objects⟩

/-! ## The link (R65, R77) -/

theorem exec_plcaBeaconLoss {s : State} (hears : s.halyardHears = true) (on : s.bit Obj.linkStatus 1 = true) :
    exec .plcaBeaconLoss s = .next ((s.setBit Obj.linkStatus 1 false).post 1458 0) := whenever_of (by rw [hears, on]; rfl) _ _

theorem exec_plcaBeaconResume {s : State} (hears : s.halyardHears = true) :
    exec .plcaBeaconResume s = .next (s.setBit Obj.linkStatus 1 true).halDrain := whenever_of hears _ _

theorem exec_halyardLinkChange {up : Bool} {s : State} (hears : s.halyardHears = true) (change : s.bit Obj.linkStatus 0 = !up) :
    exec (.halyardLinkChange up) s = .next ((s.setBit Obj.linkStatus 0 up).post 1466 (if up then 1 else 0)) :=
  whenever_of (by rw [hears, change]; cases up <;> rfl) _ _

theorem only_setBit (s : State) (k i : Nat) (b : Bool) : s.Only (s.setBit k i b) [k] := only_setOb s k _

theorem halDrain_empty {s : State} (empty : s.hal.txQueue = []) : s.halDrain = s := by
  have same : { s.hal with txQueue := [] } = s.hal := by rw [← empty]
  unfold halDrain
  rw [empty, same]
  rfl

/-- A frame that waits alone and may go goes out. -/
theorem halDrain_one {s : State} {g : HalFrame} (one : s.hal.txQueue = [g]) (may : s.halMay g = true) :
    s.halDrain = ({ s with hal := { s.hal with txQueue := [] } }).halSent g := by
  unfold halDrain
  rw [one]
  exact if_pos may

theorem plcaBeaconResume_sends {g : HalFrame} {s : State} (hears : s.halyardHears = true) (one : s.hal.txQueue = [g])
    (may : (s.setBit Obj.linkStatus 1 true).halMay g = true) :
    ∃ t, exec .plcaBeaconResume s = .next t ∧ t.bit Obj.linkStatus 1 = true ∧ t.hal.txSent = some g ∧ t.hal.txQueue = [] ∧
      t = { s with obj := t.obj, hal := t.hal } := by
  let u := s.setBit Obj.linkStatus 1 true
  let v : State := { u with hal := { u.hal with txQueue := [] } }
  have sends : v.Sends (v.halSent g) := sends_halSent v g
  have status : (v.halSent g).ob Obj.linkStatus = v.ob Obj.linkStatus := sends.objects _ (by decide) (by decide)
  have sent : (v.halSent g).hal.txSent = some g ∧ (v.halSent g).hal.txQueue = [] := by
    unfold halSent
    dsimp only
    split <;> exact ⟨rfl, rfl⟩
  refine ⟨v.halSent g, ?_, ?_, sent.1, sent.2, OnlyHal.trans (t := v) rfl sends.frame⟩
  · rw [exec_plcaBeaconResume hears, halDrain_one (s := u) one may]
  · unfold bit
    rw [status]
    exact bit_setBit_same s Obj.linkStatus 1 true

/-! ## Notices (R48, R50, R52, R76, R386) -/

/-- The state in which a notice has been taken from the queue to go out under a session. -/
def noticeTaken (s : State) (o : Occ) (rest : List Occ) (h : Nat) : State :=
  { s with hal := { s.hal with notices := rest, noticeSent := some (o, h) } }

/-- A notice without a session on the halyard. -/
theorem exec_noticeSend_bare {o : Occ} {rest : List Occ} {s : State} (queue : s.hal.notices = o :: rest)
    (bare : s.noticeSession = none)
    (may : s.halMay (s.dictFrame .notice s.toHost (State.frameBytes 4 0 0 0 (State.noticeBytes o))) = true) :
    exec .noticeSend s = .next ((s.noticeTaken o rest 0).halSent
      (s.dictFrame .notice s.toHost (State.frameBytes 4 0 0 0 (State.noticeBytes o)))) := by
  show execNoticeSend s = _
  unfold execNoticeSend
  rw [queue, bare]
  dsimp only
  rw [List.append_nil]
  exact whenever_of may _ _

/-- The bytes of a notice under a session that its MAC covers. -/
def noticeBody (o : Occ) (x : Session) (f : Nat) : List Nat := State.frameBytes 4 0 x.handle f (State.noticeBytes o)

/-- A notice under the session of the halyard, with its MAC. -/
def noticeFrame (s : State) (o : Occ) (x : Session) (f : Nat) : HalFrame :=
  s.dictFrame .notice s.toHost
    (noticeBody o x f ++ toBytes 16 (Config.cmac x.key (2 :: 0 :: noticeBody o x f)).toNat)

theorem exec_noticeSend_session {o : Occ} {rest : List Occ} {x : Session} {f : Nat} {s : State}
    (queue : s.hal.notices = o :: rest) (session : s.noticeSession = some x) (fresh : State.nextFresh x 0 = some f)
    (may : s.halMay (s.noticeFrame o x f) = true) :
    exec .noticeSend s = .next (((s.setSession { x with tx := x.tx.write 0 0 f }).noticeTaken o rest x.handle).halSent
      (s.noticeFrame o x f)) := by
  show execNoticeSend s = _
  unfold execNoticeSend
  rw [queue, session]
  dsimp only
  rw [fresh]
  exact whenever_of may _ _

theorem noticeSend_session {o : Occ} {rest : List Occ} {x : Session} {f : Nat} {s : State}
    (queue : s.hal.notices = o :: rest) (session : s.noticeSession = some x) (fresh : State.nextFresh x 0 = some f)
    (may : s.halMay (s.noticeFrame o x f) = true) :
    ∃ t, exec .noticeSend s = .next t ∧
      t.hal = { s.hal with
        notices := rest, noticeSent := some (o, x.handle), txSent := some (s.noticeFrame o x f), txLoad := t.hal.txLoad } ∧
      t.sessions = (s.setSession { x with tx := x.tx.write 0 0 f }).sessions ∧
      t.ob Obj.txFrames = (s.ob Obj.txFrames + 1) % 2 ^ 32 ∧
      t = { s with obj := t.obj, hal := t.hal, sessions := t.sessions } ∧ s.ObjectsBut t [Obj.txFrames] := by
  let u := (s.setSession { x with tx := x.tx.write 0 0 f }).noticeTaken o rest x.handle
  obtain ⟨hal, count, frame, objects⟩ := halSent_plain (s := u) (f := s.noticeFrame o x f) nofun
  have sessions : (u.halSent (s.noticeFrame o x f)).sessions = u.sessions := by rw [frame]
  refine ⟨_, exec_noticeSend_session queue session fresh may, hal, sessions, count, ?_, objects⟩
  rw [sessions]
  exact frame

end State
end Sys2Proof.Machine

/-!
The registry of partners (R69, R70, R72): presence received and missed, and the exchange of capabilities.
-/

namespace Sys2Proof.Machine
namespace State

/-! ## What is kept of one partner's entry -/

/-- `t` follows `s` with the entry of partner `a` settled: its objects are as they were, what is known of the partner too but for
the requests of its capabilities, and no event on its way is lost. -/
structure Settles (a : Nat) (s t : State) : Prop where
  objects : ∀ k, keyIndex k = 0x1230 + a → t.ob k = s.ob k
  partner : t.partner a = { s.partner a with capTries := (t.partner a).capTries, capAsked := (t.partner a).capAsked }
  posted : ∀ o, o ∈ s.fab.inFlight → o ∈ t.fab.inFlight

theorem Settles.refl (a : Nat) (s : State) : Settles a s s := ⟨fun _ _ => rfl, rfl, fun _ h => h⟩

theorem Settles.trans {a : Nat} {s t u : State} (h : Settles a s t) (k : Settles a t u) : Settles a s u := by
  refine ⟨fun i entry => (k.objects i entry).trans (h.objects i entry), k.partner.trans ?_, fun o m => k.posted o (h.posted o m)⟩
  rw [h.partner]

theorem settles_post (s : State) (a ev v : Nat) : Settles a s (s.post ev v) :=
  ⟨fun k _ => ob_post s ev v k, rfl, fun _ h => mem_inFlight_post h ev v⟩

theorem lt_of_keyIndex {k a : Nat} (entry : keyIndex k = 0x1230 + a) (unit : a ≤ 16) : k < key 0x1800 0 := by
  unfold keyIndex at entry
  unfold key
  omega

theorem ne_txFrames_of_keyIndex {k a : Nat} (entry : keyIndex k = 0x1230 + a) : k ≠ Obj.txFrames := by
  rintro rfl
  have index : keyIndex Obj.txFrames = 0x1202 := keyIndex_key _ (by decide)
  omega

theorem moves_of_keyIndex {k a : Nat} (entry : keyIndex k = 0x1230 + a) (unit : a ≤ 16) : moves [] k = false := by
  unfold moves outputObject
  rw [entry]
  simp
  omega

theorem Sends.settles {a : Nat} {s t : State} (h : s.Sends t) (unit : a ≤ 16) : Settles a s t where
  objects := fun k entry => h.objects k (lt_of_keyIndex entry unit) (ne_txFrames_of_keyIndex entry)
  partner := by rw [h.partner]
  posted := fun o m => h.frame.fab ▸ m

/-- A capability request formed (R72). -/
def capabilityAsked (s : State) (a tries : Nat) : State :=
  let s := s.setPartner a { s.partner a with capTries := tries, capAsked := some s.now }
  { s with hal := { s.hal with capRequested := [a] } }

theorem askCapability_talks {s : State} (a tries : Nat) (talks : s.halyardTalks = true) :
    s.askCapability a tries = (s.capabilityAsked a tries).sendCapability 2 s.address [a] := by
  unfold askCapability
  rw [talks]
  rfl

theorem askCapability_silent {s : State} (a tries : Nat) (silent : s.halyardTalks = false) : s.askCapability a tries = s := by
  unfold askCapability
  rw [silent]
  rfl

theorem partner_capabilityAsked (s : State) (a tries : Nat) : (s.capabilityAsked a tries).partner a =
    { s.partner a with capTries := tries, capAsked := some s.now } := partner_setPartner_same s a _

theorem capTries_askCapability {s : State} (a tries : Nat) (talks : s.halyardTalks = true) :
    ((s.askCapability a tries).partner a).capTries = tries := by
  rw [askCapability_talks a tries talks, (sends_sendCapability ..).partner, partner_capabilityAsked]

theorem settles_askCapability (s : State) {a : Nat} (tries : Nat) (unit : a ≤ 16) : Settles a s (s.askCapability a tries) := by
  by_cases talks : s.halyardTalks = true
  · rw [askCapability_talks a tries talks]
    refine Settles.trans ?_ ((sends_sendCapability (s.capabilityAsked a tries) 2 s.address [a]).settles unit)
    refine ⟨fun _ _ => rfl, ?_, fun _ h => h⟩
    rw [partner_capabilityAsked]
  · rw [askCapability_silent a tries (Bool.eq_false_iff.mpr talks)]
    exact .refl a s

/-- The shares judged anew at a partner's budget, by the lender and by the borrower in the unit (R126–R129). -/
def sharesHeard (s : State) (a b : Nat) : State := (s.judgeShares.lenderHears a b).borrowerHears a b

theorem sharesHeard_quiet (s : State) (a b : Nat) (own : List Nat) : (s.sharesHeard a b).quiet own = s.quiet own :=
  ((borrowerHears_quiet ..).trans (lenderHears_quiet ..)).trans (judgeShares_quiet ..)

theorem hal_sharesHeard (s : State) (a b : Nat) : (s.sharesHeard a b).hal = s.hal := by
  have same := congrArg State.hal (s.sharesHeard_quiet a b [])
  exact same

theorem settles_sharesHeard (s : State) {a : Nat} (b : Nat) (unit : a ≤ 16) : Settles a s (s.sharesHeard a b) where
  objects := fun _ entry => ob_of_quiet (s.sharesHeard_quiet a b []) (moves_of_keyIndex entry unit)
  partner := by rw [partner_eq (congrArg Halyard.partners (hal_sharesHeard s a b))]
  posted := fun _ m => mem_inFlight_borrowerHears (mem_inFlight_lenderHears (mem_inFlight_judgeShares m) a b) a b

/-! ## Presence of a partner (R69, R70) -/

/-- The bytes that the MAC of a presence frame covers. -/
def presenceCovered (f : ChainPresence) : List Nat :=
  State.presenceBytes f.header.address f.addrState.toNat f.header.fresh.toNat f.idTag.toNat f.capDigest.toNat f.budget.toNat

theorem exec_presenceReceive_old {f : ChainPresence} {s : State} (hears : s.halyardHears = true) (unit : f.header.address.val ≠ 0)
    (old : f.header.fresh.toNat ≤ (s.partner f.header.address).fresh) :
    exec (.presenceReceive f) s = .next (s.bump Obj.chainRejects) := by
  have rejected : s.chainAccepted f.header (presenceCovered f) = false := by
    unfold chainAccepted
    rw [decide_eq_false (Nat.not_lt.mpr old), Bool.false_and]
  show execPresenceReceive f s = _
  unfold execPresenceReceive
  unfold presenceCovered at rejected
  simp [hears, unit, rejected]

theorem exec_presenceReceive {f : ChainPresence} {s : State} (hears : s.halyardHears = true) (unit : f.header.address.val ≠ 0)
    (accepted : s.chainAccepted f.header (presenceCovered f) = true) :
    exec (.presenceReceive f) s = .next (s.presenceTaken f) := by
  show execPresenceReceive f s = _
  unfold execPresenceReceive
  unfold presenceCovered at accepted
  simp [hears, unit, accepted]

/-- The state in which a partner's frame has been heard, before its entry moves. -/
def presenceHeard (s : State) (f : ChainPresence) : State :=
  (s.setPartner f.header.address { s.partner f.header.address with
    fresh := f.header.fresh.toNat, addrState := f.addrState.toNat, capDigest := f.capDigest.toNat
    budget := f.budget.toNat, heard := true }).setOb (Obj.ptLastSeen f.header.address) (s.now % 2 ^ 64)

/-- The state in which the entry has moved. -/
def presenceMoved (s : State) (f : ChainPresence) : State :=
  (s.presenceHeard f).registryMove f.header.address f.addrState.toNat f.idTag.toNat

theorem presenceTaken_partner {s : State} {f : ChainPresence} (other : f.header.address.val ≠ s.address) :
    let a := f.header.address.val
    let before := (s.presenceHeard f).ob (Obj.ptState a)
    s.presenceTaken f = (if before = (s.presenceMoved f).ob (Obj.ptState a) && before ≠ 0 &&
        (s.partner a).capDigest ≠ f.capDigest.toNat then (s.presenceMoved f).askCapability a 1
      else s.presenceMoved f).sharesHeard a f.budget.toNat := by
  unfold presenceTaken
  exact if_neg other

theorem settles_presenceTaken {s : State} {f : ChainPresence} (other : f.header.address.val ≠ s.address) :
    Settles f.header.address.val (s.presenceMoved f) (s.presenceTaken f) := by
  have unit : f.header.address.val ≤ 16 := Nat.le_of_lt_succ f.header.address.isLt
  rw [presenceTaken_partner other]
  refine Settles.trans ?_ (settles_sharesHeard _ _ unit)
  split
  · exact settles_askCapability _ 1 unit
  · exact .refl _ _

/-- A frame that finds the entry empty asks for no capability a second time. -/
theorem presenceTaken_empty {s : State} {f : ChainPresence} (other : f.header.address.val ≠ s.address)
    (empty : (s.presenceHeard f).ob (Obj.ptState f.header.address.val) = 0) :
    s.presenceTaken f = (s.presenceMoved f).sharesHeard f.header.address.val f.budget.toNat := by
  rw [presenceTaken_partner other, empty]
  simp

/-! ### What is heard of the partner -/

/-- `t` follows `s` with what was last heard of partner `a` as it was. -/
structure KeepsHeard (a : Nat) (s t : State) : Prop where
  lastSeen : t.ob (Obj.ptLastSeen a) = s.ob (Obj.ptLastSeen a)
  fresh : (t.partner a).fresh = (s.partner a).fresh
  budget : (t.partner a).budget = (s.partner a).budget

theorem KeepsHeard.trans {a : Nat} {s t u : State} (h : KeepsHeard a s t) (k : KeepsHeard a t u) : KeepsHeard a s u :=
  ⟨k.lastSeen.trans h.lastSeen, k.fresh.trans h.fresh, k.budget.trans h.budget⟩

theorem KeepsHeard.refl (a : Nat) (s : State) : KeepsHeard a s s := ⟨rfl, rfl, rfl⟩

theorem Settles.keepsHeard {a : Nat} {s t : State} (h : Settles a s t) : KeepsHeard a s t where
  lastSeen := h.objects _ (keyIndex_ptLastSeen a)
  fresh := by rw [h.partner]
  budget := by rw [h.partner]

theorem KeepsEntry.keepsHeard {a : Nat} {s t : State} (h : KeepsEntry a s t) : KeepsHeard a s t where
  lastSeen := h.objects _ (keyIndex_ptLastSeen a)
  fresh := by rw [h.partner]
  budget := by rw [h.partner]

theorem ptState_ne_ptLastSeen (a b : Nat) : Obj.ptState a ≠ Obj.ptLastSeen b := by unfold Obj.ptState Obj.ptLastSeen key; omega
theorem ptSerial_ne_ptLastSeen (a b : Nat) : Obj.ptSerial a ≠ Obj.ptLastSeen b := by unfold Obj.ptSerial Obj.ptLastSeen key; omega
theorem ptState_ne_ptSerial (a b : Nat) : Obj.ptState a ≠ Obj.ptSerial b := by unfold Obj.ptState Obj.ptSerial key; omega

theorem keepsHeard_setOb {a k : Nat} (s : State) (v : Nat) (other : k ≠ Obj.ptLastSeen a) : KeepsHeard a s (s.setOb k v) :=
  ⟨ob_setOb_other s v other, rfl, rfl⟩

theorem keepsHeard_setPartner {a : Nat} (s : State) {p : Partner} (fresh : p.fresh = (s.partner a).fresh)
    (budget : p.budget = (s.partner a).budget) : KeepsHeard a s (s.setPartner a p) := by
  refine ⟨rfl, ?_, ?_⟩
  · rw [partner_setPartner_same, fresh]
  · rw [partner_setPartner_same, budget]

/-- An entry becomes present (R70). -/
def presentEntry (s : State) (a tag : Nat) : State :=
  (s.setOb (Obj.ptState a) 1).setPartner a { s.partner a with idTag := tag, pendingTag := none }

theorem entryPresent_cases (s : State) (a tag : Nat) :
    s.entryPresent a tag = s.presentEntry a tag ∨ ∃ v, s.entryPresent a tag = (s.presentEntry a tag).setOb (Obj.ptSerial a) v := by
  unfold entryPresent presentEntry
  dsimp only
  split
  · exact .inr ⟨_, rfl⟩
  · split
    · exact .inl rfl
    · exact .inr ⟨_, rfl⟩

theorem keepsHeard_entryPresent (s : State) (a tag : Nat) : KeepsHeard a s (s.entryPresent a tag) := by
  have present : KeepsHeard a s (s.presentEntry a tag) :=
    (keepsHeard_setOb s 1 (ptState_ne_ptLastSeen a a)).trans (keepsHeard_setPartner _ rfl rfl)
  obtain e | ⟨v, e⟩ := s.entryPresent_cases a tag
  · rw [e]
    exact present
  · rw [e]
    exact present.trans (keepsHeard_setOb _ v (ptSerial_ne_ptLastSeen a a))

/-- A present entry shows so under the tag heard. -/
theorem entryPresent_shows (s : State) (a tag : Nat) : (s.entryPresent a tag).ob (Obj.ptState a) = 1 ∧
    ((s.entryPresent a tag).partner a).idTag = tag ∧ s.OnlyHal (s.entryPresent a tag) := by
  have state : (s.presentEntry a tag).ob (Obj.ptState a) = 1 := ob_setOb_same s _ 1
  have known : ((s.presentEntry a tag).partner a).idTag = tag := by
    unfold presentEntry
    rw [partner_setPartner_same]
  obtain e | ⟨v, e⟩ := s.entryPresent_cases a tag
  · rw [e]
    exact ⟨state, known, rfl⟩
  · rw [e]
    exact ⟨(ob_setOb_other _ v (ptState_ne_ptSerial a a).symm).trans state, known, rfl⟩

/-- The identity of a pending holder noted (R70). -/
def pendingNoted (s : State) (a st tag : Nat) : State :=
  if st = 1 then s.setPartner a { s.partner a with pendingTag := some tag } else s

/-- An entry becomes pending (R70). -/
def pendingEntry (s : State) (a st tag : Nat) : State := (s.setOb (Obj.ptState a) 3).pendingNoted a st tag

theorem onlyHal_pendingNoted (s : State) (a st tag : Nat) : s.OnlyHal (s.pendingNoted a st tag) := by
  unfold pendingNoted
  split <;> rfl

theorem onlyHal_pendingEntry (s : State) (a st tag : Nat) : s.OnlyHal (s.pendingEntry a st tag) :=
  (onlyHal_setOb s (Obj.ptState a) 3).trans (onlyHal_pendingNoted ..)

theorem ob_pendingNoted (s : State) (a st tag k : Nat) : (s.pendingNoted a st tag).ob k = s.ob k := by
  unfold pendingNoted
  split <;> rfl

theorem keepsHeard_pendingNoted (s : State) (a st tag : Nat) : KeepsHeard a s (s.pendingNoted a st tag) := by
  unfold pendingNoted
  split
  · exact keepsHeard_setPartner s rfl rfl
  · exact .refl a s

theorem keepsHeard_pendingEntry (s : State) (a st tag : Nat) : KeepsHeard a s (s.pendingEntry a st tag) :=
  (keepsHeard_setOb s 3 (ptState_ne_ptLastSeen a a)).trans (keepsHeard_pendingNoted ..)

/-! ### The rows of the registry (R70) -/

theorem registryMove_empty_pending {s : State} {a st tag : Nat} (empty : s.ob (Obj.ptState a) = 0) (pending : st = 1) :
    s.registryMove a st tag = ((s.pendingEntry a st tag).post 1456 a).askCapability a 1 := by
  unfold registryMove
  rw [empty]
  exact if_pos pending

theorem registryMove_empty_confirmed {s : State} {a st tag : Nat} (empty : s.ob (Obj.ptState a) = 0) (confirmed : st = 2) :
    s.registryMove a st tag = ((s.entryPresent a tag).post 1456 a).askCapability a 1 := by
  unfold registryMove
  rw [empty, confirmed]
  rfl

theorem registryMove_detached_back {s : State} {a st tag : Nat} (detached : s.ob (Obj.ptState a) = 2)
    (known : tag = (s.partner a).idTag) : s.registryMove a st tag = ((s.entryPresent a tag).post 1456 a).askCapability a 1 := by
  unfold registryMove
  rw [detached]
  exact if_pos known

theorem registryMove_detached_new {s : State} {a st tag : Nat} (detached : s.ob (Obj.ptState a) = 2)
    (unknown : tag ≠ (s.partner a).idTag) :
    s.registryMove a st tag = ((s.pendingEntry a st tag).post 1460 a).askCapability a 1 := by
  unfold registryMove
  rw [detached]
  exact if_neg unknown

/-- An entry that waited becomes present, and the serial's other entries empty. -/
def entryTaken (s : State) (a tag : Nat) : State :=
  let s := s.entryPresent a tag
  s.emptyEntries (s.ob (Obj.ptSerial a)) a

theorem registryMove_pending_confirmed {s : State} {a st tag : Nat} (waits : s.ob (Obj.ptState a) = 3) (confirmed : st = 2)
    (holder : (s.partner a).pendingTag = some tag) :
    s.registryMove a st tag = ((s.entryTaken a tag).post 1461 a).askCapability a 1 := by
  unfold registryMove
  rw [waits]
  exact if_pos (by simp [confirmed, holder])

theorem keepsHeard_entryTaken (s : State) (a tag : Nat) : KeepsHeard a s (s.entryTaken a tag) :=
  (keepsHeard_entryPresent s a tag).trans (keepsEntry_emptyEntries ..).keepsHeard

theorem entryTaken_shows (s : State) (a tag : Nat) :
    (s.entryTaken a tag).ob (Obj.ptState a) = 1 ∧ s.OnlyHal (s.entryTaken a tag) := by
  obtain ⟨state, -, frame⟩ := s.entryPresent_shows a tag
  exact ⟨((keepsEntry_emptyEntries ..).objects _ (keyIndex_ptState a)).trans state,
    frame.trans (movesRegistry_emptyEntries ..).frame⟩

theorem keepsHeard_asked {s t : State} {a : Nat} (h : KeepsHeard a s t) (ev : Nat) (unit : a ≤ 16) :
    KeepsHeard a s ((t.post ev a).askCapability a 1) :=
  (h.trans (u := t.post ev a) ⟨rfl, rfl, rfl⟩).trans (settles_askCapability _ 1 unit).keepsHeard

theorem keepsHeard_registryMove (s : State) {a : Nat} (st tag : Nat) (unit : a ≤ 16) :
    KeepsHeard a s (s.registryMove a st tag) := by
  unfold registryMove
  extract_lets p pend
  split
  · split
    · exact keepsHeard_asked (keepsHeard_pendingEntry s a st tag) 1456 unit
    · split
      · exact keepsHeard_asked (keepsHeard_entryPresent s a tag) 1456 unit
      · exact .refl a s
  · split
    · exact keepsHeard_asked (keepsHeard_entryPresent s a tag) 1456 unit
    · exact keepsHeard_asked (keepsHeard_pendingEntry s a st tag) 1460 unit
  · split
    · exact keepsHeard_asked (keepsHeard_entryTaken s a tag) 1461 unit
    · exact keepsHeard_pendingNoted s a st tag
  · exact .refl a s

/-! ### A partner's frame taken -/

theorem ptState_presenceHeard (s : State) (f : ChainPresence) (a : Nat) :
    (s.presenceHeard f).ob (Obj.ptState a) = s.ob (Obj.ptState a) := ob_setOb_other _ _ (ptState_ne_ptLastSeen _ _).symm

theorem ptSerial_presenceHeard (s : State) (f : ChainPresence) (a : Nat) :
    (s.presenceHeard f).ob (Obj.ptSerial a) = s.ob (Obj.ptSerial a) := ob_setOb_other _ _ (ptSerial_ne_ptLastSeen _ _).symm

theorem partner_presenceHeard (s : State) (f : ChainPresence) : (s.presenceHeard f).partner f.header.address =
    { s.partner f.header.address with
      fresh := f.header.fresh.toNat, addrState := f.addrState.toNat, capDigest := f.capDigest.toNat
      budget := f.budget.toNat, heard := true } := partner_setPartner_same s _ _

/-- What is heard of a partner stands after its frame has been taken. -/
theorem presenceTaken_heard {s : State} {f : ChainPresence} (other : f.header.address.val ≠ s.address) :
    let a := f.header.address.val
    (s.presenceTaken f).ob (Obj.ptLastSeen a) = s.now % 2 ^ 64 ∧
      ((s.presenceTaken f).partner a).fresh = f.header.fresh.toNat ∧
      ((s.presenceTaken f).partner a).budget = f.budget.toNat := by
  have moved : KeepsHeard f.header.address.val (s.presenceHeard f) (s.presenceMoved f) :=
    keepsHeard_registryMove _ _ _ (Nat.le_of_lt_succ f.header.address.isLt)
  obtain ⟨lastSeen, fresh, budget⟩ := moved.trans (settles_presenceTaken other).keepsHeard
  rw [partner_presenceHeard] at fresh budget
  exact ⟨lastSeen.trans (ob_setOb_same ..), fresh, budget⟩

/-- A row of the registry that posts an event and asks for the partner's capabilities: the entry it makes stands, and the event is on
its way. -/
theorem presenceTaken_row {s u : State} {f : ChainPresence} {ev : Nat} (other : f.header.address.val ≠ s.address)
    (frame : (s.presenceHeard f).OnlyHal u)
    (moved : s.presenceMoved f = (u.post ev f.header.address.val).askCapability f.header.address.val 1) :
    Settles f.header.address.val u (s.presenceTaken f) ∧ ⟨s.now, ev, f.header.address.val⟩ ∈ (s.presenceTaken f).fab.inFlight := by
  have unit : f.header.address.val ≤ 16 := Nat.le_of_lt_succ f.header.address.isLt
  have asked : Settles f.header.address.val (u.post ev f.header.address.val) (s.presenceMoved f) :=
    moved ▸ settles_askCapability _ 1 unit
  have settles := asked.trans (settles_presenceTaken other)
  have now : u.now = s.now := frame.now
  exact ⟨(settles_post u _ ev _).trans settles, settles.posted _ (now ▸ mem_of_raised (raised_post u ev _) (by omega))⟩

/-- No object of a partner's entry says whether the unit talks. -/
theorem halyardTalks_setOb {s : State} {k a : Nat} (v : Nat) (entry : keyIndex k = 0x1230 + a) (unit : a ≤ 16) :
    (s.setOb k v).halyardTalks = s.halyardTalks := by
  have away {j : Nat} (h : keyIndex j < 0x1230 ∨ 0x1240 < keyIndex j) : k ≠ j := by
    rintro rfl
    omega
  unfold halyardTalks halyardServes halyardHears domainIsOn State.address
  rw [ob_setOb_other s v (away (j := Obj.domainOn 2) (by decide)), ob_setOb_other s v (away (j := Obj.unitAddress) (by decide)),
    ob_setOb_other s v (away (j := Obj.addrState) (by decide))]
  rfl

theorem halyardTalks_presenceHeard (s : State) (f : ChainPresence) : (s.presenceHeard f).halyardTalks = s.halyardTalks :=
  halyardTalks_setOb _ (keyIndex_ptLastSeen _) (Nat.le_of_lt_succ f.header.address.isLt)

theorem halyardTalks_pendingEntry {s : State} {a : Nat} (st tag : Nat) (unit : a ≤ 16) :
    (s.pendingEntry a st tag).halyardTalks = s.halyardTalks := by
  rw [← halyardTalks_setOb (s := s) 3 (keyIndex_ptState a) unit]
  unfold pendingEntry pendingNoted
  split <;> rfl

theorem presenceTaken_empty_pending {s : State} {f : ChainPresence} (other : f.header.address.val ≠ s.address)
    (empty : s.ob (Obj.ptState f.header.address) = 0) (pending : f.addrState = 1) :
    (s.presenceTaken f).ob (Obj.ptState f.header.address) = 3 ∧
      ⟨s.now, 1456, f.header.address.val⟩ ∈ (s.presenceTaken f).fab.inFlight ∧
      (s.halyardTalks = true → ((s.presenceTaken f).partner f.header.address).capTries = 1) := by
  have unit : f.header.address.val ≤ 16 := Nat.le_of_lt_succ f.header.address.isLt
  have empty' : (s.presenceHeard f).ob (Obj.ptState f.header.address.val) = 0 := (ptState_presenceHeard ..).trans empty
  let u := (s.presenceHeard f).pendingEntry f.header.address.val f.addrState.toNat f.idTag.toNat
  have moved : s.presenceMoved f = (u.post 1456 f.header.address.val).askCapability f.header.address.val 1 :=
    registryMove_empty_pending empty' (congrArg BitVec.toNat pending)
  obtain ⟨settles, posted⟩ := presenceTaken_row other (onlyHal_pendingEntry ..) moved
  refine ⟨(settles.objects _ (keyIndex_ptState _)).trans ((ob_pendingNoted ..).trans (ob_setOb_same ..)), posted, fun talks => ?_⟩
  have talks' : (u.post 1456 f.header.address.val).halyardTalks = true :=
    (halyardTalks_pendingEntry _ _ unit).trans ((halyardTalks_presenceHeard s f).trans talks)
  rw [presenceTaken_empty other empty', partner_eq (congrArg Halyard.partners (hal_sharesHeard ..)), moved,
    capTries_askCapability _ 1 talks']

theorem presenceTaken_present {s : State} {f : ChainPresence} (other : f.header.address.val ≠ s.address)
    (moved : s.presenceMoved f = (((s.presenceHeard f).entryPresent f.header.address.val f.idTag.toNat).post 1456
      f.header.address.val).askCapability f.header.address.val 1) :
    (s.presenceTaken f).ob (Obj.ptState f.header.address) = 1 ∧
      ⟨s.now, 1456, f.header.address.val⟩ ∈ (s.presenceTaken f).fab.inFlight ∧
      ((s.presenceTaken f).partner f.header.address).idTag = f.idTag.toNat := by
  obtain ⟨state, known, frame⟩ := (s.presenceHeard f).entryPresent_shows f.header.address.val f.idTag.toNat
  obtain ⟨settles, posted⟩ := presenceTaken_row other frame moved
  refine ⟨(settles.objects _ (keyIndex_ptState _)).trans state, posted, ?_⟩
  rw [settles.partner]
  exact known

theorem presenceTaken_detached_new {s : State} {f : ChainPresence} (other : f.header.address.val ≠ s.address)
    (detached : s.ob (Obj.ptState f.header.address) = 2) (unknown : f.idTag.toNat ≠ (s.partner f.header.address).idTag) :
    (s.presenceTaken f).ob (Obj.ptState f.header.address) = 3 ∧
      ⟨s.now, 1460, f.header.address.val⟩ ∈ (s.presenceTaken f).fab.inFlight ∧
      (s.presenceTaken f).ob (Obj.ptSerial f.header.address) = s.ob (Obj.ptSerial f.header.address) := by
  let u := (s.presenceHeard f).pendingEntry f.header.address.val f.addrState.toNat f.idTag.toNat
  have moved : s.presenceMoved f = (u.post 1460 f.header.address.val).askCapability f.header.address.val 1 :=
    registryMove_detached_new ((ptState_presenceHeard ..).trans detached) (by rw [partner_presenceHeard]; exact unknown)
  obtain ⟨settles, posted⟩ := presenceTaken_row other (onlyHal_pendingEntry ..) moved
  refine ⟨(settles.objects _ (keyIndex_ptState _)).trans ((ob_pendingNoted ..).trans (ob_setOb_same ..)), posted, ?_⟩
  rw [settles.objects _ (keyIndex_ptSerial _), ← ptSerial_presenceHeard s f]
  exact (ob_pendingNoted ..).trans (ob_setOb_other _ 3 (ptState_ne_ptSerial _ _))

theorem presenceTaken_pending_confirmed {s : State} {f : ChainPresence} (other : f.header.address.val ≠ s.address)
    (waits : s.ob (Obj.ptState f.header.address) = 3) (confirmed : f.addrState = 2)
    (holder : (s.partner f.header.address).pendingTag = some f.idTag.toNat) :
    (s.presenceTaken f).ob (Obj.ptState f.header.address) = 1 ∧
      ⟨s.now, 1461, f.header.address.val⟩ ∈ (s.presenceTaken f).fab.inFlight := by
  obtain ⟨state, frame⟩ := (s.presenceHeard f).entryTaken_shows f.header.address.val f.idTag.toNat
  have moved := registryMove_pending_confirmed ((ptState_presenceHeard s f _).trans waits)
    (congrArg BitVec.toNat confirmed) (by rw [partner_presenceHeard]; exact holder)
  obtain ⟨settles, posted⟩ := presenceTaken_row other frame moved
  exact ⟨(settles.objects _ (keyIndex_ptState _)).trans state, posted⟩

/-! ## A frame of the own address (R70) -/

/-- The state in which a frame of the own address has been heard. -/
def ownHeard (s : State) (f : ChainPresence) : State :=
  s.setPartner f.header.address { s.partner f.header.address with fresh := f.header.fresh.toNat }

theorem presenceTaken_own {s : State} {f : ChainPresence} (own : f.header.address.val = s.address)
    (same : f.idTag.toNat = State.identityTag Part.serial ∨ s.ob Obj.addrState = 3) : s.presenceTaken f = s.ownHeard f := by
  have heard : (f.idTag.toNat = State.identityTag Part.serial || (s.ownHeard f).ob Obj.addrState = 3) = true := by
    rw [Bool.or_eq_true, decide_eq_true_eq, decide_eq_true_eq]
    exact same
  unfold presenceTaken
  exact (if_pos own).trans (if_pos heard)

/-- The state of a unit in conflict with another of its address. -/
def ownConflict (s : State) (a : Nat) : State := ((s.setOb Obj.addrState 3).setOb (Obj.ptState a) 4).post 1462 a

theorem presenceTaken_conflict {s : State} {f : ChainPresence} (unit : f.header.address.val ≠ 0)
    (own : f.header.address.val = s.address) (foreign : f.idTag.toNat ≠ State.identityTag Part.serial)
    (peace : s.ob Obj.addrState ≠ 3) : s.presenceTaken f = (s.ownHeard f).ownConflict f.header.address.val := by
  have heard : ¬ (f.idTag.toNat = State.identityTag Part.serial || (s.ownHeard f).ob Obj.addrState = 3) = true := by
    rw [Bool.or_eq_true, decide_eq_true_eq, decide_eq_true_eq]
    exact not_or.mpr ⟨foreign, peace⟩
  have conflict : ((s.ownHeard f).setOb Obj.addrState 3).ob Obj.addrState = 3 := ob_setOb_same ..
  have address : ((s.ownHeard f).setOb Obj.addrState 3).address = f.header.address.val :=
    (ob_setOb_other _ 3 (by decide)).trans own.symm
  have shown := showOwn_conflict (s := (s.ownHeard f).setOb Obj.addrState 3) (address ▸ unit) (by rw [conflict]; decide)
    (by rw [conflict]; decide)
  rw [address] at shown
  unfold presenceTaken ownConflict
  rw [← shown]
  exact (if_pos own).trans (if_neg heard)

theorem ownConflict_shows (s : State) (a : Nat) : (s.ownConflict a).ob Obj.addrState = 3 ∧
    (s.ownConflict a).halyardSends = false ∧ (s.ownConflict a).ob (Obj.ptState a) = 4 := by
  have other : Obj.ptState a ≠ Obj.addrState := by
    unfold Obj.ptState Obj.addrState key
    omega
  have state : (s.ownConflict a).ob Obj.addrState = 3 := (ob_setOb_other _ 4 other).trans (ob_setOb_same ..)
  refine ⟨state, ?_, ob_setOb_same (s.setOb Obj.addrState 3) _ 4⟩
  unfold halyardSends halyardTalks
  rw [state]
  simp

/-! ## Silence of a partner (R70, R129) -/

theorem OnlyArb.ob {s t : State} (h : s.OnlyArb t) (k : Nat) : t.ob k = s.ob k := by
  unfold OnlyArb at h
  rw [h]
  rfl

theorem onlyArb_dropLoan (s : State) (l : Nat) : s.OnlyArb (s.dropLoan l) := by
  unfold dropLoan
  exact onlyArb_ite rfl rfl

theorem borrowed_dropLoan (s : State) (l : Nat) : (s.dropLoan l).arb.borrowed.get? l = none := by
  unfold dropLoan
  split
  case isTrue noLoan => exact Option.isNone_iff_eq_none.mp noLoan
  case isFalse => exact Table.get?_erase_same ..

theorem borrowed_judgeShares (s : State) : s.judgeShares.arb.borrowed = s.arb.borrowed := by
  unfold judgeShares
  rw [arb_postIf]

/-- An entry detached (R70). -/
def entryDetached (s : State) (a : Nat) : State :=
  (s.setOb (Obj.ptState a) 2).setPartner a { s.partner a with heard := false, pendingTag := none, capAsked := none }

/-- The same told, and the loan of the partner, if any, not to be taken again at once. -/
def loanIgnored (s : State) (a : Nat) : State :=
  let t := (s.entryDetached a).post 1457 a
  if (t.arb.borrowed.get? a).isSome then
    { t with arb := { t.arb with ignored := a :: t.arb.ignored.filter (fun i => i != a) } }
  else t

theorem presenceLost_eq (s : State) (a : Nat) : s.presenceLost a = ((s.loanIgnored a).dropLoan a).judgeShares := rfl

theorem presenceLost_shows (s : State) {a : Nat} (unit : a ≤ 16) :
    (s.presenceLost a).ob (Obj.ptState a) = 2 ∧ ⟨s.now, 1457, a⟩ ∈ (s.presenceLost a).fab.inFlight ∧
      (s.presenceLost a).arb.borrowed.get? a = none ∧ (s.entryDetached a).OnlyArb (s.presenceLost a) := by
  have ignored : (s.entryDetached a).OnlyArb (s.loanIgnored a) := onlyArb_ite rfl rfl
  have told : ⟨s.now, 1457, a⟩ ∈ (s.loanIgnored a).fab.inFlight :=
    have posted := mem_of_raised (raised_post (s.entryDetached a) 1457 a) (by omega)
    mem_inFlight_ite posted posted
  have frame := (ignored.trans (onlyArb_dropLoan _ a)).trans (onlyArb_judgeShares _)
  rw [presenceLost_eq]
  refine ⟨(frame.ob _).trans (ob_setOb_same s _ 2), mem_inFlight_judgeShares (mem_inFlight_dropLoan told a), ?_, frame⟩
  rw [borrowed_judgeShares]
  exact borrowed_dropLoan ..

theorem exec_presenceTimeout {a : Fin 17} {s : State} (hears : s.halyardHears = true) (unit : a.val ≠ 0)
    (other : a.val ≠ s.address) (entry : s.ob (Obj.ptState a) = 1 ∨ s.ob (Obj.ptState a) = 3)
    (silent : s.passed (s.ob (Obj.ptLastSeen a)) (ms (10 * s.cf Obj.presenceTimeout)) = true) :
    exec (.presenceTimeout a) s = .next (s.presenceLost a) := whenever_of (by simp [hears, unit, other, entry, silent]) _ _

/-! ## Capabilities (R72) -/

/-- The state in which a capability request naming the unit has been heard. -/
def requestHeard (s : State) (f : ChainHeader) : State :=
  let s := s.setPartner f.address { s.partner f.address with fresh := f.fresh.toNat }
  { s with hal := { s.hal with capSent := s.hal.capSent + 1 } }

theorem exec_capabilityRequest {f : ChainHeader} {n : Fin 17} {s : State} (talks : s.halyardTalks = true)
    (unit : f.address.val ≠ 0) (own : n.val = s.address)
    (accepted : s.chainAccepted f (State.capabilityBytes 2 f.address f.fresh.toNat [n.val]) = true) :
    exec (.capabilityRequest f n) s = .next ((s.requestHeard f).sendCapability 3 s.address s.ownCapability) := by
  have hears : s.halyardHears = true := by
    unfold halyardTalks halyardServes at talks
    simp only [Bool.and_eq_true] at talks
    exact talks.1.1
  show execCapabilityRequest f n s = _
  unfold execCapabilityRequest
  rw [if_neg (by simp [hears, unit]), if_neg (by simp [accepted])]
  refine whenever_of ?_ _ _
  rw [Bool.and_eq_true, decide_eq_true_eq]
  exact ⟨own, talks⟩

/-- What a capability response makes known of a partner. -/
def respondedPartner (p : Partner) (f : ChainHeader) (r : CapabilityRecord) : Partner :=
  { p with
    fresh := f.fresh.toNat, capTries := 0, capAsked := none, capUnknown := false, maxShare := r.maxShare.toNat
    serial := r.serial.toNat, capIds := (r.capIds.take 16).map (fun c => c.toNat), stepping := r.stepping.toNat
    grade := r.grade.toNat, ensignVersion := r.ensign.toNat, hoistVersion := r.hoist.toNat
    nodeVersion := r.node.toNat }

/-- The state in which a capability response has entered the registry. -/
def responseTaken (s : State) (f : ChainHeader) (r : CapabilityRecord) : State :=
  (((s.setPartner f.address (respondedPartner (s.partner f.address) f r)).setOb (Obj.ptMastVersion f.address) r.mast.toNat).setOb
    (Obj.ptCompatEpoch f.address) r.epoch.toNat).setOb (Obj.ptSchema f.address) r.schema.toNat

theorem exec_capabilityResponse {f : ChainHeader} {r : CapabilityRecord} {s : State} (hears : s.halyardHears = true)
    (unit : f.address.val ≠ 0) (other : f.address.val ≠ s.address)
    (accepted : s.chainAccepted f (State.capabilityBytes 3 f.address f.fresh.toNat (State.capabilityContent r)) = true) :
    exec (.capabilityResponse f r) s = whenever
      ((s.responseTaken f r).ob (Obj.ptState f.address) = 1 &&
        State.identityTag r.serial.toNat = (s.partner f.address).idTag) (s.responseTaken f r)
      (((s.responseTaken f r).setOb (Obj.ptSerial f.address) r.serial.toNat).emptyEntries r.serial.toNat f.address) := by
  show execCapabilityResponse f r s = _
  unfold execCapabilityResponse
  dsimp only
  rw [if_neg (by simp [hears, unit]), if_neg (by simp [accepted]), if_neg other]
  rfl

theorem exec_capabilityRetry {a : Fin 17} {asked : Tick} {s : State} (hears : s.halyardHears = true)
    (waits : (s.partner a).capAsked = some asked) (late : s.passed asked (ms 100) = true) :
    exec (.capabilityRetry a) s = .next (if (s.partner a).capTries < 4 then s.askCapability a ((s.partner a).capTries + 1)
      else (s.setPartner a { s.partner a with capAsked := none, capUnknown := true }).post 1463 a) := by
  show execCapabilityRetry a s = _
  unfold execCapabilityRetry
  dsimp only
  rw [waits]
  exact whenever_of (by rw [hears, late]; rfl) _ _

/-- The objects that a capability response shows of a partner. -/
theorem responseTaken_shows (s : State) (f : ChainHeader) (r : CapabilityRecord) :
    let a := f.address.val
    (s.responseTaken f r).ob (Obj.ptMastVersion a) = r.mast.toNat ∧
      (s.responseTaken f r).ob (Obj.ptCompatEpoch a) = r.epoch.toNat ∧ (s.responseTaken f r).ob (Obj.ptSchema a) = r.schema.toNat ∧
      s.ObjectsBut (s.responseTaken f r) [Obj.ptMastVersion a, Obj.ptCompatEpoch a, Obj.ptSchema a] := by
  have mastEpoch : Obj.ptCompatEpoch f.address ≠ Obj.ptMastVersion f.address := by
    unfold Obj.ptCompatEpoch Obj.ptMastVersion key
    omega
  have mastSchema : Obj.ptSchema f.address ≠ Obj.ptMastVersion f.address := by
    unfold Obj.ptSchema Obj.ptMastVersion key
    omega
  have epochSchema : Obj.ptSchema f.address ≠ Obj.ptCompatEpoch f.address := by
    unfold Obj.ptSchema Obj.ptCompatEpoch key
    omega
  unfold responseTaken
  refine ⟨?_, ?_, ob_setOb_same .., ?_⟩
  · rw [ob_setOb_other _ _ mastSchema, ob_setOb_other _ _ mastEpoch, ob_setOb_same]
  · rw [ob_setOb_other _ _ epochSchema, ob_setOb_same]
  · exact objectsBut_setOb (objectsBut_setOb (objectsBut_setOb (fun _ _ => rfl) (by simp) _) (by simp) _) (by simp) _

theorem ptState_responseTaken (s : State) (f : ChainHeader) (r : CapabilityRecord) :
    (s.responseTaken f r).ob (Obj.ptState f.address) = s.ob (Obj.ptState f.address) := by
  refine (s.responseTaken_shows f r).2.2.2 _ ?_
  simp only [List.mem_cons, List.not_mem_nil, or_false, not_or]
  unfold Obj.ptState Obj.ptMastVersion Obj.ptCompatEpoch Obj.ptSchema key
  omega

theorem onlyHal_responseTaken (s : State) (f : ChainHeader) (r : CapabilityRecord) : s.OnlyHal (s.responseTaken f r) :=
  (onlyHal_setPartner ..).trans ((onlyHal_setOb ..).trans ((onlyHal_setOb ..).trans (onlyHal_setOb ..)))

theorem partner_responseTaken (s : State) (f : ChainHeader) (r : CapabilityRecord) :
    (s.responseTaken f r).partner f.address = respondedPartner (s.partner f.address) f r := partner_setPartner_same s _ _

/-! ### The commands of the registry -/

theorem presenceReceive_partner {f : ChainPresence} {s : State} (hears : s.halyardHears = true)
    (unit : f.header.address.val ≠ 0) (other : f.header.address.val ≠ s.address)
    (accepted : s.chainAccepted f.header (presenceCovered f) = true) :
    let a := f.header.address.val
    ∃ t, exec (.presenceReceive f) s = .next t ∧ t.ob (Obj.ptLastSeen a) = s.now % 2 ^ 64 ∧
      (t.partner a).fresh = f.header.fresh.toNat ∧ (t.partner a).budget = f.budget.toNat ∧
      (s.ob (Obj.ptState a) = 0 → f.addrState = 1 →
        t.ob (Obj.ptState a) = 3 ∧ ⟨s.now, 1456, a⟩ ∈ t.fab.inFlight ∧
        (s.halyardTalks = true → (t.partner a).capTries = 1)) ∧
      (s.ob (Obj.ptState a) = 0 → f.addrState = 2 →
        t.ob (Obj.ptState a) = 1 ∧ ⟨s.now, 1456, a⟩ ∈ t.fab.inFlight ∧ (t.partner a).idTag = f.idTag.toNat) ∧
      (s.ob (Obj.ptState a) = 2 → f.idTag.toNat = (s.partner a).idTag →
        t.ob (Obj.ptState a) = 1 ∧ ⟨s.now, 1456, a⟩ ∈ t.fab.inFlight) ∧
      (s.ob (Obj.ptState a) = 2 → f.idTag.toNat ≠ (s.partner a).idTag →
        t.ob (Obj.ptState a) = 3 ∧ ⟨s.now, 1460, a⟩ ∈ t.fab.inFlight ∧ t.ob (Obj.ptSerial a) = s.ob (Obj.ptSerial a)) ∧
      (s.ob (Obj.ptState a) = 3 → f.addrState = 2 → (s.partner a).pendingTag = some f.idTag.toNat →
        t.ob (Obj.ptState a) = 1 ∧ ⟨s.now, 1461, a⟩ ∈ t.fab.inFlight) := by
  intro a
  obtain ⟨lastSeen, fresh, budget⟩ := presenceTaken_heard other
  refine ⟨_, exec_presenceReceive hears unit accepted, lastSeen, fresh, budget, presenceTaken_empty_pending other, ?_, ?_,
    presenceTaken_detached_new other, presenceTaken_pending_confirmed other⟩
  · intro empty confirmed
    exact presenceTaken_present other
      (registryMove_empty_confirmed ((ptState_presenceHeard ..).trans empty) (congrArg BitVec.toNat confirmed))
  · intro detached known
    have back : f.idTag.toNat = ((s.presenceHeard f).partner a).idTag := by
      rw [partner_presenceHeard]
      exact known
    obtain ⟨state, told, -⟩ := presenceTaken_present other
      (registryMove_detached_back ((ptState_presenceHeard ..).trans detached) back)
    exact ⟨state, told⟩

theorem presenceReceive_conflict {f : ChainPresence} {s : State} (hears : s.halyardHears = true)
    (unit : f.header.address.val ≠ 0) (own : f.header.address.val = s.address)
    (accepted : s.chainAccepted f.header (presenceCovered f) = true)
    (foreign : f.idTag.toNat ≠ State.identityTag Part.serial) (peace : s.ob Obj.addrState ≠ 3) :
    let a := f.header.address.val
    ∃ t, exec (.presenceReceive f) s = .next t ∧ t.ob Obj.addrState = 3 ∧ t.halyardSends = false ∧
      t.ob (Obj.ptState a) = 4 ∧ (t.partner a).fresh = f.header.fresh.toNat ∧
      t = { s.post 1462 a with obj := t.obj, hal := t.hal } ∧ s.ObjectsBut t [Obj.addrState, Obj.ptState a] := by
  intro a
  obtain ⟨state, silent, entry⟩ := (s.ownHeard f).ownConflict_shows a
  have fresh : (((s.ownHeard f).ownConflict a).partner a).fresh = f.header.fresh.toNat :=
    congrArg Partner.fresh (partner_setPartner_same s a _)
  refine ⟨(s.ownHeard f).ownConflict a, ?_, state, silent, entry, fresh, rfl, ?_⟩
  · rw [exec_presenceReceive hears unit accepted, presenceTaken_conflict unit own foreign peace]
  · exact objectsBut_setOb (objectsBut_setOb (t := s.ownHeard f) (fun _ _ => rfl) List.mem_cons_self 3)
      (List.mem_cons_of_mem _ List.mem_cons_self) 4

theorem presenceTimeout_detaches {a : Fin 17} {s : State} (hears : s.halyardHears = true) (unit : a.val ≠ 0)
    (other : a.val ≠ s.address) (entry : s.ob (Obj.ptState a) = 1 ∨ s.ob (Obj.ptState a) = 3)
    (silent : s.passed (s.ob (Obj.ptLastSeen a)) (ms (10 * s.cf Obj.presenceTimeout)) = true) :
    ∃ t, exec (.presenceTimeout a) s = .next t ∧ t.ob (Obj.ptState a) = 2 ∧ ⟨s.now, 1457, a.val⟩ ∈ t.fab.inFlight ∧
      t.arb.borrowed.get? a = none ∧ t = { s with obj := t.obj, hal := t.hal, arb := t.arb, fab := t.fab } ∧
      s.ObjectsBut t [Obj.ptState a] := by
  obtain ⟨state, told, loan, frame⟩ := s.presenceLost_shows (Nat.le_of_lt_succ a.isLt)
  refine ⟨_, exec_presenceTimeout hears unit other entry silent, state, told, loan, ?_, fun k hk => ?_⟩
  · exact frame.afterHal rfl
  · exact (frame.ob k).trans (objectsBut_setOb (objectsBut_refl s _) List.mem_cons_self 2 k hk)

theorem capabilityRequest_answers {f : ChainHeader} {n : Fin 17} {s : State} (talks : s.halyardTalks = true)
    (empty : s.hal.txQueue = []) (unit : f.address.val ≠ 0) (own : n.val = s.address)
    (accepted : s.chainAccepted f (State.capabilityBytes 2 f.address f.fresh.toNat [n.val]) = true) :
    let g := s.capabilityFrame 3 s.address s.ownCapability
    ∃ t, exec (.capabilityRequest f n) s = .next t ∧ t.hal.capSent = s.hal.capSent + 1 ∧
      t.hal.chainCounter = s.hal.chainCounter + 1 ∧ (t.partner f.address).fresh = f.fresh.toNat ∧
      (s.halMay g = true → t.hal.txSent = some g ∧ t.hal.txQueue = []) ∧ (s.halMay g = false → t.hal.txQueue = [g]) ∧
      t = { s with obj := t.obj, hal := t.hal } ∧ s.ObjectsBut t [Obj.txFrames] := by
  have heard : ((s.requestHeard f).partner f.address).fresh = f.fresh.toNat :=
    congrArg Partner.fresh (partner_setPartner_same s _ _)
  obtain ⟨hal, frame, objects, goes, waits⟩ := sendsCapability (s := s) (u := s.requestHeard f) rfl talks empty rfl rfl
    3 s.address s.ownCapability
  refine ⟨_, exec_capabilityRequest talks unit own accepted, ?_⟩
  generalize (s.requestHeard f).sendCapability 3 s.address s.ownCapability = t at *
  have capSent : t.hal.capSent = (s.requestHeard f).hal.capSent := by rw [hal]
  have partners : t.hal.partners = (s.requestHeard f).hal.partners := by rw [hal]
  refine ⟨capSent, by rw [hal], ?_, goes, waits, frame, objects⟩
  rw [partner_eq partners, heard]

theorem capabilityResponse_enters {f : ChainHeader} {r : CapabilityRecord} {s : State} (hears : s.halyardHears = true)
    (unit : f.address.val ≠ 0) (other : f.address.val ≠ s.address) (absent : s.ob (Obj.ptState f.address) ≠ 1)
    (accepted : s.chainAccepted f (State.capabilityBytes 3 f.address f.fresh.toNat (State.capabilityContent r)) = true) :
    exec (.capabilityResponse f r) s = .next (s.responseTaken f r) := by
  rw [exec_capabilityResponse hears unit other accepted]
  exact whenever_not (by rw [ptState_responseTaken, decide_eq_false absent, Bool.false_and]) _ _

theorem capabilityResponse_names {f : ChainHeader} {r : CapabilityRecord} {s : State} (hears : s.halyardHears = true)
    (unit : f.address.val ≠ 0) (other : f.address.val ≠ s.address) (present : s.ob (Obj.ptState f.address) = 1)
    (holder : State.identityTag r.serial.toNat = (s.partner f.address).idTag)
    (accepted : s.chainAccepted f (State.capabilityBytes 3 f.address f.fresh.toNat (State.capabilityContent r)) = true) :
    let a := f.address.val
    ∃ t, exec (.capabilityResponse f r) s = .next t ∧ t.ob (Obj.ptSerial a) = r.serial.toNat ∧ t.ob (Obj.ptState a) = 1 ∧
      (t.partner a).serial = r.serial.toNat ∧ t = { s with obj := t.obj, hal := t.hal } := by
  intro a
  let u := (s.responseTaken f r).setOb (Obj.ptSerial a) r.serial.toNat
  have keeps : KeepsEntry a u (u.emptyEntries r.serial.toNat a) := keepsEntry_emptyEntries ..
  refine ⟨u.emptyEntries r.serial.toNat a, ?_, ?_, ?_, ?_, ?_⟩
  · rw [exec_capabilityResponse hears unit other accepted]
    exact whenever_of (by rw [ptState_responseTaken, present, holder]; simp) _ _
  · exact (keeps.objects _ (keyIndex_ptSerial a)).trans (ob_setOb_same ..)
  · exact (keeps.objects _ (keyIndex_ptState a)).trans
      ((ob_setOb_other _ _ (ptState_ne_ptSerial a a).symm).trans ((ptState_responseTaken s f r).trans present))
  · have known : u.partner a = respondedPartner (s.partner a) f r := partner_responseTaken s f r
    rw [keeps.partner, known]
    rfl
  · exact (s.onlyHal_responseTaken f r).trans ((onlyHal_setOb ..).trans (movesRegistry_emptyEntries ..).frame)

theorem capabilityRetry_asks {a : Fin 17} {asked : Tick} {s : State} (hears : s.halyardHears = true)
    (waits : (s.partner a).capAsked = some asked) (late : s.passed asked (ms 100) = true) (few : (s.partner a).capTries < 4)
    (talks : s.halyardTalks = true) (empty : s.hal.txQueue = []) :
    ∃ t, exec (.capabilityRetry a) s = .next t ∧ (t.partner a).capTries = (s.partner a).capTries + 1 ∧
      t.hal.capRequested = [a.val] ∧ t = { s with obj := t.obj, hal := t.hal } ∧ s.ObjectsBut t [Obj.txFrames] := by
  let n := (s.partner a).capTries + 1
  obtain ⟨hal, frame, objects, -, -⟩ := sendsCapability (s := s) (u := s.capabilityAsked a n) rfl talks empty rfl rfl 2 s.address [a.val]
  have named : ((s.capabilityAsked a n).sendCapability 2 s.address [a.val]).hal.capRequested =
      (s.capabilityAsked a n).hal.capRequested := by rw [hal]
  refine ⟨s.askCapability a n, ?_, capTries_askCapability _ _ talks, ?_⟩
  · rw [exec_capabilityRetry hears waits late, if_pos few]
  · rw [askCapability_talks _ _ talks]
    exact ⟨named, frame, objects⟩

end State
end Sys2Proof.Machine

/-!
Addresses, the link and the registry together (R65–R72, R76, R77).
-/

namespace Sys2Proof.Machine

open State in
/-- Settles O15, clause by clause: the unit's own address, its presence, the link and the notices, then the registry of partners. -/
theorem addressesLinkAndRegistryDoAsStated : Obligations.AddressesLinkAndRegistryDoAsStated := by
  refine ⟨⟨?_, ?_, ?_, ?_, ?_, ?_, ?_, ?_, ?_, ?_, ?_, ?_, ?_, ?_⟩, ?_, ?_, ?_, ?_, ?_, ?_, ?_, ?_, ?_⟩
  · exact fun s on own power => ⟨_, exec_addrBurstSend on own power, rfl, rfl, rfl⟩
  · exact fun n s on free least most => addrCodeAccept_first on free least most
  · exact fun n s on taken own pulses byte new => addrCodeAccept_later on taken own pulses byte new
  · exact fun s on free noAddress => ⟨_, exec_addrWaitExpiry_none on free noAddress, rfl, ob_setOb_same .., rfl,
      objectsBut_setOb (objectsBut_refl s _) List.mem_cons_self _⟩
  · intro s on free noCode stored
    obtain ⟨taken, address, source, state, frame⟩ := s.takeAddress_shows (s.ob Obj.storedAddress) 2
    exact ⟨_, exec_addrWaitExpiry_stored on free noCode stored, taken, address, source, state.trans (if_pos rfl), frame⟩
  · exact fun h a s x serves pending own => addrConfirm_pending serves pending own
  · exact fun s none applied => ⟨_, exec_presenceSend_silent none applied, hal_postIf .., onlyArb_judgeShares s⟩
  · exact fun s talks empty => presenceSend_sends talks empty
  · exact fun s hears on => ⟨_, exec_plcaBeaconLoss hears on, bit_setBit_same .., rfl, (s.only_setBit Obj.linkStatus 1 false).2⟩
  · intro s hears empty
    have drained := halDrain_empty (s := s.setBit Obj.linkStatus 1 true) empty
    exact ⟨_, (exec_plcaBeaconResume hears).trans (congrArg _ drained), bit_setBit_same .., only_setBit ..⟩
  · exact fun g s hears one may => plcaBeaconResume_sends hears one may
  · exact fun up s hears change =>
      ⟨_, exec_halyardLinkChange hears change, bit_setBit_same .., rfl, (s.only_setBit Obj.linkStatus 0 up).2⟩
  · intro o rest s queue bare g may
    obtain ⟨hal, count, frame, objects⟩ := halSent_plain (s := s.noticeTaken o rest 0) (f := g) nofun
    exact ⟨_, exec_noticeSend_bare queue bare may, hal, count, frame, objects⟩
  · exact fun o rest x f s queue session fresh may => noticeSend_session queue session fresh may
  · exact fun f s hears unit old => exec_presenceReceive_old hears unit old
  · exact fun f s hears unit other accepted => presenceReceive_partner hears unit other accepted
  · exact fun f s hears unit own accepted foreign peace => presenceReceive_conflict hears unit own accepted foreign peace
  · intro f s a hears unit own accepted same
    rw [exec_presenceReceive hears unit accepted, presenceTaken_own own same]
    rfl
  · exact fun a s hears unit other entry silent => presenceTimeout_detaches hears unit other entry silent
  · exact fun f n s talks empty unit own accepted => capabilityRequest_answers talks empty unit own accepted
  · intro f r s a hears unit other absent accepted
    obtain ⟨mast, epoch, schema, objects⟩ := s.responseTaken_shows f r
    have known := partner_responseTaken s f r
    exact ⟨_, capabilityResponse_enters hears unit other absent accepted, congrArg Partner.serial known,
      congrArg Partner.maxShare known, congrArg Partner.capAsked known, mast, epoch, schema, rfl, objects⟩
  · exact fun f r s hears unit other present holder accepted => capabilityResponse_names hears unit other present holder accepted
  · intro a asked s hears waits late
    have retries := exec_capabilityRetry hears waits late
    refine ⟨fun few silent => ?_, fun few talks empty => capabilityRetry_asks hears waits late few talks empty, fun many => ?_⟩
    · rw [retries, if_pos few, askCapability_silent _ _ silent]
    · have known := partner_setPartner_same s a { s.partner a with capAsked := none, capUnknown := true }
      rw [if_neg (Nat.not_lt.mpr many)] at retries
      exact ⟨_, retries, congrArg Partner.capUnknown known, congrArg Partner.capAsked known, rfl⟩

end Sys2Proof.Machine

/-!
Claim slots of a signal and its owner (R79, R80).
-/

namespace Sys2Proof.Machine
namespace State

/-! ## Slots (R79) -/

theorem slotsOf_setSlot_other (s : State) {sig sig' : Nat} (x : Cls) (v : Option Claim) (h : sig ≠ sig') :
    (s.setSlot sig x v).slotsOf sig' = s.slotsOf sig' := Table.read_write_other _ _ _ _ h

theorem slotOf_setSlot_same (s : State) (sig : Nat) {x : Cls} (v : Option Claim) (h : x ≠ .safe) :
    (s.setSlot sig x v).slotOf sig x = v := by
  cases x with
  | safe => exact absurd rfl h
  | s | h | a | c => simp [slotOf, slotsOf, setSlot]

/-- The slots of the other classes of the signal. -/
theorem slotOf_setSlot_class (s : State) (sig : Nat) {x y : Cls} (v : Option Claim) (h : y ≠ x) :
    (s.setSlot sig x v).slotOf sig y = s.slotOf sig y := by
  cases y with
  | safe => rfl
  | s | h | a | c => cases x <;> simp_all [slotOf, slotsOf, setSlot]

/-- The slots of other signals. -/
theorem slotOf_setSlot_signal (s : State) {sig sig' : Nat} (x : Cls) (v : Option Claim) (h : sig ≠ sig') (y : Cls) :
    (s.setSlot sig x v).slotOf sig' y = s.slotOf sig' y := by
  have slots := s.slotsOf_setSlot_other x v h
  cases y with
  | safe => rfl
  | s | h | a | c => simp only [slotOf, slots]

/-! ## The owner (R80) -/

/-- The classes in the order of R80. -/
def ranked : List Cls := [.s, .safe, .h, .a, .c]

theorem mem_ranked (x : Cls) : x ∈ ranked := by cases x <;> decide

/-- The claim of a class, with the class, as the owner is given. -/
def claimOf (s : State) (sig : Nat) (x : Cls) : Option (Cls × Claim) := (s.slotOf sig x).map (fun c => (x, c))

theorem claimOf_eq_none {s : State} {sig : Nat} {x : Cls} : s.claimOf sig x = none ↔ s.slotOf sig x = none :=
  Option.map_eq_none_iff

/-- The owner is the first class of the order whose slot is occupied. -/
theorem ownerOf_eq (s : State) (sig : Nat) : s.ownerOf sig = ranked.findSome? (s.claimOf sig) := by
  unfold ownerOf
  dsimp only
  (repeat' split) <;> simp_all [ranked, claimOf, slotOf]

theorem ownerOf_eq_none {s : State} {sig : Nat} : s.ownerOf sig = none ↔ ∀ x, s.slotOf sig x = none := by
  rw [ownerOf_eq, List.findSome?_eq_none_iff]
  exact ⟨fun h x => claimOf_eq_none.mp (h x (mem_ranked x)), fun h x _ => claimOf_eq_none.mpr (h x)⟩

/-- What stands before `x` in a list up to its first occurrence stands before any occurrence. -/
theorem mem_of_mem_takeWhile_ne {x y : Cls} {before after : List Cls}
    (h : y ∈ (before ++ x :: after).takeWhile (fun z => z ≠ x)) : y ∈ before := by
  induction before with
  | nil => simp at h
  | cons z l ih =>
    by_cases hz : z = x
    · simp [hz] at h
    · simp only [List.cons_append, List.takeWhile_cons, hz, ne_eq, not_false_eq_true, decide_true, if_true,
        List.mem_cons] at h ⊢
      exact h.imp id ih

/-- The owner's slot is occupied, and no slot before it in the order is. -/
theorem slotOf_of_ownerOf {s : State} {sig : Nat} {x : Cls} {c : Claim} (h : s.ownerOf sig = some (x, c)) :
    s.slotOf sig x = some c ∧ ∀ y ∈ ranked.takeWhile (fun y => y ≠ x), s.slotOf sig y = none := by
  rw [ownerOf_eq, List.findSome?_eq_some_iff] at h
  obtain ⟨before, z, after, order, claim, empty⟩ := h
  obtain ⟨d, slot, same⟩ := Option.map_eq_some_iff.mp claim
  obtain ⟨rfl, rfl⟩ := Prod.mk.inj same
  refine ⟨slot, fun y hy => claimOf_eq_none.mp (empty y ?_)⟩
  rw [order] at hy
  exact mem_of_mem_takeWhile_ne hy

theorem ownerValue_some {s : State} {sig : Nat} {x : Cls} {c : Claim} (h : s.ownerOf sig = some (x, c)) :
    s.ownerValue sig = c.value := by simp [ownerValue, h]

theorem ownerValue_none {s : State} {sig : Nat} (h : s.ownerOf sig = none) : s.ownerValue sig = 0 := by
  simp [ownerValue, h]

end State

open State in
/-- Settles O18: of the slot written, of the other classes of its signal, and of other signals. -/
theorem claimSlotsAreIndependent : Obligations.ClaimSlotsAreIndependent := by
  intro s sig x v notSafe
  refine ⟨slotOf_setSlot_same s sig v notSafe, fun sig' x' other => ?_, rfl⟩
  by_cases same : sig = sig'
  · subst same
    exact slotOf_setSlot_class s sig v (fun e => other (e ▸ rfl))
  · exact slotOf_setSlot_signal s x v same x'

open State in
/-- Settles O19: the owner is found by going through the classes in the order of R80. -/
theorem highestOccupiedSlotOwns : Obligations.HighestOccupiedSlotOwns := by
  refine fun s sig => ⟨fun x c owner => ?_, ownerOf_eq_none, ownerValue_none⟩
  obtain ⟨slot, before⟩ := slotOf_of_ownerOf owner
  exact ⟨slot, ownerValue_some owner, before⟩

end Sys2Proof.Machine

/-!
The host commands and the owner query (R84, R85): what passes the checks waits for the end of the next segment.
-/

namespace Sys2Proof.Machine

/-! ## The fields of HOST_COMMAND -/

/-- The value of HOST_COMMAND: an op, a signal and a value (R84). -/
def hostCommandValue (op : Nat) (sig : BitVec 24) (v : BitVec 16) : Nat := op * 2 ^ 56 + sig.toNat * 2 ^ 32 + v.toNat

/-- The change an op of HOST_COMMAND asks for (R84). -/
def hostOpOf (op sig v h : Nat) : HostOp :=
  match op with
  | 1 => .claim sig v h
  | 2 => .release sig h
  | 3 => .releaseAll h
  | _ => .emptyRules sig h

theorem fields_hostCommandValue {op : Nat} (sig : BitVec 24) (v : BitVec 16) (small : op < 256) :
    bitsOf (hostCommandValue op sig v) 56 8 = op ∧ bitsOf (hostCommandValue op sig v) 32 24 = sig.toNat ∧
      bitsOf (hostCommandValue op sig v) 16 16 = 0 ∧ bitsOf (hostCommandValue op sig v) 0 16 = v.toNat := by
  have sigFits := sig.isLt
  have valueFits := v.isLt
  unfold hostCommandValue bitsOf
  omega

namespace State

/-! ## HOST_COMMAND -/

/-- The checks of a host command on its fields. -/
theorem doHostCommand_eq (s : State) (x : Session) {op : Nat} (sig : BitVec 24) (v : BitVec 16) (small : op < 256) :
    s.doHostCommand x (hostCommandValue op sig v) =
      check (op ≠ 4 || decide (Role.service.rank ≤ x.role.rank)) .roleTooLow
        (check (decide (1 ≤ op) && decide (op ≤ 4) && (op = 3 || sigOwned sig.toNat) &&
            (op ≠ 1 || s.claimable sig.toNat v.toNat)) .valueRange
          (.ok (s.pushOp (hostOpOf op sig.toNat v.toNat x.handle)))) := by
  obtain ⟨opField, sigField, reserved, value⟩ := fields_hostCommandValue sig v small
  unfold doHostCommand
  rw [opField, sigField, reserved, value]
  rfl

/-- A request that writes HOST_COMMAND (R84). -/
def hostCommand (s : State) (h op : Nat) (sig : BitVec 24) (v : BitVec 16) : Host.Outcome State Fault Refusal :=
  s.request h .host (writeOf Obj.hostCommand 8 (hostCommandValue op sig v))
    (fun x s => s.doHostCommand x (hostCommandValue op sig v))

theorem exec_hostClaim (s : State) (h : Nat) (sig : BitVec 24) (v : BitVec 16) :
    exec (.hostClaim h sig v) s = s.hostCommand h 1 sig v := by
  show execHostClaim h sig v s = _
  simp only [execHostClaim, hostCommand, hostCommandValue, one_mul]

theorem exec_hostRelease (s : State) (h : Nat) (sig : BitVec 24) :
    exec (.hostRelease h sig) s = s.hostCommand h 2 sig 0#16 := by
  show execHostRelease h sig s = _
  simp only [execHostRelease, hostCommand, hostCommandValue, BitVec.toNat_zero, add_zero]

theorem exec_hostReleaseAll (s : State) (h : Nat) :
    exec (.hostReleaseAll h) s = s.hostCommand h 3 0#24 0#16 := by
  show execHostReleaseAll h s = _
  simp only [execHostReleaseAll, hostCommand, hostCommandValue, BitVec.toNat_zero, zero_mul, add_zero]

theorem exec_hostEmptyRuleSlots (s : State) (h : Nat) (sig : BitVec 24) :
    exec (.hostEmptyRuleSlots h sig) s = s.hostCommand h 4 sig 0#16 := by
  show execHostEmptyRuleSlots h sig s = _
  simp only [execHostEmptyRuleSlots, hostCommand, hostCommandValue, BitVec.toNat_zero, add_zero]

/-- A host change accepted: the answer is success, and the change waits behind those that came before. -/
theorem finish_pushOp (s : State) (x : Session) (o : HostOp) :
    (s.asked x).finish (.ok ((s.asked x).pushOp o)) = .next ((s.served x).pushOp o) := rfl

section
variable {s : State} {h : Nat} {x : Session} (sv : s.Serves h .host x)
include sv

/-- A host command that passes its checks waits. -/
theorem hostCommand_waits {op : Nat} {sig : BitVec 24} {v : BitVec 16} (least : 1 ≤ op) (most : op ≤ 4)
    (role : op = 4 → Role.service.rank ≤ x.role.rank) (owned : op ≠ 3 → sigOwned sig.toNat = true)
    (claims : op = 1 → (s.asked x).claimable sig.toNat v.toNat = true) :
    s.hostCommand h op sig v = .next ((s.served x).pushOp (hostOpOf op sig.toNat v.toNat h)) := by
  have roleOk : (op ≠ 4 || decide (Role.service.rank ≤ (s.heard x).role.rank)) = true := by
    simp only [heard, ne_eq, Bool.or_eq_true, decide_eq_true_eq]
    exact imp_iff_not_or.mp (fun e => decide_eq_true (role e))
  have signalOk : (op = 3 || sigOwned sig.toNat) = true := by simpa [or_iff_not_imp_left] using owned
  have claimOk : (op ≠ 1 || (s.asked x).claimable sig.toNat v.toNat) = true := by simpa [imp_iff_not_or] using claims
  rw [hostCommand, request_serves sv, doHostCommand_eq _ _ _ _ (by omega), check_ok roleOk,
    check_ok (by simp only [least, most, signalOk, claimOk, decide_true, Bool.and_self]), heard_handle sv, finish_pushOp]

/-- A claim of a signal that is not owned is a value-range error. -/
theorem hostCommand_notOwned {sig : BitVec 24} {v : BitVec 16} (notOwned : sigOwned sig.toNat = false) :
    s.hostCommand h 1 sig v = .next { s.asked x with reply := { status := .valueRange } } := by
  rw [hostCommand, request_serves sv, doHostCommand_eq _ _ _ _ (by omega), check_ok (by simp), check_error (by simp [notOwned]),
    finish_error]

/-- Op 4 needs more than the role Host. -/
theorem hostCommand_lowRole {sig : BitVec 24} {v : BitVec 16} (role : x.role = .host) :
    s.hostCommand h 4 sig v = .next { s.asked x with reply := { status := .roleTooLow } } := by
  have low : (s.heard x).role = .host := role
  rw [hostCommand, request_serves sv, doHostCommand_eq _ _ _ _ (by omega), check_error (by rw [low]; rfl), finish_error]

end

theorem claimable_owned {s : State} {sig v : Nat} (h : s.claimable sig v = true) : sigOwned sig = true := by
  simp only [claimable, Bool.and_eq_true] at h
  obtain ⟨⟨⟨owned, -⟩, -⟩, -⟩ := h
  exact owned

/-! ## QUERY_SIGNAL -/

theorem ownerQuery_selects {s : State} {h : Nat} {x : Session} (sv : s.Serves h .host x) {sig : BitVec 32}
    (owned : sigOwned sig.toNat = true) :
    exec (.ownerQuery h sig) s = .next ((s.served x).setSession
      { s.heard x with regs := x.regs.write (objDefault Obj.querySignal) Obj.querySignal sig.toNat }) := by
  show execOwnerQuery h sig s = _
  unfold execOwnerQuery
  rw [request_serves sv]
  unfold doQuerySignal
  rw [check_ok owned, heard_handle sv, finish_setSob sv]

end State

theorem service_le_of_ne_host {r : Role} (h : r ≠ .host) : Role.service.rank ≤ r.rank := by
  cases r with
  | host => exact absurd rfl h
  | service | maker | vendor => decide

open State in
/-- Settles O20: the commands are the ops of HOST_COMMAND, and a write of QUERY_SIGNAL. -/
theorem hostCommandsWaitForTheSegment : Obligations.HostCommandsWaitForTheSegment := by
  refine ⟨fun h sig v s x sv =>
    ⟨fun claims => ?_, fun notOwned => ?_, fun owned => ?_, ?_, fun owned role => ?_, fun role => ?_⟩,
    fun h sig s x sv owned => ownerQuery_selects sv owned⟩
  · rw [exec_hostClaim]
    exact hostCommand_waits sv (by decide) (by decide) nofun (fun _ => claimable_owned claims) (fun _ => claims)
  · rw [exec_hostClaim]
    exact hostCommand_notOwned sv notOwned
  · rw [exec_hostRelease]
    exact hostCommand_waits sv (by decide) (by decide) nofun (fun _ => owned) nofun
  · rw [exec_hostReleaseAll]
    exact hostCommand_waits sv (by decide) (by decide) nofun (fun other => absurd rfl other) nofun
  · rw [exec_hostEmptyRuleSlots]
    exact hostCommand_waits sv (by decide) (by decide) (fun _ => service_le_of_ne_host role) (fun _ => owned) nofun
  · rw [exec_hostEmptyRuleSlots]
    exact hostCommand_lowRole sv role

end Sys2Proof.Machine

/-!
The heartbeat supervisor (R86, R87): a heartbeat, its loss and the release of the safe state, while sweeps run.
-/

namespace Sys2Proof.Machine
namespace State

/-! ## The heartbeat -/

/-- The state with a heartbeat value taken now (R86). -/
def beat (s : State) (v : Nat) : State := { s with hb := { s.hb with accepted := some v, lastValid := s.now } }

/-- The value of EV1297: how long the heartbeat was lost, in ms (R87). -/
def lostFor (s : State) : Nat := saturate ((s.now - s.ob Obj.hbLastLoss) / ms 1) 0xFFFFFFFF

theorem doHeartbeat_repeated {s : State} {v : Nat} (same : s.hb.accepted = some v) : s.doHeartbeat v = .ok s := if_pos same

section
variable {s : State} {v : Nat} (new : s.hb.accepted ≠ some v)
include new

theorem doHeartbeat_waiting (st : s.ob Obj.hbState = hbWaiting) :
    s.doHeartbeat v = .ok ((s.beat v).setOb Obj.hbState hbResumed) :=
  (if_neg new).trans (if_pos st)

theorem doHeartbeat_lost (st : s.ob Obj.hbState = hbLost) :
    s.doHeartbeat v = .ok (((s.beat v).setOb Obj.hbState hbResumed).post 1297 s.lostFor) :=
  (if_neg new).trans ((if_neg (fun e => absurd (e.symm.trans st) (by decide))).trans (if_pos st))

/-- A valid heartbeat in another state leaves the state. -/
theorem doHeartbeat_stays (notWaiting : s.ob Obj.hbState ≠ hbWaiting) (notLost : s.ob Obj.hbState ≠ hbLost) :
    s.doHeartbeat v = .ok (s.beat v) :=
  (if_neg new).trans ((if_neg notWaiting).trans (if_neg notLost))

end

theorem exec_heartbeat {s : State} {h : Nat} {x : Session} (sv : s.Serves h .host x) (v : BitVec 16) :
    exec (.heartbeat h v) s = (s.asked x).finish ((s.asked x).doHeartbeat v.toNat) := by
  show execHeartbeat h v s = _
  exact request_serves sv _ _

theorem heartbeat_repeated {s : State} {h : Nat} {x : Session} (sv : s.Serves h .host x) {v : BitVec 16}
    (same : s.hb.accepted = some v.toNat) : exec (.heartbeat h v) s = .next (s.served x) := by
  rw [exec_heartbeat sv, doHeartbeat_repeated (s := s.asked x) same, finish_ok]
  rfl

/-- A valid heartbeat moves waiting and lost to resumed, and leaves the other states. -/
theorem heartbeat_valid {s : State} {h : Nat} {x : Session} (sv : s.Serves h .host x) {v : BitVec 16}
    (new : s.hb.accepted ≠ some v.toNat) :
    ∃ t, exec (.heartbeat h v) s = .next t ∧ t.hb = { s.hb with accepted := some v.toNat, lastValid := s.now } ∧
      (s.ob Obj.hbState = hbWaiting ∨ s.ob Obj.hbState = hbLost → t.ob Obj.hbState = hbResumed) ∧
      (s.ob Obj.hbState = hbResumed ∨ s.ob Obj.hbState = hbAlive → t.ob Obj.hbState = s.ob Obj.hbState) ∧
      (s.ob Obj.hbState = hbLost → ∃ d, ⟨s.now, 1297, d⟩ ∈ t.fab.inFlight) ∧
      t = { s.served x with obj := t.obj, hb := t.hb, fab := t.fab } ∧ s.ObjectsBut t [Obj.hbState] := by
  rw [exec_heartbeat sv]
  have resumed : s.ObjectsBut (s.setOb Obj.hbState hbResumed) [Obj.hbState] := (s.only_setOb _ _).2
  have shown : (s.setOb Obj.hbState hbResumed).ob Obj.hbState = hbResumed := ob_setOb_same ..
  by_cases waiting : s.ob Obj.hbState = hbWaiting
  · rw [doHeartbeat_waiting (s := s.asked x) new waiting, finish_ok, waiting]
    exact ⟨_, rfl, rfl, fun _ => shown, fun e => absurd e (by decide), fun e => absurd e (by decide), rfl, resumed⟩
  by_cases lost : s.ob Obj.hbState = hbLost
  · rw [doHeartbeat_lost (s := s.asked x) new lost, finish_ok, lost]
    exact ⟨_, rfl, rfl, fun _ => shown, fun e => absurd e (by decide),
      fun _ => ⟨_, raised_post ((s.beat v.toNat).setOb Obj.hbState hbResumed) 1297 s.lostFor⟩, rfl, resumed⟩
  · rw [doHeartbeat_stays (s := s.asked x) new waiting lost, finish_ok]
    exact ⟨_, rfl, rfl, fun e => absurd e (not_or.mpr ⟨waiting, lost⟩), fun _ => rfl, fun e => absurd e lost, rfl,
      objectsBut_refl s _⟩

/-! ## Its loss -/

/-- The objects that the loss of the heartbeat moves. -/
def lossObjects : List Nat := [Obj.hbState, Obj.hbLossCount, Obj.hbLastLoss]

/-- The supervisor in lost: the loss is counted and dated, told by EV1296, and a release that waits is dropped. -/
def lossNoted (s : State) : State :=
  (((s.dropRelease.setOb Obj.hbState hbLost).bump Obj.hbLossCount).setOb Obj.hbLastLoss (s.now % 2 ^ 64)).post 1296
    (s.cf Obj.hbTimeout)

theorem sweepsRun_lossNoted (s : State) : s.lossNoted.sweepsRun = s.sweepsRun := by
  show (((s.dropRelease.setOb Obj.hbState hbLost).bump Obj.hbLossCount).setOb Obj.hbLastLoss (s.now % 2 ^ 64)).sweepsRun = _
  rw [sweepsRun_setOb _ (by decide), bump_eq, sweepsRun_setOb _ (by decide), sweepsRun_setOb _ (by decide)]
  rfl

/-- While sweeps run the steps of R88 wait for the next sweep boundary. -/
theorem heartbeatLost_sweeps {s : State} (sweeps : s.sweepsRun = true) :
    s.heartbeatLost = { s.lossNoted with
      hb := { s.hb with waiting := some (if s.ob Obj.hbState = hbAlive then .both hbAlive hbLost else .hostOnly) } } := by
  have runs := (sweepsRun_lossNoted s).trans sweeps
  exact if_pos runs

theorem ob_lossNoted (s : State) : s.lossNoted.ob Obj.hbState = hbLost ∧
    s.lossNoted.ob Obj.hbLossCount = (s.ob Obj.hbLossCount + 1) % 2 ^ 32 ∧
    s.lossNoted.ob Obj.hbLastLoss = s.now % 2 ^ 64 ∧ s.ObjectsBut s.lossNoted lossObjects := by
  unfold lossNoted
  refine ⟨?_, ?_, ob_setOb_same .., ?_⟩
  · rw [ob_post, ob_setOb_other _ _ (by decide), ob_bump_other _ (by decide), ob_setOb_same]
  · rw [ob_post, ob_setOb_other _ _ (by decide), bump_eq, ob_setOb_same, ob_setOb_other _ _ (by decide)]
    rfl
  · exact objectsBut_setOb (objectsBut_setOb (objectsBut_setOb (objectsBut_refl s _) (by decide) _) (by decide) _)
      (by decide) _

theorem heartbeatLoss_sweeps {s : State} (due : s.heartbeatDue = true) (sweeps : s.sweepsRun = true) :
    ∃ t, exec .heartbeatLoss s = .next t ∧ t.ob Obj.hbState = hbLost ∧
      t.ob Obj.hbLossCount = (s.ob Obj.hbLossCount + 1) % 2 ^ 32 ∧ t.ob Obj.hbLastLoss = s.now % 2 ^ 64 ∧
      t.hb.waiting = some (if s.ob Obj.hbState = hbAlive then .both hbAlive hbLost else .hostOnly) ∧
      t.own = { s.own with hostOps := s.own.hostOps.filter (fun o => o ≠ .safeRelease) } ∧
      t = { s.post 1296 (s.cf Obj.hbTimeout) with obj := t.obj, hb := t.hb, own := t.own } ∧
      s.ObjectsBut t [Obj.hbState, Obj.hbLossCount, Obj.hbLastLoss] := by
  obtain ⟨state, count, last, objects⟩ := s.ob_lossNoted
  have done : exec .heartbeatLoss s = .next s.heartbeatLost := whenever_of due s s.heartbeatLost
  exact ⟨_, done.trans (congrArg _ (heartbeatLost_sweeps sweeps)), state, count, last, rfl, rfl, rfl, objects⟩

/-! ## The release -/

theorem doSafeRelease_value {s : State} {v : Nat} (other : v ≠ 0xA5) : s.doSafeRelease v = .error .valueRange :=
  check_error (decide_eq_false other) ..

theorem doSafeRelease_eq (s : State) : s.doSafeRelease 0xA5 =
    check (s.ob Obj.hbState = hbResumed || s.ob Obj.hbState = hbAlive) .configInvalid
      (if s.ob Obj.hbState = hbAlive then .ok s else .ok ((s.setOb Obj.hbState hbAlive).pushOp .safeRelease)) := rfl

theorem exec_safeRelease {s : State} {h : Nat} {x : Session} (sv : s.Serves h .host x) (v : BitVec 8) :
    exec (.safeRelease h v) s = (s.asked x).finish ((s.asked x).doSafeRelease v.toNat) := by
  show execSafeRelease h v s = _
  exact request_serves sv _ _

section
variable {s : State} {h : Nat} {x : Session} (sv : s.Serves h .host x)
include sv

theorem safeRelease_resumed (st : s.ob Obj.hbState = hbResumed) :
    ∃ t, exec (.safeRelease h 0xA5) s = .next t ∧ t.ob Obj.hbState = hbAlive ∧
      ((s.served x).pushOp .safeRelease).Only t [Obj.hbState] := by
  refine ⟨((s.served x).pushOp .safeRelease).setOb Obj.hbState hbAlive, ?_, ob_setOb_same .., only_setOb ..⟩
  have st : (s.asked x).ob Obj.hbState = hbResumed := st
  rw [exec_safeRelease sv]
  show (s.asked x).finish ((s.asked x).doSafeRelease 0xA5) = _
  rw [doSafeRelease_eq, st]
  rfl

theorem safeRelease_alive (st : s.ob Obj.hbState = hbAlive) : exec (.safeRelease h 0xA5) s = .next (s.served x) := by
  have st : (s.asked x).ob Obj.hbState = hbAlive := st
  rw [exec_safeRelease sv]
  show (s.asked x).finish ((s.asked x).doSafeRelease 0xA5) = _
  rw [doSafeRelease_eq, st]
  rfl

theorem safeRelease_invalid (st : s.ob Obj.hbState = hbWaiting ∨ s.ob Obj.hbState = hbLost) :
    exec (.safeRelease h 0xA5) s = .next { s.asked x with reply := { status := .configInvalid } } := by
  have refused : ((s.asked x).ob Obj.hbState = hbResumed || (s.asked x).ob Obj.hbState = hbAlive) = false := by
    rw [asked_ob]
    rcases st with st | st <;> rw [st] <;> rfl
  rw [exec_safeRelease sv]
  show (s.asked x).finish ((s.asked x).doSafeRelease 0xA5) = _
  rw [doSafeRelease_eq, check_error refused, finish_error]

theorem safeRelease_value {v : BitVec 8} (other : v ≠ 0xA5) :
    exec (.safeRelease h v) s = .next { s.asked x with reply := { status := .valueRange } } := by
  have other : v.toNat ≠ 0xA5 := fun e => other (BitVec.eq_of_toNat_eq e)
  rw [exec_safeRelease sv, doSafeRelease_value other, finish_error]

end
end State

open State in
/-- Settles O21: the heartbeat, its loss and the release, each state of the table by its lemma. -/
theorem heartbeatMovesTheSupervisor : Obligations.HeartbeatMovesTheSupervisor :=
  ⟨fun _ _ _ _ sv => ⟨heartbeat_repeated sv, heartbeat_valid sv⟩, fun _ due sweeps => heartbeatLoss_sweeps due sweeps,
    fun _ _ _ sv => ⟨safeRelease_resumed sv, safeRelease_alive sv, safeRelease_invalid sv, fun _ => safeRelease_value sv⟩⟩

end Sys2Proof.Machine

/-!
The Hoist watchdog (R92–R94): the count of its trips stands through a restart, and what a restart leaves of the Fly die.
-/

namespace Sys2Proof.Machine
namespace State

/-! ## The count of trips stands while the hoist safe state is put on the outputs -/

/-- HOIST_WDG_TRIPS. -/
def trips (s : State) : Nat := s.ob Obj.hoistWdgTrips

theorem trips_setOb (s : State) {k : Nat} (v : Nat) (h : k ≠ Obj.hoistWdgTrips) : (s.setOb k v).trips = s.trips :=
  ob_setOb_other s v h

/-- A status record of a channel or a bridge has an index of 2 modulo 16, the one of HOIST_WDG_TRIPS is 1. -/
theorem trips_setStatus (s : State) (i n b v : Nat) (row : i % 16 = 2) (small : b < 256) :
    (s.setOb (key (i + 0x10 * n) b) v).trips = s.trips :=
  trips_setOb s v (by unfold Obj.hoistWdgTrips key; omega)

theorem trips_setStatusBit (s : State) (i n b j : Nat) (v : Bool) (row : i % 16 = 2) (small : b < 256) :
    (s.setBit (key (i + 0x10 * n) b) j v).trips = s.trips := trips_setStatus _ _ _ _ _ row small

theorem trips_ite {c : Prop} [Decidable c] (a b : State) : (if c then a else b).trips = if c then a.trips else b.trips := by
  split <;> rfl

theorem trips_forRange (n : Nat) {f : State → Nat → State} (h : ∀ s a, a < n → (f s a).trips = s.trips) (s : State) :
    (forRange n f s).trips = s.trips := by
  have each : ∀ l : List Nat, (∀ a ∈ l, a < n) → ∀ s : State, (l.foldl f s).trips = s.trips := by
    intro l
    induction l with
    | nil => exact fun _ _ => rfl
    | cons a l ih =>
      intro small s
      exact (ih (fun b hb => small b (List.mem_cons_of_mem a hb)) _).trans (h s a (small a List.mem_cons_self))
  exact each _ (fun a ha => List.mem_range.mp ha) s

@[simp] theorem trips_post (s : State) (ev v : Nat) : (s.post ev v).trips = s.trips := rfl
@[simp] theorem trips_setGd (s : State) (n : Nat) (c : GdChannel) : (s.setGd n c).trips = s.trips := rfl
@[simp] theorem trips_setBr (s : State) (n : Nat) (c : Bridge) : (s.setBr n c).trips = s.trips := rfl
@[simp] theorem trips_setSv (s : State) (n : Nat) (c : SvChannel) : (s.setSv n c).trips = s.trips := rfl
@[simp] theorem trips_setDout (s : State) (n : Nat) (c : Dout) : (s.setDout n c).trips = s.trips := rfl
@[simp] theorem trips_setMx (s : State) (n : Nat) (c : MxPort) : (s.setMx n c).trips = s.trips := rfl

/-! ### Gate drivers and bridges -/

@[simp] theorem trips_gdShow (s : State) (c v : Nat) : (s.gdShow c v).trips = s.trips := by
  simp [gdShow, setIn, trips_ite, Obj.gdStatus, Obj.gdAppliedValue, Obj.gdVdsMeas, Obj.gdGateTon, trips_setStatus,
    trips_setStatusBit]
@[simp] theorem trips_gdApply (s : State) (c v : Nat) : (s.gdApply c v).trips = s.trips := by
  simp [gdApply, gdApplyAt, trips_ite]
@[simp] theorem trips_gdOff (s : State) (c : Nat) : (s.gdOff c).trips = s.trips := by
  simp [gdOff, Obj.gdStatus, trips_setStatusBit]
@[simp] theorem trips_brShow (s : State) (h st : Nat) : (s.brShow h st).trips = s.trips := by
  simp [brShow, Obj.brState, Obj.brFlags, trips_setStatus, trips_setStatusBit]
/-- A bridge that coasts. -/
@[simp] theorem trips_brCoasts (s : State) (h : Nat) : (s.brChannels h 0 0).trips = s.trips := by
  simp [brChannels]
@[simp] theorem trips_loseNormal (s : State) (h : Nat) : (s.loseNormal h).trips = s.trips := by
  simp [loseNormal, brSlot, setBrFlag, trips_ite, Obj.brFlags, Obj.brPosition, trips_setStatus, trips_setStatusBit]
@[simp] theorem trips_hoistGd (s : State) (c : Nat) : (s.hoistGd c).trips = s.trips := by
  have shown : (s.setBit (Obj.gdStatus c) 4 true).trips = s.trips := trips_setStatusBit s 0x4002 c 1 4 true rfl (by decide)
  unfold hoistGd
  dsimp only
  split
  · rfl
  · split
    · simp [trips_ite, shown]
    · simp [trips_ite, shown]

/-! ### Solenoids -/

@[simp] theorem trips_setSvBit (s : State) (c i : Nat) (b : Bool) : (s.setSvBit c i b).trips = s.trips :=
  trips_setStatusBit s 0x4402 c 1 i b rfl (by decide)
@[simp] theorem trips_svPostIf (s : State) (b : Bool) (c k v : Nat) : (s.svPostIf b c k v).trips = s.trips := by
  cases b <;> rfl
@[simp] theorem trips_svEnter (s : State) (c ph : Nat) : (s.svEnter c ph).trips = s.trips := by
  simp [svEnter, Obj.svPhase, trips_setStatus]
@[simp] theorem trips_svInterrupt (s : State) (c : Nat) : (s.svInterrupt c).trips = s.trips := by
  simp [svInterrupt, svMoved, trips_ite, Obj.svMoveResult, trips_setStatus]
@[simp] theorem trips_svDecay (s : State) (c : Nat) : (s.svDecay c).trips = s.trips := by
  simp [svDecay, trips_ite]
@[simp] theorem trips_svHold (s : State) (c : Nat) : (s.svHold c).trips = s.trips := by
  simp [svHold, svPost]
@[simp] theorem trips_svPeak (s : State) (c : Nat) : (s.svPeak c).trips = s.trips := by
  simp [svPeak, trips_ite]
@[simp] theorem trips_svBoostReached (s : State) (c : Nat) : (s.svBoostReached c).trips = s.trips := by
  simp [svBoostReached, svShowOpen, Obj.svBoostTime, trips_setStatus]
@[simp] theorem trips_svStart (s : State) (c i : Nat) : (s.svStart c i).trips = s.trips := by
  simp [svStart, trips_ite, Obj.svMoveResult, Obj.svRange, trips_setStatus]
@[simp] theorem trips_svFastOff (s : State) (c i : Nat) : (s.svFastOff c i).trips = s.trips := by
  simp [svFastOff, svStagesOff, trips_ite]
@[simp] theorem trips_hoistSv (s : State) (c : Nat) : (s.hoistSv c).trips = s.trips := by
  simp [hoistSv, trips_ite]

/-! ### Digital outputs and ports -/

theorem trips_hoistDout (s : State) (d : Nat) (small : d < 8) : (s.hoistDout d).trips = s.trips := by
  have applied (t : State) (v : Nat) : (t.setOb (Obj.doutAppliedValue d) v).trips = t.trips :=
    trips_setOb t v (by unfold Obj.doutAppliedValue Obj.hoistWdgTrips key; omega)
  have status (t : State) (i : Nat) (b : Bool) : (t.setBit (Obj.doutStatus d) i b).trips = t.trips :=
    trips_setOb t _ (by unfold Obj.doutStatus Obj.hoistWdgTrips key; omega)
  simp [hoistDout, doutShow, trips_ite, applied, status]

theorem trips_hoistMx (s : State) (p : Nat) (small : p < 2) : (s.hoistMx p).trips = s.trips := by
  have state (t : State) (v : Nat) : (t.setOb (Obj.mxState p) v).trips = t.trips :=
    trips_setOb t v (by unfold Obj.mxState Obj.hoistWdgTrips key; omega)
  simp [hoistMx, trips_ite, state]

theorem trips_stopBunting (s : State) (p : Nat) (small : p < 8) : (s.stopBunting p).trips = s.trips := by
  have state (t : State) (v : Nat) : (t.setOb (Obj.bpState p) v).trips = t.trips :=
    trips_setOb t v (by unfold Obj.bpState Obj.hoistWdgTrips key; omega)
  have flags (t : State) (i : Nat) (b : Bool) : (t.setBit (Obj.bpFlags p) i b).trips = t.trips :=
    trips_setOb t _ (by unfold Obj.bpFlags Obj.hoistWdgTrips key; omega)
  simp [stopBunting, trips_ite, state, flags]

/-! ### All outputs -/

theorem trips_hoistSafe (s : State) : s.hoistSafe.trips = s.trips := by
  unfold hoistSafe
  dsimp only
  rw [trips_forRange 8 trips_stopBunting, trips_forRange 2 trips_hoistMx, trips_forRange 8 trips_hoistDout,
    trips_forRange 8 (fun s c _ => trips_hoistSv s c), trips_forRange 24 (fun s c _ => trips_hoistGd s c)]
  rfl

theorem trips_applyHoistSafe (s : State) : s.applyHoistSafe.trips = s.trips := by
  rw [applyHoistSafe, trips_hoistSafe]
  exact trips_forRange 6 (fun s h _ => by rw [trips_ite, trips_loseNormal, ite_self]) s

/-! ## The count of trips stands through a reset of the Fly die (R94) -/

/-- What is kept of the objects reads as it did. -/
theorem read_filter_kept {p : Nat → Bool} {k : Nat} (kept : p k = true) (l : Regs) (d : Nat) :
    Table.read (l.filter (fun e => p e.1)) d k = Table.read l d k := by
  have same : Table.get? (l.filter (fun e => p e.1)) k = Table.get? l k := by
    induction l with
    | nil => rfl
    | cons e l ih =>
      obtain ⟨i, a⟩ := e
      by_cases hi : i = k
      · subst hi
        simp [kept, Table.get?_cons]
      · by_cases hp : p i = true <;> simpa [hp, hi, Table.get?_cons] using ih
  simp only [Table.read, same]

theorem trips_flyReset (s : State) (cause : Nat) : (s.flyReset cause).trips = s.trips := by
  have kept := read_filter_kept (p := fun k => keptObject k || hoistObject k) (k := Obj.hoistWdgTrips) (by decide) s.obj
    (objDefault Obj.hoistWdgTrips)
  unfold flyReset
  dsimp only
  rw [trips_setOb _ _ (by decide), trips_ite, trips_setOb _ _ (by decide), trips_setOb _ _ (by decide), ite_self]
  exact kept

theorem trips_flyResetKeeping (s : State) (cause : Nat) : (s.flyResetKeeping cause).trips = s.trips := by
  have fans (t : State) (f : Nat) : ((t.setBit (Obj.fanFlags f) 2 true).setOb (Obj.fanState f) 4).trips = t.trips := by
    rw [trips_setOb _ _ (by unfold Obj.fanState Obj.hoistWdgTrips key; omega), setBit_eq,
      trips_setOb _ _ (by unfold Obj.fanFlags Obj.hoistWdgTrips key; omega)]
  refine Eq.trans (trips_forRange 4 (fun t f _ => ?_) _) (trips_flyReset s cause)
  rw [trips_ite, fans, ite_self]

theorem trips_hoistRestart (s : State) (cause : Nat) : (s.hoistRestart cause).trips = s.trips :=
  (trips_flyResetKeeping s.applyHoistSafe cause).trans (trips_applyHoistSafe s)

/-! ## What a restart leaves of the rest -/

theorem ft_of_still {s t : State} (h : t.still = s.still) : t.ft = s.ft := by
  have field {α : Type} (f : State → α) : f t.still = f s.still := congrArg f h
  exact field State.ft

theorem applyHoistSafe_keeps_copies (s : State) :
    s.applyHoistSafe.ft.copies = s.ft.copies ∧ s.applyHoistSafe.hoist.tripToReport = s.hoist.tripToReport := by
  obtain ⟨hoist, -⟩ := fields_of_still s.applyHoistSafe_still
  rw [ft_of_still s.applyHoistSafe_still, hoist]
  exact ⟨rfl, rfl⟩

theorem flyReset_ends (s : State) (cause : Nat) :
    let t := s.flyReset cause
    t.timers = [] ∧ t.can = [] ∧ t.commits = [] ∧ t.ft.copies = s.ft.copies ∧
      t.hoist.tripToReport = s.hoist.tripToReport := by
  unfold flyReset
  dsimp only
  split <;> exact ⟨rfl, rfl, rfl, rfl, rfl⟩

/-- A restart keeps the copies of the configuration and the mark of a trip, and ends the Fly die's timers, channels and
commits. -/
theorem hoistRestart_ends (s : State) (cause : Nat) :
    let t := s.hoistRestart cause
    t.timers = [] ∧ t.can = [] ∧ t.commits = [] ∧ t.ft.copies = s.ft.copies ∧
      t.hoist.tripToReport = s.hoist.tripToReport := by
  obtain ⟨timers, can, commits, copies, mark⟩ := s.applyHoistSafe.flyReset_ends cause
  obtain ⟨safeCopies, safeMark⟩ := s.applyHoistSafe_keeps_copies
  have frame := s.shows_hoistRestart cause
  unfold Shows at frame
  rw [frame]
  dsimp only
  exact ⟨timers, can, commits, copies.trans safeCopies, mark.trans safeMark⟩

/-! ## The commands -/

/-- The state with a trip counted and noted, before its restart. -/
def tripNoted (s : State) : State :=
  { s.bump Obj.hoistWdgTrips with hoist := { s.hoist with tripToReport := true } }

theorem watchdogTrip_eq (s : State) : s.watchdogTrip = s.tripNoted.hoistRestart 3 := rfl

theorem hoistWatchdogTrip_restarts {s : State} (due : s.watchdogDue = true) :
    ∃ t, exec .hoistWatchdogTrip s = .next t ∧ t.boot.stage = .flyReset ∧ t.boot.nextCause = 3 ∧ t.hoist.safe = true ∧
      t.hoist.tripToReport = true ∧ t.ob Obj.hoistWdgTrips = (s.ob Obj.hoistWdgTrips + 1) % 2 ^ 32 ∧ t.sessions = [] ∧
      t.own = {} ∧ t.timers = [] ∧ t.can = [] ∧ t.commits = [] ∧ t.cfg = s.cfg ∧ t.ft.copies = s.ft.copies ∧
      t.flyStarts = s.flyStarts := by
  obtain ⟨stage, cause, safe, -, sessions, cfg, own, starts⟩ := s.tripNoted.hoistRestart_keeps 3
  obtain ⟨timers, can, commits, copies, mark⟩ := s.tripNoted.hoistRestart_ends 3
  have count : (s.tripNoted.hoistRestart 3).trips = (s.ob Obj.hoistWdgTrips + 1) % 2 ^ 32 :=
    (trips_hoistRestart s.tripNoted 3).trans (ob_setOb_same s _ _)
  exact ⟨_, whenever_of due _ _, stage, cause, safe, mark, count, sessions, own, timers, can, commits, cfg, copies, starts⟩

theorem flyResetRelease_releases {s : State} (stage : s.boot.stage = .flyReset)
    (cause : s.boot.nextCause = 3 ∨ s.boot.nextCause = 4 ∨ s.boot.nextCause = 8) :
    exec .flyResetRelease s = .next s.flyRelease :=
  whenever_of (by simpa [stage, or_assoc] using cause) _ _

end State

open State in
/-- Settles O23: the trip is a restart under the hoist safe state, and its end the release of the Fly die. -/
theorem hoistWatchdogRestartsTheFlyDie : Obligations.HoistWatchdogRestartsTheFlyDie :=
  ⟨fun _ due => hoistWatchdogTrip_restarts due, fun _ stage cause => flyResetRelease_releases stage cause⟩

end Sys2Proof.Machine

/-!
Gate drivers (R139–R154): the rules of a channel's record and of its objects, and what a protection that turns a channel off
leaves alone.
-/

namespace Sys2Proof.Machine

/-! ## Bits and objects of a channel -/

/-- A bit that is clear carries nothing when it is set. -/
theorem bitAt_add_other {x i j : Nat} (clear : bitAt x i = false) (h : i ≠ j) : bitAt (x + 2 ^ i) j = bitAt x j := by
  unfold bitAt at clear ⊢
  obtain below | above := Nat.lt_or_gt_of_ne h
  · obtain ⟨k, rfl⟩ := Nat.exists_eq_add_of_lt below
    have even : x / 2 ^ i % 2 ≠ 1 := by simpa using clear
    have up : (x + 2 ^ i) / 2 ^ i = x / 2 ^ i + 1 := Nat.add_div_right x (Nat.two_pow_pos i)
    have half : (x / 2 ^ i + 1) / 2 = x / 2 ^ i / 2 := by omega
    have split (y : Nat) : y / 2 ^ (i + k + 1) = y / 2 ^ i / 2 / 2 ^ k := by
      rw [Nat.div_div_eq_div_mul, Nat.div_div_eq_div_mul]
      congr 1
      ring
    rw [split, split, up, half]
  · obtain ⟨k, rfl⟩ := Nat.exists_eq_add_of_lt above
    have more : (x + 2 ^ (j + k + 1)) / 2 ^ j = x / 2 ^ j + 2 * 2 ^ k := by
      rw [show 2 ^ (j + k + 1) = 2 ^ j * (2 * 2 ^ k) by ring]
      exact Nat.add_mul_div_left x _ (Nat.two_pow_pos j)
    rw [more, Nat.add_mul_mod_self_left]

/-- A bit made so leaves the other bits. -/
theorem bitAt_setBitTo_other (x : Nat) {i j : Nat} (b : Bool) (h : i ≠ j) : bitAt (setBitTo x i b) j = bitAt x j := by
  have made := bitAt_setBitTo_same x i b
  unfold setBitTo at made ⊢
  split
  · rfl
  · next moves =>
    rw [if_neg moves] at made
    cases b
    · have set : bitAt x i = true := by simpa using moves
      have fits : 2 ^ i ≤ x := by
        by_contra low
        simp [bitAt, Nat.div_eq_of_lt (Nat.lt_of_not_le low)] at set
      have back := bitAt_add_other (x := x - 2 ^ i) (by simpa using made) h
      rw [Nat.sub_add_cancel fits] at back
      simpa using back.symm
    · exact bitAt_add_other (by simpa using moves) h

/-- Two objects of the gate drivers' status records with another subindex differ. -/
theorem gdField_ne (n m : Nat) {a b : Nat} (h : a ≠ b ∧ a < 256 ∧ b < 256) :
    key (0x4002 + 0x10 * n) a ≠ key (0x4002 + 0x10 * m) b := by
  unfold key
  omega

theorem gdStatus_ne {n m : Nat} (h : n ≠ m) : Obj.gdStatus n ≠ Obj.gdStatus m := by unfold Obj.gdStatus key; omega
theorem gdAppliedValue_ne {n m : Nat} (h : n ≠ m) : Obj.gdAppliedValue n ≠ Obj.gdAppliedValue m := by
  unfold Obj.gdAppliedValue key; omega
theorem gdStatus_ne_gdAppliedValue (n m : Nat) : Obj.gdStatus n ≠ Obj.gdAppliedValue m := gdField_ne n m (by decide)

namespace State

theorem bit_setOb_other (s : State) {k j : Nat} (v i : Nat) (h : k ≠ j) : (s.setOb k v).bit j i = s.bit j i :=
  congrArg (bitAt · i) (ob_setOb_other s v h)

theorem bit_setBit_other (s : State) (k l : Nat) {i j : Nat} (b : Bool) (h : i ≠ j) : (s.setBit k i b).bit l j = s.bit l j := by
  by_cases same : k = l
  · subst same
    unfold bit
    rw [setBit_eq, ob_setOb_same, bitAt_setBitTo_other _ b h]
  · exact bit_setOb_other s _ j same

@[simp] theorem gdCh_setGd_same (s : State) (n : Nat) (x : GdChannel) : (s.setGd n x).gdCh n = x := Table.read_write_same ..
@[simp] theorem gdCh_setGd_other (s : State) {n m : Nat} (x : GdChannel) (h : n ≠ m) : (s.setGd n x).gdCh m = s.gdCh m :=
  Table.read_write_other _ _ _ _ h

/-! ## What hangs on the configuration alone -/

theorem cf_of_cfg {s t : State} (h : t.cfg = s.cfg) (k : Nat) : t.cf k = s.cf k := by
  unfold cf
  rw [h]

theorem bridgeOf_of_cfg {s t : State} (h : t.cfg = s.cfg) (c : Nat) : t.bridgeOf c = s.bridgeOf c := by
  simp only [bridgeOf, brUsed, brLead, brOther, cf_of_cfg h]

theorem gdLead_of_cfg {s t : State} (h : t.cfg = s.cfg) (c : Nat) : t.gdLead c = s.gdLead c := by
  simp only [gdLead, bridgeOf_of_cfg h, brLead, cf_of_cfg h]

theorem highMode_of_cfg {s t : State} (h : t.cfg = s.cfg) (c : Nat) : t.highMode c = s.highMode c := by
  simp only [highMode, cf_of_cfg h]

/-- Fields that a protection does not move. -/
theorem frame_of_still {s t : State} (h : t.still = s.still) : t.hoist = s.hoist ∧ t.now = s.now ∧ t.cfg = s.cfg := by
  obtain ⟨hoist, tb, -, cfg, -⟩ := fields_of_still h
  exact ⟨hoist, congrArg (fun x => x.count) tb, cfg⟩

/-! ## An empty queue -/

/-- No request for admission waits or has been refused. -/
def NoRequests (s : State) : Prop := s.arb.queue = [] ∧ s.arb.refused = []

theorem queue_checkOver (s : State) : s.checkOver.arb.queue = s.arb.queue ∧ s.checkOver.arb.refused = s.arb.refused := by
  unfold checkOver
  split <;> exact ⟨rfl, rfl⟩

/-- With no request the test run on the queue admits nothing (R117). -/
theorem runQueue_of_noRequests {s : State} (h : s.NoRequests) : s.runQueue = s.checkOver := by
  obtain ⟨queue, refused⟩ := h
  obtain ⟨queue', refused'⟩ := s.queue_checkOver
  rw [queue] at queue'
  rw [refused] at refused'
  have stops : runQueueN 65 s = s.checkOver := by
    unfold runQueueN
    dsimp only
    rw [queue']
  unfold runQueue
  dsimp only
  rw [stops, refused']
  rfl

/-! ## A channel shut -/

/-- What a channel's protection goes through: its admission entry goes and the queue is tested (R117, R144); its bridge coasts
(R172), or its pair and its fan go off; then the channel is held off. What holds after the test and is kept by each of these holds
of the channel shut. -/
theorem gdShut_induct {P : State → Prop} (s : State) (c : Nat) (tested : P (s.dropEntry (gdSig (s.gdLead c))).runQueue)
    (coasts : ∀ u, ∀ b < 6, P u → P (u.coastBridge b)) (goesOff : ∀ u d, P u → P (u.gdOff d))
    (trips : ∀ u f, P u → P (u.fanTripped f)) (held : ∀ u, P u → P (u.gdHoldOff c)) : P (s.gdShut c) := by
  unfold gdShut
  refine held _ ?_
  dsimp only
  generalize (s.dropEntry (gdSig (s.gdLead c))).runQueue = u at tested ⊢
  split
  · next b e => exact coasts u b (List.mem_range.mp (List.mem_of_find?_eq_some e)) tested
  · have paired : P (if u.cf (Obj.gdMode c) = 4 then u.gdOff (c - 1) else u) := by
      split
      · exact goesOff u _ tested
      · exact tested
    split
    · exact trips _ _ paired
    · exact paired

/-! ## Gates stay closed -/

/-- `t` follows `s` with no gate opened: a channel held off stays so, an applied value of 0 stays 0, the status bits stay set but
those of a duty (0 and 2) and of soft start (13), and no request for admission comes or goes. -/
structure KeepsShut (s t : State) : Prop where
  queue : t.arb.queue = s.arb.queue
  refused : t.arb.refused = s.arb.refused
  off : ∀ c, (s.gdCh c).off = true → (t.gdCh c).off = true
  zero : ∀ c < 24, s.ob (Obj.gdAppliedValue c) = 0 → t.ob (Obj.gdAppliedValue c) = 0
  shown : ∀ c < 24, ∀ i, i ≠ 0 → i ≠ 2 → i ≠ 13 → s.bit (Obj.gdStatus c) i = true → t.bit (Obj.gdStatus c) i = true

namespace KeepsShut

theorem refl (s : State) : KeepsShut s s := ⟨rfl, rfl, fun _ => id, fun _ _ => id, fun _ _ _ _ _ _ => id⟩

section
variable {s t : State} (h : KeepsShut s t)
include h

theorem noRequests (idle : s.NoRequests) : t.NoRequests := ⟨h.queue.trans idle.1, h.refused.trans idle.2⟩

/-- The parts of the state that `KeepsShut` reads. -/
theorem congr {u : State} (gd : u.gd = t.gd) (obj : u.obj = t.obj) (queue : u.arb.queue = t.arb.queue)
    (refused : u.arb.refused = t.arb.refused) : KeepsShut s u := by
  have ch (c : Nat) : u.gdCh c = t.gdCh c := by unfold gdCh; rw [gd]
  have ob (k : Nat) : u.ob k = t.ob k := by unfold State.ob; rw [obj]
  refine ⟨queue.trans h.queue, refused.trans h.refused, fun c k => ?_, fun c small k => ?_, fun c small i i0 i2 i13 k => ?_⟩
  · rw [ch]
    exact h.off c k
  · rw [ob]
    exact h.zero c small k
  · unfold State.bit
    rw [ob]
    exact h.shown c small i i0 i2 i13 k

theorem setGd (n : Nat) {x : GdChannel} (off : (t.gdCh n).off = true → x.off = true) : KeepsShut s (t.setGd n x) where
  queue := h.queue
  refused := h.refused
  off c k := by
    by_cases e : n = c
    · subst e
      rw [gdCh_setGd_same]
      exact off (h.off n k)
    · rw [gdCh_setGd_other _ _ e]
      exact h.off c k
  zero := h.zero
  shown := h.shown

/-- An object that is neither a status nor an applied value of a gate driver. -/
theorem setOb_aside {k : Nat} (v : Nat) (status : ∀ c < 24, k ≠ Obj.gdStatus c) (applied : ∀ c < 24, k ≠ Obj.gdAppliedValue c) :
    KeepsShut s (t.setOb k v) where
  queue := h.queue
  refused := h.refused
  off := h.off
  zero c small e := (ob_setOb_other t v (applied c small)).trans (h.zero c small e)
  shown c small i i0 i2 i13 e := (bit_setOb_other t v i (status c small)).trans (h.shown c small i i0 i2 i13 e)

/-- An object of another subindex of the status records. -/
theorem setField (n v : Nat) {b : Nat} (other : b ≠ 1 ∧ b ≠ 2 ∧ b < 256) : KeepsShut s (t.setOb (key (0x4002 + 0x10 * n) b) v) :=
  h.setOb_aside v (fun c _ => gdField_ne n c ⟨other.1, other.2.2, by decide⟩)
    (fun c _ => gdField_ne n c ⟨other.2.1, other.2.2, by decide⟩)

theorem applyZero (n : Nat) : KeepsShut s (t.setOb (Obj.gdAppliedValue n) 0) where
  queue := h.queue
  refused := h.refused
  off := h.off
  zero c small k := by
    by_cases e : n = c
    · rw [e, ob_setOb_same]
    · rw [ob_setOb_other _ _ (gdAppliedValue_ne e)]
      exact h.zero c small k
  shown c small i i0 i2 i13 k :=
    (bit_setOb_other t 0 i (gdStatus_ne_gdAppliedValue c n).symm).trans (h.shown c small i i0 i2 i13 k)

theorem setStatusBit (n i : Nat) (b : Bool) (ok : b = true ∨ i = 0 ∨ i = 2 ∨ i = 13) :
    KeepsShut s (t.setBit (Obj.gdStatus n) i b) where
  queue := h.queue
  refused := h.refused
  off := h.off
  zero c small k := (ob_setOb_other t _ (gdStatus_ne_gdAppliedValue n c)).trans (h.zero c small k)
  shown c small j j0 j2 j13 k := by
    by_cases e : i = j
    · by_cases own : n = c
      · rw [← e, ← own, bit_setBit_same]
        exact ok.resolve_right fun no => by omega
      · exact (bit_setOb_other t _ j (gdStatus_ne own)).trans (h.shown c small j j0 j2 j13 k)
    · rw [bit_setBit_other _ _ _ _ e]
      exact h.shown c small j j0 j2 j13 k

theorem post (ev v : Nat) : KeepsShut s (t.post ev v) := h.congr rfl rfl rfl rfl

theorem ite {u : State} {c : Prop} [Decidable c] (k : KeepsShut s u) : KeepsShut s (if c then t else u) := by
  split
  · exact h
  · exact k

/-- An object of a class's record, where there is one. -/
theorem setIn {n i v : Nat} {f : Nat → Nat} (k : KeepsShut s (t.setOb (f i) v)) : KeepsShut s (t.setIn n f i v) := ite k h

/-! ### A channel turned off -/

theorem gdShow (c : Nat) : KeepsShut s (t.gdShow c 0) := by
  have measured (v : Nat) : KeepsShut s (t.setIn 24 Obj.gdVdsMeas c v) :=
    h.setIn (h.setField c v (by decide))
  exact (((ite (measured _) h).applyZero c).setStatusBit c 0 _ (by simp)).setStatusBit c 2 _ (by simp)

theorem gdApplyAt (c period : Nat) : KeepsShut s (t.gdApplyAt c 0 period) := by
  unfold State.gdApplyAt
  simp only [ne_eq, not_true, decide_false, Bool.and_false, Bool.false_eq_true, if_false]
  exact ite ((h.gdShow c).gdShow (c + 1)) (h.gdShow c)

theorem gdOff (c : Nat) : KeepsShut s (t.gdOff c) :=
  ((h.setGd c (x := { t.gdCh c with softK := 0 }) id).gdApplyAt c _).setStatusBit c 13 false (by simp)

theorem gdHoldOff (c : Nat) : KeepsShut s (t.gdHoldOff c) := (h.setGd c fun _ => rfl).gdOff c

/-! ### Its bridge or its fan -/

theorem setBrFlag (b i : Nat) (v : Bool) : KeepsShut s (t.setBrFlag b i v) :=
  h.setOb_aside _ (fun c _ => by unfold Obj.brFlags Obj.gdStatus key; omega)
    (fun c _ => by unfold Obj.brFlags Obj.gdAppliedValue key; omega)

theorem brShow (b st : Nat) : KeepsShut s (t.brShow b st) :=
  (h.setOb_aside _ (fun c _ => by unfold Obj.brState Obj.gdStatus key; omega)
    (fun c _ => by unfold Obj.brState Obj.gdAppliedValue key; omega)).setBrFlag b 0 _

theorem brCoasts (b : Nat) : KeepsShut s (t.brChannels b 0 0) :=
  (((h.gdOff (t.brLead b)).gdOff (t.brOther b)).gdShow (t.brLead b + 1)).gdShow (t.brOther b + 1)

theorem loseNormal (b : Nat) : KeepsShut s (t.loseNormal b) := by
  have lost : KeepsShut s ((t.setBrFlag b 6 false).setBr b { (t.setBrFlag b 6 false).brCh b with stored := none }) :=
    (h.setBrFlag b 6 false).congr rfl rfl rfl rfl
  unfold State.loseNormal
  refine ite (KeepsShut.post (lost.setOb_aside 0xFFFF (fun c _ => ?_) (fun c _ => ?_)) _ _) h
  · unfold Obj.brPosition Obj.gdStatus key; omega
  · unfold Obj.brPosition Obj.gdAppliedValue key; omega

/-- An object of a fan's status record. -/
theorem setFanField (f v : Nat) {b : Nat} (small : b < 256) : KeepsShut s (t.setOb (key (0x4301 + 0x10 * f) b) v) :=
  h.setOb_aside v (fun c _ => by unfold Obj.gdStatus key; omega) (fun c _ => by unfold Obj.gdAppliedValue key; omega)

theorem fanOff (f : Nat) : KeepsShut s (t.fanOff f) := by
  have off (x : Fan) (n m : Nat) : KeepsShut s (((t.setFan f x).gdOff n).gdShow m 0) :=
    (gdOff (t := t.setFan f x) (h.congr rfl rfl rfl rfl) n).gdShow m
  have k := off { t.fanCh f with duty := 0 } (t.fanLead f) (t.fanLead f + 1)
  have k := k.setIn (n := 4) (f := Obj.fanSpeed) (k.setFanField f 0 (by decide))
  have k := k.setIn (n := 4) (f := Obj.fanSpeedSource) (k.setFanField f 0 (by decide))
  exact k.setFanField f _ (by decide)

theorem fanTripped (f : Nat) : KeepsShut s (t.fanTripped f) :=
  ite ((h.fanOff f).setFanField f 0 (by decide)) (h.fanOff f)

/-! ### Admission with no request waiting -/

theorem dropEntry (sig : Nat) : KeepsShut s (t.dropEntry sig) := h.congr rfl rfl rfl rfl

theorem runQueue (idle : s.NoRequests) : KeepsShut s t.runQueue := by
  rw [runQueue_of_noRequests (h.noRequests idle)]
  have fits : KeepsShut s { t with arb := { t.arb with sOver := false } } := h.congr rfl rfl rfl rfl
  exact ite (fits.post 1219 0) h

theorem withdraw (idle : s.NoRequests) (sig : Nat) : KeepsShut s (t.withdraw sig) := by
  obtain ⟨queue, refused⟩ := h.noRequests idle
  unfold State.withdraw withdrawIf
  rw [queue, refused]
  exact h.congr rfl rfl (by simp [forEach, queue]) (by simp [forEach, refused])

theorem brUnload (idle : s.NoRequests) (b : Nat) : KeepsShut s (t.brUnload b) :=
  ((h.withdraw idle _).dropEntry _).runQueue idle

/-! ### The protections -/

theorem coastBridge (idle : s.NoRequests) (b : Nat) : KeepsShut s (t.coastBridge b) := by
  unfold State.coastBridge
  extract_lets _ unloaded moving flagged coasting off told
  have k : KeepsShut s unloaded := h.brUnload idle b
  have k : KeepsShut s flagged := ite (k.setBrFlag b 4 true) k
  have k : KeepsShut s coasting := k.congr rfl rfl rfl rfl
  have k : KeepsShut s off := (k.brShow b _).brCoasts b
  have k : KeepsShut s told := k.post _ _
  exact ite (k.loseNormal b) k

theorem gdShut (idle : s.NoRequests) (c : Nat) : KeepsShut s (t.gdShut c) :=
  gdShut_induct t c ((h.dropEntry _).runQueue idle) (fun _ b _ k => k.coastBridge idle b) (fun _ d k => k.gdOff d)
    (fun _ f k => k.fanTripped f) (fun _ k => k.gdHoldOff c)

theorem gateFault (c cause : Nat) : KeepsShut s (t.gateFault c cause) := (h.setStatusBit c 9 true (by simp)).post _ _

theorem gdFault (c : Nat) : KeepsShut s (t.gdFault c) := by
  unfold State.gdFault
  extract_lets l count used _ off at_
  have k : KeepsShut s off := h.setGd l fun _ => rfl
  have waits : KeepsShut s (off.setGd l { off.gdCh l with retryAt := some at_ }) := k.setGd l id
  exact ite k (ite (waits.setStatusBit l 14 true (by simp)) ((k.setStatusBit l 15 true (by simp)).post _ _))

theorem gdSupplyOff (idle : s.NoRequests) (flag cause c : Nat) : KeepsShut s (t.gdSupplyOff flag cause c) := by
  have closed := ((h.gdShut idle c).setStatusBit c flag true (by simp)).gateFault c cause
  unfold State.gdSupplyOff
  exact ite h (ite (closed.gdFault c) closed)

end

end KeepsShut

/-! ## A channel held off -/

/-- A channel is held off and shows no duty (R154). -/
structure HeldOff (c : Nat) (s : State) : Prop where
  off : (s.gdCh c).off = true
  zero : s.ob (Obj.gdAppliedValue c) = 0

theorem KeepsShut.heldOff {s t : State} (k : KeepsShut s t) {c : Nat} (small : c < 24) (h : HeldOff c s) : HeldOff c t :=
  ⟨k.off c h.off, k.zero c small h.zero⟩

theorem applied_gdShow_same (s : State) (c v : Nat) : (s.gdShow c v).ob (Obj.gdAppliedValue c) = v := by
  unfold gdShow
  dsimp only
  have other := gdStatus_ne_gdAppliedValue c c
  rw [setBit_eq, ob_setOb_other _ _ other, setBit_eq, ob_setOb_other _ _ other, ob_setOb_same]

theorem applied_gdApply_zero (s : State) {c : Nat} (small : c < 24) : (s.gdApply c 0).ob (Obj.gdAppliedValue c) = 0 := by
  have shown := applied_gdShow_same s c 0
  unfold gdApply gdApplyAt
  simp only [ne_eq, not_true, decide_false, Bool.and_false, Bool.false_eq_true, if_false]
  split
  · exact ((KeepsShut.refl _).gdShow (c + 1)).zero c small shown
  · exact shown

theorem applied_gdOff (s : State) {c : Nat} (small : c < 24) : (s.gdOff c).ob (Obj.gdAppliedValue c) = 0 :=
  (ob_setOb_other _ _ (gdStatus_ne_gdAppliedValue c c)).trans (applied_gdApply_zero _ small)

theorem heldOff_gdHoldOff (s : State) {c : Nat} (small : c < 24) : HeldOff c (s.gdHoldOff c) :=
  ⟨((KeepsShut.refl _).gdOff c).off c (by simp), applied_gdOff _ small⟩

theorem heldOff_gdShut (s : State) {c : Nat} (small : c < 24) : HeldOff c (s.gdShut c) := heldOff_gdHoldOff _ small

/-! ## What a protection leaves alone -/

@[simp] theorem loseNormal_kept (s : State) (b : Nat) : (s.loseNormal b).kept = s.kept := by simp [loseNormal]
@[simp] theorem coastBridge_kept (s : State) (b : Nat) : (s.coastBridge b).kept = s.kept := by simp [coastBridge]
@[simp] theorem fanTripped_kept (s : State) (f : Nat) : (s.fanTripped f).kept = s.kept := by simp [fanTripped]
@[simp] theorem gdHoldOff_kept (s : State) (c : Nat) : (s.gdHoldOff c).kept = s.kept := by simp [gdHoldOff]
@[simp] theorem gdShut_kept (s : State) (c : Nat) : (s.gdShut c).kept = s.kept :=
  gdShut_induct s c (by simp) (fun u b _ k => (u.coastBridge_kept b).trans k) (fun u d k => (u.gdOff_kept d).trans k)
    (fun u f k => (u.fanTripped_kept f).trans k) (fun u k => (u.gdHoldOff_kept c).trans k)
@[simp] theorem gateFault_kept (s : State) (c cause : Nat) : (s.gateFault c cause).kept = s.kept := by simp [gateFault]
@[simp] theorem gdFault_kept (s : State) (c : Nat) : (s.gdFault c).kept = s.kept := by simp [gdFault]

section
variable {own : List Nat}

theorem loseNormal_quiet (s : State) {b : Nat} (mine : Obj.brPosition b ∈ own) : (s.loseNormal b).quiet own = s.quiet own := by
  simp [loseNormal, moves_own mine]
theorem coastBridge_quiet (s : State) {b : Nat} (mine : Obj.brPosition b ∈ own) : (s.coastBridge b).quiet own = s.quiet own := by
  simp [coastBridge, loseNormal_quiet _ mine]
theorem fanTripped_quiet (s : State) (f : Nat) : (s.fanTripped f).quiet own = s.quiet own := by simp [fanTripped]
theorem gdHoldOff_quiet (s : State) (c : Nat) : (s.gdHoldOff c).quiet own = s.quiet own := by simp [gdHoldOff]

theorem gdShut_quiet (s : State) (c : Nat) (mine : ∀ b < 6, Obj.brPosition b ∈ own) : (s.gdShut c).quiet own = s.quiet own :=
  gdShut_induct (P := fun u => u.quiet own = s.quiet own) s c ((runQueue_quiet _).trans (dropEntry_quiet ..))
    (fun u b small k => (u.coastBridge_quiet (mine b small)).trans k)
    (fun u d k => (u.gdOff_quiet d).trans k) (fun u f k => (u.fanTripped_quiet f).trans k)
    (fun u k => (u.gdHoldOff_quiet c).trans k)

end

/-- An object that no switching moves reads as before a channel is shut, but for the window positions that a coasting bridge
loses. -/
theorem ob_gdShut (s : State) (c : Nat) {k : Nat} (fixed : outputObject k = false) (other : ∀ b < 6, k ≠ Obj.brPosition b) :
    (s.gdShut c).ob k = s.ob k := by
  refine ob_of_quiet (own := (List.range 6).map Obj.brPosition)
    (gdShut_quiet s c fun b small => List.mem_map_of_mem (List.mem_range.mpr small)) ?_
  have absent : k ∉ (List.range 6).map Obj.brPosition := fun m => by
    obtain ⟨b, small, e⟩ := List.mem_map.mp m
    exact other b (List.mem_range.mp small) e.symm
  simp [moves, fixed, absent]

/-- An object of a gate driver's status record from subindex 7 on, or T_EST. -/
theorem ob_gdShut_field (s : State) (c n : Nat) {b : Nat} (field : b = 5 ∨ 7 ≤ b ∧ b < 256) :
    (s.gdShut c).ob (key (0x4002 + 0x10 * n) b) = s.ob (key (0x4002 + 0x10 * n) b) := by
  refine ob_gdShut s c ?_ fun h _ => ?_
  · rw [outputObject_key _ (by omega)]
    simp
    omega
  · unfold Obj.brPosition key
    omega

/-! ## Events -/

section
variable {s : State} {o : Occ} (h : o ∈ s.fab.inFlight)
include h

theorem mem_inFlight_brUnload (b : Nat) : o ∈ (s.brUnload b).fab.inFlight := by
  have withdrawn (sig : Nat) : (s.withdraw sig).fab = s.fab := fab_forEach (f := noteWait) (fun _ _ => rfl) _ s
  unfold brUnload
  exact mem_inFlight_runQueue (mem_inFlight_of_fab (withdrawn _) h)

theorem mem_inFlight_loseNormal (b : Nat) : o ∈ (s.loseNormal b).fab.inFlight := by
  unfold loseNormal
  exact mem_inFlight_ite (mem_inFlight_post h _ _) h

theorem mem_inFlight_coastBridge (b : Nat) : o ∈ (s.coastBridge b).fab.inFlight := by
  unfold coastBridge
  extract_lets _ unloaded moving flagged coasting off told
  have k : o ∈ unloaded.fab.inFlight := mem_inFlight_brUnload h b
  have k : o ∈ flagged.fab.inFlight := mem_inFlight_ite k k
  have k : o ∈ off.fab.inFlight := mem_inFlight_of_fab (fab_brChannels ..) k
  have k : o ∈ told.fab.inFlight := mem_inFlight_post k _ _
  exact mem_inFlight_ite (mem_inFlight_loseNormal k b) k

theorem mem_inFlight_fanTripped (f : Nat) : o ∈ (s.fanTripped f).fab.inFlight := by
  have off : (s.fanOff f).fab = s.fab := by simp [fanOff, fab_setBit, fab_setIn, fab_gdShow, fab_gdOff, fab_setFan]
  unfold fanTripped
  exact mem_inFlight_ite (mem_inFlight_of_fab off h) (mem_inFlight_of_fab off h)

theorem mem_inFlight_gdHoldOff (c : Nat) : o ∈ (s.gdHoldOff c).fab.inFlight := mem_inFlight_of_fab (fab_gdOff _ c) h

theorem mem_inFlight_gdShut (c : Nat) : o ∈ (s.gdShut c).fab.inFlight :=
  gdShut_induct (P := fun u => o ∈ u.fab.inFlight) s c (mem_inFlight_runQueue (s := s.dropEntry _) h)
    (fun _ b _ k => mem_inFlight_coastBridge k b) (fun _ d k => mem_inFlight_of_fab (fab_gdOff _ d) k)
    (fun _ f k => mem_inFlight_fanTripped k f) (fun _ k => mem_inFlight_gdHoldOff k c)

theorem mem_inFlight_gdFault (c : Nat) : o ∈ (s.gdFault c).fab.inFlight := by
  unfold gdFault
  exact mem_inFlight_ite h (mem_inFlight_ite h (mem_inFlight_post h _ _))

end

/-! ## The retry that follows a fault, or latching (R153) -/

theorem ob_gdFault (s : State) (c : Nat) {k : Nat} (other : k ≠ Obj.gdStatus (s.gdLead c)) : (s.gdFault c).ob k = s.ob k := by
  unfold gdFault
  dsimp only
  split
  · rfl
  · split
    · exact ob_setOb_other _ _ other.symm
    · exact ob_setOb_other _ _ other.symm

theorem gdFault_latches {s : State} {c : Nat} (safe : s.hoist.safe = false) (bounded : s.cf (Obj.gdRetryCount (s.gdLead c)) ≠ 255)
    (spent : s.cf (Obj.gdRetryCount (s.gdLead c)) ≤ s.ob (Obj.gdRetriesUsed (s.gdLead c))) :
    (s.gdFault c).bit (Obj.gdStatus (s.gdLead c)) 15 = true := by
  unfold gdFault
  extract_lets l count used _ off at_
  have last : ¬(count = 255 || decide (used < count)) = true := by simpa [count, used, l, bounded] using spent
  rw [if_neg (by simp [off, State.setGd, safe]), if_neg last]
  exact bit_setBit_same off _ 15 true

theorem gdFault_waits {s : State} {c : Nat} (safe : s.hoist.safe = false)
    (left : s.ob (Obj.gdRetriesUsed (s.gdLead c)) < s.cf (Obj.gdRetryCount (s.gdLead c))) :
    (s.gdFault c).bit (Obj.gdStatus (s.gdLead c)) 14 = true ∧
      ∃ d, ((s.gdFault c).gdCh (s.gdLead c)).retryAt = some (s.now + d) ∧ ms (s.cf (Obj.gdRetryDelay (s.gdLead c))) ≤ d := by
  unfold gdFault
  extract_lets l count used _ off at_
  rw [if_neg (by simp [off, State.setGd, safe]), if_pos (by simp [used, count, l, left])]
  refine ⟨bit_setBit_same _ _ 14 true, retryDelay count (s.cf (Obj.gdRetryDelay l)) used, ?_, ?_⟩
  · exact congrArg GdChannel.retryAt (gdCh_setGd_same off l _)
  · exact Nat.le_mul_of_pos_right _ (Nat.two_pow_pos _)

end State
end Sys2Proof.Machine

/-!
Trips, ramps that take too long and open gates (R144, R145, R153, R154).
-/

namespace Sys2Proof.Machine
namespace State

theorem gdStatus_ne_gdGateTon (n m : Nat) : Obj.gdStatus n ≠ Obj.gdGateTon m := gdField_ne n m (by decide)
theorem gdStatus_ne_gdTripCount (n m : Nat) : Obj.gdStatus n ≠ Obj.gdTripCount m := gdField_ne n m (by decide)
theorem gdStatus_ne_gdLastTripVds (n m : Nat) : Obj.gdStatus n ≠ Obj.gdLastTripVds m := gdField_ne n m (by decide)
theorem gdStatus_ne_gdRetriesUsed (n m : Nat) : Obj.gdStatus n ≠ Obj.gdRetriesUsed m := gdField_ne n m (by decide)
theorem gdLastTripVds_ne_gdTripCount (n m : Nat) : Obj.gdLastTripVds n ≠ Obj.gdTripCount m := gdField_ne n m (by decide)
theorem gdLastTripVds_ne_gdRetriesUsed (n m : Nat) : Obj.gdLastTripVds n ≠ Obj.gdRetriesUsed m := gdField_ne n m (by decide)
theorem gdTripCount_ne_gdRetriesUsed (n m : Nat) : Obj.gdTripCount n ≠ Obj.gdRetriesUsed m := gdField_ne n m (by decide)

/-- What a channel shut leaves alone of the hoist safe state, the timebase and the configuration. -/
theorem frame_gdShut (s : State) (c : Nat) :
    (s.gdShut c).hoist = s.hoist ∧ (s.gdShut c).now = s.now ∧ (s.gdShut c).cfg = s.cfg := frame_of_still (s.gdShut_still c)

/-! ## A gate fault (R145) -/

theorem bit_gateFault (u : State) (c cause : Nat) : (u.gateFault c cause).bit (Obj.gdStatus c) 9 = true :=
  bit_setBit_same u (Obj.gdStatus c) 9 true

theorem ob_gateFault (u : State) (c cause : Nat) {k : Nat} (other : Obj.gdStatus c ≠ k) : (u.gateFault c cause).ob k = u.ob k :=
  ob_setOb_other u _ other

theorem raised_gateFault (u : State) (c cause : Nat) : (u.gateFault c cause).Raised u.now (8 * c + 5) cause :=
  raised_post (u.setBit (Obj.gdStatus c) 9 true) _ _

/-- A channel off whose ramp is told of: the time of the ramp, the gate fault, and the retry that follows. -/
theorem gdFault_of_gateFault {u : State} {n : Nat} (small : n < 24) (shut : HeldOff n u) (v cause : Nat) :
    let t := ((u.setOb (Obj.gdGateTon n) v).gateFault n cause).gdFault n
    t.kept = u.kept ∧ t.bit (Obj.gdStatus n) 9 = true ∧ t.ob (Obj.gdGateTon n) = v ∧ t.Raised u.now (8 * n + 5) cause ∧
      (t.gdCh n).off = true ∧ t.ob (Obj.gdAppliedValue n) = 0 := by
  intro t
  let timed := u.setOb (Obj.gdGateTon n) v
  have k : KeepsShut u timed := (KeepsShut.refl u).setField n v (by decide)
  have follows : KeepsShut (timed.gateFault n cause) t := (KeepsShut.refl _).gdFault n
  have held : HeldOff n t := ((k.gateFault n cause).gdFault n).heldOff small shut
  refine ⟨by simp [t], ?_, ?_, ?_, held.off, held.zero⟩
  · exact follows.shown n small 9 (by decide) (by decide) (by decide) (bit_gateFault timed n cause)
  · rw [ob_gdFault _ n (gdStatus_ne_gdGateTon _ n).symm, ob_gateFault _ n cause (gdStatus_ne_gdGateTon n n), ob_setOb_same]
  · exact mem_inFlight_gdFault (raised_gateFault timed n cause) n

/-! ## A trip (R144) -/

/-- A channel off whose trip is shown, counted and told of, before its retry. -/
def tripTold (u : State) (c vds cause : Nat) : State :=
  (((u.setBit (Obj.gdStatus c) 5 true).bump (Obj.gdTripCount c)).setOb (Obj.gdLastTripVds c) (saturate vds 65535)).post (8 * c)
    (cause * 2 ^ 16 + saturate vds 65535)

theorem gdTrip_eq (s : State) (c vds : Nat) (envelope : Bool) : s.gdTrip c vds envelope =
    ((s.gdShut c).tripTold c vds (if envelope then 2 else if s.bit (Obj.gdStatus c) 13 then 3 else 1)).gdFault c := rfl

@[simp] theorem tripTold_kept (u : State) (c vds cause : Nat) : (u.tripTold c vds cause).kept = u.kept := rfl

theorem frame_tripTold (u : State) (c vds cause : Nat) : (u.tripTold c vds cause).hoist = u.hoist ∧
    (u.tripTold c vds cause).now = u.now ∧ (u.tripTold c vds cause).cfg = u.cfg := ⟨rfl, rfl, rfl⟩

theorem ob_tripTold (u : State) (c vds cause : Nat) :
    (u.tripTold c vds cause).ob (Obj.gdTripCount c) = (u.ob (Obj.gdTripCount c) + 1) % 2 ^ 32 ∧
      (u.tripTold c vds cause).ob (Obj.gdLastTripVds c) = saturate vds 65535 ∧
      ∀ l, (u.tripTold c vds cause).ob (Obj.gdRetriesUsed l) = u.ob (Obj.gdRetriesUsed l) := by
  unfold tripTold
  simp only [ob_post, bump_eq, setBit_eq]
  refine ⟨?_, ob_setOb_same .., fun l => ?_⟩
  · rw [ob_setOb_other _ _ (gdLastTripVds_ne_gdTripCount c c), ob_setOb_same, ob_setOb_other _ _ (gdStatus_ne_gdTripCount c c)]
  · rw [ob_setOb_other _ _ (gdLastTripVds_ne_gdRetriesUsed c l), ob_setOb_other _ _ (gdTripCount_ne_gdRetriesUsed c l),
      ob_setOb_other _ _ (gdStatus_ne_gdRetriesUsed c l)]

/-- A trip told of keeps what is shut, and shows SHORT. -/
theorem keepsShut_tripTold (u : State) (c vds cause : Nat) :
    KeepsShut (u.setBit (Obj.gdStatus c) 5 true) (u.tripTold c vds cause) :=
  (((KeepsShut.refl _).setField c _ (by decide)).setField c _ (by decide)).post _ _

theorem gdFault_of_tripTold {u : State} {n : Nat} (small : n < 24) (shut : HeldOff n u) (vds cause : Nat) :
    let t := (u.tripTold n vds cause).gdFault n
    t.kept = u.kept ∧ t.bit (Obj.gdStatus n) 5 = true ∧ t.ob (Obj.gdTripCount n) = (u.ob (Obj.gdTripCount n) + 1) % 2 ^ 32 ∧
      t.ob (Obj.gdLastTripVds n) = saturate vds 65535 ∧ t.Raised u.now (8 * n) (cause * 2 ^ 16 + saturate vds 65535) ∧
      (t.gdCh n).off = true ∧ t.ob (Obj.gdAppliedValue n) = 0 := by
  intro t
  obtain ⟨count, last, -⟩ := u.ob_tripTold n vds cause
  have flagged : KeepsShut u (u.setBit (Obj.gdStatus n) 5 true) := (KeepsShut.refl u).setStatusBit n 5 true (.inl rfl)
  have follows : KeepsShut (u.setBit (Obj.gdStatus n) 5 true) t := (u.keepsShut_tripTold n vds cause).gdFault n
  have held : HeldOff n t := follows.heldOff small (flagged.heldOff small shut)
  refine ⟨by simp [t], ?_, ?_, ?_, mem_inFlight_gdFault (raised_post _ _ _) n, held.off, held.zero⟩
  · exact follows.shown n small 5 (by decide) (by decide) (by decide) (bit_setBit_same u _ 5 true)
  · exact (ob_gdFault _ n (gdStatus_ne_gdTripCount _ n).symm).trans count
  · exact (ob_gdFault _ n (gdStatus_ne_gdLastTripVds _ n).symm).trans last

theorem ob_gdShut_gdTripCount (s : State) (c n : Nat) : (s.gdShut c).ob (Obj.gdTripCount n) = s.ob (Obj.gdTripCount n) :=
  ob_gdShut_field s c n (by decide)
theorem ob_gdShut_gdRetriesUsed (s : State) (c n : Nat) : (s.gdShut c).ob (Obj.gdRetriesUsed n) = s.ob (Obj.gdRetriesUsed n) :=
  ob_gdShut_field s c n (by decide)

/-- The lead's own settings decide whether a trip is retried or latched (R153, R172). -/
theorem gdTrip_retries {s : State} (safe : s.hoist.safe = false) (n vds : Nat) (envelope : Bool) :
    let t := s.gdTrip n vds envelope
    (s.cf (Obj.gdRetryCount (s.gdLead n)) ≠ 255 →
      s.cf (Obj.gdRetryCount (s.gdLead n)) ≤ s.ob (Obj.gdRetriesUsed (s.gdLead n)) →
      t.bit (Obj.gdStatus (s.gdLead n)) 15 = true) ∧
    (s.ob (Obj.gdRetriesUsed (s.gdLead n)) < s.cf (Obj.gdRetryCount (s.gdLead n)) →
      t.bit (Obj.gdStatus (s.gdLead n)) 14 = true ∧
      ∃ d, (t.gdCh (s.gdLead n)).retryAt = some (s.now + d) ∧ ms (s.cf (Obj.gdRetryDelay (s.gdLead n))) ≤ d) := by
  intro t
  simp only [t, gdTrip_eq]
  generalize (if envelope then 2 else if s.bit (Obj.gdStatus n) 13 then 3 else 1) = cause
  obtain ⟨hoist, now, cfg⟩ := s.frame_gdShut n
  obtain ⟨hoist', now', cfg'⟩ := (s.gdShut n).frame_tripTold n vds cause
  obtain ⟨-, -, used⟩ := (s.gdShut n).ob_tripTold n vds cause
  simp only [ob_gdShut_gdRetriesUsed] at used
  rw [← hoist, ← hoist'] at safe
  rw [cfg] at cfg'
  rw [now] at now'
  generalize (s.gdShut n).tripTold n vds cause = u at used cfg' now' safe
  rw [← gdLead_of_cfg cfg' n, ← now', ← cf_of_cfg cfg', ← cf_of_cfg cfg', ← used]
  exact ⟨gdFault_latches safe, gdFault_waits safe⟩

end State

open State in
/-- Settles O25: each of the three shuts the channel, shows it and tells of it, and follows by a retry or by latching. -/
theorem gateDriversTrip : Obligations.GateDriversTrip := by
  intro n s isOn
  have shut := heldOff_gdShut s n.isLt
  obtain ⟨-, now, -⟩ := s.frame_gdShut n
  have ramp (v cause : Nat) := gdFault_of_gateFault n.isLt shut v cause
  have trip (vds cause : Nat) := gdFault_of_tripTold n.isLt shut vds cause
  rw [now, gdShut_kept] at ramp trip
  rw [ob_gdShut_gdTripCount] at trip
  refine ⟨fun vds vgs vsup isOver => ?_, fun ton late => ?_, fun ton early => ?_⟩
  · obtain ⟨kept, short, count, last, told, off, zero⟩ :=
      trip vds (if vgs < s.gdRampTop n then 2 else if s.bit (Obj.gdStatus n) 13 then 3 else 1)
    have retries (safe : s.hoist.safe = false) := gdTrip_retries safe n vds (decide (vgs < s.gdRampTop n))
    simp only [gdTrip_eq, decide_eq_true_eq] at retries
    refine ⟨_, whenever_of (by rw [isOn, isOver]; rfl) _ _, ?_⟩
    simp only [gdTrip_eq, decide_eq_true_eq]
    exact ⟨kept, short, count, last, told, off, zero, fun safe => (retries safe).1, fun safe => (retries safe).2⟩
  · exact ⟨_, whenever_of (by simp [isOn, late]) _ _, ramp _ 1⟩
  · exact ⟨_, whenever_of (by simp [isOn, early]) _ _, ramp ton 2⟩

end Sys2Proof.Machine

/-!
What is watched of a gate driver (R141, R146, R149–R151): interlock, soft start, open load, the off-state checks and the junction
model.
-/

namespace Sys2Proof.Machine
namespace State

theorem gdStatus_ne_gdIEst (n m : Nat) : Obj.gdStatus n ≠ Obj.gdIEst m := gdField_ne n m (by decide)
theorem gdStatus_ne_gdTEst (n m : Nat) : Obj.gdStatus n ≠ Obj.gdTEst m := gdField_ne n m (by decide)
theorem gdStatus_ne_gdOffDiagResult (n m : Nat) : Obj.gdStatus n ≠ Obj.gdOffDiagResult m := gdField_ne n m (by decide)

/-! ## Interlock (R141) -/

theorem now_setBit (s : State) (k i : Nat) (b : Bool) : (s.setBit k i b).now = s.now := rfl
theorem now_gdHoldOff (s : State) (c : Nat) : (s.gdHoldOff c).now = s.now := (frame_of_still (s.gdHoldOff_still c)).2.1

/-- The upper gate of a pair is off: the lower one goes off too, and both show the gate fault. -/
theorem gateFault_of_pair {u : State} {a : Nat} (small : a + 1 < 24) (shut : HeldOff a u) :
    let t := ((u.gdHoldOff (a + 1)).setBit (Obj.gdStatus (a + 1)) 9 true).gateFault a 5
    t.kept = u.kept ∧ t.bit (Obj.gdStatus a) 9 = true ∧ t.bit (Obj.gdStatus (a + 1)) 9 = true ∧
      t.Raised u.now (8 * a + 5) 5 ∧ HeldOff a t ∧ HeldOff (a + 1) t := by
  have first : a < 24 := Nat.lt_of_succ_lt small
  have k : HeldOff a (u.gdHoldOff (a + 1)) := ((KeepsShut.refl u).gdHoldOff (a + 1)).heldOff first shut
  have lower := heldOff_gdHoldOff u small
  rw [← u.gdHoldOff_kept (a + 1), ← u.now_gdHoldOff (a + 1)]
  generalize u.gdHoldOff (a + 1) = v at k lower
  intro t
  have flagged : KeepsShut v (v.setBit (Obj.gdStatus (a + 1)) 9 true) := (KeepsShut.refl v).setStatusBit (a + 1) 9 true (.inl rfl)
  have told : KeepsShut (v.setBit (Obj.gdStatus (a + 1)) 9 true) t := (KeepsShut.refl _).gateFault a 5
  have now : (v.setBit (Obj.gdStatus (a + 1)) 9 true).now = v.now := now_setBit ..
  have raised := raised_gateFault (v.setBit (Obj.gdStatus (a + 1)) 9 true) a 5
  rw [now] at raised
  refine ⟨(gateFault_kept ..).trans (setBit_kept ..), bit_gateFault _ a 5, ?_, raised, ?_, ?_⟩
  · exact told.shown (a + 1) small 9 (by decide) (by decide) (by decide) (bit_setBit_same v _ 9 true)
  · exact told.heldOff first (flagged.heldOff first k)
  · exact told.heldOff small (flagged.heldOff small lower)

/-! ## One channel shows what was found of it -/

/-- `t` follows `s` with channel `n` and the objects `own` changed, and events posted. -/
structure Finds (n : Nat) (own : List Nat) (s t : State) : Prop where
  others : ∀ m, m ≠ n → t.gdCh m = s.gdCh m
  frame : t = { s with obj := t.obj, gd := t.gd, fab := t.fab }
  objects : s.ObjectsBut t own

namespace Finds
variable {n : Nat} {own : List Nat} {s t : State}

theorem refl (n : Nat) (own : List Nat) (s : State) : Finds n own s s := ⟨fun _ _ => rfl, rfl, objectsBut_refl s own⟩

theorem trans {u : State} (h : Finds n own s t) (k : Finds n own t u) : Finds n own s u where
  others m other := (k.others m other).trans (h.others m other)
  frame := k.frame.trans (congrArg (fun v : State => { v with obj := u.obj, gd := u.gd, fab := u.fab }) h.frame)
  objects j absent := (k.objects j absent).trans (h.objects j absent)

theorem setGd (h : Finds n own s t) (x : GdChannel) : Finds n own s (t.setGd n x) where
  others m other := (gdCh_setGd_other t x other.symm).trans (h.others m other)
  frame := congrArg (fun u : State => { u with gd := (t.setGd n x).gd }) h.frame
  objects := h.objects

theorem setOb (h : Finds n own s t) {k : Nat} (mine : k ∈ own) (v : Nat) : Finds n own s (t.setOb k v) where
  others := h.others
  frame := congrArg (fun u : State => { u with obj := (t.setOb k v).obj }) h.frame
  objects := objectsBut_setOb h.objects mine v

theorem setBit (h : Finds n own s t) {k : Nat} (mine : k ∈ own) (i : Nat) (b : Bool) : Finds n own s (t.setBit k i b) :=
  h.setOb mine _

theorem post (h : Finds n own s t) (ev v : Nat) : Finds n own s (t.post ev v) where
  others := h.others
  frame := congrArg (fun u : State => { u with fab := (t.post ev v).fab }) h.frame
  objects := h.objects

theorem postIf (h : Finds n own s t) (c : Bool) (ev v : Nat) : Finds n own s (t.postIf c ev v) := by
  cases c
  · exact h
  · exact h.post ev v

theorem gdOpen (h : Finds n own s t) (mine : Obj.gdStatus n ∈ own) (on off : Bool) : Finds n own s (t.gdOpen n on off) :=
  (h.setGd _).setBit mine 6 _

end Finds

@[simp] theorem gdCh_postIf (s : State) (c : Bool) (ev v m : Nat) : (s.postIf c ev v).gdCh m = s.gdCh m := by cases c <;> rfl

theorem gdCh_gdOpen (s : State) (n : Nat) (on off : Bool) :
    (s.gdOpen n on off).gdCh n = { s.gdCh n with openOn := on, openOff := off } := gdCh_setGd_same s n _

theorem bit_gdOpen (s : State) (n : Nat) (on off : Bool) : (s.gdOpen n on off).bit (Obj.gdStatus n) 6 = (on || off) :=
  bit_setBit_same (s.setGd n _) _ 6 _

/-! ## Soft start (R146) -/

theorem softStartEnd_finds (s : State) (n : Nat) :
    let x : GdChannel := { s.gdCh n with softK := 0, softEnd := some s.now }
    let t := ((s.setGd n x).setBit (Obj.gdStatus n) 13 false).post (8 * n + 6) (s.ob (Obj.gdAppliedValue n))
    t.gdCh n = x ∧ t.bit (Obj.gdStatus n) 13 = false ∧ t.Raised s.now (8 * n + 6) (s.ob (Obj.gdAppliedValue n)) ∧
      Finds n [Obj.gdStatus n] s t := by
  intro x t
  refine ⟨gdCh_setGd_same s n x, bit_setBit_same (s.setGd n x) _ 13 false, raised_post _ _ _, ?_⟩
  exact (((Finds.refl n _ s).setGd x).setBit List.mem_cons_self 13 false).post _ _

/-! ## Open load in the on state (R149) -/

theorem openLoad_finds (s : State) (n i : Nat) (low : Bool) :
    let t := ((s.setOb (Obj.gdIEst n) i).gdOpen n low (s.gdCh n).openOff).postIf (low && !(s.gdCh n).openOn) (8 * n + 2) 1
    t.ob (Obj.gdIEst n) = i ∧ t.bit (Obj.gdStatus n) 6 = (low || (s.gdCh n).openOff) ∧
      t.gdCh n = { s.gdCh n with openOn := low } ∧
      (low = true → (s.gdCh n).openOn = false → t.Raised s.now (8 * n + 2) 1) ∧
      Finds n [Obj.gdIEst n, Obj.gdStatus n] s t := by
  intro t
  let measured := s.setOb (Obj.gdIEst n) i
  have ob (k : Nat) : t.ob k = (measured.gdOpen n low (s.gdCh n).openOff).ob k := ob_postIf ..
  refine ⟨?_, ?_, ?_, fun isLow new => ?_, ?_⟩
  · rw [ob, gdOpen, setBit_eq, ob_setOb_other _ _ (gdStatus_ne_gdIEst n n)]
    exact ob_setOb_same s _ i
  · unfold bit
    rw [ob]
    exact bit_gdOpen measured n low _
  · exact (gdCh_postIf ..).trans (gdCh_gdOpen measured n low _)
  · simp only [t, isLow, new, postIf]
    exact raised_post _ _ _
  · exact (((Finds.refl n _ s).setOb List.mem_cons_self i).gdOpen (by simp) low _).postIf _ _ _

/-! ## Checks of an off channel (R150) -/

/-- The objects of an off-state check. -/
def diagObjects (n : Nat) : List Nat := [Obj.gdStatus n, Obj.gdOffDiagResult n]

/-- A report of three checks moves of the channel's own record only what the checks found of an open load. -/
structure Reports (n : Nat) (s t : State) : Prop where
  finds : Finds n (diagObjects n) s t
  own : t.gdCh n = { s.gdCh n with openOff := (t.gdCh n).openOff }

theorem reports_result (s : State) (n v : Nat) : Reports n s (s.setOb (Obj.gdOffDiagResult n) v) :=
  ⟨(Finds.refl n _ s).setOb (by simp [diagObjects]) v, rfl⟩

namespace Reports
variable {n : Nat} {s t : State}

theorem gdOpen (h : Reports n s t) (off : Bool) : Reports n s (t.gdOpen n (t.gdCh n).openOn off) where
  finds := h.finds.gdOpen (by simp [diagObjects]) _ off
  own := by
    rw [gdCh_gdOpen, h.own]

theorem setStatusBit (h : Reports n s t) (i : Nat) (b : Bool) : Reports n s (t.setBit (Obj.gdStatus n) i b) where
  finds := h.finds.setBit (by simp [diagObjects]) i b
  own := h.own

theorem postIf (h : Reports n s t) (c : Bool) (ev v : Nat) : Reports n s (t.postIf c ev v) where
  finds := h.finds.postIf c ev v
  own := by
    rw [gdCh_postIf]
    exact h.own

end Reports

/-- What three checks with the same reading report (R150). -/
theorem reports_gdDiagReport (s : State) (n mv reading : Nat) : Reports n s (s.gdDiagReport n mv reading) := by
  unfold gdDiagReport
  extract_lets high result was shown st on
  have k : Reports n s shown := reports_result s n result
  have opened (off : Bool) : Reports n s (shown.gdOpen n on off) := k.gdOpen off
  split
  · exact (opened false).setStatusBit 7 false
  · split
    · exact ((opened true).setStatusBit 7 false).postIf _ _ _
    · split
      · exact ((opened false).setStatusBit 7 true).postIf _ _ _
      · exact k

/-- What a report of an open load or a short shows: the result noted before, and the two bits. -/
theorem gdOpen_shows (u : State) (n : Nat) (on off short : Bool) :
    let t := (u.gdOpen n on off).setBit (Obj.gdStatus n) 7 short
    t.ob (Obj.gdOffDiagResult n) = u.ob (Obj.gdOffDiagResult n) ∧ t.bit (Obj.gdStatus n) 6 = (on || off) ∧
      t.bit (Obj.gdStatus n) 7 = short := by
  have result (w : State) (i : Nat) (b : Bool) : (w.setBit (Obj.gdStatus n) i b).ob (Obj.gdOffDiagResult n) =
      w.ob (Obj.gdOffDiagResult n) := ob_setOb_other w _ (gdStatus_ne_gdOffDiagResult n n)
  refine ⟨(result _ 7 short).trans (result (u.setGd n _) 6 _), ?_, bit_setBit_same _ _ 7 short⟩
  exact (bit_setBit_other _ _ _ short (by decide)).trans (bit_gdOpen u n on off)

theorem bit_post (s : State) (ev v k i : Nat) : (s.post ev v).bit k i = s.bit k i := rfl
theorem bit_postIf (s : State) (c : Bool) (ev v k i : Nat) : (s.postIf c ev v).bit k i = s.bit k i := by cases c <;> rfl

/-- Agreeing readings of an open load (R150). -/
theorem gdDiagReport_open (s : State) (n mv : Nat) :
    let t := s.gdDiagReport n mv 2
    t.ob (Obj.gdOffDiagResult n) = 2 ∧ t.bit (Obj.gdStatus n) 6 = true ∧ t.bit (Obj.gdStatus n) 7 = false := by
  obtain ⟨result, open_, short⟩ := (s.setOb (Obj.gdOffDiagResult n) 2).gdOpen_shows n (s.gdCh n).openOn true false
  have e : s.gdDiagReport n mv 2 = (((s.setOb (Obj.gdOffDiagResult n) 2).gdOpen n (s.gdCh n).openOn true).setBit (Obj.gdStatus n) 7
      false).postIf (s.ob (Obj.gdOffDiagResult n) ≠ 2) (8 * n + 2) 2 := rfl
  intro t
  simp only [t, e, ob_postIf, bit_postIf]
  exact ⟨result.trans (ob_setOb_same ..), open_.trans (Bool.or_true _), short⟩

/-- Agreeing readings above 6.5 V of a channel that feeds its load from above: a short (R150). -/
theorem gdDiagReport_short {s : State} {n : Nat} (high : s.highMode n = true) (mv : Nat) :
    let t := s.gdDiagReport n mv 3
    t.ob (Obj.gdOffDiagResult n) = 4 ∧ t.bit (Obj.gdStatus n) 7 = true := by
  obtain ⟨result, -, short⟩ := (s.setOb (Obj.gdOffDiagResult n) 4).gdOpen_shows n (s.gdCh n).openOn false true
  have e : s.gdDiagReport n mv 3 = (((s.setOb (Obj.gdOffDiagResult n) 4).gdOpen n (s.gdCh n).openOn false).setBit (Obj.gdStatus n) 7
      true).postIf (s.ob (Obj.gdOffDiagResult n) ≠ 4) (8 * n + 3) mv := by
    unfold highMode at high
    unfold gdDiagReport
    simp only [high]
    rfl
  intro t
  simp only [t, e, ob_postIf, bit_postIf]
  exact ⟨result.trans (ob_setOb_same ..), short⟩

/-- The state with a reading of an off channel taken (R150). -/
def readingTaken (s : State) (n r : Nat) : State :=
  s.setGd n { s.gdCh n with readings := (r :: (s.gdCh n).readings).take 3, lastDiag := s.now, diagNow := false }

theorem gdDiag_eq (s : State) (n mv : Nat) : s.gdDiag n mv =
    match threeAgree ((offReading mv :: (s.gdCh n).readings).take 3) with
    | some r => (s.readingTaken n (offReading mv)).gdDiagReport n mv r
    | none => s.readingTaken n (offReading mv) := rfl

theorem threeAgree_of_same {a : Nat} {l : List Nat} (h : l.take 2 = [a, a]) : threeAgree ((a :: l).take 3) = some a := by
  simp [List.take_succ_cons, h, threeAgree]

/-- A check keeps its reading, and may report (R150). -/
theorem gdDiag_finds (s : State) (n mv : Nat) :
    let t := s.gdDiag n mv
    t.gdCh n = { s.gdCh n with readings := (offReading mv :: (s.gdCh n).readings).take 3, lastDiag := s.now, diagNow := false
                               openOff := (t.gdCh n).openOff } ∧ Finds n (diagObjects n) s t := by
  have taken : (s.readingTaken n (offReading mv)).gdCh n = { s.gdCh n with
      readings := (offReading mv :: (s.gdCh n).readings).take 3, lastDiag := s.now, diagNow := false } := gdCh_setGd_same s n _
  have noted : Finds n (diagObjects n) s (s.readingTaken n (offReading mv)) := (Finds.refl n _ s).setGd _
  rw [gdDiag_eq]
  split
  · next r _ =>
    obtain ⟨finds, own⟩ := (s.readingTaken n (offReading mv)).reports_gdDiagReport n mv r
    rw [taken] at own
    exact ⟨own, noted.trans finds⟩
  · dsimp only
    rw [taken]
    exact ⟨rfl, noted⟩

theorem gdDiag_of_agreeing (s : State) (n mv : Nat) (agree : (s.gdCh n).readings.take 2 = [offReading mv, offReading mv]) :
    s.gdDiag n mv = (s.readingTaken n (offReading mv)).gdDiagReport n mv (offReading mv) := by
  rw [gdDiag_eq, threeAgree_of_same agree]

theorem obj_gdDiag_first (s : State) (n mv : Nat) (first : (s.gdCh n).readings = []) : (s.gdDiag n mv).obj = s.obj := by
  rw [gdDiag_eq, first]
  rfl

/-! ## The junction model (R151) -/

/-- The junction's rise in µK after the millisecond that ends now. -/
def nextHeat (s : State) (n : Nat) : Nat := heatStep (s.gdCh n).heat (s.gdHeatIn n) (s.cf (Obj.gdThTau n))

/-- T_EST in 0.1 °C after a millisecond in which the junction's rise has become `h` µK. -/
def junction (s : State) (n h : Nat) : Int := s.thSensor n + ((h / 100000 : Nat) : Int)

/-- The state with a millisecond of the junction model taken, before what follows from it. -/
def heated (s : State) (n h : Nat) : State :=
  (s.setGd n { s.gdCh n with heat := h, lastThermal := s.now }).setOb (Obj.gdTEst n) (wordOf 2 (s.junction n h))

/-- Too hot: the channel is shut and told of. -/
def tooHot (u : State) (n : Nat) (t : Int) : State :=
  ((u.gdShut n).setBit (Obj.gdStatus n) 8 true).post (8 * n + 4) (wordOf 4 t)

/-- What follows a millisecond of the junction model, for the rise it has come to. -/
theorem gdThermal_eq (s : State) (n : Nat) :
    s.gdThermal n =
      if 10 * (s.cf (Obj.gdThTjMax n) : Int) < s.junction n (s.nextHeat n) &&
          !(s.heated n (s.nextHeat n)).bit (Obj.gdStatus n) 8 then
        (s.heated n (s.nextHeat n)).tooHot n (s.junction n (s.nextHeat n))
      else if s.junction n (s.nextHeat n) < 10 * (s.cf (Obj.gdThTjMax n) : Int) - 200 &&
          (s.heated n (s.nextHeat n)).bit (Obj.gdStatus n) 8 then
        ((s.heated n (s.nextHeat n)).setBit (Obj.gdStatus n) 8 false).gdResubmit n 2
      else s.heated n (s.nextHeat n) := rfl

@[simp] theorem heated_kept (s : State) (n h : Nat) : (s.heated n h).kept = s.kept := rfl
theorem now_heated (s : State) (n h : Nat) : (s.heated n h).now = s.now := rfl
theorem ob_heated (s : State) (n h : Nat) : (s.heated n h).ob (Obj.gdTEst n) = wordOf 2 (s.junction n h) := ob_setOb_same ..
theorem bit_heated (s : State) (n h i : Nat) : (s.heated n h).bit (Obj.gdStatus n) i = s.bit (Obj.gdStatus n) i :=
  bit_setOb_other (s.setGd n _) _ i (gdStatus_ne_gdTEst n n).symm
theorem frame_heated (s : State) (n h : Nat) :
    s.heated n h = { s with obj := (s.heated n h).obj, gd := (s.heated n h).gd } ∧ s.ObjectsBut (s.heated n h) [Obj.gdTEst n] :=
  ⟨rfl, objectsBut_setOb (objectsBut_refl s _) List.mem_cons_self _⟩

theorem ob_gdShut_gdTEst (s : State) (c n : Nat) : (s.gdShut c).ob (Obj.gdTEst n) = s.ob (Obj.gdTEst n) :=
  ob_gdShut_field s c n (by decide)

@[simp] theorem tooHot_kept (u : State) (n : Nat) (t : Int) : (u.tooHot n t).kept = u.kept := by
  unfold tooHot
  rw [post_kept, setBit_kept, gdShut_kept]

theorem tooHot_protects (u : State) {n : Nat} (small : n < 24) (t : Int) :
    (u.tooHot n t).bit (Obj.gdStatus n) 8 = true ∧ (u.tooHot n t).Raised u.now (8 * n + 4) (wordOf 4 t) ∧
      HeldOff n (u.tooHot n t) := by
  have shut := heldOff_gdShut u small
  have now : (u.gdShut n).now = u.now := (u.frame_gdShut n).2.1
  unfold tooHot
  generalize u.gdShut n = v at shut now
  have k : KeepsShut v (v.setBit (Obj.gdStatus n) 8 true) := (KeepsShut.refl v).setStatusBit n 8 true (.inl rfl)
  rw [← now, ← now_setBit v (Obj.gdStatus n) 8 true, bit_post]
  exact ⟨bit_setBit_same v _ 8 true, raised_post _ _ _, (k.post _ _).heldOff small shut⟩

theorem ob_tooHot (u : State) (n : Nat) (t : Int) : (u.tooHot n t).ob (Obj.gdTEst n) = u.ob (Obj.gdTEst n) := by
  unfold tooHot
  rw [ob_post, setBit_eq, ob_setOb_other _ _ (gdStatus_ne_gdTEst n n), ob_gdShut_gdTEst]

theorem ob_gdResubmit_gdTEst (s : State) (c why n : Nat) : (s.gdResubmit c why).ob (Obj.gdTEst n) = s.ob (Obj.gdTEst n) := by
  refine ob_of_quiet (own := []) (gdResubmit_quiet s c why) ?_
  unfold moves Obj.gdTEst
  rw [outputObject_key _ (by decide)]
  simp
  omega

theorem gdThermal_of_warm {s : State} {n : Nat}
    (warm : 10 * (s.cf (Obj.gdThTjMax n) : Int) - 200 ≤ s.junction n (s.nextHeat n))
    (cool : s.junction n (s.nextHeat n) ≤ 10 * (s.cf (Obj.gdThTjMax n) : Int)) :
    s.gdThermal n = s.heated n (s.nextHeat n) := by
  rw [gdThermal_eq, if_neg (by simp [Int.not_lt.mpr cool]), if_neg (by simp [Int.not_lt.mpr warm])]

theorem gdThermal_of_hot {s : State} {n : Nat} (hot : 10 * (s.cf (Obj.gdThTjMax n) : Int) < s.junction n (s.nextHeat n))
    (new : s.bit (Obj.gdStatus n) 8 = false) :
    s.gdThermal n = (s.heated n (s.nextHeat n)).tooHot n (s.junction n (s.nextHeat n)) := by
  rw [gdThermal_eq, if_pos (by simp [hot, bit_heated, new])]

@[simp] theorem gdThermal_kept (s : State) (n : Nat) : (s.gdThermal n).kept = s.kept := by
  rw [gdThermal_eq]
  split
  · rw [tooHot_kept, heated_kept]
  · split
    · rw [gdResubmit_kept, setBit_kept, heated_kept]
    · exact heated_kept ..

theorem ob_gdThermal (s : State) (n : Nat) : (s.gdThermal n).ob (Obj.gdTEst n) =
    wordOf 2 (s.junction n (s.nextHeat n)) := by
  rw [gdThermal_eq]
  split
  · rw [ob_tooHot, ob_heated]
  · split
    · rw [ob_gdResubmit_gdTEst, setBit_eq, ob_setOb_other _ _ (gdStatus_ne_gdTEst n n), ob_heated]
    · exact ob_heated ..

end State

open State in
/-- Settles O26: each of the five commands by what it finds of the channel and what it shows. -/
theorem gateDriversAreWatched : Obligations.GateDriversAreWatched := by
  refine ⟨⟨fun k s upper lower => ?_, fun n s ramps reached => ?_, fun n i s watched isOn steady => ?_⟩,
    fun n mv vbat s awake enabled mode isOff supplied safe due fits => ?_, fun n s enabled mode safe due => ?_⟩
  · have small : 2 * k.val + 1 < 24 := by omega
    obtain ⟨kept, high, low, told, first, second⟩ := gateFault_of_pair small (heldOff_gdShut s (Nat.lt_of_succ_lt small))
    rw [gdShut_kept] at kept
    rw [(s.frame_gdShut _).2.1] at told
    exact ⟨_, whenever_of (by simp [upper, lower]) _ _, kept, high, low, told, first.off, second.off, first.zero, second.zero⟩
  · obtain ⟨own, bit, told, others, frame, objects⟩ := s.softStartEnd_finds n
    exact ⟨_, whenever_of (by simp [ramps, reached]) _ _, own, bit, told, frame, objects, others⟩
  · obtain ⟨current, bit, own, told, others, frame, objects⟩ := s.openLoad_finds n (saturate i 65535)
      (decide (s.gdDecide n (saturate i 65535) < s.cf (Obj.gdOlCurrent n)))
    exact ⟨_, whenever_of (by simp [watched, isOn, steady]) _ _, current, bit, own, told, frame, objects, others⟩
  · have whole : saturate mv 65535 = mv := if_pos fits
    obtain ⟨own, others, frame, objects⟩ := s.gdDiag_finds n mv
    refine ⟨s.gdDiag n mv, (whenever_of ?_ _ _).trans (by rw [whole]), own, others, frame, objects, s.obj_gdDiag_first n mv,
      fun agree low high => ?_, fun agree above mode => ?_⟩
    · simpa [awake, enabled, mode, isOff, supplied, safe] using due
    · have reading : offReading mv = 2 := by
        unfold offReading
        rw [if_neg (by omega), if_pos ⟨low, high⟩]
      rw [gdDiag_of_agreeing s n mv (by rw [reading, agree]), reading]
      exact gdDiagReport_open ..
    · have reading : offReading mv = 3 := by
        unfold offReading
        rw [if_neg (by omega), if_neg (by omega), if_pos above]
      rw [gdDiag_of_agreeing s n mv (by rw [reading, agree]), reading]
      exact gdDiagReport_short (s := s.readingTaken n 3) mode mv
  · refine ⟨_, whenever_of (by simp [enabled, mode, safe, due]) _ _, s.gdThermal_kept n, s.junction n (s.nextHeat n), rfl,
      s.ob_gdThermal n, fun hot new => ?_, fun warm cool => ?_⟩
    · rw [gdThermal_of_hot hot new]
      obtain ⟨bit, told, held⟩ := tooHot_protects (s.heated n _) n.isLt (s.junction n _)
      rw [now_heated] at told
      exact ⟨bit, told, held.off, held.zero⟩
    · rw [gdThermal_of_warm warm cool]
      exact s.frame_heated n _

end Sys2Proof.Machine

/-!
The supplies of the gates (R152): a low charge pump or an absent drain rail, and its return.
-/

namespace Sys2Proof.Machine
namespace State

/-! ## Channels one after another -/

/-- What each of n steps brings about, the others leave, and each step finds in place holds after all of them. -/
theorem forRange_reaches {f : State → Nat → State} {inv : State → Prop} {P : Nat → State → Prop} (n : Nat)
    (step : ∀ u, ∀ i < n, inv u → inv (f u i)) (stays : ∀ u, ∀ i < n, ∀ j, inv u → P j u → P j (f u i))
    (reached : ∀ u, ∀ i < n, inv u → P i (f u i)) {s : State} (start : inv s) :
    inv (forRange n f s) ∧ ∀ i < n, P i (forRange n f s) := by
  have each : ∀ l : List Nat, (∀ i ∈ l, i < n) → ∀ u, inv u →
      inv (l.foldl f u) ∧ (∀ j, P j u → P j (l.foldl f u)) ∧ ∀ i ∈ l, P i (l.foldl f u) := by
    intro l
    induction l with
    | nil => exact fun _ u h => ⟨h, fun _ => id, nofun⟩
    | cons a l ih =>
      intro small u h
      have first : a < n := small a List.mem_cons_self
      obtain ⟨after, left, rest⟩ := ih (fun i m => small i (List.mem_cons_of_mem a m)) (f u a) (step u a first h)
      refine ⟨after, fun j k => left j (stays u a first j h k), fun i m => ?_⟩
      obtain rfl | m := List.mem_cons.mp m
      · exact left i (reached u i first h)
      · exact rest i m
  obtain ⟨after, -, all⟩ := each (List.range n) (fun _ => List.mem_range.mp) s start
  exact ⟨after, fun i small => all i (List.mem_range.mpr small)⟩

/-! ## A supply fails -/

/-- The state in which a supply's fault is shown of a channel that it has shut, before a retry. -/
def supplyTold (s : State) (flag cause c : Nat) : State := ((s.gdShut c).setBit (Obj.gdStatus c) flag true).gateFault c cause

/-- A channel on the supply is shut and told of, and may be retried (R152, R153). -/
theorem gdSupplyOff_high {s : State} {c : Nat} (high : s.highMode c = true) (flag cause : Nat) :
    s.gdSupplyOff flag cause c = s.supplyTold flag cause c ∨
      s.gdSupplyOff flag cause c = (s.supplyTold flag cause c).gdFault c := by
  unfold gdSupplyOff supplyTold
  rw [if_neg (by simp [high])]
  exact (ite_eq_or_eq _ _ _).symm

theorem gdSupplyOff_low {s : State} {c : Nat} (low : s.highMode c = false) (flag cause : Nat) :
    s.gdSupplyOff flag cause c = s := by
  unfold gdSupplyOff
  rw [if_pos (by simp [low])]

/-- What a supply's fault told of keeps, a channel not on the supply and a retry keep too. -/
theorem gdSupplyOff_induct {P : State → Prop} (s : State) (flag cause c : Nat) (same : P s) (told : P (s.supplyTold flag cause c))
    (retry : ∀ u, P u → P (u.gdFault c)) : P (s.gdSupplyOff flag cause c) := by
  cases high : s.highMode c
  · rwa [gdSupplyOff_low high]
  · obtain e | e := gdSupplyOff_high high flag cause
    · rwa [e]
    · rw [e]
      exact retry _ told

@[simp] theorem supplyTold_kept (s : State) (flag cause c : Nat) : (s.supplyTold flag cause c).kept = s.kept := by
  unfold supplyTold
  rw [gateFault_kept, setBit_kept, gdShut_kept]

@[simp] theorem gdSupplyOff_kept (s : State) (flag cause c : Nat) : (s.gdSupplyOff flag cause c).kept = s.kept :=
  gdSupplyOff_induct (P := fun u => u.kept = s.kept) s flag cause c rfl (supplyTold_kept ..) (fun u k => (u.gdFault_kept c).trans k)

theorem raised_supplyTold (s : State) (flag cause c : Nat) : (s.supplyTold flag cause c).Raised s.now (8 * c + 5) cause := by
  unfold supplyTold
  rw [← (s.frame_gdShut c).2.1, ← now_setBit (s.gdShut c) (Obj.gdStatus c) flag true]
  exact raised_gateFault _ c cause

theorem mem_inFlight_gdSupplyOff {s : State} {o : Occ} (h : o ∈ s.fab.inFlight) (flag cause c : Nat) :
    o ∈ (s.gdSupplyOff flag cause c).fab.inFlight :=
  gdSupplyOff_induct (P := fun u => o ∈ u.fab.inFlight) s flag cause c h
    (mem_inFlight_post (mem_inFlight_of_fab (fab_setBit ..) (mem_inFlight_of_fab (fab_setBit ..) (mem_inFlight_gdShut h c))) _ _)
    (fun _ k => mem_inFlight_gdFault k c)

theorem raised_gdSupplyOff {s : State} {c : Nat} (high : s.highMode c = true) (flag cause : Nat) :
    (s.gdSupplyOff flag cause c).Raised s.now (8 * c + 5) cause := by
  have told := s.raised_supplyTold flag cause c
  obtain e | e := gdSupplyOff_high high flag cause
  · rwa [e]
  · rw [e]
    exact mem_inFlight_gdFault told c

/-- A channel that a supply's fault holds off, with its flag. -/
structure Unsupplied (flag c : Nat) (s : State) : Prop where
  held : HeldOff c s
  flagged : s.bit (Obj.gdStatus c) flag = true

/-- The flags of R152 are none of the bits of a duty or of soft start. -/
def SupplyFlag (flag : Nat) : Prop := flag = 10 ∨ flag = 11

theorem KeepsShut.unsupplied {s t : State} (k : KeepsShut s t) {flag c : Nat} (ok : SupplyFlag flag) (small : c < 24)
    (h : Unsupplied flag c s) : Unsupplied flag c t := by
  unfold SupplyFlag at ok
  exact ⟨k.heldOff small h.held, k.shown c small flag (by omega) (by omega) (by omega) h.flagged⟩

theorem unsupplied_gdSupplyOff {s : State} {flag c : Nat} (ok : SupplyFlag flag) (small : c < 24) (high : s.highMode c = true)
    (cause : Nat) : Unsupplied flag c (s.gdSupplyOff flag cause c) := by
  have shut := heldOff_gdShut s small
  have told : Unsupplied flag c (s.supplyTold flag cause c) := by
    unfold supplyTold
    generalize s.gdShut c = u at shut
    have k : KeepsShut u (u.setBit (Obj.gdStatus c) flag true) := (KeepsShut.refl u).setStatusBit c flag true (.inl rfl)
    exact ((KeepsShut.refl _).gateFault c cause).unsupplied ok small ⟨k.heldOff small shut, bit_setBit_same u _ flag true⟩
  obtain e | e := gdSupplyOff_high high flag cause
  · rwa [e]
  · rw [e]
    exact ((KeepsShut.refl _).gdFault c).unsupplied ok small told

/-- A supply fails (R152): every channel it supplies is told of, and with no request waiting it is off and held. -/
theorem supplyFails {flag : Nat} (ok : SupplyFlag flag) (cause : Nat) {n : Nat} {g : Nat → Nat} (small : ∀ i < n, g i < 24)
    (s : State) :
    let t := forRange n (fun u i => u.gdSupplyOff flag cause (g i)) s
    t.kept = s.kept ∧ ∀ i < n, s.highMode (g i) = true → t.Raised s.now (8 * g i + 5) cause ∧
      (s.arb.queue = [] → s.arb.refused = [] → Unsupplied flag (g i) t) := by
  have still (u : State) (c : Nat) (h : u.still = s.still) : (u.gdSupplyOff flag cause c).still = s.still :=
    (gdSupplyOff_still ..).trans h
  have high {u : State} (h : u.still = s.still) {c : Nat} (e : s.highMode c = true) : u.highMode c = true :=
    (highMode_of_cfg (frame_of_still h).2.2 c).trans e
  have now {u : State} (h : u.still = s.still) : u.now = s.now := (frame_of_still h).2.1
  have tells : ∀ u : State, ∀ i < n, u.still = s.still → s.highMode (g i) = true →
      (u.gdSupplyOff flag cause (g i)).Raised s.now (8 * g i + 5) cause := fun u i _ h e => by
    rw [← now h]
    exact raised_gdSupplyOff (high h e) flag cause
  have keeps (u : State) (i : Nat) (idle : u.NoRequests) : KeepsShut u (u.gdSupplyOff flag cause (g i)) :=
    (KeepsShut.refl u).gdSupplyOff idle flag cause (g i)
  obtain ⟨-, told⟩ := forRange_reaches (f := fun u i => u.gdSupplyOff flag cause (g i))
    (P := fun i u => s.highMode (g i) = true → u.Raised s.now (8 * g i + 5) cause) n (fun u i _ h => still u (g i) h)
    (fun u i _ j _ k e => mem_inFlight_gdSupplyOff (k e) flag cause (g i)) tells (s := s) rfl
  refine ⟨forRange_kept _ _ _ fun u i => u.gdSupplyOff_kept flag cause (g i), fun i lt e =>
    ⟨told i lt e, fun queue refused => ?_⟩⟩
  obtain ⟨-, shut⟩ := forRange_reaches (f := fun u i => u.gdSupplyOff flag cause (g i))
    (inv := fun u => u.still = s.still ∧ u.NoRequests)
    (P := fun i u => i < n → s.highMode (g i) = true → Unsupplied flag (g i) u) n
    (fun u i _ h => ⟨still u (g i) h.1, (keeps u i h.2).noRequests h.2⟩)
    (fun u i _ j h k lt e => (keeps u i h.2).unsupplied ok (small j lt) (k lt e))
    (fun u i lt h _ e => unsupplied_gdSupplyOff ok (small i lt) (high h.1 e) cause) (s := s) ⟨rfl, queue, refused⟩
  exact shut i lt lt e

/-! ## A supply is back -/

theorem gdSupplyOn_quiet {own : List Nat} (s : State) (flag c : Nat) : (s.gdSupplyOn flag c).quiet own = s.quiet own := by
  simp [gdSupplyOn]

@[simp] theorem gdSupplyOn_kept (s : State) (flag c : Nat) : (s.gdSupplyOn flag c).kept = s.kept := by simp [gdSupplyOn]

theorem gdWaits_congr {s t : State} (cfg : t.cfg = s.cfg) (retry : ∀ c, t.bit (Obj.gdStatus c) 14 = s.bit (Obj.gdStatus c) 14)
    (latch : ∀ c, t.bit (Obj.gdStatus c) 15 = s.bit (Obj.gdStatus c) 15) (c : Nat) : t.gdWaits c = s.gdWaits c := by
  unfold gdWaits
  rw [gdLead_of_cfg cfg, retry, latch]

/-- A channel whose supply is back, with the instant (R153). -/
def supplied (s : State) (flag c : Nat) : State :=
  (s.setBit (Obj.gdStatus c) flag false).setGd c { s.gdCh c with resubmitAt := some s.now }

theorem bit_supplied_other (s : State) (flag c k : Nat) {i : Nat} (other : flag ≠ i) : (s.supplied flag c).bit k i = s.bit k i :=
  bit_setBit_other s _ k false other

theorem gdWaits_supplied {s : State} {flag : Nat} (ok : SupplyFlag flag) (c d : Nat) :
    (s.supplied flag c).gdWaits d = s.gdWaits d := by
  unfold SupplyFlag at ok
  exact gdWaits_congr (s := s) (t := s.supplied flag c) rfl
    (fun n => bit_supplied_other s flag c (Obj.gdStatus n) (i := 14) (by omega))
    (fun n => bit_supplied_other s flag c (Obj.gdStatus n) (i := 15) (by omega)) d

/-- A channel that waits or is latched is not resubmitted when its supply is back. -/
theorem gdSupplyOn_of_waits {s : State} {flag c : Nat} (ok : SupplyFlag flag) (high : s.highMode c = true)
    (flagged : s.bit (Obj.gdStatus c) flag = true) (waits : s.gdWaits c = true) : s.gdSupplyOn flag c = s.supplied flag c := by
  have stays : (s.supplied flag c).gdResubmit c 3 = s.supplied flag c := by
    unfold gdResubmit
    exact if_pos (by rw [gdWaits_supplied ok, waits]; rfl)
  unfold gdSupplyOn
  rw [if_neg (by simp [high, flagged])]
  exact stays

theorem gdSupplyOn_unflagged {s : State} {flag c : Nat} (unflagged : s.highMode c = false ∨ s.bit (Obj.gdStatus c) flag = false) :
    s.gdSupplyOn flag c = s := by
  unfold gdSupplyOn
  rw [if_pos]
  obtain e | e := unflagged <;> simp [e]

/-- A channel's flag is gone since now. -/
structure Resupplied (flag c : Nat) (now : Tick) (s : State) : Prop where
  cleared : s.bit (Obj.gdStatus c) flag = false
  since : (s.gdCh c).resubmitAt = some now

/-- `t` follows `s` with some channels' flags gone and nothing else changed but their instants. -/
structure Resupplies (flag : Nat) (s t : State) : Prop where
  frame : t = { s with obj := t.obj, gd := t.gd }
  others : ∀ c i, flag ≠ i → t.bit (Obj.gdStatus c) i = s.bit (Obj.gdStatus c) i
  each : ∀ c, t.bit (Obj.gdStatus c) flag = s.bit (Obj.gdStatus c) flag ∨ Resupplied flag c s.now t

namespace Resupplies
variable {flag : Nat} {s t : State}

theorem refl (flag : Nat) (s : State) : Resupplies flag s s := ⟨rfl, fun _ _ _ => rfl, fun _ => .inl rfl⟩

theorem cfg (h : Resupplies flag s t) : t.cfg = s.cfg := by rw [h.frame]
theorem now (h : Resupplies flag s t) : t.now = s.now := by rw [h.frame]; rfl

theorem gdWaits (h : Resupplies flag s t) (ok : SupplyFlag flag) (c : Nat) : t.gdWaits c = s.gdWaits c := by
  unfold SupplyFlag at ok
  exact gdWaits_congr h.cfg (fun d => h.others d 14 (by omega)) (fun d => h.others d 15 (by omega)) c

end Resupplies

theorem resupplied_supplied (s : State) (flag c : Nat) : Resupplied flag c s.now (s.supplied flag c) where
  cleared := bit_setBit_same s _ flag false
  since := congrArg GdChannel.resubmitAt (gdCh_setGd_same (s.setBit _ flag false) c _)

theorem Resupplied.supplied {flag c : Nat} {s : State} (h : Resupplied flag c s.now s) (d : Nat) :
    Resupplied flag c s.now (s.supplied flag d) := by
  by_cases e : d = c
  · rw [e]
    exact resupplied_supplied s flag c
  · exact ⟨(bit_setOb_other s _ flag (gdStatus_ne e)).trans h.cleared,
      (congrArg GdChannel.resubmitAt (gdCh_setGd_other (s.setBit _ flag false) _ e)).trans h.since⟩

theorem Resupplies.supplied {flag : Nat} {s t : State} (h : Resupplies flag s t) (c : Nat) :
    Resupplies flag s (t.supplied flag c) where
  frame := congrArg (fun u : State => { u with obj := (t.supplied flag c).obj, gd := (t.supplied flag c).gd }) h.frame
  others d i other := (bit_supplied_other t flag c _ other).trans (h.others d i other)
  each d := by
    by_cases e : c = d
    · rw [← e, ← h.now]
      exact .inr (resupplied_supplied t flag c)
    · obtain same | gone := h.each d
      · exact .inl ((bit_setOb_other t _ flag (gdStatus_ne e)).trans same)
      · rw [← h.now] at gone ⊢
        exact .inr (gone.supplied c)

/-- One channel's supply is back: its flag goes where it stood, and it waits on. -/
theorem gdSupplyOn_cases {flag : Nat} (ok : SupplyFlag flag) {s u : State} (h : Resupplies flag s u) {c : Nat}
    (waits : s.highMode c = true → s.bit (Obj.gdStatus c) flag = true → s.gdWaits c = true) :
    u.gdSupplyOn flag c = u.supplied flag c ∨
      u.gdSupplyOn flag c = u ∧ (s.highMode c = true → s.bit (Obj.gdStatus c) flag = true → Resupplied flag c s.now u) := by
  have high := highMode_of_cfg h.cfg c
  cases up : s.highMode c
  · exact .inr ⟨gdSupplyOn_unflagged (.inl (high.trans up)), nofun⟩
  · cases flagged : u.bit (Obj.gdStatus c) flag
    · refine .inr ⟨gdSupplyOn_unflagged (.inr flagged), fun _ was => ?_⟩
      obtain same | gone := h.each c
      · rw [same, was] at flagged
        cases flagged
      · exact gone
    · have was : s.bit (Obj.gdStatus c) flag = true := by
        obtain same | gone := h.each c
        · exact same ▸ flagged
        · rw [gone.cleared] at flagged
          cases flagged
      exact .inl (gdSupplyOn_of_waits ok (high.trans up) flagged ((h.gdWaits ok c).trans (waits up was)))

/-- A supply is back (R152): where every channel with its flag waits or is latched, the flags go and nothing is presented. -/
theorem supplyReturns {flag : Nat} (ok : SupplyFlag flag) {n : Nat} {g : Nat → Nat} {s : State}
    (waits : ∀ i < n, s.highMode (g i) = true → s.bit (Obj.gdStatus (g i)) flag = true → s.gdWaits (g i) = true) :
    let t := forRange n (fun u i => u.gdSupplyOn flag (g i)) s
    t = { s with obj := t.obj, gd := t.gd } ∧ ∀ i < n, s.highMode (g i) = true → s.bit (Obj.gdStatus (g i)) flag = true →
      Resupplied flag (g i) s.now t := by
  have step : ∀ u, ∀ i < n, Resupplies flag s u → Resupplies flag s (u.gdSupplyOn flag (g i)) := fun u i lt h => by
    obtain e | ⟨e, -⟩ := gdSupplyOn_cases ok h (waits i lt)
    · rw [e]
      exact h.supplied (g i)
    · rwa [e]
  have stays : ∀ u, ∀ i < n, ∀ j, Resupplies flag s u → Resupplied flag (g j) s.now u →
      Resupplied flag (g j) s.now (u.gdSupplyOn flag (g i)) := fun u i lt j h gone => by
    obtain e | ⟨e, -⟩ := gdSupplyOn_cases ok h (waits i lt)
    · rw [e]
      rw [← h.now] at gone ⊢
      exact gone.supplied (g i)
    · rwa [e]
  have reached : ∀ u, ∀ i < n, Resupplies flag s u → s.highMode (g i) = true → s.bit (Obj.gdStatus (g i)) flag = true →
      Resupplied flag (g i) s.now (u.gdSupplyOn flag (g i)) := fun u i lt h high flagged => by
    obtain e | ⟨e, gone⟩ := gdSupplyOn_cases ok h (waits i lt)
    · rw [e, ← h.now]
      exact resupplied_supplied u flag (g i)
    · rw [e]
      exact gone high flagged
  obtain ⟨after, all⟩ := forRange_reaches (f := fun u i => u.gdSupplyOn flag (g i))
    (P := fun i u => s.highMode (g i) = true → s.bit (Obj.gdStatus (g i)) flag = true → Resupplied flag (g i) s.now u) n step
    (fun u i lt j h k high flagged => stays u i lt j h (k high flagged)) reached (Resupplies.refl flag s)
  exact ⟨after.frame, all⟩

theorem supplyReturns_keeps (flag n : Nat) (g : Nat → Nat) (s : State) :
    let t := forRange n (fun u i => u.gdSupplyOn flag (g i)) s
    s.Switches t [] ∧ t.kept = s.kept :=
  ⟨switches_of_quiet (forRange_quiet n _ s fun u i => gdSupplyOn_quiet u flag (g i)),
    forRange_kept n _ s fun u i => u.gdSupplyOn_kept flag (g i)⟩

end State

open State in
/-- Settles O27: each supply by its channels one after another, each of which is shut, or loses its flag and no more. -/
theorem supplyFaultsCloseGates : Obligations.SupplyFaultsCloseGates := by
  have none_ {n : Nat} {p : Nat → Bool} (h : ∀ i < n, p i = false) : (List.range n).any p = false :=
    List.any_eq_false.mpr fun i m => by simp [h i (List.mem_range.mp m)]
  have bank (b : Fin 4) : ∀ i < 6, 6 * b.val + i < 24 := fun i lt => by omega
  refine ⟨fun gap s low clear => ?_, fun b ds vbat s supplied absent clear => ?_, fun gap s back => ?_,
    fun b ds vbat s back => ?_⟩
  · obtain ⟨kept, all⟩ := supplyFails (.inl rfl) 4 (n := 24) (g := id) (fun _ => id) s
    refine ⟨_, whenever_of ?_ _ _, kept, fun c lt high => ?_⟩
    · simp [low, none_ clear]
    · obtain ⟨told, shut⟩ := all c lt high
      refine ⟨told, fun queue refused => ?_⟩
      obtain ⟨⟨off, zero⟩, flagged⟩ := shut queue refused
      exact ⟨flagged, off, zero⟩
  · obtain ⟨kept, all⟩ := supplyFails (.inr rfl) 3 (bank b) s
    refine ⟨_, whenever_of ?_ _ _, kept, fun i lt high => ?_⟩
    · simp [supplied, absent, none_ clear]
    · obtain ⟨told, shut⟩ := all i lt high
      refine ⟨told, fun queue refused => ?_⟩
      obtain ⟨⟨off, zero⟩, flagged⟩ := shut queue refused
      exact ⟨flagged, off, zero⟩
  · obtain ⟨switches, kept⟩ := supplyReturns_keeps 10 24 id s
    refine ⟨_, whenever_of (decide_eq_true back) _ _, switches, kept, fun waits => ?_⟩
    obtain ⟨frame, all⟩ := supplyReturns (.inl rfl) (n := 24) (g := id) waits
    exact ⟨frame, fun c lt high flagged => ⟨(all c lt high flagged).cleared, (all c lt high flagged).since⟩⟩
  · obtain ⟨switches, kept⟩ := supplyReturns_keeps 11 6 (fun i => 6 * b.val + i) s
    refine ⟨_, whenever_of (decide_eq_true back) _ _, switches, kept, fun waits => ?_⟩
    obtain ⟨frame, all⟩ := supplyReturns (.inr rfl) (n := 6) (g := fun i => 6 * b.val + i) waits
    exact ⟨frame, fun i lt high flagged => ⟨(all i lt high flagged).cleared, (all i lt high flagged).since⟩⟩

end Sys2Proof.Machine

/-!
Bridges (R160–R164): the rules of a bridge's record and of its objects, what its four channels apply at rest, and how a stop
sequence begins.
-/

namespace Sys2Proof.Machine

/-! ## Objects and pairs of a bridge -/

/-- Two objects of the bridges' status records with another subindex differ. -/
theorem brField_ne (n m : Nat) {a b : Nat} (h : a ≠ b ∧ a < 256 ∧ b < 256) :
    key (0x4202 + 0x10 * n) a ≠ key (0x4202 + 0x10 * m) b := by
  unfold key
  omega

/-- An object beyond the status records of the 24 gate drivers. -/
def BeyondGates (k : Nat) : Prop := key 0x4182 0 ≤ k

theorem beyondGates_bridge (h a : Nat) : BeyondGates (key (0x4202 + 0x10 * h) a) := by
  unfold BeyondGates key
  omega

theorem BeyondGates.ne_gate {k : Nat} (beyond : BeyondGates k) {n a : Nat} (h : n < 24 ∧ a < 256) :
    key (0x4002 + 0x10 * n) a ≠ k := by
  unfold BeyondGates key at beyond
  unfold key
  omega

namespace State

/-- A value of a configuration whose values fit is in the range of its object, where the factory default is (R34). -/
theorem inRange_cf {s : State} (fits : s.ConfigFits) {k : Nat} (default : inRange k (objDefault k) = true) :
    inRange k (s.cf k) = true := by
  have listed : ∀ r : Regs, r.all (fun e => inRange e.1 e.2) = true →
      inRange k ((Table.get? r k).getD (objDefault k)) = true := by
    intro r
    induction r with
    | nil => exact fun _ => default
    | cons e r ih =>
      intro all
      obtain ⟨i, v⟩ := e
      simp only [List.all_cons, Bool.and_eq_true] at all
      rw [Table.get?_cons]
      split
      · next same => exact same ▸ all.1
      · exact ih all.2
  exact listed s.cfg fits.1

/-- BR_PAIR_A and BR_PAIR_B name two of the 12 pairs (R160). -/
structure Wired (s : State) (h : Nat) : Prop where
  pairA : s.cf (Obj.brPairA h) < 12
  pairB : s.cf (Obj.brPairB h) < 12

/-- A bridge's pair object with its default. -/
def pairDesc (d : Nat) : Desc := { ty := .u 1, access := .rw, role := .maker, kind := .cfg, dflt := d, spans := [(0, 11)] }

theorem pair_lt_of_inRange {k v d : Nat} (e : descOf k = some (pairDesc d)) (ok : inRange k v = true) : v < 12 := by
  simp [inRange, e, rangeOk, pairDesc] at ok
  omega

theorem wired_of_configFits {s : State} (fits : s.ConfigFits) (h : Fin 6) : s.Wired h where
  pairA := by
    have desc : descOf (Obj.brPairA h) = some (pairDesc (2 * h)) := by revert h; decide
    have default : inRange (Obj.brPairA h) (objDefault (Obj.brPairA h)) = true := by revert h; decide
    exact pair_lt_of_inRange desc (inRange_cf fits default)
  pairB := by
    have desc : descOf (Obj.brPairB h) = some (pairDesc (2 * h + 1)) := by revert h; decide
    have default : inRange (Obj.brPairB h) (objDefault (Obj.brPairB h)) = true := by revert h; decide
    exact pair_lt_of_inRange desc (inRange_cf fits default)

theorem Wired.of_cfg {s t : State} {h : Nat} (w : s.Wired h) (e : t.cfg = s.cfg) : t.Wired h :=
  ⟨cf_of_cfg e _ ▸ w.pairA, cf_of_cfg e _ ▸ w.pairB⟩

theorem brLead_of_cfg {s t : State} (e : t.cfg = s.cfg) (h : Nat) : t.brLead h = s.brLead h :=
  congrArg (2 * ·) (cf_of_cfg e _)
theorem brOther_of_cfg {s t : State} (e : t.cfg = s.cfg) (h : Nat) : t.brOther h = s.brOther h :=
  congrArg (2 * ·) (cf_of_cfg e _)

theorem cfg_of_quiet {own : List Nat} {s t : State} (q : t.quiet own = s.quiet own) : t.cfg = s.cfg :=
  (frame_of_still (still_of_quiet q)).2.2
theorem now_of_quiet {own : List Nat} {s t : State} (q : t.quiet own = s.quiet own) : t.now = s.now :=
  (frame_of_still (still_of_quiet q)).2.1

/-! ## The record of a bridge -/

@[simp] theorem brCh_setBr_same (s : State) (h : Nat) (x : Bridge) : (s.setBr h x).brCh h = x := Table.read_write_same ..
theorem brCh_setBr_other (s : State) {h m : Nat} (x : Bridge) (other : h ≠ m) : (s.setBr h x).brCh m = s.brCh m :=
  Table.read_write_other _ _ _ _ other

theorem br_ite {c : Prop} [Decidable c] (a b : State) : (if c then a else b).br = if c then a.br else b.br := by
  split <;> rfl
theorem br_setIn (s : State) (n : Nat) (f : Nat → Nat) (i v : Nat) : (s.setIn n f i v).br = s.br := by
  unfold setIn; split <;> rfl
theorem br_setBit (s : State) (k i : Nat) (b : Bool) : (s.setBit k i b).br = s.br := rfl
theorem br_setGd (s : State) (n : Nat) (c : GdChannel) : (s.setGd n c).br = s.br := rfl
theorem br_gdShow (s : State) (c v : Nat) : (s.gdShow c v).br = s.br := by simp [gdShow, br_setBit, br_ite, br_setIn]
theorem br_gdApplyAt (s : State) (c v period : Nat) : (s.gdApplyAt c v period).br = s.br := by
  simp [gdApplyAt, br_ite, br_gdShow]
theorem br_gdOff (s : State) (c : Nat) : (s.gdOff c).br = s.br := by
  simp [gdOff, gdApply, br_setBit, br_gdApplyAt, br_setGd]
theorem br_brChannels (s : State) (h dir duty : Nat) : (s.brChannels h dir duty).br = s.br := by
  unfold brChannels
  dsimp only
  split <;> simp [br_gdApplyAt, br_gdShow, br_gdOff]
theorem br_gdCancel (s : State) (c : Nat) : (s.gdCancel c).br = s.br := by
  have each (l : List Nat) : ∀ u : State, (forEach l (fun u i => u.setGd i { u.gdCh i with off := u.gdHeld i }) u).br = u.br := by
    induction l with
    | nil => exact fun _ => rfl
    | cons i l ih => exact fun u => ih _
  unfold gdCancel
  dsimp only
  split
  · rfl
  · exact each _ _

theorem brCh_of_br {s t : State} (e : t.br = s.br) (m : Nat) : t.brCh m = s.brCh m := by
  unfold brCh
  rw [e]

@[simp] theorem brCh_brChannels (s : State) (h dir duty m : Nat) : (s.brChannels h dir duty).brCh m = s.brCh m :=
  brCh_of_br (br_brChannels ..) m
@[simp] theorem brCh_gdCancel (s : State) (c m : Nat) : (s.gdCancel c).brCh m = s.brCh m := brCh_of_br (br_gdCancel ..) m
@[simp] theorem brCh_brShow (s : State) (h st m : Nat) : (s.brShow h st).brCh m = s.brCh m := rfl
@[simp] theorem brCh_setBrFlag (s : State) (h i : Nat) (b : Bool) (m : Nat) : (s.setBrFlag h i b).brCh m = s.brCh m := rfl
@[simp] theorem brCh_setOb (s : State) (k v m : Nat) : (s.setOb k v).brCh m = s.brCh m := rfl
@[simp] theorem brCh_brSlot (s : State) (h k v m : Nat) : (s.brSlot h k v).brCh m = s.brCh m := rfl

/-! ## What the channels of a bridge leave of the objects beyond them -/

theorem ob_setIn_other (s : State) {n i k : Nat} (f : Nat → Nat) (v : Nat) (other : i < n → f i ≠ k) :
    (s.setIn n f i v).ob k = s.ob k := by
  unfold setIn
  split
  · next small => exact ob_setOb_other s v (other small)
  · rfl

/-- A channel shown moves its own status record only. -/
theorem ob_gdShow_other (s : State) (c v : Nat) {k : Nat} (other : ∀ a < 256, key (0x4002 + 0x10 * c) a ≠ k) :
    (s.gdShow c v).ob k = s.ob k := by
  unfold gdShow
  extract_lets on timed measured
  have status : Obj.gdStatus c ≠ k := other _ (by decide)
  have applied : Obj.gdAppliedValue c ≠ k := other _ (by decide)
  have t : timed.ob k = s.ob k := by
    simp only [timed]
    split
    · exact ob_setIn_other s _ _ fun _ => other _ (by decide)
    · rfl
  have m : measured.ob k = timed.ob k := by
    simp only [measured]
    split
    · exact ob_setIn_other timed _ _ fun _ => other _ (by decide)
    · rfl
  rw [setBit_eq, ob_setOb_other _ _ status, setBit_eq, ob_setOb_other _ _ status, ob_setOb_other _ _ applied, m, t]

section
variable {k : Nat} (beyond : BeyondGates k)
include beyond

theorem ob_gdShow_beyond (s : State) {c : Nat} (small : c < 24) (v : Nat) : (s.gdShow c v).ob k = s.ob k :=
  ob_gdShow_other s c v fun _ lt => beyond.ne_gate ⟨small, lt⟩

theorem ob_gdApplyAt_beyond (s : State) {c : Nat} (small : c + 1 < 24) (v period : Nat) :
    (s.gdApplyAt c v period).ob k = s.ob k := by
  have shown := ob_gdShow_beyond beyond s (c := c) (by omega) v
  unfold gdApplyAt
  dsimp only
  split
  · rw [ob_gdShow_beyond beyond _ small, shown]
  · exact shown

theorem ob_gdOff_beyond (s : State) {c : Nat} (small : c + 1 < 24) : (s.gdOff c).ob k = s.ob k :=
  (ob_setOb_other _ _ (beyond.ne_gate ⟨by omega, by decide⟩)).trans (ob_gdApplyAt_beyond beyond _ small _ _)

theorem ob_brChannels_beyond {s : State} {h : Nat} (w : s.Wired h) (dir duty : Nat) :
    (s.brChannels h dir duty).ob k = s.ob k := by
  have a : s.brLead h + 1 < 24 := by have := w.pairA; unfold brLead; omega
  have b : s.brOther h + 1 < 24 := by have := w.pairB; unfold brOther; omega
  unfold brChannels
  dsimp only
  split
  · rw [ob_gdApplyAt_beyond beyond _ a, ob_gdShow_beyond beyond _ b, ob_gdOff_beyond beyond _ b]
  · rw [ob_gdApplyAt_beyond beyond _ b, ob_gdShow_beyond beyond _ a, ob_gdOff_beyond beyond _ a]
  all_goals rw [ob_gdShow_beyond beyond _ b, ob_gdShow_beyond beyond _ a, ob_gdOff_beyond beyond _ b, ob_gdOff_beyond beyond _ a]

end

theorem bit_brChannels {s : State} {h : Nat} (w : s.Wired h) (dir duty i : Nat) :
    (s.brChannels h dir duty).bit (Obj.brFlags h) i = s.bit (Obj.brFlags h) i :=
  congrArg (bitAt · i) (ob_brChannels_beyond (beyondGates_bridge h _) w dir duty)

/-! ## What the channels of a bridge apply -/

theorem applied_gdShow_other (s : State) {c n : Nat} (v : Nat) (other : c ≠ n) :
    (s.gdShow c v).ob (Obj.gdAppliedValue n) = s.ob (Obj.gdAppliedValue n) :=
  ob_gdShow_other s c v fun a lt => by unfold Obj.gdAppliedValue key; omega

/-- Two pairs with their upper channels off and their lower ones at a value. -/
def pairsAt (s : State) (a b v : Nat) : State := (((s.gdOff a).gdOff b).gdShow (a + 1) v).gdShow (b + 1) v

theorem applied_pairsAt_upper (s : State) {a b n : Nat} (v : Nat) (small : b < 24) (n24 : n < 24) (upper : n = a ∨ n = b)
    (even : n ≠ a + 1 ∧ n ≠ b + 1) : (s.pairsAt a b v).ob (Obj.gdAppliedValue n) = 0 := by
  have offs : ((s.gdOff a).gdOff b).ob (Obj.gdAppliedValue n) = 0 := by
    obtain rfl | rfl := upper
    · exact ((KeepsShut.refl _).gdOff b).zero n n24 (applied_gdOff s n24)
    · exact applied_gdOff _ small
  unfold pairsAt
  rw [applied_gdShow_other _ _ even.2.symm, applied_gdShow_other _ _ even.1.symm, offs]

theorem applied_pairsAt_lower (s : State) (a b v : Nat) : (s.pairsAt a b v).ob (Obj.gdAppliedValue (a + 1)) = v ∧
    (s.pairsAt a b v).ob (Obj.gdAppliedValue (b + 1)) = v := by
  refine ⟨?_, applied_gdShow_same _ _ _⟩
  by_cases same : b + 1 = a + 1
  · rw [← same]
    exact applied_gdShow_same _ _ _
  · exact (applied_gdShow_other _ v same).trans (applied_gdShow_same _ _ _)

theorem brChannels_brake (s : State) (h duty : Nat) : s.brChannels h 3 duty = s.pairsAt (s.brLead h) (s.brOther h) 10000 := rfl
theorem brChannels_coast (s : State) (h duty : Nat) : s.brChannels h 0 duty = s.pairsAt (s.brLead h) (s.brOther h) 0 := rfl

/-- At rest the upper channels of a bridge apply 0 and the lower ones the value of a brake or of coasting. -/
theorem applied_rest {s u : State} {h : Nat} (w : s.Wired h) (e : u.cfg = s.cfg) (v : Nat) :
    let t := u.pairsAt (u.brLead h) (u.brOther h) v
    t.ob (Obj.gdAppliedValue (s.brLead h)) = 0 ∧ t.ob (Obj.gdAppliedValue (s.brOther h)) = 0 ∧
      t.ob (Obj.gdAppliedValue (s.brLead h + 1)) = v ∧ t.ob (Obj.gdAppliedValue (s.brOther h + 1)) = v := by
  intro t
  have a := w.pairA
  have b := w.pairB
  simp only [t, brLead_of_cfg e, brOther_of_cfg e]
  unfold brLead brOther
  exact ⟨applied_pairsAt_upper u v (by omega) (by omega) (.inl rfl) (by omega),
    applied_pairsAt_upper u v (by omega) (by omega) (.inr rfl) (by omega), applied_pairsAt_lower ..⟩

/-! ## What BR_STATE and the flags show -/

theorem ob_setBrFlag_other (s : State) (h i : Nat) (b : Bool) {k : Nat} (other : Obj.brFlags h ≠ k) :
    (s.setBrFlag h i b).ob k = s.ob k := ob_setOb_other s _ other

theorem bit_setBrFlag_same (s : State) (h i : Nat) (b : Bool) : (s.setBrFlag h i b).bit (Obj.brFlags h) i = b :=
  bit_setBit_same s _ i b

theorem bit_brSlot (s : State) (h k v key i : Nat) : (s.brSlot h k v).bit key i = s.bit key i := rfl

theorem brState_brShow (s : State) (h st : Nat) :
    (s.brShow h st).ob (Obj.brState h) = if (s.brCh h).waiting.isSome then 7 else st :=
  (ob_setOb_other _ _ (brField_ne h h (by decide))).trans (ob_setOb_same ..)

theorem bit_brShow (s : State) (h st : Nat) {i : Nat} (flag : 0 ≠ i) :
    (s.brShow h st).bit (Obj.brFlags h) i = s.bit (Obj.brFlags h) i :=
  (bit_setBit_other _ _ _ _ flag).trans (bit_setOb_other s _ i (brField_ne h h (by decide)))

/-! ## A brake -/

/-- A bridge whose record says that it brakes, shown so and with its channels braking. -/
theorem brakes_shown {s u : State} {h reason next : Nat} {own : List Nat} (w : s.Wired h) (quiet : u.quiet own = s.quiet own)
    (kept : u.kept = s.kept) (dir : (u.brCh h).dir = 3) (follows : (u.brCh h).next = next) (slot : (u.brCh h).reason = reason)
    (since : (u.brCh h).since = s.now) : s.Brakes ((u.brShow h 1).brChannels h 3 0) h reason next own := by
  have cfg : (u.brShow h 1).cfg = s.cfg := (cfg_of_quiet quiet :)
  obtain ⟨a, b, a1, b1⟩ := applied_rest w cfg 10000
  rw [← brChannels_brake _ h 0] at a b a1 b1
  have shown := ob_brChannels_beyond (beyondGates_bridge h 1) (w.of_cfg cfg) 3 0
  refine ⟨?_, ?_, ?_, ?_, ?_, a, b, a1, b1, ?_, switches_of_quiet ?_⟩
  · simpa using dir
  · simpa using follows
  · simpa using slot
  · simpa using since
  · rw [brCh_brChannels]
    exact shown.trans (brState_brShow u h 1)
  · simp [kept]
  · simp [quiet]

/-- A flag of a braking bridge shown. -/
theorem Brakes.setBrFlag {s t : State} {h reason next : Nat} {own : List Nat} (brakes : s.Brakes t h reason next own)
    (w : s.Wired h) (i : Nat) (v : Bool) : s.Brakes (t.setBrFlag h i v) h reason next own := by
  obtain ⟨dir, follows, slot, since, shown, a, o, a1, o1, kept, still, objects⟩ := brakes
  have lead : s.brLead h + 1 < 24 := by have := w.pairA; unfold brLead; omega
  have other : s.brOther h + 1 < 24 := by have := w.pairB; unfold brOther; omega
  have same {k : Nat} (ne : Obj.brFlags h ≠ k) : (t.setBrFlag h i v).ob k = t.ob k := ob_setOb_other t _ ne
  have gate {n : Nat} (small : n < 24) : (t.setBrFlag h i v).ob (Obj.gdAppliedValue n) = t.ob (Obj.gdAppliedValue n) :=
    same ((beyondGates_bridge h _).ne_gate ⟨small, by decide⟩).symm
  refine ⟨dir, follows, slot, since, ?_, ?_, ?_, ?_, ?_, kept, still, fun k fixed k' => ?_⟩
  · exact (same (brField_ne h h (by decide))).trans shown
  · exact (gate (by omega)).trans a
  · exact (gate (by omega)).trans o
  · exact (gate lead).trans a1
  · exact (gate other).trans o1
  · refine (same fun e => ?_).trans (objects k fixed k')
    rw [← e, out_brFlags] at fixed
    cases fixed

/-- A slot of a braking bridge posted. -/
theorem Brakes.brSlot {s t : State} {h reason next : Nat} {own : List Nat} (brakes : s.Brakes t h reason next own) (k v : Nat) :
    s.Brakes (t.brSlot h k v) h reason next own := brakes

/-! ## The stop sequence (R163) -/

theorem brCh_brStop (s : State) (h reason : Nat) : (s.brStop h reason).brCh h = { s.brCh h with
    dir := 3, next := 0, reason := reason, since := if (s.brCh h).dir = 3 then (s.brCh h).since else s.now, target := none } := by
  simp [brStop]

/-- The stop sequence of a movement brakes. -/
theorem brakes_brStop {s u : State} {h reason : Nat} {own : List Nat} (w : s.Wired h) (quiet : u.quiet own = s.quiet own)
    (kept : u.kept = s.kept) (moves : (u.brCh h).dir = 1 ∨ (u.brCh h).dir = 2) : s.Brakes (u.brStop h reason) h reason 0 own := by
  have unloaded : (u.brUnload h).quiet own = s.quiet own := (brUnload_quiet u h).trans quiet
  have driven : (u.brCh h).dir ≠ 3 := by omega
  refine brakes_shown w ((setBr_quiet ..).trans unloaded) ?_ ?_ ?_ ?_ ?_
  · simp [kept]
  all_goals rw [brCh_setBr_same]
  rw [if_neg driven]
  exact now_of_quiet quiet

/-- A movement commanded to stop begins its stop sequence. -/
theorem brHalt_of_moves {s : State} {h : Nat} (moves : (s.brCh h).dir = 1 ∨ (s.brCh h).dir = 2) (reason : Nat) :
    s.brHalt h reason = s.brStop h reason := by
  unfold brHalt
  exact if_pos (by simpa using moves)

/-- Code 3 of a plain function brakes from drive and from rest (R171). -/
theorem brakes_brHold {s u : State} {h : Nat} {own : List Nat} (w : s.Wired h) (quiet : u.quiet own = s.quiet own)
    (kept : u.kept = s.kept) (free : u.gdBlocked (u.brLead h) = false) (dir : (u.brCh h).dir ≠ 3) :
    s.Brakes (u.brHold h) h (if (u.brCh h).dir = 1 ∨ (u.brCh h).dir = 2 then 3 else 0) 0 own := by
  unfold brHold
  dsimp only
  rw [if_neg (by simp [free])]
  by_cases moves : (u.brCh h).dir = 1 ∨ (u.brCh h).dir = 2
  · rw [if_pos moves, if_pos (by simpa using moves)]
    exact brakes_brStop w quiet kept moves
  · rw [if_neg moves, if_neg (by simpa using moves), if_neg dir]
    have unloaded : (u.brUnload h).quiet own = s.quiet own := (brUnload_quiet u h).trans quiet
    refine brakes_shown w ((setBr_quiet ..).trans unloaded) ?_ ?_ ?_ ?_ ?_
    · simp [kept]
    all_goals rw [brCh_setBr_same]
    exact now_of_quiet quiet

/-! ## Ripples and the current (R164) -/

section
variable {own : List Nat} {h : Nat}

theorem setPos_quiet (s : State) (p : Int) (pos : Obj.brRipplePos h ∈ own) (shown : Obj.brPosition h ∈ own) :
    (s.setPos h p).quiet own = s.quiet own := by
  simp [setPos, pos, shown]

theorem brCount_quiet (s : State) (ripples : Nat) (pos : Obj.brRipplePos h ∈ own) (shown : Obj.brPosition h ∈ own) :
    (s.brCount h ripples).quiet own = s.quiet own := by
  unfold brCount
  dsimp only
  split <;> simp [setPos_quiet _ _ pos shown]

theorem brMeasured_quiet (s : State) (current : Nat) (mine : Obj.brCurrent h ∈ own) :
    (s.brMeasured h current).quiet own = s.quiet own := by
  simp [brMeasured, mine]

end

@[simp] theorem setPos_kept (s : State) (h : Nat) (p : Int) : (s.setPos h p).kept = s.kept := rfl
@[simp] theorem brCount_kept (s : State) (h ripples : Nat) : (s.brCount h ripples).kept = s.kept := by
  unfold brCount
  dsimp only
  split <;> simp
@[simp] theorem brMeasured_kept (s : State) (h current : Nat) : (s.brMeasured h current).kept = s.kept := by simp [brMeasured]

@[simp] theorem brCh_setPos (s : State) (h : Nat) (p : Int) (m : Nat) : (s.setPos h p).brCh m = s.brCh m := rfl

/-- Ripples counted leave of a bridge's record all but those of a reversal. -/
theorem brCh_brCount (s : State) (h ripples : Nat) : (s.brCount h ripples).brCh h = { s.brCh h with
    reversed := if (s.brCh h).reversal then (s.brCh h).reversed + ripples else (s.brCh h).reversed } := by
  unfold brCount
  extract_lets b u
  have counted : u.brCh h =
      { s.brCh h with reversed := if (s.brCh h).reversal then (s.brCh h).reversed + ripples else (s.brCh h).reversed } := by
    simp only [u, b]
    split
    · exact brCh_setBr_same ..
    · rfl
  split <;> exact counted

theorem gd_brCount (s : State) (h ripples : Nat) : (s.brCount h ripples).gd = s.gd := by
  unfold brCount
  dsimp only
  split <;> split <;> rfl

theorem ob_setPos_other (s : State) (h : Nat) (p : Int) {k : Nat} (count : Obj.brRipplePos h ≠ k)
    (shown : Obj.brPosition h ≠ k) : (s.setPos h p).ob k = s.ob k :=
  (ob_setOb_other _ _ shown).trans (ob_setOb_other _ _ count)

theorem ob_brCount_other (s : State) (h ripples : Nat) {k : Nat} (count : Obj.brRipplePos h ≠ k)
    (shown : Obj.brPosition h ≠ k) : (s.brCount h ripples).ob k = s.ob k := by
  unfold brCount
  extract_lets b u
  have same : u.ob k = s.ob k := by
    simp only [u]
    split <;> rfl
  split
  · exact (ob_setPos_other u h _ count shown).trans same
  · exact (ob_setPos_other u h _ count shown).trans same
  · exact same

theorem brCh_brMeasured (s : State) (h current : Nat) :
    (s.brMeasured h current).brCh h = { s.brCh h with currentAt := some s.now } := by
  simp [brMeasured]

end State
end Sys2Proof.Machine

/-!
Codes, the end of a brake and RUN_MAX (R163, R171).
-/

namespace Sys2Proof.Machine
namespace State

/-! ## What protections read (R154) -/

theorem gdMembers_of_cfg {s t : State} (e : t.cfg = s.cfg) (c : Nat) : t.gdMembers c = s.gdMembers c := by
  simp only [gdMembers, bridgeOf_of_cfg e, brLead_of_cfg e, brOther_of_cfg e, cf_of_cfg e]

theorem gdBlocked_congr {s t : State} (cfg : t.cfg = s.cfg) (gd : t.gd = s.gd)
    (status : ∀ n, t.ob (Obj.gdStatus n) = s.ob (Obj.gdStatus n)) (c : Nat) : t.gdBlocked c = s.gdBlocked c := by
  have bits (n i : Nat) : t.bit (Obj.gdStatus n) i = s.bit (Obj.gdStatus n) i := congrArg (bitAt · i) (status n)
  have ch (n : Nat) : t.gdCh n = s.gdCh n := congrArg (fun g : Table GdChannel => g.read {} n) gd
  unfold gdBlocked
  rw [gdWaits_congr cfg (bits · 14) (bits · 15), gdMembers_of_cfg cfg]
  simp only [ch]

/-- A status object of a gate driver is none of another subindex. -/
theorem ne_gdStatus (i n : Nat) {a : Nat} (h : a ≠ 1 ∧ a < 256) : key i a ≠ Obj.gdStatus n := by
  unfold Obj.gdStatus key
  omega

theorem gdBlocked_brCount (s : State) (h ripples c : Nat) : (s.brCount h ripples).gdBlocked c = s.gdBlocked c :=
  gdBlocked_congr (frame_of_still (brCount_still s h ripples)).2.2 (gd_brCount ..)
    (fun n => ob_brCount_other s h ripples (ne_gdStatus _ n (by decide)) (ne_gdStatus _ n (by decide))) c

theorem gdBlocked_setBrFlag (s : State) (h i : Nat) (b : Bool) (c : Nat) : (s.setBrFlag h i b).gdBlocked c = s.gdBlocked c :=
  gdBlocked_congr (s := s) (t := s.setBrFlag h i b) rfl rfl
    (fun n => ob_setBrFlag_other s h i b (ne_gdStatus _ n (by decide))) c

/-! ## Codes (R163, R171) -/

section
variable {own : List Nat}

theorem brCommand_quiet (s : State) (h code : Nat) : (s.brCommand h code).quiet own = s.quiet own := by simp [brCommand]

end

@[simp] theorem brCommand_kept (s : State) (h code : Nat) : (s.brCommand h code).kept = s.kept := by simp [brCommand]

/-- A code taken, before it acts. -/
def codeTaken (s : State) (h code : Nat) : State := s.setBr h { s.brCh h with arrived := none, code := code }

theorem brCommand_same {s : State} {h code : Nat} (same : code = (s.brCh h).code) : s.brCommand h code = s.codeTaken h code :=
  if_pos same

theorem brCommand_new {s : State} {h code : Nat} (new : code ≠ (s.brCh h).code) (acts : code ≠ 0) :
    s.brCommand h code = ((s.codeTaken h code).setBrFlag h 4 false).brAct h code := by
  unfold brCommand
  dsimp only
  rw [if_neg new, if_neg acts]
  rfl

theorem brCommand_zero {s : State} {h : Nat} (new : 0 ≠ (s.brCh h).code) :
    s.brCommand h 0 = ((((s.codeTaken h 0).gdCancel ((s.codeTaken h 0).brLead h)).setBrFlag h 4 false).brAct h 0) := by
  unfold brCommand
  dsimp only
  rw [if_neg new, if_pos rfl]
  rfl

/-- Code 3 of a plain function holds the brake. -/
theorem brAct_hold {s : State} {h : Nat} (plain : s.brFn h = 1) : s.brAct h 3 = s.brHold h := by
  unfold brAct
  rw [plain]
  rfl

/-- Code 0 of a function that moves between two ends brakes its movement. -/
theorem brakes_brAct_zero {s u : State} {h : Nat} {own : List Nat} (w : s.Wired h) (quiet : u.quiet own = s.quiet own)
    (kept : u.kept = s.kept) (moves : (u.brCh h).dir = 1 ∨ (u.brCh h).dir = 2)
    (fn : u.brFn h = 1 ∨ u.brFn h = 3 ∨ u.brFn h = 5) : s.Brakes (u.brAct h 0) h 3 0 own := by
  have plain (f : u.brFn h = 1 ∨ u.brFn h = 5) : u.brAct h 0 = u.brStop h 3 := by
    rw [← brHalt_of_moves moves]
    unfold brAct
    obtain f | f := f <;> rw [f] <;> rfl
  have lock (f : u.brFn h = 3) : u.brAct h 0 = (u.setBr h { u.brCh h with waiting := none }).brStop h 3 := by
    rw [← brHalt_of_moves (by simpa using moves)]
    unfold brAct
    rw [f]
    rfl
  obtain f | f | f := fn
  · rw [plain (.inl f)]
    exact brakes_brStop w quiet kept moves
  · rw [lock f]
    exact brakes_brStop w ((setBr_quiet ..).trans quiet) ((setBr_kept ..).trans kept) (by simpa using moves)
  · rw [plain (.inr f)]
    exact brakes_brStop w quiet kept moves

theorem exec_bridgeCommand {h : Fin 6} {s : State} {code : Nat} (used : s.brUsed h = true)
    (arrived : (s.brCh h).arrived = some code) (safe : s.hoist.safe = false) (ripples : Nat) :
    exec (.bridgeCommand h ripples) s = .next ((s.brCount h ripples).brCommand h code) := by
  show execBridgeCommand h ripples s = _
  unfold execBridgeCommand
  rw [arrived]
  exact whenever_of (by simp [used, safe]) _ _

theorem quiet_brCount (s : State) (h ripples : Nat) :
    (s.brCount h ripples).quiet [Obj.brRipplePos h, Obj.brPosition h] = s.quiet [Obj.brRipplePos h, Obj.brPosition h] :=
  brCount_quiet s ripples (by simp) (by simp)

section
variable {s : State} {h : Nat} (w : s.Wired h) (ripples : Nat)
include w

/-- Code 3 arrives at a plain function that does not brake (R171). -/
theorem brakes_brCommand_hold (new : (s.brCh h).code ≠ 3) (plain : s.brFn h = 1) (free : s.gdBlocked (s.brLead h) = false)
    (dir : (s.brCh h).dir ≠ 3) : s.Brakes ((s.brCount h ripples).brCommand h 3) h
      (if (s.brCh h).dir = 1 ∨ (s.brCh h).dir = 2 then 3 else 0) 0 [Obj.brRipplePos h, Obj.brPosition h] := by
  let u := ((s.brCount h ripples).codeTaken h 3).setBrFlag h 4 false
  have quiet : u.quiet [Obj.brRipplePos h, Obj.brPosition h] = s.quiet [Obj.brRipplePos h, Obj.brPosition h] := by
    simp [u, codeTaken, quiet_brCount]
  have cfg := cfg_of_quiet quiet
  have same : (u.brCh h).dir = (s.brCh h).dir := by simp [u, codeTaken, brCh_brCount]
  have free' : u.gdBlocked (u.brLead h) = false := by
    rw [brLead_of_cfg cfg]
    exact (gdBlocked_setBrFlag ..).trans ((gdBlocked_brCount ..).trans free)
  have held := brakes_brHold w quiet (by simp [u, codeTaken]) free' (by rwa [same])
  rw [same] at held
  rw [brCommand_new (by simpa [brCh_brCount] using new.symm) (by decide), brAct_hold ((cf_of_cfg cfg _).trans plain)]
  exact held

/-- Code 0 arrives at a function that moves between two ends. -/
theorem brakes_brCommand_zero (new : (s.brCh h).code ≠ 0) (fn : s.brFn h = 1 ∨ s.brFn h = 3 ∨ s.brFn h = 5)
    (moves : (s.brCh h).dir = 1 ∨ (s.brCh h).dir = 2) :
    s.Brakes ((s.brCount h ripples).brCommand h 0) h 3 0 [Obj.brRipplePos h, Obj.brPosition h] := by
  let c := (s.brCount h ripples).codeTaken h 0
  let u := (c.gdCancel (c.brLead h)).setBrFlag h 4 false
  have quiet : u.quiet [Obj.brRipplePos h, Obj.brPosition h] = s.quiet [Obj.brRipplePos h, Obj.brPosition h] := by
    simp [u, c, codeTaken, quiet_brCount]
  have same : (u.brCh h).dir = (s.brCh h).dir := by simp [u, c, codeTaken, brCh_brCount]
  have function : u.brFn h = s.brFn h := cf_of_cfg (cfg_of_quiet quiet) _
  rw [brCommand_zero (by simpa [brCh_brCount] using new.symm)]
  have kept : u.kept = s.kept := by simp [u, c, codeTaken]
  exact brakes_brAct_zero w quiet kept (same ▸ moves) (function ▸ fn)

end

/-! ## Presenting a start loses no event -/

section
variable {s : State} {o : Occ} (h : o ∈ s.fab.inFlight)
include h

theorem mem_inFlight_refuse (r : AdmRequest) : o ∈ (s.refuse r).fab.inFlight := List.mem_append_left _ h

theorem mem_inFlight_showWait (sig : Nat) : o ∈ (s.showWait sig).fab.inFlight := by
  have same : (s.showWait sig).fab = s.fab := by
    unfold showWait
    dsimp only
    split
    · split
      · rfl
      · split
        · split <;> rfl
        · rfl
    · split
      · split <;> rfl
      · rfl
  exact mem_inFlight_of_fab same h

theorem mem_inFlight_admitS (r : AdmRequest) : o ∈ (s.admitS r).fab.inFlight := by
  unfold admitS
  exact mem_inFlight_ite (mem_inFlight_admitNow h r) (List.mem_append_left _ (mem_inFlight_admitNow h r))

theorem mem_inFlight_present (r : AdmRequest) : o ∈ (s.present r).fab.inFlight := by
  unfold present
  refine mem_inFlight_ite (mem_inFlight_runQueue (mem_inFlight_admitS h r)) ?_
  extract_lets q _ queued run
  have k : o ∈ queued.fab.inFlight := by
    simp only [queued]
    split
    · exact h
    · split
      · exact h
      · exact mem_inFlight_ite (mem_inFlight_refuse (s := { s with arb := _ }) h _) (mem_inFlight_refuse h r)
  have k : o ∈ run.fab.inFlight := mem_inFlight_runQueue k
  exact mem_inFlight_ite (mem_inFlight_showWait (s := run.bump _) k _) k

theorem mem_inFlight_withdrawIf (p : AdmRequest → Bool) : o ∈ (s.withdrawIf p).fab.inFlight :=
  mem_inFlight_of_fab (fab_forEach (f := noteWait) (fun _ _ => rfl) _ s) h

theorem mem_inFlight_revise (old new : AdmRequest) : o ∈ (s.revise old new).fab.inFlight := by
  unfold revise
  refine mem_inFlight_ite (mem_inFlight_present (mem_inFlight_withdrawIf h _) _) (mem_inFlight_ite ?_ ?_)
  · exact mem_inFlight_runQueue (s := { s with arb := _ }) h
  · exact mem_inFlight_runQueue (s := { s with arb := _ }) h

theorem mem_inFlight_brPresent (b dir cls code : Nat) : o ∈ (s.brPresent b dir cls code).fab.inFlight := by
  unfold brPresent
  dsimp only
  refine mem_inFlight_ite (mem_inFlight_of_fab (fab_brChannels ..) h) ?_
  have waits (x : Bridge) (key : Nat) : o ∈ ((((s.setBr b x).brShow b 4).brChannels b 0 0).takeAge key).fab.inFlight :=
    mem_inFlight_of_fab (fab_brChannels ..) h
  split
  · exact mem_inFlight_revise (waits _ _) _ _
  · exact mem_inFlight_present (waits _ _) _

end

/-! ## The end of a brake (R163, R171) -/

/-- The record of a brake that has ended: no reason, and the position stored where it is known. -/
def brakeEnded (s : State) (h : Nat) : Bridge :=
  { s.brCh h with reason := 0, stored := if s.brFlag h 6 then some (s.brPos h) else (s.brCh h).stored }

/-- A brake that has ended, told of where a movement has ended. -/
def brakeTold (s : State) (h : Nat) : State :=
  let u := s.setBr h (s.brakeEnded h)
  if (s.brCh h).reason ≠ 0 then u.brSlot h 0 (s.brCh h).reason else u

theorem brBrakeEnd_starts {s : State} {h : Nat} (next : (s.brCh h).next ≠ 0) : s.brBrakeEnd h = (s.brakeTold h).brPresent h
    (s.brCh h).next (if (s.brCh h).reversal then 0 else (s.brakeTold h).brClass h) (s.brCh h).code :=
  if_pos next

theorem frame_brakeTold (s : State) (h : Nat) :
    s.brakeTold h = { s with br := (s.brakeTold h).br, fab := (s.brakeTold h).fab } := by
  unfold brakeTold
  dsimp only
  split <;> rfl

theorem ob_brakeTold (s : State) (h k : Nat) : (s.brakeTold h).ob k = s.ob k := by rw [frame_brakeTold]; rfl

@[simp] theorem brCh_brakeTold (s : State) (h : Nat) : (s.brakeTold h).brCh h = s.brakeEnded h := by
  unfold brakeTold
  dsimp only
  split <;> simp

theorem raised_brakeTold {s : State} {h : Nat} (moved : (s.brCh h).reason ≠ 0) :
    (s.brakeTold h).Raised s.now (8 * s.brLead h + 3) (s.brCh h).reason := by
  unfold brakeTold
  dsimp only
  rw [if_pos moved]
  exact raised_post (s.setBr h (s.brakeEnded h)) _ _

theorem brHolds_brakeTold (s : State) (h : Nat) : (s.brakeTold h).brHolds h = s.brHolds h := by
  have fn : (s.brakeTold h).brFn h = s.brFn h := by rw [frame_brakeTold]; rfl
  unfold brHolds
  rw [fn, brCh_brakeTold]
  rfl

/-- A brake held under code 3 goes on. -/
theorem brBrakeEnd_holds {s : State} {h : Nat} (holds : s.brHolds h = true) : s.brBrakeEnd h = s.brakeTold h := by
  have next : ¬(s.brCh h).next ≠ 0 := by
    unfold brHolds at holds
    simp only [Bool.and_eq_true, decide_eq_true_eq] at holds
    exact not_not.mpr holds.2
  exact (if_neg next).trans (if_pos ((brHolds_brakeTold s h).trans holds))

/-- A brake that has ended with no start to follow, before the channels coast. -/
def brakeLeft (s : State) (h : Nat) : State :=
  ((s.brakeTold h).setBr h { s.brakeEnded h with dir := 0 }).brShow h (if s.brFlag h 3 then 6 else 0)

@[simp] theorem brCh_brakeLeft (s : State) (h : Nat) : (s.brakeLeft h).brCh h = { s.brakeEnded h with dir := 0 } :=
  brCh_setBr_same ..

/-- Without a start that follows, and but for code 3, the bridge coasts. -/
theorem brBrakeEnd_coasts {s : State} {h : Nat} (next : (s.brCh h).next = 0) (free : s.brHolds h = false) :
    s.brBrakeEnd h = (s.brakeLeft h).brChannels h 0 0 := by
  have free' : ¬(s.brakeTold h).brHolds h = true := by simp [brHolds_brakeTold, free]
  have flag : (s.brakeTold h).brFlag h 3 = s.brFlag h 3 := congrArg (bitAt · 3) (ob_brakeTold s h _)
  unfold brakeLeft
  rw [← brCh_brakeTold, ← flag]
  exact (if_neg (not_not.mpr next)).trans (if_neg free')

theorem brakeTold_quiet {own : List Nat} (s : State) (h : Nat) : (s.brakeTold h).quiet own = s.quiet own := by simp [brakeTold]
@[simp] theorem brakeTold_kept (s : State) (h : Nat) : (s.brakeTold h).kept = s.kept := by simp [brakeTold]

theorem brBrakeEnd_switches (s : State) (h : Nat) : (s.brBrakeEnd h).kept = s.kept ∧ s.Switches (s.brBrakeEnd h) [] :=
  ⟨by simp [brBrakeEnd], switches_of_quiet (by simp [brBrakeEnd])⟩

theorem raised_brBrakeEnd {s : State} {h : Nat} (moved : (s.brCh h).reason ≠ 0) :
    (s.brBrakeEnd h).Raised s.now (8 * s.brLead h + 3) (s.brCh h).reason := by
  have told := raised_brakeTold moved
  by_cases next : (s.brCh h).next = 0
  · cases holds : s.brHolds h
    · rw [brBrakeEnd_coasts next holds]
      exact mem_inFlight_of_fab (fab_brChannels ..) told
    · rwa [brBrakeEnd_holds holds]
  · rw [brBrakeEnd_starts next]
    exact mem_inFlight_brPresent told ..

/-- A bridge that coasts after a brake. -/
theorem brBrakeEnd_rests {s : State} {h : Nat} (w : s.Wired h) (next : (s.brCh h).next = 0) (free : s.brHolds h = false) :
    let t := s.brBrakeEnd h
    (t.brCh h).dir = 0 ∧ (t.brCh h).stored = (if s.brFlag h 6 then some (s.brPos h) else (s.brCh h).stored) ∧
      t.ob (Obj.brState h) = (if (s.brCh h).waiting.isSome then 7 else if s.brFlag h 3 then 6 else 0) ∧
      t.ob (Obj.gdAppliedValue (s.brLead h)) = 0 ∧ t.ob (Obj.gdAppliedValue (s.brOther h)) = 0 ∧
      t.ob (Obj.gdAppliedValue (s.brLead h + 1)) = 0 ∧ t.ob (Obj.gdAppliedValue (s.brOther h + 1)) = 0 := by
  intro t
  have cfg : (s.brakeLeft h).cfg = s.cfg := cfg_of_quiet (own := []) (by simp [brakeLeft, brakeTold_quiet])
  have record : (t.brCh h) = { s.brakeEnded h with dir := 0 } := by
    simp only [t, brBrakeEnd_coasts next free, brCh_brChannels, brCh_brakeLeft]
  have state : (s.brakeLeft h).ob (Obj.brState h) = if (s.brCh h).waiting.isSome then 7 else if s.brFlag h 3 then 6 else 0 := by
    refine (brState_brShow _ h _).trans ?_
    rw [brCh_setBr_same]
    rfl
  have shown := ob_brChannels_beyond (beyondGates_bridge h 1) (w.of_cfg cfg) 0 0
  rw [record]
  refine ⟨rfl, rfl, ?_⟩
  simp only [t, brBrakeEnd_coasts next free]
  rw [brChannels_coast] at shown ⊢
  exact ⟨shown.trans state, applied_rest w cfg 0⟩

theorem exec_bridgeBrakeEnd {h : Fin 6} {s : State} (used : s.brUsed h = true) (dir : (s.brCh h).dir = 3)
    (lasted : s.passed (s.brCh h).since (ms (s.cf (Obj.brBrakeTime h))) = true)
    (ends : s.brHolds h = false ∨ (s.brCh h).reason ≠ 0) : exec (.bridgeBrakeEnd h) s = .next (s.brBrakeEnd h) :=
  whenever_of (by obtain e | e := ends <;> simp [used, dir, lasted, e]) _ _

/-! ## The end of a reversal (R167, R168) -/

theorem brCh_reversalEnd (s : State) (h reason : Nat) : (s.reversalEnd h reason).brCh h = (s.brStop h reason).brCh h := by
  unfold reversalEnd
  rw [brCh_brSlot, brCh_setBrFlag]

theorem reversal_brStop (s : State) (h reason : Nat) : ((s.brStop h reason).brCh h).reversal = (s.brCh h).reversal := by
  rw [brCh_brStop]

/-- The reversal of a pinch is over. -/
def unreversed (s : State) (h : Nat) : State := s.setBr h { s.brCh h with reversal := false }

@[simp] theorem brCh_unreversed (s : State) (h : Nat) : (s.unreversed h).brCh h = { s.brCh h with reversal := false } :=
  brCh_setBr_same ..
@[simp] theorem unreversed_kept (s : State) (h : Nat) : (s.unreversed h).kept = s.kept := setBr_kept ..
theorem unreversed_quiet {own : List Nat} (s : State) (h : Nat) : (s.unreversed h).quiet own = s.quiet own := setBr_quiet ..

/-- Its end latches the pinch, and begins the stop sequence of a bridge that moves. -/
theorem bit_reversalEnd (s : State) (h reason : Nat) : (s.reversalEnd h reason).bit (Obj.brFlags h) 4 = true := by
  unfold reversalEnd
  rw [bit_brSlot, bit_setBrFlag_same]

theorem brakes_reversalEnd {s u : State} {h reason : Nat} {own : List Nat} (w : s.Wired h) (quiet : u.quiet own = s.quiet own)
    (kept : u.kept = s.kept) (moves : (u.brCh h).dir = 1 ∨ (u.brCh h).dir = 2) :
    s.Brakes ((u.unreversed h).reversalEnd h reason) h reason 0 own := by
  have stops : s.Brakes ((u.unreversed h).brStop h reason) h reason 0 own :=
    brakes_brStop w ((unreversed_quiet u h).trans quiet) ((unreversed_kept u h).trans kept) (by rwa [brCh_unreversed])
  unfold reversalEnd
  exact (stops.setBrFlag w 4 true).brSlot 4 _

theorem reversal_reversalEnd (s : State) (h reason : Nat) :
    (((s.unreversed h).reversalEnd h reason).brCh h).reversal = false := by
  rw [brCh_reversalEnd, reversal_brStop, brCh_unreversed]

/-! ## RUN_MAX (R163) -/

/-- A movement but a wiper's that has run RUN_MAX. -/
def runOver (s : State) (h : Nat) : State :=
  if (s.brCh h).reversal then (s.unreversed h).reversalEnd h 4 else s.brStop h 4

theorem brakes_runOver {s u : State} {h : Nat} {own : List Nat} (w : s.Wired h) (quiet : u.quiet own = s.quiet own)
    (kept : u.kept = s.kept) (moves : (u.brCh h).dir = 1 ∨ (u.brCh h).dir = 2) :
    ((u.runOver h).brCh h).reversal = false ∧ s.Brakes (u.runOver h) h 4 0 own := by
  unfold runOver
  split
  · exact ⟨reversal_reversalEnd u h 4, brakes_reversalEnd w quiet kept moves⟩
  · next forward => exact ⟨(reversal_brStop u h 4).trans (by simpa using forward), brakes_brStop w quiet kept moves⟩

theorem exec_bridgeRunMax {h : Fin 6} {s : State} (used : s.brUsed h = true) (limited : s.cf (Obj.brRunMax h) ≠ 0)
    (moves : (s.brCh h).dir = 1 ∨ (s.brCh h).dir = 2)
    (lasted : s.passed (s.brCh h).since (ms (s.cf (Obj.brRunMax h))) = true) (fn : s.brFn h ≠ 4) (ripples : Nat) :
    exec (.bridgeRunMax h ripples) s = .next ((s.brCount h ripples).runOver h) := by
  have fn' : (s.brCount h ripples).brFn h ≠ 4 := by
    unfold brFn
    rwa [cf_of_cfg (frame_of_still (brCount_still s h ripples)).2.2]
  have same : ((s.brCount h ripples).brCh h).reversal = (s.brCh h).reversal := by rw [brCh_brCount]
  unfold runOver
  rw [same]
  refine (whenever_of (by simp [used, limited, moves, lasted]) _ _).trans ?_
  rw [if_neg fn']
  rfl

end State

open State in
/-- Settles O30: an arrived code by what it is, a brake by what follows it, and RUN_MAX by the stop sequence. -/
theorem bridgesFollowTheirCodes : Obligations.BridgesFollowTheirCodes := by
  intro h s fits used
  have w := wired_of_configFits fits h
  refine ⟨fun ripples code arrived safe => ?_, fun dir lasted free => ?_,
    fun dir lasted holds => ⟨fun quiet => ?_, fun told => ?_⟩, fun ripples limited moves lasted fn => ?_⟩
  · refine ⟨_, exec_bridgeCommand used arrived safe ripples, by simp,
      switches_of_quiet ((brCommand_quiet ..).trans (quiet_brCount s h ripples)), fun same => ?_,
      fun hold new plain free dir => ?_, fun zero new fn moves => ?_⟩
    · exact brCommand_same (by rwa [brCh_brCount])
    · subst hold
      exact brakes_brCommand_hold w ripples new plain free dir
    · subst zero
      exact brakes_brCommand_zero w ripples new fn moves
  · obtain ⟨kept, switches⟩ := brBrakeEnd_switches s h
    exact ⟨_, exec_bridgeBrakeEnd used dir lasted (.inl free), kept, switches, raised_brBrakeEnd,
      fun next => brBrakeEnd_rests w next free⟩
  · exact whenever_not (by simp [holds, quiet]) _ _
  · have e := exec_bridgeBrakeEnd used dir lasted (.inr told)
    rw [brBrakeEnd_holds holds] at e
    refine ⟨_, e, ?_, ?_, raised_brakeTold told, frame_brakeTold s h⟩
    · rw [brCh_brakeTold]
      exact dir
    · rw [brCh_brakeTold]
      rfl
  · have moves' : ((s.brCount h ripples).brCh h).dir = 1 ∨ ((s.brCount h ripples).brCh h).dir = 2 := by rwa [brCh_brCount]
    exact ⟨_, exec_bridgeRunMax used limited moves lasted fn ripples,
      brakes_runOver w (quiet_brCount s h ripples) (brCount_kept s h ripples) moves'⟩

end Sys2Proof.Machine

/-!
How a movement ends (R165–R168): stall, open load, pinch and the end of its reversal.
-/

namespace Sys2Proof.Machine
namespace State

/-! ## The current shown (R164) -/

theorem saturate_of_le {x top : Nat} (le : x ≤ top) : saturate x top = x := if_pos le

theorem ob_brMeasured (s : State) (h : Nat) {current : Nat} (fits : current ≤ 65535) :
    (s.brMeasured h current).ob (Obj.brCurrent h) = current :=
  (ob_setOb_same s _ _).trans (saturate_of_le fits)

/-- What a stall is given: the ripples counted and the current measured. -/
theorem quiet_measured (s : State) (h ripples current : Nat) :
    ((s.brCount h ripples).brMeasured h current).quiet [Obj.brCurrent h, Obj.brRipplePos h, Obj.brPosition h] =
      s.quiet [Obj.brCurrent h, Obj.brRipplePos h, Obj.brPosition h] :=
  (brMeasured_quiet _ current (by simp)).trans (brCount_quiet s ripples (by simp) (by simp))

theorem dir_measured (s : State) (h ripples current : Nat) :
    (((s.brCount h ripples).brMeasured h current).brCh h).dir = (s.brCh h).dir := by
  rw [brCh_brMeasured, brCh_brCount]

/-- Only ripples and a measurement move BR_CURRENT of what a stall moves. -/
theorem ob_brCurrent_of_quiet {s t : State} {h : Nat}
    (quiet : t.quiet [Obj.brRipplePos h, Obj.brPosition h] = s.quiet [Obj.brRipplePos h, Obj.brPosition h]) :
    t.ob (Obj.brCurrent h) = s.ob (Obj.brCurrent h) := by
  refine ob_of_quiet quiet ?_
  have fixed : outputObject (Obj.brCurrent h) = false := by
    unfold Obj.brCurrent
    rw [outputObject_key _ (by decide)]
    simp
    omega
  have count : Obj.brCurrent h ≠ Obj.brRipplePos h := brField_ne h h (by decide)
  have shown : Obj.brCurrent h ≠ Obj.brPosition h := brField_ne h h (by decide)
  simp [moves, fixed, count, shown]

/-! ## Stall (R165, R166, R169) -/

/-- A lock pulse that ends begins the stop sequence. -/
theorem brakes_lockEnd {s u : State} {h reason : Nat} {own : List Nat} (w : s.Wired h) (quiet : u.quiet own = s.quiet own)
    (kept : u.kept = s.kept) (moves : (u.brCh h).dir = 1 ∨ (u.brCh h).dir = 2) :
    s.Brakes (u.lockEnd h reason) h reason 0 own := by
  have stops : s.Brakes (u.brStop h reason) h reason 0 own := brakes_brStop w quiet kept moves
  unfold lockEnd
  dsimp only
  split
  · split
    · exact stops
    · exact stops.brSlot 5 _
  · exact stops

/-- A stall of any function but a window begins the stop sequence. -/
theorem brakes_brStall {s u : State} {h : Nat} {own : List Nat} (w : s.Wired h) (quiet : u.quiet own = s.quiet own)
    (kept : u.kept = s.kept) (moves : (u.brCh h).dir = 1 ∨ (u.brCh h).dir = 2) (fn : u.brFn h ≠ 2) :
    s.Brakes (u.brStall h) h 2 0 own := by
  unfold brStall
  split
  · exact (brakes_lockEnd w quiet kept moves).setBrFlag w 1 true
  · next window => exact absurd window fn
  · exact (brakes_brStop w quiet kept moves).setBrFlag w 1 true

/-- A stall is shown. -/
theorem bit_brStall (s : State) (h : Nat) : (s.brStall h).bit (Obj.brFlags h) 1 = true := by
  unfold brStall
  exact bit_setBrFlag_same _ h 1 true

@[simp] theorem windowStall_kept (s : State) (h : Nat) : (s.windowStall h).kept = s.kept := by
  simp [windowStall, brLearn]

theorem windowStall_quiet {own : List Nat} {h : Nat} (s : State) (pos : Obj.brRipplePos h ∈ own)
    (shown : Obj.brPosition h ∈ own) : (s.windowStall h).quiet own = s.quiet own := by
  simp [windowStall, brLearn, setPos_quiet _ _ pos shown, loseNormal_quiet _ shown]

theorem brStall_quiet {own : List Nat} {h : Nat} (s : State) (pos : Obj.brRipplePos h ∈ own) (shown : Obj.brPosition h ∈ own) :
    (s.brStall h).quiet own = s.quiet own := by
  unfold brStall
  rw [setBrFlag_quiet]
  split
  · simp only [lockEnd]
    split <;> simp
  · simp [reversalEnd, windowStall_quiet s pos shown]
  · exact brStop_quiet ..

theorem brCurrent_brStall (s : State) (h : Nat) : (s.brStall h).ob (Obj.brCurrent h) = s.ob (Obj.brCurrent h) :=
  ob_brCurrent_of_quiet (brStall_quiet s (by simp) (by simp))

theorem reversal_windowStall (s : State) (h : Nat) : ((s.windowStall h).brCh h).reversal = (s.brCh h).reversal := by
  have lost (u : State) : ((u.loseNormal h).brCh h).reversal = (u.brCh h).reversal := by
    unfold loseNormal
    split
    · simp
    · rfl
  have learnt (u : State) : ((u.brLearn h).brCh h).reversal = (u.brCh h).reversal := by simp [brLearn]
  unfold windowStall
  dsimp only
  split
  · split
    · rw [brCh_brSlot, brCh_setPos, brCh_setBrFlag]
      split
      · exact learnt s
      · rfl
    · rfl
  · split
    · rfl
    · exact lost s

/-- A window's stall ends its reversal, or stops it. -/
def windowStops (s : State) (h : Nat) : State :=
  if (s.brCh h).reversal then (s.unreversed h).reversalEnd h 2 else s.brStop h 2

theorem brStall_window {s : State} {h : Nat} (window : s.brFn h = 2) :
    s.brStall h = ((s.windowStall h).windowStops h).setBrFlag h 1 true := by
  unfold brStall
  rw [window]
  rfl

theorem windowStops_stops (s : State) (h : Nat) :
    ((s.windowStops h).brCh h).dir = 3 ∧ ((s.windowStops h).brCh h).next = 0 ∧ ((s.windowStops h).brCh h).reason = 2 ∧
      ((s.windowStops h).brCh h).reversal = false ∧ (s.windowStops h).kept = s.kept ∧
      ((s.brCh h).reversal = true → (s.windowStops h).bit (Obj.brFlags h) 4 = true) := by
  unfold windowStops
  split
  · refine ⟨?_, ?_, ?_, reversal_reversalEnd s h 2, by simp [reversalEnd], fun _ => bit_reversalEnd _ h 2⟩
    all_goals rw [brCh_reversalEnd, brCh_brStop]
  · next forward =>
    refine ⟨?_, ?_, ?_, (reversal_brStop s h 2).trans (by simpa using forward), by simp, fun back => absurd back forward⟩
    all_goals rw [brCh_brStop]

/-- A stall of a window. -/
theorem brStall_window_stops {s : State} {h : Nat} (window : s.brFn h = 2) :
    ((s.brStall h).brCh h).dir = 3 ∧ ((s.brStall h).brCh h).next = 0 ∧ ((s.brStall h).brCh h).reason = 2 ∧
      ((s.brStall h).brCh h).reversal = false ∧ (s.brStall h).bit (Obj.brFlags h) 1 = true ∧ (s.brStall h).kept = s.kept ∧
      ((s.brCh h).reversal = true → (s.brStall h).bit (Obj.brFlags h) 4 = true) := by
  obtain ⟨dir, next, reason, reversal, kept, latched⟩ := (s.windowStall h).windowStops_stops h
  have shown := bit_brStall s h
  rw [brStall_window window] at shown ⊢
  refine ⟨dir, next, reason, reversal, shown, kept.trans (windowStall_kept s h), fun back => ?_⟩
  exact (bit_setBit_other _ _ _ true (by decide)).trans (latched ((reversal_windowStall s h).trans back))

theorem exec_bridgeStall {h : Fin 6} {s : State} (used : s.brUsed h = true) {current : Nat} (fn : s.brFn h ≠ 4)
    (moves : (s.brCh h).dir = 1 ∨ (s.brCh h).dir = 2)
    (high : s.cf (Obj.brStallI h) ≤ s.gdDecide (s.brLead h) (saturate current 65535))
    (lasted : s.passed (s.brCh h).since (ms (s.cf (Obj.brStallTime h))) = true) (ripples : Nat) :
    exec (.bridgeStall h current ripples) s = .next (((s.brCount h ripples).brMeasured h current).brStall h) :=
  whenever_of (by simp [used, fn, moves, high, lasted]) _ _

/-! ## A millisecond of a window (R167) -/

/-- `t` follows `s` with objects of a list moved and bridge `h` watched: it drives as before, and no other bridge has changed. -/
structure Watches (h : Nat) (own : List Nat) (s t : State) : Prop where
  frame : t = { s with obj := t.obj, br := t.br }
  dir : (t.brCh h).dir = (s.brCh h).dir
  others : ∀ m, m ≠ h → t.brCh m = s.brCh m
  objects : s.ObjectsBut t own

namespace Watches
variable {h : Nat} {own : List Nat} {s t : State}

theorem refl (h : Nat) (own : List Nat) (s : State) : Watches h own s s := ⟨rfl, rfl, fun _ _ => rfl, fun _ _ => rfl⟩

theorem setBr (k : Watches h own s t) {x : Bridge} (dir : x.dir = (t.brCh h).dir) : Watches h own s (t.setBr h x) where
  frame := congrArg (fun u : State => { u with br := (t.setBr h x).br }) k.frame
  dir := by rw [brCh_setBr_same, dir, k.dir]
  others m other := (brCh_setBr_other t x other.symm).trans (k.others m other)
  objects := k.objects

theorem setOb (k : Watches h own s t) {key : Nat} (v : Nat) (mine : key ∈ own) : Watches h own s (t.setOb key v) where
  frame := congrArg (fun u : State => { u with obj := (t.setOb key v).obj }) k.frame
  dir := k.dir
  others := k.others
  objects j other := (ob_setOb_other t v fun e : key = j => other (e ▸ mine)).trans (k.objects j other)

theorem brCount (k : Watches h own s t) (ripples : Nat) (pos : Obj.brRipplePos h ∈ own) (shown : Obj.brPosition h ∈ own) :
    Watches h own s (t.brCount h ripples) := by
  have moved {u : State} (k : Watches h own s u) (p : Int) : Watches h own s (u.setPos h p) := (k.setOb _ pos).setOb _ shown
  unfold State.brCount
  extract_lets b u
  have counted : Watches h own s u := by
    simp only [u]
    split
    · exact k.setBr rfl
    · exact k
  split
  · exact moved counted _
  · exact moved counted _
  · exact counted

theorem brMeasured (k : Watches h own s t) (current : Nat) (mine : Obj.brCurrent h ∈ own) :
    Watches h own s (t.brMeasured h current) :=
  (k.setOb _ mine).setBr rfl

theorem brGather (k : Watches h own s t) (current vbat : Nat) : Watches h own s (t.brGather h current vbat) := by
  unfold State.brGather
  refine k.setBr ?_
  (repeat' split) <;> rfl

end Watches

/-- A window's millisecond with no position to go to shows the current, and the movement goes on. -/
theorem watches_brMilli {s : State} {h : Nat} (free : (s.brCh h).target = none) {current : Nat} (fits : current ≤ 65535)
    (vbat ripples : Nat) :
    (s.brMilli h current vbat ripples).ob (Obj.brCurrent h) = current ∧
      Watches h [Obj.brCurrent h, Obj.brRipplePos h, Obj.brPosition h, Obj.brForceEst h] s (s.brMilli h current vbat ripples) := by
  have watched := (((Watches.refl h [Obj.brCurrent h, Obj.brRipplePos h, Obj.brPosition h, Obj.brForceEst h] s).brCount ripples
    (by simp) (by simp)).brMeasured current (by simp)).brGather current vbat
  have shown := ob_brMeasured (s.brCount h ripples) h fits
  have aimless : (((s.brCount h ripples).brMeasured h current).brCh h).target = none := by
    rw [brCh_brMeasured, brCh_brCount]
    exact free
  unfold brMilli
  generalize (s.brCount h ripples).brMeasured h current = u at watched shown aimless
  dsimp only
  simp only [aimless, Bool.false_eq_true, if_false]
  split
  · exact ⟨(ob_setOb_other _ _ (brField_ne h h (by decide))).trans shown, (watched.setOb _ (by simp)).setBr rfl⟩
  · exact ⟨shown, watched⟩

/-! ## Open load (R165) -/

/-- BR_CURRENT on its side of OL_BRIDGE, shown and told of where it falls below. -/
def openLoadShown (s : State) (h current : Nat) (low : Bool) : State :=
  ((s.setBrFlag h 2 low).brMeasured h current).postIf (low && !s.brFlag h 2) (8 * s.brLead h + 2) 1

theorem bit_openLoadShown (s : State) (h current : Nat) (low : Bool) :
    (s.openLoadShown h current low).bit (Obj.brFlags h) 2 = low := by
  have measured : ((s.setBrFlag h 2 low).brMeasured h current).bit (Obj.brFlags h) 2 =
      (s.setBrFlag h 2 low).bit (Obj.brFlags h) 2 := bit_setOb_other _ _ 2 (brField_ne h h (by decide))
  unfold openLoadShown
  rw [bit_postIf, measured, bit_setBrFlag_same]

theorem watches_openLoad (s : State) (h current : Nat) (low : Bool) :
    Watches h [Obj.brFlags h, Obj.brCurrent h] s ((s.setBrFlag h 2 low).brMeasured h current) :=
  ((Watches.refl h _ s).setOb _ (by simp)).brMeasured current (by simp)

/-- What an open load shown leaves alone. -/
theorem openLoadShown_leaves (s : State) (h current : Nat) (low : Bool) :
    let t := s.openLoadShown h current low
    t = { s with obj := t.obj, br := t.br, fab := t.fab } ∧ t.brCh h = { s.brCh h with currentAt := some s.now } ∧
      (∀ m, m ≠ h → t.brCh m = s.brCh m) ∧ s.ObjectsBut t [Obj.brFlags h, Obj.brCurrent h] := by
  have watched := s.watches_openLoad h current low
  have record := brCh_brMeasured (s.setBrFlag h 2 low) h current
  unfold openLoadShown
  generalize (s.setBrFlag h 2 low).brMeasured h current = u at watched record
  cases low && !s.brFlag h 2
  · exact ⟨congrArg (fun v : State => { v with fab := u.fab }) watched.frame, record, watched.others, watched.objects⟩
  · exact ⟨congrArg (fun v : State => { v with fab := (u.post (8 * s.brLead h + 2) 1).fab }) watched.frame, record,
      watched.others, watched.objects⟩

theorem raised_openLoadShown {s : State} {h : Nat} (clear : s.brFlag h 2 = false) (current : Nat) :
    (s.openLoadShown h current true).Raised s.now (8 * s.brLead h + 2) 1 := by
  unfold openLoadShown
  rw [clear]
  exact raised_post ((s.setBrFlag h 2 true).brMeasured h current) _ 1

theorem exec_bridgeOpenLoad {h : Fin 6} {s : State} (used : s.brUsed h = true) {current : Nat}
    (limited : s.cf (Obj.brOlBridge h) ≠ 0) (moves : (s.brCh h).dir = 1 ∨ (s.brCh h).dir = 2)
    (lasted : s.passed (s.brCh h).since (ms 100) = true) :
    exec (.bridgeOpenLoad h current) s =
      .next (s.openLoadShown h current (decide (s.gdDecide (s.brLead h) current < s.cf (Obj.brOlBridge h)))) :=
  whenever_of (by simp [used, limited, moves, lasted]) _ _

/-! ## A pinch (R167) -/

/-- The record of a bridge at a pinch: it brakes, and a reversal follows unless REVERSE_RIPPLES is 0. -/
def pinched (s : State) (h : Nat) : Bridge :=
  { s.brCh h with dir := 3, next := if s.cf (Obj.brReverseRipples h) ≠ 0 then 1 else 0
                  reversal := decide (s.cf (Obj.brReverseRipples h) ≠ 0), reversed := 0, overs := 0, since := s.now, reason := 0
                  target := none }

/-- The force told of, the motor start withdrawn, and the pinch latched where no reversal follows. -/
def pinchTold (s : State) (h : Nat) : State :=
  let u := ((s.brSlot h 3 (s.ob (Obj.brForceEst h))).brUnload h).setBr h (s.pinched h)
  if s.cf (Obj.brReverseRipples h) ≠ 0 then u else u.setBrFlag h 4 true

theorem brPinch_eq (s : State) (h : Nat) : s.brPinch h = ((s.pinchTold h).brShow h 1).brChannels h 3 0 := by
  unfold brPinch pinchTold pinched
  rfl

theorem pinchTold_quiet {own : List Nat} (s : State) (h : Nat) : (s.pinchTold h).quiet own = s.quiet own := by simp [pinchTold]
theorem pinchTold_kept (s : State) (h : Nat) : (s.pinchTold h).kept = s.kept := by simp [pinchTold]
theorem brCh_pinchTold (s : State) (h : Nat) : (s.pinchTold h).brCh h = s.pinched h := by
  unfold pinchTold
  dsimp only
  split
  · exact brCh_setBr_same ..
  · exact (brCh_setBrFlag ..).trans (brCh_setBr_same ..)

theorem raised_brPinch (s : State) (h : Nat) :
    (s.brPinch h).Raised s.now (8 * (s.brLead h + 1) + 3) (s.ob (Obj.brForceEst h)) := by
  have told := mem_inFlight_brUnload (raised_post s (8 * (s.brLead h + 1) + 3) (s.ob (Obj.brForceEst h))) h
  rw [brPinch_eq]
  refine mem_inFlight_of_fab (fab_brChannels ..) ?_
  unfold pinchTold
  exact mem_inFlight_ite (s := State.setBr _ h _) told told

/-- A pinch brakes, with its reversal to follow or the pinch latched. -/
theorem brPinch_brakes {s : State} {h : Nat} (w : s.Wired h) :
    s.Brakes (s.brPinch h) h 0 (if s.cf (Obj.brReverseRipples h) = 0 then 0 else 1) [] ∧
      ((s.brPinch h).brCh h).reversal = decide (s.cf (Obj.brReverseRipples h) ≠ 0) ∧
      (s.cf (Obj.brReverseRipples h) = 0 → (s.brPinch h).bit (Obj.brFlags h) 4 = true) := by
  have record := brCh_pinchTold s h
  have cfg : ((s.pinchTold h).brShow h 1).cfg = s.cfg := (cfg_of_quiet (own := []) (s.pinchTold_quiet h) :)
  rw [brPinch_eq]
  refine ⟨brakes_shown w (pinchTold_quiet s h) (pinchTold_kept s h) ?_ ?_ ?_ ?_, ?_, fun none => ?_⟩
  · rw [record]; rfl
  · rw [record]
    exact (ite_not ..)
  · rw [record]; rfl
  · rw [record]; rfl
  · rw [brCh_brChannels, brCh_brShow, record]
    rfl
  · rw [bit_brChannels (w.of_cfg cfg), bit_brShow _ _ _ (by decide)]
    unfold pinchTold
    dsimp only
    rw [if_neg (not_not.mpr none), bit_setBrFlag_same]

/-! ## The end of the reversal (R167, R168) -/

/-- Slot 4 carries the position at which the reversal has ended. -/
theorem raised_reversalEnd (s : State) (h reason : Nat) :
    (s.reversalEnd h reason).Raised s.now (8 * (s.brLead h + 1) + 6) ((s.reversalEnd h reason).ob (Obj.brPosition h)) := by
  let u := (s.brStop h reason).setBrFlag h 4 true
  have quiet : u.quiet [] = s.quiet [] := by simp [u]
  have told := raised_post u (8 * (u.brLead h + 1) + 6) (s.ob (Obj.brPosition h))
  rw [now_of_quiet quiet, brLead_of_cfg (cfg_of_quiet quiet)] at told
  have fixed : outputObject (Obj.brPosition h) = false := by
    unfold Obj.brPosition
    rw [outputObject_key _ (by decide)]
    simp
    omega
  have position : (s.reversalEnd h reason).ob (Obj.brPosition h) = s.ob (Obj.brPosition h) :=
    ob_of_quiet (own := []) (by simp [reversalEnd]) (by simp [moves, fixed])
  rw [position]
  unfold reversalEnd brSlot
  rw [brLead_of_cfg (cfg_of_quiet quiet)]
  exact told

/-- A reversal runs on until REVERSE_RIPPLES are counted. -/
theorem exec_pinchReversalEnd {h : Fin 6} {s : State} (used : s.brUsed h = true) {ripples : Nat} (back : (s.brCh h).reversal = true)
    (dir : (s.brCh h).dir = 1) (counted : s.cf (Obj.brReverseRipples h) ≤ (s.brCh h).reversed + ripples) :
    exec (.pinchReversalEnd h ripples) s = .next (((s.brCount h ripples).unreversed h).reversalEnd h 1) :=
  whenever_of (by simp [brCh_brCount, used, back, dir, counted]) _ _

end State

open State in
/-- Settles O31: each of the five commands by what it leaves of the movement. -/
theorem movementsEndAsStated : Obligations.MovementsEndAsStated := by
  intro h s fits used
  have w := wired_of_configFits fits h
  have function (ripples current : Nat) : ((s.brCount h ripples).brMeasured h current).brFn h = s.brFn h :=
    cf_of_cfg (frame_of_still ((brMeasured_still ..).trans (brCount_still ..))).2.2 _
  refine ⟨fun current ripples small wiper window moves high lasted => ?_, fun current ripples window moves high lasted => ?_,
    fun current small limited moves lasted => ?_, fun current vbat ripples small window moves free => ?_,
    fun window closes confirmed => ?_, fun ripples back opens window run => ?_⟩
  · have moves' := moves
    rw [← dir_measured s h ripples current] at moves'
    exact ⟨_, exec_bridgeStall used wiper moves (by rwa [saturate_of_le small]) lasted ripples,
      brakes_brStall w (quiet_measured s h ripples current) (by simp) moves' (by rwa [function]), bit_brStall _ h,
      (brCurrent_brStall _ h).trans (ob_brMeasured _ h small)⟩
  · obtain ⟨dir, next, reason, reversal, stalled, kept, latched⟩ :=
      brStall_window_stops ((function ripples current).trans window)
    refine ⟨_, exec_bridgeStall used (by simp [window]) moves high lasted ripples, dir, next, reason, reversal, stalled,
      by simpa using kept, fun back => latched ?_⟩
    rw [brCh_brMeasured, brCh_brCount]
    exact back
  · intro low
    obtain ⟨frame, record, others, objects⟩ := s.openLoadShown_leaves h current low
    refine ⟨_, exec_bridgeOpenLoad used limited moves lasted, bit_openLoadShown s h current low,
      (ob_postIf ..).trans (ob_brMeasured _ h small), fun isLow clear => ?_, frame, record, others, objects⟩
    show (s.openLoadShown h current low).Raised _ _ _
    rw [isLow]
    exact raised_openLoadShown clear current
  · obtain ⟨shown, watched⟩ := watches_brMilli free small vbat ripples
    exact ⟨_, whenever_of (by simp [used, window, moves]) _ _, shown, watched.frame, watched.dir, watched.others,
      watched.objects⟩
  · obtain ⟨brakes, reversal, latched⟩ := brPinch_brakes w
    exact ⟨_, whenever_of (by simp [used, window, closes, confirmed]) _ _, brakes, reversal, latched, raised_brPinch s h⟩
  · have told := raised_reversalEnd ((s.brCount h ripples).unreversed h) h 1
    obtain ⟨-, now, cfg⟩ := frame_of_still (brCount_still s h ripples)
    have lead : ((s.brCount h ripples).unreversed h).brLead h = s.brLead h := brLead_of_cfg cfg h
    have now' : ((s.brCount h ripples).unreversed h).now = s.now := now
    rw [lead, now'] at told
    exact ⟨_, exec_pinchReversalEnd used back opens run,
      brakes_reversalEnd w (quiet_brCount s h ripples) (brCount_kept s h ripples) (by simp [brCh_brCount, opens]),
      bit_reversalEnd _ h 1, reversal_reversalEnd _ h 1, told⟩

end Sys2Proof.Machine

/-!
Solenoids (R181–R196): the rules of a channel's record and of its objects, and the steps of a profile as one channel followed
through them.
-/

namespace Sys2Proof.Machine

/-- Two objects of the solenoids' status records with another subindex differ. -/
theorem svField_ne (n m : Nat) {a b : Nat} (h : a ≠ b ∧ a < 256 ∧ b < 256) :
    key (0x4402 + 0x10 * n) a ≠ key (0x4402 + 0x10 * m) b := by
  unfold key
  omega

/-- An object of a solenoid's status record beyond SV_STATUS and SV_PHASE. -/
theorem svField_not_mem (c : Nat) {a : Nat} (h : 3 ≤ a ∧ a < 256) :
    key (0x4402 + 0x10 * c) a ∉ [Obj.svPhase c, Obj.svStatus c] := by
  have phase : key (0x4402 + 0x10 * c) a ≠ Obj.svPhase c := svField_ne c c (by omega)
  have status : key (0x4402 + 0x10 * c) a ≠ Obj.svStatus c := svField_ne c c (by omega)
  simp [phase, status]

namespace State

/-! ## The record of a solenoid channel -/

@[simp] theorem svCh_setSv_same (s : State) (c : Nat) (x : SvChannel) : (s.setSv c x).svCh c = x := Table.read_write_same ..
theorem svCh_setSv_other (s : State) {c m : Nat} (x : SvChannel) (other : c ≠ m) : (s.setSv c x).svCh m = s.svCh m :=
  Table.read_write_other _ _ _ _ other

@[simp] theorem svCh_setOb (s : State) (k v m : Nat) : (s.setOb k v).svCh m = s.svCh m := rfl
@[simp] theorem svCh_setSvBit (s : State) (c i : Nat) (b : Bool) (m : Nat) : (s.setSvBit c i b).svCh m = s.svCh m := rfl
@[simp] theorem svCh_svPost (s : State) (c k v m : Nat) : (s.svPost c k v).svCh m = s.svCh m := rfl
@[simp] theorem svCh_svPostIf (s : State) (b : Bool) (c k v m : Nat) : (s.svPostIf b c k v).svCh m = s.svCh m := by
  cases b <;> rfl
@[simp] theorem svCh_svEnter (s : State) (c ph : Nat) : (s.svEnter c ph).svCh c = { s.svCh c with phaseAt := s.now } :=
  svCh_setSv_same ..

/-! ## Its objects -/

@[simp] theorem ob_svPostIf (s : State) (b : Bool) (c k v j : Nat) : (s.svPostIf b c k v).ob j = s.ob j := by
  cases b <;> rfl

/-- SV_PHASE keeps its value when another object of the record is written. -/
theorem svPh_setOb (s : State) (c : Nat) {a : Nat} (v : Nat) (h : a ≠ 2 ∧ a < 256) :
    (s.setOb (key (0x4402 + 0x10 * c) a) v).svPh c = s.svPh c :=
  ob_setOb_other s v (svField_ne c c ⟨h.1, h.2, by decide⟩)
@[simp] theorem svPh_setSv (s : State) (c : Nat) (x : SvChannel) (m : Nat) : (s.setSv c x).svPh m = s.svPh m := rfl
@[simp] theorem svPh_setSvBit (s : State) (c i : Nat) (b : Bool) : (s.setSvBit c i b).svPh c = s.svPh c :=
  svPh_setOb s c _ (by decide)
@[simp] theorem svPh_svPost (s : State) (c k v m : Nat) : (s.svPost c k v).svPh m = s.svPh m := rfl
@[simp] theorem svPh_svPostIf (s : State) (b : Bool) (c k v m : Nat) : (s.svPostIf b c k v).svPh m = s.svPh m :=
  ob_svPostIf ..
@[simp] theorem svPh_svEnter (s : State) (c ph : Nat) : (s.svEnter c ph).svPh c = ph := ob_setOb_same ..

/-- The bits of SV_STATUS keep their values when another object of the record is written. -/
theorem svBit_setOb (s : State) (c : Nat) {a : Nat} (v i : Nat) (h : a ≠ 1 ∧ a < 256) :
    (s.setOb (key (0x4402 + 0x10 * c) a) v).svBit c i = s.svBit c i :=
  bit_setOb_other s v i (svField_ne c c ⟨h.1, h.2, by decide⟩)
@[simp] theorem svBit_setSv (s : State) (c : Nat) (x : SvChannel) (m i : Nat) : (s.setSv c x).svBit m i = s.svBit m i := rfl
@[simp] theorem svBit_setSvBit_same (s : State) (c i : Nat) (b : Bool) : (s.setSvBit c i b).svBit c i = b :=
  bit_setBit_same ..
@[simp] theorem svBit_setSvBit_other (s : State) (c : Nat) {i j : Nat} (b : Bool) (h : i ≠ j) :
    (s.setSvBit c i b).svBit c j = s.svBit c j :=
  bit_setBit_other _ _ _ b h
@[simp] theorem svBit_svPost (s : State) (c k v m i : Nat) : (s.svPost c k v).svBit m i = s.svBit m i := rfl
@[simp] theorem svBit_svPostIf (s : State) (b : Bool) (c k v m i : Nat) : (s.svPostIf b c k v).svBit m i = s.svBit m i := by
  cases b <;> rfl
@[simp] theorem svBit_svEnter (s : State) (c ph i : Nat) : (s.svEnter c ph).svBit c i = s.svBit c i :=
  svBit_setOb s c ph i (by decide)

/-- The other objects of the record keep their values when a bit of SV_STATUS is written. -/
theorem ob_setSvBit (s : State) (c i : Nat) (b : Bool) {a : Nat} (h : 2 ≤ a ∧ a < 256) :
    (s.setSvBit c i b).ob (key (0x4402 + 0x10 * c) a) = s.ob (key (0x4402 + 0x10 * c) a) :=
  ob_setOb_other _ _ (svField_ne c c (by omega))

@[simp] theorem cf_svPostIf (s : State) (b : Bool) (c k v j : Nat) : (s.svPostIf b c k v).cf j = s.cf j := by
  cases b <;> rfl

theorem raised_svPost (s : State) (c k v : Nat) : (s.svPost c k v).Raised s.now (192 + 12 * c + k) v := raised_post ..
theorem raised_svPostIf {s : State} {b : Bool} (h : b = true) (c k v : Nat) :
    (s.svPostIf b c k v).Raised s.now (192 + 12 * c + k) v :=
  h ▸ raised_svPost s c k v

/-! ## A decay's path (R182) -/

/-- A decay moves RECOVER_FALLBACK only, and may tell of it. -/
theorem svDecay_induct {P : State → Prop} {s : State} {c : Nat} (stays : P s)
    (turns : ∀ a b, P ((s.setSvBit c 11 a).svPostIf b c 9 2)) : P (s.svDecay c) := by
  unfold svDecay
  split
  · exact stays
  · exact turns _ _

@[simp] theorem svCh_svDecay (s : State) (c m : Nat) : (s.svDecay c).svCh m = s.svCh m :=
  svDecay_induct (P := fun t => t.svCh m = s.svCh m) rfl (by simp)
@[simp] theorem svPh_svDecay (s : State) (c : Nat) : (s.svDecay c).svPh c = s.svPh c :=
  svDecay_induct (P := fun t => t.svPh c = s.svPh c) rfl (by simp)
@[simp] theorem svBit_svDecay (s : State) (c : Nat) {i : Nat} (h : 11 ≠ i) : (s.svDecay c).svBit c i = s.svBit c i :=
  svDecay_induct (P := fun t => t.svBit c i = s.svBit c i) rfl (by simp [h])

/-! ## One channel followed through its profile -/

/-- `t` follows `s` with solenoid channel `c` and the objects `own` changed, and events posted: no value arrives at the channel
and it acts on none. -/
structure Profiles (c : Nat) (own : List Nat) (s t : State) : Prop where
  frame : t = { s with obj := t.obj, sv := t.sv, fab := t.fab }
  others : ∀ m, m ≠ c → t.svCh m = s.svCh m
  arrived : (t.svCh c).arrived = (s.svCh c).arrived
  value : (t.svCh c).value = (s.svCh c).value
  objects : s.ObjectsBut t own
  told : ∀ o ∈ s.fab.inFlight, o ∈ t.fab.inFlight

namespace Profiles
variable {c : Nat} {own : List Nat} {s t : State}

theorem refl (c : Nat) (own : List Nat) (s : State) : Profiles c own s s :=
  ⟨rfl, fun _ _ => rfl, rfl, rfl, objectsBut_refl s own, fun _ => id⟩

theorem setSv (h : Profiles c own s t) {x : SvChannel} (arrived : x.arrived = (t.svCh c).arrived := by rfl)
    (value : x.value = (t.svCh c).value := by rfl) : Profiles c own s (t.setSv c x) where
  frame := congrArg (fun u : State => { u with sv := (t.setSv c x).sv }) h.frame
  others m other := (svCh_setSv_other t x other.symm).trans (h.others m other)
  arrived := by rw [svCh_setSv_same, arrived, h.arrived]
  value := by rw [svCh_setSv_same, value, h.value]
  objects := h.objects
  told := h.told

theorem setOb (h : Profiles c own s t) {k : Nat} (mine : k ∈ own) (v : Nat) : Profiles c own s (t.setOb k v) :=
  { h with
    frame := congrArg (fun u : State => { u with obj := (t.setOb k v).obj }) h.frame
    objects := objectsBut_setOb h.objects mine v }

theorem svPost (h : Profiles c own s t) (k v : Nat) : Profiles c own s (t.svPost c k v) :=
  { h with
    frame := congrArg (fun u : State => { u with fab := (t.svPost c k v).fab }) h.frame
    told := fun o mem => mem_inFlight_post (h.told o mem) _ _ }

theorem cf (h : Profiles c own s t) (k : Nat) : t.cf k = s.cf k := cf_of_cfg (congrArg State.cfg h.frame) k
theorem now (h : Profiles c own s t) : t.now = s.now :=
  (congrArg State.now h.frame).trans rfl

theorem ite {p : Prop} [Decidable p] {u : State} (h : Profiles c own s t) (k : Profiles c own s u) :
    Profiles c own s (if p then t else u) := by
  split
  · exact h
  · exact k

theorem svPostIf (h : Profiles c own s t) (b : Bool) (k v : Nat) : Profiles c own s (t.svPostIf b c k v) := (h.svPost k v).ite h

theorem svMoved_interrupted (h : Profiles c own s t) (result : Obj.svMoveResult c ∈ own) :
    Profiles c own s (t.svMoved c 3 0) :=
  h.setSv.setOb result 3

theorem svInterrupt (h : Profiles c own s t) (result : Obj.svMoveResult c ∈ own) : Profiles c own s (t.svInterrupt c) :=
  (h.svMoved_interrupted result).ite h

section
variable (status : Obj.svStatus c ∈ own)
include status

theorem setSvBit (h : Profiles c own s t) (i : Nat) (b : Bool) : Profiles c own s (t.setSvBit c i b) := h.setOb status _

theorem svDecay (h : Profiles c own s t) : Profiles c own s (t.svDecay c) :=
  svDecay_induct h fun a _ => (h.setSvBit status 11 a).svPostIf _ 9 2

theorem svSetpoint (h : Profiles c own s t) (v : Nat) : Profiles c own s (t.svSetpoint c v) := by
  unfold State.svSetpoint
  extract_lets ch moved
  have moved' : Profiles c own s moved := h.setSv
  exact h.setSv.ite ((moved'.svDecay status).ite moved')

theorem svMoved (h : Profiles c own s t) (result : Obj.svMoveResult c ∈ own) (time : Obj.svMoveTime c ∈ own) (r x : Nat) :
    Profiles c own s (t.svMoved c r x) := by
  unfold State.svMoved
  extract_lets ch recorded shown
  have recorded' : Profiles c own s recorded := h.setSv
  have shown' : Profiles c own s shown := recorded'.setOb result r
  exact (((shown'.setSvBit status 2 true).setOb time x).svPost 6 _).ite
    (shown'.ite ((shown'.setSvBit status 2 false).svPostIf _ 7 r))

variable (phase : Obj.svPhase c ∈ own)
include phase

omit status in
theorem svEnter (h : Profiles c own s t) (ph : Nat) : Profiles c own s (t.svEnter c ph) := (h.setOb phase ph).setSv

theorem svHold (h : Profiles c own s t) : Profiles c own s (t.svHold c) :=
  (((h.svEnter phase 4).svPost 10 _).setSv).svDecay status

theorem svPeak (h : Profiles c own s t) : Profiles c own s (t.svPeak c) :=
  ((h.svEnter phase 3).setSv.svHold status phase).ite (h.svEnter phase 3).setSv

theorem svBoostReached (h : Profiles c own s t) (time : Obj.svBoostTime c ∈ own) : Profiles c own s (t.svBoostReached c) :=
  (((((h.setOb time _).setSv.setSvBit status 5 false).setSvBit status 6 _).setSvBit status 10 false).svPostIf _ 11 _).svPeak
    status phase

theorem svBoostEnd (h : Profiles c own s t) (time : Obj.svBoostTime c ∈ own) (i : Nat) :
    Profiles c own s (t.svBoostEnd c i) := by
  unfold State.svBoostEnd
  have ended := (h.setOb time (saturate ((t.now - (t.svCh c).boostAt) / 100) 65535)).setSv
    (x := { t.svCh c with noRise := !decide (t.cf (Obj.svOpenI c) ≤ i) })
  exact (h.svBoostReached status phase time).ite ((((ended.setSvBit status 10 true).svPost 5 i).ite ended).svPeak status phase)

theorem svCancel (h : Profiles c own s t) : Profiles c own s (t.svCancel c) := by
  unfold State.svCancel
  have free := h.setSv (x := { t.svCh c with retryAt := none }) |>.setSvBit status 14 false
  exact free.ite ((free.setSv.setOb phase 0).ite free.setSv)

variable (result : Obj.svMoveResult c ∈ own)
include result

theorem svStagesOff (h : Profiles c own s t) (i : Nat) : Profiles c own s (t.svStagesOff c i) := by
  unfold State.svStagesOff
  have off := (((h.svInterrupt result).setSvBit status 0 false).setSvBit status 3 false)
  exact (off.setSv.svEnter phase 5).ite off.setSv

theorem svOff (h : Profiles c own s t) (i : Nat) : Profiles c own s (t.svOff c i) := by
  unfold State.svOff
  have free := h.svCancel status phase
  exact ((free.svDecay status).svStagesOff status phase result i).ite free

theorem svStart (h : Profiles c own s t) (range : Obj.svRange c ∈ own) (time : Obj.svBoostTime c ∈ own) (i : Nat) :
    Profiles c own s (t.svStart c i) := by
  unfold State.svStart
  extract_lets peak want low clean was cut shown entered before recorded driven told
  have cut' : Profiles c own s cut := h.svInterrupt result
  have shown' : Profiles c own s shown := (cut'.setOb result 3).ite cut'
  have recorded' : Profiles c own s recorded := (shown'.svEnter phase 2).setSv
  have driven' : Profiles c own s driven := ((recorded'.setSvBit status 0 true).setSvBit status 3 false).setOb range _
  have told' : Profiles c own s told := driven'.svPostIf _ 9 3
  exact (told'.svBoostReached status phase time).ite told'

end
end Profiles

end State
end Sys2Proof.Machine

/-!
How a solenoid's profile runs (R186, R189, R190): a command taken, boost, peak hold, hold and fast off.
-/

namespace Sys2Proof.Machine
namespace State

/-! ## Peak hold and hold (R186) -/

@[simp] theorem svCh_svHold (s : State) (c : Nat) : (s.svHold c).svCh c =
    { s.svCh c with phaseAt := s.now, setpoint := (s.svCh c).value, steadySince := s.now } := by
  simp [svHold]
  rfl

@[simp] theorem svPh_svHold (s : State) (c : Nat) : (s.svHold c).svPh c = 4 := by simp [svHold]

@[simp] theorem svBit_svHold (s : State) (c : Nat) {i : Nat} (h : 11 ≠ i) : (s.svHold c).svBit c i = s.svBit c i := by
  simp [svHold, h]

theorem raised_svHold (s : State) (c : Nat) :
    (s.svHold c).Raised s.now (192 + 12 * c + 10) (s.ob (Obj.svBoostTime c)) :=
  ((Profiles.refl c [Obj.svStatus c] _).setSv.svDecay (by simp)).told _ (raised_svPost (s.svEnter c 4) c 10 _)

theorem noRise_svPeak (s : State) (c : Nat) : ((s.svPeak c).svCh c).noRise = (s.svCh c).noRise := by
  unfold svPeak
  dsimp only
  split <;> simp

theorem svPh_svPeak (s : State) (c : Nat) : (s.svPeak c).svPh c = if s.cf (Obj.svPeakTime c) = 0 then 4 else 3 := by
  unfold svPeak
  dsimp only
  split
  · next skipped => exact (svPh_svHold _ c).trans (if_pos skipped).symm
  · next held => exact (svPh_svEnter s c 3).trans (if_neg held).symm

theorem svBit_svPeak (s : State) (c : Nat) {i : Nat} (h : 11 ≠ i) : (s.svPeak c).svBit c i = s.svBit c i := by
  unfold svPeak
  dsimp only
  split <;> simp [h]

theorem profiles_svPeak (s : State) (c : Nat) : Profiles c [Obj.svPhase c, Obj.svStatus c] s (s.svPeak c) :=
  (Profiles.refl c _ s).svPeak (by simp) (by simp)

/-! ## The end of boost (R186, R195, R199) -/

/-- Boost has ended in `t` after `s`: peak hold or hold follows, and BOOST_TIME shows how long it ran. -/
structure BoostEnds (c : Nat) (s t : State) : Prop where
  phase : t.svPh c = if s.cf (Obj.svPeakTime c) = 0 then 4 else 3
  time : t.ob (Obj.svBoostTime c) = saturate ((s.now - (s.svCh c).boostAt) / 100) 65535

/-- What leaves the configuration and shows BOOST_TIME, and then enters peak hold, ends boost. -/
theorem boostEnds_svPeak {c : Nat} {s u : State} (cf : u.cf (Obj.svPeakTime c) = s.cf (Obj.svPeakTime c))
    (time : u.ob (Obj.svBoostTime c) = saturate ((s.now - (s.svCh c).boostAt) / 100) 65535) : BoostEnds c s (u.svPeak c) where
  phase := by rw [svPh_svPeak, cf]
  time := ((profiles_svPeak u c).objects _ (svField_not_mem c (by decide))).trans time

/-- Boost that reaches the peak clears SHORT, BOOST_TIMEOUT and the open load of the on state, and tells of a recovery. -/
theorem svBoostReached_ends (s : State) (c : Nat) :
    BoostEnds c s (s.svBoostReached c) ∧
      (s.svBoostReached c).svBit c 10 = false ∧ (s.svBoostReached c).svBit c 5 = false ∧
      (s.svBoostReached c).svBit c 6 = (s.svCh c).openOff ∧
      ((s.svCh c).recover ≠ 0 → (s.svBoostReached c).Raised s.now (192 + 12 * c + 11) (s.svCh c).recover) := by
  unfold svBoostReached
  extract_lets ch timed why recorded shown
  have time : shown.ob (Obj.svBoostTime c) = saturate ((s.now - (s.svCh c).boostAt) / 100) 65535 :=
    ((ob_setSvBit _ c 10 false (by decide)).trans (ob_setSvBit _ c 6 _ (by decide))).trans
      ((ob_setSvBit recorded c 5 false (by decide)).trans (ob_setOb_same ..))
  have opened : (recorded.svCh c).openOn = false ∧ (recorded.svCh c).openOff = (s.svCh c).openOff := by
    simp [recorded, ch]
  refine ⟨boostEnds_svPeak (cf_svPostIf ..) ((ob_svPostIf ..).trans time), ?_, ?_, ?_, fun told => ?_⟩
  · simp [svBit_svPeak, shown]
  · simp [svBit_svPeak, shown, svShowOpen]
  · simp [svBit_svPeak, shown, svShowOpen, opened]
  · exact (profiles_svPeak _ c).told _ (raised_svPostIf (s := shown) (by simpa [why, ch] using told) c 11 why)

/-- Boost that BOOST_MAX ends shows BOOST_TIMEOUT where the current has risen, else that it has not. -/
theorem svBoostEnd_timeout {s : State} {c i : Nat} (below : i < s.cf (Obj.svPeakCurrent c)) :
    BoostEnds c s (s.svBoostEnd c i) ∧
      (s.cf (Obj.svOpenI c) ≤ i →
        (s.svBoostEnd c i).svBit c 10 = true ∧ (s.svBoostEnd c i).Raised s.now (192 + 12 * c + 5) i) ∧
      (i < s.cf (Obj.svOpenI c) → ((s.svBoostEnd c i).svCh c).noRise = true) := by
  unfold svBoostEnd
  rw [if_neg (Nat.not_le_of_lt below)]
  extract_lets ch timed risen recorded told
  have time : recorded.ob (Obj.svBoostTime c) = saturate ((s.now - (s.svCh c).boostAt) / 100) 65535 := ob_setOb_same ..
  by_cases open_ : s.cf (Obj.svOpenI c) ≤ i
  · have shown : told = (recorded.setSvBit c 10 true).svPost c 5 i := if_pos (decide_eq_true open_)
    rw [shown]
    refine ⟨boostEnds_svPeak rfl ((ob_setSvBit recorded c 10 true (by decide)).trans time), fun _ => ⟨?_, ?_⟩,
      fun low => absurd open_ (Nat.not_le_of_lt low)⟩
    · simp [svBit_svPeak]
    · exact (profiles_svPeak _ c).told _ (raised_svPost (recorded.setSvBit c 10 true) c 5 i)
  · have shown : told = recorded := if_neg (Bool.not_eq_true _ ▸ decide_eq_false open_)
    rw [shown]
    refine ⟨boostEnds_svPeak rfl time, fun high => absurd high open_, fun _ => ?_⟩
    have flat : risen = false := decide_eq_false open_
    simp [noRise_svPeak, recorded, flat]

theorem svBoostEnd_ends (s : State) (c i : Nat) : BoostEnds c s (s.svBoostEnd c i) := by
  by_cases reached : s.cf (Obj.svPeakCurrent c) ≤ i
  · rw [svBoostEnd, if_pos reached]
    exact (svBoostReached_ends s c).1
  · exact (svBoostEnd_timeout (Nat.lt_of_not_le reached)).1

/-! ## Fast off (R186, R189) -/

@[simp] theorem svPh_svMoved_interrupted (s : State) (c : Nat) : (s.svMoved c 3 0).svPh c = s.svPh c :=
  svPh_setOb (s.setSv c _) c 3 (by decide)

@[simp] theorem svPh_svInterrupt (s : State) (c : Nat) : (s.svInterrupt c).svPh c = s.svPh c := by
  unfold svInterrupt
  dsimp only
  split
  · exact svPh_svMoved_interrupted s c
  · rfl

theorem svPh_svCancel {s : State} {c : Nat} (queued : s.svPh c ≠ 1) (waits : s.svPh c ≠ 6) :
    (s.svCancel c).svPh c = s.svPh c := by
  unfold svCancel
  dsimp only
  split
  · simp
  · rw [if_neg (by simp [queued, waits])]
    simp

/-- Channel `c` has gone into fast off. -/
structure GoesOff (c : Nat) (s t : State) : Prop where
  phase : t.svPh c = 5
  off : t.svBit c 0 = false
  setpoint : (t.svCh c).setpoint = 0
  since : (t.svCh c).phaseAt = s.now

theorem svStagesOff_goesOff {s : State} {c : Nat} (driven : s.svPh c = 2 ∨ s.svPh c = 3 ∨ s.svPh c = 4) (i : Nat) :
    GoesOff c s (s.svStagesOff c i) := by
  unfold svStagesOff
  extract_lets ph cut k shown before recorded
  have now : recorded.now = s.now := ((Profiles.refl c [Obj.svMoveResult c] s).svInterrupt (by simp)).now
  rw [if_pos (by simpa [ph, or_assoc] using driven)]
  exact ⟨by simp, by simp [recorded, shown], by simp [recorded], by simp [now]⟩

theorem svOff_goesOff {s : State} {c : Nat} (driven : s.svPh c = 2 ∨ s.svPh c = 3 ∨ s.svPh c = 4) (i : Nat) :
    GoesOff c s (s.svOff c i) := by
  have freed := (Profiles.refl c [Obj.svStatus c, Obj.svPhase c] s).svCancel (by simp) (by simp)
  have phase : (s.svCancel c).svPh c = s.svPh c := svPh_svCancel (by omega) (by omega)
  have drives : (s.svCancel c).svDriven c = true := by simpa [svDriven, phase, or_assoc] using driven
  obtain ⟨five, off, setpoint, since⟩ :=
    svStagesOff_goesOff (s := (s.svCancel c).svDecay c) (c := c) (by rwa [svPh_svDecay, phase]) i
  unfold svOff
  dsimp only
  rw [if_pos drives]
  exact ⟨five, off, setpoint, since.trans (freed.svDecay (by simp)).now⟩

/-! ## A command taken (R189, R190) -/

/-- Boost that starts below the peak: the channel is on, in the range that its mode starts in. -/
theorem svStart_below {s : State} {c i : Nat} (below : i < s.cf (Obj.svPeakCurrent c)) :
    (s.svStart c i).svPh c = 2 ∧ (s.svStart c i).svBit c 0 = true ∧ ((s.svStart c i).svCh c).boostAt = s.now ∧
      (s.svStart c i).ob (Obj.svRange c) = if s.cf (Obj.svRangeMode c) = 2 then 0 else 1 := by
  unfold svStart
  extract_lets peak want low clean was cut shown entered before recorded driven told
  have cut' : Profiles c [Obj.svMoveResult c] s cut := (Profiles.refl c _ s).svInterrupt (by simp)
  have shown' : Profiles c [Obj.svMoveResult c] s shown := (cut'.setOb (by simp) 3).ite cut'
  have cf : recorded.cf (Obj.svRangeMode c) = s.cf (Obj.svRangeMode c) := shown'.cf _
  have now : entered.now = s.now := shown'.now
  have phase : driven.svPh c = 2 :=
    ((svPh_setOb _ c _ (by decide)).trans (svPh_setSvBit _ c 3 false)).trans ((svPh_setSvBit recorded c 0 true).trans
      (svPh_svEnter shown c 2))
  have on : driven.svBit c 0 = true := (svBit_setOb _ c _ 0 (by decide)).trans (by simp)
  have range : driven.ob (Obj.svRange c) = if s.cf (Obj.svRangeMode c) = 2 then 0 else 1 := cf ▸ ob_setOb_same ..
  rw [if_neg (Nat.not_le_of_lt below)]
  exact ⟨(svPh_svPostIf ..).trans phase, (svBit_svPostIf ..).trans on, by simp [told, driven, recorded, now],
    (ob_svPostIf ..).trans range⟩

/-- The delivered value taken for the one in force. -/
def svTaken (s : State) (c v : Nat) : State := s.setSv c { s.svCh c with arrived := none, value := v }

theorem svTaken_leaves (s : State) (c v : Nat) :
    ((s.svTaken c v).svCh c).arrived = none ∧ ((s.svTaken c v).svCh c).value = v ∧
      ∀ m, m ≠ c → (s.svTaken c v).svCh m = s.svCh m :=
  ⟨congrArg SvChannel.arrived (svCh_setSv_same ..), congrArg SvChannel.value (svCh_setSv_same ..),
    fun _ other => svCh_setSv_other s _ other.symm⟩

theorem svAct_zero (s : State) (c i : Nat) : s.svAct c 0 i = (s.svTaken c 0).svOff c i := rfl

theorem svAct_heldOff {s : State} {c v : Nat} (on : v ≠ 0) (off : (s.svCh c).off = true) (i : Nat) :
    s.svAct c v i = s.svTaken c v := by
  unfold svAct
  dsimp only
  rw [if_neg on, if_pos off]
  rfl

theorem svAct_rest {s : State} {c v : Nat} (on : v ≠ 0) (free : (s.svCh c).off = false) (rest : s.svPh c = 0) (i : Nat) :
    s.svAct c v i = (s.svTaken c v).svStart c i := by
  have starts : s.svRestarts c v = true := by simp [svRestarts, svDriven, on, free, rest]
  unfold svAct
  dsimp only
  rw [if_neg on, if_neg (by simp [free]), if_pos starts]
  rfl

/-- The objects of a channel that a command moves. -/
def commandObjects (c : Nat) : List Nat :=
  [Obj.svPhase c, Obj.svStatus c, Obj.svRange c, Obj.svBoostTime c, Obj.svMoveResult c]

theorem profiles_svAct (s : State) (c v i : Nat) : Profiles c (commandObjects c) (s.svTaken c v) (s.svAct c v i) := by
  have taken := Profiles.refl c (commandObjects c) (s.svTaken c v)
  have phase : Obj.svPhase c ∈ commandObjects c := by simp [commandObjects]
  have status : Obj.svStatus c ∈ commandObjects c := by simp [commandObjects]
  have result : Obj.svMoveResult c ∈ commandObjects c := by simp [commandObjects]
  exact (taken.svOff status phase result i).ite (taken.ite
    ((taken.svStart status phase result (by simp [commandObjects]) (by simp [commandObjects]) i).ite
      (taken.ite (taken.svSetpoint status v))))

/-! ## The commands -/

theorem exec_svCommand {c : Fin 8} {s : State} (used : s.cf (Obj.svMode c) ≠ 0) {v : Nat}
    (arrived : (s.svCh c).arrived = some v) (safe : s.hoist.safe = false)
    (free : s.svRestarts c v = false ∨ s.svBit c 3 = false) (i : Nat) :
    exec (.svCommand c i) s = .next (s.svAct c v i) := by
  have ready : (decide (s.cf (Obj.svMode c) ≠ 0) && !s.hoist.safe && !(s.svRestarts c v && s.svBit c 3)) = true := by
    obtain free | free := free <;> simp [used, safe, free]
  show execSvCommand c i s = _
  unfold execSvCommand
  rw [arrived]
  exact whenever_of ready _ _

theorem exec_svBoostEnd {c : Fin 8} {s : State} (boost : s.svPh c = 2) {i : Nat}
    (ends : s.cf (Obj.svPeakCurrent c) ≤ i ∨ s.passed (s.svCh c).boostAt (us (s.cf (Obj.svBoostMax c))) = true) :
    exec (.svBoostEnd c i) s = .next (s.svBoostEnd c i) :=
  whenever_of (by simp [boost, ends]) _ _

theorem exec_svPeakHoldEnd {c : Fin 8} {s : State} (peak : s.svPh c = 3)
    (lasted : s.passed (s.svCh c).phaseAt (us (s.cf (Obj.svPeakTime c))) = true) :
    exec (.svPeakHoldEnd c) s = .next (s.svHold c) :=
  whenever_of (by simp [peak, lasted]) _ _

/-- A channel at rest, or where a request of it waits, queued, with the current that fast off ends at. -/
def svRests (s : State) (c : Nat) (queued : Bool) (i : Nat) : State :=
  (s.svEnter c (if queued then 1 else 0)).setOb (Obj.svIMeas c) i

theorem exec_svFastOffEnd {c : Fin 8} {s : State} (off : s.svPh c = 5) {i : Nat} (low : i < 20) :
    exec (.svFastOffEnd c i) s = .next (s.svRests c (s.waits (s.requestFor (svSig c) 0 0 0)) i) :=
  whenever_of (by simp [off, low]) _ _

theorem svRests_leaves (s : State) (c : Nat) (queued : Bool) (i : Nat) :
    (s.svRests c queued i).svPh c = (if queued then 1 else 0) ∧
      s.ObjectsBut (s.svRests c queued i) [Obj.svPhase c, Obj.svIMeas c] :=
  ⟨(svPh_setOb _ c i (by decide)).trans (svPh_svEnter ..),
    (((Profiles.refl c _ s).svEnter (by simp) _).setOb (by simp) i).objects⟩

end State
end Sys2Proof.Machine

/-!
What is observed of a solenoid (R187, R192–R196): regulation, range changes and movement.
-/

namespace Sys2Proof.Machine
namespace State

/-! ## Regulation (R187) -/

/-- The mean current of hold, shown with the side of the band it stands on. -/
def regShown (s : State) (c i : Nat) : State :=
  ((s.setSvBit c 1 (!s.svInBand c i)).setOb (Obj.svIMeas c) (saturate i 65535)).svPostIf (!s.svInBand c i && !s.svBit c 1) c 9 1

theorem exec_svRegFault {c : Fin 8} {s : State} (hold : s.svPh c = 4) (i : Nat) :
    exec (.svRegFault c i) s = .next (s.regShown c i) :=
  whenever_of (decide_eq_true hold) _ _

theorem profiles_regShown (s : State) (c i : Nat) : Profiles c [Obj.svStatus c, Obj.svIMeas c] s (s.regShown c i) :=
  (((Profiles.refl c _ s).setSvBit (by simp) 1 _).setOb (by simp) _).svPostIf _ 9 1

theorem svBit_regShown (s : State) (c i : Nat) : (s.regShown c i).svBit c 1 = !s.svInBand c i :=
  (svBit_svPostIf ..).trans ((svBit_setOb _ c _ 1 (by decide)).trans (svBit_setSvBit_same ..))

theorem iMeas_regShown (s : State) (c i : Nat) : (s.regShown c i).ob (Obj.svIMeas c) = saturate i 65535 :=
  (ob_svPostIf ..).trans (ob_setOb_same ..)

theorem sv_regShown (s : State) (c i : Nat) : (s.regShown c i).sv = s.sv := by
  unfold regShown svPostIf
  split <;> rfl

theorem raised_regShown {s : State} {c i : Nat} (out : s.svInBand c i = false) (untold : s.svBit c 1 = false) :
    (s.regShown c i).Raised s.now (192 + 12 * c + 9) 1 :=
  raised_svPostIf (by simp [out, untold]) c 9 1

/-! ## Range changes (R192, R193) -/

section
variable {c : Fin 8} {s : State} (hold : s.svPh c = 4) (auto : s.cf (Obj.svRangeMode c) = 0) (free : s.svBit c 3 = false)
  (single : s.svPaired c = false)
include hold auto free single

theorem exec_svRangeChangeStart_toFine (coarse : s.ob (Obj.svRange c) = 1) (low : (s.svCh c).setpoint ≤ 1000) {i : Nat}
    (regulated : s.svInBand c i = true) (steady : s.passed (s.svCh c).steadySince (s.cf (Obj.svChopPeriod c)) = true)
    (fits : i ≤ 1250) : exec (.svRangeChangeStart c i) s = .next (s.setSvBit c 3 true) :=
  whenever_of (by simp [svTwo, hold, auto, free, single, coarse, low, regulated, steady, fits]; omega) _ _

theorem exec_svRangeChangeStart_toCoarse (fine : s.ob (Obj.svRange c) = 0)
    (asked : 1100 < (s.svCh c).setpoint ∨ (s.svCh c).after.isSome = true) (within : (s.svCh c).setpoint ≤ 1250) {i : Nat}
    (fits : i ≤ 1250) : exec (.svRangeChangeStart c i) s = .next (s.setSvBit c 3 true) :=
  whenever_of (by simp [svTwo, hold, auto, free, single, fine, within, fits, asked.symm]) _ _

omit hold auto free in
theorem exec_svRangeChangeStart_beyond {i : Nat} (beyond : 1250 < i) : exec (.svRangeChangeStart c i) s = .next s :=
  whenever_not (by simp [svTwo, single, beyond]) _ _

end

/-- The hand-over to the other range. -/
def rangeTurned (s : State) (c : Nat) : State := (s.setSvBit c 3 false).setOb (Obj.svRange c) (1 - s.ob (Obj.svRange c))

theorem rangeTurned_leaves (s : State) (c : Nat) :
    (s.rangeTurned c).svBit c 3 = false ∧ (s.rangeTurned c).ob (Obj.svRange c) = 1 - s.ob (Obj.svRange c) ∧
      s.ObjectsBut (s.rangeTurned c) [Obj.svStatus c, Obj.svRange c] :=
  ⟨(svBit_setOb _ c _ 3 (by decide)).trans (svBit_setSvBit_same ..), ob_setOb_same ..,
    (((Profiles.refl c _ s).setSvBit (by simp) 3 false).setOb (by simp) _).objects⟩

section
variable {c : Fin 8} {s : State} (changing : s.svBit c 3 = true)
include changing

theorem exec_svRangeChangeEnd_of_none (free : (s.svCh c).after = none) :
    exec (.svRangeChangeEnd c) s = .next (s.rangeTurned c) := by
  show execSvRangeChangeEnd c s = _
  unfold execSvRangeChangeEnd
  dsimp only
  rw [free]
  exact whenever_of changing _ _

/-- The setpoint that waited for the coarse range is taken. -/
theorem exec_svRangeChangeEnd_of_some {v : Nat} (waiting : (s.svCh c).after = some v) :
    exec (.svRangeChangeEnd c) s =
      .next ((s.rangeTurned c).setSv c { s.svCh c with setpoint := v, after := none, steadySince := s.now }) := by
  show execSvRangeChangeEnd c s = _
  unfold execSvRangeChangeEnd
  dsimp only
  rw [waiting]
  exact whenever_of changing _ _

end

/-! ## Movement (R194–R196) -/

theorem svCh_svMoved (s : State) (c r x : Nat) : (s.svMoved c r x).svCh c =
    { s.svCh c with
      windowK := none, windowD := false, peakFirst := false
      misses := if r = 1 then 0 else if r = 3 then (s.svCh c).misses else (s.svCh c).misses + 1 } := by
  unfold svMoved
  dsimp only
  split
  · simp
  · split <;> simp

theorem result_svMoved (s : State) (c r x : Nat) : (s.svMoved c r x).ob (Obj.svMoveResult c) = r := by
  unfold svMoved
  extract_lets ch recorded shown
  have result : shown.ob (Obj.svMoveResult c) = r := ob_setOb_same ..
  have flagged (b : Bool) : (shown.setSvBit c 2 b).ob (Obj.svMoveResult c) = r :=
    (ob_setSvBit shown c 2 b (by decide)).trans result
  split
  · exact (ob_setOb_other _ x (svField_ne c c (by decide))).trans (flagged true)
  · split
    · exact result
    · exact (ob_svPostIf ..).trans (flagged false)

/-- A movement seen shows its time and tells of it. -/
theorem svMoved_seen (s : State) (c x : Nat) :
    (s.svMoved c 1 x).ob (Obj.svMoveTime c) = x ∧ (s.svMoved c 1 x).svBit c 2 = true ∧
      (s.svMoved c 1 x).Raised s.now (192 + 12 * c + 6) (s.cf (Obj.svMoveClass c) * 2 ^ 16 + x) := by
  unfold svMoved
  extract_lets ch recorded shown
  rw [if_pos rfl]
  exact ⟨ob_setOb_same (shown.setSvBit c 2 true) (Obj.svMoveTime c) x,
    (svBit_setOb (shown.setSvBit c 2 true) c x 2 (by decide)).trans (svBit_setSvBit_same ..),
    raised_svPost ((shown.setSvBit c 2 true).setOb (Obj.svMoveTime c) x) c 6 _⟩

/-- A movement missed clears MOVE_OK, and is told of at the limit. -/
theorem svMoved_missed (s : State) (c x : Nat) :
    (s.svMoved c 2 x).svBit c 2 = false ∧
      (s.cf (Obj.svMoveMissLimit c) ≤ (s.svCh c).misses + 1 → (s.svMoved c 2 x).Raised s.now (192 + 12 * c + 7) 2) :=
  ⟨(svBit_svPostIf ..).trans (svBit_setSvBit_same ..), fun spent => raised_svPostIf (decide_eq_true spent) c 7 2⟩

/-- The result of a window's samples, with the time where they show the movement within the window. -/
def moveEvaluated (s : State) (c : Nat) (seen : Option Nat) : State :=
  if seen.any (fun t => decide (s.cf (Obj.svMoveWinStart c) ≤ t) && decide (t ≤ s.cf (Obj.svMoveWinEnd c))) then
    s.svMoved c 1 (saturate (seen.getD 0) 65535)
  else if (s.svCh c).windowD && (s.svCh c).peakFirst && seen.isNone then s.svMoved c 4 0
  else s.svMoved c 2 0

/-- A window is due: class K with the kink seen or its end passed, class D with the dip seen or boost ended. -/
def MoveDue (s : State) (c : Nat) (seen : Option Nat) : Prop :=
  (∃ d, (s.svCh c).windowK = some d ∧ (seen.isSome ∨ s.passed d (us (s.cf (Obj.svMoveWinEnd c))) = true)) ∨
    ((s.svCh c).windowD = true ∧ (seen.isSome ∨ s.svPh c ≠ 2))

theorem exec_svMoveEvaluation {c : Fin 8} {s : State} {t0 : Nat} {samples : List Int}
    (due : s.MoveDue c (s.svSeen c t0 samples)) :
    exec (.svMoveEvaluation c ⟨t0, samples⟩) s = .next (s.moveEvaluated c (s.svSeen c t0 samples)) := by
  refine (whenever_of ?_ _ _).trans ?_
  · obtain ⟨d, opened, ends⟩ | ⟨running, ends⟩ := due
    · simp [opened, ends]
    · simp [running, ends]
  · unfold moveEvaluated
    cases s.svSeen c t0 samples <;> rfl

theorem moveEvaluated_within {s : State} {c u : Nat} (after : s.cf (Obj.svMoveWinStart c) ≤ u)
    (before : u ≤ s.cf (Obj.svMoveWinEnd c)) (fits : u ≤ 65535) : s.moveEvaluated c (some u) = s.svMoved c 1 u := by
  simp [moveEvaluated, after, before, saturate_of_le fits]

theorem moveEvaluated_outside {s : State} {c u : Nat}
    (out : u < s.cf (Obj.svMoveWinStart c) ∨ s.cf (Obj.svMoveWinEnd c) < u) :
    s.moveEvaluated c (some u) = s.svMoved c 2 0 := by
  have misses : ¬(s.cf (Obj.svMoveWinStart c) ≤ u ∧ u ≤ s.cf (Obj.svMoveWinEnd c)) := by omega
  simp [moveEvaluated, misses]

theorem moveEvaluated_peakFirst {s : State} {c : Nat} (running : (s.svCh c).windowD = true)
    (peakFirst : (s.svCh c).peakFirst = true) : s.moveEvaluated c none = s.svMoved c 4 0 := by
  simp [moveEvaluated, running, peakFirst]

theorem moveEvaluated_missed {s : State} {c : Nat} (plain : (s.svCh c).windowD = false ∨ (s.svCh c).peakFirst = false) :
    s.moveEvaluated c none = s.svMoved c 2 0 := by
  obtain plain | plain := plain <;> simp [moveEvaluated, plain]

/-- An evaluation is the end of a movement with some result and time. -/
theorem moveEvaluated_eq (s : State) (c : Nat) (seen : Option Nat) : ∃ r x, s.moveEvaluated c seen = s.svMoved c r x := by
  unfold moveEvaluated
  split
  · exact ⟨_, _, rfl⟩
  · split <;> exact ⟨_, _, rfl⟩

theorem profiles_moveEvaluated (s : State) (c : Nat) (seen : Option Nat) :
    Profiles c [Obj.svStatus c, Obj.svMoveResult c, Obj.svMoveTime c] s (s.moveEvaluated c seen) := by
  obtain ⟨r, x, e⟩ := s.moveEvaluated_eq c seen
  exact e ▸ (Profiles.refl c _ s).svMoved (by simp) (by simp) (by simp) r x

/-- Every evaluation closes its window. -/
theorem moveEvaluated_closes (s : State) (c : Nat) (seen : Option Nat) :
    ((s.moveEvaluated c seen).svCh c).windowK = none ∧ ((s.moveEvaluated c seen).svCh c).windowD = false := by
  obtain ⟨r, x, e⟩ := s.moveEvaluated_eq c seen
  rw [e, svCh_svMoved]
  exact ⟨rfl, rfl⟩

end State

open State

/-- Settles O34: each of the eight commands by what it leaves of the channel's profile and of what is observed of it. -/
theorem solenoidProfilesRunAndAreObserved : Obligations.SolenoidProfilesRunAndAreObserved := by
  unfold Obligations.SolenoidProfilesRunAndAreObserved
  refine ⟨fun c s used => ⟨fun i v arrived safe free => ?_, fun i boost ends => ?_, fun peak lasted => ?_,
    fun i off low => ?_⟩, fun c s => ⟨fun i hold => ?_, fun i hold auto free single => ⟨?_, ?_, ?_⟩, fun changing => ?_,
    fun t0 samples => ?_⟩⟩
  · have acts := profiles_svAct s c v i
    obtain ⟨taken, value, others⟩ := s.svTaken_leaves c v
    refine ⟨_, exec_svCommand used arrived safe free i, acts.frame, acts.arrived.trans taken, acts.value.trans value,
      fun m other => (acts.others m other).trans (others m other), acts.objects, ?_, ?_, ?_⟩
    · rintro rfl driven
      obtain ⟨phase, gone, setpoint, since⟩ := svOff_goesOff (s := s.svTaken c 0) driven i
      exact svAct_zero s c i ▸ ⟨phase, gone, setpoint, since⟩
    · intro on ready rest below
      exact svAct_rest on ready rest i ▸ svStart_below (s := s.svTaken c v) below
    · intro on heldOff
      rw [svAct_heldOff on heldOff]
      rfl
  · have ended := (Profiles.refl c [Obj.svPhase c, Obj.svStatus c, Obj.svBoostTime c] s).svBoostEnd (by simp) (by simp)
      (by simp) i
    obtain ⟨phase, time⟩ := svBoostEnd_ends s c i
    refine ⟨_, exec_svBoostEnd boost ends, ended.frame, phase, time, fun reached => ?_, fun below => ?_, fun below => ?_⟩
    · obtain ⟨-, leaves⟩ := svBoostReached_ends s c
      rwa [svBoostEnd, if_pos reached]
    · obtain ⟨-, risen, -⟩ := svBoostEnd_timeout below
      exact risen
    · obtain ⟨-, -, flat⟩ := svBoostEnd_timeout below
      exact flat
  · have held := (Profiles.refl c [Obj.svPhase c, Obj.svStatus c] s).svHold (by simp) (by simp)
    exact ⟨_, exec_svPeakHoldEnd peak lasted, held.frame, svPh_svHold s c,
      congrArg SvChannel.setpoint (svCh_svHold s c), raised_svHold s c, held.objects⟩
  · obtain ⟨phase, objects⟩ := s.svRests_leaves c (s.waits (s.requestFor (svSig c) 0 0 0)) i
    refine ⟨_, exec_svFastOffEnd off low, rfl, ?_, fun queue _ => ?_, ob_setOb_same .., objects⟩
    · rw [phase]
      cases s.waits (s.requestFor (svSig c) 0 0 0) <;> simp
    · have unqueued : s.waits (s.requestFor (svSig c) 0 0 0) = false := by simp [waits, queue]
      rw [phase, unqueued]
      rfl
  · have shown := profiles_regShown s c i
    exact ⟨_, exec_svRegFault hold i, svBit_regShown s c i, iMeas_regShown s c i, raised_regShown,
      shown.frame.trans (sv_regShown s c i ▸ rfl), shown.objects⟩
  · exact fun coarse low regulated steady fits =>
      exec_svRangeChangeStart_toFine hold auto free single coarse low regulated steady fits
  · exact fun fine asked within fits => exec_svRangeChangeStart_toCoarse hold auto free single fine asked within fits
  · exact exec_svRangeChangeStart_beyond single
  · obtain ⟨ended, range, objects⟩ := s.rangeTurned_leaves c
    cases waiting : (s.svCh c).after with
    | none =>
      exact ⟨_, exec_svRangeChangeEnd_of_none changing waiting, ended, range, nofun, fun _ => rfl, rfl, objects⟩
    | some v =>
      refine ⟨_, exec_svRangeChangeEnd_of_some changing waiting, ended, range, fun w same => ?_, nofun, rfl, objects⟩
      obtain rfl := Option.some.inj same
      exact ⟨by simp, by simp⟩
  · intro seen due
    have run : exec (.svMoveEvaluation c ⟨t0, samples⟩) s = .next (s.moveEvaluated c seen) := exec_svMoveEvaluation due
    have moved := profiles_moveEvaluated s c seen
    obtain ⟨closedK, closedD⟩ := moveEvaluated_closes s c seen
    clear_value seen
    refine ⟨_, run, moved.frame, closedK, closedD, moved.objects, ?_, ?_, ?_, ?_⟩
    · rintro rfl running peakFirst
      rw [moveEvaluated_peakFirst running peakFirst, result_svMoved]
    · rintro u rfl out
      rw [moveEvaluated_outside out, result_svMoved]
    · rintro u rfl after before fits
      rw [moveEvaluated_within after before fits]
      obtain ⟨time, ok, told⟩ := svMoved_seen s c u
      exact ⟨result_svMoved .., time, ok, by simp [svCh_svMoved], told⟩
    · rintro rfl plain
      rw [moveEvaluated_missed plain]
      obtain ⟨missed, told⟩ := svMoved_missed s c 0
      exact ⟨result_svMoved .., missed, by simp [svCh_svMoved], told⟩

end Sys2Proof.Machine

/-!
Analog inputs (R216–R224): the record of an input, its verdicts, the result of a slot that is taken, and the supplies of sensors.
-/

namespace Sys2Proof.Machine
namespace State

/-! ## The record of an analog input -/

@[simp] theorem ainCh_setAin_same (s : State) (c : Nat) (x : Ain) : (s.setAin c x).ainCh c = x := Table.read_write_same ..
theorem ainCh_setAin_other (s : State) {c m : Nat} (x : Ain) (other : c ≠ m) : (s.setAin c x).ainCh m = s.ainCh m :=
  Table.read_write_other _ _ _ _ other
@[simp] theorem ob_setAin (s : State) (c : Nat) (x : Ain) (k : Nat) : (s.setAin c x).ob k = s.ob k := rfl
@[simp] theorem cf_setAin (s : State) (c : Nat) (x : Ain) (k : Nat) : (s.setAin c x).cf k = s.cf k := rfl

/-- The objects of an input are named by its number and their subindex. -/
theorem ainField_ne (n m : Nat) {a b : Nat} (h : a ≠ b ∧ a < 256 ∧ b < 256) : key (0x4910 + n) a ≠ key (0x4910 + m) b := by
  unfold key
  omega

/-- `t` follows `s` with analog input `c`, the objects `own` and measured values changed, and events posted. -/
structure Measures (c : Nat) (own : List Nat) (s t : State) : Prop where
  frame : t = { s with obj := t.obj, ain := t.ain, fab := t.fab, meas := t.meas }
  others : ∀ m, m ≠ c → t.ainCh m = s.ainCh m
  objects : s.ObjectsBut t own
  told : ∀ o ∈ s.fab.inFlight, o ∈ t.fab.inFlight

namespace Measures
variable {c : Nat} {own : List Nat} {s t : State}

theorem refl (c : Nat) (own : List Nat) (s : State) : Measures c own s s :=
  ⟨rfl, fun _ _ => rfl, objectsBut_refl s own, fun _ => id⟩

theorem setAin (h : Measures c own s t) (x : Ain) : Measures c own s (t.setAin c x) :=
  { h with
    frame := congrArg (fun u : State => { u with ain := (t.setAin c x).ain }) h.frame
    others := fun m other => (ainCh_setAin_other t x other.symm).trans (h.others m other) }

theorem setOb (h : Measures c own s t) {k : Nat} (mine : k ∈ own) (v : Nat) : Measures c own s (t.setOb k v) :=
  { h with
    frame := congrArg (fun u : State => { u with obj := (t.setOb k v).obj }) h.frame
    objects := objectsBut_setOb h.objects mine v }

theorem setMeas (h : Measures c own s t) (m : Table Int) : Measures c own s { t with meas := m } :=
  { h with frame := congrArg (fun u : State => { u with meas := m }) h.frame }

theorem post (h : Measures c own s t) (ev v : Nat) : Measures c own s (t.post ev v) :=
  { h with
    frame := congrArg (fun u : State => { u with fab := (t.post ev v).fab }) h.frame
    told := fun o mem => mem_inFlight_post (h.told o mem) _ _ }

theorem ite {p : Prop} [Decidable p] {u : State} (h : Measures c own s t) (k : Measures c own s u) :
    Measures c own s (if p then t else u) := by
  split
  · exact h
  · exact k

theorem postIf (h : Measures c own s t) (b : Bool) (ev v : Nat) : Measures c own s (t.postIf b ev v) := (h.post ev v).ite h

theorem trans {u : State} (h : Measures c own s t) (k : Measures c own t u) : Measures c own s u where
  frame := k.frame.trans (congrArg (fun v : State => { v with obj := u.obj, ain := u.ain, fab := u.fab, meas := u.meas }) h.frame)
  others m other := (k.others m other).trans (h.others m other)
  objects j absent := (k.objects j absent).trans (h.objects j absent)
  told o mem := k.told o (h.told o mem)

theorem mono {more : List Nat} (h : Measures c own s t) (le : ∀ k ∈ own, k ∈ more) : Measures c more s t :=
  { h with objects := fun k absent => h.objects k (mt (le k) absent) }

theorem now (h : Measures c own s t) : t.now = s.now := (congrArg State.now h.frame).trans rfl
theorem cf (h : Measures c own s t) (k : Nat) : t.cf k = s.cf k := cf_of_cfg (congrArg State.cfg h.frame) k

theorem ainHeld (h : Measures c own s t) (value : Obj.ainValue c ∈ own) : Measures c own s (t.ainHeld c) :=
  (h.setOb value _).ite h

end Measures

/-! ## An input declared invalid (R222) -/

/-- The objects that a verdict on an input moves. -/
def verdictObjects (c : Nat) : List Nat := [Obj.ainState c, Obj.ainValue c, Obj.breakCount c]

/-- The state in which an input shows the declaration that ends its validity, before the event. -/
def ainDeclared (s : State) (c st v : Nat) : State :=
  let again := if v = 3 then 3 else 1
  let s := s.setAin c { s.ainCh c with good := 0, again := again, results := [], fresh := true }
  let s := (s.setOb (Obj.ainState c) st).ainHeld c
  if v = 1 then s.bump (Obj.breakCount c) else s

theorem ainInvalid_again {s : State} {c st : Nat} (already : s.ob (Obj.ainState c) = st) (v : Nat) :
    s.ainInvalid c st v = s.setAin c { s.ainCh c with good := 0 } := if_pos already

theorem ainInvalid_new {s : State} {c st : Nat} (new : s.ob (Obj.ainState c) ≠ st) (v : Nat) :
    s.ainInvalid c st v = (s.ainDeclared c st v).post (384 + 4 * c + 2) v := if_neg new

theorem measures_ainDeclared (s : State) (c st v : Nat) : Measures c (verdictObjects c) s (s.ainDeclared c st v) := by
  have held := (((Measures.refl c (verdictObjects c) s).setAin { s.ainCh c with
    good := 0, again := if v = 3 then 3 else 1, results := [], fresh := true }).setOb (k := Obj.ainState c)
    (by simp [verdictObjects]) st).ainHeld (by simp [verdictObjects])
  exact (held.setOb (k := Obj.breakCount c) (by simp [verdictObjects]) _).ite held

theorem measures_ainInvalid (s : State) (c st v : Nat) : Measures c (verdictObjects c) s (s.ainInvalid c st v) :=
  ((Measures.refl c _ s).setAin _).ite ((measures_ainDeclared s c st v).post _ _)

theorem meas_ainHeld (s : State) (c : Nat) : (s.ainHeld c).meas = s.meas := by
  unfold ainHeld
  split <;> rfl

theorem meas_ainInvalid (s : State) (c st v : Nat) : (s.ainInvalid c st v).meas = s.meas := by
  by_cases already : s.ob (Obj.ainState c) = st
  · rw [ainInvalid_again already]
    rfl
  · rw [ainInvalid_new already, meas_post]
    unfold ainDeclared
    dsimp only
    split <;> exact meas_ainHeld _ c

theorem ob_ainHeld_other (s : State) (c : Nat) {k : Nat} (h : Obj.ainValue c ≠ k) : (s.ainHeld c).ob k = s.ob k := by
  unfold ainHeld
  split
  · exact ob_setOb_other s _ h
  · rfl

theorem ainState_ainDeclared (s : State) (c st v : Nat) : (s.ainDeclared c st v).ob (Obj.ainState c) = st := by
  have held (u : State) : ((u.setOb (Obj.ainState c) st).ainHeld c).ob (Obj.ainState c) = st :=
    (ob_ainHeld_other _ c (ainField_ne c c (by decide))).trans (ob_setOb_same u _ _)
  unfold ainDeclared
  dsimp only
  split
  · exact (ob_setOb_other _ _ (ainField_ne c c (by decide))).trans (held _)
  · exact held _

theorem breakCount_ainDeclared (s : State) (c st : Nat) :
    (s.ainDeclared c st 1).ob (Obj.breakCount c) = (s.ob (Obj.breakCount c) + 1) % 2 ^ 32 := by
  have value : Obj.ainValue c ≠ Obj.breakCount c := ainField_ne c c (by decide)
  have state : Obj.ainState c ≠ Obj.breakCount c := ainField_ne c c (by decide)
  refine (ob_setOb_same _ _ _).trans ?_
  rw [ob_ainHeld_other _ c value, ob_setOb_other _ _ state, ob_setAin]

theorem ainState_ainInvalid (s : State) (c st v : Nat) : (s.ainInvalid c st v).ob (Obj.ainState c) = st := by
  by_cases already : s.ob (Obj.ainState c) = st
  · rw [ainInvalid_again already, ob_setAin, already]
  · rw [ainInvalid_new already, ob_post, ainState_ainDeclared]

theorem raised_ainInvalid {s : State} {c st : Nat} (new : s.ob (Obj.ainState c) ≠ st) (v : Nat) :
    (s.ainInvalid c st v).Raised s.now (384 + 4 * c + 2) v := by
  rw [ainInvalid_new new, ← (measures_ainDeclared s c st v).now]
  exact raised_post _ _ _

/-! ## A result delivered (R219, R220) -/

/-- The state in which an input shows the mean of its last results, as a temperature to the block too (R218). -/
def ainValued (s : State) (c mv : Nat) : State :=
  let l := (s.ainResult c mv :: (s.ainCh c).results).take (2 ^ s.cf (Obj.ainAvg c))
  let v := roundDivInt l.sum l.length
  let s := s.setOb (Obj.ainValue c) (wordOf 4 v)
  if s.cf (Obj.ainKind c) = 3 ∧ s.cf (Obj.ainNtcB c) ≠ 0 then { s with meas := s.meas.write 0 (96 + c) v } else s

/-- A result delivered is shown, with the state valid; what is told is a recovery and thresholds crossed. -/
theorem ainDeliver_eq (s : State) (c mv : Nat) :
    ∃ x up down w, s.ainDeliver c mv =
      (((((s.ainValued c mv).setOb (Obj.ainState c) 1).postIf
        ((s.ainCh c).again ≠ 0 && (s.ainValued c mv).ob (Obj.ainState c) ≠ 1) (384 + 4 * c + 3) (s.ainCh c).again).postIf
        up (384 + 4 * c) w).postIf down (384 + 4 * c + 1) w).setAin c x := ⟨_, _, _, _, rfl⟩

theorem measures_ainValued (s : State) (c mv : Nat) : Measures c (verdictObjects c) s (s.ainValued c mv) := by
  have shown (v : Int) := (Measures.refl c _ s).setOb (k := Obj.ainValue c) (own := verdictObjects c) (by simp [verdictObjects])
    (wordOf 4 v)
  exact ((shown _).setMeas _).ite (shown _)

theorem measures_ainDeliver (s : State) (c mv : Nat) : Measures c (verdictObjects c) s (s.ainDeliver c mv) := by
  obtain ⟨x, up, down, w, e⟩ := s.ainDeliver_eq c mv
  rw [e]
  exact ((((measures_ainValued s c mv).setOb (by simp [verdictObjects]) 1).postIf _ _ _).postIf _ _ _ |>.postIf _ _ _).setAin x

theorem ainState_ainDeliver (s : State) (c mv : Nat) : (s.ainDeliver c mv).ob (Obj.ainState c) = 1 := by
  obtain ⟨x, up, down, w, e⟩ := s.ainDeliver_eq c mv
  simp [e]

theorem ainState_ainValued (s : State) (c mv : Nat) : (s.ainValued c mv).ob (Obj.ainState c) = s.ob (Obj.ainState c) := by
  unfold ainValued
  dsimp only
  split <;> exact ob_setOb_other s _ (ainField_ne c c (by decide))

theorem raised_ainDeliver {s : State} {c : Nat} (again : (s.ainCh c).again ≠ 0) (invalid : s.ob (Obj.ainState c) ≠ 1)
    (mv : Nat) :
    (s.ainDeliver c mv).Raised s.now (384 + 4 * c + 3) (s.ainCh c).again := by
  obtain ⟨x, up, down, w, e⟩ := s.ainDeliver_eq c mv
  have told := raised_post ((s.ainValued c mv).setOb (Obj.ainState c) 1) (384 + 4 * c + 3) (s.ainCh c).again
  rw [now_setOb, (measures_ainValued s c mv).now] at told
  rw [e, ainState_ainValued]
  simp only [again, invalid, ne_eq, not_false_eq_true, decide_true, Bool.and_self]
  exact mem_inFlight_postIf (mem_inFlight_postIf told _ _ _) _ _ _

/-- A word of a value that fits, which a mean over one result is. -/
theorem wordOf_mean_single {x : Nat} (fits : x < 2 ^ 32) : wordOf 4 (roundDivInt [(x : Int)].sum 1) = x := by
  simp [wordOf, roundDivInt, roundDiv]
  omega

theorem ainValue_ainDeliver {s : State} {c : Nat} (voltage : s.cf (Obj.ainKind c) = 1) (single : s.cf (Obj.ainAvg c) = 0)
    (mv : Nat) :
    (s.ainDeliver c mv).ob (Obj.ainValue c) = min mv 33000 := by
  obtain ⟨x, up, down, w, e⟩ := s.ainDeliver_eq c mv
  have result : s.ainResult c mv = (min mv 33000 : Nat) := by simp [ainResult, voltage]
  have shown : (s.ainValued c mv).ob (Obj.ainValue c) = wordOf 4 (roundDivInt [((min mv 33000 : Nat) : Int)].sum 1) := by
    unfold ainValued
    dsimp only
    rw [if_neg (by simp [voltage]), ob_setOb_same, result, single]
    rfl
  have other := ob_setOb_other (s.ainValued c mv) 1 (ainField_ne c c (a := 2) (b := 1) (by decide))
  rw [e]
  simp only [ob_setAin, ob_postIf]
  exact other.trans (shown.trans (wordOf_mean_single (by omega)))

/-! ## A slot (R219, R221, R222) -/

/-- The state in which a slot shows the ball's voltage. -/
def ballShown (s : State) (c mv : Nat) : State := s.setOb (Obj.ainBallMv c) (saturate mv 65535)

/-- What a slot makes of a conversion, its ball shown. -/
def ainJudged (s : State) (c mv it : Nat) : State :=
  let st := s.ob (Obj.ainState c)
  if s.cf (Obj.ainKind c) = 2 ∧ s.vsensState (s.cf (Obj.ainRef c)) ≠ 1 then s.ainInvalid c 5 3
  else if s.ainVerdict c mv it = 1 then s.ainInvalid c 3 1
  else if s.ainVerdict c mv it = 2 then s.ainInvalid c 4 2
  else if st = 5 && !s.passed (s.vsensAt.read 0 (s.cf (Obj.ainRef c))) (ms 1) then s
  else if (st = 3 ∨ st = 4) ∧ (s.ainCh c).good + 1 < 8 then s.setAin c { s.ainCh c with good := (s.ainCh c).good + 1 }
  else s.ainDeliver c mv

theorem ainSlot_skips {s : State} {c : Nat} (skip : (s.ainCh c).skip ≠ 0) (mv it : Nat) :
    s.ainSlot c mv it = s.setAin c { s.ainCh c with skip := (s.ainCh c).skip - 1 } := if_pos skip

theorem ainSlot_judges {s : State} {c : Nat} (taken : (s.ainCh c).skip = 0) (mv it : Nat) :
    s.ainSlot c mv it = (s.ballShown c mv).ainJudged c mv it := if_neg (not_not.mpr taken)

theorem measures_ainJudged (s : State) (c mv it : Nat) : Measures c (verdictObjects c) s (s.ainJudged c mv it) :=
  (measures_ainInvalid s c 5 3).ite <| (measures_ainInvalid s c 3 1).ite <| (measures_ainInvalid s c 4 2).ite <|
    (Measures.refl c _ s).ite <| ((Measures.refl c _ s).setAin _).ite (measures_ainDeliver s c mv)

section
variable {s : State} {c : Nat}

theorem ainJudged_unregulated (ratiometric : s.cf (Obj.ainKind c) = 2) (out : s.vsensState (s.cf (Obj.ainRef c)) ≠ 1)
    (mv it : Nat) : s.ainJudged c mv it = s.ainInvalid c 5 3 := if_pos ⟨ratiometric, out⟩

variable (kind : s.cf (Obj.ainKind c) ≠ 2) {mv it : Nat}
include kind

theorem ainJudged_break (broken : s.ainVerdict c mv it = 1) : s.ainJudged c mv it = s.ainInvalid c 3 1 := by
  simp [ainJudged, kind, broken]

theorem ainJudged_short (shorted : s.ainVerdict c mv it = 2) : s.ainJudged c mv it = s.ainInvalid c 4 2 := by
  simp [ainJudged, kind, shorted]

theorem ainJudged_counts (plausible : s.ainVerdict c mv it = 0) (broken : s.ob (Obj.ainState c) = 3)
    (few : (s.ainCh c).good < 7) : s.ainJudged c mv it = s.setAin c { s.ainCh c with good := (s.ainCh c).good + 1 } := by
  have more : (s.ainCh c).good + 1 < 8 := by omega
  simp [ainJudged, kind, plausible, broken, more]

theorem ainJudged_delivers (plausible : s.ainVerdict c mv it = 0)
    (ready : s.ob (Obj.ainState c) = 1 ∨ s.ob (Obj.ainState c) = 3 ∧ (s.ainCh c).good = 7) :
    s.ainJudged c mv it = s.ainDeliver c mv := by
  rcases ready with valid | ⟨broken, eighth⟩
  · simp [ainJudged, kind, plausible, valid]
  · simp [ainJudged, kind, plausible, broken, eighth]

end

theorem ainVerdict_resistive_break {s : State} {c it : Nat} (kind : s.cf (Obj.ainKind c) = 3) (high : 4900 < it) (mv : Nat) :
    s.ainVerdict c mv it = 1 := by simp [ainVerdict, kind, high]

theorem ainVerdict_resistive_short {s : State} {c it : Nat} (kind : s.cf (Obj.ainKind c) = 3) (low : it < 50) (mv : Nat) :
    s.ainVerdict c mv it = 2 := by
  have : ¬4900 < it := by omega
  simp [ainVerdict, kind, low, this]

theorem ainVerdict_voltage {s : State} {c : Nat} (kind : s.cf (Obj.ainKind c) = 1) (mv it : Nat) :
    s.ainVerdict c mv it = if s.cf (Obj.breakShift c) < (mv - it) + (it - mv) then 1 else 0 := by simp [ainVerdict, kind]

/-- The ball is none of the objects that a verdict moves. -/
theorem ainBallMv_notin (c : Nat) : Obj.ainBallMv c ∉ verdictObjects c := by
  simp only [verdictObjects, List.mem_cons, List.not_mem_nil, or_false, not_or]
  exact ⟨ainField_ne c c (by decide), ainField_ne c c (by decide), ainField_ne c c (by decide)⟩

/-- The ball shown changes nothing that a slot judges by. -/
theorem ballShown_leaves (s : State) (c mv : Nat) :
    (s.ballShown c mv).ob (Obj.ainState c) = s.ob (Obj.ainState c) ∧
      (s.ballShown c mv).ob (Obj.breakCount c) = s.ob (Obj.breakCount c) ∧
      (c < 12 → ∀ v, (s.ballShown c mv).vsensState v = s.vsensState v) := by
  refine ⟨ob_setOb_other s _ (ainField_ne c c (by decide)), ob_setOb_other s _ (ainField_ne c c (by decide)), fun lt v => ?_⟩
  refine ob_setOb_other s _ ?_
  unfold Obj.ainBallMv Obj.vsens0State Obj.vsens1State
  split <;> (unfold key; omega)

/-- The objects that a slot moves. -/
def slotObjects (c : Nat) : List Nat := Obj.ainBallMv c :: verdictObjects c

/-- A slot moves its input, the four objects of its result, and measured values. -/
theorem measures_ainSlot (s : State) (c mv it : Nat) :
    Measures c (slotObjects c) s (s.ainSlot c mv it) := by
  by_cases taken : (s.ainCh c).skip = 0
  · rw [ainSlot_judges taken]
    have shown : Measures c (slotObjects c) s (s.ballShown c mv) := (Measures.refl c _ s).setOb List.mem_cons_self _
    exact shown.trans ((measures_ainJudged _ c mv it).mono fun _ => List.mem_cons_of_mem _)
  · rw [ainSlot_skips taken]
    exact (Measures.refl c _ s).setAin _

theorem exec_ainSlot {c : Fin 12} {s : State} (awake : s.awake = true) (used : s.cf (Obj.ainKind c) ≠ 0)
    (free : (s.ainCh c).changeEnd = none) (connected : (s.ainCh c).connected + us 5 ≤ s.now)
    (due : ((s.now : Int) - us 5 - us (5 * (c.val % 4))) % (us (s.cf (Obj.ainPeriod c)) : Int) = 0) (mv it : Nat) :
    exec (.ainSlot c mv it) s = .next (s.ainSlot c mv it) :=
  whenever_of (by simp [awake, used, free, connected, due]) _ _

/-! ## A supply of sensors (R216, R222) -/

/-- One input as a supply that does not regulate leaves it. -/
def ainUnsupplied (v : Nat) (s : State) (c : Nat) : State :=
  if s.cf (Obj.ainKind c) = 2 && s.cf (Obj.ainRef c) = v && s.ob (Obj.ainState c) ≠ 2 then s.ainInvalid c 5 3 else s

theorem vsensChange_regulates (s : State) (v : Nat) : s.vsensChange v 1 = s.setVsens v 1 := by simp [vsensChange]

theorem vsensChange_fails {st : Nat} (fails : st ≠ 1) (s : State) (v : Nat) :
    s.vsensChange v st = forRange 12 (ainUnsupplied v) (s.setVsens v st) := if_neg fails

/-- What a supply that fails leaves of an input: a ratiometric one that is not changing its range is invalid, any other one is as
it was. -/
structure SupplyLost (v : Nat) (s t : State) (i : Nat) : Prop where
  hit : s.cf (Obj.ainKind i) = 2 → s.cf (Obj.ainRef i) = v → s.ob (Obj.ainState i) ≠ 2 →
    t.ob (Obj.ainState i) = 5 ∧ (s.ob (Obj.ainState i) ≠ 5 → t.Raised s.now (384 + 4 * i + 2) 3)
  spared : ¬(s.cf (Obj.ainKind i) = 2 ∧ s.cf (Obj.ainRef i) = v) → t.ob (Obj.ainState i) = s.ob (Obj.ainState i)

theorem measures_ainUnsupplied (v : Nat) (s : State) (c : Nat) : Measures c (verdictObjects c) s (ainUnsupplied v s c) :=
  (measures_ainInvalid s c 5 3).ite (.refl c _ s)

theorem meas_ainUnsupplied (v : Nat) (s : State) (c : Nat) : (ainUnsupplied v s c).meas = s.meas := by
  unfold ainUnsupplied
  split
  · exact meas_ainInvalid s c 5 3
  · rfl

theorem supplyLost_ainUnsupplied (v : Nat) (s : State) (c : Nat) : SupplyLost v s (ainUnsupplied v s c) c where
  hit kind ref steady := by
    have failed : ainUnsupplied v s c = s.ainInvalid c 5 3 := if_pos (by simp [kind, ref, steady])
    rw [failed]
    exact ⟨ainState_ainInvalid s c 5 3, fun new => raised_ainInvalid new 3⟩
  spared other := by
    have same : ainUnsupplied v s c = s := if_neg (by simp only [Bool.and_eq_true, decide_eq_true_eq]; exact fun h => other h.1)
    rw [same]

/-- The states of two inputs are two objects. -/
theorem ainState_notin {i c : Nat} (other : i ≠ c) : Obj.ainState i ∉ verdictObjects c := by
  simp only [verdictObjects, List.mem_cons, List.not_mem_nil, or_false, not_or, Obj.ainState, Obj.ainValue, Obj.breakCount, key]
  omega

theorem forRange_succ (n : Nat) (f : State → Nat → State) (s : State) : forRange (n + 1) f s = f (forRange n f s) n := by
  simp [forRange, List.range_succ]

/-- The inputs of a supply that fails, one after another. -/
theorem supplyLost_upto (v : Nat) (s : State) (n : Nat) :
    let t := forRange n (ainUnsupplied v) s
    t = { s with obj := t.obj, ain := t.ain, fab := t.fab } ∧
      (∀ k, (∀ i < n, k ∉ verdictObjects i) → t.ob k = s.ob k) ∧ ∀ i < n, SupplyLost v s t i := by
  induction n with
  | zero => exact ⟨rfl, fun _ _ => rfl, nofun⟩
  | succ n ih =>
    obtain ⟨frame, objects, lost⟩ := ih
    rw [forRange_succ]
    generalize forRange n (ainUnsupplied v) s = u at frame objects lost
    have moved := measures_ainUnsupplied v u n
    have step := supplyLost_ainUnsupplied v u n
    have cf (k : Nat) : u.cf k = s.cf k := cf_of_cfg (congrArg State.cfg frame) k
    have now : u.now = s.now := (congrArg State.now frame).trans rfl
    have before : u.ob (Obj.ainState n) = s.ob (Obj.ainState n) := objects _ fun i lt => ainState_notin (by omega)
    refine ⟨?_, fun k absent => ?_, fun i le => ?_⟩
    · have whole := moved.frame
      rw [meas_ainUnsupplied] at whole
      exact whole.trans (congrArg (fun w : State => { w with
        obj := (ainUnsupplied v u n).obj, ain := (ainUnsupplied v u n).ain, fab := (ainUnsupplied v u n).fab }) frame)
    · exact (moved.objects k (absent n (by omega))).trans (objects k fun i lt => absent i (by omega))
    · by_cases last : i = n
      · subst last
        exact ⟨fun kind ref steady => by
            rw [← cf] at kind ref
            rw [← before, ← now] at *
            exact step.hit kind ref steady,
          fun other => by
            rw [← cf, ← cf] at other
            exact (step.spared other).trans before⟩
      · have same := moved.objects _ (ainState_notin last)
        obtain ⟨hit, spared⟩ := lost i (by omega)
        exact ⟨fun kind ref steady => by
            obtain ⟨shown, told⟩ := hit kind ref steady
            exact ⟨same.trans shown, fun new => moved.told _ (told new)⟩,
          fun other => same.trans (spared other)⟩

/-- The object that shows a supply's state. -/
def vsensObject (v : Nat) : Nat := if v = 0 then Obj.vsens0State else Obj.vsens1State

theorem vsensObject_notin {i : Nat} (lt : i < 12) (v : Nat) : vsensObject v ∉ verdictObjects i := by
  simp only [verdictObjects, List.mem_cons, List.not_mem_nil, or_false, not_or, Obj.ainState, Obj.ainValue, Obj.breakCount,
    vsensObject, Obj.vsens0State, Obj.vsens1State]
  split <;> (simp only [key]; omega)

/-- The state of a supply set: shown, with the instant of a return to regulation. -/
theorem setVsens_shows (s : State) (v st : Nat) :
    let t := s.setVsens v st
    t = { s with obj := t.obj, vsensAt := t.vsensAt } ∧ t.vsensState v = st ∧
      (∀ i < 12, t.ob (Obj.ainState i) = s.ob (Obj.ainState i)) ∧
      (st = 1 → s.vsensState v ≠ 1 → t.vsensAt.read 0 v = s.now) := by
  have others (u : State) (i : Nat) (lt : i < 12) : (u.setOb (vsensObject v) st).ob (Obj.ainState i) = u.ob (Obj.ainState i) :=
    ob_setOb_other u st fun same => vsensObject_notin lt v (same ▸ List.mem_cons_self)
  by_cases back : st = 1 ∧ s.vsensState v ≠ 1
  · have e : s.setVsens v st = ({ s with vsensAt := s.vsensAt.write 0 v s.now } : State).setOb (vsensObject v) st := by
      simp [setVsens, back, vsensObject]
    rw [e]
    exact ⟨rfl, ob_setOb_same _ _ _, fun i lt => others _ i lt, fun _ _ => Table.read_write_same ..⟩
  · have e : s.setVsens v st = s.setOb (vsensObject v) st := by
      simp only [setVsens, Bool.and_eq_true, decide_eq_true_eq, if_neg back, vsensObject]
    rw [e]
    exact ⟨rfl, ob_setOb_same _ _ _, fun i lt => others _ i lt, fun one out => absurd ⟨one, out⟩ back⟩

theorem exec_vsensStateChange {v : Fin 2} {st : Fin 4} {s : State}
    (ok : st = 0 ∨ (s.awake = true ∧ s.cf (if v = 0 then Obj.vsens0Enable else Obj.vsens1Enable) = 1)) :
    exec (.vsensStateChange v st) s = .next (s.vsensChange v st) :=
  whenever_of (by simpa using ok) _ _

/-- R216, R222: a supply shows its state, and what it no longer regulates is invalid. -/
theorem vsensChange_shows (s : State) (v st : Nat) :
    let t := s.vsensChange v st
    t.vsensState v = st ∧ t = { s with obj := t.obj, ain := t.ain, fab := t.fab, vsensAt := t.vsensAt } ∧
      (∀ i < 12, (st ≠ 1 → SupplyLost v s t i) ∧ (st = 1 → t.ob (Obj.ainState i) = s.ob (Obj.ainState i))) ∧
      (st = 1 → s.vsensState v ≠ 1 → t.vsensAt.read 0 v = s.now) := by
  obtain ⟨frame, shown, states, since⟩ := s.setVsens_shows v st
  by_cases one : st = 1
  · subst one
    rw [vsensChange_regulates]
    exact ⟨shown,
      congrArg (fun u : State => { u with ain := (s.setVsens v 1).ain, fab := (s.setVsens v 1).fab }) frame |>.trans rfl,
      fun i lt => ⟨fun h => absurd rfl h, fun _ => states i lt⟩, since⟩
  · rw [vsensChange_fails one]
    generalize s.setVsens v st = u at frame shown states
    obtain ⟨after, objects, lost⟩ := supplyLost_upto v u 12
    have cf (k : Nat) : u.cf k = s.cf k := cf_of_cfg (congrArg State.cfg frame) k
    have now : u.now = s.now := (congrArg State.now frame).trans rfl
    generalize forRange 12 (ainUnsupplied v) u = t at after objects lost
    have at_ : t.vsensAt = u.vsensAt := (congrArg State.vsensAt after).trans rfl
    refine ⟨(objects (vsensObject v) fun i lt => vsensObject_notin lt v).trans shown, ?_,
      fun i lt => ⟨fun _ => ?_, fun h => absurd h one⟩,
      fun h => absurd h one⟩
    · rw [at_]
      exact after.trans (congrArg (fun w : State => { w with obj := t.obj, ain := t.ain, fab := t.fab }) frame)
    · obtain ⟨hit, spared⟩ := lost i lt
      rw [cf, cf, states i lt] at spared
      rw [cf, cf, states i lt, now] at hit
      exact ⟨hit, spared⟩

/-! ## What a slot that is taken shows -/

section
variable {s : State} {c mv it : Nat} (taken : (s.ainCh c).skip = 0)
include taken

/-- R219: the ball's voltage, whatever its verdict. -/
theorem ainSlot_ball (fits : mv ≤ 65535) : (s.ainSlot c mv it).ob (Obj.ainBallMv c) = mv := by
  rw [ainSlot_judges taken, (measures_ainJudged _ c mv it).objects _ (ainBallMv_notin c)]
  exact (ob_setOb_same s _ _).trans (saturate_of_le fits)

/-- R222: a ratiometric input of a supply that does not regulate is declared invalid. -/
theorem ainSlot_unregulated (lt : c < 12) (kind : s.cf (Obj.ainKind c) = 2) (out : s.vsensState (s.cf (Obj.ainRef c)) ≠ 1)
    (new : s.ob (Obj.ainState c) ≠ 5) :
    (s.ainSlot c mv it).ob (Obj.ainState c) = 5 ∧ (s.ainSlot c mv it).Raised s.now (384 + 4 * c + 2) 3 := by
  obtain ⟨state, -, supply⟩ := s.ballShown_leaves c mv
  rw [ainSlot_judges taken, ainJudged_unregulated (s := s.ballShown c mv) kind ((supply lt _).symm ▸ out)]
  exact ⟨ainState_ainInvalid .., raised_ainInvalid (s := s.ballShown c mv) (state.symm ▸ new) 3⟩

variable (kind : s.cf (Obj.ainKind c) ≠ 2)
include kind

/-- R221: a break is declared, counted and told. -/
theorem ainSlot_break (broken : s.ainVerdict c mv it = 1) (new : s.ob (Obj.ainState c) ≠ 3) :
    (s.ainSlot c mv it).ob (Obj.ainState c) = 3 ∧
      (s.ainSlot c mv it).ob (Obj.breakCount c) = (s.ob (Obj.breakCount c) + 1) % 2 ^ 32 ∧
      (s.ainSlot c mv it).Raised s.now (384 + 4 * c + 2) 1 := by
  obtain ⟨state, count, -⟩ := s.ballShown_leaves c mv
  have new : (s.ballShown c mv).ob (Obj.ainState c) ≠ 3 := state.symm ▸ new
  rw [ainSlot_judges taken, ainJudged_break (s := s.ballShown c mv) kind broken]
  refine ⟨ainState_ainInvalid .., ?_, raised_ainInvalid new 1⟩
  rw [ainInvalid_new new, ob_post, breakCount_ainDeclared, count]

/-- R221: a short is declared and told. -/
theorem ainSlot_short (shorted : s.ainVerdict c mv it = 2) (new : s.ob (Obj.ainState c) ≠ 4) :
    (s.ainSlot c mv it).ob (Obj.ainState c) = 4 ∧ (s.ainSlot c mv it).Raised s.now (384 + 4 * c + 2) 2 := by
  obtain ⟨state, -, -⟩ := s.ballShown_leaves c mv
  rw [ainSlot_judges taken, ainJudged_short (s := s.ballShown c mv) kind shorted]
  exact ⟨ainState_ainInvalid .., raised_ainInvalid (s := s.ballShown c mv) (state.symm ▸ new) 2⟩

variable (plausible : s.ainVerdict c mv it = 0)
include plausible

/-- R222: a broken input counts its plausible conversions up to the eighth. -/
theorem ainSlot_counts (broken : s.ob (Obj.ainState c) = 3) (few : (s.ainCh c).good < 7) :
    (s.ainSlot c mv it).ob (Obj.ainState c) = 3 ∧ ((s.ainSlot c mv it).ainCh c).good = (s.ainCh c).good + 1 := by
  obtain ⟨state, -, -⟩ := s.ballShown_leaves c mv
  rw [ainSlot_judges taken, ainJudged_counts (s := s.ballShown c mv) kind plausible (state.trans broken) few]
  exact ⟨state.trans broken, congrArg Ain.good (ainCh_setAin_same ..)⟩

theorem ainSlot_delivers (ready : s.ob (Obj.ainState c) = 1 ∨ s.ob (Obj.ainState c) = 3 ∧ (s.ainCh c).good = 7) :
    s.ainSlot c mv it = (s.ballShown c mv).ainDeliver c mv := by
  obtain ⟨state, -, -⟩ := s.ballShown_leaves c mv
  rw [ainSlot_judges taken]
  exact ainJudged_delivers (s := s.ballShown c mv) kind plausible (state.symm ▸ ready)

/-- R222: the eighth plausible conversion in a row ends the break, with what it was told as. -/
theorem ainSlot_recovers (broken : s.ob (Obj.ainState c) = 3) (eighth : (s.ainCh c).good = 7) (again : (s.ainCh c).again ≠ 0) :
    (s.ainSlot c mv it).ob (Obj.ainState c) = 1 ∧
      (s.ainSlot c mv it).Raised s.now (384 + 4 * c + 3) (s.ainCh c).again := by
  obtain ⟨state, -, -⟩ := s.ballShown_leaves c mv
  have invalid : (s.ballShown c mv).ob (Obj.ainState c) ≠ 1 := by rw [state, broken]; decide
  rw [ainSlot_delivers taken kind plausible (.inr ⟨broken, eighth⟩)]
  exact ⟨ainState_ainDeliver .., raised_ainDeliver (s := s.ballShown c mv) again invalid mv⟩

end

/-- R223: the new network is connected once its time has come. -/
theorem exec_ainRangeChangeEnd {c : Fin 12} {s : State} {e : Tick} (change : (s.ainCh c).changeEnd = some e) :
    exec (.ainRangeChangeEnd c) s =
      whenever (decide (e ≤ s.now)) s (s.setAin c { s.ainCh c with changeEnd := none, connected := e }) := by
  change execAinRangeChangeEnd c s = _
  rw [execAinRangeChangeEnd, change]

end State

/-- Settles O39: a slot is its skip or the verdict on what it converted (`ainSlot_judges`), a range change ends at its instant, and
a supply's failure reaches the inputs one after another (`supplyLost_upto`). -/
theorem analogInputsAreMeasured : Obligations.AnalogInputsAreMeasured := by
  unfold Obligations.AnalogInputsAreMeasured
  refine ⟨fun c mv it s awake used free connected due fits => ?_, fun c s e change => ⟨fun late => ?_, fun early => ?_⟩,
    fun v st s ok => ?_⟩
  · obtain ⟨frame, others, objects, -⟩ := s.measures_ainSlot c mv it
    refine ⟨_, State.exec_ainSlot awake used free connected due mv it, frame, others, objects,
      fun skip => State.ainSlot_skips skip mv it, fun taken => ⟨State.ainSlot_ball taken fits, ?_, ?_, ?_, ?_, ?_⟩⟩
    · intro kind far
      exact State.ainSlot_break taken (by simp [kind]) (by rw [State.ainVerdict_voltage kind, if_pos far])
    · intro kind high
      exact State.ainSlot_break taken (by simp [kind]) (State.ainVerdict_resistive_break kind high mv)
    · intro kind low
      exact State.ainSlot_short taken (by simp [kind]) (State.ainVerdict_resistive_short kind low mv)
    · exact State.ainSlot_unregulated taken c.isLt
    · intro kind near
      have other : s.cf (Obj.ainKind c) ≠ 2 := by simp [kind]
      have plausible : s.ainVerdict c mv it = 0 := by rw [State.ainVerdict_voltage kind, if_neg (by omega)]
      refine ⟨fun valid => ?_, State.ainSlot_counts taken other plausible, State.ainSlot_recovers taken other plausible⟩
      rw [State.ainSlot_delivers taken other plausible (.inl valid)]
      exact ⟨State.ainState_ainDeliver .., fun single => State.ainValue_ainDeliver (s := s.ballShown c mv) kind single mv⟩
  · exact (State.exec_ainRangeChangeEnd change).trans (whenever_of (by simpa using late) _ _)
  · exact (State.exec_ainRangeChangeEnd change).trans (whenever_not (by simpa using early) _ _)
  · obtain ⟨shown, frame, inputs, since⟩ := s.vsensChange_shows v st
    refine ⟨_, State.exec_vsensStateChange ok, shown, frame, fun c lt kind ref fails => ?_, fun c lt spared => ?_,
      fun one => since (congrArg Fin.val one)⟩
    · exact ((inputs c lt).1 fun one => fails (Fin.ext one)).hit kind ref
    · by_cases one : st = 1
      · exact (inputs c lt).2 (congrArg Fin.val one)
      · exact ((inputs c lt).1 fun h => one (Fin.ext h)).spared fun h => one (spared h.1 h.2)

end Sys2Proof.Machine

/-!
Digital inputs (R209) in a configuration that no commit accepts: an edge that a bridge's channel beyond the last one overwrites.
-/

namespace Sys2Proof.Machine
namespace State

/-- DIN_STATE of input 2 is the number that GD_STATUS would have of a channel 129. -/
theorem dinState_2_eq_gdStatus : Obj.dinState 2 = Obj.gdStatus 129 := rfl

/-- Under the hoist safe state, with a bridge in use on GD channel 0 whose BR_PAIR_B is 64. -/
def farBridge : State :=
  { State.reset with
    cfg := ((State.reset.cfg.write 0 (Obj.gdMode 0) 1).write 0 (Obj.brFunction 0) 1).write 0 (Obj.brPairB 0) 64
    hoist := { State.reset.hoist with flyReset := false, powerUp := false, safe := true } }

/-- An edge of input 2 makes the bridge coast, which leaves nothing in the status of its channel 129. -/
theorem gdStatus_farBridge_dinChange : (farBridge.dinChange 2 true).ob (Obj.gdStatus 129) = 0 := by decide +kernel

theorem exec_dinEdge {c : Fin 16} {level : Bool} {held : Nat} {s : State} (runs : s.dinRuns c = true)
    (new : (s.dinCh c).level ≠ level) (long : s.dinHeld c held = true) :
    exec (.dinEdge c ⟨level, held⟩) s = .next (s.dinChange c level) :=
  whenever_of (by simp [runs, new, long]) _ _
end State

/-- Refutes O37: the statement does not ask for a configuration that a commit accepts. With a BR_PAIR_B of 64, beyond its range
0–11, an edge of input 2 under the hoist safe state makes the bridge coast (R93, R160), which turns off a channel 129, and
the object the model finds for that channel's status is DIN_STATE of the input: it stays 0 where the statement has 1. -/
theorem not_digitalAndFrequencyInputsAreRead : ¬ Obligations.DigitalAndFrequencyInputsAreRead := by
  unfold Obligations.DigitalAndFrequencyInputsAreRead
  intro h
  have runs : State.farBridge.dinRuns 2 = true := by decide
  have new : (State.farBridge.dinCh 2).level ≠ true := by decide
  have long : State.farBridge.dinHeld 2 (sec 1) = true := by decide
  have plain : State.farBridge.cf (Obj.dinInvert 2) = 0 := by decide
  obtain ⟨t, run, shown, -⟩ := (h.1 2 State.farBridge).1 true (sec 1) runs new long
  obtain rfl := Host.Outcome.next.inj ((State.exec_dinEdge (c := 2) runs new long).symm.trans run)
  have one : (State.farBridge.dinChange 2 true).ob (Obj.dinState 2) = 1 := by simpa [plain] using shown
  rw [State.dinState_2_eq_gdStatus, State.gdStatus_farBridge_dinChange] at one
  exact absurd one (by decide)
end Sys2Proof.Machine

/-!
Load passports (R232–R236): the record of a passport, a learned result stored and compared with the reference, and the requests
that forget, reference and clear.
-/

namespace Sys2Proof.Machine

/-- Objects with another subindex differ, whatever their indices. -/
theorem key_ne_of_sub (i j : Nat) {a b : Nat} (h : a ≠ b ∧ a < 256 ∧ b < 256) : key i a ≠ key j b := by
  unfold key
  omega

namespace State

/-- A written object leaves those of another subindex. -/
@[simp] theorem ob_setOb_sub (s : State) (i j v : Nat) {a b : Nat} (h : a ≠ b ∧ a < 256 ∧ b < 256) :
    (s.setOb (key i a) v).ob (key j b) = s.ob (key j b) := ob_setOb_other s v (key_ne_of_sub i j h)

/-! ## A request that is carried out -/

/-- What ends well without an answer of its own succeeds. -/
theorem finish_done {s t : State} {a : Answer} (done : a = .ok t) (silent : t.reply = {}) :
    s.finish a = .next { t with reply := { status := .success } } := by
  rw [done, finish_ok, silent]
  rfl

/-! ## The record of a passport -/

@[simp] theorem ppCh_setPp_same (s : State) (n : Nat) (x : Passport) : (s.setPp n x).ppCh n = x := Table.read_write_same ..
theorem ppCh_setPp_other (s : State) {n m : Nat} (x : Passport) (other : m ≠ n) : (s.setPp n x).ppCh m = s.ppCh m :=
  Table.read_write_other _ _ _ _ other.symm
@[simp] theorem ob_setPp (s : State) (n : Nat) (x : Passport) (k : Nat) : (s.setPp n x).ob k = s.ob k := rfl
@[simp] theorem ppCh_setOb (s : State) (k v m : Nat) : (s.setOb k v).ppCh m = s.ppCh m := rfl
@[simp] theorem ppCh_post (s : State) (ev v m : Nat) : (s.post ev v).ppCh m = s.ppCh m := rfl
@[simp] theorem ppCh_postIf (s : State) (c : Bool) (ev v m : Nat) : (s.postIf c ev v).ppCh m = s.ppCh m := by
  cases c <;> rfl

theorem objectsBut_setPp {s t : State} {own : List Nat} (h : s.ObjectsBut t own) (n : Nat) (x : Passport) :
    s.ObjectsBut (t.setPp n x) own := h

/-- A written object keeps to objects and passports. -/
theorem frame_setOb {s t : State} (h : t = { s with obj := t.obj, pp := t.pp }) (k v : Nat) :
    t.setOb k v = { s with obj := (t.setOb k v).obj, pp := (t.setOb k v).pp } :=
  congrArg (fun u : State => { u with obj := (t.setOb k v).obj }) h

/-! ## A result compared with the reference (R236) -/

/-- `t` follows `s` with no more changed than comparing a result of passport `n` with its reference may change: the runs off the
reference, DRIFT, and events posted. -/
structure ComparesDrift (n : Nat) (s t : State) : Prop where
  frame : t = { s with obj := t.obj, pp := t.pp, fab := t.fab }
  learned : (t.ppCh n).learned = (s.ppCh n).learned
  others : ∀ m, m ≠ n → t.ppCh m = s.ppCh m
  objects : s.ObjectsBut t [Obj.ppDrift n]
  told : ∀ o ∈ s.fab.inFlight, o ∈ t.fab.inFlight

theorem ComparesDrift.refl (n : Nat) (s : State) : ComparesDrift n s s :=
  ⟨rfl, rfl, fun _ _ => rfl, objectsBut_refl s _, fun _ => id⟩

theorem ComparesDrift.ite {n : Nat} {s t u : State} {p : Prop} [Decidable p] (h : ComparesDrift n s t) (k : ComparesDrift n s u) :
    ComparesDrift n s (if p then t else u) := by
  split
  · exact h
  · exact k

theorem comparesDrift_runs (n : Nat) (s : State) (runs : Table Nat) :
    ComparesDrift n s (s.setPp n { s.ppCh n with driftRuns := runs }) :=
  ⟨rfl, by simp, fun _ other => ppCh_setPp_other s _ other, objectsBut_refl s _, fun _ => id⟩

theorem ComparesDrift.declared {n : Nat} {s t : State} (h : ComparesDrift n s t) (i v : Nat) :
    ComparesDrift n s ((t.setBit (Obj.ppDrift n) i true).post 1276 v) where
  frame := congrArg (fun u : State =>
    { u with obj := (t.setBit (Obj.ppDrift n) i true).obj, fab := (t.post 1276 v).fab }) h.frame
  learned := h.learned
  others := h.others
  objects := objectsBut_setBit h.objects List.mem_cons_self i true
  told o mem := mem_inFlight_post (h.told o mem) _ _

theorem comparesDrift_ppCheckDrift (s : State) (n q value vbat : Nat) (temp : Int) :
    ComparesDrift n s (s.ppCheckDrift n q value vbat temp) :=
  (ComparesDrift.refl n s).ite (((comparesDrift_runs n s _).declared _ _).ite (comparesDrift_runs n s _))

/-! ## A result stored (R232, R233) -/

/-- What a result makes of the value learned before it, if any. -/
def learnedFrom (before : Option Nat) (v : Nat) : Nat := match before with
  | some w => (3 * w + v) / 4
  | none => v

/-- A stored result is put among the learned values with its envelope, counted, told of when it is the first, and compared with
the reference. -/
theorem ppStore_eq (s : State) (n q v i vbat : Nat) (temp : Int) : ∃ most least highest,
    s.ppStore n q v i vbat temp =
      ((((((s.setPp n { s.ppCh n with
        learned := (s.ppCh n).learned.put q (learnedFrom ((s.ppCh n).learned.get? q) v) }).setOb
          (Obj.ppEnvIMax n) most).setOb (Obj.ppEnvTMin n) least).setOb (Obj.ppEnvTMax n) highest).bump
            (Obj.ppLearnCount n)).postIf ((s.ppCh n).learned.get? q).isNone 1274 (ppSig n)).ppCheckDrift n q v vbat temp :=
  ⟨_, _, _, rfl⟩

/-- The objects that a stored result moves. -/
def learnObjects (n : Nat) : List Nat :=
  [Obj.ppEnvIMax n, Obj.ppEnvTMin n, Obj.ppEnvTMax n, Obj.ppLearnCount n, Obj.ppDrift n]

theorem ppStore_frame (s : State) (n q v i vbat : Nat) (temp : Int) :
    let t := s.ppStore n q v i vbat temp
    t = { s with obj := t.obj, pp := t.pp, fab := t.fab } ∧ (∀ m, m ≠ n → t.ppCh m = s.ppCh m) ∧
      s.ObjectsBut t (learnObjects n) := by
  obtain ⟨most, least, highest, e⟩ := s.ppStore_eq n q v i vbat temp
  rw [e]
  have drift (u : State) := u.comparesDrift_ppCheckDrift n q v vbat temp
  refine ⟨(drift _).frame.trans ?_, fun m other => ?_, fun k absent => ?_⟩
  · cases ((s.ppCh n).learned.get? q).isNone <;> rfl
  · rw [(drift _).others m other]
    simp [bump_eq, ppCh_setPp_other _ _ other]
  · rw [(drift _).objects k fun mem => absent (by simp_all [learnObjects])]
    refine objectsBut_postIf (own := learnObjects n) ?_ _ _ _ k absent
    exact objectsBut_setOb (objectsBut_setOb (objectsBut_setOb (objectsBut_setOb (objectsBut_refl s _)
      (by simp [learnObjects]) _) (by simp [learnObjects]) _) (by simp [learnObjects]) _) (by simp [learnObjects]) _

/-- R232, R233: what is learned, counted and told of a stored result. -/
theorem ppStore_shows (s : State) (n q v i vbat : Nat) (temp : Int) :
    let t := s.ppStore n q v i vbat temp
    (t.ppCh n).learned.get? q = some (learnedFrom ((s.ppCh n).learned.get? q) v) ∧
      t.ob (Obj.ppLearnCount n) = (s.ob (Obj.ppLearnCount n) + 1) % 2 ^ 32 ∧
      ((s.ppCh n).learned.get? q = none → t.Raised s.now 1274 (ppSig n)) := by
  obtain ⟨most, least, highest, e⟩ := s.ppStore_eq n q v i vbat temp
  rw [e]
  have drift (u : State) := u.comparesDrift_ppCheckDrift n q v vbat temp
  have count : Obj.ppLearnCount n ≠ Obj.ppDrift n := key_ne_of_sub _ _ (by decide)
  refine ⟨?_, ?_, fun first => (drift _).told _ ?_⟩
  · rw [(drift _).learned]
    simp [bump_eq]
  · rw [(drift _).objects _ (by simpa using count), ob_postIf, bump_eq, ob_setOb_same]
    simp [Obj.ppLearnCount, Obj.ppEnvIMax, Obj.ppEnvTMin, Obj.ppEnvTMax]
  · rw [first]
    exact raised_post _ 1274 (ppSig n)

/-! ## A measurement that completes (R232, R234) -/

theorem exec_passportLearn {n : Fin 40} {q : Fin 6} {s : State} (used : s.ppUsed n = true) (learns : ppLearns n q = true)
    (taken : s.cf (Obj.ppLearn n) = 2 ∨ (s.cf (Obj.ppLearn n) = 1 ∧ (s.ppCh n).learned.get? q = none))
    (v : Nat) (temp : Int) (i vbat : Nat) (why : Fin 4) :
    exec (.passportLearn n q v temp i vbat why) s = .next (s.ppMeasured n q v i vbat why temp) :=
  whenever_of (by simpa [used, learns] using taken) _ _

theorem ppMeasured_discards {s : State} {n q v why : Nat} (off : s.ppDiscard n q v why ≠ 0) (i vbat : Nat) (temp : Int) :
    s.ppMeasured n q v i vbat why temp = s.post 1275 (s.ppDiscard n q v why * 2 ^ 24 + ppSig n) := if_pos off

theorem ppMeasured_stores {s : State} {n q v why : Nat} (good : s.ppDiscard n q v why = 0) (i vbat : Nat) (temp : Int) :
    s.ppMeasured n q v i vbat why temp = s.ppStore n q v i vbat temp := if_neg (not_not.mpr good)

/-! ## The requests (R235, R236) -/

/-- R235: the learned values and their envelope are forgotten. -/
theorem doPpRelearn_shows (s : State) (n : Nat) :
    ∃ t, s.doPpRelearn n = .ok t ∧ t.ppCh n = { s.ppCh n with learned := [] } ∧ t.ob (Obj.ppEnvIMax n) = 0 ∧
      t.ob (Obj.ppEnvTMin n) = 0 ∧ t.ob (Obj.ppEnvTMax n) = 0 ∧ t = { s with obj := t.obj, pp := t.pp } ∧
      (∀ m, m ≠ n → t.ppCh m = s.ppCh m) ∧ s.ObjectsBut t [Obj.ppEnvIMax n, Obj.ppEnvTMin n, Obj.ppEnvTMax n] := by
  refine ⟨(((s.setPp n { s.ppCh n with learned := [] }).setOb (Obj.ppEnvIMax n) 0).setOb (Obj.ppEnvTMin n) 0).setOb
    (Obj.ppEnvTMax n) 0, rfl, by simp, ?_, ?_, ob_setOb_same ..,
    frame_setOb (frame_setOb (frame_setOb rfl _ 0) _ 0) _ 0, fun m other => by simp [ppCh_setPp_other _ _ other], ?_⟩
  · simp [Obj.ppEnvIMax, Obj.ppEnvTMin, Obj.ppEnvTMax]
  · simp [Obj.ppEnvTMin, Obj.ppEnvTMax]
  · exact objectsBut_setOb (objectsBut_setOb (objectsBut_setOb (objectsBut_setPp (objectsBut_refl s _) _ _) (by simp) 0)
      (by simp) 0) (by simp) 0

theorem exec_ppRelearn {h : Nat} {n : Fin 40} {s : State} {x : Session} (sv : s.Serves h .service x) :
    exec (.ppRelearn h n) s = (s.asked x).finish ((s.asked x).doPpRelearn n) := by
  show execPpRelearn h n s = _
  exact request_serves sv _ _

theorem ppRelearn_forgets {h : Nat} {n : Fin 40} {s : State} {x : Session} (sv : s.Serves h .service x) :
    ∃ t, exec (.ppRelearn h n) s = .next t ∧ t.ppCh n = { s.ppCh n with learned := [] } ∧ t.ob (Obj.ppEnvIMax n) = 0 ∧
      t.ob (Obj.ppEnvTMin n) = 0 ∧ t.ob (Obj.ppEnvTMax n) = 0 ∧ t = { s.served x with obj := t.obj, pp := t.pp } ∧
      (∀ m, m ≠ n.val → t.ppCh m = s.ppCh m) ∧ s.ObjectsBut t [Obj.ppEnvIMax n, Obj.ppEnvTMin n, Obj.ppEnvTMax n] := by
  obtain ⟨t, e, learned, most, least, highest, frame, others, objects⟩ := (s.asked x).doPpRelearn_shows n
  exact ⟨_, (exec_ppRelearn sv).trans (finish_done e (congrArg State.reply frame)), learned, most, least, highest,
    congrArg (fun u : State => { u with reply := { status := .success } }) frame, others, objects⟩

theorem doPpReference_invalid {s : State} {n : Nat} (invalid : s.ppValid n = false) : s.doPpReference n = .error .valueRange :=
  check_error invalid _ _

/-- R236: the values in force become the reference, and DRIFT clears. -/
theorem doPpReference_valid {s : State} {n : Nat} (valid : s.ppValid n = true) : ∃ normal least highest,
    s.doPpReference n = .ok ((((((s.setOb (Obj.ppRefRCold n) (s.ppVal n 0)).setOb (Obj.ppRefRHot n) (s.ppVal n 1)).setOb
      (Obj.ppRefISet n) normal).setOb (Obj.ppRefL n) (s.ppVal n 2)).setPp n
        { s.ppCh n with referenced := true, driftRuns := [], refTMin := least, refTMax := highest }).setOb (Obj.ppDrift n) 0) :=
  ⟨_, _, _, check_ok valid _ _⟩

theorem doPpReference_shows {s : State} {n : Nat} (valid : s.ppValid n = true) :
    ∃ t, s.doPpReference n = .ok t ∧ t.ob (Obj.ppRefRCold n) = s.ppVal n 0 ∧ t.ob (Obj.ppRefRHot n) = s.ppVal n 1 ∧
      t.ob (Obj.ppRefL n) = s.ppVal n 2 ∧ t.ob (Obj.ppDrift n) = 0 ∧ (t.ppCh n).referenced = true ∧
      (t.ppCh n).learned = (s.ppCh n).learned ∧ t = { s with obj := t.obj, pp := t.pp } ∧
      s.ObjectsBut t [Obj.ppRefRCold n, Obj.ppRefRHot n, Obj.ppRefISet n, Obj.ppRefL n, Obj.ppDrift n] := by
  obtain ⟨normal, least, highest, e⟩ := doPpReference_valid valid
  refine ⟨_, e, ?_, ?_, ?_, ob_setOb_same .., by simp, by simp, rfl, ?_⟩
  · simp [Obj.ppRefRCold, Obj.ppRefRHot, Obj.ppRefISet, Obj.ppRefL, Obj.ppDrift]
  · simp [Obj.ppRefRHot, Obj.ppRefISet, Obj.ppRefL, Obj.ppDrift]
  · simp [Obj.ppRefL, Obj.ppDrift]
  · exact objectsBut_setOb (objectsBut_setPp (objectsBut_setOb (objectsBut_setOb (objectsBut_setOb (objectsBut_setOb
      (objectsBut_refl s _) (by simp) _) (by simp) _) (by simp) _) (by simp) _) _ _) (by simp) 0

theorem exec_ppReference {h : Nat} {n : Fin 40} {s : State} {x : Session} (sv : s.Serves h .service x) :
    exec (.ppReference h n) s = (s.asked x).finish ((s.asked x).doPpReference n) := by
  show execPpReference h n s = _
  exact request_serves sv _ _

theorem ppReference_takes {h : Nat} {n : Fin 40} {s : State} {x : Session} (sv : s.Serves h .service x)
    (valid : s.ppValid n = true) :
    ∃ t, exec (.ppReference h n) s = .next t ∧ t.ob (Obj.ppRefRCold n) = s.ppVal n 0 ∧
      t.ob (Obj.ppRefRHot n) = s.ppVal n 1 ∧ t.ob (Obj.ppRefL n) = s.ppVal n 2 ∧ t.ob (Obj.ppDrift n) = 0 ∧
      (t.ppCh n).referenced = true ∧ (t.ppCh n).learned = (s.ppCh n).learned ∧
      t = { s.served x with obj := t.obj, pp := t.pp } ∧
      s.ObjectsBut t [Obj.ppRefRCold n, Obj.ppRefRHot n, Obj.ppRefISet n, Obj.ppRefL n, Obj.ppDrift n] := by
  obtain ⟨t, e, cold, hot, inductance, drift, referenced, learned, frame, objects⟩ :=
    doPpReference_shows (s := s.asked x) (n := n) valid
  exact ⟨_, (exec_ppReference sv).trans (finish_done e (congrArg State.reply frame)), cold, hot, inductance, drift, referenced, learned,
    congrArg (fun u : State => { u with reply := { status := .success } }) frame, objects⟩

theorem exec_ppClearDrift {h : Nat} {n : Fin 40} {s : State} {x : Session} (sv : s.Serves h .host x) :
    exec (.ppClearDrift h n) s = (s.asked x).finish ((s.asked x).doPpClearDrift n) := by
  show execPpClearDrift h n s = _
  exact request_serves sv _ _

/-- R236: DRIFT and the runs off the reference clear. -/
theorem doPpClearDrift_shows (s : State) (n : Nat) :
    ∃ t, s.doPpClearDrift n = .ok t ∧ t.ob (Obj.ppDrift n) = 0 ∧ (t.ppCh n).driftRuns = [] ∧
      t = { s with obj := t.obj, pp := t.pp } ∧ s.ObjectsBut t [Obj.ppDrift n] :=
  ⟨(s.setPp n { s.ppCh n with driftRuns := [] }).setOb (Obj.ppDrift n) 0, rfl, ob_setOb_same .., by simp, rfl,
    objectsBut_setOb (objectsBut_setPp (objectsBut_refl s _) _ _) List.mem_cons_self 0⟩

theorem ppClearDrift_clears {h : Nat} {n : Fin 40} {s : State} {x : Session} (sv : s.Serves h .host x) :
    ∃ t, exec (.ppClearDrift h n) s = .next t ∧ t.ob (Obj.ppDrift n) = 0 ∧ (t.ppCh n).driftRuns = [] ∧
      t = { s.served x with obj := t.obj, pp := t.pp } ∧ s.ObjectsBut t [Obj.ppDrift n] := by
  obtain ⟨t, e, drift, runs, frame, objects⟩ := (s.asked x).doPpClearDrift_shows n
  exact ⟨_, (exec_ppClearDrift sv).trans (finish_done e (congrArg State.reply frame)), drift, runs,
    congrArg (fun u : State => { u with reply := { status := .success } }) frame, objects⟩

end State

/-- Settles O40: a measurement is discarded or stored by `State.ppDiscard`, and each request by what it leaves of the passport. -/
theorem passportsLearn : Obligations.PassportsLearn := by
  unfold Obligations.PassportsLearn
  refine ⟨fun n q v i vbat temp why s used learns taken => ⟨fun off => ?_, fun good => ?_⟩,
    fun h n s x => ⟨fun sv => ⟨State.ppRelearn_forgets sv, fun invalid => ?_, State.ppReference_takes sv⟩,
      State.ppClearDrift_clears⟩⟩
  · rw [State.exec_passportLearn used learns taken, State.ppMeasured_discards off]
  · obtain ⟨learned, count, told⟩ := s.ppStore_shows n q v i vbat temp
    obtain ⟨frame, others, objects⟩ := s.ppStore_frame n q v i vbat temp
    refine ⟨_, State.exec_passportLearn used learns taken v temp i vbat why, ?_⟩
    rw [State.ppMeasured_stores good]
    exact ⟨learned, count, told, frame, others, objects⟩
  · have refused := State.doPpReference_invalid (s := s.asked x) (n := n) invalid
    rw [State.exec_ppReference sv, refused, State.finish_error]

end Sys2Proof.Machine

/-!
Supplies, temperatures and cables (R242–R250): what a sample shows, each temperature beside the others, and a measurement of a
cable.
-/

namespace Sys2Proof.Machine
namespace State

/-! ## A supply's sample (R242, R243, R250) -/

/-- A supply's measurement signal with a sample, before its objects. -/
def supplySampled (s : State) (m v : Nat) : State :=
  { s with meas := s.meas.write 0 m v, sampled := if s.sampled.contains m then s.sampled else s.sampled ++ [m] }

theorem sampleSupply_eq (s : State) (m v : Nat) :
    s.sampleSupply m v = (((s.supplySampled m v).setOb (Obj.supValue m) v).setOb (Obj.supMin m)
      (min (s.ob (Obj.supMin m)) v)).setOb (Obj.supMax m) (max (s.ob (Obj.supMax m)) v) := rfl

/-- A sample is shown, and moves the extremes. -/
theorem sampleSupply_shows (s : State) (m v : Nat) :
    let t := s.sampleSupply m v
    t.ob (Obj.supValue m) = v ∧ t.ob (Obj.supMin m) = min (s.ob (Obj.supMin m)) v ∧
      t.ob (Obj.supMax m) = max (s.ob (Obj.supMax m)) v ∧ t = { s with obj := t.obj, meas := t.meas, sampled := t.sampled } ∧
      s.ObjectsBut t [Obj.supValue m, Obj.supMin m, Obj.supMax m] := by
  have start : s.ObjectsBut (s.supplySampled m v) [Obj.supValue m, Obj.supMin m, Obj.supMax m] := fun _ _ => rfl
  have frame (u : State) (a b c x y z : Nat) : ((u.setOb a x).setOb b y).setOb c z =
    { u with obj := (((u.setOb a x).setOb b y).setOb c z).obj } := rfl
  rw [sampleSupply_eq]
  refine ⟨?_, ?_, ob_setOb_same .., frame (s.supplySampled m v) .., ?_⟩
  · simp [Obj.supValue, Obj.supMin, Obj.supMax]
  · simp [Obj.supMin, Obj.supMax]
  · exact objectsBut_setOb (objectsBut_setOb (objectsBut_setOb start (by simp) _) (by simp) _) (by simp) _

/-- A sample between the extremes leaves them. -/
theorem sampleSupply_within {s : State} {m v : Nat} (above : s.ob (Obj.supMin m) ≤ v) (below : v ≤ s.ob (Obj.supMax m)) :
    (s.sampleSupply m v).ob (Obj.supMin m) = s.ob (Obj.supMin m) ∧
      (s.sampleSupply m v).ob (Obj.supMax m) = s.ob (Obj.supMax m) := by
  obtain ⟨-, least, most, -, -⟩ := s.sampleSupply_shows m v
  exact ⟨least.trans (Nat.min_eq_left above), most.trans (Nat.max_eq_left below)⟩

/-- A sample that takes a supply to another side of its window, with the event of that. -/
def supplyMoved (s : State) (m v side ev d : Nat) : State := ((s.sampleSupply m v).setOb (Obj.supState m) side).post ev d

theorem supplyMoved_shows (s : State) (m v side ev d : Nat) :
    let t := s.supplyMoved m v side ev d
    t.ob (Obj.supState m) = side ∧ t.ob (Obj.supValue m) = v ∧ t.Raised s.now ev d ∧
      t = { s with obj := t.obj, fab := t.fab, meas := t.meas, sampled := t.sampled } ∧
      s.ObjectsBut t [Obj.supState m, Obj.supValue m, Obj.supMin m, Obj.supMax m] := by
  obtain ⟨value, -, -, frame, objects⟩ := s.sampleSupply_shows m v
  unfold supplyMoved
  generalize s.sampleSupply m v = u at value frame objects
  have now : u.now = s.now := (congrArg State.now frame).trans rfl
  have state : Obj.supState m ≠ Obj.supValue m := key_ne_of_sub _ _ (by decide)
  refine ⟨ob_setOb_same .., (ob_setOb_other u side state).trans value, now ▸ raised_post _ ev d, ?_, ?_⟩
  · exact congrArg (fun w : State => { w with
      obj := (u.setOb (Obj.supState m) side).obj, fab := (u.post ev d).fab }) frame
  · have sampled : s.ObjectsBut u [Obj.supState m, Obj.supValue m, Obj.supMin m, Obj.supMax m] :=
      fun k absent => objects k fun mem => absent (List.mem_cons_of_mem _ mem)
    exact objectsBut_setOb sampled List.mem_cons_self side

/-- R243: a sample outside the window. -/
theorem exec_supplyWindowExit {m : Fin 10} {v : Nat} {s : State} (out : s.supSide m v ≠ 0)
    (new : s.supSide m v ≠ s.ob (Obj.supState m)) :
    exec (.supplyWindowExit m v) s =
      .next (s.supplyMoved m v (s.supSide m v) (1248 + m) (s.supSide m v * 2 ^ 16 + v)) :=
  congrArg Host.Outcome.next (if_neg (not_or.mpr ⟨out, new⟩))

theorem exec_supplyWindowExit_inside {m : Fin 10} {v : Nat} {s : State} (inside : s.supSide m v = 0) :
    exec (.supplyWindowExit m v) s = .next (s.sampleSupply m v) :=
  congrArg Host.Outcome.next (if_pos (.inl inside))

/-- R243: a sample within the window less its hysteresis. -/
theorem exec_supplyWindowReturn {m : Fin 10} {v : Nat} {s : State} (out : s.ob (Obj.supState m) ≠ 0)
    (inside : s.supInside m v = true) :
    exec (.supplyWindowReturn m v) s = .next (s.supplyMoved m v 0 (1258 + m) v) :=
  congrArg Host.Outcome.next (if_neg (by simp [out, inside]))

/-! ## An extreme read (R250) -/

/-- The object of an extreme. -/
def extreme (m : Nat) (mx : Bool) : Nat := if mx then Obj.supMax m else Obj.supMin m

/-- The answer of a read of an extreme. -/
def extremeAnswered (s : State) (m : Nat) (mx : Bool) : State :=
  { s with reply := { s.reply with data := toBytes 2 (s.ob (extreme m mx)) } }

theorem supReadExtreme_sampled {s : State} {m : Nat} (sampled : m ∈ s.sampled) (mx : Bool) :
    s.supReadExtreme m mx = (s.extremeAnswered m mx).setOb (extreme m mx) (s.ob (Obj.supValue m)) :=
  if_pos (by simpa using sampled)

theorem supReadExtreme_unsampled {s : State} {m : Nat} (unsampled : m ∉ s.sampled) (mx : Bool) :
    s.supReadExtreme m mx = s.extremeAnswered m mx := if_neg (by simpa using unsampled)

theorem supReadExtreme_shows (s : State) (m : Nat) (mx : Bool) :
    let t := s.supReadExtreme m mx
    t.reply = { s.reply with data := toBytes 2 (s.ob (extreme m mx)) } ∧ t = { s with obj := t.obj, reply := t.reply } ∧
      s.ObjectsBut t [extreme m mx] ∧ (m ∈ s.sampled → t.ob (extreme m mx) = s.ob (Obj.supValue m)) := by
  have start : s.ObjectsBut (s.extremeAnswered m mx) [extreme m mx] := fun _ _ => rfl
  by_cases sampled : m ∈ s.sampled
  · rw [supReadExtreme_sampled sampled]
    exact ⟨rfl, rfl, objectsBut_setOb start List.mem_cons_self _, fun _ => ob_setOb_same ..⟩
  · rw [supReadExtreme_unsampled sampled]
    exact ⟨rfl, rfl, start, fun h => absurd h sampled⟩

theorem supMinMaxRead_answers {h : Nat} {m : Fin 10} {mx : Bool} {s : State} {x : Session} (sv : s.Serves h .host x) :
    ∃ t, exec (.supMinMaxRead h m mx) s = .next t ∧ t.reply.data = toBytes 2 (s.ob (extreme m mx)) ∧
      t = { s.asked x with obj := t.obj, reply := t.reply } ∧ s.ObjectsBut t [extreme m mx] ∧
      (m.val ∈ s.sampled → t.ob (extreme m mx) = s.ob (Obj.supValue m)) := by
  have run : exec (.supMinMaxRead h m mx) s = (s.asked x).finish (.ok ((s.asked x).supReadExtreme m mx)) := by
    show execSupMinMaxRead h m mx s = _
    exact request_serves sv _ _
  obtain ⟨reply, frame, objects, restarted⟩ := (s.asked x).supReadExtreme_shows m mx
  generalize (s.asked x).supReadExtreme m mx = t at run reply frame objects restarted
  have data : t.reply.data = toBytes 2 (s.ob (extreme m mx)) := congrArg Reply.data reply
  exact ⟨_, run, data, congrArg (fun u : State => { u with
    reply := { t.reply with status := if t.reply.status = Status.none then .success else t.reply.status } }) frame, objects, restarted⟩

/-! ## Temperatures (R245) -/

/-- What a sample of temperature `m` shows: its value, the warning above the limit and its end 5 °C below it. -/
structure WatchesTemp (m : Nat) (x : Int) (s t : State) : Prop where
  value : t.meas.read 0 m = x
  warns : s.tempLimit m < x → m ∈ t.warm ∧ (m ∉ s.warm → t.Raised s.now (1268 + (m - 64)) (wordOf 4 x))
  ends : x ≤ s.tempLimit m - 50 → m ∉ t.warm ∧ (m ∈ s.warm → t.Raised s.now 1273 m)

/-- `t` follows `s` with nothing changed but the temperatures of a list: no other one's value or warning, and no event lost. -/
structure SamplesTemps (l : List Nat) (s t : State) : Prop where
  frame : t = { s with meas := t.meas, warm := t.warm, fab := t.fab }
  values : ∀ m, m ∉ l → t.meas.read 0 m = s.meas.read 0 m
  warm : ∀ m, m ∉ l → (m ∈ t.warm ↔ m ∈ s.warm)
  told : ∀ o ∈ s.fab.inFlight, o ∈ t.fab.inFlight

theorem SamplesTemps.now {l : List Nat} {s t : State} (h : SamplesTemps l s t) : t.now = s.now :=
  (congrArg State.now h.frame).trans rfl

theorem SamplesTemps.tempLimit {l : List Nat} {s t : State} (h : SamplesTemps l s t) (m : Nat) : t.tempLimit m = s.tempLimit m := by
  have cfg : t.cfg = s.cfg := (congrArg State.cfg h.frame).trans rfl
  unfold State.tempLimit
  rw [cf_of_cfg cfg]

theorem tempSample_warns {s : State} {m : Nat} {x : Int} (high : s.tempLimit m < x) (cold : m ∉ s.warm) :
    s.tempSample m x = ({ s with meas := s.meas.write 0 m x, warm := s.warm ++ [m] } : State).post (1268 + (m - 64)) (wordOf 4 x) :=
  if_pos ⟨high, by simpa using cold⟩

theorem tempSample_ends {s : State} {m : Nat} {x : Int} (low : x ≤ s.tempLimit m - 50) (hot : m ∈ s.warm) :
    s.tempSample m x =
      ({ s with meas := s.meas.write 0 m x, warm := s.warm.filter (fun y => y != m) } : State).post 1273 m :=
  (if_neg fun h => absurd (show s.tempLimit m < x from h.1) (by omega)).trans (if_pos ⟨low, by simpa using hot⟩)

theorem tempSample_stays {s : State} {m : Nat} {x : Int} (up : s.tempLimit m < x → m ∈ s.warm)
    (down : x ≤ s.tempLimit m - 50 → m ∉ s.warm) : s.tempSample m x = { s with meas := s.meas.write 0 m x } :=
  (if_neg fun h => absurd (up h.1) (by simpa using h.2)).trans (if_neg fun h => down h.1 (by simpa using h.2))

theorem tempSample_shows (s : State) (m : Nat) (x : Int) :
    SamplesTemps [m] s (s.tempSample m x) ∧ WatchesTemp m x s (s.tempSample m x) := by
  have value : (s.meas.write 0 m x).read 0 m = x := Table.read_write_same ..
  have values (j : Nat) (other : j ∉ [m]) : (s.meas.write 0 m x).read 0 j = s.meas.read 0 j :=
    Table.read_write_other _ _ _ _ (fun same => other (by simp [same]))
  by_cases up : s.tempLimit m < x ∧ m ∉ s.warm
  · obtain ⟨high, cold⟩ := up
    rw [tempSample_warns high cold]
    refine ⟨⟨rfl, values, fun j other => ?_, fun o mem => mem_inFlight_post mem _ _⟩,
      ⟨value, fun _ => ⟨by simp, fun _ => raised_post _ _ _⟩, fun low => by omega⟩⟩
    have ne : j ≠ m := by simpa using other
    simp [ne]
  by_cases down : x ≤ s.tempLimit m - 50 ∧ m ∈ s.warm
  · obtain ⟨low, hot⟩ := down
    rw [tempSample_ends low hot]
    refine ⟨⟨rfl, values, fun j other => ?_, fun o mem => mem_inFlight_post mem _ _⟩,
      ⟨value, fun high => by omega, fun _ => ⟨by simp, fun _ => raised_post _ _ _⟩⟩⟩
    have ne : j ≠ m := by simpa using other
    simp [ne]
  · have up' : s.tempLimit m < x → m ∈ s.warm := fun high => by_contra fun cold => up ⟨high, cold⟩
    have down' : x ≤ s.tempLimit m - 50 → m ∉ s.warm := fun low hot => down ⟨low, hot⟩
    rw [tempSample_stays up' down']
    exact ⟨⟨rfl, values, fun _ _ => .rfl, fun _ => id⟩,
      ⟨value, fun high => ⟨up' high, fun cold => absurd (up' high) cold⟩, fun low => ⟨down' low, fun hot => absurd hot (down' low)⟩⟩⟩

/-- What a temperature shows stands when others are sampled after it. -/
theorem WatchesTemp.before {m : Nat} {x : Int} {l : List Nat} {s u t : State} (h : WatchesTemp m x s u) (k : SamplesTemps l u t)
    (other : m ∉ l) : WatchesTemp m x s t where
  value := (k.values m other).trans h.value
  warns high := ⟨(k.warm m other).mpr (h.warns high).1, fun cold => k.told _ ((h.warns high).2 cold)⟩
  ends low := ⟨mt (k.warm m other).mp (h.ends low).1, fun hot => k.told _ ((h.ends low).2 hot)⟩

/-- What a temperature shows is the same when others were sampled before it. -/
theorem WatchesTemp.after {m : Nat} {x : Int} {l : List Nat} {s u t : State} (h : WatchesTemp m x u t) (k : SamplesTemps l s u)
    (other : m ∉ l) : WatchesTemp m x s t := by
  obtain ⟨value, warns, ends⟩ := h
  rw [k.tempLimit, k.warm m other, k.now] at warns ends
  exact ⟨value, warns, ends⟩

theorem SamplesTemps.trans {l r : List Nat} {s u t : State} (h : SamplesTemps l s u) (k : SamplesTemps r u t) :
    SamplesTemps (l ++ r) s t where
  frame := k.frame.trans (congrArg (fun w : State => { w with meas := t.meas, warm := t.warm, fab := t.fab }) h.frame)
  values m other := by
    rw [List.mem_append, not_or] at other
    exact (k.values m other.2).trans (h.values m other.1)
  warm m other := by
    rw [List.mem_append, not_or] at other
    exact (k.warm m other.2).trans (h.warm m other.1)
  told o mem := k.told o (h.told o mem)

/-- Temperatures sampled one after another. -/
def tempSamples (l : List (Nat × Int)) (s : State) : State := l.foldl (fun s p => s.tempSample p.1 p.2) s

/-- Different temperatures sampled one after another each show what they would alone. -/
theorem tempSamples_shows (l : List (Nat × Int)) (distinct : (l.map Prod.fst).Nodup) (s : State) :
    SamplesTemps (l.map Prod.fst) s (tempSamples l s) ∧ ∀ p ∈ l, WatchesTemp p.1 p.2 s (tempSamples l s) := by
  induction l generalizing s with
  | nil => exact ⟨⟨rfl, fun _ _ => rfl, fun _ _ => .rfl, fun _ => id⟩, nofun⟩
  | cons p l ih =>
    obtain ⟨new, distinct⟩ := List.nodup_cons.mp distinct
    obtain ⟨first, shown⟩ := s.tempSample_shows p.1 p.2
    obtain ⟨rest, each⟩ := ih distinct (s.tempSample p.1 p.2)
    refine ⟨first.trans rest, fun q mem => ?_⟩
    rcases List.mem_cons.mp mem with rfl | later
    · exact shown.before rest new
    · have other : q.1 ∉ [p.1] := fun same =>
        new (List.mem_singleton.mp same ▸ List.mem_map_of_mem later)
      exact (each q later).after first other

/-! ## Cable length (R246, R247) -/

theorem doCableRun_free {s : State} {p : Nat} (free : s.cable.get? p = none) : s.doCableRun p = .ok (s.cableStart p) :=
  check_ok (by simp [free]) _ _

theorem doCableRun_busy {s : State} {p : Nat} (busy : s.cable.get? p ≠ none) : s.doCableRun p = .error .inUse :=
  check_error (by simpa using Option.isSome_iff_ne_none.mpr busy) _ _

theorem exec_cableRun {h : Nat} {p : Fin 8} {s : State} {x : Session} (sv : s.Serves h .service x) :
    exec (.cableRun h p) s = (s.asked x).finish ((s.asked x).doCableRun p) := by
  show execCableRun h p s = _
  exact request_serves sv _ _

theorem cableStart_shows (s : State) (p : Nat) :
    let t := s.cableStart p
    t.cable.get? p = some { since := s.now } ∧ t.ob (Obj.cableBusy p) = 1 ∧ t = { s with obj := t.obj, cable := t.cable } ∧
      s.ObjectsBut t [Obj.cableBusy p] := by
  have start : s.ObjectsBut { s with cable := s.cable.put p { since := s.now } } [Obj.cableBusy p] := fun _ _ => rfl
  exact ⟨Table.get?_put_same .., ob_setOb_same .., rfl, objectsBut_setOb start List.mem_cons_self 1⟩

/-- R246: CABLE_RUN starts a measurement of a port on which none runs. -/
theorem cableRun_starts {h : Nat} {p : Fin 8} {s : State} {x : Session} (sv : s.Serves h .service x)
    (free : s.cable.get? p = none) :
    ∃ t, exec (.cableRun h p) s = .next t ∧ t.cable.get? p = some { since := s.now } ∧ t.ob (Obj.cableBusy p) = 1 ∧
      t = { s.served x with obj := t.obj, cable := t.cable } ∧ s.ObjectsBut t [Obj.cableBusy p] := by
  have starts := doCableRun_free (s := s.asked x) free
  obtain ⟨runs, busy, frame, objects⟩ := (s.asked x).cableStart_shows p
  generalize (s.asked x).cableStart p = t at starts runs busy frame objects
  exact ⟨_, (exec_cableRun sv).trans (finish_done starts (congrArg State.reply frame)), runs, busy,
    congrArg (fun u : State => { u with reply := { status := .success } }) frame, objects⟩

/-- The state in which no measurement of a port runs any more, before its objects. -/
def cableEnded (s : State) (p : Nat) : State := { s with cable := s.cable.erase p }

/-- The state in which a measurement has ended with a length and what was reflected. -/
def cableFound (s : State) (p len e : Nat) : State :=
  ((((s.cableEnded p).setOb (Obj.cableBusy p) 0).setOb (Obj.cableLength p) len).setOb (Obj.cableEnd p) e).cableLimit p

/-- The same told, with value `v` of its events. -/
def cableTold (s : State) (p len e v : Nat) : State := ((s.cableFound p len e).post 1280 v).postIf (2 ≤ e) 1281 v

theorem cableDone_eq (s : State) (p : Nat) (trip : Option Nat) (e : Nat) : ∃ len e' v,
    s.cableDone p trip e = s.cableTold p len e' v := by
  unfold cableDone cableTold cableFound cableEnded
  exact ⟨_, _, _, rfl⟩

theorem cableDone_seen {s : State} {p u e : Nat} (near : s.cf (Obj.cableVf p) * u / 200 ≤ 6000) (some_ : e ≠ 0) :
    s.cableDone p (some u) e = s.cableTold p (s.cf (Obj.cableVf p) * u / 200) e
      (p * 2 ^ 24 + e * 2 ^ 16 + s.cf (Obj.cableVf p) * u / 200 / 10) := by
  simp [cableDone, cableTold, cableFound, cableEnded, near, some_]

theorem cableDone_unseen (s : State) (p e : Nat) :
    s.cableDone p none e = s.cableTold p 0xFFFF 0 (p * 2 ^ 24 + 0xFFFF) := by
  simp [cableDone, cableTold, cableFound, cableEnded]

/-- The objects that a measurement moves. -/
def cableObjects (p : Nat) : List Nat := [Obj.cableBusy p, Obj.cableLength p, Obj.cableEnd p, Obj.bpFlags p]

theorem cableFound_eq (s : State) (p len e : Nat) : ∃ b, s.cableFound p len e =
    ((((s.cableEnded p).setOb (Obj.cableBusy p) 0).setOb (Obj.cableLength p) len).setOb (Obj.cableEnd p) e).setBit
      (Obj.bpFlags p) 3 b := ⟨_, rfl⟩

theorem cableFound_shows (s : State) (p len e : Nat) :
    let t := s.cableFound p len e
    (s.cableEnded p).Shows t ∧ s.ObjectsBut t (cableObjects p) ∧ t.ob (Obj.cableBusy p) = 0 ∧
      t.ob (Obj.cableLength p) = len ∧ t.ob (Obj.cableEnd p) = e := by
  have start : s.ObjectsBut (s.cableEnded p) (cableObjects p) := fun _ _ => rfl
  obtain ⟨b, found⟩ := s.cableFound_eq p len e
  rw [found, setBit_eq]
  refine ⟨(((shows_setOb _ ..).trans (shows_setOb ..)).trans (shows_setOb ..)).trans (shows_setOb ..), ?_, ?_, ?_, ?_⟩
  · exact objectsBut_setOb (objectsBut_setOb (objectsBut_setOb (objectsBut_setOb start (by simp [cableObjects]) _)
      (by simp [cableObjects]) _) (by simp [cableObjects]) _) (by simp [cableObjects]) _
  · simp [Obj.cableBusy, Obj.cableLength, Obj.cableEnd, Obj.bpFlags]
  · simp [Obj.cableLength, Obj.cableEnd, Obj.bpFlags]
  · simp [Obj.cableEnd, Obj.bpFlags]

theorem cableTold_frame (s : State) (p len e v : Nat) :
    let t := s.cableTold p len e v
    t = { s with obj := t.obj, cable := t.cable, fab := t.fab } ∧ s.ObjectsBut t (cableObjects p) := by
  obtain ⟨frame, objects, -⟩ := s.cableFound_shows p len e
  have told := (frame.trans (shows_post _ 1280 v)).trans (shows_postIf _ (2 ≤ e) 1281 v)
  have cable : (s.cableTold p len e v).cable = s.cable.erase p := congrArg State.cable told
  refine ⟨?_, objectsBut_postIf (objectsBut_post objects _ _) _ _ _⟩
  rw [cable]
  exact told

theorem cableTold_shows (s : State) (p len e v : Nat) :
    let t := s.cableTold p len e v
    t.ob (Obj.cableBusy p) = 0 ∧ t.ob (Obj.cableLength p) = len ∧ t.ob (Obj.cableEnd p) = e ∧ t.Raised s.now 1280 v ∧
      (2 ≤ e → t.Raised s.now 1281 v) := by
  obtain ⟨frame, -, busy, length, end_⟩ := s.cableFound_shows p len e
  unfold cableTold
  generalize s.cableFound p len e = u at frame busy length end_
  have now : u.now = s.now := congrArg TimeBase.count frame.tb
  refine ⟨(ob_postIf ..).trans busy, (ob_postIf ..).trans length, (ob_postIf ..).trans end_, ?_, fun bad => ?_⟩
  · exact now ▸ mem_inFlight_postIf (raised_post u 1280 v) _ _ _
  · rw [decide_eq_true bad, ← now]
    exact raised_post (u.post 1280 v) 1281 v

theorem exec_cableMeasured {p : Fin 8} {s : State} (runs : s.cable.get? p ≠ none) (trip : Option Nat) (e : Fin 4) :
    exec (.cableMeasured p trip e) s = .next (s.cableDone p trip e) :=
  whenever_of (Option.isSome_iff_ne_none.mpr runs) _ _

end State

/-- Settles O42: a supply's sample by the side of its window, the temperatures one after another (`State.tempSamples_shows`), and
a cable's measurement by what it shows (`State.cableTold`). -/
theorem suppliesTemperaturesAndCablesAreWatched : Obligations.SuppliesTemperaturesAndCablesAreWatched := by
  unfold Obligations.SuppliesTemperaturesAndCablesAreWatched
  refine ⟨⟨fun m v s => ⟨fun out new => ?_, fun out inside => ?_, State.exec_supplyWindowExit_inside, State.sampleSupply_within⟩,
    fun h m mx s x => State.supMinMaxRead_answers, fun a b c d e s => ?_⟩,
    fun h p s x sv => ⟨State.cableRun_starts sv, fun busy => ?_⟩, fun p trip e s runs => ?_⟩
  · obtain ⟨state, value, told, frame, objects⟩ :=
      s.supplyMoved_shows m v (s.supSide m v) (1248 + m) (s.supSide m v * 2 ^ 16 + v)
    exact ⟨_, State.exec_supplyWindowExit out new, state, value, told, frame, objects⟩
  · obtain ⟨state, value, told, frame, objects⟩ := s.supplyMoved_shows m v 0 (1258 + m) v
    exact ⟨_, State.exec_supplyWindowReturn out inside, state, value, told, frame, objects⟩
  · obtain ⟨others, each⟩ := State.tempSamples_shows [(64, a), (65, b), (66, c), (67, d), (68, e)] (by simp) s
    exact ⟨_, rfl, others.frame, fun p mem => ⟨(each p mem).value, (each p mem).warns, (each p mem).ends⟩⟩
  · have refused := State.doCableRun_busy (s := s.asked x) busy
    rw [State.exec_cableRun sv, refused, State.finish_error]
  · obtain ⟨len, e', v, shown⟩ := s.cableDone_eq p trip e
    obtain ⟨frame, objects⟩ := s.cableTold_frame p len e' v
    obtain ⟨idle, -⟩ := s.cableTold_shows p len e' v
    refine ⟨_, State.exec_cableMeasured runs trip e, shown ▸ idle, shown ▸ frame, shown ▸ objects, ?_, ?_⟩
    · rintro u rfl near some_
      rw [State.cableDone_seen near some_]
      exact (s.cableTold_shows p _ e _).2
    · rintro rfl
      rw [State.cableDone_unseen]
      obtain ⟨-, length, end_, told, -⟩ := s.cableTold_shows p 0xFFFF 0 (p * 2 ^ 24 + 0xFFFF)
      exact ⟨length, end_, told⟩

end Sys2Proof.Machine

/-!
Discovery of a strand (R263) while a request waits for an output that no signal number of R31 names.
-/

namespace Sys2Proof.Machine
namespace State

/-- BP_STATE of port 0 is the number that DOUT_STATUS would have of an output 2009. -/
theorem bpState_0_eq_doutStatus : Obj.bpState 0 = Obj.doutStatus 2009 := rfl

/-- A request of class H to switch on DOUT 2009, which draws nothing. -/
def farRequest : AdmRequest := { sig := mkSig clsDOUT 2009, cls := Cls.h.code, age := 0, value := 10000, prof := {} }

/-- Port 0 in discovery, with a DOUT 2009 enabled whose request waits for admission. -/
def farOutput : State :=
  { State.reset.setOb (Obj.bpState 0) 1 with
    cfg := State.reset.cfg.write 0 (Obj.doutEnable 2009) 1
    hoist := { State.reset.hoist with flyReset := false, powerUp := false }
    arb := { State.reset.arb with queue := [farRequest] } }

/-- A discovery whose four count replies agree on one node, of a known kind. -/
def oneNodeFound : BuntingDiscovery :=
  { counts := List.replicate 4 (some 0), roundTrip := 0, capabilities := [some 0x10000], versions := [some 0] }

/-- The discovery runs the queue (R117), which switches the output on: APPLIED_ON of its status is bit 0 of BP_STATE, 2 before. -/
theorem doutStatus_farOutput_bpDiscovered : (farOutput.bpDiscovered 0 oneNodeFound).ob (Obj.doutStatus 2009) = 3 := by decide

theorem exec_bpDiscovery {p : Fin 8} {s : State} (discovers : s.ob (Obj.bpState p) = 1) (d : BuntingDiscovery) :
    exec (.bpDiscovery p d) s = .next (s.bpDiscovered p d) := whenever_of (decide_eq_true discovers) _ _

end State

/-- Refutes O43: the statement does not ask that what waits for admission names an output of R31, nor for a configuration that a
commit accepts. With a request in the queue for a DOUT 2009, beyond the eight of the part, and that output enabled, a discovery
of port 0 that finds one known node runs the queue and so switches the output on (R117, R211), and the object the model finds
for its status is BP_STATE of the port: it reads 3 where the statement, whose clause does not ask for an empty queue, has 2. -/
theorem not_buntingStrandsDoAsStated : ¬ Obligations.BuntingStrandsDoAsStated := by
  unfold Obligations.BuntingStrandsDoAsStated
  rintro ⟨-, -, discovery, -⟩
  have discovers : State.farOutput.ob (Obj.bpState (0 : Fin 8)) = 1 := by decide
  have agree : State.countOf State.oneNodeFound.counts = some 0 := by decide
  have known : State.badCapability (0 + 1) State.oneNodeFound.capabilities = none := by decide
  obtain ⟨t, run, active, -⟩ := (discovery 0 State.oneNodeFound State.farOutput discovers).2 0 agree known
  obtain rfl := Host.Outcome.next.inj ((State.exec_bpDiscovery discovers State.oneNodeFound).symm.trans run)
  have two : (State.farOutput.bpDiscovered 0 State.oneNodeFound).ob (Obj.bpState 0) = 2 := active
  rw [State.bpState_0_eq_doutStatus, State.doutStatus_farOutput_bpDiscovered] at two
  exact absurd two (by decide)

end Sys2Proof.Machine

/-!
What admission leaves of a matrix port (R110–R122, R276): an output driven, a request admitted and the test run on the queue change
nothing of a port's record but the list of outputs that wait to come on again.
-/

namespace Sys2Proof.Machine
namespace State

/-! ## The record of a port -/

@[simp] theorem mxCh_setMx_same (s : State) (p : Nat) (x : MxPort) : (s.setMx p x).mxCh p = x := Table.read_write_same ..
theorem mxCh_setMx_other (s : State) {p m : Nat} (x : MxPort) (other : p ≠ m) : (s.setMx p x).mxCh m = s.mxCh m :=
  Table.read_write_other _ _ _ _ other
theorem mxCh_of_mx {s t : State} (e : t.mx = s.mx) (p : Nat) : t.mxCh p = s.mxCh p := by
  unfold mxCh
  rw [e]
@[simp] theorem mxCh_setOb (s : State) (k v p : Nat) : (s.setOb k v).mxCh p = s.mxCh p := rfl
@[simp] theorem mxCh_mxPost (s : State) (q k v p : Nat) : (s.mxPost q k v).mxCh p = s.mxCh p := rfl
@[simp] theorem mxCh_mxShowPower (s : State) (q p : Nat) : (s.mxShowPower q).mxCh p = s.mxCh p := rfl

/-! ## An output driven leaves the ports' records -/

theorem mx_ite {c : Prop} [Decidable c] (a b : State) : (if c then a else b).mx = if c then a.mx else b.mx := by
  split <;> rfl
theorem mx_setIn (s : State) (n : Nat) (f : Nat → Nat) (i v : Nat) : (s.setIn n f i v).mx = s.mx := by
  unfold setIn; split <;> rfl
theorem mx_setBit (s : State) (k i : Nat) (b : Bool) : (s.setBit k i b).mx = s.mx := rfl
theorem mx_bump (s : State) (k : Nat) : (s.bump k).mx = s.mx := rfl
theorem mx_setGd (s : State) (n : Nat) (c : GdChannel) : (s.setGd n c).mx = s.mx := rfl
theorem mx_setBr (s : State) (n : Nat) (c : Bridge) : (s.setBr n c).mx = s.mx := rfl
theorem mx_setFan (s : State) (n : Nat) (c : Fan) : (s.setFan n c).mx = s.mx := rfl
theorem mx_setDout (s : State) (n : Nat) (c : Dout) : (s.setDout n c).mx = s.mx := rfl

theorem mx_gdShow (s : State) (c v : Nat) : (s.gdShow c v).mx = s.mx := by
  simp [gdShow, mx_setBit, mx_ite, mx_setIn]
theorem mx_gdApplyAt (s : State) (c v period : Nat) : (s.gdApplyAt c v period).mx = s.mx := by
  simp [gdApplyAt, mx_ite, mx_gdShow]
theorem mx_gdOff (s : State) (c : Nat) : (s.gdOff c).mx = s.mx := by
  simp [gdOff, gdApply, mx_setBit, mx_gdApplyAt, mx_setGd]
theorem mx_gdCancel (s : State) (c : Nat) : (s.gdCancel c).mx = s.mx := by
  have each (l : List Nat) (u : State) : (forEach l (fun u i => u.setGd i { u.gdCh i with off := u.gdHeld i }) u).mx = u.mx := by
    induction l generalizing u with
    | nil => rfl
    | cons i l ih => exact ih _
  unfold gdCancel
  dsimp only
  split
  · rfl
  · exact each _ _
theorem mx_gdDrive (s : State) (c v : Nat) : (s.gdDrive c v).mx = s.mx := by
  simp [gdDrive, gdApply, mx_ite, mx_gdCancel, mx_gdOff, mx_gdApplyAt, mx_setGd]
theorem mx_brStart (s : State) (h : Nat) : (s.brStart h).mx = s.mx := by
  have channels (u : State) (dir duty : Nat) : (u.brChannels h dir duty).mx = u.mx := by
    unfold brChannels
    dsimp only
    split <;> simp [mx_gdApplyAt, mx_gdShow, mx_gdOff]
  simp [brStart, brShow, mx_ite, channels, mx_setBit, mx_setBr]
theorem mx_fanDeliver (s : State) (f v : Nat) : (s.fanDeliver f v).mx = s.mx := by
  simp [fanDeliver, fanStart, fanDuty, fanOff, mx_ite, mx_gdCancel, mx_gdDrive, mx_setBit, mx_setIn, mx_gdShow, mx_gdOff, mx_setFan]
theorem mx_doutDrive (s : State) (d v : Nat) : (s.doutDrive d v).mx = s.mx := by
  simp [doutDrive, doutShow, doutCancel, mx_ite, mx_setBit, mx_setDout]

theorem mx_drive (s : State) (sig v : Nat) : (s.drive sig v).mx = s.mx := by
  unfold drive
  dsimp only
  split
  · rfl
  · split
    · split
      · rfl
      · split
        · exact mx_fanDeliver ..
        · exact mx_gdDrive ..
    · rfl
    · exact mx_doutDrive ..
    · rfl

/-! ## The ledger and the counts of what is shed -/

theorem mx_record (s : State) (r : LedgerRecord) : (s.record r).mx = s.mx := by
  simp [record, storeRecord, dropRecord, mx_ite, mx_bump]
theorem mx_commandOwned (s : State) (sig v : Nat) : (s.commandOwned sig v).mx = s.mx := by
  simp [commandOwned, command, mx_drive, mx_ite, mx_record]
theorem mx_restoredOne (s : State) (sig : Nat) : (s.restoredOne sig).mx = s.mx := by
  simp [restoredOne, showShed, mx_ite, mx_record]
theorem mx_portFit (s : State) (port cls : Nat) : (s.portFit port cls).mx = s.mx := by
  simp [portFit, mx_ite]

/-! ## Admission takes outputs out of the list that waits, and changes no more of a port -/

/-- The record of a port less the outputs that wait to come on again, which admission takes out of it (R117, R277). -/
def mxBase (s : State) (p : Nat) : MxPort := { s.mxCh p with dark := [] }

theorem mxBase_of_mx {s t : State} (e : t.mx = s.mx) (p : Nat) : t.mxBase p = s.mxBase p := by
  unfold mxBase
  rw [mxCh_of_mx e]

theorem mxBase_forEach {α : Type} {f : State → α → State} {p : Nat} (h : ∀ s a, (f s a).mxBase p = s.mxBase p) (l : List α)
    (s : State) : (forEach l f s).mxBase p = s.mxBase p := by
  unfold forEach
  induction l generalizing s with
  | nil => rfl
  | cons a l ih => exact (ih _).trans (h s a)

theorem mxBase_undark (s : State) (sig p : Nat) : (s.undark sig).mxBase p = s.mxBase p := by
  unfold undark mxBase
  by_cases same : mxPort sig = p
  · rw [same, mxCh_setMx_same]
  · rw [mxCh_setMx_other _ _ same]

theorem mxBase_portTake (s : State) (x : Nat × Nat) (p : Nat) : (s.portTake x).mxBase p = s.mxBase p := by
  unfold portTake
  extract_lets lit tagged
  have here : lit.mxBase p = s.mxBase p := by
    unfold lit
    split
    · exact mxBase_undark ..
    · rfl
  refine (mxBase_of_mx (mx_restoredOne ..) p).trans ?_
  split
  · exact (mxBase_of_mx (mx_commandOwned ..) p).trans here
  · exact (mxBase_of_mx (mx_commandOwned ..) p).trans here

theorem mxBase_release (s : State) (r : AdmRequest) (p : Nat) : (s.release r).mxBase p = s.mxBase p := by
  unfold release
  extract_lets s0 _ _ s1 s2
  have factored : s1.mxBase p = s.mxBase p := by
    unfold s1
    split
    · rfl
    · exact mxBase_forEach (fun u f => mxBase_of_mx (mx_setOb u _ _) p) _ s0
  have commanded : s2.mxBase p = s.mxBase p := mxBase_of_mx ((mx_restoredOne ..).trans (mx_commandOwned ..)) p
  split
  · exact (mxBase_of_mx (mx_portFit ..) p).trans ((mxBase_forEach (fun u x => mxBase_portTake u x p) _ _).trans factored)
  · split
    · exact mxBase_of_mx ((mx_restoredOne ..).trans (mx_brStart ..)) p
    · split
      · exact commanded
      · exact commanded

theorem mxBase_admitNow (s : State) (r : AdmRequest) (p : Nat) : (s.admitNow r).mxBase p = s.mxBase p := by
  unfold admitNow
  refine (mxBase_release ..).trans (mxBase_of_mx ?_ p)
  exact (mx_postIf ..).trans (mx_postIf ..)

theorem mxBase_checkOver (s : State) (p : Nat) : s.checkOver.mxBase p = s.mxBase p :=
  mxBase_of_mx (by simp [checkOver, mx_ite]) p

theorem mxBase_runQueueN (n : Nat) (s : State) (p : Nat) : (runQueueN n s).mxBase p = s.mxBase p := by
  induction n generalizing s with
  | zero => exact mxBase_checkOver s p
  | succ n ih =>
    have checked := mxBase_checkOver s p
    unfold runQueueN
    dsimp only
    split
    · exact checked
    · split
      · exact (ih _).trans ((mxBase_admitNow ..).trans checked)
      · exact checked

theorem mxBase_refillN (n : Nat) (s : State) (p : Nat) : (refillN n s).mxBase p = s.mxBase p := by
  induction n generalizing s with
  | zero => rfl
  | succ n ih =>
    unfold refillN
    split
    · rfl
    · split
      · exact (ih _).trans (mxBase_runQueueN 65 _ p)
      · rfl

/-- The test run on the queue changes of a port only what waits to come on again. -/
theorem mxBase_runQueue (s : State) (p : Nat) : s.runQueue.mxBase p = s.mxBase p :=
  (mxBase_refillN _ _ p).trans (mxBase_runQueueN 65 s p)

end State
end Sys2Proof.Machine

/-!
Matrix ports, how they are protected (R277, R278): a port turned off, its retry or latching, its return, and its requests.
-/

namespace Sys2Proof.Machine
namespace State

/-! ## A port's objects -/

theorem out_mxPortI (p : Nat) : outputObject (Obj.mxPortI p) = true := by
  unfold Obj.mxPortI
  rw [outputObject_key _ (by decide)]
  simp
  omega

/-- No switching moves COL_DISABLED or the count of trips. -/
theorem fixed_mxObject (p : Nat) {b : Nat} (field : b = 6 ∨ b = 7) : outputObject (key (0x5201 + 0x10 * p) b) = false := by
  obtain rfl | rfl := field
  · rw [outputObject_key _ (by decide)]
    simp
    omega
  · rw [outputObject_key _ (by decide)]
    simp

theorem mxPortP_ne (p : Nat) {b : Nat} (field : b ≠ 3 ∧ b < 256) : key (0x5201 + 0x10 * p) b ≠ Obj.mxPortP p :=
  key_ne_of_sub _ _ ⟨field.1, field.2, by decide⟩

theorem moves_nil {k : Nat} (fixed : outputObject k = false) : moves [] k = false := by simp [moves, fixed]

@[simp] theorem mxShowPower_kept (s : State) (p : Nat) : (s.mxShowPower p).kept = s.kept := rfl
@[simp] theorem mxPost_kept (s : State) (p k v : Nat) : (s.mxPost p k v).kept = s.kept := rfl
theorem mxPost_quiet {own : List Nat} (s : State) (p k v : Nat) : (s.mxPost p k v).quiet own = s.quiet own := rfl

theorem mxShowPower_quiet {own : List Nat} (s : State) {p : Nat} (mine : Obj.mxPortP p ∈ own) :
    (s.mxShowPower p).quiet own = s.quiet own :=
  (setOb_quiet_own _ _ mine).trans (setOb_quiet' _ _ _ (moves_output (out_mxPortI p)))

theorem raised_mxPost (s : State) (p k v : Nat) : (s.mxPost p k v).Raised s.now (512 + 8 * p + k) v := raised_post ..

/-! ## A port turned off (R277) -/


/-- The record of a port that is turned off: dark, its scan frames to be counted anew, no recovery under way. -/
def portOff (x : MxPort) : MxPort :=
  { x with off := true, eff := [], frames := 0, line := 8, goodSince := none, recover := 0, dark := [] }

theorem mxBase_mxShut (s : State) (p : Nat) : (s.mxShut p).mxBase p = portOff (s.mxCh p) := by
  unfold mxShut
  rw [mxBase_runQueue]
  unfold mxBase
  rw [mxCh_mxShowPower]
  exact congrArg (fun x : MxPort => { x with dark := [] }) (mxCh_setMx_same s p (portOff (s.mxCh p)))

theorem off_mxShut (s : State) (p : Nat) : ((s.mxShut p).mxCh p).off = true := congrArg MxPort.off (mxBase_mxShut s p)
theorem eff_mxShut (s : State) (p : Nat) : ((s.mxShut p).mxCh p).eff = [] := congrArg MxPort.eff (mxBase_mxShut s p)

@[simp] theorem mxShut_kept (s : State) (p : Nat) : (s.mxShut p).kept = s.kept := by simp [mxShut]
theorem mxShut_quiet {own : List Nat} (s : State) {p : Nat} (mine : Obj.mxPortP p ∈ own) : (s.mxShut p).quiet own = s.quiet own := by
  simp [mxShut, mxShowPower_quiet _ mine]

/-! ## The retry that follows a line trip, or latching (R153, R278) -/

theorem mxFault_cases (s : State) (p : Nat) : s.mxFault p = s ∨
    (∃ u, s.mxFault p = (s.setMx p { s.mxCh p with retryAt := some u }).setOb (Obj.mxState p) 2) ∨
    ∃ v, s.mxFault p = (s.setOb (Obj.mxState p) 3).mxPost p 1 v := by
  unfold mxFault
  dsimp only
  split
  · exact .inl rfl
  · split
    · exact .inr (.inl ⟨_, rfl⟩)
    · exact .inr (.inr ⟨_, rfl⟩)

/-- A port that waits or latches stays as dark as it is, and no event on its way is lost. -/
theorem mxFault_leaves (s : State) (p : Nat) :
    ((s.mxFault p).mxCh p).off = (s.mxCh p).off ∧ ((s.mxFault p).mxCh p).eff = (s.mxCh p).eff ∧
      (s.mxFault p).kept = s.kept ∧ (∀ own, (s.mxFault p).quiet own = s.quiet own) ∧
      ∀ o ∈ s.fab.inFlight, o ∈ (s.mxFault p).fab.inFlight := by
  obtain same | ⟨u, waits⟩ | ⟨v, latches⟩ := s.mxFault_cases p
  · rw [same]
    exact ⟨rfl, rfl, rfl, fun _ => rfl, fun _ => id⟩
  · rw [waits, mxCh_setOb, mxCh_setMx_same]
    exact ⟨rfl, rfl, rfl, fun own => by simp, fun _ => id⟩
  · rw [latches]
    exact ⟨rfl, rfl, rfl, fun own => (mxPost_quiet ..).trans (by simp), fun _ h => mem_inFlight_post h _ _⟩

theorem mxFault_latches {s : State} {p : Nat} (safe : s.hoist.safe = false) (noRetries : s.cf (Obj.mxRetryCount p) = 0) :
    (s.mxFault p).ob (Obj.mxState p) = 3 := by
  unfold mxFault
  dsimp only
  rw [if_neg (by simp [safe]), if_neg (by simp [noRetries])]
  exact ob_setOb_same ..

/-! ## A line trip, a column in overvoltage, hot stages (R277) -/

/-- A port off after a line trip, which is counted and told. -/
def lineTripped (s : State) (p line : Nat) : State := ((s.mxShut p).bump (Obj.mxTripCount p)).mxPost p 0 (2 ^ 16 + line)

theorem lineTripped_quiet {own : List Nat} (s : State) {p : Nat} (line : Nat) (power : Obj.mxPortP p ∈ own)
    (count : Obj.mxTripCount p ∈ own) : (s.lineTripped p line).quiet own = s.quiet own :=
  (mxPost_quiet ..).trans ((bump_quiet_own _ count).trans (mxShut_quiet s power))

theorem raised_lineTripped (s : State) (p line : Nat) : (s.lineTripped p line).Raised s.now (512 + 8 * p) (2 ^ 16 + line) := by
  have same : (s.mxShut p).now = s.now := now_of_quiet (mxShut_quiet s (List.mem_singleton_self _))
  rw [← same]
  exact raised_mxPost ((s.mxShut p).bump _) p 0 _

theorem ob_mxTripCount_lineTripped (s : State) (p line : Nat) :
    (s.lineTripped p line).ob (Obj.mxTripCount p) = (s.ob (Obj.mxTripCount p) + 1) % 2 ^ 32 := by
  have still : (s.mxShut p).ob (Obj.mxTripCount p) = s.ob (Obj.mxTripCount p) :=
    (switches_of_quiet (mxShut_quiet s (List.mem_singleton_self _))).2 _ (fixed_mxObject p (by decide))
      (by rw [List.mem_singleton]; exact mxPortP_ne p (by decide))
  rw [← still]
  exact ob_setOb_same ..

theorem mxLineTrip_shuts {p : Fin 2} {s : State} (used : s.cf (Obj.mxEnable p) = 1) (on : (s.mxCh p).off = false) (line : Fin 8) :
    ∃ t, exec (.mxLineTrip p line) s = .next t ∧ t.kept = s.kept ∧ (t.mxCh p).off = true ∧ (t.mxCh p).eff = [] ∧
      t.ob (Obj.mxTripCount p) = (s.ob (Obj.mxTripCount p) + 1) % 2 ^ 32 ∧ s.Switches t [Obj.mxTripCount p, Obj.mxPortP p] ∧
      t.Raised s.now (512 + 8 * p) (2 ^ 16 + line) ∧
      (s.hoist.safe = false → s.cf (Obj.mxRetryCount p) = 0 → t.ob (Obj.mxState p) = 3) := by
  have quiet := s.lineTripped_quiet (own := [Obj.mxTripCount p, Obj.mxPortP p]) (p := p) line (by simp) (by simp)
  obtain ⟨off, eff, kept, quiets, told⟩ := (s.lineTripped p line).mxFault_leaves p
  refine ⟨(s.lineTripped p line).mxFault p, whenever_of (by simp [used, on]) _ _, kept.trans ?_, off.trans (off_mxShut s p),
    eff.trans (eff_mxShut s p), ?_, switches_of_quiet ((quiets _).trans quiet), told _ (raised_lineTripped s p line),
    fun safe noRetries => mxFault_latches ?_ ?_⟩
  · simp [lineTripped]
  · exact (ob_of_quiet (quiets []) (moves_nil (fixed_mxObject p (by decide)))).trans (ob_mxTripCount_lineTripped s p line)
  · rw [(frame_of_still (still_of_quiet quiet)).1, safe]
  · rw [cf_of_cfg (cfg_of_quiet quiet), noRetries]

/-- A column that is disabled: the port's entry follows its current, and the queue is tested. -/
def columnOff (s : State) (p line col : Nat) : State :=
  (((s.setBit (Obj.mxColDisabled p) col true).portFit (mxPortSig p) 4).mxPost p 3 (line * 2 ^ 8 + col)).runQueue

theorem columnOff_quiet {own : List Nat} (s : State) {p : Nat} (line col : Nat) (mine : Obj.mxColDisabled p ∈ own) :
    (s.columnOff p line col).quiet own = s.quiet own := by
  simp [columnOff, mxPost_quiet, mine]

theorem bit_columnOff (s : State) (p line col : Nat) : (s.columnOff p line col).bit (Obj.mxColDisabled p) col = true := by
  have tested : (s.columnOff p line col).ob (Obj.mxColDisabled p) =
      (s.setBit (Obj.mxColDisabled p) col true).ob (Obj.mxColDisabled p) :=
    ob_of_quiet (own := []) (by simp [columnOff, mxPost_quiet]) (moves_nil (fixed_mxObject p (by decide)))
  unfold bit
  rw [tested]
  exact bit_setBit_same ..

theorem mxColumnOvervoltage_disables {p : Fin 2} {s : State} {line col : Fin 8} (used : s.cf (Obj.mxEnable p) = 1)
    (on : (s.mxCh p).off = false) (free : s.bit (Obj.mxColDisabled p) col = false) :
    ∃ t, exec (.mxColumnOvervoltage p line col) s = .next t ∧ t.kept = s.kept ∧ t.bit (Obj.mxColDisabled p) col = true ∧
      s.Switches t [Obj.mxColDisabled p] :=
  ⟨s.columnOff p line col, whenever_of (by simp [used, on, free]) _ _, by simp [columnOff], bit_columnOff ..,
    switches_of_quiet (columnOff_quiet s line col (List.mem_singleton_self _))⟩

/-- A port off with hot stages, which is told. -/
def overheated (s : State) (p : Nat) (temp : Int) : State :=
  ((s.mxShut p).setMx p { (s.mxShut p).mxCh p with hot := true }).mxPost p 4 (wordOf 4 temp)

/-- MX_STATE of an overheated port: a normal one shows that it is off. -/
def overheatShown (u : State) (p : Nat) : State := if u.ob (Obj.mxState p) = 1 then u.setOb (Obj.mxState p) 0 else u

theorem overheatShown_leaves (u : State) (p : Nat) : (u.overheatShown p).mx = u.mx ∧ (u.overheatShown p).fab = u.fab ∧
    (u.overheatShown p).kept = u.kept ∧ ∀ own, (u.overheatShown p).quiet own = u.quiet own := by
  unfold overheatShown
  split
  · exact ⟨rfl, rfl, rfl, fun own => by simp⟩
  · exact ⟨rfl, rfl, rfl, fun _ => rfl⟩

theorem mxCh_overheated (s : State) (p : Nat) (temp : Int) :
    (s.overheated p temp).mxCh p = { (s.mxShut p).mxCh p with hot := true } := by
  unfold overheated
  rw [mxCh_mxPost, mxCh_setMx_same]

theorem raised_overheated (s : State) (p : Nat) (temp : Int) :
    (s.overheated p temp).Raised s.now (512 + 8 * p + 4) (wordOf 4 temp) := by
  have same : (s.mxShut p).now = s.now := now_of_quiet (mxShut_quiet s (List.mem_singleton_self _))
  rw [← same]
  exact raised_mxPost ((s.mxShut p).setMx p _) p 4 _

theorem mxOvertemp_shuts {p : Fin 2} {s : State} {temp : Int} (high : 1700 < temp) (cool : (s.mxCh p).hot = false)
    (used : s.cf (Obj.mxEnable p) = 1) :
    ∃ t, exec (.mxOvertemp p temp) s = .next t ∧ t.kept = s.kept ∧ (t.mxCh p).hot = true ∧ (t.mxCh p).off = true ∧
      (t.mxCh p).eff = [] ∧ t.Raised s.now (512 + 8 * p + 4) (wordOf 4 temp) ∧ s.Switches t [Obj.mxPortP p] := by
  obtain ⟨mx, fab, kept, quiets⟩ := (s.overheated p temp).overheatShown_leaves p
  refine ⟨(s.overheated p temp).overheatShown p, congrArg Host.Outcome.next (if_pos (by simp [high, cool, used])),
    kept.trans (by simp [overheated]), ?_, ?_, ?_, mem_inFlight_of_fab fab (raised_overheated s p temp),
    switches_of_quiet ((quiets _).trans ?_)⟩
  · rw [mxCh_of_mx mx, mxCh_overheated]
  · rw [mxCh_of_mx mx, mxCh_overheated]
    exact off_mxShut s p
  · rw [mxCh_of_mx mx, mxCh_overheated]
    exact eff_mxShut s p
  · exact (mxPost_quiet ..).trans ((setMx_quiet ..).trans (mxShut_quiet s (List.mem_singleton_self _)))

/-- Between its two thresholds a temperature changes nothing. -/
theorem mxOvertemp_between {p : Fin 2} {s : State} {temp : Int} (low : 1500 ≤ temp) (high : temp ≤ 1700) :
    exec (.mxOvertemp p temp) s = .next s := by
  have cold : ¬1700 < temp := Int.not_lt.mpr high
  have hot : ¬temp < 1500 := Int.not_lt.mpr low
  show execMxOvertemp p temp s = _
  simp [execMxOvertemp, cold, hot]

/-! ## An open pixel (R277) -/

/-- The mark of a pixel, told when it is set. -/
def pixelMarked (s : State) (p line col : Nat) (low : Bool) : State :=
  (s.setBit (Obj.mxPixelOpen p) (8 * line + col) low).postIf (low && !s.bit (Obj.mxPixelOpen p) (8 * line + col))
    (512 + 8 * p + 2) (line * 2 ^ 8 + col)

theorem mxPixelOpen_marks {p : Fin 2} {s : State} (used : s.cf (Obj.mxEnable p) = 1) (detects : s.cf (Obj.mxOpenDetect p) = 1)
    (safe : s.hoist.safe = false) (line col : Fin 8) (low : Bool) :
    ∃ t, exec (.mxPixelOpen p line col low) s = .next t ∧ t.bit (Obj.mxPixelOpen p) (8 * line + col) = low ∧
      (low = true → s.bit (Obj.mxPixelOpen p) (8 * line + col) = false → t.Raised s.now (512 + 8 * p + 2) (line * 2 ^ 8 + col)) ∧
      t = { s with obj := t.obj, fab := t.fab } ∧ s.ObjectsBut t [Obj.mxPixelOpen p] := by
  refine ⟨s.pixelMarked p line col low, whenever_of (by simp [used, detects, safe]) _ _, ?_, fun isLow clear => ?_,
    (shows_setBit ..).trans (shows_postIf ..), ?_⟩
  · exact (bit_postIf ..).trans (bit_setBit_same ..)
  · unfold pixelMarked
    rw [isLow, clear]
    exact raised_post (s.setBit _ _ true) _ _
  · exact objectsBut_postIf (objectsBut_setBit (objectsBut_refl s _) (List.mem_singleton_self _) _ _) _ _ _

/-! ## A port that comes on again (R277, R278) -/

/-- `t` is `s` with requests for admission put aside for a port's next frame, and their waits noted. -/
def Raises (s t : State) : Prop := t = { s with obj := t.obj, arb := t.arb } ∧ s.ObjectsBut t [Obj.waitMax]

theorem Raises.refl (s : State) : s.Raises s := ⟨rfl, objectsBut_refl s _⟩

theorem Raises.trans {s t u : State} (h : s.Raises t) (k : t.Raises u) : s.Raises u := by
  obtain ⟨frame, objects⟩ := h
  obtain ⟨frame', objects'⟩ := k
  refine ⟨frame'.trans ?_, fun j other => (objects' j other).trans (objects j other)⟩
  exact congrArg (fun v : State => { v with obj := u.obj, arb := u.arb }) frame

theorem raises_arb (s : State) (a : Arbiter) : s.Raises { s with arb := a } := ⟨rfl, fun _ _ => rfl⟩

theorem raises_noteWait (s : State) (r : AdmRequest) : s.Raises (s.noteWait r) :=
  ⟨rfl, objectsBut_setOb (objectsBut_refl s _) (List.mem_singleton_self _) _⟩

theorem raises_forEach {α : Type} {f : State → α → State} (h : ∀ s a, Raises s (f s a)) (l : List α) (s : State) :
    s.Raises (forEach l f s) := by
  unfold forEach
  induction l generalizing s with
  | nil => exact .refl s
  | cons a l ih => exact (h s a).trans (ih _)

theorem raises_dropRaise (s : State) (sig : Nat) : s.Raises (s.dropRaise sig) := by
  unfold dropRaise withdrawIf
  exact ((raises_forEach raises_noteWait _ s).trans (raises_arb ..)).trans (raises_arb ..)

theorem raises_portRaise (s : State) (sig cls v : Nat) : s.Raises (s.portRaise sig cls v) := by
  unfold portRaise
  extract_lets here u
  have dropped : s.Raises u := by
    unfold u
    split
    · exact .refl s
    · exact (raises_forEach (fun _ _ => raises_arb ..) here s).trans (raises_dropRaise ..)
  exact dropped.trans (raises_arb ..)

/-- A port on again, its lit outputs dark until they are admitted. -/
def portOn (s : State) (p why : Nat) : State :=
  (s.setMx p { s.mxCh p with off := false, recover := why, frames := 0, line := 8
                             dark := (mxSigs p).filter (fun sig => s.commandedOf sig ≠ 0) }).setOb
    (Obj.mxState p) (if s.hoist.safe then 5 else 1)

theorem mxRestart_free {s : State} {p : Nat} (free : s.mxHeld p = false) (used : s.cf (Obj.mxEnable p) = 1) (why : Nat) :
    (s.portOn p why).Raises (s.mxRestart p why) := by
  unfold mxRestart
  rw [if_neg (by simp [free, used])]
  exact raises_forEach (fun u sig => raises_portRaise ..) _ (s.portOn p why)

theorem mxRestart_cases (s : State) (p why : Nat) : s.mxRestart p why = s ∨ (s.portOn p why).Raises (s.mxRestart p why) := by
  unfold mxRestart
  split
  · exact .inl rfl
  · exact .inr (raises_forEach (fun u sig => raises_portRaise ..) _ (s.portOn p why))

theorem Raises.mx {s t : State} (h : s.Raises t) : t.mx = s.mx := (congrArg State.mx h.1).trans rfl
theorem Raises.fab {s t : State} (h : s.Raises t) : t.fab = s.fab := (congrArg State.fab h.1).trans rfl

theorem mxState_ne_waitMax (p : Nat) : Obj.mxState p ≠ Obj.waitMax := key_ne_of_sub _ _ (by decide)

theorem mxCh_portOn (s : State) (p why : Nat) : (s.portOn p why).mxCh p = { s.mxCh p with
    off := false, recover := why, frames := 0, line := 8, dark := (mxSigs p).filter (fun sig => s.commandedOf sig ≠ 0) } := by
  unfold portOn
  rw [mxCh_setOb, mxCh_setMx_same]

theorem ob_mxState_portOn {s : State} (safe : s.hoist.safe = false) (p why : Nat) : (s.portOn p why).ob (Obj.mxState p) = 1 := by
  unfold portOn
  rw [ob_setOb_same, safe]
  rfl

/-! ## A retry that falls due (R153, R278) -/

/-- A port whose retry falls due, before it comes on. -/
def retryTaken (s : State) (p : Nat) : State :=
  (s.setMx p { s.mxCh p with retryAt := none, retries := saturate ((s.mxCh p).retries + 1) 255 }).setOb (Obj.mxState p) 1

theorem mxCh_retryTaken (s : State) (p : Nat) :
    (s.retryTaken p).mxCh p = { s.mxCh p with retryAt := none, retries := saturate ((s.mxCh p).retries + 1) 255 } := by
  unfold retryTaken
  rw [mxCh_setOb, mxCh_setMx_same]

theorem mxHeld_retryTaken {s : State} {p : Nat} (cool : (s.mxCh p).hot = false) (tested : s.ft.stagesOff = []) :
    (s.retryTaken p).mxHeld p = false := by
  have normal : (s.retryTaken p).ob (Obj.mxState p) = 1 := ob_setOb_same ..
  have stages : (s.retryTaken p).ft.stagesOff = [] := tested
  simp [mxHeld, mxCh_retryTaken, cool, stages, normal]

theorem mxRetry_returns {p : Fin 2} {s : State} {u : Tick} (awake : s.awake = true) (waits : (s.mxCh p).retryAt = some u)
    (due : u ≤ s.now) (retry : s.ob (Obj.mxState p) = 2) (safe : s.hoist.safe = false) (cool : (s.mxCh p).hot = false)
    (tested : s.ft.stagesOff = []) (used : s.cf (Obj.mxEnable p) = 1) :
    ∃ t, exec (.mxRetry p) s = .next t ∧ (t.mxCh p).off = false ∧ (t.mxCh p).retryAt = none ∧ (t.mxCh p).recover = 3 ∧
      (t.mxCh p).retries = saturate ((s.mxCh p).retries + 1) 255 ∧ t.ob (Obj.mxState p) = 1 ∧ t.kept = s.kept ∧
      t = { s with obj := t.obj, mx := t.mx, arb := t.arb } ∧ s.ObjectsBut t [Obj.mxState p, Obj.waitMax] := by
  have back := mxRestart_free (mxHeld_retryTaken cool tested) (s := s.retryTaken p) used 3
  have record := (mxCh_of_mx back.mx p).trans ((mxCh_portOn ..).trans (by rw [mxCh_retryTaken]))
  have ports := back.mx
  obtain ⟨frame, objects⟩ := back
  refine ⟨(s.retryTaken p).mxRestart p 3, whenever_of (by simp [awake, waits, due, retry, safe]) _ _, by rw [record], by rw [record],
    by rw [record], by rw [record], ?_, ?_, ?_, fun k other => ?_⟩
  · exact (objects _ (by simpa using mxState_ne_waitMax p)).trans (ob_mxState_portOn (s := s.retryTaken p) safe p 3)
  · simp [retryTaken]
  · rw [ports]
    exact frame
  · obtain ⟨state, wait⟩ : k ≠ Obj.mxState p ∧ k ≠ Obj.waitMax := by simpa using other
    refine (objects k (by simpa using wait)).trans ?_
    exact (ob_setOb_other _ _ state.symm).trans (ob_setOb_other _ _ state.symm)

/-! ## A fault clear (R155, R278) -/

/-- `t` follows `s` with the faults of port `p` cleared: no retry waits or has been used, no column is disabled, and what its
return moves. -/
structure FaultsCleared (p : Nat) (s t : State) : Prop where
  frame : t = { s with obj := t.obj, mx := t.mx, arb := t.arb, fab := t.fab }
  kept : t.kept = s.kept
  objects : s.ObjectsBut t [Obj.mxColDisabled p, Obj.mxState p, Obj.waitMax]
  columns : t.ob (Obj.mxColDisabled p) = 0
  retries : (t.mxCh p).retries = 0
  retryAt : (t.mxCh p).retryAt = none

namespace FaultsCleared
variable {p : Nat} {s t : State}

theorem setMxState (h : FaultsCleared p s t) (v : Nat) : FaultsCleared p s (t.setOb (Obj.mxState p) v) where
  frame := congrArg (fun u : State => { u with obj := (t.setOb (Obj.mxState p) v).obj }) h.frame
  kept := h.kept
  objects := objectsBut_setOb h.objects (by simp) v
  columns := (ob_setOb_other t v (key_ne_of_sub _ _ (by decide))).trans h.columns
  retries := h.retries
  retryAt := h.retryAt

theorem setMx (h : FaultsCleared p s t) {x : MxPort} (retries : x.retries = (t.mxCh p).retries)
    (retryAt : x.retryAt = (t.mxCh p).retryAt) : FaultsCleared p s (t.setMx p x) where
  frame := congrArg (fun u : State => { u with mx := (t.setMx p x).mx }) h.frame
  kept := h.kept
  objects := h.objects
  columns := h.columns
  retries := by rw [mxCh_setMx_same, retries, h.retries]
  retryAt := by rw [mxCh_setMx_same, retryAt, h.retryAt]

theorem portOn (h : FaultsCleared p s t) (why : Nat) : FaultsCleared p s (t.portOn p why) := by
  refine setMxState (t := t.setMx p _) (h.setMx ?_ ?_) _
  · rfl
  · rfl

theorem raises {u : State} (h : FaultsCleared p s t) (k : t.Raises u) (kept : u.kept = t.kept) : FaultsCleared p s u := by
  have record := mxCh_of_mx k.mx p
  refine ⟨?_, kept.trans h.kept, fun j other => ?_, ?_, by rw [record, h.retries], by rw [record, h.retryAt]⟩
  · rw [k.mx, k.fab]
    exact k.1.trans (congrArg (fun v : State => { v with obj := u.obj, arb := u.arb }) h.frame)
  · exact (k.2 j fun mem => other (by simp [List.mem_singleton.mp mem])).trans (h.objects j other)
  · refine (k.2 _ ?_).trans h.columns
    rw [List.mem_singleton]
    exact key_ne_of_sub _ _ (by decide)

theorem mxRestart (h : FaultsCleared p s t) (why : Nat) : FaultsCleared p s (t.mxRestart p why) := by
  obtain same | back := t.mxRestart_cases p why
  · rwa [same]
  · exact (h.portOn why).raises back (t.mxRestart_kept p why)

theorem mxPost (h : FaultsCleared p s t) (k v : Nat) : FaultsCleared p s (t.mxPost p k v) where
  frame := congrArg (fun u : State => { u with fab := (t.mxPost p k v).fab }) h.frame
  kept := h.kept
  objects := h.objects
  columns := h.columns
  retries := h.retries
  retryAt := h.retryAt

end FaultsCleared

/-- A port without retries and with every column enabled. -/
def mxCleared (s : State) (p : Nat) : State :=
  (s.setMx p { s.mxCh p with retryAt := none, retries := 0 }).setOb (Obj.mxColDisabled p) 0

theorem faultsCleared_mxCleared (s : State) (p : Nat) : FaultsCleared p s (s.mxCleared p) := by
  have record : (s.mxCleared p).mxCh p = { s.mxCh p with retryAt := none, retries := 0 } := by
    unfold mxCleared
    rw [mxCh_setOb, mxCh_setMx_same]
  exact ⟨rfl, rfl, objectsBut_setOb (t := s.setMx p _) (fun _ _ => rfl) (by simp) 0, ob_setOb_same ..,
    by rw [record], by rw [record]⟩

theorem doMxFaultClear_hot {s : State} {p : Nat} (hot : (s.mxCh p).hot = true) : s.doMxFaultClear p = .error .configInvalid :=
  check_error (by simp [hot]) _ _

theorem doMxFaultClear_cool {s : State} {p : Nat} (cool : (s.mxCh p).hot = false) :
    ∃ t, s.doMxFaultClear p = .ok t ∧ FaultsCleared p s t := by
  have cleared := s.faultsCleared_mxCleared p
  unfold doMxFaultClear
  rw [check_ok (by simp [cool])]
  extract_lets stopped bare unheld columns shown dark
  have start : FaultsCleared p s shown := by
    unfold shown
    split
    · exact cleared
    · exact cleared.setMxState _
  split
  · exact ⟨_, rfl, start⟩
  · split
    · exact ⟨_, rfl, (start.mxRestart 0).mxPost 6 1⟩
    · split
      · exact ⟨_, rfl, start.mxRestart 1⟩
      · exact ⟨_, rfl, start⟩

theorem exec_mxFaultClear {h : Nat} {p : Fin 2} {s : State} {x : Session} (sv : s.Serves h .host x) :
    exec (.mxFaultClear h p) s = (s.asked x).finish ((s.asked x).doMxFaultClear p) := by
  show execMxFaultClear h p s = _
  exact request_serves sv _ _

theorem mxFaultClear_refused {h : Nat} {p : Fin 2} {s : State} {x : Session} (sv : s.Serves h .host x)
    (hot : (s.mxCh p).hot = true) : exec (.mxFaultClear h p) s = .next { s.asked x with reply := { status := .configInvalid } } := by
  rw [exec_mxFaultClear sv, doMxFaultClear_hot (s := s.asked x) hot, finish_error]

theorem mxFaultClear_clears {h : Nat} {p : Fin 2} {s : State} {x : Session} (sv : s.Serves h .host x)
    (cool : (s.mxCh p).hot = false) :
    ∃ t, exec (.mxFaultClear h p) s = .next t ∧ t.kept = s.kept ∧ (t.mxCh p).retries = 0 ∧ (t.mxCh p).retryAt = none ∧
      t.ob (Obj.mxColDisabled p) = 0 ∧ t = { s.served x with obj := t.obj, mx := t.mx, arb := t.arb, fab := t.fab } ∧
      s.ObjectsBut t [Obj.mxColDisabled p, Obj.mxState p, Obj.waitMax] := by
  obtain ⟨t, e, frame, kept, objects, columns, retries, retryAt⟩ := doMxFaultClear_cool (s := s.asked x) cool
  exact ⟨_, (exec_mxFaultClear sv).trans (finish_done e (congrArg State.reply frame)), kept, retries, retryAt, columns,
    congrArg (fun u : State => { u with reply := { status := .success } }) frame, objects⟩

theorem pixelClear_clears {h : Nat} {p : Fin 2} {s : State} {x : Session} (sv : s.Serves h .service x) :
    exec (.pixelClear h p) s = .next ((s.served x).setOb (Obj.mxPixelOpen p) 0) := by
  show execPixelClear h p s = _
  exact (request_serves sv _ _).trans (finish_done rfl rfl)

end State
end Sys2Proof.Machine

/-!
The line slot of a matrix port (R273–R276): what it shows are the effective values of its line, which what it writes does not move.
-/

namespace Sys2Proof.Machine
namespace State

/-! ## The port's requests, formed at line 0 (R276) -/

theorem portForm_quiet {own : List Nat} (s : State) (port cls rise : Nat) (facs : List (Nat × Nat)) :
    (s.portForm port cls rise facs).quiet own = s.quiet own := by
  simp only [portForm]
  split
  · rfl
  · split
    · simp
    · split <;> simp

theorem portForms_quiet {own : List Nat} (s : State) (port rise : Nat) (facs : List (Nat × Nat × Nat)) :
    (s.portForms port rise facs).quiet own = s.quiet own := by
  simp [portForms, portForm_quiet]

theorem portForm_kept (s : State) (port cls rise : Nat) (facs : List (Nat × Nat)) :
    (s.portForm port cls rise facs).kept = s.kept := by
  simp only [portForm]
  split
  · rfl
  · split
    · simp
    · split <;> simp

theorem portForms_kept (s : State) (port rise : Nat) (facs : List (Nat × Nat × Nat)) :
    (s.portForms port rise facs).kept = s.kept := by
  simp [portForms, portForm_kept]

/-- The state with the port's requests formed, where the slot is that of line 0. -/
def slotFormed (s : State) (p l : Nat) : State :=
  if l = 0 && !s.hoist.safe then s.portForms (mxPortSig p) (8 * s.cf (Obj.mxLinePeriod p)) [] else s

theorem slotFormed_leaves (s : State) (p l : Nat) :
    (s.slotFormed p l).kept = s.kept ∧ (∀ own, (s.slotFormed p l).quiet own = s.quiet own) ∧
      (l ≠ 0 → s.slotFormed p l = s) := by
  unfold slotFormed
  split
  · next formed => exact ⟨portForms_kept .., fun _ => portForms_quiet .., fun other => absurd formed (by simp [other])⟩
  · exact ⟨rfl, fun _ => rfl, fun _ => rfl⟩

/-! ## What a slot shows (R274, R275) -/

/-- The effective values of the first `n` pixels of a line. -/
def lineShown (s : State) (p l : Nat) (n : Nat) (t : Table Nat) : Table Nat :=
  (List.range n).foldl (fun t k => t.write 0 (8 * l + k) (s.mxEff p (8 * l + k))) t

theorem read_lineShown (s : State) (p l : Nat) (t : Table Nat) {n k : Nat} (small : k < n) :
    (s.lineShown p l n t).read 0 (8 * l + k) = s.mxEff p (8 * l + k) := by
  induction n with
  | zero => exact absurd small (Nat.not_lt_zero k)
  | succ n ih =>
    unfold lineShown at ih ⊢
    rw [List.range_succ, List.foldl_append, List.foldl_cons, List.foldl_nil]
    by_cases last : k = n
    · rw [last, Table.read_write_same]
    · rw [Table.read_write_other _ _ _ _ (by omega)]
      exact ih (by omega)

/-- What the slot of line `l` makes of a port's record; `u` is the state with its requests formed. -/
def slotRecord (u : State) (p l : Nat) : MxPort :=
  let c := u.mxCh p
  let frames := if l = 0 && c.line = 7 then saturate (c.frames + 1) 2 else c.frames
  let done := frames ≥ 1 && c.recover ≠ 0
  { c with eff := u.lineShown p l 8 c.eff, line := if l = 0 then 0 else if c.line + 1 = l then l else 8, frames := frames
           recover := if done then 0 else c.recover, goodSince := if done then some u.now else c.goodSince }

/-- A port's record and what it draws, as a slot shows them. -/
def slotShown (u : State) (p : Nat) (x : MxPort) : State := (u.setMx p x).mxShowPower p

theorem mxSlotStart_eq (s : State) (p l : Nat) : ∃ done v, s.mxSlotStart p l =
    ((s.slotFormed p l).slotShown p ((s.slotFormed p l).slotRecord p l)).postIf done (512 + 8 * p + 6) v :=
  ⟨_, _, rfl⟩

/-! ## What an effective value hangs on (R273) -/

/-- The objects that an output's value hangs on: the states of the releases and of the inputs (R93, R407). -/
def SeesLike (u t : State) : Prop :=
  (∀ r < 16, t.ob (Obj.relState r) = u.ob (Obj.relState r)) ∧ ∀ d, t.ob (Obj.dinState d) = u.ob (Obj.dinState d)

/-- The value that a line shows for a pixel or the port master: from the latches under the hoist safe state, else 0 while it waits to
come on again (R273, R279). -/
def lineValue (s : State) (p sig : Nat) : Nat :=
  if s.hoist.safe then s.hoistValue sig (s.commandedOf sig)
  else if (s.mxCh p).dark.contains sig then 0 else s.gated sig (s.commandedOf sig)

theorem mxEff_eq (s : State) (p i : Nat) : s.mxEff p i = if s.bit (Obj.mxColDisabled p) (i % 8) then 0
    else effective (s.lineValue p (mkSig clsMX (64 * p + i))) (s.lineValue p (mkSig clsMX (256 + p))) (s.mxF p []) := rfl

/-! ### Two states that differ in objects, ports' records and events -/

section
variable {u t : State} (frame : t = { u with obj := t.obj, mx := t.mx, fab := t.fab })
include frame

theorem stageOk_congr (sig : Nat) : t.stageOk sig = u.stageOk sig := by
  rw [frame]
  rfl

variable (sees : u.SeesLike t)
include sees

theorem gateOpen_congr (sig : Nat) : t.gateOpen sig = u.gateOpen sig := by
  obtain ⟨releases, -⟩ := sees
  have cf (k : Nat) : t.cf k = u.cf k := cf_of_cfg (congrArg State.cfg frame) k
  unfold gateOpen
  rw [Bool.eq_iff_iff, List.all_eq_true, List.all_eq_true]
  refine forall₂_congr fun r mem => ?_
  rw [releases r (List.mem_range.mp mem), cf, cf, cf]

theorem gated_congr (sig v : Nat) : t.gated sig v = u.gated sig v := by
  unfold gated
  rw [gateOpen_congr frame sees, stageOk_congr frame]

theorem hoistValue_congr (sig v : Nat) : t.hoistValue sig v = u.hoistValue sig v := by
  have latch : t.hoistLatch sig = u.hoistLatch sig := by rw [frame]; rfl
  have full : t.fullOn sig = u.fullOn sig := by rw [frame]; rfl
  unfold hoistValue
  rw [gateOpen_congr frame sees, stageOk_congr frame, latch]
  simp only [full, sees.2]

theorem lineValue_congr {p : Nat} (dark : (t.mxCh p).dark = (u.mxCh p).dark) (sig : Nat) : t.lineValue p sig = u.lineValue p sig := by
  have safe : t.hoist = u.hoist := (congrArg State.hoist frame).trans rfl
  have commanded : t.commandedOf sig = u.commandedOf sig := by
    rw [frame]
    rfl
  unfold lineValue
  rw [safe, dark, commanded, hoistValue_congr frame sees, gated_congr frame sees]

theorem mxEff_congr {p : Nat} (dark : (t.mxCh p).dark = (u.mxCh p).dark) (factor : t.ob (Obj.mxFactor p) = u.ob (Obj.mxFactor p))
    (columns : t.ob (Obj.mxColDisabled p) = u.ob (Obj.mxColDisabled p)) (i : Nat) : t.mxEff p i = u.mxEff p i := by
  have derating : t.mxF p [] = u.mxF p [] := by
    have knee : t.cf (Obj.mxKnee p) = u.cf (Obj.mxKnee p) := cf_of_cfg (congrArg State.cfg frame) _
    unfold mxF
    rw [knee, factor]
  have column : t.bit (Obj.mxColDisabled p) (i % 8) = u.bit (Obj.mxColDisabled p) (i % 8) := congrArg (bitAt · _) columns
  have value := lineValue_congr frame sees dark
  rw [mxEff_eq, mxEff_eq, value, value, derating, column]

end

/-! ### The slot -/

theorem ob_setMx (s : State) (p : Nat) (x : MxPort) (k : Nat) : (s.setMx p x).ob k = s.ob k := rfl

theorem mxCh_slotShown (u : State) (p : Nat) (x : MxPort) : (u.slotShown p x).mxCh p = x :=
  (mxCh_mxShowPower ..).trans (mxCh_setMx_same ..)

theorem ob_slotShown (u : State) {p k : Nat} (x : MxPort) (current : Obj.mxPortI p ≠ k) (power : Obj.mxPortP p ≠ k) :
    (u.slotShown p x).ob k = u.ob k :=
  (ob_setOb_other _ _ power).trans ((ob_setOb_other _ _ current).trans (ob_setMx ..))

/-- PORT_I and PORT_P are not the state of a release or of an input. -/
theorem seesLike_slotShown (u : State) (p : Nat) (x : MxPort) : u.SeesLike (u.slotShown p x) := by
  refine ⟨fun r small => ob_slotShown u x ?_ (key_ne_of_sub _ _ (by decide)),
    fun d => ob_slotShown u x (key_ne_of_sub _ _ (by decide)) (key_ne_of_sub _ _ (by decide))⟩
  unfold Obj.mxPortI Obj.relState key
  omega

theorem slotShown_frame (u : State) (p : Nat) (x : MxPort) : u.slotShown p x =
    { u with obj := (u.slotShown p x).obj, mx := (u.slotShown p x).mx, fab := (u.slotShown p x).fab } := by
  have shown (s : State) (j k v w : Nat) : (s.setOb j v).setOb k w = { s with obj := ((s.setOb j v).setOb k w).obj } := rfl
  exact shown (u.setMx p x) _ _ _ _

/-- Nor are they FACTOR or COL_DISABLED: what a slot shows does not move the effective values of the pixels. -/
theorem mxEff_slotShown (u : State) {p : Nat} {x : MxPort} (same : x.dark = (u.mxCh p).dark) (i : Nat) :
    (u.slotShown p x).mxEff p i = u.mxEff p i := by
  refine mxEff_congr (slotShown_frame ..) (seesLike_slotShown u p x) (by rw [mxCh_slotShown, same]) ?_ ?_ i
  · exact ob_slotShown u x (key_ne_of_sub _ _ (by decide)) (key_ne_of_sub _ _ (by decide))
  · exact ob_slotShown u x (key_ne_of_sub _ _ (by decide)) (key_ne_of_sub _ _ (by decide))

theorem mxEff_postIf (u : State) (c : Bool) (ev v p i : Nat) : (u.postIf c ev v).mxEff p i = u.mxEff p i := by
  cases c <;> rfl

theorem mxLineSlotStart_shows {p : Fin 2} {s : State} {l : Nat} (used : s.cf (Obj.mxEnable p) = 1) (normal : s.ob (Obj.mxState p) = 1)
    (on : (s.mxCh p).off = false) (slot : s.mxSlot p = some l) :
    ∃ t, exec (.mxLineSlotStart p) s = .next t ∧ t.kept = s.kept ∧
      (t.mxCh p).line = (if l = 0 then 0 else if (s.mxCh p).line + 1 = l then l else 8) ∧
      (∀ k < 8, (t.mxCh p).eff.read 0 (8 * l + k) = t.mxEff p (8 * l + k)) ∧ s.Switches t [Obj.mxPortP p] := by
  have run : exec (.mxLineSlotStart p) s = .next (s.mxSlotStart p l) := by
    show execMxLineSlotStart p s = _
    unfold execMxLineSlotStart
    rw [slot]
    exact whenever_of (by simp [used, normal, on]) _ _
  obtain ⟨kept, quiet, same⟩ := s.slotFormed_leaves p l
  obtain ⟨done, v, shown⟩ := s.mxSlotStart_eq p l
  refine ⟨s.mxSlotStart p l, run, ?_⟩
  rw [shown]
  generalize s.slotFormed p l = u at *
  have record : ((u.slotShown p (u.slotRecord p l)).postIf done (512 + 8 * p + 6) v).mxCh p = u.slotRecord p l :=
    (mxCh_of_mx (mx_postIf ..) p).trans (mxCh_slotShown ..)
  refine ⟨by simp [kept, slotShown], ?_, fun k small => ?_, switches_of_quiet ?_⟩
  · rw [record]
    by_cases first : l = 0
    · simp [slotRecord, first]
    · simp [slotRecord, first, same first]
  · rw [record, mxEff_postIf, mxEff_slotShown u (x := u.slotRecord p l) rfl]
    exact read_lineShown u p l _ small
  · exact (postIf_quiet ..).trans ((mxShowPower_quiet _ (List.mem_singleton_self _)).trans ((setMx_quiet ..).trans (quiet _)))

end State

open State in
/-- Settles O44: each command by what it leaves of its port, and the test run on the queue by `State.mxBase_runQueue`: it changes of
a port's record only the outputs that wait to come on again. -/
theorem matrixPortsRunAndAreProtected : Obligations.MatrixPortsRunAndAreProtected := by
  unfold Obligations.MatrixPortsRunAndAreProtected
  exact fun p s => ⟨fun l => mxLineSlotStart_shows, fun line used on => mxLineTrip_shuts used on line,
    fun line col => mxColumnOvervoltage_disables,
    fun line col low used detects safe => mxPixelOpen_marks used detects safe line col low,
    fun temp => ⟨mxOvertemp_shuts, mxOvertemp_between⟩, fun u => mxRetry_returns,
    fun h x => ⟨fun sv => ⟨mxFaultClear_refused sv, mxFaultClear_clears sv⟩, pixelClear_clears⟩⟩

end Sys2Proof.Machine

/-!
A step carries out the command at the front of the queue, every command answers a next state, and none touches
the commands that wait.
-/

namespace Sys2Proof.Machine

/-- An outcome is a next state. -/
def Answers (o : Host.Outcome State Fault Refusal) : Prop := ∃ t, o = .next t

theorem answers_next (t : State) : Answers (.next t) := ⟨t, rfl⟩

theorem answers_whenever (c : Bool) (s t : State) : Answers (whenever c s t) := ⟨_, rfl⟩

theorem answers_request (s : State) (h : Nat) (role : Role) (bytes : List Nat) (body : Session → State → Answer) :
    Answers (s.request h role bytes body) := State.request_next ..

/-- A request that may be made without a session answers a next state. -/
theorem answers_openRequest (s : State) (h ix : Nat) (bytes : List Nat) (body : Nat → Role → State → Answer) :
    Answers (s.openRequest h ix bytes body) := by
  unfold State.openRequest
  split_ifs
  · exact answers_request ..
  · exact answers_next _
  · exact answers_next _
  · exact State.finish_next ..

/-- Every command answers a next state: a request answers whatever becomes of it, an event under a condition leaves the state
as it was where the condition does not hold, and an event that tells cases apart answers in each. -/
theorem exec_answers (c : Instr) (s : State) : Answers (exec c s) := by
  cases c with
  | dictWrite | domainRead | domainWrite | commit | discardPendingSet | domOffsetWrite | addrConfirm | hostClaim |
      hostRelease =>
    unfold exec
    dsimp only [execDictWrite, execDomainRead, execDomainWrite, execCommit, execDiscardPendingSet,
      execDomOffsetWrite, execAddrConfirm, execHostClaim, execHostRelease]
    exact answers_request ..
  | hostReleaseAll | hostEmptyRuleSlots | ownerQuery | heartbeat | safeRelease | loanRelease | gdFaultClear |
      gdDiagRun | brClear =>
    unfold exec
    dsimp only [execHostReleaseAll, execHostEmptyRuleSlots, execOwnerQuery, execHeartbeat, execSafeRelease,
      execLoanRelease, execGdFaultClear, execGdDiagRun, execBrClear]
    exact answers_request ..
  | brForget | fanClear | svRetrigger | svFaultClear | svDiagRun | doutFaultClear | doutDiagRun | ppRelearn |
      ppReference =>
    unfold exec
    dsimp only [execBrForget, execFanClear, execSvRetrigger, execSvFaultClear, execSvDiagRun, execDoutFaultClear,
      execDoutDiagRun, execPpRelearn, execPpReference]
    exact answers_request ..
  | ppClearDrift | supMinMaxRead | cableRun | bpRediscover | bpNodeClear | mxFaultClear | pixelClear | nbRun |
      groupFade =>
    unfold exec
    dsimp only [execPpClearDrift, execSupMinMaxRead, execCableRun, execBpRediscover, execBpNodeClear,
      execMxFaultClear, execPixelClear, execNbRun, execGroupFade]
    exact answers_request ..
  | groupPattern | groupRelease | groupQuery | cmpWrite | tmrStart | tmrStop | tmrReset | tmrResetAndStart | gsArm =>
    unfold exec
    dsimp only [execGroupPattern, execGroupRelease, execGroupQuery, execCmpWrite, execTmrStart, execTmrStop,
      execTmrReset, execTmrResetAndStart, execGsArm]
    exact answers_request ..
  | eventPost | moDataWrite | moDataRead | strayAck | recoverFromBusOff | discardPendingFrames | oneAttemptNow |
      nmHoldStay | nmReleaseStay =>
    unfold exec
    dsimp only [execEventPost, execMoDataWrite, execMoDataRead, execStrayAck, execRecoverFromBusOff,
      execDiscardPendingFrames, execOneAttemptNow, execNmHoldStay, execNmReleaseStay]
    exact answers_request ..
  | nmResume | rtcSecondsWrite | lcRequest | lcConfirm | sessionClose | cjRun | randomRead | debugRequest |
      debugClose =>
    unfold exec
    dsimp only [execNmResume, execRtcSecondsWrite, execLcRequest, execLcConfirm, execSessionClose, execCjRun,
      execRandomRead, execDebugRequest, execDebugClose]
    exact answers_request ..
  | bgClearLock | relOpen | relClose | implRun | ledgerFlush | ledgerAttest | ledgerFormat | stageWrite | updVerify =>
    unfold exec
    dsimp only [execBgClearLock, execRelOpen, execRelClose, execImplRun, execLedgerFlush, execLedgerAttest,
      execLedgerFormat, execStageWrite, execUpdVerify]
    exact answers_request ..
  | updDiscard | updActivate | updNodeRun | updConfirm | splitAck | tileRetest =>
    unfold exec
    dsimp only [execUpdDiscard, execUpdActivate, execUpdNodeRun, execUpdConfirm, execSplitAck, execTileRetest]
    exact answers_request ..
  | dictRead | readRecord =>
    unfold exec
    dsimp only [execDictRead, execReadRecord]
    exact answers_openRequest ..
  | placeHostVote | withdrawHostVote | withdrawAllHostVotes | suspendStandingVotes | restoreStandingVotes =>
    unfold exec
    dsimp only [execPlaceHostVote, execWithdrawHostVote, execWithdrawAllHostVotes, execSuspendStandingVotes,
      execRestoreStandingVotes, State.hostVote]
    exact answers_request ..
  | cfgWrite | registerWrite | keyImport | keyGenerate | keyDerive | keyZero | pkSign | pkVerify | pkExport =>
    -- a request under a condition on its operands
    unfold exec
    dsimp only [execCfgWrite, execRegisterWrite, execKeyImport, execKeyGenerate, execKeyDerive, execKeyZero, execPkSign,
      execPkVerify, execPkExport]
    split
    · exact answers_request ..
    · exact answers_next _
  | sdoExpeditedUpload | sdoTransferTimeout | commitApply | commitDurable | presenceSend | presenceReceive |
      capabilityRequest | capabilityResponse | capabilityRetry =>
    -- an event that tells cases apart
    unfold exec
    dsimp only [execSdoExpeditedUpload, execSdoTransferTimeout, execCommitApply, execCommitDurable,
      execPresenceSend, execPresenceReceive, execCapabilityRequest, execCapabilityResponse, execCapabilityRetry]
    repeat' first
      | exact answers_next _
      | exact answers_whenever ..
      | split
  | pdelayRespReceive | syncMissed | holdoverExpiry | noticeSend | retryResetExpiry | gdRecovered | bridgeCommand |
      svCommand | ainRangeChangeEnd =>
    unfold exec
    dsimp only [execPdelayRespReceive, execSyncMissed, execHoldoverExpiry, execNoticeSend, execRetryResetExpiry,
      execGdRecovered, execBridgeCommand, execSvCommand, execAinRangeChangeEnd]
    repeat' first
      | exact answers_next _
      | exact answers_whenever ..
      | split
  | tachTimeout | svOffsetCalibration | fadeStep | patternStep | globalStart | eventOccurrence | eventRelease |
      canNoticeSend | protocolException =>
    unfold exec
    dsimp only [execTachTimeout, execSvOffsetCalibration, execFadeStep, execPatternStep, execGlobalStart,
      execEventOccurrence, execEventRelease, execCanNoticeSend, execProtocolException]
    repeat' first
      | exact answers_next _
      | exact answers_whenever ..
      | split
  | canTransmissionDone | canTxError | rxObjectTimeout | busOffRecovery | j1939ContendingClaim | nmRingMessage |
      nmRingSend | nmSleepWaitExpiry | nmLimpHomeMessage =>
    unfold exec
    dsimp only [execCanTransmissionDone, execCanTxError, execRxObjectTimeout, execBusOffRecovery,
      execJ1939ContendingClaim, execNmRingMessage, execNmRingSend, execNmSleepWaitExpiry, execNmLimpHomeMessage]
    repeat' first
      | exact answers_next _
      | exact answers_whenever ..
      | split
  | nmKeeper | selectiveWakeFrame | wakePinEdge | busActivityWake | lingerExpiry | wakeHoldExpiry |
      parkingLoadFault | sessionSetupMsg1 | sessionSetupMsg3 =>
    unfold exec
    dsimp only [execNmKeeper, execSelectiveWakeFrame, execWakePinEdge, execBusActivityWake, execLingerExpiry,
      execWakeHoldExpiry, execParkingLoadFault, execSessionSetupMsg1, execSessionSetupMsg3]
    repeat' first
      | exact answers_next _
      | exact answers_whenever ..
      | split
  | setupMsg3Timeout | roleLockoutEnd | sessionIdleTimeout | cipherJobDone | debugWindowExpiry | debugResume |
      extest | bkeyPresence | bkeySettleExpiry =>
    unfold exec
    dsimp only [execSetupMsg3Timeout, execRoleLockoutEnd, execSessionIdleTimeout, execCipherJobDone,
      execDebugWindowExpiry, execDebugResume, execExtest, execBkeyPresence, execBkeySettleExpiry]
    repeat' first
      | exact answers_next _
      | exact answers_whenever ..
      | split
  | lfExchange | burgeeLockoutEnd | releaseWindowExpiry | implementDecision | pageWriteDone | flushTimeExpiry |
      ledgerLinkStart | mastActivation | ensignActivation =>
    unfold exec
    dsimp only [execLfExchange, execBurgeeLockoutEnd, execReleaseWindowExpiry, execImplementDecision,
      execPageWriteDone, execFlushTimeExpiry, execLedgerLinkStart, execMastActivation, execEnsignActivation]
    repeat' first
      | exact answers_next _
      | exact answers_whenever ..
      | split
  | updateRestart | nodeActivation | spareLbist | pwmPeriodStart | mxLineSlotStart | lockRateWindowExpiry |
      j1939ClaimWait =>
    unfold exec
    dsimp only [execUpdateRestart, execNodeActivation, execSpareLbist, execPwmPeriodStart, execMxLineSlotStart,
      execLockRateWindowExpiry, execJ1939ClaimWait]
    repeat' first
      | exact answers_next _
      | exact answers_whenever ..
      | split
  | dieLinkWord | laneFailover | laneRetest | pllLock | pllUnlock | forwardedClockLoss | pllLockTimeout | lfPeriod |
      dictRequestFrame | sdoExpeditedDownload | sdoSegmentedDownload | sdoSegmentedUpload | sdoBlockDownload |
      sdoBlockUpload | sdoNetworkIndication | domainHoldTimeout | piRxFrame | piTxPeriod | piRxTimeout | addrBurstSend
      | addrCodeAccept | addrWaitExpiry | presenceTimeout | plcaBeaconLoss | halyardLinkChange | syncReceive |
      announceReceive | pdelayReqSend | heartbeatLoss | hoistWatchdogTrip | flyResetRelease | reflexSegment |
      slopeExpiry | presentValueStep | dissipationStep | waitWarnExpiry | sagCEnter | sagAEnter | sagEnd | loanFreeze
      | gdTrip | gdRampTimeout | gdGateOpen | gdInterlockFault | gdSoftStartEnd | gdOpenLoad | gdOffDiagCheck |
      gdThermalUpdate | vcpLow | vcpRestored | drainRailAbsent | drainRailRestored | gdRetry | bridgeBrakeEnd |
      bridgeRunMax | bridgeStall | bridgeOpenLoad | forceEstimate | pinch | pinchReversalEnd | lockPulseEnd |
      wiperPark | wipeIntervalExpiry | wiperBlocked | fanLoopUpdate | fanStartFailed | spinupWindowEnd | fanRetry |
      fanStallRunning | tachOpen | tachRestored | svBoostEnd | svPeakHoldEnd | svFastOffEnd | svRegFault |
      svRangeChangeStart | svRangeChangeEnd | svMoveEvaluation | svTrip | svLeak | svOpenLoad | svOffDiagCheck |
      svOvertemp | svRetry | dinEdge | dinChatter | dinOvervoltage | doutTrip | doutCooled | doutRetry | doutOpenLoad
      | doutOffDiagCheck | ainSlot | vsensStateChange | tachEdge | tachGlitching | passportLearn | gdCalibration |
      readingExtrapolated | supplyWindowExit | supplyWindowReturn | temperatureSample | cableMeasured | bpFrame |
      bpLineFault | bpDiscovery | bpRetryExpiry | bpCommandFrame | nodeTimeout | mxLineTrip | mxColumnOvervoltage |
      mxPixelOpen | mxOvertemp | mxRetry | deratingUpdate | nbBallTest | nbOnlineTest | timerCompare | timerOverflow |
      canFrameReceived | txPeriod | txTimeoutExpiry | canBusJoin | aloneRetry | transceiverFault | j1939Claim |
      j1939RequestClaimed | nmAliveTimeout | nmPresentTimeout | domainSwitch | enterDipped | enterHalfMast |
      enterFurled | exitDipped | exitHalfMast | wakeCapture | rtcAlarm | hoistPorRelease | hoistPorAssert |
      flyResetReleaseAtStart | imageCheck | configurationApplied | applyHeldLowVbat | firstSweepStart |
      coreSupplyFault | coreSupplyRestored | resetNLow | vstoreReadiness | strikeTrigger | strikeRestart |
      trngHealthFail | trngRetest | debuggerConnect | trstNLow | debugHalt | bkeyExchange | bkeyRemoved | bkeyHeldLow
      | lfPoll | implementChallenge | pageSeal | linkRetrain | recordsLost | smartRead | nodeDistributionPass |
      nodeImageSwitch | laneMismatch | spareJoined | tileFault | sramClusterFault | mramClusterFault |
      regulatorPhaseFault | stageSelfTest | standbyLaneCheck | sequencerFault | microcodeCheck | scrub | skewCheck |
      transceiverFaultCleared | protocolExceptionEnd | plcaBeaconResume | holderVoteTimer | lfOscillationEstablished =>
    exact ⟨_, rfl⟩

/-- The trivial rule on stored configurations: what waits in the queue hangs on none. -/
def anyConfig : ConfigRule where
  ok _ := True
  waits _ := True
  empty := trivial
  committed _ _ _ _ _ := trivial
  translated _ := trivial
  migrated _ _ _ := trivial

theorem anyConfig_holds (s : State) : anyConfig.Holds s.pending s :=
  ⟨trivial, fun _ _ => trivial, fun _ _ => trivial, fun _ _ => trivial, fun _ _ => trivial, rfl⟩

/-- Settles O1: `step` takes the front command. -/
theorem stepRunsTheFrontCommand : Obligations.StepRunsTheFrontCommand := fun _ _ _ => rfl

/-- Settles O3: by the shapes of the commands, `exec_answers`. -/
theorem everyCommandAnswers : Obligations.EveryCommandAnswers := exec_answers

/-- Settles O4: the queue is kept beside every rule on configurations (`ConfigRule.Holds.exec`), so beside the trivial one. -/
theorem commandsLeaveTheQueueAlone : Obligations.CommandsLeaveTheQueueAlone := by
  intro c s t e
  have ends := (anyConfig_holds s).exec c
  rw [e] at ends
  exact ends.queue

end Sys2Proof.Machine

/-!
Timers and the global start (R292–R299): the rules of a timer's record, what one operation on a timer does, and the commands.
-/

namespace Sys2Proof.Machine
namespace State

/-! ## The record of a timer -/

@[simp] theorem tmr_setTmr_same (s : State) (i : Nat) (x : Timer) : (s.setTmr i x).tmr i = x := Table.read_write_same ..
theorem tmr_setTmr_other (s : State) {i m : Nat} (x : Timer) (h : m ≠ i) : (s.setTmr i x).tmr m = s.tmr m :=
  Table.read_write_other _ _ _ _ h.symm
@[simp] theorem tmr_setOb (s : State) (k v m : Nat) : (s.setOb k v).tmr m = s.tmr m := rfl
@[simp] theorem tmr_post (s : State) (ev v m : Nat) : (s.post ev v).tmr m = s.tmr m := rfl
@[simp] theorem ob_setTmr (s : State) (i : Nat) (x : Timer) (k : Nat) : (s.setTmr i x).ob k = s.ob k := rfl
@[simp] theorem now_setTmr (s : State) (i : Nat) (x : Timer) : (s.setTmr i x).now = s.now := rfl

/-- `t` is `s` with nothing changed but timers and objects. -/
def Times (s t : State) : Prop := t = { s with timers := t.timers, obj := t.obj }

theorem Times.refl (s : State) : s.Times s := rfl
theorem Times.trans {s t u : State} (h : s.Times t) (k : t.Times u) : s.Times u := by
  unfold Times at h k ⊢
  rw [k, h]
theorem times_setTmr (s : State) (i : Nat) (x : Timer) : s.Times (s.setTmr i x) := rfl
theorem times_setOb (s : State) (k v : Nat) : s.Times (s.setOb k v) := rfl
theorem Times.ite {c : Prop} [Decidable c] {s t u : State} (h : s.Times t) (k : s.Times u) : s.Times (if c then t else u) := by
  split
  · exact h
  · exact k

/-! ## One operation on a timer (R296) -/

theorem timerOp_none (s : State) (i cnt : Nat) : s.timerOp i 0 cnt = s := rfl

/-- What any operation on a timer leaves: every other timer, and all objects but its laps and the conflicts. -/
theorem timerOp_leaves (s : State) (i op cnt : Nat) :
    s.Times (s.timerOp i op cnt) ∧ (∀ m, m ≠ i → (s.timerOp i op cnt).tmr m = s.tmr m) ∧
      s.ObjectsBut (s.timerOp i op cnt) [Obj.tmrLaps i, Obj.tmrConflicts] := by
  unfold timerOp
  split
  · exact ⟨.refl s, fun _ _ => rfl, objectsBut_refl s _⟩
  · extract_lets x same run0 c0 old ops stop start reset wasReset running lf next y conflict s1 s2
    have h1 : s.Times s1 ∧ (∀ m, m ≠ i → s1.tmr m = s.tmr m) ∧ s.ObjectsBut s1 [Obj.tmrLaps i, Obj.tmrConflicts] :=
      ⟨times_setTmr .., fun m h => tmr_setTmr_other _ _ h, objectsBut_refl s _⟩
    have h2 : s.Times s2 ∧ (∀ m, m ≠ i → s2.tmr m = s.tmr m) ∧ s.ObjectsBut s2 [Obj.tmrLaps i, Obj.tmrConflicts] := by
      simp only [s2]
      split
      · exact ⟨h1.1.trans (times_setOb ..), h1.2.1, objectsBut_setOb h1.2.2 (by simp) _⟩
      · exact h1
    split
    · exact ⟨h2.1.trans (times_setOb ..), h2.2.1, objectsBut_setOb h2.2.2 (by simp) _⟩
    · exact h2

/-- The operations that reset a timer: 3 reset and 4 reset and start. -/
def opResets (op : Nat) : Bool := op = 3 || op = 4

/-- A timer after the first operation of a tick. -/
def timerAfter (s : State) (i op : Nat) : Timer :=
  let x := s.tmr i
  let c := s.tmrCountNow i
  let run := if op = 2 then false else if op = 3 then x.running else true
  let y := { x with base := if opResets op then 0 else if run then (c + 1) % 2 ^ 48 else c, since := s.now + 1, running := run
                    opTick := some s.now, ops := 2 ^ (op - 1), opRunning := x.running, opCount := c }
  if opResets op then { y with fired := 0, wrapped := false, endedFired := x.fired, endedWrapped := x.wrapped } else y

/-- The first operation of a tick outside low-frequency mode: nothing contradicts it. -/
theorem timerOp_fresh {s : State} {i op : Nat} (calm : s.tb.lfMode = false) (fresh : (s.tmr i).opTick ≠ some s.now)
    (valid : op = 1 ∨ op = 2 ∨ op = 3 ∨ op = 4) :
    s.timerOp i op 0 = if opResets op then (s.setTmr i (s.timerAfter i op)).bump (Obj.tmrLaps i)
      else s.setTmr i (s.timerAfter i op) := by
  obtain rfl | rfl | rfl | rfl := valid <;>
    simp [timerOp, timerAfter, opResets, fresh, calm, bitAt]

theorem timerAfter_since (s : State) (i op : Nat) : (s.timerAfter i op).since = s.now + 1 := by
  unfold timerAfter
  dsimp only
  split <;> rfl

/-- TMR_CMD and a global start at a tick with no operation before (R298, R299). -/
theorem timerOp_acts {s : State} {i op : Nat} (calm : s.tb.lfMode = false) (fresh : (s.tmr i).opTick ≠ some s.now)
    (valid : op = 1 ∨ op = 2 ∨ op = 3 ∨ op = 4) :
    (s.timerOp i op 0).tmr i = s.timerAfter i op ∧
      (s.timerOp i op 0).ob (Obj.tmrLaps i) =
        (if opResets op then (s.ob (Obj.tmrLaps i) + 1) % 2 ^ 32 else s.ob (Obj.tmrLaps i)) ∧
      s.ObjectsBut (s.timerOp i op 0) [Obj.tmrLaps i] := by
  rw [timerOp_fresh calm fresh valid]
  split
  · exact ⟨tmr_setTmr_same .., ob_setOb_same .., objectsBut_setOb (objectsBut_refl s _) (List.mem_singleton_self _) _⟩
  · exact ⟨tmr_setTmr_same .., rfl, objectsBut_refl s _⟩

/-! ## Compares and overflow (R292, R294, R297) -/

/-- A compare that fires at a tick without a reset, with no action. -/
theorem cmpFires_eq {s : State} {i k : Nat} (calm : s.tb.lfMode = false) (fresh : (s.tmr i).opTick ≠ some s.now)
    (still : actionOp (s.cf (Obj.tmrCmpkAction i k)) = 0) :
    s.cmpFires i k = (s.setTmr i { s.tmr i with fired := setBitTo (s.tmr i).fired k true
                                                passed := setBitTo (s.tmr i).passed k false }).post (912 + 4 * i + k) 0 := by
  simp [cmpFires, tmrResetNow, fresh, calm, still, timerOp_none, saturate]

theorem cmpDue_of_fired {s : State} {i k : Nat} (fresh : (s.tmr i).opTick ≠ some s.now) (fired : bitAt (s.tmr i).fired k = true) :
    s.cmpDue i k = false := by
  simp [cmpDue, tmrResetNow, fresh, fired]

theorem timerCompare_fires {i : Fin 32} {k : Fin 4} {s : State} (calm : s.tb.lfMode = false)
    (fresh : (s.tmr i).opTick ≠ some s.now) (due : s.cmpDue i k = true) (still : actionOp (s.cf (Obj.tmrCmpkAction i k)) = 0) :
    ∃ t, exec (.timerCompare i k) s = .next t ∧ bitAt (t.tmr i).fired k = true ∧ bitAt (t.tmr i).passed k = false ∧
      t.Raised s.now (912 + 4 * i + k) 0 ∧ t = { s with timers := t.timers, fab := t.fab } ∧
      (∀ m, m ≠ i.val → t.tmr m = s.tmr m) ∧ t.cmpDue i k = false := by
  have run : exec (.timerCompare i k) s = .next (s.cmpFires i k) := congrArg Host.Outcome.next (if_pos due)
  refine ⟨_, run, ?_⟩
  rw [cmpFires_eq calm fresh still]
  have fired : bitAt (setBitTo (s.tmr i).fired k true) k = true := bitAt_setBitTo_same ..
  refine ⟨by simpa using fired, ?_, raised_post .., rfl, fun m h => tmr_setTmr_other _ _ h, cmpDue_of_fired ?_ ?_⟩
  · simpa using bitAt_setBitTo_same (s.tmr i).passed k false
  · simpa using fresh
  · simpa using fired

theorem tmrOverflows_eq {s : State} {i : Nat} (calm : s.tb.lfMode = false) (still : actionOp (s.cf (Obj.tmrOvfAction i)) = 0) :
    s.tmrOverflows i = ((s.setTmr i { s.tmr i with base := s.tmrRaw i - 2 ^ 48, since := s.now, fired := 0, wrapped := true }).bump
      (Obj.tmrLaps i)).post (912 + 4 * i + 3) (2 ^ 24) := by
  simp [tmrOverflows, calm, still, timerOp_none, saturate]

/-- What a new lap under a record `y` shows. -/
theorem lap_shows (s : State) (i : Nat) (y : Timer) (ev v : Nat) :
    let t := ((s.setTmr i y).bump (Obj.tmrLaps i)).post ev v
    t.tmr i = y ∧ t.ob (Obj.tmrLaps i) = (s.ob (Obj.tmrLaps i) + 1) % 2 ^ 32 ∧ t.Raised s.now ev v ∧
      t = { s with timers := t.timers, obj := t.obj, fab := t.fab } ∧ (∀ m, m ≠ i → t.tmr m = s.tmr m) ∧
      s.ObjectsBut t [Obj.tmrLaps i] :=
  ⟨tmr_setTmr_same .., ob_setOb_same .., raised_post .., rfl, fun _ h => tmr_setTmr_other _ _ h,
    objectsBut_setOb (objectsBut_refl s _) (List.mem_singleton_self _) _⟩

theorem timerOverflow_laps {i : Fin 32} {s : State} (calm : s.tb.lfMode = false) (runs : (s.tmr i).running = true)
    (full : 2 ^ 48 ≤ s.tmrRaw i) (still : actionOp (s.cf (Obj.tmrOvfAction i)) = 0) :
    ∃ t, exec (.timerOverflow i) s = .next t ∧
      t.tmr i = { s.tmr i with base := s.tmrRaw i - 2 ^ 48, since := s.now, fired := 0, wrapped := true } ∧
      t.ob (Obj.tmrLaps i) = (s.ob (Obj.tmrLaps i) + 1) % 2 ^ 32 ∧ t.Raised s.now (912 + 4 * i + 3) (2 ^ 24) ∧
      t = { s with timers := t.timers, obj := t.obj, fab := t.fab } ∧ (∀ m, m ≠ i.val → t.tmr m = s.tmr m) ∧
      s.ObjectsBut t [Obj.tmrLaps i] := by
  have run : exec (.timerOverflow i) s = .next (s.tmrOverflows i) := congrArg Host.Outcome.next (if_pos (by simpa [runs] using full))
  rw [tmrOverflows_eq calm still] at run
  exact ⟨_, run, lap_shows ..⟩

/-! ## Requests (R295, R298, R299) -/

theorem exec_cmpWrite {h : Nat} {i : Fin 32} {k : Fin 4} {v : BitVec 48} {s : State} {x : Session} (sv : s.Serves h .host x) :
    exec (.cmpWrite h i k v) s = (s.asked x).finish ((s.asked x).doCmpWrite i k v.toNat) := by
  show execCmpWrite h i k v s = _
  exact request_serves sv _ _

theorem exec_gsArm {h : Nat} {s : State} {x : Session} (sv : s.Serves h .host x) :
    exec (.gsArm h) s = (s.asked x).finish (s.asked x).doGsArm := by
  show execGsArm h s = _
  exact request_serves sv _ _

theorem cmpWrite_waits {h : Nat} {i : Fin 32} {k : Fin 4} {v : BitVec 48} {s : State} {x : Session} (sv : s.Serves h .host x) :
    ∃ t, exec (.cmpWrite h i k v) s = .next t ∧ t.ob (Obj.tmrCmpk i k) = v.toNat ∧
      bitAt (t.tmr i).fired k = decide (v.toNat ≤ s.tmrCountNow i) ∧ bitAt (t.tmr i).passed k = decide (v.toNat ≤ s.tmrCountNow i) ∧
      t = { s.served x with timers := t.timers, obj := t.obj } ∧ (∀ m, m ≠ i.val → t.tmr m = s.tmr m) ∧
      s.ObjectsBut t [Obj.tmrCmpk i k] := by
  refine ⟨_, (exec_cmpWrite sv).trans (finish_done rfl rfl), ob_setOb_same .., ?_, ?_, rfl, fun m h => tmr_setTmr_other _ _ h,
    objectsBut_setOb (s := s) (t := s.asked x) (objectsBut_refl s _) (List.mem_singleton_self _) _⟩
  · exact (congrArg (fun y : Timer => bitAt y.fired k) (tmr_setTmr_same (s.asked x) ..)).trans (bitAt_setBitTo_same ..)
  · exact (congrArg (fun y : Timer => bitAt y.passed k) (tmr_setTmr_same (s.asked x) ..)).trans (bitAt_setBitTo_same ..)

/-- The four commands of TMR_CMD. -/
theorem exec_tmrCmds {h : Nat} {i : Fin 32} {s : State} {x : Session} (sv : s.Serves h .host x) :
    exec (.tmrStart h i) s = (s.asked x).finish ((s.asked x).doTmrCmd i 1) ∧
      exec (.tmrStop h i) s = (s.asked x).finish ((s.asked x).doTmrCmd i 2) ∧
      exec (.tmrReset h i) s = (s.asked x).finish ((s.asked x).doTmrCmd i 3) ∧
      exec (.tmrResetAndStart h i) s = (s.asked x).finish ((s.asked x).doTmrCmd i 4) := by
  refine ⟨?_, ?_, ?_, ?_⟩
  · show execTmrStart h i s = _
    exact request_serves sv _ _
  · show execTmrStop h i s = _
    exact request_serves sv _ _
  · show execTmrReset h i s = _
    exact request_serves sv _ _
  · show execTmrResetAndStart h i s = _
    exact request_serves sv _ _

/-- A command of TMR_CMD at a tick with no operation before. -/
theorem tmrCmd_acts {i : Fin 32} {c : Instr} {op : Nat} {s : State} {x : Session}
    (run : exec c s = (s.asked x).finish ((s.asked x).doTmrCmd i op)) (valid : op = 1 ∨ op = 2 ∨ op = 3 ∨ op = 4)
    (calm : s.tb.lfMode = false) (fresh : (s.tmr i).opTick ≠ some s.now) :
    ∃ t, exec c s = .next t ∧ t.tmr i = s.timerAfter i op ∧
      t.ob (Obj.tmrLaps i) = (if opResets op then (s.ob (Obj.tmrLaps i) + 1) % 2 ^ 32 else s.ob (Obj.tmrLaps i)) ∧
      t = { s.served x with timers := t.timers, obj := t.obj } ∧ (∀ m, m ≠ i.val → t.tmr m = s.tmr m) ∧
      s.ObjectsBut t [Obj.tmrLaps i] := by
  have taken : (s.asked x).doTmrCmd i op = .ok ((s.asked x).timerOp i op 0) := check_ok (by simp; omega) ..
  obtain ⟨times, others, -⟩ := (s.asked x).timerOp_leaves i op 0
  obtain ⟨own, laps, objects⟩ := timerOp_acts (s := s.asked x) calm fresh valid
  have silent : ((s.asked x).timerOp i op 0).reply = {} := by rw [times]; rfl
  refine ⟨_, run.trans (finish_done taken silent), own, laps, ?_, others, objects⟩
  rw [times]
  rfl

theorem gsArm_refused {h : Nat} {s : State} {x : Session} (sv : s.Serves h .host x) :
    (s.ob Obj.gsMask = 0 → exec (.gsArm h) s = .next { s.asked x with reply := { status := .valueRange } }) ∧
    (s.ob Obj.gsMask ≠ 0 → s.ob Obj.gsBase = 1 → s.ob Obj.syncState = 0 ∨ s.ob Obj.syncState = 1 →
      exec (.gsArm h) s = .next { s.asked x with reply := { status := .configInvalid } }) := by
  rw [exec_gsArm sv]
  refine ⟨fun none_ => ?_, fun some_ base out => ?_⟩
  · rw [show (s.asked x).doGsArm = .error .valueRange from check_error (by simp [none_]) ..]
    rfl
  · rw [show (s.asked x).doGsArm = .error .configInvalid from
      (check_ok (by simp [some_]) ..).trans (check_error (by obtain e | e := out <;> simp [base, e]) ..)]
    rfl

theorem gsArm_arms {h : Nat} {s : State} {x : Session} (sv : s.Serves h .host x) (some_ : s.ob Obj.gsMask ≠ 0)
    (base : s.ob Obj.gsBase = 0) :
    ∃ t g, exec (.gsArm h) s = .next t ∧ t.gsArmed = some g ∧ g.mask = s.ob Obj.gsMask ∧ g.op = s.ob Obj.gsOp ∧ s.now < g.n0 ∧
      (s.ob Obj.gsAt = 0 → g.n0 = s.now + 1 ∧ t.ob Obj.gsState = 1) ∧
      (s.now < s.ob Obj.gsAt → g.n0 = s.ob Obj.gsAt ∧ t.ob Obj.gsState = 1) ∧
      (s.ob Obj.gsAt ≠ 0 → s.ob Obj.gsAt ≤ s.now → g.n0 = s.now + 1 ∧ t.ob Obj.gsState = 3) ∧
      t = { s.served x with gsArmed := t.gsArmed, obj := t.obj } ∧ s.ObjectsBut t [Obj.gsState] := by
  let n := if s.ob Obj.gsAt = 0 then s.now + 1 else s.ob Obj.gsAt
  let g : GsArmed := { mask := s.ob Obj.gsMask, op := s.ob Obj.gsOp, n0 := if n ≤ s.now then s.now + 1 else n }
  have armed : (s.asked x).doGsArm =
      .ok (({ s.asked x with gsArmed := some g } : State).setOb Obj.gsState (if n ≤ s.now then 3 else 1)) := by
    refine (check_ok (by simp [some_]) ..).trans ((check_ok (by simp [base]) ..).trans ?_)
    simp only [asked_ob, asked_now, base, if_true, decide_eq_true_eq]
    rfl
  have shown := ob_setOb_same ({ s.asked x with gsArmed := some g } : State) Obj.gsState (if n ≤ s.now then 3 else 1)
  refine ⟨_, g, (exec_gsArm sv).trans (finish_done armed rfl), rfl, rfl, rfl, ?_, fun now => ⟨?_, shown.trans ?_⟩,
    fun later => ⟨?_, shown.trans ?_⟩, fun given past => ⟨?_, shown.trans ?_⟩, rfl,
    objectsBut_setOb (s := s) (t := { s.asked x with gsArmed := some g }) (objectsBut_refl s _) (List.mem_singleton_self _) _⟩
  all_goals simp only [g, n]; grind

/-! ## The global start (R299) -/

/-- One timer at the tick of a global start. -/
def gsStep (g : GsArmed) (s : State) (i : Nat) : State := if bitAt g.mask i then s.timerOp i g.op 0 else s

theorem gsStep_named {g : GsArmed} {s : State} {i : Nat} (named : bitAt g.mask i = true) :
    gsStep g s i = s.timerOp i g.op 0 := if_pos named

/-- A timer's step leaves what the start is armed for, every other timer and the object that shows it. -/
theorem gsStep_leaves (g : GsArmed) (s : State) (i : Nat) :
    s.Times (gsStep g s i) ∧ (∀ m, m ≠ i ∨ bitAt g.mask i = false → (gsStep g s i).tmr m = s.tmr m) ∧
      (gsStep g s i).ob Obj.gsState = s.ob Obj.gsState := by
  unfold gsStep
  split
  · next named =>
    obtain ⟨times, others, objects⟩ := s.timerOp_leaves i g.op 0
    exact ⟨times, fun m h => others m (h.resolve_right (by simp [named])), objects _ (by simp [Obj.gsState, Obj.tmrLaps, Obj.tmrConflicts, key]; omega)⟩
  · exact ⟨.refl s, fun _ _ => rfl, rfl⟩

/-- The steps of all timers leave the timers that the mask does not name, and those not yet reached. -/
theorem gsSteps_leave (g : GsArmed) (s : State) (n : Nat) :
    s.Times (forRange n (gsStep g) s) ∧ (∀ m, n ≤ m ∨ bitAt g.mask m = false → (forRange n (gsStep g) s).tmr m = s.tmr m) ∧
      (forRange n (gsStep g) s).ob Obj.gsState = s.ob Obj.gsState := by
  induction n with
  | zero => exact ⟨.refl s, fun _ _ => rfl, rfl⟩
  | succ n ih =>
    obtain ⟨times, left, shown⟩ := ih
    obtain ⟨times', left', shown'⟩ := gsStep_leaves g (forRange n (gsStep g) s) n
    rw [forRange_succ]
    refine ⟨times.trans times', fun m h => ?_, shown'.trans shown⟩
    have later : m ≠ n ∨ bitAt g.mask n = false := by
      by_cases e : m = n
      · subst e
        exact .inr (h.resolve_left (by omega))
      · exact .inl e
    rw [left' m later, left m (h.imp (by omega) id)]

/-- A reset at a tick with no operation before sets the count to 0, in low-frequency mode too (R299). -/
theorem timerOp_reset {s : State} {i : Nat} (fresh : (s.tmr i).opTick ≠ some s.now) : ((s.timerOp i 3 0).tmr i).base = 0 := by
  simp [timerOp, fresh, bitAt, bump]

/-- A timer of the mask is reset to 0. -/
theorem gsSteps_reset {g : GsArmed} {s : State} {i : Nat} (named : bitAt g.mask i = true) (reset : g.op = 3)
    (fresh : (s.tmr i).opTick ≠ some s.now) {n : Nat} (reached : i < n) : ((forRange n (gsStep g) s).tmr i).base = 0 := by
  induction n with
  | zero => omega
  | succ n ih =>
    rw [forRange_succ]
    by_cases last : i = n
    · subst last
      obtain ⟨times, left, -⟩ := gsSteps_leave g s i
      have now : (forRange i (gsStep g) s).now = s.now := by rw [times]; rfl
      rw [gsStep_named named, reset]
      exact timerOp_reset (by rw [left i (.inl le_rfl), now]; exact fresh)
    · rw [(gsStep_leaves g (forRange n (gsStep g) s) n).2.1 i (.inl last)]
      exact ih (by omega)

theorem gsFire_eq (s : State) (g : GsArmed) : s.gsFire g =
    let t := forRange 32 (gsStep g) { s with gsArmed := none }
    if t.ob Obj.gsState = 3 then t else t.setOb Obj.gsState 2 := rfl

theorem globalStart_reaches {s : State} {g : GsArmed} (armed : s.gsArmed = some g) (due : g.n0 ≤ s.now) :
    ∃ t, exec .globalStart s = .next t ∧ t.gsArmed = none ∧ t.ob Obj.gsState = (if s.ob Obj.gsState = 3 then 3 else 2) ∧
      t = { s with gsArmed := none, timers := t.timers, obj := t.obj } ∧ (∀ i < 32, bitAt g.mask i = false → t.tmr i = s.tmr i) ∧
      (∀ i < 32, bitAt g.mask i = true → g.op = 3 → (s.tmr i).opTick ≠ some s.now → (t.tmr i).base = 0) := by
  have run : exec .globalStart s = .next (s.gsFire g) := by
    show execGlobalStart s = _
    simp [execGlobalStart, armed, whenever, due]
  have steps := gsSteps_leave g { s with gsArmed := none } 32
  have resets (i : Nat) (small : i < 32) (named : bitAt g.mask i = true) (reset : g.op = 3)
      (fresh : (s.tmr i).opTick ≠ some s.now) := gsSteps_reset (s := { s with gsArmed := none }) named reset fresh small
  rw [gsFire_eq] at run
  generalize forRange 32 (gsStep g) { s with gsArmed := none } = u at run steps resets
  obtain ⟨times, left, shown⟩ := steps
  have frame : u = { s with gsArmed := none, timers := u.timers, obj := u.obj } := times
  have shown : u.ob Obj.gsState = s.ob Obj.gsState := shown
  dsimp only at run
  rw [shown] at run
  refine ⟨_, run, ?_⟩
  split
  · next late => exact ⟨congrArg gsArmed frame, shown.trans late, frame, fun i _ out => left i (.inr out), resets⟩
  · refine ⟨congrArg gsArmed frame, ob_setOb_same .., ?_, fun i _ out => left i (.inr out), resets⟩
    exact congrArg (fun v : State => { v with obj := (u.setOb Obj.gsState 2).obj }) frame

end State

open State in
/-- Settles O47: each command by the one operation it carries out on a timer. -/
theorem timersAndGlobalStartsDoAsStated : Obligations.TimersAndGlobalStartsDoAsStated := by
  unfold Obligations.TimersAndGlobalStartsDoAsStated
  refine ⟨fun i s calm fresh => ⟨fun k => timerCompare_fires calm fresh, timerOverflow_laps calm, fun h x sv =>
      ⟨fun k v => cmpWrite_waits sv, fun c member => ?_⟩⟩,
    fun h s x sv => ⟨(gsArm_refused sv).1, (gsArm_refused sv).2, gsArm_arms sv⟩, fun s g => globalStart_reaches⟩
  obtain ⟨start, stop, reset, both⟩ := exec_tmrCmds (i := i) sv
  simp only [List.mem_cons, List.not_mem_nil, or_false] at member
  obtain rfl | rfl | rfl | rfl := member
  · obtain ⟨t, run, own, rest⟩ := tmrCmd_acts start (by simp) calm fresh
    exact ⟨t, run, by rw [own]; rfl, by rw [own]; rfl, by rw [own]; rfl, rest⟩
  · obtain ⟨t, run, own, rest⟩ := tmrCmd_acts stop (by simp) calm fresh
    exact ⟨t, run, by rw [own]; rfl, by rw [own]; rfl, by rw [own]; rfl, rest⟩
  · obtain ⟨t, run, own, rest⟩ := tmrCmd_acts reset (by simp) calm fresh
    exact ⟨t, run, by rw [own]; rfl, by rw [own]; rfl, by rw [own]; rfl, rest⟩
  · obtain ⟨t, run, own, rest⟩ := tmrCmd_acts both (by simp) calm fresh
    exact ⟨t, run, by rw [own]; rfl, by rw [own]; rfl, by rw [own]; rfl, rest⟩

end Sys2Proof.Machine

/-!
Events (R303–R307): what the fabric does with the oldest occurrence on its way and with the first that waits for release.
-/

namespace Sys2Proof.Machine
namespace State

/-! ## What waits for release, the counts, and what no destination of an event moves -/

/-- The occurrences that wait for release, the counts of events, the configuration, the sessions, the claims, the sag states and
the fades and patterns. -/
def stands (s : State) : List Occ × Table Nat × Regs × List Session × Ownership × Arbiter × Lighting :=
  (s.fab.pend, s.fab.occurrences, s.cfg, s.sessions, s.kept)

theorem stands_iff {s t : State} : t.stands = s.stands ↔
    t.fab.pend = s.fab.pend ∧ t.fab.occurrences = s.fab.occurrences ∧ t.cfg = s.cfg ∧ t.sessions = s.sessions ∧
      t.kept = s.kept := by
  simp [stands]

theorem stands_ite {c : Prop} [Decidable c] {s t u : State} (h : t.stands = s.stands) (k : u.stands = s.stands) :
    (if c then t else u).stands = s.stands := by
  split
  · exact h
  · exact k

theorem stands_timerOp (s : State) (i op cnt : Nat) : (s.timerOp i op cnt).stands = s.stands := by
  obtain ⟨times, -, -⟩ := s.timerOp_leaves i op cnt
  rw [times]
  rfl

theorem stands_logFault (s : State) (id : Nat) (sev : Severity) (level : Nat) (ts : Tick) (ev place offset v : Nat) :
    (s.logFault id sev level ts ev place offset v).stands = s.stands := by
  unfold logFault
  exact stands_ite rfl rfl

theorem stands_logOccurrence (s : State) (o : Occ) : (s.logOccurrence o).stands = s.stands := by
  unfold logOccurrence
  exact stands_ite rfl (stands_logFault ..)

theorem stands_dropRecord (s : State) : s.dropRecord.stands = s.stands := by
  unfold dropRecord
  exact stands_ite rfl rfl

theorem stands_record (s : State) (r : LedgerRecord) : (s.record r).stands = s.stands := by
  unfold record
  exact stands_ite rfl (stands_ite (stands_dropRecord s) (stands_ite rfl rfl))

theorem stands_logRuntime (s : State) (o : Occ) : (s.logRuntime o).stands = s.stands := by
  unfold logRuntime
  exact stands_ite rfl rfl

theorem stands_halyardNotice (s : State) (o : Occ) : (s.halyardNotice o).stands = s.stands := by
  unfold halyardNotice
  exact stands_ite rfl (stands_ite rfl rfl)

theorem stands_canNotice (s : State) (o : Occ) : (s.canNotice o).stands = s.stands := by
  unfold canNotice
  exact stands_ite rfl rfl

/-- A delivery leaves what waits for release (R304, R305). -/
theorem stands_deliverFrom (held : Bool) (s : State) (o : Occ) : (deliverFrom held s o).stands = s.stands := by
  unfold deliverFrom
  extract_lets r new s1 s2 fab s3 s4
  have h1 : s1.stands = s.stands := stands_ite (stands_record ..) rfl
  have h2 : s2.stands = s.stands := stands_ite ((stands_logRuntime ..).trans h1) h1
  have h3 : s3.stands = s.stands := h2
  have h4 : s4.stands = s.stands := stands_ite ((stands_halyardNotice ..).trans h3) h3
  exact stands_ite h2 (stands_ite h2 (stands_ite ((stands_canNotice ..).trans h4) h4))

/-- An event of no route is delivered nowhere. -/
theorem deliver_unrouted {s : State} {o : Occ} (none_ : bitsOf (s.routeOf o.ev) 0 4 = 0) : s.deliver o = s := by
  have bit (i : Nat) (small : i < 4) : bitAt (s.routeOf o.ev) i = false := by
    unfold bitsOf at none_
    unfold bitAt
    interval_cases i <;> simp only [decide_eq_false_iff_not] <;> omega
  simp [deliver, deliverFrom, bit]

/-! ## The commands -/

theorem pwrState_timerOp (s : State) (i op cnt : Nat) : (s.timerOp i op cnt).ob Obj.pwrState = s.ob Obj.pwrState := by
  obtain ⟨-, -, objects⟩ := s.timerOp_leaves i op cnt
  refine objects _ ?_
  simp [Obj.pwrState, Obj.tmrLaps, Obj.tmrConflicts, key]
  omega

/-- The oldest occurrence is counted and, where it is routed outside Half-mast, put in its place; no claim moves. -/
theorem occurrence_places (s : State) (o : Occ) (rest : List Occ) :
    let t := s.occurrence o rest
    t.fab.occurrences = s.fab.occurrences.write 0 o.ev ((s.fab.occurrences.read 0 o.ev + 1) % 2 ^ 32) ∧
      (s.ob Obj.pwrState ≠ pwrHalfMast →
        t.fab.pend = (if bitsOf (s.routeOf o.ev) 0 4 = 0 then s.fab.pend else insertOcc o s.fab.pend)) ∧
      t.cfg = s.cfg ∧ t.sessions = s.sessions ∧ t.kept = s.kept := by
  unfold occurrence
  extract_lets fab s1 r s2 own f3 s3 half f4 s4 routed f5 t
  simp only [t]
  have counted : s1.fab.occurrences = s.fab.occurrences.write 0 o.ev ((s.fab.occurrences.read 0 o.ev + 1) % 2 ^ 32) := rfl
  have h2 : s2.stands = s1.stands := stands_timerOp ..
  have h3 : s3.stands = s1.stands := stands_ite h2 h2
  have h4 : s4.stands = s1.stands := stands_ite h3 ((stands_logOccurrence ..).trans h3)
  have state : s3.ob Obj.pwrState = s.ob Obj.pwrState := by
    have h := pwrState_timerOp s1 (routeTimer r) (routeTimerOp r) 0
    simp only [s3]
    split <;> exact h
  obtain ⟨pend, counts, cfg, sessions, kept⟩ := stands_iff.mp h4
  have awake : ∀ {u : State}, s.ob Obj.pwrState ≠ pwrHalfMast → half → u.fab.pend = (if bitsOf r 0 4 = 0 then s.fab.pend
      else insertOcc o s.fab.pend) := fun no yes => absurd (state.symm.trans yes) no
  by_cases none_ : bitsOf r 0 4 = 0
  · rw [if_pos (by simp [routed, none_])]
    exact ⟨counts.trans counted, fun _ => pend.trans (if_pos none_).symm, cfg, sessions, kept⟩
  · rw [if_neg (by simp [routed, none_])]
    by_cases low : half
    · rw [if_pos low]
      split
      · exact ⟨counts.trans counted, (awake · low), cfg, sessions, kept⟩
      · exact ⟨counts.trans counted, (awake · low), cfg, sessions, kept⟩
    · rw [if_neg low]
      refine ⟨counts.trans counted, fun _ => ?_, cfg, sessions, kept⟩
      exact (congrArg (insertOcc o) pend).trans (if_neg none_).symm

theorem eventOccurrence_places {s : State} {o : Occ} {rest : List Occ} (first : s.fab.inFlight = o :: rest) :
    ∃ t, exec .eventOccurrence s = .next t ∧
      t.fab.occurrences.read 0 o.ev = (s.fab.occurrences.read 0 o.ev + 1) % 2 ^ 32 ∧
      (∀ e, e ≠ o.ev → t.fab.occurrences.read 0 e = s.fab.occurrences.read 0 e) ∧
      (s.ob Obj.pwrState ≠ pwrHalfMast →
        t.fab.pend = (if bitsOf (s.routeOf o.ev) 0 4 = 0 then s.fab.pend else insertOcc o s.fab.pend)) ∧
      t.cfg = s.cfg ∧ t.sessions = s.sessions ∧ t.kept = s.kept := by
  have run : exec .eventOccurrence s = .next (s.occurrence o rest) := by
    show execEventOccurrence s = _
    simp only [execEventOccurrence, first]
  obtain ⟨counts, placed⟩ := occurrence_places s o rest
  refine ⟨_, run, ?_, fun e other => ?_, placed⟩
  · rw [counts, Table.read_write_same]
  · rw [counts, Table.read_write_other _ _ _ _ other.symm]

theorem eventRelease_delivers {s : State} {o : Occ} {rest : List Occ} (first : s.fab.pend = o :: rest) :
    (s.passed o.ts 250 = true → ∃ t, exec .eventRelease s = .next t ∧ t.fab.pend = rest ∧ t.cfg = s.cfg ∧
      t.sessions = s.sessions ∧ (bitsOf (s.routeOf o.ev) 0 4 = 0 → t = { s with fab := { s.fab with pend := rest } })) ∧
    (s.passed o.ts 250 = false → exec .eventRelease s = .next s) := by
  have run : exec .eventRelease s =
      whenever (s.passed o.ts 250) s (({ s with fab := { s.fab with pend := rest } }).deliver o) := by
    show execEventRelease s = _
    simp only [execEventRelease, first]
  rw [run]
  refine ⟨fun due => ?_, fun early => by rw [early]; rfl⟩
  obtain ⟨pend, -, cfg, sessions, -⟩ :=
    stands_iff.mp (stands_deliverFrom false { s with fab := { s.fab with pend := rest } } o)
  exact ⟨_, congrArg Host.Outcome.next (if_pos due), pend, cfg, sessions, fun none_ => deliver_unrouted none_⟩

theorem exec_eventPost {h : Nat} {v : BitVec 64} {s : State} {x : Session} (sv : s.Serves h .host x) :
    exec (.eventPost h v) s = (s.asked x).finish ((s.asked x).doEventPost v.toNat) := by
  show execEventPost h v s = _
  exact request_serves sv _ _

theorem doEventPost_raises {s : State} {v : Nat} (reserved : bitsOf v 32 16 = 0) (low : 1472 ≤ bitsOf v 48 16)
    (high : bitsOf v 48 16 ≤ 1535) : s.doEventPost v = .ok (s.post (bitsOf v 48 16) (bitsOf v 0 32)) :=
  (check_ok (by simp [reserved]) ..).trans (check_ok (by simp [low, high]) ..)

theorem doEventPost_refused {s : State} {v : Nat} (reserved : bitsOf v 32 16 = 0)
    (out : bitsOf v 48 16 < 1472 ∨ 1535 < bitsOf v 48 16) : s.doEventPost v = .error .valueRange :=
  (check_ok (by simp [reserved]) ..).trans (check_error (by simp; omega) ..)

end State

open State in
/-- Settles O48: an occurrence by what stands beside its place, a release by what every delivery leaves. -/
theorem eventsAreOrderedAndReleased : Obligations.EventsAreOrderedAndReleased := by
  unfold Obligations.EventsAreOrderedAndReleased
  refine ⟨fun s o rest => eventOccurrence_places, fun s o rest => eventRelease_delivers, fun h v s x sv =>
    ⟨fun reserved low high => ?_, fun reserved out => ?_⟩⟩
  · rw [exec_eventPost sv, doEventPost_raises reserved low high]
    rfl
  · rw [exec_eventPost sv, doEventPost_refused reserved out]
    rfl

end Sys2Proof.Machine

/-!
Votes (R348–R350): what a holder's votes become, and what a change of votes leaves alone.
-/

namespace Sys2Proof.Machine
namespace State

/-! ## The votes of one holder -/

/-- Holder `k` votes on domain `d`. -/
def votes (s : State) (d k : Nat) : Bool := bitAt (s.pw.votes.read 0 d) k

/-- `t` is `s` with nothing changed but the vote registers. -/
def Polls (s t : State) : Prop := t = { s with pw := { s.pw with votes := t.pw.votes } }

theorem Polls.refl (s : State) : s.Polls s := rfl
theorem Polls.trans {s t u : State} (h : s.Polls t) (k : t.Polls u) : s.Polls u := by
  unfold Polls at h k ⊢
  rw [k, h]

/-- The vote of holder `h` on one domain of a mask. -/
def putVote (h mask : Nat) (b : Bool) (s : State) (d : Nat) : State :=
  if bitAt mask d then
    { s with pw := { s.pw with votes := s.pw.votes.write 0 d (setBitTo (s.pw.votes.read 0 d) h b) } } else s

theorem polls_putVote (h mask : Nat) (b : Bool) (s : State) (d : Nat) : s.Polls (putVote h mask b s d) := by
  unfold putVote
  split <;> rfl

theorem votes_putVote (h mask : Nat) (b : Bool) (s : State) (d e k : Nat) :
    (putVote h mask b s d).votes e k = if e = d ∧ bitAt mask d = true ∧ k = h then b else s.votes e k := by
  unfold putVote votes
  by_cases named : bitAt mask d = true
  · rw [if_pos named]
    by_cases own : e = d
    · subst own
      simp only [Table.read_write_same, named, true_and]
      by_cases holder : k = h
      · rw [if_pos holder, holder, bitAt_setBitTo_same]
      · rw [if_neg holder, bitAt_setBitTo_other _ _ (Ne.symm holder)]
    · simp only [own, false_and, if_false, Table.read_write_other _ _ _ _ (Ne.symm own)]
  · simp [named]

/-- The votes of holder `h` on the first domains of a mask. -/
theorem putVote_range (h mask : Nat) (b : Bool) (s : State) (n : Nat) :
    s.Polls (forRange n (putVote h mask b) s) ∧ ∀ e k, (forRange n (putVote h mask b) s).votes e k =
      if e < n ∧ bitAt mask e = true ∧ k = h then b else s.votes e k := by
  induction n with
  | zero => exact ⟨.refl s, fun e k => by simp [forRange]⟩
  | succ n ih =>
    obtain ⟨polls, read⟩ := ih
    rw [forRange_succ]
    refine ⟨polls.trans (polls_putVote ..), fun e k => ?_⟩
    rw [votes_putVote, read]
    by_cases last : e = n
    · subst last
      by_cases named : bitAt mask e = true ∧ k = h
      · simp [named]
      · simp [named]
    · have low : e < n + 1 ↔ e < n := by omega
      simp [last, low]

theorem polls_putVotes (s : State) (h mask : Nat) (b : Bool) : s.Polls (s.putVotes h mask b) := (putVote_range h mask b s 19).1

theorem votes_putVotes (s : State) (h mask : Nat) (b : Bool) (e k : Nat) :
    (s.putVotes h mask b).votes e k = if e < 19 ∧ bitAt mask e = true ∧ k = h then b else s.votes e k :=
  (putVote_range h mask b s 19).2 e k

theorem bitAt_allDomains {d : Nat} (known : d < 19) : bitAt allDomains d = true := by
  unfold allDomains
  interval_cases d <;> rfl

/-! ## What follows a change of votes -/

/-- The objects a change of votes may move. -/
def voteObjects : List Nat := [Obj.pwrTarget, Obj.pwrTransition, Obj.lastWakeCause, Obj.lastWakeDetail]

/-- `t` is `s` after votes have moved: only votes, their consequences and the four objects have changed. -/
structure Voted (s t : State) : Prop where
  frame : t = { s with pw := t.pw, obj := t.obj }
  objects : s.ObjectsBut t voteObjects
  timers : t.pw.timers = s.pw.timers

theorem Voted.refl (s : State) : s.Voted s := ⟨rfl, objectsBut_refl s _, rfl⟩

theorem Voted.trans {s t u : State} (h : s.Voted t) (k : t.Voted u) : s.Voted u where
  frame := by rw [k.frame, h.frame]
  objects j hj := (k.objects j hj).trans (h.objects j hj)
  timers := k.timers.trans h.timers

theorem Polls.voted {s t : State} (h : s.Polls t) : s.Voted t := by
  unfold Polls at h
  exact ⟨by rw [h], by rw [h]; exact objectsBut_refl s _, by rw [h]⟩

theorem voted_setOb (s : State) {k : Nat} (own : k ∈ voteObjects) (v : Nat) : s.Voted (s.setOb k v) :=
  ⟨rfl, objectsBut_setOb (objectsBut_refl s _) own v, rfl⟩

theorem voted_beginExit (s : State) (cause detail : Nat) : s.Voted (s.beginExit cause detail) :=
  ⟨rfl, objectsBut_setOb (s := s) (t := { s with pw := { s.pw with cause := (cause, detail % 2 ^ 16), lowSince := none } })
    (objectsBut_refl s _) (by simp [voteObjects]) _, rfl⟩

theorem voted_recordWake (s : State) (cause detail : Nat) : s.Voted (s.recordWake cause detail) :=
  (voted_setOb s (by simp [voteObjects]) _).trans (voted_setOb _ (by simp [voteObjects]) _)

theorem voted_holdVotes (s : State) (at_ : Tick) : s.Voted (s.holdVotes at_) := by
  refine Voted.trans (t := { s with pw := { s.pw with holdUntil := some (at_ + ms (s.cf Obj.wakeHold)) } })
    ⟨rfl, objectsBut_refl s _, rfl⟩ ?_
  exact (polls_putVotes ..).voted.trans (polls_putVotes ..).voted

/-- The wake hold's votes are holder 8's alone. -/
theorem votes_holdVotes (s : State) (at_ : Tick) (d : Nat) {k : Nat} (other : k ≠ 8) : (s.holdVotes at_).votes d k = s.votes d k := by
  unfold holdVotes
  simp only [votes_putVotes, other, and_false, if_false]
  rfl

/-- What follows a change of votes: one branch per state of a transition (R350, R354). -/
theorem votesMoved_stays (s : State) (old holder : Nat) :
    s.Voted (s.votesMoved old holder) ∧ ∀ d k, k ≠ 8 → (s.votesMoved old holder).votes d k = s.votes d k := by
  unfold votesMoved
  extract_lets r s1 st tr
  have shown : s.Voted s1 := voted_setOb s (by simp [voteObjects]) _
  have same : ∀ d k, s1.votes d k = s.votes d k := fun _ _ => rfl
  have part : ∀ {u : State}, s1.Voted u → (∀ d k, k ≠ 8 → u.votes d k = s1.votes d k) →
      s.Voted u ∧ ∀ d k, k ≠ 8 → u.votes d k = s.votes d k :=
    fun v w => ⟨shown.trans v, fun d k other => (w d k other).trans (same d k)⟩
  have kept {f : Power} (votes : f.votes = s1.pw.votes) (timers : f.timers = s1.pw.timers) :
      s.Voted { s1 with pw := f } ∧ ∀ d k, k ≠ 8 → ({ s1 with pw := f } : State).votes d k = s.votes d k :=
    part ⟨rfl, objectsBut_refl s1 _, timers⟩ fun d k _ => congrArg (fun t : Table Nat => bitAt (t.read 0 d) k) votes
  have idle := part (.refl s1) fun _ _ _ => rfl
  split_ifs
  · exact kept rfl rfl
  · exact idle
  · exact idle
  · exact part (voted_beginExit ..) fun _ _ _ => rfl
  · refine part ?_ fun d k other => ?_
    · exact (voted_recordWake ..).trans ((voted_beginExit ..).trans ((voted_holdVotes ..).trans
        (voted_setOb _ (by simp [voteObjects]) _)))
    · exact votes_holdVotes _ _ d other
  · exact kept rfl rfl
  · exact kept rfl rfl
  · exact idle

theorem voted_placeVotes (s : State) (holder mask : Nat) : s.Voted (s.placeVotes holder mask) :=
  (polls_putVotes ..).voted.trans (votesMoved_stays ..).1
theorem voted_dropVotes (s : State) (holder mask : Nat) : s.Voted (s.dropVotes holder mask) :=
  (polls_putVotes ..).voted.trans (votesMoved_stays ..).1
theorem voted_setVotes (s : State) (holder mask : Nat) : s.Voted (s.setVotes holder mask) :=
  ((polls_putVotes ..).trans (polls_putVotes ..)).voted.trans (votesMoved_stays ..).1

theorem votes_placeVotes (s : State) {h : Nat} (mask d : Nat) (other : h ≠ 8) :
    (s.placeVotes h mask).votes d h = (decide (d < 19) && bitAt mask d || s.votes d h) := by
  rw [placeVotes, (votesMoved_stays ..).2 d h other, votes_putVotes]
  by_cases named : d < 19 ∧ bitAt mask d = true
  · simp [named]
  · simp_all

theorem votes_dropVotes (s : State) {h : Nat} {d : Nat} (other : h ≠ 8) (known : d < 19) :
    (s.dropVotes h allDomains).votes d h = false := by
  rw [dropVotes, (votesMoved_stays ..).2 d h other, votes_putVotes]
  simp [known, bitAt_allDomains known]

theorem votes_setVotes (s : State) {h : Nat} (mask : Nat) {d : Nat} (other : h ≠ 8) (known : d < 19) :
    (s.setVotes h mask).votes d h = bitAt mask d := by
  rw [setVotes, (votesMoved_stays ..).2 d h other, votes_putVotes, votes_putVotes]
  have all : bitAt 524287 d = true := bitAt_allDomains known
  simp [known, all]

/-! ## Holder 6 (R452) -/

theorem voted_updVote (s : State) : s.Voted s.updVote := voted_setVotes ..

/-- Holder 6 votes CORES while its time runs. -/
theorem votes_updVote {s : State} {u : Tick} (runs : s.pw.timers.get? 6 = some u) : s.updVote.votes 0 6 = true := by
  have any : s.pw.timers.any (fun e => e.1 == 6) = true := List.any_eq_true.mpr ⟨_, mem_of_get? runs, beq_self_eq_true 6⟩
  unfold updVote
  rw [votes_setVotes _ _ (by decide) (by decide)]
  simp only [any, Bool.or_true, if_true, bitAt, decide_eq_true_eq]
  simp only [show List.range 4 = [0, 1, 2, 3] from rfl, List.map_cons, List.map_nil, List.sum_cons, List.sum_nil]
  split_ifs <;> rfl

end State
end Sys2Proof.Machine

/-!
Staging (R437–R439, R446, R452): a block record and its check, and the commands on staging areas.
-/

namespace Sys2Proof.Machine
namespace State

/-! ## Areas and their objects -/

@[simp] theorem area_setArea_same (s : State) (a : Nat) (x : StageArea) : (s.setArea a x).area a = x := Table.read_write_same ..
theorem area_setArea_other (s : State) {a c : Nat} (x : StageArea) (h : c ≠ a) : (s.setArea a x).area c = s.area c :=
  Table.read_write_other _ _ _ _ h.symm

/-- No object of another index is among those that votes move. -/
theorem not_voteObject {i j : Nat} (index : i ≠ 0x2000) (sub : j < 256) : key i j ∉ voteObjects := by
  simp only [voteObjects, List.mem_cons, List.not_mem_nil, or_false, Obj.pwrTarget, Obj.pwrTransition, Obj.lastWakeCause,
    Obj.lastWakeDetail, key]
  omega

theorem areaObject_not_voteObject {a j : Nat} (known : a < 3) (sub : j < 256) : key (0x1F10 + a) j ∉ voteObjects :=
  not_voteObject (by omega) sub

theorem Voted.ob {s t : State} (v : s.Voted t) {i j : Nat} (index : i ≠ 0x2000) (sub : j < 256) :
    t.ob (key i j) = s.ob (key i j) := v.objects _ (not_voteObject index sub)
theorem Voted.fab {s t : State} (v : s.Voted t) : t.fab = s.fab := by rw [v.frame]
theorem Voted.upd {s t : State} (v : s.Voted t) : t.upd = s.upd := by rw [v.frame]
theorem Voted.now {s t : State} (v : s.Voted t) : t.now = s.now := by rw [v.frame]; rfl
theorem Voted.cfg {s t : State} (v : s.Voted t) : t.cfg = s.cfg := by rw [v.frame]

/-- Holder 6's time begins again. -/
def sixTimed (s : State) : State := { s with pw := { s.pw with timers := s.pw.timers.put 6 (s.now + sec 10) } }

theorem voted_stagingTouched (s : State) : s.sixTimed.Voted s.stagingTouched := voted_updVote ..

/-- What a staging write or command leaves of the state, and holder 6's time and vote (R452). -/
theorem stagingTouched_stays (s : State) :
    s.stagingTouched = { s with pw := s.stagingTouched.pw, obj := s.stagingTouched.obj } ∧
      s.ObjectsBut s.stagingTouched voteObjects ∧ s.stagingTouched.pw.timers.get? 6 = some (s.now + sec 10) ∧
      bitAt (s.stagingTouched.pw.votes.read 0 0) 6 = true := by
  have runs : s.sixTimed.pw.timers.get? 6 = some (s.now + sec 10) := Table.get?_put_same ..
  obtain ⟨frame, objects, timers⟩ := s.voted_stagingTouched
  exact ⟨frame, objects, (congrArg (Table.get? · 6) timers).trans runs, votes_updVote runs⟩

/-! ## Block records (R438) -/

/-- A block record put into an area. -/
def putBlock (s : State) (a b : Nat) (x : BlockRecord) : State :=
  s.setArea a { s.area a with blocks := (s.area a).blocks.write {} b x }

/-- `t` is `s` with nothing changed but block `b` of area `a`, objects and the events under way. -/
structure Stages (a b : Nat) (s t : State) : Prop where
  frame : t = { s with upd := t.upd, obj := t.obj, fab := t.fab }
  areas : ∀ c, c ≠ a → t.area c = s.area c
  blocks : ∀ c, c ≠ b → (t.area a).blocks.read {} c = (s.area a).blocks.read {} c

namespace Stages
variable {a b : Nat} {s t u : State}

theorem refl (s : State) : Stages a b s s := ⟨rfl, fun _ _ => rfl, fun _ _ => rfl⟩

theorem trans (h : Stages a b s t) (k : Stages a b t u) : Stages a b s u where
  frame := by rw [k.frame, h.frame]
  areas c hc := (k.areas c hc).trans (h.areas c hc)
  blocks c hc := (k.blocks c hc).trans (h.blocks c hc)

theorem holds (h : Stages a b s t) : t.holds = s.holds := by rw [h.frame]

theorem putBlock (s : State) (x : BlockRecord) : Stages a b s (s.putBlock a b x) where
  frame := rfl
  areas c hc := area_setArea_other s _ hc
  blocks c hc := by
    unfold State.putBlock
    rw [area_setArea_same]
    exact Table.read_write_other _ _ _ _ hc.symm

theorem eraseBlock (s : State) : Stages a b s (s.setArea a { s.area a with blocks := (s.area a).blocks.erase b }) where
  frame := rfl
  areas c hc := area_setArea_other s _ hc
  blocks c hc := by
    rw [area_setArea_same]
    simp only [Table.read, Table.get?_erase_other _ hc.symm]

theorem setOb (s : State) (k v : Nat) : Stages a b s (s.setOb k v) := ⟨rfl, fun _ _ => rfl, fun _ _ => rfl⟩
theorem post (s : State) (ev v : Nat) : Stages a b s (s.post ev v) := ⟨rfl, fun _ _ => rfl, fun _ _ => rfl⟩

end Stages

theorem block_putBlock (s : State) (a b : Nat) (x : BlockRecord) : ((s.putBlock a b x).area a).blocks.read {} b = x := by
  unfold putBlock
  rw [area_setArea_same]
  exact Table.read_write_same ..

theorem validBlocks_eq {s t : State} {a : Nat} (area : t.area a = s.area a)
    (expected : t.ob (Obj.areaBlocksExpected a) = s.ob (Obj.areaBlocksExpected a)) : t.validBlocks a = s.validBlocks a := by
  unfold validBlocks
  rw [area, expected]

/-- The valid blocks counted: nothing but BLOCKS_VALID and, where the area is complete, its state and EV1201. -/
structure Counts (a : Nat) (s t : State) : Prop where
  shows : s.Shows t
  objects : s.ObjectsBut t [Obj.areaBlocksValid a, Obj.areaState a]
  valid : t.ob (Obj.areaBlocksValid a) = t.validBlocks a
  events : ∀ o ∈ s.fab.inFlight, o ∈ t.fab.inFlight
  complete : s.ob (Obj.areaState a) = 1 → s.ob (Obj.areaBlocksExpected a) ≠ 0 → t.validBlocks a = s.ob (Obj.areaBlocksExpected a) →
    t.ob (Obj.areaState a) = 2 ∧ t.Raised s.now 1201 a
  waits : s.ob (Obj.areaBlocksExpected a) = 0 ∨ t.validBlocks a ≠ s.ob (Obj.areaBlocksExpected a) →
    t.ob (Obj.areaState a) = s.ob (Obj.areaState a)
  closed : s.ob (Obj.areaState a) ≠ 1 → t.ob (Obj.areaState a) = s.ob (Obj.areaState a)

theorem countBlocks_counts (s : State) (a : Nat) : Counts a s (s.countBlocks a) := by
  let s1 := s.setOb (Obj.areaBlocksValid a) (s.validBlocks a)
  have expected : s1.ob (Obj.areaBlocksExpected a) = s.ob (Obj.areaBlocksExpected a) :=
    ob_setOb_sub s _ _ _ (by decide)
  have state : s1.ob (Obj.areaState a) = s.ob (Obj.areaState a) := ob_setOb_sub s _ _ _ (by decide)
  have count1 : s1.validBlocks a = s.validBlocks a := validBlocks_eq rfl expected
  have eq : s.countBlocks a = if s.ob (Obj.areaState a) = 1 && s.ob (Obj.areaBlocksExpected a) ≠ 0 &&
      s.validBlocks a = s.ob (Obj.areaBlocksExpected a) then (s1.setOb (Obj.areaState a) 2).post 1201 a else s1 := by
    rw [← state, ← expected]
    rfl
  rw [eq]
  have objects1 : s.ObjectsBut s1 [Obj.areaBlocksValid a, Obj.areaState a] := objectsBut_setOb (objectsBut_refl s _) (by simp) _
  split
  · next full =>
    simp only [Bool.and_eq_true, decide_eq_true_eq, ne_eq] at full
    obtain ⟨⟨run, some_⟩, all⟩ := full
    let t := (s1.setOb (Obj.areaState a) 2).post 1201 a
    have expected1 : t.ob (Obj.areaBlocksExpected a) = s1.ob (Obj.areaBlocksExpected a) := ob_setOb_sub s1 _ _ _ (by decide)
    have counted : t.validBlocks a = s.validBlocks a := (validBlocks_eq (s := s1) (t := t) rfl expected1).trans count1
    exact {
      shows := rfl
      objects := objectsBut_setOb objects1 (by simp) _
      valid := (ob_setOb_sub s1 _ _ _ (by decide)).trans ((ob_setOb_same ..).trans counted.symm)
      events := fun o ho => List.mem_append_left _ ho
      complete := fun _ _ _ => ⟨ob_setOb_same .., raised_post ..⟩
      waits := fun h => h.elim (absurd · some_) (absurd (counted.trans all) ·)
      closed := (absurd run ·) }
  · next open_ =>
    exact {
      shows := rfl
      objects := objects1
      valid := (ob_setOb_same ..).trans count1.symm
      events := fun o ho => ho
      complete := fun run some_ all => absurd (by simp [run, some_, count1.symm.trans all]) open_
      waits := fun _ => state
      closed := fun _ => state }

theorem Counts.stages {a b : Nat} {s t : State} (c : Counts a s t) : Stages a b s t := by
  have shows := c.shows
  unfold Shows at shows
  refine ⟨?_, fun c _ => ?_, fun c _ => ?_⟩
  · rw [shows]
  · rw [shows]; rfl
  · rw [shows]; rfl
theorem Counts.area {a : Nat} {s t : State} (c : Counts a s t) (i : Nat) : t.area i = s.area i := by
  have shows := c.shows
  unfold Shows at shows
  rw [shows]
  rfl

/-! ## The check of a record (R438) -/

/-- The bytes of a block record match its CRC. -/
def matchesCrc (x : BlockRecord) : Prop := crc32c (toBytes 4096 x.bytes) = bitsOf x.bytes (8 * 4096) 32

theorem checkBlock_open {s : State} {a b : Nat} {y : BlockRecord} (at_ : (s.area a).blocks.read {} b = y)
    (some_ : y.written ≠ 2 ^ 4100 - 1) : s.checkBlock a b = s := by
  unfold checkBlock
  rw [at_]
  exact if_pos some_

theorem checkBlock_bad {s : State} {a b : Nat} {y : BlockRecord} (at_ : (s.area a).blocks.read {} b = y)
    (full : y.written = 2 ^ 4100 - 1) (bad : ¬ matchesCrc y) :
    s.checkBlock a b = (((s.putBlock a b {}).bump (Obj.areaBlocksBad a)).post 1200 (a * 2 ^ 24 + b)).countBlocks a := by
  unfold checkBlock
  rw [at_]
  exact (if_neg (not_not.mpr full)).trans (if_neg bad)

/-- A block that is valid: its record has been checked. -/
def checked (y : BlockRecord) : BlockRecord := { y with written := 0, valid := true }

theorem checkBlock_good {s : State} {a b : Nat} {y : BlockRecord} (at_ : (s.area a).blocks.read {} b = y)
    (full : y.written = 2 ^ 4100 - 1) (good : matchesCrc y) :
    s.checkBlock a b = (if b = 0 then (s.putBlock a b (checked y)).takeHeader a else s.putBlock a b (checked y)).countBlocks a := by
  unfold checkBlock
  rw [at_]
  exact (if_neg (not_not.mpr full)).trans (if_pos good)

/-! ## Block 0 (R438) -/

/-- Block 0 of area `a` names an image of a kind the area accepts. -/
def acceptsHeader (a bytes : Nat) : Prop :=
  bitsOf bytes 0 32 = 0x4D495753 ∧ bitsOf bytes 40 8 = 0xB1 ∧ bitsOf bytes 32 8 ∈ areaKinds a

/-- Kind, size and versions of an area as a block 0 says them. -/
def headerShown (s : State) (a bytes : Nat) : State :=
  (((s.setOb (Obj.areaKind a) (bitsOf bytes 32 8)).setOb (Obj.areaBlocksExpected a) (bitsOf bytes 96 32 % 2 ^ 16)).setOb
    (Obj.areaImgVersion a) (bitsOf bytes 64 32)).setOb (Obj.areaImgSec a) (bitsOf bytes 48 16)

theorem takeHeader_right {s : State} {a : Nat} {y : BlockRecord} (at_ : (s.area a).blocks.read {} 0 = y)
    (right : acceptsHeader a y.bytes) : s.takeHeader a = s.headerShown a y.bytes := by
  obtain ⟨magic, mark, kind⟩ := right
  unfold takeHeader header
  dsimp only
  rw [at_, if_pos (by simp [magic, mark, kind])]
  rfl

theorem takeHeader_wrong {s : State} {a : Nat} {y : BlockRecord} (at_ : (s.area a).blocks.read {} 0 = y)
    (wrong : ¬ acceptsHeader a y.bytes) :
    s.takeHeader a = (s.setArea a { s.area a with blocks := (s.area a).blocks.erase 0 }).rejectArea a 1 := by
  unfold takeHeader header
  dsimp only
  rw [at_, if_neg fun h => wrong (by simpa [acceptsHeader, and_assoc] using h)]

/-- What a header shown reads as. -/
theorem headerShown_shows (s : State) (a bytes : Nat) :
    (s.headerShown a bytes).ob (Obj.areaKind a) = bitsOf bytes 32 8 ∧
      (s.headerShown a bytes).ob (Obj.areaBlocksExpected a) = bitsOf bytes 96 32 % 2 ^ 16 ∧
      (s.headerShown a bytes).ob (Obj.areaImgVersion a) = bitsOf bytes 64 32 ∧
      (s.headerShown a bytes).ob (Obj.areaImgSec a) = bitsOf bytes 48 16 ∧
      (s.headerShown a bytes).ob (Obj.areaState a) = s.ob (Obj.areaState a) := by
  simp [headerShown, Obj.areaKind, Obj.areaBlocksExpected, Obj.areaImgVersion, Obj.areaImgSec, Obj.areaState]

theorem Stages.headerShown {a b : Nat} (s : State) (bytes : Nat) : Stages a b s (s.headerShown a bytes) :=
  (((Stages.setOb ..).trans (.setOb ..)).trans (.setOb ..)).trans (.setOb ..)
theorem Stages.rejectArea {a b : Nat} (s : State) (cause : Nat) : Stages a b s (s.rejectArea a cause) :=
  ((Stages.setOb ..).trans (.setOb ..)).trans (.post ..)

theorem rejectArea_shows (s : State) (a cause : Nat) :
    (s.rejectArea a cause).ob (Obj.areaState a) = 4 ∧ (s.rejectArea a cause).ob (Obj.areaRejectCause a) = cause ∧
      (s.rejectArea a cause).Raised s.now 1203 (a * 256 + cause) :=
  ⟨(ob_setOb_sub _ _ _ _ (by decide)).trans (ob_setOb_same ..), ob_setOb_same .., raised_post ..⟩

/-! ## A write of STAGE (R438) -/

/-- The bytes of a write put into a block record, and the area written. -/
def areaWritten (s : State) (a b : Nat) (y : BlockRecord) : State :=
  let t := s.putBlock a b y
  if t.ob (Obj.areaState a) = 1 then t else t.setOb (Obj.areaState a) 1

/-- What a write leaves, the check of its record included. -/
theorem areaWritten_stands (s : State) (a b : Nat) (y : BlockRecord) :
    Stages a b s (s.areaWritten a b y) ∧ ((s.areaWritten a b y).area a).blocks.read {} b = y ∧
      (s.areaWritten a b y).ob (Obj.areaState a) = 1 ∧ (s.areaWritten a b y).now = s.now ∧
      s.ObjectsBut (s.areaWritten a b y) [Obj.areaState a] := by
  unfold areaWritten
  dsimp only
  split
  · next run => exact ⟨.putBlock .., block_putBlock .., run, rfl, objectsBut_refl s _⟩
  · exact ⟨(Stages.putBlock ..).trans (.setOb ..), block_putBlock s a b y, ob_setOb_same .., rfl,
      objectsBut_setOb (objectsBut_refl s _) (by simp) _⟩

/-- What stands after a write of a record that is now `y`, in an area that expected `e` blocks. -/
structure WriteEnds (a b e : Nat) (y : BlockRecord) (at_ : Tick) (bad : Nat) (t : State) : Prop where
  partly : y.written ≠ 2 ^ 4100 - 1 → t.ob (Obj.areaState a) = 1 ∧ (t.area a).blocks.read {} b = y
  broken : y.written = 2 ^ 4100 - 1 → ¬ matchesCrc y → (t.area a).blocks.read {} b = {} ∧
    t.ob (Obj.areaBlocksBad a) = (bad + 1) % 2 ^ 32 ∧ t.Raised at_ 1200 (a * 2 ^ 24 + b) ∧
    t.ob (Obj.areaBlocksValid a) = t.validBlocks a
  counted : y.written = 2 ^ 4100 - 1 → matchesCrc y → t.ob (Obj.areaBlocksValid a) = t.validBlocks a
  valid : y.written = 2 ^ 4100 - 1 → matchesCrc y → b ≠ 0 → (t.area a).blocks.read {} b = checked y ∧
    (e ≠ 0 ∧ t.validBlocks a = e → t.ob (Obj.areaState a) = 2 ∧ t.Raised at_ 1201 a) ∧
    (e = 0 ∨ t.validBlocks a ≠ e → t.ob (Obj.areaState a) = 1)
  header : y.written = 2 ^ 4100 - 1 → matchesCrc y → b = 0 → acceptsHeader a y.bytes →
    t.ob (Obj.areaKind a) = bitsOf y.bytes 32 8 ∧ t.ob (Obj.areaBlocksExpected a) = bitsOf y.bytes 96 32 % 2 ^ 16 ∧
    t.ob (Obj.areaImgVersion a) = bitsOf y.bytes 64 32 ∧ t.ob (Obj.areaImgSec a) = bitsOf y.bytes 48 16 ∧
    (t.area a).blocks.read {} 0 = checked y
  rejected : y.written = 2 ^ 4100 - 1 → matchesCrc y → b = 0 → ¬ acceptsHeader a y.bytes →
    t.ob (Obj.areaState a) = 4 ∧ t.ob (Obj.areaRejectCause a) = 1 ∧ (t.area a).blocks.read {} 0 = {} ∧
    t.Raised at_ 1203 (a * 256 + 1)

/-- The check of a record after a write, a lemma per case of R438. -/
theorem checkBlock_ends {s : State} {a b : Nat} {y : BlockRecord} (at_ : (s.area a).blocks.read {} b = y)
    (run : s.ob (Obj.areaState a) = 1) :
    Stages a b s (s.checkBlock a b) ∧
      WriteEnds a b (s.ob (Obj.areaBlocksExpected a)) y s.now (s.ob (Obj.areaBlocksBad a)) (s.checkBlock a b) := by
  by_cases full : y.written = 2 ^ 4100 - 1
  case neg =>
    rw [checkBlock_open at_ full]
    exact ⟨.refl s, fun _ => ⟨run, at_⟩, fun h => absurd h full, fun h => absurd h full, fun h => absurd h full,
      fun h => absurd h full, fun h => absurd h full⟩
  by_cases good : matchesCrc y
  case neg =>
    rw [checkBlock_bad at_ full good]
    let u := ((s.putBlock a b {}).bump (Obj.areaBlocksBad a)).post 1200 (a * 2 ^ 24 + b)
    have ends : Counts a u (u.countBlocks a) := countBlocks_counts ..
    have before : Stages a b s u := ((Stages.putBlock ..).trans (.setOb ..)).trans (.post ..)
    have empty : (u.area a).blocks.read {} b = {} := block_putBlock s a b {}
    have bad : u.ob (Obj.areaBlocksBad a) = (s.ob (Obj.areaBlocksBad a) + 1) % 2 ^ 32 := ob_setOb_same ..
    exact ⟨before.trans ends.stages, fun h => absurd full h,
      fun _ _ => ⟨(congrArg (fun x : StageArea => x.blocks.read {} b) (ends.area a)).trans empty,
        (ends.objects _ (by simp [Obj.areaBlocksBad, Obj.areaBlocksValid, Obj.areaState, key])).trans bad,
        ends.events _ (raised_post ..), ends.valid⟩,
      fun _ h => absurd h good, fun _ h => absurd h good, fun _ h => absurd h good, fun _ h => absurd h good⟩
  rw [checkBlock_good at_ full good]
  let u := s.putBlock a b (checked y)
  have put : Stages a b s u := .putBlock ..
  have stands : (u.area a).blocks.read {} b = checked y := block_putBlock ..
  by_cases first : b = 0
  case neg =>
    rw [if_neg first]
    have ends : Counts a u (u.countBlocks a) := countBlocks_counts ..
    refine ⟨put.trans ends.stages, fun h => absurd full h, fun _ h => absurd good h, fun _ _ => ends.valid, fun _ _ _ =>
      ⟨(congrArg (fun x : StageArea => x.blocks.read {} b) (ends.area a)).trans stands, fun ⟨some_, all⟩ => ?_, fun h => ?_⟩,
      fun _ _ h => absurd h first, fun _ _ h => absurd h first⟩
    · exact ends.complete run some_ all
    · exact (ends.waits h).trans run
  rw [if_pos first]
  subst first
  by_cases right : acceptsHeader a y.bytes
  · rw [takeHeader_right stands right]
    have ends : Counts a (u.headerShown a y.bytes) ((u.headerShown a y.bytes).countBlocks a) := countBlocks_counts ..
    obtain ⟨kind, expected, version, sec, -⟩ := u.headerShown_shows a y.bytes
    have keeps {k : Nat} (h : k ∉ [Obj.areaBlocksValid a, Obj.areaState a]) := ends.objects k h
    refine ⟨(put.trans (.headerShown ..)).trans ends.stages, fun h => absurd full h, fun _ h => absurd good h,
      fun _ _ => ends.valid, fun _ _ h => absurd rfl h, fun _ _ _ _ => ⟨(keeps ?_).trans kind, (keeps ?_).trans expected,
        (keeps ?_).trans version, (keeps ?_).trans sec,
        (congrArg (fun x : StageArea => x.blocks.read {} 0) (ends.area a)).trans stands⟩, fun _ _ _ h => absurd right h⟩
    all_goals simp [Obj.areaKind, Obj.areaBlocksExpected, Obj.areaImgVersion, Obj.areaImgSec, Obj.areaBlocksValid, Obj.areaState, key]
  · rw [takeHeader_wrong stands right]
    let v := u.setArea a { u.area a with blocks := (u.area a).blocks.erase 0 }
    have ends : Counts a (v.rejectArea a 1) ((v.rejectArea a 1).countBlocks a) := countBlocks_counts ..
    obtain ⟨state, cause, told⟩ := v.rejectArea_shows a 1
    have erased : (v.area a).blocks.read {} 0 = {} := by
      simp only [v, area_setArea_same, Table.read, Table.get?_erase_same, Option.getD_none]
    exact ⟨((put.trans (.eraseBlock u)).trans (.rejectArea ..)).trans ends.stages, fun h => absurd full h,
      fun _ h => absurd good h, fun _ _ => ends.valid, fun _ _ h => absurd rfl h, fun _ _ _ h => absurd h right,
      fun _ _ _ _ => ⟨(ends.closed (by rw [state]; decide)).trans state,
        (ends.objects _ (by simp [Obj.areaRejectCause, Obj.areaBlocksValid, Obj.areaState, key])).trans cause,
        (congrArg (fun x : StageArea => x.blocks.read {} 0) (ends.area a)).trans erased, ends.events _ told⟩⟩

theorem domStatus_not_voteObject {ix : Nat} (index : ix ≠ 0x2000) : domStatus ix ∉ voteObjects :=
  not_voteObject index (by decide)

/-- The request of a STAGE write. -/
theorem exec_stageWrite {h : Nat} {a : Fin 3} {offset : BitVec 32} {data : List Byte} {s : State} {x : Session}
    (sv : s.Serves h .service x) (len : data.length ≤ 1024) :
    exec (.stageWrite h a offset data) s =
      (s.asked x).finish ((s.asked x).doStageWrite h a offset.toNat (data.map (fun b => b.toNat))) := by
  show execStageWrite h a offset data s = _
  unfold execStageWrite
  rw [request_serves sv, heard_handle sv, check_ok (by simpa using len)]

theorem setDomBit_stage (s : State) (a : Fin 3) (h i : Nat) (b : Bool) :
    s.setDomBit (0x1F20 + a) h i b = s.setBit (domStatus (0x1F20 + a)) i b := if_neg (by omega)

theorem holdKey_stage (a : Fin 3) (h : Nat) : holdKey (0x1F20 + a) h = 0x1F20 + a := if_neg (by omega)

/-- The state in which a write of STAGE takes its bytes. -/
theorem domainHeld_stage (s : State) (a : Fin 3) (h : Nat) : s.domainHeld (0x1F20 + a) h =
    ({ s.setBit (domStatus (0x1F20 + a)) 1 false with
      holds := s.holds.put (0x1F20 + a) { holder := h, lastWrite := s.now } } : State).setBit (domStatus (0x1F20 + a)) 0 true := by
  unfold domainHeld
  dsimp only
  rw [holdKey_stage, setDomBit_stage, setDomBit_stage]
  rfl

/-- The record of a write of STAGE: its block and what stands in it then. -/
def stageRecord (s : State) (a off : Nat) (data : List Nat) : BlockRecord :=
  let r := (s.area a).blocks.read {} (off / 4100)
  { r with bytes := spliceBytes r.bytes (off % 4100) data
           written := r.written ||| ((2 ^ data.length - 1) * 2 ^ (off % 4100)) }

/-- What a write of STAGE does where nothing stands against it. -/
def stageTaken (s : State) (a off : Nat) (data : List Nat) : State :=
  ((s.areaWritten a (off / 4100) (s.stageRecord a off data)).checkBlock a (off / 4100)).stagingTouched

/-- A write of STAGE is aligned within its record. -/
def stageAligned (off n : Nat) : Prop := off % 4 = 0 ∧ off % 4100 + n ≤ 4100

/-- The block of a write of STAGE is one of its area's image. -/
def stageFits (s : State) (a off : Nat) : Prop :=
  (off / 4100 = 0 ∨ off / 4100 < s.ob (Obj.areaBlocksExpected a)) ∧ off / 4100 < areaBlocks a

theorem doStageWrite_misaligned {s : State} {h a off : Nat} {data : List Nat} (out : ¬ stageAligned off data.length) :
    s.doStageWrite h a off data = s.misaligned (0x1F20 + a) := by
  unfold doStageWrite
  refine if_pos ?_
  unfold stageAligned at out
  simp
  omega

theorem doStageWrite_inUse {s : State} {h a off : Nat} {data : List Nat} (aligned : stageAligned off data.length)
    (used : s.ob (Obj.areaState a) = 5) :
    s.doStageWrite h a off data = (s.setBit (domStatus (0x1F20 + a)) 1 false).refused .inUse := by
  unfold doStageWrite
  exact (if_neg (by simp [aligned.1, aligned.2])).trans (if_pos used)

theorem doStageWrite_outOfRange {s : State} {h a off : Nat} {data : List Nat} (aligned : stageAligned off data.length)
    (free : s.ob (Obj.areaState a) ≠ 5) (out : ¬ s.stageFits a off) :
    s.doStageWrite h a off data = (s.setBit (domStatus (0x1F20 + a)) 1 false).refused .valueRange := by
  unfold doStageWrite
  refine (if_neg (by simp [aligned.1, aligned.2])).trans ((if_neg free).trans (if_pos ?_))
  unfold stageFits at out
  simp only [Bool.or_eq_true, Bool.and_eq_true, decide_eq_true_eq, ne_eq]
  omega

/-- A write that its area and its bounds allow is a write of the DOMAIN. -/
theorem doStageWrite_writes {s : State} {h a off : Nat} {data : List Nat} (aligned : stageAligned off data.length)
    (free : s.ob (Obj.areaState a) ≠ 5) (fits : s.stageFits a off) :
    s.doStageWrite h a off data = s.domainWrites (0x1F20 + a) h (fun s => .ok (s.stageTaken a off data)) := by
  unfold doStageWrite
  refine (if_neg (by simp [aligned.1, aligned.2])).trans ((if_neg free).trans (if_neg ?_))
  unfold stageFits at fits
  simp only [Bool.or_eq_true, Bool.and_eq_true, decide_eq_true_eq, ne_eq]
  omega

theorem domainWrites_held {s : State} {ix h : Nat} {k : State → Answer}
    (held : (s.setDomBit ix h 1 false).heldByOther ix h = true) :
    s.domainWrites ix h k = (s.setDomBit ix h 1 false).refused .inUse := by
  unfold domainWrites
  exact if_pos held

/-- A refusal of a write of STAGE tells only the status and ALIGN_ERROR. -/
theorem stageWrite_refused {h : Nat} {a : Fin 3} {offset : BitVec 32} {data : List Byte} {s : State} {x : Session}
    (sv : s.Serves h .service x) (len : data.length ≤ 1024) {b : Bool} {e : Status} (failed : e ≠ .none)
    (refusal : (s.asked x).doStageWrite h a offset.toNat (data.map (fun b => b.toNat)) =
      ((s.asked x).setBit (domStatus (0x1F20 + a)) 1 b).refused e) :
    ∃ t, exec (.stageWrite h a offset data) s = .next t ∧ t.reply = { status := e } ∧
      t.bit (domStatus (0x1F20 + a)) 1 = b ∧ t = { s.asked x with obj := t.obj, reply := t.reply } ∧
      s.ObjectsBut t [domStatus (0x1F20 + a)] := by
  refine ⟨{ (s.asked x).setBit (domStatus (0x1F20 + a)) 1 b with reply := { status := e } }, ?_, rfl, ?_, rfl, ?_⟩
  · rw [exec_stageWrite sv len, refusal]
    exact congrArg (fun e : Status => Host.Outcome.next
      { (s.asked x).setBit (domStatus (0x1F20 + a)) 1 b with reply := { status := e } }) (if_neg failed)
  · exact (congrArg (bitAt · 1) (ob_setOb_same (s.asked x) ..)).trans (bitAt_setBitTo_same ..)
  · exact objectsBut_setBit (s := s) (t := s.asked x) (objectsBut_refl s _) (by simp) 1 b

/-- `t` is `s` with nothing changed but what a write of STAGE may move. -/
def StageMoves (s t : State) : Prop := t = { s with upd := t.upd, obj := t.obj, holds := t.holds, pw := t.pw, fab := t.fab }

theorem StageMoves.trans {s t u : State} (h : s.StageMoves t) (k : t.StageMoves u) : s.StageMoves u := by
  unfold StageMoves at h k ⊢
  rw [k, h]
theorem Stages.moves {a b : Nat} {s t : State} (h : Stages a b s t) : s.StageMoves t := by
  unfold StageMoves
  rw [h.frame]

/-- What a WriteEnds says it says of every state that reads the same. -/
theorem WriteEnds.congr {a b e : Nat} {y : BlockRecord} {at_ : Tick} {bad : Nat} {t u : State} (w : WriteEnds a b e y at_ bad t)
    (upd : u.upd = t.upd) (fab : u.fab = t.fab) (ob : ∀ j < 256, u.ob (key (0x1F10 + a) j) = t.ob (key (0x1F10 + a) j)) :
    WriteEnds a b e y at_ bad u := by
  have area : u.area a = t.area a := congrArg (fun p : Update => p.areas.read {} a) upd
  have expected : u.ob (Obj.areaBlocksExpected a) = t.ob (Obj.areaBlocksExpected a) := ob _ (by decide)
  have state : u.ob (Obj.areaState a) = t.ob (Obj.areaState a) := ob _ (by decide)
  have broken : u.ob (Obj.areaBlocksBad a) = t.ob (Obj.areaBlocksBad a) := ob _ (by decide)
  have valid : u.ob (Obj.areaBlocksValid a) = t.ob (Obj.areaBlocksValid a) := ob _ (by decide)
  have kind : u.ob (Obj.areaKind a) = t.ob (Obj.areaKind a) := ob _ (by decide)
  have version : u.ob (Obj.areaImgVersion a) = t.ob (Obj.areaImgVersion a) := ob _ (by decide)
  have sec : u.ob (Obj.areaImgSec a) = t.ob (Obj.areaImgSec a) := ob _ (by decide)
  have cause : u.ob (Obj.areaRejectCause a) = t.ob (Obj.areaRejectCause a) := ob _ (by decide)
  have count : u.validBlocks a = t.validBlocks a := validBlocks_eq area expected
  have told (ev v : Nat) : u.Raised at_ ev v ↔ t.Raised at_ ev v := by unfold Raised; rw [fab]
  constructor <;> simp only [area, expected, state, broken, valid, kind, version, sec, cause, count, told]
  · exact w.partly
  · exact w.broken
  · exact w.counted
  · exact w.valid
  · exact w.header
  · exact w.rejected

/-- A write of STAGE that is taken: the hold, holder 6's time and vote, the area, and what its record's check gives. -/
theorem stageWrite_taken {h : Nat} {a : Fin 3} {offset : BitVec 32} {data : List Byte} {s : State} {x : Session}
    (sv : s.Serves h .service x) (len : data.length ≤ 1024) (aligned : stageAligned offset.toNat data.length)
    (free : s.ob (Obj.areaState a) ≠ 5) (fits : s.stageFits a offset.toNat) (unheld : s.heldByOther (0x1F20 + a) h = false) :
    ∃ t, exec (.stageWrite h a offset data) s = .next t ∧
      t = { s.served x with upd := t.upd, obj := t.obj, holds := t.holds, pw := t.pw, fab := t.fab } ∧
      t.holds.get? (0x1F20 + a) = some { holder := h, lastWrite := s.now } ∧ t.pw.timers.get? 6 = some (s.now + sec 10) ∧
      bitAt (t.pw.votes.read 0 0) 6 = true ∧
      (∀ c, c ≠ offset.toNat / 4100 → (t.area a).blocks.read {} c = (s.area a).blocks.read {} c) ∧
      (∀ c : Nat, c ≠ a → t.area c = s.area c) ∧
      WriteEnds a (offset.toNat / 4100) (s.ob (Obj.areaBlocksExpected a))
        (s.stageRecord a offset.toNat (data.map (fun b => b.toNat))) s.now (s.ob (Obj.areaBlocksBad a)) t := by
  let d := data.map (fun b => b.toNat)
  let u := (s.asked x).domainHeld (0x1F20 + a) h
  have held : u = _ := domainHeld_stage ..
  let b := offset.toNat / 4100
  let y := s.stageRecord a offset.toNat d
  have ends : (s.asked x).doStageWrite h a offset.toNat d = .ok (u.stageTaken a offset.toNat d) := by
    have alignedHere : stageAligned offset.toNat d.length := by simpa [d] using aligned
    rw [doStageWrite_writes (s := s.asked x) alignedHere free fits]
    refine domainWrites_free ?_ rfl
    rw [setDomBit_stage]
    exact unheld
  have area : u.area = s.area := by rw [held]; rfl
  have record : u.stageRecord a offset.toNat d = y := by unfold y stageRecord; rw [area]
  have objects : s.ObjectsBut u [domStatus (0x1F20 + a)] := by
    rw [held]
    exact objectsBut_setBit (s := s) (t := { (s.asked x).setBit (domStatus (0x1F20 + a)) 1 false with
      holds := s.holds.put (0x1F20 + a) { holder := h, lastWrite := s.now } })
      (objectsBut_setBit (s := s) (t := s.asked x) (objectsBut_refl s _) (by simp) 1 false) (by simp) 0 true
  let w := u.areaWritten a b y
  obtain ⟨stored, at_, run, sameNow, only⟩ := u.areaWritten_stands a b y
  obtain ⟨checks, result⟩ := checkBlock_ends (s := w) at_ run
  let c := w.checkBlock a b
  obtain ⟨touched, still_, time, vote⟩ := c.stagingTouched_stays
  have now_ : c.now = s.now := (congrArg (fun t : State => t.now) checks.frame).trans (sameNow.trans (by rw [held]; rfl))
  have taken : u.stageTaken a offset.toNat d = c.stagingTouched := by unfold stageTaken; rw [record]
  have moves : (s.asked x).StageMoves c.stagingTouched := by
    refine StageMoves.trans (t := u) (by rw [held]; rfl) (stored.moves.trans (checks.moves.trans ?_))
    unfold StageMoves
    rw [touched]
  have upd : c.stagingTouched.upd = c.upd := by rw [touched]
  have areas (i : Nat) : c.stagingTouched.area i = c.area i := congrArg (fun p : Update => p.areas.read {} i) upd
  have before (k : Nat) (state : k ≠ Obj.areaState a) (status : k ≠ domStatus (0x1F20 + a)) : w.ob k = s.ob k :=
    (only k (by simpa using state)).trans (objects k (by simpa using status))
  have result : WriteEnds a b (s.ob (Obj.areaBlocksExpected a)) y s.now (s.ob (Obj.areaBlocksBad a)) c.stagingTouched := by
    have bad := before (Obj.areaBlocksBad a) (key_ne_of_sub _ _ (by decide)) (key_ne_of_sub _ _ (by decide))
    have expected := before (Obj.areaBlocksExpected a) (key_ne_of_sub _ _ (by decide)) (key_ne_of_sub _ _ (by decide))
    have sameNow : w.now = s.now := sameNow.trans (by rw [held]; rfl)
    rw [bad, expected, sameNow] at result
    refine result.congr upd (by rw [touched]) fun j small => still_ _ (not_voteObject (by omega) small)
  refine ⟨{ c.stagingTouched with reply := { status := .success } }, ?_, ?_, ?_, time.trans (by rw [now_]), vote, fun i other => ?_,
    fun i other => ?_, result.congr rfl rfl fun _ _ => rfl⟩
  · rw [exec_stageWrite sv len]
    refine finish_done (ends.trans (congrArg Except.ok taken)) ?_
    rw [moves]
    rfl
  · unfold StageMoves at moves
    rw [moves]
    rfl
  · have holds : c.stagingTouched.holds = u.holds := by
      rw [touched]
      exact checks.holds.trans stored.holds
    rw [show ({ c.stagingTouched with reply := { status := .success } } : State).holds = u.holds from holds, held]
    exact Table.get?_put_same ..
  · rw [show ({ c.stagingTouched with reply := { status := .success } } : State).area a = c.area a from areas a, checks.blocks i other,
      stored.blocks i other, area]
  · rw [show ({ c.stagingTouched with reply := { status := .success } } : State).area i = c.area i from areas i, checks.areas i other,
      stored.areas i other, area]

/-! ## UPD_VERIFY, UPD_DISCARD and UPD_CONFIRM (R439, R446) -/

theorem exec_updVerify {h : Nat} {a : Fin 3} {s : State} {x : Session} (sv : s.Serves h .service x) :
    exec (.updVerify h a) s = (s.asked x).finish ((s.asked x).doUpdVerify a 1) := by
  show execUpdVerify h a s = _
  exact request_serves sv _ _

theorem exec_updDiscard {h : Nat} {v : BitVec 8} {s : State} {x : Session} (sv : s.Serves h .service x) :
    exec (.updDiscard h v) s = (s.asked x).finish ((s.asked x).doUpdDiscard v.toNat) := by
  show execUpdDiscard h v s = _
  exact request_serves sv _ _

theorem exec_updConfirm {h : Nat} {v : BitVec 8} {s : State} {x : Session} (sv : s.Serves h .service x) :
    exec (.updConfirm h v) s = (s.asked x).finish ((s.asked x).doUpdConfirm v.toNat) := by
  show execUpdConfirm h v s = _
  exact request_serves sv _ _

/-- An image that passes its verification (R439). -/
def verified (s : State) (a : Nat) : State :=
  let t := (s.setOb (Obj.areaState a) 3).setOb (Obj.areaRejectCause a) 0
  (t.setArea a { t.area a with activated := false }).post 1202 (t.ob (Obj.areaKind a) * 2 ^ 16 + t.ob (Obj.areaImgSec a))

/-- What UPD_VERIFY does to an area that is not in use (R439). -/
def judged (s : State) (a : Nat) : State :=
  if s.verifyCause a = 0 then s.stagingTouched.verified a else s.stagingTouched.rejectArea a (s.verifyCause a)

theorem doUpdVerify_free {s : State} {a : Nat} (free : s.ob (Obj.areaState a) ≠ 5) : s.doUpdVerify a 1 = .ok (s.judged a) :=
  (check_ok (by decide) ..).trans (check_ok (by simpa using free) ..)

theorem verified_stands (s : State) (a : Nat) :
    s.verified a = { s with upd := (s.verified a).upd, obj := (s.verified a).obj, fab := (s.verified a).fab } ∧
      (s.verified a).ob (Obj.areaState a) = 3 ∧ (s.verified a).ob (Obj.areaRejectCause a) = 0 ∧
      (s.verified a).area a = { s.area a with activated := false } ∧
      (s.verified a).Raised s.now 1202 (s.ob (Obj.areaKind a) * 2 ^ 16 + s.ob (Obj.areaImgSec a)) := by
  let w := (s.setOb (Obj.areaState a) 3).setOb (Obj.areaRejectCause a) 0
  have kind : w.ob (Obj.areaKind a) = s.ob (Obj.areaKind a) :=
    (ob_setOb_sub _ _ _ _ (by decide)).trans (ob_setOb_sub _ _ _ _ (by decide))
  have sec : w.ob (Obj.areaImgSec a) = s.ob (Obj.areaImgSec a) :=
    (ob_setOb_sub _ _ _ _ (by decide)).trans (ob_setOb_sub _ _ _ _ (by decide))
  have told := raised_post (w.setArea a { w.area a with activated := false }) 1202
    (w.ob (Obj.areaKind a) * 2 ^ 16 + w.ob (Obj.areaImgSec a))
  refine ⟨rfl, (ob_setOb_sub _ _ _ _ (by decide)).trans (ob_setOb_same ..), ob_setOb_same .., area_setArea_same .., ?_⟩
  rw [kind, sec] at told
  unfold verified
  dsimp only
  rw [kind, sec]
  exact told

theorem rejectArea_shown (s : State) (a cause : Nat) : s.Shows (s.rejectArea a cause) := rfl

/-- What a verification leaves, and what it shows and tells. -/
theorem judged_stands (s : State) {a : Nat} (known : a < 3) :
    s.judged a = { s with upd := (s.judged a).upd, obj := (s.judged a).obj, pw := (s.judged a).pw, fab := (s.judged a).fab } ∧
      (s.judged a).ob (Obj.areaState a) = (if s.verifyCause a = 0 then 3 else 4) ∧
      (s.judged a).ob (Obj.areaRejectCause a) = s.verifyCause a ∧ ((s.judged a).area a).blocks = (s.area a).blocks ∧
      (s.judged a).pw.timers.get? 6 = some (s.now + sec 10) ∧
      (s.verifyCause a = 0 → ((s.judged a).area a).activated = false ∧
        (s.judged a).Raised s.now 1202 (s.ob (Obj.areaKind a) * 2 ^ 16 + s.ob (Obj.areaImgSec a))) ∧
      (s.verifyCause a ≠ 0 → (s.judged a).Raised s.now 1203 (a * 256 + s.verifyCause a)) := by
  obtain ⟨touched, objects, time, -⟩ := s.stagingTouched_stays
  unfold judged
  generalize s.stagingTouched = u at touched objects time
  have sameNow : u.now = s.now := by rw [touched]; rfl
  have area : u.area a = s.area a := by rw [touched]; rfl
  by_cases passes : s.verifyCause a = 0
  · obtain ⟨frame, state, cause, stands, told⟩ := u.verified_stands a
    have kind : u.ob (Obj.areaKind a) = s.ob (Obj.areaKind a) := objects _ (areaObject_not_voteObject known (by decide))
    have sec : u.ob (Obj.areaImgSec a) = s.ob (Obj.areaImgSec a) := objects _ (areaObject_not_voteObject known (by decide))
    rw [sameNow, kind, sec] at told
    simp only [passes, if_true]
    generalize u.verified a = v at frame state cause stands told
    refine ⟨?_, state, cause, ?_, ?_, fun _ => ⟨?_, told⟩, (absurd rfl ·)⟩
    · rw [frame, touched]
    · rw [stands, area]
    · rw [frame]
      exact time
    · rw [stands]
  · obtain ⟨state, cause, told⟩ := u.rejectArea_shows a (s.verifyCause a)
    have frame := u.rejectArea_shown a (s.verifyCause a)
    unfold Shows at frame
    rw [sameNow] at told
    simp only [passes, if_false]
    generalize u.rejectArea a (s.verifyCause a) = v at frame state cause told
    refine ⟨?_, state, cause, ?_, ?_, fun h => h.elim, fun _ => told⟩
    · rw [frame, touched]
    · rw [frame]
      exact congrArg StageArea.blocks area
    · rw [frame]
      exact time

/-! ## UPD_DISCARD (R439) -/

/-- The objects a discarded area shows as 0. -/
def areaObjects (a : Nat) : List Nat :=
  [Obj.areaState a, Obj.areaKind a, Obj.areaBlocksExpected a, Obj.areaBlocksValid a, Obj.areaImgVersion a, Obj.areaImgSec a,
    Obj.areaRejectCause a]

/-- Objects made 0 one after another. -/
theorem zeroed_stands (l : List Nat) (s : State) :
    forEach l (fun s k => s.setOb k 0) s = { s with obj := (forEach l (fun s k => s.setOb k 0) s).obj } ∧
      ∀ k, (forEach l (fun s k => s.setOb k 0) s).ob k = if k ∈ l then 0 else s.ob k := by
  induction l generalizing s with
  | nil => exact ⟨rfl, fun k => by simp [forEach]⟩
  | cons j l ih =>
    obtain ⟨frame, read⟩ := ih (s.setOb j 0)
    refine ⟨?_, fun k => (read k).trans ?_⟩
    · exact frame
    · by_cases own : k = j
      · simp [own]
      · simp [own, Ne.symm own]

/-- An area emptied, with its objects. -/
def discarded (s : State) (a : Nat) : State := forEach (areaObjects a) (fun s k => s.setOb k 0) (s.setArea a {})

theorem doUpdDiscard_free {s : State} {a : Nat} (known : a < 3) (free : s.ob (Obj.areaState a) ≠ 5) :
    s.doUpdDiscard a = .ok (s.discarded a).stagingTouched :=
  (check_ok (by simpa using known) ..).trans (check_ok (by simpa using free) ..)

theorem discarded_stands (s : State) (a : Nat) :
    s.discarded a = { s with upd := (s.discarded a).upd, obj := (s.discarded a).obj } ∧ (s.discarded a).area a = {} ∧
      (∀ k ∈ areaObjects a, (s.discarded a).ob k = 0) ∧ ∀ c, c ≠ a → (s.discarded a).area c = s.area c := by
  obtain ⟨frame, read⟩ := zeroed_stands (areaObjects a) (s.setArea a {})
  unfold discarded
  generalize forEach (areaObjects a) (fun s k => s.setOb k 0) (s.setArea a {}) = t at frame read
  refine ⟨?_, ?_, fun k own => (read k).trans (if_pos own), fun c other => ?_⟩
  · rw [frame]
    rfl
  · rw [frame]
    exact area_setArea_same ..
  · rw [frame]
    exact area_setArea_other s {} other

/-! ## UPD_CONFIRM (R446) -/

/-- The minimum security version of one kind raised to that of the image that runs. -/
def minRaised (s : State) (k : Nat) : State :=
  s.setOb (Obj.secMin k) (max (s.ob (Obj.secMin k)) (s.upd.running.read Part.secMin (k + 1)))

theorem secMin_inj {j k : Nat} : Obj.secMin j = Obj.secMin k ↔ j = k := by
  simp only [Obj.secMin, key]
  omega

theorem minsRaised_stands (n : Nat) (s : State) :
    forRange n minRaised s = { s with obj := (forRange n minRaised s).obj } ∧
      (∀ k, (forRange n minRaised s).ob (Obj.secMin k) =
        if k < n then max (s.ob (Obj.secMin k)) (s.upd.running.read Part.secMin (k + 1)) else s.ob (Obj.secMin k)) ∧
      s.ObjectsBut (forRange n minRaised s) ((List.range n).map Obj.secMin) := by
  induction n with
  | zero => exact ⟨rfl, fun k => by simp [forRange], objectsBut_refl s _⟩
  | succ n ih =>
    obtain ⟨frame, read, objects⟩ := ih
    rw [forRange_succ]
    generalize forRange n minRaised s = t at frame read objects
    have upd : t.upd = s.upd := by rw [frame]
    refine ⟨?_, fun k => ?_, fun k out => ?_⟩
    · unfold minRaised
      rw [frame]
      rfl
    · unfold minRaised
      by_cases last : k = n
      · subst last
        rw [ob_setOb_same, read, if_neg (Nat.lt_irrefl k), if_pos (Nat.lt_succ_self k), upd]
      · rw [ob_setOb_other _ _ (fun e => last (secMin_inj.mp e).symm), read]
        have low : k < n + 1 ↔ k < n := by omega
        simp [low]
    · simp only [List.range_succ, List.map_append, List.mem_append, List.map_cons, List.map_nil, List.mem_singleton,
        not_or] at out
      exact (ob_setOb_other t _ (Ne.symm out.2)).trans (objects k out.1)

/-- A confirmation: the minimum versions raised, the keep area and the migrated values gone, and nothing unconfirmed. -/
def updConfirmed (s : State) : State :=
  ((({ forRange 4 minRaised s with upd := { s.upd with keep := none, migrated := none } } : State).setOb Obj.keepSchema 0).setOb
    Obj.migrateState 0).setOb Obj.unconfirmed 0

theorem doUpdConfirm_right (s : State) {v : Nat} (right : v = 0xA5) :
    s.doUpdConfirm v = .ok (s.updConfirmed.post 1210 (s.ob Obj.unconfirmed)) := by
  have upd : (forRange 4 minRaised s).upd = s.upd := by rw [(minsRaised_stands 4 s).1]
  unfold updConfirmed
  rw [← upd]
  exact check_ok (decide_eq_true right) ..

/-- The objects a confirmation moves. -/
def confirmObjects : List Nat := [0, 1, 2, 3].map Obj.secMin ++ [Obj.keepSchema, Obj.migrateState, Obj.unconfirmed]

theorem updConfirmed_stands (s : State) :
    s.updConfirmed = { s with upd := { s.upd with keep := none, migrated := none }, obj := s.updConfirmed.obj } ∧
      (∀ k < 4, s.updConfirmed.ob (Obj.secMin k) = max (s.ob (Obj.secMin k)) (s.upd.running.read Part.secMin (k + 1))) ∧
      s.updConfirmed.ob Obj.keepSchema = 0 ∧ s.updConfirmed.ob Obj.migrateState = 0 ∧ s.updConfirmed.ob Obj.unconfirmed = 0 ∧
      s.ObjectsBut s.updConfirmed confirmObjects := by
  obtain ⟨frame, read, objects⟩ := minsRaised_stands 4 s
  unfold updConfirmed
  generalize forRange 4 minRaised s = t at frame read objects
  let u : State := { t with upd := { s.upd with keep := none, migrated := none } }
  refine ⟨?_, fun k known => ?_, ?_, ?_, ob_setOb_same .., fun k out => ?_⟩
  · rw [frame]
    rfl
  · have keep : Obj.keepSchema ≠ Obj.secMin k := by simp only [Obj.keepSchema, Obj.secMin, key]; omega
    have migrate : Obj.migrateState ≠ Obj.secMin k := by simp only [Obj.migrateState, Obj.secMin, key]; omega
    have unconfirmed : Obj.unconfirmed ≠ Obj.secMin k := by simp only [Obj.unconfirmed, Obj.secMin, key]; omega
    rw [ob_setOb_other _ _ unconfirmed, ob_setOb_other _ _ migrate, ob_setOb_other _ _ keep]
    exact (read k).trans (if_pos known)
  · have migrate : Obj.migrateState ≠ Obj.keepSchema := by decide
    have unconfirmed : Obj.unconfirmed ≠ Obj.keepSchema := by decide
    rw [ob_setOb_other _ _ unconfirmed, ob_setOb_other _ _ migrate, ob_setOb_same]
  · have unconfirmed : Obj.unconfirmed ≠ Obj.migrateState := by decide
    rw [ob_setOb_other _ _ unconfirmed, ob_setOb_same]
  · simp only [confirmObjects, List.mem_append, List.mem_cons, List.not_mem_nil, or_false, not_or] at out
    obtain ⟨mins, keep, migrate, unconfirmed⟩ := out
    rw [ob_setOb_other _ _ (Ne.symm unconfirmed), ob_setOb_other _ _ (Ne.symm migrate), ob_setOb_other _ _ (Ne.symm keep)]
    exact objects k mins

/-! ## The commands, as the statement has them -/

theorem updVerify_judges {h : Nat} {a : Fin 3} {s : State} {x : Session} (sv : s.Serves h .service x)
    (free : s.ob (Obj.areaState a) ≠ 5) :
    exec (.updVerify h a) s = .next { (s.asked x).judged a with reply := { status := .success } } := by
  have silent : ((s.asked x).judged a).reply = {} := by rw [((s.asked x).judged_stands a.isLt).1]; rfl
  rw [exec_updVerify sv]
  exact finish_done (doUpdVerify_free (s := s.asked x) free) silent

theorem updVerify_inUse {h : Nat} {a : Fin 3} {s : State} {x : Session} (sv : s.Serves h .service x)
    (used : s.ob (Obj.areaState a) = 5) : exec (.updVerify h a) s = .next { s.asked x with reply := { status := .inUse } } := by
  rw [exec_updVerify sv]
  rw [show (s.asked x).doUpdVerify a 1 = .error .inUse from
    (check_ok (by decide) ..).trans (check_error (decide_eq_false (not_not.mpr used)) ..)]
  rfl

theorem updDiscard_discards {h : Nat} {v : BitVec 8} {s : State} {x : Session} (sv : s.Serves h .service x)
    (known : v.toNat < 3) (free : s.ob (Obj.areaState v.toNat) ≠ 5) :
    ∃ t, exec (.updDiscard h v) s = .next t ∧ t = { s.served x with upd := t.upd, obj := t.obj, pw := t.pw } ∧
      t.area v.toNat = {} ∧ (∀ k ∈ areaObjects v.toNat, t.ob k = 0) ∧ ∀ c : Nat, c ≠ v.toNat → t.area c = s.area c := by
  have run := (exec_updDiscard sv).trans
    (congrArg (s.asked x).finish (doUpdDiscard_free (s := s.asked x) (a := v.toNat) known free))
  rw [run]
  obtain ⟨frame, empty, zero, others⟩ := (s.asked x).discarded_stands v.toNat
  generalize (s.asked x).discarded v.toNat = u at frame empty zero others
  obtain ⟨touched, objects, -⟩ := u.stagingTouched_stays
  generalize u.stagingTouched = t at touched objects
  have upd : t.upd = u.upd := by rw [touched]
  have area (c : Nat) : t.area c = u.area c := congrArg (fun p : Update => p.areas.read {} c) upd
  refine ⟨_, finish_done rfl ?_, ?_, (area _).trans empty, fun k own => (objects k ?_).trans (zero k own),
    fun c other => (area c).trans (others c other)⟩
  · rw [touched, frame]
    rfl
  · rw [touched, frame]
    rfl
  · simp only [areaObjects, List.mem_cons, List.not_mem_nil, or_false] at own
    rcases own with rfl | rfl | rfl | rfl | rfl | rfl | rfl <;> exact areaObject_not_voteObject known (by decide)

theorem updDiscard_refused {h : Nat} {v : BitVec 8} {s : State} {x : Session} (sv : s.Serves h .service x) :
    (3 ≤ v.toNat → exec (.updDiscard h v) s = .next { s.asked x with reply := { status := .valueRange } }) ∧
      (v.toNat < 3 → s.ob (Obj.areaState v.toNat) = 5 →
        exec (.updDiscard h v) s = .next { s.asked x with reply := { status := .inUse } }) := by
  rw [exec_updDiscard sv]
  refine ⟨fun out => ?_, fun known used => ?_⟩
  · rw [show (s.asked x).doUpdDiscard v.toNat = .error .valueRange from check_error (decide_eq_false (by omega)) ..]
    rfl
  · rw [show (s.asked x).doUpdDiscard v.toNat = .error .inUse from
      (check_ok (decide_eq_true known) ..).trans (check_error (decide_eq_false (not_not.mpr used)) ..)]
    rfl

theorem updConfirm_confirms {h : Nat} {v : BitVec 8} {s : State} {x : Session} (sv : s.Serves h .service x) (right : v.toNat = 0xA5) :
    ∃ t, exec (.updConfirm h v) s = .next t ∧ t.upd = { s.upd with keep := none, migrated := none } ∧
      t = { s.served x with upd := t.upd, obj := t.obj, fab := t.fab } ∧
      (∀ k < 4, t.ob (Obj.secMin k) = max (s.ob (Obj.secMin k)) (s.upd.running.read Part.secMin (k + 1))) ∧
      t.ob Obj.keepSchema = 0 ∧ t.ob Obj.migrateState = 0 ∧ t.ob Obj.unconfirmed = 0 ∧
      t.Raised s.now 1210 (s.ob Obj.unconfirmed) ∧ s.ObjectsBut t confirmObjects := by
  have done := (s.asked x).doUpdConfirm_right right
  obtain ⟨frame, mins, keep, migrate, unconfirmed, objects⟩ := (s.asked x).updConfirmed_stands
  rw [exec_updConfirm sv]
  generalize (s.asked x).updConfirmed = t at done frame mins keep migrate unconfirmed objects
  have told := raised_post t 1210 (s.ob Obj.unconfirmed)
  have sameNow : t.now = s.now := by rw [frame]; rfl
  rw [sameNow] at told
  refine ⟨_, finish_done done ?_, ?_, ?_, mins, keep, migrate, unconfirmed, told, objects⟩
  · rw [frame]
    rfl
  · exact (congrArg State.upd frame :)
  · rw [frame]
    rfl

theorem updConfirm_refused {h : Nat} {v : BitVec 8} {s : State} {x : Session} (sv : s.Serves h .service x) (wrong : v.toNat ≠ 0xA5) :
    exec (.updConfirm h v) s = .next { s.asked x with reply := { status := .valueRange } } := by
  rw [exec_updConfirm sv, show (s.asked x).doUpdConfirm v.toNat = .error .valueRange from check_error (decide_eq_false wrong) ..]
  rfl

/-- The cause of a verification, as the statement writes it. -/
theorem verifyCause_eq (s : State) (a : Nat) : s.verifyCause a =
    if s.ob (Obj.areaBlocksExpected a) = 0 ∨ s.validBlocks a < s.ob (Obj.areaBlocksExpected a) then 2
    else if kindBlocks (s.ob (Obj.areaKind a)) < s.header a 12 4 then 3
    else if Config.ecdsaVerify (s.slotKey 2) (s.imageDigest a) (s.ob (Obj.areaUpdSignature a)) = false then 4
    else if s.ob (Obj.areaImgSec a) < s.ob (Obj.secMin (s.ob (Obj.areaKind a) - 1)) then 5 else 0 := by
  simp only [verifyCause, Bool.or_eq_true, decide_eq_true_eq, Bool.not_eq_true']

end State

open State in
/-- Settles O57: a write of STAGE by what stands after the check of its record, the commands by what stands after each. -/
theorem stagingDoesAsStated : Obligations.StagingDoesAsStated := by
  unfold Obligations.StagingDoesAsStated
  refine ⟨fun h a offset data s x sv len => ?_, fun h a s x sv => ?_, fun h v s x sv => ?_, fun h v s x sv => ?_⟩
  · have len' : (data.map (fun b => b.toNat)).length = data.length := List.length_map _
    dsimp only
    refine ⟨fun c mem holds => ?_, fun aligned free fits unheld => ?_⟩
    · simp only [List.mem_cons, List.not_mem_nil, or_false] at mem
      obtain rfl | rfl | rfl | rfl := mem
      · exact stageWrite_refused sv len (e := .valueRange) (by decide) (doStageWrite_misaligned (by rw [len']; exact holds))
      · obtain ⟨aligned, used⟩ := holds
        exact stageWrite_refused sv len (e := .inUse) (by decide) (doStageWrite_inUse (by rw [len']; exact aligned) used)
      · obtain ⟨aligned, free, out⟩ := holds
        exact stageWrite_refused sv len (e := .valueRange) (by decide) (doStageWrite_outOfRange (by rw [len']; exact aligned) free out)
      · obtain ⟨aligned, free, fits, held⟩ := holds
        refine stageWrite_refused sv len (e := .inUse) (by decide)
          ((doStageWrite_writes (s := s.asked x) (by rw [len']; exact aligned) free fits).trans ?_)
        rw [domainWrites_held (by rw [setDomBit_stage]; exact held), setDomBit_stage]
    · obtain ⟨t, run, frame, hold, time, vote, blocks, areas, ends⟩ := stageWrite_taken sv len aligned free fits unheld
      unfold stageRecord at ends
      rw [len'] at ends
      refine ⟨t, run, frame, hold, time, vote, blocks, fun c other => areas c (by omega), ends.partly, ends.broken, fun full good =>
        ⟨ends.counted full good, ends.valid full good, fun first => ⟨ends.header full good first, ends.rejected full good first⟩⟩⟩
  · have same : (s.asked x).verifyCause a = s.verifyCause a := rfl
    dsimp only
    rw [← verifyCause_eq]
    refine ⟨updVerify_inUse sv, fun free => ?_⟩
    obtain ⟨frame, state, cause, blocks, time, passes, fails⟩ := (s.asked x).judged_stands a.isLt
    refine ⟨_, updVerify_judges sv free, ?_, state, cause, blocks, time, passes, fails⟩
    generalize (s.asked x).judged a = t at frame
    rw [frame]
    rfl
  · obtain ⟨range, inUse⟩ := updDiscard_refused sv (v := v)
    refine ⟨range, inUse, fun known free => ?_⟩
    obtain ⟨t, run, frame, empty, zero, others⟩ := updDiscard_discards sv known free
    exact ⟨t, run, frame, empty, zero, fun c => others c⟩
  · exact ⟨updConfirm_refused sv, updConfirm_confirms sv⟩

end Sys2Proof.Machine

/-!
The ledger (R418–R434): what its notes, its votes and the claim of a segment leave alone, sealing, durability and the store.
-/

namespace Sys2Proof.Machine
namespace State

/-! ## Objects left alone, one operation after another -/

theorem ObjectsBut.setOb {s t : State} {own : List Nat} {k v : Nat} (h : s.ObjectsBut t own) (mem : k ∈ own) :
    s.ObjectsBut (t.setOb k v) own := objectsBut_setOb h mem v
theorem ObjectsBut.setBit {s t : State} {own : List Nat} {k i : Nat} {b : Bool} (h : s.ObjectsBut t own) (mem : k ∈ own) :
    s.ObjectsBut (t.setBit k i b) own := objectsBut_setOb h mem _
theorem ObjectsBut.post {s t : State} {own : List Nat} {ev v : Nat} (h : s.ObjectsBut t own) : s.ObjectsBut (t.post ev v) own := h
theorem ObjectsBut.postIf {s t : State} {own : List Nat} {c : Bool} {ev v : Nat} (h : s.ObjectsBut t own) :
    s.ObjectsBut (t.postIf c ev v) own := objectsBut_postIf h c ev v
/-- States with the same objects. -/
theorem ObjectsBut.of_obj {s t : State} {own : List Nat} (same : t.obj = s.obj) : s.ObjectsBut t own := fun k _ => by
  unfold ob
  rw [same]

/-! ## What the ledger moves beside its pages -/

/-- The pages of the buffer, the chain and the running Flush. -/
def Ledger.core (l : Ledger) : List LedgerPage × Nat × Nat × Option Nat := (l.pages, l.nextPage, l.chain, l.flushing)

/-- The objects that a note of the ledger, its vote or the claim of a segment may move. -/
def noteObjects : List Nat :=
  voteObjects ++ [Obj.ledgerNextSeq, Obj.ledgerBufferFill, Obj.ledgerRecordsLost, Obj.ledgerState, Obj.ledgerUsedPercent]

/-- `t` is `s` with nothing changed but the ledger, votes, the objects `own` and events that joined those under way. -/
structure Ledges (own : List Nat) (s t : State) : Prop where
  frame : t = { s with ledger := t.ledger, obj := t.obj, fab := t.fab, pw := t.pw }
  objects : s.ObjectsBut t own
  store : s.ledger.store = [] → t.ledger.store = []
  events : ∀ o ∈ s.fab.inFlight, o ∈ t.fab.inFlight

namespace Ledges
variable {own : List Nat} {s t u : State}

theorem refl (s : State) : Ledges own s s := ⟨rfl, objectsBut_refl s _, id, fun _ h => h⟩
theorem trans (h : Ledges own s t) (k : Ledges own t u) : Ledges own s u where
  frame := by rw [k.frame, h.frame]
  objects j hj := (k.objects j hj).trans (h.objects j hj)
  store e := k.store (h.store e)
  events o ho := k.events o (h.events o ho)
theorem mono {more : List Nat} (h : Ledges own s t) (sub : ∀ k ∈ own, k ∈ more) : Ledges more s t :=
  { h with objects := fun j hj => h.objects j fun mem => hj (sub j mem) }
theorem ite {c : Prop} [Decidable c] (h : Ledges own s t) (k : Ledges own s u) : Ledges own s (if c then t else u) := by
  split
  · exact h
  · exact k
theorem setOb {k v : Nat} (h : Ledges own s t) (mem : k ∈ own) : Ledges own s (t.setOb k v) :=
  h.trans ⟨rfl, objectsBut_setOb (objectsBut_refl t _) mem v, id, fun _ h => h⟩
theorem post {ev v : Nat} (h : Ledges own s t) : Ledges own s (t.post ev v) :=
  h.trans ⟨rfl, objectsBut_refl t _, id, fun _ h => List.mem_append_left _ h⟩
theorem withLedger {l : Ledger} (h : Ledges own s t) (store : t.ledger.store = [] → l.store = []) :
    Ledges own s { t with ledger := l } := h.trans ⟨rfl, objectsBut_refl t _, store, fun _ h => h⟩
theorem now_ (h : Ledges own s t) : t.now = s.now := by rw [h.frame]; rfl
theorem sameOwn (h : Ledges own s t) : t.own = s.own := by rw [h.frame]
theorem sameCfg (h : Ledges own s t) : t.cfg = s.cfg := by rw [h.frame]
theorem raised (h : Ledges own s t) {at_ : Tick} {ev v : Nat} (told : s.Raised at_ ev v) : t.Raised at_ ev v := h.events _ told

end Ledges

theorem Voted.ledges {s t : State} (h : s.Voted t) : Ledges noteObjects s t where
  frame := by rw [h.frame]
  objects k hk := h.objects k fun mem => hk (List.mem_append_left _ mem)
  store e := by rw [h.frame]; exact e
  events o ho := by rw [h.fab]; exact ho

/-- `t` is `s` after notes, votes and the claim of a segment: the pages, the chain and the running Flush stand. -/
structure Notes (s t : State) : Prop where
  ledges : Ledges noteObjects s t
  core : Ledger.core t.ledger = Ledger.core s.ledger

theorem Notes.refl (s : State) : s.Notes s := ⟨.refl s, rfl⟩
theorem Notes.trans {s t u : State} (h : s.Notes t) (k : t.Notes u) : s.Notes u := ⟨h.ledges.trans k.ledges, k.core.trans h.core⟩
theorem Notes.ite {c : Prop} [Decidable c] {s t u : State} (h : s.Notes t) (k : s.Notes u) : s.Notes (if c then t else u) := by
  split
  · exact h
  · exact k
theorem Notes.withLedger {s t : State} {l : Ledger} (h : s.Notes t) (store : t.ledger.store = [] → l.store = [])
    (core : Ledger.core l = Ledger.core t.ledger) : s.Notes { t with ledger := l } := ⟨h.ledges.withLedger store, core.trans h.core⟩
theorem Notes.setOb {s t : State} {k v : Nat} (h : s.Notes t) (mem : k ∈ noteObjects) : s.Notes (t.setOb k v) :=
  ⟨h.ledges.setOb mem, h.core⟩
theorem Notes.post {s t : State} {ev v : Nat} (h : s.Notes t) : s.Notes (t.post ev v) := ⟨h.ledges.post, h.core⟩
theorem Voted.notes {s t : State} (h : s.Voted t) : s.Notes t := ⟨h.ledges, by rw [h.frame]⟩

theorem Notes.pages {s t : State} (h : s.Notes t) : t.ledger.pages = s.ledger.pages := congrArg (·.1) h.core
theorem Notes.nextPage {s t : State} (h : s.Notes t) : t.ledger.nextPage = s.ledger.nextPage := congrArg (·.2.1) h.core
theorem Notes.chain {s t : State} (h : s.Notes t) : t.ledger.chain = s.ledger.chain := congrArg (·.2.2.1) h.core
theorem Notes.flushing {s t : State} (h : s.Notes t) : t.ledger.flushing = s.ledger.flushing := congrArg (·.2.2.2) h.core

/-! ## Records and notes (R416, R418, R419) -/

theorem notes_storeRecord (s : State) (r : LedgerRecord) : s.Notes (s.storeRecord r) := by
  unfold storeRecord
  dsimp only
  exact .setOb (.setOb (.withLedger (.refl s) id rfl) (by simp [noteObjects])) (by simp [noteObjects])

theorem notes_dropRecord (s : State) : s.Notes s.dropRecord := by
  have counted : s.Notes (s.bump Obj.ledgerRecordsLost) := .setOb (.refl s) (by simp [noteObjects])
  unfold dropRecord
  dsimp only
  exact .ite (.post (.withLedger counted id rfl)) (.withLedger counted id rfl)

theorem notes_record (s : State) (r : LedgerRecord) : s.Notes (s.record r) := by
  have again : s.Notes { s with ledger := { s.ledger with lost := 0 } } := .withLedger (.refl s) id rfl
  have later : s.Notes ((({ s with ledger := { s.ledger with lost := 0 } } : State).storeRecord { s.newRecord 9 s.now with
      new := s.ledger.lost % 2 ^ 32, reason := 1170, cmdr := 10,
      detail := (s.ob Obj.ledgerNextSeq - 1) + 2 ^ 48 * s.ob Obj.ledgerNextSeq }).storeRecord r) :=
    (again.trans (notes_storeRecord ..)).trans (notes_storeRecord ..)
  exact .ite (.refl s) (.ite (notes_dropRecord s) (.ite (notes_storeRecord s r) later))

theorem notes_ledgerNote (s : State) (ev count first last : Nat) : s.Notes (s.ledgerNote ev count first last) := notes_record ..

theorem notes_showFill (s : State) : s.Notes s.showFill := .setOb (.refl s) (by simp [noteObjects])

/-- The store found full (R428). -/
theorem notes_full (s : State) (q : Nat) : s.Notes (((s.setOb Obj.ledgerState 4).post 1174 0).ledgerNote 1174 0 q q) :=
  Notes.trans (.post (.setOb (.refl s) (by simp [noteObjects]))) (notes_ledgerNote ..)

theorem notes_claimSegment (s : State) : s.Notes s.claimSegment := by
  unfold claimSegment
  dsimp only
  refine .ite (.refl s) ?_
  split
  · exact .refl s
  · refine .ite (.refl s) (.ite (notes_full ..) ?_)
    split
    · exact .refl s
    · refine .ite (notes_full ..) (.post (.withLedger (.refl s) ?_ rfl))
      exact fun none_ => by simp [none_]

theorem notes_ledgerVote (s : State) : s.Notes s.ledgerVote := by
  unfold ledgerVote
  exact .ite (voted_placeVotes ..).notes (.refl s)

theorem notes_showUsed (s : State) : s.Notes s.showUsed := by
  unfold showUsed
  dsimp only
  exact .ite (.post (.withLedger (.setOb (.refl s) (by simp [noteObjects])) id rfl)) (.setOb (.refl s) (by simp [noteObjects]))

/-- What follows a change of the buffer: its fill shown, the segment claimed and the vote placed. -/
theorem notes_settled (s : State) : s.Notes s.showFill.claimSegment.ledgerVote :=
  ((notes_showFill s).trans (notes_claimSegment _)).trans (notes_ledgerVote _)

/-! ## Sealing (R421, R422) -/

/-- The objects that sealing and formatting move as well. -/
def sealObjects : List Nat := Obj.ledgerHeadPage :: noteObjects

theorem Notes.seals {s t : State} (h : s.Notes t) : Ledges sealObjects s t := h.ledges.mono fun _ => List.mem_cons_of_mem _

theorem sealed_fields (s : State) (p : LedgerPage) :
    (s.sealed p).number = p.number ∧ (s.sealed p).records = p.records ∧ (s.sealed p).prevHash = p.prevHash := by
  unfold sealed
  split <;> exact ⟨rfl, rfl, rfl⟩

/-- A page sealed joins the buffer and the chain. -/
theorem sealPage_joins (s : State) (p : LedgerPage) :
    ∃ q : LedgerPage, q.number = s.ledger.nextPage ∧ q.records = p.records ∧ q.prevHash = s.ledger.chain ∧
      (s.sealPage p).ledger = { s.ledger with
        pages := s.ledger.pages ++ [q], nextPage := s.ledger.nextPage + 1, chain := q.hash } ∧
      (s.sealPage p).ob Obj.ledgerHeadPage = q.number := by
  obtain ⟨number, records, prev⟩ :=
    s.sealed_fields { p with number := s.ledger.nextPage, epoch := s.ob Obj.ledgerEpoch, prevHash := s.ledger.chain }
  exact ⟨_, number, records, prev, rfl, ob_setOb_same ..⟩

theorem seals_sealPage (s : State) (p : LedgerPage) : Ledges sealObjects s (s.sealPage p) := by
  unfold sealPage
  exact .setOb (.withLedger (.refl s) id) (by simp [sealObjects])

/-- The buffer without the records that the next page takes. -/
def openTaken (s : State) : State :=
  { s with ledger := { s.ledger with openPage := s.ledger.openPage.drop 62, openFirst := s.now } }

/-- The page of records that is sealed next. -/
def nextRecords (s : State) : LedgerPage :=
  let rs := s.ledger.openPage.take 62
  { number := 0, kind := 1, flags := if rs.length < 62 then 2 else 0, epoch := 0, firstSeq := (rs.head?.map (·.seq)).getD 0
    prevHash := 0, records := rs }

theorem sealOpen_eq {s : State} (on : s.ledgerOn = true) (known : s.ob Obj.ledgerState ≠ 2) (some_ : s.ledger.openPage ≠ [])
    (plain : s.ledger.nextPage % 65536 ≠ 0) (whole : s.ledger.gap = none) :
    s.sealOpen = (s.openTaken.sealPage s.nextRecords).showFill.claimSegment.ledgerVote := by
  unfold sealOpen
  rw [if_neg (by simp [on, known, some_])]
  dsimp only
  rw [if_neg (by simp [plain, whole])]
  rfl

/-- The open page sealed where no checkpoint is due: the page joins the buffer and the chain. -/
theorem sealOpen_seals {s : State} (on : s.ledgerOn = true) (known : s.ob Obj.ledgerState ≠ 2) (some_ : s.ledger.openPage ≠ [])
    (plain : s.ledger.nextPage % 65536 ≠ 0) (whole : s.ledger.gap = none) :
    Ledges sealObjects s s.sealOpen ∧ ∃ p : LedgerPage, s.sealOpen.ledger.pages = s.ledger.pages ++ [p] ∧
      p.number = s.ledger.nextPage ∧ p.records = s.ledger.openPage.take 62 ∧ p.prevHash = s.ledger.chain ∧
      s.sealOpen.ledger.chain = p.hash ∧ s.sealOpen.ledger.nextPage = s.ledger.nextPage + 1 ∧
      s.sealOpen.ob Obj.ledgerHeadPage = p.number := by
  rw [sealOpen_eq on known some_ plain whole]
  have opened : Ledges sealObjects s s.openTaken := .withLedger (.refl s) id
  obtain ⟨q, number, records, prev, ledger, head⟩ := s.openTaken.sealPage_joins s.nextRecords
  have sealed := s.openTaken.seals_sealPage s.nextRecords
  generalize s.openTaken.sealPage s.nextRecords = t at ledger head sealed
  have after := t.notes_settled
  refine ⟨(opened.trans sealed).trans after.seals, q, ?_, number, records, prev, ?_, ?_, ?_⟩
  · rw [after.pages, ledger]
    rfl
  · rw [after.chain, ledger]
  · rw [after.nextPage, ledger]
    rfl
  · exact (after.ledges.objects _ (by decide)).trans head

theorem pageSeal_seals {s : State} (on : s.ledgerOn = true) (known : s.ob Obj.ledgerState ≠ 2) (some_ : s.ledger.openPage ≠ [])
    (plain : s.ledger.nextPage % 65536 ≠ 0) (whole : s.ledger.gap = none)
    (due : 62 ≤ s.ledger.openPage.length ∨ s.passed s.ledger.openFirst (ms (s.cf Obj.ledgerSealTime)) = true) :
    ∃ t p, exec .pageSeal s = .next t ∧ t.ledger.pages = s.ledger.pages ++ [p] ∧ p.number = s.ledger.nextPage ∧
      p.records = s.ledger.openPage.take 62 ∧ p.prevHash = s.ledger.chain ∧ t.ledger.chain = p.hash ∧
      t.ledger.nextPage = s.ledger.nextPage + 1 ∧ t.ob Obj.ledgerHeadPage = p.number ∧ t.own = s.own ∧ t.cfg = s.cfg := by
  obtain ⟨stays, p, pages, number, records, prev, chain, next, head⟩ := sealOpen_seals on known some_ plain whole
  have run : exec .pageSeal s = .next s.sealOpen := congrArg Host.Outcome.next (if_pos (by simpa using due))
  exact ⟨_, p, run, pages, number, records, prev, chain, next, head, stays.sameOwn, stays.sameCfg⟩

/-! ## Durability (R427) -/

/-- A page of the buffer written now. -/
def pageNoted (s : State) (p : LedgerPage) : State :=
  { s with ledger := { s.ledger with
      tries := 0
      pages := s.ledger.pages.map (fun q => if q.number = p.number then { q with written := some s.now } else q) } }

theorem exec_written {s : State} {p : LedgerPage} (runs : s.ob Obj.ledgerState = 3) (next : s.unwritten = some p) :
    exec (.pageWriteDone false 0) s =
      .next (if 8 ≤ (s.pageNoted p).written then (s.pageNoted p).issueFlush else s.pageNoted p).claimSegment := by
  show execPageWriteDone false 0 s = _
  unfold execPageWriteDone
  rw [if_neg (not_not.mpr runs), if_neg (by decide), next]
  rfl

/-- A Flush issued leaves the pages. -/
theorem issueFlush_pages (s : State) : Ledges noteObjects s s.issueFlush ∧ s.issueFlush.ledger.pages = s.ledger.pages := by
  unfold issueFlush
  split
  · exact ⟨.refl s, rfl⟩
  · exact ⟨.withLedger (.refl s) id, rfl⟩

theorem pageWritten_noted {s : State} {p : LedgerPage} (runs : s.ob Obj.ledgerState = 3) (next : s.unwritten = some p) :
    ∃ t, exec (.pageWriteDone false 0) s = .next t ∧ (∃ q ∈ t.ledger.pages, q.number = p.number ∧ q.written = some s.now) ∧
      t.ledger.pages.map (fun q => q.number) = s.ledger.pages.map (fun q => q.number) ∧ t.own = s.own ∧ t.cfg = s.cfg := by
  have there : p ∈ s.ledger.pages := List.mem_of_find?_eq_some next
  let u := if 8 ≤ (s.pageNoted p).written then (s.pageNoted p).issueFlush else s.pageNoted p
  have noted : Ledges noteObjects s (s.pageNoted p) := .withLedger (.refl s) id
  obtain ⟨flushes, same⟩ := (s.pageNoted p).issueFlush_pages
  have flushed : Ledges noteObjects s u := noted.trans (.ite flushes (.refl _))
  have pages : u.ledger.pages = (s.pageNoted p).ledger.pages := by
    unfold u
    split
    · exact same
    · rfl
  have after := u.notes_claimSegment
  have stays := flushed.trans after.ledges
  refine ⟨_, exec_written runs next, ⟨{ p with written := some s.now }, ?_, rfl, rfl⟩, ?_, stays.sameOwn, stays.sameCfg⟩
  · rw [after.pages, pages]
    exact List.mem_map.mpr ⟨p, there, if_pos rfl⟩
  · rw [after.pages, pages, pageNoted]
    simp only [List.map_map]
    refine List.map_congr_left fun q _ => ?_
    simp only [Function.comp]
    split <;> rfl

/-- The ledger after a Flush over its first pages ended, the last of them `p`. -/
def flushed (s : State) (n : Nat) (p : LedgerPage) : Ledger :=
  let l := s.ledger
  let done := l.pages.take n
  let l := { l with
    pages := l.pages.drop n, flushing := none, tries := 0, cleanSince := s.now
    store := done.foldl (fun t p => t.put p.number p) l.store
    index := done.foldl indexPage l.index }
  if l.headAt = 0 || s.passed l.headAt (ms 100) then
    { l with headAt := s.now, head := (p.number, p.hash, s.ob Obj.ledgerNextSeq, s.ob Obj.ledgerEpoch) }
  else l

theorem flushed_pages (s : State) (n : Nat) (p : LedgerPage) :
    (s.flushed n p).pages = s.ledger.pages.drop n ∧ (s.flushed n p).flushing = none := by
  unfold flushed
  dsimp only
  split <;> exact ⟨rfl, rfl⟩

theorem makeDurable_eq {s : State} {n : Nat} {p : LedgerPage} (last : (s.ledger.pages.take n).getLast? = some p) :
    s.makeDurable n =
      ((({ s with ledger := s.flushed n p } : State).setOb Obj.ledgerDurablePage p.number).showFill).showUsed := by
  unfold makeDurable
  dsimp only
  rw [last]
  rfl

theorem flushEnds_durable {s : State} {n : Nat} {p : LedgerPage} (runs : s.ob Obj.ledgerState = 3)
    (running : s.ledger.flushing = some n) (last : (s.ledger.pages.take n).getLast? = some p) :
    ∃ t, exec (.pageWriteDone true 0) s = .next t ∧ t.ledger.pages = s.ledger.pages.drop n ∧ t.ledger.flushing = none ∧
      t.ob Obj.ledgerDurablePage = p.number ∧ t.own = s.own ∧ t.cfg = s.cfg := by
  have run : exec (.pageWriteDone true 0) s = .next (s.makeDurable n).claimSegment := by
    show execPageWriteDone true 0 s = _
    unfold execPageWriteDone
    rw [if_neg (not_not.mpr runs), if_pos rfl, running]
    rfl
  rw [makeDurable_eq last] at run
  obtain ⟨pages, flushing⟩ := s.flushed_pages n p
  let u := ({ s with ledger := s.flushed n p } : State).setOb Obj.ledgerDurablePage p.number
  have after : u.Notes u.showFill.showUsed.claimSegment :=
    ((notes_showFill u).trans (notes_showUsed _)).trans (notes_claimSegment _)
  refine ⟨_, run, after.pages.trans pages, after.flushing.trans flushing, ?_, after.ledges.sameOwn, after.ledges.sameCfg⟩
  exact (after.ledges.objects _ (by decide)).trans (ob_setOb_same ..)

/-- A Write or Flush that failed, whichever runs. -/
theorem exec_failed {s : State} {flush : Bool} {status : BitVec 16} (runs : s.ob Obj.ledgerState = 3) (failed : status ≠ 0)
    (flushes : flush = true → s.ledger.flushing ≠ none) (writes : flush = false → s.unwritten ≠ none) :
    exec (.pageWriteDone flush status) s = .next (s.storeFailed status.toNat) := by
  show execPageWriteDone flush status s = _
  unfold execPageWriteDone
  rw [if_neg (not_not.mpr runs)]
  cases flush with
  | true =>
    obtain ⟨n, running⟩ := Option.ne_none_iff_exists'.mp (flushes rfl)
    rw [if_pos rfl, running]
    exact congrArg Host.Outcome.next (if_neg failed)
  | false =>
    obtain ⟨p, next⟩ := Option.ne_none_iff_exists'.mp (writes rfl)
    rw [if_neg (by decide), next]
    exact if_pos failed

theorem storeFailed_again {s : State} (few : s.ledger.tries < 3) (status : Nat) :
    s.storeFailed status = { s with ledger := { s.ledger with tries := s.ledger.tries + 1 } } := if_pos few

theorem storeFailed_faults {s : State} (many : 3 ≤ s.ledger.tries) (status : Nat) :
    s.storeFailed status =
      (({ s with ledger := { s.ledger with tries := 0, flushing := none, faultAt := s.now } } : State).setOb Obj.ledgerState 5).post
        1169 status := if_neg (Nat.not_lt.mpr many)

theorem flushTime_issues {s : State} {p : LedgerPage} {rest : List LedgerPage} {u : Tick} (runs : s.ob Obj.ledgerState = 3)
    (first : s.ledger.pages = p :: rest) (noted : p.written = some u)
    (late : s.passed u (ms (s.cf Obj.ledgerFlushTime)) = true) (idle : s.ledger.flushing = none) :
    exec .flushTimeExpiry s = .next { s with ledger := { s.ledger with flushing := some s.written } } := by
  have some_ : s.written ≠ 0 := by
    unfold written
    simp [first, noted]
  have issues : s.issueFlush = { s with ledger := { s.ledger with flushing := some s.written } } := if_neg (by simp [idle, some_])
  show execFlushTimeExpiry s = _
  unfold execFlushTimeExpiry
  rw [first, List.head?_cons]
  obtain ⟨⟩ := p
  cases noted
  rw [← issues]
  exact congrArg Host.Outcome.next (if_pos (by simp [runs, late]))

/-! ## The store (R426, R429) -/

theorem exec_linkStart {s : State} (on : s.ledgerOn = true) (power : s.domainIsOn 17 = true) (sound : s.ob Obj.ledgerState ≠ 5) :
    exec (.ledgerLinkStart .none) s = .next (s.setOb Obj.ledgerState 1) ∧
    (∀ pages, exec (.ledgerLinkStart (.blank pages)) s =
      .next (s.setOb Obj.ledgerCapacityPages (pages.toNat / 65536 * 65536)).formatStore) ∧
    (∀ pages head, exec (.ledgerLinkStart (.own pages head)) s =
      .next ((s.setOb Obj.ledgerCapacityPages (pages.toNat / 65536 * 65536)).continueStore head.toNat)) ∧
    (∀ pages, exec (.ledgerLinkStart (.foreign pages)) s =
      .next (((s.setOb Obj.ledgerCapacityPages (pages.toNat / 65536 * 65536)).setOb Obj.ledgerState 6).post 1177 0)) := by
  have open_ : ¬ (!s.ledgerOn || !s.domainIsOn 17 || decide (s.ob Obj.ledgerState = 5)) = true := by simp [on, power, sound]
  exact ⟨if_neg open_, fun _ => if_neg open_, fun _ _ => if_neg open_, fun _ => if_neg open_⟩

theorem Ledges.ledgerNote {s t : State} {ev n a b : Nat} (h : Ledges sealObjects s t) :
    Ledges sealObjects s (t.ledgerNote ev n a b) := h.trans (notes_ledgerNote ..).seals
theorem Ledges.sealPage {s t : State} {p : LedgerPage} (h : Ledges sealObjects s t) : Ledges sealObjects s (t.sealPage p) :=
  h.trans (seals_sealPage ..)

theorem seals_loseRange (s : State) (a b : Nat) : Ledges sealObjects s (s.loseRange a b) := by
  unfold loseRange
  dsimp only
  exact .ite (.refl s) (.ledgerNote (.post (.withLedger (.refl s) id)))

theorem seals_sealCheckpoint (s : State) : Ledges sealObjects s s.sealCheckpoint := by
  unfold sealCheckpoint
  dsimp only
  exact .post (.sealPage (.withLedger (.refl s) id))

/-- The objects a format moves. -/
def formatObjects : List Nat := Obj.ledgerFormatPage :: sealObjects

theorem Ledges.formats {s t : State} (h : Ledges sealObjects s t) : Ledges formatObjects s t :=
  h.mono fun _ => List.mem_cons_of_mem _

/-- A format: FORMAT_PAGE is the next segment's first page, the store is empty, and EV1178. -/
theorem formatStore_formats (s : State) :
    s.formatStore.ob Obj.ledgerFormatPage = nextSegment s.ledger.nextPage ∧
      s.formatStore.ob Obj.ledgerCapacityPages = s.ob Obj.ledgerCapacityPages ∧ s.formatStore.ledger.store = [] ∧
      s.formatStore.Raised s.now 1178 (nextSegment s.ledger.nextPage / 65536) ∧
      s.formatStore = { s with
        ledger := s.formatStore.ledger, obj := s.formatStore.obj, fab := s.formatStore.fab, pw := s.formatStore.pw } := by
  unfold formatStore
  extract_lets l fp lost bare buffer cleared shown q
  rw [show nextSegment s.ledger.nextPage = fp from rfl]
  clear_value lost fp
  have left : Ledges formatObjects s bare := by
    cases lost with
    | some a => exact (seals_loseRange ..).formats
    | none => exact .refl s
  have emptied : Ledges formatObjects s cleared := .withLedger left fun _ => rfl
  have none_ : cleared.ledger.store = [] := rfl
  have pageShown : shown.ob Obj.ledgerFormatPage = fp := (ob_setOb_other _ _ (by decide)).trans (ob_setOb_same ..)
  have empty : shown.ledger.store = [] := none_
  have before : Ledges formatObjects s shown :=
    .setOb (.setOb emptied (by simp [formatObjects])) (by simp [formatObjects, sealObjects, noteObjects])
  clear_value shown q
  have told := raised_post shown 1178 (fp / 65536)
  rw [before.now_] at told
  have noted : Ledges sealObjects shown (shown.post 1178 (fp / 65536)) := .post (.refl shown)
  have after : Ledges sealObjects (shown.post 1178 (fp / 65536))
      ((shown.post 1178 (fp / 65536)).ledgerNote 1178 (fp / 65536) q q).sealCheckpoint.showFill.claimSegment.ledgerVote :=
    ((notes_ledgerNote ..).seals.trans (seals_sealCheckpoint _)).trans (notes_settled _).seals
  generalize ((shown.post 1178 (fp / 65536)).ledgerNote 1178 (fp / 65536) q q).sealCheckpoint.showFill.claimSegment.ledgerVote = t
    at after
  have both := noted.trans after
  have all := before.trans both.formats
  exact ⟨(both.objects _ (by decide)).trans pageShown, all.objects _ (by decide), both.store empty, after.raised told, all.frame⟩

/-- The unit's own store, found as it was left. -/
theorem continueStore_same {s : State} {head : Nat} (known : head = s.ledger.head.1) (later : head < s.ledger.nextPage)
    (bare : s.ledger.strike = []) (done : s.unwritten = none) :
    s.Notes (s.continueStore head) ∧ (s.continueStore head).ob Obj.ledgerState = 3 ∧ (s.continueStore head).ledger = s.ledger := by
  let u := s.setOb Obj.ledgerState 3
  have eq : s.continueStore head = u.ledgerVote := by
    have claimed : u.claimSegment = u := by
      unfold claimSegment
      rw [show u.unwritten = none from done]
      exact ite_self _
    have appended : u.appendStrike = u := by
      unfold appendStrike
      rw [show u.ledger.strike = [] from bare]
    unfold continueStore
    dsimp only
    rw [if_neg (by omega), if_neg (by exact Nat.not_le.mpr later)]
    rw [show (s.setOb Obj.ledgerState 3).appendStrike = u from appended, claimed]
  have shown : s.Notes u := .setOb (.refl s) (by simp [noteObjects])
  have votes : u.Voted u.ledgerVote := by
    unfold ledgerVote
    split
    · exact voted_placeVotes ..
    · exact .refl u
  rw [eq]
  refine ⟨shown.trans votes.notes, (votes.objects _ (by decide)).trans (ob_setOb_same ..), ?_⟩
  rw [votes.frame]
  rfl

/-! ## Lost records, SMART, and the commands (R419, R422, R424, R429, R434) -/

/-- A record dropped and told of, and one dropped while the second since the last EV1170 runs. -/
def dropTold (s : State) : State :=
  ({ s.bump Obj.ledgerRecordsLost with ledger := { s.ledger with
      lost := s.ledger.lost + 1, lastEv1170 := some s.now, lostSince := 0 } } : State).post 1170 (s.ledger.lostSince + 1)
def dropCounted (s : State) : State :=
  { s.bump Obj.ledgerRecordsLost with ledger := { s.ledger with
      lost := s.ledger.lost + 1, lostSince := s.ledger.lostSince + 1 } }

theorem dropRecord_cases (s : State) :
    (s.ledger.lastEv1170 = none → s.dropRecord = s.dropTold) ∧ (s.dropRecord = s.dropTold ∨ s.dropRecord = s.dropCounted) := by
  unfold dropRecord
  refine ⟨fun none_ => ?_, ite_eq_or_eq ..⟩
  dsimp only
  rw [none_]
  rfl

/-- A record that finds the buffer full is counted, and told of where nothing was told before. -/
theorem dropRecord_counts (s : State) :
    s.dropRecord.ob Obj.ledgerRecordsLost = (s.ob Obj.ledgerRecordsLost + 1) % 2 ^ 32 ∧
      s.dropRecord.ledger.lost = s.ledger.lost + 1 ∧
      (s.ledger.lastEv1170 = none → s.dropRecord.Raised s.now 1170 (s.ledger.lostSince + 1)) ∧
      s.dropRecord.ledger.openPage = s.ledger.openPage ∧ s.dropRecord.ledger.pages = s.ledger.pages ∧
      s.dropRecord = { s with ledger := s.dropRecord.ledger, obj := s.dropRecord.obj, fab := s.dropRecord.fab } ∧
      s.ObjectsBut s.dropRecord [Obj.ledgerRecordsLost] := by
  have counted : (s.bump Obj.ledgerRecordsLost).ob Obj.ledgerRecordsLost = (s.ob Obj.ledgerRecordsLost + 1) % 2 ^ 32 :=
    ob_setOb_same ..
  have objects : s.ObjectsBut (s.bump Obj.ledgerRecordsLost) [Obj.ledgerRecordsLost] :=
    .setOb (objectsBut_refl s _) (by simp)
  have told : s.dropTold.Raised s.now 1170 (s.ledger.lostSince + 1) := raised_post ..
  obtain ⟨first, either⟩ := s.dropRecord_cases
  refine ⟨?_, ?_, fun none_ => (first none_).symm ▸ told, ?_⟩
  all_goals obtain e | e := either <;> rw [e]
  · exact counted
  · exact counted
  · rfl
  · rfl
  · exact ⟨rfl, rfl, rfl, objects⟩
  · exact ⟨rfl, rfl, rfl, objects⟩

theorem smartRead_shows {w : BitVec 8} {s : State} (there : s.storeThere = true)
    (due : s.passed s.ledger.lastSmart (sec (s.cf Obj.ledgerSmartPeriod)) = true) :
    ∃ t, exec (.smartRead w) s = .next t ∧ t.ob Obj.ledgerSsdWarning = w.toNat ∧ t.ledger = { s.ledger with lastSmart := s.now } ∧
      (w.toNat ≠ s.ob Obj.ledgerSsdWarning → w ≠ 0 → t.Raised s.now 1176 w.toNat) ∧
      t = { s with ledger := t.ledger, obj := t.obj, fab := t.fab } ∧ s.ObjectsBut t [Obj.ledgerSsdWarning] := by
  let u := ({ s with ledger := { s.ledger with lastSmart := s.now } } : State).setOb Obj.ledgerSsdWarning w.toNat
  let c : Bool := w.toNat ≠ s.ob Obj.ledgerSsdWarning && w.toNat ≠ 0
  have run : exec (.smartRead w) s = .next (u.postIf c 1176 w.toNat) :=
    congrArg Host.Outcome.next (if_pos (by simp [there, due]))
  have shows := shows_postIf u c 1176 w.toNat
  have objects : s.ObjectsBut (u.postIf c 1176 w.toNat) [Obj.ledgerSsdWarning] :=
    .postIf (.setOb (.of_obj rfl) (by simp))
  refine ⟨_, run, (ob_postIf ..).trans (ob_setOb_same ..), ?_, fun new some_ => ?_, ?_, objects⟩
  · rw [show u.postIf c 1176 w.toNat = _ from shows]
    rfl
  · have told : c = true := by
      have : w.toNat ≠ 0 := fun e => some_ (BitVec.eq_of_toNat_eq e)
      simp [c, new, this]
    rw [told]
    exact raised_post ..
  · rw [show u.postIf c 1176 w.toNat = _ from shows]
    rfl

theorem exec_ledgerFlush {h : Nat} {s : State} {x : Session} (sv : s.Serves h .host x) :
    exec (.ledgerFlush h) s = (s.asked x).finish ((s.asked x).doLedgerFlush 1) := by
  show execLedgerFlush h s = _
  exact request_serves sv _ _
theorem exec_ledgerAttest {h : Nat} {s : State} {x : Session} (sv : s.Serves h .host x) :
    exec (.ledgerAttest h) s = (s.asked x).finish ((s.asked x).doLedgerAttest h 1) := by
  show execLedgerAttest h s = _
  unfold execLedgerAttest
  rw [request_serves sv, heard_handle sv]
theorem exec_ledgerFormat {h : Nat} {s : State} {x : Session} (sv : s.Serves h .maker x) :
    exec (.ledgerFormat h) s = (s.asked x).finish ((s.asked x).doLedgerFormat 1) := by
  show execLedgerFormat h s = _
  exact request_serves sv _ _

/-- Without records in the open page nothing is sealed. -/
theorem sealOpen_empty {s : State} (empty : s.ledger.openPage = []) : s.sealOpen = s := if_pos (by simp [empty])

theorem ledgerFlush_flushes {h : Nat} {s : State} {x : Session} (sv : s.Serves h .host x) (empty : s.ledger.openPage = []) :
    (s.ledger.flushing = none → s.written ≠ 0 →
      exec (.ledgerFlush h) s = .next { s.served x with ledger := { s.ledger with flushing := some s.written } }) ∧
    (s.ledger.flushing ≠ none ∨ s.written = 0 → exec (.ledgerFlush h) s = .next (s.served x)) := by
  have does : (s.asked x).doLedgerFlush 1 = .ok (s.asked x).issueFlush :=
    (check_ok (by decide) ..).trans (congrArg (fun t : State => Except.ok t.issueFlush) (sealOpen_empty (s := s.asked x) empty))
  have same : (s.asked x).written = s.written := rfl
  rw [exec_ledgerFlush sv]
  refine ⟨fun idle some_ => ?_, fun none_ => ?_⟩
  · have issues : (s.asked x).issueFlush = { s.asked x with ledger := { s.ledger with flushing := some s.written } } :=
      if_neg (by simp [show (s.asked x).ledger = s.ledger from rfl, idle, same, some_])
    exact (finish_done (does.trans (congrArg Except.ok issues)) rfl).trans rfl
  · have waits : (s.asked x).issueFlush = s.asked x := by
      refine if_pos ?_
      obtain runs | nothing := none_
      · simp [show (s.asked x).ledger = s.ledger from rfl, Option.isSome_iff_ne_none.mpr runs]
      · simp [same, nothing]
    exact (finish_done (does.trans (congrArg Except.ok waits)) rfl).trans rfl

/-- The statement that LEDGER_ATTEST signs (R424). -/
def headStatement (s : State) : List Nat :=
  toBytes 16 Part.serial ++ toBytes 4 (s.ob Obj.ledgerEpoch) ++ toBytes 4 0 ++ toBytes 8 (s.ledger.nextPage - 1) ++
    toBytes 32 s.ledger.chain

theorem sob_served {s : State} {h : Nat} {role : Role} {x : Session} (sv : s.Serves h role x) (k v : Nat) :
    ((s.served x).setSession { s.heard x with regs := x.regs.write (objDefault k) k v }).sob h k = v := by
  have before : (s.served x).session? h = some (s.heard x) := asked_session sv
  rw [sob_eq (session_setSession (y := { s.heard x with regs := x.regs.write (objDefault k) k v })
    (show (s.heard x).handle = h from heard_handle sv) before)]
  exact Table.read_write_same ..

theorem ledgerAttest_signs {h : Nat} {s : State} {x : Session} (sv : s.Serves h .host x) (empty : s.ledger.openPage = []) :
    ∃ t, exec (.ledgerAttest h) s = .next t ∧ t = { s.served x with sessions := t.sessions } ∧
      t.sob h Obj.ledgerAttestOut = ofBytes (s.headStatement ++
        toBytes 64 (Config.ecdsaSign (s.slotKey 0) (Config.sha256 s.headStatement)).toNat) := by
  let v := ofBytes (s.headStatement ++ toBytes 64 (Config.ecdsaSign (s.slotKey 0) (Config.sha256 s.headStatement)).toNat)
  have does : (s.asked x).doLedgerAttest h 1 = .ok ((s.asked x).setSob h Obj.ledgerAttestOut v) := by
    refine (check_ok (by decide) ..).trans ?_
    dsimp only
    rw [sealOpen_empty (s := s.asked x) empty]
    rfl
  have run := (exec_ledgerAttest sv).trans ((congrArg (s.asked x).finish does).trans (finish_setSob sv ..))
  refine ⟨_, run, rfl, ?_⟩
  exact sob_served sv ..

theorem ledgerFormat_formats {h : Nat} {s : State} {x : Session} (sv : s.Serves h .maker x) :
    (s.storeThere = false → exec (.ledgerFormat h) s = .next (s.served x)) ∧
    (s.storeThere = true → ∃ t, exec (.ledgerFormat h) s = .next t ∧
      t.ob Obj.ledgerFormatPage = nextSegment s.ledger.nextPage ∧ t.ledger.store = [] ∧
      t.Raised s.now 1178 (nextSegment s.ledger.nextPage / 65536) ∧ t.own = s.own ∧ t.cfg = s.cfg) := by
  have same : (s.asked x).storeThere = s.storeThere := rfl
  have does : (s.asked x).doLedgerFormat 1 = .ok (if s.storeThere then (s.asked x).formatStore else s.asked x) :=
    check_ok (by decide) ..
  rw [exec_ledgerFormat sv]
  refine ⟨fun gone => ?_, fun there => ?_⟩
  · rw [gone] at does
    exact finish_done does rfl
  · rw [there] at does
    obtain ⟨page, -, empty, told, frame⟩ := (s.asked x).formatStore_formats
    generalize (s.asked x).formatStore = t at does page empty told frame
    refine ⟨_, finish_done does ?_, page, empty, told, ?_, ?_⟩
    · rw [frame]
      rfl
    · show t.own = s.own
      rw [frame]
      rfl
    · show t.cfg = s.cfg
      rw [frame]
      rfl

end State

open State in
/-- Settles O56: each operation by the pages it seals, writes or gives up, and by what notes and votes leave. -/
theorem ledgerDoesAsStated : Obligations.LedgerDoesAsStated := by
  unfold Obligations.LedgerDoesAsStated
  refine ⟨fun s on known some_ plain whole due => pageSeal_seals on known some_ plain whole due, fun status s runs => ?_,
    fun s fault late => ?_, fun pages head s on power sound => ?_, fun s => ?_, fun w s there due => smartRead_shows there due,
    fun h s x => ⟨fun sv empty => ?_, fun sv => ledgerFormat_formats sv⟩⟩
  · refine ⟨fun p next => pageWritten_noted runs next, fun n p running last => flushEnds_durable runs running last,
      fun failed flush flushes writes => ?_, fun p rest u first noted late idle => flushTime_issues runs first noted late idle⟩
    rw [exec_failed runs failed flushes writes]
    refine ⟨fun few => by rw [storeFailed_again few], fun many => ?_⟩
    rw [storeFailed_faults many]
    let u : State := { s with ledger := { s.ledger with tries := 0, flushing := none, faultAt := s.now } }
    have shown : (u.setOb Obj.ledgerState 5).ob Obj.ledgerState = 5 := ob_setOb_same ..
    exact ⟨_, rfl, shown, raised_post .., rfl, rfl, .post (.setOb (.of_obj rfl) (by simp))⟩
  · have waits : (s.ob Obj.ledgerState = 5 && s.passed s.ledger.faultAt (sec 10)) = true := by simp [fault, late]
    exact ⟨congrArg Host.Outcome.next (if_pos waits), congrArg Host.Outcome.next (if_pos waits)⟩
  · obtain ⟨none_, blank, own, foreign⟩ := exec_linkStart on power sound
    let u := s.setOb Obj.ledgerCapacityPages (pages.toNat / 65536 * 65536)
    have capacity : u.ob Obj.ledgerCapacityPages = pages.toNat / 65536 * 65536 := ob_setOb_same ..
    refine ⟨none_, ?_, fun known later bare done => ?_, ?_⟩
    · obtain ⟨page, same, empty, told, frame⟩ := u.formatStore_formats
      rw [blank]
      generalize u.formatStore = t at page same empty told frame ⊢
      refine ⟨t, rfl, page, same.trans capacity, empty, told, ?_, ?_⟩
      · rw [frame]
        rfl
      · rw [frame]
        rfl
    · obtain ⟨notes, state, ledger⟩ := continueStore_same (s := u) known later bare done
      exact ⟨_, own .., state, (notes.ledges.objects _ (by decide)).trans capacity, ledger, notes.ledges.sameOwn,
        notes.ledges.sameCfg⟩
    · have shown : (u.setOb Obj.ledgerState 6).ob Obj.ledgerState = 6 := ob_setOb_same ..
      exact ⟨_, foreign .., shown, raised_post .., rfl,
        .post (.setOb (.setOb (.of_obj rfl) (by simp)) (by simp))⟩
  · refine ⟨fun space => ?_, fun on full => ?_⟩
    · exact congrArg Host.Outcome.next (if_neg (by simp [space]))
    · exact ⟨_, congrArg Host.Outcome.next (if_pos (by simp [on, full])), s.dropRecord_counts⟩
  · obtain ⟨flushes, waits⟩ := ledgerFlush_flushes sv empty
    exact ⟨flushes, waits, ledgerAttest_signs sv empty⟩

end Sys2Proof.Machine

/-!
Keys (R378): a key that two open sessions of one handle share, where one of them runs a job under it.
-/

namespace Sys2Proof.Machine
namespace State

/-! ## Two sessions of one handle -/

/-- A session of Maker that asks for slot 20 to be zeroed. -/
def zeroing : Session :=
  { handle := 1, role := .maker, hostId := 1, key := 0, opened := 0, last := 0, regs := [(Obj.kcOp, 4), (Obj.kcSlot, 20)] }

/-- A session of the same handle with a job under slot 20. -/
def working : Session :=
  { handle := 1, role := .maker, hostId := 1, key := 0, opened := 0, last := 0
    job := some { slot := 20, op := 1, mode := 1, level := 0, since := 0, iv := 0, aadLen := 0, tagLen := 0, tag := 0 } }

/-- After reset, with both sessions open. -/
def sharedHandle : State := { State.reset with sessions := [zeroing, working] }

/-- The zeros that wait after an outcome. -/
def zerosWaiting : Host.Outcome State Fault Refusal → List (Nat × Nat)
  | .next t => t.secure.zeroWait
  | _ => []

/-- A request puts the session it has heard in the place of every session of its handle, so the job is gone before the zero is
carried out: nothing waits for it. -/
theorem keyZero_sharedHandle : zerosWaiting (exec (.keyZero 1) sharedHandle) = [] := by decide +kernel

theorem serves_sharedHandle : sharedHandle.Serves 1 .maker zeroing :=
  ⟨by decide +kernel, by decide +kernel, rfl, by decide⟩

end State

open State in
/-- Refutes O53: two open sessions of one handle, the first of which asks for the zero of a slot that a job of the second uses.
The request writes the first over the second (R387), so the slot is zeroed at once where the statement has the zero wait. -/
theorem not_keysAndLifecycleDoAsStated : ¬ Obligations.KeysAndLifecycleDoAsStated := by
  unfold Obligations.KeysAndLifecycleDoAsStated
  rintro ⟨keys, -⟩
  obtain ⟨-, -, zero⟩ := keys 1 sharedHandle zeroing serves_sharedHandle (by decide +kernel) (by decide +kernel)
  obtain ⟨t, run, -, waits, -⟩ := (zero (by decide +kernel)).1 (by decide +kernel)
  have none_ : t.secure.zeroWait = [] := (congrArg zerosWaiting run).symm.trans keyZero_sharedHandle
  rw [show t.secure.zeroWait = _ from waits] at none_
  exact absurd none_ (List.append_ne_nil_of_right_ne_nil _ (by decide))

end Sys2Proof.Machine

/-!
Sessions (R56, R387): a hold of one session on the cipher buffer of another, and the session that holds it closed.
-/

namespace Sys2Proof.Machine
namespace State

/-! ## A hold on another session's buffer -/

/-- The session that closes. -/
def closing : Session := { handle := 1, role := .host, hostId := 1, key := 0, opened := 0, last := 0 }

/-- Another session, whose cipher buffer shows that it is held. -/
def bufferShown : Session :=
  { handle := 2, role := .host, hostId := 2, key := 0, opened := 0, last := 0, regs := [(domStatus 0x3201, 1)] }

/-- After reset, with both sessions open and the buffer of the second held by the first. -/
def foreignHold : State :=
  { State.reset with
    sessions := [closing, bufferShown]
    holds := [(holdKey 0x3201 2, { holder := 1, lastWrite := 0 })] }

/-- The session of a handle after an outcome. -/
def sessionAfter (h : Nat) : Host.Outcome State Fault Refusal → Option Session
  | .next t => t.session? h
  | _ => none

/-- The close drops the hold, and with it a bit of the status of the session whose buffer it was. -/
theorem sessionClose_foreignHold :
    sessionAfter 2 (exec (.sessionClose 1) foreignHold) = some { bufferShown with regs := [] } := by decide +kernel

theorem serves_foreignHold : foreignHold.Serves 1 .host closing :=
  ⟨by decide +kernel, by decide +kernel, rfl, by decide⟩

end State

open State in
/-- Refutes O54: the first session holds the cipher buffer of the second. Its close drops the hold (R387), which clears the bit
"held" in the second session's own DOM_STATUS (R56), where the statement leaves every other session as it was. -/
theorem not_sessionsEnginesAndDebugDoAsStated : ¬ Obligations.SessionsEnginesAndDebugDoAsStated := by
  unfold Obligations.SessionsEnginesAndDebugDoAsStated
  rintro ⟨-, -, -, closes, -⟩
  obtain ⟨t, run, -, others, -⟩ :=
    closes 1 foreignHold closing rfl rfl _ (List.mem_cons_self ..) serves_foreignHold
  have cleared : t.session? 2 = some { bufferShown with regs := [] } :=
    (congrArg (sessionAfter 2) run).symm.trans sessionClose_foreignHold
  have before : foreignHold.session? 2 = some bufferShown := rfl
  rw [others 2 (by decide), before] at cleared
  exact absurd (congrArg (Option.map Session.regs) cleared) (by decide)

end Sys2Proof.Machine

/-!
Lanes (R457): a host change that waits for the segment two lanes disagree on, on a DOUT whose status objects are those of tiles.
-/

namespace Sys2Proof.Machine
namespace State

/-! ## A claim on DOUT 22504 -/

/-- The object the model finds for the applied value of DOUT 22504 is the state of tile 1 of quadrant 0. -/
theorem tileState_1_eq_doutAppliedValue : Obj.tileState 1 = Obj.doutAppliedValue 22504 := rfl

/-- The reflex engine runs, tile 1 of quadrant 0 is lane A, a rule is enabled in each of the first two segments, and a claim on DOUT
22504, which is enabled, waits for the first of them. -/
def farLane : State :=
  { State.reset.setOb Obj.engineState 1 with
    boot := { State.reset.boot with sweeps := true }
    cfg := ((State.reset.cfg.write 0 (Obj.doutEnable 22504) 1).write 0 (key 0x8000 1) (2 ^ 63)).write 0 (key 0x8080 1) (2 ^ 63)
    own := { State.reset.own with hostOps := [.claim (mkSig clsDOUT 22504) 10000 0] } }

/-- The state of tile 1 of quadrant 0 after an outcome. -/
def laneTileAfter : Host.Outcome State Fault Refusal → Nat
  | .next t => t.tileOf 0 1
  | _ => 0

/-- The segment is taken before the lane is replaced, so the output is on at 10,000 when the model looks for the lane's tile, and no
tile runs lane A. -/
theorem laneTileAfter_farLane : laneTileAfter (exec (.laneMismatch 0 1) farLane) = 10000 := by decide +kernel

end State

open State in
/-- Refutes O59: the statement does not ask that what waits for the segment names an output of R31. A claim on a DOUT 22504 is carried
out with the segment on which the lanes disagree, and the object the model finds for its applied value is the state of the tile of
lane A: it reads 10,000 where the statement has the tile retired, in state 3. -/
theorem not_tilesAndLanesDoAsStated : ¬ Obligations.TilesAndLanesDoAsStated := by
  unfold Obligations.TilesAndLanesDoAsStated
  rintro ⟨-, lanes, -⟩
  have runs : farLane.runsOn (0 : Fin 4) 1 = some (1 : Fin 6) := by decide +kernel
  have due : farLane.sweepsRun = true ∧ farLane.segmentFrom farLane.eng.segment = (0 : Fin 16).val := by decide +kernel
  obtain ⟨t, run, retired, -⟩ := lanes 0 1 0 0 1 farLane rfl rfl runs (.laneMismatch 0 1, _) (by simp) due
  have driven : t.tileOf 0 1 = 10000 := (congrArg laneTileAfter run).symm.trans laneTileAfter_farLane
  exact absurd ((show t.tileOf 0 1 = 3 from retired).symm.trans driven) (by decide)

end Sys2Proof.Machine

/-!
The ledger's buffer lost with its SRAM cluster (R419, R461) while it is full.
-/

namespace Sys2Proof.Machine
namespace State

/-! ## A full buffer -/

/-- A sealed page that is not yet durable. -/
def sealedPage (n : Nat) : LedgerPage := { number := n, kind := 1, flags := 0, epoch := 0, firstSeq := 0, prevHash := 0 }

/-- After reset, with the ledger on and its buffer full of the first 64 pages. -/
def fullBuffer : State :=
  { State.reset.setOb (Obj.keySlotState 16) 1 with
    cfg := State.reset.cfg.write 0 Obj.ledgerEnable 1
    ledger := { State.reset.ledger with pages := (List.range 64).map sealedPage, nextPage := 64 } }

/-- RECORDS_LOST after an outcome. -/
def recordsLostAfter : Host.Outcome State Fault Refusal → Nat
  | .next t => t.ob Obj.ledgerRecordsLost
  | _ => 0

/-- The record that notes the lost pages finds the buffer full, so it is dropped and counted. -/
theorem recordsLostAfter_fullBuffer : recordsLostAfter (exec (.sramClusterFault 0 3) fullBuffer) = 1 := by decide +kernel

end State

open State in
/-- Refutes O60: where the buffer is full as its cluster fails, the record of kind 9 that notes the lost pages (R427) is dropped and
counted itself (R419). Without a record in the open page the statement has RECORDS_LOST as it was, 0; the model has 1. -/
theorem not_faultsAndOnlineTestsDoAsStated : ¬ Obligations.FaultsAndOnlineTestsDoAsStated := by
  unfold Obligations.FaultsAndOnlineTestsDoAsStated
  rintro ⟨⟨clusters, -⟩, -⟩
  obtain ⟨t, run, -, -, -, -, -, refilled⟩ := (clusters 0 3 fullBuffer).1 (by decide +kernel)
  obtain ⟨-, -, buffer, -⟩ := refilled (by decide)
  obtain ⟨-, -, counted⟩ := buffer rfl
  have one : t.ob Obj.ledgerRecordsLost = 1 := (congrArg recordsLostAfter run).symm.trans recordsLostAfter_fullBuffer
  have none_ : (fullBuffer.ob Obj.ledgerRecordsLost + fullBuffer.ledger.openPage.length) % 2 ^ 32 = 0 := by decide +kernel
  exact absurd (one.symm.trans (counted.trans none_)) (by decide)

end Sys2Proof.Machine

/-!
CAN channels (R311–R332): what counters, frames and message objects become, and what an operation on a channel leaves alone.
-/

namespace Sys2Proof.Machine
namespace State

/-! ## Channels and message objects -/

@[simp] theorem canCh_setCan_same (s : State) (c : Nat) (x : CanChannel) : (s.setCan c x).canCh c = x := Table.read_write_same ..
@[simp] theorem moOf_setMo_same (s : State) (o : Nat) (m : MoData) : (s.setMo o m).moOf o = m := Table.read_write_same ..
theorem moOf_setMo_other (s : State) {o p : Nat} (m : MoData) (h : p ≠ o) : (s.setMo o m).moOf p = s.moOf p :=
  Table.read_write_other _ _ _ _ h.symm
@[simp] theorem canCh_canShow (s : State) (c d : Nat) : (s.canShow c).canCh d = s.canCh d := rfl
@[simp] theorem canCh_showPending (s : State) (c o d : Nat) : (s.showPending c o).canCh d = s.canCh d := rfl

theorem ob_canShow (s : State) {c k : Nat} (state : Obj.canState c ≠ k) (flags : Obj.canFlags c ≠ k) : (s.canShow c).ob k = s.ob k :=
  (ob_setOb_other _ _ flags).trans (ob_setOb_other _ _ state)

/-! ## A function applied for each member of a list -/

/-- What holds at the start and is kept by every step holds at the end. -/
theorem forEach_keeps {α : Type} {f : State → α → State} {P : State → Prop} (step : ∀ u a, P u → P (f u a)) (l : List α) {s : State}
    (start : P s) : P (forEach l f s) := by
  unfold forEach
  induction l generalizing s with
  | nil => exact start
  | cons a l ih => exact ih (step s a start)

/-- What the step of one member tells of is on its way after all steps. -/
theorem raised_forEach {α : Type} {f : State → α → State} {P : State → Prop} (step : ∀ u a, P u → P (f u a))
    (told : ∀ u a, u.fab.inFlight ⊆ (f u a).fab.inFlight) {l : List α} {a : α} (mem : a ∈ l) {at_ : Tick} {ev v : Nat}
    (raises : ∀ u, P u → (f u a).Raised at_ ev v) {s : State} (start : P s) : (forEach l f s).Raised at_ ev v := by
  unfold forEach
  induction l generalizing s with
  | nil => exact absurd mem List.not_mem_nil
  | cons b l ih =>
    rcases List.mem_cons.mp mem with rfl | further
    · exact forEach_keeps (P := fun u => u.Raised at_ ev v) (fun u b h => told u b h) l (raises s start)
    · exact ih further (step s b start)

/-! ## What an operation on a channel leaves alone -/

/-- `t` is `s` with nothing changed but more events under way. -/
structure Tells (s t : State) : Prop where
  frame : t = { s with fab := { s.fab with inFlight := t.fab.inFlight } }
  told : s.fab.inFlight ⊆ t.fab.inFlight

namespace Tells

variable {s t u : State}

theorem refl (s : State) : s.Tells s := ⟨rfl, fun _ h => h⟩
theorem trans (h : s.Tells t) (k : t.Tells u) : s.Tells u where
  frame := by rw [k.frame, h.frame]
  told _ is := k.told (h.told is)
theorem postAt {ts : Tick} {ev v : Nat} (h : s.Tells t) : s.Tells (t.postAt ts ev v) := h.trans ⟨rfl, List.subset_append_left _ _⟩
theorem ite {p : Prop} [Decidable p] (h : s.Tells t) (k : s.Tells u) : s.Tells (if p then t else u) := by
  split
  · exact h
  · exact k
theorem now_ (h : s.Tells t) : t.now = s.now := by rw [h.frame]; rfl

end Tells

/-- `t` is `s` after an operation on message objects: only they, channels and the events under way have changed. -/
structure Boxes (s t : State) : Prop where
  frame : t = { s with fab := { s.fab with inFlight := t.fab.inFlight }, can := t.can, mo := t.mo }
  told : s.fab.inFlight ⊆ t.fab.inFlight

namespace Boxes

variable {s t u : State}

theorem refl (s : State) : s.Boxes s := ⟨rfl, fun _ h => h⟩
theorem trans (h : s.Boxes t) (k : t.Boxes u) : s.Boxes u where
  frame := by rw [k.frame, h.frame]
  told _ is := k.told (h.told is)
theorem setCan {c : Nat} {x : CanChannel} (h : s.Boxes t) : s.Boxes (t.setCan c x) := h.trans ⟨rfl, fun _ h => h⟩
theorem setMo {o : Nat} {m : MoData} (h : s.Boxes t) : s.Boxes (t.setMo o m) := h.trans ⟨rfl, fun _ h => h⟩
theorem showPending {c o : Nat} (h : s.Boxes t) : s.Boxes (t.showPending c o) := h.setMo
theorem canPost {c k v : Nat} (h : s.Boxes t) : s.Boxes (t.canPost c k v) := h.trans ⟨rfl, List.subset_append_left _ _⟩
theorem ite {p : Prop} [Decidable p] (h : s.Boxes t) (k : s.Boxes u) : s.Boxes (if p then t else u) := by
  split
  · exact h
  · exact k
theorem canLost {c o : Nat} (h : s.Boxes t) : s.Boxes (t.canLost c o) := by
  have posts : s.Boxes ((t.setCan c { t.canCh c with lastLost := some t.now }).canPost c 8 o) := h.setCan.canPost
  unfold State.canLost
  dsimp only
  split
  · exact .ite posts h
  · exact posts
theorem now_ (h : s.Boxes t) : t.now = s.now := by rw [h.frame]; rfl
theorem shown (h : s.Boxes t) : t = { s with mo := t.mo, can := t.can, fab := t.fab } := by rw [h.frame]

end Boxes

theorem Tells.boxes {s t : State} (h : s.Tells t) : s.Boxes t := ⟨by rw [h.frame], h.told⟩

/-- `t` is `s` after an operation on channels: only channels, objects of a list and the events under way have changed, and no event
has been taken back. -/
structure Signals (own : List Nat) (s t : State) : Prop where
  frame : t = { s with obj := t.obj, fab := { s.fab with inFlight := t.fab.inFlight }, can := t.can }
  objects : s.ObjectsBut t own
  told : s.fab.inFlight ⊆ t.fab.inFlight

namespace Signals

variable {own : List Nat} {s t u : State}

theorem refl (own : List Nat) (s : State) : Signals own s s := ⟨rfl, objectsBut_refl s _, fun _ h => h⟩

theorem trans (h : Signals own s t) (k : Signals own t u) : Signals own s u where
  frame := by rw [k.frame, h.frame]
  objects j hj := (k.objects j hj).trans (h.objects j hj)
  told _ is := k.told (h.told is)

theorem setOb {k v : Nat} (h : Signals own s t) (mem : k ∈ own) : Signals own s (t.setOb k v) :=
  h.trans ⟨rfl, objectsBut_setOb (objectsBut_refl t _) mem v, fun _ h => h⟩
theorem setBit {k i : Nat} {b : Bool} (h : Signals own s t) (mem : k ∈ own) : Signals own s (t.setBit k i b) := h.setOb mem
theorem bump {k : Nat} (h : Signals own s t) (mem : k ∈ own) : Signals own s (t.bump k) := h.setOb mem
theorem setCan {c : Nat} {x : CanChannel} (h : Signals own s t) : Signals own s (t.setCan c x) :=
  h.trans ⟨rfl, objectsBut_refl t _, fun _ h => h⟩
theorem post {ev v : Nat} (h : Signals own s t) : Signals own s (t.post ev v) :=
  h.trans ⟨rfl, objectsBut_refl t _, List.subset_append_left _ _⟩
theorem canPost {c k v : Nat} (h : Signals own s t) : Signals own s (t.canPost c k v) := h.post
theorem ite {p : Prop} [Decidable p] (h : Signals own s t) (k : Signals own s u) : Signals own s (if p then t else u) := by
  split
  · exact h
  · exact k
theorem postIf {c : Bool} {ev v : Nat} (h : Signals own s t) : Signals own s (t.postIf c ev v) := .ite h.post h
theorem canShow {c : Nat} (h : Signals own s t) (state : Obj.canState c ∈ own) (flags : Obj.canFlags c ∈ own) :
    Signals own s (t.canShow c) := (h.setOb state).setOb flags

theorem shown (h : Signals own s t) : t = { s with obj := t.obj, fab := t.fab, can := t.can } := by
  rw [h.frame]
theorem now_ (h : Signals own s t) : t.now = s.now := by rw [h.frame]; rfl
theorem cf_ (h : Signals own s t) (k : Nat) : t.cf k = s.cf k := by rw [h.frame]; rfl
theorem moOf_ (h : Signals own s t) (o : Nat) : t.moOf o = s.moOf o := by rw [h.frame]; rfl
theorem raised (h : Signals own s t) {at_ : Tick} {ev v : Nat} (is : s.Raised at_ ev v) : t.Raised at_ ev v := h.told is

end Signals

/-! ## The error counters (R327) -/

/-- The objects that new values of TEC and REC move. -/
def counterObjects (c : Nat) : List Nat := [Obj.canTec c, Obj.canRec c, Obj.canState c, Obj.canFlags c, Obj.canAckRun c]

/-- No other status object of the channel is among them. -/
theorem canField_not_counter (c : Nat) {b : Nat} (other : (b ∉ [1, 2, 3, 4, 10]) ∧ b < 256) :
    key (0x6002 + 0x20 * c) b ∉ counterObjects c := by
  obtain ⟨other, fits⟩ := other
  simp only [List.mem_cons, List.not_mem_nil, not_or, or_false] at other
  obtain ⟨h1, h2, h3, h4, h10⟩ := other
  simp only [counterObjects, List.mem_cons, List.not_mem_nil, not_or, or_false]
  exact ⟨key_ne_of_sub _ _ ⟨h2, fits, by decide⟩, key_ne_of_sub _ _ ⟨h3, fits, by decide⟩, key_ne_of_sub _ _ ⟨h1, fits, by decide⟩,
    key_ne_of_sub _ _ ⟨h4, fits, by decide⟩, key_ne_of_sub _ _ ⟨h10, fits, by decide⟩⟩

/-- The channel goes bus-off. -/
def goesOff (s : State) (c : Nat) : State :=
  ((s.setCan c { s.canCh c with busOffAt := some s.now, recovering := false, aloneSince := none, attempt := none }).setOb
    (Obj.canAckRun c) 0).canPost c 0 (s.ob (Obj.canLastError c))

/-- TEC and REC at new values. -/
def counted (s : State) (c tec rec_ : Nat) : State :=
  (s.setOb (Obj.canTec c) (saturate tec 256)).setOb (Obj.canRec c) (saturate rec_ 255)

/-- New values of the counters are written, what they cross is told of, and at TEC 256 the channel goes bus-off. -/
theorem canCounters_eq (s : State) (c tec rec_ : Nat) :
    ∃ u, Signals [] (s.counted c tec rec_) u ∧ u.can = s.can ∧
      s.canCounters c tec rec_ = (if 256 ≤ tec then u.goesOff c else u).canShow c := by
  have can_postIf (t : State) (b : Bool) (ev v : Nat) : (t.postIf b ev v).can = t.can := by cases b <;> rfl
  unfold canCounters
  extract_lets t0 r0 off te re v u1 warned p0 p u2 u3 u4 x went u5
  refine ⟨u4, .postIf (.postIf (.postIf (.refl [] u1))), ?_, ?_⟩
  · simp only [u4, u3, u2, can_postIf]
    rfl
  · clear_value u4
    refine congrArg (canShow · c) ?_
    by_cases high : 256 ≤ tec
    · simp only [u5, went, x, off, high, decide_true, if_true]
      rfl
    · simp only [u5, went, x, off, high, decide_false, if_false, Bool.false_eq_true]

theorem signals_goesOff {own : List Nat} {s : State} {c : Nat} (mem : Obj.canAckRun c ∈ own) : Signals own s (s.goesOff c) :=
  .canPost (.setOb (.setCan (.refl own s)) mem)

theorem Signals.canCounters {own : List Nat} {s t : State} {c tec rec_ : Nat} (h : Signals own s t) (moved : counterObjects c ⊆ own) :
    Signals own s (t.canCounters c tec rec_) := by
  have mem {k : Nat} (is : k ∈ counterObjects c) : k ∈ own := moved is
  obtain ⟨u, told, -, eq⟩ := canCounters_eq t c tec rec_
  have written : Signals own t (t.counted c tec rec_) :=
    .setOb (.setOb (.refl own t) (mem (by simp [counterObjects]))) (mem (by simp [counterObjects]))
  have crossed : Signals own t u := written.trans ⟨told.frame, fun k _ => told.objects k (List.not_mem_nil), told.told⟩
  rw [eq]
  exact h.trans (.canShow (.ite (crossed.trans (signals_goesOff (mem (by simp [counterObjects])))) crossed)
    (mem (by simp [counterObjects])) (mem (by simp [counterObjects])))

theorem canCh_canCounters (s : State) (c tec rec_ : Nat) : (s.canCounters c tec rec_).canCh c =
    if 256 ≤ tec then { s.canCh c with busOffAt := some s.now, recovering := false, aloneSince := none, attempt := none }
    else s.canCh c := by
  obtain ⟨u, told, can, eq⟩ := canCounters_eq s c tec rec_
  have same : u.canCh c = s.canCh c := congrArg (fun t : Table CanChannel => t.read {} c) can
  have now : u.now = s.now := told.now_
  rw [eq, canCh_canShow]
  split
  · exact (canCh_setCan_same ..).trans (by rw [same, now])
  · exact same

theorem canTec_canCounters (s : State) (c tec rec_ : Nat) :
    (s.canCounters c tec rec_).ob (Obj.canTec c) = saturate tec 256 := by
  obtain ⟨u, told, -, eq⟩ := canCounters_eq s c tec rec_
  have kept : u.ob (Obj.canTec c) = saturate tec 256 := by
    rw [told.objects _ List.not_mem_nil]
    exact (ob_setOb_other _ _ (key_ne_of_sub _ _ (by decide))).trans (ob_setOb_same ..)
  rw [eq, ob_canShow (k := Obj.canTec c) _ (key_ne_of_sub _ _ (by decide)) (key_ne_of_sub _ _ (by decide))]
  split
  · exact (ob_setOb_other _ _ (key_ne_of_sub _ _ (by decide))).trans kept
  · exact kept

theorem canRec_canCounters (s : State) (c tec rec_ : Nat) :
    (s.canCounters c tec rec_).ob (Obj.canRec c) = saturate rec_ 255 := by
  obtain ⟨u, told, -, eq⟩ := canCounters_eq s c tec rec_
  have kept : u.ob (Obj.canRec c) = saturate rec_ 255 := by
    rw [told.objects _ List.not_mem_nil]
    exact ob_setOb_same ..
  rw [eq, ob_canShow (k := Obj.canRec c) _ (key_ne_of_sub _ _ (by decide)) (key_ne_of_sub _ _ (by decide))]
  split
  · exact (ob_setOb_other _ _ (key_ne_of_sub _ _ (by decide))).trans kept
  · exact kept

/-- Bus-off is told of with the last error. -/
theorem raised_canCounters (s : State) (c rec_ : Nat) {tec : Nat} (high : 256 ≤ tec) :
    (s.canCounters c tec rec_).Raised s.now (528 + 16 * c) (s.ob (Obj.canLastError c)) := by
  obtain ⟨u, told, -, eq⟩ := canCounters_eq s c tec rec_
  have cause : u.ob (Obj.canLastError c) = s.ob (Obj.canLastError c) := by
    rw [told.objects _ List.not_mem_nil]
    exact (ob_setOb_other _ _ (key_ne_of_sub _ _ (by decide))).trans (ob_setOb_other _ _ (key_ne_of_sub _ _ (by decide)))
  have now : u.now = s.now := told.now_
  rw [eq, if_pos high, ← now, ← cause]
  exact raised_post (((u.setCan c _).setOb (Obj.canAckRun c) 0)) (528 + 16 * c) (u.ob (Obj.canLastError c))

/-! ## A frame received (R311, R316, R318, R322) -/

/-- The objects that a reception moves, beside a counter of its own. -/
theorem Signals.receivedWell {own : List Nat} {s t : State} {c : Nat} (h : Signals own s t) (moved : counterObjects c ⊆ own) :
    Signals own s (t.receivedWell c) := h.canCounters moved

theorem canCh_receivedWell (s : State) (c : Nat) : (s.receivedWell c).canCh c =
    if 256 ≤ s.ob (Obj.canTec c) then
      { s.canCh c with busOffAt := some s.now, recovering := false, aloneSince := none, attempt := none }
    else s.canCh c := canCh_canCounters ..

theorem exec_canFrameReceived {c : Fin 8} {s : State} (active : s.canActive c = true) {f : CanFrame} (fd : f.fdf = true → s.canFd c = true)
    (error : Fin 7) : exec (.canFrameReceived c f error) s = .next (if error.val ≠ 0 then s.receivedBadly c error
      else if f.rtr then (s.receivedWell c).bump (Obj.canRtrCount c) else s.canReceive c f) := by
  have takes : (s.canActive c && (!f.fdf || s.canFd c)) = true := by
    rw [active, Bool.true_and]
    cases own : f.fdf
    · rfl
    · rw [fd own]
      rfl
  exact congrArg Host.Outcome.next (if_pos takes)

theorem remoteReceived {c : Fin 8} {s : State} :
    ((s.receivedWell c).bump (Obj.canRtrCount c)).ob (Obj.canRtrCount c) = (s.ob (Obj.canRtrCount c) + 1) % 2 ^ 32 ∧
    Signals (Obj.canRtrCount c :: counterObjects c) s ((s.receivedWell c).bump (Obj.canRtrCount c)) := by
  have well : Signals (counterObjects c) s (s.receivedWell c) := .receivedWell (.refl _ s) fun _ h => h
  refine ⟨?_, .bump (.receivedWell (.refl _ s) (List.subset_cons_self _ _)) List.mem_cons_self⟩
  rw [bump_eq, ob_setOb_same, well.objects (Obj.canRtrCount c) (canField_not_counter c (by decide))]

theorem badlyReceived (s : State) (c error : Nat) :
    (s.receivedBadly c error).ob (Obj.canLastError c) = error ∧
    (s.receivedBadly c error).ob (Obj.canErrorFrames c) = (s.ob (Obj.canErrorFrames c) + 1) % 2 ^ 32 ∧
    (s.receivedBadly c error).ob (Obj.canRec c) = saturate (s.ob (Obj.canRec c) + 1) 255 ∧
    Signals (Obj.canLastError c :: Obj.canErrorFrames c :: counterObjects c) s (s.receivedBadly c error) := by
  have counted (u : State) (tec rec_ : Nat) : Signals (counterObjects c) u (u.canCounters c tec rec_) :=
    .canCounters (.refl _ u) fun _ h => h
  unfold receivedBadly
  dsimp only
  refine ⟨?_, ?_, ?_, .canCounters (.setOb (.bump (.refl _ s) (by simp)) (by simp)) (by simp)⟩
  · exact ((counted ..).objects (Obj.canLastError c) (canField_not_counter c (by decide))).trans (ob_setOb_same ..)
  · rw [(counted ..).objects (Obj.canErrorFrames c) (canField_not_counter c (by decide))]
    simp [Obj.canLastError, Obj.canErrorFrames, bump_eq]
  · rw [canRec_canCounters]
    simp [Obj.canLastError, Obj.canErrorFrames, Obj.canRec, bump_eq]

theorem strays_receivedWell (s : State) (c : Nat) : ((s.receivedWell c).canCh c).strays = (s.canCh c).strays := by
  rw [canCh_receivedWell]
  split <;> rfl

/-- A stray frame that finds room in the queue (R322). -/
theorem strayReceived {s : State} {c : Nat} (queued : s.cf (Obj.canStrayQueue c) = 1) (room : (s.canCh c).strays.length < 64)
    (f : CanFrame) : (s.strayReceive c f).ob (Obj.canStrayCount c) = (s.ob (Obj.canStrayCount c) + 1) % 2 ^ 32 ∧
      ((s.strayReceive c f).canCh c).strays = (s.canCh c).strays ++
        [(⟨f.ext, f.id.toNat, f.dlc, f.fdf, f.brs, f.esi, s.now, frameData f % 2 ^ 64⟩ : Stray)] ∧
      Signals [Obj.canStrayCount c] s (s.strayReceive c f) := by
  have eq : s.strayReceive c f = (s.bump (Obj.canStrayCount c)).setCan c { s.canCh c with
      strays := (s.canCh c).strays ++ [⟨f.ext, f.id.toNat, f.dlc, f.fdf, f.brs, f.esi, s.now, frameData f % 2 ^ 64⟩] } :=
    (if_neg (not_not_intro queued)).trans (if_pos room)
  rw [eq]
  exact ⟨ob_setOb_same .., congrArg CanChannel.strays (canCh_setCan_same ..), .setCan (.bump (.refl _ s) List.mem_cons_self)⟩

/-- What an RX object holds after a frame (R318). -/
def boxed (s : State) (o : Nat) (f : CanFrame) : MoData :=
  let m := s.moOf o
  let lost := bitAt m.state 0
  let bit (b : Bool) (i : Nat) : Nat := if b then 2 ^ i else 0
  { m with ts := s.now, count := (m.count + 1) % 2 ^ 32, dlc := f.dlc, data := frameData f
           state := 1 + bit lost 1 + bit (bitAt m.state 3) 3 + bit f.fdf 4 + bit f.brs 5 + bit f.esi 6
           lost := if lost then saturate (m.lost + 1) 65535 else m.lost
           updated := some s.now }

/-- NEW is set, LOST where NEW stood, and TIMEOUT is clear. -/
theorem boxed_state (s : State) (o : Nat) (f : CanFrame) : bitAt (s.boxed o f).state 0 = true ∧
    bitAt (s.boxed o f).state 1 = bitAt (s.moOf o).state 0 ∧ bitAt (s.boxed o f).state 2 = false := by
  have all (a b c d e : Bool) : let n := 1 + (if a then 2 ^ 1 else 0) + (if b then 2 ^ 3 else 0) + (if c then 2 ^ 4 else 0) +
      (if d then 2 ^ 5 else 0) + (if e then 2 ^ 6 else 0)
      bitAt n 0 = true ∧ bitAt n 1 = a ∧ bitAt n 2 = false := by revert a b c d e; decide
  exact all ..

/-- A watch slot posts, or does not (R324). -/
theorem tells_watchUpdate (s : State) (o old : Nat) : s.Tells (s.watchUpdate o old) := by
  unfold watchUpdate
  exact forEach_keeps (fun u _ h => .ite (.postAt h) h) _ (.refl s)

theorem raised_watchUpdate {s : State} {o : Nat} (old : Nat) {e : Nat × Nat} (mem : e ∈ s.domEntries 0x6103) (object : watchObject e.2 = o)
    (mode : watchMode e.2 = 1) :
    (s.watchUpdate o old).Raised (s.moOf o).ts (656 + e.1) ((s.moOf o).dlc * 2 ^ 24 + (s.moOf o).data % 2 ^ 24) := by
  unfold watchUpdate
  refine raised_forEach (P := s.Tells) (fun u _ h => .ite (.postAt h) h) (fun u _ => (Tells.ite (.postAt (.refl u)) (.refl u)).told) mem
    (fun u _ => ?_) (.refl s)
  rw [if_pos (by simp [object, mode])]
  exact List.mem_append_right _ (List.mem_singleton_self _)

/-- CS maps of an object move nothing but their values. -/
theorem csUpdate_frame (s : State) (o : Nat) : s.csUpdate o = { s with csNext := (s.csUpdate o).csNext } := by
  suffices each : ∀ (l : List (Nat × Nat)) (m : MoData) (u : State),
      (forEach l (fun s e => match csExtract e.2 m.data (dlcLen m.dlc) with
        | some v => { s with csNext := s.csNext.write 0 e.1 v }
        | none => s) u) = { u with csNext := (forEach l (fun s e => match csExtract e.2 m.data (dlcLen m.dlc) with
        | some v => { s with csNext := s.csNext.write 0 e.1 v }
        | none => s) u).csNext } from each ..
  intro l m u
  unfold forEach
  induction l generalizing u with
  | nil => rfl
  | cons e l ih =>
    rw [List.foldl_cons, ih]
    split <;> rfl

theorem mo_canLost (s : State) (c o : Nat) : (s.canLost c o).mo = s.mo := by
  unfold canLost
  dsimp only
  split
  · split <;> rfl
  · rfl

theorem mo_ite_canLost {p : Prop} [Decidable p] (s : State) (c o : Nat) : (if p then s.canLost c o else s).mo = s.mo := by
  split
  · exact mo_canLost ..
  · rfl

/-- A frame written to its RX object (R318, R324). -/
theorem moReceived (s : State) (c o : Nat) (f : CanFrame) :
    (s.moReceive c o f).moOf o = s.boxed o f ∧ (∀ p, p ≠ o → (s.moReceive c o f).moOf p = s.moOf p) ∧
    s.moReceive c o f = { s with
      fab := (s.moReceive c o f).fab, can := (s.moReceive c o f).can, mo := (s.moReceive c o f).mo
      csNext := (s.moReceive c o f).csNext } ∧
    ∀ e ∈ s.domEntries 0x6103, watchObject e.2 = o → watchMode e.2 = 1 →
      (s.moReceive c o f).Raised s.now (656 + e.1) (f.dlc * 2 ^ 24 + frameData f % 2 ^ 24) := by
  let u := s.setMo o (s.boxed o f)
  let l := if bitAt (s.moOf o).state 0 then u.canLost c o else u
  let w := l.watchUpdate o (s.moOf o).data
  have eq : s.moReceive c o f = w.csUpdate o := rfl
  have lost : s.Boxes l := .ite (.canLost (.setMo (.refl s))) (.setMo (.refl s))
  have held : l.mo = u.mo := mo_ite_canLost u c o
  have watched : l.Tells w := tells_watchUpdate l o _
  have mapped : w.csUpdate o = { w with csNext := (w.csUpdate o).csNext } := csUpdate_frame w o
  have mo (p : Nat) : (s.moReceive c o f).moOf p = u.moOf p := by
    unfold moOf
    rw [eq, mapped, ← held, watched.frame]
  refine ⟨(mo o).trans (moOf_setMo_same ..), fun p other => (mo p).trans (moOf_setMo_other _ _ other), ?_, fun e mem object mode => ?_⟩
  · rw [eq, mapped, (lost.trans watched.boxes).frame]
  · have entries : l.domEntries 0x6103 = s.domEntries 0x6103 := by rw [lost.frame]; rfl
    have raised := raised_watchUpdate (s := l) (s.moOf o).data (entries ▸ mem) object mode
    have boxed : l.moOf o = s.boxed o f := (congrArg (fun t : Table MoData => t.read {} o) held).trans (moOf_setMo_same ..)
    rw [boxed] at raised
    rw [eq, mapped]
    exact raised

end State
end Sys2Proof.Machine

namespace Sys2Proof.Machine
namespace State

/-- A data frame that matches an RX object (R316, R318). -/
theorem dataReceived {s : State} {c o : Nat} {f : CanFrame} (matches_ : s.rxObject c f.ext f.id.toNat = some o) :
    let t := s.canReceive c f
    t.ob (Obj.canRxFrames c) = (s.ob (Obj.canRxFrames c) + 1) % 2 ^ 32 ∧ t.moOf o = s.boxed o f ∧ (∀ p, p ≠ o → t.moOf p = s.moOf p) ∧
    (∀ e ∈ s.domEntries 0x6103, watchObject e.2 = o → watchMode e.2 = 1 →
      t.Raised s.now (656 + e.1) (f.dlc * 2 ^ 24 + frameData f % 2 ^ 24)) ∧
    t = { s with obj := t.obj, fab := t.fab, can := t.can, mo := t.mo, csNext := t.csNext } ∧
    s.ObjectsBut t (Obj.canRxFrames c :: counterObjects c) := by
  let w := (s.bump (Obj.canRxFrames c)).receivedWell c
  have well : Signals (counterObjects c) (s.bump (Obj.canRxFrames c)) w := .receivedWell (.refl _ _) fun _ h => h
  have all : Signals (Obj.canRxFrames c :: counterObjects c) s w :=
    .receivedWell (.bump (.refl _ s) List.mem_cons_self) (List.subset_cons_self _ _)
  have still : w.rxObject c f.ext f.id.toNat = some o := by rw [all.frame]; exact matches_
  have boxed : w.boxed o f = s.boxed o f := by rw [all.frame]; rfl
  obtain ⟨content, others, frame, raised⟩ := moReceived w c o f
  have entries : w.domEntries 0x6103 = s.domEntries 0x6103 := by rw [all.frame]; rfl
  intro t
  have eq : t = w.moReceive c o f := by
    show s.canReceive c f = _
    unfold canReceive
    dsimp only
    rw [still]
  rw [eq]
  have objects (k : Nat) : (w.moReceive c o f).ob k = w.ob k := by rw [frame]; rfl
  refine ⟨?_, content.trans boxed, fun p other => (others p other).trans (all.moOf_ p), fun e mem object mode => ?_, ?_, fun k out => ?_⟩
  · rw [objects, well.objects (Obj.canRxFrames c) (canField_not_counter c (by decide)), bump_eq, ob_setOb_same]
  · rw [← all.now_]
    exact raised e (entries ▸ mem) object mode
  · rw [frame, all.frame]
  · rw [objects, all.objects k out]

/-- What claims an identifier does not depend on the channels and their objects. -/
theorem claims_of_low {s t : State} (frame : t = { s with obj := t.obj, fab := t.fab, can := t.can })
    (low : ∀ k, k < 0x600000 → t.ob k = s.ob k) (c : Nat) (ext : Bool) (id : Nat) :
    t.mapClaims c ext id = s.mapClaims c ext id ∧ t.serverClaims c ext id = s.serverClaims c ext id := by
  constructor
  · refine List.find?_congr fun m mem => ?_
    have small : m < 64 := List.mem_range.mp mem
    unfold mapRuns mapsRun awake confirmed bit
    rw [low Obj.pwrState (by decide), low Obj.addrState (by decide), low (Obj.piStatus m) (by unfold Obj.piStatus key; omega),
      low (Obj.piSession m) (by unfold Obj.piSession key; omega)]
    rw [frame]
    rfl
  · unfold serverClaims nodeIdOf
    rw [low Obj.unitAddress (by decide), frame]
    rfl

theorem low_not_counter {c k : Nat} (low : k < 0x600000) : k ∉ Obj.canRxFrames c :: counterObjects c := by
  simp only [counterObjects, List.mem_cons, List.not_mem_nil, or_false, Obj.canRxFrames, Obj.canTec, Obj.canRec, Obj.canState,
    Obj.canFlags, Obj.canAckRun, key]
  omega

/-- A frame that nothing claims, with room in the queue (R316, R322). -/
theorem strayTaken {s : State} {c : Nat} {f : CanFrame} (free : s.rxObject c f.ext f.id.toNat = none)
    (map : s.mapClaims c f.ext f.id.toNat = none) (server : s.serverClaims c f.ext f.id.toNat = false)
    (queued : s.cf (Obj.canStrayQueue c) = 1) (room : (s.canCh c).strays.length < 64) :
    let t := s.canReceive c f
    t.ob (Obj.canStrayCount c) = (s.ob (Obj.canStrayCount c) + 1) % 2 ^ 32 ∧
    (t.canCh c).strays = (s.canCh c).strays ++
      [(⟨f.ext, f.id.toNat, f.dlc, f.fdf, f.brs, f.esi, s.now, frameData f % 2 ^ 64⟩ : Stray)] ∧
    t = { s with obj := t.obj, fab := t.fab, can := t.can } := by
  let w := (s.bump (Obj.canRxFrames c)).receivedWell c
  have well : Signals (counterObjects c) (s.bump (Obj.canRxFrames c)) w := .receivedWell (.refl _ _) fun _ h => h
  have all : Signals (Obj.canRxFrames c :: counterObjects c) s w :=
    .receivedWell (.bump (.refl _ s) List.mem_cons_self) (List.subset_cons_self _ _)
  have free' : w.rxObject c f.ext f.id.toNat = none := by rw [all.frame]; exact free
  obtain ⟨maps, servers⟩ := claims_of_low all.shown (fun k low => all.objects k (low_not_counter low)) c f.ext f.id.toNat
  have strays : (w.canCh c).strays = (s.canCh c).strays := strays_receivedWell _ c
  obtain ⟨counted, kept, signals⟩ := strayReceived (s := w) ((all.cf_ _).trans queued) (strays ▸ room) f
  intro t
  have eq : t = w.strayReceive c f := by
    show s.canReceive c f = _
    unfold canReceive
    dsimp only
    rw [free', maps.trans map, servers.trans server]
    rfl
  rw [eq]
  refine ⟨?_, ?_, ?_⟩
  · rw [counted, well.objects (Obj.canStrayCount c) (canField_not_counter c (by decide)), bump_eq]
    simp [Obj.canRxFrames, Obj.canStrayCount]
  · rw [kept, strays, all.now_]
  · rw [signals.frame, all.frame]

end State
end Sys2Proof.Machine

namespace Sys2Proof.Machine
namespace State

/-! ## Message objects sent (R320) -/

theorem canPend_canLost (s : State) (c o : Nat) : ((s.canLost c o).canCh c).pend = (s.canCh c).pend := by
  have posts : (((s.setCan c { s.canCh c with lastLost := some s.now }).canPost c 8 o).canCh c).pend = (s.canCh c).pend := by
    show ((s.setCan c _).canCh c).pend = _
    rw [canCh_setCan_same]
  unfold canLost
  dsimp only
  split
  · split
    · exact posts
    · rfl
  · exact posts

/-- The frame an object becomes pending with. -/
def objectFrame (s : State) (o : Nat) : CanPending :=
  let e := s.moCfg o
  { src := .object o, ext := moExt e, id := moId e, dlc := moDlc e, fdf := moFdf e, brs := moBrs e, data := none, since := s.now }

/-- The channel of an object. -/
def objectChan (s : State) (o : Nat) : Nat := moChan (s.moCfg o)

/-- A frame of the object is pending. -/
def objectWaits (s : State) (o : Nat) : Bool := (s.canCh (s.objectChan o)).pend.any (fun f => f.src = .object o)

/-- The object's frame pending in place of one that waited, PENDING shown. -/
def framed (s : State) (o : Nat) : State :=
  let c := s.objectChan o
  (s.setCan c { s.canCh c with pend := (s.canCh c).pend.filter (fun f => f.src ≠ .object o) ++ [s.objectFrame o] }).showPending c o

theorem moPending_eq {s : State} {o : Nat} (passes : s.releasePasses o = true) : s.moPending o false =
    if s.objectWaits o then ((s.framed o).setMo o { (s.framed o).moOf o with
      state := setBitTo ((s.framed o).moOf o).state 1 true
      lost := saturate (((s.framed o).moOf o).lost + 1) 65535 }).canLost (s.objectChan o) o
    else s.framed o := by
  have waits : ((s.canCh (s.objectChan o)).pend.filter (fun f => f.src = .object o)).isEmpty = !s.objectWaits o := by
    rw [Bool.eq_iff_iff]
    simp [objectWaits]
  have keep : s.moPending o false =
      if ((s.canCh (s.objectChan o)).pend.filter (fun f => f.src = .object o)).isEmpty then s.framed o
      else ((s.framed o).setMo o { (s.framed o).moOf o with
        state := setBitTo ((s.framed o).moOf o).state 1 true
        lost := saturate (((s.framed o).moOf o).lost + 1) 65535 }).canLost (s.objectChan o) o := by
    unfold moPending
    rw [if_neg (by rw [passes]; decide)]
    simp only [Bool.false_eq_true, if_false, List.append_nil]
    rfl
  rw [keep, waits]
  cases s.objectWaits o <;> rfl

theorem moPending_closed {s : State} {o : Nat} (closed : s.releasePasses o = false) (b : Bool) : s.moPending o b = s := by
  unfold moPending
  exact if_pos (by rw [closed]; rfl)

theorem framed_pends (s : State) (o : Nat) : s.Boxes (s.framed o) ∧ s.objectFrame o ∈ ((s.framed o).canCh (s.objectChan o)).pend ∧
    (s.framed o).moOf o = { s.moOf o with state := setBitTo (s.moOf o).state 3 true } ∧ ∀ p, p ≠ o → (s.framed o).moOf p = s.moOf p := by
  refine ⟨.showPending (.setCan (.refl s)), ?_, ?_, fun p other => moOf_setMo_other _ _ other⟩
  · show _ ∈ ((s.setCan (s.objectChan o) _).canCh (s.objectChan o)).pend
    rw [canCh_setCan_same]
    exact List.mem_append_right _ (List.mem_singleton_self _)
  · refine (moOf_setMo_same ..).trans ?_
    rw [canCh_setCan_same]
    have any : ((s.canCh (s.objectChan o)).pend.filter (fun f => f.src ≠ .object o) ++ [s.objectFrame o]).any
        (fun f => f.src = .object o) = true := by simp [objectFrame]
    rw [any]
    rfl

/-- An object becomes pending (R320): its frame waits with the instant, PENDING stands, and a frame it replaces counts as lost. -/
theorem moPending_pends {s : State} {o : Nat} (passes : s.releasePasses o = true) :
    s.Boxes (s.moPending o false) ∧ s.objectFrame o ∈ ((s.moPending o false).canCh (s.objectChan o)).pend ∧
    bitAt ((s.moPending o false).moOf o).state 3 = true ∧ ((s.moPending o false).moOf o).data = (s.moOf o).data ∧
    ((s.moPending o false).moOf o).lastMs = (s.moOf o).lastMs ∧
    ((s.moPending o false).moOf o).lost = (if s.objectWaits o then saturate ((s.moOf o).lost + 1) 65535 else (s.moOf o).lost) ∧
    ∀ p, p ≠ o → (s.moPending o false).moOf p = s.moOf p := by
  obtain ⟨boxes, pend, shown, others⟩ := framed_pends s o
  rw [moPending_eq passes]
  generalize s.framed o = u at *
  cases s.objectWaits o
  · refine ⟨boxes, pend, ?_, ?_, ?_, ?_, others⟩ <;> simp only [shown, Bool.false_eq_true, if_false]
    exact bitAt_setBitTo_same ..
  · rw [if_pos rfl, if_pos rfl, canPend_canLost]
    have mo (p : Nat) (m : MoData) : ((u.setMo o m).canLost (s.objectChan o) o).moOf p = (u.setMo o m).moOf p :=
      congrArg (fun t : Table MoData => t.read {} p) (mo_canLost ..)
    refine ⟨.canLost (.setMo boxes), pend, ?_, ?_, ?_, ?_, fun p other => (mo p _).trans ((moOf_setMo_other _ _ other).trans (others p other))⟩ <;>
      simp only [mo, moOf_setMo_same, shown]
    exact (bitAt_setBitTo_other _ _ (by decide)).trans (bitAt_setBitTo_same ..)

end State
end Sys2Proof.Machine

namespace Sys2Proof.Machine
namespace State

/-! ## MO_DATA (R319, R320) -/

/-- Whether a channel runs and whether a release passes depend on two kinds of objects only. -/
theorem canRuns_of {s t : State} (cfg : t.cfg = s.cfg) (boot : t.boot = s.boot) (secure : t.secure = s.secure) (ft : t.ft = s.ft)
    (c : Nat) (domain : t.ob (Obj.domainOn (3 + c)) = s.ob (Obj.domainOn (3 + c))) (power : t.ob Obj.pwrState = s.ob Obj.pwrState) :
    t.canRuns c = s.canRuns c := by
  unfold canRuns domainIsOn applied cf
  rw [domain, power, cfg, boot, secure, ft]

theorem releasePasses_of {s t : State} (cfg : t.cfg = s.cfg) (rel : ∀ r, t.ob (Obj.relState r) = s.ob (Obj.relState r)) (o : Nat) :
    t.releasePasses o = s.releasePasses o := by
  have same : t.releaseOf o = s.releaseOf o := by
    unfold releaseOf cf
    rw [cfg]
  unfold releasePasses
  rw [same]
  cases s.releaseOf o with
  | none => rfl
  | some r => exact congrArg (fun n => decide (n = 1)) (rel r)

/-- The state in which a write of MO_DATA takes its bytes. -/
theorem domainHeld_mo (s : State) (h : Nat) : s.domainHeld 0x6101 h =
    ({ s.setBit (domStatus 0x6101) 1 false with
      holds := s.holds.put 0x6101 { holder := h, lastWrite := s.now } } : State).setBit (domStatus 0x6101) 0 true := rfl

theorem objectsBut_domainHeld_mo (s : State) (h : Nat) : s.ObjectsBut (s.domainHeld 0x6101 h) [domStatus 0x6101] :=
  objectsBut_setBit (s := s) (t := { s.setBit (domStatus 0x6101) 1 false with
      holds := s.holds.put 0x6101 { holder := h, lastWrite := s.now } })
    (objectsBut_setBit (s := s) (t := s) (objectsBut_refl s _) (by simp) 1 false) (by simp) 0 true

/-- The data of an object with bytes written from its first on. -/
def overwritten (s : State) (o : Nat) (data : List Nat) : State :=
  s.setMo o { s.moOf o with data := (s.moOf o).data / 256 ^ data.length * 256 ^ data.length + ofBytes data }

theorem doMoWrite_writes {s : State} {h o : Nat} {data : List Nat} (small : o < 8192) (some_ : 1 ≤ data.length) (most : data.length ≤ 64)
    (sends : moDir (s.moCfg o) = 2) (plain : s.implementOf o = none) :
    s.doMoWrite h (96 * o + 32) data false = s.domainWrites 0x6101 h fun u =>
      .ok (if moOnWrite (s.moCfg o) && (u.overwritten o data).canRuns (s.objectChan o) then (u.overwritten o data).moPending o false
        else u.overwritten o data) := by
  have object : (96 * o + 32) / 96 = o := by omega
  have place : (96 * o + 32) % 96 = 32 := by omega
  unfold doMoWrite
  dsimp only
  rw [object, place, if_neg (by simp [small, some_, most, sends]), plain]
  rfl

theorem doMoWrite_misaligned {s : State} {h off : Nat} {data : List Nat} (out : off % 96 ≠ 32) (b : Bool) :
    s.doMoWrite h off data b = s.misaligned 0x6101 := by
  unfold doMoWrite
  exact if_pos (by simp [out])

theorem exec_moDataWrite {h : Nat} {off : BitVec 32} {data : List Byte} {b : Bool} {s : State} {x : Session} (sv : s.Serves h .host x) :
    exec (.moDataWrite h off data b) s =
      (s.asked x).finish ((s.asked x).doMoWrite h off.toNat (data.map (fun b => b.toNat)) b) := by
  show execMoDataWrite h off data b s = _
  unfold execMoDataWrite
  rw [request_serves sv, heard_handle sv]

/-- A write of MO_DATA that is not aligned (R57). -/
theorem moWrite_misaligned {h : Nat} {off : BitVec 32} {data : List Byte} {s : State} {x : Session} (sv : s.Serves h .host x)
    (out : off.toNat % 96 ≠ 32) :
    ∃ t, exec (.moDataWrite h off data false) s = .next t ∧ t.reply = { status := .valueRange } ∧
      t.bit (domStatus 0x6101) 1 = true ∧ t = { s.served x with reply := t.reply, obj := t.obj } ∧
      s.ObjectsBut t [domStatus 0x6101] := by
  refine ⟨{ (s.asked x).setBit (domStatus 0x6101) 1 true with reply := { status := .valueRange } }, ?_, rfl, ?_, rfl, ?_⟩
  · rw [exec_moDataWrite sv, doMoWrite_misaligned out]
    rfl
  · exact (congrArg (bitAt · 1) (ob_setOb_same (s.asked x) ..)).trans (bitAt_setBitTo_same ..)
  · exact objectsBut_setBit (s := s) (t := s.asked x) (objectsBut_refl s _) (by simp) 1 true

/-- A write of the data of a TX object (R320). -/
theorem moWrite_taken {h : Nat} {o : Fin 8192} {off : BitVec 32} {data : List Byte} {s : State} {x : Session} (sv : s.Serves h .host x)
    (aligned : off.toNat = 96 * o + 32) (some_ : 1 ≤ data.length) (most : data.length ≤ 64) (sends : moDir (s.moCfg o) = 2)
    (plain : s.implementOf o = none) (free : s.heldByOther 0x6101 h = false) :
    ∃ t, exec (.moDataWrite h off data false) s = .next t ∧ t.reply = { status := .success } ∧
      (t.moOf o).data = (s.moOf o).data / 256 ^ data.length * 256 ^ data.length + ofBytes (data.map (fun b => b.toNat)) ∧
      (∀ p, p ≠ o.val → t.moOf p = s.moOf p) ∧ t.holds = s.holds.put 0x6101 { holder := h, lastWrite := s.now } ∧
      t = { s.served x with obj := t.obj, mo := t.mo, holds := t.holds, can := t.can, fab := t.fab } ∧
      s.ObjectsBut t [domStatus 0x6101] ∧
      (moOnWrite (s.moCfg o) = false → t.can = s.can ∧ t.fab = s.fab) ∧
      (moOnWrite (s.moCfg o) = true → s.canRuns (moChan (s.moCfg o)) = true → s.releasePasses o = true →
        ∃ f ∈ (t.canCh (moChan (s.moCfg o))).pend, f.src = .object o ∧ f.since = s.now) := by
  let d := data.map (fun b => b.toNat)
  let w := (s.asked x).domainHeld 0x6101 h
  let u := w.overwritten o d
  let b := moOnWrite (s.moCfg o) && u.canRuns (s.objectChan o)
  let t := if b then u.moPending o false else u
  have ends : (s.asked x).doMoWrite h off.toNat d false = .ok t := by
    rw [aligned, doMoWrite_writes (s := s.asked x) o.isLt (by simpa [d] using some_) (by simpa [d] using most) sends plain]
    exact domainWrites_free free rfl
  have objects : s.ObjectsBut u [domStatus 0x6101] := objectsBut_domainHeld_mo (s.asked x) h
  have length : d.length = data.length := List.length_map _
  have written : u.moOf o = { s.moOf o with
      data := (s.moOf o).data / 256 ^ data.length * 256 ^ data.length + ofBytes d } := by
    rw [← length]
    exact moOf_setMo_same ..
  have others (p : Nat) (other : p ≠ o.val) : u.moOf p = s.moOf p := moOf_setMo_other _ _ other
  have runs : u.canRuns (s.objectChan o) = s.canRuns (s.objectChan o) := canRuns_of (s := s) (t := u) rfl rfl rfl rfl _
    (objects (Obj.domainOn (3 + s.objectChan o)) (List.mem_singleton.not.mpr (key_ne_of_sub _ _ (by decide))))
    (objects Obj.pwrState (List.mem_singleton.not.mpr (key_ne_of_sub _ _ (by decide))))
  have passes : u.releasePasses o = s.releasePasses o := releasePasses_of (s := s) (t := u) rfl
    (fun r => objects (Obj.relState r) (List.mem_singleton.not.mpr (key_ne_of_sub _ _ (by decide)))) o
  have stays : u.Boxes t ∧ (t.moOf o).data = (u.moOf o).data ∧ ∀ p, p ≠ o.val → t.moOf p = u.moOf p := by
    unfold t
    cases b
    · exact ⟨.refl u, rfl, fun _ _ => rfl⟩
    · cases pass : u.releasePasses o
      · rw [if_pos rfl, moPending_closed pass]
        exact ⟨.refl u, rfl, fun _ _ => rfl⟩
      · obtain ⟨boxes, -, -, content, -, -, rest⟩ := moPending_pends pass
        exact ⟨boxes, content, rest⟩
  obtain ⟨boxes, content, rest⟩ := stays
  refine ⟨{ t with reply := { status := .success } }, ?_, rfl, ?_, fun p other => (rest p other).trans (others p other), ?_, ?_, ?_,
    fun silent => ?_, fun sent running passing => ?_⟩
  · rw [exec_moDataWrite sv]
    refine finish_done ends ?_
    rw [boxes.frame]
    rfl
  · exact content.trans (by rw [written])
  · show t.holds = _
    rw [boxes.frame]
    rfl
  · rw [boxes.frame]
    rfl
  · intro k out
    have same : t.ob k = u.ob k := by rw [boxes.frame]; rfl
    exact same.trans (objects k out)
  · have none_ : t = u := if_neg (by simp [b, silent])
    rw [none_]
    exact ⟨rfl, rfl⟩
  · have pends : t = u.moPending o false := if_pos (by simp only [b, sent, runs, Bool.true_and]; exact running)
    obtain ⟨-, pend, -⟩ := moPending_pends (passes.trans passing)
    rw [pends]
    exact ⟨_, pend, rfl, rfl⟩

end State
end Sys2Proof.Machine

namespace Sys2Proof.Machine
namespace State

theorem moBytes_length (s : State) (o : Nat) : (s.moBytes o).length = 96 := by
  simp [moBytes, toBytes_length]

/-- NEW and LOST of an object cleared. -/
def seen (m : MoData) : MoData := { m with state := setBitTo (setBitTo m.state 0 false) 1 false }

/-- A read of one whole object (R319). -/
theorem doMoRead_whole (s : State) {o : Nat} (small : o < 8192) :
    s.doMoRead (96 * o) 96 = { s.setMo o (seen (s.moOf o)) with reply := { s.reply with data := s.moBytes o } } := by
  have n : min 96 (786432 - 96 * o) = 96 := by omega
  have first : 96 * o / 96 = o := by omega
  have objects : (List.range (96 / 96 + 2)).map (o + ·) = [o, o + 1, o + 2] := rfl
  have bytes : (((s.moBytes o ++ (s.moBytes (o + 1) ++ (s.moBytes (o + 2) ++ []))).drop (96 * o - 96 * o)).take 96) = s.moBytes o := by
    rw [Nat.sub_self, List.drop_zero, List.take_left' (moBytes_length s o)]
  have only : [o, o + 1, o + 2].filter (fun p => decide (96 * o ≤ 96 * p + 28) && decide (96 * p + 28 < 96 * o + 96)) = [o] := by
    rw [List.filter_cons_of_pos (by simp), List.filter_cons_of_neg (by simp; omega), List.filter_cons_of_neg (by simp; omega),
      List.filter_nil]
  unfold doMoRead
  simp only [n, first, objects, only]
  rw [show ([o, o + 1, o + 2].flatMap fun o => s.moBytes o) = s.moBytes o ++ (s.moBytes (o + 1) ++ (s.moBytes (o + 2) ++ [])) from rfl,
    bytes]
  rfl

theorem moRead_whole {h : Nat} {o : Fin 8192} {off : BitVec 32} {length : BitVec 16} {s : State} {x : Session} (sv : s.Serves h .host x)
    (aligned : off.toNat = 96 * o) (whole : length.toNat = 96) :
    exec (.moDataRead h off length) s =
      .next { s.served x with mo := s.mo.write {} o (seen (s.moOf o)), reply := { status := .success, data := s.moBytes o } } := by
  show execMoDataRead h off length s = _
  unfold execMoDataRead
  rw [request_serves sv, check_ok (by rw [whole]; decide), aligned, whole, doMoRead_whole _ o.isLt]
  rfl

/-! ## Periods and timeouts (R320, R321) -/

theorem exec_txPeriod {o : Fin 8192} {s : State} (due : s.periodDue o = true) (b : Bool) :
    exec (.txPeriod o b) s = .next ((s.setMo o { s.moOf o with lastMs := s.now / ms 1 + 1 }).moPending o b) :=
  congrArg Host.Outcome.next (if_pos due)

/-- A TX object whose period has come (R320). -/
theorem periodSent {s : State} {o : Nat} (passes : s.releasePasses o = true) :
    let t := (s.setMo o { s.moOf o with lastMs := s.now / ms 1 + 1 }).moPending o false
    (t.moOf o).lastMs = s.now / ms 1 + 1 ∧ bitAt (t.moOf o).state 3 = true ∧
      (∃ f ∈ (t.canCh (moChan (s.moCfg o))).pend, f.src = .object o ∧ f.since = s.now ∧ f.id = moId (s.moCfg o)) ∧
      (t.moOf o).lost = (if (s.canCh (moChan (s.moCfg o))).pend.any (fun f => f.src = .object o) then
        saturate ((s.moOf o).lost + 1) 65535 else (s.moOf o).lost) ∧
      (∀ p, p ≠ o → t.moOf p = s.moOf p) ∧ t = { s with mo := t.mo, can := t.can, fab := t.fab } := by
  intro t
  let u := s.setMo o { s.moOf o with lastMs := s.now / ms 1 + 1 }
  have own : u.moOf o = { s.moOf o with lastMs := s.now / ms 1 + 1 } := moOf_setMo_same ..
  obtain ⟨boxes, pend, pending, -, last, lost, others⟩ := moPending_pends (s := u) (o := o) passes
  refine ⟨last.trans (by rw [own]), pending, ⟨_, pend, rfl, rfl, rfl⟩, ?_, fun p other => (others p other).trans (moOf_setMo_other _ _ other), ?_⟩
  · rw [own] at lost
    exact lost
  · exact boxes.shown

theorem exec_rxObjectTimeout {o : Fin 8192} {s : State} {u : Tick} (heard : s.moHeard o = some u) (receives : moDir (s.moCfg o) = 1)
    (timed : moTime (s.moCfg o) ≠ 0) (fresh : bitAt (s.moOf o).state 2 = false) (past : s.passed u (ms (moTime (s.moCfg o))) = true) :
    exec (.rxObjectTimeout o) s = .next (s.moTimesOut o u) := by
  show execRxObjectTimeout o s = _
  unfold execRxObjectTimeout
  dsimp only
  rw [heard]
  exact congrArg Host.Outcome.next (if_pos (by simp [receives, timed, fresh, past]))

theorem tells_watchTimeout (s : State) (o late : Nat) : s.Tells (s.watchTimeout o late) := by
  unfold watchTimeout
  exact forEach_keeps (fun u _ h => .ite (.postAt h) h) _ (.refl s)

theorem raised_watchTimeout {s : State} {o : Nat} (late : Nat) {e : Nat × Nat} (mem : e ∈ s.domEntries 0x6103) (object : watchObject e.2 = o)
    (mode : watchMode e.2 = 3) : (s.watchTimeout o late).Raised s.now (656 + e.1) (0xFF000000 + saturate late 0xFFFFFF) := by
  unfold watchTimeout
  refine raised_forEach (P := s.Tells) (fun u _ h => .ite (.postAt h) h) (fun u _ => (Tells.ite (.postAt (.refl u)) (.refl u)).told) mem
    (fun u h => ?_) (.refl s)
  rw [if_pos (by simp [object, mode]), ← h.now_]
  exact raised_post ..

theorem csTimeout_frame (s : State) (o : Nat) : s.csTimeout o = { s with csNext := (s.csTimeout o).csNext } := by
  suffices each : ∀ (l : List (Nat × Nat)) (u : State),
      (forEach l (fun s e => if bitAt e.2 43 then { s with csNext := s.csNext.write 0 e.1 0 } else s) u) =
        { u with csNext := (forEach l (fun s e => if bitAt e.2 43 then { s with csNext := s.csNext.write 0 e.1 0 } else s) u).csNext }
    from each ..
  intro l u
  unfold forEach
  induction l generalizing u with
  | nil => rfl
  | cons e l ih =>
    rw [List.foldl_cons, ih]
    split <;> rfl

/-- The timeout of an RX object (R321, R324). -/
theorem moTimedOut (s : State) (o : Nat) (u : Tick) :
    let t := s.moTimesOut o u
    t.moOf o = { s.moOf o with state := setBitTo (s.moOf o).state 2 true } ∧
    (∀ e ∈ s.domEntries 0x6103, watchObject e.2 = o → watchMode e.2 = 3 →
      t.Raised s.now (656 + e.1) (0xFF000000 + saturate ((s.now - u) / ms 1) 0xFFFFFF)) ∧
    (∀ p, p ≠ o → t.moOf p = s.moOf p) ∧ t = { s with mo := t.mo, fab := t.fab, csNext := t.csNext } := by
  let v := s.setMo o { s.moOf o with state := setBitTo (s.moOf o).state 2 true }
  let w := v.watchTimeout o ((s.now - u) / ms 1)
  have watched : v.Tells w := tells_watchTimeout ..
  have mapped : w.csTimeout o = { w with csNext := (w.csTimeout o).csNext } := csTimeout_frame w o
  have mo (p : Nat) : (w.csTimeout o).moOf p = v.moOf p := by
    rw [mapped, watched.frame]
    rfl
  refine ⟨(mo o).trans (moOf_setMo_same ..), fun e mem object mode => ?_, fun p other => (mo p).trans (moOf_setMo_other _ _ other), ?_⟩
  · have raised := raised_watchTimeout (s := v) (o := o) ((s.now - u) / ms 1) mem object mode
    show (w.csTimeout o).Raised _ _ _
    rw [mapped]
    exact raised
  · show w.csTimeout o = { s with mo := (w.csTimeout o).mo, fab := (w.csTimeout o).fab, csNext := (w.csTimeout o).csNext }
    rw [mapped, watched.frame]
    rfl

end State
end Sys2Proof.Machine

namespace Sys2Proof.Machine
namespace State

/-! ## A frame sent (R320, R323, R327, R328) -/

theorem canAckRun_canCounters (s : State) (c tec rec_ : Nat) :
    (s.canCounters c tec rec_).ob (Obj.canAckRun c) = if 256 ≤ tec then 0 else s.ob (Obj.canAckRun c) := by
  obtain ⟨u, told, -, eq⟩ := canCounters_eq s c tec rec_
  have kept : u.ob (Obj.canAckRun c) = s.ob (Obj.canAckRun c) := by
    rw [told.objects _ List.not_mem_nil]
    exact (ob_setOb_other _ _ (key_ne_of_sub _ _ (by decide))).trans (ob_setOb_other _ _ (key_ne_of_sub _ _ (by decide)))
  rw [eq, ob_canShow (k := Obj.canAckRun c) _ (key_ne_of_sub _ _ (by decide)) (key_ne_of_sub _ _ (by decide))]
  split
  · exact ob_setOb_same ..
  · exact kept

theorem Signals.aloneEnds {own : List Nat} {s t : State} {c : Nat} (h : Signals own s t) : Signals own s (t.aloneEnds c) := by
  unfold State.aloneEnds
  dsimp only
  split
  · exact h
  · exact .canPost (.setCan h)

theorem aloneEnds_of_none {s : State} {c : Nat} (joined : (s.canCh c).aloneSince = none) : s.aloneEnds c = s := by
  unfold aloneEnds
  dsimp only
  rw [joined]

theorem sent_aloneEnds (s : State) (c : Nat) : ((s.aloneEnds c).canCh c).sent = (s.canCh c).sent := by
  unfold aloneEnds
  dsimp only
  split
  · rfl
  · show ((s.setCan c _).canCh c).sent = _
    rw [canCh_setCan_same]

/-- The channel after a frame has left it, with `n` as the data it carried. -/
def leaves (s : State) (c : Nat) (f : CanPending) (n : Nat) : CanChannel :=
  { s.canCh c with pend := takeFrame f (s.canCh c).pend, sent := some { f with id := s.wireId c f, data := some n } }

/-- A frame has left its channel: counted and remembered, the acknowledgement run at 0, the alone state over. -/
def left (s : State) (c : Nat) (f : CanPending) (n : Nat) : State :=
  (((s.setCan c (s.leaves c f n)).bump (Obj.canTxFrames c)).setOb (Obj.canAckRun c) 0).aloneEnds c

/-- TEC falls by 1 after a frame sent. -/
def recedes (s : State) (c : Nat) : State := s.canCounters c (s.ob (Obj.canTec c) - 1) (s.ob (Obj.canRec c))

/-- What the object of a sent frame keeps of it. -/
def objectSent (s : State) (c o : Nat) : State :=
  (((s.setMo o { s.moOf o with ts := s.now, count := ((s.moOf o).count + 1) % 2 ^ 32 }).showPending c o).releaseSent o).challengeSent o

/-- The data a frame carries. -/
def carried (s : State) (f : CanPending) : Nat :=
  (match f.src, f.data with
    | .object o, d => s.releasedData o (d.getD (s.moOf o).data)
    | _, d => d.getD 0) % 2 ^ (8 * dlcLen f.dlc)

/-- What the source of a sent frame keeps of it. -/
def sourceSent (s : State) (c : Nat) : CanSource → State
  | .object o => s.objectSent c o
  | .claim => s.setCan c { s.canCh c with claimSent := some s.now }
  | _ => s

theorem frameSent_eq (s : State) (c : Nat) (f : CanPending) :
    s.frameSent c f = ((s.left c f (s.carried f)).sourceSent c f.src).recedes c := by
  unfold frameSent sourceSent recedes left leaves carried objectSent
  rfl

/-- The objects a frame sent may move. -/
def sentObjects (c : Nat) : List Nat :=
  [Obj.canTxFrames c, Obj.canAckRun c, Obj.canTec c, Obj.canRec c, Obj.canState c, Obj.canFlags c]

theorem counterObjects_subset_sent (c : Nat) : counterObjects c ⊆ sentObjects c := by
  simp [counterObjects, sentObjects]

theorem left_leaves (s : State) (c : Nat) (f : CanPending) (n : Nat) : Signals (sentObjects c) s (s.left c f n) ∧
    (s.left c f n).ob (Obj.canTxFrames c) = (s.ob (Obj.canTxFrames c) + 1) % 2 ^ 32 ∧ (s.left c f n).ob (Obj.canAckRun c) = 0 ∧
    ((s.left c f n).canCh c).sent = some { f with id := s.wireId c f, data := some n } ∧
    ((s.canCh c).aloneSince = none → ((s.left c f n).canCh c).pend = takeFrame f (s.canCh c).pend) := by
  have ends (u : State) : Signals [] u (u.aloneEnds c) := .aloneEnds (.refl [] u)
  have channel : ((((s.setCan c (s.leaves c f n)).bump (Obj.canTxFrames c)).setOb (Obj.canAckRun c) 0).canCh c) = s.leaves c f n :=
    canCh_setCan_same ..
  refine ⟨.aloneEnds (.setOb (.bump (.setCan (.refl _ s)) (by simp [sentObjects])) (by simp [sentObjects])), ?_, ?_, ?_, fun joined => ?_⟩
  · refine ((ends _).objects _ List.not_mem_nil).trans ?_
    exact (ob_setOb_other _ _ (key_ne_of_sub _ _ (by decide))).trans (ob_setOb_same ..)
  · exact ((ends _).objects _ List.not_mem_nil).trans (ob_setOb_same ..)
  · exact (sent_aloneEnds ..).trans (by rw [channel]; rfl)
  · unfold left
    rw [aloneEnds_of_none (by rw [channel]; exact joined), channel]
    rfl

theorem recedes_stays (s : State) (c : Nat) : Signals (counterObjects c) s (s.recedes c) ∧
    (s.ob (Obj.canAckRun c) = 0 → (s.recedes c).ob (Obj.canAckRun c) = 0) ∧
    ((s.recedes c).canCh c).sent = (s.canCh c).sent ∧ ((s.recedes c).canCh c).pend = (s.canCh c).pend := by
  refine ⟨.canCounters (.refl _ s) fun _ h => h, fun zero => ?_, ?_, ?_⟩
  · unfold recedes
    rw [canAckRun_canCounters, zero]
    split <;> rfl
  · unfold recedes
    rw [canCh_canCounters]
    split <;> rfl
  · unfold recedes
    rw [canCh_canCounters]
    split <;> rfl

/-- Counter and time of a release or a challenge are kept with burgee access. -/
theorem objectSent_stays (s : State) (c o : Nat) :
    s.objectSent c o = { s with mo := (s.objectSent c o).mo, bg := (s.objectSent c o).bg } ∧
    ((s.objectSent c o).moOf o).count = ((s.moOf o).count + 1) % 2 ^ 32 ∧ ((s.objectSent c o).moOf o).ts = s.now ∧
    ∀ p, p ≠ o → (s.objectSent c o).moOf p = s.moOf p := by
  have release (u : State) : u.releaseSent o = { u with bg := (u.releaseSent o).bg } := by
    unfold releaseSent
    dsimp only
    split
    · rfl
    · split <;> rfl
  have challenge (u : State) : u.challengeSent o = { u with bg := (u.challengeSent o).bg } := by
    unfold challengeSent
    dsimp only
    split <;> rfl
  let u := (s.setMo o { s.moOf o with ts := s.now, count := ((s.moOf o).count + 1) % 2 ^ 32 }).showPending c o
  have eq : s.objectSent c o = { u with bg := (s.objectSent c o).bg } := by
    show (u.releaseSent o).challengeSent o = { u with bg := ((u.releaseSent o).challengeSent o).bg }
    rw [challenge, release]
  have shown : u.moOf o = { s.moOf o with
      ts := s.now, count := ((s.moOf o).count + 1) % 2 ^ 32
      state := setBitTo (s.moOf o).state 3 ((s.canCh c).pend.any (fun f => f.src = .object o)) } := by
    refine (moOf_setMo_same ..).trans ?_
    rw [moOf_setMo_same]
    rfl
  have mo (p : Nat) : (s.objectSent c o).moOf p = u.moOf p := by
    rw [eq]
    rfl
  refine ⟨?_, ?_, ?_, fun p other => ?_⟩
  · rw [eq]
    rfl
  · rw [mo, shown]
  · rw [mo, shown]
  · exact (mo p).trans ((moOf_setMo_other _ _ other).trans (moOf_setMo_other _ _ other))

end State
end Sys2Proof.Machine

namespace Sys2Proof.Machine
namespace State

/-- A frame of an object has been acknowledged (R320, R327, R328). -/
theorem objectFrameSent {s : State} {c o : Nat} {f : CanPending} (src : f.src = .object o) :
    let t := s.frameSent c f
    ∃ g, t.ob (Obj.canTxFrames c) = (s.ob (Obj.canTxFrames c) + 1) % 2 ^ 32 ∧
      t.ob (Obj.canAckRun c) = 0 ∧ (t.canCh c).sent = some g ∧ g.id = s.wireId c f ∧ g.src = .object o ∧
      (t.moOf o).count = ((s.moOf o).count + 1) % 2 ^ 32 ∧ (t.moOf o).ts = s.now ∧
      ((s.canCh c).aloneSince = none → (t.canCh c).pend = takeFrame f (s.canCh c).pend) ∧
      (∀ p, p ≠ o → t.moOf p = s.moOf p) ∧ t = { s with obj := t.obj, fab := t.fab, can := t.can, mo := t.mo, bg := t.bg } ∧
      s.ObjectsBut t (sentObjects c) := by
  obtain ⟨out, frames, run, sent, pend⟩ := left_leaves s c f (s.carried f)
  generalize eq : s.left c f (s.carried f) = b at out frames run sent pend
  obtain ⟨frame, count, time, others⟩ := objectSent_stays b c o
  obtain ⟨signals, zero, sentStays, pendStays⟩ := recedes_stays (b.objectSent c o) c
  have object (k : Nat) : (b.objectSent c o).ob k = b.ob k := by rw [frame]; rfl
  have channel : (b.objectSent c o).canCh c = b.canCh c := by rw [frame]; rfl
  intro t
  have ends : t = (b.objectSent c o).recedes c := by
    show s.frameSent c f = _
    rw [frameSent_eq, eq, src]
    rfl
  rw [ends]
  refine ⟨{ f with id := s.wireId c f, data := some (s.carried f) }, ?_, zero ((object _).trans run), ?_, rfl, src, ?_, ?_, fun joined => ?_,
    fun p other => ?_, ?_, fun k free => ?_⟩
  · rw [signals.objects (Obj.canTxFrames c) (canField_not_counter c (by decide)), object, frames]
  · rw [sentStays, channel, sent]
  · rw [signals.moOf_, count, out.moOf_]
  · rw [signals.moOf_, time, out.now_]
  · rw [pendStays, channel, pend joined]
  · rw [signals.moOf_, others p other, out.moOf_]
  · rw [signals.shown, frame, out.shown]
  · rw [signals.objects k fun mem => free (counterObjects_subset_sent c mem), object, out.objects k free]

theorem exec_canTransmissionDone {c : Fin 8} {s : State} {f : CanPending} {o : Nat} (bus : s.onTheBus c = some f)
    (src : f.src = .object o) (quiet : s.nmOf c = false) : exec (.canTransmissionDone c) s = .next (s.frameSent c f) := by
  obtain ⟨g, -, -, -, -, -, -, -, -, -, frame, -⟩ := objectFrameSent (s := s) (c := c) src
  have off : (s.frameSent c f).nmOf c = false := by
    rw [frame]
    exact quiet
  show execCanTransmissionDone c s = _
  unfold execCanTransmissionDone
  rw [bus]
  dsimp only
  rw [src]
  exact congrArg Host.Outcome.next (if_pos (by rw [off]; rfl))

/-- The first notice of a channel, in a frame of it (R304, R323). -/
def canNoticeFrame (s : State) (c : Nat) (o : Occ) : CanPending :=
  let id := s.cf (Obj.noticeCanId c)
  { src := .notice, ext := bitAt id 31, id := bitsOf id 0 29, dlc := if s.canFd c then 10 else 8, fdf := s.canFd c
    data := some (if s.canFd c then o.ev + 2 ^ 32 * (o.value + 2 ^ 32 * o.ts)
                  else o.ev + 2 ^ 16 * (o.value + 2 ^ 32 * (o.ts / us 1 % 2 ^ 16)))
    since := o.ts }

theorem exec_canNoticeSend {c : Fin 8} {s : State} {o : Occ} {rest : List Occ} (waits : s.fab.canNotices.read [] c = o :: rest)
    (active : s.canActive c = true) (talks : s.canListens c = false) (joined : (s.canCh c).aloneSince = none)
    (turn : s.noticeInTurn c = true) : exec (.canNoticeSend c) s =
      .next (({ s with fab := { s.fab with canNotices := s.fab.canNotices.write [] c rest } } : State).frameSent c (s.canNoticeFrame c o)) := by
  show execCanNoticeSend c s = _
  unfold execCanNoticeSend
  dsimp only
  rw [waits]
  exact congrArg Host.Outcome.next (if_pos (by rw [active, talks, joined, turn]; rfl))

/-- A notice has been sent. -/
theorem noticeSent {s : State} {c : Nat} {f : CanPending} (src : f.src = .notice) :
    let t := s.frameSent c f
    t.fab.canNotices = s.fab.canNotices ∧ (∃ g, (t.canCh c).sent = some g ∧ g.src = .notice ∧ g.id = f.id) ∧
    t.ob (Obj.canTxFrames c) = (s.ob (Obj.canTxFrames c) + 1) % 2 ^ 32 ∧ Signals (sentObjects c) s t := by
  obtain ⟨out, frames, -, sent, -⟩ := left_leaves s c f (s.carried f)
  generalize eq : s.left c f (s.carried f) = b at out frames sent
  obtain ⟨signals, -, sentStays, -⟩ := recedes_stays b c
  intro t
  have ends : t = b.recedes c := by
    show s.frameSent c f = _
    rw [frameSent_eq, eq, src]
    rfl
  have all : Signals (sentObjects c) s (b.recedes c) :=
    out.trans ⟨signals.frame, fun k free => signals.objects k fun mem => free (counterObjects_subset_sent c mem), signals.told⟩
  rw [ends]
  refine ⟨?_, ⟨_, sentStays.trans sent, src, ?_⟩, ?_, all⟩
  · rw [all.frame]
  · show s.wireId c f = f.id
    unfold wireId
    rw [src]
  · rw [signals.objects (Obj.canTxFrames c) (canField_not_counter c (by decide)), frames]

/-! ## Frames that wait too long (R320) -/

/-- What the discarding of a late frame tells and shows. -/
def discards (c : Nat) (s : State) (f : CanPending) : State :=
  let s := s.canPost c 10 (f.id + (if f.ext then 2 ^ 31 else 0))
  match f.src with
  | .object o => s.showPending c o
  | _ => s

theorem boxes_discards (c : Nat) (s : State) (f : CanPending) : s.Boxes (discards c s f) ∧ (discards c s f).can = s.can ∧
    (discards c s f).Raised s.now (528 + 16 * c + 10) (f.id + (if f.ext then 2 ^ 31 else 0)) := by
  have posts : s.Boxes (s.canPost c 10 (f.id + (if f.ext then 2 ^ 31 else 0))) := .canPost (.refl s)
  unfold discards
  dsimp only
  split
  · exact ⟨posts.showPending, rfl, raised_post ..⟩
  · exact ⟨posts, rfl, raised_post ..⟩

/-- A frame is late where TX_TIMEOUT has passed (R320). -/
def late (s : State) (c : Nat) (f : CanPending) : Bool := s.passed f.since (ms (s.cf (Obj.canTxTimeout c)) + 1)

theorem txExpire_eq {s : State} {c : Nat} (timed : s.cf (Obj.canTxTimeout c) ≠ 0) (joined : (s.canCh c).aloneSince = none) :
    s.txExpire c = forEach ((s.canCh c).pend.filter (s.late c)) (discards c)
      (s.setCan c { s.canCh c with pend := (s.canCh c).pend.filter (fun f => !s.late c f) }) := by
  unfold txExpire
  extract_lets x t due gone
  have same : due = s.late c := by
    funext f
    show (decide (s.cf (Obj.canTxTimeout c) ≠ 0) && (s.canCh c).aloneSince.isNone && s.late c f) = _
    rw [joined, decide_eq_true timed]
    rfl
  show forEach (x.pend.filter due) _ (s.setCan c { x with pend := x.pend.filter (fun f => !due f) }) = _
  rw [same]
  rfl

theorem expired {s : State} {c : Nat} (timed : s.cf (Obj.canTxTimeout c) ≠ 0) (joined : (s.canCh c).aloneSince = none) :
    ((s.txExpire c).canCh c).pend = (s.canCh c).pend.filter (fun f => !s.late c f) ∧
    (∀ f ∈ (s.canCh c).pend, s.late c f = true →
      (s.txExpire c).Raised s.now (528 + 16 * c + 10) (f.id + (if f.ext then 2 ^ 31 else 0))) ∧
    s.txExpire c = { s with can := (s.txExpire c).can, mo := (s.txExpire c).mo, fab := (s.txExpire c).fab } := by
  let u := s.setCan c { s.canCh c with pend := (s.canCh c).pend.filter (fun f => !s.late c f) }
  have step (v : State) (f : CanPending) (h : u.Boxes v ∧ v.can = u.can) : u.Boxes (discards c v f) ∧ (discards c v f).can = u.can := by
    obtain ⟨boxes, can, -⟩ := boxes_discards c v f
    exact ⟨h.1.trans boxes, can.trans h.2⟩
  rw [txExpire_eq timed joined]
  obtain ⟨boxes, can⟩ := forEach_keeps (P := fun v => u.Boxes v ∧ v.can = u.can) step ((s.canCh c).pend.filter (s.late c)) ⟨.refl u, rfl⟩
  refine ⟨?_, fun f mem due => ?_, ?_⟩
  · refine (congrArg (fun t : Table CanChannel => (t.read {} c).pend) can).trans ?_
    show ((s.setCan c _).canCh c).pend = _
    rw [canCh_setCan_same]
  · refine raised_forEach (P := fun v => u.Boxes v ∧ v.can = u.can) step (fun v f => (boxes_discards c v f).1.told)
      (List.mem_filter.mpr ⟨mem, due⟩) (fun v h => ?_) ⟨.refl u, rfl⟩
    have now : v.now = s.now := h.1.now_
    rw [← now]
    exact (boxes_discards c v f).2.2
  · exact ((Boxes.setCan (Boxes.refl s)).trans boxes).shown

/-! ## STRAY_ACK (R322) -/

theorem exec_strayAck {h : Nat} {c : Fin 8} {n : BitVec 8} {s : State} {x : Session} (sv : s.Serves h .host x) :
    exec (.strayAck h c n) s = (s.asked x).finish ((s.asked x).doStrayAck c n.toNat) := by
  show execStrayAck h c n s = _
  exact request_serves sv _ _

theorem strayAck_taken {h : Nat} {c : Fin 8} {n : BitVec 8} {s : State} {x : Session} (sv : s.Serves h .host x)
    (some_ : 1 ≤ n.toNat) (most : n.toNat ≤ (s.canCh c).strays.length) :
    ∃ t, exec (.strayAck h c n) s = .next t ∧ (t.canCh c).strays = (s.canCh c).strays.drop n.toNat ∧
      (t.canCh c).strayDrops = 0 ∧ t.bit (Obj.canFlags c) 5 = false ∧ t = { s.served x with obj := t.obj, can := t.can } ∧
      s.ObjectsBut t [Obj.canFlags c] := by
  let u := (s.asked x).setCan c { s.canCh c with strays := (s.canCh c).strays.drop n.toNat, strayDrops := 0 }
  have channel : u.canCh c = { s.canCh c with strays := (s.canCh c).strays.drop n.toNat, strayDrops := 0 } := canCh_setCan_same ..
  refine ⟨{ u.setBit (Obj.canFlags c) 5 false with reply := { status := .success } }, ?_, ?_, ?_, bit_setBit_same u .., rfl, ?_⟩
  · rw [exec_strayAck sv]
    refine finish_done (check_ok ?_ _ _) rfl
    exact Bool.and_eq_true_iff.mpr ⟨decide_eq_true some_, decide_eq_true most⟩
  · show (u.canCh c).strays = _
    rw [channel]
  · show (u.canCh c).strayDrops = _
    rw [channel]
  · exact objectsBut_setBit (s := s) (t := u) (objectsBut_refl s _) (by simp) 5 false

theorem strayAck_refused {h : Nat} {c : Fin 8} {n : BitVec 8} {s : State} {x : Session} (sv : s.Serves h .host x)
    (out : n.toNat = 0 ∨ (s.canCh c).strays.length < n.toNat) :
    exec (.strayAck h c n) s = .next { s.asked x with reply := { status := .valueRange } } := by
  rw [exec_strayAck sv]
  unfold doStrayAck
  dsimp only
  rw [check_error, finish_error]
  show (decide (1 ≤ n.toNat) && decide (n.toNat ≤ (s.canCh c).strays.length)) = false
  simp only [Bool.and_eq_false_iff, decide_eq_false_iff_not]
  omega

end State
end Sys2Proof.Machine

namespace Sys2Proof.Machine
namespace State

/-! ## A transmission in error (R327, R328) -/

/-- A channel that the ring does not run on does not move it. -/
theorem nmWatch_of_quiet {s : State} {c : Nat} (quiet : s.nmOf c = false) : s.nmWatch c = s := by
  have limp : s.nmLimpHome c = s := by
    unfold nmLimpHome
    exact if_neg (by rw [quiet, Bool.false_and]; decide)
  unfold nmWatch
  dsimp only
  rw [limp, ite_self]

theorem Signals.nmOf_ {own : List Nat} {s t : State} (h : Signals own s t) (c : Nat) : t.nmOf c = s.nmOf c := by rw [h.frame]; rfl

theorem exec_canTxError {c : Fin 8} {s : State} {f : CanPending} (bus : s.onTheBus c = some f) (error : Fin 7) :
    exec (.canTxError c error) s = .next ((s.frameFailed c error).nmWatch c) := by
  show execCanTxError c error s = _
  unfold execCanTxError
  rw [bus]

/-- An error counted and remembered, the attempt over. -/
def errorCounted (s : State) (c error : Nat) : State :=
  ((s.setCan c { s.canCh c with attempt := none }).bump (Obj.canErrorFrames c)).setOb (Obj.canLastError c) error

/-- The run of acknowledgement errors after an error. -/
def ackRun (s : State) (c error : Nat) : Nat :=
  if error = 3 then saturate ((s.errorCounted c error).ob (Obj.canAckRun c) + 1) 65535 else (s.errorCounted c error).ob (Obj.canAckRun c)

/-- An error counted, with the run of acknowledgement errors. -/
def errorNoted (s : State) (c error : Nat) : State := (s.errorCounted c error).setOb (Obj.canAckRun c) (s.ackRun c error)

/-- The channel alone since now (R328). -/
def goesAlone (s : State) (c : Nat) : State :=
  (s.setCan c { s.canCh c with aloneSince := some s.now, lastTry := s.now }).canPost c 5 16

/-- An error noted, and the alone state where the sixteenth acknowledgement error in a row begins it. -/
def failed (s : State) (c error : Nat) : State :=
  let u := s.errorNoted c error
  if error = 3 && s.ackRun c error = 16 && (s.canCh c).aloneSince.isNone then u.goesAlone c else u

/-- The unit is error passive on a channel. -/
def errorPassive (s : State) (c : Nat) : Bool := decide (128 ≤ s.ob (Obj.canTec c)) || decide (128 ≤ s.ob (Obj.canRec c))

theorem errorNoted_objects (s : State) (c error : Nat) :
    (s.errorNoted c error).ob (Obj.canErrorFrames c) = (s.ob (Obj.canErrorFrames c) + 1) % 2 ^ 32 ∧
    (s.errorNoted c error).ob (Obj.canLastError c) = error ∧ (s.errorNoted c error).ob (Obj.canTec c) = s.ob (Obj.canTec c) ∧
    (s.errorNoted c error).ob (Obj.canRec c) = s.ob (Obj.canRec c) ∧
    (s.errorCounted c error).ob (Obj.canAckRun c) = s.ob (Obj.canAckRun c) := by
  have channel (k : Nat) : (s.setCan c { s.canCh c with attempt := none }).ob k = s.ob k := rfl
  refine ⟨?_, ?_, ?_, ?_, ?_⟩ <;>
    simp [errorNoted, errorCounted, bump_eq, channel, Obj.canErrorFrames, Obj.canLastError, Obj.canTec, Obj.canRec, Obj.canAckRun]

/-- The objects that an error moves. -/
def errorObjects (c : Nat) : List Nat := Obj.canErrorFrames c :: Obj.canLastError c :: counterObjects c

theorem signals_errorNoted (s : State) (c error : Nat) : Signals (errorObjects c) s (s.errorNoted c error) :=
  .setOb (.setOb (.bump (.setCan (.refl _ s)) (by simp [errorObjects])) (by simp [errorObjects])) (by simp [errorObjects, counterObjects])

theorem signals_goesAlone (own : List Nat) (s : State) (c : Nat) : Signals own s (s.goesAlone c) := .canPost (.setCan (.refl own s))

theorem failed_stays (s : State) (c error : Nat) : Signals [] (s.errorNoted c error) (s.failed c error) :=
  .ite (signals_goesAlone [] _ c) (.refl [] _)

theorem frameFailed_eq (s : State) (c : Nat) {error : Nat} (wrong : error ≠ 0) : s.frameFailed c error =
    if error = 3 && s.errorPassive c then (s.failed c error).canShow c
    else (s.failed c error).canCounters c (s.ob (Obj.canTec c) + 8) (s.ob (Obj.canRec c)) := by
  obtain ⟨-, -, tec, rec_, -⟩ := errorNoted_objects s c error
  have tecHere : (s.failed c error).ob (Obj.canTec c) = s.ob (Obj.canTec c) :=
    ((failed_stays s c error).objects _ List.not_mem_nil).trans tec
  have recHere : (s.failed c error).ob (Obj.canRec c) = s.ob (Obj.canRec c) :=
    ((failed_stays s c error).objects _ List.not_mem_nil).trans rec_
  rw [← tecHere, ← recHere]
  unfold frameFailed
  rw [if_neg wrong]
  rfl

/-- What an error of a transmission makes of the counters and the channel. -/
theorem frameFailed_stands (s : State) (c : Nat) {error : Nat} (wrong : error ≠ 0) :
    let t := s.frameFailed c error
    t.ob (Obj.canErrorFrames c) = (s.ob (Obj.canErrorFrames c) + 1) % 2 ^ 32 ∧ t.ob (Obj.canLastError c) = error ∧
      Signals (errorObjects c) s t ∧ (error ≠ 3 → t.ob (Obj.canTec c) = saturate (s.ob (Obj.canTec c) + 8) 256) ∧
      (error ≠ 3 → 248 ≤ s.ob (Obj.canTec c) → (t.canCh c).busOffAt = some s.now ∧ t.Raised s.now (528 + 16 * c) error) ∧
      (error = 3 → s.ob (Obj.canAckRun c) = 15 → (s.canCh c).aloneSince = none →
        (t.canCh c).aloneSince = some s.now ∧ t.Raised s.now (528 + 16 * c + 5) 16) := by
  obtain ⟨frames, last, -, -, run⟩ := errorNoted_objects s c error
  have noted := failed_stays s c error
  have counters : counterObjects c ⊆ errorObjects c := by simp [counterObjects, errorObjects]
  have before : Signals (errorObjects c) s (s.failed c error) :=
    (signals_errorNoted s c error).trans ⟨noted.frame, fun k _ => noted.objects k List.not_mem_nil, noted.told⟩
  have moved : Signals (counterObjects c) (s.failed c error) (s.frameFailed c error) := by
    rw [frameFailed_eq s c wrong]
    exact .ite (.canShow (.refl _ _) (by simp [counterObjects]) (by simp [counterObjects])) (.canCounters (.refl _ _) fun _ h => h)
  have lastHere : (s.failed c error).ob (Obj.canLastError c) = error := (noted.objects _ List.not_mem_nil).trans last
  refine ⟨?_, ?_, ?_, fun other => ?_, fun other high => ?_, fun ack fifteen joined => ?_⟩
  · rw [moved.objects (Obj.canErrorFrames c) (canField_not_counter c (by decide)), noted.objects _ List.not_mem_nil, frames]
  · rw [moved.objects (Obj.canLastError c) (canField_not_counter c (by decide)), lastHere]
  · exact before.trans ⟨moved.frame, fun k free => moved.objects k fun mem => free (counters mem), moved.told⟩
  · rw [frameFailed_eq s c wrong, if_neg (by simp [other]), canTec_canCounters]
  · have off : 256 ≤ s.ob (Obj.canTec c) + 8 := by omega
    rw [frameFailed_eq s c wrong, if_neg (by simp [other]), canCh_canCounters, if_pos off]
    refine ⟨congrArg some before.now_, ?_⟩
    have raised := raised_canCounters (s.failed c error) c (s.ob (Obj.canRec c)) off
    rw [lastHere, before.now_] at raised
    exact raised
  · have sixteen : s.ackRun c error = 16 := by
      unfold ackRun
      rw [if_pos ack, run, fifteen]
      rfl
    have alone : s.failed c error = (s.errorNoted c error).goesAlone c := if_pos (by rw [sixteen, joined, ack]; rfl)
    have now : (s.errorNoted c error).now = s.now := rfl
    have channel : ((s.failed c error).canCh c).aloneSince = some s.now := by
      rw [alone, ← now]
      show (((s.errorNoted c error).setCan c _).canCh c).aloneSince = _
      rw [canCh_setCan_same]
    have raised : (s.failed c error).Raised s.now (528 + 16 * c + 5) 16 := by
      rw [alone, ← now]
      exact raised_post ((s.errorNoted c error).setCan c _) _ _
    refine ⟨?_, moved.raised raised⟩
    rw [frameFailed_eq s c wrong]
    split
    · exact channel
    · next low =>
      have small : ¬ 256 ≤ s.ob (Obj.canTec c) + 8 := by
        simp only [ack, errorPassive, decide_true, Bool.true_and, Bool.or_eq_true, decide_eq_true_eq, not_or] at low
        omega
      rw [canCh_canCounters, if_neg small]
      exact channel

end State
end Sys2Proof.Machine

namespace Sys2Proof.Machine
namespace State

/-! ## Exceptions, faults, joining and recovery (R311, R313, R314, R327) -/

theorem exec_protocolException {c : Fin 8} {s : State} (active : s.canActive c = true)
    (mode : s.cf (Obj.canMode c) = 1 ∨ s.cf (Obj.canMode c) = 3) :
    exec (.protocolException c) s = if s.cf (Obj.canPxeEnable c) = 1 then
      .next ((((s.setCan c { s.canCh c with exception := true }).bump (Obj.canPxeCount c)).canPost c 9
        (((s.setCan c { s.canCh c with exception := true }).bump (Obj.canPxeCount c)).ob (Obj.canPxeCount c))).canShow c)
    else .next (if s.cf (Obj.canMode c) = 1 then s.bump (Obj.canErrorFrames c) else s) := by
  show execProtocolException c s = _
  unfold execProtocolException
  exact if_neg (by rcases mode with one | three <;> simp [active, *])

/-- A channel under an exception, with a fault or off takes no part. -/
theorem canActive_of_exception {s : State} {c : Nat} (stopped : (s.canCh c).exception = true) : s.canActive c = false := by
  unfold canActive
  dsimp only
  rw [stopped]
  simp

theorem canActive_of_fault {s : State} {c : Nat} (fault : (s.canCh c).fault ≠ 0) : s.canActive c = false := by
  unfold canActive
  dsimp only
  rw [decide_eq_false fault, Bool.and_false]

/-- An FD frame on a classical channel stops it (R311). -/
theorem exceptionBegins (s : State) (c : Nat) :
    let u := (s.setCan c { s.canCh c with exception := true }).bump (Obj.canPxeCount c)
    let t := (u.canPost c 9 (u.ob (Obj.canPxeCount c))).canShow c
    (t.canCh c).exception = true ∧ t.canActive c = false ∧ t.ob (Obj.canPxeCount c) = (s.ob (Obj.canPxeCount c) + 1) % 2 ^ 32 ∧
      t.Raised s.now (528 + 16 * c + 9) (t.ob (Obj.canPxeCount c)) ∧
      Signals [Obj.canPxeCount c, Obj.canState c, Obj.canFlags c] s t := by
  intro u t
  have channel : t.canCh c = { s.canCh c with exception := true } := canCh_setCan_same ..
  have stopped : (t.canCh c).exception = true := by rw [channel]
  have count : t.ob (Obj.canPxeCount c) = u.ob (Obj.canPxeCount c) :=
    ob_canShow (k := Obj.canPxeCount c) _ (key_ne_of_sub _ _ (by decide)) (key_ne_of_sub _ _ (by decide))
  refine ⟨stopped, canActive_of_exception stopped, count.trans (ob_setOb_same ..), ?_,
    .canShow (.canPost (.bump (.setCan (.refl _ s)) (by simp))) (by simp) (by simp)⟩
  rw [count]
  exact raised_post u (528 + 16 * c + 9) (u.ob (Obj.canPxeCount c))

theorem exec_protocolExceptionEnd {c : Fin 8} {s : State} (stopped : (s.canCh c).exception = true) :
    exec (.protocolExceptionEnd c) s = .next ((s.setCan c { s.canCh c with exception := false }).canShow c) :=
  congrArg Host.Outcome.next (if_pos stopped)

/-- A channel changed and shown. -/
theorem channelShown (s : State) (c : Nat) (x : CanChannel) : ((s.setCan c x).canShow c).canCh c = x ∧
    (s.setCan c x).canShow c = { s with obj := ((s.setCan c x).canShow c).obj, can := ((s.setCan c x).canShow c).can } ∧
    s.ObjectsBut ((s.setCan c x).canShow c) [Obj.canState c, Obj.canFlags c] := by
  have signals : Signals [Obj.canState c, Obj.canFlags c] s ((s.setCan c x).canShow c) :=
    .canShow (.setCan (.refl _ s)) (by simp) (by simp)
  exact ⟨canCh_setCan_same .., rfl, signals.objects⟩

theorem exec_transceiverFault {c : Fin 8} {cause : Fin 4} {s : State} (runs : s.canRuns c = true) (some_ : cause ≠ 0)
    (known : c.val < 4 ∨ cause = 2) (sound : (s.canCh c).fault = 0) : exec (.transceiverFault c cause) s =
      .next ((((s.setCan c { s.canCh c with fault := cause }).canShow c).canPost c 13 cause).nmWatch c) := by
  have known : c.val < 4 ∨ cause.val = 2 := known.imp_right fun h => congrArg Fin.val h
  refine congrArg Host.Outcome.next (if_pos ?_)
  have stands : (cause : Nat) ≠ 0 := Fin.val_ne_of_ne some_
  rw [runs, sound, decide_eq_true stands]
  simpa using known

theorem faultStands {s : State} {c : Fin 8} (quiet : s.nmOf c = false) (runs : s.canRuns c = true) {cause : Fin 4} (some_ : cause ≠ 0) :
    let t := (((s.setCan c { s.canCh c with fault := cause }).canShow c).canPost c 13 cause).nmWatch c
    t.canCh c = { s.canCh c with fault := cause } ∧ t.canActive c = false ∧ t.Raised s.now (528 + 16 * c + 13) cause ∧
      t.ob (Obj.canState c) = 7 ∧ t = { s with obj := t.obj, fab := t.fab, can := t.can } ∧
      s.ObjectsBut t [Obj.canState c, Obj.canFlags c] := by
  let u := s.setCan c { s.canCh c with fault := cause }
  have signals : Signals [Obj.canState c, Obj.canFlags c] s ((u.canShow c).canPost c 13 cause) :=
    .canPost (.canShow (.setCan (.refl _ s)) (by simp) (by simp))
  have still_ : ((u.canShow c).canPost c 13 cause).nmWatch c = (u.canShow c).canPost c 13 cause :=
    nmWatch_of_quiet ((signals.nmOf_ c).trans quiet)
  have channel : u.canCh c = { s.canCh c with fault := cause } := canCh_setCan_same ..
  have fault : (u.canCh c).fault ≠ 0 := by
    rw [channel]
    exact Fin.val_ne_of_ne some_
  have running : u.canRuns c = true := runs
  have shown : ((u.canShow c).canPost c 13 cause).ob (Obj.canState c) = 7 := by
    refine (ob_setOb_other _ _ (key_ne_of_sub _ _ (by decide))).trans ((ob_setOb_same ..).trans ?_)
    rw [running, if_neg (by decide), if_pos fault]
  intro t
  rw [show t = (u.canShow c).canPost c 13 cause from still_]
  exact ⟨channel, canActive_of_fault (s := (u.canShow c).canPost c 13 cause) fault, raised_post (u.canShow c) (528 + 16 * c + 13) cause,
    shown, signals.shown, signals.objects⟩

theorem exec_transceiverFaultCleared {c : Fin 8} {temp : Int} {s : State} (fault : (s.canCh c).fault ≠ 0)
    (cool : (s.canCh c).fault = 3 → temp < 150) :
    exec (.transceiverFaultCleared c temp) s = .next ((s.setCan c { s.canCh c with fault := 0 }).canShow c) := by
  refine congrArg Host.Outcome.next (if_pos ?_)
  by_cases hot : (s.canCh c).fault = 3
  · simp [fault, cool hot]
  · simp [fault, hot]

theorem exec_canBusJoin {c : Fin 8} {s : State} (quiet : s.nmOf c = false) (runs : s.canRuns c = true) (away : (s.canCh c).joinedAt = none) :
    exec (.canBusJoin c) s = .next (((s.setCan c { s.canCh c with joinedAt := some s.now }).canShow c).canPost c 14 0) := by
  refine congrArg Host.Outcome.next ((if_pos (by rw [runs, away]; rfl)).trans ?_)
  have still_ : Signals [Obj.canState c, Obj.canFlags c] s
      (((s.setCan c { s.canCh c with joinedAt := some s.now }).canShow c).canPost c 14 0) :=
    .canPost (.canShow (.setCan (.refl _ s)) (by simp) (by simp))
  exact if_neg (by rw [still_.nmOf_, quiet]; decide)

/-- The channel runs again from now, its counters 0. -/
def rejoined (s : State) (c : Nat) : State :=
  ((s.setCan c { s.canCh c with busOffAt := none, recovering := false, joinedAt := some s.now }).setOb
    (Obj.canTec c) 0).setOb (Obj.canRec c) 0

theorem signals_rejoined (s : State) (c : Nat) :
    Signals [Obj.canTec c, Obj.canRec c, Obj.canState c, Obj.canFlags c] s (s.rejoined c) :=
  .setOb (.setOb (.setCan (.refl _ s)) (by simp)) (by simp)

theorem exec_busOffRecovery {c : Fin 8} {s : State} {u : Tick} (off : (s.canCh c).busOffAt = some u) (runs : s.canRuns c = true)
    (due : (s.canCh c).recovering = true ∨
      (s.cf (Obj.canBusoffMode c) = 0 ∧ s.passed u (ms (s.cf (Obj.canBusoffDelay c))) = true)) :
    exec (.busOffRecovery c) s = .next (((s.rejoined c).canPost c 1 0).canShow c) := by
  show execBusOffRecovery c s = _
  unfold execBusOffRecovery
  dsimp only
  rw [off]
  exact congrArg Host.Outcome.next (if_pos (by rw [runs]; simpa using due))

/-- A channel that has recovered from bus-off (R327). -/
theorem recovered (s : State) (c : Nat) :
    let t := ((s.rejoined c).canPost c 1 0).canShow c
    (t.canCh c).busOffAt = none ∧ (t.canCh c).joinedAt = some s.now ∧ t.ob (Obj.canTec c) = 0 ∧ t.ob (Obj.canRec c) = 0 ∧
      t.Raised s.now (528 + 16 * c + 1) 0 ∧ Signals [Obj.canTec c, Obj.canRec c, Obj.canState c, Obj.canFlags c] s t := by
  intro t
  have channel : t.canCh c = { s.canCh c with busOffAt := none, recovering := false, joinedAt := some s.now } := canCh_setCan_same ..
  have shows_ {k : Nat} (state : Obj.canState c ≠ k) (flags : Obj.canFlags c ≠ k) : t.ob k = (s.rejoined c).ob k :=
    ob_canShow _ state flags
  have raised : ((s.rejoined c).canPost c 1 0).Raised s.now (528 + 16 * c + 1) 0 := raised_post ..
  have showing : Signals [Obj.canState c, Obj.canFlags c] ((s.rejoined c).canPost c 1 0) t :=
    .canShow (.refl _ _) (by simp) (by simp)
  refine ⟨congrArg CanChannel.busOffAt channel, congrArg CanChannel.joinedAt channel, ?_, ?_,
    showing.raised raised, .canShow (.canPost (signals_rejoined s c)) (by simp) (by simp)⟩
  · rw [shows_ (k := Obj.canTec c) (key_ne_of_sub _ _ (by decide)) (key_ne_of_sub _ _ (by decide))]
    exact (ob_setOb_other _ _ (key_ne_of_sub _ _ (by decide))).trans (ob_setOb_same ..)
  · rw [shows_ (k := Obj.canRec c) (key_ne_of_sub _ _ (by decide)) (key_ne_of_sub _ _ (by decide))]
    exact ob_setOb_same ..

end State
end Sys2Proof.Machine

namespace Sys2Proof.Machine
namespace State

theorem joins {s : State} {c : Fin 8} (quiet : s.nmOf c = false) (runs : s.canRuns c = true) (away : (s.canCh c).joinedAt = none) :
    ∃ t, exec (.canBusJoin c) s = .next t ∧ t.canCh c = { s.canCh c with joinedAt := some s.now } ∧
      t.Raised s.now (528 + 16 * c + 14) 0 ∧ t = { s with obj := t.obj, fab := t.fab, can := t.can } ∧
      s.ObjectsBut t [Obj.canState c, Obj.canFlags c] := by
  let u := (s.setCan c { s.canCh c with joinedAt := some s.now }).canShow c
  have signals : Signals [Obj.canState c, Obj.canFlags c] s (u.canPost c 14 0) :=
    .canPost (.canShow (.setCan (.refl _ s)) (by simp) (by simp))
  have raised : (u.canPost c 14 0).Raised s.now (528 + 16 * c + 14) 0 := raised_post u ..
  exact ⟨_, exec_canBusJoin quiet runs away, canCh_setCan_same .., raised, signals.shown, signals.objects⟩

/-! ## CAN_CMD and the attempts of a channel that is alone (R327, R328, R332) -/

section
variable {s : State} {h : Nat} {x : Session} (sv : s.Serves h .service x) (c : Fin 8)
include sv

theorem exec_recoverFromBusOff : exec (.recoverFromBusOff h c) s = (s.asked x).finish ((s.asked x).doCanCmd c 1) := by
  show execRecoverFromBusOff h c s = _
  exact request_serves sv _ _

theorem exec_discardPendingFrames : exec (.discardPendingFrames h c) s = (s.asked x).finish ((s.asked x).doCanCmd c 2) := by
  show execDiscardPendingFrames h c s = _
  exact request_serves sv _ _

theorem exec_oneAttemptNow : exec (.oneAttemptNow h c) s = (s.asked x).finish ((s.asked x).doCanCmd c 3) := by
  show execOneAttemptNow h c s = _
  exact request_serves sv _ _

theorem recovery_begins (off : (s.canCh c).busOffAt ≠ none) :
    ∃ t, exec (.recoverFromBusOff h c) s = .next t ∧ t.canCh c = { s.canCh c with recovering := true } ∧
      t = { s.served x with obj := t.obj, can := t.can } ∧ s.ObjectsBut t [Obj.canState c, Obj.canFlags c] := by
  obtain ⟨channel, -, objects⟩ := channelShown (s.asked x) c { s.canCh c with recovering := true }
  exact ⟨_, (exec_recoverFromBusOff sv c).trans (finish_done (check_ok (Option.isSome_iff_ne_none.mpr off) _ _) rfl), channel, rfl, objects⟩

theorem recovery_refused (on : (s.canCh c).busOffAt = none) :
    exec (.recoverFromBusOff h c) s = .next { s.asked x with reply := { status := .valueRange } } := by
  have refused : (s.asked x).doCanCmd c 1 = .error .valueRange := check_error (congrArg Option.isSome on) _ _
  rw [exec_recoverFromBusOff sv c, refused, finish_error]

theorem attempt_now (alone : (s.canCh c).aloneSince ≠ none) :
    ∃ t, exec (.oneAttemptNow h c) s = .next t ∧
      t.canCh c = { s.canCh c with attempt := (s.inTurn c).map (fun f => f.src), lastTry := s.now } ∧
      t = { s.served x with can := t.can } := by
  have channel := canCh_setCan_same s c { s.canCh c with attempt := (s.inTurn c).map (fun f => f.src), lastTry := s.now }
  exact ⟨_, (exec_oneAttemptNow sv c).trans (finish_done (check_ok (Option.isSome_iff_ne_none.mpr alone) _ _) rfl), channel, rfl⟩

theorem attempt_refused (joined : (s.canCh c).aloneSince = none) :
    exec (.oneAttemptNow h c) s = .next { s.asked x with reply := { status := .configInvalid } } := by
  have refused : (s.asked x).doCanCmd c 3 = .error .configInvalid := check_error (congrArg Option.isSome joined) _ _
  rw [exec_oneAttemptNow sv c, refused, finish_error]

end

/-- The frames of a channel are gone, and so are its notices; only message objects follow. -/
theorem pending_discarded (s : State) (c : Nat) : ((s.canDiscard c).canCh c).pend = [] ∧ (s.canDiscard c).fab.canNotices.read [] c = [] ∧
    s.canDiscard c = { s with can := (s.canDiscard c).can, mo := (s.canDiscard c).mo, fab := (s.canDiscard c).fab } := by
  let u := s.setCan c { s.canCh c with pend := [], attempt := none }
  let v : State := { u with fab := { u.fab with canNotices := u.fab.canNotices.erase c } }
  obtain ⟨members, eq⟩ : ∃ os, s.canDiscard c = forEach os (fun s o => s.showPending c o) v := ⟨_, rfl⟩
  have stays : s.canDiscard c = { v with mo := (s.canDiscard c).mo } := by
    rw [eq]
    exact forEach_keeps (P := fun t : State => t = { v with mo := t.mo }) (fun t o h => by rw [h]; rfl) members rfl
  have can : (s.canDiscard c).can = u.can := by rw [stays]
  have fab : (s.canDiscard c).fab = v.fab := by rw [stays]
  have channel : (s.canDiscard c).canCh c = { s.canCh c with pend := [], attempt := none } :=
    (congrArg (fun t : Table CanChannel => t.read {} c) can).trans (canCh_setCan_same s c _)
  refine ⟨by rw [channel], ?_, by rw [stays]; rfl⟩
  rw [fab]
  exact congrArg (fun o : Option (List Occ) => o.getD []) (Table.get?_erase_same ..)

theorem frames_discarded {s : State} {h : Nat} {x : Session} (sv : s.Serves h .service x) (c : Fin 8) :
    ∃ t, exec (.discardPendingFrames h c) s = .next t ∧ (t.canCh c).pend = [] ∧ t.fab.canNotices.read [] c = [] ∧
      t = { s.served x with can := t.can, mo := t.mo, fab := t.fab } := by
  obtain ⟨pend, notices, frame⟩ := pending_discarded (s.asked x) c
  have silent : ((s.asked x).canDiscard c).reply = {} := by rw [frame]; rfl
  refine ⟨_, (exec_discardPendingFrames sv c).trans (finish_done (a := .ok ((s.asked x).canDiscard c)) rfl silent), pend, notices, ?_⟩
  generalize (s.asked x).canDiscard c = t at frame
  rw [frame]
  rfl

theorem exec_aloneRetry {c : Fin 8} {s : State} (active : s.canActive c = true) (alone : (s.canCh c).aloneSince ≠ none)
    (due : s.passed (s.canCh c).lastTry (ms (s.cf (Obj.canAloneRetry c))) = true) : exec (.aloneRetry c) s =
      .next (s.setCan c { s.canCh c with attempt := (s.inTurn c).map (fun f => f.src), lastTry := s.now }) := by
  refine congrArg Host.Outcome.next (if_pos ?_)
  rw [active, due, Option.isSome_iff_ne_none.mpr alone]
  rfl

end State
end Sys2Proof.Machine

namespace Sys2Proof.Machine
namespace State

/-! ## J1939 address claims (R329) -/

/-- The objects that a claim moves. -/
def claimObjects (c : Nat) : List Nat := [Obj.j1939ClaimState c, Obj.j1939ClaimedAddr c]

/-- A frame put last is pending. -/
theorem mem_pend_canEnqueue (s : State) (c : Nat) (f : CanPending) : f ∈ ((s.canEnqueue c f).canCh c).pend := by
  show f ∈ ((s.setCan c { s.canCh c with pend := (s.canCh c).pend ++ [f] }).canCh c).pend
  rw [canCh_setCan_same]
  simp

theorem canCh_canEnqueue (s : State) (c : Nat) (f : CanPending) :
    (s.canEnqueue c f).canCh c = { s.canCh c with pend := (s.canCh c).pend ++ [f] } := canCh_setCan_same ..

theorem canCh_canUnpend (s : State) (c : Nat) (src : CanSource) :
    (s.canUnpend c src).canCh c = { s.canCh c with pend := (s.canCh c).pend.filter (fun f => f.src ≠ src) } := canCh_setCan_same ..

namespace Signals
variable {own : List Nat} {s t : State} {c : Nat}
theorem canEnqueue {f : CanPending} (h : Signals own s t) : Signals own s (t.canEnqueue c f) := h.setCan
theorem canUnpend {src : CanSource} (h : Signals own s t) : Signals own s (t.canUnpend c src) := h.setCan
end Signals

/-- A claim stands for an address: its state, the address shown and the address claimed. -/
def claims (s : State) (c state shown a : Nat) : State :=
  (((s.canUnpend c .claim).setCan c { (s.canUnpend c .claim).canCh c with claimAddr := a, claimSent := none }).setOb
    (Obj.j1939ClaimState c) state).setOb (Obj.j1939ClaimedAddr c) shown

theorem signals_claims (s : State) (c state shown a : Nat) : Signals (claimObjects c) s (s.claims c state shown a) :=
  .setOb (.setOb (.setCan (.canUnpend (.refl _ s))) (by simp [claimObjects])) (by simp [claimObjects])

theorem claims_stand (s : State) (c state shown a : Nat) : (s.claims c state shown a).ob (Obj.j1939ClaimState c) = state ∧
    (s.claims c state shown a).ob (Obj.j1939ClaimedAddr c) = shown ∧ ((s.claims c state shown a).canCh c).claimAddr = a ∧
    ((s.claims c state shown a).canCh c).names = (s.canCh c).names := by
  have channel : (s.claims c state shown a).canCh c = { (s.canUnpend c .claim).canCh c with claimAddr := a, claimSent := none } :=
    canCh_setCan_same ..
  refine ⟨(ob_setOb_other _ _ (key_ne_of_sub _ _ (by decide))).trans (ob_setOb_same ..), ob_setOb_same .., by rw [channel], ?_⟩
  rw [channel]
  show ((s.canUnpend c .claim).canCh c).names = _
  rw [canCh_canUnpend]

theorem claimFrame_of {s t : State} (cfg : ∀ k, t.cf k = s.cf k) (now : t.now = s.now) (c a : Nat) :
    t.claimFrame c a = s.claimFrame c a := by
  unfold claimFrame
  rw [cfg, now]

theorem claimAddress_eq (s : State) (c a : Nat) :
    s.claimAddress c a = (s.claims c 1 255 a).canEnqueue c (s.claimFrame c a) := rfl

theorem cannotClaim_eq (s : State) (c : Nat) :
    s.cannotClaim c = ((s.claims c 3 254 254).canEnqueue c (s.claimFrame c 254)).canPost c 12 254 := rfl

theorem exec_j1939Claim {c : Fin 8} {s : State} (enabled : s.cf (Obj.j1939Enable c) = 1) (active : s.canActive c = true)
    (talks : s.canListens c = false) (fresh : s.ob (Obj.j1939ClaimState c) = 0) :
    exec (.j1939Claim c) s = .next (s.claimAddress c (s.cf (Obj.j1939PrefAddr c))) := by
  refine congrArg Host.Outcome.next (if_pos ?_)
  rw [enabled, active, talks, fresh]
  rfl

theorem addressClaimed (s : State) (c a : Nat) :
    let t := s.claimAddress c a
    t.ob (Obj.j1939ClaimState c) = 1 ∧ t.ob (Obj.j1939ClaimedAddr c) = 255 ∧ (t.canCh c).claimAddr = a ∧
      s.claimFrame c a ∈ (t.canCh c).pend ∧ (t.canCh c).names = (s.canCh c).names ∧
      t = { s with obj := t.obj, can := t.can } ∧ Signals (claimObjects c) s t := by
  obtain ⟨state, shown, addr, names⟩ := claims_stand s c 1 255 a
  have signals := signals_claims s c 1 255 a
  have frame := signals.shown
  rw [show (s.claims c 1 255 a).fab = s.fab from rfl] at frame
  intro t
  rw [show t = _ from claimAddress_eq s c a]
  generalize s.claims c 1 255 a = b at *
  generalize s.claimFrame c a = f
  have channel := canCh_canEnqueue b c f
  refine ⟨state, shown, ?_, mem_pend_canEnqueue b c f, ?_, ?_, .canEnqueue signals⟩
  · exact (congrArg CanChannel.claimAddr channel).trans addr
  · exact (congrArg CanChannel.names channel).trans names
  · show { b with can := (b.canEnqueue c f).can } = _
    rw [frame]
    rfl

theorem claimFailed (s : State) (c : Nat) :
    let t := s.cannotClaim c
    t.ob (Obj.j1939ClaimState c) = 3 ∧ t.ob (Obj.j1939ClaimedAddr c) = 254 ∧ s.claimFrame c 254 ∈ (t.canCh c).pend ∧
      t.Raised s.now (528 + 16 * c + 12) 254 ∧ (t.canCh c).names = (s.canCh c).names ∧ Signals (claimObjects c) s t := by
  obtain ⟨state, shown, -, names⟩ := claims_stand s c 3 254 254
  have signals := signals_claims s c 3 254 254
  have now : (s.claims c 3 254 254).now = s.now := signals.now_
  intro t
  rw [show t = _ from cannotClaim_eq s c, ← now]
  generalize s.claims c 3 254 254 = b at *
  generalize s.claimFrame c 254 = f
  have channel := canCh_canEnqueue b c f
  refine ⟨state, shown, mem_pend_canEnqueue b c f, raised_post (b.canEnqueue c f) (528 + 16 * c + 12) 254, ?_,
    .canPost (.canEnqueue signals)⟩
  exact (congrArg CanChannel.names channel).trans names

theorem enabled_active {c : Fin 8} {s : State} (enabled : s.cf (Obj.j1939Enable c) = 1) (active : s.canActive c = true) :
    (decide (s.cf (Obj.j1939Enable c) = 1) && s.canActive c) = true := by
  rw [active, decide_eq_true enabled]
  rfl

theorem exec_j1939ContendingClaim {c : Fin 8} {s : State} (enabled : s.cf (Obj.j1939Enable c) = 1) (active : s.canActive c = true)
    (sa : BitVec 8) (name : BitVec 64) : exec (.j1939ContendingClaim c sa name) s =
      if s.coresRun then .next (s.contend c sa.toNat name.toNat)
      else .next ((s.setCan c { s.canCh c with contending := some (sa.toNat, name.toNat) }).placeVotes 4 1) := by
  refine if_neg ?_
  rw [enabled_active enabled active]
  decide

/-- The NAME heard for an address is remembered. -/
def hears (s : State) (c sa name : Nat) : State :=
  s.setCan c { s.canCh c with names := (s.canCh c).names.put sa name, contending := none }

theorem names_hears (s : State) (c sa name : Nat) : ((s.hears c sa name).canCh c).names.get? sa = some name := by
  unfold hears
  rw [canCh_setCan_same]
  exact Table.get?_put_same ..

theorem claimFrame_hears (s : State) (c sa name a : Nat) : (s.hears c sa name).claimFrame c a = s.claimFrame c a :=
  claimFrame_of (fun _ => rfl) rfl c a

theorem contend_eq {s : State} {c sa name : Nat} (claimed : s.ob (Obj.j1939ClaimState c) = 1 ∨ s.ob (Obj.j1939ClaimState c) = 2)
    (mine : (s.canCh c).claimAddr = sa) : s.contend c sa name =
      if s.cf (Obj.j1939Name c) < name then ((s.hears c sa name).canUnpend c .claim).canEnqueue c ((s.hears c sa name).claimFrame c sa)
      else if s.cf (Obj.j1939Name c) = name then s.hears c sa name
      else if bitAt (s.cf (Obj.j1939Name c)) 63 then match (s.hears c sa name).nextAddress c sa with
        | some a => (s.hears c sa name).claimAddress c a
        | none => (s.hears c sa name).cannotClaim c
      else (s.hears c sa name).cannotClaim c := by
  refine if_neg ?_
  show ¬ (!((decide (s.ob (Obj.j1939ClaimState c) = 1) || decide (s.ob (Obj.j1939ClaimState c) = 2)) &&
    decide ((s.canCh c).claimAddr = sa))) = true
  rcases claimed with one | two <;> simp [*]

/-- Every way a contending claim can end keeps the NAME and moves only the channel's claim. -/
theorem contended {s : State} {c sa name : Nat} (claimed : s.ob (Obj.j1939ClaimState c) = 1 ∨ s.ob (Obj.j1939ClaimState c) = 2)
    (mine : (s.canCh c).claimAddr = sa) : ((s.contend c sa name).canCh c).names.get? sa = some name ∧
      Signals (claimObjects c) s (s.contend c sa name) := by
  have hears : Signals (claimObjects c) s (s.hears c sa name) := .setCan (.refl _ s)
  have names := names_hears s c sa name
  have kept {t : State} (same : (t.canCh c).names = ((s.hears c sa name).canCh c).names)
      (signals : Signals (claimObjects c) (s.hears c sa name) t) :
      (t.canCh c).names.get? sa = some name ∧ Signals (claimObjects c) s t := ⟨by rw [same, names], hears.trans signals⟩
  obtain ⟨-, -, -, -, failedNames, failed⟩ := claimFailed (s.hears c sa name) c
  rw [contend_eq claimed mine]
  split
  · refine kept ?_ (.canEnqueue (.canUnpend (.refl _ _)))
    rw [canCh_canEnqueue, canCh_canUnpend]
  split
  · exact kept rfl (.refl _ _)
  split
  · split
    · obtain ⟨-, -, -, -, takenNames, -, taken⟩ := addressClaimed (s.hears c sa name) c ‹Nat›
      exact kept takenNames taken
    · exact kept failedNames failed
  · exact kept failedNames failed

/-- A lower NAME defends its address. -/
theorem defended {s : State} {c sa name : Nat} (claimed : s.ob (Obj.j1939ClaimState c) = 1 ∨ s.ob (Obj.j1939ClaimState c) = 2)
    (mine : (s.canCh c).claimAddr = sa) (lower : s.cf (Obj.j1939Name c) < name) :
    (s.contend c sa name).obj = s.obj ∧ s.claimFrame c sa ∈ ((s.contend c sa name).canCh c).pend := by
  rw [contend_eq claimed mine, if_pos lower]
  have stays (u : State) (x : CanChannel) : (u.setCan c x).obj = u.obj := rfl
  refine ⟨(stays ..).trans ((stays ..).trans (stays ..)), ?_⟩
  rw [claimFrame_hears]
  exact mem_pend_canEnqueue ((s.hears c sa name).canUnpend c .claim) c _

/-- A higher NAME that may not choose another address cannot claim. -/
theorem lost {s : State} {c sa name : Nat} (claimed : s.ob (Obj.j1939ClaimState c) = 1 ∨ s.ob (Obj.j1939ClaimState c) = 2)
    (mine : (s.canCh c).claimAddr = sa) (higher : name < s.cf (Obj.j1939Name c)) (fixed : bitAt (s.cf (Obj.j1939Name c)) 63 = false) :
    let t := s.contend c sa name
    t.ob (Obj.j1939ClaimState c) = 3 ∧ t.ob (Obj.j1939ClaimedAddr c) = 254 ∧ s.claimFrame c 254 ∈ (t.canCh c).pend ∧
      t.Raised s.now (528 + 16 * c + 12) 254 := by
  obtain ⟨state, shown, frame, raised, -, -⟩ := claimFailed (s.hears c sa name) c
  have is : s.contend c sa name = (s.hears c sa name).cannotClaim c := by
    rw [contend_eq claimed mine, if_neg (by omega), if_neg (by omega), if_neg (by rw [fixed]; decide)]
  intro t
  rw [show t = (s.hears c sa name).cannotClaim c from is, ← claimFrame_hears s c sa name]
  exact ⟨state, shown, frame, raised⟩

theorem exec_j1939RequestClaimed {c : Fin 8} {s : State} (enabled : s.cf (Obj.j1939Enable c) = 1) (active : s.canActive c = true)
    (claimed : s.ob (Obj.j1939ClaimState c) = 2 ∨ s.ob (Obj.j1939ClaimState c) = 3) :
    exec (.j1939RequestClaimed c) s = .next (s.canEnqueue c (s.claimFrame c (s.canCh c).claimAddr)) := by
  refine congrArg Host.Outcome.next (if_pos ?_)
  rw [enabled_active enabled active]
  simpa using claimed

theorem claimStands {c : Fin 8} {s : State} {u : Tick} (sent : (s.canCh c).claimSent = some u)
    (claiming : s.ob (Obj.j1939ClaimState c) = 1) (due : s.passed u (ms 250) = true) :
    ∃ t, exec (.j1939ClaimWait c) s = .next t ∧ t.ob (Obj.j1939ClaimState c) = 2 ∧
      t.ob (Obj.j1939ClaimedAddr c) = (s.canCh c).claimAddr ∧ t.Raised s.now (528 + 16 * c + 11) ((s.canCh c).claimAddr) ∧
      t = { s with obj := t.obj, fab := t.fab } ∧ s.ObjectsBut t [Obj.j1939ClaimState c, Obj.j1939ClaimedAddr c] := by
  let v := (s.setOb (Obj.j1939ClaimState c) 2).setOb (Obj.j1939ClaimedAddr c) (s.canCh c).claimAddr
  have done : exec (.j1939ClaimWait c) s = .next (v.canPost c 11 (s.canCh c).claimAddr) := by
    show execJ1939ClaimWait c s = _
    unfold execJ1939ClaimWait
    dsimp only
    rw [sent]
    exact congrArg Host.Outcome.next (if_pos (by rw [claiming, due]; rfl))
  have signals : Signals [Obj.j1939ClaimState c, Obj.j1939ClaimedAddr c] s (v.canPost c 11 (s.canCh c).claimAddr) :=
    .canPost (.setOb (.setOb (.refl _ s) (by simp)) (by simp))
  exact ⟨_, done, (ob_setOb_other _ _ (key_ne_of_sub _ _ (by decide))).trans (ob_setOb_same ..), ob_setOb_same ..,
    raised_post v .., rfl, signals.objects⟩

end State
end Sys2Proof.Machine

namespace Sys2Proof.Machine

open State in
/-- Settles O49: a frame received, written, sent, in error or claimed moves its channel's counters, message objects, pending frames
and claim as its own rule says, and tells of it. -/
theorem canFramesAndErrorsDoAsStated : Obligations.CanFramesAndErrorsDoAsStated := by
  unfold Obligations.CanFramesAndErrorsDoAsStated
  refine ⟨⟨fun c f s active fd => ?_, fun h o off data s x sv => ?_, fun o s => ?_, fun c s => ?_⟩, fun c s quiet => ?_⟩
  · have valid := exec_canFrameReceived active fd 0
    refine ⟨fun rtr => ?_, fun o data matches_ => ?_, fun data free map server queued room => ?_, fun error wrong => ?_⟩
    · obtain ⟨count, signals⟩ := remoteReceived (c := c) (s := s)
      exact ⟨_, valid.trans (by rw [rtr]; rfl), count, signals.shown, signals.objects⟩
    · obtain ⟨count, content, others, raised, frame, objects⟩ := dataReceived matches_
      obtain ⟨new, lost, timeout⟩ := boxed_state s o f
      exact ⟨_, valid.trans (by rw [data]; rfl), count, congrArg MoData.data content, congrArg MoData.dlc content,
        congrArg MoData.ts content, congrArg MoData.count content, by rw [content, new], by rw [content, lost],
        by rw [content, timeout], raised, others, frame, objects⟩
    · obtain ⟨count, strays, frame⟩ := strayTaken free map server queued room
      exact ⟨_, valid.trans (by rw [data]; rfl), count, strays, frame⟩
    · obtain ⟨last, count, rec_, signals⟩ := badlyReceived s c error
      exact ⟨_, (exec_canFrameReceived active fd error).trans (congrArg Host.Outcome.next (if_pos (Fin.val_ne_of_ne wrong))),
        last, count, rec_, signals.shown⟩
  · refine ⟨moWrite_taken sv, moWrite_misaligned sv, fun aligned length whole => ?_⟩
    exact ⟨_, moRead_whole sv aligned whole, rfl, moOf_setMo_same s o _, fun p other => moOf_setMo_other s _ other, rfl⟩
  · refine ⟨fun due passes => ⟨_, exec_txPeriod due false, periodSent passes⟩, fun u heard receives timed fresh past => ?_⟩
    exact ⟨_, exec_rxObjectTimeout heard receives timed fresh past, moTimedOut s o u⟩
  · refine ⟨fun idle => ?_, fun f o bus src quiet => ?_, fun timed joined => ⟨_, rfl, expired timed joined⟩,
      fun o rest waits active talks joined turn => ?_, fun h n x sv => ⟨fun most => strayAck_taken sv most.1 most.2, strayAck_refused sv⟩⟩
    · show execCanTransmissionDone c s = _
      unfold execCanTransmissionDone
      dsimp only
      rw [idle]
    · obtain ⟨g, sent⟩ := objectFrameSent (s := s) (c := c) src
      exact ⟨_, g, exec_canTransmissionDone bus src quiet, sent⟩
    · let u : State := { s with fab := { s.fab with canNotices := s.fab.canNotices.write [] c rest } }
      obtain ⟨notices, ⟨g, sent, source, id⟩, frames, signals⟩ := noticeSent (s := u) (c := c) (f := s.canNoticeFrame c o) rfl
      refine ⟨_, g, exec_canNoticeSend waits active talks joined turn, ?_, sent, source, id, frames, ?_, signals.objects⟩
      · rw [notices]
        exact Table.read_write_same ..
      · exact signals.shown
  · refine ⟨fun f error bus => ⟨fun none_ => ?_, fun wrong => ?_⟩, fun active mode => ⟨fun enabled => ?_, fun disabled three => ?_⟩,
      fun stopped => ?_, fun cause runs some_ known sound => ⟨_, exec_transceiverFault runs some_ known sound, faultStands quiet runs some_⟩,
      fun temp fault cool => ?_, joins quiet, fun u off runs due => ?_, fun h x sv => ?_, exec_aloneRetry, fun enabled active => ?_,
      fun u sent claiming due => claimStands sent claiming due⟩
    · rw [exec_canTxError bus, none_]
      exact congrArg Host.Outcome.next (nmWatch_of_quiet quiet)
    · obtain ⟨frames, last, signals, tec, off, alone⟩ := frameFailed_stands s c (Fin.val_ne_of_ne wrong)
      have ends := nmWatch_of_quiet ((signals.nmOf_ c).trans quiet)
      exact ⟨_, (exec_canTxError bus error).trans (congrArg Host.Outcome.next ends), frames, last, signals.shown,
        fun other => tec (Fin.val_ne_of_ne other), fun other => off (Fin.val_ne_of_ne other), fun ack => alone (congrArg Fin.val ack)⟩
    · obtain ⟨stopped, inactive, count, raised, signals⟩ := exceptionBegins s c
      exact ⟨_, (exec_protocolException active mode).trans (if_pos enabled), stopped, inactive, count, raised, signals.shown, signals.objects⟩
    · refine (exec_protocolException active mode).trans ((if_neg disabled).trans (congrArg Host.Outcome.next (if_neg ?_)))
      omega
    · exact ⟨_, exec_protocolExceptionEnd stopped, channelShown s c _⟩
    · exact ⟨_, exec_transceiverFaultCleared fault cool, channelShown s c _⟩
    · obtain ⟨on, joined, tec, rec_, raised, signals⟩ := recovered s c
      exact ⟨_, exec_busOffRecovery off runs due, on, joined, tec, rec_, raised, signals.shown, signals.objects⟩
    · exact ⟨recovery_begins sv c, recovery_refused sv c, frames_discarded sv c, attempt_now sv c, attempt_refused sv c⟩
    · refine ⟨fun talks fresh => ?_, fun sa name => ⟨fun asleep => ?_, fun awake claimed mine => ?_⟩, exec_j1939RequestClaimed enabled active⟩
      · obtain ⟨state, shown, addr, frame, -, same, signals⟩ := addressClaimed s c (s.cf (Obj.j1939PrefAddr c))
        exact ⟨_, exec_j1939Claim enabled active talks fresh, state, shown, addr, frame, same, signals.objects⟩
      · exact (exec_j1939ContendingClaim enabled active sa name).trans (if_neg (by rw [asleep]; decide))
      · obtain ⟨names, signals⟩ := contended (name := name.toNat) claimed mine
        exact ⟨_, (exec_j1939ContendingClaim enabled active sa name).trans (if_pos awake), names, signals.shown, signals.objects,
          defended claimed mine, lost claimed mine⟩

end Sys2Proof.Machine

/-!
The consent ring (R334–R344): what a message, a state and a wake make of the ring, and what they leave alone.
-/

namespace Sys2Proof.Machine
namespace State

/-! ## What the ring leaves alone -/

/-- `t` is `s` after the ring has spoken: its own record but for its nodes, channels, objects of a list and the events under way have
changed, and no event has been taken back. -/
structure Talks (own : List Nat) (s t : State) : Prop where
  frame : t = { s with obj := t.obj, ring := t.ring, can := t.can, fab := { s.fab with inFlight := t.fab.inFlight } }
  objects : s.ObjectsBut t own
  nodes : t.ring.nodes = s.ring.nodes
  told : s.fab.inFlight ⊆ t.fab.inFlight

namespace Talks

variable {own : List Nat} {s t u : State}

theorem refl (own : List Nat) (s : State) : Talks own s s := ⟨rfl, objectsBut_refl s _, rfl, fun _ h => h⟩

theorem trans (h : Talks own s t) (k : Talks own t u) : Talks own s u where
  frame := by rw [k.frame, h.frame]
  objects j hj := (k.objects j hj).trans (h.objects j hj)
  nodes := k.nodes.trans h.nodes
  told _ is := k.told (h.told is)

theorem setOb {k v : Nat} (h : Talks own s t) (mem : k ∈ own) : Talks own s (t.setOb k v) :=
  h.trans ⟨rfl, objectsBut_setOb (objectsBut_refl t _) mem v, rfl, fun _ h => h⟩
theorem setCan {c : Nat} {x : CanChannel} (h : Talks own s t) : Talks own s (t.setCan c x) :=
  h.trans ⟨rfl, objectsBut_refl t _, rfl, fun _ h => h⟩
theorem canUnpend {c : Nat} {src : CanSource} (h : Talks own s t) : Talks own s (t.canUnpend c src) := h.setCan
theorem canEnqueue {c : Nat} {f : CanPending} (h : Talks own s t) : Talks own s (t.canEnqueue c f) := h.setCan
theorem post {ev v : Nat} (h : Talks own s t) : Talks own s (t.post ev v) :=
  h.trans ⟨rfl, objectsBut_refl t _, rfl, List.subset_append_left _ _⟩
theorem ite {p : Prop} [Decidable p] (h : Talks own s t) (k : Talks own s u) : Talks own s (if p then t else u) := by
  split
  · exact h
  · exact k
theorem postIf {c : Bool} {ev v : Nat} (h : Talks own s t) : Talks own s (t.postIf c ev v) := .ite h.post h
theorem ringed {r : Ring} (h : Talks own s t) (nodes : r.nodes = t.ring.nodes) : Talks own s { t with ring := r } :=
  h.trans ⟨rfl, objectsBut_refl t _, nodes, fun _ h => h⟩

theorem shown (h : Talks own s t) : t = { s with obj := t.obj, can := t.can, ring := t.ring, fab := t.fab } := by rw [h.frame]
theorem now_ (h : Talks own s t) : t.now = s.now := by rw [h.frame]; rfl
theorem cf_ (h : Talks own s t) (k : Nat) : t.cf k = s.cf k := by rw [h.frame]; rfl
theorem raised (h : Talks own s t) {at_ : Tick} {ev v : Nat} (is : s.Raised at_ ev v) : t.Raised at_ ev v := h.told is

end Talks

/-! ## The unit's own message (R334, R335) -/

/-- The unit's message stands for pending in place of one that waited. -/
theorem nmSend_eq (s : State) (type dest : Nat) (ack resume : Bool) : ∃ f : CanPending,
    f.src = .ring ∧ f.id = s.cf Obj.nmBaseId + s.nmSelf ∧ f.since = s.now ∧ s.nmSend type dest ack resume =
      ((s.setOb Obj.ownReason s.nmReason).canUnpend s.nmChan .ring).canEnqueue s.nmChan f := ⟨_, rfl, rfl, rfl, rfl⟩

/-- A ring message of the unit is pending since now. -/
def RingPends (s t : State) : Prop :=
  ∃ f ∈ (t.canCh s.nmChan).pend, f.src = .ring ∧ f.id = s.cf Obj.nmBaseId + s.nmSelf ∧ f.since = s.now

theorem nmSend_pends (s : State) (type dest : Nat) (ack resume : Bool) : s.RingPends (s.nmSend type dest ack resume) := by
  obtain ⟨f, src, id, since, eq⟩ := nmSend_eq s type dest ack resume
  refine ⟨f, ?_, src, id, since⟩
  rw [eq]
  exact mem_pend_canEnqueue ..

theorem nmSend_frame (s : State) (type dest : Nat) (ack resume : Bool) : s.nmSend type dest ack resume =
    { s with obj := (s.nmSend type dest ack resume).obj, can := (s.nmSend type dest ack resume).can } := by
  obtain ⟨f, -, -, -, eq⟩ := nmSend_eq s type dest ack resume
  rw [eq]
  rfl

theorem Talks.nmSend {own : List Nat} {s t : State} {type dest : Nat} {ack resume : Bool} (h : Talks own s t)
    (reason : Obj.ownReason ∈ own) : Talks own s (t.nmSend type dest ack resume) := by
  obtain ⟨f, -, -, -, eq⟩ := nmSend_eq t type dest ack resume
  rw [eq]
  exact .canEnqueue (.canUnpend (h.setOb reason))

theorem Talks.nmAliveMsg {own : List Nat} {s t : State} (h : Talks own s t) (reason : Obj.ownReason ∈ own) :
    Talks own s t.nmAliveMsg := h.nmSend reason

theorem ob_nmSend (s : State) (type dest : Nat) (ack resume : Bool) {k : Nat} (other : k ≠ Obj.ownReason) :
    (s.nmSend type dest ack resume).ob k = s.ob k :=
  (Talks.nmSend (own := [Obj.ownReason]) (.refl _ s) (by simp)).objects k (by simpa using other)

theorem nmAliveMsg_pends (s : State) : s.RingPends s.nmAliveMsg := nmSend_pends ..

theorem nmAliveMsg_frame (s : State) : s.nmAliveMsg = { s with obj := s.nmAliveMsg.obj, can := s.nmAliveMsg.can } := nmSend_frame ..

/-! ## States of the ring (R338, R339) -/

/-- The objects that the ring's state and the unit's message move. -/
def ringObjects : List Nat := [Obj.nmState, Obj.ownReason]

section
variable {own : List Nat} {s t : State} (h : Talks own s t) (moved : ringObjects ⊆ own)
include h moved

theorem Talks.nmCancel {by_ : Nat} : Talks own s (t.nmCancel by_) :=
  .post (.nmAliveMsg (h.setOb (moved (by simp [ringObjects]))) (moved (by simp [ringObjects])))

theorem Talks.nmPrepare {lap : Nat} : Talks own s (t.nmPrepare lap) :=
  .post (.canUnpend (.setOb (h.ringed rfl) (moved (by simp [ringObjects]))))

theorem Talks.nmForms {type : Nat} : Talks own s (t.nmForms type) :=
  .ite (.post (.setOb (h.ringed rfl) (moved (by simp [ringObjects])))) h

omit moved in
theorem Talks.nmStartLap : Talks own s t.nmStartLap := .ite (h.ringed rfl) h

omit moved in
theorem Talks.hostResumes (reason : Obj.ownReason ∈ own) : Talks own s t.hostResumes := by
  unfold State.hostResumes
  split
  · exact h
  · dsimp only
    split_ifs
    · exact h
    · exact .post (.nmAliveMsg (h.ringed rfl) reason)
    · exact h.ringed rfl
    · exact h.post
    · exact h

end

/-- Sleep is cancelled (R338). -/
theorem nmCancel_cancels (s : State) (by_ : Nat) : (s.nmCancel by_).ob Obj.nmState = 2 ∧ (s.nmCancel by_).Raised s.now 1043 by_ ∧
    s.nmCancel by_ = { s with obj := (s.nmCancel by_).obj, can := (s.nmCancel by_).can, fab := (s.nmCancel by_).fab } ∧
    Talks ringObjects s (s.nmCancel by_) := by
  let u := s.setOb Obj.nmState 2
  have alive : Talks [Obj.ownReason] u u.nmAliveMsg := .nmAliveMsg (.refl _ u) (by simp)
  have now : u.nmAliveMsg.now = s.now := alive.now_
  have talks : Talks ringObjects s (s.nmCancel by_) := .nmCancel (.refl _ s) fun _ h => h
  refine ⟨(alive.objects Obj.nmState (by decide)).trans (ob_setOb_same ..), ?_, ?_, talks⟩
  · rw [← now]
    exact raised_post u.nmAliveMsg 1043 by_
  · have frame := talks.shown
    have ring : (s.nmCancel by_).ring = s.ring := by
      show u.nmAliveMsg.ring = _
      rw [nmAliveMsg_frame]
      rfl
    rw [ring] at frame
    exact frame

/-- The ring prepares sleep (R338). -/
theorem nmPrepare_prepares (s : State) (lap : Nat) : (s.nmPrepare lap).ob Obj.nmState = 3 ∧ (s.nmPrepare lap).ring.prepareAt = s.now ∧
    (s.nmPrepare lap).Raised s.now 1041 lap := by
  let u : State := { s with ring := { s.ring with prepareAt := s.now, turnAt := none } }
  have state : (u.setOb Obj.nmState 3).ob Obj.nmState = 3 := ob_setOb_same ..
  exact ⟨state, rfl, raised_post ((u.setOb Obj.nmState 3).canUnpend u.nmChan .ring) 1041 lap⟩

end State
end Sys2Proof.Machine

namespace Sys2Proof.Machine
namespace State

/-! ## What a message heard leaves alone -/

theorem ring_record (s : State) (r : LedgerRecord) : (s.record r).ring = s.ring := by
  have same : (s.record r).still.ring = s.still.ring := congrArg State.ring (record_still s r)
  exact same

/-- A record moves no object but its own. -/
theorem ob_record_free (s : State) (r : LedgerRecord) {k : Nat} (free : outputObject k = false ∨ k ∉ noteObjects) :
    (s.record r).ob k = s.ob k := by
  rcases free with fixed | free
  · exact (switches_of_quiet (own := []) (record_quiet s r)).2 k fixed List.not_mem_nil
  · exact (notes_record s r).ledges.objects k free

theorem can_record (s : State) (r : LedgerRecord) : (s.record r).can = s.can := by
  have same : (s.record r).still.can = s.still.can := congrArg State.can (record_still s r)
  exact same

/-- `t` is `s` after the ring has heard something: what is still, but for the ring and the channels, what is kept, and every object
that the list does not name and a record does not move are as they were, and no event has been taken back. -/
structure Hears (own : List Nat) (s t : State) : Prop where
  still_ : t.still = ({ s with ring := t.ring, can := t.can } : State).still
  objects : ∀ k, outputObject k = false ∨ k ∉ noteObjects → k ∉ own → t.ob k = s.ob k
  kept_ : t.kept = s.kept
  told : s.fab.inFlight ⊆ t.fab.inFlight

namespace Hears

variable {own : List Nat} {s t u : State}

theorem refl (own : List Nat) (s : State) : Hears own s s := ⟨rfl, fun _ _ _ => rfl, rfl, fun _ h => h⟩

theorem trans (h : Hears own s t) (k : Hears own t u) : Hears own s u where
  still_ := k.still_.trans (congrArg (fun x : State => { x with ring := u.ring, can := u.can }) h.still_)
  objects j fixed hj := (k.objects j fixed hj).trans (h.objects j fixed hj)
  kept_ := k.kept_.trans h.kept_
  told _ is := k.told (h.told is)

theorem weaken {all : List Nat} (h : Hears own s t) (sub : own ⊆ all) : Hears all s t :=
  ⟨h.still_, fun k fixed free => h.objects k fixed fun mem => free (sub mem), h.kept_, h.told⟩

theorem setOb {k v : Nat} (h : Hears own s t) (mem : k ∈ own) : Hears own s (t.setOb k v) :=
  h.trans ⟨rfl, fun j _ free => objectsBut_setOb (objectsBut_refl t _) mem v j free, rfl, fun _ h => h⟩
theorem setBit {k i : Nat} {b : Bool} (h : Hears own s t) (mem : k ∈ own) : Hears own s (t.setBit k i b) := h.setOb mem
theorem post {ev v : Nat} (h : Hears own s t) : Hears own s (t.post ev v) :=
  h.trans ⟨rfl, fun _ _ _ => rfl, rfl, List.subset_append_left _ _⟩
theorem ite {p : Prop} [Decidable p] (h : Hears own s t) (k : Hears own s u) : Hears own s (if p then t else u) := by
  split
  · exact h
  · exact k
theorem postIf {c : Bool} {ev v : Nat} (h : Hears own s t) : Hears own s (t.postIf c ev v) := .ite h.post h
theorem setNmNode {i : Nat} {n : NmNode} (h : Hears own s t) : Hears own s (t.setNmNode i n) :=
  h.trans ⟨rfl, fun _ _ _ => rfl, rfl, fun _ h => h⟩
theorem record {r : LedgerRecord} (h : Hears own s t) : Hears own s (t.record r) :=
  h.trans ⟨(record_still t r).trans (by rw [ring_record, can_record]), fun k free _ => ob_record_free t r free,
    record_kept t r, fun _ is => mem_inFlight_record is r⟩

theorem now_ (h : Hears own s t) : t.now = s.now := by
  have same : t.still.now = ({ s with ring := t.ring, can := t.can } : State).still.now := congrArg State.now h.still_
  exact same
theorem raised (h : Hears own s t) {at_ : Tick} {ev v : Nat} (is : s.Raised at_ ev v) : t.Raised at_ ev v := h.told is
theorem switches (h : Hears own s t) : ({ s with ring := t.ring, can := t.can } : State).Switches t own := 
  ⟨h.still_, fun k fixed => h.objects k (.inl fixed)⟩

end Hears

theorem Talks.hears {own : List Nat} {s t : State} (h : Talks own s t) : Hears own s t where
  still_ := by rw [h.frame]; rfl
  objects k _ free := h.objects k free
  kept_ := by rw [h.frame]; rfl
  told := h.told

/-! ## Keepers (R340) -/

/-- The objects that show the keepers. -/
def keeperObjects : List Nat := [Obj.keeperMask, Obj.keeperId, Obj.keeperReason]

theorem showKeeper_only (s : State) : s.Only s.showKeeper [Obj.keeperId, Obj.keeperReason] := by
  unfold showKeeper
  dsimp only
  split
  all_goals exact ⟨rfl, objectsBut_setOb (objectsBut_setOb (objectsBut_refl s _) (by simp) _) (by simp) _⟩

theorem Hears.showKeeper {own : List Nat} {s t : State} (h : Hears own s t) (id : Obj.keeperId ∈ own) (reason : Obj.keeperReason ∈ own) :
    Hears own s t.showKeeper := by
  obtain ⟨frame, objects⟩ := showKeeper_only t
  refine h.trans ⟨by rw [frame]; rfl, fun k _ free => objects k fun mem => free ?_, by rw [frame]; rfl, by rw [frame]; exact fun _ h => h⟩
  rcases List.mem_cons.mp mem with rfl | last
  · exact id
  · exact List.mem_singleton.mp last ▸ reason

theorem nmNode_showKeeper (s : State) (i : Nat) : s.showKeeper.nmNode i = s.nmNode i := by
  rw [(showKeeper_only s).1]
  rfl

@[simp] theorem nmNode_setNmNode_same (s : State) (i : Nat) (n : NmNode) : (s.setNmNode i n).nmNode i = n := Table.read_write_same ..

/-- A keeper that consents again is none (R340); what it has said stays. -/
theorem keeperCleared_hears (s : State) (i : Nat) : Hears keeperObjects s (s.keeperCleared i) ∧
    ((s.keeperCleared i).nmNode i).last = (s.nmNode i).last ∧ ((s.keeperCleared i).nmNode i).lap = (s.nmNode i).lap := by
  unfold keeperCleared
  split
  · exact ⟨.refl _ s, rfl, rfl⟩
  · dsimp only
    have node : (((s.setBit Obj.keeperMask i false).post 1045 i).keeperRecord i false).nmNode i = s.nmNode i :=
      congrArg (fun r : Ring => r.nodes.read {} i) (ring_record ..)
    rw [nmNode_showKeeper, nmNode_setNmNode_same, node]
    exact ⟨.showKeeper (.setNmNode (.record (.post (.setBit (.refl _ s) (by simp [keeperObjects]))))) (by simp [keeperObjects])
      (by simp [keeperObjects]), rfl, rfl⟩

theorem keeperCleared_of_clear {s : State} {i : Nat} (clear : s.bit Obj.keeperMask i = false) : s.keeperCleared i = s :=
  if_pos (by rw [clear]; rfl)

/-! ## What a message says of its sender (R336, R338) -/

/-- The objects that say who is present. -/
def heardObjects : List Nat := Obj.presentMask :: Obj.consentMask :: keeperObjects

theorem nmHeard_hears (s : State) (i d : Nat) : Hears heardObjects s (s.nmHeard i d) ∧ (s.nmHeard i d).bit Obj.presentMask i = true ∧
    (s.nmHeard i d).bit Obj.consentMask i = msgConsent d ∧ ((s.nmHeard i d).nmNode i).last = s.now ∧
    ((s.nmHeard i d).nmNode i).lap = msgLap d := by
  unfold nmHeard
  extract_lets n c v z
  have own : Hears heardObjects s z :=
    .setBit (.setBit (.setNmNode (.refl _ s)) (by simp [heardObjects])) (by simp [heardObjects])
  have stays : z.bit Obj.presentMask i = true := by
    have other : z.ob Obj.presentMask = (v.setBit Obj.presentMask i true).ob Obj.presentMask := ob_setOb_other _ _ (by decide)
    show bitAt (z.ob Obj.presentMask) i = true
    rw [other]
    exact bit_setBit_same v ..
  have same : z.nmNode i = _ := nmNode_setNmNode_same s i _
  have node : (z.nmNode i).last = s.now ∧ (z.nmNode i).lap = msgLap d := by
    rw [same]
    exact ⟨rfl, rfl⟩
  have consents : z.bit Obj.consentMask i = c := bit_setBit_same ..
  clear_value z
  split
  · obtain ⟨hears, last, lap⟩ := keeperCleared_hears z i
    have object {k : Nat} (fixed : k ∉ noteObjects) (free : k ∉ keeperObjects) : (z.keeperCleared i).bit k i = z.bit k i :=
      congrArg (bitAt · i) (hears.objects k (.inr fixed) free)
    exact ⟨own.trans (hears.weaken (by simp [heardObjects])), (object (by decide) (by decide)).trans stays,
      (object (by decide) (by decide)).trans consents, last.trans node.1, lap.trans node.2⟩
  · exact ⟨own, stays, consents, node⟩

end State
end Sys2Proof.Machine

namespace Sys2Proof.Machine
namespace State

/-! ## A valid ring message of another node (R336, R338, R344) -/

/-- The sender has been heard, and the lap and the ring's forming follow its message. -/
def attends (s : State) (i d : Nat) : State :=
  let new := !s.bit Obj.presentMask i
  let s := s.nmHeard i d
  let s := s.postIf new 1051 i
  let copy := !s.lapStarter || (i = s.cf Obj.nmHostId && msgResume d)
  let s := { s with ring := { s.ring with lastMsg := s.now, lap := if copy then msgLap d else s.ring.lap } }
  let s := s.nmForms (msgType d)
  if i = s.cf Obj.nmHostId && msgResume d then s.hostResumes else s

/-- What the ring does on the message. -/
def answers (s : State) (i d : Nat) : State :=
  let st := s.ob Obj.nmState
  if st = 3 then
    if !msgConsent d && msgType d ≠ nmLimp then s.nmCancel i else s
  else if msgAck d && st = 2 then s.nmPrepare (msgLap d)
  else if msgType d = nmRing && msgDest d = s.nmSelf then
    { s with ring := { s.ring with turnAt := some s.now } }
  else if msgType d = nmAlive then s.nmStartLap
  else s

theorem nmReceive_eq {s : State} (awake : s.ob Obj.nmState ≠ 4) (i d : Nat) : s.nmReceive i d = (s.attends i d).answers i d :=
  if_neg awake

theorem talks_answers (s : State) (i d : Nat) : Talks ringObjects s (s.answers i d) :=
  .ite (.ite (.nmCancel (.refl _ s) fun _ h => h) (.refl _ s)) (.ite (.nmPrepare (.refl _ s) fun _ h => h)
    (.ite (.ringed (.refl _ s) rfl) (.ite (.nmStartLap (.refl _ s)) (.refl _ s))))

theorem answers_cancels {s : State} {i d : Nat} (prepared : s.ob Obj.nmState = 3) (consent : msgConsent d = false) (kind : msgType d ≠ 2) :
    (s.answers i d).ob Obj.nmState = 2 ∧ (s.answers i d).Raised s.now 1043 i := by
  obtain ⟨state, raised, -, -⟩ := nmCancel_cancels s i
  have is : s.answers i d = s.nmCancel i := by
    refine (if_pos prepared).trans (if_pos ?_)
    rw [consent, decide_eq_true (show msgType d ≠ nmLimp from kind)]
    rfl
  rw [is]
  exact ⟨state, raised⟩

theorem answers_prepares {s : State} {i d : Nat} (normal : s.ob Obj.nmState = 2) (ack : msgAck d = true) :
    (s.answers i d).ob Obj.nmState = 3 ∧ (s.answers i d).ring.prepareAt = s.now ∧ (s.answers i d).Raised s.now 1041 (msgLap d) := by
  have is : s.answers i d = s.nmPrepare (msgLap d) := by
    refine (if_neg (by rw [normal]; decide)).trans (if_pos ?_)
    rw [normal, ack]
    rfl
  rw [is]
  exact nmPrepare_prepares s (msgLap d)

theorem nmForms_of_formed {s : State} (formed : s.ob Obj.nmState ≠ 1) (type : Nat) : s.nmForms type = s :=
  if_neg (by simp [formed])

/-- After hearing, only the ring's state, the unit's reason and what the ring says may still move. -/
theorem attends_talks (s : State) (i d : Nat) : Talks ringObjects (s.nmHeard i d) (s.attends i d) ∧
    (s.bit Obj.presentMask i = false → (s.attends i d).Raised (s.nmHeard i d).now 1051 i) ∧
    ((s.nmHeard i d).ob Obj.nmState ≠ 1 → (s.attends i d).ob Obj.nmState = (s.nmHeard i d).ob Obj.nmState) := by
  unfold attends
  extract_lets new h u copy before v w
  have posted : Talks [Obj.ownReason] h u := .postIf (.refl _ h)
  have ringed : Talks [Obj.ownReason] h v := posted.ringed rfl
  have toRing {a b : State} (k : Talks [Obj.ownReason] a b) : Talks ringObjects a b :=
    ⟨k.frame, fun j free => k.objects j fun mem => free (by rw [List.mem_singleton.mp mem]; simp [ringObjects]), k.nodes, k.told⟩
  have formed : Talks ringObjects v w := .nmForms (.refl _ v) fun _ h => h
  have resumed (a : State) : Talks [Obj.ownReason] a (if i = a.cf Obj.nmHostId && msgResume d then a.hostResumes else a) :=
    .ite (.hostResumes (.refl _ a) (by simp)) (.refl _ a)
  refine ⟨((toRing ringed).trans formed).trans (toRing (resumed w)), fun absent => ?_, fun later => ?_⟩
  · have told : u.Raised h.now 1051 i := by
      have is : u = h.post 1051 i := if_pos (by simp only [new]; rw [absent]; rfl)
      rw [is]
      exact raised_post ..
    exact (formed.trans (toRing (resumed w))).raised told
  · have state : v.ob Obj.nmState = h.ob Obj.nmState := ringed.objects _ (by decide)
    have is : w = v := nmForms_of_formed (by rwa [state]) _
    rw [(resumed w).objects Obj.nmState (by decide), is, state]

/-- The objects that a message of another node moves. -/
def messageObjects : List Nat := [Obj.presentMask, Obj.consentMask, Obj.keeperMask,
  Obj.keeperId, Obj.keeperReason, Obj.nmState, Obj.ownReason]

/-- A message of another node while the ring is not asleep. -/
theorem messageHeard {s : State} {i : Nat} (d : Nat) (awake : s.ob Obj.nmState ≠ 4) :
    let t := s.nmReceive i d
    t.bit Obj.presentMask i = true ∧ t.bit Obj.consentMask i = msgConsent d ∧ (t.nmNode i).last = s.now ∧
      (t.nmNode i).lap = msgLap d ∧ (s.bit Obj.presentMask i = false → t.Raised s.now 1051 i) ∧ Hears messageObjects s t ∧
      (s.ob Obj.nmState = 3 → msgConsent d = false → msgType d ≠ 2 → t.ob Obj.nmState = 2 ∧ t.Raised s.now 1043 i) ∧
      (s.ob Obj.nmState = 2 → msgAck d = true → t.ob Obj.nmState = 3 ∧ t.ring.prepareAt = s.now ∧ t.Raised s.now 1041 (msgLap d)) := by
  obtain ⟨hears, present, consent, last, lap⟩ := nmHeard_hears s i d
  obtain ⟨attends, new, state⟩ := attends_talks s i d
  have answers := talks_answers (s.attends i d) i d
  have talks := attends.trans answers
  have now : (s.nmHeard i d).now = s.now := hears.now_
  have nowLate : (s.attends i d).now = s.now := attends.now_.trans now
  have bits {k : Nat} (free : k ∉ ringObjects) : ((s.attends i d).answers i d).bit k i = (s.nmHeard i d).bit k i :=
    congrArg (bitAt · i) (talks.objects k free)
  have node : ((s.attends i d).answers i d).nmNode i = (s.nmHeard i d).nmNode i := congrArg (fun t : Table NmNode => t.read {} i) talks.nodes
  have stateHeard : (s.nmHeard i d).ob Obj.nmState = s.ob Obj.nmState := hears.objects _ (.inr (by decide)) (by decide)
  have stays {n : Nat} (is : s.ob Obj.nmState = n) (formed : n ≠ 1) : (s.attends i d).ob Obj.nmState = n :=
    (state (by rw [stateHeard, is]; exact formed)).trans (stateHeard.trans is)
  have toAll : Hears messageObjects (s.nmHeard i d) ((s.attends i d).answers i d) :=
    talks.hears.weaken (by simp [ringObjects, messageObjects])
  intro t
  rw [show t = (s.attends i d).answers i d from nmReceive_eq awake i d]
  refine ⟨(bits (by decide)).trans present, (bits (by decide)).trans consent, by rw [node, last], by rw [node, lap],
    fun absent => ?_, .trans (hears.weaken (by simp [heardObjects, keeperObjects, messageObjects])) toAll,
    fun prepared withheld kind => ?_, fun normal ack => ?_⟩
  · rw [← now]
    exact answers.raised (new absent)
  · rw [← nowLate]
    exact answers_cancels (stays prepared (by decide)) withheld kind
  · rw [← nowLate]
    exact answers_prepares (stays normal (by decide)) ack

end State
end Sys2Proof.Machine

namespace Sys2Proof.Machine
namespace State

/-! ## Messages refused and collisions (R335, R336) -/

theorem exec_nmRingMessage {i : Fin 64} {dlc : Fin 16} {data : BitVec 64} {s : State} (on : s.nmOn = true)
    (active : s.canActive s.nmChan = true) (joined : s.ob Obj.nmState ≠ 0) (alone : s.ob Obj.nmState ≠ 6) :
    exec (.nmRingMessage i dlc data) s =
      if dlc.val ≠ 8 || msgType data.toNat = 3 || bitsOf data.toNat 14 2 ≠ 0 || bitsOf data.toNat 56 8 ≠ 0 then .next (s.bump Obj.nmRejects)
      else if i.val = s.nmSelf then .next (((s.setOb Obj.nmState 6).canUnpend s.nmChan .ring).post 1055 s.nmSelf)
      else .next (s.nmReceive i data.toNat) := by
  refine if_neg ?_
  rw [on, active]
  simp [joined, alone]

/-- The format of R335 holds. -/
theorem wellFormed_iff {dlc : Fin 16} {d : Nat} :
    (dlc.val ≠ 8 || msgType d = 3 || bitsOf d 14 2 ≠ 0 || bitsOf d 56 8 ≠ 0) = false ↔
      dlc = 8 ∧ msgType d ≠ 3 ∧ bitsOf d 14 2 = 0 ∧ bitsOf d 56 8 = 0 := by
  have eight : dlc.val = 8 ↔ dlc = 8 := ⟨fun h => Fin.ext h, fun h => congrArg Fin.val h⟩
  simp [eight, and_assoc]

/-- The unit's own ID heard stops the ring (R336). -/
theorem collided (s : State) (i : Nat) :
    let t := ((s.setOb Obj.nmState 6).canUnpend s.nmChan .ring).post 1055 i
    t.ob Obj.nmState = 6 ∧ t.Raised s.now 1055 i ∧ (∀ f ∈ (t.canCh s.nmChan).pend, f.src ≠ .ring) ∧
      t = { s with obj := t.obj, can := t.can, fab := t.fab } ∧ s.ObjectsBut t [Obj.nmState] := by
  let u := (s.setOb Obj.nmState 6).canUnpend s.nmChan .ring
  have state : u.ob Obj.nmState = 6 := ob_setOb_same s Obj.nmState 6
  have raised : (u.post 1055 i).Raised s.now 1055 i := raised_post u ..
  have talks : Talks [Obj.nmState] s (u.post 1055 i) := .post (.canUnpend (.setOb (.refl _ s) (by simp)))
  refine ⟨state, raised, fun f mem => ?_, rfl, talks.objects⟩
  have channel := canCh_canUnpend (s.setOb Obj.nmState 6) s.nmChan .ring
  have mem : f ∈ (u.canCh s.nmChan).pend := mem
  rw [show u.canCh s.nmChan = _ from channel] at mem
  simpa using (List.mem_filter.mp mem).2

/-! ## The unit's turn and its silence (R336) -/

theorem exec_nmRingSend {s : State} {u : Tick} (on : s.nmOn = true) (active : s.canActive s.nmChan = true)
    (forms : s.ob Obj.nmState = 1 ∨ s.ob Obj.nmState = 2) (turn : s.ring.turnAt = some u)
    (due : s.passed u (ms (s.cf Obj.nmTTyp)) = true) : exec .nmRingSend s = .next s.nmTurn := by
  show execNmRingSend s = _
  unfold execNmRingSend
  rw [turn]
  refine congrArg Host.Outcome.next (if_pos ?_)
  rw [on, active, due]
  simpa using forms

/-- The turn is taken: the next lap begins where the unit starts laps and acknowledges no sleep. -/
def takesTurn (s : State) (ack : Bool) : State :=
  let s := if s.lapStarter && !ack then { s with ring := { s.ring with lap := (s.ring.lap + 1) % 256 } } else s
  { s with ring := { s.ring with turnAt := none } }

theorem takesTurn_frame (s : State) (ack : Bool) : s.takesTurn ack = { s with ring := (s.takesTurn ack).ring } ∧
    (s.takesTurn ack).ring.turnAt = none ∧
    (ack = false → (s.takesTurn ack).ring.lap = if s.lapStarter then (s.ring.lap + 1) % 256 else s.ring.lap) := by
  unfold takesTurn
  cases ack
  · cases s.lapStarter <;> exact ⟨rfl, rfl, fun _ => rfl⟩
  · cases s.lapStarter <;> exact ⟨rfl, rfl, nofun⟩

theorem turnTaken (s : State) :
    let t := s.nmTurn
    t.ring.turnAt = none ∧ s.RingPends t ∧
      (s.nmReason ≠ 0 → t.ring.lap = (if s.lapStarter then (s.ring.lap + 1) % 256 else s.ring.lap)) ∧
      t = { s with ring := t.ring, obj := t.obj, can := t.can } ∧ s.ObjectsBut t [Obj.ownReason] := by
  obtain ⟨ack, dest, eq⟩ : ∃ ack dest, (s.nmReason ≠ 0 → ack = false) ∧
      s.nmTurn = (s.takesTurn ack).nmSend nmRing dest ack false := by
    refine ⟨s.nmReason = 0 && s.ob Obj.nmState = 2 && s.lapConsents, _, fun reason => ?_, rfl⟩
    rw [decide_eq_false reason]
    rfl
  obtain ⟨withheld, eq⟩ := eq
  obtain ⟨frame, turn, lap⟩ := takesTurn_frame s ack
  have pends := nmSend_pends (s.takesTurn ack) nmRing dest ack false
  have objects := (Talks.nmSend (own := [Obj.ownReason]) (type := nmRing) (dest := dest) (ack := ack) (resume := false)
    (.refl _ (s.takesTurn ack)) (by simp)).objects
  have sent := nmSend_frame (s.takesTurn ack) nmRing dest ack false
  intro t
  rw [show t = _ from eq]
  generalize (s.takesTurn ack).nmSend nmRing dest ack false = w at *
  generalize s.takesTurn ack = v at *
  have ring : w.ring = v.ring := by rw [sent]
  refine ⟨by rw [ring, turn], ?_, fun reason => by rw [ring, lap (withheld reason)], by rw [sent, frame], fun k free => ?_⟩
  · rw [frame] at pends
    exact pends
  · rw [objects k free, frame]
    rfl

theorem exec_nmAliveTimeout {s : State} (on : s.nmOn = true) (active : s.canActive s.nmChan = true)
    (forms : s.ob Obj.nmState = 1 ∨ s.ob Obj.nmState = 2) (silent : s.passed s.ring.lastMsg (ms (s.cf Obj.nmTMax)) = true) :
    exec .nmAliveTimeout s = .next s.nmAliveMsg := by
  refine congrArg Host.Outcome.next (if_pos ?_)
  rw [on, active, silent]
  simpa using forms

/-! ## Silent IDs and keepers (R336, R340) -/

theorem exec_nmPresentTimeout {i : Fin 64} {s : State} (present : s.bit Obj.presentMask i = true) (other : i.val ≠ s.nmSelf)
    (silent : s.passed (s.nmNode i).last (ms (s.cf Obj.nmTError)) = true) : exec (.nmPresentTimeout i) s = .next (s.nmGone i) := by
  refine congrArg Host.Outcome.next (if_pos ?_)
  rw [present, silent, decide_eq_true other]
  rfl

theorem gone {s : State} {i : Nat} (clear : s.bit Obj.keeperMask i = false) :
    let t := s.nmGone i
    t.bit Obj.presentMask i = false ∧ t.bit Obj.consentMask i = false ∧ t.nmNode i = {} ∧ t.Raised s.now 1052 i ∧
      t = { s with obj := t.obj, ring := t.ring, fab := t.fab } ∧ s.ObjectsBut t [Obj.presentMask, Obj.consentMask] := by
  let u := (s.setBit Obj.presentMask i false).setBit Obj.consentMask i false
  have eq : s.nmGone i = (u.setNmNode i {}).post 1052 i := by
    unfold nmGone
    rw [keeperCleared_of_clear clear]
  have absent : u.bit Obj.presentMask i = false := by
    have other : u.ob Obj.presentMask = (s.setBit Obj.presentMask i false).ob Obj.presentMask := ob_setOb_other _ _ (by decide)
    show bitAt (u.ob Obj.presentMask) i = false
    rw [other]
    exact bit_setBit_same s ..
  have withheld : u.bit Obj.consentMask i = false := bit_setBit_same ..
  have objects : s.ObjectsBut u [Obj.presentMask, Obj.consentMask] := .setBit (.setBit (objectsBut_refl s _) (by simp)) (by simp)
  have raised : ((u.setNmNode i {}).post 1052 i).Raised s.now 1052 i := raised_post (u.setNmNode i {}) 1052 i
  intro t
  rw [show t = _ from eq]
  exact ⟨absent, withheld, nmNode_setNmNode_same u i {}, raised, rfl, objects⟩

theorem exec_nmKeeper {i : Fin 64} {s : State} {u : Tick} (present : s.bit Obj.presentMask i = true)
    (clear : s.bit Obj.keeperMask i = false) (withheld : (s.nmNode i).withheldSince = some u)
    (due : s.passed u (sec (s.cf Obj.nmKeeperTime)) = true) : exec (.nmKeeper i) s =
      .next (((((s.setBit Obj.keeperMask i true).post 1044 (i.val * 256 + (s.nmNode i).reason)).setNmNode i
        { s.nmNode i with keeperSince := some s.now }).keeperRecord i true).showKeeper) := by
  show execNmKeeper i s = _
  unfold execNmKeeper
  dsimp only
  rw [withheld]
  refine congrArg Host.Outcome.next (if_pos ?_)
  rw [present, clear, due]
  rfl

/-- An ID becomes a keeper (R340). -/
theorem keeperNamed (s : State) (i v : Nat) :
    let t := (((((s.setBit Obj.keeperMask i true).post 1044 v).setNmNode i
        { s.nmNode i with keeperSince := some s.now }).keeperRecord i true).showKeeper)
    t.bit Obj.keeperMask i = true ∧ (t.nmNode i).keeperSince = some s.now ∧ t.Raised s.now 1044 v ∧ t.kept = s.kept ∧
      ({ s with ring := t.ring } : State).Switches t [Obj.keeperMask, Obj.keeperId, Obj.keeperReason] := by
  let u := ((s.setBit Obj.keeperMask i true).post 1044 v).setNmNode i { s.nmNode i with keeperSince := some s.now }
  let w := u.keeperRecord i true
  have marked : u.bit Obj.keeperMask i = true := bit_setBit_same s ..
  have raised : u.Raised s.now 1044 v := raised_post (s.setBit Obj.keeperMask i true) ..
  have hears : Hears keeperObjects s w.showKeeper := .showKeeper (.record (.setNmNode (.post (.setBit (.refl _ s)
    (by simp [keeperObjects]))))) (by simp [keeperObjects]) (by simp [keeperObjects])
  have late : Hears [Obj.keeperId, Obj.keeperReason] u w.showKeeper := .showKeeper (.record (.refl _ u)) (by simp) (by simp)
  have node : w.showKeeper.nmNode i = { s.nmNode i with keeperSince := some s.now } := by
    rw [nmNode_showKeeper]
    have same : w.nmNode i = u.nmNode i := congrArg (fun r : Ring => r.nodes.read {} i) (ring_record ..)
    rw [same]
    exact nmNode_setNmNode_same ..
  have can : w.showKeeper.can = s.can := by
    rw [(showKeeper_only w).1]
    exact can_record u _
  have switches := hears.switches
  rw [can] at switches
  exact ⟨(congrArg (bitAt · i) (late.objects Obj.keeperMask (.inr (by decide)) (by decide))).trans marked, by rw [node],
    late.raised raised, hears.kept_, switches⟩

end State
end Sys2Proof.Machine

namespace Sys2Proof.Machine
namespace State

/-! ## The wait before sleep and limp-home (R338, R339) -/

theorem exec_nmSleepWaitExpiry {s : State} (prepared : s.ob Obj.nmState = 3)
    (due : s.passed s.ring.prepareAt (ms (s.cf Obj.nmTWaitSleep)) = true) : exec .nmSleepWaitExpiry s =
      if s.nmReason ≠ 0 then .next (s.nmCancel s.nmSelf)
      else
        let s := ((s.setOb Obj.nmState 4).canUnpend s.nmChan .ring).post 1042 0
        let s := { s with ring := { s.ring with wakeReason := none, hostResume := false, flag := s.stayFlag } }
        .next (s.dropVotes 3 allDomains) := by
  refine if_neg ?_
  rw [due, decide_eq_true prepared]
  decide

/-- The ring sleeps, and holder 3 votes no longer (R338). -/
theorem slept (s : State) :
    let u := ((s.setOb Obj.nmState 4).canUnpend s.nmChan .ring).post 1042 0
    let v := { u with ring := { u.ring with wakeReason := none, hostResume := false, flag := u.stayFlag } }
    let t := v.dropVotes 3 allDomains
    t.ob Obj.nmState = 4 ∧ t.ring.wakeReason = none ∧ t.Raised s.now 1042 0 ∧ (∀ d < 19, bitAt (t.pw.votes.read 0 d) 3 = false) ∧
      t = { s with obj := t.obj, can := t.can, ring := t.ring, fab := t.fab, pw := t.pw } := by
  intro u v t
  have talks : Talks [Obj.nmState] s v := .ringed (.post (.canUnpend (.setOb (.refl _ s) (by simp)))) rfl
  have voted : v.Voted t := voted_dropVotes ..
  have state : v.ob Obj.nmState = 4 := ob_setOb_same s Obj.nmState 4
  have raised : v.Raised s.now 1042 0 := raised_post ((s.setOb Obj.nmState 4).canUnpend s.nmChan .ring) 1042 0
  have wake : v.ring.wakeReason = none := rfl
  have votes (d : Nat) (known : d < 19) : t.votes d 3 = false := votes_dropVotes v (by decide) known
  clear_value t v
  refine ⟨(voted.objects _ (by decide)).trans state, by rw [voted.frame, wake], ?_, votes, ?_⟩
  · rw [voted.frame]
    exact raised
  · rw [voted.frame, talks.frame]

/-- A limp-home message begins a lap of its own. -/
def limps (s : State) : State := { s with ring := { s.ring with lastLimp := s.now, lap := (s.ring.lap + 1) % 256 } }

/-- The limp-home message, with SLEEP_ACK where the unit consents. -/
def limpSpeaks (s : State) : State := s.limps.nmSend nmLimp s.limps.nmSelf (decide (s.nmReason = 0)) false

/-- A channel that is alone attempts the ring's message. -/
def triesRing (s : State) : State :=
  let x := s.canCh s.nmChan
  if x.aloneSince.isSome then s.setCan s.nmChan { x with attempt := some .ring } else s

/-- The unit prepares sleep by itself. -/
def preparesAlone (s : State) : State :=
  (({ s with ring := { s.ring with prepareAt := s.now } } : State).setOb Obj.nmState 3).post 1041 s.ring.lap

theorem exec_nmLimpHomeMessage {s : State} (on : s.nmOn = true) (limp : s.ob Obj.nmState = 5)
    (due : s.passed s.ring.lastLimp (ms (s.cf Obj.nmTError)) = true) : exec .nmLimpHomeMessage s =
      .next (if s.nmReason = 0 then s.limpSpeaks.triesRing.preparesAlone else s.limpSpeaks.triesRing) := by
  show execNmLimpHomeMessage s = _
  unfold execNmLimpHomeMessage
  rw [on, due, decide_eq_true limp]
  rfl

theorem triesRing_tries (s : State) : s.triesRing = { s with can := s.triesRing.can } ∧
    (s.triesRing.canCh s.nmChan).pend = (s.canCh s.nmChan).pend ∧
    ((s.canCh s.nmChan).aloneSince ≠ none → (s.triesRing.canCh s.nmChan).attempt = some .ring) := by
  unfold triesRing
  dsimp only
  split
  · rw [canCh_setCan_same]
    exact ⟨rfl, rfl, fun _ => rfl⟩
  · next joined => exact ⟨rfl, rfl, fun alone => absurd (Option.isSome_iff_ne_none.mpr alone) joined⟩

theorem limpSpeaks_speaks (s : State) : s.limpSpeaks = { s.limps with obj := s.limpSpeaks.obj, can := s.limpSpeaks.can } ∧
    s.RingPends s.limpSpeaks ∧ (s.limpSpeaks.canCh s.nmChan).aloneSince = (s.canCh s.nmChan).aloneSince ∧
    s.ObjectsBut s.limpSpeaks [Obj.ownReason] := by
  obtain ⟨f, src, id, since, eq⟩ := nmSend_eq s.limps nmLimp s.limps.nmSelf (decide (s.nmReason = 0)) false
  have eq : s.limpSpeaks = ((s.limps.setOb Obj.ownReason s.limps.nmReason).canUnpend s.nmChan .ring).canEnqueue s.nmChan f := eq
  have objects := (Talks.nmSend (own := [Obj.ownReason]) (type := nmLimp) (dest := s.limps.nmSelf)
    (ack := decide (s.nmReason = 0)) (resume := false) (.refl _ s.limps) (by simp)).objects
  refine ⟨nmSend_frame .., nmSend_pends s.limps .., ?_, objects⟩
  rw [eq, canCh_canEnqueue]
  show (((s.limps.setOb Obj.ownReason s.limps.nmReason).canUnpend s.nmChan .ring).canCh s.nmChan).aloneSince = _
  rw [canCh_canUnpend]
  rfl

/-- A limp-home message stands for pending, and prepares sleep where the unit consents (R339). -/
theorem limped {s : State} (limp : s.ob Obj.nmState = 5) :
    let t := if s.nmReason = 0 then s.limpSpeaks.triesRing.preparesAlone else s.limpSpeaks.triesRing
    t.ring.lastLimp = s.now ∧ t.ring.lap = (s.ring.lap + 1) % 256 ∧ s.RingPends t ∧
      t.ob Obj.nmState = (if s.nmReason = 0 then 3 else 5) ∧ (s.nmReason = 0 → t.Raised s.now 1041 t.ring.lap) ∧
      ((s.canCh s.nmChan).aloneSince ≠ none → (t.canCh s.nmChan).attempt = some .ring) ∧
      t = { s with obj := t.obj, can := t.can, ring := t.ring, fab := t.fab } ∧ s.ObjectsBut t [Obj.nmState, Obj.ownReason] := by
  obtain ⟨spoken, ⟨f, mem, pending⟩, alone, objects⟩ := limpSpeaks_speaks s
  obtain ⟨tried, pend, attempt⟩ := triesRing_tries s.limpSpeaks
  have chan : s.limpSpeaks.nmChan = s.nmChan := by rw [spoken]; rfl
  rw [chan] at pend attempt
  have ring : s.limpSpeaks.triesRing.ring = s.limps.ring := by rw [tried, spoken]
  have now : s.limpSpeaks.triesRing.now = s.now := by rw [tried, spoken]; rfl
  have obj (k : Nat) : s.limpSpeaks.triesRing.ob k = s.limpSpeaks.ob k := by rw [tried]; rfl
  have state : s.limpSpeaks.triesRing.ob Obj.nmState = 5 := (obj _).trans ((objects _ (by decide)).trans limp)
  have frame : s.limpSpeaks.triesRing = { s with obj := s.limpSpeaks.triesRing.obj, can := s.limpSpeaks.triesRing.can
                                                 ring := s.limpSpeaks.triesRing.ring } := by
    rw [tried, spoken]
    rfl
  have objects : s.ObjectsBut s.limpSpeaks.triesRing [Obj.nmState, Obj.ownReason] := fun k free =>
    (obj k).trans (objects k fun mem => free (List.mem_cons_of_mem _ mem))
  have mem : f ∈ (s.limpSpeaks.triesRing.canCh s.nmChan).pend := by rw [pend]; exact mem
  rw [← alone]
  generalize s.limpSpeaks = v at *
  generalize v.triesRing = w at *
  split
  · next consents =>
    let x : State := { w with ring := { w.ring with prepareAt := w.now } }
    have raised : w.preparesAlone.Raised s.now 1041 w.ring.lap := by
      rw [← now]
      exact raised_post (x.setOb Obj.nmState 3) 1041 w.ring.lap
    have shown : w.preparesAlone = { w with obj := w.preparesAlone.obj, ring := w.preparesAlone.ring, fab := w.preparesAlone.fab } := rfl
    have own : s.ObjectsBut (x.setOb Obj.nmState 3) [Obj.nmState, Obj.ownReason] := .setOb (t := x) objects (by simp)
    refine ⟨congrArg Ring.lastLimp ring, congrArg Ring.lap ring, ⟨f, mem, pending⟩, ob_setOb_same x Obj.nmState 3, fun _ => raised,
      attempt, ?_, own⟩
    rw [shown, frame]
  · next withheld =>
    exact ⟨congrArg Ring.lastLimp ring, congrArg Ring.lap ring, ⟨f, mem, pending⟩, state, fun no => absurd no withheld, attempt,
      by rw [frame], objects⟩

end State
end Sys2Proof.Machine

namespace Sys2Proof.Machine
namespace State

/-! ## Votes during a transition (R354, R357) -/

/-- An entry or an exit runs. -/
def InTransition (s : State) : Prop := s.ob Obj.pwrTransition = 1 ∨ s.ob Obj.pwrTransition = 2

theorem InTransition.of_same {s t : State} (same : t.ob Obj.pwrTransition = s.ob Obj.pwrTransition) (runs : s.InTransition) :
    t.InTransition := by
  unfold InTransition
  rw [same]
  exact runs

theorem votesMoved_transition {s : State} (runs : s.InTransition) (old holder : Nat) :
    s.ObjectsBut (s.votesMoved old holder) [Obj.pwrTarget] := by
  unfold votesMoved
  extract_lets r s1 st tr
  have shown : s.ObjectsBut s1 [Obj.pwrTarget] := .setOb (objectsBut_refl s _) (by simp)
  have same : tr = s.ob Obj.pwrTransition := ob_setOb_other _ _ (by decide)
  have either : tr = 1 ∨ tr = 2 := by
    rw [same]
    exact runs
  split_ifs with entry raises below exit
  · exact shown
  · exact shown
  · exact shown
  · exact absurd (either.resolve_left entry) exit
  · exact absurd (either.resolve_left entry) exit
  · exact shown
  · exact shown
  · exact shown

theorem placeVotes_transition {s : State} (runs : s.InTransition) (holder mask : Nat) :
    s.ObjectsBut (s.placeVotes holder mask) [Obj.pwrTarget] := by
  have polls : s.putVotes holder mask true = { s with pw := { s.pw with votes := (s.putVotes holder mask true).pw.votes } } :=
    polls_putVotes ..
  have moved := votesMoved_transition (s := s.putVotes holder mask true) (by rw [polls]; exact runs) s.required holder
  intro k free
  rw [placeVotes, moved k free, polls]
  rfl

theorem setVotes_transition {s : State} (runs : s.InTransition) (holder mask : Nat) :
    s.ObjectsBut (s.setVotes holder mask) [Obj.pwrTarget] := by
  have polls : s.Polls ((s.putVotes holder (2 ^ 19 - 1) false).putVotes holder mask true) := (polls_putVotes ..).trans (polls_putVotes ..)
  unfold setVotes
  generalize (s.putVotes holder (2 ^ 19 - 1) false).putVotes holder mask true = u at *
  have moved := votesMoved_transition (s := u) (by rw [polls]; exact runs) s.required holder
  intro k free
  rw [moved k free, polls]
  rfl

/-! ## What a wake leaves alone -/

/-- `t` is `s` after a wake: the ring, channels, votes, the start, objects of a list and the events under way may have changed, and
no event has been taken back. -/
structure Wakes (own : List Nat) (s t : State) : Prop where
  frame : t = { s with obj := t.obj, ring := t.ring, can := t.can, pw := t.pw, boot := t.boot
                       fab := { s.fab with inFlight := t.fab.inFlight } }
  objects : s.ObjectsBut t own
  told : s.fab.inFlight ⊆ t.fab.inFlight

namespace Wakes

variable {own : List Nat} {s t u : State}

theorem refl (own : List Nat) (s : State) : Wakes own s s := ⟨rfl, objectsBut_refl s _, fun _ h => h⟩

theorem trans (h : Wakes own s t) (k : Wakes own t u) : Wakes own s u where
  frame := by rw [k.frame, h.frame]
  objects j hj := (k.objects j hj).trans (h.objects j hj)
  told _ is := k.told (h.told is)

theorem setOb {k v : Nat} (h : Wakes own s t) (mem : k ∈ own) : Wakes own s (t.setOb k v) :=
  h.trans ⟨rfl, objectsBut_setOb (objectsBut_refl t _) mem v, fun _ h => h⟩
theorem post {ev v : Nat} (h : Wakes own s t) : Wakes own s (t.post ev v) :=
  h.trans ⟨rfl, objectsBut_refl t _, List.subset_append_left _ _⟩
theorem ite {p : Prop} [Decidable p] (h : Wakes own s t) (k : Wakes own s u) : Wakes own s (if p then t else u) := by
  split
  · exact h
  · exact k
theorem ringed {r : Ring} (h : Wakes own s t) : Wakes own s { t with ring := r } := h.trans ⟨rfl, objectsBut_refl t _, fun _ h => h⟩
theorem powered {p : Power} (h : Wakes own s t) : Wakes own s { t with pw := p } := h.trans ⟨rfl, objectsBut_refl t _, fun _ h => h⟩
theorem booted {b : Boot} (h : Wakes own s t) : Wakes own s { t with boot := b } := h.trans ⟨rfl, objectsBut_refl t _, fun _ h => h⟩
theorem voted (h : Wakes own s t) (k : t.Voted u) (votes : voteObjects ⊆ own) : Wakes own s u :=
  h.trans ⟨by rw [k.frame], fun j free => k.objects j fun mem => free (votes mem), by rw [k.frame]; exact fun _ h => h⟩
theorem nmAliveMsg (h : Wakes own s t) (reason : Obj.ownReason ∈ own) : Wakes own s t.nmAliveMsg := by
  have talks : Talks own t t.nmAliveMsg := .nmAliveMsg (.refl _ t) reason
  exact h.trans ⟨by rw [talks.frame], talks.objects, talks.told⟩
theorem keepWakeReason {src detail : Nat} (h : Wakes own s t) : Wakes own s (t.keepWakeReason src detail) := .ite h h.ringed
theorem weaken {all : List Nat} (h : Wakes own s t) (sub : own ⊆ all) : Wakes all s t :=
  ⟨h.frame, fun k free => h.objects k fun mem => free (sub mem), h.told⟩

theorem shown (h : Wakes own s t) :
    t = { s with obj := t.obj, fab := t.fab, pw := t.pw, ring := t.ring, can := t.can, boot := t.boot } := by rw [h.frame]
theorem now_ (h : Wakes own s t) : t.now = s.now := by rw [h.frame]; rfl
theorem cf_ (h : Wakes own s t) (k : Nat) : t.cf k = s.cf k := by rw [h.frame]; rfl
theorem raised (h : Wakes own s t) {at_ : Tick} {ev v : Nat} (is : s.Raised at_ ev v) : t.Raised at_ ev v := h.told is

end Wakes

/-! ## A wake of the power state (R354, R357) -/

theorem wakes_recordWake (s : State) (cause detail : Nat) : Wakes voteObjects s (s.recordWake cause detail) :=
  (Wakes.refl _ s).voted (voted_recordWake ..) fun _ h => h

theorem wakes_placeHold {s t : State} (h : Wakes voteObjects s t) (at_ : Tick) : Wakes voteObjects s (t.placeHold at_) :=
  .voted h.powered (voted_setVotes ..) fun _ h => h

theorem wakes_wake (s : State) (cause detail : Nat) : Wakes voteObjects s (s.wake cause detail) := by
  have noted := wakes_recordWake s cause detail
  unfold wake
  dsimp only
  split
  · exact .ite noted noted.powered
  · exact noted
  · refine .ite (wakes_placeHold noted _) ?_
    exact wakes_placeHold (.voted (.ite noted.booted noted) (voted_beginExit ..) fun _ h => h) _

theorem recordWake_objects (s : State) (cause detail : Nat) : (s.recordWake cause detail).ob Obj.lastWakeCause = cause ∧
    (s.recordWake cause detail).ob Obj.lastWakeDetail = detail % 2 ^ 16 ∧
    ∀ k, k ∉ [Obj.lastWakeCause, Obj.lastWakeDetail] → (s.recordWake cause detail).ob k = s.ob k :=
  ⟨(ob_setOb_other _ _ (by decide)).trans (ob_setOb_same ..), ob_setOb_same ..,
    fun k free => ObjectsBut.setOb (.setOb (objectsBut_refl s _) (by simp)) (by simp) k free⟩

/-- An exit begins, and the wake hold votes. -/
theorem exitHeld (s : State) (cause detail : Nat) (at_ : Tick) : ((s.beginExit cause detail).placeHold at_).InTransition ∧
    s.ObjectsBut ((s.beginExit cause detail).placeHold at_) [Obj.pwrTarget, Obj.pwrTransition] := by
  let e : State := { s with pw := { s.pw with cause := (cause, detail % 2 ^ 16), lowSince := none } }
  let b := e.setOb Obj.pwrTransition 2
  let h : State := { b with pw := { b.pw with holdUntil := some (at_ + ms (b.cf Obj.wakeHold)) } }
  have begun : h.ob Obj.pwrTransition = 2 := ob_setOb_same e Obj.pwrTransition 2
  have objects : s.ObjectsBut b [Obj.pwrTarget, Obj.pwrTransition] :=
    ObjectsBut.setOb (t := e) (k := Obj.pwrTransition) (v := 2) (objectsBut_refl s _) (by simp)
  have held := setVotes_transition (.inr begun) 8 (h.cf Obj.wakeProfile)
  exact ⟨.inr ((held _ (by decide)).trans begun), fun k free =>
    (held k fun mem => free (List.mem_cons.mpr (.inl (List.mem_singleton.mp mem)))).trans (objects k free)⟩

/-- In a lowered state a wake is recorded, and the transition that it starts or meets runs. -/
theorem wake_lowered {s : State} (low : s.lowered = true) (cause detail : Nat) :
    (s.wake cause detail).ob Obj.lastWakeCause = cause ∧ (s.wake cause detail).ob Obj.lastWakeDetail = detail % 2 ^ 16 ∧
      (s.wake cause detail).InTransition := by
  obtain ⟨isCause, isDetail, others⟩ := recordWake_objects s cause detail
  have transition : (s.recordWake cause detail).ob Obj.pwrTransition = s.ob Obj.pwrTransition := others _ (by decide)
  have power : (s.recordWake cause detail).ob Obj.pwrState = s.ob Obj.pwrState := others _ (by decide)
  unfold wake
  extract_lets r power_ boot_ b
  split
  · next entry =>
    have entry : r.InTransition := .inl entry
    split
    · exact ⟨isCause, isDetail, entry⟩
    · exact ⟨isCause, isDetail, entry⟩
  · next exit => exact ⟨isCause, isDetail, .inr exit⟩
  · next noEntry noExit =>
    have below : ¬ r.ob Obj.pwrState ≤ pwrDipped := by
      have notOne : s.ob Obj.pwrTransition ≠ 1 := fun one => noEntry (transition.trans one)
      have half : pwrHalfMast ≤ s.ob Obj.pwrState := by
        simpa [lowered, notOne] using low
      rw [power]
      simp only [pwrHalfMast, pwrDipped] at *
      omega
    rw [if_neg below]
    have objects (k : Nat) : b.ob k = r.ob k := by
      show State.ob (if _ then _ else _) k = _
      split <;> rfl
    obtain ⟨exit, others⟩ := exitHeld b cause detail b.now
    exact ⟨(others _ (by decide)).trans ((objects _).trans isCause), (others _ (by decide)).trans ((objects _).trans isDetail), exit⟩

end State
end Sys2Proof.Machine

namespace Sys2Proof.Machine
namespace State

/-! ## A wake of the network (R341, R343) -/

/-- The ring forms again, with holder 3's vote. -/
def formsAgain (s : State) (src detail : Nat) : State :=
  let s := s.keepWakeReason src detail
  let s := { s with ring := { s.ring with lastWake := s.now, sent := 0 } }
  let s := (s.setOb Obj.nmState 1).placeVotes 3 (2 ^ (3 + s.nmChan))
  if s.canActive s.nmChan then s.nmAliveMsg else s

/-- The objects that the forming of the ring moves. -/
def formObjects : List Nat := [Obj.nmState, Obj.ownReason] ++ voteObjects

theorem keepWakeReason_frame (s : State) (src detail : Nat) :
    s.keepWakeReason src detail = { s with ring := (s.keepWakeReason src detail).ring } := by
  unfold keepWakeReason
  split <;> rfl

/-- The forming of a ring whose state and record have been set. -/
theorem formed (s : State) (mask : Nat) {t : State} (is : t = ((s.setOb Obj.nmState 1).placeVotes 3 mask) ∨
      t = ((s.setOb Obj.nmState 1).placeVotes 3 mask).nmAliveMsg) :
    t.ob Obj.nmState = 1 ∧ Wakes formObjects s t ∧ t.ring = s.ring ∧
      (s.InTransition → s.ObjectsBut t [Obj.nmState, Obj.ownReason, Obj.pwrTarget]) := by
  let b := s.setOb Obj.nmState 1
  have state : b.ob Obj.nmState = 1 := ob_setOb_same s Obj.nmState 1
  have voted : b.Voted (b.placeVotes 3 mask) := voted_placeVotes ..
  have begun : Wakes formObjects s b := .setOb (.refl _ s) (by simp [formObjects])
  have first : Wakes formObjects s (b.placeVotes 3 mask) := begun.voted voted (by simp [formObjects])
  have still : (b.placeVotes 3 mask).ob Obj.nmState = 1 := (voted.objects _ (by decide)).trans state
  have ring : (b.placeVotes 3 mask).ring = s.ring := by rw [voted.frame]; rfl
  have objects (runs : s.InTransition) : s.ObjectsBut (b.placeVotes 3 mask) [Obj.nmState, Obj.ownReason, Obj.pwrTarget] := fun k free => by
    have runs : b.InTransition := .of_same (ob_setOb_other _ _ (by decide)) runs
    rw [placeVotes_transition runs 3 mask k fun mem => free (by rw [List.mem_singleton.mp mem]; simp)]
    exact ob_setOb_other _ _ fun same => free (by simp [same])
  rcases is with rfl | rfl
  · exact ⟨still, first, ring, objects⟩
  · have frame := nmAliveMsg_frame (b.placeVotes 3 mask)
    have talks : Talks [Obj.ownReason] (b.placeVotes 3 mask) (b.placeVotes 3 mask).nmAliveMsg := .nmAliveMsg (.refl _ _) (by simp)
    refine ⟨(talks.objects _ (by decide)).trans still, first.nmAliveMsg (by simp [formObjects]), ?_, fun runs k free => ?_⟩
    · rw [show ((b.placeVotes 3 mask).nmAliveMsg).ring = (b.placeVotes 3 mask).ring by rw [frame], ring]
    · rw [talks.objects k fun mem => free (by rw [List.mem_singleton.mp mem]; simp), objects runs k free]

theorem formsAgain_forms (s : State) (src detail : Nat) : (s.formsAgain src detail).ob Obj.nmState = 1 ∧
    Wakes formObjects s (s.formsAgain src detail) ∧
    (s.InTransition → s.ObjectsBut (s.formsAgain src detail) [Obj.nmState, Obj.ownReason, Obj.pwrTarget]) := by
  let r : Ring := { (s.keepWakeReason src detail).ring with lastWake := (s.keepWakeReason src detail).now, sent := 0 }
  let u : State := { s with ring := r }
  have kept : ({ s.keepWakeReason src detail with ring := r } : State) = u := by rw [keepWakeReason_frame]
  obtain ⟨state, wakes, -, objects⟩ := formed u (2 ^ (3 + u.nmChan)) (t := s.formsAgain src detail) (by
    unfold formsAgain
    dsimp only
    rw [kept]
    split
    · exact .inr rfl
    · exact .inl rfl)
  exact ⟨state, (Wakes.refl _ s).ringed.trans wakes, objects⟩

theorem nmWake_eq (s : State) (src detail ev value : Nat) :
    let u := ((s.setOb Obj.nmLastWakeSource src).setOb Obj.nmLastWakeDetail detail).post ev value
    s.nmWake src detail ev value = if s.nmOn && s.ob Obj.nmState = 4 then u.formsAgain src detail else u := by
  intro u
  have state : u.ob Obj.nmState = s.ob Obj.nmState := (ob_setOb_other _ _ (by decide)).trans (ob_setOb_other _ _ (by decide))
  have is : s.nmWake src detail ev value = if !(s.nmOn && u.ob Obj.nmState = 4) then u else u.formsAgain src detail := rfl
  rw [is, state]
  cases s.nmOn && decide (s.ob Obj.nmState = 4) <;> rfl

/-- The objects that a wake of the network moves. -/
def wakeObjects : List Nat := [Obj.nmLastWakeSource, Obj.nmLastWakeDetail] ++ formObjects

theorem nmWake_wakes (s : State) (src detail ev value : Nat) :
    let t := s.nmWake src detail ev value
    t.ob Obj.nmLastWakeSource = src ∧ t.ob Obj.nmLastWakeDetail = detail ∧ t.Raised s.now ev value ∧
      t.ob Obj.nmState = (if s.nmOn && s.ob Obj.nmState = 4 then 1 else s.ob Obj.nmState) ∧ Wakes wakeObjects s t ∧
      (s.InTransition → t.ob Obj.lastWakeCause = s.ob Obj.lastWakeCause ∧ t.ob Obj.lastWakeDetail = s.ob Obj.lastWakeDetail) := by
  let v := (s.setOb Obj.nmLastWakeSource src).setOb Obj.nmLastWakeDetail detail
  let u := v.post ev value
  have source : u.ob Obj.nmLastWakeSource = src :=
    (ob_setOb_other _ _ (by decide)).trans (ob_setOb_same s Obj.nmLastWakeSource src)
  have shown : u.ob Obj.nmLastWakeDetail = detail := ob_setOb_same (s.setOb Obj.nmLastWakeSource src) Obj.nmLastWakeDetail detail
  have others (k : Nat) (one : Obj.nmLastWakeSource ≠ k) (two : Obj.nmLastWakeDetail ≠ k) : u.ob k = s.ob k :=
    (ob_setOb_other _ _ two).trans (ob_setOb_other _ _ one)
  have raised : u.Raised s.now ev value := raised_post v ev value
  have wakes : Wakes wakeObjects s u := .post (.setOb (.setOb (.refl _ s) (by simp [wakeObjects])) (by simp [wakeObjects]))
  obtain ⟨state, forms, during⟩ := formsAgain_forms u src detail
  intro t
  rw [show t = _ from nmWake_eq s src detail ev value]
  split
  · refine ⟨(forms.objects _ (by decide)).trans source, (forms.objects _ (by decide)).trans shown, forms.raised raised, state,
      wakes.trans (forms.weaken (by simp [wakeObjects])), fun runs => ?_⟩
    have runs : u.InTransition := .of_same (others _ (by decide) (by decide)) runs
    exact ⟨(during runs _ (by decide)).trans (others _ (by decide) (by decide)),
      (during runs _ (by decide)).trans (others _ (by decide) (by decide))⟩
  · exact ⟨source, shown, raised, others _ (by decide) (by decide), wakes,
      fun _ => ⟨others _ (by decide) (by decide), others _ (by decide) (by decide)⟩⟩

/-- A wake source's occurrence: the power state is told of it where `low`, then the network. -/
theorem wakeTaken {s : State} {low : Bool} (below : low = true → s.lowered = true)
    (must : s.lowered = true → s.ob Obj.pwrState ≠ pwrFurled → low = true) (src ev : Nat) {d : Nat} (small : d < 2 ^ 16) :
    let t := (if low then s.wake src d else s).nmWake src d ev d
    t.ob Obj.nmLastWakeSource = src ∧ t.ob Obj.nmLastWakeDetail = d ∧ t.Raised s.now ev d ∧
      t.ob Obj.nmState = (if s.nmOn && s.ob Obj.nmState = 4 then 1 else s.ob Obj.nmState) ∧
      (s.lowered = true → s.ob Obj.pwrState ≠ pwrFurled → t.ob Obj.lastWakeCause = src ∧ t.ob Obj.lastWakeDetail = d) ∧
      t = { s with obj := t.obj, fab := t.fab, pw := t.pw, ring := t.ring, can := t.can, boot := t.boot } := by
  cases low with
  | false =>
    obtain ⟨source, detail, raised, state, wakes, -⟩ := nmWake_wakes s src d ev d
    exact ⟨source, detail, raised, state, fun lowered furled => absurd (must lowered furled) (by decide), wakes.shown⟩
  | true =>
    have woken := wakes_wake s src d
    obtain ⟨cause, low, runs⟩ := wake_lowered (below rfl) src d
    obtain ⟨source, detail, raised, state, wakes, during⟩ := nmWake_wakes (s.wake src d) src d ev d
    obtain ⟨sameCause, sameDetail⟩ := during runs
    rw [woken.now_] at raised
    rw [show (s.wake src d).nmOn = s.nmOn from congrArg (fun v => decide (v = 1)) (woken.cf_ _), woken.objects Obj.nmState (by decide)] at state
    refine ⟨source, detail, raised, state, fun _ _ => ⟨sameCause.trans cause, sameDetail.trans (low.trans (Nat.mod_eq_of_lt small))⟩, ?_⟩
    exact ((woken.weaken fun k mem => List.mem_append_right _ (List.mem_append_right _ mem)).trans wakes).shown

section
variable {s : State} (armed : s.wakeArmed = true)
include armed

theorem exec_selectiveWakeFrame {c : Fin 4} {f : CanFrame} (matches_ : s.wufMatches c f = true) : exec (.selectiveWakeFrame c f) s =
    .next ((if s.lowered && s.ob Obj.pwrState ≠ pwrFurled then s.wake 1 c else s).nmWake 1 c 1046 c) :=
  if_neg (by rw [armed, matches_]; decide)

theorem exec_wakePinEdge {n : Fin 4} {rising : Bool} (edge : s.cf (Obj.wakeEdge n) = if rising then 1 else 2) :
    exec (.wakePinEdge n rising) s = .next ((if s.lowered then s.wake 2 n else s).nmWake 2 n 1047 n) :=
  if_neg (by rw [armed, edge]; cases rising <;> decide)

theorem exec_busActivityWake {c : Fin 4} {errors : Bool} {d : Nat} (detail : d = (if errors then 0x8000 else 0) + c.val)
    (ok : if errors then s.cf (Obj.swEnable c) = 1 else s.cf (Obj.swEnable c) ≠ 1 ∧ s.cf (Obj.swWup c) = 1) :
    exec (.busActivityWake c errors) s =
      .next ((if s.lowered && s.ob Obj.pwrState ≠ pwrFurled then s.wake 3 d else s).nmWake 3 d 1048 d) := by
  subst detail
  exact if_neg (by cases errors <;> simp_all)

end

end State
end Sys2Proof.Machine

namespace Sys2Proof.Machine
namespace State

/-! ## The host's resume in bus sleep (R344) -/

/-- A message in bus sleep that is not the host's resume changes nothing. -/
theorem nmReceive_asleep {s : State} {i d : Nat} (asleep : s.ob Obj.nmState = 4)
    (other : ¬(i = s.cf Obj.nmHostId ∧ msgResume d = true)) : s.nmReceive i d = s :=
  (if_pos asleep).trans (if_neg (by simpa using other))

/-- The host's resume is noted as the wake's source. -/
def hostWakes (s : State) (i d : Nat) : State :=
  let s := if s.ob Obj.pwrState ≤ pwrDipped then s.wake 5 i else s
  let s := { s with ring := { s.ring with lap := msgLap d, lastWake := s.now, sent := 0 } }
  ((s.setOb Obj.nmLastWakeSource 5).setOb Obj.nmLastWakeDetail i).keepWakeReason 5 i

theorem nmReceive_resume {s : State} {d : Nat} (asleep : s.ob Obj.nmState = 4) (resume : msgResume d = true) :
    let t := s.nmReceive (s.cf Obj.nmHostId) d
    t.ob Obj.nmState = 1 ∧ t.ob Obj.nmLastWakeSource = 5 ∧ t.ob Obj.nmLastWakeDetail = s.cf Obj.nmHostId := by
  generalize host : s.cf Obj.nmHostId = i
  let u := s.hostWakes i d
  have eq : s.nmReceive i d = ((u.setOb Obj.nmState 1).placeVotes 3 (2 ^ (3 + u.nmChan))).nmAliveMsg := by
    unfold nmReceive
    dsimp only
    rw [if_pos asleep, if_pos (by rw [host, resume]; simp)]
    rfl
  obtain ⟨state, forms, -, -⟩ := formed u (2 ^ (3 + u.nmChan)) (.inr rfl)
  obtain ⟨v, noted⟩ : ∃ v : State, u = ((v.setOb Obj.nmLastWakeSource 5).setOb Obj.nmLastWakeDetail i).keepWakeReason 5 i := ⟨_, rfl⟩
  clear_value u
  have source : u.ob Obj.nmLastWakeSource = 5 := by
    rw [noted, keepWakeReason_frame]
    exact (ob_setOb_other _ _ (by decide)).trans (ob_setOb_same v Obj.nmLastWakeSource 5)
  have detail : u.ob Obj.nmLastWakeDetail = i := by
    rw [noted, keepWakeReason_frame]
    exact ob_setOb_same (v.setOb Obj.nmLastWakeSource 5) Obj.nmLastWakeDetail i
  intro t
  rw [show t = _ from eq]
  exact ⟨state, (forms.objects _ (by decide)).trans source, (forms.objects _ (by decide)).trans detail⟩

/-! ## NM_CMD (R337, R341, R344) -/

section
variable {s : State} {h : Nat} {x : Session} (sv : s.Serves h .host x)
include sv

theorem exec_nmHoldStay : exec (.nmHoldStay h) s = (s.asked x).finish ((s.asked x).doNmCmd 1) := by
  show execNmHoldStay h s = _
  exact request_serves sv _ _

theorem exec_nmReleaseStay : exec (.nmReleaseStay h) s = (s.asked x).finish ((s.asked x).doNmCmd 2) := by
  show execNmReleaseStay h s = _
  exact request_serves sv _ _

theorem exec_nmResume : exec (.nmResume h) s = (s.asked x).finish ((s.asked x).doNmCmd 3) := by
  show execNmResume h s = _
  exact request_serves sv _ _

end

/-- The host holds the ring awake. -/
def staying (s : State) : State := { s with ring := { s.ring with stay := true, flag := s.stayFlag } }

/-- The stay flag's local request is noted (R341). -/
def stayNoted (s : State) : State :=
  let s := ((s.setOb Obj.nmLastWakeSource 4).setOb Obj.nmLastWakeDetail 1).post 1049 1
  { (s.keepWakeReason 4 1) with ring := { (s.keepWakeReason 4 1).ring with lastWake := s.now } }

/-- The ring forms again with holder 3's vote, and the unit speaks where its channel is active. -/
def reforms (s : State) : State :=
  let s := (s.setOb Obj.nmState 1).placeVotes 3 (2 ^ (3 + s.nmChan))
  if s.canActive s.nmChan then s.nmAliveMsg else s

theorem reforms_keeps (s : State) : s.reforms.ring = s.ring ∧ s.reforms.reply = s.reply := by
  obtain ⟨-, wakes, ring, -⟩ := formed s (2 ^ (3 + s.nmChan)) (t := s.reforms) (by
    unfold reforms
    dsimp only
    split
    · exact .inr rfl
    · exact .inl rfl)
  exact ⟨ring, by rw [wakes.frame]⟩

theorem stayNoted_keeps (s : State) : s.stayNoted.ring.stay = s.ring.stay ∧ s.stayNoted.reply = s.reply := by
  let v := ((s.setOb Obj.nmLastWakeSource 4).setOb Obj.nmLastWakeDetail 1).post 1049 1
  have kept : v.keepWakeReason 4 1 = { v with ring := (v.keepWakeReason 4 1).ring } := keepWakeReason_frame v 4 1
  have reply : (v.keepWakeReason 4 1).reply = v.reply := by rw [kept]
  have stay : (v.keepWakeReason 4 1).ring.stay = v.ring.stay := by
    unfold keepWakeReason
    split <;> rfl
  exact ⟨stay, reply⟩

theorem recheck_staying (s : State) : ({ s with ring := { s.ring with stay := true } } : State).nmRecheck =
    if !s.nmOn then s.staying
    else if s.ob Obj.nmState = 3 then s.staying.nmCancel s.nmSelf
    else if s.ob Obj.nmState = 4 && s.stayFlag && !s.ring.flag then s.staying.stayNoted.reforms
    else s.staying := by
  have reason : s.staying.nmReason = 1 := if_pos rfl
  show (if _ then s.staying else if (decide (s.ob Obj.nmState = 3) && decide (s.staying.nmReason ≠ 0)) = true then _ else _) = _
  rw [reason]
  simp
  rfl

/-- The host's hold in each state of the ring (R337, R338). -/
theorem stayHeld (s : State) :
    let t := ({ s with ring := { s.ring with stay := true } } : State).nmRecheck
    t.ring.stay = true ∧ t.reply = s.reply ∧ (s.nmOn = true → s.ob Obj.nmState = 3 → t.ob Obj.nmState = 2 ∧ t.Raised s.now 1043 s.nmSelf) ∧
      (s.nmOn = false ∨ (s.ob Obj.nmState ≠ 3 ∧ s.ob Obj.nmState ≠ 4) → t = s.staying) := by
  intro t
  rw [show t = _ from recheck_staying s]
  split
  · next off => exact ⟨rfl, rfl, fun on => absurd on (by simpa using off), fun _ => rfl⟩
  next on =>
  have on : s.nmOn = true := by simpa using on
  split
  · next prepared =>
    obtain ⟨state, raised, frame, -⟩ := nmCancel_cancels s.staying s.nmSelf
    exact ⟨by rw [frame]; rfl, by rw [frame]; rfl, fun _ _ => ⟨state, raised⟩, fun no => absurd no (by simp [on, prepared])⟩
  next other =>
  split
  · next asleep =>
    obtain ⟨ring, reply⟩ := reforms_keeps s.staying.stayNoted
    obtain ⟨stay, silent⟩ := stayNoted_keeps s.staying
    have four : s.ob Obj.nmState = 4 := by simp_all
    exact ⟨by rw [ring, stay]; rfl, by rw [reply, silent]; rfl, fun _ three => absurd three other, fun no => absurd no (by simp [on, four])⟩
  · exact ⟨rfl, rfl, fun _ three => absurd three other, fun _ => rfl⟩

section
variable {s : State} {h : Nat} {x : Session} (sv : s.Serves h .host x)
include sv

theorem stay_held : ∃ t, exec (.nmHoldStay h) s = .next t ∧ t.ring.stay = true ∧
    (s.nmOn = true → s.ob Obj.nmState = 3 → t.ob Obj.nmState = 2 ∧ t.Raised s.now 1043 s.nmSelf) ∧
    (s.nmOn = false ∨ (s.ob Obj.nmState ≠ 3 ∧ s.ob Obj.nmState ≠ 4) →
      t = { s.served x with ring := { s.ring with stay := true, flag := s.stayFlag } }) := by
  obtain ⟨stay, silent, cancels, idle⟩ := stayHeld (s.asked x)
  refine ⟨_, (exec_nmHoldStay sv).trans (finish_done rfl silent), stay, cancels, fun quiet => ?_⟩
  rw [idle quiet]
  rfl

theorem stay_released : exec (.nmReleaseStay h) s = .next { s.served x with ring := { s.ring with stay := false } } :=
  (exec_nmReleaseStay sv).trans (finish_done rfl rfl)

theorem resumed : ∃ t, exec (.nmResume h) s = .next t ∧
    (s.ob Obj.nmState = 4 → s.nmOn = true → t.ob Obj.nmState = 1 ∧ t.ob Obj.nmLastWakeSource = 4 ∧
      t.ob Obj.nmLastWakeDetail = 0 ∧ t.Raised s.now 1049 0) ∧
    (s.ob Obj.nmState ≠ 4 → s.ring.wakeReason = none → t = s.served x) := by
  by_cases asleep : s.ob Obj.nmState = 4
  · have done : (s.asked x).doNmCmd 3 = .ok ((s.asked x).nmWake 4 0 1049 0) := congrArg Except.ok (if_pos asleep)
    obtain ⟨source, detail, raised, state, wakes, -⟩ := nmWake_wakes (s.asked x) 4 0 1049 0
    have silent : ((s.asked x).nmWake 4 0 1049 0).reply = {} := by
      rw [wakes.frame]
      rfl
    refine ⟨_, (exec_nmResume sv).trans (finish_done done silent), fun _ on => ⟨?_, source, detail, raised⟩, fun no => absurd asleep no⟩
    refine state.trans (if_pos ?_)
    show (s.nmOn && decide (s.ob Obj.nmState = 4)) = true
    rw [on, decide_eq_true asleep]
    rfl
  · have done : (s.asked x).doNmCmd 3 = .ok (s.asked x).hostResumes := congrArg Except.ok (if_neg asleep)
    have talks : Talks [Obj.ownReason] (s.asked x) (s.asked x).hostResumes := .hostResumes (.refl _ _) (by simp)
    have silent : (s.asked x).hostResumes.reply = {} := by
      rw [talks.frame]
      rfl
    refine ⟨_, (exec_nmResume sv).trans (finish_done done silent), fun four => absurd four asleep, fun _ none_ => ?_⟩
    have idle : (s.asked x).hostResumes = s.asked x := by
      unfold hostResumes
      rw [show (s.asked x).ring.wakeReason = none from none_]
    rw [idle]
    rfl

end

end State
end Sys2Proof.Machine

namespace Sys2Proof.Machine

open State in
/-- Settles O50: a ring message, the unit's own times, a wake and NM_CMD each move the ring as their own rule says. -/
theorem ringSleepsAndWakesAsStated : Obligations.RingSleepsAndWakesAsStated := by
  unfold Obligations.RingSleepsAndWakesAsStated
  refine ⟨fun i dlc data s on active joined alone => ?_, fun s on active forms => ⟨fun u turn due => ?_, fun silent => ?_⟩,
    fun i s present clear => ⟨fun other silent => ?_, fun u withheld due => ?_⟩, fun s => ⟨fun prepared due => ?_, fun on limp due => ?_⟩,
    fun c n f s armed w mem => ?_, fun h s x sv => ⟨stay_held sv, stay_released sv, resumed sv⟩⟩
  · have heard := exec_nmRingMessage (i := i) (dlc := dlc) (data := data) on active joined alone
    have other (ok : dlc = 8 ∧ msgType data.toNat ≠ 3 ∧ bitsOf data.toNat 14 2 = 0 ∧ bitsOf data.toNat 56 8 = 0)
        (others : i.val ≠ s.nmSelf) : exec (.nmRingMessage i dlc data) s = .next (s.nmReceive i data.toNat) :=
      heard.trans ((if_neg (by rw [wellFormed_iff.mpr ok]; decide)).trans (if_neg others))
    refine ⟨fun bad => heard.trans (if_pos ?_), fun ok own => ?_, fun ok others awake => ?_, fun ok others asleep => ⟨fun no => ?_, fun host resume => ?_⟩⟩
    · exact Bool.not_eq_false _ ▸ fun good => bad (wellFormed_iff.mp good)
    · rw [heard, if_neg (by rw [wellFormed_iff.mpr ok]; decide), if_pos own, ← own]
      exact ⟨_, rfl, collided s i⟩
    · obtain ⟨present, consent, last, lap, new, hears, cancels, prepares⟩ := messageHeard (i := i) data.toNat awake
      exact ⟨_, other ok others, present, consent, last, lap, new, hears.kept_, hears.switches, cancels, prepares⟩
    · rw [other ok others, nmReceive_asleep asleep no]
    · have wakes := nmReceive_resume asleep resume
      rw [← host] at wakes
      exact ⟨_, other ok others, wakes⟩
  · exact ⟨_, exec_nmRingSend on active forms turn due, turnTaken s⟩
  · have talks : Talks [Obj.ownReason] s s.nmAliveMsg := .nmAliveMsg (.refl _ s) (by simp)
    exact ⟨_, exec_nmAliveTimeout on active forms silent, nmAliveMsg_pends s, nmAliveMsg_frame s, talks.objects⟩
  · exact ⟨_, exec_nmPresentTimeout present other silent, gone clear⟩
  · exact ⟨_, exec_nmKeeper present clear withheld due, keeperNamed s i _⟩
  · rw [exec_nmSleepWaitExpiry prepared due]
    split
    · next reason =>
      obtain ⟨state, raised, frame, talks⟩ := nmCancel_cancels s s.nmSelf
      exact ⟨_, rfl, fun none_ => absurd none_ reason, fun _ => ⟨state, raised, frame, talks.objects⟩⟩
    · next consents => exact ⟨_, rfl, fun _ => slept s, fun reason => absurd reason consents⟩
  · exact ⟨_, exec_nmLimpHomeMessage on limp due, limped limp⟩
  · have small (k : Fin 4) : k.val < 2 ^ 16 := by omega
    simp only [List.mem_cons, List.not_mem_nil, or_false] at mem
    rcases mem with rfl | rfl | rfl | rfl | rfl
    · intro matches_
      exact ⟨_, exec_selectiveWakeFrame armed matches_, wakeTaken (by simp +contextual) (by simp +contextual) 1 1046 (small c)⟩
    · intro edge
      exact ⟨_, exec_wakePinEdge armed (of_decide_eq_true edge), wakeTaken id (fun low _ => low) 2 1047 (small n)⟩
    · intro edge
      exact ⟨_, exec_wakePinEdge armed (of_decide_eq_true edge), wakeTaken id (fun low _ => low) 2 1047 (small n)⟩
    · intro ok
      exact ⟨_, exec_busActivityWake (errors := false) armed (Nat.zero_add _).symm (of_decide_eq_true ok),
        wakeTaken (by simp +contextual) (by simp +contextual) 3 1048 (small c)⟩
    · intro ok
      have fits : 0x8000 + c.val < 2 ^ 16 := by omega
      exact ⟨_, exec_busActivityWake (errors := true) armed rfl (of_decide_eq_true ok),
        wakeTaken (by simp +contextual) (by simp +contextual) 3 1048 fits⟩

end Sys2Proof.Machine

/-!
Releases (R406, R407): the gate of a release closes on an output that is on.
-/

namespace Sys2Proof.Machine
namespace State

/-- The object the model finds for the state of release 5112 is the applied value of DOUT 0. -/
theorem relState_5112_eq_doutAppliedValue : Obj.relState 5112 = Obj.doutAppliedValue 0 := rfl

/-- After reset, with release 0 open at the end of its window, and DOUT 0, which it gates, driven at 10,000. -/
def gatedOutput : State :=
  { (State.reset.setOb (Obj.relState 0) 1).setOb (Obj.doutAppliedValue 0) 10000 with
    cfg := (((State.reset.cfg.write 0 (Obj.relEnable 0) 1).write 0 (Obj.relGateFirst 0) (mkSig clsDOUT 0)).write 0
      (Obj.relGateLast 0) (mkSig clsDOUT 0)).write 0 (Obj.doutEnable 0) 1
    bg := { State.reset.bg with releases := [(0, { open_ := true, windowEnd := some 0 })] } }

/-- DOUT 0's applied value after an outcome. -/
def outputAfter : Host.Outcome State Fault Refusal → Nat
  | .next t => t.ob (Obj.doutAppliedValue 0)
  | _ => 10000

/-- The release closes, so the output is off. -/
theorem outputAfter_gatedOutput : outputAfter (exec (.releaseWindowExpiry 0) gatedOutput) = 0 := by decide +kernel

end State

open State in
/-- Refutes O55: the statement has every other release's state as it was, for every number k and not only for the unit's 16 releases. For k = 5112
the model reads the applied value of DOUT 0 there, and that output, on and gated by release 0, goes off as the release's window
ends (R407). -/
theorem not_burgeeAccessDoesAsStated : ¬ Obligations.BurgeeAccessDoesAsStated := by
  unfold Obligations.BurgeeAccessDoesAsStated
  rintro ⟨-, -, -, -, -, -, -, releases, -⟩
  obtain ⟨-, -, closes⟩ := releases 0 0 gatedOutput { handle := 0, role := .host, hostId := 0, key := 0, opened := 0, last := 0 }
  have open_ : gatedOutput.ob (Obj.relState 0) ≠ 0 := by decide +kernel
  obtain ⟨t, run, -, -, -, -, -, others⟩ :=
    closes (.releaseWindowExpiry 0, ∃ u, (gatedOutput.rel 0).windowEnd = some u ∧ u ≤ gatedOutput.now, 1) (by simp)
      ⟨0, rfl, Nat.zero_le _⟩ open_
  have off : t.ob (Obj.doutAppliedValue 0) = 0 := (congrArg outputAfter run).symm.trans outputAfter_gatedOutput
  have on : gatedOutput.ob (Obj.doutAppliedValue 0) = 10000 := by decide +kernel
  have same : t.ob (Obj.doutAppliedValue 0) = gatedOutput.ob (Obj.doutAppliedValue 0) := others 5112 (by decide)
  exact absurd (off.symm.trans (same.trans on)) (by decide)

end Sys2Proof.Machine

/-!
Activation (R440–R450): UPD_ACTIVATE, and what the image that runs now shows.
-/

namespace Sys2Proof.Machine
namespace State

/-! ## UPD_ACTIVATE (R440) -/

theorem exec_updActivate {h : Nat} {v : BitVec 8} {s : State} {x : Session} (sv : s.Serves h .service x) :
    exec (.updActivate h v) s = (s.asked x).finish ((s.asked x).doUpdActivate h v.toNat) := by
  show execUpdActivate h v s = _
  refine (request_serves sv _ _).trans ?_
  show (s.asked x).finish ((s.asked x).doUpdActivate x.handle v.toNat) = _
  rw [session_handle sv.2.2.1]

/-- Why an activation is refused, the lowest number first (R440). -/
theorem activateCause_eq (s : State) (set : Nat) : s.activateCause set =
    (if ∃ k ∈ kindsOf set, s.ob (Obj.areaState (kindArea k)) ≠ 3 ∨ s.ob (Obj.areaKind (kindArea k)) ≠ k then 2
      else if set ∉ [1, 2, 4, 6, 8] then 3
      else if (if names set 2 then s.header 0 16 2 else s.ob Obj.compatEpoch) <
          (if names set 1 then s.header 2 16 2 else s.ob Obj.epochMin) ∨
        (if names set 1 then s.header 2 18 2 else s.ob Obj.epochMax) <
          (if names set 2 then s.header 0 16 2 else s.ob Obj.compatEpoch) then 4
      else if (if names set 3 then s.header 1 8 4 else s.ob Obj.hoistVersion) <
          (if names set 2 then s.header 0 24 4 else s.ob Obj.hoistMin) ∨
        (if names set 4 then s.header 2 8 4 else s.ob Obj.nodeVersion) <
          (if names set 2 then s.header 0 28 4 else s.ob Obj.nodeMin) then 5
      else if names set 2 ∧ ¬((s.header 0 22 2 ≤ s.ob Obj.configSchema ∧ s.ob Obj.configSchema ≤ s.header 0 20 2) ∨
        (s.header 0 20 2 < s.ob Obj.configSchema ∧ s.upd.keep ≠ none ∧ s.ob Obj.keepSchema = s.header 0 20 2)) then 6
      else if ∃ k ∈ kindsOf set, s.ob (Obj.areaImgSec (kindArea k)) < s.ob (Obj.secMin (k - 1)) then 7
      else if s.upd.accepted ≠ none ∨ s.ob Obj.updState ≠ 0 ∨ s.distributing = true then 8
      else if s.lifecycleOf = 4 then 9 else 1) := by
  have schema : s.schemaOk = true ↔ (s.header 0 22 2 ≤ s.ob Obj.configSchema ∧ s.ob Obj.configSchema ≤ s.header 0 20 2) ∨
      (s.header 0 20 2 < s.ob Obj.configSchema ∧ s.upd.keep ≠ none ∧ s.ob Obj.keepSchema = s.header 0 20 2) := by
    simp [schemaOk, Option.isSome_iff_ne_none, and_assoc]
  have outside : s.schemaOk = false ↔ ¬((s.header 0 22 2 ≤ s.ob Obj.configSchema ∧ s.ob Obj.configSchema ≤ s.header 0 20 2) ∨
      (s.header 0 20 2 < s.ob Obj.configSchema ∧ s.upd.keep ≠ none ∧ s.ob Obj.keepSchema = s.header 0 20 2)) := by
    rw [← schema, Bool.not_eq_true]
  simp [activateCause, after, outside, Option.isSome_iff_ne_none, or_assoc, show kindArea 1 = 2 from rfl,
    show kindArea 2 = 0 from rfl, show kindArea 3 = 1 from rfl, show kindArea 4 = 2 from rfl]

/-- The areas of some kinds in use (R440). -/
def areasTaken (l : List Nat) (s : State) : State := forEach l (fun s k => s.setOb (Obj.areaState (kindArea k)) 5) s

theorem areasTaken_stands (l : List Nat) (s : State) : areasTaken l s = { s with obj := (areasTaken l s).obj } ∧
    ∀ j, (areasTaken l s).ob j = if j ∈ l.map (fun k => Obj.areaState (kindArea k)) then 5 else s.ob j := by
  induction l generalizing s with
  | nil => exact ⟨rfl, fun j => by simp [areasTaken, forEach]⟩
  | cons k l ih =>
    obtain ⟨frame, read⟩ := ih (s.setOb (Obj.areaState (kindArea k)) 5)
    refine ⟨frame, fun j => (read j).trans ?_⟩
    by_cases own : j = Obj.areaState (kindArea k)
    · simp [own]
    · simp [own, Ne.symm own]

/-- An activation that is accepted (R440). -/
def activationTaken (s : State) (set : Nat) : State :=
  let t := areasTaken (kindsOf set) s
  { t with upd := { t.upd with accepted := some set } }

theorem doUpdActivate_reserved {s : State} {h set : Nat} (high : bitsOf set 4 4 ≠ 0) :
    s.doUpdActivate h set = .error .reservedBit := check_error (by simpa using high) ..

theorem doUpdActivate_refused {s : State} {h set : Nat} (low : bitsOf set 4 4 = 0) (stands : s.activateCause set ≠ 1) :
    s.doUpdActivate h set =
      ((s.setSob h Obj.updResult (s.activateCause set)).post 1206 (s.activateCause set)).refused .configInvalid :=
  (check_ok (by simpa using low) ..).trans (if_pos stands)

theorem doUpdActivate_accepted {s : State} {h set : Nat} (low : bitsOf set 4 4 = 0) (free : s.activateCause set = 1) :
    s.doUpdActivate h set = .ok ((s.setSob h Obj.updResult 1).activationTaken set).stagingTouched := by
  refine (check_ok (by simpa using low) ..).trans ((if_neg (not_not.mpr free)).trans ?_)
  rw [free]
  rfl

/-- A set of kinds is below 16. -/
theorem bitsOf_set (v : BitVec 8) : bitsOf v.toNat 4 4 = v.toNat / 16 := by
  have := v.isLt
  unfold bitsOf
  omega

section
variable {h : Nat} {v : BitVec 8} {s : State} {x : Session} (sv : s.Serves h .service x)
include sv

theorem updActivate_reserved (high : 16 ≤ v.toNat) :
    exec (.updActivate h v) s = .next { s.asked x with reply := { status := .reservedBit } } := by
  rw [exec_updActivate sv, doUpdActivate_reserved (by rw [bitsOf_set]; omega)]
  rfl

theorem updActivate_refused (low : v.toNat < 16) (stands : s.activateCause v.toNat ≠ 1) :
    ∃ t, exec (.updActivate h v) s = .next t ∧ t.sob h Obj.updResult = s.activateCause v.toNat ∧
      t.Raised s.now 1206 (s.activateCause v.toNat) ∧
      t = { s.asked x with sessions := t.sessions, fab := t.fab, reply := { status := .configInvalid } } := by
  have same : (s.asked x).activateCause v.toNat = s.activateCause v.toNat := rfl
  have result := sob_setSob_same (asked_session sv) Obj.updResult (s.activateCause v.toNat)
  have frame := setSob_frame (s.asked x) h Obj.updResult (s.activateCause v.toNat)
  rw [exec_updActivate sv, doUpdActivate_refused (by rw [bitsOf_set]; omega) (same ▸ stands), same]
  generalize (s.asked x).setSob h Obj.updResult (s.activateCause v.toNat) = w at result frame
  have now : w.now = s.now := by rw [frame]; rfl
  refine ⟨{ w.post 1206 (s.activateCause v.toNat) with reply := { status := .configInvalid } }, rfl, result, ?_, ?_⟩
  · exact now ▸ raised_post w 1206 (s.activateCause v.toNat)
  · rw [frame]
    rfl

theorem updActivate_accepted (low : v.toNat < 16) (free : s.activateCause v.toNat = 1) :
    ∃ t, exec (.updActivate h v) s = .next t ∧ t.sob h Obj.updResult = 1 ∧ t.upd.accepted = some v.toNat ∧
      (∀ k ∈ kindsOf v.toNat, t.ob (Obj.areaState (kindArea k)) = 5) ∧ t.pw.timers.get? 6 = some (s.now + sec 10) ∧
      bitAt (t.pw.votes.read 0 0) 6 = true ∧ t.upd = { s.upd with accepted := some v.toNat } ∧
      t = { s.served x with sessions := t.sessions, upd := t.upd, obj := t.obj, pw := t.pw } := by
  have result := sob_setSob_same (asked_session sv) Obj.updResult 1
  have frame := setSob_frame (s.asked x) h Obj.updResult 1
  rw [exec_updActivate sv, doUpdActivate_accepted (by rw [bitsOf_set]; omega) (s := s.asked x) free]
  generalize (s.asked x).setSob h Obj.updResult 1 = w at result frame
  obtain ⟨taken, read⟩ := areasTaken_stands (kindsOf v.toNat) w
  unfold activationTaken
  generalize areasTaken (kindsOf v.toNat) w = u at taken read
  dsimp only
  obtain ⟨touched, objects, time, vote⟩ := ({ u with upd := { u.upd with accepted := some v.toNat } } : State).stagingTouched_stays
  generalize ({ u with upd := { u.upd with accepted := some v.toNat } } : State).stagingTouched = y at touched objects time vote
  have now : u.now = s.now := by rw [taken, frame]; rfl
  have upd : y.upd = { s.upd with accepted := some v.toNat } := by rw [touched, taken, frame]; rfl
  refine ⟨{ y with reply := { status := .success } }, finish_done rfl (by rw [touched, taken, frame]; rfl), ?_, ?_, fun k mem => ?_, ?_,
    vote, upd, ?_⟩
  · have sessions : y.sessions = w.sessions := by rw [touched, taken]
    unfold sob session? at result ⊢
    rw [show ({ y with reply := { status := .success } } : State).sessions = w.sessions from sessions]
    exact result
  · exact congrArg Update.accepted upd
  · refine (objects _ ?_).trans ((read _).trans (if_pos (List.mem_map_of_mem mem)))
    exact areaObject_not_voteObject (by unfold kindArea; split <;> (try split) <;> omega) (by decide)
  · exact time.trans (congrArg (fun n => some (n + sec 10)) now)
  · rw [touched, taken, frame]
    rfl

end
end State
end Sys2Proof.Machine

/-!
The image that runs now (R440–R443): what it shows, and how an activation ends.
-/

namespace Sys2Proof.Machine
namespace State

/-! ## Objects written one after another -/

/-- Objects that take their values one after another. -/
def shown (l : List (Nat × Nat)) (s : State) : State := forEach l (fun s w => s.setOb w.1 w.2) s

theorem shown_stands (l : List (Nat × Nat)) (s : State) : shown l s = { s with obj := (shown l s).obj } ∧
    ((l.map (·.1)).Nodup → ∀ w ∈ l, (shown l s).ob w.1 = w.2) ∧ s.ObjectsBut (shown l s) (l.map (·.1)) := by
  induction l generalizing s with
  | nil => exact ⟨rfl, fun _ _ mem => absurd mem List.not_mem_nil, fun _ _ => rfl⟩
  | cons v l ih =>
    obtain ⟨frame, read, other⟩ := ih (s.setOb v.1 v.2)
    refine ⟨frame, fun once w mem => ?_, fun j free => ?_⟩
    · obtain ⟨fresh, once⟩ := List.nodup_cons.mp once
      rcases List.mem_cons.mp mem with rfl | mem
      · exact (other _ fresh).trans (ob_setOb_same ..)
      · exact read once w mem
    · obtain ⟨first, rest⟩ := not_or.mp fun is => free (List.mem_cons.mpr is)
      exact (other j rest).trans (ob_setOb_other s _ (Ne.symm first))

/-! ## The image that runs (R440, R441) -/

/-- The objects an image shows once it runs, each with the place and the length of its value in the header. -/
def imageFields : Nat → List (Nat × Nat × Nat)
  | 1 => [(Obj.ensignVersion, 8, 4), (Obj.epochMin, 16, 2), (Obj.epochMax, 18, 2)]
  | 2 => [(Obj.mastVersion, 8, 4), (Obj.compatEpoch, 16, 2), (Obj.schemaVersion, 20, 2), (Obj.migrateFrom, 22, 2),
      (Obj.hoistMin, 24, 4), (Obj.nodeMin, 28, 4)]
  | 3 => [(Obj.hoistVersion, 8, 4)]
  | _ => [(Obj.nodeVersion, 8, 4)]

/-- Every object that an image moves once it runs. -/
def imageObjects (k : Nat) : List Nat := Obj.areaState (kindArea k) :: Obj.unconfirmed :: (imageFields k).map (·.1)

/-- An image before its fields are shown: its area is verified and activated, and it is unconfirmed. -/
def imageRuns (s : State) (k : Nat) : State :=
  let a := kindArea k
  let t := (s.setOb (Obj.areaState a) 3).setArea a { s.area a with activated := true }
  ({ t with upd := { t.upd with running := t.upd.running.put k (t.header a 6 2) } } : State).setBit Obj.unconfirmed (k - 1) true

theorem header_of_blocks {s t : State} {a : Nat} (same : (t.area a).blocks = (s.area a).blocks) (o n : Nat) :
    t.header a o n = s.header a o n := by
  unfold header
  rw [same]

theorem blocks_imageRuns (s : State) (k c : Nat) : ((s.imageRuns k).area c).blocks = (s.area c).blocks := by
  show (((s.setOb (Obj.areaState (kindArea k)) 3).setArea (kindArea k)
    { s.area (kindArea k) with activated := true }).area c).blocks = _
  by_cases same : c = kindArea k
  · rw [same, area_setArea_same]
  · rw [area_setArea_other _ _ same]
    rfl

/-- The values that the fields of an image show. -/
def fieldValues (s : State) (k : Nat) : List (Nat × Nat) :=
  (imageFields k).map fun w => (w.1, s.header (kindArea k) w.2.1 w.2.2)

theorem runImage_eq (s : State) {k : Nat} (known : k ∈ [1, 2, 3, 4]) : s.runImage k = shown (s.fieldValues k) (s.imageRuns k) := by
  have same (a o n : Nat) : (s.imageRuns k).header a o n = s.header a o n := header_of_blocks (blocks_imageRuns ..) o n
  simp only [List.mem_cons, List.not_mem_nil, or_false] at known
  rcases known with rfl | rfl | rfl | rfl
  · show shown [(Obj.ensignVersion, s.header 2 8 4), (Obj.epochMin, (s.imageRuns 1).header 2 16 2),
      (Obj.epochMax, (s.imageRuns 1).header 2 18 2)] (s.imageRuns 1) = _
    rw [same, same]
    rfl
  · show shown [(Obj.mastVersion, s.header 0 8 4), (Obj.compatEpoch, (s.imageRuns 2).header 0 16 2),
      (Obj.schemaVersion, (s.imageRuns 2).header 0 20 2), (Obj.migrateFrom, (s.imageRuns 2).header 0 22 2),
      (Obj.hoistMin, (s.imageRuns 2).header 0 24 4), (Obj.nodeMin, (s.imageRuns 2).header 0 28 4)] (s.imageRuns 2) = _
    rw [same, same, same, same, same]
    rfl
  · rfl
  · rfl

theorem fieldNames_nodup : ∀ k ∈ [1, 2, 3, 4], ((imageFields k).map (·.1)).Nodup := by decide

/-- The fields of an image are none of the objects that every image moves. -/
theorem fieldNames_apart : ∀ k ∈ [1, 2, 3, 4], Obj.unconfirmed ≠ Obj.areaState (kindArea k) ∧
    Obj.areaState (kindArea k) ∉ (imageFields k).map (·.1) ∧ Obj.unconfirmed ∉ (imageFields k).map (·.1) := by decide

theorem names_fieldValues (s : State) (k : Nat) : (s.fieldValues k).map (·.1) = (imageFields k).map (·.1) := by
  simp [fieldValues]

/-- `t` is `s` with the image of kind `k` running. -/
structure Runs (s t : State) (k : Nat) : Prop where
  frame : t = { s with upd := t.upd, obj := t.obj }
  upd : t.upd = { s.upd with areas := t.upd.areas, running := t.upd.running }
  blocks : ∀ c, (t.area c).blocks = (s.area c).blocks
  activated : (t.area (kindArea k)).activated = true
  state : t.ob (Obj.areaState (kindArea k)) = 3
  unconfirmed : t.bit Obj.unconfirmed (k - 1) = true
  fields : ∀ w ∈ imageFields k, t.ob w.1 = s.header (kindArea k) w.2.1 w.2.2
  objects : s.ObjectsBut t (imageObjects k)

theorem imageRuns_stands (s : State) {k : Nat} (known : k ∈ [1, 2, 3, 4]) :
    s.imageRuns k = { s with upd := (s.imageRuns k).upd, obj := (s.imageRuns k).obj } ∧
      (s.imageRuns k).upd = { s.upd with areas := (s.imageRuns k).upd.areas, running := (s.imageRuns k).upd.running } ∧
      ((s.imageRuns k).area (kindArea k)).activated = true ∧ (s.imageRuns k).ob (Obj.areaState (kindArea k)) = 3 ∧
      (s.imageRuns k).bit Obj.unconfirmed (k - 1) = true ∧
      s.ObjectsBut (s.imageRuns k) [Obj.areaState (kindArea k), Obj.unconfirmed] := by
  have apart := (fieldNames_apart k known).1
  refine ⟨rfl, rfl, ?_, ?_, bit_setBit_same .., fun j free => ?_⟩
  · exact congrArg StageArea.activated (area_setArea_same ..)
  · exact (ob_setOb_other _ _ apart).trans (ob_setOb_same ..)
  · obtain ⟨state, rest⟩ := not_or.mp fun is => free (List.mem_cons.mpr is)
    exact (ob_setOb_other _ _ (Ne.symm fun is => rest (by rw [is]; exact List.mem_cons_self))).trans
      (ob_setOb_other _ _ (Ne.symm state))

theorem runImage_runs (s : State) {k : Nat} (known : k ∈ [1, 2, 3, 4]) : s.Runs (s.runImage k) k := by
  obtain ⟨frame, upd, activated, state, unconfirmed, objects⟩ := imageRuns_stands s known
  have blocks := blocks_imageRuns s k
  obtain ⟨shows, values, other⟩ := shown_stands (s.fieldValues k) (s.imageRuns k)
  have values := values (by rw [names_fieldValues]; exact fieldNames_nodup k known)
  have apart := (fieldNames_apart k known).2
  rw [names_fieldValues] at other
  rw [runImage_eq s known]
  generalize s.imageRuns k = t at frame upd activated state unconfirmed objects blocks shows values other
  generalize shown (s.fieldValues k) t = u at shows values other
  have uupd : u.upd = t.upd := by rw [shows]
  have area (c : Nat) : u.area c = t.area c := by unfold State.area; rw [uupd]
  refine ⟨by rw [shows, frame], ?_, fun c => by rw [area, blocks], by rw [area]; exact activated, (other _ apart.1).trans state, ?_,
    fun w mem => ?_, fun j free => ?_⟩
  · rw [uupd]
    exact upd
  · exact (congrArg (bitAt · (k - 1)) (other _ apart.2)).trans unconfirmed
  · exact values _ (List.mem_map_of_mem (f := fun w => (w.1, s.header (kindArea k) w.2.1 w.2.2)) mem)
  · have outside : j ∉ [Obj.areaState (kindArea k), Obj.unconfirmed] ∧ j ∉ (imageFields k).map (·.1) := by
      simp only [imageObjects, List.mem_cons, not_or] at free
      simp [free]
    exact (other j outside.2).trans (objects j outside.1)

theorem runImages_one (s : State) {set k : Nat} (one : kindsOf set = [k]) : s.runImages set = s.runImage k := by
  unfold runImages
  rw [one]
  rfl

theorem Runs.header {s t : State} {k : Nat} (r : s.Runs t k) (a o n : Nat) : t.header a o n = s.header a o n :=
  header_of_blocks (r.blocks a) o n
theorem Runs.now {s t : State} {k : Nat} (r : s.Runs t k) : t.now = s.now := by rw [r.frame]; rfl
theorem Runs.fab {s t : State} {k : Nat} (r : s.Runs t k) : t.fab = s.fab := by rw [r.frame]

/-! ## The end of an activation (R440) -/

/-- The record of an activation cleared, and EV1205. -/
def concluded (s : State) (set : Nat) : State :=
  (({ s with upd := { s.upd with accepted := none, record := 0 } } : State).setOb Obj.updState 0).post 1205 set

theorem voted_activated (s : State) (set : Nat) : (s.concluded set).Voted (s.activated set) := voted_updVote ..

/-- `t` is `s` with an activation of `set` at its end. -/
structure Ends (s t : State) (set : Nat) : Prop where
  frame : t = { s with upd := t.upd, obj := t.obj, fab := t.fab, pw := t.pw }
  upd : t.upd = { s.upd with accepted := none, record := 0 }
  state : t.ob Obj.updState = 0
  told : t.Raised s.now 1205 set
  events : s.fab.inFlight ⊆ t.fab.inFlight
  objects : s.ObjectsBut t (Obj.updState :: voteObjects)

theorem activated_ends (s : State) (set : Nat) : s.Ends (s.activated set) set := by
  have told := raised_post (({ s with upd := { s.upd with accepted := none, record := 0 } } : State).setOb Obj.updState 0) 1205 set
  have votes := voted_activated s set
  have fab : (s.activated set).fab = (s.concluded set).fab := votes.fab
  have state : (s.concluded set).ob Obj.updState = 0 := by
    unfold concluded
    rw [ob_post, ob_setOb_same]
  have closed : s.concluded set = { s with upd := (s.concluded set).upd, obj := (s.concluded set).obj, fab := (s.concluded set).fab } := rfl
  refine ⟨?_, votes.upd, (votes.ob (by decide) (by decide)).trans state, ?_, ?_, fun j free => ?_⟩
  · rw [votes.frame, closed]
  · show _ ∈ (s.activated set).fab.inFlight
    rw [fab]
    exact told
  · rw [fab]
    exact List.subset_append_left _ _
  · obtain ⟨state, rest⟩ := not_or.mp fun is => free (List.mem_cons.mpr is)
    refine (votes.objects j rest).trans ?_
    unfold concluded
    exact (ob_post ..).trans (ob_setOb_other _ _ (Ne.symm state))

theorem Ends.area {s t : State} {set : Nat} (e : s.Ends t set) (a : Nat) : t.area a = s.area a := by
  unfold State.area
  rw [e.upd]
theorem Ends.now {s t : State} {set : Nat} (e : s.Ends t set) : t.now = s.now := by rw [e.frame]; rfl
theorem Ends.bit {s t : State} {set : Nat} (e : s.Ends t set) {k : Nat} (free : k ∉ Obj.updState :: voteObjects) (i : Nat) :
    t.bit k i = s.bit k i := congrArg (bitAt · i) (e.objects k free)

/-! ## When an activation may begin (R440, R442) -/

theorem mayActivate_some {s : State} {set : Nat} {sets : List Nat} (taken : s.upd.accepted = some set) (mem : set ∈ sets)
    (applied : s.applied = true) (durable : s.commits = []) (between : s.sweepsRun = false ∨ s.eng.segment = 0) :
    s.mayActivate sets = some set := by
  unfold mayActivate
  rw [taken]
  simp [applied, durable, mem, between]

theorem mayActivate_none {s : State} (none_ : s.upd.accepted = none) (sets : List Nat) : s.mayActivate sets = none := by
  unfold mayActivate
  rw [none_]

/-- Nothing is activated where no activation is accepted. -/
theorem activation_idle {s : State} (none_ : s.upd.accepted = none) :
    ∀ c ∈ [Instr.mastActivation 0 none, .ensignActivation, .updateRestart, .nodeActivation], exec c s = .next s := by
  intro c mem
  simp only [List.mem_cons, List.not_mem_nil, or_false] at mem
  rcases mem with rfl | rfl | rfl | rfl
  · show execMastActivation 0 none s = _
    unfold execMastActivation
    rw [mayActivate_none none_]
  · show execEnsignActivation s = _
    unfold execEnsignActivation
    rw [mayActivate_none none_]
  · show execUpdateRestart s = _
    unfold execUpdateRestart
    rw [mayActivate_none none_]
  · show execNodeActivation s = _
    unfold execNodeActivation
    rw [mayActivate_none none_]

/-! ## ENSIGN (R443) -/

/-- An ENSIGN activation: a pause of nothing but the update. -/
theorem ensignActivation_activates {s : State} (applied : s.applied = true) (durable : s.commits = [])
    (between : s.sweepsRun = false ∨ s.eng.segment = 0) (taken : s.upd.accepted = some 1) :
    ∃ t, exec .ensignActivation s = .next t ∧ t.ob Obj.updState = 0 ∧ t.upd.accepted = none ∧
      t.upd.record = 0 ∧ t.ob (Obj.areaState 2) = 3 ∧ (t.area 2).activated = true ∧ t.bit Obj.unconfirmed 0 = true ∧
      t.ob Obj.ensignVersion = s.header 2 8 4 ∧ t.ob Obj.epochMin = s.header 2 16 2 ∧ t.ob Obj.epochMax = s.header 2 18 2 ∧
      t.Raised s.now 1204 1 ∧ t.Raised s.now 1205 1 ∧ t = { s with upd := t.upd, obj := t.obj, fab := t.fab, pw := t.pw } := by
  have done : exec .ensignActivation s = .next (((s.post 1204 1).runImages 1).activated 1) := by
    show execEnsignActivation s = _
    unfold execEnsignActivation
    rw [mayActivate_some taken (by decide) applied durable between]
  have told := raised_post s 1204 1
  rw [runImages_one _ (show kindsOf 1 = [1] by decide)] at done
  have runs := runImage_runs (s.post 1204 1) (k := 1) (by decide)
  have ends := activated_ends ((s.post 1204 1).runImage 1) 1
  generalize ((s.post 1204 1).runImage 1).activated 1 = t at done ends
  generalize (s.post 1204 1).runImage 1 = u at runs ends
  have field {w : Nat × Nat × Nat} (mem : w ∈ imageFields 1) (free : w.1 ∉ Obj.updState :: voteObjects) :
      t.ob w.1 = s.header 2 w.2.1 w.2.2 := (ends.objects _ free).trans (runs.fields w mem)
  have now : u.now = s.now := runs.now
  have telling := ends.told
  rw [now] at telling
  refine ⟨t, done, ends.state, by rw [ends.upd], by rw [ends.upd], (ends.objects _ (by decide)).trans runs.state, ?_,
    (ends.bit (by decide) 0).trans runs.unconfirmed, field (w := (Obj.ensignVersion, 8, 4)) (by decide) (by decide),
    field (w := (Obj.epochMin, 16, 2)) (by decide) (by decide), field (w := (Obj.epochMax, 18, 2)) (by decide) (by decide),
    ends.events ?_, telling, ?_⟩
  · rw [ends.area]
    exact runs.activated
  · rw [runs.fab]
    exact told
  · rw [ends.frame, runs.frame]
    rfl

end State
end Sys2Proof.Machine

/-!
Node distribution (R448–R450).
-/

namespace Sys2Proof.Machine
namespace State

/-! ## The objects of a distribution -/

/-- The objects of the distribution on a port. -/
def nodeObjects (p : Nat) : List Nat := [Obj.ndState p, Obj.ndPass p, Obj.ndUpdated p, Obj.ndLeft p]

theorem ndState_mem (p : Nat) : Obj.ndState p ∈ nodeObjects p := by simp [nodeObjects]
theorem ndPass_mem (p : Nat) : Obj.ndPass p ∈ nodeObjects p := by simp [nodeObjects]
theorem ndUpdated_mem (p : Nat) : Obj.ndUpdated p ∈ nodeObjects p := by simp [nodeObjects]
theorem ndLeft_mem (p : Nat) : Obj.ndLeft p ∈ nodeObjects p := by simp [nodeObjects]

theorem mem_nodeObjects {j p : Nat} (mem : j ∈ nodeObjects p) : ∃ a < 256, j = key (0x1F30 + p) a := by
  simp only [nodeObjects, List.mem_cons, List.not_mem_nil, or_false] at mem
  rcases mem with rfl | rfl | rfl | rfl
  · exact ⟨1, by decide, rfl⟩
  · exact ⟨2, by decide, rfl⟩
  · exact ⟨3, by decide, rfl⟩
  · exact ⟨4, by decide, rfl⟩

/-- An object of another index is none of a port's. -/
theorem not_nodeObject {i a p : Nat} (other : i ≠ 0x1F30 + p) (sub : a < 256) : key i a ∉ nodeObjects p := by
  intro mem
  obtain ⟨b, small, is⟩ := mem_nodeObjects mem
  unfold key at is
  omega

@[simp] theorem distributes_setOb (s : State) (k v p : Nat) : (s.setOb k v).distributes p = s.distributes p := rfl
@[simp] theorem distributes_post (s : State) (ev v p : Nat) : (s.post ev v).distributes p = s.distributes p := rfl

theorem distributes_setDistribution_same (s : State) (p : Nat) (on : Bool) : (s.setDistribution p on).distributes p = on :=
  congrArg Distribution.running (Table.read_write_same ..)
theorem distributes_setDistribution_other (s : State) {p q : Nat} (on : Bool) (other : q ≠ p) :
    (s.setDistribution p on).distributes q = s.distributes q :=
  congrArg Distribution.running (Table.read_write_other _ _ _ _ (Ne.symm other))

/-! ## A port begins to distribute (R448) -/

/-- A distribution begun on a port. -/
def distributed (s : State) (p : Nat) : State :=
  ((((((s.setDistribution p true).setOb (Obj.ndState p) 1).setOb (Obj.ndPass p) 1).setOb (Obj.ndUpdated p) 0).setOb (Obj.ndLeft p)
    (s.ob (Obj.bpNodeCount p))).post 1211 p)

theorem distribute_starts {s : State} {p : Nat} (runs : s.ob (Obj.bpState p) = 2) (idle : s.distributes p = false) :
    s.distribute p = s.distributed p := by
  unfold distribute
  rw [if_neg (by simp [runs, idle])]
  rfl

theorem distribute_stays {s : State} {p : Nat} (not : s.ob (Obj.bpState p) ≠ 2 ∨ s.distributes p = true) : s.distribute p = s := by
  unfold distribute
  exact if_pos (by simpa using not)

/-- What a begun distribution shows. -/
structure Begun (s t : State) (p : Nat) : Prop where
  running : t.distributes p = true
  state : t.ob (Obj.ndState p) = 1
  pass : t.ob (Obj.ndPass p) = 1
  updated : t.ob (Obj.ndUpdated p) = 0
  left : t.ob (Obj.ndLeft p) = s.ob (Obj.bpNodeCount p)
  told : t.Raised s.now 1211 p

/-- `t` is `s` with nothing moved but distributions, objects and events told. -/
structure Spreads (s t : State) : Prop where
  frame : t = { s with upd := t.upd, obj := t.obj, fab := t.fab }
  upd : t.upd = { s.upd with ports := t.upd.ports }
  events : s.fab.inFlight ⊆ t.fab.inFlight

theorem Spreads.refl (s : State) : s.Spreads s := ⟨rfl, rfl, fun _ h => h⟩
theorem Spreads.trans {s t u : State} (h : s.Spreads t) (k : t.Spreads u) : s.Spreads u where
  frame := by rw [k.frame, h.frame]
  upd := by rw [k.upd, h.upd]
  events := fun _ is => k.events (h.events is)
theorem Spreads.now {s t : State} (h : s.Spreads t) : t.now = s.now := by rw [h.frame]; rfl
theorem Spreads.setOb {s t : State} (h : s.Spreads t) (k v : Nat) : s.Spreads (t.setOb k v) := h.trans ⟨rfl, rfl, fun _ h => h⟩
theorem Spreads.post {s t : State} (h : s.Spreads t) (ev v : Nat) : s.Spreads (t.post ev v) :=
  h.trans ⟨rfl, rfl, List.subset_append_left _ _⟩
theorem Spreads.setDistribution {s t : State} (h : s.Spreads t) (p : Nat) (on : Bool) : s.Spreads (t.setDistribution p on) :=
  h.trans ⟨rfl, rfl, fun _ h => h⟩
theorem Spreads.ite {s t u : State} {c : Prop} [Decidable c] (h : s.Spreads t) (k : s.Spreads u) : s.Spreads (if c then t else u) := by
  split
  · exact h
  · exact k

theorem distributed_begun (s : State) (p : Nat) : s.Spreads (s.distributed p) ∧ s.Begun (s.distributed p) p ∧
    s.ObjectsBut (s.distributed p) (nodeObjects p) ∧ ∀ q, q ≠ p → (s.distributed p).distributes q = s.distributes q := by
  have told := raised_post (((((s.setDistribution p true).setOb (Obj.ndState p) 1).setOb (Obj.ndPass p) 1).setOb (Obj.ndUpdated p) 0).setOb
    (Obj.ndLeft p) (s.ob (Obj.bpNodeCount p))) 1211 p
  refine ⟨(((((Spreads.refl s).setDistribution p true).setOb _ _).setOb _ _).setOb _ _).setOb _ _ |>.post _ _, ⟨distributes_setDistribution_same .., ?_, ?_, ?_, ?_, told⟩, fun j free => ?_,
    fun q other => distributes_setDistribution_other s true other⟩
  · simp [distributed, Obj.ndState, Obj.ndPass, Obj.ndUpdated, Obj.ndLeft]
  · simp [distributed, Obj.ndPass, Obj.ndUpdated, Obj.ndLeft]
  · simp [distributed, Obj.ndUpdated, Obj.ndLeft]
  · simp [distributed]
  · simp only [nodeObjects, List.mem_cons, List.not_mem_nil, or_false, not_or] at free
    obtain ⟨state, pass, updated, left⟩ := free
    unfold distributed
    rw [ob_post, ob_setOb_other _ _ (Ne.symm left), ob_setOb_other _ _ (Ne.symm updated), ob_setOb_other _ _ (Ne.symm pass),
      ob_setOb_other _ _ (Ne.symm state)]
    rfl

/-! ## A distribution on every port that is chosen (R448) -/

/-- A port that is chosen begins to distribute where it can. -/
def distributeIf (chosen : Nat → Bool) (s : State) (p : Nat) : State := if chosen p = true then s.distribute p else s

/-- A port on which a distribution begins. -/
def starts (s : State) (chosen : Nat → Bool) (p : Nat) : Prop :=
  chosen p = true ∧ s.ob (Obj.bpState p) = 2 ∧ s.distributes p = false

theorem distributeIf_starts {s : State} {chosen : Nat → Bool} {p : Nat} (st : s.starts chosen p) :
    distributeIf chosen s p = s.distributed p := (if_pos st.1).trans (distribute_starts st.2.1 st.2.2)

theorem distributeIf_stays {s : State} {chosen : Nat → Bool} {p : Nat} (not : ¬ s.starts chosen p) : distributeIf chosen s p = s := by
  unfold distributeIf
  split
  · rename_i is
    refine distribute_stays ?_
    by_contra no
    obtain ⟨runs, idle⟩ := not_or.mp no
    exact not ⟨is, not_not.mp runs, Bool.eq_false_iff.mpr idle⟩
  · rfl

/-- What a distribution leaves on a port. -/
structure Same (s t : State) (p : Nat) : Prop where
  running : t.distributes p = s.distributes p
  objects : ∀ j ∈ nodeObjects p, t.ob j = s.ob j

/-- After the first `n` ports have been asked. -/
structure SpreadTo (chosen : Nat → Bool) (n : Nat) (s t : State) : Prop where
  spreads : s.Spreads t
  begun : ∀ p < n, s.starts chosen p → s.Begun t p
  same : ∀ p, n ≤ p ∨ ¬ s.starts chosen p → s.Same t p
  objects : ∀ j, (∀ p < n, j ∉ nodeObjects p) → t.ob j = s.ob j

theorem starts_congr {s t : State} {chosen : Nat → Bool} {p : Nat} (state : t.ob (Obj.bpState p) = s.ob (Obj.bpState p))
    (running : t.distributes p = s.distributes p) : t.starts chosen p ↔ s.starts chosen p := by
  unfold starts
  rw [state, running]

/-- The record of a bunting port is no object of a distribution. -/
theorem ob_bunting {chosen : Nat → Bool} {n : Nat} {s t : State} (few : n ≤ 8) (h : SpreadTo chosen n s t) {p a : Nat} (sub : a < 256) :
    t.ob (key (0x5001 + 0x20 * p) a) = s.ob (key (0x5001 + 0x20 * p) a) :=
  h.objects _ fun _ _ => not_nodeObject (by omega) sub

theorem distributed_other {p q : Nat} (other : q ≠ p) {j : Nat} (mem : j ∈ nodeObjects q) : j ∉ nodeObjects p := by
  obtain ⟨a, sub, rfl⟩ := mem_nodeObjects mem
  exact not_nodeObject (by omega) sub

theorem spread_upto (chosen : Nat → Bool) (s : State) {n : Nat} (few : n ≤ 8) :
    SpreadTo chosen n s (forRange n (distributeIf chosen) s) := by
  induction n with
  | zero => exact ⟨.refl s, fun p low => absurd low (Nat.not_lt_zero p), fun p _ => ⟨rfl, fun _ _ => rfl⟩, fun _ _ => rfl⟩
  | succ n ih =>
    have ih := ih (by omega)
    rw [forRange_succ]
    generalize forRange n (distributeIf chosen) s = u at ih
    have state : u.ob (Obj.bpState n) = s.ob (Obj.bpState n) := ob_bunting (by omega) ih (by decide)
    have count : u.ob (Obj.bpNodeCount n) = s.ob (Obj.bpNodeCount n) := ob_bunting (by omega) ih (by decide)
    have untouched := ih.same n (.inl le_rfl)
    have starts : u.starts chosen n ↔ s.starts chosen n := starts_congr state untouched.running
    by_cases st : u.starts chosen n
    · rw [distributeIf_starts st]
      obtain ⟨spreads, begun, objects, others⟩ := u.distributed_begun n
      generalize u.distributed n = t at spreads begun objects others
      have keeps {p : Nat} (other : p ≠ n) : u.Same t p := ⟨others p other, fun j mem => objects j (distributed_other other mem)⟩
      refine ⟨ih.spreads.trans spreads, fun p low stp => ?_, fun p stays => ?_, fun j free => ?_⟩
      · by_cases last : p = n
        · subst last
          exact ⟨begun.running, begun.state, begun.pass, begun.updated, begun.left.trans count, by
            have told := begun.told
            rwa [ih.spreads.now] at told⟩
        · have was := ih.begun p (by omega) stp
          have keep := keeps last
          exact ⟨keep.running.trans was.running, (keep.objects _ (ndState_mem p)).trans was.state,
            (keep.objects _ (ndPass_mem p)).trans was.pass, (keep.objects _ (ndUpdated_mem p)).trans was.updated,
            (keep.objects _ (ndLeft_mem p)).trans was.left, spreads.events was.told⟩
      · have other : p ≠ n := by
          rintro rfl
          exact stays.elim (by omega) (fun no => no (starts.mp st))
        have was := ih.same p (stays.imp_left (by omega))
        have keep := keeps other
        exact ⟨keep.running.trans was.running, fun j mem => (keep.objects j mem).trans (was.objects j mem)⟩
      · exact (objects j (free n (by omega))).trans (ih.objects j fun p low => free p (by omega))
    · rw [distributeIf_stays st]
      refine ⟨ih.spreads, fun p low stp => ?_, fun p stays => ?_, fun j free => ih.objects j fun p low => free p (by omega)⟩
      · have other : p ≠ n := by
          rintro rfl
          exact st (starts.mpr stp)
        exact ih.begun p (by omega) stp
      · by_cases last : p = n
        · exact last ▸ untouched
        · exact ih.same p (stays.imp_left (by omega))

/-! ## UPD_STATE of the distributions (R448) -/

/-- UPD_STATE as distributions run. -/
def distributionShown (s : State) : State := s.setOb Obj.updState (if s.distributing then 3 else 0)

theorem voted_showDistribution (s : State) : s.distributionShown.Voted s.showDistribution := voted_updVote ..

/-- `t` is `s` with UPD_STATE and the votes as its distributions run. -/
structure Told (s t : State) : Prop where
  frame : t = { s with obj := t.obj, pw := t.pw }
  state : t.ob Obj.updState = if t.distributing then 3 else 0
  objects : s.ObjectsBut t (Obj.updState :: voteObjects)

theorem showDistribution_told (s : State) : s.Told s.showDistribution := by
  have votes := voted_showDistribution s
  have frame : s.distributionShown = { s with obj := s.distributionShown.obj } := rfl
  have state : s.distributionShown.ob Obj.updState = if s.distributing then 3 else 0 := ob_setOb_same ..
  have upd : s.showDistribution.upd = s.upd := votes.upd
  have running : s.showDistribution.distributing = s.distributing := by
    unfold distributing distributes
    rw [upd]
  refine ⟨by rw [votes.frame, frame], ?_, fun j free => ?_⟩
  · rw [running]
    exact (votes.ob (by decide) (by decide)).trans state
  · obtain ⟨own, rest⟩ := not_or.mp fun is => free (List.mem_cons.mpr is)
    exact (votes.objects j rest).trans (ob_setOb_other _ _ (Ne.symm own))

theorem Told.upd {s t : State} (h : s.Told t) : t.upd = s.upd := by rw [h.frame]
theorem Told.fab {s t : State} (h : s.Told t) : t.fab = s.fab := by rw [h.frame]
theorem Told.raised {s t : State} (h : s.Told t) {at_ : Tick} {ev v : Nat} (is : s.Raised at_ ev v) : t.Raised at_ ev v := by
  unfold Raised
  rw [h.fab]
  exact is
theorem Told.distributes {s t : State} (h : s.Told t) (p : Nat) : t.distributes p = s.distributes p := by
  unfold State.distributes
  rw [h.upd]

/-- A port's objects are none of UPD_STATE and the votes. -/
theorem nodeObject_told {p j : Nat} (small : p < 8) (mem : j ∈ nodeObjects p) : j ∉ Obj.updState :: voteObjects := by
  obtain ⟨a, sub, rfl⟩ := mem_nodeObjects mem
  simp only [List.mem_cons, not_or]
  refine ⟨?_, not_voteObject (by omega) sub⟩
  unfold Obj.updState key
  omega

theorem Told.ob {s t : State} (h : s.Told t) {p j : Nat} (small : p < 8) (mem : j ∈ nodeObjects p) : t.ob j = s.ob j :=
  h.objects j (nodeObject_told small mem)

end State
end Sys2Proof.Machine

/-!
NODE activations, UPD_NODE_RUN, the passes of a distribution, and a node that switches (R448–R450).
-/

namespace Sys2Proof.Machine
namespace State

/-! ## Distributions begun and shown (R448) -/

/-- Distributions begun on the ports that are chosen, and UPD_STATE with them. -/
def distributions (chosen : Nat → Bool) (s : State) : State := (forRange 8 (distributeIf chosen) s).showDistribution

/-- What it leaves and shows. -/
structure Distributes (chosen : Nat → Bool) (s t : State) : Prop where
  frame : t = { s with upd := t.upd, obj := t.obj, fab := t.fab, pw := t.pw }
  upd : t.upd = { s.upd with ports := t.upd.ports }
  events : s.fab.inFlight ⊆ t.fab.inFlight
  state : t.ob Obj.updState = if t.distributing then 3 else 0
  begun : ∀ p < 8, s.starts chosen p → s.Begun t p
  same : ∀ p < 8, ¬ s.starts chosen p → s.Same t p
  objects : ∀ j, (∀ p < 8, j ∉ nodeObjects p) → j ∉ Obj.updState :: voteObjects → t.ob j = s.ob j

theorem distributions_distributes (chosen : Nat → Bool) (s : State) : s.Distributes chosen (distributions chosen s) := by
  have spread := spread_upto chosen s (n := 8) le_rfl
  unfold distributions
  generalize forRange 8 (distributeIf chosen) s = u at spread
  have told := u.showDistribution_told
  generalize u.showDistribution = t at told
  refine ⟨by rw [told.frame, spread.spreads.frame], by rw [told.upd, spread.spreads.upd], by rw [told.fab]; exact spread.spreads.events,
    told.state, fun p small st => ?_, fun p small no => ?_, fun j free apart => (told.objects j apart).trans (spread.objects j free)⟩
  · have was := spread.begun p small st
    have known (j : Nat) (mem : j ∈ nodeObjects p) : t.ob j = u.ob j := told.ob small mem
    exact ⟨(told.distributes p).trans was.running, (known _ (ndState_mem p)).trans was.state, (known _ (ndPass_mem p)).trans was.pass,
      (known _ (ndUpdated_mem p)).trans was.updated, (known _ (ndLeft_mem p)).trans was.left, told.raised was.told⟩
  · have was := spread.same p (.inr no)
    exact ⟨(told.distributes p).trans was.running, fun j mem => (told.ob small mem).trans (was.objects j mem)⟩

/-- Every port is asked in a NODE activation. -/
theorem distributions_all (s : State) : (forRange 8 distribute s).showDistribution = distributions (fun _ => true) s := by
  have asked : distributeIf (fun _ => true) = distribute := by
    funext s p
    exact if_pos rfl
  unfold distributions
  rw [asked]

/-- What a command that begins distributions gives for a port of the state `s` before it. -/
def Distributed (chosen : Nat → Bool) (s t : State) (p : Nat) : Prop :=
  (chosen p = true → s.ob (Obj.bpState p) = 2 → s.distributes p = false → t.distributes p = true ∧
    t.ob (Obj.ndState p) = 1 ∧ t.ob (Obj.ndPass p) = 1 ∧ t.ob (Obj.ndUpdated p) = 0 ∧
    t.ob (Obj.ndLeft p) = s.ob (Obj.bpNodeCount p) ∧ t.Raised s.now 1211 p) ∧
  (chosen p = false ∨ s.ob (Obj.bpState p) ≠ 2 ∨ s.distributes p = true → t.distributes p = s.distributes p ∧
    t.ob (Obj.ndState p) = s.ob (Obj.ndState p) ∧ t.ob (Obj.ndPass p) = s.ob (Obj.ndPass p))

/-- `b` differs from `s` in nothing that a distribution reads. -/
structure Before (s b : State) : Prop where
  now : b.now = s.now
  ports : b.upd.ports = s.upd.ports
  bunting : ∀ p a, a < 256 → b.ob (key (0x5001 + 0x20 * p) a) = s.ob (key (0x5001 + 0x20 * p) a)
  objects : ∀ p < 8, ∀ j ∈ nodeObjects p, b.ob j = s.ob j

theorem Distributes.distributed {chosen : Nat → Bool} {s b t : State} (h : b.Distributes chosen t) (same : s.Before b) {p : Nat}
    (small : p < 8) : s.Distributed chosen t p := by
  have running : b.distributes p = s.distributes p := by
    unfold State.distributes
    rw [same.ports]
  have state : b.ob (Obj.bpState p) = s.ob (Obj.bpState p) := same.bunting p 1 (by decide)
  have count : b.ob (Obj.bpNodeCount p) = s.ob (Obj.bpNodeCount p) := same.bunting p 3 (by decide)
  have starts : b.starts chosen p ↔ s.starts chosen p := starts_congr state running
  refine ⟨fun is runs idle => ?_, fun stays => ?_⟩
  · have begun := h.begun p small (starts.mpr ⟨is, runs, idle⟩)
    have told := begun.told
    rw [same.now] at told
    exact ⟨begun.running, begun.state, begun.pass, begun.updated, begun.left.trans count, told⟩
  · have kept := h.same p small fun st => by
      obtain ⟨is, runs, idle⟩ := starts.mp st
      rcases stays with no | no | no
      · rw [is] at no
        cases no
      · exact no runs
      · rw [idle] at no
        cases no
    exact ⟨kept.running.trans running, (kept.objects _ (ndState_mem p)).trans (same.objects p small _ (ndState_mem p)),
      (kept.objects _ (ndPass_mem p)).trans (same.objects p small _ (ndPass_mem p))⟩

/-! ## NODE activations (R448) -/

/-- The state of a NODE activation before it distributes. -/
def nodeRuns (s : State) : State := ((s.post 1204 8).runImage 4).activated 8

/-- What the new node image leaves for the distributions. -/
theorem nodeRuns_before (s : State) : s.Before s.nodeRuns ∧
    s.nodeRuns = { s with upd := s.nodeRuns.upd, obj := s.nodeRuns.obj, fab := s.nodeRuns.fab, pw := s.nodeRuns.pw } ∧
    s.nodeRuns.upd.accepted = none ∧ s.nodeRuns.ob Obj.nodeVersion = s.header 2 8 4 ∧ s.nodeRuns.Raised s.now 1204 8 ∧
    s.nodeRuns.Raised s.now 1205 8 := by
  have told := raised_post s 1204 8
  have runs := runImage_runs (s.post 1204 8) (k := 4) (by decide)
  have ends := activated_ends ((s.post 1204 8).runImage 4) 8
  unfold nodeRuns
  generalize ((s.post 1204 8).runImage 4).activated 8 = t at ends
  generalize (s.post 1204 8).runImage 4 = u at runs ends
  have now : u.now = s.now := runs.now
  have telling := ends.told
  rw [now] at telling
  have free (i a : Nat) (sub : a < 256) (bound : 0x1F30 ≤ i ∧ i < 0x2000 ∨ 0x5001 ≤ i) : t.ob (key i a) = s.ob (key i a) := by
    refine (ends.objects _ ?_).trans (runs.objects _ ?_)
    · simp only [List.mem_cons, not_or]
      refine ⟨?_, not_voteObject (by omega) sub⟩
      unfold Obj.updState key
      omega
    · intro mem
      have low : ∀ j ∈ imageObjects 4, j < key 0x1F30 0 := by decide
      have := low _ mem
      unfold key at this
      omega
  refine ⟨⟨ends.now.trans now, ?_, fun p a sub => free _ a sub (.inr (by omega)), fun p small j mem => ?_⟩, ?_, by rw [ends.upd],
    (ends.objects _ (by decide)).trans (runs.fields (Obj.nodeVersion, 8, 4) (by decide)), ends.events ?_, telling⟩
  · rw [ends.upd, runs.upd]
    rfl
  · obtain ⟨a, sub, rfl⟩ := mem_nodeObjects mem
    exact free _ a sub (.inl (by omega))
  · rw [ends.frame, runs.frame]
    rfl
  · rw [runs.fab]
    exact told

theorem nodeActivation_distributes {s : State} (taken : s.upd.accepted = some 8) (applied : s.applied = true) (durable : s.commits = [])
    (between : s.sweepsRun = false ∨ s.eng.segment = 0) :
    ∃ t, exec .nodeActivation s = .next t ∧ t.ob Obj.updState = (if t.distributing then 3 else 0) ∧
      t = { s with upd := t.upd, obj := t.obj, fab := t.fab, pw := t.pw } ∧
      (t.upd.accepted = none ∧ t.ob Obj.nodeVersion = s.header 2 8 4 ∧ t.Raised s.now 1204 8 ∧ t.Raised s.now 1205 8) ∧
      ∀ p < 8, s.Distributed (fun _ => true) t p := by
  have done : exec .nodeActivation s = .next (distributions (fun _ => true) s.nodeRuns) := by
    show execNodeActivation s = _
    unfold execNodeActivation
    rw [mayActivate_some taken (by decide) applied durable between]
    show Host.Outcome.next (s.nodeActivates 8) = _
    unfold nodeActivates
    rw [runImages_one _ (show kindsOf 8 = [4] by decide), distributions_all]
    rfl
  obtain ⟨before, frame, accepted, version, told, ended⟩ := nodeRuns_before s
  have spreads := distributions_distributes (fun _ => true) s.nodeRuns
  generalize distributions (fun _ => true) s.nodeRuns = t at done spreads
  generalize s.nodeRuns = b at before frame accepted version told ended spreads
  refine ⟨t, done, spreads.state, by rw [spreads.frame, frame], ⟨by rw [spreads.upd]; exact accepted, ?_, spreads.events told,
    spreads.events ended⟩, fun p small => spreads.distributed before small⟩
  exact (spreads.objects _ (fun p small => not_nodeObject (by omega) (by decide)) (by decide)).trans version

/-! ## UPD_NODE_RUN (R448) -/

theorem updNodeRun_distributes {h : Nat} {ports : BitVec 8} {s : State} {x : Session} (sv : s.Serves h .service x) :
    ∃ t, exec (.updNodeRun h ports) s = .next t ∧ t.ob Obj.updState = (if t.distributing then 3 else 0) ∧
      t = { s.served x with upd := t.upd, obj := t.obj, fab := t.fab, pw := t.pw } ∧
      ∀ p < 8, s.Distributed (fun p => bitAt ports.toNat p) t p := by
  have done : exec (.updNodeRun h ports) s =
      (s.asked x).finish (.ok (distributions (fun p => bitAt ports.toNat p) (s.asked x))) := by
    show execUpdNodeRun h ports s = _
    exact request_serves sv _ _
  have spreads := distributions_distributes (fun p => bitAt ports.toNat p) (s.asked x)
  have before : s.Before (s.asked x) := ⟨rfl, rfl, fun _ _ _ => rfl, fun _ _ _ _ => rfl⟩
  generalize distributions (fun p => bitAt ports.toNat p) (s.asked x) = t at done spreads
  have frame := spreads.frame
  refine ⟨{ t with reply := { status := .success } }, done.trans (finish_done rfl (by rw [frame]; rfl)), spreads.state, ?_,
    fun p small => spreads.distributed before small⟩
  rw [frame]
  rfl

/-! ## The end of a pass (R449) -/

/-- The nodes counted at the end of a pass. -/
def nodesCounted (s : State) (p n : Nat) : State :=
  (s.setOb (Obj.ndUpdated p) (min n (s.ob (Obj.bpNodeCount p)))).setOb (Obj.ndLeft p)
    (s.ob (Obj.bpNodeCount p) - min n (s.ob (Obj.bpNodeCount p)))

/-- A distribution at its end on a port. -/
def distributionEnds (s : State) (p state ev v : Nat) : State :=
  (((s.setDistribution p false).setOb (Obj.ndState p) state).post ev v).showDistribution

/-- What the end of a distribution leaves and shows. -/
theorem distributionEnds_stands (s : State) {p : Nat} (small : p < 8) (state ev v : Nat) :
    s.distributionEnds p state ev v = { s with upd := (s.distributionEnds p state ev v).upd, obj := (s.distributionEnds p state ev v).obj, fab := (s.distributionEnds p state ev v).fab, pw := (s.distributionEnds p state ev v).pw } ∧
      (s.distributionEnds p state ev v).ob (Obj.ndState p) = state ∧ (s.distributionEnds p state ev v).distributes p = false ∧
      (s.distributionEnds p state ev v).Raised s.now ev v ∧
      (∀ q, q ≠ p → (s.distributionEnds p state ev v).distributes q = s.distributes q) ∧
      ∀ j ∈ nodeObjects p, j ≠ Obj.ndState p → (s.distributionEnds p state ev v).ob j = s.ob j := by
  have told := raised_post ((s.setDistribution p false).setOb (Obj.ndState p) state) ev v
  have spreads : s.Spreads (((s.setDistribution p false).setOb (Obj.ndState p) state).post ev v) :=
    (((Spreads.refl s).setDistribution p false).setOb _ _).post _ _
  have shows : (((s.setDistribution p false).setOb (Obj.ndState p) state).post ev v).ob (Obj.ndState p) = state := by
    rw [ob_post, ob_setOb_same]
  have stops : (((s.setDistribution p false).setOb (Obj.ndState p) state).post ev v).distributes p = false :=
    distributes_setDistribution_same ..
  have others (q : Nat) (other : q ≠ p) : (((s.setDistribution p false).setOb (Obj.ndState p) state).post ev v).distributes q =
    s.distributes q := distributes_setDistribution_other s false other
  have objects (j : Nat) (other : j ≠ Obj.ndState p) :
      (((s.setDistribution p false).setOb (Obj.ndState p) state).post ev v).ob j = s.ob j :=
    (ob_post ..).trans (ob_setOb_other _ _ (Ne.symm other))
  unfold distributionEnds
  generalize ((s.setDistribution p false).setOb (Obj.ndState p) state).post ev v = u at told spreads shows stops others objects
  have showing := u.showDistribution_told
  generalize u.showDistribution = t at showing
  refine ⟨by rw [showing.frame, spreads.frame], (showing.ob small (ndState_mem p)).trans shows,
    (showing.distributes p).trans stops, ?_, fun q other => (showing.distributes q).trans (others q other),
    fun j mem other => (showing.ob small mem).trans (objects j other)⟩
  exact showing.raised told

theorem passEnds_all {s : State} {p n : Nat} (none_ : s.ob (Obj.bpNodeCount p) - min n (s.ob (Obj.bpNodeCount p)) = 0) :
    s.passEnds p n = (s.nodesCounted p n).distributionEnds p 3 1212 (p * 2 ^ 16 + min n (s.ob (Obj.bpNodeCount p))) := if_pos none_

theorem passEnds_last {s : State} {p n : Nat} (some_ : s.ob (Obj.bpNodeCount p) - min n (s.ob (Obj.bpNodeCount p)) ≠ 0)
    (last : s.cf Obj.updNodePasses ≤ s.ob (Obj.ndPass p)) : s.passEnds p n = (s.nodesCounted p n).distributionEnds p 4 1213
      (p * 2 ^ 16 + (s.ob (Obj.bpNodeCount p) - min n (s.ob (Obj.bpNodeCount p)))) := by
  refine (if_neg some_).trans (if_pos ?_)
  show s.cf Obj.updNodePasses ≤ (s.nodesCounted p n).ob (Obj.ndPass p)
  simpa [nodesCounted, Obj.ndPass, Obj.ndUpdated, Obj.ndLeft] using last

theorem passEnds_next {s : State} {p n : Nat} (some_ : s.ob (Obj.bpNodeCount p) - min n (s.ob (Obj.bpNodeCount p)) ≠ 0)
    (more : s.ob (Obj.ndPass p) < s.cf Obj.updNodePasses) :
    s.passEnds p n = ((s.nodesCounted p n).setOb (Obj.ndState p) 1).bump (Obj.ndPass p) := by
  refine (if_neg some_).trans (if_neg ?_)
  show ¬ s.cf Obj.updNodePasses ≤ (s.nodesCounted p n).ob (Obj.ndPass p)
  simpa [nodesCounted, Obj.ndPass, Obj.ndUpdated, Obj.ndLeft] using more

theorem nodesCounted_stands (s : State) (p n : Nat) : s.Spreads (s.nodesCounted p n) ∧ (s.nodesCounted p n).fab = s.fab ∧
    (s.nodesCounted p n).upd = s.upd ∧
    (s.nodesCounted p n).ob (Obj.ndUpdated p) = min n (s.ob (Obj.bpNodeCount p)) ∧
    (s.nodesCounted p n).ob (Obj.ndLeft p) = s.ob (Obj.bpNodeCount p) - min n (s.ob (Obj.bpNodeCount p)) ∧
    (s.nodesCounted p n).ob (Obj.ndPass p) = s.ob (Obj.ndPass p) :=
  ⟨((Spreads.refl s).setOb _ _).setOb _ _, rfl, rfl, by simp [nodesCounted, Obj.ndUpdated, Obj.ndLeft], by simp [nodesCounted],
    by simp [nodesCounted, Obj.ndPass, Obj.ndUpdated, Obj.ndLeft]⟩

/-- What the end of a pass gives, for the nodes `n` with the active version among `all`. -/
structure Passed (s t : State) (p : Fin 8) (all n : Nat) : Prop where
  updated : t.ob (Obj.ndUpdated p) = n
  left : t.ob (Obj.ndLeft p) = all - n
  frame : t = { s with upd := t.upd, obj := t.obj, fab := t.fab, pw := t.pw }
  others : ∀ q : Fin 8, q ≠ p → t.distributes q = s.distributes q
  done : all - n = 0 → t.ob (Obj.ndState p) = 3 ∧ t.distributes p = false ∧ t.Raised s.now 1212 (p * 2 ^ 16 + n)
  last : all - n ≠ 0 → s.cf Obj.updNodePasses ≤ s.ob (Obj.ndPass p) →
    t.ob (Obj.ndState p) = 4 ∧ t.distributes p = false ∧ t.Raised s.now 1213 (p * 2 ^ 16 + (all - n))
  next : all - n ≠ 0 → s.ob (Obj.ndPass p) < s.cf Obj.updNodePasses →
    t.ob (Obj.ndState p) = 1 ∧ t.distributes p = true ∧ t.ob (Obj.ndPass p) = (s.ob (Obj.ndPass p) + 1) % 2 ^ 32 ∧ t.fab = s.fab

theorem passEnds_passed {s : State} (p : Fin 8) (n : Nat) (running : s.distributes p = true) :
    s.Passed (s.passEnds p n) p (s.ob (Obj.bpNodeCount p)) (min n (s.ob (Obj.bpNodeCount p))) := by
  obtain ⟨spreads, fab, upd, updated, left, pass⟩ := nodesCounted_stands s p n
  have distributes (q : Nat) : (s.nodesCounted p n).distributes q = s.distributes q := by
    unfold State.distributes
    rw [upd]
  have apart {q : Fin 8} (other : q ≠ p) : q.val ≠ p.val := fun is => other (Fin.ext is)
  by_cases none_ : s.ob (Obj.bpNodeCount p) - min n (s.ob (Obj.bpNodeCount p)) = 0
  · rw [passEnds_all none_]
    generalize s.nodesCounted p n = u at spreads fab updated left distributes
    obtain ⟨frame, state, stops, told, others, objects⟩ :=
      u.distributionEnds_stands p.isLt 3 1212 (p * 2 ^ 16 + min n (s.ob (Obj.bpNodeCount p)))
    generalize u.distributionEnds p 3 1212 (p * 2 ^ 16 + min n (s.ob (Obj.bpNodeCount p))) = t at frame state stops told others objects
    rw [spreads.now] at told
    exact ⟨(objects _ (ndUpdated_mem p) (key_ne_of_sub _ _ (by decide))).trans updated,
      (objects _ (ndLeft_mem p) (key_ne_of_sub _ _ (by decide))).trans left, by rw [frame, spreads.frame],
      fun q other => (others q (apart other)).trans (distributes q), fun _ => ⟨state, stops, told⟩,
      fun no => absurd none_ no, fun no => absurd none_ no⟩
  · by_cases last : s.cf Obj.updNodePasses ≤ s.ob (Obj.ndPass p)
    · rw [passEnds_last none_ last]
      generalize s.nodesCounted p n = u at spreads fab updated left distributes
      generalize hv : p.val * 2 ^ 16 + (s.ob (Obj.bpNodeCount p) - min n (s.ob (Obj.bpNodeCount p))) = v
      obtain ⟨frame, state, stops, told, others, objects⟩ := u.distributionEnds_stands p.isLt 4 1213 v
      generalize u.distributionEnds p 4 1213 v = t at frame state stops told others objects
      rw [spreads.now] at told
      exact ⟨(objects _ (ndUpdated_mem p) (key_ne_of_sub _ _ (by decide))).trans updated,
        (objects _ (ndLeft_mem p) (key_ne_of_sub _ _ (by decide))).trans left, by rw [frame, spreads.frame],
        fun q other => (others q (apart other)).trans (distributes q), fun no => absurd no none_,
        fun _ _ => ⟨state, stops, hv ▸ told⟩, fun _ more => absurd last (Nat.not_le.mpr more)⟩
    · rw [passEnds_next none_ (Nat.not_le.mp last)]
      generalize s.nodesCounted p n = u at spreads fab upd updated left pass distributes
      have moves : s.Spreads ((u.setOb (Obj.ndState p) 1).bump (Obj.ndPass p)) := (spreads.setOb _ _).setOb _ _
      have fabs : ((u.setOb (Obj.ndState p) 1).bump (Obj.ndPass p)).fab = s.fab := fab
      have state : ((u.setOb (Obj.ndState p) 1).bump (Obj.ndPass p)).ob (Obj.ndState p) = 1 := by
        simp [bump, Obj.ndState, Obj.ndPass]
      have counts : ((u.setOb (Obj.ndState p) 1).bump (Obj.ndPass p)).ob (Obj.ndPass p) = (s.ob (Obj.ndPass p) + 1) % 2 ^ 32 := by
        have was : (u.setOb (Obj.ndState p) 1).ob (Obj.ndPass p) = s.ob (Obj.ndPass p) :=
          (ob_setOb_other _ _ (key_ne_of_sub _ _ (by decide))).trans pass
        rw [bump, ob_setOb_same, was]
      have keeps (j : Nat) (first : Obj.ndState p ≠ j) (second : Obj.ndPass p ≠ j) :
          ((u.setOb (Obj.ndState p) 1).bump (Obj.ndPass p)).ob j = u.ob j :=
        (ob_setOb_other _ _ second).trans (ob_setOb_other _ _ first)
      have goes (q : Nat) : ((u.setOb (Obj.ndState p) 1).bump (Obj.ndPass p)).distributes q = s.distributes q := distributes q
      generalize (u.setOb (Obj.ndState p) 1).bump (Obj.ndPass p) = t at moves fabs state counts keeps goes
      refine ⟨(keeps _ (key_ne_of_sub _ _ (by decide)) (key_ne_of_sub _ _ (by decide))).trans updated,
        (keeps _ (key_ne_of_sub _ _ (by decide)) (key_ne_of_sub _ _ (by decide))).trans left, ?_, fun q _ => goes q,
        fun no => absurd no none_, fun _ no => absurd no last, fun _ _ => ⟨state, (goes p).trans running, counts, fabs⟩⟩
      rw [moves.frame]

/-- The end of a pass on a port that runs. -/
theorem nodeDistributionPass_passes {p : Fin 8} {updated : BitVec 16} {s : State} (running : s.distributes p = true)
    (port : s.ob (Obj.bpState p) = 2) : ∃ t, exec (.nodeDistributionPass p updated) s = .next t ∧
      s.Passed t p (s.ob (Obj.bpNodeCount p)) (min updated.toNat (s.ob (Obj.bpNodeCount p))) :=
  ⟨_, congrArg Host.Outcome.next (if_pos (by simp [running, port])), passEnds_passed p updated.toNat running⟩

/-! ## A node that switches (R450) -/

theorem nodeImageSwitch_switches {p : Fin 8} {i : Fin 4096} {s : State} (running : s.distributes p = true)
    (port : s.ob (Obj.bpState p) = 2) (known : i.val < s.ob (Obj.bpNodeCount p)) :
    ∃ t, exec (.nodeImageSwitch p i) s = .next t ∧ t = { s with bp := t.bp } ∧ (∀ q : Fin 8, q ≠ p → t.bpCh q = s.bpCh q) ∧
      t.bpCh p = { s.bpCh p with nodes := (t.bpCh p).nodes } ∧
      (∀ j, j ≠ i.val → (t.bpCh p).nodes.read {} j = (s.bpCh p).nodes.read {} j) ∧
      (t.bpCh p).nodes.read {} i = { (s.bpCh p).nodes.read {} i with version := s.ob Obj.nodeVersion / 2 ^ 16 } := by
  have same : (s.nodeSwitches p i).bpCh p = { s.bpCh p with
      nodes := (s.bpCh p).nodes.put i { (s.bpCh p).nodes.read {} i with version := s.ob Obj.nodeVersion / 2 ^ 16 } } := Table.read_write_same ..
  refine ⟨s.nodeSwitches p i, congrArg Host.Outcome.next (if_pos (by simp [running, port, known])), rfl, fun q other => ?_, ?_,
    fun j other => ?_, ?_⟩
  · exact Table.read_write_other _ _ _ _ fun is => other (Fin.ext is.symm)
  · rw [same]
  · rw [same]
    unfold Table.read
    rw [Table.get?_put_other _ _ (Ne.symm other)]
  · rw [same]
    unfold Table.read
    rw [Table.get?_put_same]
    rfl

end State
end Sys2Proof.Machine

/-!
What an update reads again after a configuration has taken effect, and after a restart (R444, R447): one lemma per operation says that
the timebase, the update's own state, the kept schema and the unit's address (`State.roots`) are as they were.
-/

namespace Sys2Proof.Machine
namespace State

/-- The timebase, the update's own state, KEEP_SCHEMA and UNIT_ADDRESS. -/
def roots (s : State) : TimeBase × Update × Nat × Nat := (s.tb, s.upd, s.ob Obj.keepSchema, s.ob Obj.unitAddress)

theorem roots_of_fields {s t : State} (tb : t.tb = s.tb) (upd : t.upd = s.upd) (obj : t.obj = s.obj) : t.roots = s.roots := by
  unfold roots ob
  rw [tb, upd, obj]

theorem roots_of_quiet {s t : State} (h : t.quiet [] = s.quiet []) : t.roots = s.roots := by
  have still := still_of_quiet h
  have field {α : Type} (f : State → α) : f t.still = f s.still := congrArg f still
  have tb : t.tb = s.tb := field State.tb
  have upd : t.upd = s.upd := field State.upd
  unfold roots
  rw [tb, upd, ob_of_quiet h (k := Obj.keepSchema) (by decide), ob_of_quiet h (k := Obj.unitAddress) (by decide)]

theorem roots_setOb {k : Nat} (s : State) (v : Nat) (schema : k ≠ Obj.keepSchema) (address : k ≠ Obj.unitAddress) :
    (s.setOb k v).roots = s.roots := by
  unfold roots
  rw [ob_setOb_other _ _ schema, ob_setOb_other _ _ address]
  rfl

/-- Both objects stand below index 0x1F03. -/
@[simp] theorem roots_setOb_high (s : State) {i b : Nat} (v : Nat) (high : 0x1F03 ≤ i) : (s.setOb (key i b) v).roots = s.roots :=
  roots_setOb s v (by unfold Obj.keepSchema key; omega) (by unfold Obj.unitAddress key; omega)
@[simp] theorem roots_setBit_high (s : State) {i b : Nat} (n : Nat) (v : Bool) (high : 0x1F03 ≤ i) :
    (s.setBit (key i b) n v).roots = s.roots := roots_setOb_high s _ high
@[simp] theorem roots_bump_high (s : State) {i b : Nat} (high : 0x1F03 ≤ i) : (s.bump (key i b)).roots = s.roots :=
  roots_setOb_high s _ high
@[simp] theorem roots_ite {c : Prop} [Decidable c] (a b : State) : (if c then a else b).roots = if c then a.roots else b.roots := by
  split <;> rfl

theorem roots_foldl {α : Type} (l : List α) (f : State → α → State) (s : State) (h : ∀ s, ∀ a ∈ l, (f s a).roots = s.roots) :
    (l.foldl f s).roots = s.roots := by
  induction l generalizing s with
  | nil => rfl
  | cons a l ih => exact (ih (f s a) fun t b mem => h t b (List.mem_cons_of_mem a mem)).trans (h s a List.mem_cons_self)
theorem roots_forRange_low {n : Nat} {f : State → Nat → State} (h : ∀ s, ∀ a < n, (f s a).roots = s.roots) (s : State) :
    (forRange n f s).roots = s.roots := roots_foldl _ _ s fun t a mem => h t a (List.mem_range.mp mem)
@[simp] theorem roots_forRange (n : Nat) (f : State → Nat → State) (s : State) (h : ∀ s a, (f s a).roots = s.roots) :
    (forRange n f s).roots = s.roots := roots_foldl _ _ s fun t a _ => h t a
@[simp] theorem roots_forEach {α : Type} (l : List α) (f : State → α → State) (s : State) (h : ∀ s a, (f s a).roots = s.roots) :
    (forEach l f s).roots = s.roots := roots_foldl _ _ s fun t a _ => h t a

/-! ## Parts of the state that are none of them -/

@[simp] theorem roots_with_hoist (s : State) x : ({ s with hoist := x } : State).roots = s.roots := rfl

/-! ## What moves no object but those of outputs -/

@[simp] theorem roots_doutShow (s : State) (d v : Nat) : (s.doutShow d v).roots = s.roots := roots_of_quiet (State.doutShow_quiet s d v)
@[simp] theorem roots_setDout (s : State) (n : Nat) (c : Dout) : (s.setDout n c).roots = s.roots := roots_of_quiet (State.setDout_quiet s n c)
@[simp] theorem roots_brChannels (s : State) (h dir duty : Nat) : (s.brChannels h dir duty).roots = s.roots := roots_of_quiet (State.brChannels_quiet s h dir duty)
@[simp] theorem roots_brShow (s : State) (h st : Nat) : (s.brShow h st).roots = s.roots := roots_of_quiet (State.brShow_quiet s h st)
@[simp] theorem roots_gdApply (s : State) (c v : Nat) : (s.gdApply c v).roots = s.roots := roots_of_quiet (State.gdApply_quiet s c v)
@[simp] theorem roots_gdOff (s : State) (c : Nat) : (s.gdOff c).roots = s.roots := roots_of_quiet (State.gdOff_quiet s c)
@[simp] theorem roots_setBr (s : State) (n : Nat) (c : Bridge) : (s.setBr n c).roots = s.roots := roots_of_quiet (State.setBr_quiet s n c)
@[simp] theorem roots_setGd (s : State) (n : Nat) (c : GdChannel) : (s.setGd n c).roots = s.roots := roots_of_quiet (State.setGd_quiet s n c)
@[simp] theorem roots_setMx (s : State) (n : Nat) (c : MxPort) : (s.setMx n c).roots = s.roots := roots_of_quiet (State.setMx_quiet s n c)
@[simp] theorem roots_setSv (s : State) (n : Nat) (c : SvChannel) : (s.setSv n c).roots = s.roots := roots_of_quiet (State.setSv_quiet s n c)
@[simp] theorem roots_post (s : State) (ev value : Nat) : (s.post ev value).roots = s.roots := roots_of_quiet (State.post_quiet s ev value)
@[simp] theorem roots_svEnter (s : State) (c ph : Nat) : (s.svEnter c ph).roots = s.roots := roots_of_quiet (State.svEnter_quiet s c ph)
@[simp] theorem roots_brSlot (s : State) (h k value : Nat) : (s.brSlot h k value).roots = s.roots := roots_of_quiet (State.brSlot_quiet s h k value)
@[simp] theorem roots_setBrFlag (s : State) (h i : Nat) (b : Bool) : (s.setBrFlag h i b).roots = s.roots := roots_of_quiet (State.setBrFlag_quiet s h i b)
@[simp] theorem roots_record (s : State) (r : LedgerRecord) : (s.record r).roots = s.roots := roots_of_quiet (State.record_quiet s r)

/-! ## The hoist safe state (R93) -/

@[simp] theorem roots_hoistDout (s : State) (d : Nat) : (s.hoistDout d).roots = s.roots := by
  unfold hoistDout
  dsimp only
  (repeat' split) <;> simp (disch := omega) [Obj.doutStatus]
@[simp] theorem roots_hoistGd (s : State) (c : Nat) : (s.hoistGd c).roots = s.roots := by
  unfold hoistGd
  dsimp only
  (repeat' split) <;> simp (disch := omega) [Obj.gdStatus]
@[simp] theorem roots_hoistMx (s : State) (p : Nat) : (s.hoistMx p).roots = s.roots := by
  simp (disch := omega) [hoistMx, Obj.mxState]
@[simp] theorem roots_setSvBit (s : State) (c i : Nat) (b : Bool) : (s.setSvBit c i b).roots = s.roots := by
  simp (disch := omega) [setSvBit, Obj.svStatus]
@[simp] theorem roots_svPost (s : State) (c k v : Nat) : (s.svPost c k v).roots = s.roots := by
  simp [svPost]
@[simp] theorem roots_svPostIf (s : State) (b : Bool) (c k v : Nat) : (s.svPostIf b c k v).roots = s.roots := by
  simp [svPostIf]
@[simp] theorem roots_svDecay (s : State) (c : Nat) : (s.svDecay c).roots = s.roots := by
  simp [svDecay]
@[simp] theorem roots_svMoved (s : State) (c result time : Nat) : (s.svMoved c result time).roots = s.roots := by
  simp (disch := omega) [svMoved, Obj.svMoveResult, Obj.svMoveTime]
@[simp] theorem roots_svInterrupt (s : State) (c : Nat) : (s.svInterrupt c).roots = s.roots := by
  simp [svInterrupt]
@[simp] theorem roots_svStagesOff (s : State) (c i : Nat) : (s.svStagesOff c i).roots = s.roots := by
  simp [svStagesOff]
@[simp] theorem roots_svFastOff (s : State) (c i : Nat) : (s.svFastOff c i).roots = s.roots := by
  simp [svFastOff]
@[simp] theorem roots_svHold (s : State) (c : Nat) : (s.svHold c).roots = s.roots := by
  simp [svHold]
@[simp] theorem roots_svPeak (s : State) (c : Nat) : (s.svPeak c).roots = s.roots := by
  simp [svPeak]
@[simp] theorem roots_svShowOpen (s : State) (c : Nat) : (s.svShowOpen c).roots = s.roots := by
  simp [svShowOpen]
@[simp] theorem roots_svBoostReached (s : State) (c : Nat) : (s.svBoostReached c).roots = s.roots := by
  simp (disch := omega) [svBoostReached, Obj.svBoostTime]
@[simp] theorem roots_svStart (s : State) (c i : Nat) : (s.svStart c i).roots = s.roots := by
  simp (disch := omega) [svStart, Obj.svMoveResult, Obj.svRange]
@[simp] theorem roots_hoistSv (s : State) (c : Nat) : (s.hoistSv c).roots = s.roots := by
  simp [hoistSv]
@[simp] theorem roots_stopBunting (s : State) (p : Nat) : (s.stopBunting p).roots = s.roots := by
  simp (disch := omega) [stopBunting, Obj.bpState, Obj.bpFlags]
@[simp] theorem roots_hoistSafe (s : State) : (s.hoistSafe).roots = s.roots := by
  simp [hoistSafe]
@[simp] theorem roots_loseNormal (s : State) (h : Nat) : (s.loseNormal h).roots = s.roots := by
  simp (disch := omega) [loseNormal, Obj.brPosition]
@[simp] theorem roots_applyHoistSafe (s : State) : (s.applyHoistSafe).roots = s.roots := by
  rw [applyHoistSafe, roots_hoistSafe]
  exact roots_forRange _ _ _ fun s h => by rw [roots_ite, roots_loseNormal, ite_self]

end State
end Sys2Proof.Machine

/-!
What a configuration that takes effect leaves of the update (R43, R447).
-/

namespace Sys2Proof.Machine
namespace State

/-! ## Parts of the state that are none of the roots -/

@[simp] theorem roots_with_arb (s : State) x : ({ s with arb := x } : State).roots = s.roots := rfl
@[simp] theorem roots_with_bg (s : State) x : ({ s with bg := x } : State).roots = s.roots := rfl
@[simp] theorem roots_with_pw (s : State) x : ({ s with pw := x } : State).roots = s.roots := rfl
@[simp] theorem roots_with_fab (s : State) x : ({ s with fab := x } : State).roots = s.roots := rfl
@[simp] theorem roots_with_can (s : State) x : ({ s with can := x } : State).roots = s.roots := rfl
@[simp] theorem roots_with_mo (s : State) x : ({ s with mo := x } : State).roots = s.roots := rfl
@[simp] theorem roots_with_ring (s : State) x : ({ s with ring := x } : State).roots = s.roots := rfl
@[simp] theorem roots_with_vsensAt (s : State) x : ({ s with vsensAt := x } : State).roots = s.roots := rfl
@[simp] theorem roots_with_maps (s : State) x : ({ s with maps := x } : State).roots = s.roots := rfl
@[simp] theorem roots_with_cable (s : State) x : ({ s with cable := x } : State).roots = s.roots := rfl
@[simp] theorem roots_with_timers (s : State) x : ({ s with timers := x } : State).roots = s.roots := rfl

/-! ## What moves no object but those of outputs -/

@[simp] theorem roots_endFade (s : State) (g code : Nat) : (s.endFade g code).roots = s.roots := roots_of_quiet (State.endFade_quiet s g code)
@[simp] theorem roots_freeEngine (s : State) (e : Nat) : (s.freeEngine e).roots = s.roots := roots_of_quiet (State.freeEngine_quiet s e)
@[simp] theorem roots_resolveAll (s : State) (l : List Nat) : (s.resolveAll l).roots = s.roots := roots_of_quiet (State.resolveAll_quiet s l)
@[simp] theorem roots_drive (s : State) (sig v0 : Nat) : (s.drive sig v0).roots = s.roots := roots_of_quiet (State.drive_quiet s sig v0)
@[simp] theorem roots_dropEntry (s : State) (sig : Nat) : (s.dropEntry sig).roots = s.roots := roots_of_quiet (State.dropEntry_quiet s sig)
@[simp] theorem roots_withdraw (s : State) (sig : Nat) : (s.withdraw sig).roots = s.roots := roots_of_quiet (State.withdraw_quiet s sig)
@[simp] theorem roots_resubmit (s : State) (sig : Nat) : (s.resubmit sig).roots = s.roots := roots_of_quiet (State.resubmit_quiet s sig)
@[simp] theorem roots_runQueue (s : State) : (s.runQueue).roots = s.roots := roots_of_quiet (State.runQueue_quiet s)
@[simp] theorem roots_postIf (s : State) (c : Bool) (ev value : Nat) : (s.postIf c ev value).roots = s.roots := roots_of_quiet (State.postIf_quiet s c ev value)
@[simp] theorem roots_resolve (s : State) (sig : Nat) : (s.resolve sig).roots = s.roots := roots_of_quiet (State.resolve_quiet s sig)
@[simp] theorem roots_setSlot (s : State) (sig : Nat) (x : Cls) (v : Option Claim) : (s.setSlot sig x v).roots = s.roots := roots_of_quiet (State.setSlot_quiet s sig x v)
@[simp] theorem roots_setBp (s : State) (n : Nat) (c : BuntingPort) : (s.setBp n c).roots = s.roots := roots_of_quiet (State.setBp_quiet s n c)
@[simp] theorem roots_commandOwned (s : State) (sig v : Nat) : (s.commandOwned sig v).roots = s.roots := roots_of_quiet (State.commandOwned_quiet s sig v)
@[simp] theorem roots_doutCancel (s : State) (d : Nat) : (s.doutCancel d).roots = s.roots := roots_of_quiet (State.doutCancel_quiet s d)
@[simp] theorem roots_gdCancel (s : State) (c : Nat) : (s.gdCancel c).roots = s.roots := roots_of_quiet (State.gdCancel_quiet s c)
@[simp] theorem roots_keepAge (s : State) (key : Nat) (t : Tick) : (s.keepAge key t).roots = s.roots := roots_of_quiet (State.keepAge_quiet s key t)
@[simp] theorem roots_portRaise (s : State) (sig cls v : Nat) : (s.portRaise sig cls v).roots = s.roots := roots_of_quiet (State.portRaise_quiet s sig cls v)
@[simp] theorem roots_revise (s : State) (old new : AdmRequest) : (s.revise old new).roots = s.roots := roots_of_quiet (State.revise_quiet s old new)
@[simp] theorem roots_present (s : State) (r : AdmRequest) : (s.present r).roots = s.roots := roots_of_quiet (State.present_quiet s r)
@[simp] theorem roots_unshed (s : State) (sig : Nat) : (s.unshed sig).roots = s.roots := roots_of_quiet (State.unshed_quiet s sig)
@[simp] theorem roots_showShed (s : State) : (s.showShed).roots = s.roots := roots_of_quiet (State.showShed_quiet s)

/-! ## Rules, passports, gates and groups -/

@[simp] theorem roots_dropRules (s : State) (rules : List Nat) : (s.dropRules rules).roots = s.roots := by
  unfold dropRules
  extract_lets gone old t fs es own eng s1 s2
  split
  · rfl
  · have first : s1.roots = s.roots := roots_of_fields rfl rfl rfl
    simp [s2, first]
@[simp] theorem roots_setPp (s : State) (n : Nat) (c : Passport) : (s.setPp n c).roots = s.roots := roots_of_fields rfl rfl rfl
@[simp] theorem roots_ppForget (s : State) (n : Nat) : (s.ppForget n).roots = s.roots := by
  simp (disch := omega) [ppForget, Obj.ppEnvIMax, Obj.ppEnvTMin, Obj.ppEnvTMax]
@[simp] theorem roots_forgetPassports (s : State) (ch : List Nat) : (s.forgetPassports ch).roots = s.roots := by
  simp [forgetPassports]
@[simp] theorem roots_disableOutput (s : State) (sig : Nat) : (s.disableOutput sig).roots = s.roots := by
  simp [disableOutput]
@[simp] theorem roots_enableOutput (s : State) (sig : Nat) : (s.enableOutput sig).roots = s.roots := by
  unfold enableOutput
  split
  · exact roots_drive ..
  · exact roots_resubmit ..
@[simp] theorem roots_hoistFollow (s : State) : (s.hoistFollow).roots = s.roots := by
  simp [hoistFollow]
@[simp] theorem roots_loadGates (s : State) : (s.loadGates).roots = s.roots := by
  simp [loadGates]
@[simp] theorem roots_gatesMoved (s : State) (old : List Nat) : (s.gatesMoved old).roots = s.roots := by
  simp [gatesMoved]
@[simp] theorem roots_ledgerRefresh (s : State) : (s.ledgerRefresh).roots = s.roots := by
  unfold ledgerRefresh
  (repeat' split) <;> simp (disch := omega) [Obj.ledgerState]
@[simp] theorem roots_nbStart (s : State) (balls : List Nat) : (s.nbStart balls).roots = s.roots := by
  unfold nbStart
  extract_lets ports nb s1 s2
  have pairs : s2.roots = s1.roots := roots_forRange _ _ _ fun t k => by simp (disch := omega) [Obj.nbPair]
  have start : s1.roots = s.roots := rfl
  simp (disch := omega) [Obj.nbCount, Obj.nbState, pairs, start]
@[simp] theorem roots_regroup (s : State) (g : Nat) (old : List Nat) : (s.regroup g old).roots = s.roots := by
  simp [regroup]
@[simp] theorem roots_resetNodes (s : State) (ch : List Nat) : (s.resetNodes ch).roots = s.roots := by
  simp [resetNodes]

/-! ## Votes and burgee ports -/

@[simp] theorem roots_putVotes (s : State) (holder mask : Nat) (b : Bool) : (s.putVotes holder mask b).roots = s.roots := by
  simp [putVotes]
@[simp] theorem roots_beginExit (s : State) (cause detail : Nat) : (s.beginExit cause detail).roots = s.roots := by
  simp (disch := omega) [beginExit, Obj.pwrTransition]
@[simp] theorem roots_holdVotes (s : State) (at_ : Tick) : (s.holdVotes at_).roots = s.roots := by
  simp [holdVotes]
@[simp] theorem roots_recordWake (s : State) (cause detail : Nat) : (s.recordWake cause detail).roots = s.roots := by
  simp (disch := omega) [recordWake, Obj.lastWakeCause, Obj.lastWakeDetail]
@[simp] theorem roots_showTarget (s : State) : (s.showTarget).roots = s.roots := by
  simp (disch := omega) [showTarget, Obj.pwrTarget]
@[simp] theorem roots_votesMoved (s : State) (old holder : Nat) : (s.votesMoved old holder).roots = s.roots := by
  unfold votesMoved
  extract_lets r s1 st tr
  have shown : s1.roots = s.roots := roots_setOb_high _ _ (by decide)
  clear_value s1
  (repeat' split) <;> simp [shown]
@[simp] theorem roots_dropVotes (s : State) (holder mask : Nat) : (s.dropVotes holder mask).roots = s.roots := by
  simp [dropVotes]
@[simp] theorem roots_placeVotes (s : State) (holder mask : Nat) : (s.placeVotes holder mask).roots = s.roots := by
  simp [placeVotes]
@[simp] theorem roots_burgeeVote (s : State) : (s.burgeeVote).roots = s.roots := by
  simp [burgeeVote]
@[simp] theorem roots_showPort (s : State) (p : Nat) (st : Nat) : (s.showPort p st).roots = s.roots := by
  simp (disch := omega) [showPort, Obj.bgPortState, Obj.bgFailsInWindow]
@[simp] theorem roots_restPort (s : State) (p : Nat) : (s.restPort p).roots = s.roots := by
  simp [restPort]
@[simp] theorem roots_setBgPort (s : State) (p : Nat) (x : BurgeePort) : (s.setBgPort p x).roots = s.roots := by
  simp [setBgPort]
@[simp] theorem roots_switchBurgee (s : State) (ch : List Nat) : (s.switchBurgee ch).roots = s.roots := by
  simp [switchBurgee]

/-! ## CAN channels and the ring -/

@[simp] theorem roots_setCan (s : State) (c : Nat) (x : CanChannel) : (s.setCan c x).roots = s.roots := by
  simp [setCan]
@[simp] theorem roots_setMo (s : State) (o : Nat) (m : MoData) : (s.setMo o m).roots = s.roots := by
  simp [setMo]
@[simp] theorem roots_showPending (s : State) (c o : Nat) : (s.showPending c o).roots = s.roots := by
  simp [showPending]
@[simp] theorem roots_canDiscard (s : State) (c : Nat) : (s.canDiscard c).roots = s.roots := by
  simp [canDiscard]
@[simp] theorem roots_canShow (s : State) (c : Nat) : (s.canShow c).roots = s.roots := by
  simp (disch := omega) [canShow, Obj.canState, Obj.canFlags]
@[simp] theorem roots_canRestart (s : State) (c : Nat) : (s.canRestart c).roots = s.roots := by
  simp (disch := omega) [canRestart, Obj.canTec, Obj.canRec, Obj.canAckRun, Obj.j1939ClaimState, Obj.j1939ClaimedAddr]
@[simp] theorem roots_showKeeper (s : State) : (s.showKeeper).roots = s.roots := by
  unfold showKeeper
  dsimp only
  split <;> simp (disch := omega) [Obj.keeperId, Obj.keeperReason]
@[simp] theorem roots_nmLeave (s : State) : (s.nmLeave).roots = s.roots := by
  unfold nmLeave
  dsimp only
  split <;> simp (disch := omega) [Obj.presentMask, Obj.consentMask, Obj.keeperMask, Obj.nmState]
@[simp] theorem roots_channelRestart (s : State) (c : Nat) : (s.channelRestart c).roots = s.roots := by
  simp [channelRestart]
@[simp] theorem roots_switchCan (s : State) (ch : List Nat) : (s.switchCan ch).roots = s.roots := by
  unfold switchCan
  extract_lets s1 os cs s2
  have restarted : s1.roots = s.roots := roots_forRange _ _ _ fun t c => by rw [roots_ite, roots_channelRestart, ite_self]
  have emptied : s2.roots = s1.roots := roots_forEach _ _ _ fun t o => by
    rw [roots_with_mo]
    exact roots_forRange _ _ _ fun t c => roots_setCan ..
  exact (roots_of_fields rfl rfl rfl).trans (emptied.trans restarted)

/-! ## Inputs -/

@[simp] theorem roots_ainHeld (s : State) (c : Nat) : (s.ainHeld c).roots = s.roots := by
  simp (disch := omega) [ainHeld, Obj.ainValue]
@[simp] theorem roots_setAin (s : State) (c : Nat) (x : Ain) : (s.setAin c x).roots = s.roots := roots_of_fields rfl rfl rfl
@[simp] theorem roots_ainRangeChange (s : State) (c : Nat) : (s.ainRangeChange c).roots = s.roots := by
  simp (disch := omega) [ainRangeChange, Obj.ainState, Obj.ainValue]
@[simp] theorem roots_setTach (s : State) (c : Nat) (x : Tach) : (s.setTach c x).roots = s.roots := roots_of_fields rfl rfl rfl
@[simp] theorem roots_setDin (s : State) (c : Nat) (x : Din) : (s.setDin c x).roots = s.roots := roots_of_fields rfl rfl rfl
@[simp] theorem roots_ainInvalid (s : State) (c st value : Nat) : (s.ainInvalid c st value).roots = s.roots := by
  unfold ainInvalid
  dsimp only
  (repeat' split) <;> simp (disch := omega) [Obj.ainState, Obj.breakCount]
@[simp] theorem roots_setVsens (s : State) (v st : Nat) : (s.setVsens v st).roots = s.roots := by
  unfold setVsens
  dsimp only
  (repeat' split) <;> simp (disch := omega) [Obj.vsens0State, Obj.vsens1State]
@[simp] theorem roots_vsensChange (s : State) (v st : Nat) : (s.vsensChange v st).roots = s.roots := by
  simp [vsensChange]
@[simp] theorem roots_switchSensors (s : State) (ch : List Nat) : (s.switchSensors ch).roots = s.roots := by
  simp [switchSensors]
@[simp] theorem roots_switchInputs (s : State) (old : State) (ch : List Nat) : (s.switchInputs old ch).roots = s.roots := by
  unfold switchInputs
  extract_lets s1 s2
  have inverted : s1.roots = s.roots := roots_forRange _ _ _ fun t c => by
    split <;> simp (disch := omega) [Obj.dinState]
  have ranged : s2.roots = s1.roots := roots_forRange _ _ _ fun t c => by
    dsimp only
    split <;> simp
  rw [roots_switchSensors]
  refine Eq.trans (roots_forRange _ _ _ fun t c => ?_) (ranged.trans inverted)
  split <;> simp (disch := omega) [Obj.tachFreq, Obj.tachState]

/-! ## Process-image maps -/

/-- The objects of a process-image map stand between the unit's address and the kept schema. -/
theorem roots_setMap (s : State) {m b : Nat} (v : Nat) (small : m < 64) (sub : b < 256) :
    (s.setOb (key (0x1800 + m) b) v).roots = s.roots :=
  roots_setOb s v (by unfold Obj.keepSchema key; omega) (by unfold Obj.unitAddress key; omega)
theorem roots_setMapBit (s : State) {m b : Nat} (n : Nat) (v : Bool) (small : m < 64) (sub : b < 256) :
    (s.setBit (key (0x1800 + m) b) n v).roots = s.roots := roots_setMap s _ small sub

theorem roots_bindMap (s : State) (m : Nat) (small : m < 64) : (s.bindMap m).roots = s.roots := by
  have session (t : State) (v : Nat) : (t.setOb (Obj.piSession m) v).roots = t.roots := roots_setMap t v small (by decide)
  have status (t : State) (n : Nat) (v : Bool) : (t.setBit (Obj.piStatus m) n v).roots = t.roots :=
    roots_setMapBit t n v small (by decide)
  unfold bindMap
  dsimp only
  split
  · rw [status, session]
  split
  · rw [status, session]
  split
  · split
    · rfl
    · split
      · rw [status, session, roots_with_maps]
      · rw [status, session]
  · split
    · rfl
    · split
      · rw [status, session, roots_with_maps]
      · rw [status, session]

theorem roots_bindMaps (s : State) : s.bindMaps.roots = s.roots := roots_forRange_low roots_bindMap s

@[simp] theorem roots_switchMaps (s : State) (ch : List Nat) (role hostId : Nat) : (s.switchMaps ch role hostId).roots = s.roots := by
  unfold switchMaps
  extract_lets s1
  have taken : s1.roots = s.roots := roots_forRange_low (fun t m small => by
    have session (t : State) (v : Nat) : (t.setOb (Obj.piSession m) v).roots = t.roots := roots_setMap t v small (by decide)
    have status (t : State) (n : Nat) (v : Bool) : (t.setBit (Obj.piStatus m) n v).roots = t.roots :=
      roots_setMapBit t n v small (by decide)
    dsimp only
    split
    · rfl
    split
    · split
      · rw [status, roots_with_maps]
      · rw [session, status, roots_with_maps]
    · rw [status, roots_with_maps]) s
  exact (roots_bindMaps s1).trans taken

/-! ## Outputs and ports -/

@[simp] theorem roots_asOwned (s : State) (sig : Nat) : (s.asOwned sig).roots = s.roots := by
  simp [asOwned]
@[simp] theorem roots_svCancel (s : State) (c : Nat) : (s.svCancel c).roots = s.roots := by
  simp (disch := omega) [svCancel, Obj.svPhase]
@[simp] theorem roots_svOff (s : State) (c i : Nat) : (s.svOff c i).roots = s.roots := by
  simp [svOff]
@[simp] theorem roots_turnOff (s : State) (sig : Nat) : (s.turnOff sig).roots = s.roots := by
  unfold turnOff
  dsimp only
  split <;> simp
@[simp] theorem roots_switchOutputs (s : State) (old : State) : (s.switchOutputs old).roots = s.roots := by
  simp [switchOutputs]
@[simp] theorem roots_cableStart (s : State) (p : Nat) : (s.cableStart p).roots = s.roots := by
  simp (disch := omega) [cableStart, Obj.cableBusy]
@[simp] theorem roots_bpDiscover (s : State) (p : Nat) : (s.bpDiscover p).roots = s.roots := by
  unfold bpDiscover
  dsimp only
  (repeat' split) <;> simp (disch := omega) [Obj.bpState, Obj.bpFlags]
@[simp] theorem roots_mxShowPower (s : State) (p : Nat) : (s.mxShowPower p).roots = s.roots := by
  simp (disch := omega) [mxShowPower, Obj.mxPortI, Obj.mxPortP]
@[simp] theorem roots_mxShut (s : State) (p : Nat) : (s.mxShut p).roots = s.roots := by
  simp [mxShut]
@[simp] theorem roots_switchPorts (s : State) (old : State) : (s.switchPorts old).roots = s.roots := by
  unfold switchPorts
  extract_lets s1
  have matrices : s1.roots = s.roots := roots_forRange _ _ _ fun t p => by
    split <;> simp (disch := omega) [Obj.mxState]
  refine Eq.trans (roots_forRange _ _ _ fun t p => ?_) matrices
  (repeat' split) <;> simp (disch := omega) [Obj.bpState, Obj.bpFlags]

/-! ## The ring joined, the sag states and the timers -/

@[simp] theorem roots_canEnqueue (s : State) (c : Nat) (f : CanPending) : (s.canEnqueue c f).roots = s.roots := by
  simp [canEnqueue]
@[simp] theorem roots_canUnpend (s : State) (c : Nat) (src : CanSource) : (s.canUnpend c src).roots = s.roots := by
  simp [canUnpend]
@[simp] theorem roots_nmSend (s : State) (type dest : Nat) (ack resume : Bool) : (s.nmSend type dest ack resume).roots = s.roots := by
  simp (disch := omega) [nmSend, Obj.ownReason]
@[simp] theorem roots_nmAliveMsg (s : State) : (s.nmAliveMsg).roots = s.roots := by
  simp [nmAliveMsg]
@[simp] theorem roots_nmJoin (s : State) : (s.nmJoin).roots = s.roots := by
  unfold nmJoin
  dsimp only
  (repeat' split) <;> simp (disch := omega) [Obj.presentMask, Obj.nmState]
@[simp] theorem roots_switchRing (s : State) (ch : List Nat) : (s.switchRing ch).roots = s.roots := by
  simp [switchRing]
@[simp] theorem roots_restoreOne (s : State) (x : Shed) : (s.restoreOne x).roots = s.roots := by
  unfold restoreOne
  dsimp only
  (repeat' split) <;> simp
@[simp] theorem roots_restoreShed (s : State) : (s.restoreShed).roots = s.roots := by
  simp [restoreShed]
@[simp] theorem roots_sagOver (s : State) (v : Nat) (c a : Bool) : (s.sagOver v c a).roots = s.roots := by
  simp [sagOver]
@[simp] theorem roots_switchSag (s : State) : (s.switchSag).roots = s.roots := by
  simp [switchSag]
@[simp] theorem roots_setTmr (s : State) (t : Nat) (x : Timer) : (s.setTmr t x).roots = s.roots := by
  simp [setTmr]
@[simp] theorem roots_switchTimers (s : State) (old : State) : (s.switchTimers old).roots = s.roots := by
  simp [switchTimers]

/-! ## A configuration that takes effect (R43) -/

theorem roots_takeConfig (s : State) (cfg : Regs) (role hostId : Nat) : (s.takeConfig cfg role hostId).roots = s.roots := by
  unfold takeConfig
  extract_lets ch old gates groups rules s1 hoist s2 s3 s4 s5 s6 s7 s8 s9 balls s10 s11 s12 s13 s14 s15 s16 s17 s18 s19 s20 hal s21
  have outputs : s9.roots = s.roots := by
    simp only [s9, s8, s7, s6, s5, s4, roots_gatesMoved, roots_switchOutputs, roots_switchPorts]
    rw [roots_forEach _ _ _ fun s g => roots_regroup ..]
    rw [roots_dropRules, roots_forgetPassports]
    exact (roots_setOb_high s2 _ (by decide)).trans (roots_of_fields rfl rfl rfl)
  have rest : s18.roots = s9.roots := by
    simp only [s18, s17, s16, s15, s14, s13, s12, s11, s10, roots_switchSag, roots_switchBurgee, roots_switchMaps, roots_switchTimers,
      roots_switchRing, roots_switchCan, roots_switchInputs, roots_resetNodes]
    split
    · rfl
    · exact roots_nbStart ..
  have votes : s20.roots = s18.roots := by
    simp only [s20, s19, roots_postIf]
    split
    · exact roots_votesMoved ..
    · rfl
  have sync : s21.roots = s20.roots := by
    simp only [s21]
    split
    · exact (roots_setOb _ _ (by decide) (by decide)).trans (roots_of_fields rfl rfl rfl)
    · rfl
  rw [roots_runQueue, roots_ledgerRefresh, roots_hoistFollow, sync, votes, rest, outputs]

end State
end Sys2Proof.Machine

/-!
Activations that restart the Fly die (R444, R91): what a restart keeps of the update, of the Hoist die and of the unit's address.
-/

namespace Sys2Proof.Machine
namespace State

/-! ## What a restart keeps (R94, R444) -/

theorem bg_of_still {s t : State} (h : t.still = s.still) : t.bg = s.bg := by
  have field {α : Type} (f : State → α) : f t.still = f s.still := congrArg f h
  exact field State.bg

theorem Shows.upd {s t : State} (h : s.Shows t) : t.upd = s.upd := by
  rw [h]
theorem Shows.bg {s t : State} (h : s.Shows t) : t.bg = s.bg := by
  rw [h]
theorem Shows.mo {s t : State} (h : s.Shows t) : t.mo = s.mo := by
  rw [h]

theorem upd_of_roots {s t : State} (h : t.roots = s.roots) : t.upd = s.upd := congrArg (fun r => r.2.1) h
theorem now_of_roots {s t : State} (h : t.roots = s.roots) : t.now = s.now := congrArg (fun r => r.1.count) h
theorem keepSchema_of_roots {s t : State} (h : t.roots = s.roots) : t.ob Obj.keepSchema = s.ob Obj.keepSchema :=
  congrArg (fun r => r.2.2.1) h
theorem address_of_roots {s t : State} (h : t.roots = s.roots) : t.address = s.address := congrArg (fun r => r.2.2.2) h

theorem flyReset_update (s : State) (cause : Nat) :
    let t := s.flyReset cause
    t.upd = { areas := s.upd.areas, record := s.upd.record, running := s.upd.running, keep := s.upd.keep } ∧
      t.bg.latches = s.bg.latches ∧ t.mo = [] := by
  unfold flyReset
  dsimp only
  split <;> exact ⟨rfl, rfl, rfl⟩

theorem address_flyReset (s : State) (cause : Nat) : (s.flyReset cause).address = s.address := by
  have kept := read_filter_kept (p := fun k => keptObject k || hoistObject k) (k := Obj.unitAddress) (by decide) s.obj
    (objDefault Obj.unitAddress)
  unfold flyReset address
  dsimp only
  rw [ob_setOb_other _ _ (by decide)]
  split
  · exact kept
  · rw [ob_setOb_other _ _ (by decide), ob_setOb_other _ _ (by decide)]
    exact kept

theorem address_flyResetKeeping (s : State) (cause : Nat) : (s.flyResetKeeping cause).address = s.address := by
  have fans : (s.flyResetKeeping cause).roots = (s.flyReset cause).roots := roots_forRange _ _ _ fun t f => by
    rw [roots_ite, ite_eq_right_iff]
    intro _
    exact (roots_setOb_high _ _ (by omega)).trans (roots_setBit_high _ _ _ (by omega))
  exact (address_of_roots fans).trans (address_flyReset s cause)

/-- A restart keeps the images and the record of an update, the latches of the gates, the address and the trips. -/
theorem hoistRestart_update (s : State) (cause : Nat) :
    let t := s.hoistRestart cause
    t.upd = { areas := s.upd.areas, record := s.upd.record, running := s.upd.running, keep := s.upd.keep } ∧
      t.bg.latches = s.bg.latches ∧ t.mo = [] ∧ t.address = s.address := by
  obtain ⟨upd, latches, objects⟩ := s.applyHoistSafe.flyReset_update cause
  have safeUpd : s.applyHoistSafe.upd = s.upd := upd_of_roots (roots_applyHoistSafe s)
  have safeBg : s.applyHoistSafe.bg = s.bg := (bg_of_still s.applyHoistSafe_still).trans rfl
  have frame := s.shows_hoistRestart cause
  have address : (s.hoistRestart cause).address = s.address :=
    (address_flyResetKeeping s.applyHoistSafe cause).trans (address_of_roots (roots_applyHoistSafe s))
  have upd' : (s.hoistRestart cause).upd = (s.applyHoistSafe.flyReset cause).upd := frame.upd
  have bg' : (s.hoistRestart cause).bg = (s.applyHoistSafe.flyReset cause).bg := frame.bg
  have mo' : (s.hoistRestart cause).mo = (s.applyHoistSafe.flyReset cause).mo := frame.mo
  refine ⟨?_, ?_, mo'.trans objects, address⟩
  · rw [upd', upd, safeUpd]
  · rw [bg', latches, safeBg]

/-- The state of an activation that will restart the Fly die: its record stands, and EV1204 (R444). -/
def recorded (s : State) (set : Nat) : State :=
  ({ s.post 1204 set with upd := { s.upd with record := set } } : State).setOb Obj.updState 2

theorem recorded_keeps (s : State) (set : Nat) : (s.recorded set).upd = { s.upd with record := set } ∧ (s.recorded set).cfg = s.cfg ∧
    (s.recorded set).bg = s.bg ∧ (s.recorded set).address = s.address ∧ (s.recorded set).trips = s.trips :=
  ⟨rfl, rfl, rfl, ob_setOb_other _ _ (by decide), ob_setOb_other _ _ (by decide)⟩

/-! ## HOIST activations (R444) -/

theorem updateRestart_restarts {s : State} (applied : s.applied = true) (durable : s.commits = [])
    (between : s.sweepsRun = false ∨ s.eng.segment = 0) {set : Nat} (mem : set ∈ [4, 6]) (taken : s.upd.accepted = some set) :
    ∃ t, exec .updateRestart s = .next t ∧ t.boot.stage = .flyReset ∧ t.boot.nextCause = 8 ∧ t.hoist.safe = true ∧
      t.upd.record = set ∧ t.upd.areas = s.upd.areas ∧ t.ob Obj.updState = 2 ∧ t.sessions = [] ∧ t.own = {} ∧ t.timers = [] ∧
      t.mo = [] ∧ t.cfg = s.cfg ∧ t.address = s.address ∧ t.bg.latches = s.bg.latches ∧
      t.ob Obj.hoistWdgTrips = s.ob Obj.hoistWdgTrips := by
  have done : exec .updateRestart s = .next (((s.recorded set).hoistRestart 8).setOb Obj.updState 2) := by
    show execUpdateRestart s = _
    unfold execUpdateRestart
    rw [mayActivate_some taken mem applied durable between]
    rfl
  obtain ⟨upd, cfg, bg, address, trips⟩ := s.recorded_keeps set
  obtain ⟨stage, cause, safe, -, sessions, cfg', own, -⟩ := (s.recorded set).hoistRestart_keeps 8
  obtain ⟨timers, -⟩ := (s.recorded set).hoistRestart_ends 8
  obtain ⟨upd', latches, mo, address'⟩ := (s.recorded set).hoistRestart_update 8
  have trips' := trips_hoistRestart (s.recorded set) 8
  generalize (s.recorded set).hoistRestart 8 = t at done stage cause safe sessions cfg' own timers upd' latches mo address' trips'
  refine ⟨_, done, stage, cause, safe, ?_, ?_, ob_setOb_same .., sessions, own, timers, mo, cfg'.trans cfg, ?_, ?_, ?_⟩
  · show t.upd.record = set
    rw [upd', upd]
  · show t.upd.areas = s.upd.areas
    rw [upd', upd]
  · exact (ob_setOb_other _ _ (by decide)).trans (address'.trans address)
  · exact latches.trans (congrArg Burgee.latches bg)
  · exact (ob_setOb_other _ _ (by decide)).trans (trips'.trans trips)

/-! ## MAST copies that fail twice (R91, R442) -/

theorem mastActivation_restarts {failing : Option (BitVec 24)} {s : State} (applied : s.applied = true) (durable : s.commits = [])
    (between : s.sweepsRun = false ∨ s.eng.segment = 0) (taken : s.upd.accepted = some 2) {failures : Fin 3} (twice : failures.val = 2) :
    ∃ t, exec (.mastActivation failures failing) s = .next t ∧ t.boot.stage = .flyReset ∧ t.boot.nextCause = 8 ∧
      t.hoist.safe = true ∧ t.upd.record = 2 ∧ t.sessions = [] ∧ t.cfg = s.cfg := by
  have done : exec (.mastActivation failures failing) s = .next ((s.recorded 2).hoistRestart 8) := by
    show execMastActivation failures failing s = _
    unfold execMastActivation
    rw [mayActivate_some taken (by decide) applied durable between]
    exact congrArg Host.Outcome.next (if_pos twice)
  obtain ⟨upd, cfg, -⟩ := s.recorded_keeps 2
  obtain ⟨stage, cause, safe, -, sessions, cfg', -⟩ := (s.recorded 2).hoistRestart_keeps 8
  obtain ⟨upd', -⟩ := (s.recorded 2).hoistRestart_update 8
  refine ⟨_, done, stage, cause, safe, ?_, sessions, cfg'.trans cfg⟩
  rw [upd', upd]

end State
end Sys2Proof.Machine

/-!
MAST activations (R442, R447): the new image runs, the configuration migrates or the kept one comes back, and the activation ends.
-/

namespace Sys2Proof.Machine
namespace State

/-! ## The new MAST before it reads the configuration (R442) -/

/-- The pending sets emptied where the schema is another one. -/
def emptied (s : State) (schema : Nat) : State :=
  if s.ob Obj.schemaVersion = schema then s
  else { s with sessions := s.sessions.map (fun x => { x with pendingSet := [] }) }

/-- The new MAST image running. -/
def mastRuns (s : State) : State := ((s.post 1204 2).runImage 2).emptied (s.ob Obj.schemaVersion)

theorem emptied_frame (s : State) (schema : Nat) : s.emptied schema = { s with sessions := (s.emptied schema).sessions } ∧
    (s.emptied schema).sessions =
      if s.ob Obj.schemaVersion = schema then s.sessions else s.sessions.map (fun x => { x with pendingSet := [] }) := by
  unfold emptied
  split <;> exact ⟨rfl, rfl⟩

/-- What the new image leaves and shows. -/
structure MastRuns (s t : State) : Prop where
  frame : t = { s with upd := t.upd, obj := t.obj, fab := t.fab, sessions := t.sessions }
  sessions : t.sessions =
    if s.ob Obj.schemaVersion = s.header 0 20 2 then s.sessions else s.sessions.map (fun x => { x with pendingSet := [] })
  upd : t.upd = { s.upd with areas := t.upd.areas, running := t.upd.running }
  activated : (t.area 0).activated = true
  state : t.ob (Obj.areaState 0) = 3
  unconfirmed : t.bit Obj.unconfirmed 1 = true
  fields : ∀ w ∈ imageFields 2, t.ob w.1 = s.header 0 w.2.1 w.2.2
  objects : s.ObjectsBut t (imageObjects 2)
  told : t.Raised s.now 1204 2

theorem mastRuns_runs (s : State) : s.MastRuns s.mastRuns := by
  have told := raised_post s 1204 2
  have runs := runImage_runs (s.post 1204 2) (k := 2) (by decide)
  unfold mastRuns
  generalize (s.post 1204 2).runImage 2 = u at runs
  have schema : u.ob Obj.schemaVersion = s.header 0 20 2 := runs.fields (Obj.schemaVersion, 20, 2) (by decide)
  have list : u.sessions = s.sessions := by rw [runs.frame]; rfl
  obtain ⟨frame, sessions⟩ := u.emptied_frame (s.ob Obj.schemaVersion)
  generalize u.emptied (s.ob Obj.schemaVersion) = t at frame sessions
  have obj : t.obj = u.obj := by rw [frame]
  have upd : t.upd = u.upd := by rw [frame]
  have ob (k : Nat) : t.ob k = u.ob k := by unfold State.ob; rw [obj]
  have area : t.area 0 = u.area 0 := by unfold State.area; rw [upd]
  have now : u.now = s.now := runs.now
  refine ⟨?_, ?_, ?_, ?_, (ob _).trans runs.state, ?_, fun w mem => (ob _).trans (runs.fields w mem),
    fun j free => (ob j).trans (runs.objects j free), ?_⟩
  · rw [frame, runs.frame]
    rfl
  · rw [sessions, schema, list]
    by_cases same : s.header 0 20 2 = s.ob Obj.schemaVersion
    · rw [if_pos same, if_pos same.symm]
    · rw [if_neg same, if_neg (Ne.symm same)]
  · rw [upd, runs.upd]
    rfl
  · rw [area]
    exact runs.activated
  · exact (congrArg (bitAt · 1) (ob _)).trans runs.unconfirmed
  · unfold Raised
    rw [show t.fab = u.fab by rw [frame], runs.fab]
    exact told

theorem MastRuns.now {s t : State} (r : s.MastRuns t) : t.now = s.now := by rw [r.frame]; rfl
theorem MastRuns.cfg {s t : State} (r : s.MastRuns t) : t.cfg = s.cfg := by rw [r.frame]
theorem MastRuns.schemaVersion {s t : State} (r : s.MastRuns t) : t.ob Obj.schemaVersion = s.header 0 20 2 :=
  r.fields (Obj.schemaVersion, 20, 2) (by decide)
theorem MastRuns.configSchema {s t : State} (r : s.MastRuns t) : t.ob Obj.configSchema = s.ob Obj.configSchema :=
  r.objects _ (by decide)

/-! ## The end of the pause (R442) -/

/-- The heartbeat that fell due in the pause waits one more time. -/
def paused (s : State) : State :=
  if s.heartbeatDue then { s with hb := { s.hb with notBefore := s.now + ms (s.cf Obj.hbTimeout) } } else s

theorem paused_frame (s : State) : s.paused = { s with hb := s.paused.hb } := by
  unfold paused
  split <;> rfl

/-- `t` is `s` with its MAST activation at its end. -/
structure Closes (s t : State) : Prop where
  frame : t = { s with upd := t.upd, obj := t.obj, fab := t.fab, pw := t.pw, hb := t.hb }
  upd : t.upd = { s.upd with accepted := none, record := 0 }
  state : t.ob Obj.updState = 0
  told : t.Raised s.now 1205 2
  events : s.fab.inFlight ⊆ t.fab.inFlight
  objects : s.ObjectsBut t (Obj.updState :: voteObjects)

theorem activated_closes (s : State) : s.Closes (s.paused.activated 2) := by
  have frame := s.paused_frame
  have ends := activated_ends s.paused 2
  generalize s.paused = u at frame ends
  generalize u.activated 2 = t at ends
  have now : u.now = s.now := by rw [frame]; rfl
  have telling := ends.told
  rw [now] at telling
  refine ⟨by rw [ends.frame, frame], by rw [ends.upd, frame], ends.state, telling, ?_, fun j free => (ends.objects j free).trans ?_⟩
  · have events := ends.events
    rwa [show u.fab = s.fab by rw [frame]] at events
  · unfold State.ob
    rw [show u.obj = s.obj by rw [frame]]

theorem Closes.ob {s t : State} (h : s.Closes t) {k : Nat} (free : k ∉ Obj.updState :: voteObjects) : t.ob k = s.ob k :=
  h.objects k free

theorem mastActivation_eq {failures : Fin 3} {failing : Option (BitVec 24)} {s : State} (taken : s.upd.accepted = some 2)
    (applied : s.applied = true) (durable : s.commits = []) (between : s.sweepsRun = false ∨ s.eng.segment = 0)
    (copied : failures.val ≠ 2) : exec (.mastActivation failures failing) s =
      .next ((s.mastRuns.migrates (failing.map (fun k => k.toNat))).paused.activated 2) := by
  show execMastActivation failures failing s = _
  unfold execMastActivation
  rw [mayActivate_some taken (by decide) applied durable between]
  refine congrArg Host.Outcome.next ((if_neg copied).trans ?_)
  rw [runImages_one _ (show kindsOf 2 = [2] by decide)]
  rfl

/-! ## A configuration that the runtime commits itself (R447) -/

theorem runtimeCommits_stands (s : State) (cfg : Regs) (n : Nat) : (s.runtimeCommits cfg n).roots = s.roots ∧
    (s.runtimeCommits cfg n).cfg = cfg ∧
    (s.runtimeCommits cfg n).ob Obj.commitGeneration = (s.ob Obj.commitGeneration + 1) % 2 ^ 32 ∧
    ∀ k < 3, ((s.runtimeCommits cfg n).copyOf k).regs = cfg ∧ ((s.runtimeCommits cfg n).copyOf k).intact = true := by
  unfold runtimeCommits
  extract_lets old gen s1 s2
  have taken : s1.roots = s.roots := roots_takeConfig ..
  have takes : s1.conf = ({ s with cfg := cfg } : State).conf := s.takeConfig_conf cfg 0 0
  clear_value s1
  have copies (k : Nat) (small : k < 3) : s2.copyOf k = { generation := gen, intact := true, regs := cfg } :=
    copyOf_writeCopies s1 gen cfg small
  have stored : s2.roots = s1.roots := by
    refine (roots_setOb _ _ (by decide) (by decide)).trans ?_
    unfold writeCopies
    exact (roots_forRange _ _ _ fun t k => by simp (disch := omega) [Obj.cfgGen]).trans (roots_of_fields rfl rfl rfl)
  have force : s2.cfg = s1.cfg := by
    have same : s2.conf.1 = s1.conf.1 := by
      show (((s1.writeCopies gen cfg).setOb Obj.commitGeneration gen).conf).1 = _
      rw [setOb_conf, writeCopies_eq]
      rfl
    exact same
  have count : s2.ob Obj.commitGeneration = gen := ob_setOb_same ..
  generalize { s2.newRecord 10 s2.now with old := old, new := gen, cmdr := 10, cmdrAux := 0, detail := n % 2 ^ 16 } = r
  clear_value s2
  have conf : (s2.record r).conf = s2.conf := State.record_conf s2 r
  have kept (k : Nat) : (s2.record r).copyOf k = s2.copyOf k := copyOf_of_copies (congrArg (fun c => c.2.1) conf) k
  refine ⟨(roots_record s2 r).trans (stored.trans taken), ?_, (ob_record s2 r (by decide)).trans count, fun k small => ?_⟩
  · exact (congrArg (fun c => c.1) conf).trans (force.trans (congrArg (fun c => c.1) takes))
  · rw [kept, copies k small]
    exact ⟨rfl, rfl⟩

end State
end Sys2Proof.Machine

/-!
Migration of the configuration (R447), and the settling of O58.
-/

namespace Sys2Proof.Machine
namespace State

/-! ## The branches of a migration (R447) -/

/-- The keep area holds the configuration in force, with its schema. -/
def keeping (s : State) : State :=
  ({ s with upd := { s.upd with keep := some s.cfg } } : State).setOb Obj.keepSchema (s.ob Obj.configSchema)

/-- A translated configuration committed by the runtime, with EV1208. -/
def migrationCommits (s : State) (n : Nat) : State :=
  (((s.keeping.runtimeCommits s.translated n).setOb Obj.migrateState 1).setOb Obj.configSchema (s.ob Obj.schemaVersion)).post 1208
    (s.ob Obj.configSchema * 2 ^ 16 + s.ob Obj.schemaVersion)

/-- A translated configuration that object `k` refuses waits for a commit, with EV1209. -/
def migrationWaits (s : State) (k : Nat) : State :=
  ((({ s.keeping with upd := { s.keeping.upd with migrated := some s.translated } } : State).setOb Obj.migrateState 3).setOb
    Obj.migrateFailObject k).post 1209 k

theorem migrates_same {s : State} (same : s.ob Obj.configSchema = s.ob Obj.schemaVersion) (failing : Option Nat) :
    s.migrates failing = s := if_pos same

theorem migrates_later {s : State} (later : s.ob Obj.configSchema < s.ob Obj.schemaVersion) (failing : Option Nat) :
    (failing = none ∧ ∃ n, s.migrates failing = s.migrationCommits n) ∨
      ∃ k, (∀ j, failing = some j → k = j) ∧ s.migrates failing = s.migrationWaits k := by
  have enters : s.migrates failing = (match (match failing with
        | some k => some k
        | none => (s.keeping.failObject s.translated).map objectOfKey) with
      | none => s.migrationCommits (changedKeys s.keeping.cfg s.translated).length
      | some k => s.migrationWaits k) :=
    (if_neg (Nat.ne_of_lt later)).trans (if_pos later)
  cases failing with
  | some k => exact .inr ⟨k, fun j is => Option.some.inj is, enters⟩
  | none =>
    cases bad : (s.keeping.failObject s.translated).map objectOfKey with
    | none =>
      rw [bad] at enters
      exact .inl ⟨rfl, _, enters⟩
    | some k =>
      rw [bad] at enters
      exact .inr ⟨k, fun j is => absurd is (by simp), enters⟩

theorem migrates_back {s : State} (earlier : s.ob Obj.schemaVersion < s.ob Obj.configSchema) {r : Regs} (keep : s.upd.keep = some r)
    (failing : Option Nat) : ∃ n, s.migrates failing =
      ((s.runtimeCommits r n).setOb Obj.migrateState 2).setOb Obj.configSchema (s.ob Obj.schemaVersion) := by
  refine ⟨(changedKeys s.cfg r).length, (if_neg (Nat.ne_of_gt earlier)).trans ((if_neg (Nat.not_lt.mpr earlier.le)).trans ?_)⟩
  rw [keep]

theorem migrates_bare {s : State} (earlier : s.ob Obj.schemaVersion < s.ob Obj.configSchema) (keep : s.upd.keep = none)
    (failing : Option Nat) : s.migrates failing = s := by
  refine (if_neg (Nat.ne_of_gt earlier)).trans ((if_neg (Nat.not_lt.mpr earlier.le)).trans ?_)
  rw [keep]

/-! ## What each branch leaves and shows -/

/-- A migration that is committed. -/
structure Migrated (s t : State) : Prop where
  tb : t.tb = s.tb
  upd : t.upd = { s.upd with keep := some s.cfg }
  keep : t.ob Obj.keepSchema = s.ob Obj.configSchema
  state : t.ob Obj.migrateState = 1
  schema : t.ob Obj.configSchema = s.ob Obj.schemaVersion
  cfg : t.cfg = s.translated
  told : t.Raised s.now 1208 (s.ob Obj.configSchema * 2 ^ 16 + s.ob Obj.schemaVersion)
  generation : t.ob Obj.commitGeneration = (s.ob Obj.commitGeneration + 1) % 2 ^ 32
  copies : ∀ k < 3, (t.copyOf k).regs = s.translated ∧ (t.copyOf k).intact = true

theorem keeping_roots (s : State) :
    s.keeping.roots = (s.tb, { s.upd with keep := some s.cfg }, s.ob Obj.configSchema, s.ob Obj.unitAddress) := by
  have keep : s.keeping.ob Obj.keepSchema = s.ob Obj.configSchema := ob_setOb_same ..
  have address : s.keeping.ob Obj.unitAddress = s.ob Obj.unitAddress := ob_setOb_other _ _ (by decide)
  unfold roots
  rw [keep, address]
  rfl

theorem migrationCommits_migrated (s : State) (n : Nat) : s.Migrated (s.migrationCommits n) := by
  obtain ⟨stands, force, count, copies⟩ := s.keeping.runtimeCommits_stands s.translated n
  have before : s.keeping.ob Obj.commitGeneration = s.ob Obj.commitGeneration := ob_setOb_other _ _ (by decide)
  rw [keeping_roots] at stands
  rw [before] at count
  unfold migrationCommits
  generalize s.keeping.runtimeCommits s.translated n = u at stands force count copies
  have tb : u.tb = s.tb := congrArg (fun r => r.1) stands
  have upd : u.upd = { s.upd with keep := some s.cfg } := congrArg (fun r => r.2.1) stands
  have keep : u.ob Obj.keepSchema = s.ob Obj.configSchema := congrArg (fun r => r.2.2.1) stands
  have told := raised_post ((u.setOb Obj.migrateState 1).setOb Obj.configSchema (s.ob Obj.schemaVersion)) 1208
    (s.ob Obj.configSchema * 2 ^ 16 + s.ob Obj.schemaVersion)
  have now : ((u.setOb Obj.migrateState 1).setOb Obj.configSchema (s.ob Obj.schemaVersion)).now = s.now :=
    congrArg TimeBase.count tb
  rw [now] at told
  have free {k : Nat} (state : Obj.migrateState ≠ k) (schema : Obj.configSchema ≠ k) :
      (((u.setOb Obj.migrateState 1).setOb Obj.configSchema (s.ob Obj.schemaVersion)).post 1208
        (s.ob Obj.configSchema * 2 ^ 16 + s.ob Obj.schemaVersion)).ob k = u.ob k :=
    (ob_post ..).trans ((ob_setOb_other _ _ schema).trans (ob_setOb_other _ _ state))
  exact ⟨tb, upd, (free (by decide) (by decide)).trans keep,
    (ob_post ..).trans ((ob_setOb_other _ _ (by decide)).trans (ob_setOb_same ..)), (ob_post ..).trans (ob_setOb_same ..), force, told,
    (free (by decide) (by decide)).trans count, copies⟩

/-- A migration that waits. -/
structure Waits (s t : State) (k : Nat) : Prop where
  frame : t = { s with upd := t.upd, obj := t.obj, fab := t.fab }
  upd : t.upd = { s.upd with keep := some s.cfg, migrated := some s.translated }
  keep : t.ob Obj.keepSchema = s.ob Obj.configSchema
  state : t.ob Obj.migrateState = 3
  schema : t.ob Obj.configSchema = s.ob Obj.configSchema
  object : t.ob Obj.migrateFailObject = k
  told : t.Raised s.now 1209 k

theorem migrationWaits_waits (s : State) (k : Nat) : s.Waits (s.migrationWaits k) k := by
  have keep : s.keeping.ob Obj.keepSchema = s.ob Obj.configSchema := ob_setOb_same ..
  have schema : s.keeping.ob Obj.configSchema = s.ob Obj.configSchema := ob_setOb_other _ _ (by decide)
  have frame : s.keeping = { s with upd := { s.upd with keep := some s.cfg }, obj := s.keeping.obj } := rfl
  unfold migrationWaits
  generalize s.keeping = u at keep schema frame
  have ob (j : Nat) : ({ u with upd := { u.upd with migrated := some s.translated } } : State).ob j = u.ob j := rfl
  have told := raised_post ((({ u with upd := { u.upd with migrated := some s.translated } } : State).setOb Obj.migrateState 3).setOb
    Obj.migrateFailObject k) 1209 k
  have now : u.now = s.now := by rw [frame]; rfl
  have upd : u.upd = { s.upd with keep := some s.cfg } := by rw [frame]
  refine ⟨?_, ?_, ?_, ?_, ?_, (ob_post ..).trans (ob_setOb_same ..), now ▸ told⟩
  · rw [frame]
    rfl
  · show { u.upd with migrated := some s.translated } = _
    rw [upd]
  · rw [ob_post, ob_setOb_other _ _ (by decide), ob_setOb_other _ _ (by decide), ob, keep]
  · rw [ob_post, ob_setOb_other _ _ (by decide), ob_setOb_same]
  · rw [ob_post, ob_setOb_other _ _ (by decide), ob_setOb_other _ _ (by decide), ob, schema]

/-- The kept configuration back in force. -/
structure Back (s t : State) (r : Regs) : Prop where
  tb : t.tb = s.tb
  upd : t.upd = s.upd
  state : t.ob Obj.migrateState = 2
  schema : t.ob Obj.configSchema = s.ob Obj.schemaVersion
  cfg : t.cfg = r
  copies : ∀ k < 3, (t.copyOf k).regs = r ∧ (t.copyOf k).intact = true

theorem migrates_back_stands {s : State} (earlier : s.ob Obj.schemaVersion < s.ob Obj.configSchema) {r : Regs}
    (keep : s.upd.keep = some r) (failing : Option Nat) : s.Back (s.migrates failing) r := by
  obtain ⟨n, is⟩ := migrates_back earlier keep failing
  obtain ⟨stands, force, -, copies⟩ := s.runtimeCommits_stands r n
  rw [is]
  generalize s.runtimeCommits r n = u at stands force copies
  exact ⟨congrArg (fun r => r.1) stands, congrArg (fun r => r.2.1) stands, (ob_setOb_other _ _ (by decide)).trans (ob_setOb_same ..),
    ob_setOb_same .., force, copies⟩

/-- No migration moves the timebase or the areas. -/
theorem migrates_keeps (s : State) (failing : Option Nat) :
    (s.migrates failing).now = s.now ∧ (s.migrates failing).upd.areas = s.upd.areas := by
  rcases Nat.lt_trichotomy (s.ob Obj.configSchema) (s.ob Obj.schemaVersion) with later | same | earlier
  · rcases migrates_later later failing with ⟨-, n, is⟩ | ⟨k, -, is⟩
    · have stands := migrationCommits_migrated s n
      rw [is]
      exact ⟨congrArg TimeBase.count stands.tb, by rw [stands.upd]⟩
    · have stands := migrationWaits_waits s k
      rw [is]
      refine ⟨?_, by rw [stands.upd]⟩
      rw [stands.frame]
      rfl
  · rw [migrates_same same]
    exact ⟨rfl, rfl⟩
  · cases keep : s.upd.keep with
    | none =>
      rw [migrates_bare earlier keep]
      exact ⟨rfl, rfl⟩
    | some r =>
      have stands := migrates_back_stands earlier keep failing
      exact ⟨congrArg TimeBase.count stands.tb, congrArg Update.areas stands.upd⟩

end State
end Sys2Proof.Machine

/-!
The MAST activation as a whole (R442, R447), and O58.
-/

namespace Sys2Proof.Machine
namespace State

/-! ## MAST activations (R442, R447) -/

/-- The configuration translated from schema `c` to schema `v`. -/
def translation (c v : Nat) (cfg : Regs) : Regs :=
  (Config.migrate c v cfg).foldl (fun r e => r.write (objDefault e.1) e.1 e.2) []

theorem MastRuns.translated {s t : State} (r : s.MastRuns t) :
    t.translated = translation (s.ob Obj.configSchema) (s.header 0 20 2) s.cfg := by
  unfold State.translated translation
  rw [r.configSchema, r.schemaVersion, r.cfg]

section
variable {s u t : State} (runs : s.MastRuns u) {failing : Option Nat} (closes : (u.migrates failing).Closes t)
include runs closes

/-- What every MAST activation that does not restart leaves. -/
theorem mast_always : t.ob Obj.updState = 0 ∧ t.upd.accepted = none ∧ t.upd.record = 0 ∧ (t.area 0).activated = true ∧
    t.Raised s.now 1205 2 := by
  obtain ⟨now, areas⟩ := u.migrates_keeps failing
  have told := closes.told
  rw [now, runs.now] at told
  refine ⟨closes.state, by rw [closes.upd], by rw [closes.upd], ?_, told⟩
  have area : t.area 0 = u.area 0 := by
    unfold State.area
    rw [closes.upd, areas]
  rw [area]
  exact runs.activated

/-- The schema stands: nothing but the image. -/
theorem mast_same (same : s.ob Obj.configSchema = s.header 0 20 2) : t.ob (Obj.areaState 0) = 3 ∧ t.bit Obj.unconfirmed 1 = true ∧
    t.Raised s.now 1204 2 ∧
    (∀ w ∈ [(Obj.mastVersion, 8, 4), (Obj.compatEpoch, 16, 2), (Obj.schemaVersion, 20, 2), (Obj.migrateFrom, 22, 2),
      (Obj.hoistMin, 24, 4), (Obj.nodeMin, 28, 4)], t.ob w.1 = s.header 0 w.2.1 w.2.2) ∧
    t.sessions = (if s.ob Obj.schemaVersion = s.header 0 20 2 then s.sessions else s.sessions.map (fun x => { x with pendingSet := [] })) ∧
    t = { s with upd := t.upd, obj := t.obj, fab := t.fab, pw := t.pw, hb := t.hb, sessions := t.sessions } := by
  rw [migrates_same (by rw [runs.configSchema, runs.schemaVersion, same])] at closes
  have apart : ∀ w ∈ imageFields 2, w.1 ∉ Obj.updState :: voteObjects := by decide
  refine ⟨(closes.ob (by decide)).trans runs.state, (congrArg (bitAt · 1) (closes.ob (by decide))).trans runs.unconfirmed,
    closes.events runs.told, fun w mem => (closes.ob (apart w mem)).trans (runs.fields w mem), ?_, ?_⟩
  · rw [show t.sessions = u.sessions by rw [closes.frame]]
    exact runs.sessions
  · rw [closes.frame, runs.frame]

/-- A later schema: the configuration migrates, or waits. -/
theorem mast_later (later : s.ob Obj.configSchema < s.header 0 20 2) : t.upd.keep = some s.cfg ∧
    t.ob Obj.keepSchema = s.ob Obj.configSchema ∧
    ((t.ob Obj.migrateState = 1 ∧ failing = none ∧ t.ob Obj.configSchema = s.header 0 20 2 ∧
        t.cfg = translation (s.ob Obj.configSchema) (s.header 0 20 2) s.cfg ∧
        t.Raised s.now 1208 (s.ob Obj.configSchema * 2 ^ 16 + s.header 0 20 2) ∧
        t.ob Obj.commitGeneration = (s.ob Obj.commitGeneration + 1) % 2 ^ 32 ∧
        ∀ k < 3, (t.copyOf k).regs = translation (s.ob Obj.configSchema) (s.header 0 20 2) s.cfg ∧ (t.copyOf k).intact = true) ∨
      (t.ob Obj.migrateState = 3 ∧ t.cfg = s.cfg ∧ t.ft = s.ft ∧
        t.upd.migrated = some (translation (s.ob Obj.configSchema) (s.header 0 20 2) s.cfg) ∧
        t.ob Obj.configSchema = s.ob Obj.configSchema ∧ t.own = s.own ∧ t.Raised s.now 1209 (t.ob Obj.migrateFailObject) ∧
        ∀ k, failing = some k → t.ob Obj.migrateFailObject = k)) := by
  have configSchema := runs.configSchema
  have schemaVersion := runs.schemaVersion
  have translated := runs.translated
  rcases migrates_later (s := u) (by rw [configSchema, schemaVersion]; exact later) failing with ⟨none_, n, is⟩ | ⟨k, named, is⟩
  · have stands := migrationCommits_migrated u n
    rw [is] at closes
    generalize u.migrationCommits n = w at closes stands
    have told := stands.told
    have copies := stands.copies
    have cfg := stands.cfg
    have keep := stands.keep
    rw [configSchema, schemaVersion, runs.now] at told
    rw [translated] at copies cfg
    rw [configSchema] at keep
    have ft : t.ft = w.ft := by rw [closes.frame]
    refine ⟨?_, (closes.ob (by decide)).trans keep, .inl ⟨(closes.ob (by decide)).trans stands.state, none_,
      (closes.ob (by decide)).trans (stands.schema.trans schemaVersion), ?_, closes.events told,
      (closes.ob (by decide)).trans (stands.generation.trans ?_), fun k small => ?_⟩⟩
    · rw [closes.upd, stands.upd, runs.cfg]
    · rw [show t.cfg = w.cfg by rw [closes.frame]]
      exact cfg
    · rw [runs.objects _ (by decide)]
    · rw [copyOf_of_copies (s := w) (by rw [ft]) k]
      exact copies k small
  · have stands := migrationWaits_waits u k
    rw [is] at closes
    generalize u.migrationWaits k = w at closes stands
    have told := stands.told
    have keep := stands.keep
    have object : t.ob Obj.migrateFailObject = k := (closes.ob (by decide)).trans stands.object
    rw [runs.now] at told
    rw [configSchema] at keep
    refine ⟨?_, (closes.ob (by decide)).trans keep, .inr ⟨(closes.ob (by decide)).trans stands.state, ?_, ?_, ?_,
      (closes.ob (by decide)).trans (stands.schema.trans configSchema), ?_, ?_, fun j is => object.trans (named j is)⟩⟩
    · rw [closes.upd, stands.upd, runs.cfg]
    · rw [closes.frame, stands.frame, runs.frame]
    · rw [closes.frame, stands.frame, runs.frame]
    · rw [closes.upd, stands.upd, translated]
    · rw [closes.frame, stands.frame, runs.frame]
    · rw [object]
      exact closes.events told

/-- The kept schema: its configuration comes back. -/
theorem mast_back {r : Regs} (earlier : s.header 0 20 2 < s.ob Obj.configSchema) (keep : s.upd.keep = some r) :
    t.ob Obj.migrateState = 2 ∧ t.ob Obj.configSchema = s.header 0 20 2 ∧ t.cfg = r ∧
      ∀ k < 3, (t.copyOf k).regs = r ∧ (t.copyOf k).intact = true := by
  have stands := migrates_back_stands (s := u) (by rw [runs.configSchema, runs.schemaVersion]; exact earlier)
    (show u.upd.keep = some r by rw [runs.upd]; exact keep) failing
  generalize u.migrates failing = w at closes stands
  have ft : t.ft = w.ft := by rw [closes.frame]
  refine ⟨(closes.ob (by decide)).trans stands.state, (closes.ob (by decide)).trans (stands.schema.trans runs.schemaVersion), ?_,
    fun k small => ?_⟩
  · rw [show t.cfg = w.cfg by rw [closes.frame]]
    exact stands.cfg
  · rw [copyOf_of_copies (s := w) (by rw [ft]) k]
    exact stands.copies k small

end
end State

open State in
/-- Settles O58: the requests by the cause that stands, the activations by the image that runs now and its migration, those that restart
by what a restart keeps, and the distributions port by port. -/
theorem activationsDoAsStated : Obligations.ActivationsDoAsStated := by
  refine ⟨⟨fun h v s x sv => ?_, fun failures failing s taken applied durable between => ?_, fun s applied durable between => ⟨?_, ?_⟩,
    fun s none_ => activation_idle none_⟩, fun h ports s x c mem is => ?_, fun p updated s running port => ?_,
    fun p i s running port known => nodeImageSwitch_switches running port known⟩
  · have cause := activateCause_eq s v.toNat
    dsimp only
    rw [← cause]
    exact ⟨updActivate_reserved sv, updActivate_refused sv, updActivate_accepted sv⟩
  · refine ⟨fun twice => mastActivation_restarts applied durable between taken twice, fun copied => ?_⟩
    have runs := s.mastRuns_runs
    have closes := activated_closes (s.mastRuns.migrates (failing.map (fun k => k.toNat)))
    obtain ⟨state, accepted, record, activated, told⟩ := mast_always runs closes
    refine ⟨_, mastActivation_eq taken applied durable between copied, state, accepted, record, activated, told, mast_same runs closes,
      fun later => ?_, fun r earlier keep => mast_back runs closes earlier keep⟩
    obtain ⟨keep, schema, branch⟩ := mast_later runs closes later
    refine ⟨keep, schema, branch.imp (fun done => ?_) (fun waits => ?_)⟩
    · obtain ⟨migrated, none_, rest⟩ := done
      exact ⟨migrated, Option.map_eq_none_iff.mp none_, rest⟩
    · obtain ⟨state, cfg, ft, left, shown, own, event, named⟩ := waits
      exact ⟨state, cfg, ft, left, shown, own, event, fun k is => named k.toNat (by rw [is]; rfl)⟩
  · exact ensignActivation_activates applied durable between
  · exact fun set mem taken => updateRestart_restarts applied durable between mem taken
  · simp only [List.mem_cons, List.not_mem_nil, or_false] at mem
    rcases mem with rfl | rfl
    · obtain ⟨taken, applied, durable, between⟩ := is
      obtain ⟨t, done, state, frame, shown, spread⟩ := nodeActivation_distributes taken applied durable between
      exact ⟨t, done, state, frame, fun _ => shown, spread⟩
    · obtain ⟨t, done, state, frame, spread⟩ := updNodeRun_distributes (ports := ports) is
      exact ⟨t, done, state, frame, fun no => (nomatch no), spread⟩
  · obtain ⟨t, done, passed⟩ := nodeDistributionPass_passes (updated := updated) running port
    exact ⟨t, done, passed.updated, passed.left, passed.frame, passed.others, passed.done, passed.last, passed.next⟩

end Sys2Proof.Machine
